-- ==== Sys2Proof/Word.lean ====
section
/-!
DEFINITION. The words of the block: bytes, byte strings and their little-endian numbers (spec R5),
and the small integer types the spec counts in.
-/

namespace Sys2Proof

/-- One byte on a bus, in a buffer or in a record. -/
abbrev Byte := BitVec 8

/-- A byte string in ascending address order. -/
abbrev Bytes := List Byte

/-- The byte `n mod 256`. -/
def byteOf (n : Nat) : Byte := BitVec.ofNat 8 n

/-- `n` as `k` bytes, least significant byte first (R5). -/
def leBytes : Nat → Nat → Bytes
  | 0, _ => []
  | k + 1, n => byteOf (n % 256) :: leBytes k (n / 256)

/-- The number a little-endian byte string spells (R5). -/
def leNat : Bytes → Nat
  | [] => 0
  | b :: bs => b.toNat + 256 * leNat bs

/-- `n` as `k` bytes, most significant byte first (R6). -/
def beBytes (k n : Nat) : Bytes := (leBytes k n).reverse

/-- `k` bytes from position `i` of a string; bytes past its end read 0x00. -/
def sliceBytes (bs : Bytes) (i k : Nat) : Bytes :=
  let part := (bs.drop i).take k
  part ++ List.replicate (k - part.length) 0#8

/-- The unsigned little-endian integer in `k` bytes from position `i`. -/
def fieldAt (bs : Bytes) (i k : Nat) : Nat := leNat (sliceBytes bs i k)

/-- Bit `i` of a number. -/
def bitAt (n i : Nat) : Bool := n.testBit i

/-- `n` with bit `i` set. -/
def setBit (n i : Nat) : Nat := n ||| (2 ^ i)

/-- `n` with bit `i` cleared. -/
def clearBit (n i : Nat) : Nat := if n.testBit i then n - 2 ^ i else n

/-- `n` with bit `i` set to `b`. -/
def putBit (n i : Nat) (b : Bool) : Nat := if b then setBit n i else clearBit n i

/-- The two's-complement integer held in `k` bytes. -/
def toSigned (k n : Nat) : Int :=
  if n < 2 ^ (8 * k - 1) then (n : Int) else (n : Int) - (2 : Int) ^ (8 * k)

/-- A signed integer as the number its `k` two's-complement bytes spell. -/
def ofSigned (k : Nat) (i : Int) : Nat := (i % (2 : Int) ^ (8 * k)).toNat

/-- A count limited to `k` bytes, saturating (R151). -/
def satBytes (k n : Nat) : Nat := min n (2 ^ (8 * k) - 1)

end Sys2Proof
end

