-- ==== Sys2Proof/Syntax.lean ====
section
/-!
DEFINITION. The commands of the block: one constructor for each row of spec/opcode_table.json,
with the operands that the spec's text gives the operation or event. A quantity that the part
measures (a reading, a level, an interpolator position) is an operand of the event that reports it.
-/

namespace Sys2Proof

/-- Where a request enters: the host-port mailbox or one of the two field ports (R13, R263). -/
inductive Via where
  | host
  | portA
  | portB
deriving DecidableEq, Repr

/-- The two field ports (ch. 06). -/
inductive Port where
  | a
  | b
deriving DecidableEq, Repr

/-- The two directions of R8. -/
inductive Dir where
  | ul
  | dl
deriving DecidableEq, Repr

/-- The cores that the Cellarmaster's watchdogs guard (R24, R25). -/
inductive CoreId where
  | press
  | vintner
  | cork
deriving DecidableEq, Repr

/-- The Vintner or the Cork, whose watchdog expiry R25 answers. -/
inductive SideCore where
  | vintner
  | cork
deriving DecidableEq, Repr

/-- The 14-byte session trailer of Table 4-7 (tag: the number its 8 bytes spell, R5). -/
structure Trailer where
  sid : BitVec 16
  counter : BitVec 32
  tag : BitVec 64
deriving DecidableEq, Repr

/-- Who sends a request: its entrance, its requester address (0xFFFF for the host port, R263),
the priority and transaction identifier, and the session trailer when Prot is 1. -/
structure ReqCtx where
  via : Via
  src : BitVec 16
  prio : BitVec 3
  tid : Byte
  trailer : Option Trailer
deriving DecidableEq, Repr

/-- One stage holder (R162): a session, by its Session.OpenCount slot, or the host port. -/
inductive StageId where
  | session (slot : Fin 8)
  | host
deriving DecidableEq, Repr

/-- A frame on a field port: identifier, format flags, bit-rate switch, error-state indicator (true: recessive), the res
bit (true: recessive, a protocol exception) and payload (Table 6-1, Table 6-3). -/
structure CanFrame where
  ident : BitVec 29
  extended : Bool
  fd : Bool
  remote : Bool
  brs : Bool
  esi : Bool
  res : Bool
  data : Bytes
deriving DecidableEq, Repr

/-- A Locate Query (Table 6-13). -/
structure LocateQ where
  requester : BitVec 9
  maskBits : Nat
  unassignedOnly : Bool
  pattern : BitVec 64
  window : BitVec 16
deriving DecidableEq, Repr

/-- The two 64-bit register pairs of Table 7-2. -/
inductive WidePair where
  | energy
  | utc
deriving DecidableEq, Repr

/-- What one path publishes at a loop-frame boundary (R396): its pilot measurements in 0.01 dB
and its delay. `counts` says that the frame met the
conditions of R396. -/
structure PathMeas where
  counts : Bool
  singleLoop : Int
  coherentLoop : Int
  singleAboveFloor : Bool
  coherentAboveFloor : Bool
  delayNs : BitVec 32
deriving DecidableEq, Repr

/-- The agent a PMBus transaction serves (R438): a PA lane or a margin channel. -/
inductive PmbAgent where
  | lane (n : Fin 4)
  | margin (m : Fin 4)
deriving DecidableEq, Repr

/-- How a PMBus transaction ended (R436). -/
inductive PmbEnd where
  | ok (data : BitVec 16)
  | nack
  | pecMismatch
  | stretchTimeout
  | cml
deriving DecidableEq, Repr

/-- The polled quantities of R437. -/
inductive PollKind where
  | pout
  | status
  | telemetry
  | start
deriving DecidableEq, Repr

/-- A switch of the host-port cells (R46): to VDD_AON or to VDDIO_A, with HOST_CS_N low or high at that instant (R49). -/
structure CellSwitch where
  toAon : Bool
  csLow : Bool
deriving DecidableEq, Repr

/-- The two hint windows (Table 12-10). -/
inductive HintId where
  | harvest
  | push
deriving DecidableEq, Repr

/-- Why a Jensiac frame is discarded (R631). -/
inductive BadFrame where
  | crc
  | reservedType
  | sequence (seq : BitVec 16)
deriving DecidableEq, Repr

/-- Departing causes of Table 17-3. -/
inductive DepartCause where
  | holdup
  | dormant
  | restart
  | pressWatchdog
  | demotion
deriving DecidableEq, Repr

/-- The commands, one constructor per row of spec/opcode_table.json. -/
inductive Instr where
  -- power supply, power states and clocks (ch. 02, 03)
  | vddAonRise
  | brownOut
  | vddioALevelSelect (above25 : Bool)
  | hostCellSupplySwitch (toAon : CellSwitch)
  | rstNLow
  | powerOnAutostart
  | holdupRestartDelayExpiry
  | restartDelayExpiry
  | wakeTimerExpiry
  | fieldPortWake (p : Port)
  | requestDormant (r : ReqCtx)
  | requestStandby (r : ReqCtx)
  | requestActive (r : ReqCtx)
  | requestService (r : ReqCtx)
  | requestRestart (r : ReqCtx)
  | serviceTimeout
  | feedCollapseReport
  | holdupComplete
  | refInFirstPresent
  | refInLoss
  | refInReturn
  | linkHoldoverExpiry
  | samplePllUnlock (status : BitVec 32)
  | samplePllRelock
  | lockDeclared (window1 window2 : Nat)
  | clockMuxToPll
  | relockTimeout (lastCount : Nat)
  | relockRetry
  | droopStretch
  | stretchRelease
  | stretchLong (s00mV : BitVec 16)
  | agingTrim (growth : BitVec 16)
  -- watchdogs, boot, lifecycle, sessions, debug (ch. 03, 04)
  | pressWatchdogExpiry
  | coreWatchdogExpiry (c : SideCore)
  | lockstepMismatch (cycle signals : BitVec 32)
  | lockstepRecovery
  | secureBoot (roleTagFails : BitVec 4) (otherTagFails : BitVec 2)
  | configBootLoad (crcA crcB : Bool)
  | bundleConfirm
  | revokeSlot0 (r : ReqCtx)
  | lifecycleConfirm (r : ReqCtx) (value : BitVec 16)
  | lifecycleRequest (r : ReqCtx) (target : Byte)
  | lifecycleTransition
  | roleKeyWrite (r : ReqCtx) (which : Fin 5) (key : Bytes)
  | sessionOpen (r : ReqCtx) (role version : Byte) (peer : BitVec 16) (nc : BitVec 128)
  | sessionConfirm (r : ReqCtx) (sid : BitVec 16) (tagC : BitVec 128)
  | handshakeTimeout (slot : Fin 8)
  | roleLockoutExpiry (role : Fin 4)
  | sessionIdleTimeout (slot : Fin 8)
  | sessionLifetimeExpiry (slot : Fin 8)
  | debugRequest (r : ReqCtx) (level : Byte)
  | debugToken (r : ReqCtx) (token : Bytes)
  | debugChallengeRead (r : ReqCtx)
  | debugTimeout
  | idcode
  | bypass (tdi : Bool)
  | samplePreload
  | extest (cells : BitVec 64)
  | entropyFail
  | entropyRetest (pass : Bool)
  | receiptSigned (inTime : Bool)
  -- dictionary services (ch. 05)
  | read (r : ReqCtx) (index : BitVec 16) (sub : Byte)
  | write (r : ReqCtx) (index : BitVec 16) (sub type : Byte) (value : Bytes)
  | stagedWrite (r : ReqCtx) (index : BitVec 16) (sub type : Byte) (value : Bytes)
  | commit (r : ReqCtx)
  | discard (r : ReqCtx)
  | stageTimeout (who : StageId)
  | configWriteDone (verified : Bool)
  | commitDefer
  | counterWriteback
  | stickyClear (r : ReqCtx) (index : BitVec 16) (sub : Byte) (mask : BitVec 32)
  | stickyClearAll (r : ReqCtx)
  | restoreDefaults (r : ReqCtx)
  | updateBegin (r : ReqCtx) (length : BitVec 32)
  | updateData (r : ReqCtx) (offset total : BitVec 32) (data : Bytes)
  | imageSegmentDone
  | updateVerify (r : ReqCtx)
  | updateVerifyDone (micros : BitVec 32)
  | updateActivate (r : ReqCtx)
  | updateAbort (r : ReqCtx)
  | blockRead (r : ReqCtx) (index : BitVec 16) (sub : Byte) (whole : Bool) (offset : BitVec 32) (maxLen : BitVec 16)
  | blockWrite (r : ReqCtx) (index : BitVec 16) (sub : Byte) (final : Bool) (offset total : BitVec 32) (data : Bytes)
  | blockTimeout (src : BitVec 16) (ofWrite : Bool)
  -- field network (ch. 06)
  | obvarFrameReceive (p : Port) (f : CanFrame)
  | reassemblyTimeout (p : Port) (src : BitVec 9)
  | frameTransmit (p : Port)
  | txLifetimeExpiry (p : Port) (queue : Byte)
  | heartbeat (p : Port)
  | heartbeatReceive (p : Port) (src : BitVec 9)
  | nodeOffline (node : BitVec 9)
  | timeSet (r : ReqCtx) (broadcast : Bool) (utcSeconds : BitVec 64) (micros : BitVec 32) (source : Byte)
  | locateQuery (p : Port) (q : LocateQ)
  | locateReply (acked : Bool)
  | assign (r : ReqCtx) (newAddress : BitVec 16) (serial : BitVec 64) (segA segB : Byte)
  | getStatus (r : ReqCtx)
  | setRoutes (r : ReqCtx) (start count : BitVec 16) (codes : Bytes)
  | setForwarding (r : ReqCtx) (enable : Byte)
  | ping (r : ReqCtx) (hopCount : Byte)
  | busOff (p : Port)
  | busOffHoldoffExpiry (p : Port)
  | busOffWaitReset (p : Port)
  | errorPassive (p : Port)
  | stuckDominant (p : Port)
  | restrictedLong
  -- host port (ch. 07)
  | hostRead (addr : BitVec 16) (len : Nat)
  | hostWrite (addr : BitVec 16) (data : Bytes)
  | badCommand (code : Byte)
  | forensicRead (addr : BitVec 24) (len : Nat)
  | wake (body : Bytes)
  | mailboxGo (length : BitVec 11)
  | mailboxReply
  | mailboxAck
  | hpIrqStatusClear (mask : BitVec 32)
  | hpStickyClear (mask : BitVec 32)
  | loReadLatch (pair : WidePair)
  | hiRead (pair : WidePair)
  | rcvCommit (offset : BitVec 21)
  | rcvVerify (offset : BitVec 21)
  -- queues (ch. 08)
  | queuePost (queue : Byte) (body : Bytes) (derived : Bool)
  | queueTake (queue : Byte)
  | deferTimeout (src : BitVec 16) (tid : Byte)
  | deferLimitExpiry (src : BitVec 16) (tid : Byte)
  | refusalExpiry (p : Port)
  | creditAudit (queue : Byte) (found : Nat)
  | escapeHeld (cls : Fin 8)
  | clearHighWater (r : ReqCtx)
  -- converters and datapath (ch. 09)
  | adcCalibrationDone (conv : Fin 4) (ok : Bool) (stage : Byte)
  | tasteBlockEnd (pair : Dir) (differing : Nat) (largest : BitVec 16)
  | adcOverrange (conv : Fin 4)
  | dcFreezeEnd (conv : Fin 4)
  | elementSaturation (path : Fin 16) (element : Fin 22) (samples : Nat)
  | dacClip (d : Dir)
  | settleEnd (path : Fin 16)
  | syncEdge
  | syncNow (r : ReqCtx)
  | detectorWindowEnd (path : Fin 16) (pmax : BitVec 32) (sum : Nat) (clipped : Bool)
  | envelopeHigh (path : Fin 16) (level : BitVec 16)
  | envelopeLow (path : Fin 16) (level : BitVec 16)
  | fabricPost (path : Fin 16)
  -- band plan and front end (ch. 10)
  | feEntryDone (received : BitVec 32)
  | runInit (r : ReqCtx)
  | lockPoll (d : Dir) (level : Bool)
  | lockTimeout (d : Dir)
  | feSequenceReplay
  | leDetect (d : Dir) (both : Bool)
  | leRelease
  | leMaxHold
  | leGuardEnd
  | leBarEnd (d : Dir)
  -- gain, stability and network protection (ch. 11)
  | loopFrame (d : Dir) (meas : List PathMeas)
  | probeEnd (path : Fin 16) (own partner : PathMeas)
  | probeRetry (path : Fin 16)
  | recheckTimeout (d : Dir)
  | oscBlockEnd (path : Fin 16) (rho : BitVec 16) (envelope : BitVec 16)
  | noiseHoldExpiry (path : Fin 16)
  | commandedShutdown (r : ReqCtx)
  | lockoutExpiry
  | clearLockout (r : ReqCtx)
  -- power amplifiers (ch. 12)
  | pmbusTransactionDone (agent : PmbAgent) (code : Byte) (result : PmbEnd)
  | pmbusPoll (lane : Fin 4) (kind : PollKind)
  | pmbAlert
  | laneStart (lane : Fin 4)
  | laneRegulatorTimeout (lane : Fin 4)
  | laneReady (lane : Fin 4)
  | laneStop (lane : Fin 4)
  | regulatorRestart (lane : Fin 4)
  | pmbFaultStop (lane : Fin 4)
  | paOverrun
  | hintPhase (w : HintId)
  | hkbStart
  | hkbResult (entry : Fin 16) (input : Int)
  | droopClear
  | feedStale
  | laneThermalRestart (lane : Fin 4)
  | dieTrip
  | dieTripClear
  | sealNLow
  | sealLanesSealed
  | sealClear (r : ReqCtx)
  | sealClearTimer
  -- rails (ch. 13)
  | hkaStart
  | hkaReading (slot : Fin 16) (input : Int)
  | railEnable (slot : Fin 16)
  | pgChange (slot : Fin 16) (high : Bool)
  | coresReady (tiuTableOk : Bool)
  | warnLeadExpiry
  | holdupLeadExpiry
  | holdupStepExpiry (slot : Fin 16)
  | railOff (slot : Fin 16)
  | railOffTimeExpiry (slot : Fin 16)
  | retryBackoffExpiry
  | attemptReset
  | clearLatch (r : ReqCtx)
  | marginHigh (r : ReqCtx) (ch : Fin 4)
  | marginLow (r : ReqCtx) (ch : Fin 4)
  | marginNominal (r : ReqCtx) (ch : Fin 4)
  | marginDacStep (ch : Fin 4)
  -- time-interval unit and waterline (ch. 14)
  | tiuArm (r : ReqCtx)
  | tiuCancel (r : ReqCtx)
  | tiuStartEdge (fineStart : BitVec 10)
  | tiuStopEdge (coarse : BitVec 32) (fineStop : BitVec 10)
  | tiuTimeout
  | tiuOverflow
  | tdrBurstStart
  | tdrLaunch
  | tdrComparatorEnable (pastThreshold : Bool)
  | tdrReflection (counts : BitVec 32)
  | tdrStopWindowEnd
  | tdrBurstEnd
  | waterlineStale
  | ovenOkHigh
  | ovenOkLow
  | warmTimerExpiry
  -- lid sense (ch. 15)
  | lidSample (reading : BitVec 32)
  | lidCover
  | lidTrack
  | lidRetakeDone
  | lidRebaseline (r : ReqCtx)
  | lidBaselineStore
  | lidStartCheck
  | lidFault
  | lidFaultResume
  -- Cask and Vintage (ch. 16)
  | caskRecordCommit (firstOk secondOk : Bool)
  | floodTokenRefill (code : BitVec 16)
  | caskStartScan
  | vintageProgramDone (ok : Bool)
  | caskClear (r : ReqCtx)
  -- twin operation (ch. 17)
  | twinSelChange (high : Bool)
  | helloReceive (seq : BitVec 16) (serial expected : BitVec 64) (nonce : BitVec 128) (preferred sel : Bool)
  | confirmReceive (seq : BitVec 16) (tag : BitVec 128)
  | twinHeartbeatReceive (seq : BitVec 16) (payload : Bytes)
  | jensiacBadFrame (why : BadFrame)
  | departingReceive (seq : BitVec 16) (cause : DepartCause) (generation : BitVec 32)
  | imageChunkReceive (seq : BitVec 16) (generation : BitVec 32) (offset : BitVec 16) (data : Bytes)
  | imageEndReceive (seq : BitVec 16) (generation : BitVec 32) (length : BitVec 16)
  | handover (r : ReqCtx)
  | handoverRequestReceive (seq : BitVec 16) (generation : BitVec 32)
  | handoverAcceptReceive (seq : BitVec 16) (generation : BitVec 32)
  -- rows at the end of the table
  | busIntegration (p : Port)
  | stuckDominantRejoin (p : Port)
  | debugHalt (c : CoreId)
  | debugResume (c : CoreId)
  | samplePllLock
  | caskClearDone
  | linkCharactersAppear
  -- commands of ch. 17 without operands (placed last: evaluation takes operands up to the 245th constructor only)
  | hello
  | twinHeartbeat
  | twinLinkDown
  | rackCapture
  | startWaitExpiry
  | claimIntervalExpiry
  | relayTimeExpiry
  | handoverTimeout
  | authFailRestart
  | relayLostDemotion
deriving DecidableEq, Repr

end Sys2Proof
end

