-- ==== Sys2Proof/Decode.lean ====
section
/-!
DEFINITION. The words of the table: spec/opcode_table.json gives bits to no row (the commands are operations and
events, not coded words), so no word spells a command (log entry 7).
-/

namespace Sys2Proof

/-- The command that a word of the table spells: none, since no row has bits. -/
def decodeTableWord (nbits w : Nat) : Option Instr :=
  match nbits, w with
  | _, _ => none

end Sys2Proof
end

