-- ==== Sys2Proof/Config.lean ====
section
/-!
DEFINITION. What the spec leaves to a published standard, to the die or to analogue conversion: functions without a
body, so that no proof can rest on a value of them (log entries 4 and 5).
-/

namespace Sys2Proof

/-- Free values: what the model draws where the spec fixes no value, by draw number (log entry 4). -/
opaque Config.freeValue : Nat → Nat

/-- The Cork's random-bit generator (R99), `bits` wide, by draw number (log entry 4). -/
opaque Config.random (bits draw : Nat) : Nat

/-- AES-256 CMAC of SP 800-38B: key, message, 128-bit output (R120, R124; log entry 5). -/
opaque Config.cmac : Nat → Bytes → BitVec 128

/-- AES-256-GCM of SP 800-38D: key, 12-byte IV, wrapped key, tag; the key when the tag verifies (R114; log entry 5). -/
opaque Config.gcmOpen : Nat → Bytes → Bytes → Bytes → Option Nat

/-- SHA-256 of FIPS 180-4 (log entry 5). -/
opaque Config.sha256 : Bytes → Bytes

/-- ECDSA P-256 signature verification under an image key slot: slot, message, r, s (R132; log entry 5). -/
opaque Config.imageKeyVerify : Nat → Bytes → Bytes → Bytes → Bool

/-- ECDSA P-256 signature of a private key over a message with a per-signature value (R100, R101; log entry 5). -/
opaque Config.ecdsaSign : Nat → Bytes → Nat → Bytes

/-- The public key, x then y, of a private key (R100; log entry 5). -/
opaque Config.ecdsaPublic : Nat → Bytes

/-- The device unique key in antifuse, from the on-die entropy source at Strelbor test (Table 4-1; log entry 5). -/
opaque Config.duk : Nat

/-- The key-store wrapping key derived from the DUK at every boot (Table 4-1; log entry 5). -/
opaque Config.deriveKwk : Nat → Nat

/-- The private device identity key derived from the DUK at every boot (Table 4-1; log entry 5). -/
opaque Config.deriveDik : Nat → Nat

/-- The issuer key identifier and the issue date of the DIK certificate, and the certification key's per-signature value
(Table 5-11; log entry 115). -/
opaque Config.certIssuer : Nat
/-- Issue date of the DIK certificate (Table 5-11; log entry 115). -/
opaque Config.certDate : Nat
/-- The private Strelbor certification key of an issuer identifier (R198; log entry 115). -/
opaque Config.certKey : Nat → Nat
/-- The per-signature value of the DIK certificate (R198; log entry 115). -/
opaque Config.certNonce : Nat

/-- Whether the erasure of the key store reads back as erased, by draw number (R111, R714; log entry 60). -/
opaque Config.eraseOk : Nat → Bool

/-- Identity.DictionaryVersion that a Cork image serves, by its Version (ch. 05; log entry 5). -/
opaque Config.dictionaryVersion : Nat → BitVec 16

/-- Power of ten of a level in 0.01 dB, as a linear ratio in parts per 2^32 (log entry 6). -/
opaque Config.fromDb : Int → Nat

/-- Level in 0.01 dB of a linear ratio in parts per 2^32 (log entry 6). -/
opaque Config.toDb : Nat → Int

/-- Cosine and sine of an NCO phase in 2^−32 turns, in 2^−17 parts (R322; log entry 130). -/
opaque Config.carrier : Nat → Int × Int

/-- The coefficients of the short and of the sharp half-band, in 2^−17 parts: mask ROM (R323; log entry 130). -/
opaque Config.shortTap : Nat → Int
/-- The sharp half-band (R323; log entry 130). -/
opaque Config.sharpTap : Nat → Int

/-- The width of an element's output by its bit in BandPath.SatSticky, but for the input mixer (R325; log entry 130). -/
opaque Config.elementBits : Nat → Nat

/-- The bits of I and Q below the 16-bit scale of the detectors (R321; log entry 130). -/
opaque Config.iqFraction : Nat

/-- An exact product rounded to its element's grid: a number divided by a power of two (R321; log entry 130). -/
opaque Config.roundShift (num : Int) (shift : Nat) : Int

/-- The amplitude of a gain or level in 0.01 dB, in 2^−24 parts (R326, R394; log entry 130). -/
opaque Config.amplitude : Int → Nat

/-- A path's pilot sequence by path and chip: whether the chip is −1 (R394; log entry 130). -/
opaque Config.pilotChip (path chip : Nat) : Bool

/-- √p by CORDIC, to within 0.01 dB (R341; log entry 130). -/
opaque Config.cordic : Nat → Int

/-- Natural logarithm of a ratio of two positive numbers, in parts per 2^32 (R460; log entry 6). -/
opaque Config.lnRatio : Nat → Nat → Int

/-- Die temperature in 0.1 °C of a sensor's code and gain, by the factory OTP calibration (Table 15-4; log entry 23). -/
opaque Config.dieCelsius : Nat → Nat → Nat → Int

end Sys2Proof
end

