-- ==== Sys2Proof/Machine/Objects.lean ====
section
/-!
DEFINITION. The object dictionary (ch. 05) as data: the address of every object as a named constant, and one
row per line of the spec's object tables (Tables 3-8, 3-9, 4-15, 5-10 to 5-13, 6-20 to 6-22, 7-12, 8-8, 9-12 to 9-14,
10-13 to 10-15, 11-9 to 11-11, 12-8 to 12-11, 13-10 to 13-12, 14-7, 14-8, 15-12, 15-13, 16-11, 16-12, 17-11)
with its type, access class, default, range and persistence class (R147 to R155).
-/

namespace Sys2Proof.Machine

/-- The data types of Table 5-1. -/
inductive Ty where
  | bool | u8 | u16 | u32 | u64 | i8 | i16 | i32 | i64 | octets | utf8
deriving DecidableEq, Repr

/-- The type codes of Table 5-1 (R148). -/
def Ty.code : Ty → Nat
  | .bool => 1 | .u8 => 2 | .u16 => 3 | .u32 => 4 | .u64 => 5 | .i8 => 6
  | .i16 => 7 | .i32 => 8 | .i64 => 9 | .octets => 10 | .utf8 => 11

/-- Whether a type holds two's-complement integers (R148). -/
def Ty.signed : Ty → Bool
  | .i8 | .i16 | .i32 | .i64 => true
  | _ => false

/-- The access classes of Table 5-2. -/
inductive Access where
  | ro | rw | wo | rw1c
deriving DecidableEq, Repr

/-- The persistence classes of Table 5-3. -/
inductive Persist where
  | volatile | alwaysOn | persistent | fuse | keyStore | maskRom | otp | derived
deriving DecidableEq, Repr

/-- Octet objects whose fields have ranges of their own (R160). -/
inductive FieldRange where
  | bridgeRoute | attenDesc | feEntry | hkaEntry | hkbEntry | floodRules
deriving DecidableEq, Repr

/-- The admitted values of an object ("Range and unit" column; reserved bits of a masked object are ignored, R2). -/
inductive Range where
  | any
  | within (lo hi : Int)
  | parts (ps : List (Int × Int))
  | oneOf (vs : List Int)
  | masked (m : Nat)
  | custom (c : FieldRange)
deriving DecidableEq, Repr

/-- One line of an object table: `nIx` consecutive indices from `ix`, each with `nSub` sub-indices from `sub`.
`size` is the value's length in bytes and `alt` a second admitted length (0 for none, R150). -/
structure ObjDef where
  ix : Nat
  nIx : Nat
  sub : Nat
  nSub : Nat
  ty : Ty
  size : Nat
  alt : Nat
  acc : Access
  dflt : Nat
  range : Range
  pers : Persist
deriving DecidableEq, Repr

/-- The store key of index.sub. -/
def objKey (index sub : Nat) : Nat := index * 256 + sub

namespace Obj

/-- PowerState.Current (Table 3-8). -/
def powerStateCurrent : Nat := 0x180001
/-- PowerState.Request (Table 3-8). -/
def powerStateRequest : Nat := 0x180002
/-- PowerState.AutoStart (Table 3-8). -/
def powerStateAutoStart : Nat := 0x180003
/-- PowerState.AutoActive (Table 3-8). -/
def powerStateAutoActive : Nat := 0x180004
/-- PowerState.LastReason (Table 3-8). -/
def powerStateLastReason : Nat := 0x180005
/-- PowerState.HoldupRestartDelay (Table 3-8). -/
def powerStateHoldupRestartDelay : Nat := 0x180006
/-- PowerState.RestartDelay (Table 3-8). -/
def powerStateRestartDelay : Nat := 0x180007
/-- PowerState.WakeSources (Table 3-8). -/
def powerStateWakeSources : Nat := 0x180008
/-- PowerState.WakeTimer (Table 3-8). -/
def powerStateWakeTimer : Nat := 0x180009
/-- PowerState.ServiceTimeout (Table 3-8). -/
def powerStateServiceTimeout : Nat := 0x18000A
/-- PowerState.ServiceKeepsRf (Table 3-8). -/
def powerStateServiceKeepsRf : Nat := 0x18000B
/-- PowerState.PowerCycleCount (Table 3-8). -/
def powerStatePowerCycleCount : Nat := 0x18000C
/-- PowerState.OperatingSeconds (Table 3-8). -/
def powerStateOperatingSeconds : Nat := 0x18000D
/-- PowerState.CoreSeconds (Table 3-8). -/
def powerStateCoreSeconds : Nat := 0x18000E
/-- Clock.CoreSource (Table 3-9). -/
def clockCoreSource : Nat := 0x181001
/-- Clock.CoreTarget (Table 3-9). -/
def clockCoreTarget : Nat := 0x181002
/-- Clock.RefInPresent (Table 3-9). -/
def clockRefInPresent : Nat := 0x181003
/-- Clock.SamplePllLocked (Table 3-9). -/
def clockSamplePllLocked : Nat := 0x181004
/-- Clock.RelockCount (Table 3-9). -/
def clockRelockCount : Nat := 0x181005
/-- Clock.StretchCount (Table 3-9). -/
def clockStretchCount : Nat := 0x181006
/-- Clock.StretchLongest (Table 3-9). -/
def clockStretchLongest : Nat := 0x181007
/-- Clock.GuardBand (Table 3-9). -/
def clockGuardBand : Nat := 0x181008
/-- Clock.AgingGrowth (Table 3-9). -/
def clockAgingGrowth : Nat := 0x181009
/-- Clock.NextTrim (Table 3-9). -/
def clockNextTrim : Nat := 0x18100A
/-- Clock.Sticky (Table 3-9). -/
def clockSticky : Nat := 0x18100B
/-- Watchdog.PressTimeout (Table 3-9). -/
def watchdogPressTimeout : Nat := 0x182001
/-- Watchdog.VintnerTimeout (Table 3-9). -/
def watchdogVintnerTimeout : Nat := 0x182002
/-- Watchdog.CorkTimeout (Table 3-9). -/
def watchdogCorkTimeout : Nat := 0x182003
/-- Watchdog.PressExpiryCount (Table 3-9). -/
def watchdogPressExpiryCount : Nat := 0x182004
/-- Watchdog.VintnerExpiryCount (Table 3-9). -/
def watchdogVintnerExpiryCount : Nat := 0x182005
/-- Watchdog.CorkExpiryCount (Table 3-9). -/
def watchdogCorkExpiryCount : Nat := 0x182006
/-- Watchdog.Lockout (Table 3-9). -/
def watchdogLockout : Nat := 0x182007
/-- Lifecycle.State (Table 4-15). -/
def lifecycleState : Nat := 0x1A0001
/-- Lifecycle.Request (Table 4-15). -/
def lifecycleRequest : Nat := 0x1A0002
/-- Lifecycle.Confirm (Table 4-15). -/
def lifecycleConfirm : Nat := 0x1A0003
/-- Lifecycle.RemoteServiceAllowed (Table 4-15). -/
def lifecycleRemoteServiceAllowed : Nat := 0x1A0004
/-- Session.OpenCount (Table 4-15). -/
def sessionOpenCount : Nat := 0x1A1001
/-- Session.IdleTimeout (Table 4-15). -/
def sessionIdleTimeout : Nat := 0x1A1002
/-- Session.Lifetime (Table 4-15). -/
def sessionLifetime : Nat := 0x1A1003
/-- Session.LockoutTime (Table 4-15). -/
def sessionLockoutTime : Nat := 0x1A1004
/-- Session.RoleLockout (Table 4-15). -/
def sessionRoleLockout : Nat := 0x1A1005
/-- Session.OwnRole (Table 4-15). -/
def sessionOwnRole : Nat := 0x1A1006
/-- Keys.RoleKey, number `n` from 0 (Table 4-15). -/
def keysRoleKey (n : Nat) : Nat := 0x1A2001 + n
/-- Keys.Status (Table 4-15). -/
def keysStatus : Nat := 0x1A2005
/-- Keys.RskPublic (Table 4-15). -/
def keysRskPublic : Nat := 0x1A2006
/-- Keys.RskEndorsement (Table 4-15). -/
def keysRskEndorsement : Nat := 0x1A2007
/-- Keys.DikPublic (Table 4-15). -/
def keysDikPublic : Nat := 0x1A2008
/-- Debug.Level (Table 4-15). -/
def debugLevel : Nat := 0x1A3001
/-- Debug.Request (Table 4-15). -/
def debugRequest : Nat := 0x1A3002
/-- Debug.Timeout (Table 4-15). -/
def debugTimeout : Nat := 0x1A3003
/-- Debug.Challenge (Table 4-15). -/
def debugChallenge : Nat := 0x1A3004
/-- Debug.Token (Table 4-15). -/
def debugToken : Nat := 0x1A3005
/-- Boot.SelectedBank (Table 4-15). -/
def bootSelectedBank : Nat := 0x1A4001
/-- Boot.RunningBank (Table 4-15). -/
def bootRunningBank : Nat := 0x1A4002
/-- Boot.RunningVersion (Table 4-15). -/
def bootRunningVersion : Nat := 0x1A4003
/-- Boot.SecurityCounter (Table 4-15). -/
def bootSecurityCounter : Nat := 0x1A4004
/-- Boot.FallbackCount (Table 4-15). -/
def bootFallbackCount : Nat := 0x1A4005
/-- Boot.RevokeSlot0 (Table 4-15). -/
def bootRevokeSlot0 : Nat := 0x1A4006
/-- Boot.Confirmed (Table 4-15). -/
def bootConfirmed : Nat := 0x1A4007
/-- Security.Sticky (Table 4-15). -/
def securitySticky : Nat := 0x1A5001
/-- Identity.Vendor (Table 5-10). -/
def identityVendor : Nat := 0x100001
/-- Identity.Family (Table 5-10). -/
def identityFamily : Nat := 0x100002
/-- Identity.DeviceCode (Table 5-10). -/
def identityDeviceCode : Nat := 0x100003
/-- Identity.DieRevision (Table 5-10). -/
def identityDieRevision : Nat := 0x100004
/-- Identity.SerialNumber (Table 5-10). -/
def identitySerialNumber : Nat := 0x100005
/-- Identity.ManufactureDate (Table 5-10). -/
def identityManufactureDate : Nat := 0x100006
/-- Identity.DikCertificate (Table 5-10). -/
def identityDikCertificate : Nat := 0x100007
/-- Identity.DictionaryVersion (Table 5-10). -/
def identityDictionaryVersion : Nat := 0x100008
/-- Identity.BankAVersion (Table 5-10). -/
def identityBankAVersion : Nat := 0x100009
/-- Identity.BankBVersion (Table 5-10). -/
def identityBankBVersion : Nat := 0x10000A
/-- Identity.ConfigGeneration (Table 5-10). -/
def identityConfigGeneration : Nat := 0x10000B
/-- Sticky.Summary (Table 5-12). -/
def stickySummary : Nat := 0x720001
/-- Sticky.ClearAll (Table 5-12). -/
def stickyClearAll : Nat := 0x720002
/-- Dict.Sticky (Table 5-12). -/
def dictSticky : Nat := 0x720003
/-- Dict.StateConflictCount (Table 5-12). -/
def dictStateConflictCount : Nat := 0x720004
/-- Dict.LastStateConflict (Table 5-12). -/
def dictLastStateConflict : Nat := 0x720005
/-- Dict.CommitRejectCount (Table 5-12). -/
def dictCommitRejectCount : Nat := 0x720006
/-- Dict.LastCommitReject (Table 5-12). -/
def dictLastCommitReject : Nat := 0x720007
/-- Dict.CommitGeneration (Table 5-12). -/
def dictCommitGeneration : Nat := 0x721001
/-- Dict.CommitState (Table 5-12). -/
def dictCommitState : Nat := 0x721002
/-- Dict.OwnStageEntries (Table 5-12). -/
def dictOwnStageEntries : Nat := 0x721003
/-- Dict.ConfigWrites (Table 5-12). -/
def dictConfigWrites : Nat := 0x721004
/-- Update.TargetBank (Table 5-13). -/
def updateTargetBank : Nat := 0x900001
/-- Update.State (Table 5-13). -/
def updateState : Nat := 0x900002
/-- Update.Begin (Table 5-13). -/
def updateBegin : Nat := 0x900003
/-- Update.Data (Table 5-13). -/
def updateData : Nat := 0x900004
/-- Update.Received (Table 5-13). -/
def updateReceived : Nat := 0x900005
/-- Update.Verify (Table 5-13). -/
def updateVerify : Nat := 0x900006
/-- Update.Activate (Table 5-13). -/
def updateActivate : Nat := 0x900007
/-- Update.FailedCheck (Table 5-13). -/
def updateFailedCheck : Nat := 0x900008
/-- Update.Abort (Table 5-13). -/
def updateAbort : Nat := 0x900009
/-- Update.TrialRemaining (Table 5-13). -/
def updateTrialRemaining : Nat := 0x90000A
/-- Update.Sticky (Table 5-13). -/
def updateSticky : Nat := 0x90000B
/-- Config.StageTimeout (Table 5-13). -/
def configStageTimeout : Nat := 0x901001
/-- Config.RestoreDefaults (Table 5-13). -/
def configRestoreDefaults : Nat := 0x901002
/-- Field.NodeAddress (Table 6-20). -/
def fieldNodeAddress : Nat := 0x110001
/-- Field.EffectiveAddress (Table 6-20). -/
def fieldEffectiveAddress : Nat := 0x110002
/-- Field.SegmentA (Table 6-20). -/
def fieldSegmentA : Nat := 0x110003
/-- Field.SegmentB (Table 6-20). -/
def fieldSegmentB : Nat := 0x110004
/-- Field.PortEnable (Table 6-20). -/
def fieldPortEnable : Nat := 0x110005
/-- Field.DataSamplePoint (Table 6-20). -/
def fieldDataSamplePoint : Nat := 0x110006
/-- Field.HeartbeatPeriod (Table 6-20). -/
def fieldHeartbeatPeriod : Nat := 0x110007
/-- Field.OfflineTime (Table 6-20). -/
def fieldOfflineTime : Nat := 0x110008
/-- Field.NotifyDest (Table 6-20). -/
def fieldNotifyDest : Nat := 0x110009
/-- Field.NotifyMask (Table 6-20). -/
def fieldNotifyMask : Nat := 0x11000A
/-- Field.NotifySequence (Table 6-20). -/
def fieldNotifySequence : Nat := 0x11000B
/-- Field.ReassemblyTimeout (Table 6-20). -/
def fieldReassemblyTimeout : Nat := 0x11000C
/-- Field.BlockTimeout (Table 6-20). -/
def fieldBlockTimeout : Nat := 0x11000D
/-- Field.BusOffHoldoff (Table 6-20). -/
def fieldBusOffHoldoff : Nat := 0x11000E
/-- Field.NodePresent (Table 6-20). -/
def fieldNodePresent : Nat := 0x11000F
/-- Field.TimeAnchor (Table 6-20). -/
def fieldTimeAnchor : Nat := 0x110010
/-- Field.Sticky (Table 6-20). -/
def fieldSticky : Nat := 0x110011
/-- Field.RestrictedCount (Table 6-20). -/
def fieldRestrictedCount : Nat := 0x110012
/-- Port.State of number `n` (Table 6-21). -/
def portState (n : Nat) : Nat := 0x111001 + 256 * n
/-- Port.TxFrames of number `n` (Table 6-21). -/
def portTxFrames (n : Nat) : Nat := 0x111002 + 256 * n
/-- Port.RxFrames of number `n` (Table 6-21). -/
def portRxFrames (n : Nat) : Nat := 0x111003 + 256 * n
/-- Port.Tec of number `n` (Table 6-21). -/
def portTec (n : Nat) : Nat := 0x111004 + 256 * n
/-- Port.Rec of number `n` (Table 6-21). -/
def portRec (n : Nat) : Nat := 0x111005 + 256 * n
/-- Port.BusOffCount of number `n` (Table 6-21). -/
def portBusOffCount (n : Nat) : Nat := 0x111006 + 256 * n
/-- Port.StdIdCount of number `n` (Table 6-21). -/
def portStdIdCount (n : Nat) : Nat := 0x111007 + 256 * n
/-- Port.ClassicCount of number `n` (Table 6-21). -/
def portClassicCount (n : Nat) : Nat := 0x111008 + 256 * n
/-- Port.RxDiscarded of number `n` (Table 6-21). -/
def portRxDiscarded (n : Nat) : Nat := 0x111009 + 256 * n
/-- Port.Forwarded of number `n` (Table 6-21). -/
def portForwarded (n : Nat) : Nat := 0x11100A + 256 * n
/-- Port.ForwardDropped of number `n` (Table 6-21). -/
def portForwardDropped (n : Nat) : Nat := 0x11100B + 256 * n
/-- Bridge.Enable (Table 6-22). -/
def bridgeEnable : Nat := 0x112001
/-- Bridge.Route (Table 6-22). -/
def bridgeRoute : Nat := 0x112002
/-- Bridge.BroadcastForward (Table 6-22). -/
def bridgeBroadcastForward : Nat := 0x112003
/-- Bridge.MaxHops (Table 6-22). -/
def bridgeMaxHops : Nat := 0x112004
/-- Bridge.FollowTwin (Table 6-22). -/
def bridgeFollowTwin : Nat := 0x112005
/-- Bridge.Forwarding (Table 6-22). -/
def bridgeForwarding : Nat := 0x112006
/-- Bridge.HopLimitCount (Table 6-22). -/
def bridgeHopLimitCount : Nat := 0x112007
/-- HostPort.Sticky (Table 7-12). -/
def hostPortSticky : Nat := 0x120001
/-- HostPort.TornReadCount (Table 7-12). -/
def hostPortTornReadCount : Nat := 0x120002
/-- HostPort.MailboxRequests (Table 7-12). -/
def hostPortMailboxRequests : Nat := 0x120003
/-- HostPort.IrqEnable (Table 7-12). -/
def hostPortIrqEnable : Nat := 0x120004
/-- HostPort.CellSupply (Table 7-12). -/
def hostPortCellSupply : Nat := 0x120005
/-- Queue.Sticky (Table 8-8). -/
def queueSticky : Nat := 0x140001
/-- Queue.DeferLimit (Table 8-8). -/
def queueDeferLimit : Nat := 0x140002
/-- Queue.TxLifetime (Table 8-8). -/
def queueTxLifetime : Nat := 0x140003
/-- Queue.RefusedCount (Table 8-8). -/
def queueRefusedCount : Nat := 0x140004
/-- Queue.DeferredCount (Table 8-8). -/
def queueDeferredCount : Nat := 0x140005
/-- Queue.DeferRefusedCount (Table 8-8). -/
def queueDeferRefusedCount : Nat := 0x140006
/-- Queue.DeferDiscardCount (Table 8-8). -/
def queueDeferDiscardCount : Nat := 0x140007
/-- Queue.LastRefusal (Table 8-8). -/
def queueLastRefusal : Nat := 0x140008
/-- Queue.TxExpiredCount (Table 8-8). -/
def queueTxExpiredCount : Nat := 0x140009
/-- Queue.RefusalExpiredCount (Table 8-8). -/
def queueRefusalExpiredCount : Nat := 0x14000A
/-- Queue.EscapeInUse (Table 8-8). -/
def queueEscapeInUse : Nat := 0x14000B
/-- Queue.EscapeUseCount (Table 8-8). -/
def queueEscapeUseCount : Nat := 0x14000C
/-- Queue.EccCorrectedCount (Table 8-8). -/
def queueEccCorrectedCount : Nat := 0x14000D
/-- Queue.EccDiscardCount (Table 8-8). -/
def queueEccDiscardCount : Nat := 0x14000E
/-- Queue.ClearHighWater (Table 8-8). -/
def queueClearHighWater : Nat := 0x14000F
/-- Queue.Info, number `n` from 0 (Table 8-8). -/
def queueInfoLow (n : Nat) : Nat := 0x141001 + n
/-- Queue.Info, number `n` from 0 (Table 8-8). -/
def queueInfoHigh (n : Nat) : Nat := 0x141101 + n
/-- Converter.PairModeUL (Table 9-12). -/
def converterPairModeUL : Nat := 0x200001
/-- Converter.PairModeDL (Table 9-12). -/
def converterPairModeDL : Nat := 0x200002
/-- Converter.TasteWindow (Table 9-12). -/
def converterTasteWindow : Nat := 0x200003
/-- Converter.TasteCount (Table 9-12). -/
def converterTasteCount : Nat := 0x200004
/-- Converter.TasteBlocks (Table 9-12). -/
def converterTasteBlocks : Nat := 0x200005
/-- Converter.TasteState (Table 9-12). -/
def converterTasteState : Nat := 0x200006
/-- Converter.TasteBlocksUL (Table 9-12). -/
def converterTasteBlocksUL : Nat := 0x200007
/-- Converter.TasteBlocksDL (Table 9-12). -/
def converterTasteBlocksDL : Nat := 0x200008
/-- Converter.SyncPinEnable (Table 9-12). -/
def converterSyncPinEnable : Nat := 0x200009
/-- Converter.SyncNow (Table 9-12). -/
def converterSyncNow : Nat := 0x20000A
/-- Converter.SyncCount (Table 9-12). -/
def converterSyncCount : Nat := 0x20000B
/-- Converter.DacClipCountUL (Table 9-12). -/
def converterDacClipCountUL : Nat := 0x20000C
/-- Converter.DacClipCountDL (Table 9-12). -/
def converterDacClipCountDL : Nat := 0x20000D
/-- Converter.Sticky (Table 9-12). -/
def converterSticky : Nat := 0x20000E
/-- Adc.OverrangeCount of number `n` (Table 9-13). -/
def adcOverrangeCount (n : Nat) : Nat := 0x201001 + 256 * n
/-- Adc.DcFreeze of number `n` (Table 9-13). -/
def adcDcFreeze (n : Nat) : Nat := 0x201002 + 256 * n
/-- Adc.DcShift of number `n` (Table 9-13). -/
def adcDcShift (n : Nat) : Nat := 0x201003 + 256 * n
/-- Adc.DcEstimate of number `n` (Table 9-13). -/
def adcDcEstimate (n : Nat) : Nat := 0x201004 + 256 * n
/-- Adc.DcFrozen of number `n` (Table 9-13). -/
def adcDcFrozen (n : Nat) : Nat := 0x201005 + 256 * n
/-- Adc.CalStatus of number `n` (Table 9-13). -/
def adcCalStatus (n : Nat) : Nat := 0x201006 + 256 * n
/-- BandPath.SatSticky of number `n` (Table 9-14). -/
def bandPathSatSticky (n : Nat) : Nat := 0x221001 + 256 * n
/-- BandPath.SatCount of number `n` (Table 9-14). -/
def bandPathSatCount (n : Nat) : Nat := 0x221002 + 256 * n
/-- BandPath.DetectPoint of number `n` (Table 9-14). -/
def bandPathDetectPoint (n : Nat) : Nat := 0x221003 + 256 * n
/-- BandPath.WindowLog2 of number `n` (Table 9-14). -/
def bandPathWindowLog2 (n : Nat) : Nat := 0x221004 + 256 * n
/-- BandPath.EnvAttack of number `n` (Table 9-14). -/
def bandPathEnvAttack (n : Nat) : Nat := 0x221005 + 256 * n
/-- BandPath.EnvDecay of number `n` (Table 9-14). -/
def bandPathEnvDecay (n : Nat) : Nat := 0x221006 + 256 * n
/-- BandPath.EnvHigh of number `n` (Table 9-14). -/
def bandPathEnvHigh (n : Nat) : Nat := 0x221007 + 256 * n
/-- BandPath.EnvLow of number `n` (Table 9-14). -/
def bandPathEnvLow (n : Nat) : Nat := 0x221008 + 256 * n
/-- BandPath.Peak of number `n` (Table 9-14). -/
def bandPathPeak (n : Nat) : Nat := 0x221009 + 256 * n
/-- BandPath.Rms of number `n` (Table 9-14). -/
def bandPathRms (n : Nat) : Nat := 0x22100A + 256 * n
/-- BandPath.Envelope of number `n` (Table 9-14). -/
def bandPathEnvelope (n : Nat) : Nat := 0x22100B + 256 * n
/-- BandPath.Settling of number `n` (Table 9-14). -/
def bandPathSettling (n : Nat) : Nat := 0x22100C + 256 * n
/-- BandPath.SettleEvents of number `n` (Table 9-14). -/
def bandPathSettleEvents (n : Nat) : Nat := 0x22100D + 256 * n
/-- BandPath.Latency of number `n` (Table 9-14). -/
def bandPathLatency (n : Nat) : Nat := 0x22100E + 256 * n
/-- BandPath.SettleTime of number `n` (Table 9-14). -/
def bandPathSettleTime (n : Nat) : Nat := 0x22100F + 256 * n
/-- BandPath.EventPending of number `n` (Table 9-14). -/
def bandPathEventPending (n : Nat) : Nat := 0x221010 + 256 * n
/-- BandPath.EventOverflow of number `n` (Table 9-14). -/
def bandPathEventOverflow (n : Nat) : Nat := 0x221011 + 256 * n
/-- BandPath.Sticky of number `n` (Table 9-14). -/
def bandPathSticky (n : Nat) : Nat := 0x221012 + 256 * n
/-- Band.Enable of number `n` (Table 10-13). -/
def bandEnable (n : Nat) : Nat := 0x300001 + 256 * n
/-- Band.Direction of number `n` (Table 10-13). -/
def bandDirection (n : Nat) : Nat := 0x300002 + 256 * n
/-- Band.Stream of number `n` (Table 10-13). -/
def bandStream (n : Nat) : Nat := 0x300003 + 256 * n
/-- Band.Partner of number `n` (Table 10-13). -/
def bandPartner (n : Nat) : Nat := 0x300004 + 256 * n
/-- Band.Kind of number `n` (Table 10-13). -/
def bandKind (n : Nat) : Nat := 0x300005 + 256 * n
/-- Band.Standard of number `n` (Table 10-13). -/
def bandStandard (n : Nat) : Nat := 0x300006 + 256 * n
/-- Band.RfCentre of number `n` (Table 10-13). -/
def bandRfCentre (n : Nat) : Nat := 0x300007 + 256 * n
/-- Band.ChannelWidth of number `n` (Table 10-13). -/
def bandChannelWidth (n : Nat) : Nat := 0x300008 + 256 * n
/-- Band.InNcoWord of number `n` (Table 10-13). -/
def bandInNcoWord (n : Nat) : Nat := 0x300009 + 256 * n
/-- Band.OutNcoWord of number `n` (Table 10-13). -/
def bandOutNcoWord (n : Nat) : Nat := 0x30000A + 256 * n
/-- Band.Depth of number `n` (Table 10-13). -/
def bandDepth (n : Nat) : Nat := 0x30000B + 256 * n
/-- Band.Fir of number `n` (Table 10-13). -/
def bandFir (n : Nat) : Nat := 0x30000C + 256 * n
/-- Band.Priority of number `n` (Table 10-13). -/
def bandPriority (n : Nat) : Nat := 0x30000D + 256 * n
/-- Band.Sticky of number `n` (Table 10-13). -/
def bandSticky (n : Nat) : Nat := 0x30000E + 256 * n
/-- FrontEnd.LoInUL (Table 10-14). -/
def frontEndLoInUL : Nat := 0x301001
/-- FrontEnd.LoOutUL (Table 10-14). -/
def frontEndLoOutUL : Nat := 0x301002
/-- FrontEnd.LoInDL (Table 10-14). -/
def frontEndLoInDL : Nat := 0x301003
/-- FrontEnd.LoOutDL (Table 10-14). -/
def frontEndLoOutDL : Nat := 0x301004
/-- FrontEnd.SpiDiv0 (Table 10-14). -/
def frontEndSpiDiv0 : Nat := 0x301005
/-- FrontEnd.SpiDiv1 (Table 10-14). -/
def frontEndSpiDiv1 : Nat := 0x301006
/-- FrontEnd.GpioOut (Table 10-14). -/
def frontEndGpioOut : Nat := 0x301007
/-- FrontEnd.LockGpioUL (Table 10-14). -/
def frontEndLockGpioUL : Nat := 0x301008
/-- FrontEnd.LockGpioDL (Table 10-14). -/
def frontEndLockGpioDL : Nat := 0x301009
/-- FrontEnd.LockTimeout (Table 10-14). -/
def frontEndLockTimeout : Nat := 0x30100A
/-- FrontEnd.SeqInit (Table 10-14). -/
def frontEndSeqInit : Nat := 0x30100B
/-- FrontEnd.SeqRetuneUL (Table 10-14). -/
def frontEndSeqRetuneUL : Nat := 0x30100C
/-- FrontEnd.SeqRetuneDL (Table 10-14). -/
def frontEndSeqRetuneDL : Nat := 0x30100D
/-- FrontEnd.AttenUL (Table 10-14). -/
def frontEndAttenUL : Nat := 0x30100E
/-- FrontEnd.AttenDL (Table 10-14). -/
def frontEndAttenDL : Nat := 0x30100F
/-- FrontEnd.RunInit (Table 10-14). -/
def frontEndRunInit : Nat := 0x301010
/-- FrontEnd.State (Table 10-14). -/
def frontEndState : Nat := 0x301011
/-- FrontEnd.Entry, number `n` from 0 (Table 10-14). -/
def frontEndEntry (n : Nat) : Nat := 0x301101 + n
/-- Le.Enable (Table 10-15). -/
def leEnable : Nat := 0x330001
/-- Le.Mode (Table 10-15). -/
def leMode : Nat := 0x330002
/-- Le.Threshold (Table 10-15). -/
def leThreshold : Nat := 0x330003
/-- Le.ReleaseLevel (Table 10-15). -/
def leReleaseLevel : Nat := 0x330004
/-- Le.DetectTime (Table 10-15). -/
def leDetectTime : Nat := 0x330005
/-- Le.HangTime (Table 10-15). -/
def leHangTime : Nat := 0x330006
/-- Le.MaxHold (Table 10-15). -/
def leMaxHold : Nat := 0x330007
/-- Le.Guard (Table 10-15). -/
def leGuard : Nat := 0x330008
/-- Le.TieDirection (Table 10-15). -/
def leTieDirection : Nat := 0x330009
/-- Le.BarTime (Table 10-15). -/
def leBarTime : Nat := 0x33000A
/-- Le.Direction (Table 10-15). -/
def leDirection : Nat := 0x33000B
/-- Le.SwitchCount (Table 10-15). -/
def leSwitchCount : Nat := 0x33000C
/-- Le.BlockedCount (Table 10-15). -/
def leBlockedCount : Nat := 0x33000D
/-- Le.Barred (Table 10-15). -/
def leBarred : Nat := 0x33000E
/-- Le.Sticky (Table 10-15). -/
def leSticky : Nat := 0x33000F
/-- Stab.ChainGainUL, number `n` from 0 (Table 11-9). -/
def stabChainGain (n : Nat) : Nat := 0x310001 + n
/-- Stab.OutputRefUL, number `n` from 0 (Table 11-9). -/
def stabOutputRef (n : Nat) : Nat := 0x310003 + n
/-- Stab.AttenUL, number `n` from 0 (Table 11-9). -/
def stabAtten (n : Nat) : Nat := 0x310005 + n
/-- Stab.PilotOffset (Table 11-9). -/
def stabPilotOffset : Nat := 0x310007
/-- Stab.PilotFrames (Table 11-9). -/
def stabPilotFrames : Nat := 0x310008
/-- Stab.ProbeLevel (Table 11-9). -/
def stabProbeLevel : Nat := 0x310009
/-- Stab.StartBackoff (Table 11-9). -/
def stabStartBackoff : Nat := 0x31000A
/-- Stab.RiseSlope (Table 11-9). -/
def stabRiseSlope : Nat := 0x31000B
/-- Stab.FallSlope (Table 11-9). -/
def stabFallSlope : Nat := 0x31000C
/-- Stab.Lookahead (Table 11-9). -/
def stabLookahead : Nat := 0x31000D
/-- Stab.NoWaterline (Table 11-9). -/
def stabNoWaterline : Nat := 0x31000E
/-- Stab.ScheduleLearn (Table 11-9). -/
def stabScheduleLearn : Nat := 0x31000F
/-- Stab.ProbeInterval (Table 11-9). -/
def stabProbeInterval : Nat := 0x310010
/-- Stab.RecheckTimeout (Table 11-9). -/
def stabRecheckTimeout : Nat := 0x310011
/-- Stab.PilotMaxAge (Table 11-9). -/
def stabPilotMaxAge : Nat := 0x310012
/-- Osc.Rho (Table 11-9). -/
def oscRho : Nat := 0x310013
/-- Osc.Level (Table 11-9). -/
def oscLevel : Nat := 0x310014
/-- Osc.Blocks (Table 11-9). -/
def oscBlocks : Nat := 0x310015
/-- Stab.Sticky (Table 11-9). -/
def stabSticky : Nat := 0x310016
/-- Stab.TargetGain of number `n` (Table 11-10). -/
def stabTargetGain (n : Nat) : Nat := 0x311001 + 256 * n
/-- Stab.Margin of number `n` (Table 11-10). -/
def stabMargin (n : Nat) : Nat := 0x311002 + 256 * n
/-- Stab.BalanceOffset of number `n` (Table 11-10). -/
def stabBalanceOffset (n : Nat) : Nat := 0x311003 + 256 * n
/-- Stab.MinGain of number `n` (Table 11-10). -/
def stabMinGain (n : Nat) : Nat := 0x311004 + 256 * n
/-- Stab.Schedule of number `n` (Table 11-10). -/
def stabSchedule (n : Nat) : Nat := 0x311005 + 256 * n
/-- Stab.State of number `n` (Table 11-10). -/
def stabState (n : Nat) : Nat := 0x311006 + 256 * n
/-- Stab.Applied of number `n` (Table 11-10). -/
def stabApplied (n : Nat) : Nat := 0x311007 + 256 * n
/-- Stab.Loop of number `n` (Table 11-10). -/
def stabLoop (n : Nat) : Nat := 0x311008 + 256 * n
/-- Stab.Limits of number `n` (Table 11-10). -/
def stabLimits (n : Nat) : Nat := 0x311009 + 256 * n
/-- Stab.Rho of number `n` (Table 11-10). -/
def stabRho (n : Nat) : Nat := 0x31100A + 256 * n
/-- Stab.ProbeCount of number `n` (Table 11-10). -/
def stabProbeCount (n : Nat) : Nat := 0x31100B + 256 * n
/-- Stab.OutputLevel of number `n` (Table 11-10). -/
def stabOutputLevel (n : Nat) : Nat := 0x31100C + 256 * n
/-- Stab.NoiseDensity of number `n` (Table 11-10). -/
def stabNoiseDensity (n : Nat) : Nat := 0x31100D + 256 * n
/-- Net.State (Table 11-11). -/
def netState : Nat := 0x320001
/-- Net.LockoutRemaining (Table 11-11). -/
def netLockoutRemaining : Nat := 0x320002
/-- Net.LockoutTime (Table 11-11). -/
def netLockoutTime : Nat := 0x320003
/-- Net.RepeatWindow (Table 11-11). -/
def netRepeatWindow : Nat := 0x320004
/-- Net.AutoResume (Table 11-11). -/
def netAutoResume : Nat := 0x320005
/-- Net.ClearLockout (Table 11-11). -/
def netClearLockout : Nat := 0x320006
/-- Net.Shutdown (Table 11-11). -/
def netShutdown : Nat := 0x320007
/-- Net.CollapseMargin (Table 11-11). -/
def netCollapseMargin : Nat := 0x320008
/-- Net.PilotLossTime (Table 11-11). -/
def netPilotLossTime : Nat := 0x320009
/-- Net.UlNoiseLimit (Table 11-11). -/
def netUlNoiseLimit : Nat := 0x32000A
/-- Net.NoiseExcess (Table 11-11). -/
def netNoiseExcess : Nat := 0x32000B
/-- Net.NoiseHold (Table 11-11). -/
def netNoiseHold : Nat := 0x32000C
/-- Net.MaxOutputUL, number `n` from 0 (Table 11-11). -/
def netMaxOutput (n : Nat) : Nat := 0x32000D + n
/-- Net.OverpowerExcess (Table 11-11). -/
def netOverpowerExcess : Nat := 0x32000F
/-- Net.ShutdownCount (Table 11-11). -/
def netShutdownCount : Nat := 0x320010
/-- Net.LastTrigger (Table 11-11). -/
def netLastTrigger : Nat := 0x320011
/-- Net.ReceiptLatest (Table 11-11). -/
def netReceiptLatest : Nat := 0x320012
/-- Net.ReceiptOverwritten (Table 11-11). -/
def netReceiptOverwritten : Nat := 0x320013
/-- Net.Sticky (Table 11-11). -/
def netSticky : Nat := 0x320014
/-- Net.Receipt, number `n` from 0 (Table 11-11). -/
def netReceipt (n : Nat) : Nat := 0x321001 + n
/-- PaBudget.Cap (Table 12-8). -/
def paBudgetCap : Nat := 0x400001
/-- PaBudget.PollPeriod (Table 12-8). -/
def paBudgetPollPeriod : Nat := 0x400002
/-- PaBudget.Tolerance (Table 12-8). -/
def paBudgetTolerance : Nat := 0x400003
/-- PaBudget.OverrunTime (Table 12-8). -/
def paBudgetOverrunTime : Nat := 0x400004
/-- PaBudget.HintLead (Table 12-8). -/
def paBudgetHintLead : Nat := 0x400005
/-- PaBudget.EffectiveCap (Table 12-8). -/
def paBudgetEffectiveCap : Nat := 0x400006
/-- PaBudget.Measured (Table 12-8). -/
def paBudgetMeasured : Nat := 0x400007
/-- PaBudget.Modelled (Table 12-8). -/
def paBudgetModelled : Nat := 0x400008
/-- PaBudget.ClassFactor (Table 12-8). -/
def paBudgetClassFactor : Nat := 0x400009
/-- PaBudget.Outcome (Table 12-8). -/
def paBudgetOutcome : Nat := 0x40000A
/-- PaBudget.Sticky (Table 12-8). -/
def paBudgetSticky : Nat := 0x40000B
/-- Pmb.Speed (Table 12-8). -/
def pmbSpeed : Nat := 0x400101
/-- Pmb.Errors (Table 12-8). -/
def pmbErrors : Nat := 0x400102
/-- PaLane.Enable of number `n` (Table 12-9). -/
def paLaneEnable (n : Nat) : Nat := 0x401001 + 256 * n
/-- PaLane.PathMask of number `n` (Table 12-9). -/
def paLanePathMask (n : Nat) : Nat := 0x401002 + 256 * n
/-- PaLane.PmbAddress of number `n` (Table 12-9). -/
def paLanePmbAddress (n : Nat) : Nat := 0x401003 + 256 * n
/-- PaLane.PmbPage of number `n` (Table 12-9). -/
def paLanePmbPage (n : Nat) : Nat := 0x401004 + 256 * n
/-- PaLane.Pec of number `n` (Table 12-9). -/
def paLanePec (n : Nat) : Nat := 0x401005 + 256 * n
/-- PaLane.VoutExponent of number `n` (Table 12-9). -/
def paLaneVoutExponent (n : Nat) : Nat := 0x401006 + 256 * n
/-- PaLane.VoutNominal of number `n` (Table 12-9). -/
def paLaneVoutNominal (n : Nat) : Nat := 0x401007 + 256 * n
/-- PaLane.BiasCode of number `n` (Table 12-9). -/
def paLaneBiasCode (n : Nat) : Nat := 0x401008 + 256 * n
/-- PaLane.BiasHint of number `n` (Table 12-9). -/
def paLaneBiasHint (n : Nat) : Nat := 0x401009 + 256 * n
/-- PaLane.BiasSlope of number `n` (Table 12-9). -/
def paLaneBiasSlope (n : Nat) : Nat := 0x40100A + 256 * n
/-- PaLane.Quiescent of number `n` (Table 12-9). -/
def paLaneQuiescent (n : Nat) : Nat := 0x40100B + 256 * n
/-- PaLane.Efficiency of number `n` (Table 12-9). -/
def paLaneEfficiency (n : Nat) : Nat := 0x40100C + 256 * n
/-- PaLane.ModelTrim of number `n` (Table 12-9). -/
def paLaneModelTrim (n : Nat) : Nat := 0x40100D + 256 * n
/-- PaLane.ModelK of number `n` (Table 12-9). -/
def paLaneModelK (n : Nat) : Nat := 0x40100E + 256 * n
/-- PaLane.NtcBeta of number `n` (Table 12-9). -/
def paLaneNtcBeta (n : Nat) : Nat := 0x40100F + 256 * n
/-- PaLane.State of number `n` (Table 12-9). -/
def paLaneState (n : Nat) : Nat := 0x401010 + 256 * n
/-- PaLane.Telemetry of number `n` (Table 12-9). -/
def paLaneTelemetry (n : Nat) : Nat := 0x401011 + 256 * n
/-- PaLane.Sticky of number `n` (Table 12-9). -/
def paLaneSticky (n : Nat) : Nat := 0x401012 + 256 * n
/-- Hint.Window of number `n` (Table 12-10). -/
def hintWindow (n : Nat) : Nat := 0x402001 + 256 * n
/-- Hint.State of number `n` (Table 12-10). -/
def hintState (n : Nat) : Nat := 0x402002 + 256 * n
/-- Droop.Onset (Table 12-11). -/
def droopOnset : Nat := 0x410001
/-- Droop.Floor (Table 12-11). -/
def droopFloor : Nat := 0x410002
/-- Droop.Collapse (Table 12-11). -/
def droopCollapse : Nat := 0x410003
/-- Droop.Hysteresis (Table 12-11). -/
def droopHysteresis : Nat := 0x410004
/-- Droop.ClearTime (Table 12-11). -/
def droopClearTime : Nat := 0x410005
/-- Droop.RiseSlope (Table 12-11). -/
def droopRiseSlope : Nat := 0x410006
/-- Droop.Backoff (Table 12-11). -/
def droopBackoff : Nat := 0x410007
/-- Droop.PredictTime (Table 12-11). -/
def droopPredictTime : Nat := 0x410008
/-- Droop.State (Table 12-11). -/
def droopState : Nat := 0x410009
/-- Feed.Shunt (Table 12-11). -/
def feedShunt : Nat := 0x41000A
/-- Feed.Voltage (Table 12-11). -/
def feedVoltage : Nat := 0x41000B
/-- Feed.Current (Table 12-11). -/
def feedCurrent : Nat := 0x41000C
/-- Thermal.DerateStart (Table 12-11). -/
def thermalDerateStart : Nat := 0x41000D
/-- Thermal.DerateSlope (Table 12-11). -/
def thermalDerateSlope : Nat := 0x41000E
/-- Thermal.LaneStop (Table 12-11). -/
def thermalLaneStop : Nat := 0x41000F
/-- Thermal.LaneRestart (Table 12-11). -/
def thermalLaneRestart : Nat := 0x410010
/-- Thermal.DieTrip (Table 12-11). -/
def thermalDieTrip : Nat := 0x410011
/-- Seal.Mode (Table 12-11). -/
def sealMode : Nat := 0x410012
/-- Seal.ClearTime (Table 12-11). -/
def sealClearTime : Nat := 0x410013
/-- Seal.Clear (Table 12-11). -/
def sealClear : Nat := 0x410014
/-- Droop.Sticky (Table 12-11). -/
def droopSticky : Nat := 0x410015
/-- Droop.EventCount (Table 12-11). -/
def droopEventCount : Nat := 0x410016
/-- Energy.Total (Table 12-11). -/
def energyTotal : Nat := 0x420001
/-- Energy.UncountedSeconds (Table 12-11). -/
def energyUncountedSeconds : Nat := 0x420002
/-- Energy.FeedPower (Table 12-11). -/
def energyFeedPower : Nat := 0x420003
/-- RailSlot.Enable of number `n` (Table 13-10). -/
def railSlotEnable (n : Nat) : Nat := 0x500001 + 256 * n
/-- RailSlot.Label of number `n` (Table 13-10). -/
def railSlotLabel (n : Nat) : Nat := 0x500002 + 256 * n
/-- RailSlot.DependMask of number `n` (Table 13-10). -/
def railSlotDependMask (n : Nat) : Nat := 0x500003 + 256 * n
/-- RailSlot.Delay of number `n` (Table 13-10). -/
def railSlotDelay (n : Nat) : Nat := 0x500004 + 256 * n
/-- RailSlot.RampTime of number `n` (Table 13-10). -/
def railSlotRampTime (n : Nat) : Nat := 0x500005 + 256 * n
/-- RailSlot.Nominal of number `n` (Table 13-10). -/
def railSlotNominal (n : Nat) : Nat := 0x500006 + 256 * n
/-- RailSlot.SenseRatio of number `n` (Table 13-10). -/
def railSlotSenseRatio (n : Nat) : Nat := 0x500007 + 256 * n
/-- RailSlot.UvThreshold of number `n` (Table 13-10). -/
def railSlotUvThreshold (n : Nat) : Nat := 0x500008 + 256 * n
/-- RailSlot.OvThreshold of number `n` (Table 13-10). -/
def railSlotOvThreshold (n : Nat) : Nat := 0x500009 + 256 * n
/-- RailSlot.PgMode of number `n` (Table 13-10). -/
def railSlotPgMode (n : Nat) : Nat := 0x50000A + 256 * n
/-- RailSlot.Reaction of number `n` (Table 13-10). -/
def railSlotReaction (n : Nat) : Nat := 0x50000B + 256 * n
/-- RailSlot.Retries of number `n` (Table 13-10). -/
def railSlotRetries (n : Nat) : Nat := 0x50000C + 256 * n
/-- RailSlot.OvAction of number `n` (Table 13-10). -/
def railSlotOvAction (n : Nat) : Nat := 0x50000D + 256 * n
/-- RailSlot.OffTime of number `n` (Table 13-10). -/
def railSlotOffTime (n : Nat) : Nat := 0x50000E + 256 * n
/-- RailSlot.Reading of number `n` (Table 13-10). -/
def railSlotReading (n : Nat) : Nat := 0x50000F + 256 * n
/-- RailSlot.State of number `n` (Table 13-10). -/
def railSlotState (n : Nat) : Nat := 0x500010 + 256 * n
/-- RailSlot.MinSeen of number `n` (Table 13-10). -/
def railSlotMinSeen (n : Nat) : Nat := 0x500011 + 256 * n
/-- RailSlot.MaxSeen of number `n` (Table 13-10). -/
def railSlotMaxSeen (n : Nat) : Nat := 0x500012 + 256 * n
/-- RailSlot.FaultCount of number `n` (Table 13-10). -/
def railSlotFaultCount (n : Nat) : Nat := 0x500013 + 256 * n
/-- RailSlot.Sticky of number `n` (Table 13-10). -/
def railSlotSticky (n : Nat) : Nat := 0x500014 + 256 * n
/-- RailSeq.State (Table 13-11). -/
def railSeqState : Nat := 0x510001
/-- RailSeq.CoreSet (Table 13-11). -/
def railSeqCoreSet : Nat := 0x510002
/-- RailSeq.AnalogSlot (Table 13-11). -/
def railSeqAnalogSlot : Nat := 0x510003
/-- RailSeq.IoBSlot (Table 13-11). -/
def railSeqIoBSlot : Nat := 0x510004
/-- RailSeq.LvdsSlot (Table 13-11). -/
def railSeqLvdsSlot : Nat := 0x510005
/-- RailSeq.WarnLead (Table 13-11). -/
def railSeqWarnLead : Nat := 0x510006
/-- RailSeq.HoldupLead (Table 13-11). -/
def railSeqHoldupLead : Nat := 0x510007
/-- RailSeq.HoldupStep (Table 13-11). -/
def railSeqHoldupStep : Nat := 0x510008
/-- RailSeq.RetryBackoff (Table 13-11). -/
def railSeqRetryBackoff : Nat := 0x510009
/-- RailSeq.RetryReset (Table 13-11). -/
def railSeqRetryReset : Nat := 0x51000A
/-- RailSeq.PgFilter (Table 13-11). -/
def railSeqPgFilter : Nat := 0x51000B
/-- RailSeq.Attempt (Table 13-11). -/
def railSeqAttempt : Nat := 0x51000C
/-- RailSeq.LatchedSlot (Table 13-11). -/
def railSeqLatchedSlot : Nat := 0x51000D
/-- RailSeq.ClearLatch (Table 13-11). -/
def railSeqClearLatch : Nat := 0x51000E
/-- RailSeq.LastStartTime (Table 13-11). -/
def railSeqLastStartTime : Nat := 0x51000F
/-- RailSeq.PendingStart (Table 13-11). -/
def railSeqPendingStart : Nat := 0x510010
/-- RailSeq.FaultCount (Table 13-11). -/
def railSeqFaultCount : Nat := 0x510011
/-- RailSeq.ClearStats (Table 13-11). -/
def railSeqClearStats : Nat := 0x510012
/-- RailSeq.Sticky (Table 13-11). -/
def railSeqSticky : Nat := 0x510013
/-- Margin.Sticky (Table 13-12). -/
def marginSticky : Nat := 0x520001
/-- Margin.Slot of number `n` (Table 13-12). -/
def marginSlot (n : Nat) : Nat := 0x521001 + 256 * n
/-- Margin.Method of number `n` (Table 13-12). -/
def marginMethod (n : Nat) : Nat := 0x521002 + 256 * n
/-- Margin.PmbAddress of number `n` (Table 13-12). -/
def marginPmbAddress (n : Nat) : Nat := 0x521003 + 256 * n
/-- Margin.PmbPage of number `n` (Table 13-12). -/
def marginPmbPage (n : Nat) : Nat := 0x521004 + 256 * n
/-- Margin.Pec of number `n` (Table 13-12). -/
def marginPec (n : Nat) : Nat := 0x521005 + 256 * n
/-- Margin.VoutExponent of number `n` (Table 13-12). -/
def marginVoutExponent (n : Nat) : Nat := 0x521006 + 256 * n
/-- Margin.High of number `n` (Table 13-12). -/
def marginHigh (n : Nat) : Nat := 0x521007 + 256 * n
/-- Margin.Low of number `n` (Table 13-12). -/
def marginLow (n : Nat) : Nat := 0x521008 + 256 * n
/-- Margin.DacNeutral of number `n` (Table 13-12). -/
def marginDacNeutral (n : Nat) : Nat := 0x521009 + 256 * n
/-- Margin.DacHigh of number `n` (Table 13-12). -/
def marginDacHigh (n : Nat) : Nat := 0x52100A + 256 * n
/-- Margin.DacLow of number `n` (Table 13-12). -/
def marginDacLow (n : Nat) : Nat := 0x52100B + 256 * n
/-- Margin.Tolerance of number `n` (Table 13-12). -/
def marginTolerance (n : Nat) : Nat := 0x52100C + 256 * n
/-- Margin.Command of number `n` (Table 13-12). -/
def marginCommand (n : Nat) : Nat := 0x52100D + 256 * n
/-- Margin.State of number `n` (Table 13-12). -/
def marginState (n : Nat) : Nat := 0x52100E + 256 * n
/-- Tiu.Mode (Table 14-7). -/
def tiuMode : Nat := 0x600001
/-- Tiu.StartSource (Table 14-7). -/
def tiuStartSource : Nat := 0x600002
/-- Tiu.StopSource (Table 14-7). -/
def tiuStopSource : Nat := 0x600003
/-- Tiu.PinEdge (Table 14-7). -/
def tiuPinEdge : Nat := 0x600004
/-- Tiu.BeaconPath (Table 14-7). -/
def tiuBeaconPath : Nat := 0x600005
/-- Tiu.Timeout (Table 14-7). -/
def tiuTimeout : Nat := 0x600006
/-- Tiu.Arm (Table 14-7). -/
def tiuArm : Nat := 0x600007
/-- Tiu.Cancel (Table 14-7). -/
def tiuCancel : Nat := 0x600008
/-- Tiu.State (Table 14-7). -/
def tiuState : Nat := 0x600009
/-- Tiu.Result (Table 14-7). -/
def tiuResult : Nat := 0x60000A
/-- Tiu.Overwritten (Table 14-7). -/
def tiuOverwritten : Nat := 0x60000B
/-- Tiu.RefWarm (Table 14-7). -/
def tiuRefWarm : Nat := 0x60000C
/-- Tiu.OvenOk (Table 14-7). -/
def tiuOvenOk : Nat := 0x60000D
/-- Tiu.WarmTime (Table 14-7). -/
def tiuWarmTime : Nat := 0x60000E
/-- Tiu.RewarmTime (Table 14-7). -/
def tiuRewarmTime : Nat := 0x60000F
/-- Tiu.WarmRemaining (Table 14-7). -/
def tiuWarmRemaining : Nat := 0x600010
/-- Tiu.Sticky (Table 14-7). -/
def tiuSticky : Nat := 0x600011
/-- Tdr.Enable (Table 14-8). -/
def tdrEnable : Nat := 0x610001
/-- Tdr.VelocityFactor (Table 14-8). -/
def tdrVelocityFactor : Nat := 0x610002
/-- Tdr.Offset (Table 14-8). -/
def tdrOffset : Nat := 0x610003
/-- Tdr.LineLength (Table 14-8). -/
def tdrLineLength : Nat := 0x610004
/-- Tdr.Threshold (Table 14-8). -/
def tdrThreshold : Nat := 0x610005
/-- Tdr.Polarity (Table 14-8). -/
def tdrPolarity : Nat := 0x610006
/-- Tdr.Blank (Table 14-8). -/
def tdrBlank : Nat := 0x610007
/-- Tdr.Launches (Table 14-8). -/
def tdrLaunches : Nat := 0x610008
/-- Tdr.LaunchGap (Table 14-8). -/
def tdrLaunchGap : Nat := 0x610009
/-- Tdr.MinValid (Table 14-8). -/
def tdrMinValid : Nat := 0x61000A
/-- Tdr.MaxSpread (Table 14-8). -/
def tdrMaxSpread : Nat := 0x61000B
/-- Tdr.Period (Table 14-8). -/
def tdrPeriod : Nat := 0x61000C
/-- Tdr.RateWindow (Table 14-8). -/
def tdrRateWindow : Nat := 0x61000D
/-- Tdr.ValidAge (Table 14-8). -/
def tdrValidAge : Nat := 0x61000E
/-- Tdr.HeightMap (Table 14-8). -/
def tdrHeightMap : Nat := 0x61000F
/-- Tdr.SharedLine (Table 14-8). -/
def tdrSharedLine : Nat := 0x610010
/-- Tdr.Waterline (Table 14-8). -/
def tdrWaterline : Nat := 0x610011
/-- Tdr.BurstCount (Table 14-8). -/
def tdrBurstCount : Nat := 0x610012
/-- Tdr.AbandonCount (Table 14-8). -/
def tdrAbandonCount : Nat := 0x610013
/-- Tdr.Sticky (Table 14-8). -/
def tdrSticky : Nat := 0x610014
/-- Hk.Sticky (Table 15-12). -/
def hkSticky : Nat := 0x210001
/-- HkA.OverrunCount (Table 15-12). -/
def hkAOverrunCount : Nat := 0x210002
/-- HkB.OverrunCount (Table 15-12). -/
def hkBOverrunCount : Nat := 0x210003
/-- HkA.ScanTime (Table 15-12). -/
def hkAScanTime : Nat := 0x210004
/-- HkB.PassTime (Table 15-12). -/
def hkBPassTime : Nat := 0x210005
/-- HkB.StartLead (Table 15-12). -/
def hkBStartLead : Nat := 0x210006
/-- HkB.EntryCount (Table 15-12). -/
def hkBEntryCount : Nat := 0x210007
/-- HkA.Entry, number `n` from 0 (Table 15-12). -/
def hkAEntry (n : Nat) : Nat := 0x211001 + n
/-- HkA.Result, number `n` from 0 (Table 15-12). -/
def hkAResult (n : Nat) : Nat := 0x211101 + n
/-- HkB.Entry, number `n` from 0 (Table 15-12). -/
def hkBEntry (n : Nat) : Nat := 0x212001 + n
/-- HkB.Result, number `n` from 0 (Table 15-12). -/
def hkBResult (n : Nat) : Nat := 0x212101 + n
/-- Hk.ScapVoltage (Table 15-12). -/
def hkScapVoltage : Nat := 0x213001
/-- Hk.DieTemp0, number `n` from 0 (Table 15-12). -/
def hkDieTemp (n : Nat) : Nat := 0x213002 + n
/-- Hk.Spare0, number `n` from 0 (Table 15-12). -/
def hkSpare (n : Nat) : Nat := 0x213004 + n
/-- Hk.NtcTemp (Table 15-12). -/
def hkNtcTemp : Nat := 0x213006
/-- Lid.Enable (Table 15-13). -/
def lidEnable : Nat := 0x620001
/-- Lid.TouchDelta (Table 15-13). -/
def lidTouchDelta : Nat := 0x620002
/-- Lid.ReleaseDelta (Table 15-13). -/
def lidReleaseDelta : Nat := 0x620003
/-- Lid.TouchTime (Table 15-13). -/
def lidTouchTime : Nat := 0x620004
/-- Lid.CoverTime (Table 15-13). -/
def lidCoverTime : Nat := 0x620005
/-- Lid.IdleTrack (Table 15-13). -/
def lidIdleTrack : Nat := 0x620006
/-- Lid.CoveredTrack (Table 15-13). -/
def lidCoveredTrack : Nat := 0x620007
/-- Lid.State (Table 15-13). -/
def lidState : Nat := 0x620008
/-- Lid.Reading (Table 15-13). -/
def lidReading : Nat := 0x620009
/-- Lid.Baseline (Table 15-13). -/
def lidBaseline : Nat := 0x62000A
/-- Lid.StoredBaseline (Table 15-13). -/
def lidStoredBaseline : Nat := 0x62000B
/-- Lid.CoveredAtStart (Table 15-13). -/
def lidCoveredAtStart : Nat := 0x62000C
/-- Lid.TouchCount (Table 15-13). -/
def lidTouchCount : Nat := 0x62000D
/-- Lid.CoveredSeconds (Table 15-13). -/
def lidCoveredSeconds : Nat := 0x62000E
/-- Lid.Rebaseline (Table 15-13). -/
def lidRebaseline : Nat := 0x62000F
/-- Lid.Sticky (Table 15-13). -/
def lidSticky : Nat := 0x620010
/-- Cask.State (Table 16-11). -/
def caskState : Nat := 0x700001
/-- Cask.Ullage (Table 16-11). -/
def caskUllage : Nat := 0x700002
/-- Cask.WriteIndex (Table 16-11). -/
def caskWriteIndex : Nat := 0x700003
/-- Cask.Generation (Table 16-11). -/
def caskGeneration : Nat := 0x700004
/-- Cask.DroppedTotal (Table 16-11). -/
def caskDroppedTotal : Nat := 0x700005
/-- Cask.DroppedByClass (Table 16-11). -/
def caskDroppedByClass : Nat := 0x700006
/-- Cask.FirstSlot (Table 16-11). -/
def caskFirstSlot : Nat := 0x700007
/-- Cask.TornCount (Table 16-11). -/
def caskTornCount : Nat := 0x700008
/-- Cask.RetentionCount (Table 16-11). -/
def caskRetentionCount : Nat := 0x700009
/-- Cask.Suppressed (Table 16-11). -/
def caskSuppressed : Nat := 0x70000A
/-- Cask.Clear (Table 16-11). -/
def caskClear : Nat := 0x70000B
/-- Cask.Log (Table 16-11). -/
def caskLog : Nat := 0x70000C
/-- Cask.FloodDefault (Table 16-11). -/
def caskFloodDefault : Nat := 0x70000D
/-- Cask.FloodDefaultRate (Table 16-11). -/
def caskFloodDefaultRate : Nat := 0x70000E
/-- Cask.FloodRules (Table 16-11). -/
def caskFloodRules : Nat := 0x70000F
/-- Cask.Sticky (Table 16-11). -/
def caskSticky : Nat := 0x700010
/-- Vintage.Used (Table 16-12). -/
def vintageUsed : Nat := 0x710001
/-- Vintage.EventFree (Table 16-12). -/
def vintageEventFree : Nat := 0x710002
/-- Vintage.EventDropped (Table 16-12). -/
def vintageEventDropped : Nat := 0x710003
/-- Vintage.Pending (Table 16-12). -/
def vintagePending : Nat := 0x710004
/-- Vintage.Log (Table 16-12). -/
def vintageLog : Nat := 0x710005
/-- Vintage.Sticky (Table 16-12). -/
def vintageSticky : Nat := 0x710006
/-- Twin.Enable (Table 17-11). -/
def twinEnable : Nat := 0x800001
/-- Twin.PartnerSerial (Table 17-11). -/
def twinPartnerSerial : Nat := 0x800002
/-- Twin.Preferred (Table 17-11). -/
def twinPreferred : Nat := 0x800003
/-- Twin.PairKey (Table 17-11). -/
def twinPairKey : Nat := 0x800004
/-- Twin.Role (Table 17-11). -/
def twinRole : Nat := 0x800005
/-- Twin.LinkState (Table 17-11). -/
def twinLinkState : Nat := 0x800006
/-- Twin.PartnerAddress (Table 17-11). -/
def twinPartnerAddress : Nat := 0x800007
/-- Twin.RelayTime (Table 17-11). -/
def twinRelayTime : Nat := 0x800008
/-- Twin.StartWait (Table 17-11). -/
def twinStartWait : Nat := 0x800009
/-- Twin.ClaimInterval (Table 17-11). -/
def twinClaimInterval : Nat := 0x80000A
/-- Twin.WarmLanes (Table 17-11). -/
def twinWarmLanes : Nat := 0x80000B
/-- Twin.ProbeAgree (Table 17-11). -/
def twinProbeAgree : Nat := 0x80000C
/-- Twin.TakeoverBackoff (Table 17-11). -/
def twinTakeoverBackoff : Nat := 0x80000D
/-- Twin.StaleLimit (Table 17-11). -/
def twinStaleLimit : Nat := 0x80000E
/-- Twin.Handover (Table 17-11). -/
def twinHandover : Nat := 0x80000F
/-- Twin.Ready (Table 17-11). -/
def twinReady : Nat := 0x800010
/-- Twin.RackGeneration (Table 17-11). -/
def twinRackGeneration : Nat := 0x800011
/-- Twin.RackAge (Table 17-11). -/
def twinRackAge : Nat := 0x800012
/-- Twin.ConfigDigest (Table 17-11). -/
def twinConfigDigest : Nat := 0x800013
/-- Twin.TakeoverCount (Table 17-11). -/
def twinTakeoverCount : Nat := 0x800014
/-- Twin.LastTakeover (Table 17-11). -/
def twinLastTakeover : Nat := 0x800015
/-- Twin.LinkStats (Table 17-11). -/
def twinLinkStats : Nat := 0x800016
/-- Twin.KeyPresent (Table 17-11). -/
def twinKeyPresent : Nat := 0x800017
/-- Twin.Sticky (Table 17-11). -/
def twinSticky : Nat := 0x800018

end Obj

/-- Object rows of indices 0x1000–0x10FF. -/
def objRows10 : List ObjDef := [
  ⟨0x1000, 1, 0x01, 1, .utf8, 16, 0, .ro, 0x726f626c65727453, .any, .maskRom⟩,
  ⟨0x1000, 1, 0x02, 1, .utf8, 16, 0, .ro, 0x6d7573656f4e, .any, .maskRom⟩,
  ⟨0x1000, 1, 0x03, 1, .u16, 2, 0, .ro, 16918, .any, .maskRom⟩,
  ⟨0x1000, 1, 0x04, 1, .u8, 1, 0, .ro, 0, .any, .fuse⟩,
  ⟨0x1000, 1, 0x05, 1, .octets, 8, 0, .ro, 0, .any, .fuse⟩,
  ⟨0x1000, 1, 0x06, 1, .u32, 4, 0, .ro, 0, .any, .fuse⟩,
  ⟨0x1000, 1, 0x07, 1, .octets, 144, 0, .ro, 0, .any, .otp⟩,
  ⟨0x1000, 1, 0x08, 1, .u16, 2, 0, .ro, 0, .any, .derived⟩,
  ⟨0x1000, 1, 0x09, 1, .u32, 4, 0, .ro, 0, .any, .derived⟩,
  ⟨0x1000, 1, 0x0A, 1, .u32, 4, 0, .ro, 0, .any, .derived⟩,
  ⟨0x1000, 1, 0x0B, 1, .u32, 4, 0, .ro, 0, .any, .derived⟩]

/-- Object rows of indices 0x1100–0x11FF, part 1. -/
def objRows11p1 : List ObjDef := [
  ⟨0x1100, 1, 0x01, 1, .u16, 2, 0, .rw, 65535, .parts [(0, 255), (65535, 65535)], .persistent⟩,
  ⟨0x1100, 1, 0x02, 1, .u16, 2, 0, .ro, 0, .any, .volatile⟩,
  ⟨0x1100, 1, 0x03, 1, .u8, 1, 0, .rw, 0, .within 0 15, .persistent⟩,
  ⟨0x1100, 1, 0x04, 1, .u8, 1, 0, .rw, 255, .parts [(0, 15), (255, 255)], .persistent⟩,
  ⟨0x1100, 1, 0x05, 1, .u8, 1, 0, .rw, 1, .masked 0x3, .persistent⟩,
  ⟨0x1100, 1, 0x06, 1, .u8, 1, 0, .rw, 75, .oneOf [70, 75, 80, 85], .persistent⟩,
  ⟨0x1100, 1, 0x07, 1, .u16, 2, 0, .rw, 1000, .within 100 10000, .persistent⟩,
  ⟨0x1100, 1, 0x08, 1, .u16, 2, 0, .rw, 3500, .within 300 60000, .persistent⟩,
  ⟨0x1100, 1, 0x09, 1, .u16, 2, 0, .rw, 65535, .parts [(256, 510), (65535, 65535)], .persistent⟩,
  ⟨0x1100, 1, 0x0A, 1, .u16, 2, 0, .rw, 31, .masked 0xff, .persistent⟩,
  ⟨0x1100, 1, 0x0B, 1, .u16, 2, 0, .ro, 0, .any, .volatile⟩,
  ⟨0x1100, 1, 0x0C, 1, .u16, 2, 0, .rw, 50, .within 10 1000, .persistent⟩,
  ⟨0x1100, 1, 0x0D, 1, .u16, 2, 0, .rw, 2000, .within 100 30000, .persistent⟩,
  ⟨0x1100, 1, 0x0E, 1, .u16, 2, 0, .rw, 1000, .within 100 10000, .persistent⟩,
  ⟨0x1100, 1, 0x0F, 1, .octets, 64, 0, .ro, 0, .any, .volatile⟩,
  ⟨0x1100, 1, 0x10, 1, .octets, 24, 0, .ro, 0, .any, .persistent⟩,
  ⟨0x1100, 1, 0x11, 1, .u16, 2, 0, .rw1c, 0, .any, .persistent⟩,
  ⟨0x1100, 1, 0x12, 1, .u32, 4, 0, .ro, 0, .any, .persistent⟩,
  ⟨0x1110, 2, 0x01, 1, .u8, 1, 0, .ro, 0, .any, .volatile⟩,
  ⟨0x1110, 2, 0x02, 1, .u32, 4, 0, .ro, 0, .any, .persistent⟩,
  ⟨0x1110, 2, 0x03, 1, .u32, 4, 0, .ro, 0, .any, .persistent⟩,
  ⟨0x1110, 2, 0x04, 1, .u8, 1, 0, .ro, 0, .any, .volatile⟩,
  ⟨0x1110, 2, 0x05, 1, .u8, 1, 0, .ro, 0, .any, .volatile⟩,
  ⟨0x1110, 2, 0x06, 1, .u16, 2, 0, .ro, 0, .any, .persistent⟩]

/-- Object rows of indices 0x1100–0x11FF, part 2. -/
def objRows11p2 : List ObjDef := [
  ⟨0x1110, 2, 0x07, 1, .u32, 4, 0, .ro, 0, .any, .persistent⟩,
  ⟨0x1110, 2, 0x08, 1, .u32, 4, 0, .ro, 0, .any, .persistent⟩,
  ⟨0x1110, 2, 0x09, 1, .u32, 4, 0, .ro, 0, .any, .persistent⟩,
  ⟨0x1110, 2, 0x0A, 1, .u32, 4, 0, .ro, 0, .any, .persistent⟩,
  ⟨0x1110, 2, 0x0B, 1, .u32, 4, 0, .ro, 0, .any, .persistent⟩,
  ⟨0x1120, 1, 0x01, 1, .bool, 1, 0, .rw, 0, .oneOf [0, 1], .persistent⟩,
  ⟨0x1120, 1, 0x02, 1, .octets, 128, 0, .rw, 0, .custom .bridgeRoute, .persistent⟩,
  ⟨0x1120, 1, 0x03, 1, .u8, 1, 0, .rw, 3, .masked 0x3, .persistent⟩,
  ⟨0x1120, 1, 0x04, 1, .u8, 1, 0, .rw, 15, .within 1 15, .persistent⟩,
  ⟨0x1120, 1, 0x05, 1, .bool, 1, 0, .rw, 1, .oneOf [0, 1], .persistent⟩,
  ⟨0x1120, 1, 0x06, 1, .bool, 1, 0, .ro, 0, .any, .volatile⟩,
  ⟨0x1120, 1, 0x07, 1, .u32, 4, 0, .ro, 0, .any, .persistent⟩]

/-- Object rows of indices 0x1100–0x11FF. -/
def objRows11 : List ObjDef := objRows11p1 ++ objRows11p2

/-- Object rows of indices 0x1200–0x12FF. -/
def objRows12 : List ObjDef := [
  ⟨0x1200, 1, 0x01, 1, .u8, 1, 0, .rw1c, 0, .any, .persistent⟩,
  ⟨0x1200, 1, 0x02, 1, .u32, 4, 0, .ro, 0, .any, .persistent⟩,
  ⟨0x1200, 1, 0x03, 1, .u32, 4, 0, .ro, 0, .any, .persistent⟩,
  ⟨0x1200, 1, 0x04, 1, .u32, 4, 0, .rw, 1, .masked 0x1f, .volatile⟩,
  ⟨0x1200, 1, 0x05, 1, .u8, 1, 0, .ro, 0, .any, .volatile⟩]

/-- Object rows of indices 0x1400–0x14FF. -/
def objRows14 : List ObjDef := [
  ⟨0x1400, 1, 0x01, 1, .u16, 2, 0, .rw1c, 0, .any, .persistent⟩,
  ⟨0x1400, 1, 0x02, 1, .u16, 2, 0, .rw, 1000, .within 100 10000, .persistent⟩,
  ⟨0x1400, 1, 0x03, 1, .u16, 2, 0, .rw, 100, .within 20 1000, .persistent⟩,
  ⟨0x1400, 1, 0x04, 1, .u32, 4, 0, .ro, 0, .any, .persistent⟩,
  ⟨0x1400, 1, 0x05, 1, .u32, 4, 0, .ro, 0, .any, .persistent⟩,
  ⟨0x1400, 1, 0x06, 1, .u32, 4, 0, .ro, 0, .any, .persistent⟩,
  ⟨0x1400, 1, 0x07, 1, .u32, 4, 0, .ro, 0, .any, .persistent⟩,
  ⟨0x1400, 1, 0x08, 1, .octets, 8, 0, .ro, 0, .any, .persistent⟩,
  ⟨0x1400, 1, 0x09, 1, .u32, 4, 0, .ro, 0, .any, .persistent⟩,
  ⟨0x1400, 1, 0x0A, 1, .u32, 4, 0, .ro, 0, .any, .persistent⟩,
  ⟨0x1400, 1, 0x0B, 1, .u8, 1, 0, .ro, 0, .any, .volatile⟩,
  ⟨0x1400, 1, 0x0C, 1, .u32, 4, 0, .ro, 0, .any, .persistent⟩,
  ⟨0x1400, 1, 0x0D, 1, .u32, 4, 0, .ro, 0, .any, .persistent⟩,
  ⟨0x1400, 1, 0x0E, 1, .u32, 4, 0, .ro, 0, .any, .persistent⟩,
  ⟨0x1400, 1, 0x0F, 1, .bool, 1, 0, .wo, 0, .oneOf [1], .volatile⟩,
  ⟨0x1410, 1, 0x01, 128, .octets, 8, 0, .ro, 0, .any, .volatile⟩,
  ⟨0x1411, 1, 0x01, 128, .octets, 8, 0, .ro, 0, .any, .volatile⟩]

/-- Object rows of indices 0x1800–0x18FF, part 1. -/
def objRows18p1 : List ObjDef := [
  ⟨0x1800, 1, 0x01, 1, .u8, 1, 0, .ro, 0, .any, .volatile⟩,
  ⟨0x1800, 1, 0x02, 1, .u8, 1, 0, .rw, 0, .oneOf [2, 3, 4, 5, 6], .volatile⟩,
  ⟨0x1800, 1, 0x03, 1, .bool, 1, 0, .rw, 1, .oneOf [0, 1], .persistent⟩,
  ⟨0x1800, 1, 0x04, 1, .bool, 1, 0, .rw, 1, .oneOf [0, 1], .persistent⟩,
  ⟨0x1800, 1, 0x05, 1, .u8, 1, 0, .ro, 0, .any, .persistent⟩,
  ⟨0x1800, 1, 0x06, 1, .u16, 2, 0, .rw, 1000, .within 100 60000, .persistent⟩,
  ⟨0x1800, 1, 0x07, 1, .u16, 2, 0, .rw, 100, .within 10 10000, .persistent⟩,
  ⟨0x1800, 1, 0x08, 1, .u8, 1, 0, .rw, 15, .masked 0x1f, .persistent⟩,
  ⟨0x1800, 1, 0x09, 1, .u32, 4, 0, .rw, 0, .parts [(0, 0), (60, 2592000)], .persistent⟩,
  ⟨0x1800, 1, 0x0A, 1, .u8, 1, 0, .rw, 30, .within 1 240, .persistent⟩,
  ⟨0x1800, 1, 0x0B, 1, .bool, 1, 0, .rw, 1, .oneOf [0, 1], .persistent⟩,
  ⟨0x1800, 1, 0x0C, 1, .u32, 4, 0, .ro, 0, .any, .persistent⟩,
  ⟨0x1800, 1, 0x0D, 1, .u32, 4, 0, .ro, 0, .any, .persistent⟩,
  ⟨0x1800, 1, 0x0E, 1, .u32, 4, 0, .ro, 0, .any, .persistent⟩,
  ⟨0x1810, 1, 0x01, 1, .u8, 1, 0, .ro, 0, .any, .volatile⟩,
  ⟨0x1810, 1, 0x02, 1, .u16, 2, 0, .ro, 0, .any, .volatile⟩,
  ⟨0x1810, 1, 0x03, 1, .bool, 1, 0, .ro, 0, .any, .volatile⟩,
  ⟨0x1810, 1, 0x04, 1, .bool, 1, 0, .ro, 0, .any, .volatile⟩,
  ⟨0x1810, 1, 0x05, 1, .u32, 4, 0, .ro, 0, .any, .persistent⟩,
  ⟨0x1810, 1, 0x06, 1, .u32, 4, 0, .ro, 0, .any, .persistent⟩,
  ⟨0x1810, 1, 0x07, 1, .u16, 2, 0, .ro, 0, .any, .persistent⟩,
  ⟨0x1810, 1, 0x08, 1, .u8, 1, 0, .ro, 0, .any, .persistent⟩,
  ⟨0x1810, 1, 0x09, 1, .u16, 2, 0, .ro, 0, .any, .persistent⟩,
  ⟨0x1810, 1, 0x0A, 1, .u32, 4, 0, .ro, 0, .any, .persistent⟩]

/-- Object rows of indices 0x1800–0x18FF, part 2. -/
def objRows18p2 : List ObjDef := [
  ⟨0x1810, 1, 0x0B, 1, .u16, 2, 0, .rw1c, 0, .any, .persistent⟩,
  ⟨0x1820, 1, 0x01, 1, .u8, 1, 0, .rw, 5, .within 1 20, .persistent⟩,
  ⟨0x1820, 1, 0x02, 1, .u16, 2, 0, .rw, 100, .within 10 1000, .persistent⟩,
  ⟨0x1820, 1, 0x03, 1, .u16, 2, 0, .rw, 100, .within 10 1000, .persistent⟩,
  ⟨0x1820, 1, 0x04, 1, .u16, 2, 0, .ro, 0, .any, .persistent⟩,
  ⟨0x1820, 1, 0x05, 1, .u16, 2, 0, .ro, 0, .any, .persistent⟩,
  ⟨0x1820, 1, 0x06, 1, .u16, 2, 0, .ro, 0, .any, .persistent⟩,
  ⟨0x1820, 1, 0x07, 1, .bool, 1, 0, .ro, 0, .any, .persistent⟩]

/-- Object rows of indices 0x1800–0x18FF. -/
def objRows18 : List ObjDef := objRows18p1 ++ objRows18p2

/-- Object rows of indices 0x1A00–0x1AFF, part 1. -/
def objRows1Ap1 : List ObjDef := [
  ⟨0x1A00, 1, 0x01, 1, .u8, 1, 0, .ro, 0, .any, .fuse⟩,
  ⟨0x1A00, 1, 0x02, 1, .u8, 1, 0, .wo, 0, .oneOf [1, 2, 3], .volatile⟩,
  ⟨0x1A00, 1, 0x03, 1, .u16, 2, 0, .wo, 0, .any, .volatile⟩,
  ⟨0x1A00, 1, 0x04, 1, .bool, 1, 0, .rw, 0, .oneOf [0, 1], .persistent⟩,
  ⟨0x1A10, 1, 0x01, 1, .u8, 1, 0, .ro, 0, .any, .volatile⟩,
  ⟨0x1A10, 1, 0x02, 1, .u16, 2, 0, .rw, 300, .within 30 3600, .persistent⟩,
  ⟨0x1A10, 1, 0x03, 1, .u16, 2, 0, .rw, 1440, .within 10 10080, .persistent⟩,
  ⟨0x1A10, 1, 0x04, 1, .u16, 2, 0, .rw, 300, .within 60 3600, .persistent⟩,
  ⟨0x1A10, 1, 0x05, 1, .u8, 1, 0, .ro, 0, .any, .volatile⟩,
  ⟨0x1A10, 1, 0x06, 1, .u8, 1, 0, .ro, 0, .any, .volatile⟩,
  ⟨0x1A20, 1, 0x01, 4, .octets, 32, 60, .wo, 0, .any, .keyStore⟩,
  ⟨0x1A20, 1, 0x05, 1, .u8, 1, 0, .ro, 0, .any, .persistent⟩,
  ⟨0x1A20, 1, 0x06, 1, .octets, 64, 0, .ro, 0, .any, .keyStore⟩,
  ⟨0x1A20, 1, 0x07, 1, .octets, 64, 0, .ro, 0, .any, .keyStore⟩,
  ⟨0x1A20, 1, 0x08, 1, .octets, 64, 0, .ro, 0, .any, .derived⟩,
  ⟨0x1A30, 1, 0x01, 1, .u8, 1, 0, .ro, 0, .any, .volatile⟩,
  ⟨0x1A30, 1, 0x02, 1, .u8, 1, 0, .wo, 0, .within 0 2, .volatile⟩,
  ⟨0x1A30, 1, 0x03, 1, .u16, 2, 0, .rw, 600, .within 60 14400, .persistent⟩,
  ⟨0x1A30, 1, 0x04, 1, .octets, 16, 0, .ro, 0, .any, .volatile⟩,
  ⟨0x1A30, 1, 0x05, 1, .octets, 96, 0, .wo, 0, .any, .volatile⟩,
  ⟨0x1A40, 1, 0x01, 1, .u8, 1, 0, .rw, 0, .oneOf [0, 1], .persistent⟩,
  ⟨0x1A40, 1, 0x02, 1, .u8, 1, 0, .ro, 0, .any, .volatile⟩,
  ⟨0x1A40, 1, 0x03, 1, .u32, 4, 0, .ro, 0, .any, .volatile⟩,
  ⟨0x1A40, 1, 0x04, 1, .u8, 1, 0, .ro, 0, .any, .fuse⟩]

/-- Object rows of indices 0x1A00–0x1AFF, part 2. -/
def objRows1Ap2 : List ObjDef := [
  ⟨0x1A40, 1, 0x05, 1, .u16, 2, 0, .ro, 0, .any, .persistent⟩,
  ⟨0x1A40, 1, 0x06, 1, .bool, 1, 0, .wo, 0, .oneOf [1], .fuse⟩,
  ⟨0x1A40, 1, 0x07, 1, .bool, 1, 0, .ro, 0, .any, .persistent⟩,
  ⟨0x1A50, 1, 0x01, 1, .u16, 2, 0, .rw1c, 0, .any, .persistent⟩]

/-- Object rows of indices 0x1A00–0x1AFF. -/
def objRows1A : List ObjDef := objRows1Ap1 ++ objRows1Ap2

/-- Object rows of indices 0x2000–0x20FF. -/
def objRows20 : List ObjDef := [
  ⟨0x2000, 1, 0x01, 1, .u8, 1, 0, .rw, 0, .oneOf [0, 1, 2], .persistent⟩,
  ⟨0x2000, 1, 0x02, 1, .u8, 1, 0, .rw, 0, .oneOf [0, 1, 2], .persistent⟩,
  ⟨0x2000, 1, 0x03, 1, .u16, 2, 0, .rw, 64, .within 8 2048, .persistent⟩,
  ⟨0x2000, 1, 0x04, 1, .u16, 2, 0, .rw, 16, .within 1 4096, .persistent⟩,
  ⟨0x2000, 1, 0x05, 1, .u8, 1, 0, .rw, 3, .within 1 16, .persistent⟩,
  ⟨0x2000, 1, 0x06, 1, .u8, 1, 0, .ro, 0, .any, .volatile⟩,
  ⟨0x2000, 1, 0x07, 1, .u32, 4, 0, .ro, 0, .any, .persistent⟩,
  ⟨0x2000, 1, 0x08, 1, .u32, 4, 0, .ro, 0, .any, .persistent⟩,
  ⟨0x2000, 1, 0x09, 1, .bool, 1, 0, .rw, 0, .oneOf [0, 1], .persistent⟩,
  ⟨0x2000, 1, 0x0A, 1, .bool, 1, 0, .wo, 0, .oneOf [1], .volatile⟩,
  ⟨0x2000, 1, 0x0B, 1, .u32, 4, 0, .ro, 0, .any, .persistent⟩,
  ⟨0x2000, 1, 0x0C, 1, .u32, 4, 0, .ro, 0, .any, .persistent⟩,
  ⟨0x2000, 1, 0x0D, 1, .u32, 4, 0, .ro, 0, .any, .persistent⟩,
  ⟨0x2000, 1, 0x0E, 1, .u16, 2, 0, .rw1c, 0, .any, .persistent⟩,
  ⟨0x2010, 4, 0x01, 1, .u32, 4, 0, .ro, 0, .any, .persistent⟩,
  ⟨0x2010, 4, 0x02, 1, .bool, 1, 0, .rw, 0, .oneOf [0, 1], .persistent⟩,
  ⟨0x2010, 4, 0x03, 1, .u8, 1, 0, .rw, 20, .within 16 24, .persistent⟩,
  ⟨0x2010, 4, 0x04, 1, .i32, 4, 0, .ro, 0, .any, .volatile⟩,
  ⟨0x2010, 4, 0x05, 1, .bool, 1, 0, .ro, 0, .any, .volatile⟩,
  ⟨0x2010, 4, 0x06, 1, .u8, 1, 0, .ro, 0, .any, .volatile⟩]

/-- Object rows of indices 0x2100–0x21FF, part 1. -/
def objRows21p1 : List ObjDef := [
  ⟨0x2100, 1, 0x01, 1, .u8, 1, 0, .rw1c, 0, .any, .persistent⟩,
  ⟨0x2100, 1, 0x02, 1, .u32, 4, 0, .ro, 0, .any, .persistent⟩,
  ⟨0x2100, 1, 0x03, 1, .u32, 4, 0, .ro, 0, .any, .persistent⟩,
  ⟨0x2100, 1, 0x04, 1, .u32, 4, 0, .ro, 1024, .any, .derived⟩,
  ⟨0x2100, 1, 0x05, 1, .u32, 4, 0, .ro, 512, .any, .derived⟩,
  ⟨0x2100, 1, 0x06, 1, .u16, 2, 0, .rw, 2000, .within 0 10000, .persistent⟩,
  ⟨0x2100, 1, 0x07, 1, .u8, 1, 0, .rw, 16, .within 1 16, .persistent⟩,
  ⟨0x2110, 1, 0x01, 16, .octets, 2, 0, .rw, 2, .custom .hkaEntry, .persistent⟩,
  ⟨0x2111, 1, 0x01, 16, .octets, 4, 0, .ro, 0, .any, .volatile⟩,
  ⟨0x2120, 1, 0x01, 1, .octets, 4, 0, .rw, 256, .custom .hkbEntry, .persistent⟩,
  ⟨0x2120, 1, 0x02, 1, .octets, 4, 0, .rw, 0x30101, .custom .hkbEntry, .persistent⟩,
  ⟨0x2120, 1, 0x03, 1, .octets, 4, 0, .rw, 258, .custom .hkbEntry, .persistent⟩,
  ⟨0x2120, 1, 0x04, 1, .octets, 4, 0, .rw, 259, .custom .hkbEntry, .persistent⟩,
  ⟨0x2120, 1, 0x05, 1, .octets, 4, 0, .rw, 256, .custom .hkbEntry, .persistent⟩,
  ⟨0x2120, 1, 0x06, 1, .octets, 4, 0, .rw, 0x30101, .custom .hkbEntry, .persistent⟩,
  ⟨0x2120, 1, 0x07, 1, .octets, 4, 0, .rw, 260, .custom .hkbEntry, .persistent⟩,
  ⟨0x2120, 1, 0x08, 1, .octets, 4, 0, .rw, 263, .custom .hkbEntry, .persistent⟩,
  ⟨0x2120, 1, 0x09, 1, .octets, 4, 0, .rw, 256, .custom .hkbEntry, .persistent⟩,
  ⟨0x2120, 1, 0x0A, 1, .octets, 4, 0, .rw, 0x30101, .custom .hkbEntry, .persistent⟩,
  ⟨0x2120, 1, 0x0B, 1, .octets, 4, 0, .rw, 261, .custom .hkbEntry, .persistent⟩,
  ⟨0x2120, 1, 0x0C, 1, .octets, 4, 0, .rw, 264, .custom .hkbEntry, .persistent⟩,
  ⟨0x2120, 1, 0x0D, 1, .octets, 4, 0, .rw, 256, .custom .hkbEntry, .persistent⟩,
  ⟨0x2120, 1, 0x0E, 1, .octets, 4, 0, .rw, 0x30101, .custom .hkbEntry, .persistent⟩,
  ⟨0x2120, 1, 0x0F, 1, .octets, 4, 0, .rw, 262, .custom .hkbEntry, .persistent⟩]

/-- Object rows of indices 0x2100–0x21FF, part 2. -/
def objRows21p2 : List ObjDef := [
  ⟨0x2120, 1, 0x10, 1, .octets, 4, 0, .rw, 268, .custom .hkbEntry, .persistent⟩,
  ⟨0x2121, 1, 0x01, 16, .octets, 4, 0, .ro, 0, .any, .volatile⟩,
  ⟨0x2130, 1, 0x01, 1, .u16, 2, 0, .ro, 0, .any, .volatile⟩,
  ⟨0x2130, 1, 0x02, 2, .i16, 2, 0, .ro, 0, .any, .volatile⟩,
  ⟨0x2130, 1, 0x04, 2, .u16, 2, 0, .ro, 0, .any, .volatile⟩,
  ⟨0x2130, 1, 0x06, 1, .octets, 8, 0, .ro, 0, .any, .volatile⟩]

/-- Object rows of indices 0x2100–0x21FF. -/
def objRows21 : List ObjDef := objRows21p1 ++ objRows21p2

/-- Object rows of indices 0x2200–0x22FF. -/
def objRows22 : List ObjDef := [
  ⟨0x2210, 16, 0x01, 1, .u32, 4, 0, .rw1c, 0, .any, .persistent⟩,
  ⟨0x2210, 16, 0x02, 1, .u32, 4, 0, .ro, 0, .any, .persistent⟩,
  ⟨0x2210, 16, 0x03, 1, .u8, 1, 0, .rw, 0, .oneOf [0, 1], .persistent⟩,
  ⟨0x2210, 16, 0x04, 1, .u8, 1, 0, .rw, 10, .within 4 20, .persistent⟩,
  ⟨0x2210, 16, 0x05, 1, .u8, 1, 0, .rw, 4, .within 1 15, .persistent⟩,
  ⟨0x2210, 16, 0x06, 1, .u8, 1, 0, .rw, 10, .within 1 20, .persistent⟩,
  ⟨0x2210, 16, 0x07, 1, .i16, 2, 0, .rw, 64536, .within (-9000) 0, .persistent⟩,
  ⟨0x2210, 16, 0x08, 1, .i16, 2, 0, .rw, 62536, .within (-9000) 0, .persistent⟩,
  ⟨0x2210, 16, 0x09, 1, .octets, 16, 0, .ro, 0, .any, .volatile⟩,
  ⟨0x2210, 16, 0x0A, 1, .octets, 16, 0, .ro, 0, .any, .volatile⟩,
  ⟨0x2210, 16, 0x0B, 1, .i16, 2, 0, .ro, 32768, .any, .volatile⟩,
  ⟨0x2210, 16, 0x0C, 1, .bool, 1, 0, .ro, 0, .any, .volatile⟩,
  ⟨0x2210, 16, 0x0D, 1, .u32, 4, 0, .ro, 0, .any, .persistent⟩,
  ⟨0x2210, 16, 0x0E, 1, .u32, 4, 0, .ro, 0, .any, .derived⟩,
  ⟨0x2210, 16, 0x0F, 1, .u32, 4, 0, .ro, 0, .any, .derived⟩,
  ⟨0x2210, 16, 0x10, 1, .u16, 2, 0, .ro, 0, .any, .volatile⟩,
  ⟨0x2210, 16, 0x11, 1, .u32, 4, 0, .ro, 0, .any, .persistent⟩,
  ⟨0x2210, 16, 0x12, 1, .u8, 1, 0, .rw1c, 0, .any, .persistent⟩]

/-- Object rows of indices 0x3000–0x30FF, part 1. -/
def objRows30p1 : List ObjDef := [
  ⟨0x3000, 16, 0x01, 1, .bool, 1, 0, .rw, 0, .oneOf [0, 1], .persistent⟩,
  ⟨0x3000, 16, 0x02, 1, .u8, 1, 0, .rw, 0, .oneOf [0, 1], .persistent⟩,
  ⟨0x3000, 16, 0x03, 1, .u8, 1, 0, .rw, 0, .oneOf [0, 1], .persistent⟩,
  ⟨0x3000, 16, 0x04, 1, .u8, 1, 0, .rw, 255, .parts [(0, 15), (255, 255)], .persistent⟩,
  ⟨0x3000, 16, 0x05, 1, .u8, 1, 0, .rw, 0, .oneOf [0, 1], .persistent⟩,
  ⟨0x3000, 16, 0x06, 1, .u8, 1, 0, .rw, 20, .oneOf [5, 8, 12, 13, 20, 26, 28, 133, 136, 148, 156, 224, 225], .persistent⟩,
  ⟨0x3000, 16, 0x07, 1, .u32, 4, 0, .rw, 0, .within 0 1100000, .persistent⟩,
  ⟨0x3000, 16, 0x08, 1, .u32, 4, 0, .rw, 200, .within 10 49152, .persistent⟩,
  ⟨0x3000, 16, 0x09, 1, .i32, 4, 0, .rw, 0, .any, .persistent⟩,
  ⟨0x3000, 16, 0x0A, 1, .i32, 4, 0, .rw, 0, .any, .persistent⟩,
  ⟨0x3000, 16, 0x0B, 1, .u8, 1, 0, .rw, 9, .within 3 9, .persistent⟩,
  ⟨0x3000, 16, 0x0C, 1, .octets, 64, 0, .rw, 0x40000000000000000000000000000000000000000000000000000000000000000000000000000000000000000000000000000000000000000000000000000000, .any, .persistent⟩,
  ⟨0x3000, 16, 0x0D, 1, .u8, 1, 0, .rw, 1, .oneOf [0, 1, 2], .persistent⟩,
  ⟨0x3000, 16, 0x0E, 1, .u8, 1, 0, .rw1c, 0, .any, .persistent⟩,
  ⟨0x3010, 1, 0x01, 1, .u32, 4, 0, .rw, 0, .parts [(0, 0), (400000, 1100000)], .persistent⟩,
  ⟨0x3010, 1, 0x02, 1, .u32, 4, 0, .rw, 0, .parts [(0, 0), (400000, 1100000)], .persistent⟩,
  ⟨0x3010, 1, 0x03, 1, .u32, 4, 0, .rw, 0, .parts [(0, 0), (400000, 1100000)], .persistent⟩,
  ⟨0x3010, 1, 0x04, 1, .u32, 4, 0, .rw, 0, .parts [(0, 0), (400000, 1100000)], .persistent⟩,
  ⟨0x3010, 1, 0x05, 1, .u8, 1, 0, .rw, 24, .within 8 240, .persistent⟩,
  ⟨0x3010, 1, 0x06, 1, .u8, 1, 0, .rw, 24, .within 8 240, .persistent⟩,
  ⟨0x3010, 1, 0x07, 1, .u16, 2, 0, .rw, 0, .any, .persistent⟩,
  ⟨0x3010, 1, 0x08, 1, .u8, 1, 0, .rw, 255, .parts [(0, 15), (255, 255)], .persistent⟩,
  ⟨0x3010, 1, 0x09, 1, .u8, 1, 0, .rw, 255, .parts [(0, 15), (255, 255)], .persistent⟩,
  ⟨0x3010, 1, 0x0A, 1, .u8, 1, 0, .rw, 5, .within 1 100, .persistent⟩]

/-- Object rows of indices 0x3000–0x30FF, part 2. -/
def objRows30p2 : List ObjDef := [
  ⟨0x3010, 1, 0x0B, 1, .u16, 2, 0, .rw, 0, .any, .persistent⟩,
  ⟨0x3010, 1, 0x0C, 1, .u16, 2, 0, .rw, 0, .any, .persistent⟩,
  ⟨0x3010, 1, 0x0D, 1, .u16, 2, 0, .rw, 0, .any, .persistent⟩,
  ⟨0x3010, 1, 0x0E, 1, .octets, 12, 0, .rw, 0, .custom .attenDesc, .persistent⟩,
  ⟨0x3010, 1, 0x0F, 1, .octets, 12, 0, .rw, 0, .custom .attenDesc, .persistent⟩,
  ⟨0x3010, 1, 0x10, 1, .bool, 1, 0, .wo, 0, .oneOf [1], .volatile⟩,
  ⟨0x3010, 1, 0x11, 1, .u8, 1, 0, .ro, 0, .any, .volatile⟩,
  ⟨0x3011, 1, 0x01, 64, .octets, 12, 0, .rw, 0, .custom .feEntry, .persistent⟩]

/-- Object rows of indices 0x3000–0x30FF. -/
def objRows30 : List ObjDef := objRows30p1 ++ objRows30p2

/-- Object rows of indices 0x3100–0x31FF, part 1. -/
def objRows31p1 : List ObjDef := [
  ⟨0x3100, 1, 0x01, 2, .i16, 2, 0, .rw, 6000, .within 0 10000, .persistent⟩,
  ⟨0x3100, 1, 0x03, 2, .i16, 2, 0, .rw, 3000, .within (-2000) 5000, .persistent⟩,
  ⟨0x3100, 1, 0x05, 2, .u8, 1, 0, .rw, 0, .within 0 160, .persistent⟩,
  ⟨0x3100, 1, 0x07, 1, .i16, 2, 0, .rw, 63536, .within (-3000) (-1000), .persistent⟩,
  ⟨0x3100, 1, 0x08, 1, .u8, 1, 0, .rw, 16, .within 4 64, .persistent⟩,
  ⟨0x3100, 1, 0x09, 1, .i16, 2, 0, .rw, 60536, .within (-8000) (-3000), .persistent⟩,
  ⟨0x3100, 1, 0x0A, 1, .u16, 2, 0, .rw, 1000, .within 0 3000, .persistent⟩,
  ⟨0x3100, 1, 0x0B, 1, .u16, 2, 0, .rw, 50, .within 5 50, .persistent⟩,
  ⟨0x3100, 1, 0x0C, 1, .u16, 2, 0, .rw, 1000, .within 100 1000, .persistent⟩,
  ⟨0x3100, 1, 0x0D, 1, .u8, 1, 0, .rw, 5, .within 0 60, .persistent⟩,
  ⟨0x3100, 1, 0x0E, 1, .u8, 1, 0, .rw, 0, .oneOf [0, 1], .persistent⟩,
  ⟨0x3100, 1, 0x0F, 1, .bool, 1, 0, .rw, 0, .oneOf [0, 1], .persistent⟩,
  ⟨0x3100, 1, 0x10, 1, .u16, 2, 0, .rw, 10, .within 1 3600, .persistent⟩,
  ⟨0x3100, 1, 0x11, 1, .u16, 2, 0, .rw, 100, .within 20 1000, .persistent⟩,
  ⟨0x3100, 1, 0x12, 1, .u16, 2, 0, .rw, 60, .within 1 3600, .persistent⟩,
  ⟨0x3100, 1, 0x13, 1, .u16, 2, 0, .rw, 9000, .within 5000 9900, .persistent⟩,
  ⟨0x3100, 1, 0x14, 1, .i16, 2, 0, .rw, 63536, .within (-6000) 0, .persistent⟩,
  ⟨0x3100, 1, 0x15, 1, .u8, 1, 0, .rw, 2, .within 1 8, .persistent⟩,
  ⟨0x3100, 1, 0x16, 1, .u16, 2, 0, .rw1c, 0, .any, .persistent⟩,
  ⟨0x3110, 16, 0x01, 1, .i16, 2, 0, .rw, 0, .within 0 12000, .persistent⟩,
  ⟨0x3110, 16, 0x02, 1, .u16, 2, 0, .rw, 1500, .within 1000 3000, .persistent⟩,
  ⟨0x3110, 16, 0x03, 1, .i16, 2, 0, .rw, 0, .within (-1000) 1000, .persistent⟩,
  ⟨0x3110, 16, 0x04, 1, .i16, 2, 0, .rw, 0, .within 0 12000, .persistent⟩,
  ⟨0x3110, 16, 0x05, 1, .octets, 64, 0, .rw, 0xffffffffffffffffffffffffffffffffffffffffffffffffffffffffffffffffffffffffffffffffffffffffffffffffffffffffffffffffffffffffffffffff, .any, .persistent⟩]

/-- Object rows of indices 0x3100–0x31FF, part 2. -/
def objRows31p2 : List ObjDef := [
  ⟨0x3110, 16, 0x06, 1, .u8, 1, 0, .ro, 0, .any, .volatile⟩,
  ⟨0x3110, 16, 0x07, 1, .i16, 2, 0, .ro, 0, .any, .volatile⟩,
  ⟨0x3110, 16, 0x08, 1, .octets, 16, 0, .ro, 0, .any, .volatile⟩,
  ⟨0x3110, 16, 0x09, 1, .octets, 16, 0, .ro, 0, .any, .volatile⟩,
  ⟨0x3110, 16, 0x0A, 1, .u16, 2, 0, .ro, 0, .any, .volatile⟩,
  ⟨0x3110, 16, 0x0B, 1, .u32, 4, 0, .ro, 0, .any, .persistent⟩,
  ⟨0x3110, 16, 0x0C, 1, .i16, 2, 0, .ro, 32768, .any, .volatile⟩,
  ⟨0x3110, 16, 0x0D, 1, .i16, 2, 0, .ro, 32768, .any, .volatile⟩]

/-- Object rows of indices 0x3100–0x31FF. -/
def objRows31 : List ObjDef := objRows31p1 ++ objRows31p2

/-- Object rows of indices 0x3200–0x32FF. -/
def objRows32 : List ObjDef := [
  ⟨0x3200, 1, 0x01, 1, .u8, 1, 0, .ro, 0, .any, .persistent⟩,
  ⟨0x3200, 1, 0x02, 1, .u16, 2, 0, .ro, 0, .any, .derived⟩,
  ⟨0x3200, 1, 0x03, 1, .u16, 2, 0, .rw, 300, .within 60 3600, .persistent⟩,
  ⟨0x3200, 1, 0x04, 1, .u16, 2, 0, .rw, 3600, .within 600 43200, .persistent⟩,
  ⟨0x3200, 1, 0x05, 1, .bool, 1, 0, .rw, 1, .oneOf [0, 1], .persistent⟩,
  ⟨0x3200, 1, 0x06, 1, .bool, 1, 0, .wo, 0, .oneOf [1], .volatile⟩,
  ⟨0x3200, 1, 0x07, 1, .u16, 2, 0, .wo, 0, .oneOf [23823], .volatile⟩,
  ⟨0x3200, 1, 0x08, 1, .u16, 2, 0, .rw, 300, .within 100 900, .persistent⟩,
  ⟨0x3200, 1, 0x09, 1, .u16, 2, 0, .rw, 1000, .within 100 10000, .persistent⟩,
  ⟨0x3200, 1, 0x0A, 1, .i16, 2, 0, .rw, 58536, .within (-12000) (-3000), .persistent⟩,
  ⟨0x3200, 1, 0x0B, 1, .u16, 2, 0, .rw, 300, .within 100 1000, .persistent⟩,
  ⟨0x3200, 1, 0x0C, 1, .u16, 2, 0, .rw, 1000, .within 100 60000, .persistent⟩,
  ⟨0x3200, 1, 0x0D, 2, .i16, 2, 0, .rw, 2000, .within (-1000) 4600, .persistent⟩,
  ⟨0x3200, 1, 0x0F, 1, .u16, 2, 0, .rw, 300, .within 100 1000, .persistent⟩,
  ⟨0x3200, 1, 0x10, 1, .u32, 4, 0, .ro, 0, .any, .persistent⟩,
  ⟨0x3200, 1, 0x11, 1, .u8, 1, 0, .ro, 0, .any, .persistent⟩,
  ⟨0x3200, 1, 0x12, 1, .u32, 4, 0, .ro, 0, .any, .persistent⟩,
  ⟨0x3200, 1, 0x13, 1, .u32, 4, 0, .ro, 0, .any, .persistent⟩,
  ⟨0x3200, 1, 0x14, 1, .u8, 1, 0, .rw1c, 0, .any, .persistent⟩,
  ⟨0x3210, 1, 0x01, 16, .octets, 256, 0, .ro, 0, .any, .persistent⟩]

/-- Object rows of indices 0x3300–0x33FF. -/
def objRows33 : List ObjDef := [
  ⟨0x3300, 1, 0x01, 1, .bool, 1, 0, .rw, 0, .oneOf [0, 1], .persistent⟩,
  ⟨0x3300, 1, 0x02, 1, .u8, 1, 0, .rw, 0, .masked 0x7, .persistent⟩,
  ⟨0x3300, 1, 0x03, 1, .i16, 2, 0, .rw, 59536, .within (-9000) 0, .persistent⟩,
  ⟨0x3300, 1, 0x04, 1, .i16, 2, 0, .rw, 58936, .within (-9000) 0, .persistent⟩,
  ⟨0x3300, 1, 0x05, 1, .u16, 2, 0, .rw, 16, .within 4 1000, .persistent⟩,
  ⟨0x3300, 1, 0x06, 1, .u16, 2, 0, .rw, 1000, .within 100 50000, .persistent⟩,
  ⟨0x3300, 1, 0x07, 1, .u16, 2, 0, .rw, 200, .within 10 2000, .persistent⟩,
  ⟨0x3300, 1, 0x08, 1, .u16, 2, 0, .rw, 200, .within 50 10000, .persistent⟩,
  ⟨0x3300, 1, 0x09, 1, .u8, 1, 0, .rw, 0, .oneOf [0, 1], .persistent⟩,
  ⟨0x3300, 1, 0x0A, 1, .u16, 2, 0, .rw, 10, .within 1 600, .persistent⟩,
  ⟨0x3300, 1, 0x0B, 1, .u8, 1, 0, .ro, 0, .any, .volatile⟩,
  ⟨0x3300, 1, 0x0C, 1, .u32, 4, 0, .ro, 0, .any, .persistent⟩,
  ⟨0x3300, 1, 0x0D, 1, .u32, 4, 0, .ro, 0, .any, .persistent⟩,
  ⟨0x3300, 1, 0x0E, 1, .u8, 1, 0, .ro, 0, .any, .volatile⟩,
  ⟨0x3300, 1, 0x0F, 1, .u8, 1, 0, .rw1c, 0, .any, .persistent⟩]

/-- Object rows of indices 0x4000–0x40FF, part 1. -/
def objRows40p1 : List ObjDef := [
  ⟨0x4000, 1, 0x01, 1, .u16, 2, 0, .rw, 600, .within 100 2000, .persistent⟩,
  ⟨0x4000, 1, 0x02, 1, .u8, 1, 0, .rw, 5, .within 2 20, .persistent⟩,
  ⟨0x4000, 1, 0x03, 1, .u8, 1, 0, .rw, 20, .within 0 100, .persistent⟩,
  ⟨0x4000, 1, 0x04, 1, .u16, 2, 0, .rw, 500, .within 100 5000, .persistent⟩,
  ⟨0x4000, 1, 0x05, 1, .u16, 2, 0, .rw, 30, .within 1 600, .persistent⟩,
  ⟨0x4000, 1, 0x06, 1, .u16, 2, 0, .ro, 0, .any, .volatile⟩,
  ⟨0x4000, 1, 0x07, 1, .u16, 2, 0, .ro, 0, .any, .volatile⟩,
  ⟨0x4000, 1, 0x08, 1, .u16, 2, 0, .ro, 0, .any, .volatile⟩,
  ⟨0x4000, 1, 0x09, 1, .octets, 6, 0, .ro, 0, .any, .volatile⟩,
  ⟨0x4000, 1, 0x0A, 1, .octets, 32, 0, .ro, 0, .any, .volatile⟩,
  ⟨0x4000, 1, 0x0B, 1, .u8, 1, 0, .rw1c, 0, .any, .persistent⟩,
  ⟨0x4001, 1, 0x01, 1, .u8, 1, 0, .rw, 0, .oneOf [0, 1], .persistent⟩,
  ⟨0x4001, 1, 0x02, 1, .u32, 4, 0, .ro, 0, .any, .persistent⟩,
  ⟨0x4010, 4, 0x01, 1, .bool, 1, 0, .rw, 0, .oneOf [0, 1], .persistent⟩,
  ⟨0x4010, 4, 0x02, 1, .u16, 2, 0, .rw, 0, .any, .persistent⟩,
  ⟨0x4010, 4, 0x03, 1, .u8, 1, 0, .rw, 64, .within 8 119, .persistent⟩,
  ⟨0x4010, 4, 0x04, 1, .u8, 1, 0, .rw, 255, .parts [(0, 31), (255, 255)], .persistent⟩,
  ⟨0x4010, 4, 0x05, 1, .bool, 1, 0, .rw, 1, .oneOf [0, 1], .persistent⟩,
  ⟨0x4010, 4, 0x06, 1, .i8, 1, 0, .rw, 244, .within (-16) (-1), .persistent⟩,
  ⟨0x4010, 4, 0x07, 1, .u16, 2, 0, .rw, 2800, .within 100 6000, .persistent⟩,
  ⟨0x4010, 4, 0x08, 1, .u16, 2, 0, .rw, 0, .within 0 1023, .persistent⟩,
  ⟨0x4010, 4, 0x09, 1, .u16, 2, 0, .rw, 0, .within 0 1023, .persistent⟩,
  ⟨0x4010, 4, 0x0A, 1, .u8, 1, 0, .rw, 4, .within 1 100, .persistent⟩,
  ⟨0x4010, 4, 0x0B, 1, .u16, 2, 0, .rw, 50, .within 0 1000, .persistent⟩]

/-- Object rows of indices 0x4000–0x40FF, part 2. -/
def objRows40p2 : List ObjDef := [
  ⟨0x4010, 4, 0x0C, 1, .u16, 2, 0, .rw, 400, .within 50 900, .persistent⟩,
  ⟨0x4010, 4, 0x0D, 1, .i16, 2, 0, .ro, 0, .any, .persistent⟩,
  ⟨0x4010, 4, 0x0E, 1, .u16, 2, 0, .ro, 1000, .any, .volatile⟩,
  ⟨0x4010, 4, 0x0F, 1, .u16, 2, 0, .rw, 3435, .within 2000 5000, .persistent⟩,
  ⟨0x4010, 4, 0x10, 1, .u8, 1, 0, .ro, 0, .any, .volatile⟩,
  ⟨0x4010, 4, 0x11, 1, .octets, 16, 0, .ro, 0, .any, .volatile⟩,
  ⟨0x4010, 4, 0x12, 1, .u8, 1, 0, .rw1c, 0, .any, .persistent⟩,
  ⟨0x4020, 2, 0x01, 1, .octets, 12, 0, .rw, 0, .masked 0xFFFFFFFFFFFFFFFFFFFF, .persistent⟩,
  ⟨0x4020, 2, 0x02, 1, .u8, 1, 0, .ro, 0, .any, .volatile⟩]

/-- Object rows of indices 0x4000–0x40FF. -/
def objRows40 : List ObjDef := objRows40p1 ++ objRows40p2

/-- Object rows of indices 0x4100–0x41FF. -/
def objRows41 : List ObjDef := [
  ⟨0x4100, 1, 0x01, 1, .u16, 2, 0, .rw, 440, .within 300 600, .persistent⟩,
  ⟨0x4100, 1, 0x02, 1, .u16, 2, 0, .rw, 400, .within 300 600, .persistent⟩,
  ⟨0x4100, 1, 0x03, 1, .u16, 2, 0, .rw, 360, .within 200 600, .persistent⟩,
  ⟨0x4100, 1, 0x04, 1, .u8, 1, 0, .rw, 5, .within 1 50, .persistent⟩,
  ⟨0x4100, 1, 0x05, 1, .u16, 2, 0, .rw, 1000, .within 100 60000, .persistent⟩,
  ⟨0x4100, 1, 0x06, 1, .u8, 1, 0, .rw, 5, .within 1 50, .persistent⟩,
  ⟨0x4100, 1, 0x07, 1, .u16, 2, 0, .rw, 100, .within 50 600, .persistent⟩,
  ⟨0x4100, 1, 0x08, 1, .u8, 1, 0, .rw, 20, .within 0 100, .persistent⟩,
  ⟨0x4100, 1, 0x09, 1, .u8, 1, 0, .ro, 0, .any, .volatile⟩,
  ⟨0x4100, 1, 0x0A, 1, .u16, 2, 0, .rw, 100, .within 1 10000, .persistent⟩,
  ⟨0x4100, 1, 0x0B, 1, .u16, 2, 0, .ro, 0, .any, .volatile⟩,
  ⟨0x4100, 1, 0x0C, 1, .i16, 2, 0, .ro, 0, .any, .volatile⟩,
  ⟨0x4100, 1, 0x0D, 1, .i16, 2, 0, .rw, 850, .within 400 1200, .persistent⟩,
  ⟨0x4100, 1, 0x0E, 1, .u16, 2, 0, .rw, 50, .within 10 500, .persistent⟩,
  ⟨0x4100, 1, 0x0F, 1, .i16, 2, 0, .rw, 1050, .within 600 1400, .persistent⟩,
  ⟨0x4100, 1, 0x10, 1, .i16, 2, 0, .rw, 950, .within 500 1300, .persistent⟩,
  ⟨0x4100, 1, 0x11, 1, .i16, 2, 0, .rw, 1100, .within 900 1100, .persistent⟩,
  ⟨0x4100, 1, 0x12, 1, .u8, 1, 0, .rw, 1, .oneOf [0, 1], .persistent⟩,
  ⟨0x4100, 1, 0x13, 1, .u16, 2, 0, .rw, 60, .within 10 3600, .persistent⟩,
  ⟨0x4100, 1, 0x14, 1, .bool, 1, 0, .wo, 0, .oneOf [1], .volatile⟩,
  ⟨0x4100, 1, 0x15, 1, .u8, 1, 0, .rw1c, 0, .any, .persistent⟩,
  ⟨0x4100, 1, 0x16, 1, .u32, 4, 0, .ro, 0, .any, .persistent⟩]

/-- Object rows of indices 0x4200–0x42FF. -/
def objRows42 : List ObjDef := [
  ⟨0x4200, 1, 0x01, 1, .u64, 8, 0, .ro, 0, .any, .persistent⟩,
  ⟨0x4200, 1, 0x02, 1, .u32, 4, 0, .ro, 0, .any, .persistent⟩,
  ⟨0x4200, 1, 0x03, 1, .u32, 4, 0, .ro, 0, .any, .volatile⟩]

/-- Object rows of indices 0x5000–0x50FF, part 1. -/
def objRows50p1 : List ObjDef := [
  ⟨0x5000, 4, 0x01, 1, .bool, 1, 0, .rw, 1, .oneOf [0, 1], .persistent⟩,
  ⟨0x5000, 16, 0x02, 1, .utf8, 12, 0, .rw, 0, .any, .persistent⟩,
  ⟨0x5000, 1, 0x03, 1, .u16, 2, 0, .rw, 0, .any, .persistent⟩,
  ⟨0x5000, 16, 0x04, 1, .u16, 2, 0, .rw, 50, .within 0 65535, .persistent⟩,
  ⟨0x5000, 16, 0x05, 1, .u16, 2, 0, .rw, 200, .within 10 65535, .persistent⟩,
  ⟨0x5000, 1, 0x06, 1, .u16, 2, 0, .rw, 800, .within 300 60000, .persistent⟩,
  ⟨0x5000, 1, 0x07, 1, .u16, 2, 0, .rw, 1000, .within 1000 65000, .persistent⟩,
  ⟨0x5000, 1, 0x08, 1, .u16, 2, 0, .rw, 745, .any, .persistent⟩,
  ⟨0x5000, 1, 0x09, 1, .u16, 2, 0, .rw, 860, .any, .persistent⟩,
  ⟨0x5000, 16, 0x0A, 1, .u8, 1, 0, .rw, 0, .oneOf [0, 1], .persistent⟩,
  ⟨0x5000, 16, 0x0B, 1, .u8, 1, 0, .rw, 1, .oneOf [0, 1], .persistent⟩,
  ⟨0x5000, 16, 0x0C, 1, .u8, 1, 0, .rw, 3, .within 0 7, .persistent⟩,
  ⟨0x5000, 16, 0x0D, 1, .u8, 1, 0, .rw, 0, .oneOf [0, 1], .persistent⟩,
  ⟨0x5000, 16, 0x0E, 1, .u16, 2, 0, .rw, 1000, .within 1 65535, .persistent⟩,
  ⟨0x5000, 16, 0x0F, 1, .u16, 2, 0, .ro, 0, .any, .volatile⟩,
  ⟨0x5000, 16, 0x10, 1, .u8, 1, 0, .ro, 0, .any, .volatile⟩,
  ⟨0x5000, 16, 0x11, 1, .u16, 2, 0, .ro, 65535, .any, .persistent⟩,
  ⟨0x5000, 16, 0x12, 1, .u16, 2, 0, .ro, 0, .any, .persistent⟩,
  ⟨0x5000, 16, 0x13, 1, .u16, 2, 0, .ro, 0, .any, .persistent⟩,
  ⟨0x5000, 16, 0x14, 1, .u8, 1, 0, .rw1c, 0, .any, .persistent⟩,
  ⟨0x5001, 3, 0x03, 1, .u16, 2, 0, .rw, 1, .any, .persistent⟩,
  ⟨0x5001, 15, 0x06, 1, .u16, 2, 0, .rw, 1800, .within 300 60000, .persistent⟩,
  ⟨0x5001, 15, 0x07, 1, .u16, 2, 0, .rw, 2500, .within 1000 65000, .persistent⟩,
  ⟨0x5001, 15, 0x08, 1, .u16, 2, 0, .rw, 1710, .any, .persistent⟩]

/-- Object rows of indices 0x5000–0x50FF, part 2. -/
def objRows50p2 : List ObjDef := [
  ⟨0x5001, 15, 0x09, 1, .u16, 2, 0, .rw, 1890, .any, .persistent⟩,
  ⟨0x5004, 12, 0x01, 1, .bool, 1, 0, .rw, 0, .oneOf [0, 1], .persistent⟩,
  ⟨0x5004, 12, 0x03, 1, .u16, 2, 0, .rw, 0, .any, .persistent⟩]

/-- Object rows of indices 0x5000–0x50FF. -/
def objRows50 : List ObjDef := objRows50p1 ++ objRows50p2

/-- Object rows of indices 0x5100–0x51FF. -/
def objRows51 : List ObjDef := [
  ⟨0x5100, 1, 0x01, 1, .u8, 1, 0, .ro, 0, .any, .volatile⟩,
  ⟨0x5100, 1, 0x02, 1, .u16, 2, 0, .rw, 15, .any, .persistent⟩,
  ⟨0x5100, 1, 0x03, 1, .u8, 1, 0, .rw, 1, .within 1 15, .persistent⟩,
  ⟨0x5100, 1, 0x04, 1, .u8, 1, 0, .rw, 2, .within 1 15, .persistent⟩,
  ⟨0x5100, 1, 0x05, 1, .u8, 1, 0, .rw, 3, .within 1 15, .persistent⟩,
  ⟨0x5100, 1, 0x06, 1, .u8, 1, 0, .rw, 15, .within 1 100, .persistent⟩,
  ⟨0x5100, 1, 0x07, 1, .u8, 1, 0, .rw, 1, .within 0 10, .persistent⟩,
  ⟨0x5100, 1, 0x08, 1, .u16, 2, 0, .rw, 1000, .within 100 5000, .persistent⟩,
  ⟨0x5100, 1, 0x09, 1, .u16, 2, 0, .rw, 200, .within 10 10000, .persistent⟩,
  ⟨0x5100, 1, 0x0A, 1, .u16, 2, 0, .rw, 600, .within 60 3600, .persistent⟩,
  ⟨0x5100, 1, 0x0B, 1, .u16, 2, 0, .rw, 50, .within 10 1000, .persistent⟩,
  ⟨0x5100, 1, 0x0C, 1, .u8, 1, 0, .ro, 1, .any, .alwaysOn⟩,
  ⟨0x5100, 1, 0x0D, 1, .u8, 1, 0, .ro, 255, .any, .persistent⟩,
  ⟨0x5100, 1, 0x0E, 1, .bool, 1, 0, .wo, 0, .oneOf [1], .volatile⟩,
  ⟨0x5100, 1, 0x0F, 1, .u32, 4, 0, .ro, 0, .any, .persistent⟩,
  ⟨0x5100, 1, 0x10, 1, .bool, 1, 0, .ro, 0, .any, .persistent⟩,
  ⟨0x5100, 1, 0x11, 1, .u32, 4, 0, .ro, 0, .any, .persistent⟩,
  ⟨0x5100, 1, 0x12, 1, .bool, 1, 0, .wo, 0, .oneOf [1], .volatile⟩,
  ⟨0x5100, 1, 0x13, 1, .u8, 1, 0, .rw1c, 0, .any, .persistent⟩]

/-- Object rows of indices 0x5200–0x52FF. -/
def objRows52 : List ObjDef := [
  ⟨0x5200, 1, 0x01, 1, .u8, 1, 0, .rw1c, 0, .any, .persistent⟩,
  ⟨0x5210, 4, 0x01, 1, .u8, 1, 0, .rw, 255, .parts [(0, 15), (255, 255)], .persistent⟩,
  ⟨0x5210, 4, 0x02, 1, .u8, 1, 0, .rw, 0, .oneOf [0, 1], .persistent⟩,
  ⟨0x5210, 4, 0x03, 1, .u8, 1, 0, .rw, 64, .within 8 119, .persistent⟩,
  ⟨0x5210, 4, 0x04, 1, .u8, 1, 0, .rw, 255, .parts [(0, 31), (255, 255)], .persistent⟩,
  ⟨0x5210, 4, 0x05, 1, .bool, 1, 0, .rw, 1, .oneOf [0, 1], .persistent⟩,
  ⟨0x5210, 4, 0x06, 1, .i8, 1, 0, .rw, 244, .within (-16) (-1), .persistent⟩,
  ⟨0x5210, 4, 0x07, 1, .u16, 2, 0, .rw, 0, .any, .persistent⟩,
  ⟨0x5210, 4, 0x08, 1, .u16, 2, 0, .rw, 0, .any, .persistent⟩,
  ⟨0x5210, 4, 0x09, 1, .u16, 2, 0, .rw, 512, .within 0 1023, .persistent⟩,
  ⟨0x5210, 4, 0x0A, 1, .u16, 2, 0, .rw, 512, .within 0 1023, .persistent⟩,
  ⟨0x5210, 4, 0x0B, 1, .u16, 2, 0, .rw, 512, .within 0 1023, .persistent⟩,
  ⟨0x5210, 4, 0x0C, 1, .u16, 2, 0, .rw, 10, .within 2 50, .persistent⟩,
  ⟨0x5210, 4, 0x0D, 1, .u8, 1, 0, .rw, 0, .oneOf [0, 1, 2], .volatile⟩,
  ⟨0x5210, 4, 0x0E, 1, .u8, 1, 0, .ro, 0, .any, .volatile⟩]

/-- Object rows of indices 0x6000–0x60FF. -/
def objRows60 : List ObjDef := [
  ⟨0x6000, 1, 0x01, 1, .u8, 1, 0, .rw, 0, .oneOf [0, 1], .persistent⟩,
  ⟨0x6000, 1, 0x02, 1, .u8, 1, 0, .rw, 0, .oneOf [0, 1, 2], .persistent⟩,
  ⟨0x6000, 1, 0x03, 1, .u8, 1, 0, .rw, 0, .oneOf [0, 1], .persistent⟩,
  ⟨0x6000, 1, 0x04, 1, .u8, 1, 0, .rw, 0, .masked 0x3, .persistent⟩,
  ⟨0x6000, 1, 0x05, 1, .u8, 1, 0, .rw, 255, .parts [(0, 15), (255, 255)], .persistent⟩,
  ⟨0x6000, 1, 0x06, 1, .u16, 2, 0, .rw, 1000, .within 0 13000, .persistent⟩,
  ⟨0x6000, 1, 0x07, 1, .bool, 1, 0, .wo, 0, .oneOf [1], .volatile⟩,
  ⟨0x6000, 1, 0x08, 1, .bool, 1, 0, .wo, 0, .oneOf [1], .volatile⟩,
  ⟨0x6000, 1, 0x09, 1, .u8, 1, 0, .ro, 0, .any, .volatile⟩,
  ⟨0x6000, 1, 0x0A, 1, .octets, 16, 0, .ro, 0, .any, .volatile⟩,
  ⟨0x6000, 1, 0x0B, 1, .u32, 4, 0, .ro, 0, .any, .persistent⟩,
  ⟨0x6000, 1, 0x0C, 1, .bool, 1, 0, .ro, 1, .any, .volatile⟩,
  ⟨0x6000, 1, 0x0D, 1, .bool, 1, 0, .ro, 0, .any, .volatile⟩,
  ⟨0x6000, 1, 0x0E, 1, .u16, 2, 0, .rw, 300, .within 60 3600, .persistent⟩,
  ⟨0x6000, 1, 0x0F, 1, .u16, 2, 0, .rw, 10, .within 1 600, .persistent⟩,
  ⟨0x6000, 1, 0x10, 1, .u16, 2, 0, .ro, 0, .any, .volatile⟩,
  ⟨0x6000, 1, 0x11, 1, .u8, 1, 0, .rw1c, 0, .any, .persistent⟩]

/-- Object rows of indices 0x6100–0x61FF. -/
def objRows61 : List ObjDef := [
  ⟨0x6100, 1, 0x01, 1, .bool, 1, 0, .rw, 0, .oneOf [0, 1], .persistent⟩,
  ⟨0x6100, 1, 0x02, 1, .u16, 2, 0, .rw, 6600, .within 3000 10000, .persistent⟩,
  ⟨0x6100, 1, 0x03, 1, .u16, 2, 0, .rw, 0, .within 0 20000, .persistent⟩,
  ⟨0x6100, 1, 0x04, 1, .u16, 2, 0, .rw, 3000, .within 500 20000, .persistent⟩,
  ⟨0x6100, 1, 0x05, 1, .u16, 2, 0, .rw, 810, .within 0 1800, .persistent⟩,
  ⟨0x6100, 1, 0x06, 1, .u8, 1, 0, .rw, 0, .oneOf [0, 1], .persistent⟩,
  ⟨0x6100, 1, 0x07, 1, .u32, 4, 0, .rw, 5000, .within 2000 200000, .persistent⟩,
  ⟨0x6100, 1, 0x08, 1, .u16, 2, 0, .rw, 64, .within 8 256, .persistent⟩,
  ⟨0x6100, 1, 0x09, 1, .u8, 1, 0, .rw, 10, .within 2 100, .persistent⟩,
  ⟨0x6100, 1, 0x0A, 1, .u16, 2, 0, .rw, 48, .within 1 256, .persistent⟩,
  ⟨0x6100, 1, 0x0B, 1, .u16, 2, 0, .rw, 1000, .within 50 20000, .persistent⟩,
  ⟨0x6100, 1, 0x0C, 1, .u16, 2, 0, .rw, 1000, .within 100 60000, .persistent⟩,
  ⟨0x6100, 1, 0x0D, 1, .u8, 1, 0, .rw, 10, .within 3 120, .persistent⟩,
  ⟨0x6100, 1, 0x0E, 1, .u16, 2, 0, .rw, 5, .within 1 600, .persistent⟩,
  ⟨0x6100, 1, 0x0F, 1, .octets, 32, 0, .rw, 0xffffffffffffffffffffffffffffffffffffffffffffffffffffffffffffffff, .any, .persistent⟩,
  ⟨0x6100, 1, 0x10, 1, .bool, 1, 0, .rw, 0, .oneOf [0, 1], .persistent⟩,
  ⟨0x6100, 1, 0x11, 1, .octets, 16, 0, .ro, 32768, .any, .volatile⟩,
  ⟨0x6100, 1, 0x12, 1, .u32, 4, 0, .ro, 0, .any, .persistent⟩,
  ⟨0x6100, 1, 0x13, 1, .u32, 4, 0, .ro, 0, .any, .persistent⟩,
  ⟨0x6100, 1, 0x14, 1, .u8, 1, 0, .rw1c, 0, .any, .persistent⟩]

/-- Object rows of indices 0x6200–0x62FF. -/
def objRows62 : List ObjDef := [
  ⟨0x6200, 1, 0x01, 1, .bool, 1, 0, .rw, 1, .oneOf [0, 1], .persistent⟩,
  ⟨0x6200, 1, 0x02, 1, .u16, 2, 0, .rw, 800, .within 100 20000, .persistent⟩,
  ⟨0x6200, 1, 0x03, 1, .u16, 2, 0, .rw, 300, .within 50 10000, .persistent⟩,
  ⟨0x6200, 1, 0x04, 1, .u16, 2, 0, .rw, 2000, .within 500 10000, .persistent⟩,
  ⟨0x6200, 1, 0x05, 1, .u16, 2, 0, .rw, 20, .within 5 600, .persistent⟩,
  ⟨0x6200, 1, 0x06, 1, .u16, 2, 0, .rw, 50, .within 0 1000, .persistent⟩,
  ⟨0x6200, 1, 0x07, 1, .u16, 2, 0, .rw, 10, .within 0 100, .persistent⟩,
  ⟨0x6200, 1, 0x08, 1, .u8, 1, 0, .ro, 0, .any, .volatile⟩,
  ⟨0x6200, 1, 0x09, 1, .u32, 4, 0, .ro, 0, .any, .volatile⟩,
  ⟨0x6200, 1, 0x0A, 1, .u32, 4, 0, .ro, 0, .any, .volatile⟩,
  ⟨0x6200, 1, 0x0B, 1, .u32, 4, 0, .ro, 0xffffffff, .any, .persistent⟩,
  ⟨0x6200, 1, 0x0C, 1, .bool, 1, 0, .ro, 0, .any, .volatile⟩,
  ⟨0x6200, 1, 0x0D, 1, .u32, 4, 0, .ro, 0, .any, .persistent⟩,
  ⟨0x6200, 1, 0x0E, 1, .u32, 4, 0, .ro, 0, .any, .persistent⟩,
  ⟨0x6200, 1, 0x0F, 1, .bool, 1, 0, .wo, 0, .oneOf [1], .volatile⟩,
  ⟨0x6200, 1, 0x10, 1, .u8, 1, 0, .rw1c, 0, .any, .persistent⟩]

/-- Object rows of indices 0x7000–0x70FF. -/
def objRows70 : List ObjDef := [
  ⟨0x7000, 1, 0x01, 1, .u8, 1, 0, .ro, 0, .any, .persistent⟩,
  ⟨0x7000, 1, 0x02, 1, .u16, 2, 0, .ro, 2048, .any, .persistent⟩,
  ⟨0x7000, 1, 0x03, 1, .u16, 2, 0, .ro, 0, .any, .persistent⟩,
  ⟨0x7000, 1, 0x04, 1, .u32, 4, 0, .ro, 0, .any, .persistent⟩,
  ⟨0x7000, 1, 0x05, 1, .u32, 4, 0, .ro, 0, .any, .persistent⟩,
  ⟨0x7000, 1, 0x06, 1, .octets, 96, 0, .ro, 0, .any, .persistent⟩,
  ⟨0x7000, 1, 0x07, 1, .octets, 80, 0, .ro, 0xffffffffffffffffffffffffffffffffffffffffffffffffffffffffffffffffffffffffffffffffffffffffffffffffffffffffffffffffffffffffffffffffffffffffffffffffffffffffffffffff, .any, .persistent⟩,
  ⟨0x7000, 1, 0x08, 1, .u16, 2, 0, .ro, 0, .any, .persistent⟩,
  ⟨0x7000, 1, 0x09, 1, .u16, 2, 0, .ro, 0, .any, .persistent⟩,
  ⟨0x7000, 1, 0x0A, 1, .u32, 4, 0, .ro, 0, .any, .persistent⟩,
  ⟨0x7000, 1, 0x0B, 1, .u16, 2, 0, .wo, 0, .oneOf [51804], .volatile⟩,
  ⟨0x7000, 1, 0x0C, 1, .octets, 65536, 0, .ro, 0, .any, .persistent⟩,
  ⟨0x7000, 1, 0x0D, 1, .u8, 1, 0, .rw, 0, .oneOf [0, 1], .persistent⟩,
  ⟨0x7000, 1, 0x0E, 1, .u8, 1, 0, .rw, 12, .within 1 255, .persistent⟩,
  ⟨0x7000, 1, 0x0F, 1, .octets, 128, 0, .rw, 0xffffffffffffffffffffffffffffffffffffffffffffffffffffffffffffffffffffffffffffffffffffffffffffffffffffffffffffffffffffffffffffffffffffffffffffffffffffffffffffffffffffffffffffffffffffffffffffffffffffffffffffffffffffffffffffffffffffffffffffffffffffffffffffffff, .custom .floodRules, .persistent⟩,
  ⟨0x7000, 1, 0x10, 1, .u8, 1, 0, .rw1c, 0, .any, .persistent⟩]

/-- Object rows of indices 0x7100–0x71FF. -/
def objRows71 : List ObjDef := [
  ⟨0x7100, 1, 0x01, 1, .u8, 1, 0, .ro, 0, .any, .fuse⟩,
  ⟨0x7100, 1, 0x02, 1, .u8, 1, 0, .ro, 16, .any, .fuse⟩,
  ⟨0x7100, 1, 0x03, 1, .u32, 4, 0, .ro, 0, .any, .persistent⟩,
  ⟨0x7100, 1, 0x04, 1, .u8, 1, 0, .ro, 0, .any, .volatile⟩,
  ⟨0x7100, 1, 0x05, 1, .octets, 2048, 0, .ro, 0, .any, .fuse⟩,
  ⟨0x7100, 1, 0x06, 1, .u8, 1, 0, .rw1c, 0, .any, .persistent⟩]

/-- Object rows of indices 0x7200–0x72FF. -/
def objRows72 : List ObjDef := [
  ⟨0x7200, 1, 0x01, 1, .u32, 4, 0, .ro, 0, .any, .derived⟩,
  ⟨0x7200, 1, 0x02, 1, .u16, 2, 0, .wo, 0, .oneOf [49642], .volatile⟩,
  ⟨0x7200, 1, 0x03, 1, .u16, 2, 0, .rw1c, 0, .any, .persistent⟩,
  ⟨0x7200, 1, 0x04, 1, .u32, 4, 0, .ro, 0, .any, .persistent⟩,
  ⟨0x7200, 1, 0x05, 1, .octets, 8, 0, .ro, 0, .any, .persistent⟩,
  ⟨0x7200, 1, 0x06, 1, .u32, 4, 0, .ro, 0, .any, .persistent⟩,
  ⟨0x7200, 1, 0x07, 1, .octets, 8, 0, .ro, 0, .any, .persistent⟩,
  ⟨0x7210, 1, 0x01, 1, .u32, 4, 0, .ro, 0, .any, .persistent⟩,
  ⟨0x7210, 1, 0x02, 1, .u8, 1, 0, .ro, 0, .any, .volatile⟩,
  ⟨0x7210, 1, 0x03, 1, .u8, 1, 0, .ro, 0, .any, .volatile⟩,
  ⟨0x7210, 1, 0x04, 1, .u32, 4, 0, .ro, 0, .any, .persistent⟩]

/-- Object rows of indices 0x8000–0x80FF. -/
def objRows80 : List ObjDef := [
  ⟨0x8000, 1, 0x01, 1, .bool, 1, 0, .rw, 0, .oneOf [0, 1], .persistent⟩,
  ⟨0x8000, 1, 0x02, 1, .octets, 8, 0, .rw, 0, .any, .persistent⟩,
  ⟨0x8000, 1, 0x03, 1, .bool, 1, 0, .rw, 0, .oneOf [0, 1], .persistent⟩,
  ⟨0x8000, 1, 0x04, 1, .octets, 32, 60, .wo, 0, .any, .keyStore⟩,
  ⟨0x8000, 1, 0x05, 1, .u8, 1, 0, .ro, 0, .any, .volatile⟩,
  ⟨0x8000, 1, 0x06, 1, .u8, 1, 0, .ro, 0, .any, .volatile⟩,
  ⟨0x8000, 1, 0x07, 1, .u16, 2, 0, .ro, 65535, .any, .volatile⟩,
  ⟨0x8000, 1, 0x08, 1, .u8, 1, 0, .rw, 10, .within 2 50, .persistent⟩,
  ⟨0x8000, 1, 0x09, 1, .u16, 2, 0, .rw, 2000, .within 500 30000, .persistent⟩,
  ⟨0x8000, 1, 0x0A, 1, .u16, 2, 0, .rw, 1000, .within 100 60000, .persistent⟩,
  ⟨0x8000, 1, 0x0B, 1, .bool, 1, 0, .rw, 1, .oneOf [0, 1], .persistent⟩,
  ⟨0x8000, 1, 0x0C, 1, .u16, 2, 0, .rw, 300, .within 100 1000, .persistent⟩,
  ⟨0x8000, 1, 0x0D, 1, .u16, 2, 0, .rw, 300, .within 0 3000, .persistent⟩,
  ⟨0x8000, 1, 0x0E, 1, .u16, 2, 0, .rw, 200, .within 100 5000, .persistent⟩,
  ⟨0x8000, 1, 0x0F, 1, .bool, 1, 0, .wo, 0, .oneOf [1], .volatile⟩,
  ⟨0x8000, 1, 0x10, 1, .u16, 2, 0, .ro, 0, .any, .volatile⟩,
  ⟨0x8000, 1, 0x11, 1, .u32, 4, 0, .ro, 0, .any, .volatile⟩,
  ⟨0x8000, 1, 0x12, 1, .u16, 2, 0, .ro, 65535, .any, .volatile⟩,
  ⟨0x8000, 1, 0x13, 1, .octets, 32, 0, .ro, 0, .any, .derived⟩,
  ⟨0x8000, 1, 0x14, 1, .u32, 4, 0, .ro, 0, .any, .persistent⟩,
  ⟨0x8000, 1, 0x15, 1, .octets, 16, 0, .ro, 0, .any, .persistent⟩,
  ⟨0x8000, 1, 0x16, 1, .octets, 16, 0, .ro, 0, .any, .persistent⟩,
  ⟨0x8000, 1, 0x17, 1, .bool, 1, 0, .ro, 0, .any, .keyStore⟩,
  ⟨0x8000, 1, 0x18, 1, .u16, 2, 0, .rw1c, 0, .any, .persistent⟩]

/-- Object rows of indices 0x9000–0x90FF. -/
def objRows90 : List ObjDef := [
  ⟨0x9000, 1, 0x01, 1, .u8, 1, 0, .ro, 0, .any, .derived⟩,
  ⟨0x9000, 1, 0x02, 1, .u8, 1, 0, .ro, 0, .any, .persistent⟩,
  ⟨0x9000, 1, 0x03, 1, .u32, 4, 0, .wo, 0, .within 512 1572864, .volatile⟩,
  ⟨0x9000, 1, 0x04, 1, .octets, 0, 0, .wo, 0, .any, .volatile⟩,
  ⟨0x9000, 1, 0x05, 1, .u32, 4, 0, .ro, 0, .any, .volatile⟩,
  ⟨0x9000, 1, 0x06, 1, .bool, 1, 0, .wo, 0, .oneOf [1], .volatile⟩,
  ⟨0x9000, 1, 0x07, 1, .bool, 1, 0, .wo, 0, .oneOf [1], .volatile⟩,
  ⟨0x9000, 1, 0x08, 1, .u8, 1, 0, .ro, 0, .any, .persistent⟩,
  ⟨0x9000, 1, 0x09, 1, .bool, 1, 0, .wo, 0, .oneOf [1], .volatile⟩,
  ⟨0x9000, 1, 0x0A, 1, .u32, 4, 0, .ro, 0, .any, .persistent⟩,
  ⟨0x9000, 1, 0x0B, 1, .u8, 1, 0, .rw1c, 0, .any, .persistent⟩,
  ⟨0x9010, 1, 0x01, 1, .u16, 2, 0, .rw, 120, .within 10 3600, .persistent⟩,
  ⟨0x9010, 1, 0x02, 1, .u16, 2, 0, .wo, 0, .oneOf [57072], .volatile⟩]

/-- The object rows whose index has the given high byte. -/
def objRows : Nat → List ObjDef
  | 0x10 => objRows10
  | 0x11 => objRows11
  | 0x12 => objRows12
  | 0x14 => objRows14
  | 0x18 => objRows18
  | 0x1A => objRows1A
  | 0x20 => objRows20
  | 0x21 => objRows21
  | 0x22 => objRows22
  | 0x30 => objRows30
  | 0x31 => objRows31
  | 0x32 => objRows32
  | 0x33 => objRows33
  | 0x40 => objRows40
  | 0x41 => objRows41
  | 0x42 => objRows42
  | 0x50 => objRows50
  | 0x51 => objRows51
  | 0x52 => objRows52
  | 0x60 => objRows60
  | 0x61 => objRows61
  | 0x62 => objRows62
  | 0x70 => objRows70
  | 0x71 => objRows71
  | 0x72 => objRows72
  | 0x80 => objRows80
  | 0x90 => objRows90
  | _ => []

/-- Every high byte that holds an object. -/
def objHighBytes : List Nat := [0x10, 0x11, 0x12, 0x14, 0x18, 0x1A, 0x20, 0x21, 0x22, 0x30, 0x31, 0x32, 0x33, 0x40, 0x41, 0x42, 0x50, 0x51, 0x52, 0x60, 0x61, 0x62, 0x70, 0x71, 0x72, 0x80, 0x90]

/-- Whether a row covers index.sub. -/
def ObjDef.covers (d : ObjDef) (index sub : Nat) : Bool :=
  decide (d.ix ≤ index ∧ index < d.ix + d.nIx ∧ d.sub ≤ sub ∧ sub < d.sub + d.nSub)

/-- The row of index.sub, if the dictionary defines it. -/
def findObj (index sub : Nat) : Option ObjDef :=
  (objRows (index / 256)).find? (fun d => d.covers index sub)

/-- The row of a store key. -/
def objOf (k : Nat) : Option ObjDef := findObj (k / 256) (k % 256)

/-- Whether an index is defined (R3). -/
def indexDefined (index : Nat) : Bool :=
  (objRows (index / 256)).any (fun d => decide (d.ix ≤ index ∧ index < d.ix + d.nIx))

/-- The highest sub-index defined in an index (R147). -/
def highestSub (index : Nat) : Nat :=
  (objRows (index / 256)).foldl
    (fun m d => if d.ix ≤ index ∧ index < d.ix + d.nIx then max m (d.sub + d.nSub - 1) else m) 0

/-- The value a dictionary register holds when nothing has set it: its table default (R155). -/
def objDefault (k : Nat) : Nat :=
  match objOf k with
  | some d => d.dflt
  | none => 0

end Sys2Proof.Machine
end

