-- ==== Sys2Proof/Machine/State.lean ====
section
/-!
DEFINITION. The state of the block as plain data: every dictionary register (one sparse store over the object tables),
the memories, the timers, and the registers of each unit that the spec names or implies.
-/

namespace Sys2Proof.Machine

open Sys2Proof

/-- Why a command stops: for nothing. Every command has its effect in every state, and no meaning raises a fault; an
operand that no pin or port can deliver is read as log entry 107 says. -/
inductive Fault where
deriving DecidableEq, Repr

/-- Why a command has no meaning. `notModelled`: raised by an arm that is rejected by name. Safe. -/
inductive Refusal where
  | notModelled (mnemonic : String)
deriving DecidableEq, Repr

/-- The power states (Table 3-1). -/
inductive PState where
  | off | holdup | dormant | standby | active | service
deriving DecidableEq, Repr

/-- The code of a power state (Table 3-1). -/
def PState.code : PState → Nat
  | .off => 0 | .holdup => 1 | .dormant => 2 | .standby => 3 | .active => 4 | .service => 5

/-- The transitions that take time (Table 3-2): a start from DORMANT, a relock, a timed shutdown, a lifecycle
transition. -/
inductive TransKind where
  | start | relock | shutdown | lifecycle
deriving DecidableEq, Repr

/-- A transition in progress and the state it leads to (R87). -/
structure Trans where
  kind : TransKind
  target : PState
deriving DecidableEq, Repr

/-- The timers of the spec, by what their expiry does. -/
inductive TimerId where
  | holdupRestart | restartDelay | wakeTimer | serviceTimeout | linkHoldover | refReturn | relock | relockRetry
  | stretchLong | agingTrim | watchdog (c : CoreId) | lockstepRecovery | bundleConfirm | handshake (slot : Nat)
  | roleLockout (role : Nat) | sessionIdle (slot : Nat) | sessionLife (slot : Nat) | debugEnd | entropyRetest
  | receiptSign | lifecycleDone | stage (who : StageId) | counterWriteback | block (src : Nat) (ofWrite : Bool)
  | commitDefer | reassembly (p : Port) (src : Nat) | txLife (p : Port) (queue : Nat) | heartbeat (p : Port)
  | offline (node : Nat) | locateReply | busOffHoldoff (p : Port) | busOffWait (p : Port) | stuckRejoin (p : Port)
  | restricted | defer (src tid : Nat) | deferLimit (src tid : Nat) | refusal (p : Port) | escape (cls : Nat)
  | dcFreeze (conv : Nat) | settle (path : Nat) | lockTimeout (d : Dir) | leMaxHold | leGuard | leBar (d : Dir)
  | probe (path : Nat) | probeRetry (path : Nat) | recheck (d : Dir) | noiseHold (path : Nat) | lockout
  | laneRegulator (lane : Nat) | laneReady (lane : Nat) | regulatorRestart (lane : Nat) | overrun | hint (w : HintId)
  | droopClear | feedStale | sealClear | warnLead | holdupLead | holdupStep (slot : Nat) | railOff (slot : Nat)
  | railOffTime (slot : Nat) | railDelay (slot : Nat) | railRamp (slot : Nat) | coresReady | retryBackoff
  | attemptReset | marginStep (ch : Nat) | tiuTimeout | tdrPeriod | tdrGap | tdrStop | waterlineAge | warm
  | lidCover | lidTrack | lidStore | lidResume | floodRefill (code : Nat) | vintage | caskClear
  | twinHello | twinHeartbeat | twinLinkDown | rack | startWait | claimInterval | relayTime | handover | authRestart
  | relayLost | feReplay | laneMonitor (lane : Nat) | laneCool (lane : Nat) | tiuOverflow
deriving DecidableEq, Repr

/-- Model time and the fractions of the second counters (Table 3-4, R64, R467). -/
structure Clocks where
  nowUs : Nat
  opFrac : Nat
  coreFrac : Nat
  uncountedFrac : Nat
  fabricBase : Nat
deriving DecidableEq, Repr

/-- The pins the Milush drives or reads (ch. 02). Active-low pins hold their level. A field holds the level commanded;
what a ball shows in each supply condition is `State.ball` (Table 2-6). `vddioA` says that VDDIO_A is at or above 1.6 V
(R46), `vddioSel` that its level has been selected (R35). -/
structure Pins where
  railEn : BitVec 16
  pgLevel : BitVec 16
  paEn : BitVec 4
  rfMuteN : Bool
  pfwN : Bool
  twinAct : Bool
  twinSel : Bool
  ovenOk : Bool
  sealN : Bool
  tmode : Bool
  rstN : Bool
  vddioA : Bool
  vddioSel : Bool
  vddioAbove25 : Bool
  cellsOnAon : Bool
  canStbA : Bool
  canStbB : Bool
  feGpio : BitVec 16
  tdrLaunch : Bool
  tdi : Bool
  mrg : List (Nat × Nat)
  paBias : List (Nat × Nat)
deriving DecidableEq, Repr

/-- Power states and clocks beyond the dictionary registers (ch. 03). -/
structure Power where
  state : PState
  trans : Option Trans
  cameFrom : PState
  touchStart : Bool
  limitedStart : Bool
  coreReleased : Bool
  pressReady : Bool
  vintReady : Bool
  corkReady : Bool
  recovery : Bool
  relockTarget : Nat
  relockLocked : Bool
  relockRetry : Bool
  refPresent : Bool
  refSeen : Bool
  refLostAt : Option Nat
  pllLocked : Bool
  linkLocked : Bool
  stretchAt : Option Nat
  startReason : Nat
  restartPending : Bool
  wakePending : Bool
deriving DecidableEq, Repr

/-- Watchdog history: expiries of each core and watchdog restarts, with their times (R85, R86). -/
structure Watch where
  expiries : List (CoreId × Nat)
  restarts : List Nat
  lockstepBusy : Bool
  lockstepInfo : Option (BitVec 32 × BitVec 32)
deriving DecidableEq, Repr

/-- An open or half-open session (R120 to R125). -/
structure Session where
  slot : Nat
  sid : Nat
  role : Nat
  peer : Nat
  via : Via
  isOpen : Bool
  key : Nat
  nc : Nat
  nd : Nat
  ctrIn : Nat
  ctrOut : Nat
  fails : Nat
deriving DecidableEq, Repr

/-- A lifecycle transition under way: target code and origin (Table 16-7). -/
structure LcTrans where
  old : Nat
  target : Nat
  origin : Nat
deriving DecidableEq, Repr

/-- An entry of the key store (R97): its index (0 to 3 the role keys, 4 the twin pairing key, 5 the RSK), the write
counter that is its IV, the index bound as additional authenticated data, the wrapping key, the key it holds, and
whether its bytes still pass their GCM tag. The ciphertext stands for these values (log entry 110). -/
structure KeyEntry where
  index : Nat
  counter : Nat
  aad : Nat
  kwk : Nat
  key : Nat
  intact : Bool
deriving DecidableEq, Repr

/-- The Cork: fuses, key store, sessions and debug (ch. 04). `kwk` and `dik` are its registers for the two keys derived at
boot, `keyWrites` the write counters of the key store's entries. `ended` lists the identifiers of sessions that have ended
(R142); `closing` holds identifier, key and counter of ended sessions whose accepted groups still want replies (R139). -/
structure Security where
  fuses : BitVec 3
  securityCounter : Nat
  slot0Revoked : Bool
  keyStore : List KeyEntry
  keyWrites : List (Nat × Nat)
  kwk : Option Nat
  dik : Option Nat
  rskPublic : Bytes
  rskEndorsement : Bytes
  ended : List Nat
  closing : List (Nat × Nat × Nat)
  sessions : List Session
  handshakeFails : List (Nat × Nat)
  confirm : Option (Nat × Nat)
  entropyFailed : Bool
  lcTrans : Option LcTrans
  erased : Bool
  debugOwner : Option Nat
  challenge : Option (Nat × Nat)
  halted : List CoreId
  jtagInstr : Nat
  bypassBit : Bool
  boundary : BitVec 64
  captured : BitVec 64
deriving DecidableEq, Repr

/-- One firmware image as its header of Table 4-2 and the checks of R103 give it. -/
structure ImageFacts where
  headerValid : Bool
  keySlot : Nat
  signatureOk : Bool
  digestOk : Bool
  svn : Nat
  version : Nat
deriving DecidableEq, Repr

/-- The three images of a bank, Press, Vintner and Cork in that order (R102, log entry 112). -/
structure BundleFacts where
  press : ImageFacts
  vintner : ImageFacts
  cork : ImageFacts
deriving DecidableEq, Repr

/-- The boot: what the Cork found in the two banks at the last verification, the bank it runs, whether that bank has been
programmed since it was started, the core second at which its bundle is confirmed, and the bank that ran before an update
(R104 to R106, R190). -/
structure Boot where
  bankA : Option BundleFacts
  bankB : Option BundleFacts
  running : Nat
  rewritten : Bool
  confirmedAfter : Nat
  previousBank : Nat
deriving DecidableEq, Repr

/-- Where a reply goes and what it answers (R217, R219, R265). -/
structure ReplyTo where
  via : Via
  peer : Nat
  own : Nat
  prio : Nat
  tid : Nat
  svc : Nat
  session : Option Nat
deriving DecidableEq, Repr

/-- The accepted sender of a request: its role and Session.OpenCount slot, if it has a session. `aux` is the HopCount of
a Ping and the NextOffset of a BlockWrite reply. -/
structure Caller where
  role : Option Nat
  slot : Option (Fin 8)
  aux : Nat
  deferred : Bool
  dest : ReplyTo
deriving DecidableEq, Repr

/-- The stage of one requester, by object key and raw value in order (R164). -/
structure Stage where
  who : StageId
  entries : List (Nat × Nat)
deriving DecidableEq, Repr

/-- The reply that ends a commit, by the service that asked for it (Table 6-9, 6-13, 6-15). -/
inductive ReplyForm where
  | write (index sub : Nat)
  | commit
  | assign (newAddress : Nat)
  | bridge (sub : Nat)
  | none
deriving DecidableEq, Repr

/-- The classes of R173. -/
inductive EntryClass where
  | reduce | move | raise
deriving DecidableEq, Repr

/-- One entry of a commit in application. -/
structure CEntry where
  pos : Nat
  key : Nat
  value : Nat
  cls : EntryClass
  dir : Option Dir
deriving DecidableEq, Repr

/-- The commit in application (R169 to R176). `rising` and `falling` name the paths whose gains move to its Raise and
Reduce entries, `settling` the objects whose bias or margin still moves, `begun` the directions whose boundary has come,
`staged` what it took from its stage, and `preempted` says that it goes on without a re-check (R193). -/
structure CommitRun where
  caller : Caller
  form : ReplyForm
  fromStage : Option StageId
  total : Nat
  persistent : List (Nat × Nat)
  waiting : List CEntry
  journalled : Bool
  answered : Bool
  began : Nat
  rising : List Nat
  falling : List Nat
  settling : List Nat
  begun : List Dir
  staged : List (Nat × Nat)
  preempted : Bool
deriving DecidableEq, Repr

/-- A request held back: one waiting behind a commit (R171) or for a queue credit (R303). `claimed` is the SessionId in
the trailer of a protected group that has not yet been checked. -/
structure Held where
  caller : Caller
  claimed : Option Nat
  body : Bytes
  lacks : Nat
  at_ : Nat
  answered : Bool
deriving DecidableEq, Repr

/-- The commit engine, the stages and the held requests (ch. 05, ch. 08). `deferredPower` lists the requests for a
transition that wait for the commit in application, oldest first (R192). -/
structure Engine where
  stages : List Stage
  commit : Option CommitRun
  waiting : Option Held
  held : List Held
  deferredPower : List Held
deriving DecidableEq, Repr

/-- An open block transfer of one requester (R226). -/
structure BlockRun where
  peer : Nat
  index : Nat
  sub : Nat
  whole : Bool
  next : Nat
  total : Nat
  data : Bytes
deriving DecidableEq, Repr

/-- One copy of the configuration image (R157). -/
structure CfgCopy where
  gen : Nat
  valid : Bool
  image : List (Nat × Nat)
deriving DecidableEq, Repr

/-- The configuration store (R157, R158, R196). -/
structure Cfg where
  copyA : CfgCopy
  copyB : CfgCopy
  journal : List (Nat × Nat)
  marker : Bool
  writeFailed : Bool
deriving DecidableEq, Repr

/-- A segment of Update.Data on its way to the image writer (R188, R228); no caller when no reply is wanted. -/
structure Seg where
  caller : Option Caller
  offset : Nat
  data : Bytes
  answered : Bool
deriving DecidableEq, Repr

/-- The firmware update (R188 to R191): the announced length and the segments in queue 0x08, oldest first. -/
structure Update where
  length : Nat
  segments : List Seg
deriving DecidableEq, Repr

/-- A group in reassembly (R215, R216, R710). -/
structure Reasm where
  port : Port
  ident : BitVec 29
  tid : Nat
  next : Nat
  prot : Bool
  hop : Nat
  body : Bytes
  raw : Bytes
  queue : Nat
  credits : Nat
deriving DecidableEq, Repr

/-- A remembered transaction (R218): the group as received and its stored reply frames. -/
structure Retx where
  src : Nat
  tid : Nat
  raw : Bytes
  replies : List (Nat × CanFrame)
  at_ : Nat
deriving DecidableEq, Repr

/-- A refusal waiting outside the transmit queues (R301). -/
structure RefusalFrame where
  frame : CanFrame
  at_ : Nat
deriving DecidableEq, Repr

/-- A Locate reply that a Query has drawn, and when it is due (R235, R236). -/
structure LocateRun where
  due : Nat
  port : Port
  requester : Nat
  tid : Nat
  window : Nat
  attempts : Nat
deriving DecidableEq, Repr

/-- One field port's engine (ch. 06): its refusal FIFO, and the wait after a bus-off (R254): the factor on
Field.BusOffHoldoff, when the port rejoined, and whether it is on its way back. `rejoinDue` says that a change of its
enable or sample point waits for the reply to leave (R249); `sent` is the frame it sent last, with the ESI of its error
state (Table 6-1); `tecs` are the values Port.Tec held before, latest first, at most four (R253, log entry 129). -/
structure PortEngine where
  refusals : List RefusalFrame
  waitFactor : Nat
  joinedAt : Nat
  rejoining : Bool
  restrictedAt : Option Nat
  rejoinDue : Bool
  sent : Option CanFrame
  tecs : List Nat
deriving DecidableEq, Repr

/-- A port's engine as the core domain is released. -/
def PortEngine.idle : PortEngine := ⟨[], 1, 0, false, none, false, none, []⟩

/-- The field network (ch. 06). `dropped` names the forwarded groups that a full forward queue has discarded, by the port
they came in at, their identifier and their Tid: what remains of them is not forwarded (R287, R309). -/
structure Field where
  effective : Nat
  reasm : List Reasm
  retx : List Retx
  locate : List LocateRun
  portA : PortEngine
  portB : PortEngine
  dropped : List (Port × Nat × Nat)
deriving DecidableEq, Repr

/-- The host port's registers (Tables 7-2 to 7-7). -/
structure HostPort where
  irqStatus : BitVec 32
  reqLength : BitVec 11
  busy : Bool
  ready : Bool
  rspLength : BitVec 11
  rspFinal : Bool
  outstanding : Bool
  latchEnergy : Option (BitVec 32)
  latchUtc : Option (BitVec 32)
  rcvResult : BitVec 2
  rcvFailed : BitVec 4
  rcvOffset : BitVec 21
  miso : Bytes
  cut : Bool
  lastSummary : BitVec 32
deriving DecidableEq, Repr

/-- A record on its way to the Cask (R585, R590, R591). `vint` says that its row names the Vintage. -/
structure LogMsg where
  code : Nat
  snapshot : Bool
  severity : Nat
  source : Nat
  opSeconds : Nat
  cycles : Nat
  rep : Nat
  vint : Bool
  payload : Bytes
deriving DecidableEq, Repr

/-- What a queue message carries. -/
inductive Msg where
  | log (m : LogMsg)
  | frame (f : CanFrame)
  | mail (bytes : Bytes)
  | raw (bytes : Bytes)
deriving DecidableEq, Repr

/-- A message in a queue, in posting order; `escape` marks one that holds its class's escape slot (R290), and `events` is
the number of events that it stands for (R295). -/
structure QMsg where
  queue : Nat
  slots : Nat
  escape : Bool
  events : Nat
  at_ : Nat
  body : Msg
deriving DecidableEq, Repr

/-- A post that waits for a credit (R291, R293, R295): derived, fresh or a hardware monitor's latch. -/
inductive WaitKind where
  | derived | fresh | latch (merged : Nat)
deriving DecidableEq, Repr

/-- A waiting post. -/
structure QWait where
  kind : WaitKind
  msg : QMsg
deriving DecidableEq, Repr

/-- The queue engine (ch. 08): messages in posting order, posts that wait, high-water marks, refusals and drops, how often a
non-empty queue has been passed over, the queue each consumer served last in each class (R292), and whether a consumer is
handling a message, so that what it posts is derived (R288). -/
structure Queues where
  msgs : List QMsg
  waits : List QWait
  highWater : List (Nat × Nat)
  drops : List (Nat × Nat)
  passed : List (Nat × Nat)
  turns : List (Nat × Nat)
  handling : Bool
deriving DecidableEq, Repr

/-- The Cask's and the Vintage's work in hand (ch. 16). -/
structure CaskUnit where
  own : List LogMsg
  buckets : List (Nat × Nat)
  suppressed : List (Nat × Nat)
  turn : Nat
  ullageNotified : Bool
  clearing : Bool
  scanned : Bool
  vintWork : List (Nat × Bytes)
deriving DecidableEq, Repr

/-- The memories, as sorted lists of (address, byte); an unlisted address reads the memory's reset byte
(log entry 2). -/
structure Mems where
  cask : List Host.Cell
  ctl : List Host.Cell
  vint : List Host.Cell
  mbReq : List Host.Cell
  mbRsp : List Host.Cell
  rcv : List Host.Cell
  bankA : List Host.Cell
  bankB : List Host.Cell
deriving DecidableEq, Repr

/-- Why a shutdown runs and what follows it (R484, R499, R721). -/
inductive ShutCause where
  | request | restart | lifecycle | rail | holdup | lockout
deriving DecidableEq, Repr

/-- A shutdown in its lead or in progress. -/
structure Shutdown where
  cause : ShutCause
  reason : Nat
  restart : Bool
  stepping : Bool
  faults : List Nat
deriving DecidableEq, Repr

/-- The trellis beyond the dictionary registers (ch. 13). `held` keeps the values in force of entries that wait for
the next start (R517); `enabledAt`, `goodAt` and `releasedAt` are instants in µs; `scan` holds the HK-A entries of the
scan in progress (R556), `slot` the slot whose window is in progress, and `window` the instant that window began. -/
structure RailUnit where
  seqStart : Nat
  shutdown : Option Shutdown
  held : List (Nat × Nat)
  enabledAt : List (Nat × Nat)
  goodAt : List (Nat × Nat)
  releasedAt : List (Nat × Nat)
  pgCounted : BitVec 16
  readAt : List (Nat × Nat)
  coresReadyAt : Option Nat
  abandoned : Nat
  adcOn : Bool
  scan : List Nat
  slot : Nat
  window : Nat
deriving DecidableEq, Repr

/-- A margin channel's move (R510 to R512): the command it serves, the DAC code it drives and the transactions left. -/
structure MarginRun where
  ch : Nat
  target : Nat
  code : Nat
  steps : List Nat
  scans : Nat
deriving DecidableEq, Repr

/-- A pending task input of the event fabric (R345): its coalesce counter, the FabricTime of its first and last event,
and whether events were lost to the counter's limit (R347). -/
structure FabIn where
  input : Nat
  extra : Nat
  first : Nat
  last : Nat
  lost : Bool
deriving DecidableEq, Repr

/-- A complex sample. -/
structure Iq where
  i : Int
  q : Int
deriving DecidableEq, Repr

/-- What a path's detectors have gathered in the window in progress (R336 to R339), and the envelope e (R341). -/
structure Detect where
  count : Nat
  pmax : Nat
  sum : Nat
  full : Bool
  clipped : Bool
  env : Int
deriving DecidableEq, Repr

/-- What the elements of a band path hold between two samples (Table 9-2): both NCO phases, in 2^−32 turns; of each
decimation stage, 1 to 9, its phase counter and its last inputs, latest first; the FIR's and each interpolation stage's
last inputs; the pilot's chip; the outputs not yet at the DAC, earliest first; and the detectors. An interpolation stage
gives both its outputs at once, so that its phase counter stands at 0 between two samples. -/
structure Chain where
  inPhase : Nat
  outPhase : Nat
  decim : List (Nat × List Iq)
  fir : List Iq
  interp : List (List Iq)
  chip : Nat
  out : List Int
  detect : Detect
deriving DecidableEq, Repr

/-- A chain at a start: every phase and every delay line at zero. -/
def Chain.idle : Chain :=
  ⟨0, 0, List.replicate 9 (0, []), [], List.replicate 9 [], 0, [], ⟨0, 0, 0, false, false, 0⟩⟩

/-- What a band path carries beyond its dictionary registers (ch. 09, ch. 11): the settings of the detector window in
progress (R343), whether a sample of it was suppressed (R331), the side of the envelope events (R342), the fabric's
inputs, the RMS levels of the last second (R395), the counts of R414 and R417, the frames that counted (R399), and the
gains that outlive a mute (R457, R644). `schedCap` is a new schedule with points lower than the one in force, whose
Raise is still to come (R174); `chain` is what its elements hold between two samples. -/
structure PathRun where
  window : Nat
  suppressed : Bool
  envHigh : Bool
  inputs : List FabIn
  levels : List (Nat × Int)
  overpower : Nat
  osc : Nat
  frameBits : Nat
  countedAt : Option Nat
  serviceAt : Nat
  pilotLimit : Option Int
  lastApplied : Option Int
  droopCap : Option Int
  paCut : Option Int
  budgetMuted : Bool
  gainAt : Nat
  computed : Int
  loopDelay : Nat
  racked : Option (Int × Nat)
  schedCap : Option Nat
  chain : Chain
deriving DecidableEq, Repr

/-- The loop engines (ch. 11): the last frame boundary of each direction, gains held after a late re-check (R416), the
onset of a missing waterline, and the boundaries and judgement of a takeover's re-probe (R643 to R646). -/
structure Loops where
  ulFrame : Option Nat
  dlFrame : Option Nat
  ulHeld : Bool
  dlHeld : Bool
  waterMissing : Bool
  reprobe : Bool
  adoptedAt : Option Nat
  ulPassed : Bool
  dlPassed : Bool
deriving DecidableEq, Repr

/-- Tasting runs of one pair (R355). -/
structure Taste where
  run : Nat
  clean : Nat
deriving DecidableEq, Repr

/-- The converters (ch. 09): tasting of each pair, what waits for the relock of the sample PLL (R352), and the mean m of
each DC blocker, A to D, in 2^−24 LSB (R317). -/
structure Conv where
  tasteUL : Taste
  tasteDL : Taste
  noWindow : List Nat
  means : List Int
deriving DecidableEq, Repr

/-- Where a front-end sequence stands (R374, R378, R390). -/
inductive FePhase where
  | entries | lock | replay | stopped
deriving DecidableEq, Repr

/-- A front-end sequence being played: 1 SeqInit, 2 SeqRetuneUL, 3 SeqRetuneDL. `since` is when its present entry or
phase began. -/
structure FeRun where
  seq : Nat
  pos : Nat
  phase : FePhase
  replayed : Bool
  since : Nat
deriving DecidableEq, Repr

/-- The RF front-end port (ch. 10): the sequence playing, those that wait, whether SeqInit has completed at this start,
the directions held muted by a failed sequence, the retunes under way, and the last word sent (target, format, word). -/
structure FrontEnd where
  run : Option FeRun
  waiting : List Nat
  initOk : Bool
  failUL : Bool
  failDL : Bool
  retuneUL : Bool
  retuneDL : Bool
  sent : Option (Nat × Nat × Nat)
deriving DecidableEq, Repr

/-- Licence-exempt switching (ch. 10): the latest holds that ended by MaxHold in a row, of one direction (R391). -/
structure LeUnit where
  streak : List (Dir × Nat)
deriving DecidableEq, Repr

/-- Network protection beyond the dictionary registers (R421, R425, R426): the operating second at which a timed lockout
ends, the starts of timed lockouts, the power state before the shutdown, the receipt at the Cork, those behind it, and
the receipts that have been left unsigned and still want a signature. -/
structure NetUnit where
  lockoutEnd : Nat
  history : List Nat
  before : Nat
  signing : Option Nat
  queued : List Nat
  unsigned : List Nat
deriving DecidableEq, Repr

/-- Why a lane is stopped by fault (R439, R462, R463, R474). -/
structure LaneHold where
  regulator : Bool
  pmbus : Bool
  heat : Bool
  die : Bool
deriving DecidableEq, Repr

/-- A PA lane beyond its dictionary registers (ch. 12): its bias ramp, the start check, its stops, the regulator faults,
the last valid READ_POUT, its temperature, the trim statistics (R468), the factor k in parts of 10^9 (R443), and the
status bytes of a fault's snapshot. -/
structure LaneRun where
  biasFrom : Nat
  biasAt : Nat
  biasGoal : Nat
  voutOk : Bool
  statusOk : Bool
  hold : LaneHold
  faultAt : Option Nat
  poutAt : Option Nat
  pmbFault : Bool
  temp : Option Int
  ntcBad : Bool
  readyUs : Nat
  trimSum : Int
  kFine : Nat
  statusVout : Option Nat
  snapshot : Bool
deriving DecidableEq, Repr

/-- A PMBus transaction that the controller owes a lane: the command code, and whether it is the repetition (R436). -/
structure PmbTx where
  lane : Nat
  code : Nat
  repeated : Bool
deriving DecidableEq, Repr

/-- The PA unit (ch. 12): lanes, the PMBus transactions owed, the classes an overrun has cut (R449), a die trip,
and a seal breach that still holds (R465). -/
structure PaUnit where
  lanes : List LaneRun
  pmb : List PmbTx
  overrun : Bool
  cut : Nat
  die : Bool
  breach : Bool
deriving DecidableEq, Repr

/-- The feed (ch. 12): recent FEED_V and FEED_I results, newest first, the lowest voltage and start of a droop response,
the energy remainder (R466), staleness, and a collapse report on its way to the Cellarmaster (R459). -/
structure FeedUnit where
  volts : List (Nat × Nat)
  amps : List (Nat × Int)
  lowest : Nat
  since : Nat
  remainder : Nat
  ampAt : Option Nat
  stale : Bool
  report : Bool
deriving DecidableEq, Repr

/-- HK-B (ch. 15): whether its reference is on and since when, whether it converts, the entries out of tolerance, a bad
pass, the result that no credit has let go (R564), the sequence of this pass (R563) and the entry whose result comes
next, the instant before which no window begins (R74), and the instant its latest sampling window ended. -/
structure HkbUnit where
  refAt : Option Nat
  converting : Bool
  badEntries : List Nat
  badPass : Bool
  held : Option (Nat × Nat)
  seq : List Nat
  next : Nat
  notBefore : Nat
  window : Nat
deriving DecidableEq, Repr

/-- The time-interval unit (ch. 14): the start position taken, a result not yet read (R530), the calibration fault, a
burst and its launches (results in 1/1024 ps, early or not), whether the comparator is enabled and the present launch has
stopped, a burst that is due (R528), the heights of valid bursts (R542), the latest Measured burst, the warm-up of R532,
the settings the burst began with (R548), and the code of the threshold DAC (R538). -/
structure TiuUnit where
  startFine : Option Nat
  unread : Bool
  calFault : Bool
  burst : Bool
  launched : Nat
  early : Bool
  enabled : Bool
  stops : List (Nat × Bool)
  due : Bool
  history : List (Nat × Int)
  lastMeasured : Option Nat
  warmBegan : Option Nat
  warmDone : Bool
  ovenLow : Bool
  rewarm : Bool
  held : List (Nat × Nat)
  dac : Nat
deriving DecidableEq, Repr

/-- The lid sensor (ch. 15): samples of a start check, a re-take or a tracking period, the release count of a presence,
when it began, low Idle samples, samples out of range, a touch held through a transition or a commit (its ms times 16,
twice the code of the state it came in, and 1 where a transition held it), the start of Covered and the seconds of it
counted, and the latest sample. -/
structure LidUnit where
  sum : Nat
  count : Nat
  checking : Bool
  began : Nat
  releases : Nat
  releaseAt : Nat
  lowRun : Nat
  badRun : Nat
  heldTouch : Option Nat
  coveredAt : Nat
  coveredFrac : Nat
  sampleAt : Option Nat
deriving DecidableEq, Repr

/-- One image slot of a standby (R638). -/
structure ImageSlot where
  gen : Nat
  arrived : Nat
  data : Bytes
  committed : Bool
deriving DecidableEq, Repr

/-- The twin function beyond its dictionary registers (ch. 17): the link's sequence numbers, nonces, key and counters, what
the partner's latest frames said, the tag failures of the last second, the generation last captured and when, the two
image slots, the claim and the takeover under way, the handover, and the onsets already recorded. -/
structure TwinUnit where
  enabled : Bool
  selCounted : Bool
  txSeq : Nat
  rxRef : Option Nat
  characters : Bool
  ownNonce : Nat
  peerNonce : Nat
  peerPreferred : Bool
  peerSel : Bool
  linkKey : Nat
  confirmed : Bool
  counterOut : Nat
  counterIn : Nat
  peerReady : Nat
  authFails : List Nat
  generation : Nat
  slot0 : ImageSlot
  slot1 : ImageSlot
  claiming : Bool
  takeover : Option (Nat × Nat)
  takeoverImage : Option (Nat × Nat)
  handoverGen : Option Nat
  helloSeen : Bool
  capturedAt : Option Nat
  staleNoted : Bool
  digestNoted : Bool
  relayLost : Bool
  lastHeartbeatRole : Nat
deriving DecidableEq, Repr

/-- Everything the spec gives the machine, the queue of waiting commands, and the model's own draw counter `free`
(log entry 4). -/
structure State where
  pending : List Instr
  time : Clocks
  timers : List (TimerId × Nat)
  dict : List (Nat × Nat)
  cfg : Cfg
  pins : Pins
  power : Power
  wd : Watch
  sec : Security
  boot : Boot
  eng : Engine
  blockReads : List BlockRun
  blockWrites : List BlockRun
  upd : Update
  field : Field
  hp : HostPort
  q : Queues
  cask : CaskUnit
  mems : Mems
  rail : RailUnit
  margin : List MarginRun
  paths : List PathRun
  loops : Loops
  conv : Conv
  fe : FrontEnd
  le : LeUnit
  net : NetUnit
  pa : PaUnit
  feed : FeedUnit
  hkb : HkbUnit
  tiu : TiuUnit
  lid : LidUnit
  twin : TwinUnit
  free : Nat
deriving DecidableEq, Repr

/-- A path at a start: the window of the default settings, nothing measured, no gain remembered. -/
def PathRun.idle : PathRun where
  window := 20
  suppressed := false
  envHigh := false
  inputs := []
  levels := []
  overpower := 0
  osc := 0
  frameBits := 0
  countedAt := none
  serviceAt := 0
  pilotLimit := none
  lastApplied := none
  droopCap := none
  paCut := none
  budgetMuted := false
  gainAt := 0
  computed := 0
  loopDelay := 0
  racked := none
  schedCap := none
  chain := Chain.idle

/-- A lane at a start: no bias, no fault. -/
def LaneRun.idle : LaneRun where
  biasFrom := 0
  biasAt := 0
  biasGoal := 0
  voutOk := false
  statusOk := false
  hold := ⟨false, false, false, false⟩
  faultAt := none
  poutAt := none
  pmbFault := false
  temp := none
  ntcBad := false
  readyUs := 0
  trimSum := 0
  kFine := 1000000000
  statusVout := none
  snapshot := false

/-- The loop engines at a start. -/
def Loops.idle : Loops := ⟨none, none, false, false, false, false, none, false, false⟩

/-- The converters at a start. -/
def Conv.idle : Conv := ⟨⟨0, 0⟩, ⟨0, 0⟩, [], [0, 0, 0, 0]⟩

/-- The front-end port at a start. -/
def FrontEnd.idle : FrontEnd := ⟨none, [], false, false, false, false, false, none⟩

/-- The PA unit at a start. -/
def PaUnit.idle : PaUnit := ⟨List.replicate 4 LaneRun.idle, [], false, 0, false, false⟩

/-- The feed at a start. -/
def FeedUnit.idle : FeedUnit := ⟨[], [], 0, 0, 0, none, false, false⟩

/-- HK-B at a start. -/
def HkbUnit.idle : HkbUnit := ⟨none, false, [], false, none, [], 0, 0, 0⟩

/-- The time-interval unit at a start. -/
def TiuUnit.idle : TiuUnit where
  startFine := none
  unread := false
  calFault := false
  burst := false
  launched := 0
  early := false
  enabled := false
  stops := []
  due := false
  history := []
  lastMeasured := none
  warmBegan := none
  warmDone := false
  ovenLow := false
  rewarm := false
  held := []
  dac := 0

/-- The lid sensor as VDD_AON rises. -/
def LidUnit.idle : LidUnit := ⟨0, 0, false, 0, 0, 0, 0, 0, none, 0, 0, none⟩

/-- An empty image slot. -/
def ImageSlot.empty : ImageSlot := ⟨0, 0, [], false⟩

/-- The twin function at a start. -/
def TwinUnit.idle : TwinUnit where
  enabled := false
  selCounted := false
  txSeq := 0
  rxRef := none
  characters := false
  ownNonce := 0
  peerNonce := 0
  peerPreferred := false
  peerSel := false
  linkKey := 0
  confirmed := false
  counterOut := 0
  counterIn := 0
  peerReady := 0
  authFails := []
  generation := 0
  slot0 := ImageSlot.empty
  slot1 := ImageSlot.empty
  claiming := false
  takeover := none
  takeoverImage := none
  handoverGen := none
  helloSeen := false
  capturedAt := none
  staleNoted := false
  digestNoted := false
  relayLost := false
  lastHeartbeatRole := 0

/-- A part as it stands before VDD_AON rises: OFF, BLANK, every table default in force, every pin at its reset level
(Table 2-6), VDDIO_A present (log entry 128), and every register that the spec gives no reset value at 0, empty or false
(log entries 1 to 4). -/
def State.reset : State where
  pending := []
  time := ⟨0, 0, 0, 0, 0⟩
  timers := []
  dict := []
  cfg := ⟨⟨0, true, []⟩, ⟨0, true, []⟩, [], false, false⟩
  pins := { railEn := 0, pgLevel := 0, paEn := 0, rfMuteN := true, pfwN := true, twinAct := false, twinSel := false,
            ovenOk := false, sealN := true, tmode := false, rstN := true, vddioA := true, vddioSel := false, vddioAbove25 := true,
            cellsOnAon := false, canStbA := true, canStbB := true, feGpio := 0, tdrLaunch := false, tdi := false,
            mrg := [], paBias := [] }
  power := { state := .off, trans := none, cameFrom := .standby, touchStart := false, limitedStart := false,
             coreReleased := false, pressReady := false, vintReady := false, corkReady := false, recovery := false,
             relockTarget := 240, relockLocked := false, relockRetry := false,
             refPresent := false, refSeen := false, refLostAt := none, pllLocked := false,
             linkLocked := false, stretchAt := none, startReason := 0,
             restartPending := false, wakePending := false }
  wd := ⟨[], [], false, none⟩
  sec := { fuses := 0, securityCounter := 0, slot0Revoked := false, keyStore := [], keyWrites := [], kwk := none, dik := none,
           rskPublic := [], rskEndorsement := [], ended := [], closing := [], sessions := [], handshakeFails := [],
           confirm := none, entropyFailed := false, lcTrans := none, erased := false, debugOwner := none,
           challenge := none, halted := [], jtagInstr := 0, bypassBit := false, boundary := 0, captured := 0 }
  boot := ⟨none, none, 0, false, 3600, 0⟩
  eng := ⟨[], none, none, [], []⟩
  blockReads := []
  blockWrites := []
  upd := ⟨0, []⟩
  field := ⟨0xFFFF, [], [], [], PortEngine.idle, PortEngine.idle, []⟩
  hp := { irqStatus := 0, reqLength := 0, busy := false, ready := false, rspLength := 0, rspFinal := false,
          outstanding := false, latchEnergy := none, latchUtc := none, rcvResult := 0, rcvFailed := 0, rcvOffset := 0,
          miso := [], cut := false, lastSummary := 0 }
  q := ⟨[], [], [], [], [], [], false⟩
  cask := ⟨[], [], [], 0, false, false, false, []⟩
  mems := ⟨[], [], [], [], [], [], [], []⟩
  rail := { seqStart := 0, shutdown := none, held := [], enabledAt := [], goodAt := [], releasedAt := [],
            pgCounted := 0, readAt := [], coresReadyAt := none, abandoned := 0, adcOn := false,
            scan := [], slot := 0, window := 0 }
  margin := []
  paths := List.replicate 16 PathRun.idle
  loops := Loops.idle
  conv := Conv.idle
  fe := FrontEnd.idle
  le := ⟨[]⟩
  net := ⟨0, [], 0, none, [], []⟩
  pa := PaUnit.idle
  feed := FeedUnit.idle
  hkb := HkbUnit.idle
  tiu := TiuUnit.idle
  lid := LidUnit.idle
  twin := TwinUnit.idle
  free := 0

end Sys2Proof.Machine
end

