-- ==== Sys2Proof/Machine/Ops.lean ====
section
/-!
DEFINITION. The named operations every meaning is built from: dictionary registers, byte memories, time and timers,
and the draw of a free value.
-/

namespace Sys2Proof.Machine

open Sys2Proof

/-- The answer of a command that ends in a next state. -/
abbrev Out := Host.Outcome State Fault Refusal

/-- The requester address of a request: 0xFFFF at the host port (R263), and at a field port the nine bits that a frame's
Source field carries (Table 6-3, log entry 107). -/
def reqPeer (r : ReqCtx) : Nat :=
  match r.via with
  | .host => 0xFFFF
  | _ => r.src.toNat % 512

/-! ## Sparse tables with a value for every key -/

/-- The number a key has in a list of pairs, or `d`. -/
def lookupD (l : List (Nat × Nat)) (k d : Nat) : Nat :=
  match l.find? (fun p => p.1 == k) with
  | some p => p.2
  | none => d

/-- A pair placed in key order. -/
def insertKey (l : List (Nat × Nat)) (k v : Nat) : List (Nat × Nat) :=
  match l with
  | [] => [(k, v)]
  | p :: ps => if k < p.1 then (k, v) :: p :: ps else p :: insertKey ps k v

/-- The list with key `k` unlisted. -/
def dropKey (l : List (Nat × Nat)) (k : Nat) : List (Nat × Nat) := l.filter (fun p => !(p.1 == k))

/-- `k` given the number `v`, unlisted when `v` is the number `d` that an unlisted key has. -/
def putKey (l : List (Nat × Nat)) (k v d : Nat) : List (Nat × Nat) :=
  if v = d then dropKey l k else insertKey (dropKey l k) k v

/-! ## Dictionary registers -/

/-- The raw value of a dictionary register (R147 to R155): the little-endian number its bytes spell. -/
def State.get (s : State) (k : Nat) : Nat := lookupD s.dict k (objDefault k)

/-- A dictionary register given a raw value. -/
def State.set (s : State) (k v : Nat) : State := { s with dict := putKey s.dict k v (objDefault k) }

/-- The size of an object's value in bytes. -/
def objSize (k : Nat) : Nat :=
  match objOf k with
  | some d => d.size
  | none => 0

/-- The register as a signed integer of its size (R148). -/
def State.getI (s : State) (k : Nat) : Int := toSigned (objSize k) (s.get k)

/-- A register given a signed integer of its size, limited to the range of its type. -/
def State.setI (s : State) (k : Nat) (i : Int) : State :=
  let n := objSize k
  let lo : Int := -(2 : Int) ^ (8 * n - 1)
  let hi : Int := (2 : Int) ^ (8 * n - 1) - 1
  s.set k (ofSigned n (max lo (min hi i)))

/-- A counter raised by `n`, saturating at the maximum of its type (R151). -/
def State.bump (s : State) (k n : Nat) : State := s.set k (satBytes (objSize k) (s.get k + n))

/-- Bit `i` of a register. -/
def State.bit (s : State) (k i : Nat) : Bool := (s.get k).testBit i

/-- A register as its bytes. -/
def State.bytesOf (s : State) (k : Nat) : Bytes := leBytes (objSize k) (s.get k)

/-! ## Byte memories: canonical lists over a reset byte -/

/-- The byte at an address; an unlisted address reads its reset byte. -/
def memRead (dflt : Nat → Byte) (m : List Host.Cell) (a : Nat) : Byte :=
  match m.find? (fun c => c.1 == a) with
  | some c => c.2
  | none => dflt a

/-- A cell placed in address order. -/
def memInsert (m : List Host.Cell) (a : Nat) (b : Byte) : List Host.Cell :=
  match m with
  | [] => [(a, b)]
  | c :: cs =>
    if a < c.1 then (a, b) :: c :: cs
    else if a = c.1 then (a, b) :: cs
    else c :: memInsert cs a b

/-- An address made unlisted. -/
def memErase (m : List Host.Cell) (a : Nat) : List Host.Cell := m.filter (fun c => !(c.1 == a))

/-- One byte written: the list keeps no cell equal to its reset byte. -/
def memWrite (dflt : Nat → Byte) (m : List Host.Cell) (a : Nat) (b : Byte) : List Host.Cell :=
  if b = dflt a then memErase m a else memInsert m a b

/-- Bytes written from an address upwards. -/
def memWriteAll (dflt : Nat → Byte) (m : List Host.Cell) (a : Nat) : Bytes → List Host.Cell
  | [] => m
  | b :: bs => memWriteAll dflt (memWrite dflt m a b) (a + 1) bs

/-- `n` bytes from an address upwards. -/
def memSlice (dflt : Nat → Byte) (m : List Host.Cell) (a n : Nat) : Bytes :=
  (List.range n).map (fun i => memRead dflt m (a + i))

/-- The canonical form: addresses strictly rising, no cell equal to its reset byte. -/
def memWf (dflt : Nat → Byte) : List Host.Cell → Bool
  | [] => true
  | [c] => !(c.2 == dflt c.1)
  | c :: d :: rest => !(c.2 == dflt c.1) && decide (c.1 < d.1) && memWf dflt (d :: rest)

/-- Reset byte of every memory but the Cask control block (log entry 2). -/
def zeroByte (_ : Nat) : Byte := 0x00#8

/-- Reset byte of the Cask control block (Table 16-5): magic, version, the complement of write index 0 and
FirstSlot 0xFFFF for every class. -/
def ctlByte (a : Nat) : Byte :=
  if a = 0 then 0x43#8 else if a = 1 then 0x41#8 else if a = 2 then 0x53#8 else if a = 3 then 0x4B#8
  else if a = 4 then 0x01#8
  else if a = 0x0E ∨ a = 0x0F then 0xFF#8
  else if 0x30 ≤ a ∧ a < 0x80 then 0xFF#8
  else 0x00#8

/-- Every memory of the block in canonical form. -/
def Mems.wf (m : Mems) : Bool :=
  memWf zeroByte m.cask && memWf ctlByte m.ctl && memWf zeroByte m.vint && memWf zeroByte m.mbReq
    && memWf zeroByte m.mbRsp && memWf zeroByte m.rcv && memWf zeroByte m.bankA && memWf zeroByte m.bankB

/-! ## Time and timers -/

/-- Whole units in `frac + n` microseconds, and what is left of the next one. -/
def wholeSeconds (frac n : Nat) : Nat × Nat := ((frac + n) / 1000000, (frac + n) % 1000000)

/-- `n` µs pass: the operating-seconds counter runs with the always-on domain, the core-seconds counter with the core
domain, and the uncounted-seconds counter while the unit is on outside its energy count (R64, R467). -/
def State.elapse (s : State) (n : Nat) : State :=
  let on := s.power.state ≠ .off
  let core := s.power.coreReleased
  let op := wholeSeconds s.time.opFrac n
  let cs := wholeSeconds s.time.coreFrac n
  let un := wholeSeconds s.time.uncountedFrac n
  let counting := s.power.state = .standby ∨ s.power.state = .active ∨ s.power.state = .service
  let s := { s with time.nowUs := s.time.nowUs + n }
  let s := if on then { (s.bump Obj.powerStateOperatingSeconds op.1) with time.opFrac := op.2 } else s
  let s := if on ∧ core then { (s.bump Obj.powerStateCoreSeconds cs.1) with time.coreFrac := cs.2 } else s
  if on ∧ ¬ counting then { (s.bump Obj.energyUncountedSeconds un.1) with time.uncountedFrac := un.2 } else s

/-- The instant, in µs of model time. -/
def State.now (s : State) : Nat := s.time.nowUs

/-- The deadline of a timer, if it runs. -/
def State.deadline (s : State) (t : TimerId) : Option Nat :=
  match s.timers.find? (fun p => p.1 == t) with
  | some p => some p.2
  | none => none

/-- Whether a timer runs. -/
def State.armed (s : State) (t : TimerId) : Bool := s.timers.any (fun p => p.1 == t)

/-- A timer stopped. -/
def State.disarm (s : State) (t : TimerId) : State := { s with timers := s.timers.filter (fun p => !(p.1 == t)) }

/-- A timer started (again), to expire after `us` µs. -/
def State.arm (s : State) (t : TimerId) (us : Nat) : State :=
  { s with timers := (s.timers.filter (fun p => !(p.1 == t))) ++ [(t, s.now + us)] }

/-- The expiry of a timer: its deadline is reached (time never runs back), it stops, and `f` acts. A timer that does
not run cannot expire, and the command changes nothing (log entry 8). -/
def State.onTimer (s : State) (t : TimerId) (f : State → State) : State :=
  match s.deadline t with
  | none => s
  | some d => f ((s.elapse (d - s.now)).disarm t)

/-- An event that needs a condition to occur at all; without it the command changes nothing (log entry 8). -/
def State.when (s : State) (c : Bool) (f : State → State) : State := if c then f s else s

/-- A free value: one the spec leaves open, drawn fresh (log entry 4). -/
def State.draw (s : State) : Nat × State := (Config.freeValue s.free, { s with free := s.free + 1 })

/-- A random value of the Cork's generator (R99), drawn fresh. -/
def State.drawRandom (s : State) (bits : Nat) : Nat × State :=
  (Config.random bits s.free % 2 ^ bits, { s with free := s.free + 1 })

/-- Operating seconds, the stamp of records and receipts. -/
def State.opSeconds (s : State) : Nat := s.get Obj.powerStateOperatingSeconds

/-- Folds an action over a list of numbers. -/
def State.each (s : State) (l : List Nat) (f : State → Nat → State) : State := l.foldl f s

/-! ## Power-state tests -/

/-- An action of the Cellarmaster pair, which waits until the pair has recovered from a lockstep mismatch (R92): until
then the command changes nothing, and a timer whose expiry it is keeps running out. -/
def State.supervised (s : State) (f : State → State) : State := if s.wd.lockstepBusy then s else f s

/-- The transition in progress (R87): a power-state transition, or a lifecycle transition, which leads to DORMANT
(R714). -/
def State.transition (s : State) : Option Trans :=
  match s.sec.lcTrans with
  | some _ => some ⟨.lifecycle, .dormant⟩
  | none => s.power.trans

/-- Whether bank A's cells work: VDDIO_A is present and its level has been selected (R35, R46). -/
def State.bankA (s : State) : Bool := s.pins.vddioA && s.pins.vddioSel

/-- Whether the always-on domain runs: every state but OFF (Table 3-1). -/
def State.awake (s : State) : Bool := !(s.power.state == .off)

/-- STANDBY, ACTIVE or SERVICE: the states in which the core domain runs (Table 3-1). -/
def State.running (s : State) : Bool :=
  s.power.state == .standby || s.power.state == .active || s.power.state == .service

/-- The key of a key-store entry: the entry opens while the Cork holds the wrapping key it was sealed under, its
additional data names its index and its tag verifies (R97, R146). -/
def State.storedKey (s : State) (index : Nat) : Option Nat :=
  match s.sec.keyStore.find? (fun e => e.index == index) with
  | some e => if e.intact && e.aad == index && s.sec.kwk == some e.kwk then some e.key else none
  | none => none

/-- Whether the key store has an entry, whole or not. -/
def State.hasEntry (s : State) (index : Nat) : Bool := s.sec.keyStore.any (fun e => e.index == index)

/-- Whether an entry stands whose GCM tag fails (Table 4-14). -/
def State.badEntry (s : State) (index : Nat) : Bool := s.sec.keyStore.any (fun e => e.index == index && !e.intact)

/-- A key sealed into its entry of the key store under the present wrapping key, its write counter one higher (R97). -/
def State.sealKey (s : State) (index key : Nat) : State :=
  let n := lookupD s.sec.keyWrites index 0 + 1
  let e : KeyEntry := ⟨index, n, index, s.sec.kwk.getD 0, key, true⟩
  { s with sec := { s.sec with keyStore := s.sec.keyStore.filter (fun x => x.index != index) ++ [e],
                               keyWrites := putKey s.sec.keyWrites index n 0 } }

/-- Index of the twin pairing key's entry. -/
def pairEntry : Nat := 4

/-- Index of the receipt signing key's entry. -/
def rskEntry : Nat := 5

/-- The lifecycle code of the fuses: 0 to 3, or 4 for an invalid pattern (R113, Table 4-13). -/
def State.lifecycle (s : State) : Nat :=
  match s.sec.fuses.toNat with
  | 0 => 0
  | 1 => 1
  | 3 => 2
  | 7 => 3
  | _ => 4

end Sys2Proof.Machine
end

