-- ==== Sys2Proof/Machine/QueueOps.lean ====
section
/-!
DEFINITION. The queue engine (ch. 08): depths and classes of Tables 8-1 and 8-2, credits, escape slots, waiting posts
and the removal of messages.
-/

namespace Sys2Proof.Machine

open Sys2Proof

/-- The depth of a queue (Table 8-2); 0 for an unused one. -/
def qDepth (q : Nat) : Nat :=
  if q ≤ 0x02 then 16 else if q ≤ 0x05 then 40 else if q ≤ 0x07 then 8 else if q = 0x08 then 16
  else if q < 0x18 then 0
  else if q ≤ 0x1B then 16 else if q ≤ 0x21 then 8 else if q < 0x48 then 0
  else if q ≤ 0x4A then 16 else if q = 0x4B then 24 else if q ≤ 0x4E then 8 else if q = 0x4F then 0
  else if q ≤ 0x51 then 8 else if q < 0x80 then 0
  else if q ≤ 0x82 then 4 else if q = 0x83 then 8 else if q ≤ 0x86 then 16 else if q ≤ 0x88 then 8
  else if q < 0xB8 then 0
  else if q ≤ 0xB9 then 28 else if q ≤ 0xBB then 2 else if q ≤ 0xBD then 8 else if q < 0xC0 then 0
  else if q ≤ 0xD3 then 8 else if q ≤ 0xD7 then 4 else if q < 0xE0 then 0
  else if q ≤ 0xE3 then 32 else if q ≤ 0xE7 then 12 else if q ≤ 0xEB then 4 else if q < 0xF0 then 0
  else if q ≤ 0xFF then 4 else 0

/-- The drain class of a queue (Table 8-1). -/
def qClass (q : Nat) : Nat :=
  if 0xF0 ≤ q then 0 else if 0xE0 ≤ q then 1 else if 0xC0 ≤ q then 2 else if 0xB8 ≤ q then 3
  else if 0x80 ≤ q then 4 else if 0x48 ≤ q then 5 else if 0x18 ≤ q then 6 else 7

/-- Whether a queue can refuse (Table 8-2). -/
def qCanRefuse (q : Nat) : Bool :=
  decide (q ≤ 0x02 ∨ q = 0x06 ∨ q = 0x07 ∨ q = 0x08 ∨ q = 0x18 ∨ q = 0x19 ∨ q = 0x1C ∨ q = 0x1D
    ∨ (0x48 ≤ q ∧ q ≤ 0x4E) ∨ q = 0x50 ∨ q = 0x51)

/-- The slots a queue's messages and the frames in reassembly hold, escape slots apart (R286, R287). -/
def State.occupied (s : State) (q : Nat) : Nat :=
  (s.q.msgs.foldl (fun n m => if m.queue = q ∧ !m.escape then n + m.slots else n) 0)
    + s.field.reasm.foldl (fun n g => if g.queue = q then n + g.credits else n) 0

/-- Free credits of a queue (R286). -/
def State.credits (s : State) (q : Nat) : Nat := qDepth q - s.occupied q

/-- Messages standing in a queue, escape slots included. -/
def State.standing (s : State) (q : Nat) : Nat :=
  s.q.msgs.foldl (fun n m => if m.queue = q then n + m.slots else n) 0

/-- Whether the escape slot of a class is taken (R290). -/
def State.escapeTaken (s : State) (cls : Nat) : Bool :=
  s.q.msgs.any (fun m => m.escape && qClass m.queue == cls)

/-- The high-water mark of a queue follows its occupation (Queue.Info). -/
def State.noteHigh (s : State) (q : Nat) : State :=
  let n := s.standing q
  if lookupD s.q.highWater q 0 < n then { s with q.highWater := putKey s.q.highWater q n 0 } else s

/-- Who posts to a queue (Table 8-2). -/
inductive Poster where
  | monitors | fabric | press | vintner | cork | portA | portB | mailbox | jensiac | cellar | unit
deriving DecidableEq, Repr

/-- The producer of a queue (R285, Table 8-2): each queue has exactly one, so that posts of different producers never meet
in one queue, and R293's order among them is the order in which the queue engine takes one producer's posts. -/
def producerOf (q : Nat) : Poster :=
  if 0xFC ≤ q then .monitors
  else if 0xF0 ≤ q then (if q < 0xF4 then .press else if q < 0xF8 then .vintner else .cork)
  else if 0xE0 ≤ q then (if q % 4 = 0 then .press else if q % 4 = 1 then .vintner else if q % 4 = 2 then .cork else .monitors)
  else if 0xD4 ≤ q then .unit
  else if 0xD0 ≤ q then .press
  else if 0xC0 ≤ q then .fabric
  else if q = 0xB9 ∨ q = 0xBB then .jensiac
  else if q = 0xBC ∨ q = 0x81 ∨ q = 0x1E then .press
  else if q = 0x80 ∨ q = 0x20 then .cellar
  else if q = 0x82 ∨ q = 0x83 ∨ q = 0x1F ∨ (0x4C ≤ q ∧ q ≤ 0x4E) then .cork
  else if q = 0x21 then .monitors
  else if q = 0x87 ∨ q = 0x48 ∨ q = 0x50 ∨ q = 0x18 ∨ q = 0x1C ∨ q = 0x00 ∨ q = 0x06 then .portA
  else if q = 0x88 ∨ q = 0x49 ∨ q = 0x51 ∨ q = 0x19 ∨ q = 0x1D ∨ q = 0x01 ∨ q = 0x07 then .portB
  else if q = 0x4A ∨ q = 0x02 then .mailbox
  else .vintner

/-- A message placed at the tail of its queue. -/
def State.place (s : State) (m : QMsg) : State :=
  ({ s with q.msgs := s.q.msgs ++ [m] }).noteHigh m.queue

/-- Whether a waiting post waits for queue `q` as a latch (R295). -/
def QWait.isLatch (w : QWait) (q : Nat) : Bool :=
  match w.kind with
  | .latch _ => w.msg.queue == q
  | _ => false

/-- A latched post that stands for one more event, up to 255 (R295). -/
def QWait.merge (w : QWait) : QWait :=
  match w.kind with
  | .latch n => { w with kind := .latch (min 255 (n + 1)) }
  | _ => w

/-- Who posts: a consumer while it handles a message, a fresh producer that can wait, a fresh producer that meets a
refusal, or a hardware monitor or the Cellarmaster, whose posts are latched (R288 to R295). -/
inductive PostKind where
  | derived | fresh | refusable | latched
deriving DecidableEq, Repr

/-- Whether a post stands behind posts that wait for the same queue: a derived one behind derived ones, any other behind
all (R291). -/
def State.standsBehind (s : State) (k : PostKind) (q : Nat) : Bool :=
  s.q.waits.any (fun w => w.msg.queue == q && (k != .derived || w.kind == .derived))

/-- Whether a one-slot derived message can take the escape slot of its target's class (R290). -/
def State.escapeFree (s : State) (m : QMsg) : Bool :=
  !s.escapeTaken (qClass m.queue) && m.slots == 1 && decide (0 < qDepth m.queue)

/-- A derived message in the escape slot of its target's class (R290, R310). -/
def State.placeEscape (s : State) (m : QMsg) : State :=
  ((s.place { m with escape := true }).bump Obj.queueEscapeUseCount 1).arm (.escape (qClass m.queue)) 100000

/-- The kind of a post: a core that handles a message posts derived messages (R288). -/
def State.postAs (s : State) (k : PostKind) : PostKind := if s.q.handling && k == .fresh then .derived else k

/-- A post (R286 to R295). Where it finds neither credit nor escape slot, a derived or fresh post waits, a latched one
is held or merged (the first merge sets MonitorLatched and is recorded), and a refusable one is counted as refused. -/
def State.post (s : State) (k : PostKind) (q slots : Nat) (body : Msg) : State :=
  let m : QMsg := ⟨q, slots, false, 1, s.now, body⟩
  let k := s.postAs k
  if slots ≤ s.credits q && !s.standsBehind k q then s.place m
  else if qDepth q = 0 then s
  else
    match k with
    | .derived =>
      if s.escapeFree m && !s.standsBehind k q then s.placeEscape m
      else { s with q.waits := s.q.waits ++ [⟨.derived, m⟩] }
    | .fresh => { s with q.waits := s.q.waits ++ [⟨.fresh, m⟩] }
    | .refusable => { s with q.drops := putKey s.q.drops q (satBytes 4 (lookupD s.q.drops q 0 + 1)) 0 }
    | .latched =>
      if s.q.waits.any (fun w => w.isLatch q) then
        let firstMerge := s.q.waits.any (fun w => w.isLatch q && w.kind == .latch 1)
        let s := { s with q.waits := s.q.waits.map (fun w => if w.isLatch q then w.merge else w) }
        if firstMerge && !s.bit Obj.queueSticky 8 then
          let s := s.set Obj.queueSticky (setBit (s.get Obj.queueSticky) 8)
          { s with cask.own := s.cask.own ++
              [⟨0x0E09, false, 1, 0x1F, s.opSeconds, s.get Obj.powerStatePowerCycleCount, 0, false,
                leBytes 4 q ++ leBytes 4 2⟩] }
        else s
      else { s with q.waits := s.q.waits ++ [⟨.latch 1, m⟩] }

/-- The message a waiting post places: a merged latch carries the number of events it stands for, a record as its repeat
count too (R295, R590). -/
def QWait.toMsg (w : QWait) : QMsg :=
  match w.kind, w.msg.body with
  | .latch n, .log m => { w.msg with events := n, body := .log { m with rep := n - 1 } }
  | .latch n, _ => { w.msg with events := n }
  | _, _ => w.msg

/-- The first waiting post of a queue: derived posts first, oldest first, then the others (R291). -/
def nextWait (ws : List QWait) (q : Nat) : Option QWait :=
  match ws.find? (fun w => w.kind == .derived && w.msg.queue == q) with
  | some w => some w
  | none => ws.find? (fun w => w.msg.queue == q)

/-- The next waiting post of a queue placed, if its credits are free (R291). -/
def State.placeNext (s : State) (q : Nat) : Option State :=
  match nextWait s.q.waits q with
  | none => none
  | some w =>
    if w.msg.slots ≤ s.credits q then some (({ s with q.waits := s.q.waits.erase w }).place w.toMsg) else none

/-- At most `n` waiting posts of a queue placed. -/
def State.placeWaitingN : Nat → Nat → State → State
  | 0, _, s => s
  | n + 1, q, s =>
    match s.placeNext q with
    | some t => State.placeWaitingN n q t
    | none => s

/-- Credits that have freed in a queue go to its waiting posts (R291). -/
def State.placeWaiting (s : State) (q : Nat) : State := State.placeWaitingN s.q.waits.length q s

/-- An escape slot that has freed goes to the oldest derived post that waits for a queue of its class (R290, R291). -/
def State.escapeWaiting (s : State) (cls : Nat) : State :=
  match s.q.waits.find? (fun w => w.kind == .derived && qClass w.msg.queue == cls) with
  | some w => if s.escapeFree w.msg then ({ s with q.waits := s.q.waits.erase w }).placeEscape w.msg else s
  | none => s

/-- What a core does while it handles a message it has taken: its posts are derived (R288). -/
def State.handle (s : State) (f : State → State) : State :=
  let t := f { s with q.handling := true }
  { t with q.handling := s.q.handling }

/-- A message that passes a queue within one step: it stands there for an instant (R12, R285; log entry 123). -/
def State.pass (s : State) (q slots : Nat) : State :=
  let n := s.standing q + slots
  if lookupD s.q.highWater q 0 < n then { s with q.highWater := putKey s.q.highWater q n 0 } else s

/-- The message at the head of a queue. -/
def State.headOf (s : State) (q : Nat) : Option QMsg := s.q.msgs.find? (fun m => m.queue == q)

/-- The message at the head of a queue removed: its credit, or the escape slot it held, returns (R286, R290). -/
def State.take (s : State) (q : Nat) : State :=
  match s.headOf q with
  | none => s
  | some m =>
    let s := { s with q.msgs := s.q.msgs.erase m }
    let s := if m.escape then s.disarm (.escape (qClass q)) else s
    (s.placeWaiting q).escapeWaiting (qClass q)

/-- Queue.Info of a queue (Table 8-8): depth, occupied, high-water mark, class code, refusals and drops. -/
def State.queueInfo (s : State) (q : Nat) : Bytes :=
  [byteOf (qDepth q), byteOf (s.standing q), byteOf (lookupD s.q.highWater q 0), byteOf (qClass q)]
    ++ leBytes 4 (lookupD s.q.drops q 0)

/-- Queue.EscapeInUse: bit n while class n's escape slot is taken. -/
def State.escapeInUse (s : State) : Nat :=
  (List.range 8).foldl (fun n c => if s.escapeTaken c then setBit n c else n) 0

end Sys2Proof.Machine
end

