-- ==== Sys2Proof/Machine/LogOps.lean ====
section
/-!
DEFINITION. Posting records (R585 to R591), sticky flags and their summary (R180 to R183), and Notify events (R232).
-/

namespace Sys2Proof.Machine

open Sys2Proof

/-- The producers of Table 16-1. -/
inductive Prod where
  | cellar | press | vintner | cork | monitors
deriving DecidableEq, Repr

/-- The producer code of Table 16-1. -/
def Prod.code : Prod → Nat
  | .cellar => 0 | .press => 1 | .vintner => 2 | .cork => 3 | .monitors => 4

/-- A record as its producer posts it: source byte (producer, instance), stamps of this instant (R590). -/
def State.mkLog (s : State) (p : Prod) (code sev inst : Nat) (snapshot vint : Bool) (payload : Bytes) : LogMsg :=
  ⟨code, snapshot, sev, p.code * 32 + inst, s.opSeconds, s.get Obj.powerStatePowerCycleCount, 0, vint, payload⟩

/-- Whether a class has no Vintage entry and none pending, so that its next fault is its first ever (R608). -/
def State.classUnrecorded (s : State) (cls : Nat) : Bool :=
  decide (cls ≤ 0x27)
    && (memRead zeroByte s.mems.vint (32 * (8 + cls) + 27) == 0)
    && !(memRead ctlByte s.mems.ctl (0xE0 + cls / 8)).toNat.testBit (cls % 8)

/-- A record handed to the Cellarmaster: its own list, or the log queue of its producer and kind (Table 8-2): snapshots
in 0xE4–0xE7, candidates for the Vintage in 0xE8–0xEB, others in 0xE0–0xE3. -/
def State.postLog (s : State) (p : Prod) (code sev inst : Nat) (snapshot vint : Bool) (payload : Bytes) : State :=
  let m := s.mkLog p code sev inst snapshot vint payload
  let base := if snapshot then 0xE4 else if vint || s.classUnrecorded (code / 256) then 0xE8 else 0xE0
  match p with
  | .cellar => { s with cask.own := s.cask.own ++ [m] }
  | .press => s.post .fresh base 1 (.log m)
  | .vintner => s.post .fresh (base + 1) 1 (.log m)
  | .cork => s.post .fresh (base + 2) 1 (.log m)
  | .monitors => s.post .latched (base + 3) 1 (.log m)

/-- An ordinary record whose row does not name the Vintage. -/
def State.log (s : State) (p : Prod) (code sev inst : Nat) (payload : Bytes) : State :=
  s.postLog p code sev inst false false payload

/-! ## Frames and Notify -/

/-- A 29-bit identifier (Table 6-3). -/
def mkIdent (prio : Nat) (bcast : Bool) (func src dst : Nat) : BitVec 29 :=
  BitVec.ofNat 29 (prio * 2 ^ 26 + (if bcast then 2 ^ 25 else 0) + func * 2 ^ 20 + src * 2 ^ 11 + dst * 4)

/-- The smallest payload length of the DLC coding that holds `n` bytes (Table 6-1). -/
def dlcLength (n : Nat) : Nat :=
  if n ≤ 8 then n else if n ≤ 12 then 12 else if n ≤ 16 then 16 else if n ≤ 20 then 20 else if n ≤ 24 then 24
  else if n ≤ 32 then 32 else if n ≤ 48 then 48 else 64

/-- One frame as the Milush transmits it: FD, extended, BRS 1, padded with 0x00 (Table 6-1, R205); the port that sends it
sets its ESI. -/
def mkFrame (ident : BitVec 29) (payload : Bytes) : CanFrame :=
  ⟨ident, true, true, false, true, false, false, payload ++ List.replicate (dlcLength payload.length - payload.length) 0x00#8⟩

/-- The frames of a message (R211 to R213): 60 service bytes a frame, First, Last, Prot, Deferred and Seq in the
control byte, at most 16 frames. -/
def groupFrames (ident : BitVec 29) (tid : Nat) (prot deferred : Bool) (body : Bytes) : List CanFrame :=
  let n := max 1 (min 16 ((body.length + 59) / 60))
  (List.range n).map (fun i =>
    let part := (body.drop (60 * i)).take 60
    let ctl := (if i = 0 then 0x80 else 0) + (if i + 1 = n then 0x40 else 0) + (if prot then 0x20 else 0)
      + (if deferred then 0x10 else 0) + i
    mkFrame ident ([byteOf tid, byteOf ctl, 0x00#8, byteOf part.length] ++ part))

/-- Whether a port is enabled (Field.PortEnable). -/
def State.portOn (s : State) (p : Port) : Bool :=
  match p with
  | .a => s.bit Obj.fieldPortEnable 0
  | .b => s.bit Obj.fieldPortEnable 1

/-- The number of a port: 0 A, 1 B. -/
def portNum : Port → Nat
  | .a => 0 | .b => 1

/-- Frames of a transmitter discarded by R296: counted, with TxExpired. -/
def State.txExpired (s : State) (n : Nat) : State :=
  if n = 0 then s else (s.bump Obj.queueTxExpiredCount n).set Obj.queueSticky (setBit (s.get Obj.queueSticky) 2)

/-- Whether a port discards the frames for it at once (R296): disabled, in transceiver standby, in bus-off, or for more
than 10 ms in restricted operation. -/
def State.txClosed (s : State) (p : Port) : Bool :=
  let st := s.get (Obj.portState (portNum p))
  let since := match p with
    | .a => s.field.portA.restrictedAt
    | .b => s.field.portB.restrictedAt
  st == 0 || st == 1 || st == 5 || (st == 6 && since.any (fun t => decide (t + 10000 < s.now)))

/-- Frames posted by the Vintner to a port's transmit queue; each transmit queue's lifetime starts (R296). -/
def State.sendFrames (s : State) (k : PostKind) (p : Port) (queueA : Nat) (fs : List CanFrame) : State :=
  let q := queueA + portNum p
  if s.txClosed p then s.txExpired fs.length else
  let s := fs.foldl (fun s f => s.post k q 1 (.frame f)) s
  if s.armed (.txLife p q) || fs.isEmpty then s else s.arm (.txLife p q) (1000 * s.get Obj.queueTxLifetime)

/-- A message broadcast or sent unprotected from the unit on every enabled port. -/
def State.sendAll (s : State) (k : PostKind) (queueA : Nat) (ident : BitVec 29) (body : Bytes) : State :=
  [Port.a, Port.b].foldl (fun s p => if s.portOn p then s.sendFrames k p queueA (groupFrames ident 0 false false body)
    else s) s

/-- A Notify (R232, Table 6-12), for an event whose bit is set in Field.NotifyMask: posted by the Vintner while it
serves, addressed to Field.NotifyDest; an unassigned unit sends none (R234). -/
def State.notify (s : State) (event slot : Nat) (data : Bytes) : State :=
  let dst := s.get Obj.fieldNotifyDest
  if s.bit Obj.fieldNotifyMask (event - 1) ∧ dst ≠ 0xFFFF ∧ s.field.effective ≠ 0xFFFF ∧ s.power.vintReady then
    let seq := (s.get Obj.fieldNotifySequence + 1) % 65536
    let s := s.set Obj.fieldNotifySequence seq
    let prio := if event = 1 ∨ event = 5 then 0 else 3
    s.sendAll .fresh 0x1A (mkIdent prio false 7 s.field.effective dst)
      (leBytes 2 seq ++ [byteOf event, 0x00#8] ++ leBytes 4 s.opSeconds ++ leBytes 2 slot ++ sliceBytes data 0 8)
  else s

/-- The queue by which a core other than the Vintner, or a hardware monitor, asks for a Notify (Table 8-2). -/
def notifyQueue : Prod → Nat
  | .press => 0x1E
  | .cork => 0x1F
  | .cellar => 0x20
  | .monitors => 0x21
  | .vintner => 0x1A

/-- A Notify event of another core on its way to the Vintner (R12, R295): the event, the slot and the code of its matching
record (0xFFFF and 0 where there is none, log entry 124), and its data. Events that no Notify is wanted for are not
posted; the Cellarmaster's and the monitors' are latched. -/
def State.raiseNotify (s : State) (p : Prod) (event slot code : Nat) (data : Bytes) : State :=
  if s.bit Obj.fieldNotifyMask (event - 1) ∧ s.get Obj.fieldNotifyDest ≠ 0xFFFF ∧ s.power.vintReady then
    s.post (if p = .cellar ∨ p = .monitors then .latched else .fresh) (notifyQueue p) 1
      (.raw ([byteOf event] ++ leBytes 2 slot ++ leBytes 2 code ++ sliceBytes data 0 8))
  else s

/-! ## Sticky flags -/

/-- The bit of Sticky.Summary that an RW1C object's index feeds (Table 5-7). -/
def summaryBit (index : Nat) : Option Nat :=
  let hi := index / 256
  if hi = 0x72 then some 0 else if hi = 0x11 then some 1 else if hi = 0x12 then some 2 else if hi = 0x14 then some 3
  else if hi = 0x18 then some 4 else if hi = 0x1A then some 5 else if hi = 0x20 then some 6
  else if hi = 0x21 then some 7 else if hi = 0x22 then some 8
  else if (0x3000 ≤ index ∧ index ≤ 0x300F) ∨ hi = 0x33 then some 9
  else if hi = 0x31 then some 10 else if hi = 0x32 then some 11 else if hi = 0x40 then some 12
  else if hi = 0x41 then some 13 else if 0x5000 ≤ index ∧ index ≤ 0x500F then some 14
  else if hi = 0x51 then some 15 else if hi = 0x52 then some 16 else if hi = 0x60 then some 17
  else if hi = 0x61 then some 18 else if hi = 0x62 then some 19 else if hi = 0x70 then some 20
  else if hi = 0x71 then some 21 else if hi = 0x80 then some 22 else if hi = 0x90 then some 23
  else none

/-- Whether a key is an RW1C object. -/
def isRw1c (k : Nat) : Bool :=
  match objOf k with
  | some d => d.acc == .rw1c
  | none => false

/-- Sticky.Summary (R183): bit n while any flag is set in any RW1C object of its range. -/
def summaryOf (dict : List (Nat × Nat)) : Nat :=
  dict.foldl (fun n p =>
    if isRw1c p.1 ∧ p.2 ≠ 0 then
      match summaryBit (p.1 / 256) with
      | some b => setBit n b
      | none => n
    else n) 0

/-- HOST_IRQ_N is asserted (R261). -/
def State.irqAsserted (s : State) : Bool :=
  decide ((s.hp.irqStatus.toNat &&& s.get Obj.hostPortIrqEnable) ≠ 0) && !s.pins.cellsOnAon

/-- A bit of HP_IRQ_STATUS set (Table 7-4), while the core domain serves the window. -/
def State.raiseIrq (s : State) (bit : Nat) : State :=
  { s with hp.irqStatus := s.hp.irqStatus ||| BitVec.ofNat 32 (2 ^ bit) }

/-- Sticky.Summary followed (R183): a change sets SummaryChange and sends Notify 0x03 with the old and new summary. -/
def State.noteSummary (s : State) : State :=
  let new := summaryOf s.dict
  let old := s.hp.lastSummary.toNat
  if new = old then s
  else (({ s with hp.lastSummary := BitVec.ofNat 32 new }).raiseIrq 1).notify 3 0xFFFF (leBytes 4 old ++ leBytes 4 new)

/-- A sticky flag set. -/
def State.flag (s : State) (k bit : Nat) : State := (s.set k (setBit (s.get k) bit)).noteSummary

/-- A sticky flag set and, on the first occurrence after it was cleared, `f` done. -/
def State.flagFirst (s : State) (k bit : Nat) (f : State → State) : State :=
  if s.bit k bit then s else f (s.flag k bit)

/-- A fault row that sets a flag and writes an ordinary record. -/
def State.faultRow (s : State) (k bit : Nat) (p : Prod) (code sev inst : Nat) (payload : Bytes) : State :=
  (s.flag k bit).log p code sev inst payload

end Sys2Proof.Machine
end

