-- ==== Sys2Proof/Machine/Cask.lean ====
section
/-!
DEFINITION. The Cask and the Vintage (ch. 16): records, floods, drops, the control block, the write-once entries, the
start scan and the clear.
-/

namespace Sys2Proof.Machine

open Sys2Proof

/-! ## CRC-32 (R7) -/

/-- One bit of the reflected CRC-32. -/
def crcBit (c : Nat) : Nat := if c % 2 = 1 then (c / 2) ^^^ 0xEDB88320 else c / 2

/-- One byte of the reflected CRC-32. -/
def crcByte (c : Nat) (b : Byte) : Nat := Nat.repeat crcBit 8 (c ^^^ b.toNat)

/-- CRC-32 of a byte string (R7). -/
def crc32 (bs : Bytes) : Nat := (bs.foldl crcByte 0xFFFFFFFF) ^^^ 0xFFFFFFFF

/-! ## The control block (Table 16-5) -/

/-- An integer field of the control block. -/
def State.ctl (s : State) (off n : Nat) : Nat := leNat (memSlice ctlByte s.mems.ctl off n)

/-- An integer field of the control block written. -/
def State.setCtl (s : State) (off n v : Nat) : State :=
  { s with mems.ctl := memWriteAll ctlByte s.mems.ctl off (leBytes n v) }

/-- A saturating counter of the control block raised. -/
def State.bumpCtl (s : State) (off n by_ : Nat) : State := s.setCtl off n (satBytes n (s.ctl off n + by_))

/-- Cask.State: 0 Recording, 1 Full, 2 Sealed, 3 Clearing. -/
def State.caskState (s : State) : Nat := s.ctl 0x05 1

/-- The write index. -/
def State.writeIndex (s : State) : Nat := s.ctl 0x0C 2

/-- The write index and its complement written as one word (Table 16-5). -/
def State.setWriteIndex (s : State) (i : Nat) : State := s.setCtl 0x0C 4 (i + 65536 * (65535 - i))

/-- Free slots (Cask.Ullage). -/
def State.ullage (s : State) : Nat := 2048 - s.writeIndex

/-- Bytes of the Cask. -/
def State.caskBytes (s : State) (a n : Nat) : Bytes := memSlice zeroByte s.mems.cask a n

/-- Bytes written to the Cask. -/
def State.setCask (s : State) (a : Nat) (bs : Bytes) : State :=
  { s with mems.cask := memWriteAll zeroByte s.mems.cask a bs }

/-- The drop-counter offset of a class (Table 16-5): classes 0x00–0x27, then 0x80–0x87. -/
def dropOffset (cls : Nat) : Nat := if cls < 0x28 then 0x80 + 2 * cls else 0x80 + 2 * (0x28 + (cls - 0x80) % 8)

/-! ## Records (R585 to R591) -/

/-- Bytes 0–11 of a record (Table 16-1). -/
def recordHead (m : LogMsg) (form : Nat) (truncated bound : Bool) : Bytes :=
  leBytes 2 m.code
    ++ [byteOf (form * 64 + (if truncated then 32 else 0) + (if bound then 16 else 0) + m.severity), byteOf m.source]
    ++ leBytes 4 m.opSeconds ++ leBytes 3 m.cycles ++ [byteOf (min 255 m.rep)]

/-- A whole record with its CRC: one slot, or three for a snapshot. -/
def recordBytes (m : LogMsg) (snapshot truncated bound : Bool) : Bytes :=
  let body := recordHead m (if snapshot then 1 else 0) truncated bound
    ++ sliceBytes m.payload 0 (if snapshot then 80 else 16)
  body ++ leBytes 4 (crc32 body)

/-- The slots of the record that starts at a slot (R591, R616). -/
def State.slotsAt (s : State) (slot : Nat) : Nat :=
  if (memRead zeroByte s.mems.cask (32 * slot + 2)).toNat / 64 = 1 then 3 else 1

/-- Whether the record that starts at a slot passes its CRC (R591). -/
def State.recordOk (s : State) (slot : Nat) : Bool :=
  let n := 32 * s.slotsAt slot
  let r := s.caskBytes (32 * slot) n
  fieldAt r (n - 4) 4 == crc32 (r.take (n - 4))

/-- Starts of the records below the write index, in order, walked as R616's reader walks. -/
def State.recordStarts (s : State) : Nat → Nat → List Nat
  | 0, _ => []
  | fuel + 1, slot => if slot < s.writeIndex then slot :: s.recordStarts fuel (slot + s.slotsAt slot) else []

/-- The start of the last record, if there is one. -/
def State.lastRecord (s : State) : Option Nat :=
  let i := s.writeIndex
  if i = 0 then none
  else if 3 ≤ i ∧ s.slotsAt (i - 3) = 3 ∧ s.recordOk (i - 3) then some (i - 3) else some (i - 1)

/-! ## Floods (R595 to R599, R711) -/

/-- The flood mode of a code and its rate: the first rule in use that names it, else the default (R595). -/
def State.floodMode (s : State) (code : Nat) : Bool × Nat :=
  let rules := s.bytesOf Obj.caskFloodRules
  match (List.range 32).find? (fun i => fieldAt rules (4 * i) 2 == code) with
  | some i => (fieldAt rules (4 * i + 2) 1 == 1, fieldAt rules (4 * i + 3) 1)
  | none => (s.get Obj.caskFloodDefault == 1, s.get Obj.caskFloodDefaultRate)

/-- Whether a record folds into the last one (R596). -/
def State.foldsInto (s : State) (m : LogMsg) : Option Nat :=
  match s.lastRecord with
  | none => none
  | some slot =>
    let r := s.caskBytes (32 * slot) 12
    if fieldAt r 0 2 = m.code ∧ fieldAt r 3 1 = m.source ∧ fieldAt r 8 3 = m.cycles ∧ fieldAt r 11 1 < 255
      then some slot else none

/-- The last record's repeat count rewritten through the repeat shadow (R596, R597). -/
def State.rewriteRepeat (s : State) (slot count : Nat) : State :=
  let n := 32 * s.slotsAt slot
  let s := s.setCtl 0x20 4 (slot + 65536 * count + 0xA5000000)
  let s := s.setCask (32 * slot + 11) [byteOf count]
  let s := s.setCask (32 * slot + n - 4) (leBytes 4 (crc32 (s.caskBytes (32 * slot) (n - 4))))
  s.setCtl 0x23 1 0

/-! ## The Vintage (R606 to R612) -/

/-- An entry of the Vintage. -/
def State.vintEntry (s : State) (e : Nat) : Bytes := memSlice zeroByte s.mems.vint (32 * e) 32

/-- Whether an entry is programmed, voided or due to be programmed. -/
def State.vintTaken (s : State) (e : Nat) : Bool :=
  (s.vintEntry e).any (fun b => b != 0#8) || s.cask.vintWork.any (fun w => w.1 == e)

/-- The first free entry of a range. -/
def State.freeEntry (s : State) (first n : Nat) : Option Nat :=
  ((List.range n).map (fun i => first + i)).find? (fun e => !s.vintTaken e)

/-- Vintage.Used: entries programmed or void. -/
def State.vintUsed (s : State) : Nat :=
  ((List.range 64).filter (fun e => memRead zeroByte s.mems.vint (32 * e + 27) != 0#8)).length

/-- Vintage.EventFree. -/
def State.vintEventFree (s : State) : Nat :=
  ((List.range 16).filter (fun e => (s.vintEntry (48 + e)).all (fun b => b == 0#8))).length

/-- Vintage.Pending: entries awaiting programming. -/
def State.vintPending (s : State) : Nat := s.cask.vintWork.length

/-- Bytes 0–26 and the CRC of an entry (Table 16-7), marker unset. -/
def entryBytes (code area sev source opS cycles flags slot : Nat) (payload : Bytes) (gen : Nat) : Bytes :=
  let body := leBytes 2 code ++ [byteOf (area * 64 + sev), byteOf source] ++ leBytes 4 opS ++ leBytes 3 cycles
    ++ [byteOf flags] ++ leBytes 2 slot ++ sliceBytes payload 0 12 ++ [byteOf gen]
  body ++ [0x00#8] ++ leBytes 4 (crc32 body)

/-- Work for the Vintage: the entry is due, its pending bit set where its area has one (R612), and programming, at
most 4 ms an entry, one at a time; in HOLDUP none begins (R614). -/
def State.queueVintage (s : State) (entry : Nat) (bs : Bytes) : State :=
  let s := { s with cask.vintWork := s.cask.vintWork ++ [(entry, bs)] }
  let s := if 8 ≤ entry ∧ entry < 48 then
      s.setCtl (0xE0 + (entry - 8) / 8) 1 (setBit (s.ctl (0xE0 + (entry - 8) / 8) 1) ((entry - 8) % 8))
    else if 4 ≤ entry ∧ entry < 8 then s.setCtl 0xE5 1 (setBit (s.ctl 0xE5 1) (entry - 4))
    else s
  if s.armed .vintage || s.power.state == .holdup then s else s.arm .vintage 4000

/-- The record of a Cask or Vintage fault of the Cellarmaster itself, as its next own message. -/
def State.ownLog (s : State) (code sev : Nat) (payload : Bytes) : State :=
  { s with cask.own := s.cask.own ++ [s.mkLog .cellar code sev 31 false false payload] }

/-- An event takes the next free event entry, or is counted as dropped (R609, R621). -/
def State.takeEvent (s : State) (bs : Nat → Bytes) : State :=
  match s.freeEntry 48 16 with
  | some e => s.queueVintage e (bs e)
  | none => (s.bump Obj.vintageEventDropped 1).flagFirst Obj.vintageSticky 2 (fun s => s.ownLog 0x8405 0 [])

/-- What a record does to the Vintage (R608 to R610): the first fault of a class takes its class entry, a record whose
row names the Vintage takes an event entry after that, a lifecycle transition the lifecycle area, a Cask failure its
own entry on its first occurrence. -/
inductive VintUse where
  | none | cls (c : Nat) | event | lifecycle | failure (k : Nat)
deriving DecidableEq, Repr

/-- The Vintage use of a record. -/
def State.vintUse (s : State) (m : LogMsg) : VintUse :=
  let c := m.code / 256
  if c = 0x85 then .lifecycle
  else if 0x8411 ≤ m.code ∧ m.code ≤ 0x8414 then
    if s.vintTaken (4 + (m.code - 0x8411)) then .none else .failure (m.code - 0x8410)
  else if c ≤ 0x27 ∧ s.classUnrecorded c ∧ !s.vintTaken (8 + c) then .cls c
  else if m.vint then .event
  else .none

/-- The Vintage entry of a record that stands in `slot` (0xFFFF where none was written) queued (R608 to R610, R664). -/
def State.vintFor (s : State) (m : LogMsg) (u : VintUse) (slot : Nat) : State :=
  let bs := fun (area : Nat) => entryBytes m.code area m.severity m.source m.opSeconds m.cycles 0 slot m.payload
    (s.ctl 0x08 4)
  match u with
  | .none => s
  | .cls c => s.queueVintage (8 + c) (bs 2)
  | .event => s.takeEvent (fun _ => bs 3)
  | .lifecycle =>
    match s.freeEntry 0 4 with
    | some e => s.queueVintage e (bs 0)
    | none => s.takeEvent (fun _ => bs 0)
  | .failure k => s.queueVintage (3 + k) (bs 1)

/-! ## Writing a record -/

/-- A record dropped by a full or sealed Cask (R600, R624). -/
def State.dropRecord (s : State) (m : LogMsg) : State :=
  let s := s.bumpCtl 0x10 4 1
  let s := s.bumpCtl (dropOffset (m.code / 256)) 2 1
  s.flag Obj.caskSticky 6

/-- Cask failure of kind 1 (R593, R624): State Sealed, and its Vintage entry on the first occurrence. -/
def State.sealCask (s : State) : State :=
  let s := (s.setCtl 0x05 1 2).flag Obj.caskSticky 1
  let m := s.mkLog .cellar 0x8411 2 31 false false []
  s.vintFor m (s.vintUse m) 0xFFFF

/-- The write index raised, with Full once it reaches 2,048 (R600). -/
def State.raiseIndex (s : State) (i : Nat) : State :=
  let s := s.setWriteIndex i
  if i = 2048 then (s.setCtl 0x05 1 1).flag Obj.caskSticky 0 else s

/-- The index raised past a whole record of class c: FirstSlot and Full follow, and the first ullage below 205 of a
generation sends Notify 0x07 (R600, R602, R603). -/
def State.passRecord (s : State) (slot n c : Nat) : State :=
  let s := s.raiseIndex (slot + n)
  let s := if c < 0x28 ∧ s.ctl (0x30 + 2 * c) 2 = 0xFFFF then s.setCtl (0x30 + 2 * c) 2 slot else s
  if s.ullage < 205 ∧ !s.cask.ullageNotified then
    ({ s with cask.ullageNotified := true }).raiseNotify .cellar 7 slot 0 (leBytes 2 s.ullage) else s

/-- A record written at the write index and committed (R592). Where the rewrite does not read back either (R593) the
slot holds a free value: the spec does not say what a failed write leaves (log entry 131). -/
def State.writeRecord (s : State) (m : LogMsg) (u : VintUse) (snapshot truncated ok1 ok2 : Bool) : State :=
  let slot := s.writeIndex
  let n := if snapshot then 3 else 1
  if !ok1 && !ok2 then
    let d := s.draw
    ((d.2.setCask (32 * slot) (leBytes (32 * n) d.1)).sealCask).vintFor m u 0xFFFF
  else
    let s := s.setCask (32 * slot) (recordBytes m snapshot truncated (u != .none))
    (s.passRecord slot n (m.code / 256)).vintFor m u slot

/-- A message taken by the Cellarmaster (R592 to R601, R664): dropped by a sealed or full Cask, folded into the last
record, suppressed by its bucket, or written. -/
def State.commitMsg (s : State) (m : LogMsg) (ok1 ok2 : Bool) : State :=
  let u := s.vintUse m
  let c := m.code / 256
  let flood := !m.snapshot && u == .none && c != 0x84 && c != 0x85
  let mode := s.floodMode m.code
  if s.caskState = 2 then (s.dropRecord m).vintFor m u 0xFFFF
  else
    match (if flood && !mode.1 then s.foldsInto m else none) with
    | some slot =>
      s.rewriteRepeat slot (min 255 ((memRead zeroByte s.mems.cask (32 * slot + 11)).toNat + 1 + m.rep))
    | none =>
      let tokens := lookupD s.cask.buckets m.code mode.2
      if flood && mode.1 && decide (tokens = 0) then
        ({ s with cask.suppressed := putKey s.cask.suppressed m.code (lookupD s.cask.suppressed m.code 0 + 1) 0 }).bumpCtl
          0x2C 4 1
      else if s.ullage = 0 then (s.dropRecord m).vintFor m u 0xFFFF
      else
        let held := lookupD s.cask.suppressed m.code 0
        let s := if flood && mode.1 then
            let s := { s with cask.buckets := putKey s.cask.buckets m.code (tokens - 1) (mode.2 + 1)
                              cask.suppressed := putKey s.cask.suppressed m.code 0 0 }
            if s.armed (.floodRefill m.code) then s else s.arm (.floodRefill m.code) (3600000000 / max 1 mode.2)
          else s
        let m := if flood && mode.1 then { m with rep := m.rep + held } else m
        if m.snapshot && decide (3 ≤ s.ullage) then s.writeRecord m u true false ok1 ok2
        else s.writeRecord m u false m.snapshot ok1 ok2

/-- The log queues in drain order from the one after the last served (R292). -/
def logQueues (turn : Nat) : List Nat := (List.range 12).map (fun i => 0xE0 + (turn + 1 + i) % 12)

/-- The next log message the Cellarmaster takes: its own, else the next log queue in turn (R292, R294). -/
def State.nextLog (s : State) : Option (LogMsg × State) :=
  match s.cask.own with
  | m :: rest => some (m, { s with cask.own := rest })
  | [] =>
    match (logQueues s.cask.turn).find? (fun q => (s.headOf q).isSome) with
    | none => none
    | some q =>
      match s.headOf q with
      | some ⟨_, _, _, _, _, .log m⟩ => some (m, { (s.take q) with cask.turn := q - 0xE0 })
      | some ⟨_, _, _, _, _, _⟩ => some (s.mkLog .cellar 0x8600 0 31 false false [], { (s.take q) with cask.turn := q - 0xE0 })
      | none => none

/-- Whether a safety message stands before the Cellarmaster (R292). -/
def State.safetyWaits (s : State) : Bool := s.q.msgs.any (fun m => qClass m.queue == 0)

/-- The newest record of a code, or 0xFFFF. -/
def State.slotOfCode (s : State) (code : Nat) : Nat :=
  ((s.recordStarts 2048 0).reverse.find? (fun n => fieldAt (s.caskBytes (32 * n) 2) 0 2 == code)).getD 0xFFFF

/-- CASK_RECORD_COMMIT (R292, R592): the Cellarmaster commits the next log message, while it runs, no safety message
stands before it, and it neither scans nor clears the Cask. -/
def execCaskRecordCommit (firstOk secondOk : Bool) (s : State) : Out :=
  .next (s.when (s.awake && s.cask.scanned && !s.cask.clearing && !s.safetyWaits) (fun s =>
    match s.nextLog with
    | none => s
    | some (m, s) => s.commitMsg m firstOk secondOk))

/-- FLOOD_TOKEN_REFILL (R598): a token bucket gains a token, and goes on until it is full. -/
def execFloodTokenRefill (code : BitVec 16) (s : State) : Out :=
  .next (s.onTimer (.floodRefill code.toNat) (fun s =>
    let n := (s.floodMode code.toNat).2
    let t := min n (lookupD s.cask.buckets code.toNat n + 1)
    let s := { s with cask.buckets := putKey s.cask.buckets code.toNat t (n + 1) }
    if t < n then s.arm (.floodRefill code.toNat) (3600000000 / max 1 n) else s))

/-! ## The start scan (R594) -/

/-- A cut-short repeat-count rewrite applied again (R597). -/
def State.applyShadow (s : State) : State :=
  if s.ctl 0x23 1 = 0xA5 then s.rewriteRepeat (s.ctl 0x20 2) (s.ctl 0x22 1) else s

/-- Steps 2 and 3 of a clear (R618): every slot is zero, the generation rises, and counters, FirstSlot and markers are
reset. -/
def State.clearCask (s : State) : State :=
  let gen := s.ctl 0x08 4
  let s := { s with mems.cask := [] }
  let s := { s with mems.ctl := s.mems.ctl.filter (fun c => decide (c.1 < 0x10 ∨ 0xE0 ≤ c.1)) }
  let s := s.setCtl 0x08 4 (satBytes 4 (gen + 1))
  let s := s.setCtl 0x24 4 s.opSeconds
  s.setCtl 0x28 4 (s.get Obj.powerStatePowerCycleCount)

/-- A clear in progress completed, steps 2 to 5 (R618, R619): index 0, Recording, and record 0x8401 with the old
generation, index and DroppedTotal. -/
def State.endClear (s : State) : State :=
  if s.caskState ≠ 3 then s
  else
    let old := leBytes 4 (s.ctl 0x08 4) ++ leBytes 2 s.writeIndex ++ leBytes 4 (s.ctl 0x10 4)
    let s := ((s.clearCask).setWriteIndex 0).setCtl 0x05 1 0
    let s := { (s.disarm .caskClear) with cask.clearing := false, cask.ullageNotified := false }
    s.writeRecord (s.mkLog .cellar 0x8401 0 31 false false old) .none false false true true

/-- The write-index word checked against its complement; a rebuilt index stands past the last non-empty slot, and the
rebuilding is the Cask failure of kind 2 (Table 16-10). -/
def State.checkIndex (s : State) : State :=
  if s.ctl 0x0C 2 + s.ctl 0x0E 2 = 65535 then s
  else
    let last := (List.range 2048).reverse.find? (fun n => (s.caskBytes (32 * n) 32).any (fun b => b != 0#8))
    let s := s.raiseIndex (match last with | some n => n + 1 | none => 0)
    (s.flag Obj.caskSticky 4).ownLog 0x8412 2 []

/-- Records below the index that fail their CRC: kind 3, left in place (Table 16-10). -/
def State.checkRetention (s : State) : State :=
  ((s.recordStarts 2048 0).filter (fun n => !s.recordOk n)).foldl (fun s slot =>
    (s.bumpCtl 0x16 2 1).flagFirst Obj.caskSticky 3 (fun s => s.ownLog 0x8413 2 (leBytes 2 slot))) s

/-- The slot at the write index (R594): a whole record there is taken in, a torn one is zeroed and replaced by record
0x8402. -/
def State.checkTorn (s : State) : State :=
  let i := s.writeIndex
  let used := fun n => decide (n < 2048) && (s.caskBytes (32 * n) 32).any (fun b => b != 0#8)
  if 2048 ≤ i then s
  else if used i && s.recordOk i then s.passRecord i (s.slotsAt i) (fieldAt (s.caskBytes (32 * i) 2) 0 2 / 256)
  else
    let bad := [i, i + 1, i + 2].filter used
    if bad.isEmpty then s
    else
      let z := if bad.contains i then bad else i :: bad
      let s := z.foldl (fun s n => s.setCask (32 * n) (List.replicate 32 0x00#8)) s
      let s := (s.bumpCtl 0x14 2 1).flag Obj.caskSticky 2
      s.ownLog 0x8402 0 (leBytes 2 i ++ [byteOf z.length])

/-- The stamps of the last record against the two counters (R594, Table 16-10): a lag of up to 60 s is raised in
silence, more is the Cask failure of kind 4, and both counters are raised. -/
def State.checkStamps (s : State) : State :=
  match s.lastRecord with
  | none => s
  | some slot =>
    let r := s.caskBytes (32 * slot) 12
    let op := fieldAt r 4 4
    let cy := fieldAt r 8 3
    let myOp := s.opSeconds
    let myCy := s.get Obj.powerStatePowerCycleCount
    if myOp + 60 < op ∨ myCy < cy then
      let s := (s.set Obj.powerStateOperatingSeconds (max op myOp)).set Obj.powerStatePowerCycleCount (max cy myCy)
      (s.flag Obj.caskSticky 5).ownLog 0x8414 2 (leBytes 4 op ++ leBytes 4 myOp ++ leBytes 4 cy ++ leBytes 4 myCy)
    else if myOp < op then s.set Obj.powerStateOperatingSeconds op
    else s

/-- An entry's pending bit cleared, where its area has one (R612). -/
def State.clearPending (s : State) (e : Nat) : State :=
  if 8 ≤ e ∧ e < 48 then
    s.setCtl (0xE0 + (e - 8) / 8) 1 (clearBit (s.ctl (0xE0 + (e - 8) / 8) 1) ((e - 8) % 8))
  else if 4 ≤ e ∧ e < 8 then s.setCtl 0xE5 1 (clearBit (s.ctl 0xE5 1) (e - 4))
  else s

/-- An entry found unfinished is voided and its content placed in the next free event entry, Relocated (R620). -/
def State.voidEntry (s : State) (e : Nat) (content : Bytes) : State :=
  let s := s.clearPending e
  let s := { s with mems.vint := memWrite zeroByte s.mems.vint (32 * e + 27) 0xFF#8 }
  let s := (s.flag Obj.vintageSticky 0).ownLog 0x8403 0 [byteOf e]
  let body := content.take 11 ++ [(content.getD 11 0#8) ||| 0x02#8] ++ (content.drop 12).take 15
  s.takeEvent (fun _ => body ++ [0x00#8] ++ leBytes 4 (crc32 body))

/-- The Vintage entries checked at start: unfinished ones voided, a failed CRC noted (Table 16-10). -/
def State.checkVintage (s : State) : State :=
  (List.range 64).foldl (fun s e =>
    let b := s.vintEntry e
    let marker := b.getD 27 0#8
    if marker = 0x5A#8 then
      if fieldAt b 28 4 = crc32 (b.take 27) then s.clearPending e
      else s.flagFirst Obj.vintageSticky 1 (fun s => s.ownLog 0x8404 0 [byteOf e])
    else if marker = 0xFF#8 ∨ b.all (fun x => x == 0#8) then s
    else s.voidEntry e b) s

/-- The Vintage entry of a Cask record read back (R614). -/
def State.entryOfSlot (s : State) (area slot : Nat) : Bytes :=
  let r := s.caskBytes (32 * slot) 32
  entryBytes (fieldAt r 0 2) area (fieldAt r 2 1 % 8) (fieldAt r 3 1) (fieldAt r 4 4) (fieldAt r 8 3) 0 slot
    ((r.drop 12).take 12) (s.ctl 0x08 4)

/-- Pending class and Cask-failure entries programmed at start; one whose record is gone is Reconstructed (R614,
R615). -/
def State.resumePending (s : State) : State :=
  let s := (List.range 40).foldl (fun s c =>
    if (s.ctl (0xE0 + c / 8) 1).testBit (c % 8) ∧ !s.vintTaken (8 + c) then
      let slot := s.ctl (0x30 + 2 * c) 2
      if slot = 0xFFFF then
        (s.queueVintage (8 + c) (entryBytes (c * 256) 2 0 0xFF s.opSeconds (s.get Obj.powerStatePowerCycleCount) 1 0xFFFF
          [] (s.ctl 0x08 4))).flag Obj.vintageSticky 3
      else s.queueVintage (8 + c) (s.entryOfSlot 2 slot)
    else s) s
  (List.range 4).foldl (fun s k =>
    if (s.ctl 0xE5 1).testBit k ∧ !s.vintTaken (4 + k) then
      match (s.recordStarts 2048 0).find? (fun n => fieldAt (s.caskBytes (32 * n) 2) 0 2 == 0x8411 + k) with
      | some n => s.queueVintage (4 + k) (s.entryOfSlot 1 n)
      | none => (s.queueVintage (4 + k) (entryBytes (0x8411 + k) 1 2 0x1F s.opSeconds
          (s.get Obj.powerStatePowerCycleCount) 1 0xFFFF [] (s.ctl 0x08 4))).flag Obj.vintageSticky 3
    else s) s

/-- Whether some entry, programmed or due, names a Cask slot of the present generation. -/
def State.slotNamed (s : State) (slot : Nat) : Bool :=
  let gen := s.ctl 0x08 4 % 256
  (List.range 64).any (fun e =>
    let b := s.vintEntry e
    b.any (fun x => x != 0#8) && fieldAt b 12 2 == slot && fieldAt b 26 1 == gen)
  || s.cask.vintWork.any (fun w => fieldAt w.2 12 2 == slot && fieldAt w.2 26 1 == gen)

/-- VintageBound records that no entry names get their entry at start (R614). -/
def State.resumeBound (s : State) : State :=
  (s.recordStarts 2048 0).foldl (fun s n =>
    let code := fieldAt (s.caskBytes (32 * n) 2) 0 2
    if (memRead zeroByte s.mems.cask (32 * n + 2)).toNat.testBit 4 ∧ !s.slotNamed n then
      if code / 256 = 0x85 then
        match s.freeEntry 0 4 with
        | some e => s.queueVintage e (s.entryOfSlot 0 n)
        | none => s.takeEvent (fun _ => s.entryOfSlot 0 n)
      else if 0x8411 ≤ code ∧ code ≤ 0x8414 ∧ !s.vintTaken (code - 0x840D) then
        s.queueVintage (code - 0x840D) (s.entryOfSlot 1 n)
      else s.takeEvent (fun _ => s.entryOfSlot 3 n)
    else s) s

/-- The whole start scan (R594), after which log messages are taken again. -/
def State.caskScan (s : State) : State :=
  let s := ((s.endClear).checkIndex).applyShadow
  let s := (s.checkRetention).checkTorn
  let s := (s.checkStamps).checkVintage
  let s := (s.resumePending).resumeBound
  { s with cask.scanned := true }

/-- CASK_START_SCAN (R594): once after each transition from OFF to DORMANT. -/
def execCaskStartScan (s : State) : Out :=
  .next (s.when (s.awake && !s.cask.scanned) State.caskScan)

/-- VINTAGE_PROGRAM_DONE (R607, R612, R620): the entry in programming is complete, or is voided and relocated. A voided
entry's bytes are free values: the spec does not say what a programming that failed leaves. -/
def execVintageProgramDone (ok : Bool) (s : State) : Out :=
  .next (s.onTimer .vintage (fun s =>
    match s.cask.vintWork with
    | [] => s
    | (e, bs) :: rest =>
      let s := ({ s with cask.vintWork := rest }).clearPending e
      let s := if ok then
          { s with mems.vint := memWriteAll zeroByte s.mems.vint (32 * e) (bs.take 27 ++ [0x5A#8] ++ (bs.drop 28).take 4) }
        else
          let r := s.draw
          ({ r.2 with mems.vint := memWriteAll zeroByte r.2.mems.vint (32 * e) (leBytes 27 r.1) }).voidEntry e bs
      if rest.isEmpty || s.power.state == .holdup then s else s.arm .vintage 4000))

/-- A clear begun (R618): State is Clearing, and the slots are being zeroed. -/
def State.beginClear (s : State) : State :=
  (({ s with cask.clearing := true, mems.cask := [] }).setCtl 0x05 1 3).arm .caskClear 10000

/-- CASK_CLEAR_DONE (R618, R624): the clear in progress completes. -/
def execCaskClearDone (s : State) : Out :=
  .next (s.onTimer .caskClear State.endClear)

/-! ## What a power loss cuts short (R594, R614, R620) -/

/-- The Cask write in hand as power is lost: none, or a prefix of the words of the next record (or the shadow of its
repeat count), how far being a free value (log entry 131). -/
def State.cutRecord (s : State) : State :=
  match s.nextLog with
  | none => s
  | some (m, _) =>
    let d := s.draw
    if d.1 % 2 = 0 ∨ s.caskState ≠ 0 ∨ !s.cask.scanned then d.2
    else
      let u := s.vintUse m
      match (if u == .none && !m.snapshot && !(s.floodMode m.code).1 then s.foldsInto m else none) with
      | some slot =>
        let n := min 255 ((memRead zeroByte s.mems.cask (32 * slot + 11)).toNat + 1 + m.rep)
        d.2.setCtl 0x20 4 (slot + 65536 * n + 0xA5000000)
      | none =>
        let whole := m.snapshot && decide (3 ≤ s.ullage)
        let bs := recordBytes m whole (m.snapshot && !whole) (u != .none)
        d.2.setCask (32 * s.writeIndex) (bs.take (4 * (d.1 / 2 % (bs.length / 4 + 1))))

/-- The Vintage entry in programming as power is lost: a prefix of its bytes in R607's order stands, how many being a
free value. -/
def State.cutEntry (s : State) : State :=
  match s.cask.vintWork with
  | [] => s
  | (e, bs) :: _ =>
    if s.armed .vintage then
      let d := s.draw
      let at_ := (List.range 27) ++ [28, 29, 30, 31, 27]
      { d.2 with mems.vint := (at_.take (d.1 % 33)).foldl (fun m i =>
          memWrite zeroByte m (32 * e + i) (if i = 27 then 0x5A#8 else bs.getD i 0#8)) d.2.mems.vint }
    else s

end Sys2Proof.Machine
end

