-- ==== Sys2Proof/Machine/PathOps.lean ====
section
/-!
DEFINITION. The band paths (ch. 09 to 11): directions and partners, the event fabric (R345 to R348), settle suppression
(R327 to R330), the movement of applied gains (R406), and path mutes (R408).
-/

namespace Sys2Proof.Machine

open Sys2Proof

/-- Path numbers 0 to 15. -/
def pathNums : List Nat := List.range 16

/-- A content of a record that has no dictionary object: a u32 (R588). -/
def u32 (n : Nat) : Bytes := leBytes 4 n

/-- A quotient rounded to the nearest integer, halves upwards (log entry 10). -/
def roundDiv (a b : Int) : Int := (2 * a + b) / (2 * b)

/-- What a path carries beyond its registers. -/
def State.path (s : State) (p : Nat) : PathRun := s.paths.getD p PathRun.idle

/-- The same, replaced. -/
def State.setPath (s : State) (p : Nat) (r : PathRun) : State := { s with paths := s.paths.set p r }

/-- The number of a direction: 0 uplink, 1 downlink. -/
def dirNum : Dir → Nat
  | .ul => 0 | .dl => 1

/-- The opposite direction. -/
def otherDir : Dir → Dir
  | .ul => .dl | .dl => .ul

/-- The direction a path serves (Band.Direction). -/
def State.dirOf (s : State) (p : Nat) : Dir := if s.get (Obj.bandDirection p) = 0 then .ul else .dl

/-- Whether a path is enabled. -/
def State.bandOn (s : State) (p : Nat) : Bool := s.get (Obj.bandEnable p) == 1

/-- The partner of a path (R358). -/
def State.partnerOf (s : State) (p : Nat) : Nat := s.get (Obj.bandPartner p)

/-- Every path of a direction. -/
def State.pathsOf (s : State) (d : Dir) : List Nat := pathNums.filter (fun p => s.dirOf p == d)

/-- The enabled paths of a direction. -/
def State.liveOf (s : State) (d : Dir) : List Nat := (s.pathsOf d).filter s.bandOn

/-- The licence-exempt path of a direction, if one is enabled (R363). -/
def State.lePath (s : State) (d : Dir) : Option Nat := (s.liveOf d).find? (fun p => s.get (Obj.bandKind p) == 1)

/-- Whether a path is one of the licence-exempt pair. -/
def State.isLe (s : State) (p : Nat) : Bool := s.bandOn p && s.get (Obj.bandKind p) == 1

/-- Stab.ChainGain of a direction. -/
def State.chainGain (s : State) (d : Dir) : Int := s.getI (Obj.stabChainGain (dirNum d))

/-- Stab.Atten of a direction, in 0.01 dB. -/
def State.atten (s : State) (d : Dir) : Int := 25 * (s.get (Obj.stabAtten (dirNum d)) : Int)

/-- Stab.OutputRef of a direction. -/
def State.outputRef (s : State) (d : Dir) : Int := s.getI (Obj.stabOutputRef (dirNum d))

/-- Whether a path is unmuted: rising, at its limit, falling or gated (Table 11-10). -/
def State.unmuted (s : State) (p : Nat) : Bool :=
  decide (2 ≤ s.get (Obj.stabState p) ∧ s.get (Obj.stabState p) ≤ 5)

/-- Whether a path is in service: unmuted and not gated (R417). -/
def State.inService (s : State) (p : Nat) : Bool := s.unmuted p && s.get (Obj.stabState p) != 5

/-- FabricTime: periods of 491.52 MHz since the release of the core domain, in 48 bits. -/
def State.fabricTime (s : State) : Nat := (s.now - s.time.fabricBase) * 49152 / 100 % 2 ^ 48

/-! ## The event fabric -/

/-- One event at a task input (R345, R347): the pending bit, its coalesce counter of up to 15, and beyond that the
overflow count with its flag. -/
def State.fabEvent (s : State) (p input : Nat) : State :=
  let r := s.path p
  let t := s.fabricTime
  match r.inputs.find? (fun i => i.input == input) with
  | none =>
    let s := s.setPath p { r with inputs := r.inputs ++ [⟨input, 0, t, t, false⟩] }
    s.set (Obj.bandPathEventPending p) (setBit (s.get (Obj.bandPathEventPending p)) input)
  | some i =>
    let rest := r.inputs.filter (fun j => j.input != input)
    if i.extra < 15 then s.setPath p { r with inputs := rest ++ [{ i with extra := i.extra + 1, last := t }] }
    else
      let s := s.setPath p { r with inputs := rest ++ [{ i with last := t, lost := true }] }
      (s.bump (Obj.bandPathEventOverflow p) 1).flagFirst (Obj.bandPathSticky p) 1
        (fun s => s.log .press 0x1207 1 p [])

/-- The lowest-numbered pending input of a path (R346). -/
def lowestInput (l : List FabIn) : Option FabIn :=
  l.foldl (fun b i => match b with
    | none => some i
    | some j => if i.input < j.input then some i else some j) none

/-- The fabric's message (R346): input, count, saturation mark, the FabricTime of the first and last event, and for
DetectorWindow both results. -/
def State.fabMessage (s : State) (p : Nat) (i : FabIn) : Bytes :=
  [byteOf i.input, byteOf (i.extra + 1), if i.lost then 1#8 else 0#8, 0#8] ++ leBytes 6 i.first ++ leBytes 6 i.last
    ++ (if i.input = 0 then s.bytesOf (Obj.bandPathPeak p) ++ s.bytesOf (Obj.bandPathRms p) else [])

/-! ## Settle suppression -/

/-- The filter group delay G of a path in periods of 491.52 MHz (R327). -/
def groupDelay (inter : Bool) (d : Nat) : Nat :=
  21 * 2 ^ (d - 1) + 5 * (2 ^ (d - 1) - (if inter then 1 else 2)) + 63 * 2 ^ d / 2 + 21 * 2 ^ (d - 1)
    + 5 * (2 ^ (d - 1) - 1)

/-- The pair mode of a direction (Table 9-1). -/
def State.pairMode (s : State) (d : Dir) : Nat :=
  match d with
  | .ul => s.get Obj.converterPairModeUL
  | .dl => s.get Obj.converterPairModeDL

/-- G of a path as it stands. -/
def State.pathDelay (s : State) (p : Nat) : Nat :=
  groupDelay (s.pairMode (s.dirOf p) == 1) (s.get (Obj.bandDepth p))

/-- The settle time S of a path, in periods of 491.52 MHz (R328). -/
def State.settlePeriods (s : State) (p : Nat) : Nat := 2 * s.pathDelay p + 128

/-! ## Applied gains -/

/-- A value moved towards a goal for `dt` µs by at most `up` or `down` units of 0.01 dB per ms, and the time that the
whole steps took (all of it once the goal is reached). -/
def stepTowards (a goal : Int) (dt up down : Nat) : Int × Nat :=
  if a < goal then
    let n := up * dt / 1000
    if goal ≤ a + n then (goal, dt) else (a + n, n * 1000 / up)
  else if goal < a then
    let n := down * dt / 1000
    if a - n ≤ goal then (goal, dt) else (a - n, n * 1000 / down)
  else (goal, dt)

/-- The rise slope in force (R406, R456). -/
def State.riseSlope (s : State) : Nat :=
  if s.get Obj.droopState = 0 then s.get Obj.stabRiseSlope else s.get Obj.droopRiseSlope

/-- Whether the gains of a direction may not rise (R416). -/
def State.heldDir (s : State) (d : Dir) : Bool :=
  match d with
  | .ul => s.loops.ulHeld
  | .dl => s.loops.dlHeld

/-- Whether the last counted frame of a licence-exempt path is older than Stab.PilotMaxAge (R413). -/
def State.staleLe (s : State) (p : Nat) : Bool :=
  s.isLe p && decide ((s.path p).countedAt.getD 0 + 1000000 * s.get Obj.stabPilotMaxAge < s.now)

/-- Whether a path's applied gain may not rise: a direction is held, and both paths of a band move together (R406, R416,
log entry 133), or its own last counted frame is too old (R413). -/
def State.gainHeld (s : State) (p : Nat) : Bool := s.heldDir .ul || s.heldDir .dl || s.staleLe p

/-- The applied gain of a path at this instant, and the time its steps took (R406). -/
def State.gainNow (s : State) (p : Nat) : Int × Nat :=
  let a := s.getI (Obj.stabApplied p)
  let r := s.path p
  let goal := if s.gainHeld p && decide (a < r.computed) then a else r.computed
  stepTowards a goal (s.now - r.gainAt) s.riseSlope (s.get Obj.stabFallSlope)

/-- Rising, at its limit or falling (Table 11-10). -/
def gainState (a goal : Int) : Nat := if a < goal then 2 else if a = goal then 3 else 4

/-- The applied gain of a path brought up to this instant; a muted path has none that moves. -/
def State.moveGain (s : State) (p : Nat) : State :=
  if s.unmuted p then
    let g := s.gainNow p
    let r := s.path p
    let s := (s.setI (Obj.stabApplied p) g.1).setPath p { r with gainAt := r.gainAt + g.2 }
    if s.get (Obj.stabState p) = 5 then s else s.set (Obj.stabState p) (gainState g.1 r.computed)
  else s

/-- Every applied gain brought up to this instant. -/
def State.moveGains (s : State) : State := pathNums.foldl State.moveGain s

/-! ## Mutes -/

/-- Whether a path contributes zero to its DAC sum: Stab.State muted, probing or probe failed (Table 11-10). -/
def State.pathMuted (s : State) (p : Nat) : Bool :=
  s.get (Obj.stabState p) == 0 || s.get (Obj.stabState p) == 1 || s.get (Obj.stabState p) == 6

/-- One path's own part of a mute: its applied gain is remembered (R457), its pilot, probe and counts stop. -/
def State.muteOne (s : State) (p : Nat) : State :=
  let s := s.moveGain p
  let r := s.path p
  let r := if s.unmuted p then { r with lastApplied := some (s.getI (Obj.stabApplied p)) } else r
  let s := s.setPath p { r with osc := 0, overpower := 0 }
  (((s.set (Obj.stabState p) 0).disarm (.probe p)).disarm (.probeRetry p)).disarm (.noiseHold p)

/-- Both gates of the licence-exempt pair closed and its hold ended (R381). -/
def State.closeGates (s : State) : State :=
  if s.get Obj.leDirection = 1 ∨ s.get Obj.leDirection = 2 then
    let s := (s.set Obj.leDirection 0).disarm .leMaxHold
    pathNums.foldl (fun s p => if s.isLe p ∧ s.unmuted p then (s.moveGain p).set (Obj.stabState p) 5 else s) s
  else s

/-- A hold ended by anything but MaxHold: it ends the streak of its direction (R391). -/
def State.endHold (s : State) : State :=
  let open_ := s.get Obj.leDirection
  { s with le.streak := s.le.streak.filter (fun x => dirNum x.1 + 1 != open_) }.closeGates

/-- A path mute (R408): the path contributes zero, its pilot stops, a probe of its band is abandoned (R411), and a
licence-exempt pair closes both gates (R381). -/
def State.mutePath (s : State) (p : Nat) : State :=
  let le := s.isLe p
  let s := s.muteOne p
  let q := s.partnerOf p
  let s := if s.bandOn p && decide (q < 16) && s.get (Obj.stabState q) == 1 then s.muteOne q else s
  if le then s.endHold else s

/-- Several path mutes. -/
def State.mutePaths (s : State) (ps : List Nat) : State := ps.foldl State.mutePath s

/-- The hard mute (R408): every band path muted and RF_MUTE_N asserted. -/
def State.hardMute (s : State) : State := pathNums.foldl State.mutePath { s with pins.rfMuteN := false }

/-! ## Starting suppression -/

/-- An event of Table 9-5 on a path (R328, R329): suppression for the full S from now, rounded up to a µs;
it closes the gates of a licence-exempt pair (R381). -/
def State.startSettle (s : State) (p : Nat) : State :=
  let s := (s.bump (Obj.bandPathSettleEvents p) 1).set (Obj.bandPathSettling p) 1
  let s := s.setPath p { s.path p with suppressed := true }
  let s := s.arm (.settle p) ((s.settlePeriods p * 100 + 49151) / 49152)
  if s.isLe p then s.endHold else s

/-- An event of Table 9-5 on several paths. -/
def State.settleAll (s : State) (ps : List Nat) : State := ps.foldl State.startSettle s

end Sys2Proof.Machine
end

