-- ==== Sys2Proof/Machine/RfOps.lean ====
section
/-!
DEFINITION. Stops shared by every unit: the lanes without power (R441), the return of margin channels (R513), and the
last Heartbeat of HOLDUP.
-/

namespace Sys2Proof.Machine

open Sys2Proof

/-- Every lane without power: PA_EN low, bias at code 0, no lane running (Table 3-1, R38). A Sealed or faulted lane
keeps its state. -/
def State.paOff (s : State) : State :=
  (List.range 4).foldl (fun s n =>
    let st := s.get (Obj.paLaneState n)
    if 1 ≤ st ∧ st ≤ 4 then s.set (Obj.paLaneState n) 0 else s)
    { s with pins.paEn := 0, pins.paBias := [] }

/-- One margin channel returned to Nominal (R513): a DAC channel jumps to DacNeutral, a PMBus channel's OPERATION 0x80
goes ahead of any lane transaction. -/
def State.returnMargin (s : State) (m : Nat) : State :=
  if s.get (Obj.marginState m) = 0 ∨ s.get (Obj.marginState m) = 4 then s
  else
    let s := (s.set (Obj.marginCommand m) 0).set (Obj.marginState m) 1
    let s := { s with rail.abandoned := setBit s.rail.abandoned m }
    let rest := s.margin.filter (fun r => !(r.ch == m))
    if s.get (Obj.marginMethod m) = 1 then
      let n := s.get (Obj.marginDacNeutral m)
      let s := { s with margin := ⟨m, 0, n, [], 0⟩ :: rest, pins.mrg := putKey s.pins.mrg m (n + 1) 0 }
      (s.arm (.marginStep m) 100).flag Obj.marginSticky 5
    else
      let page := if s.get (Obj.marginPmbPage m) = 0xFF then [] else [0]
      ({ s with margin := ⟨m, 0, 0, page ++ [0x80], 0⟩ :: rest }).flag Obj.marginSticky 5

/-- Every margin channel that is not at Nominal returned to it (R513). -/
def State.returnMargins (s : State) : State := (List.range 4).foldl State.returnMargin s

/-- Ready flag 1 of the Heartbeat: a band path is unmuted. -/
def State.anyUnmuted (s : State) : Bool := s.pins.rfMuteN && pathNums.any (fun p => !s.pathMuted p)

/-- Whether the unit bridges (R239, R245): Enable and the twin condition met. The twin function is the one in force
(R656). -/
def State.bridges (s : State) : Bool :=
  s.get Obj.bridgeEnable == 1 && s.power.vintReady
    && (s.get Obj.bridgeFollowTwin == 0 || !s.twin.enabled || s.get Obj.twinRole == 1)

/-- Bridge.Forwarding (Table 6-22): both ports enabled besides. A unit that bridges with one port disabled answers what
it cannot pass on (R242, log entry 125). -/
def State.forwarding (s : State) : Bool := s.bridges && decide (s.get Obj.fieldPortEnable % 4 = 3)

/-- The Heartbeat message (Table 6-11). -/
def State.heartbeatBody (s : State) (power : Nat) : Bytes :=
  let flag := fun (b : Bool) i => if b then 2 ^ i else 0
  let flags := flag (s.get Obj.tiuRefWarm == 1) 0 + flag s.anyUnmuted 1 + flag (decide (2 ≤ s.get Obj.netState)) 2
    + flag s.forwarding 3 + flag (s.caskState == 1 || s.caskState == 2) 4
  [byteOf power, byteOf s.lifecycle, byteOf (s.get Obj.twinRole), byteOf flags]
    ++ leBytes 4 (summaryOf s.dict) ++ leBytes 4 s.opSeconds
    ++ [byteOf (s.get Obj.fieldSegmentA), byteOf (s.get Obj.fieldSegmentB)] ++ leBytes 2 s.ullage
    ++ List.replicate 4 0x00#8

/-- The identifier of a Heartbeat: priority 1, broadcast to every segment (R208, R229). -/
def State.heartbeatIdent (s : State) : BitVec 29 := mkIdent 1 true 8 s.field.effective 0x1FF

/-- The last Heartbeat of HOLDUP on each enabled port of an assigned unit, ahead of everything else (Table 6-16,
R308). -/
def State.lastHeartbeat (s : State) : State :=
  if s.field.effective = 0xFFFF ∨ !s.power.vintReady then s
  else
    let fs := groupFrames s.heartbeatIdent 0 false false (s.heartbeatBody 1)
    [Port.a, Port.b].foldl (fun (s : State) p =>
      if s.portOn p then
        { s with q.msgs := fs.map (fun f => ⟨0x1A + portNum p, 1, false, 1, s.now, .frame f⟩) ++ s.q.msgs }
      else s) s

end Sys2Proof.Machine
end

