-- ==== Sys2Proof/Machine/Reply.lean ====
section
/-!
DEFINITION. Replies: the messages of Table 6-9, their protection by a session (R220), their queue by service
(Table 6-8), the mailbox form (R262), and the abort codes with the state-conflict bookkeeping (R178).
-/

namespace Sys2Proof.Machine

open Sys2Proof

/-- An abort: code and detail (Table 6-18). -/
abbrev Abort := Nat × Nat

/-- The detail byte of abort 0x06 (Table 5-6). -/
def conflict (kind code : Nat) : Abort := (6, kind * 32 + code)

/-- The detail byte of abort 0x07 (Table 4-13). -/
def State.denied (s : State) (role reason : Nat) : Abort := (7, s.lifecycle * 32 + role * 8 + reason)

/-- An open session by its identifier. -/
def State.sessionOf (s : State) (sid : Nat) : Option Session := s.sec.sessions.find? (fun x => x.sid == sid && x.isOpen)

/-- A session replaced in the table. -/
def State.setSession (s : State) (x : Session) : State :=
  { s with sec.sessions := s.sec.sessions.map (fun y => if y.slot = x.slot then x else y) }

/-- The bytes a tag covers (R124): direction, SessionId, Counter, source and destination address, payload. -/
def tagInput (dir sid ctr src dst : Nat) (payload : Bytes) : Bytes :=
  [byteOf dir] ++ leBytes 2 sid ++ leBytes 4 ctr ++ leBytes 2 src ++ leBytes 2 dst ++ payload

/-- The 8-byte tag of a group: the first 8 bytes of the CMAC under the session key (Table 4-7), as the number its
bytes spell with the first byte least significant. -/
def groupTag (key : Nat) (input : Bytes) : BitVec 64 := BitVec.ofNat 64 (Config.cmac key input).toNat

/-- A body with the trailer of Table 4-7 under a session key. -/
def trailed (key sid ctr own peer : Nat) (body : Bytes) : Bytes :=
  body ++ leBytes 2 sid ++ leBytes 4 ctr ++ leBytes 8 (groupTag key (tagInput 1 sid ctr own peer body)).toNat

/-- A reply's payload with its trailer, when its request was accepted as a protected group (R123, R220), under a
session that has ended since then too (R139). -/
def State.protect (s : State) (d : ReplyTo) (own : Nat) (body : Bytes) : Bytes × Bool × State :=
  match d.session with
  | none => (body, false, s)
  | some sid =>
    match s.sessionOf sid with
    | some x =>
      let ctr := satBytes 4 (x.ctrOut + 1)
      (trailed x.key sid ctr own d.peer body, true, s.setSession { x with ctrOut := ctr })
    | none =>
      match s.sec.closing.find? (fun c => c.1 == sid) with
      | some c =>
        let ctr := satBytes 4 (c.2.2 + 1)
        (trailed c.2.1 sid ctr own d.peer body, true,
          { s with sec.closing := s.sec.closing.map (fun x => if x.1 == sid then (sid, c.2.1, ctr) else x) })
      | none => (body, false, s)

/-- The transmit queue of port A that carries a service's replies (Tables 6-8 and 8-2); port B and the mailbox follow
it. -/
def replyQueue (svc : Nat) : Nat := if svc = 5 ∨ svc = 6 then 0x03 else if svc = 9 ∨ svc = 10 then 0x1A else 0x84

/-- The reply frames remembered for a retransmission of their request (R218, R306). -/
def State.remember (s : State) (peer tid : Nat) (fs : List (Nat × CanFrame)) : State :=
  { s with field.retx := s.field.retx.map (fun r =>
      if r.src = peer ∧ r.tid = tid then { r with replies := fs } else r) }

/-- A reply sent (R219, R265): frames to the port's transmit queue, or a mailbox message. The unit's own address is
the one in force as the reply leaves (R237). -/
def State.reply (s : State) (d : ReplyTo) (deferred : Bool) (body : Bytes) : State :=
  match d.via with
  | .host =>
    let r := s.protect d 0xFFFF body
    let flags := (if r.2.1 then 0x20 else 0) + (if deferred then 0x10 else 0)
    let msg := [byteOf (0x10 + d.svc), byteOf d.tid, byteOf flags, 0x00#8] ++ leBytes 2 r.1.length
      ++ [0x00#8, 0x00#8] ++ r.1
    (r.2.2).post .derived (if d.svc = 5 ∨ d.svc = 6 then 0x05 else 0x86) ((msg.length + 63) / 64) (.mail msg)
  | .portA | .portB =>
    let p : Port := if d.via = .portA then .a else .b
    let own := if s.field.effective = 0xFFFF then 511 else s.field.effective
    let own := if d.own = 0xFFFF then own else d.own
    let r := s.protect d own body
    let fs := groupFrames (mkIdent d.prio false (0x10 + d.svc) own d.peer) d.tid r.2.1 deferred r.1
    let q := replyQueue d.svc
    ((r.2.2).sendFrames .derived p q fs).remember d.peer d.tid (fs.map (fun f => (q, f)))

/-- The reply body of an abort for a request body (Table 6-9, R223): fixed fields only, value fields zero. -/
def abortBody (svc : Nat) (req : Bytes) (a : Abort) : Bytes :=
  let head := [byteOf a.1, byteOf a.2]
  let addr := sliceBytes req 0 3
  match svc with
  | 0 => head ++ addr ++ [0x00#8]
  | 1 | 2 => head ++ addr ++ [0x00#8]
  | 3 => head ++ List.replicate 6 0x00#8
  | 4 => head ++ List.replicate 2 0x00#8
  | 5 => head ++ addr ++ [0x00#8] ++ List.replicate 8 0x00#8
  | 6 => head ++ addr ++ [0x00#8] ++ List.replicate 4 0x00#8
  | 9 => head ++ List.replicate 4 0x00#8
  | 10 => head ++ [0x02#8, 0x00#8] ++ sliceBytes req 2 2
  | 11 => head ++ [req.getD 0 0#8, 0x00#8]
  | 12 => head ++ [if req.getD 0 0#8 = 0x03#8 then 0x04#8 else 0x02#8, 0x00#8]
  | _ => head

/-- The bookkeeping of an abort 0x06 (R178): StateConflict, its count and Dict.LastStateConflict. A service that names no
object leaves its address bytes zero (log entry 118). -/
def State.noteConflict (s : State) (detail peer svc : Nat) (req : Bytes) : State :=
  let addr := if svc = 3 ∨ svc = 4 ∨ 9 ≤ svc then [0x00#8, 0x00#8, 0x00#8] else sliceBytes req 0 3
  let s := s.flag Obj.dictSticky 0
  let s := s.bump Obj.dictStateConflictCount 1
  s.set Obj.dictLastStateConflict (leNat (addr ++ [byteOf detail] ++ leBytes 2 peer ++ [byteOf svc, 0x00#8]))

/-- A request ended with an abort. An abort 0x0A keeps the request alive for its final reply; a mailbox request is
outstanding until the host has acknowledged that one (R268). An abort 0x0B is never protected (R220). -/
def State.abort (s : State) (c : Caller) (req : Bytes) (a : Abort) : State :=
  let s := if a.1 = 6 then s.noteConflict a.2 c.dest.peer c.dest.svc req else s
  let s := if a.1 = 0x0A then s.bump Obj.queueDeferredCount 1 else s
  let s := if a.1 = 0x0A ∧ c.dest.via = .host then { s with hp.outstanding := true } else s
  s.reply (if a.1 = 0x0B then { c.dest with session := none } else c.dest) (c.deferred && a.1 != 0x0A)
    (abortBody c.dest.svc req a)

/-- A request served. -/
def State.answer (s : State) (c : Caller) (body : Bytes) : State := s.reply c.dest c.deferred body

/-- The success reply of a Write (Table 6-9). -/
def writeReply (index sub : Nat) : Bytes := [0x00#8, 0x00#8] ++ leBytes 2 index ++ [byteOf sub, 0x00#8]

/-- A write served: the reply of a Write, or of a BlockWrite with its NextOffset (Table 6-9). -/
def State.done (s : State) (c : Caller) (index sub : Nat) : State :=
  s.answer c (writeReply index sub ++ (if c.dest.svc = 6 then leBytes 4 c.aux else []))

end Sys2Proof.Machine
end

