-- ==== Sys2Proof/Machine/Access.lean ====
section
/-!
DEFINITION. The checks of Table 5-4 that belong to the dictionary itself: owners (Table 1-2), roles (Table 4-4),
lifecycle (Table 4-11), types, lengths and ranges (R148 to R160).
-/

namespace Sys2Proof.Machine

open Sys2Proof

/-- The owning cores of Table 1-2, with the code of Table 5-6: 0 Cellarmaster (which waits on no core, R15), 1 Press,
2 Vintner, 3 Cork. Table 1-2 gives the queue engine of 0x1400 no core; the model takes the Vintner (log entry 116). -/
def ownerOf (index : Nat) : Nat :=
  let hi := index / 256
  if hi = 0x1A then 3
  else if hi = 0x10 ∨ hi = 0x11 ∨ hi = 0x12 ∨ hi = 0x14 ∨ hi = 0x72 ∨ hi = 0x80 ∨ hi = 0x90 then 2
  else if hi = 0x18 ∨ hi = 0x50 ∨ hi = 0x51 ∨ hi = 0x52 ∨ hi = 0x62 ∨ hi = 0x70 ∨ hi = 0x71 then 0
  else if index = 0x2100 ∨ index = 0x2110 ∨ index = 0x2111 then 0
  else 1

/-- Whether the owning core of an index is ready (R25). -/
def State.ownerReady (s : State) (index : Nat) : Bool :=
  match ownerOf index with
  | 1 => s.power.pressReady && !s.sec.halted.contains .press
  | 2 => s.power.vintReady
  | 3 => s.power.corkReady && !s.sec.halted.contains .cork
  | _ => true

/-- Whether reads of an object are open without a session (Table 4-4). -/
def readOpen (index sub : Nat) : Bool :=
  index / 256 == 0x10 || index / 256 == 0x72 || (index == 0x1800 && sub == 1)

/-- The role a write of an object needs in PROVISIONED (1) or SEALED (2) (Table 4-4, R116). The ranges that the table
calls Read-only, 0x10xx and 0x42xx, ask for the Installer before abort 0x05 is due (log entry 117). -/
def writeRole (lifecycle index sub : Nat) : Nat :=
  let hi := index / 256
  let k := objKey index sub
  if isRw1c k ∨ k = Obj.hintWindow 0 ∨ k = Obj.hintWindow 1 then 1
  else if hi = 0x72 ∨ hi = 0x18 then 1
  else if hi = 0x1A ∨ hi = 0x70 ∨ hi = 0x71 ∨ hi = 0x90 then 3
  else if hi = 0x50 ∨ hi = 0x51 ∨ hi = 0x52 ∨ hi = 0x80 then (if lifecycle = 2 then 3 else 2)
  else 2

/-- The lifecycle transitions of Table 4-3. -/
def lifecycleListed (old new : Nat) : Bool :=
  (old == 0 && new == 1) || (old == 1 && new == 2) || (decide (old ≤ 2) && new == 3)

/-- The role that a request needs whatever the lifecycle: fuse and lifecycle commands that only an Administrator
session makes (Table 4-3, R107, R132). In BLANK and RETURNED a value that names no lifecycle state needs none, so that it
fails at step 10 (R115, R714). -/
def adminOnly (lifecycle k value : Nat) : Bool :=
  k == Obj.bootRevokeSlot0 || (k == Obj.lifecycleRequest
    && (lifecycle == 1 || lifecycle == 2 || value == 2 || value == 3 || (lifecycle == 3 && value == 1)))

/-- The role that an access to an object needs, none where the lifecycle asks for no session (R115, Table 4-4). -/
def State.neededRole (s : State) (write : Bool) (index sub value : Nat) : Option Nat :=
  let l := s.lifecycle
  if write && adminOnly l (objKey index sub) value then some 3
  else if l = 1 ∨ l = 2 then
    if write then some (writeRole l index sub) else if readOpen index sub then none else some 0
  else none

/-- What the lifecycle forbids of a debug request or a Strelbor token (R132, R137, Table 4-10): debug by request outside
BLANK and RETURNED only and never FULL in SEALED, debug by token in BLANK and RETURNED only, and a return that Table 4-3
does not list. A write of 0 ends a debug session in every state (R134). -/
def debugForbidden (l k value len : Nat) : Bool :=
  let kind := value / 2 ^ 192 % 256
  (k == Obj.debugRequest && (((l == 0 || l == 3) && (value == 1 || value == 2)) || (l == 2 && value == 2)))
    || (k == Obj.debugToken && len == 96
      && ((kind == 0x80 && decide (3 ≤ l)) || ((kind == 1 || kind == 2) && l != 0 && l != 3)))

/-- What the lifecycle forbids of a request for ACTIVE or SERVICE (R717, Table 4-5); a request for the state the unit is
in succeeds (R88). -/
def State.stateForbidden (s : State) (k value : Nat) : Bool :=
  let l := s.lifecycle
  k == Obj.powerStateRequest && value != s.power.state.code
    && ((value == 4 && (l == 0 || l == 3)) || (value == 5 && l == 2 && s.get Obj.lifecycleRemoteServiceAllowed == 0))

/-- Step 4 of Table 5-4: what the lifecycle forbids (Tables 4-3 to 4-5, 4-10, 4-11, R109, R114, R132, R617, R714, R717).
`write` tells a write or staged write; `value` and `len` are the written value and its length. Reason 2 carries the role
that the request needs (Table 4-13). A write of Lifecycle.RemoteServiceAllowed goes on to step 8 (R119). -/
def State.lifecycleCheck (s : State) (via : Via) (write : Bool) (index sub value len : Nat) : Option Abort :=
  let l := s.lifecycle
  let k := objKey index sub
  let forbidden := s.denied ((s.neededRole write index sub value).getD 0) 2
  if write ∧ k = Obj.lifecycleRemoteServiceAllowed then none
  else if l = 4 ∧ (write ∨ !readOpen index sub) then some forbidden
  else if !write then none
  else if k = Obj.lifecycleRequest ∧ 1 ≤ value ∧ value ≤ 3 ∧ !lifecycleListed l value then some forbidden
  else if k = Obj.lifecycleConfirm ∧ l = 3 then some forbidden
  else if (0x1A20 ≤ index ∧ index ≤ 0x1A20 ∧ 1 ≤ sub ∧ sub ≤ 4) ∨ k = Obj.twinPairKey then
    if l = 3 ∨ (l = 0 ∧ len = 60) ∨ ((l = 1 ∨ l = 2) ∧ len = 32) then some forbidden
    else if l = 0 ∧ via ≠ .host then some (s.denied 0 5)
    else none
  else if k = Obj.lifecycleRequest ∧ l = 0 ∧ value = 1 ∧ via ≠ .host then some (s.denied 0 5)
  else if k = Obj.caskClear ∧ 2 ≤ l then some forbidden
  else if debugForbidden l k value len ∨ s.stateForbidden k value then some forbidden
  else none

/-- In SEALED the debug level INSPECT asks for SERVICE (Table 4-10). -/
def State.serviceNeeded (s : State) (write : Bool) (k value : Nat) : Bool :=
  write && k == Obj.debugRequest && value == 1 && s.lifecycle == 2 && s.power.state != .service

/-- Step 5 of Table 5-4: the session's role (R115, R116, Table 4-4), SERVICE where the role acts only there, and the read
of a WO object. -/
def State.roleCheck (s : State) (role : Option Nat) (write : Bool) (index sub value : Nat) : Option Abort :=
  let k := objKey index sub
  let roleFault : Option Abort :=
    match s.neededRole write index sub value, role with
    | none, _ => none
    | some n, none => some (s.denied n 0)
    | some n, some r => if r < n then some (s.denied n 1) else none
  match roleFault with
  | some a => some a
  | none =>
    if s.serviceNeeded write k value then some (s.denied 3 3)
    else
      match objOf k with
      | some d => if !write && d.acc == .wo then some (s.denied 0 4) else none
      | none => none

/-- Step 6 of Table 5-4: dictionary access needs STANDBY, ACTIVE or SERVICE (Table 4-11, R161). -/
def State.powerCheck (s : State) : Option Abort := if s.running then none else some (conflict 0 s.power.state.code)

/-- Step 7 of Table 5-4: the owning core ready; writes wait for the Cork's return too (R25). -/
def State.readyCheck (s : State) (write : Bool) (index : Nat) : Option Abort :=
  if !s.power.corkReady || s.sec.halted.contains .cork then some (conflict 2 3)
  else if write && !s.power.vintReady then some (conflict 2 2)
  else if s.ownerReady index then none
  else some (conflict 2 (ownerOf index))

/-- Well-formed UTF-8 continuation bytes: the number a lead byte announces, 4 for a byte that leads nothing. -/
def utf8Follow (b : Nat) : Nat :=
  if b < 0x80 then 0 else if b < 0xC2 then 4 else if b < 0xE0 then 1 else if b < 0xF0 then 2 else if b < 0xF5 then 3
  else 4

/-- Valid UTF-8 text: `need` continuation bytes outstanding, the next one within `lo` to `hi`. -/
def utf8Valid : Nat → Nat → Nat → List Nat → Bool
  | need, _, _, [] => need == 0
  | 0, _, _, b :: bs =>
    let n := utf8Follow b
    let lo := if b = 0xE0 then 0xA0 else if b = 0xF0 then 0x90 else 0x80
    let hi := if b = 0xED then 0x9F else if b = 0xF4 then 0x8F else 0xBF
    decide (n < 4) && utf8Valid n lo hi bs
  | need + 1, lo, hi, b :: bs => decide (lo ≤ b ∧ b ≤ hi) && utf8Valid need 0x80 0xBF bs

/-- R709: valid UTF-8 up to the first 0x00 byte and 0x00 bytes after it. -/
def utf8Object (bs : Bytes) : Bool :=
  let ns := bs.map (fun b => b.toNat)
  let text := ns.takeWhile (fun b => b != 0)
  utf8Valid 0 0x80 0xBF text && (ns.drop text.length).all (fun b => b == 0)

/-- Fields of octets objects against their own ranges, in order: the detail of the first that fails (R160). -/
def firstDetail (l : List (Option Nat)) : Option Nat := (l.find? (fun o => o.isSome)).join

/-- A number against an enumerated set: detail 0x02 outside it. -/
def oneOfDetail (v : Nat) (l : List Nat) : Option Nat := if l.contains v then none else some 2

/-- A number against a range: 0x00 below it, 0x01 above it. -/
def withinDetail (v lo hi : Int) : Option Nat := if v < lo then some 0 else if hi < v then some 1 else none

/-- The field ranges of the octets objects that have them (R240, R556, R711 and Tables 10-14, 15-12). -/
def fieldRange (c : FieldRange) (bs : Bytes) : Option Nat :=
  let f := fun i n => fieldAt bs i n
  match c with
  | .bridgeRoute =>
    if bs.any (fun b => (List.range 4).any (fun i => b.toNat / 4 ^ i % 4 == 3)) then some 2 else none
  | .hkaEntry => firstDetail [oneOfDetail (f 0 1) [0, 1, 2], oneOfDetail (f 1 1) [0, 1, 2]]
  | .hkbEntry => firstDetail [withinDetail (f 0 1) 0 15, withinDetail (f 1 1) 0 6, withinDetail (f 2 1) 0 4]
  | .floodRules =>
    firstDetail ((List.range 32).map (fun i =>
      if f (4 * i) 2 = 0xFFFF then none
      else if 1 < f (4 * i + 2) 1 then some 2
      else if f (4 * i + 2) 1 = 1 ∧ f (4 * i + 3) 1 = 0 then some 0
      else none))
  | .attenDesc =>
    if bs.all (fun b => b == 0#8) then none
    else firstDetail [withinDetail (f 3 1) 1 8, withinDetail (f 4 1) 1 40]
  | .feEntry => none

/-- Step 10 of Table 5-4 (R149, R160, R709): the detail byte when a value is out of range. -/
def rangeDetail (d : ObjDef) (v len : Nat) : Option Nat :=
  let i : Int := if d.ty.signed then toSigned d.size v else v
  match d.ty with
  | .utf8 => if utf8Object (leBytes len v) then none else some 2
  | _ =>
    if d.ty = .bool ∧ 1 < v then some 2
    else
      match d.range with
      | .any => none
      | .within lo hi => withinDetail i lo hi
      | .parts ps =>
        if ps.any (fun p => decide (p.1 ≤ i ∧ i ≤ p.2)) then none
        else if ps.all (fun p => decide (i < p.1)) then some 0
        else if ps.all (fun p => decide (p.2 < i)) then some 1
        else some 2
      | .oneOf vs => if vs.contains i then none else some 2
      | .masked _ => none
      | .custom c => fieldRange c (leBytes len v)

/-- The value stored for a written one: reserved bits are ignored (R2). -/
def storedValue (d : ObjDef) (v : Nat) : Nat :=
  match d.range with
  | .masked m => v &&& m
  | .custom .attenDesc => v &&& 0xFFFFFFFF000001FFFFFF0333
  | .custom .feEntry =>
    let w := v &&& 0xFFFFFFFFFFFFFFFFFFFF0F13
    if w.testBit 11 then w else w % 2 ^ 64
  | .custom .hkbEntry => v % 2 ^ 24
  | _ => v

/-- Steps 8 to 10 of Table 5-4 for a write (R149 to R153, R160). -/
def State.valueCheck (s : State) (d : ObjDef) (k type len v : Nat) : Option Abort :=
  if d.acc = .ro then some (5, 0)
  else if k = Obj.lifecycleRemoteServiceAllowed ∧ 2 ≤ s.lifecycle then some (5, 1)
  else if type ≠ d.ty.code ∨ (len ≠ d.size ∧ (d.alt = 0 ∨ len ≠ d.alt)) ∨ k = Obj.updateData then some (3, d.ty.code)
  else
    match rangeDetail d (storedValue d v) len with
    | some x => some (4, x)
    | none => none

/-- Whether an object can be staged (R163). -/
def stageable (d : ObjDef) (k : Nat) : Bool :=
  !(d.acc == .wo || d.acc == .rw1c || k == Obj.powerStateRequest || k / 65536 == 0x1A || k / 65536 == 0x90)

/-- The stage holder's code of abort 0x08 (R165). -/
def stageCode : StageId → Nat
  | .session slot => slot.val
  | .host => 0xFF

/-- Another requester's stage that holds an object (R165). -/
def State.holderOf (s : State) (who : Option StageId) (k : Nat) : Option StageId :=
  match s.eng.stages.find? (fun st => some st.who != who && st.entries.any (fun e => e.1 == k)) with
  | some st => some st.who
  | none => none

/-- The stage of a requester. -/
def State.stageOf (s : State) (who : StageId) : List (Nat × Nat) :=
  match s.eng.stages.find? (fun st => st.who == who) with
  | some st => st.entries
  | none => []

/-- The stage of a requester replaced; an empty one is no stage. -/
def State.setStage (s : State) (who : StageId) (entries : List (Nat × Nat)) : State :=
  let rest := s.eng.stages.filter (fun st => st.who != who)
  { s with eng.stages := if entries.isEmpty then rest else rest ++ [⟨who, entries⟩] }

/-- The stage a caller has (R162, R222): its session's, or the host port's where Table 4-11 needs no session. -/
def State.stageId (s : State) (c : Caller) : Option StageId :=
  match c.slot with
  | some n => some (.session n)
  | none => if c.dest.via = .host ∧ (s.lifecycle = 0 ∨ s.lifecycle = 3) then some .host else none

end Sys2Proof.Machine
end

