-- ==== Sys2Proof/Machine/Checks.lean ====
section
/-!
DEFINITION. Cross-object safety checks of a commit (R169 step 2) of chapters 06, 13 and 16, and the state
preconditions (step 11 of Table 5-4) of chapters 05, 13 and 16.
-/

namespace Sys2Proof.Machine

open Sys2Proof

/-- One safety check over a commit: its code, the entries it concerns, and whether it fails. -/
structure Check where
  code : Nat
  concerns : Nat → Bool
  fails : Bool

/-- The value an object would have after a commit. -/
def State.after (s : State) (es : List (Nat × Nat)) (k : Nat) : Nat :=
  match es.find? (fun e => e.1 == k) with
  | some e => e.2
  | none => s.get k

/-- The stage position of the first entry that a failed check concerns, with the check's code (R170). -/
def checkPos (es : List (Nat × Nat)) (c : Check) : Option (Nat × Nat) :=
  if c.fails then
    match es.findIdx? (fun e => c.concerns e.1) with
    | some i => some (i, c.code)
    | none => none
  else none

/-- The failure with the lowest position, the earlier check first among equals. -/
def firstFailure (es : List (Nat × Nat)) (cs : List Check) : Option (Nat × Nat) :=
  (cs.filterMap (checkPos es)).foldl (fun best x =>
    match best with
    | none => some x
    | some b => if x.1 < b.1 then some x else some b) none

/-- Field-port checks 0x01 to 0x04 (R231, R237, R672). -/
def State.fieldChecks (s : State) (es : List (Nat × Nat)) : List Check :=
  let v := s.after es
  let a := v Obj.fieldNodeAddress
  let addr := fun k => k == Obj.fieldNodeAddress
  [⟨0x01, addr, decide (a ≠ 0xFFFF ∧ a ≠ s.field.effective) && (s.get Obj.fieldNodePresent).testBit a⟩,
   ⟨0x02, addr, decide (s.get Obj.twinPartnerAddress ≠ 0xFFFF ∧ a = s.get Obj.twinPartnerAddress)⟩,
   ⟨0x03, fun k => k == Obj.fieldOfflineTime || k == Obj.fieldHeartbeatPeriod,
     decide (v Obj.fieldOfflineTime < 3 * v Obj.fieldHeartbeatPeriod)⟩,
   ⟨0x04, fun k => k == Obj.fieldSegmentA || k == Obj.fieldSegmentB || k == Obj.fieldPortEnable,
     decide (v Obj.fieldSegmentA = v Obj.fieldSegmentB) && decide (v Obj.fieldPortEnable % 4 = 3)⟩]

/-- Slots 0 to 15. -/
def slots : List Nat := List.range 16

/-- The length of the longest dependency chain that ends in a slot, or more than 16 when the masks form a cycle. -/
def chainLength (mask : Nat → Nat) : Nat → Nat → Nat
  | 0, _ => 17
  | fuel + 1, n => 1 + (slots.filter (fun m => (mask n).testBit m)).foldl (fun b m => max b (chainLength mask fuel m)) 0

/-- Rail, sequencer and margin checks (Table 13-5). -/
def State.railChecks (s : State) (es : List (Nat × Nat)) : List Check :=
  let v := s.after es
  let on := fun n => v (Obj.railSlotEnable n) == 1
  let mask := fun n => v (Obj.railSlotDependMask n)
  let live := fun n => if on n then mask n else 0
  let core := fun n => (v Obj.railSeqCoreSet).testBit n
  let own := [v Obj.railSeqAnalogSlot, v Obj.railSeqIoBSlot, v Obj.railSeqLvdsSlot]
  let of := fun (subs : List Nat) n k => decide (k / 256 = 0x5000 + n) && subs.contains (k % 256)
  let any := fun (subs : List Nat) k => slots.any (fun n => of subs n k)
  let seqKey := fun k => decide (k / 256 = 0x5100)
  let margins := List.range 4
  let slotOf := fun m => v (Obj.marginSlot m)
  let chain := slots.foldl (fun b n => if on n then max b (chainLength live 17 n) else b) 0
  slots.flatMap (fun n =>
    [(⟨0x40, fun k => of [1, 3] n k || slots.any (fun m => (mask n).testBit m && of [1] m k),
       on n && slots.any (fun m => (mask n).testBit m && (m == n || !on m))⟩ : Check),
     ⟨0x41, of [6, 8, 9] n, decide (v (Obj.railSlotNominal n) ≤ v (Obj.railSlotUvThreshold n)
       ∨ v (Obj.railSlotOvThreshold n) ≤ v (Obj.railSlotNominal n))⟩,
     ⟨0x42, of [7, 9] n, decide (1200 * v (Obj.railSlotSenseRatio n) < 1000 * v (Obj.railSlotOvThreshold n))⟩,
     ⟨0x43, fun k => k == Obj.railSeqCoreSet || of [1, 3] n k,
       core n && (!on n || slots.any (fun m => (mask n).testBit m && !core m))⟩,
     ⟨0x48, of [8, 9] n, (es.any (fun e => e.1 == Obj.railSlotUvThreshold n || e.1 == Obj.railSlotOvThreshold n))
       && s.get (Obj.railSlotState n) == 5
       && decide (s.get (Obj.railSlotReading n) < v (Obj.railSlotUvThreshold n)
            ∨ v (Obj.railSlotOvThreshold n) < s.get (Obj.railSlotReading n))⟩])
  ++ [⟨0x40, any [1, 3], decide (16 < chain)⟩,
   ⟨0x43, fun k => k == Obj.railSeqCoreSet || k == Obj.railSeqAnalogSlot || k == Obj.railSeqIoBSlot
       || k == Obj.railSeqLvdsSlot, !core 0 || own.any (fun n => !core n)⟩,
   ⟨0x44, of [1, 3, 8] 0, !on 0 || decide (mask 0 ≠ 0) || decide (v (Obj.railSlotUvThreshold 0) < 740)⟩,
   ⟨0x45, fun k => k == Obj.railSeqAnalogSlot || k == Obj.railSeqIoBSlot || k == Obj.railSeqLvdsSlot,
     !own.Nodup || own.any (fun n => decide (n < 1 ∨ 15 < n))⟩,
   ⟨0x46, fun k => seqKey k || any [1, 3] k,
     decide (25000 < 1000 * v Obj.railSeqHoldupLead + chain * v Obj.railSeqHoldupStep)⟩]
  ++ margins.map (fun m => (⟨0x47, fun k => decide (k / 256 = 0x5210 + m) || of [1, 6, 8, 9] (slotOf m) k
       || margins.any (fun j => slotOf j == slotOf m && k == Obj.marginSlot j), decide (slotOf m < 16) &&
       (!on (slotOf m)
         || margins.any (fun j => decide (j ≠ m) && slotOf j == slotOf m)
         || [v (Obj.marginHigh m), v (Obj.marginLow m)].any (fun x =>
              decide (50 * v (Obj.railSlotOvThreshold (slotOf m)) < 50 * x + v (Obj.railSlotNominal (slotOf m))
                ∨ 50 * x < 50 * v (Obj.railSlotUvThreshold (slotOf m)) + v (Obj.railSlotNominal (slotOf m)))))⟩ : Check))

/-- A record class that Tables 16-2 and 16-3 define (R623). -/
def classDefined (c : Nat) : Bool := decide (c ≤ 0x27 ∨ (0x80 ≤ c ∧ c ≤ 0x86))

/-- Flood-rule checks 0x70 and 0x71 (R623). -/
def State.caskChecks (s : State) (es : List (Nat × Nat)) : List Check :=
  let rules := leBytes 128 (s.after es Obj.caskFloodRules)
  let codes := ((List.range 32).map (fun i => fieldAt rules (4 * i) 2)).filter (fun c => c != 0xFFFF)
  let mine := fun k => k == Obj.caskFloodRules
  [⟨0x70, mine, !codes.Nodup⟩, ⟨0x71, mine, codes.any (fun c => !classDefined (c / 256))⟩]

/-- Preconditions of chapters 04, 05, 13 and 16 (R107 with the code of log entry 36, R188, R199, R518, R519, R622): the abort that a write meets. -/
def State.basePrecondition (s : State) (k v : Nat) : Option Abort :=
  let ch := k / 256 - 0x5210
  let st := s.get Obj.updateState
  let phase := fun (ok : List Nat) => if ok.contains st then none else some (conflict 4 st)
  if 0x521000 ≤ k ∧ k < 0x521400 then
    if k = Obj.marginCommand ch then
      if v ≠ 0 ∧ s.get Obj.railSeqState ≠ 4 then some (conflict 3 0x0B) else none
    else if s.get (Obj.marginState ch) ≠ 0 then some (conflict 3 0x0C) else none
  else if k = Obj.railSeqClearLatch then
    if s.get Obj.railSeqLatchedSlot = 0xFF then some (conflict 3 0x0D) else none
  else if k = Obj.updateBegin then phase [0, 4]
  else if k = Obj.updateVerify then
    if st = 1 ∧ s.get Obj.updateReceived ≠ s.upd.length then some (conflict 4 st) else phase [1]
  else if k = Obj.updateActivate then phase [3]
  else if k = Obj.updateAbort then phase [1, 2, 3, 4]
  else if k = Obj.bootRevokeSlot0 then
    match (if s.boot.running = 0 then s.boot.bankA else s.boot.bankB) with
    | some b => if b.press.keySlot = 1 ∧ b.vintner.keySlot = 1 ∧ b.cork.keySlot = 1 then none else some (conflict 4 st)
    | none => some (conflict 4 st)
  else if k = Obj.configRestoreDefaults then
    if s.power.state = .standby then none else some (conflict 0 s.power.state.code)
  else if k = Obj.caskClear then
    if s.cask.clearing then some (conflict 3 0x13)
    else if s.vintPending ≠ 0 then some (conflict 3 0x12)
    else none
  else none

end Sys2Proof.Machine
end

