-- ==== Sys2Proof/Machine/GainOps.lean ====
section
/-!
DEFINITION. Limits and gains: the limits of a path (R399 to R404, R457, R461), the PA power model and its arbitration
(R442 to R449, R455), and the gains of a band (R405).
-/

namespace Sys2Proof.Machine

open Sys2Proof

/-! ## Lanes and their power model -/

/-- Lanes 0 to 3. -/
def laneNums : List Nat := List.range 4

/-- What a lane carries beyond its registers. -/
def State.lane (s : State) (n : Nat) : LaneRun := s.pa.lanes.getD n LaneRun.idle

/-- The same, replaced. -/
def State.setLane (s : State) (n : Nat) (r : LaneRun) : State := { s with pa.lanes := s.pa.lanes.set n r }

/-- The enabled lane that a path is on (R432). -/
def State.laneOf (s : State) (p : Nat) : Option Nat :=
  laneNums.find? (fun n => s.get (Obj.paLaneEnable n) == 1 && (s.get (Obj.paLanePathMask n)).testBit p)

/-- The paths of a lane. -/
def State.lanePaths (s : State) (n : Nat) : List Nat :=
  pathNums.filter (fun p => (s.get (Obj.paLanePathMask n)).testBit p && s.bandOn p)

/-- The present bias code of a lane, which moves at BiasSlope codes per ms while the lane runs (R439, R451). -/
def State.biasNow (s : State) (n : Nat) : Nat :=
  if s.get (Obj.paLaneState n) = 2 ∨ s.get (Obj.paLaneState n) = 3 then
    let r := s.lane n
    let slope := s.get (Obj.paLaneBiasSlope n)
    (stepTowards r.biasFrom r.biasGoal (s.now - r.biasAt) slope slope).1.toNat
  else 0

/-- Watts of the model: parts of 2^32 of a watt. -/
def wattOne : Nat := 2 ^ 32

/-- The quiescent term k × pq of a lane (R442, R445). -/
def State.quiescentPower (s : State) (n : Nat) : Nat :=
  let code := s.get (Obj.paLaneBiasCode n)
  if code = 0 then 0
  else s.get (Obj.paLaneQuiescent n) * wattOne * s.biasNow n * s.get (Obj.paLaneModelK n) / (10 * code * 1000)

/-- The RF output power at a level in 0.01 dBm (R442); a path without a level sends nothing. -/
def State.poutAtLevel (s : State) (n : Nat) (level : Int) : Nat :=
  if level ≤ -32768 then 0 else Config.fromDb (level - 3000 + s.getI (Obj.paLaneModelTrim n))

/-- The DC power of the RF output of a path at `delta` above its present gain, k left out. -/
def State.dcOf (s : State) (p : Nat) (delta : Int) : Nat :=
  match s.laneOf p with
  | none => 0
  | some n =>
    let level := s.getI (Obj.stabOutputLevel p)
    let level := if level ≤ -32768 ∨ !s.inService p then -32768 else level + delta
    s.poutAtLevel n level * 1000 / s.get (Obj.paLaneEfficiency n)

/-- The modelled DC power of a lane at k = 1 (R442, R443). -/
def State.modelAtOne (s : State) (n : Nat) : Nat :=
  let code := s.get (Obj.paLaneBiasCode n)
  let pq := if code = 0 then 0 else s.get (Obj.paLaneQuiescent n) * wattOne * s.biasNow n / (10 * code)
  (s.lanePaths n).foldl (fun a p => a + s.dcOf p 0) pq

/-- The correction factor of the lane of a path, × 0.001. -/
def State.kOf (s : State) (p : Nat) : Nat :=
  match s.laneOf p with
  | none => 1000
  | some n => s.get (Obj.paLaneModelK n)

/-! ## Limits of a path -/

/-- The least of the limits that exist. -/
def minOpt (l : List (Option Int)) : Option Int :=
  l.foldl (fun b o => match b, o with
    | none, x => x
    | some a, some x => some (min a x)
    | some a, none => some a) none

/-- Points of a table: pairs of u16 fields whose first is not 0xFFFF; the second field signed where `sg`. -/
def tablePoints (bs : Bytes) (n : Nat) (sg : Bool) : List (Int × Int) :=
  (List.range n).filterMap (fun i =>
    let x := fieldAt bs (4 * i) 2
    let y := fieldAt bs (4 * i + 2) 2
    if x = 0xFFFF then none else some ((x : Int), if sg then toSigned 2 y else (y : Int)))

/-- Linear interpolation between points, constant beyond the first and last (R400, R541), rounded to the nearest
unit (log entry 10). -/
def interpolate : List (Int × Int) → Int → Option Int
  | [], _ => none
  | [a], _ => some a.2
  | a :: b :: rest, x =>
    if x ≤ a.1 then some a.2
    else if x ≤ b.1 then some (a.2 + roundDiv ((b.2 - a.2) * (x - a.1)) (b.1 - a.1))
    else interpolate (b :: rest) x

/-- A field of the published waterline. -/
def State.waterline (s : State) (off n : Nat) : Nat := fieldAt (s.bytesOf Obj.tdrWaterline) off n

/-- Whether a valid waterline is published (R543). -/
def State.waterValid (s : State) : Bool := (s.waterline 10 1).testBit 0

/-- The published height and rate (R543); −32,768 when not valid. -/
def State.waterHeight (s : State) : Int := if s.waterValid then toSigned 2 (s.waterline 0 2) else -32768

/-- The published rise rate in 0.1 mm/s. -/
def State.waterRate (s : State) : Int := if s.waterValid then toSigned 2 (s.waterline 2 2) else 0

/-- The schedule points of a path in use. -/
def State.schedule (s : State) (p : Nat) : List (Int × Int) := tablePoints (s.bytesOf (Obj.stabSchedule p)) 16 false

/-- A schedule at the predicted height, or with no valid waterline as Stab.NoWaterline says (R400, R401). -/
def State.scheduleAt (s : State) (pts : List (Int × Int)) : Option Int :=
  if s.waterValid then interpolate pts (s.waterHeight + roundDiv (max s.waterRate 0 * s.get Obj.stabLookahead) 10)
  else if s.get Obj.stabNoWaterline = 0 then (pts.getLast?).map (fun x => x.2)
  else none

/-- The schedule limit of a path (R400, R401); the lower of two while a commit that lowers points of it waits to raise
others (R174). -/
def State.scheduleLimit (s : State) (p : Nat) : Option Int :=
  let margin : Int := s.get (Obj.stabMargin p)
  let cap := match (s.path p).schedCap with
    | some v => s.scheduleAt (tablePoints (leBytes 64 v) 16 false)
    | none => none
  (minOpt [s.scheduleAt (s.schedule p), cap]).map (fun i => i - margin)

/-- The lowest valid RMS result of the last second (R395). -/
def State.noiseFloor (s : State) (p : Nat) : Option Int :=
  minOpt (((s.path p).levels.filter (fun l => decide (s.now ≤ l.1 + 1000000))).map (fun l => some l.2))

/-- The output noise density of an uplink path (R403). -/
def State.noiseDensity (s : State) (p : Nat) : Option Int :=
  (s.noiseFloor p).map (fun n =>
    n + s.outputRef .ul - Config.toDb (s.get (Obj.bandChannelWidth p) * 2 ^ 32 / 1000))

/-- The noise cap (R403): uplink paths that are unmuted. -/
def State.noiseCap (s : State) (p : Nat) : Option Int :=
  if s.dirOf p = .ul ∧ s.unmuted p then
    (s.noiseDensity p).map (fun d => s.getI (Obj.stabApplied p) + s.getI Obj.netUlNoiseLimit - d)
  else none

/-- The output cap (R404) of an unmuted path. -/
def State.outputCap (s : State) (p : Nat) : Option Int :=
  let level := s.getI (Obj.stabOutputLevel p)
  if s.unmuted p ∧ -32768 < level then
    some (s.getI (Obj.stabApplied p) + s.getI (Obj.netMaxOutput (dirNum (s.dirOf p))) - level)
  else none

/-- The thermal cap (R461, Table 12-7 row 3). -/
def State.thermalCap (s : State) (p : Nat) : Option Int :=
  match s.laneOf p with
  | none => none
  | some n =>
    let start := s.getI Obj.thermalDerateStart
    let t := if (s.lane n).ntcBad then some (start + 120) else (s.lane n).temp
    match t with
    | none => none
    | some t =>
      if start < t then
        some (s.getI (Obj.stabTargetGain p) - roundDiv ((s.get Obj.thermalDerateSlope : Int) * (t - start)) 10)
      else none

/-- The droop-and-thermal cap of R405 (R457, R461). -/
def State.droopLimit (s : State) (p : Nat) : Option Int := minOpt [(s.path p).droopCap, s.thermalCap p]

/-- Every limit of a path but the PA cap. -/
def State.openLimits (s : State) (p : Nat) : List (Option Int) :=
  [some (s.getI (Obj.stabTargetGain p)), (s.path p).pilotLimit, s.scheduleLimit p, s.noiseCap p, s.outputCap p,
   s.droopLimit p]

/-- The balance offset of a band: that of its downlink path (R405). -/
def State.offset (s : State) (dl : Nat) : Int := s.getI (Obj.stabBalanceOffset dl)

/-- The gains of a band under given limits (R405). -/
def bandGains (limU limD off : Int) : Int × Int :=
  let g := min limU (limD - off)
  (g, g + off)

/-- The limit of a path under all its limits and a PA cap. -/
def State.limitWith (s : State) (p : Nat) (pa : Option Int) : Int := (minOpt (pa :: s.openLimits p)).getD 0

/-- The uncapped gains of a band (R444). -/
def State.uncapped (s : State) (u d : Nat) : Int × Int :=
  bandGains (s.limitWith u none) (s.limitWith d none) (s.offset d)

/-- The bands: enabled uplink paths with their partners (R358). -/
def State.bands (s : State) : List (Nat × Nat) :=
  (s.liveOf .ul).filterMap (fun u =>
    let d := s.partnerOf u
    if d < 16 ∧ s.bandOn d then some (u, d) else none)

/-! ## The budget -/

/-- The effective cap in 0.1 W (R455); V is the lowest FEED_V result of the last PollPeriod. -/
def State.effectiveCap (s : State) : Nat :=
  let cap := s.get Obj.paBudgetCap
  if s.get Obj.droopState = 0 ∨ s.feed.stale then cap
  else
    let recent := s.feed.volts.filter (fun v => decide (s.now ≤ v.1 + 1000 * s.get Obj.paBudgetPollPeriod))
    match recent with
    | [] => cap
    | v :: vs =>
      let low := vs.foldl (fun a x => min a x.2) v.2
      let floor := 10 * s.get Obj.droopFloor
      let onset := 10 * s.get Obj.droopOnset
      min cap (cap * (low - floor) / (onset - floor))

/-- The band-path bitmap and reserve of a hint window (Table 12-10). -/
def State.hintField (s : State) (w : Nat) (off n : Nat) : Nat := fieldAt (s.bytesOf (Obj.hintWindow w)) off n

/-- Whether a window's reservation acts: lead or open (R450). -/
def State.hintActs (s : State) (w : Nat) : Bool := s.get (Obj.hintState w) == 2 || s.get (Obj.hintState w) == 3

/-- Whether a band has a path in a window. -/
def State.hintNames (s : State) (w : Nat) (b : Nat × Nat) : Bool :=
  (s.hintField w 6 2).testBit b.1 || (s.hintField w 6 2).testBit b.2

/-- The share of a window's reserve that a band takes (R450). -/
def State.hintShare (s : State) (w : Nat) (b : Nat × Nat) : Nat :=
  if s.hintActs w && s.hintNames w b then
    let n := (s.bands.filter (s.hintNames w)).length
    s.hintField w 8 2 * wattOne / (10 * max 1 n)
  else 0

/-- One band in an arbitration: its paths, class, demand and counted demand (R444, R450). -/
structure Demand where
  u : Nat
  d : Nat
  cls : Nat
  need : Nat
  counted : Nat

/-- The demand of a band at its uncapped gains. -/
def State.demandOf (s : State) (b : Nat × Nat) : Demand :=
  let g := s.uncapped b.1 b.2
  let dc := fun (p : Nat) (x : Int) => s.dcOf p (x - s.getI (Obj.stabApplied p)) * s.kOf p / 1000
  let need := dc b.1 g.1 + dc b.2 g.2
  ⟨b.1, b.2, s.get (Obj.bandPriority b.1), need, max need (max (s.hintShare 0 b) (s.hintShare 1 b))⟩

/-- A band's outcome: the cut in 0.01 dB, `none` when it is not capped, and whether it is muted by budget. -/
structure Grant where
  u : Nat
  d : Nat
  cut : Option Int
  muted : Bool

/-- The cut of a band whose class is granted `grant` of `need` (R445): none for a band without demand. -/
def cutOf (x : Demand) (grant need : Nat) : Option Int :=
  if x.need = 0 then none else some (Config.toDb (grant * x.counted * 2 ^ 32 / (need * x.need)))

/-- Whether a band is muted by budget: f is 0, or pacap lies below MinGain on either path (R445, R446). -/
def State.budgetOut (s : State) (x : Demand) (grant need : Nat) : Bool :=
  if need = 0 then false
  else if grant = 0 then true
  else match cutOf x grant need with
    | none => false
    | some c =>
      let g := s.uncapped x.u x.d
      decide (g.1 + c < s.getI (Obj.stabMinGain x.u)) || decide (g.2 + c < s.getI (Obj.stabMinGain x.d))

/-- One class of an arbitration (R445, R446): its grants, its factor × 0.0001, and what is left. -/
def State.arbitrateClass (s : State) (avail : Nat) (l : List Demand) : List Grant × Nat × Nat :=
  let total := fun (l : List Demand) => l.foldl (fun a x => a + x.counted) 0
  let need1 := total l
  let grant1 := min need1 avail
  let kept := l.filter (fun x => !s.budgetOut x grant1 need1)
  let need := total kept
  let grant := min need avail
  let f := if need1 = 0 then 10000 else if need = 0 then (if grant1 = 0 then 0 else 10000) else 10000 * grant / need
  (l.map (fun x => if s.budgetOut x grant1 need1 then ⟨x.u, x.d, cutOf x grant1 need1, true⟩
    else ⟨x.u, x.d, if need = 0 then none else cutOf x grant need, false⟩), f, avail - grant)

/-- One path's outcome of an arbitration (R448). -/
def State.noteGrant (s : State) (g : Grant) : State :=
  let capped : Bool := match g.cut with
    | some c => decide (c < 0)
    | none => false
  let s := [g.u, g.d].foldl (fun (s : State) p =>
    s.setPath p { s.path p with paCut := if capped then g.cut else none, budgetMuted := g.muted }) s
  let s := if capped && !g.muted then s.flag Obj.paBudgetSticky 0 else s
  if g.muted then s.flagFirst Obj.paBudgetSticky 1 (fun s => s.log .press 0x1A07 2 31 []) else s

/-- The two bytes of PaBudget.Outcome for a path. -/
def outcomeOf (gs : List Grant) (p : Nat) : Bytes :=
  match gs.find? (fun g => g.u == p || g.d == p) with
  | none => [0xFF#8, 0#8]
  | some g =>
    if g.muted then [2#8, 0#8]
    else match g.cut with
      | some c => if c < 0 then [1#8, byteOf (min 255 ((-c) / 10).toNat)] else [0#8, 0#8]
      | none => [0#8, 0#8]

/-- The arbitration (R445 to R449): CRITICAL, NORMAL and COURTESY in turn, and the classes that an overrun has cut. -/
def State.arbitrate (s : State) : State :=
  let eff := s.effectiveCap
  let used := laneNums.foldl (fun a n => a + s.quiescentPower n) 0
  let ds := s.bands.map s.demandOf
  let cls := fun n => ds.filter (fun x => x.cls == n)
  let c0 := s.arbitrateClass (eff * wattOne / 10 - used) (cls 0)
  let c1 := s.arbitrateClass c0.2.2 (cls 1)
  let c2 := s.arbitrateClass c1.2.2 (cls 2)
  let cutFrom := 3 - s.pa.cut
  let gs := (c0.1 ++ c1.1 ++ c2.1).map (fun g =>
    if cutFrom ≤ s.get (Obj.bandPriority g.u) then { g with muted := true } else g)
  let s := gs.foldl State.noteGrant s
  let model := laneNums.foldl (fun a n => a + s.modelAtOne n * s.get (Obj.paLaneModelK n) / 1000) 0
  let s := (s.set Obj.paBudgetEffectiveCap eff).set Obj.paBudgetModelled (satBytes 2 (model * 10 / wattOne))
  let s := s.set Obj.paBudgetClassFactor (leNat (leBytes 2 c0.2.1 ++ leBytes 2 c1.2.1 ++ leBytes 2 c2.2.1))
  s.set Obj.paBudgetOutcome (leNat (pathNums.flatMap (outcomeOf gs)))

/-! ## The gains of a band -/

/-- A limit as Stab.Limits holds it: 0x7FFF for none. -/
def limitBytes (o : Option Int) : Bytes :=
  match o with
  | none => leBytes 2 0x7FFF
  | some i => leBytes 2 (ofSigned 2 (max (-32768) (min 32766 i)))

/-- The PA cap of a path: its uncapped gain and the cut of its band (R445). -/
def State.paCap (s : State) (p : Nat) (uncapped : Int) : Option Int := (s.path p).paCut.map (fun c => uncapped + c)

/-- The applied gain that the gain stage can give (R326, R392, R405). A limit below the gain stage's −48 dB end is clamped
upwards, above what R21 allows, and the band is not muted for it (log entry 122). -/
def State.clampGain (s : State) (p : Nat) (g : Int) : Int :=
  let base := s.chainGain (s.dirOf p) - s.atten (s.dirOf p)
  max (base - 4800) (min (base + 2400) g)

/-- The computed gain of a path recorded, with its limits (Stab.Limits); a cap that changes raises CapChange (R431). -/
def State.noteComputed (s : State) (p : Nat) (pa : Option Int) (g : Int) : State :=
  let r := s.path p
  let lim := limitBytes r.pilotLimit ++ limitBytes (s.scheduleLimit p) ++ limitBytes (s.noiseCap p)
    ++ limitBytes (s.outputCap p) ++ limitBytes pa ++ limitBytes (s.droopLimit p)
    ++ limitBytes (some (s.getI (Obj.stabTargetGain p))) ++ limitBytes (some g)
  let caps := fun (s : State) => sliceBytes (s.bytesOf (Obj.stabLimits p)) 4 8
  let changed : Bool := s.unmuted p && caps s != sliceBytes lim 4 8
  let s := (s.set (Obj.stabLimits p) (leNat lim)).setPath p { r with computed := s.clampGain p g }
  let s := if s.inService p then s.set (Obj.stabState p) (gainState (s.getI (Obj.stabApplied p)) (s.path p).computed) else s
  let s := if changed then s.fabEvent p 12 else s
  let all := s.limitWith p pa
  let s := if s.noiseCap p = some all then s.flag Obj.stabSticky 4 else s
  if s.outputCap p = some all then s.flag Obj.stabSticky 5 else s

/-- The probe of a muted band waits Stab.ProbeInterval (R405, R411). -/
def State.waitProbe (s : State) (p : Nat) : State := s.arm (.probeRetry p) (1000000 * s.get Obj.stabProbeInterval)

/-- The gains of one band (R405): both paths muted when either falls below its MinGain, or by budget. -/
def State.computeBand (s : State) (b : Nat × Nat) : State :=
  let un := s.uncapped b.1 b.2
  let paU := s.paCap b.1 un.1
  let paD := s.paCap b.2 un.2
  let g := bandGains (s.limitWith b.1 paU) (s.limitWith b.2 paD) (s.offset b.2)
  let s := (s.noteComputed b.1 paU g.1).noteComputed b.2 paD g.2
  let low := decide (g.1 < s.getI (Obj.stabMinGain b.1)) || decide (g.2 < s.getI (Obj.stabMinGain b.2))
    || (s.path b.1).budgetMuted
  if low && (s.unmuted b.1 || s.unmuted b.2) then
    (((s.mutePath b.1).mutePath b.2).waitProbe b.1).waitProbe b.2
  else s

/-- Gains and budget brought up to this instant (R405, R447): applied gains first moved, then the arbitration, then every
band. -/
def State.rebalance (s : State) : State :=
  let s := (s.moveGains).arbitrate
  s.bands.foldl State.computeBand s

end Sys2Proof.Machine
end

