-- ==== Sys2Proof/Machine/Tiu.lean ====
section
/-!
DEFINITION. The time-interval unit, REF_WARM and reflectometry (ch. 14).
-/

namespace Sys2Proof.Machine

open Sys2Proof

/-! ## REF_WARM (R531 to R534) -/

/-- The next burst falls due after `us` µs, while reflectometry is enabled (R544, R545). -/
def State.scheduleBurst (s : State) (us : Nat) : State :=
  if s.get Obj.tdrEnable = 1 then s.arm .tdrPeriod us else s

/-- REF_WARM set (R20, R532, R534): a hard mute where a band path is unmuted, and a probe in progress ends. Its record is
that of its cause (Table 3-7 or Table 14-6 row 5). -/
def State.setRefWarm (s : State) : State :=
  if s.get Obj.tiuRefWarm = 1 then s
  else
    let s := if pathNums.any s.unmuted then s.hardMute
      else s.mutePaths (pathNums.filter (fun p => s.get (Obj.stabState p) == 1))
    s.set Obj.tiuRefWarm 1

/-- REF_WARM cleared (R532): the first burst may start. -/
def State.clearRefWarm (s : State) : State :=
  let s : State := { s with tiu.warmBegan := some s.now, tiu.warmDone := false, tiu.rewarm := false }
  (s.set Obj.tiuRefWarm 0).scheduleBurst 1

/-- The warm timer started for the length in force (R532). -/
def State.startWarm (s : State) : State :=
  let s : State := { s with tiu.warmDone := false }
  s.arm .warm (1000000 * (if s.tiu.rewarm then s.get Obj.tiuRewarmTime else s.get Obj.tiuWarmTime))

/-- REF_IN lost, for the warm timer (R532): after a warm period the return runs RewarmTime. -/
def State.warmRefLost (s : State) : State :=
  let warm := s.get Obj.tiuRefWarm == 0
  let s : State := { s with tiu.rewarm := s.tiu.rewarm || warm, tiu.warmDone := false }
  (s.disarm .warm).setRefWarm

/-- REF_IN present, for the warm timer (R532). -/
def State.warmRefBack (s : State) : State := if s.tiu.ovenLow then s else s.startWarm

/-- OVEN_OK_HIGH (R531, R532): OVEN_OK has been high for 100 ms. -/
def execOvenOkHigh (s : State) : Out :=
  .next (s.when (s.power.coreReleased && s.get Obj.tiuOvenOk == 0) (fun s =>
    let s : State := { (s.set Obj.tiuOvenOk 1) with pins.ovenOk := true }
    if s.tiu.ovenLow then
      let s : State := { s with tiu.ovenLow := false, tiu.rewarm := false }
      if s.power.refPresent then s.startWarm else s
    else if s.tiu.warmDone then s.clearRefWarm else s))

/-- OVEN_OK_LOW (R531, R532, R534): OVEN_OK has been low for 10 ms. -/
def execOvenOkLow (s : State) : Out :=
  .next (s.when (s.power.coreReleased && s.get Obj.tiuOvenOk == 1) (fun s =>
    let lost := s.get Obj.tiuRefWarm == 0
    let s : State := { ((s.set Obj.tiuOvenOk 0).disarm .warm) with
      pins.ovenOk := false, tiu.ovenLow := true, tiu.rewarm := false, tiu.warmDone := false }
    if lost then
      let began := s.tiu.warmBegan.getD s.now
      (s.setRefWarm).faultRow Obj.tiuSticky 4 .press 0x2205 2 31 (u32 ((s.now - began) / 1000000))
    else s))

/-- WARM_TIMER_EXPIRY (R532): REF_WARM clears now, or when OVEN_OK next counts as high. -/
def execWarmTimerExpiry (s : State) : Out :=
  .next (s.onTimer .warm (fun s =>
    if s.get Obj.tiuOvenOk = 1 then s.clearRefWarm else { s with tiu.warmDone := true }))

/-! ## The measurement channel (R522 to R530, R551, R552) -/

/-- The 16 bytes of Tiu.Result. -/
def tiuResult (interval seq flags start stop : Nat) : Nat :=
  leNat (leBytes 8 interval ++ leBytes 4 seq ++ [byteOf flags, byteOf start, byteOf stop, 0#8])

/-- A result (R530, R533, Table 14-6 row 3): Valid unless a flag, REF_WARM or the calibration fault clears it. -/
def State.publishTiu (s : State) (interval cause : Nat) : State :=
  let flags := cause + (if s.get Obj.tiuRefWarm = 1 then 8 else 0) + (if s.tiu.calFault then 32 else 0)
  let flags := if flags = 0 then 1 else flags
  let seq := (fieldAt (s.bytesOf Obj.tiuResult) 8 4 + 1) % 2 ^ 32
  let s := if s.tiu.unread then s.bump Obj.tiuOverwritten 1 else s
  let s := s.set Obj.tiuResult (tiuResult interval seq flags (s.get Obj.tiuStartSource) (s.get Obj.tiuStopSource))
  { s with tiu.unread := true, tiu.startFine := none }

/-- Whether this unit may launch (R546). -/
def State.mayLaunch (s : State) : Bool :=
  s.get Obj.tdrSharedLine == 0 || !s.twin.enabled || s.get Obj.twinRole == 1

/-- Whether a probe or re-probe is in progress (R412). -/
def State.probing (s : State) : Bool := pathNums.any (fun p => s.get (Obj.stabState p) == 1)

/-- The conditions of a burst but a free channel (R533, R544 to R546, Table 14-6 row 3). -/
def State.burstAllowed (s : State) : Bool :=
  s.get Obj.tdrEnable == 1 && s.running && s.power.pressReady && s.get Obj.tiuRefWarm == 0 && s.power.refPresent
    && !s.tiu.calFault && !s.probing && s.mayLaunch

/-- The settings a burst begins with (R548). -/
def State.burstSettings (s : State) : List (Nat × Nat) :=
  [Obj.tdrVelocityFactor, Obj.tdrOffset, Obj.tdrLineLength, Obj.tdrThreshold, Obj.tdrPolarity, Obj.tdrBlank,
   Obj.tdrLaunches, Obj.tdrLaunchGap, Obj.tdrMinValid, Obj.tdrMaxSpread, Obj.tdrRateWindow, Obj.tdrValidAge, Obj.tdrHeightMap].map (fun k => (k, s.get k))

/-- A setting of the burst in progress. -/
def State.burstGet (s : State) (k : Nat) : Nat := lookupD s.tiu.held k (s.get k)

/-- The code of the threshold DAC for a threshold in mV (R538), rounded to the nearest code (log entry 10). -/
def thresholdCode (mV : Nat) : Nat := (roundDiv (mV * 1023 : Nat) 1800).toNat

/-- A burst begun (R536, R538, R548): the threshold DAC takes the code of the threshold in force, and the first launch
follows at once. -/
def State.beginBurst (s : State) : State :=
  let s : State := { s with tiu := { s.tiu with
    burst := true, launched := 0, stops := [], enabled := false, due := false, held := s.burstSettings
    dac := thresholdCode (s.get Obj.tdrThreshold) } }
  (s.set Obj.tiuState 4).arm .tdrGap 1

/-- The channel given on (R528, R529): a burst that is due runs first, then a measurement that waits. -/
def State.channelFree (s : State) (rearm : Bool) : State :=
  if s.tiu.due && s.burstAllowed then
    let s := s.beginBurst
    if rearm then s.set Obj.tiuState 1 else s
  else s.set Obj.tiuState (if rearm then 2 else 0)

/-- A measurement ended by a result (R529). -/
def State.endMeasurement (s : State) (interval cause : Nat) : State :=
  let s := ((s.publishTiu interval cause).disarm .tiuTimeout).disarm .tiuOverflow
  s.channelFree (s.get Obj.tiuMode == 1)

/-- A write of Tiu.Arm (R528). -/
def State.armTiu (s : State) : State := s.set Obj.tiuState (if s.tiu.burst then 1 else 2)

/-- A write of Tiu.Cancel (R528). -/
def State.cancelTiu (s : State) : State :=
  let s : State := { (s.disarm .tiuTimeout).disarm .tiuOverflow with tiu.startFine := none }
  if s.tiu.burst then s.set Obj.tiuState 4 else s.channelFree false

/-- Whether the chosen start source exists (Table 14-1): van-beacon detection needs a band path. -/
def State.startSource (s : State) : Bool := !(s.get Obj.tiuStartSource == 2 && s.get Obj.tiuBeaconPath == 0xFF)

/-- TIU_START_EDGE (R522, R526): the first edge of the start source. -/
def execTiuStartEdge (fineStart : BitVec 10) (s : State) : Out :=
  .next (s.when (s.power.coreReleased && s.get Obj.tiuState == 2 && s.startSource) (fun s =>
    let s : State := { (s.set Obj.tiuState 3) with tiu.startFine := some fineStart.toNat }
    let s := s.arm .tiuOverflow 13421773
    if s.get Obj.tiuTimeout = 0 then s else s.arm .tiuTimeout (1000 * s.get Obj.tiuTimeout)))

/-- TIU_STOP_EDGE (R522, R523): the first stop edge at least 2.0 ns after the start. -/
def execTiuStopEdge (coarse : BitVec 32) (fineStop : BitVec 10) (s : State) : Out :=
  .next (match s.tiu.startFine with
    | none => s
    | some f =>
      let counts : Int := coarse.toNat * 1024 + f - fineStop.toNat
      if s.get Obj.tiuState = 3 ∧ 2048000 ≤ counts * 3125 then s.endMeasurement counts.toNat 0 else s)

/-- TIU_TIMEOUT (R552): no stop edge by Tiu.Timeout; the interval is open (log entry 4). -/
def execTiuTimeout (s : State) : Out :=
  .next (s.onTimer .tiuTimeout (fun s =>
    if s.get Obj.tiuState = 3 then
      let d := s.draw
      ((d.2).flag Obj.tiuSticky 1).endMeasurement (d.1 % 2 ^ 64) 4
    else s))

/-- TIU_OVERFLOW (R525): 2^32 coarse counts without a stop. -/
def execTiuOverflow (s : State) : Out :=
  .next (s.onTimer .tiuOverflow (fun s =>
    if s.get Obj.tiuState = 3 then
      let d := s.draw
      ((d.2).flag Obj.tiuSticky 0).endMeasurement (d.1 % 2 ^ 64) 2
    else s))

/-! ## Bursts (R536 to R546) -/

/-- A burst discarded whole for a probe or a fall of TWIN_ACT (R545, R667). -/
def State.abandonBurst (s : State) : State :=
  if s.tiu.burst then
    let waiting := s.get Obj.tiuState == 1
    let s : State := { s with tiu := { s.tiu with burst := false, launched := 0, stops := [], enabled := false },
                              pins.tdrLaunch := false }
    let s := ((s.disarm .tdrGap).disarm .tdrStop).set Obj.tiuState (if waiting then 2 else 0)
    (s.bump Obj.tdrAbandonCount 1).flag Obj.tdrSticky 2
  else s

/-- TDR_BURST_START (R528, R544): every Period, when its conditions hold and the channel is free. -/
def execTdrBurstStart (s : State) : Out :=
  .next (s.onTimer .tdrPeriod (fun s =>
    let s := s.scheduleBurst (1000 * s.get Obj.tdrPeriod)
    if !s.burstAllowed then s
    else if s.get Obj.tiuState = 0 then s.beginBurst
    else if s.tiu.burst then s
    else { s with tiu.due := true }))

/-- TDR_LAUNCH (R536): a launch edge starts the TIU, and the next is one gap away. -/
def execTdrLaunch (s : State) : Out :=
  .next (s.onTimer .tdrGap (fun s =>
    if s.tiu.burst && decide (s.tiu.launched < s.burstGet Obj.tdrLaunches) then
      let s : State := { s with pins.tdrLaunch := true, tiu.launched := s.tiu.launched + 1, tiu.enabled := false,
                                tiu.early := false }
      (s.arm .tdrGap (s.burstGet Obj.tdrLaunchGap)).arm .tdrStop (s.burstGet Obj.tdrLaunchGap / 2)
    else s))

/-- The velocity × time product of R539 in units of 1/(2 × 1024 × 10^13) mm: t in 1/1024 ps. -/
def lineDistance (vf offset t : Nat) : Int := vf * 299792458 * ((t : Int) - 1024 * offset)

/-- A distance in mm. -/
def distanceMm (vf offset t n : Nat) : Nat := (roundDiv (lineDistance vf (offset * n) t) (20480000000000000 * n)).toNat

/-- The end of the stop window of R537 in 1/1024 ps. -/
def State.stopWindow (s : State) : Nat :=
  1024 * (s.burstGet Obj.tdrOffset + 2000)
    + 20480000000000000 * s.burstGet Obj.tdrLineLength / (s.burstGet Obj.tdrVelocityFactor * 299792458)

/-- TDR_COMPARATOR_ENABLE (R537): a sense line already past the threshold stops the launch at once, early. -/
def execTdrComparatorEnable (pastThreshold : Bool) (s : State) : Out :=
  .next (s.when (s.tiu.burst && decide (0 < s.tiu.launched) && !s.tiu.enabled && !s.tiu.early) (fun s =>
    if pastThreshold then
      { s with tiu.stops := s.tiu.stops ++ [(1024 * s.burstGet Obj.tdrBlank, true)], tiu.early := true }
    else { s with tiu.enabled := true }))

/-- TDR_REFLECTION (R537): the first crossing of the threshold inside the stop window stops the launch. -/
def execTdrReflection (counts : BitVec 32) (s : State) : Out :=
  .next (s.when (s.tiu.burst && s.tiu.enabled && decide (counts.toNat * 3125 ≤ s.stopWindow)) (fun s =>
    { s with tiu.stops := s.tiu.stops ++ [(counts.toNat * 3125, false)], tiu.enabled := false }))

/-- TDR_STOP_WINDOW_END (R536, R537): the launch has no more stop, and TDR_LAUNCH is back at 0 V half a gap after it. -/
def execTdrStopWindowEnd (s : State) : Out :=
  .next (s.onTimer .tdrStop (fun s => { s with pins.tdrLaunch := false, tiu.enabled := false }))

/-- The classes of Table 14-3. -/
inductive BurstClass where
  | dry | flooded | measured | invalid
deriving DecidableEq, Repr

/-- The spread of a burst (R540) in 1/1024 ps: the timed launches, early ones apart. -/
def spreadOf (ts : List Nat) : Nat :=
  match ts with
  | [] => 0
  | t :: rest => rest.foldl max t - rest.foldl min t

/-- The spread in whole ps (log entry 10). -/
def spreadPs (ts : List Nat) : Nat := (roundDiv (spreadOf ts) 1024).toNat

/-- The class of a burst (R540, R551). -/
def State.burstClass (s : State) : BurstClass :=
  let stops := s.tiu.stops
  let timed := (stops.filter (fun x => !x.2)).map (fun x => x.1)
  if stops.isEmpty then .dry
  else if stops.length < s.burstGet Obj.tdrMinValid then .invalid
  else if timed.isEmpty then .flooded
  else if spreadOf timed ≤ 1024 * s.burstGet Obj.tdrMaxSpread then .measured
  else .invalid

/-- The distance a burst publishes (Table 14-3). -/
def State.burstDistance (s : State) (c : BurstClass) : Nat :=
  let vf := s.burstGet Obj.tdrVelocityFactor
  let off := s.burstGet Obj.tdrOffset
  let timed := (s.tiu.stops.filter (fun x => !x.2)).map (fun x => x.1)
  match c with
  | .flooded => distanceMm vf off (1024 * s.burstGet Obj.tdrBlank) 1
  | .measured => distanceMm vf off (timed.foldl (fun a t => a + t) 0) timed.length
  | _ => s.burstGet Obj.tdrLineLength

/-- The height map of the burst in progress (R541). -/
def State.heightMap (s : State) : List (Int × Int) := tablePoints (leBytes 32 (s.burstGet Obj.tdrHeightMap)) 8 true

/-- Least-squares slope of heights over µs, in 0.1 mm/s (R542). -/
def riseRate (h : List (Nat × Int)) : Int :=
  let n : Int := h.length
  let t0 := (h.head?.map (fun x => x.1)).getD 0
  let sx := h.foldl (fun (a : Int) x => a + ((x.1 : Int) - t0)) 0
  let sy := h.foldl (fun (a : Int) x => a + x.2) 0
  let sxx := h.foldl (fun (a : Int) x => a + ((x.1 : Int) - t0) * ((x.1 : Int) - t0)) 0
  let sxy := h.foldl (fun (a : Int) x => a + ((x.1 : Int) - t0) * x.2) 0
  let den := n * sxx - sx * sx
  if den ≤ 0 then 0 else max (-32768) (min 32767 (roundDiv (10000000 * (n * sxy - sx * sy)) den))

/-- A waterline as its 16 bytes (Table 14-8). -/
def waterBytes (height rate : Int) (distance spread stops flags opS : Nat) : Bytes :=
  leBytes 2 (ofSigned 2 height) ++ leBytes 2 (ofSigned 2 rate) ++ leBytes 2 distance ++ leBytes 2 (satBytes 2 spread)
    ++ leBytes 2 stops ++ [byteOf flags, 0#8] ++ leBytes 4 opS

/-- A waterline published (R543): valid for ValidAge. -/
def State.publishWater (s : State) (bs : Bytes) (ageUs : Nat) : State :=
  (s.set Obj.tdrWaterline (leNat bs)).arm .waterlineAge ageUs

/-- An Invalid burst (Table 14-3, R551): nothing published. -/
def State.invalidBurst (s : State) : State :=
  let stops := s.tiu.stops
  let timed := (stops.filter (fun x => !x.2)).map (fun x => x.1)
  s.flagFirst Obj.tdrSticky 0 (fun s => s.log .press 0x2306 1 31
    (u32 stops.length ++ u32 (stops.length - timed.length) ++ u32 (spreadPs timed)))

/-- The heights that stay beside a new one: those of the last RateWindow (R542), and the last 31 (Table 17-5). -/
def State.keepBursts (s : State) (window : Nat) : List (Nat × Int) :=
  let old := s.tiu.history
  (old.take (old.length - 31)).filter (fun x => decide (s.now ≤ x.1 + window)) ++ old.drop (old.length - 31)

/-- A valid burst published (R540 to R543, Table 14-6 rows 7 and 10). -/
def State.validBurst (s : State) (c : BurstClass) : State :=
  let d := s.burstDistance c
  match interpolate s.heightMap d with
  | none => s.invalidBurst
  | some h =>
    let window := 1000000 * s.burstGet Obj.tdrRateWindow
    let timed := (s.tiu.stops.filter (fun x => !x.2)).map (fun x => x.1)
    let jump : Bool := match s.tiu.lastMeasured with
      | some t => c == .dry && decide (s.now ≤ t + window)
      | none => false
    let s := if jump then
        s.faultRow Obj.tdrSticky 4 .press 0x230A 1 31 (leBytes 2 (s.waterline 0 2))
      else s
    let s := if c = .flooded then s.flagFirst Obj.tdrSticky 1 (fun s => s.log .press 0x2307 1 31 []) else s
    let hist := s.keepBursts window ++ [(s.now, h)]
    let recent := hist.filter (fun x => decide (s.now ≤ x.1 + window))
    let rateOk := decide (3 ≤ recent.length)
    let rate := if rateOk then riseRate recent else 0
    let flags := 1 + (if c = .dry then 2 else 0) + (if c = .flooded then 4 else 0) + (if rateOk then 16 else 0)
    let s : State := { s with tiu.history := hist, tiu.lastMeasured := if c = .measured then some s.now else none }
    s.publishWater (waterBytes h rate (satBytes 2 d) (spreadPs timed) s.tiu.stops.length flags s.opSeconds)
      (1000000 * s.burstGet Obj.tdrValidAge)

/-- A burst ended and the channel given on (R528). -/
def State.endBurst (s : State) : State :=
  let waiting := s.get Obj.tiuState == 1
  let s : State := { s with tiu := { s.tiu with burst := false, launched := 0, stops := [], enabled := false },
                            pins.tdrLaunch := false }
  ((s.disarm .tdrGap).disarm .tdrStop).set Obj.tiuState (if waiting then 2 else 0)

/-- TDR_BURST_END (R540): the last launch's gap is over; the burst is classed and published. -/
def execTdrBurstEnd (s : State) : Out :=
  .next (s.when (s.tiu.burst && decide (s.burstGet Obj.tdrLaunches ≤ s.tiu.launched)) (fun s =>
    let s := s.bump Obj.tdrBurstCount 1
    let c := s.burstClass
    (if c = .invalid then s.invalidBurst else s.validBurst c).endBurst))

/-- WATERLINE_STALE (R543): the latest valid burst is older than ValidAge. -/
def execWaterlineStale (s : State) : Out :=
  .next (s.onTimer .waterlineAge (fun s =>
    let bs := s.bytesOf Obj.tdrWaterline
    let gone := leBytes 2 0x8000 ++ sliceBytes bs 2 8 ++ [byteOf (fieldAt bs 10 1 / 2 * 2), 0#8] ++ sliceBytes bs 12 4
    (s.set Obj.tdrWaterline (leNat gone)).faultRow Obj.tdrSticky 3 .press 0x2309 1 31 []))

/-- The unit without power in HOLDUP (R550): what the channel does is discarded. -/
def State.tiuOff (s : State) : State :=
  let s : State := { s with pins.tdrLaunch := false, tiu := { s.tiu with
    burst := false, launched := 0, stops := [], enabled := false, due := false, startFine := none } }
  (((((s.disarm .tiuTimeout).disarm .tiuOverflow).disarm .tdrGap).disarm .tdrStop).disarm .tdrPeriod).set Obj.tiuState 0

/-- A REF_IN loss ends what the channel does (R551). -/
def State.tiuRefLost (s : State) : State :=
  let s := if s.tiu.burst then
      (((s.flag Obj.tiuSticky 3).bump Obj.tdrBurstCount 1).invalidBurst).endBurst
    else s
  if s.get Obj.tiuState = 3 then
    let d := s.draw
    ((d.2).flag Obj.tiuSticky 3).endMeasurement (d.1 % 2 ^ 64) 16
  else s

end Sys2Proof.Machine
end

