-- ==== Sys2Proof/Machine/BandOps.lean ====
section
/-!
DEFINITION. The RF front-end port (R373 to R379, R390, R393), licence-exempt switching (R380 to R391), and the gates and
probes of band paths (Table 1-4, R408 to R412, R644).
-/

namespace Sys2Proof.Machine

open Sys2Proof

/-! ## Front-end sequences -/

/-- The descriptor of a sequence: 1 SeqInit, 2 SeqRetuneUL, 3 SeqRetuneDL (R376). -/
def State.seqWord (s : State) (k : Nat) : Nat :=
  if k = 1 then s.get Obj.frontEndSeqInit
  else if k = 2 then s.get Obj.frontEndSeqRetuneUL
  else s.get Obj.frontEndSeqRetuneDL

/-- The entry count of a sequence. -/
def State.seqCount (s : State) (k : Nat) : Nat := s.seqWord k / 256 % 256

/-- The bytes of an entry (Table 10-2). -/
def State.feEntry (s : State) (i : Nat) : Bytes := s.bytesOf (Obj.frontEndEntry i)

/-- The direction of a retune sequence. -/
def seqDir (k : Nat) : Dir := if k = 3 then .dl else .ul

/-- The sequence of a retune of a direction. -/
def retuneSeq : Dir → Nat
  | .ul => 2 | .dl => 3

/-- The paths a sequence serves: every path for SeqInit, else those of its direction. -/
def State.seqPaths (s : State) (k : Nat) : List Nat := if k = 1 then pathNums else s.pathsOf (seqDir k)

/-- The retune of a direction marked as under way or over. -/
def State.setRetune (s : State) (d : Dir) (b : Bool) : State :=
  match d with
  | .ul => { s with fe.retuneUL := b }
  | .dl => { s with fe.retuneDL := b }

/-- A direction held muted by a failed sequence, or released (R390). -/
def State.setFail (s : State) (d : Dir) (b : Bool) : State :=
  match d with
  | .ul => { s with fe.failUL := b }
  | .dl => { s with fe.failDL := b }

/-- Front-end GPIO lines driven: the lines of `mask` that FrontEnd.GpioOut marks as outputs take `levels` (R375). -/
def State.driveGpio (s : State) (mask levels : Nat) : State :=
  let m := BitVec.ofNat 16 (mask &&& s.get Obj.frontEndGpioOut)
  { s with pins.feGpio := (s.pins.feGpio &&& ~~~ m) ||| (BitVec.ofNat 16 levels &&& m) }

/-- The attenuator descriptor of a direction (Table 10-4). -/
def State.attenDesc (s : State) (d : Dir) : Bytes :=
  match d with
  | .ul => s.bytesOf Obj.frontEndAttenUL
  | .dl => s.bytesOf Obj.frontEndAttenDL

/-- The field code of a step attenuator (R379). -/
def attenCode (quarterDb step width : Nat) (invert : Bool) : Nat :=
  let code := (2 * quarterDb + step) / (2 * step) % 2 ^ width
  if invert then 2 ^ width - 1 - code else code

/-- The step attenuator of a direction set to Stab.Atten (R379, R393): an SPI word, or its field on FE_GPIO lines; a
direction without one sends nothing (R713). -/
def State.sendAtten (s : State) (d : Dir) : State :=
  let bs := s.attenDesc d
  if bs.all (fun b => b == 0#8) then s
  else
    let f := fun i n => fieldAt bs i n
    let code := attenCode (s.get (Obj.stabAtten (dirNum d))) (f 4 1) (f 3 1) ((f 5 1).testBit 0)
    let mask := (2 ^ f 3 1 - 1) * 2 ^ f 2 1
    if (f 0 1).testBit 5 then s.driveGpio (mask % 65536) (code * 2 ^ f 2 1 % 65536)
    else
      let word := (f 8 4 - (f 8 4 &&& mask)) + (code * 2 ^ f 2 1 &&& mask)
      { s with fe.sent := some (f 0 1, f 1 1, word) }

/-- A sequence begun at its first entry (R374). FrontEnd.State shows which. -/
def State.startSeq (s : State) (k : Nat) (replayed : Bool) : State :=
  { (s.set Obj.frontEndState k) with fe.run := some ⟨k, 0, .entries, replayed, s.now⟩ }

/-- The port free again: FrontEnd.State idle, or failed while a direction or the initial sequence has failed. -/
def State.seqIdle (s : State) : State :=
  { (s.set Obj.frontEndState (if s.fe.failUL ∨ s.fe.failDL then 4 else 0)) with fe.run := none }

/-- The entries of a sequence have all been played (R377, R378, R393): the attenuators are set; SeqInit is complete, a
retune waits for lock. -/
def State.seqPlayed (s : State) (k : Nat) (replayed : Bool) : State :=
  if k = 1 then
    let s := (s.sendAtten .ul).sendAtten .dl
    let s : State := { s with fe.initOk := true, fe.failUL := false, fe.failDL := false }
    s.seqIdle
  else
    let s := s.sendAtten (seqDir k)
    let s : State := { s with fe.run := some ⟨k, 0, .lock, replayed, s.now⟩ }
    s.arm (.lockTimeout (seqDir k)) (1000 * s.get Obj.frontEndLockTimeout)

/-- A sequence played: at once when the port is free, else after those before it. A sequence of no entries has been
played as soon as it begins (R376). -/
def State.playSeq (s : State) (k : Nat) : State :=
  if s.fe.run.isSome then { s with fe.waiting := s.fe.waiting ++ [k] }
  else if s.seqCount k = 0 then s.seqPlayed k false
  else s.startSeq k false

/-- The next waiting sequence. -/
def State.nextSeq (s : State) : State :=
  match s.fe.waiting with
  | [] => s
  | k :: rest => ({ s with fe.waiting := rest }).playSeq k

/-- A sequence has failed (Table 10-12): the paths stay muted; one replay after 100 ms, then none. -/
def State.failSeq (s : State) (k bit code : Nat) (replayed : Bool) (payload : Bytes) : State :=
  let s := (s.seqPaths k).foldl (fun (s : State) p => s.flag (Obj.bandSticky p) bit) s
  let s := s.log .press code 2 31 payload
  let s := if k = 1 then s else s.disarm (.lockTimeout (seqDir k))
  if replayed then
    let s : State := if k = 1 then { s with fe.initOk := false, fe.failUL := true, fe.failDL := true }
      else (s.setFail (seqDir k) true).setRetune (seqDir k) false
    s.seqIdle
  else ({ s with fe.run := some ⟨k, 0, .replay, true, s.now⟩ }).arm .feReplay 100000

/-- A retune begun at its direction's loop-frame boundary (R378, Table 10-3). -/
def State.startRetune (s : State) (d : Dir) : State :=
  let s := s.mutePaths (s.liveOf d)
  ((s.setRetune d true).setFail d false).playSeq (retuneSeq d)

/-- Lock seen, or taken as seen (R378): settle suppression starts on the paths of the direction and the port is free. -/
def State.retuneLocked (s : State) (d : Dir) : State :=
  let s := ((s.disarm (.lockTimeout d)).setRetune d false).settleAll (s.liveOf d)
  s.seqIdle

/-- Whether a sequence is being played (R387). -/
def State.seqPlaying (s : State) : Bool := s.fe.run.isSome

/-- The core clock has moved to INT48 while a sequence plays (R661): it stops. -/
def State.stopSeq (s : State) : State :=
  match s.fe.run with
  | some r => if r.phase = .entries then { s with fe.run := some { r with phase := .stopped } } else s
  | none => s

/-- The core clock is back on the core PLL (R661): the sequence is replayed from its first entry. -/
def State.resumeSeq (s : State) : State :=
  match s.fe.run with
  | some r => if r.phase = .stopped then { s with fe.run := some { r with phase := .entries, pos := 0, since := s.now } } else s
  | none => s

/-- SeqInit played as a start ends, or on a write of FrontEnd.RunInit (R377, R387). -/
def State.runInit (s : State) : State :=
  ({ s with fe.initOk := false, fe.failUL := false, fe.failDL := false }).playSeq 1

/-! ## Licence-exempt switching -/

/-- Whether the licence-exempt pair may be served (R381): both paths unmuted, settled and Le.Enable 1. -/
def State.leReady (s : State) : Bool :=
  match s.lePath .ul, s.lePath .dl with
  | some u, some d => s.get Obj.leEnable == 1 && s.unmuted u && s.unmuted d
      && s.get (Obj.bandPathSettling u) == 0 && s.get (Obj.bandPathSettling d) == 0
  | _, _ => false

/-- Whether a side is barred (R391). -/
def State.leBarredSide (s : State) (d : Dir) : Bool := (s.get Obj.leBarred).testBit (dirNum d)

/-- A gate opened (R380, R382, R383): LeDetect, and MaxHold runs. -/
def State.openGate (s : State) (d : Dir) : State :=
  match s.lePath d with
  | none => s
  | some p =>
    let s := (s.moveGain p).set (Obj.stabState p) (gainState (s.getI (Obj.stabApplied p)) (s.path p).computed)
    let s := s.setPath p { s.path p with serviceAt := s.now }
    let s := ((s.set Obj.leDirection (dirNum d + 1)).bump Obj.leSwitchCount 1).fabEvent p 14
    s.arm .leMaxHold (1000 * s.get Obj.leMaxHold)

/-- The open direction. -/
def State.leOpen (s : State) : Option Dir :=
  if s.get Obj.leDirection = 1 then some .ul else if s.get Obj.leDirection = 2 then some .dl else none

/-- A hold ended (R382): both gates closed, LeRelease, Guard. -/
def State.enterGuard (s : State) : State :=
  match s.leOpen with
  | none => s
  | some d =>
    let s := match s.lePath d with
      | some p => s.fabEvent p 15
      | none => s
    ((s.closeGates).set Obj.leDirection 3).arm .leGuard (s.get Obj.leGuard)

/-- Holds in a row of one direction that did not end by MaxHold end its streak (R391). -/
def State.endStreak (s : State) (d : Dir) : State :=
  { s with le.streak := s.le.streak.filter (fun x => x.1 != d) }

/-- A commit reaches the pair (R388): an open hold ends and counts as released. -/
def State.leCommit (s : State) : State :=
  match s.leOpen with
  | some d => (s.endStreak d).enterGuard
  | none => s

/-! ## Gates and probes -/

/-- The power states that allow a path to be unmuted (Table 3-1). -/
def State.rfState (s : State) : Bool :=
  s.power.state == .active
    || (s.power.state == .service && s.power.cameFrom == .active && s.get Obj.powerStateServiceKeepsRf == 1)

/-- The converters of a direction's pair. -/
def pairConverters : Dir → List Nat
  | .ul => [0, 1] | .dl => [2, 3]

/-- The gates that concern the whole unit (Table 1-4, R19, R20, R92, R135, R627). -/
def State.unitGates (s : State) : Bool :=
  s.rfState && s.power.trans.isNone && s.get Obj.railSeqState == 4 && s.get Obj.tiuRefWarm == 0 && s.power.refPresent
    && s.get Obj.clockSamplePllLocked == 1 && s.get Obj.netState == 0 && s.power.pressReady
    && !s.sec.halted.contains .press && !s.wd.lockstepBusy && s.fe.initOk && !s.twin.relayLost
    && (!s.twin.enabled || s.get Obj.twinRole == 1)

/-- The gates of one direction (R315, R356, R357, R378, R390). -/
def State.dirGates (s : State) (d : Dir) : Bool :=
  (pairConverters d).all (fun c => s.get (Obj.adcCalStatus c) == 2)
    && !(s.get Obj.converterTasteState).testBit (dirNum d)
    && (match d with
        | .ul => !s.fe.failUL && !s.fe.retuneUL
        | .dl => !s.fe.failDL && !s.fe.retuneDL)

/-- Whether the hardware path of SEAL_N lets the lanes run (R23, R464, R465). -/
def State.sealOpen (s : State) : Bool := s.pins.sealN && !s.pa.breach

/-- The gates of one path: enabled, its lane Ready, and not muted by budget. -/
def State.pathGates (s : State) (p : Nat) : Bool :=
  s.bandOn p && !(s.path p).budgetMuted && s.sealOpen
    && (match s.laneOf p with
        | some n => s.get (Obj.paLaneState n) == 3
        | none => false)

/-- Whether every gate of Table 1-4 that a band passes is open. -/
def State.gatesOpen (s : State) (b : Nat × Nat) : Bool :=
  s.unitGates && s.dirGates .ul && s.dirGates .dl && s.pathGates b.1 && s.pathGates b.2

/-- Whether a band may be probed now: its gates open, both paths settled, and no probe interval running. -/
def State.mayProbe (s : State) (b : Nat × Nat) : Bool :=
  s.gatesOpen b && [b.1, b.2].all (fun p => s.get (Obj.bandPathSettling p) == 0 && !s.armed (.probeRetry p))

/-- A probe begun on both paths of a band (R410, R412): gain stages off, pilots at ProbeLevel, no burst beside it. -/
def State.startProbe (s : State) (b : Nat × Nat) : State :=
  let s : State := { (s.abandonBurst) with pins.rfMuteN := true }
  [b.1, b.2].foldl (fun (s : State) p =>
    ((s.set (Obj.stabState p) 1).bump (Obj.stabProbeCount p) 1).arm (.probe p) 40000) s

/-- Every band with a muted path that may return starts its probe (R409, R410, R433). -/
def State.startProbes (s : State) : State :=
  s.bands.foldl (fun (s : State) b =>
    let idle := fun p => s.get (Obj.stabState p) == 0 || s.get (Obj.stabState p) == 6
    let want := (idle b.1 || idle b.2) && !(s.get (Obj.stabState b.1) == 1) && !(s.get (Obj.stabState b.2) == 1)
    if want && s.mayProbe b then s.startProbe b else s) s

/-- The floor of an estimate over `frames` frames at a path's final rate (R398), in 0.01 dB: the processing gain in
parts of 2^32 is frames × 0.01 s × 491.52 MHz / 2^D. -/
def State.loopFloor (s : State) (p frames : Nat) : Int :=
  2600 - Config.toDb (frames * 4915200 * 2 ^ 32 / 2 ^ s.get (Obj.bandDepth p))

/-- The digital path gain of a path: its gain-stage value (R392). -/
def State.stageGain (s : State) (p : Nat) : Int :=
  s.getI (Obj.stabApplied p) - (s.chainGain (s.dirOf p) - s.atten (s.dirOf p))

/-- A path unmuted at a gain (R410, R644): it rises from there; a licence-exempt path waits for its gate. -/
def State.unmute (s : State) (p : Nat) (g : Int) : State :=
  let g := s.clampGain p g
  let s := s.setI (Obj.stabApplied p) g
  let r := s.path p
  let s := s.setPath p { r with gainAt := s.now, serviceAt := s.now, countedAt := some s.now, osc := 0, overpower := 0 }
  s.set (Obj.stabState p) (if s.isLe p then 5 else gainState g r.computed)

/-- What a probe measures of one path (R397, R398): its isolation and whether it is a bound. -/
def State.probeIsolation (s : State) (p : Nat) (m : PathMeas) : Int :=
  s.chainGain (s.dirOf p) - (if m.coherentAboveFloor then m.coherentLoop else s.loopFloor p 4)

/-- Stab.Loop as its 16 bytes (Table 11-10). -/
def loopBytes (coherent single floor : Int) (iso delay seq flags : Nat) : Bytes :=
  leBytes 2 (ofSigned 2 coherent) ++ leBytes 2 (ofSigned 2 single) ++ leBytes 2 (ofSigned 2 floor) ++ leBytes 2 iso
    ++ leBytes 4 delay ++ leBytes 2 seq ++ [byteOf flags, 0#8]

/-- A probe's measurement recorded: the pilot limit that it finds (R399, R410). -/
def State.noteProbe (s : State) (p : Nat) (m : PathMeas) : State :=
  let iso := s.probeIsolation p m
  let floor := s.loopFloor p 4
  let coh := if m.coherentAboveFloor then m.coherentLoop else floor
  let single := if m.singleAboveFloor then m.singleLoop else s.loopFloor p 1
  let flags := 1 + (if m.coherentAboveFloor then 0 else 2)
  let s := s.set (Obj.stabLoop p) (leNat (loopBytes coh single floor (satBytes 2 iso.toNat) m.delayNs.toNat
    (fieldAt (s.bytesOf (Obj.stabLoop p)) 12 2) flags))
  s.setPath p { s.path p with pilotLimit := some (iso - s.get (Obj.stabMargin p)), loopDelay := m.delayNs.toNat,
                              frameBits := 0xF }

end Sys2Proof.Machine
end

