-- ==== Sys2Proof/Machine/LaneOps.lean ====
section
/-!
DEFINITION. The PA lanes' starts and stops (R432 to R441, R628), the budget hints (R450 to R452), and the freezing of DC
blockers (R318).
-/

namespace Sys2Proof.Machine

open Sys2Proof

/-! ## DC blockers -/

/-- The converter that feeds a path: A or C for stream 0, B or D for stream 1 (R361). -/
def State.converterOf (s : State) (p : Nat) : Nat := 2 * dirNum (s.dirOf p) + s.get (Obj.bandStream p)

/-- The enabled paths that a converter feeds. -/
def State.convPaths (s : State) (c : Nat) : List Nat := pathNums.filter (fun p => s.bandOn p && s.converterOf p == c)

/-- Adc.DcFrozen follows its causes (R318): Adc.DcFreeze, an overrange of the last ms, the sample PLL unlocked. A change
raises DcFreezeChange on the converter's paths. -/
def State.refreeze (s : State) (c : Nat) : State :=
  let f := s.get (Obj.adcDcFreeze c) == 1 || s.armed (.dcFreeze c) || s.get Obj.clockSamplePllLocked == 0
  if f == (s.get (Obj.adcDcFrozen c) == 1) then s
  else (s.convPaths c).foldl (fun s p => s.fabEvent p 8) (s.set (Obj.adcDcFrozen c) (if f then 1 else 0))

/-! ## Bias -/

/-- Whether a hint window that acts names a path of a lane (R450, R451). -/
def State.hintedLane (s : State) (n : Nat) : Bool :=
  [0, 1].any (fun w => s.hintActs w && (s.lanePaths n).any (fun p => (s.hintField w 6 2).testBit p))

/-- The bias code that a running lane moves towards (R439, R451). -/
def State.biasTarget (s : State) (n : Nat) : Nat :=
  if s.hintedLane n then s.get (Obj.paLaneBiasHint n) else s.get (Obj.paLaneBiasCode n)

/-- Whether a lane's regulator and bias are on: biasing or Ready. -/
def State.laneOn (s : State) (n : Nat) : Bool := s.get (Obj.paLaneState n) == 2 || s.get (Obj.paLaneState n) == 3

/-- Whether a lane is starting, biasing or Ready. -/
def State.laneRuns (s : State) (n : Nat) : Bool := s.get (Obj.paLaneState n) == 1 || s.laneOn n

/-- The bias DAC of a lane set moving towards a code from where it stands; the pin list holds the code it moves to. -/
def State.setBias (s : State) (n goal : Nat) : State :=
  let b := s.biasNow n
  let s := s.setLane n { s.lane n with biasFrom := b, biasAt := s.now, biasGoal := goal }
  { s with pins.paBias := putKey s.pins.paBias n goal 0 }

/-- Every running lane's bias aimed anew (R451); with SEAL_N low the hardware path holds every bias at 0 (R23, R464). -/
def State.retargetBias (s : State) : State :=
  laneNums.foldl (fun (s : State) n =>
    if s.sealOpen && s.laneOn n && s.biasTarget n != (s.lane n).biasGoal then s.setBias n (s.biasTarget n) else s) s

/-! ## Lanes -/

/-- PMBus transactions owed to a lane, each after a PAGE where the lane has one (R435, R438). -/
def State.sendPmb (s : State) (n : Nat) (codes : List Nat) : State :=
  let paged := s.get (Obj.paLanePmbPage n) != 0xFF
  { s with pa.pmb := s.pa.pmb ++ codes.flatMap (fun c => if paged then [⟨n, 0, false⟩, ⟨n, c, false⟩] else [⟨n, c, false⟩]) }

/-- Whether a lane is held by a stop of Table 12-7. -/
def LaneHold.any (h : LaneHold) : Bool := h.regulator || h.pmbus || h.heat || h.die

/-- The run conditions of a lane (R439, R464, R465, R496, R628). -/
def State.laneMayRun (s : State) (n : Nat) : Bool :=
  let warm := s.twin.enabled && s.get Obj.twinRole == 2 && s.get Obj.twinWarmLanes == 1 && s.power.state == .standby
  (s.rfState || warm) && s.rail.shutdown.isNone && s.power.pressReady && !s.wd.lockstepBusy && !s.sec.halted.contains .press
    && s.get (Obj.paLaneEnable n) == 1 && s.sealOpen && !(s.lane n).hold.any

/-- The state a stopped lane takes: Sealed, stopped by fault, or stopping until OPERATION 0x00 is done (Table 12-9). -/
def State.stoppedState (s : State) (n : Nat) : Nat :=
  if s.pa.breach then 6 else if (s.lane n).hold.any then 5 else 4

/-- A lane stopped (R441): its paths muted, bias at code 0, PA_EN_x low, OPERATION 0x00. -/
def State.stopLane (s : State) (n : Nat) : State :=
  let s := s.mutePaths (s.lanePaths n)
  let s : State := { s with
    pins.paEn := s.pins.paEn &&& ~~~ BitVec.ofNat 4 (2 ^ n)
    pins.paBias := dropKey s.pins.paBias n
    pa.pmb := s.pa.pmb.filter (fun t => !(t.lane == n)) }
  let s := s.setLane n { s.lane n with biasFrom := 0, biasAt := s.now, biasGoal := 0, voutOk := false, statusOk := false }
  let s := ((s.disarm (.laneRegulator n)).disarm (.laneReady n)).disarm (.laneMonitor n)
  (s.set (Obj.paLaneState n) (s.stoppedState n)).sendPmb n [0x01]

/-- Every running lane stopped, as on an early warning (R441, R496). -/
def State.stopLanes (s : State) : State := (laneNums.filter s.laneRuns).foldl State.stopLane s

/-- A lane started (Table 12-2): CLEAR_FAULTS, ON_OFF_CONFIG 0x18 and OPERATION 0x80 sent. -/
def State.startLane (s : State) (n : Nat) : State :=
  let s := s.setLane n { s.lane n with voutOk := false, statusOk := false, poutAt := none, snapshot := false }
  let s : State := { s with pa.pmb := s.pa.pmb.filter (fun t => !(t.lane == n)) }
  (s.set (Obj.paLaneState n) 1).sendPmb n [0x03, 0x02, 0x01]

/-- PaLane.Enable written (Table 12-7): a regulator stop ends, and a lane disabled stops (R439). -/
def State.laneEnableWritten (s : State) (n : Nat) : State :=
  let r := s.lane n
  let s := s.setLane n { r with hold := { r.hold with regulator := false }, faultAt := none }
  let s := s.disarm (.regulatorRestart n)
  let s := if s.get (Obj.paLaneState n) = 5 ∧ !(s.lane n).hold.any then s.set (Obj.paLaneState n) 0 else s
  if s.get (Obj.paLaneEnable n) = 0 ∧ s.laneRuns n then s.stopLane n else s

/-! ## Hints -/

/-- The number of a hint window: 0 Harvest, 1 Push. -/
def hintNum : HintId → Nat
  | .harvest => 0 | .push => 1

/-- Microseconds until an operating second begins. -/
def State.untilSecond (s : State) (t : Nat) : Nat := (t - s.opSeconds) * 1000000 - s.time.opFrac

/-- A hint window judged from its start (R450 to R452): over, open, in its lead, or armed. `Start` 0 means now. -/
def State.judgeHint (s : State) (h : HintId) : State :=
  let w := hintNum h
  let dur := s.hintField w 4 2
  let start := s.hintField w 0 4
  let s := s.disarm (.hint h)
  let k := Obj.hintState w
  if dur = 0 then s.set k 0
  else if start = 0 then (s.set k 3).arm (.hint h) (1000000 * dur)
  else if start + dur ≤ s.opSeconds then s.set k 0
  else if start ≤ s.opSeconds then (s.set k 3).arm (.hint h) (s.untilSecond (start + dur))
  else if start ≤ s.opSeconds + s.get Obj.paBudgetHintLead then (s.set k 2).arm (.hint h) (s.untilSecond start)
  else (s.set k 1).arm (.hint h) (s.untilSecond (start - s.get Obj.paBudgetHintLead))

/-- A hint window cancelled by a shutdown (R423, R452): it stays cancelled until its end. -/
def State.cancelHint (s : State) (h : HintId) : State :=
  let w := hintNum h
  let st := s.get (Obj.hintState w)
  if st = 1 ∨ st = 2 then
    (s.set (Obj.hintState w) 4).arm (.hint h) (s.untilSecond (s.hintField w 0 4 + s.hintField w 4 2))
  else if st = 3 then s.set (Obj.hintState w) 4
  else s

/-- The next phase of a hint window at its timer (R450). -/
def State.nextHint (s : State) (h : HintId) : State :=
  let w := hintNum h
  let st := s.get (Obj.hintState w)
  let start := s.hintField w 0 4
  if st = 1 then (s.set (Obj.hintState w) 2).arm (.hint h) (s.untilSecond start)
  else if st = 2 then (s.set (Obj.hintState w) 3).arm (.hint h) (s.untilSecond (start + s.hintField w 4 2))
  else s.set (Obj.hintState w) 0

/-- Hint windows taken up again at a start; one that began with its commit is over (R452). -/
def State.resumeHint (s : State) (h : HintId) : State :=
  if s.hintField (hintNum h) 0 4 = 0 then s.set (Obj.hintState (hintNum h)) 0 else s.judgeHint h

/-! ## Lid states -/

/-- The lid enters a state: a tracking period in progress is discarded (R572). -/
def State.lidEnter (s : State) (st : Nat) : State :=
  let s : State := { s with lid := { s.lid with sum := 0, count := 0, releases := 0, lowRun := 0 } }
  ((s.set Obj.lidState st).disarm .lidTrack).disarm .lidCover

/-- A re-take begun (R573). -/
def State.lidRetakeNow (s : State) : State := s.lidEnter 1

/-- The lid sensor as HOLDUP begins (R567, R574, R577): an Idle baseline is stored, Covered stays, and a presence or a held
touch is discarded. -/
def State.lidHoldup (s : State) : State :=
  let st := s.get Obj.lidState
  let s : State := { s with lid.heldTouch := none }
  let s := if st = 2 then s.set Obj.lidStoredBaseline (s.get Obj.lidBaseline) else s
  if st = 0 then s else (s.lidEnter (if st = 3 then 2 else st)).disarm .lidResume

/-- Lid.Enable written (R567): sensing stops, or begins with a re-take (log entry 33). -/
def State.lidEnabled (s : State) : State :=
  if s.get Obj.lidEnable = 0 then ((s.lidEnter 0).disarm .lidStore).disarm .lidResume else s.lidRetakeNow

end Sys2Proof.Machine
end

