-- ==== Sys2Proof/Machine/RfChecks.lean ====
section
/-!
DEFINITION. Cross-object safety checks of chapters 09 to 12, 14, 15 and 17 (Tables 9-10, 10-11, 11-7, 12-6, 14-5, 15-10,
17-9) and the state preconditions of those chapters.
-/

namespace Sys2Proof.Machine

open Sys2Proof

/-- An object's value after a commit as a signed integer. -/
def afterI (v : Nat → Nat) (k : Nat) : Int := toSigned (objSize k) (v k)

/-- Whether a key is one of some sub-indices of a path's band-plan object. -/
def bandKey (p : Nat) (subs : List Nat) (k : Nat) : Bool := k / 256 == 0x3000 + p && subs.contains (k % 256)

/-- The stream rate of a path in units of 245.76 MHz: 2 in Interleaved, else 1 (R322). -/
def streamRate (v : Nat → Nat) (p : Nat) : Nat :=
  let mode := if v (Obj.bandDirection p) = 0 then v Obj.converterPairModeUL else v Obj.converterPairModeDL
  if mode = 1 then 2 else 1

/-- An NCO frequency in Hz × 2^32 (R322). -/
def ncoHz (w : Int) (rate : Nat) : Int := w * (245760000 * rate)

/-- The input NCO frequency of a path, Hz × 2^32. -/
def inHz (v : Nat → Nat) (p : Nat) : Int := ncoHz (afterI v (Obj.bandInNcoWord p)) (streamRate v p)

/-- The output NCO frequency of a path, Hz × 2^32. -/
def outHz (v : Nat → Nat) (p : Nat) : Int := ncoHz (afterI v (Obj.bandOutNcoWord p)) 2

/-- The local oscillators of a path's direction in kHz: input, output. -/
def oscillators (v : Nat → Nat) (p : Nat) : Nat × Nat :=
  if v (Obj.bandDirection p) = 0 then (v Obj.frontEndLoInUL, v Obj.frontEndLoOutUL)
  else (v Obj.frontEndLoInDL, v Obj.frontEndLoOutDL)

/-- The frequency range of a band code in kHz: uplink, downlink (Table 10-1). -/
def bandRange : Nat → (Nat × Nat) × (Nat × Nat)
  | 0x05 | 0x85 => ((824000, 849000), (869000, 894000))
  | 0x08 | 0x88 => ((880000, 915000), (925000, 960000))
  | 0x0C => ((699000, 716000), (729000, 746000))
  | 0x0D => ((777000, 787000), (746000, 756000))
  | 0x14 | 0x94 => ((832000, 862000), (791000, 821000))
  | 0x1A => ((814000, 849000), (859000, 894000))
  | 0x1C | 0x9C => ((703000, 748000), (758000, 803000))
  | 0xE0 => ((863000, 870000), (863000, 870000))
  | _ => ((902000, 928000), (902000, 928000))

/-- Whether a path's occupied span leaves the range of its band, or its code and kind disagree (R362). -/
def spanFault (v : Nat → Nat) (p : Nat) : Bool :=
  let code := v (Obj.bandStandard p)
  let r := if v (Obj.bandDirection p) = 0 then (bandRange code).1 else (bandRange code).2
  let c := v (Obj.bandRfCentre p)
  let w := v (Obj.bandChannelWidth p)
  decide (0xE0 ≤ code) != (v (Obj.bandKind p) == 1)
    || decide (2 * c < 2 * r.1 + w) || decide (2 * r.2 < 2 * c + w)

/-- Whether a frequency lies more than 1 kHz from an RF centre less a local oscillator, or that is not set (R364). -/
def placeFault (hz : Int) (rf lo : Nat) : Bool :=
  lo == 0 || decide (1000 * 2 ^ 32 < (hz - ((rf : Int) - lo) * 1000 * 2 ^ 32).natAbs)

/-- Whether the IF placement of R365 fails: frequency Hz × 2^32, width kHz, upper edge Hz. -/
def ifFault (hz : Int) (width upper : Nat) : Bool :=
  decide (2 * hz.natAbs < (2000000 + width * 1000) * 2 ^ 32) || decide (2 * upper * 2 ^ 32 < 2 * hz.natAbs + width * 1000 * 2 ^ 32)

/-- The channel frequencies in kHz that the modes of Le.Mode put into a path's span (Table 10-6). -/
def modeChannels (mode : Nat) (ul : Bool) : List Nat :=
  (if mode.testBit 0 then [868300] else []) ++ (if mode.testBit 1 then [if ul then 868950 else 868300] else [])
    ++ (if mode.testBit 2 then [if ul then 868950 else 869525] else [])

/-- Whether the channels of Le.Mode leave a licence-exempt path's span, or a mode is set on 902–928 MHz (R385). -/
def modeFault (v : Nat → Nat) (p : Nat) : Bool :=
  let mode := v Obj.leMode % 8
  let c := v (Obj.bandRfCentre p)
  let w := v (Obj.bandChannelWidth p)
  if v (Obj.bandStandard p) = 0xE1 then mode != 0
  else (modeChannels mode (v (Obj.bandDirection p) == 0)).any (fun f => decide (2 * f + w < 2 * c ∨ 2 * c + w < 2 * f))

/-- The checks of one path (Table 10-11, codes 0x01, 0x02, 0x04, 0x05, 0x07 to 0x09, 0x0B, 0x0D; Table 11-7). -/
def State.pathChecks (s : State) (v : Nat → Nat) (p : Nat) : List Check :=
  let on := v (Obj.bandEnable p) == 1
  let was := s.bandOn p
  let q := v (Obj.bandPartner p)
  let dir := v (Obj.bandDirection p)
  let lo := oscillators v p
  let rf := v (Obj.bandRfCentre p)
  let width := v (Obj.bandChannelWidth p)
  let pair := fun subs k => bandKey p subs k || (decide (q < 16) && bandKey q subs k)
    || (decide (s.partnerOf p < 16) && bandKey (s.partnerOf p) subs k)
  let oscKey := fun k => if dir = 0 then k == Obj.frontEndLoInUL || k == Obj.frontEndLoOutUL
    else k == Obj.frontEndLoInDL || k == Obj.frontEndLoOutDL
  let mates := decide (q < 16) && v (Obj.bandEnable q) == 1 && v (Obj.bandPartner q) == p && v (Obj.bandDirection q) != dir
  [⟨0x01, pair [1, 2, 4], on && !mates⟩,
   ⟨0x02, pair [1, 4, 5, 6, 0x0D], on && mates && (v (Obj.bandKind p) != v (Obj.bandKind q)
     || v (Obj.bandStandard p) != v (Obj.bandStandard q) || v (Obj.bandPriority p) != v (Obj.bandPriority q))⟩,
   ⟨0x04, bandKey p [2, 3, 4, 5], was && on && [Obj.bandDirection p, Obj.bandKind p, Obj.bandPartner p, Obj.bandStream p].any
     (fun k => v k != s.get k)⟩,
   ⟨0x05, bandKey p [1, 2, 5, 6, 7, 8], on && spanFault v p⟩,
   ⟨0x07, fun k => bandKey p [1, 2, 7, 9, 0x0A] k || oscKey k,
     on && (placeFault (inHz v p) rf lo.1 || placeFault (outHz v p) rf lo.2)⟩,
   ⟨0x08, bandKey p [1, 2, 8, 9, 0x0A],
     on && (ifFault (inHz v p) width (110592000 * streamRate v p) || ifFault (outHz v p) width 200000000)⟩,
   ⟨0x09, bandKey p [1, 8, 0x0B], on && decide (393216 < width * 2 ^ v (Obj.bandDepth p))⟩,
   ⟨0x0B, fun k => bandKey p [1, 2, 5, 6, 7, 8] k || k == Obj.leMode, on && v (Obj.bandKind p) == 1 && modeFault v p⟩,
   ⟨0x0D, bandKey p [1, 5], on && v (Obj.bandKind p) == 1 && v (Obj.bandPathDetectPoint p) == 1⟩,
   ⟨0x20, fun k => k == Obj.stabSchedule p,
     !((tablePoints (leBytes 64 (v (Obj.stabSchedule p))) 16 false).map (fun x => x.1)).Pairwise (fun a b => a < b)⟩,
   ⟨0x21, fun k => bandKey p [1, 2, 9, 0x0A] k || oscKey k,
     on && decide (2 ^ 32 < (outHz v p + (lo.2 : Int) * 1000 * 2 ^ 32 - inHz v p - (lo.1 : Int) * 1000 * 2 ^ 32).natAbs)⟩,
   ⟨0x23, fun k => k == Obj.stabMargin p || k == Obj.netCollapseMargin,
     decide (v (Obj.stabMargin p) ≤ v Obj.netCollapseMargin)⟩,
   ⟨0x24, fun k => k == Obj.stabBalanceOffset p, dir == 0 && v (Obj.stabBalanceOffset p) != 0⟩,
   ⟨0x25, fun k => k == Obj.stabTargetGain p || k == Obj.stabMinGain p,
     decide (afterI v (Obj.stabTargetGain p) < afterI v (Obj.stabMinGain p))⟩]

/-- Check 0x22 of one path: the target gain against what the gain stage can give. -/
def targetCheck (v : Nat → Nat) (p : Nat) : Check :=
  let dir := if v (Obj.bandDirection p) = 0 then 0 else 1
  let base := afterI v (Obj.stabChainGain dir) - 25 * (v (Obj.stabAtten dir) : Int)
  let t := afterI v (Obj.stabTargetGain p)
  ⟨0x22, fun k => k == Obj.stabTargetGain p || k == Obj.stabChainGain dir || k == Obj.stabAtten dir,
    v (Obj.bandEnable p) == 1 && (decide (base + 2400 < t) || decide (t < base - 4800))⟩

/-- The checks of the whole band plan (Tables 9-10 and 10-11). -/
def planChecks (v : Nat → Nat) : List Check :=
  let on := fun p => v (Obj.bandEnable p) == 1
  let inDir := fun d => pathNums.filter (fun p => on p && v (Obj.bandDirection p) == d)
  let bandAny := fun subs k => pathNums.any (fun p => bandKey p subs k)
  let seqBad := fun w => decide (0 < w / 256 ∧ 64 < w % 256 + w / 256)
  let noAtten := fun desc code => v desc == 0 && v code != 0
  let streamB := pathNums.any (fun p => v (Obj.bandStream p) == 1
    && (if v (Obj.bandDirection p) = 0 then v Obj.converterPairModeUL else v Obj.converterPairModeDL) != 0)
  pathNums.map (fun p => (⟨0x02, fun k => k == Obj.bandPathEnvLow p || k == Obj.bandPathEnvHigh p,
      decide (afterI v (Obj.bandPathEnvHigh p) ≤ afterI v (Obj.bandPathEnvLow p))⟩ : Check))
    ++ [⟨0x01, fun k => bandAny [2, 3] k || k == Obj.converterPairModeUL || k == Obj.converterPairModeDL, streamB⟩,
     ⟨0x03, bandAny [1, 2], decide (8 < (inDir 0).length ∨ 8 < (inDir 1).length)⟩,
     ⟨0x06, bandAny [1, 5], decide (1 < ((inDir 0).filter (fun p => v (Obj.bandKind p) == 1)).length)⟩,
     ⟨0x0A, fun k => k == Obj.frontEndSeqInit, seqBad (v Obj.frontEndSeqInit)⟩,
     ⟨0x0A, fun k => k == Obj.frontEndSeqRetuneUL, seqBad (v Obj.frontEndSeqRetuneUL)⟩,
     ⟨0x0A, fun k => k == Obj.frontEndSeqRetuneDL, seqBad (v Obj.frontEndSeqRetuneDL)⟩,
     ⟨0x0C, fun k => k == Obj.leThreshold || k == Obj.leReleaseLevel,
       decide (afterI v Obj.leThreshold ≤ afterI v Obj.leReleaseLevel)⟩,
     ⟨0x0E, fun k => k == Obj.frontEndAttenUL || k == Obj.stabAtten 0, noAtten Obj.frontEndAttenUL (Obj.stabAtten 0)⟩,
     ⟨0x0E, fun k => k == Obj.frontEndAttenDL || k == Obj.stabAtten 1, noAtten Obj.frontEndAttenDL (Obj.stabAtten 1)⟩]

/-- The lane checks (Table 12-6). -/
def laneChecks (v : Nat → Nat) : List Check :=
  let on := fun n => v (Obj.paLaneEnable n) == 1
  let names := fun n p => (v (Obj.paLanePathMask n)).testBit p
  let of := fun (subs : List Nat) n k => decide (k / 256 = 0x4010 + n) && subs.contains (k % 256)
  let any := fun (subs : List Nat) k => laneNums.any (fun n => of subs n k)
  let onPath := fun p => v (Obj.bandEnable p) == 1
  let quiescent := laneNums.foldl (fun a n => if on n then a + v (Obj.paLaneQuiescent n) else a) 0
  pathNums.map (fun p => (⟨0x30, fun k => any [1, 2] k || bandKey p [1] k,
     onPath p && decide ((laneNums.filter (fun n => on n && names n p)).length ≠ 1)⟩ : Check))
  ++ laneNums.flatMap (fun n =>
    [(⟨0x31, fun k => of [2] n k || pathNums.any (fun p => names n p && bandKey p [2] k),
       pathNums.any (fun p => names n p && v (Obj.bandDirection p) == 0)
         && pathNums.any (fun p => names n p && v (Obj.bandDirection p) == 1)⟩ : Check),
     ⟨0x32, of [1, 8, 9] n, decide (v (Obj.paLaneBiasHint n) < v (Obj.paLaneBiasCode n))
       || (on n && v (Obj.paLaneBiasCode n) == 0)⟩,
     ⟨0x35, of [1, 3, 4] n, on n && laneNums.any (fun m => decide (n ≠ m) && on m
       && v (Obj.paLanePmbAddress n) == v (Obj.paLanePmbAddress m) && v (Obj.paLanePmbPage n) == v (Obj.paLanePmbPage m))⟩])
  ++ [⟨0x33, fun k => k == Obj.droopCollapse || k == Obj.droopFloor || k == Obj.droopOnset,
     decide (v Obj.droopFloor ≤ v Obj.droopCollapse ∨ v Obj.droopOnset ≤ v Obj.droopFloor)⟩,
   ⟨0x34, fun k => k == Obj.thermalLaneStop || k == Obj.thermalLaneRestart || k == Obj.thermalDerateStart,
     decide (afterI v Obj.thermalLaneStop ≤ afterI v Obj.thermalLaneRestart
       ∨ afterI v Obj.thermalLaneStop ≤ afterI v Obj.thermalDerateStart)⟩,
   ⟨0x36, fun k => any [1, 0x0B] k || k == Obj.paBudgetCap,
     laneNums.any on && decide (v Obj.paBudgetCap ≤ quiescent)⟩]

/-- The reflectometry checks (Table 14-5); the stop window is compared in ps × v. -/
def tdrChecks (v : Nat → Nat) : List Check :=
  let pts := tablePoints (leBytes 32 (v Obj.tdrHeightMap)) 8 true
  let vel := v Obj.tdrVelocityFactor * 299792458
  let window := (v Obj.tdrOffset + 2000) * vel + 20000000000000 * v Obj.tdrLineLength
  [⟨0x50, fun k => k == Obj.tdrHeightMap || k == Obj.tdrEnable,
     !(pts.map (fun x => x.1)).Pairwise (fun a b => a < b) || (v Obj.tdrEnable == 1 && decide (pts.length < 2))⟩,
   ⟨0x51, fun k => k == Obj.tdrOffset || k == Obj.tdrLineLength || k == Obj.tdrVelocityFactor || k == Obj.tdrLaunchGap,
     decide (500000 * v Obj.tdrLaunchGap * vel < window)⟩,
   ⟨0x52, fun k => k == Obj.tdrMinValid || k == Obj.tdrLaunches, decide (v Obj.tdrLaunches < v Obj.tdrMinValid)⟩,
   ⟨0x53, fun k => k == Obj.tdrBlank || k == Obj.tdrOffset || k == Obj.tdrLineLength || k == Obj.tdrVelocityFactor,
     decide (v Obj.tdrBlank < 2000 ∨ window ≤ v Obj.tdrBlank * vel)⟩,
   ⟨0x54, fun k => k == Obj.tdrLaunches || k == Obj.tdrLaunchGap || k == Obj.tdrPeriod,
     decide (1000 * v Obj.tdrPeriod < v Obj.tdrLaunches * v Obj.tdrLaunchGap)⟩]

/-- The input, entry time in µs and gain code of an HK-B entry. -/
def hkbField (w : Nat) : Nat × Nat × Nat := (w % 256, 16 * 2 ^ (w / 256 % 256), w / 65536 % 256)

/-- The longest gap in µs between the starts of entries of one input, counted cyclically; none without such an entry. -/
def hkbGap (es : List (Nat × Nat × Nat)) (input : Nat) : Option Nat :=
  let total := es.foldl (fun a e => a + e.2.1) 0
  let starts := (List.range es.length).filterMap (fun i =>
    if (es.getD i (0, 0, 0)).1 = input then some ((es.take i).foldl (fun a e => a + e.2.1) 0) else none)
  match starts with
  | [] => none
  | t :: rest =>
    let ends := rest ++ [t + total]
    some ((List.zipWith (fun a b => b - a) (t :: rest) ends).foldl max 0)

/-- The housekeeping and lid checks (Table 15-10). -/
def hkChecks (v : Nat → Nat) : List Check :=
  let count := v Obj.hkBEntryCount
  let es := (List.range count).map (fun i => hkbField (v (Obj.hkBEntry i)))
  let gapBad := fun i => match hkbGap es i with
    | none => true
    | some g => decide (1000 < g)
  let hkb := fun k => k == Obj.hkBEntryCount || decide (k / 256 = 0x2120)
  (slots.map (fun n => (⟨0x60, fun k => k == Obj.hkAEntry n,
      decide (1200 * v (Obj.railSlotSenseRatio n)
        < 1000 * v (Obj.railSlotOvThreshold n) * 2 ^ (v (Obj.hkAEntry n) / 256 % 256))⟩ : Check)))
    ++ (List.range count).flatMap (fun i =>
        let e := hkbField (v (Obj.hkBEntry i))
        let own := fun k => k == Obj.hkBEntryCount || k == Obj.hkBEntry i
        [(⟨0x62, own, decide (3 ≤ e.1 ∧ e.1 ≤ 6 ∧ e.2.2 ≠ 0)⟩ : Check), ⟨0x63, own, decide (13 ≤ e.1)⟩])
    ++ [⟨0x61, hkb, gapBad 0 || gapBad 1⟩,
        ⟨0x68, fun k => k == Obj.lidReleaseDelta || k == Obj.lidTouchDelta,
          decide (v Obj.lidTouchDelta ≤ v Obj.lidReleaseDelta)⟩,
        ⟨0x69, fun k => k == Obj.lidTouchTime || k == Obj.lidCoverTime,
          decide (1000 * v Obj.lidCoverTime ≤ v Obj.lidTouchTime)⟩]

/-- The twin checks (Table 17-9). -/
def State.twinChecks (s : State) (v : Nat → Nat) : List Check :=
  let on := v Obj.twinEnable == 1
  let serial := v Obj.twinPartnerSerial
  [⟨0x80, fun k => k == Obj.twinEnable || k == Obj.twinPartnerSerial,
     on && (serial == 0 || serial == s.get Obj.identitySerialNumber)⟩,
   ⟨0x81, fun k => k == Obj.twinEnable, on && !s.hasEntry pairEntry⟩,
   ⟨0x82, fun k => k == Obj.twinEnable || k == Obj.tdrSharedLine, v Obj.tdrSharedLine == 1 && !on⟩]

/-- Every check of these chapters. -/
def State.rfChecks (s : State) (es : List (Nat × Nat)) : List Check :=
  let v := s.after es
  pathNums.flatMap (s.pathChecks v) ++ pathNums.map (targetCheck v) ++ planChecks v ++ laneChecks v ++ tdrChecks v
    ++ hkChecks v ++ s.twinChecks v

/-! ## Preconditions -/

/-- A lane's unmuted path (R472). -/
def State.laneUnmuted (s : State) (n : Nat) : Bool :=
  pathNums.any (fun p => (s.get (Obj.paLanePathMask n)).testBit p && s.unmuted p)

/-- R349, R350: a change of pair mode. -/
def State.pairModeCheck (s : State) (d : Dir) : Option Abort :=
  if (s.pathsOf d).any (fun p => !s.pathMuted p) then some (conflict 3 0x01)
  else if (pairConverters d).any (fun c => s.get (Obj.adcCalStatus c) == 1) then some (conflict 3 0x02)
  else if s.get Obj.clockSamplePllLocked = 0 then some (conflict 3 0x03)
  else none

/-- R655: a write of Twin.Handover. -/
def State.handoverCheck (s : State) : Option Abort :=
  if s.get Obj.twinRole = 0 then some (conflict 5 0)
  else if s.get Obj.twinRole = 2 then some (conflict 5 2)
  else if s.get Obj.twinLinkState ≠ 2 then some (conflict 3 0x14)
  else if s.twin.peerReady ≠ 0xFF then some (conflict 3 0x15)
  else none

/-- The preconditions of these chapters (R349, R350, R387, R428, R472, R547, R579, R655). -/
def State.rfPrecondition (s : State) (k : Nat) : Option Abort :=
  let lid := s.get Obj.lidState
  if k = Obj.converterPairModeUL then s.pairModeCheck .ul
  else if k = Obj.converterPairModeDL then s.pairModeCheck .dl
  else if k = Obj.converterSyncNow then
    if s.get Obj.clockSamplePllLocked = 0 then some (conflict 3 0x03) else none
  else if k / 256 = 0x3011 ∨ k = Obj.frontEndSeqInit ∨ k = Obj.frontEndSeqRetuneUL ∨ k = Obj.frontEndSeqRetuneDL then
    if s.seqPlaying then some (conflict 3 0x05) else none
  else if k = Obj.frontEndRunInit then
    if s.seqPlaying then some (conflict 3 0x05)
    else if pathNums.any (fun p => !s.pathMuted p) then some (conflict 3 0x04)
    else none
  else if k = Obj.netClearLockout then if s.get Obj.netState ≠ 3 then some (conflict 3 0x06) else none
  else if 0x4010 ≤ k / 256 ∧ k / 256 < 0x4014 ∧ [2, 3, 4, 6].contains (k % 256) then
    if s.laneUnmuted (k / 256 - 0x4010) then some (conflict 3 0x08) else none
  else if k = Obj.sealClear then
    if !s.pins.sealN then some (conflict 3 0x09)
    else if !(s.pa.breach && s.get Obj.sealMode == 1) then some (conflict 3 0x0A)
    else none
  else if k = Obj.tiuArm then
    if [1, 2, 3].contains (s.get Obj.tiuState) then some (conflict 3 0x0E) else none
  else if [Obj.tiuMode, Obj.tiuStartSource, Obj.tiuStopSource, Obj.tiuPinEdge, Obj.tiuBeaconPath].contains k then
    if [1, 2, 3].contains (s.get Obj.tiuState) then some (conflict 3 0x0F) else none
  else if k = Obj.tiuCancel then
    if [1, 2, 3].contains (s.get Obj.tiuState) then none else some (conflict 3 0x10)
  else if k = Obj.lidRebaseline then
    if lid = 1 ∨ lid = 3 ∨ lid = 4 then some (conflict 3 0x11) else none
  else if k = Obj.twinHandover then s.handoverCheck
  else if k = Obj.twinEnable then
    if s.get Obj.twinRole = 1 && pathNums.any s.unmuted then some (conflict 5 1) else none
  else none

end Sys2Proof.Machine
end

