-- ==== Sys2Proof/Machine/Hooks.lean ====
section
/-!
DEFINITION. What the owning cores add to a commit: every safety check, every precondition, the classes of R173, the
direction of an entry that acts on a band path (R175), and what an entry does when it takes effect.
-/

namespace Sys2Proof.Machine

open Sys2Proof

/-- Every safety check over a commit (R169 step 2). -/
def State.allChecks (s : State) (es : List (Nat × Nat)) : List Check :=
  s.fieldChecks es ++ s.railChecks es ++ s.caskChecks es ++ s.rfChecks es

/-- Step 11 of Table 5-4. -/
def State.precondition (s : State) (k v : Nat) : Option Abort :=
  match s.basePrecondition k v with
  | some a => some a
  | none => s.rfPrecondition k

/-! ## Classes (R173, R370, R415, R471, R514) -/

/-- A limit that grows with the value: Reduce for a decrease, Raise for an increase. -/
def growing (old new : Int) : EntryClass := if new < old then .reduce else if old < new then .raise else .move

/-- The heights of two schedules, in order. -/
def heightsOf (a b : List (Int × Int)) : List Int := (a ++ b).map (fun p => p.1)

/-- The class of a schedule change (Table 11-1): evaluated at every point of both, a schedule with nothing higher is a
Reduce; one with any point higher is a Raise (log entry 21). -/
def scheduleClass (old new : List (Int × Int)) : EntryClass :=
  if old == new then .move
  else
    match old, new with
    | [], _ => .reduce
    | _, [] => .raise
    | _, _ =>
      if (heightsOf old new).any (fun h => decide ((interpolate old h).getD 0 < (interpolate new h).getD 0)) then .raise
      else .reduce

/-- The class of an entry of the 0x3100 to 0x3200 ranges (Table 11-1). -/
def rfClass (k : Nat) (old new : Int) : EntryClass :=
  let ix := k / 256
  let sub := k % 256
  if 0x3110 ≤ ix ∧ ix < 0x3120 then
    if sub = 1 ∨ sub = 4 then growing old new
    else if sub = 2 then growing new old
    else if sub = 3 then (if old = new then .move else .raise)
    else .move
  else if ix = 0x3100 then
    if sub = 1 ∨ sub = 2 ∨ sub = 5 ∨ sub = 6 then growing new old else .move
  else if k = Obj.netCollapseMargin then growing new old
  else if k = Obj.netUlNoiseLimit ∨ k = Obj.netMaxOutput 0 ∨ k = Obj.netMaxOutput 1 then growing old new
  else .move

/-- The class of an entry of the 0x4000 to 0x41FF ranges (R471). -/
def paClass (k : Nat) (old new : Int) : EntryClass :=
  let ix := k / 256
  let sub := k % 256
  if k = Obj.paBudgetCap then growing old new
  else if 0x4010 ≤ ix ∧ ix < 0x4014 ∧ (sub = 1 ∨ sub = 8 ∨ sub = 9) then growing old new
  else if k = Obj.droopBackoff ∨ k = Obj.thermalDerateSlope then growing new old
  else if k = Obj.thermalDerateStart ∨ k = Obj.thermalLaneStop then growing old new
  else .move

/-- A value as the integer its type gives. -/
def intOf (k v : Nat) : Int :=
  match objOf k with
  | some d => if d.ty.signed then toSigned d.size v else v
  | none => v

/-- The class of an entry (R173). -/
def State.classify (s : State) (k v : Nat) : EntryClass :=
  let old := intOf k (s.get k)
  let new := intOf k v
  if 0x521000 ≤ k ∧ k < 0x521400 ∧ k % 256 = 0x0D then
    if v = 0 then .reduce else if s.get k = v then .move else .raise
  else if 0x3000 ≤ k / 256 ∧ k / 256 < 0x3010 then
    if k % 256 = 1 ∧ v = 0 ∧ s.get k = 1 then .reduce else .move
  else if 0x3110 ≤ k / 256 ∧ k / 256 < 0x3120 ∧ k % 256 = 5 then
    scheduleClass (tablePoints (leBytes 64 (s.get k)) 16 false) (tablePoints (leBytes 64 v) 16 false)
  else if 0x31 ≤ k / 65536 ∧ k / 65536 ≤ 0x32 then rfClass k old new
  else if 0x40 ≤ k / 65536 ∧ k / 65536 ≤ 0x41 then paClass k old new
  else .move

/-! ## Directions (R175) -/

/-- The path of a per-path object of chapters 09 to 11. -/
def pathOfKey (k : Nat) : Option Nat :=
  let ix := k / 256
  if 0x3000 ≤ ix ∧ ix < 0x3010 then some (ix - 0x3000)
  else if 0x2210 ≤ ix ∧ ix < 0x2220 then some (ix - 0x2210)
  else if 0x3110 ≤ ix ∧ ix < 0x3120 then some (ix - 0x3110)
  else none

/-- The direction whose paths an entry acts on, with Band.Direction as the commit leaves it. -/
def pathDir (v : Nat → Nat) (k : Nat) : Option Dir :=
  match pathOfKey k with
  | some p => some (if v (Obj.bandDirection p) = 0 then .ul else .dl)
  | none =>
    if [Obj.frontEndLoInUL, Obj.frontEndLoOutUL, Obj.frontEndAttenUL, Obj.stabChainGain 0, Obj.stabOutputRef 0,
        Obj.stabAtten 0, Obj.netMaxOutput 0, Obj.netUlNoiseLimit, Obj.converterPairModeUL].contains k then some .ul
    else if [Obj.frontEndLoInDL, Obj.frontEndLoOutDL, Obj.frontEndAttenDL, Obj.stabChainGain 1, Obj.stabOutputRef 1,
        Obj.stabAtten 1, Obj.netMaxOutput 1, Obj.converterPairModeDL].contains k then some .dl
    else none

/-- The local oscillators of a direction (R378). -/
def isLo (d : Dir) (k : Nat) : Bool :=
  match d with
  | .ul => k == Obj.frontEndLoInUL || k == Obj.frontEndLoOutUL
  | .dl => k == Obj.frontEndLoInDL || k == Obj.frontEndLoOutDL

/-- The re-check before a Raise entry that acts on no band path (R173, R471, R514): every enabled slot good for a margin
command; an arbitration (`arb`) at which every running lane has a valid READ_POUT for a PA entry; an arbitration for the
others. -/
def State.recheckPasses (s : State) (k : Nat) (arb : Bool) : Bool :=
  if 0x521000 ≤ k ∧ k < 0x521400 then
    slots.all (fun n => s.get (Obj.railSlotEnable n) == 0 || s.get (Obj.railSlotState n) == 5)
  else arb && laneNums.all (fun n => !(s.get (Obj.paLaneState n) == 3)
    || ((s.lane n).poutAt.isSome && !(s.lane n).pmbFault))

/-- The trellis objects that wait for the next start (R517). -/
def waitsForStart (k : Nat) : Bool :=
  (decide (k / 4096 = 0x500) && [1, 3, 4, 5, 7, 0x0A].contains (k % 256))
    || (decide (k / 256 = 0x5100) && [2, 3, 4, 5].contains (k % 256))

/-- The trellis value in force at this start (R517). -/
def State.trellis (s : State) (k : Nat) : Nat :=
  match s.rail.held.find? (fun p => p.1 == k) with
  | some p => p.2
  | none => s.get k

/-- The code a margin channel drives at each command (R511). -/
def State.marginGoal (s : State) (m cmd : Nat) : Nat :=
  if cmd = 1 then s.get (Obj.marginDacHigh m) else if cmd = 2 then s.get (Obj.marginDacLow m)
  else s.get (Obj.marginDacNeutral m)

/-- A margin move begun (R510, R511, Table 13-2). -/
def State.startMargin (s : State) (m cmd : Nat) : State :=
  let rest := s.margin.filter (fun r => !(r.ch == m))
  let s := s.set (Obj.marginState m) 1
  if s.get (Obj.marginMethod m) = 1 then
    let now := match s.margin.find? (fun r => r.ch == m) with
      | some r => r.code
      | none => if lookupD s.pins.mrg m 0 = 0 then s.get (Obj.marginDacNeutral m) else lookupD s.pins.mrg m 0 - 1
    let s := { s with margin := ⟨m, cmd, now, [], 0⟩ :: rest, pins.mrg := putKey s.pins.mrg m (now + 1) 0 }
    s.arm (.marginStep m) 10
  else
    let page := if s.get (Obj.marginPmbPage m) = 0xFF then [] else [0x00]
    let steps := page ++ (if cmd = 1 then [0x25, 0xA8] else if cmd = 2 then [0x26, 0x98] else [0x80])
    { s with margin := ⟨m, cmd, 0, steps, 0⟩ :: rest }

/-- A port's state object. -/
def State.portState (s : State) (p : Port) : Nat := s.get (Obj.portState (portNum p))

/-- Restricted operation begun (R203): its instant, its count and its 10 ms. -/
def State.enterRestricted (s : State) : State :=
  if s.field.portA.restrictedAt.isSome then s
  else
    let s := { s with field.portA.restrictedAt := some s.now, field.portB.restrictedAt := some s.now }
    let s := ((s.disarm (.busOffWait .a)).disarm (.busOffWait .b)).bump Obj.fieldRestrictedCount 1
    s.arm .restricted 10000

/-- A port's transceiver set: CAN_x_STB high is standby (Table 6-1). -/
def State.setStb (s : State) (p : Port) (b : Bool) : State :=
  match p with
  | .a => { s with pins.canStbA := b }
  | .b => { s with pins.canStbB := b }

/-- A port (re)joins: transceiver on, integrating, or disabled when Field.PortEnable says so; restricted while the
Vintner clock runs from INT48 (R203, R248, R249). -/
def State.joinPort (s : State) (p : Port) : State :=
  if !s.portOn p then
    (((((s.disarm (.busOffHoldoff p)).disarm (.stuckRejoin p)).disarm (.busOffWait p)).disarm (.heartbeat p)).set
      (Obj.portState (portNum p)) 0).setStb p true
  else if s.armed (.busOffHoldoff p) ∨ s.armed (.stuckRejoin p) then s
  else if s.get Obj.clockCoreSource = 0 then ((s.enterRestricted).set (Obj.portState (portNum p)) 6).setStb p false
  else (s.set (Obj.portState (portNum p)) 2).setStb p false

/-- A port in transceiver standby: it takes no part in the bus (Tables 6-16 and 6-21). -/
def State.portStandby (s : State) (p : Port) : State :=
  ((s.set (Obj.portState (portNum p)) (if s.portOn p then 1 else 0)).setStb p true).disarm (.heartbeat p)

/-- Restricted operation over (R253): one that lasted more than 10 ms is recorded with its duration in µs. -/
def State.noteRestricted (s : State) : State :=
  let since := s.field.portA.restrictedAt
  let s := { s with field.portA.restrictedAt := none, field.portB.restrictedAt := none }
  let s := s.disarm .restricted
  match since with
  | some t => if t + 10000 < s.now then s.log .vintner 0x0B09 1 31 (leBytes 4 (satBytes 4 (s.now - t))) else s
  | none => s

/-- Restricted operation ended (R203, R253): the ports rejoin. -/
def State.leaveRestricted (s : State) : State :=
  let s := s.noteRestricted
  [Port.a, Port.b].foldl (fun s p => if s.portState p = 6 then s.joinPort p else s) s

/-- A Heartbeat due within 10 ms (R229, R237). -/
def State.heartbeatSoon (s : State) : State :=
  [Port.a, Port.b].foldl (fun s p => if s.portOn p ∧ s.field.effective ≠ 0xFFFF then s.arm (.heartbeat p) 10000 else s) s

/-! ## Effects -/

/-- The paths of a direction that are unmuted. -/
def State.unmutedOf (s : State) (d : Dir) : List Nat := (s.pathsOf d).filter s.unmuted

/-- The applied gain of a path set, within the gain stage's range. -/
def State.putApplied (s : State) (p : Nat) (g : Int) : State := s.setI (Obj.stabApplied p) (s.clampGain p g)

/-- The pilot limit of a path shifted (R399): its isolation estimate or its margin has a new declared part. -/
def State.shiftPilot (s : State) (p : Nat) (by_ : Int) : State :=
  s.setPath p { s.path p with pilotLimit := (s.path p).pilotLimit.map (fun l => l + by_) }

/-- Stab.ChainGain changed (R392, R397): the declared figures of the direction's paths move with it. -/
def State.chainChanged (s : State) (d : Dir) (by_ : Int) : State :=
  let s := (s.unmutedOf d).foldl (fun (s : State) p => s.putApplied p (s.getI (Obj.stabApplied p) + by_)) s
  (s.pathsOf d).foldl (fun (s : State) p => s.shiftPilot p by_) s

/-- Stab.Atten changed by `by_` × 0.01 dB (R407): an increase lowers the total gain at once; a decrease leaves it, the
gain stage having taken it up first. The attenuator is set, and the paths settle (Table 9-5). -/
def State.attenChanged (s : State) (d : Dir) (by_ : Int) : State :=
  let down := max by_ 0
  let s := (s.unmutedOf d).foldl (fun (s : State) p => s.putApplied p (s.getI (Obj.stabApplied p) - down)) s
  (s.sendAtten d).settleAll (s.liveOf d)

/-- What a changed path object does (R328, R370, R381, R399). -/
def State.pathEffect (s : State) (p k old new : Nat) : State :=
  let sub := k % 256
  if old = new then s
  else if 0x3000 ≤ k / 256 ∧ k / 256 < 0x3010 then
    if sub = 1 then (if new = 0 then s.mutePath p else s)
    else if sub = 3 ∨ sub = 9 ∨ sub = 0x0A ∨ sub = 0x0B ∨ sub = 0x0C then s.startSettle p
    else s
  else if k = Obj.stabMargin p then s.shiftPilot p ((old : Int) - new)
  else if k = Obj.stabSchedule p then s.setPath p { s.path p with schedCap := none }
  else s

/-- What a changed RF or PA object does, for the objects that belong to no single path. -/
def State.rfEffect (s : State) (k old new : Nat) : State :=
  let by_ : Int := intOf k new - intOf k old
  if k = Obj.hintWindow 0 then (s.judgeHint .harvest).retargetBias
  else if k = Obj.hintWindow 1 then (s.judgeHint .push).retargetBias
  else if 0x4010 ≤ k / 256 ∧ k / 256 < 0x4014 ∧ k % 256 = 1 then s.laneEnableWritten (k / 256 - 0x4010)
  else if old = new then s
  else if k = Obj.stabChainGain 0 then s.chainChanged .ul by_
  else if k = Obj.stabChainGain 1 then s.chainChanged .dl by_
  else if k = Obj.stabAtten 0 then s.attenChanged .ul (25 * by_)
  else if k = Obj.stabAtten 1 then s.attenChanged .dl (25 * by_)
  else if k = Obj.converterPairModeUL then s.settleAll (s.pathsOf .ul)
  else if k = Obj.converterPairModeDL then s.settleAll (s.pathsOf .dl)
  else if k = Obj.leEnable then s.endHold
  else if 0x4010 ≤ k / 256 ∧ k / 256 < 0x4014 ∧ (k % 256 = 2 ∨ k % 256 = 8 ∨ k % 256 = 9) then s.retargetBias
  else if k = Obj.frontEndGpioOut then { s with pins.feGpio := s.pins.feGpio &&& BitVec.ofNat 16 new }
  else if 0x2010 ≤ k / 256 ∧ k / 256 < 0x2014 ∧ k % 256 = 2 then s.refreeze (k / 256 - 0x2010)
  else if k = Obj.tdrEnable then (if new = 1 then s.scheduleBurst 1 else s.disarm .tdrPeriod)
  else if k = Obj.lidEnable then s.lidEnabled
  else s

/-- Whether the unit has withdrawn from its address (R238), which Field.NodeAddress still holds. -/
def State.withdrawn (s : State) (address : Nat) : Bool := s.field.effective == 0xFFFF && address != 0xFFFF

/-- Whether the commit in application is an Assign (R237). -/
def State.assigning (s : State) : Bool :=
  match s.eng.commit with
  | some r =>
    (match r.form with
      | .assign _ => true
      | _ => false)
  | none => false

/-- A port's engine. -/
def State.portEngine (s : State) : Port → PortEngine
  | .a => s.field.portA
  | .b => s.field.portB

/-- Whether a port is to rejoin once the reply has left (R249). -/
def State.setRejoin (s : State) (p : Port) (b : Bool) : State :=
  match p with
  | .a => { s with field.portA.rejoinDue := b }
  | .b => { s with field.portB.rejoinDue := b }

/-- A change of Field.PortEnable or Field.DataSamplePoint takes effect once no reply waits at the port (R249). -/
def State.settleJoin (s : State) (p : Port) : State :=
  if (s.portEngine p).rejoinDue && !s.q.msgs.any (fun m => [0x03 + portNum p, 0x1A + portNum p, 0x84 + portNum p].contains m.queue)
  then (s.setRejoin p false).joinPort p
  else s

/-- What an entry does as it takes effect, its old value known. -/
def State.entryEffect (s : State) (k old new : Nat) : State :=
  if waitsForStart k then
    let s := if s.rail.held.any (fun p => p.1 == k) then s else { s with rail.held := (k, old) :: s.rail.held }
    s.set Obj.railSeqPendingStart 1
  else if 0x521000 ≤ k ∧ k < 0x521400 ∧ k % 256 = 0x0D then
    if old = new then s else s.startMargin (k / 256 - 0x5210) new
  else if k = Obj.fieldNodeAddress then
    if s.withdrawn old && !s.assigning then s else ({ s with field.effective := new }).heartbeatSoon
  else if k = Obj.fieldPortEnable then
    [Port.a, Port.b].foldl (fun s p => if bitAt old (portNum p) = bitAt new (portNum p) then s else s.setRejoin p true) s
  else if k = Obj.fieldDataSamplePoint then
    [Port.a, Port.b].foldl (fun s p => if s.portOn p then s.setRejoin p true else s) s
  else
    match pathOfKey k with
    | some p => s.pathEffect p k old new
    | none => s.rfEffect k old new

/-- What the Press begins when the trellis has completed a start (R377, R452). -/
def State.onStandby (s : State) : State := ((s.runInit).resumeHint .harvest).resumeHint .push

end Sys2Proof.Machine
end

