-- ==== Sys2Proof/Machine/CommitOps.lean ====
section
/-!
DEFINITION. The commit engine (R162, R169 to R176, R193, R194, R196) and the configuration store (R156 to R158).
-/

namespace Sys2Proof.Machine

open Sys2Proof

/-! ## The configuration store -/

/-- Whether an object is a Persistent RW one, whose value a commit stores (R155, R169). -/
def isPersistentRw (k : Nat) : Bool :=
  match objOf k with
  | some d => d.acc == .rw && d.pers == .persistent
  | none => false

/-- Whether an object is RO and Persistent. -/
def isPersistentRo (k : Nat) : Bool :=
  match objOf k with
  | some d => d.acc == .ro && d.pers == .persistent
  | none => false

/-- The Persistent RO objects that count nothing and sum up nothing: reasons, states, latest events, receipts, the Cask's
registers and the guard band. R156 lets a brown-out take counting only from the others (log entry 113). -/
def heldValues : List Nat :=
  [Obj.powerStateLastReason, Obj.clockGuardBand, Obj.clockAgingGrowth, Obj.clockNextTrim, Obj.watchdogLockout,
   Obj.keysStatus, Obj.bootConfirmed, Obj.dictLastStateConflict, Obj.dictLastCommitReject, Obj.updateState,
   Obj.updateFailedCheck, Obj.fieldTimeAnchor, Obj.queueLastRefusal, Obj.netState, Obj.netLastTrigger,
   Obj.netReceiptLatest, Obj.railSeqLatchedSlot, Obj.railSeqLastStartTime, Obj.railSeqPendingStart,
   Obj.lidStoredBaseline, Obj.twinLastTakeover]

/-- Whether an object is a persistent counter or statistic (R156). -/
def isCounter (k : Nat) : Bool :=
  isPersistentRo k && !heldValues.contains k && k / 256 != 0x3210 && k / 256 != 0x7000

/-- The copy in use: the valid one with the higher generation (R158). -/
def Cfg.current (c : Cfg) : CfgCopy :=
  if c.copyA.valid && (!c.copyB.valid || decide (c.copyB.gen ≤ c.copyA.gen)) then c.copyA else c.copyB

/-- The older copy replaced by the next generation of an image (R157). -/
def Cfg.writeOlder (c : Cfg) (image : List (Nat × Nat)) : Cfg :=
  let next : CfgCopy := ⟨(c.current.gen + 1) % 2 ^ 32, true, image⟩
  if c.current = c.copyA then { c with copyB := next } else { c with copyA := next }

/-- The values in force that a copy of the image holds: every Persistent object that is set, and every count (R155,
R156). -/
def State.imageNow (s : State) : List (Nat × Nat) := s.dict.filter (fun p => isPersistentRw p.1 || isCounter p.1)

/-- An image with entries laid over it. -/
def overlay (image : List (Nat × Nat)) (es : List (Nat × Nat)) : List (Nat × Nat) :=
  es.foldl (fun m e => putKey m e.1 e.2 (objDefault e.1)) image

/-- Counters and statistics written back (R156): the image in use takes their present values. -/
def State.writeBack (s : State) : State :=
  let cur := s.cfg.current
  let image := cur.image.filter (fun p => !isCounter p.1) ++ s.dict.filter (fun p => isCounter p.1)
  if cur = s.cfg.copyA then { s with cfg.copyA.image := image } else { s with cfg.copyB.image := image }

/-! ## Requests discarded (R194, R305) -/

/-- The intake queue of a request (Tables 6-8 and 8-2). -/
def intakeQueue (via : Via) (svc : Nat) : Nat :=
  let p := match via with
    | .portA => 0
    | .portB => 1
    | .host => 2
  if svc = 5 ∨ svc = 6 then p else if svc = 9 ∨ svc = 10 then 0x18 + p else 0x48 + p

/-- What stands in the intake queue for a held request. -/
def Held.mark (h : Held) : Msg := .raw (leBytes 2 h.caller.dest.peer ++ [byteOf h.caller.dest.tid])

/-- A held request's message taken out of its intake queue. -/
def State.unqueue (s : State) (h : Held) : State :=
  let q := intakeQueue h.caller.dest.via h.caller.dest.svc
  match s.q.msgs.find? (fun m => m.queue == q && m.body == h.mark) with
  | some m => ({ s with q.msgs := s.q.msgs.erase m }).placeWaiting q
  | none => s

/-- The delayed segments on their way with no reply wanted by those that `own` names, and their number; an accepted
segment that was not delayed is still answered (R139). -/
def State.muteSegments (s : State) (own : Caller → Bool) : Nat × State :=
  let hit := fun (x : Seg) => x.answered && x.caller.any own
  ((s.upd.segments.filter hit).length,
    { s with upd.segments := s.upd.segments.map (fun x => if hit x then { x with caller := none } else x) })

/-- A commit in application with no reply wanted by a requester that `own` names, and 1 if it was delayed. -/
def State.muteCommit (s : State) (own : Caller → Bool) : Nat × State :=
  match s.eng.commit with
  | some r =>
    if own r.caller && r.answered && r.form != .none then (1, { s with eng.commit := some { r with form := .none } })
    else (0, s)
  | none => (0, s)

/-- The requests that `own` and `mine` name discarded without a final reply; the delayed ones count (R305). -/
def State.discardRequests (s : State) (own : Caller → Bool) (mine : Held → Bool) : State :=
  let gone := s.eng.held.filter mine
  let n := (if s.eng.waiting.any (fun h => own h.caller) then 1 else 0)
    + (s.eng.deferredPower.filter (fun h => own h.caller)).length + (gone.filter (fun h => h.answered)).length
  let byHost := fun (c : Caller) => own c && c.dest.via == .host
  let lost := s.eng.waiting.any (fun h => byHost h.caller) || s.eng.deferredPower.any (fun h => byHost h.caller)
    || gone.any (fun h => h.caller.dest.via == .host && h.answered)
    || s.upd.segments.any (fun x => x.answered && x.caller.any byHost)
    || s.eng.commit.any (fun r => r.answered && byHost r.caller)
  let s := if lost then { s with hp.outstanding := false } else s
  let s := gone.foldl State.unqueue s
  let s := { s with eng := { s.eng with
    waiting := s.eng.waiting.filter (fun h => !own h.caller)
    deferredPower := s.eng.deferredPower.filter (fun h => !own h.caller)
    held := s.eng.held.filter (fun h => !mine h) } }
  let a := s.muteSegments own
  let b := a.2.muteCommit own
  b.2.bump Obj.queueDeferDiscardCount (n + a.1 + b.1)

/-- HOLDUP and DORMANT discard every request that waits (R194, R305); a commit past its commit point completes its
configuration write. -/
def State.discardWaiting (s : State) : State := s.discardRequests (fun _ => true) (fun _ => true)

/-! ## Sessions and debug ended (R134, R140, R141, R668) -/

/-- The watchdog timeout of a core in µs. -/
def State.watchdogTime (s : State) : CoreId → Nat
  | .press => 1000 * s.get Obj.watchdogPressTimeout
  | .vintner => 1000 * s.get Obj.watchdogVintnerTimeout
  | .cork => 1000 * s.get Obj.watchdogCorkTimeout

/-- The debug session ended; cores halted by it resume unless a transition holds them (R668). -/
def State.endDebug (s : State) (hold : Bool) : State :=
  if s.get Obj.debugLevel = 0 ∧ s.sec.debugOwner.isNone ∧ s.sec.halted.isEmpty then s
  else
    let s := ((s.set Obj.debugLevel 0).disarm .debugEnd)
    if hold then { s with sec.debugOwner := none }
    else
      let s := s.sec.halted.foldl (fun (s : State) c => s.arm (.watchdog c) (s.watchdogTime c)) s
      { s with sec.debugOwner := none, sec.halted := [] }

/-- A session ended: its stage is discarded, its waiting requests fall (R305), and a debug session it owns ends. -/
def State.endSession (s : State) (slot : Nat) : State :=
  let who : StageId := .session (Fin.ofNat 8 slot)
  let s := (s.setStage who []).disarm (.stage who)
  let gone : List Session := s.sec.sessions.filter (fun x => x.slot == slot && x.isOpen)
  let s := s.discardRequests (fun c => c.slot == some (Fin.ofNat 8 slot))
    (fun h => h.answered && gone.any (fun (x : Session) => h.claimed == some x.sid))
  let s : State := { s with sec := { s.sec with
    sessions := s.sec.sessions.filter (fun (x : Session) => !(x.slot == slot))
    ended := s.sec.ended ++ gone.map (fun (x : Session) => x.sid)
    closing := s.sec.closing ++ gone.map (fun (x : Session) => (x.sid, x.key, x.ctrOut)) } }
  let s := ((s.disarm (.sessionIdle slot)).disarm (.sessionLife slot)).disarm (.handshake slot)
  if s.sec.debugOwner = some slot then s.endDebug false else s

/-- Sessions whose Counter has reached 0xFFFF_FFFF in either direction end with the group that carried it (R139). -/
def State.endSpent (s : State) : State :=
  (s.sec.sessions.filter (fun x => x.isOpen && (decide (4294967295 ≤ x.ctrIn) || decide (4294967295 ≤ x.ctrOut)))).foldl
    (fun (s : State) x => s.endSession x.slot) s

/-- Every session ended, with the Cork's registers gone or about to go (R141). -/
def State.endSessions (s : State) : State :=
  let s := (s.sec.sessions.map (fun x => x.slot)).foldl State.endSession s
  { s with sec.closing := [] }

/-! ## The engine -/

/-- An entry in force: its register takes the value and its effect follows. -/
def State.applyEntry (s : State) (e : CEntry) : State :=
  let old := s.get e.key
  (s.set e.key e.value).entryEffect e.key old e.value

/-- Whether a margin command's or a lane's bias is still on its way (R439, R451, R510, R511). -/
def State.keySettles (s : State) (k : Nat) : Bool :=
  let lane := k / 256 - 0x4010
  if 0x521000 ≤ k ∧ k < 0x521400 then s.margin.any (fun x => x.ch == k / 256 - 0x5210)
  else if 0x401000 ≤ k ∧ k < 0x401400 ∧ (k % 256 = 8 ∨ k % 256 = 9) then
    (s.get (Obj.paLaneState lane) == 2 || s.get (Obj.paLaneState lane) == 3) && s.biasNow lane != (s.lane lane).biasGoal
  else false

/-- Those entries that wait and that `p` names, applied; the bias and the margins they move are followed. -/
def State.applyWhere (s : State) (r : CommitRun) (p : CEntry → Bool) : State × CommitRun :=
  let now := r.waiting.filter p
  (now.foldl State.applyEntry s,
    { r with waiting := r.waiting.filter (fun e => !p e), settling := r.settling ++ now.map (fun e => e.key) })

/-- The final reply of a commit (Tables 6-9, 6-13, 6-15). -/
def State.commitReply (s : State) (r : CommitRun) : State :=
  let c := { r.caller with deferred := r.caller.deferred || r.answered }
  match r.form with
  | .write i sub => s.done c i sub
  | .commit => s.answer c ([0x00#8, 0x00#8] ++ leBytes 4 (s.get Obj.dictCommitGeneration) ++ [byteOf r.total, 0x00#8])
  | .assign a => s.answer c ([0x00#8, 0x00#8, 0x02#8, 0x00#8] ++ leBytes 2 a)
  | .bridge sub => s.answer c [0x00#8, 0x00#8, byteOf sub, 0x00#8]
  | .none => s

/-- The address bytes of the request that a commit answers. -/
def ReplyForm.request : ReplyForm → Bytes
  | .write i sub => leBytes 2 i ++ [byteOf sub]
  | .assign a => [0x02#8, 0x00#8] ++ leBytes 2 a
  | .bridge sub => [byteOf sub]
  | .commit => []
  | .none => []

/-- What a commit took from its stage leaves it; a value staged since then stays (R164, R170). -/
def State.clearStage (s : State) (r : CommitRun) : State :=
  match r.fromStage with
  | some w =>
    let rest := (s.stageOf w).filter (fun e => !r.staged.contains e)
    let s := s.setStage w rest
    if rest.isEmpty then s.disarm (.stage w) else s
  | none => s

/-- A commit complete: the generation rises, its stage empties, the engine is idle, the reply goes out (R170, R172),
and a session whose Counter that reply has used up ends (R139). What a port does on a change of its own enables follows
the reply (R249). -/
def State.finishCommit (s : State) (r : CommitRun) : State :=
  let s := (s.bump Obj.dictCommitGeneration 1).set Obj.dictCommitState 0
  let s := ({ s with eng.commit := none }).clearStage r
  let s := (((s.disarm .commitDefer).disarm (.recheck .ul)).disarm (.recheck .dl)).commitReply r
  ((s.endSpent).settleJoin .a).settleJoin .b

/-- The phase reached by what still waits (Dict.CommitState): 1 journal, 2 Reduce, 3 Move, 4 re-check, 5 Raise. -/
def CommitRun.phase (r : CommitRun) : Nat :=
  if !r.journalled then 1
  else if r.waiting.any (fun e => e.cls == .reduce) || !r.falling.isEmpty then 2
  else if r.waiting.any (fun e => e.cls == .move) then 3
  else if !r.waiting.isEmpty then 4
  else 5

/-- Whether a path still rises to a Raise entry's target (R176, Table 5-5). -/
def State.risesStill (s : State) (p : Nat) : Bool :=
  s.unmuted p && decide ((s.gainNow p).1 < (s.path p).computed) && !s.heldDir .ul && !s.heldDir .dl

/-- Whether a path still falls to a Reduce entry's target (R173, R174, Table 5-5). -/
def State.fallsStill (s : State) (p : Nat) : Bool :=
  s.unmuted p && decide ((s.path p).computed < (s.gainNow p).1)

/-- What a commit still waits for besides its entries, as it stands now: gains that fall or rise, biases and margins. -/
def State.refreshRun (s : State) (r : CommitRun) : CommitRun :=
  { r with rising := r.rising.filter s.risesStill, falling := r.falling.filter s.fallsStill,
           settling := r.settling.filter s.keySettles }

/-- The commit completes once every entry is in force: none waits, and no gain, bias or margin still moves to its target
(R172, R176). -/
def State.tryFinish (s : State) : State :=
  match s.eng.commit with
  | none => s
  | some r =>
    let r := s.refreshRun r
    if r.journalled && r.waiting.isEmpty && r.rising.isEmpty && r.falling.isEmpty && r.settling.isEmpty then
      s.finishCommit r
    else ({ s with eng.commit := some r }).set Obj.dictCommitState r.phase

/-- Entries that do not act on a band path (R175). -/
def offPath (e : CEntry) : Bool := e.dir.isNone

/-- Every entry that waits applied at once, Reduce, Move, Raise, and the commit complete (R193). -/
def State.applyAll (s : State) (r : CommitRun) : State :=
  let a := s.applyWhere r (fun e => e.cls == .reduce)
  let b := a.1.applyWhere a.2 (fun e => e.cls == .move)
  let c := b.1.applyWhere b.2 (fun _ => true)
  c.1.finishCommit c.2

/-- Whether every Reduce entry of a commit is in force: none waits, and nothing moves any more. -/
def CommitRun.reduced (r : CommitRun) : Bool :=
  !r.waiting.any (fun e => e.cls == .reduce) && r.falling.isEmpty && r.settling.isEmpty

/-- The entries that act on no band path go on (R173, R175): Reduce; Move once every Reduce entry is in force; Raise, each
re-checked, once nothing else waits. `arb` says that an arbitration has just been made; the one that re-checks is the
next after the Move entries (R471). -/
def State.advanceCommit (s : State) (arb : Bool) : State :=
  match s.eng.commit with
  | none => s
  | some r =>
    if !r.journalled then s
    else if r.preempted then s.applyAll r
    else
      let late := arb && r.waiting.all (fun e => e.cls == .raise)
      let a := s.applyWhere r (fun e => offPath e && e.cls == .reduce)
      let r := a.1.refreshRun a.2
      let b := if r.reduced then a.1.applyWhere r (fun e => offPath e && e.cls == .move) else (a.1, r)
      let c := if b.2.waiting.all (fun e => e.cls == .raise) && b.2.reduced then
          b.1.applyWhere b.2 (fun e => offPath e && b.1.recheckPasses e.key late)
        else b
      ({ c.1 with eng.commit := some c.2 }).tryFinish

/-- The held gains of a direction (R416). -/
def State.setHeld (s : State) (d : Dir) (b : Bool) : State :=
  match d with
  | .ul => { s with loops.ulHeld := b }
  | .dl => { s with loops.dlHeld := b }

/-- The paths whose gains rise to an entry. -/
def State.raisedBy (s : State) (d : Dir) (e : CEntry) : List Nat :=
  match pathOfKey e.key with
  | some p => [p, s.partnerOf p]
  | none => s.pathsOf d

/-- The Raise entries of a direction set as targets (R176, R416). -/
def State.raiseDir (s : State) (d : Dir) (held : Bool) : State :=
  match s.eng.commit with
  | none => s
  | some r =>
    let mine := fun (e : CEntry) => e.dir == some d && e.cls == .raise
    let up := (r.waiting.filter mine).flatMap (s.raisedBy d)
    let a := s.applyWhere r mine
    let r := if held then a.2 else { a.2 with rising := a.2.rising ++ up }
    ({ a.1 with eng.commit := some r }).disarm (.recheck d)

/-- The Move entries of a direction applied (R173, R378); the re-check of its Raise entries is then awaited (R416). -/
def State.moveDir (s : State) (d : Dir) : State :=
  match s.eng.commit with
  | none => s
  | some r =>
    if !r.journalled then s
    else
      let a := s.applyWhere r (fun e => e.dir == some d && e.cls == .move)
      let s : State := { a.1 with eng.commit := some a.2 }
      if a.2.waiting.any (fun e => e.dir == some d) then s.arm (.recheck d) (1000 * s.get Obj.stabRecheckTimeout) else s

/-- Whether an entry concerns one of the licence-exempt pair (R388). -/
def State.entryIsLe (s : State) (e : CEntry) : Bool :=
  match pathOfKey e.key with
  | some p => s.isLe p
  | none => false

/-- A mixed schedule entry, some points lower and some higher: its lower points limit the path from the Reduce phase on
(R174, log entry 21). -/
def State.capSchedule (s : State) (e : CEntry) : State :=
  match pathOfKey e.key with
  | some p =>
    if e.key = Obj.stabSchedule p ∧ e.cls = .raise then s.setPath p { s.path p with schedCap := some e.value } else s
  | none => s

/-- The Reduce entries of a direction set as targets (R173, R174): the paths whose gains must fall are followed. -/
def State.reduceDir (s : State) (d : Dir) (r : CommitRun) : State :=
  let mine := r.waiting.filter (fun e => e.dir == some d)
  let down := mine.filter (fun e => e.cls == .reduce || e.key % 256 == 5)
  let paths := down.flatMap (s.raisedBy d)
  let s := mine.foldl State.capSchedule s
  let a := s.applyWhere r (fun e => e.dir == some d && e.cls == .reduce)
  let s := if paths.isEmpty then a.1 else a.1.rebalance
  { s with eng.commit := some (s.refreshRun { a.2 with falling := a.2.falling ++ paths, begun := d :: a.2.begun }) }

/-- Whether a gain of a direction still falls for the commit in application. -/
def State.dirFalls (s : State) (d : Dir) : Bool :=
  match s.eng.commit with
  | some r => r.falling.any (fun p => s.dirOf p == d && s.fallsStill p)
  | none => false

/-- A commit goes on where gains have fallen since (R173, Table 5-5): the Move entries of a direction whose boundary has
come, and the entries that act on no path. -/
def State.followDir (s : State) (d : Dir) : State :=
  match s.eng.commit with
  | none => s
  | some r =>
    let mine := r.waiting.filter (fun e => e.dir == some d)
    if r.preempted || !r.begun.contains d || s.dirFalls d || mine.any (fun e => isLo d e.key) then s
    else if mine.any (fun e => e.cls == .move) || (!mine.isEmpty && !s.armed (.recheck d)) then s.moveDir d
    else s

/-- The commit in application brought up to this instant. -/
def State.followCommit (s : State) : State :=
  if s.eng.commit.isNone then s else ((((s.moveGains).followDir .ul).followDir .dl).advanceCommit false)

/-- A commit at a loop-frame boundary of a direction (R175, R378, R388, R416): Reduce; then, once no gain of the direction
falls, a retune or the Move entries; then Raise at the first later boundary at which every unmuted path has counted. -/
def State.boundaryCommit (s : State) (d : Dir) (counted : Bool) : State :=
  match s.eng.commit with
  | none => s
  | some r =>
    let mine := r.waiting.filter (fun e => e.dir == some d)
    if !r.journalled || r.preempted || mine.isEmpty || (match d with | .ul => s.fe.retuneUL | .dl => s.fe.retuneDL) then s
    else
      let s := if mine.any s.entryIsLe then s.leCommit else s
      if mine.all (fun e => e.cls == .raise) && counted && r.begun.contains d && s.armed (.recheck d) then s.raiseDir d false
      else
        let s := s.reduceDir d r
        if mine.any (fun e => isLo d e.key && e.value != s.get e.key) then s.startRetune d
        else s.followDir d

/-- The last boundary of a direction, none before the first. -/
def State.lastFrame (s : State) (d : Dir) : Option Nat :=
  match d with
  | .ul => s.loops.ulFrame
  | .dl => s.loops.dlFrame

/-- The time in µs to the next loop-frame boundary of a direction (R175, R396); none before the first one. -/
def State.toFrame (s : State) (d : Dir) : Nat :=
  match s.lastFrame d with
  | some last => 10000 - (s.now - last) % 10000
  | none => 0

/-- Whether the engine foresees that a commit's entries cannot all be in force within 5 ms (R172): one waits for a
boundary farther off than that, is a retune, or is a Raise behind an entry of another class (log entry 22). -/
def State.foreseesLate (s : State) (entries : List CEntry) : Bool :=
  [Dir.ul, Dir.dl].any (fun d =>
    let mine := entries.filter (fun e => e.dir == some d)
    mine.any (fun e => decide (5000 < s.toFrame d) || (isLo d e.key && e.value != s.get e.key))
      || (mine.any (fun e => e.cls == .raise) && mine.any (fun e => e.cls != .raise)))

/-- A commit past its checks (R169 step 4): the commit point. Persistent entries go to the journal first, whose commit
marker follows them (R157, log entry 119); entries that the engine foresees cannot all be in force within 5 ms are
answered with abort 0x0A at once, unless the commit has waited and been answered so before (R172, log entry 22). -/
def State.startCommit (s : State) (c : Caller) (form : ReplyForm) (fromStage : Option StageId) (es : List (Nat × Nat))
    (req : Bytes) : State :=
  let entries := (List.range es.length).zipWith (fun i e =>
    (⟨i, e.1, e.2, s.classify e.1 e.2, pathDir (s.after es) e.1⟩ : CEntry)) es
  let stored := es.filter (fun e => isPersistentRw e.1)
  let slow := s.foreseesLate entries
  let run : CommitRun :=
    { caller := c, form := form, fromStage := fromStage, total := es.length, persistent := stored, waiting := entries,
      journalled := stored.isEmpty, answered := slow || c.deferred, began := s.now, rising := [], falling := [],
      settling := [], begun := [], staged := es, preempted := false }
  let s := { s with eng.commit := some run }
  let s := if c.deferred then s else if slow then s.abort c req (0x0A, 0) else s.arm .commitDefer 5000
  if stored.isEmpty then s.advanceCommit false
  else ({ s with cfg.journal := stored, cfg.marker := false }).set Obj.dictCommitState 1

/-- A commit rejected by a safety check (R170, R195): abort 0x0C with the position, the flag, the count and
Dict.LastCommitReject. -/
def State.rejectCommit (s : State) (c : Caller) (req : Bytes) (es : List (Nat × Nat)) (pos code : Nat) : State :=
  let k := (es.getD pos (0, 0)).1
  let s := (s.flag Obj.dictSticky 1).bump Obj.dictCommitRejectCount 1
  let s := s.set Obj.dictLastCommitReject
    (leNat (leBytes 2 (k / 256) ++ [byteOf k, byteOf pos] ++ leBytes 2 c.dest.peer ++ [byteOf code, 0x00#8]))
  s.abort c req (0x0C, pos)

/-- A commit's repeated checks (R169): a transition in progress (R723), steps 6, 7 and 11 for every entry, then the
safety checks; a store that did not verify refuses every commit (R196). -/
def State.tryCommit (s : State) (c : Caller) (form : ReplyForm) (fromStage : Option StageId) (es : List (Nat × Nat))
    (req : Bytes) : State :=
  match s.transition with
  | some t => s.abort c req (conflict 1 t.target.code)
  | none =>
    let early := es.findSome? (fun e =>
      match s.powerCheck with
      | some a => some a
      | none =>
        match s.readyCheck true (e.1 / 256) with
        | some a => some a
        | none => s.precondition e.1 e.2)
    match early with
    | some a => s.abort c req a
    | none =>
      if s.cfg.writeFailed then s.abort c req (0x0B, 0xFC)
      else
        match firstFailure es (s.allChecks es) with
        | some f => s.rejectCommit c req es f.1 f.2
        | none =>
          if es.isEmpty then
            s.commitReply { caller := c, form := form, fromStage := none, total := 0, persistent := [], waiting := [],
                            journalled := true, answered := false, began := s.now, rising := [], falling := [],
                            settling := [], begun := [], staged := [], preempted := false }
          else s.startCommit c form fromStage es req

/-- The configuration write has ended (R157, R169, R195, R196). After a write that did not verify, the copy it was aimed
at, the older one, is rewritten from the values in force (log entry 120). -/
def State.configWritten (s : State) (verified : Bool) : State :=
  if s.cfg.writeFailed then
    if verified then
      (({ s with cfg := { (s.cfg.writeOlder s.imageNow) with writeFailed := false } }).bump Obj.dictConfigWrites 1)
    else s
  else
    match s.eng.commit with
    | none => s
    | some r =>
      if r.journalled then s
      else if verified then
        let cfg := s.cfg.writeOlder (overlay s.cfg.current.image r.persistent)
        let s := { s with cfg := { cfg with journal := [], marker := false } }
        let s := s.bump Obj.dictConfigWrites 1
        let s := { s with eng.commit := some { r with journalled := true } }
        if s.running then s.advanceCommit false
        else (({ s with eng.commit := none }).bump Obj.dictCommitGeneration 1).set Obj.dictCommitState 0
      else
        let s := { s with cfg := { s.cfg with journal := [], marker := false, writeFailed := true }, eng.commit := none }
        let s := (s.set Obj.dictCommitState 0).disarm .commitDefer
        let s := s.faultRow Obj.dictSticky 6 .vintner 0x0807 1 31 []
        if r.form == .none then s
        else s.abort { r.caller with deferred := r.caller.deferred || r.answered } r.form.request (0x0B, 0xFC)

/-- CommitPreempted (Table 5-9): the flag, and the record of the commit generation and the phase reached. -/
def State.notePreempted (s : State) (r : CommitRun) : State :=
  s.faultRow Obj.dictSticky 3 .vintner 0x0A04 1 31 (leBytes 4 (s.get Obj.dictCommitGeneration) ++ [byteOf r.phase])

/-- A transition caused by a fault, a shutdown or a takeover pre-empts a commit in application (R193): what waits is
applied at once to the muted paths, Raise entries without a re-check, and the commit completes, one whose journal is still
being written as soon as that write ends. -/
def State.preemptCommit (s : State) : State :=
  match s.eng.commit with
  | none => s
  | some r =>
    let s := s.notePreempted r
    if r.journalled then s.applyAll r else { s with eng.commit := some { r with preempted := true } }

/-- A Commit or Write that still waits as a transition begins ends with abort 0x06 (R723). -/
def State.endWaiting (s : State) (target : PState) : State :=
  match s.eng.waiting with
  | none => s
  | some h => ({ s with eng.waiting := none }).abort h.caller h.body (conflict 1 target.code)

end Sys2Proof.Machine
end

