-- ==== Sys2Proof/Machine/TwinOps.lean ====
section
/-!
DEFINITION. The twin link's frames (Tables 17-2, 17-3), the release of TWIN_ACT (R629), and the receipts that a stop leaves
unsigned (R426, R716).
-/

namespace Sys2Proof.Machine

open Sys2Proof

/-- A frame for the link: its type and payload, in the twin class (R633): Heartbeats in 0xBA, the others in 0xB8. It leaves
as QUEUE_TAKE takes it. -/
def State.sendLink (s : State) (type : Nat) (payload : Bytes) : State :=
  s.post .fresh (if type = 3 then 0xBA else 0xB8) 1 (.raw (byteOf type :: sliceBytes payload 0 64))

/-- One count of Twin.LinkStats: frames sent, received, discarded, tag failures. -/
def State.linkStat (s : State) (i : Nat) : State :=
  let f := fun j => fieldAt (s.bytesOf Obj.twinLinkStats) (4 * j) 4
  s.set Obj.twinLinkStats (leNat ((List.range 4).flatMap (fun j => leBytes 4 (if j = i then satBytes 4 (f j + 1) else f j))))

/-- TWIN_ACT released (R629, R648, R667): a burst stops, Departing goes out while the link is up, and the role is standby. -/
def State.depart (s : State) (cause : Nat) : State :=
  if s.pins.twinAct then
    let s := if s.get Obj.twinLinkState = 2 then
        s.sendLink 6 (byteOf cause :: leBytes 4 s.twin.generation) else s
    let s : State := { (s.abandonBurst) with
      pins.twinAct := false
      twin := { s.twin with claiming := false, relayLost := false, handoverGen := none, takeover := none } }
    ((((s.disarm .relayTime).disarm .relayLost).disarm .handover).disarm .rack).set Obj.twinRole 2
  else s

/-- A receipt left unsigned (R426, R716): the flag, the record of row 9 of Table 4-14, and, where an entropy failure or
HOLDUP left it so (reasons 3 and 4), a signature still wanted. -/
def State.leaveUnsigned (s : State) (seq reason : Nat) : State :=
  let late := (reason = 3 ∨ reason = 4) ∧ !s.net.unsigned.contains seq
  let s : State := { s with net.unsigned := if late then s.net.unsigned ++ [seq] else s.net.unsigned }
  s.faultRow Obj.securitySticky 8 .cork 0x0709 1 31 (leBytes 4 seq ++ [byteOf reason])

/-- The receipts at the Cork, the one in signature first. -/
def State.atCork (s : State) : List Nat := s.net.signing.toList ++ s.net.queued

/-- The signatures in hand as the Cork stops (R26, R716), the ones still waiting for it included: reason 4 for HOLDUP or
a brown-out, 5 for a Cork that is reset. -/
def State.dropSigning (s : State) (reason : Nat) : State :=
  let gone := s.atCork
  let s : State := { s with net.signing := none, net.queued := [] }
  gone.foldl (fun (s : State) seq => s.leaveUnsigned seq reason) (s.disarm .receiptSign)

end Sys2Proof.Machine
end

