-- ==== Sys2Proof/Machine/PowerOps.lean ====
section
/-!
DEFINITION. Power-state changes (ch. 03), the trellis (ch. 13) and what every unit does when the core domain falls:
starts, timed shutdowns, HOLDUP, reaction classes, sessions and debug ended.
-/

namespace Sys2Proof.Machine

open Sys2Proof

/-! ## A lifecycle transition taking effect (R100, R108 to R112) -/

/-- The receipt signing key generated into the key store, its public half endorsed with the device identity key
(R100). -/
def State.makeRsk (s : State) : State :=
  let k := s.drawRandom 256
  let pub := Config.ecdsaPublic k.1
  let n := k.2.drawRandom 256
  let e := Config.ecdsaSign (s.sec.dik.getD 0) (pub ++ k.2.bytesOf Obj.identitySerialNumber) n.1
  let t := n.2.sealKey rskEntry k.1
  { t with sec := { t.sec with rskPublic := pub, rskEndorsement := e } }

/-- The fuse pattern of a lifecycle state (0b000, 0b001, 0b011, 0b111). -/
def fusePattern (state : Nat) : BitVec 3 := if state = 0 then 0 else if state = 1 then 1 else if state = 2 then 3 else 7

/-- The record of a lifecycle transition (R110, Table 16-7): old and new state and origin. -/
def State.lifecycleRecord (s : State) (old new origin : Nat) : State :=
  s.postLog .cork (0x8500 + new) 0 31 false true [byteOf old, byteOf new, byteOf origin]

/-- The lifecycle transition in hand takes effect (R100, R110, R134): its fuse bits are blown, the RSK is made on
entering PROVISIONED, debug and sessions end, and the Vintage entry and the Notify follow. -/
def State.blowLifecycle (s : State) : State :=
  match s.sec.lcTrans with
  | none => s
  | some l =>
    let s : State := { s with sec := { s.sec with fuses := s.sec.fuses ||| fusePattern l.target, lcTrans := none,
                                                  confirm := none } }
    let s := if l.target = 1 then s.makeRsk else s
    let s := ((s.endDebug true).endSessions).lifecycleRecord l.old l.target l.origin
    (s.disarm .lifecycleDone).raiseNotify .cork 4 0xFFFF (0x8500 + l.target) [byteOf l.old, byteOf l.target]

/-! ## Changing state -/

/-- The power state and its reason (R94), with PowerChange on the host port and Notify 0x02. -/
def State.enterState (s : State) (new : PState) (reason : Nat) : State :=
  let old := s.power.state.code
  let s := { s with power.state := new }
  let s := (s.set Obj.powerStateLastReason reason).raiseIrq 2
  s.raiseNotify .cellar 2 0xFFFF 0 [byteOf old, byteOf new.code, byteOf reason]

/-- Timers that belong to the core domain and stop with it. -/
def TimerId.inCore : TimerId → Bool
  | .holdupRestart | .restartDelay | .wakeTimer | .vintage | .floodRefill _ | .caskClear | .retryBackoff | .attemptReset
  | .warnLead | .holdupLead | .holdupStep _ | .railOff _ | .railOffTime _ | .railDelay _ | .railRamp _ | .lidCover
  | .lidTrack | .lidStore | .lidResume | .sealClear | .lockout | .marginStep _ | .lockstepRecovery
  | .lifecycleDone | .receiptSign | .counterWriteback => false
  | _ => true

/-- Whether an object falls back to its default at a start (Table 5-3): a Volatile object of a core that the release
of the core domain starts. The Cellarmaster runs on, and its own registers with it (log entry 9). -/
def volatileInCore (k : Nat) : Bool :=
  match objOf k with
  | some d => d.pers == .volatile && ownerOf (k / 256) != 0
  | none => false

/-- The Press's and the Vintner's units as the core domain falls (R353, R389): they begin the next start afresh. A lane
keeps the statistics of its trim (R468), and a seal breach holds (R465, log entry 29). -/
def State.unitsDown (s : State) : State :=
  { s with
    paths := List.replicate 16 PathRun.idle
    loops := Loops.idle
    conv := Conv.idle
    fe := FrontEnd.idle
    le := ⟨[]⟩
    pa := { PaUnit.idle with
      lanes := s.pa.lanes.map (fun r => { LaneRun.idle with readyUs := r.readyUs, trimSum := r.trimSum })
      breach := s.pa.breach }
    feed := FeedUnit.idle
    hkb := HkbUnit.idle
    tiu := TiuUnit.idle
    twin := TwinUnit.idle }

/-- The core domain falls (R134, R141, R281, R305, R308): debug and sessions end, requests and messages are discarded,
ports go to standby, clocks stop, and the Volatile registers of its cores return to their defaults. -/
def State.coreDown (s : State) : State :=
  let s := (((s.dropSigning 5).endDebug true).endSessions).discardWaiting
  let s := s.unitsDown
  let s := { s with
    timers := s.timers.filter (fun p => !p.1.inCore)
    dict := s.dict.filter (fun p => !volatileInCore p.1)
    blockReads := [], blockWrites := []
    eng := { s.eng with stages := [] }
    upd := { s.upd with segments := [] }
    field := { s.field with reasm := [], retx := [], locate := [], dropped := [],
                            portA := PortEngine.idle, portB := PortEngine.idle }
    hp := { s.hp with busy := false, ready := false, outstanding := false, latchEnergy := none, latchUtc := none,
                      irqStatus := 0 }
    q := { s.q with msgs := s.q.msgs.filter (fun m => decide (qClass m.queue ≤ 1)),
                    waits := s.q.waits.filter (fun w => decide (qClass w.msg.queue ≤ 1)) }
    sec := { s.sec with halted := [], challenge := none, confirm := none, kwk := none, dik := none }
    power := { s.power with coreReleased := false, pressReady := false, vintReady := false, corkReady := false,
                            recovery := false, relockLocked := false, relockRetry := false, pllLocked := false,
                            linkLocked := false, stretchAt := none, refSeen := false, refPresent := false,
                            refLostAt := none }
    pins := { s.pins with canStbA := true, canStbB := true, tdrLaunch := false, feGpio := 0, paBias := [] } }
  let s := ((s.set Obj.clockCoreSource 0).set Obj.clockRefInPresent 0).set Obj.clockSamplePllLocked 0
  (s.set (Obj.portState 0) (if s.portOn .a then 1 else 0)).set (Obj.portState 1) (if s.portOn .b then 1 else 0)

/-- The Cellarmaster drains the log class and its latches into the Cask (R308, R613). -/
def State.drainLogs : Nat → State → State
  | 0, s => s
  | n + 1, s =>
    match s.nextLog with
    | none => s
    | some (m, s) => State.drainLogs n (s.commitMsg m true true)

/-- Log messages in hand: the Cellarmaster's own, those in queues, and those that wait. -/
def State.logCount (s : State) : Nat := s.cask.own.length + s.q.msgs.length + s.q.waits.length

/-- A pending REF_IN-loss record written on entry to HOLDUP or DORMANT with no return (Table 3-7). -/
def State.closeRefLoss (s : State) : State :=
  match s.power.refLostAt with
  | none => s
  | some t =>
    ({ s with power.refLostAt := none }).log .press 0x0001 2 31 (leBytes 4 t ++ leBytes 4 0xFFFFFFFF)

/-! ## Starts (R64, R480 to R483, R504) -/

/-- Whether every slot that a slot depends on is good. -/
def State.dependsGood (s : State) (n : Nat) : Bool :=
  slots.all (fun m => !(s.trellis (Obj.railSlotDependMask n)).testBit m || s.get (Obj.railSlotState m) == 5)

/-- An HK-A entry of the scan in progress (R556). -/
def State.hkaEntry (s : State) (n : Nat) : Nat := s.rail.scan.getD n (s.get (Obj.hkAEntry n))

/-- The entry time of an HK-A entry in µs (R556). -/
def State.hkaTime (s : State) (n : Nat) : Nat := 16 * 2 ^ (s.hkaEntry n % 256)

/-- The time in µs of the first entries of a scan (R475). -/
def State.hkaSpan (s : State) (n : Nat) : Nat := (List.range n).foldl (fun a i => a + s.hkaTime i) 0

/-- The next HK-A scan boundary, now included (R475, R483). -/
def State.nextScan (s : State) : Nat :=
  let t := s.rail.window - s.hkaSpan s.rail.slot
  t + s.hkaSpan 16 * ((s.now - t + s.hkaSpan 16 - 1) / s.hkaSpan 16)

/-- Slots that wait and may now run their delay (R480, R481), which begins at the earliest at the scan boundary that
starts the sequence (R483). Before HK-A converts no enable is asserted (R477). -/
def State.startDelays (s : State) : State :=
  if !s.rail.adcOn then s else
  let lead := s.rail.seqStart - s.now
  let cores := s.rail.coresReadyAt.isSome && !s.power.limitedStart
  slots.foldl (fun s n =>
    if s.get (Obj.railSlotState n) = 2 ∧ ((s.trellis Obj.railSeqCoreSet).testBit n ∨ cores) ∧ s.dependsGood n then
      (s.set (Obj.railSlotState n) 3).arm (.railDelay n) (lead + 10 * s.trellis (Obj.railSlotDelay n))
    else s) s

/-- Whether the stored trellis passes its integrity check (R17). -/
def State.trellisOk (s : State) : Bool := s.cfg.copyA.valid || s.cfg.copyB.valid

/-- The HK-A results and readings at their defaults, as Volatile objects are after a start (Table 5-3, log entry 9). -/
def State.forgetReadings (s : State) : State :=
  slots.foldl (fun (s : State) n => (s.set (Obj.hkAResult n) 0).set (Obj.railSlotReading n) 0) s

/-- A start from DORMANT (Table 3-2, R483, R517): pending trellis changes take effect, and the sequence
begins at the next HK-A scan boundary. -/
def State.beginStart (s : State) (reason : Nat) (touch limited : Bool) : State :=
  if !s.trellisOk ∨ s.power.state ≠ .dormant ∨ s.power.trans.isSome then s
  else
    let s := { s with
      power := { s.power with trans := some ⟨.start, .standby⟩, startReason := reason,
                              touchStart := touch, limitedStart := limited, recovery := false }
      rail := { s.rail with seqStart := (if s.rail.adcOn then s.nextScan else s.now), held := [], enabledAt := [],
                            goodAt := [], coresReadyAt := none,
                            abandoned := 0 } }
    let s := (((s.disarm .wakeTimer).disarm .holdupRestart).disarm .restartDelay).disarm .retryBackoff
    let s := (s.set Obj.railSeqPendingStart 0).set Obj.railSeqState 1
    let s := slots.foldl (fun s n =>
      s.set (Obj.railSlotState n) (if s.get (Obj.railSlotEnable n) = 1 then
        (if limited ∧ !(s.get Obj.railSeqCoreSet).testBit n then 1 else 2) else 0)) s
    (s.forgetReadings).startDelays

/-- A start that a wake makes: a latched trellis allows only the limited start (R504). -/
def State.wakeStart (s : State) (reason : Nat) (touch : Bool) : State :=
  s.beginStart reason touch (s.get Obj.railSeqLatchedSlot != 0xFF)

/-- A watchdog lockout ended (R86). -/
def State.endLockout (s : State) : State := s.set Obj.watchdogLockout 0

/-! ## The trellis going down (R484 to R487, R507) -/

/-- Whether a slot's enable is asserted. -/
def State.railOn (s : State) (n : Nat) : Bool := s.pins.railEn.getLsbD n

/-- A slot's enable driven. -/
def State.driveRail (s : State) (n : Nat) (b : Bool) : State :=
  { s with pins.railEn := if b then s.pins.railEn ||| BitVec.ofNat 16 (2 ^ n) else s.pins.railEn &&& ~~~ BitVec.ofNat 16 (2 ^ n) }

/-- Whether a slot is not yet off in this shutdown: asserted, or released and not off. -/
def State.railLive (s : State) (n : Nat) : Bool := s.railOn n || s.get (Obj.railSlotState n) == 6

/-- Slots that depend on a slot, directly. -/
def State.dependents (s : State) (n : Nat) : List Nat :=
  slots.filter (fun m => s.trellis (Obj.railSlotEnable m) == 1 && (s.trellis (Obj.railSlotDependMask m)).testBit n)

/-- A slot released (R484): S00 last, once a pending REF_IN-loss record is closed (Table 3-7) and the safety and log
classes are drained (R308). It is off at its off condition, its OffTime, or in HOLDUP HoldupStep. -/
def State.releaseRail (s : State) (n : Nat) : State :=
  let s := if n = 0 then
      let s := ((s.closeRefLoss).noteRestricted).endClear
      let s := State.drainLogs s.logCount s
      { s with q.msgs := s.q.msgs.filter (fun m => decide (1 < qClass m.queue)) }
    else s
  let s := ((s.driveRail n false).set (Obj.railSlotState n) 6).disarm (.railRamp n)
  let s := { s with rail.releasedAt := putKey s.rail.releasedAt n (s.now + 1) 0 }
  let s := if n = 0 then s.coreDown else s
  if s.power.state = .holdup then s.arm (.holdupStep n) (s.get Obj.railSeqHoldupStep)
  else s.arm (.railOffTime n) (10 * s.get (Obj.railSlotOffTime n))

/-- Slots whose enabled dependents are all off are released (R484). -/
def State.releaseReady (s : State) : State :=
  let ready := slots.filter (fun n => s.railOn n && (s.dependents n).all (fun m => !s.railLive m))
  ready.reverse.foldl State.releaseRail s

/-- Every enable not yet asserted is cancelled (R491, R507). -/
def State.cancelEnables (s : State) : State :=
  slots.foldl (fun s n =>
    let st := s.get (Obj.railSlotState n)
    if st = 2 ∨ st = 3 then (s.set (Obj.railSlotState n) 1).disarm (.railDelay n) else s) s

/-- The start marker of a shutdown (R605). -/
def State.markShutdown (s : State) : State := (s.setCtl 0x18 4 (max 1 s.opSeconds)).setCtl 0x1C 4 0

/-- A slot released before HOLDUP came waits for HoldupStep in place of its OffTime (R507). -/
def State.stepReleased (s : State) : State :=
  if s.power.state = .holdup then
    slots.foldl (fun (s : State) n =>
      if s.get (Obj.railSlotState n) = 6 then (s.disarm (.railOffTime n)).arm (.holdupStep n) (s.get Obj.railSeqHoldupStep)
      else s) s
  else s

/-- The shutdown's releases begin: warning lead or HOLDUP lead over, or at once. -/
def State.beginReleases (s : State) : State :=
  match s.rail.shutdown with
  | none => s
  | some d =>
    let s := { s with rail.shutdown := some { d with stepping := true } }
    (((s.set Obj.railSeqState 6).cancelEnables).stepReleased).releaseReady

/-- The reaction that follows a rail fault (R499, R502): the strictest of the faulted slots, Latch before Retry, and
among Retry slots the one with the fewest retries left. -/
def State.strictest (s : State) (faults : List Nat) : Option Nat :=
  match faults.find? (fun n => s.get (Obj.railSlotReaction n) == 0) with
  | some n => some n
  | none => faults.foldl (fun b n =>
      match b with
      | none => some n
      | some m => if s.get (Obj.railSlotRetries n) < s.get (Obj.railSlotRetries m) then some n else some m) none

/-- A latch (R502, R516): the slot, its flags, the further record, and its Vintage entry. -/
def State.latchSlot (s : State) (n : Nat) (exhausted : Bool) : State :=
  let s := ((s.set Obj.railSeqLatchedSlot n).set Obj.railSeqState 8).flag Obj.railSeqSticky 2
  let s := if exhausted then s.flag Obj.railSeqSticky 3 else s
  s.postLog .cellar (if exhausted then 0x1F0A else 0x1F09) 3 n false true [byteOf n, if exhausted then 1#8 else 0#8]

/-- The reaction class applied (R502). -/
def State.applyReaction (s : State) (faults : List Nat) : State :=
  match s.strictest faults with
  | none => s
  | some n =>
    let att := s.get Obj.railSeqAttempt
    if s.get (Obj.railSlotReaction n) = 0 then s.latchSlot n false
    else if att ≤ s.get (Obj.railSlotRetries n) then
      let s := (s.set Obj.railSeqState 7).set Obj.railSeqAttempt (att + 1)
      s.arm .retryBackoff (1000 * s.get Obj.railSeqRetryBackoff * 2 ^ (att - 1))
    else s.latchSlot n true

/-- DORMANT entered (R64, R281, R69): margins are back, the core domain is down, the wake timer starts. -/
def State.enterDormant (s : State) (reason : Nat) : State :=
  let s := ((((s.depart 1).closeRefLoss).hardMute).paOff).coreDown
  let s := { s with power.trans := none, power.cameFrom := .standby, power.touchStart := false,
                    power.limitedStart := false, pins.twinAct := false }
  let s := s.enterState .dormant reason
  if s.get Obj.powerStateWakeTimer = 0 then s else s.arm .wakeTimer (1000000 * s.get Obj.powerStateWakeTimer)

/-- RST_N in DORMANT (R69, R72, R86, R504): it ends a watchdog lockout, and is a wake source where WakeSources has its
bit. -/
def State.rstInDormant (s : State) : State :=
  let s := s.endLockout
  if s.bit Obj.powerStateWakeSources 1 then s.wakeStart 2 false else s

/-- An RST_N low held through a shutdown acts once DORMANT is reached (R721). -/
def State.actHeldRst (s : State) : State :=
  if s.power.restartPending then ({ s with power.restartPending := false }).rstInDormant else s

/-- What a completed shutdown is followed by (R71, R502, R721): the reaction class of its faults, or, for a restart, the
wait of RestartDelay. -/
def State.afterShutdown (s : State) (d : Shutdown) : State :=
  if !d.faults.isEmpty then s.applyReaction d.faults
  else
    let s := if s.get Obj.railSeqLatchedSlot ≠ 0xFF then s.set Obj.railSeqState 8 else s
    if d.restart then
      ({ s with power.startReason := d.reason }).arm .restartDelay (1000 * s.get Obj.powerStateRestartDelay)
    else s

/-- A shutdown complete (R501, R502, R605, R71): the completion marker, DORMANT, PFW_N released, and what its cause
asks for next. HOLDUP waits for HOLDUP_COMPLETE. -/
def State.completeShutdown (s : State) : State :=
  match s.rail.shutdown with
  | none => s
  | some d =>
    let s := (s.setCtl 0x1C 4 (s.ctl 0x18 4)).set Obj.railSeqState 0
    if d.cause = .holdup then s
    else
      let s := { s with rail.shutdown := none, pins.pfwN := true }
      let reason := if d.faults.isEmpty then d.reason else 0x11
      ((s.enterDormant reason).afterShutdown d).actHeldRst

/-- A slot off: the next releases, or the end of the shutdown (R484). -/
def State.slotOff (s : State) (n : Nat) : State :=
  let s := ((s.set (Obj.railSlotState n) (if s.trellis (Obj.railSlotEnable n) = 1 then 1 else 0)).disarm (.railOffTime n)).disarm
    (.holdupStep n)
  let s := s.releaseReady
  if slots.any s.railLive then s else s.completeShutdown

/-- The releases of a shutdown begin, and it is complete where nothing is up; while the Cellarmaster pair recovers from
a lockstep mismatch every RAIL_EN is held (R92), and LOCKSTEP_RECOVERY goes on from here. -/
def State.goDown (s : State) : State :=
  if s.wd.lockstepBusy then s
  else
    let s := (s.paOff).beginReleases
    if slots.any s.railLive then s else s.completeShutdown

/-- A timed shutdown (Table 3-2, R484, R513): a lifecycle transition in hand takes effect first (R108), margins return,
the unit mutes, and the slots fall in reverse dependency order, at once or after a warning lead. -/
def State.beginShutdown (s : State) (cause : ShutCause) (reason : Nat) (restart : Bool) (leadUs : Nat)
    (faults : List Nat) : State :=
  let lc := s.sec.lcTrans.isSome && faults.isEmpty
  let reason := if lc then 0x13 else reason
  let restart := restart || lc
  let s := (((((s.blowLifecycle).preemptCommit).endWaiting .dormant).returnMargins).endDebug true).hardMute
  let s := s.markShutdown
  let s := { s with rail.shutdown := some ⟨cause, reason, restart, false, faults⟩,
                    power.trans := some ⟨.shutdown, .dormant⟩ }
  if leadUs = 0 then s.goDown
  else ((s.cancelEnables).set Obj.railSeqState 5).arm .warnLead leadUs

/-- A restart (R71): the timed shutdown, DORMANT, RestartDelay, and a start. -/
def State.restart (s : State) (reason : Nat) : State := (s.depart 2).beginShutdown .restart reason true 0 []

/-! ## HOLDUP (R507, R508, R613) -/

/-- A warning lead still running as HOLDUP comes is cut short (R507): DropDead. -/
def State.cutLead (s : State) : State :=
  match s.rail.shutdown with
  | some d => if d.stepping then s else (s.disarm .warnLead).faultRow Obj.railSeqSticky 4 .cellar 0x200B 1 31 []
  | none => s

/-- A commit in application as HOLDUP comes (R194, Table 18-1): its values are in force at the next start. One whose
configuration write is complete counts; the other counts when that write completes. -/
def State.commitAtHoldup (s : State) : State :=
  match s.eng.commit with
  | some r =>
    let s := s.notePreempted r
    if r.journalled then
      (({ s with eng.commit := none }).bump Obj.dictCommitGeneration (if r.persistent.isEmpty then 0 else 1)).set
        Obj.dictCommitState 0
    else s
  | none => s

/-- A firmware update under way as HOLDUP comes has failed (R191). -/
def State.updateAtHoldup (s : State) : State :=
  match s.get Obj.updateState with
  | 1 | 2 | 3 => (s.set Obj.updateState 4).faultRow Obj.updateSticky 2 .vintner 0x090A 1 31 []
  | _ => s

/-- The replies, the host port and TWIN_ACT as HOLDUP comes (R281, R613): transactions are abandoned. -/
def State.portsAtHoldup (s : State) : State :=
  { s with hp := { s.hp with busy := false, ready := false, outstanding := false }, pins.twinAct := false,
           q.msgs := s.q.msgs.filter (fun m => !(m.queue ≤ 0x88 && qClass m.queue ≥ 4)) }

/-- The field ports as HOLDUP comes (Table 6-16, R308): each enabled port that takes part in its bus offers one last
Heartbeat before it goes to transceiver standby; the others go there at once. -/
def State.fieldAtHoldup (s : State) : State :=
  let s := (s.noteRestricted).lastHeartbeat
  [Port.a, Port.b].foldl (fun (s : State) p =>
    let s := s.disarm (.heartbeat p)
    if (s.portState p = 3 ∨ s.portState p = 4) ∧ (s.headOf (0x1A + portNum p)).isSome then s else s.portStandby p) s

/-- HOLDUP entered (Table 3-2, R112, R194, R281, R248, R507, R550): PFW_N, margins, mutes, sessions and debug end, the TIU
stops, counters are written back, each enabled port offers one last Heartbeat, and the shutdown starts HoldupLead later. A warning lead
already running is cut short, and a lifecycle transition leaves what the fuses show. -/
def State.enterHoldup (s : State) : State :=
  let s : State := { s with pins.pfwN := false, sec.lcTrans := none }
  let s := (((s.disarm .lifecycleDone).disarm .serviceTimeout).disarm .relockRetry).cutLead
  let s := ((((s.dropSigning 4).returnMargins).endDebug true).endSessions).discardWaiting
  let s := (((((s.depart 0).closeRefLoss).hardMute).paOff).tiuOff).commitAtHoldup
  let s := ((((s.updateAtHoldup).writeBack).cancelEnables).lidHoldup).portsAtHoldup
  let s := (s.enterState .holdup 5).fieldAtHoldup
  let s := { s with power.trans := none, rail.shutdown := some ⟨.holdup, 5, false, false, []⟩ }
  let s := (s.markShutdown).set Obj.railSeqState 5
  s.arm .holdupLead (1000 * s.get Obj.railSeqHoldupLead)

/-! ## Clocks (R76, R203, R661) -/

/-- The core clock moved to INT48 (R76, R203): both ports leave the bus for restricted operation. -/
def State.toInt48 (s : State) : State :=
  let s := if s.get Obj.clockCoreSource = 1 ∧ s.running then
      let s := [Port.a, Port.b].foldl (fun s p =>
        let st := s.portState p
        if 2 ≤ st ∧ st ≤ 4 then s.set (Obj.portState (portNum p)) 6 else s) s
      s.enterRestricted
    else s
  let s : State := { s with power.relockLocked := false }
  ((s.set Obj.clockCoreSource 0).disarm .relockRetry).stopSeq

/-- A relock begun (R76, R78): the multiplexer on INT48, then the PLL retargeted, with 1 ms to lock. -/
def State.beginRelock (s : State) (target : Nat) : State :=
  let s := (s.toInt48).set Obj.clockCoreTarget target
  let s := { s with power := { s.power with relockTarget := target, relockLocked := false, relockRetry := false } }
  s.arm .relock 1000

/-- A relock given up (Table 3-7): its timers stop, and the transition that waited for it is over. -/
def State.endRelock (s : State) : State :=
  let s := (s.disarm .relock).disarm .relockRetry
  let s : State := { s with power.relockLocked := false, power.relockRetry := false }
  match s.power.trans with
  | some ⟨.relock, _⟩ => { s with power.trans := none }
  | _ => s

/-- The target of a state's clock: 480 MHz for ACTIVE and a SERVICE entered from ACTIVE, 240 MHz otherwise
(Table 3-1). -/
def State.targetOf (s : State) (p : PState) : Nat :=
  if p = .active ∨ (p = .service ∧ s.power.cameFrom = .active) then 480 else 240

/-- In SEALED the Installer and Administrator sessions end as SERVICE ends (R117). -/
def State.endServiceSessions (s : State) : State :=
  if s.lifecycle = 2 then
    (s.sec.sessions.filter (fun x => decide (2 ≤ x.role))).foldl (fun (s : State) x => s.endSession x.slot) s
  else s

/-- The unit falls to STANDBY (Table 3-2): hard mute, the commit pre-empted, and a relock when the clock changes and
REF_IN is present. -/
def State.fallToStandby (s : State) (reason : Nat) : State :=
  let s := (((s.preemptCommit).endWaiting .standby).hardMute)
  let s : State := { s with power.trans := none, power.cameFrom := .standby, power.touchStart := false }
  let s := ((s.enterState .standby reason).disarm .serviceTimeout).endServiceSessions
  if s.get Obj.clockCoreTarget == 240 || !s.power.refPresent then s
  else { (s.beginRelock 240) with power.trans := some ⟨.relock, .standby⟩ }

end Sys2Proof.Machine
end

