-- ==== Sys2Proof/Machine/PowerReq.lean ====
section
/-!
DEFINITION. Requests for a power state and their refusals (R70, R87, R88, R192, R712, R717, Table 3-2), and the end of a
start from DORMANT.
-/

namespace Sys2Proof.Machine

open Sys2Proof

/-- Whether the Vintner serves requests: it runs, no debugger has halted it, and the unit is not in HOLDUP (R281). -/
def State.vintServes (s : State) : Bool :=
  s.power.vintReady && !s.sec.halted.contains .vintner && s.power.state != .holdup

/-- Whether the Vintner is in reset while the unit runs (R25). -/
def State.vintnerDown (s : State) : Bool :=
  s.running && s.power.coreReleased && !s.power.vintReady && !s.power.recovery

/-- Whether the register window is served (HP_STATUS.CoreUp): by the Vintner, or by the loader of the recovery window. -/
def State.coreUp (s : State) : Bool := s.vintServes || s.power.recovery

/-- A flag of Table 7-11: set only while CoreUp is 1 (R283). -/
def State.hostFlag (s : State) (bit : Nat) : State := if s.coreUp then s.flag Obj.hostPortSticky bit else s

/-- Whether the unit may go to ACTIVE, or how a request for it is refused (R717); the lifecycle is checked at step 4 as
well. The twin function is the one in force (R656). -/
def State.activeRefusal (s : State) : Option Abort :=
  let l := s.lifecycle
  if l = 0 ∨ l = 3 ∨ l = 4 then some (s.denied 0 2)
  else if s.sec.halted.contains .press then some (conflict 2 1)
  else if s.twin.enabled ∧ s.get Obj.twinRole ≠ 1 then some (conflict 5 2)
  else if 2 ≤ s.get Obj.netState then some (conflict 3 0x07)
  else if s.get Obj.railSeqLatchedSlot ≠ 0xFF then some (conflict 3 0x17)
  else if !s.power.refPresent then some (conflict 3 0x16)
  else none

/-- Towards ACTIVE (Table 3-2): a relock to 480 MHz, or at once where the clock already runs there. -/
def State.towardsActive (s : State) (reason : Nat) : State :=
  let s := s.endWaiting .active
  if s.get Obj.clockCoreTarget = 480 ∧ s.get Obj.clockCoreSource = 1 then
    { (s.enterState .active reason) with power.cameFrom := .active }
  else
    { (s.beginRelock 480) with power.trans := some ⟨.relock, .active⟩, power.startReason := reason }

/-- SERVICE entered (Table 3-2, R70): ServiceTimeout runs, and the paths mute unless ServiceKeepsRf. -/
def State.towardsService (s : State) (reason : Nat) (touch : Bool) : State :=
  let s := s.endWaiting .service
  let from_ := s.power.state
  let s := { s with power.cameFrom := from_, power.touchStart := touch }
  let s := (s.enterState .service reason).arm .serviceTimeout (60000000 * s.get Obj.powerStateServiceTimeout)
  if s.get Obj.powerStateServiceKeepsRf = 0 then s.hardMute else s

/-- SERVICE left (R117): in SEALED its Installer and Administrator sessions end. -/
def State.leaveService (s : State) : State :=
  let s := s.disarm .serviceTimeout
  let s : State := { s with power.touchStart := false }
  s.endServiceSessions

/-- A request for a power state that its checks have passed (R87, R88, R192, R717): the refusal, or the accepted
transition. -/
def State.powerRefusal (s : State) (v : Nat) : Option Abort :=
  match s.transition with
  | some t => some (conflict 1 t.target.code)
  | none =>
    if v = s.power.state.code then none
    else if v = 4 then s.activeRefusal
    else none

/-- An accepted power-state request carried out. -/
def State.doPower (s : State) (v : Nat) : State :=
  let s := s.set Obj.powerStateRequest v
  if v = s.power.state.code then s
  else if v = 2 then s.beginShutdown .request 3 false 0 []
  else if v = 6 then s.restart 3
  else if v = 3 then
    let s := if s.power.state = .service then s.leaveService else s
    s.fallToStandby 3
  else if v = 4 then
    let s := if s.power.state = .service then s.leaveService else s
    s.towardsActive 3
  else if v = 5 then s.towardsService 3 false
  else s

/-- A request for a transition held until the commit in application completes (R192), and answered so. -/
def State.deferPower (s : State) (c : Caller) (req : Bytes) : State :=
  let h : Held := { caller := { c with deferred := true }, claimed := none, body := req, lacks := 0, at_ := s.now,
                    answered := true }
  let s : State := { s with eng.deferredPower := s.eng.deferredPower ++ [h] }
  if c.deferred then s else s.abort c req (0x0A, 0)

/-- A Write of PowerState.Request (R163): refused, answered Deferred while a commit is applied (R192), or accepted. -/
def State.powerRequest (s : State) (c : Caller) (req : Bytes) (v : Nat) : State :=
  match s.powerRefusal v with
  | some a => s.abort c req a
  | none =>
    if s.eng.commit.isSome then s.deferPower c req else (s.done c 0x1800 2).doPower v

/-- ServiceTimeout over (R64, R70): back to the state SERVICE came from, to STANDBY when its conditions no longer hold, or
to DORMANT after a lid-touch start. -/
def State.serviceOver (s : State) : State :=
  if s.power.state != .service || s.transition.isSome then s
  else
    let touch := s.power.touchStart
    let back := s.power.cameFrom
    let s := s.leaveService
    if touch then s.beginShutdown .request 0x0D false 0 []
    else if back == .active && s.activeRefusal.isNone then s.towardsActive 0x0D
    else s.fallToStandby 0x0D

/-- A valid wake or power-on with every automatic start held back: watchdog lockout or a latched slot (R86, R504). -/
def State.autoHeld (s : State) : Bool := s.get Obj.watchdogLockout == 1 || s.get Obj.railSeqLatchedSlot != 0xFF

/-- The core domain released (R482, R154, R532, R712, R720): INT48, target 240 MHz, REF_WARM set, no request accepted. -/
def State.releaseCore (s : State) : State :=
  let s := { s with power.coreReleased := true, power.refSeen := false, time.fabricBase := s.now }
  let s := (((s.set Obj.clockCoreSource 0).set Obj.clockCoreTarget 240).set Obj.tiuRefWarm 1).set Obj.powerStateRequest 0
  s.set Obj.railSeqState 2

/-- Where a start goes on to once it has reached STANDBY (R64): SERVICE after a lid touch, or ACTIVE under AutoActive. -/
def State.afterStandby (s : State) (touch limited : Bool) : State :=
  if touch && s.lifecycle != 4 then s.towardsService 9 true
  else if s.get Obj.powerStateAutoActive == 1 && !limited && s.activeRefusal.isNone then
    s.towardsActive s.power.startReason
  else s

/-- A start takes the stored address, one given up under R238 included (R234, R238). -/
def State.claimAddress (s : State) : State := { s with field.effective := s.get Obj.fieldNodeAddress }

/-- The trellis complete (R64, R483, R503): STANDBY, and then SERVICE after a lid touch, or ACTIVE under AutoActive. -/
def State.trellisComplete (s : State) : State :=
  let t := (s.set Obj.railSeqLastStartTime (satBytes 4 (s.now - s.rail.seqStart))).set Obj.railSeqState 4
  let t := t.arm .attemptReset (1000000 * s.get Obj.railSeqRetryReset)
  let t : State := { t with power := { t.power with trans := none, wakePending := false } }
  let t := (((t.claimAddress.joinPort .a).joinPort .b).enterState .standby s.power.startReason).onStandby
  t.afterStandby s.power.touchStart s.power.limitedStart

end Sys2Proof.Machine
end

