-- ==== Sys2Proof/Machine/NetOps.lean ====
section
/-!
DEFINITION. The network-protective shutdown (R417 to R428): its receipt, its snapshot record, its lockout, and the
signature that the Cork makes.
-/

namespace Sys2Proof.Machine

open Sys2Proof

/-- A field of Field.TimeAnchor (Table 6-17). -/
def State.anchor (s : State) (off n : Nat) : Nat := fieldAt (s.bytesOf Obj.fieldTimeAnchor) off n

/-- Whether a time anchor stands. -/
def State.anchored (s : State) : Bool := s.get Obj.fieldTimeAnchor != 0

/-- Microseconds of UTC by the anchor and the operating seconds since (R233); 0 without an anchor. -/
def State.utcMicros (s : State) : Nat :=
  if s.anchored then s.anchor 0 8 * 1000000 + s.anchor 8 4 + (s.opSeconds - s.anchor 12 4) * 1000000 else 0

/-- A band-path bitmap. -/
def bitmapOf (ps : List Nat) : Nat := ps.foldl setBit 0

/-- The isolation of a path as Stab.Loop holds it. -/
def State.isolation (s : State) (p : Nat) : Nat := fieldAt (s.bytesOf (Obj.stabLoop p)) 6 2

/-- The age of a path's last counted frame in ms, saturating; 0xFFFF when none counted. -/
def State.frameAge (s : State) (p : Nat) : Nat :=
  match (s.path p).countedAt with
  | some t => satBytes 2 ((s.now - t) / 1000)
  | none => 0xFFFF

/-- A path record (Table 11-4). -/
def State.pathRecord (s : State) (p : Nat) : Bytes :=
  let q := s.partnerOf p
  [byteOf p, byteOf (dirNum (s.dirOf p))] ++ s.bytesOf (Obj.stabApplied p) ++ s.bytesOf (Obj.stabTargetGain p)
    ++ sliceBytes (s.bytesOf (Obj.stabLoop p)) 0 2 ++ leBytes 2 (s.isolation p)
    ++ leBytes 2 (if q < 16 then s.isolation q else 0) ++ limitBytes (s.scheduleLimit p) ++ s.bytesOf (Obj.stabMargin p)
    ++ leBytes 2 (satBytes 2 ((s.path p).loopDelay / 10)) ++ s.bytesOf (Obj.bandPathEnvelope p)
    ++ s.bytesOf (Obj.stabRho p) ++ s.bytesOf (Obj.stabOutputLevel p) ++ s.bytesOf (Obj.stabNoiseDensity p)
    ++ leBytes 2 (s.frameAge p) ++ [0#8, 0#8]

/-- The conditions byte of a receipt (Table 11-3). -/
def State.conditions (s : State) : Nat :=
  s.get Obj.tiuRefWarm + (if s.get Obj.droopState ≠ 0 then 2 else 0) + (if s.hintActs 0 then 4 else 0)
    + (if pathNums.any (fun p => (s.path p).paCut.isSome || (s.path p).budgetMuted) then 8 else 0)

/-- The anchor flags of a receipt. -/
def State.anchorFlags (s : State) : Nat :=
  (if s.anchored then 1 else 0) + (if s.anchored && s.anchor 17 1 == 1 then 2 else 0)

/-- Boot.RunningVersion: the version of the bundle that runs (Press image). -/
def State.runningVersion (s : State) : Nat :=
  match (if s.boot.running = 0 then s.boot.bankA else s.boot.bankB) with
  | some b => b.press.version
  | none => 0

/-- Identity.ConfigGeneration: the generation of the copy in use (R158). -/
def State.configGeneration (s : State) : Nat := s.cfg.current.gen

/-- The four path records of a receipt, the lowest-numbered paths first. -/
def State.receiptPaths (s : State) (paths : List Nat) : Bytes :=
  (List.range 4).flatMap (fun i => match paths[i]? with
    | some p => s.pathRecord p
    | none => 0xFF#8 :: List.replicate 29 0#8)

/-- Bytes 0–191 of a receipt (Table 11-3), for the state at the trigger. -/
def State.receiptBody (s : State) (code : Nat) (paths : List Nat) (seq slot : Nat) : Bytes :=
  [0x4D#8, 0x56#8, 0x52#8, 0x43#8, 0x01#8, byteOf code] ++ leBytes 2 (bitmapOf paths)
    ++ s.bytesOf Obj.identitySerialNumber ++ leBytes 4 seq ++ leBytes 4 s.opSeconds
    ++ leBytes 4 (s.get Obj.powerStatePowerCycleCount) ++ leBytes 8 s.utcMicros ++ [byteOf s.anchorFlags]
    ++ [byteOf s.power.state.code, byteOf s.lifecycle, byteOf (s.get Obj.twinRole)]
    ++ leBytes 6 s.fabricTime ++ leBytes 6 s.fabricTime ++ leBytes 2 slot ++ [0#8, 0#8]
    ++ leBytes 4 s.runningVersion ++ leBytes 4 s.configGeneration
    ++ leBytes 2 (ofSigned 2 s.waterHeight) ++ leBytes 2 (ofSigned 2 s.waterRate)
    ++ [byteOf s.conditions, 0#8, 0#8, 0#8] ++ s.receiptPaths paths

/-- The snapshot payload of a shutdown (Table 16-4). -/
def State.shutdownSnapshot (s : State) (code : Nat) (paths : List Nat) (seq : Nat) : Bytes :=
  [byteOf code, 0#8] ++ leBytes 2 (bitmapOf paths) ++ leBytes 4 seq ++ leBytes 6 s.fabricTime ++ leBytes 6 s.fabricTime
    ++ leBytes 2 (ofSigned 2 s.waterHeight) ++ leBytes 2 (ofSigned 2 s.waterRate) ++ [byteOf s.conditions, 0#8]
    ++ (match paths with
        | p :: _ => s.pathRecord p
        | [] => 0xFF#8 :: List.replicate 29 0#8)

/-- The number of the receipt with a sequence in the store (R425). -/
def receiptKey (seq : Nat) : Nat := Obj.netReceipt ((seq - 1) % 16)

/-- A receipt body with its signature bytes. -/
def State.storeReceipt (s : State) (seq : Nat) (body sig : Bytes) : State :=
  s.set (receiptKey seq) (leNat (sliceBytes body 0 192 ++ sliceBytes sig 0 64))

/-- The snapshot record committed at once, so that its slot is known to the receipt (R418): 0xFFFF where the Cask takes
none. -/
def State.commitShutdownRecord (s : State) (payload : Bytes) : Nat × State :=
  let s := State.drainLogs s.logCount s
  let before := s.writeIndex
  let s := s.postLog .press 0x1608 3 31 true false payload
  let s := State.drainLogs s.logCount s
  (if s.writeIndex = before then 0xFFFF else before, s)

/-- The body passed to the Cork (R101, R426, R716): it signs within 15 ms, or the record states why not. -/
def State.askSignature (s : State) (seq : Nat) : State :=
  if !s.power.corkReady then s.leaveUnsigned seq 5
  else if s.badEntry rskEntry then s.leaveUnsigned seq 2
  else if (s.storedKey rskEntry).isNone then s.leaveUnsigned seq 1
  else if s.sec.entropyFailed then s.leaveUnsigned seq 3
  else if s.net.signing.isSome then { s with net.queued := s.net.queued ++ [seq] }
  else ({ s with net.signing := some seq }).arm .receiptSign 15000

/-- A latched lockout (R421): it survives restarts and power loss. -/
def State.latchLockout (s : State) : State :=
  let s := ((s.set Obj.netState 3).disarm .lockout).flag Obj.netSticky 1
  s.postLog .press 0x1709 3 31 false true []

/-- A timed lockout begun, latched where it is the third within Net.RepeatWindow (R421). -/
def State.timedLockout (s : State) : State :=
  let recent := s.net.history.filter (fun t => decide (s.opSeconds ≤ t + s.get Obj.netRepeatWindow))
  let s : State := { s with net.history := recent ++ [s.opSeconds] }
  if 2 ≤ recent.length then s.latchLockout
  else
    let stop := s.opSeconds + s.get Obj.netLockoutTime
    (({ s with net.lockoutEnd := stop }).set Obj.netState 2).arm .lockout (s.untilSecond stop)

/-- The lockout that a trigger brings (Table 11-2). -/
def State.beginLockout (s : State) (code : Nat) : State :=
  if code = 5 then s else if code = 6 then s.latchLockout else s.timedLockout

/-- The lanes and hints as a shutdown leaves them (R418 step 2, R423). -/
def State.shutLanes (s : State) : State :=
  let s := s.stopLanes
  ((s.cancelHint .harvest).cancelHint .push).retargetBias

/-- The power state after a shutdown (R418 step 6): STANDBY from ACTIVE or SERVICE; a relock to ACTIVE under way is
given up. -/
def State.shutPower (s : State) (code : Nat) : State :=
  if s.power.state = .active ∨ s.power.state = .service then s.fallToStandby (if code = 5 then 6 else 7)
  else
    match s.power.trans with
    | some ⟨.relock, .active⟩ => ({ s with power.trans := none }).beginRelock 240
    | _ => s.preemptCommit

/-- A network-protective shutdown (R418 to R426), for the paths that met the trigger. -/
def State.shutNetwork (s : State) (code : Nat) (paths : List Nat) : State :=
  let seq := s.get Obj.netReceiptLatest + 1
  let t := s.moveGains
  let before := t.power.state.code
  let s := ((t.hardMute).shutLanes).flag Obj.netSticky 0
  let c := s.commitShutdownRecord (t.shutdownSnapshot code paths seq)
  let s := (((c.2.bump Obj.netShutdownCount 1).set Obj.netLastTrigger code).set Obj.netReceiptLatest seq).storeReceipt seq
    (t.receiptBody code paths seq c.1) []
  let s := if 16 < seq then
      (s.bump Obj.netReceiptOverwritten 1).faultRow Obj.netSticky 2 .press 0x160A 1 31 [] else s
  let s := s.askSignature seq
  let s := ({ s with net.before := before }).beginLockout code
  let s := s.shutPower code
  (s.raiseIrq 3).raiseNotify .press 1 c.1 0x1608 (leBytes 2 (bitmapOf paths) ++ [byteOf code, 0#8] ++ leBytes 4 seq)

/-- A trigger of Table 11-2 met (R417, R420): suppressed while a lockout holds, else a shutdown. -/
def State.netTrigger (s : State) (code : Nat) (paths : List Nat) : State :=
  if 2 ≤ s.get Obj.netState then s.faultRow Obj.netSticky 3 .press 0x160B 1 31 []
  else s.shutNetwork code paths

/-- A signature by the RSK over bytes 0–191 of a stored receipt (R100, R101). -/
def State.signReceipt (s : State) (seq : Nat) (late : Bool) : State :=
  match s.storedKey rskEntry with
  | none => s
  | some key =>
    let body := sliceBytes (leBytes 256 (s.get (receiptKey seq))) 0 192
    let body := if late then body.set 69 0x01#8 else body
    let d := s.drawRandom 256
    d.2.storeReceipt seq body (Config.ecdsaSign key body d.1)

/-- Receipts still unsigned, signed as the Cork can again (R426): those the store still holds. -/
def State.signLate (s : State) : State :=
  if (s.storedKey rskEntry).isNone ∨ s.sec.entropyFailed ∨ !s.power.corkReady then s
  else
    let held := s.net.unsigned.filter (fun q => decide (s.get Obj.netReceiptLatest < q + 16))
    held.foldl (fun (s : State) q => s.signReceipt q true) { s with net.unsigned := [] }

/-- The end of a lockout (R421, R422): Net.State clear; after a timed one the Press requests ACTIVE under
Net.AutoResume where the unit was in ACTIVE when the shutdown began. -/
def State.endTimedLockout (s : State) : State :=
  if s.get Obj.netState ≠ 2 then s
  else
    let s := s.set Obj.netState 0
    if s.get Obj.netAutoResume == 1 && s.net.before == 4 && s.power.state == .standby && s.power.trans.isNone
        && s.activeRefusal.isNone then s.towardsActive 3
    else s

/-- Net.LockoutRemaining (Table 11-11). -/
def State.lockoutRemaining (s : State) : Nat :=
  if s.get Obj.netState = 2 then satBytes 2 (s.net.lockoutEnd - s.opSeconds) else 0

end Sys2Proof.Machine
end

