-- ==== Sys2Proof/Machine/LoopOps.lean ====
section
/-!
DEFINITION. The loop engines (R394 to R416): what a frame boundary and a probe leave in the registers, the triggers they
find, the schedule they teach, and the return of a band from its probe, at a takeover too (R643 to R646, R666).
-/

namespace Sys2Proof.Machine

open Sys2Proof

/-! ## Frames -/

/-- A measurement of a path that a command does not name: one that does not count. -/
def noMeas : PathMeas := ⟨false, 0, 0, false, false, 0⟩

/-- Whether a path's frame can count at all (R396): in service and out of settle suppression. -/
def State.frameCounts (s : State) (p : Nat) (m : PathMeas) : Bool :=
  m.counts && s.inService p && s.get (Obj.bandPathSettling p) == 0

/-- The frames that counted among the last `n` of a frame history. -/
def countFrames (bits n : Nat) : Nat := ((List.range n).filter (fun i => bits.testBit i)).length

/-- The frame sequence number of Stab.Loop. -/
def State.frameSeq (s : State) (p : Nat) : Nat := fieldAt (s.bytesOf (Obj.stabLoop p)) 12 2

/-- The single-frame estimate that a path publishes (R396, R398): the floor when it lies below it. -/
def State.singleFrame (s : State) (p : Nat) (m : PathMeas) : Int :=
  if m.singleAboveFloor then m.singleLoop else s.loopFloor p 1

/-- A counted frame (R396 to R399): Stab.Loop, the isolation estimate and the pilot limit. -/
def State.noteFrame (s : State) (p : Nat) (m : PathMeas) (bits : Nat) : State :=
  let floor := s.loopFloor p (countFrames bits (s.get Obj.stabPilotFrames))
  let coh := if m.coherentAboveFloor then m.coherentLoop else floor
  let single := s.singleFrame p m
  let iso := s.chainGain (s.dirOf p) - (coh - s.stageGain p)
  let s := s.set (Obj.stabLoop p) (leNat (loopBytes coh single floor (satBytes 2 iso.toNat) m.delayNs.toNat
    ((s.frameSeq p + 1) % 65536) (if m.coherentAboveFloor then 1 else 3)))
  s.setPath p { s.path p with
    frameBits := bits, countedAt := some s.now, loopDelay := m.delayNs.toNat
    pilotLimit := some (iso - s.get (Obj.stabMargin p)) }

/-- A frame that did not count (R396, R399): the single-frame estimate alone is new; with no frame counted in the last
coherent window, the pilot limit of a path in service falls by 0.10 dB and the coherent estimate is stale. -/
def State.missFrame (s : State) (p : Nat) (m : PathMeas) (bits : Nat) : State :=
  let old := s.bytesOf (Obj.stabLoop p)
  let single := if s.inService p then leBytes 2 (ofSigned 2 (s.singleFrame p m)) else sliceBytes old 2 2
  let stale := s.inService p && countFrames bits (s.get Obj.stabPilotFrames) == 0
  let flags := if stale then setBit (fieldAt old 14 1) 2 else fieldAt old 14 1
  let s := s.set (Obj.stabLoop p)
    (leNat (sliceBytes old 0 2 ++ single ++ sliceBytes old 4 8 ++ leBytes 2 ((s.frameSeq p + 1) % 65536) ++ [byteOf flags, 0#8]))
  let r := s.path p
  let s := s.setPath p { r with frameBits := bits, pilotLimit := if stale then r.pilotLimit.map (fun l => l - 10) else r.pilotLimit }
  if stale then s.flagFirst Obj.stabSticky 0 (fun s => s.log .press 0x1501 1 p []) else s

/-- A path at its direction's frame boundary: LoopFrame is raised (R431). -/
def State.framePath (s : State) (p : Nat) (m : PathMeas) : State :=
  let counted := s.frameCounts p m
  let bits := ((s.path p).frameBits * 2 + (if counted then 1 else 0)) % 2 ^ 64
  let s := if counted then s.noteFrame p m bits else s.missFrame p m bits
  s.fabEvent p 9

/-- Margin collapse (Table 11-2, 0x02): the single-frame estimate of a path in service, whether its frame counts for the
coherent sum or not. -/
def State.collapsed (s : State) (p : Nat) (m : PathMeas) : Bool :=
  s.inService p && m.singleAboveFloor && decide (-(s.get Obj.netCollapseMargin : Int) ≤ m.singleLoop)

/-- Pilot lost (Table 11-2, 0x07): no frame counted for PilotLossTime while in service. -/
def State.pilotLost (s : State) (p : Nat) : Bool :=
  let r := s.path p
  s.inService p && decide (max (r.countedAt.getD 0) r.serviceAt + 1000 * s.get Obj.netPilotLossTime ≤ s.now)

/-- The schedule point nearest to a height: its index, height and isolation. -/
def nearestPoint (pts : List (Nat × Int × Int)) (h : Int) : Option (Nat × Int × Int) :=
  pts.foldl (fun b x => match b with
    | none => some x
    | some y => if (x.2.1 - h).natAbs < (y.2.1 - h).natAbs then some x else some y) none

/-- The schedule points of a path with their positions. -/
def State.indexedSchedule (s : State) (p : Nat) : List (Nat × Int × Int) :=
  let bs := s.bytesOf (Obj.stabSchedule p)
  (List.range 16).filterMap (fun i =>
    if fieldAt bs (4 * i) 2 = 0xFFFF then none else some (i, (fieldAt bs (4 * i) 2 : Int), (fieldAt bs (4 * i + 2) 2 : Int)))

/-- The isolation of schedule point `i` lowered, with its flag and record (R402). -/
def State.lowerPoint (s : State) (p i : Nat) (old new : Nat) : State :=
  let bs := s.bytesOf (Obj.stabSchedule p)
  let s := s.set (Obj.stabSchedule p) (leNat (sliceBytes bs 0 (4 * i + 2) ++ leBytes 2 new ++ sliceBytes bs (4 * i + 4) (60 - 4 * i)))
  s.faultRow Obj.stabSticky 3 .press 0x1504 1 p (u32 i ++ leBytes 2 old ++ leBytes 2 new)

/-- What an estimate teaches the schedule (R402). -/
def State.learn (s : State) (p : Nat) (m : PathMeas) : State :=
  let iso : Int := s.isolation p
  if s.get Obj.stabScheduleLearn == 1 && s.frameCounts p m && m.coherentAboveFloor && s.waterValid then
    match interpolate (s.schedule p) s.waterHeight, nearestPoint (s.indexedSchedule p) s.waterHeight with
    | some sched, some pt => if iso + 100 < sched ∧ iso < pt.2.2 then s.lowerPoint p pt.1 pt.2.2.toNat iso.toNat else s
    | _, _ => s
  else s

/-- A gated path whose last counted frame is older than PilotMaxAge: its gain stage is lowered (R413). -/
def State.ageGated (s : State) (p : Nat) : State :=
  let low := s.clampGain p ((s.path p).computed - s.get Obj.stabStartBackoff)
  if s.get (Obj.stabState p) == 5 && s.staleLe p && decide (low < s.getI (Obj.stabApplied p)) then
    s.setI (Obj.stabApplied p) low
  else s

/-- Whether an enabled path has a schedule, which is evaluated at the waterline (R400, R401). -/
def State.wantsWater (s : State) : Bool := pathNums.any (fun p => s.bandOn p && !(s.schedule p).isEmpty)

/-- The onset of a missing waterline (Table 11-8): no valid one is published, and a schedule limit needs one (log entry
109). -/
def State.noteWater (s : State) : State :=
  if s.waterValid || !s.wantsWater then { s with loops.waterMissing := false }
  else if s.loops.waterMissing then s
  else ({ s with loops.waterMissing := true }).faultRow Obj.stabSticky 6 .press 0x1507 1 31 []

/-- A boundary of a direction reached, 10 ms after the one before (R396). -/
def State.toBoundary (s : State) (d : Dir) : State :=
  let s := match s.lastFrame d with
    | some t => s.elapse (t + 10000 - s.now)
    | none => s
  match d with
  | .ul => { s with loops.ulFrame := some s.now, loops.ulPassed := true }
  | .dl => { s with loops.dlFrame := some s.now, loops.dlPassed := true }

/-- An overrun's cut at a boundary (R449): one more class muted, or none once the measured sum is within the cap. -/
def State.stepOverrun (s : State) : State :=
  if !s.pa.overrun then s
  else if s.get Obj.paBudgetMeasured ≤ s.effectiveCap then { s with pa.overrun := false, pa.cut := 0 }
  else { s with pa.cut := min 3 (s.pa.cut + 1) }

/-- The probes that may begin at this boundary; after a takeover, none before a boundary of each direction (R643). -/
def State.beginProbes (s : State) : State :=
  if s.loops.reprobe then
    if s.loops.ulPassed && s.loops.dlPassed then ({ s with loops.reprobe := false }).startProbes else s
  else s.startProbes

/-- The budget, the gains and the commit brought up to date (R405, R447, R471). -/
def State.settleGains (s : State) : State := ((s.rebalance).advanceCommit true).tryFinish

/-- A loop-frame boundary of a direction (R175, R396 to R416, R449). -/
def State.loopFrame (s : State) (d : Dir) (meas : List PathMeas) : State :=
  let s := (s.toBoundary d).moveGains
  let m := fun p => meas.getD p noMeas
  let ps := s.liveOf d
  let all := (ps.filter s.inService).all (fun p => s.frameCounts p (m p))
  let some_ := ps.any (fun p => s.frameCounts p (m p))
  let col := ps.filter (fun p => s.collapsed p (m p))
  let s := ps.foldl (fun (s : State) p => s.framePath p (m p)) s
  let lost := ps.filter s.pilotLost
  if !col.isEmpty then s.netTrigger 2 (pathNums.filter (fun p => col.contains p || lost.contains p))
  else if !lost.isEmpty then s.netTrigger 7 lost
  else
    let s := ps.foldl (fun (s : State) p => (s.learn p (m p)).ageGated p) s
    let s := (s.noteWater).stepOverrun
    let s := if some_ then s.setHeld d false else s
    ((s.boundaryCommit d all).settleGains).beginProbes

/-! ## Probes -/

/-- Twin.LastTakeover and record 0x2706 at the first unmute after a takeover (R657). -/
def State.takeoverDone (s : State) : State :=
  match s.twin.takeover with
  | none => s
  | some (at_, cause) =>
    let ms := satBytes 2 ((s.now - at_) / 1000)
    let img := s.twin.takeoverImage.getD (0, 0xFFFF)
    let s : State := { s with twin.takeover := none }
    let s := s.set Obj.twinLastTakeover
      (leNat (leBytes 4 s.opSeconds ++ leBytes 4 img.1 ++ leBytes 2 img.2 ++ leBytes 2 ms ++ [byteOf cause]))
    s.faultRow Obj.twinSticky 5 .press 0x2706 2 31
      (leBytes 4 img.1 ++ leBytes 2 img.2 ++ [byteOf cause] ++ leBytes 2 ms)

/-- A stale image at a takeover's re-probe (R646, R666). -/
def State.rackStale (s : State) : State :=
  s.flagFirst Obj.twinSticky 3 (fun s => s.log .vintner 0x2604 1 31 [])

/-- Whether a probe is judged against racked path records (R644, R666). -/
def State.rackedProbe (s : State) (p q : Nat) : Bool :=
  match s.loops.adoptedAt with
  | none => false
  | some t => (s.path p).racked.isSome && (s.path q).racked.isSome
      && decide (s.now ≤ t + 1000 * s.get Obj.twinStaleLimit + 40000)

/-- Whether a path's 4-frame isolation agrees with its racked isolation (R644). -/
def State.agrees (s : State) (p : Nat) : Bool :=
  match (s.path p).racked with
  | some r => decide (r.2 ≤ s.isolation p + s.get Obj.twinProbeAgree)
  | none => false

/-- The coherent estimate of a path seeded with the racked value (R644). -/
def State.seedPath (s : State) (p : Nat) : State :=
  match (s.path p).racked with
  | some r => s.setPath p { s.path p with pilotLimit := some ((r.2 : Int) - s.get (Obj.stabMargin p)) }
  | none => s

/-- The racked records of a band used up. -/
def State.dropRacked (s : State) (p : Nat) : State := s.setPath p { s.path p with racked := none }

/-- A path's return after a re-probe that agreed (R644). -/
def State.returnRacked (s : State) (p : Nat) (applied : Int) : State :=
  s.unmute p (min applied (s.path p).computed - s.get Obj.twinTakeoverBackoff)

/-- A band returned from its probe (R410, R644). -/
def State.returnBand (s : State) (p q : Nat) : State :=
  if s.rackedProbe p q && s.agrees p && s.agrees q then
    let a := ((s.path p).racked.getD (0, 0)).1
    let b := ((s.path q).racked.getD (0, 0)).1
    let s := (((s.seedPath p).seedPath q).rebalance)
    ((((s.returnRacked p a).returnRacked q b).dropRacked p).dropRacked q).takeoverDone
  else
    let s := s.rebalance
    let back := s.get Obj.stabStartBackoff
    let s := (s.unmute p ((s.path p).computed - back)).unmute q ((s.path q).computed - back)
    ((s.dropRacked p).dropRacked q).takeoverDone

/-- The re-probe's disagreement recorded (R644, R657): path, racked and measured isolation. -/
def State.noteDisagreed (s : State) (p q : Nat) : State :=
  if s.rackedProbe p q then
    match [p, q].find? (fun x => !s.agrees x) with
    | some x => s.faultRow Obj.twinSticky 8 .press 0x2709 1 31
        (u32 x ++ leBytes 2 ((s.path x).racked.getD (0, 0)).2 ++ leBytes 2 (s.isolation x))
    | none => s
  else if (s.path p).racked.isSome && s.loops.adoptedAt.isSome then s.rackStale
  else s

/-- Whether a probe has passed (R410): all frames counted, and each pilot limit at least the path's MinGain. -/
def State.probePasses (s : State) (p : Nat) (m : PathMeas) : Bool :=
  m.counts && (match (s.path p).pilotLimit with
    | some l => decide (s.getI (Obj.stabMinGain p) ≤ l)
    | none => false)

/-- A probe that failed (R411). -/
def State.failProbe (s : State) (p q : Nat) : State :=
  let s := (s.set (Obj.stabState p) 6).set (Obj.stabState q) 6
  let lim := ((s.path p).pilotLimit.getD 0)
  let s := s.faultRow Obj.stabSticky 1 .press 0x1502 2 p (u32 p ++ leBytes 2 (ofSigned 2 lim))
  ((((s.dropRacked p).dropRacked q).waitProbe p).waitProbe q)

/-- A burst within 1 ms of the end of the last probe in progress (R545). -/
def State.burstAfterProbes (s : State) : State := if s.probing then s else s.scheduleBurst 1000

/-- A passed probe (Table 1-4, R20, R410): the band returns if every gate is still open, else it stays muted until the next
probe. -/
def State.passProbe (s : State) (p q : Nat) : State :=
  let b := if s.dirOf p = .ul then (p, q) else (q, p)
  if s.gatesOpen b then s.returnBand p q else (s.set (Obj.stabState p) 0).set (Obj.stabState q) 0

/-- The end of a probe of a band (R410, R411, R431, R545). -/
def State.probeEnd (s : State) (p q : Nat) (own partner : PathMeas) : State :=
  let s := ((s.noteProbe p own).noteProbe q partner).disarm (.probe q)
  let s := (s.fabEvent p 11).fabEvent q 11
  let s := s.noteDisagreed p q
  let s := if s.probePasses p own && s.probePasses q partner then s.passProbe p q else s.failProbe p q
  (s.burstAfterProbes).settleGains

/-! ## Demotion -/

/-- Whether REF_IN has been lost since the core domain's release (R720). -/
def State.refLost (s : State) : Bool := s.power.refSeen && !s.power.refPresent

/-- Whether the active must demote itself (R648, R662, Table 17-10 row 8): Sealed, without REF_IN or 1 s without the relay,
with the link up and a ready partner. -/
def State.demoteDue (s : State) : Bool :=
  s.twin.enabled && s.pins.twinAct && s.get Obj.twinLinkState == 2 && s.twin.peerReady == 0xFF
    && (s.pa.breach || s.refLost || (s.twin.relayLost && !s.armed .relayLost))

/-- A demotion (R648): Departing with cause 4, TWIN_ACT low, role standby, and STANDBY from ACTIVE. -/
def State.demote (s : State) : State :=
  let s := s.depart 4
  if s.power.state = .active then s.fallToStandby 8 else s

/-- The demotion that its conditions call for. -/
def State.demoteIfDue (s : State) : State := if s.demoteDue then s.demote else s

end Sys2Proof.Machine
end

