-- ==== Sys2Proof/Machine/Band.lean ====
section
/-!
DEFINITION. The front-end and licence-exempt commands (ch. 10).
-/

namespace Sys2Proof.Machine

open Sys2Proof

/-! ## The front end -/

/-- What follows the lock of a retune, or its last failure (R378, R390): the waiting Move entries of its direction are
applied, and the next sequence plays. -/
def State.afterRetune (s : State) (d : Dir) : State := (((s.moveDir d).nextSeq).advanceCommit false).tryFinish

/-- A retune locked (R378). -/
def State.lockSeen (s : State) (d : Dir) : State := (s.retuneLocked d).afterRetune d

/-- A sequence that has failed, and what follows its last failure (R390). -/
def State.seqFailed (s : State) (r : FeRun) (bit code : Nat) (payload : Bytes) : State :=
  let s := s.failSeq r.seq bit code r.replayed payload
  if !r.replayed then s
  else if r.seq = 1 then s.nextSeq
  else s.afterRetune (seqDir r.seq)

/-- The next entry of a sequence, or its end (R374, R376, R393). -/
def State.nextEntry (s : State) (r : FeRun) : State :=
  if r.pos + 1 < s.seqCount r.seq then { s with fe.run := some { r with pos := r.pos + 1, since := s.now } }
  else
    let s := s.seqPlayed r.seq r.replayed
    if r.seq = 1 then s.nextSeq else s

/-- One entry of Table 10-2 played: GPIO lines, or an SPI word; a compare entry's received word must equal Expected. -/
def State.playEntry (s : State) (r : FeRun) (received : Nat) : State :=
  let i := s.seqWord r.seq % 256 + r.pos
  let e := s.feEntry i
  let f := fun o n => fieldAt e o n
  let fmt := f 1 1
  let mask := 2 ^ (8 * (fmt % 4 + 1)) - 1
  if fmt.testBit 2 then (s.driveGpio (f 6 2) (f 4 2)).nextEntry r
  else
    let s : State := { s with fe.sent := some (f 0 1, fmt % 4, f 4 4 &&& mask) }
    if fmt.testBit 3 && (received &&& mask) != (f 8 4 &&& mask) then
      s.seqFailed r 1 0x1302 (u32 i ++ u32 (received &&& mask))
    else s.nextEntry r

/-- The instant at which the entry playing is over, no earlier than its wait time after it began (R374). -/
def State.entryWait (s : State) (r : FeRun) : State :=
  s.elapse (r.since + fieldAt (s.feEntry (s.seqWord r.seq % 256 + r.pos)) 2 2 - s.now)

/-- FE_ENTRY_DONE (R374, R375, R390, R393): the entry's transaction and wait are complete. -/
def execFeEntryDone (received : BitVec 32) (s : State) : Out :=
  .next (match s.fe.run with
    | some r =>
      if r.phase = .entries ∧ s.running ∧ s.power.pressReady then (s.entryWait r).playEntry r received.toNat else s
    | none => s)

/-- The lock line of a direction, or 0xFF (R378). -/
def State.lockLine (s : State) (d : Dir) : Nat :=
  match d with
  | .ul => s.get Obj.frontEndLockGpioUL
  | .dl => s.get Obj.frontEndLockGpioDL

/-- Whether a retune of a direction waits for lock. -/
def State.awaitsLock (s : State) (d : Dir) : Bool :=
  match s.fe.run with
  | some r => r.phase == .lock && r.seq == retuneSeq d
  | none => false

/-- LOCK_POLL (R378): the lock line read high ends the wait. -/
def execLockPoll (d : Dir) (level : Bool) (s : State) : Out :=
  .next (s.when (s.awaitsLock d && s.lockLine d != 0xFF && level) (fun s => s.lockSeen d))

/-- LOCK_TIMEOUT (R378, R390): no lock line means lock; otherwise the fault, with direction, sequence and line level. -/
def execLockTimeout (d : Dir) (s : State) : Out :=
  .next (s.onTimer (.lockTimeout d) (fun s =>
    match s.fe.run with
    | some r =>
      if !s.awaitsLock d then s
      else if s.lockLine d = 0xFF then s.lockSeen d
      else s.seqFailed r 0 0x1301 (u32 (dirNum d) ++ u32 r.seq ++ u32 0)
    | none => s))

/-- FE_SEQUENCE_REPLAY (R390): the one replay, 100 ms after the failure. -/
def execFeSequenceReplay (s : State) : Out :=
  .next (s.onTimer .feReplay (fun s =>
    match s.fe.run with
    | some r => if r.phase ≠ .replay then s
      else if s.seqCount r.seq = 0 then s.seqPlayed r.seq true
      else s.startSeq r.seq true
    | none => s))

/-! ## Licence-exempt switching -/

/-- LE_DETECT (R380 to R384, R391): the condition met on a side, or on both in one sample. -/
def execLeDetect (d : Dir) (both : Bool) (s : State) : Out :=
  .next (s.when s.running (fun s =>
    match s.leOpen with
    | some o => if (o = d ∧ !both) ∨ s.leBarredSide (otherDir o) then s else s.bump Obj.leBlockedCount 1
    | none =>
      if s.get Obj.leDirection = 3 ∨ !s.leReady then s
      else
        let tie : Dir := if s.get Obj.leTieDirection = 0 then .ul else .dl
        let side := if both && !s.leBarredSide tie then tie
          else if both then otherDir tie else d
        if s.leBarredSide side then s else s.openGate side))

/-- LE_RELEASE (R382): the open path has stayed below Le.ReleaseLevel for Le.HangTime. -/
def execLeRelease (s : State) : Out :=
  .next (match s.leOpen with
    | some d => (s.endStreak d).enterGuard
    | none => s)

/-- A hold ended by MaxHold counted; the third of a direction within 10 s bars the side (R391). -/
def State.countMaxHold (s : State) (d : Dir) : State :=
  let mine := s.le.streak.filter (fun x => x.1 == d && decide (s.now ≤ x.2 + 10000000))
  let others := s.le.streak.filter (fun x => x.1 != d)
  if 2 ≤ mine.length then
    let s : State := { s with le.streak := others }
    let s := s.set Obj.leBarred (setBit (s.get Obj.leBarred) (dirNum d))
    (s.arm (.leBar d) (1000000 * s.get Obj.leBarTime)).faultRow Obj.leSticky 1 .press 0x1404 1 (dirNum d) (u32 (dirNum d))
  else { s with le.streak := others ++ mine ++ [(d, s.now)] }

/-- LE_MAX_HOLD (R382, R390, R391): MaxHold has elapsed since opening. -/
def execLeMaxHold (s : State) : Out :=
  .next (s.onTimer .leMaxHold (fun s =>
    match s.leOpen with
    | some d =>
      let s := s.enterGuard
      let s := s.flagFirst Obj.leSticky 0 (fun s => s.log .press 0x1403 1 (dirNum d) [])
      s.countMaxHold d
    | none => s))

/-- LE_GUARD_END (R382). -/
def execLeGuardEnd (s : State) : Out :=
  .next (s.onTimer .leGuard (fun s => if s.get Obj.leDirection = 3 then s.set Obj.leDirection 0 else s))

/-- LE_BAR_END (R391): a barred side returns to service. -/
def execLeBarEnd (d : Dir) (s : State) : Out :=
  .next (s.onTimer (.leBar d) (fun s => s.set Obj.leBarred (clearBit (s.get Obj.leBarred) (dirNum d))))

end Sys2Proof.Machine
end

