-- ==== Sys2Proof/Machine/Rails.lean ====
section
/-!
DEFINITION. The trellis commands (ch. 13): HK-A readings, enables, power-good, the core domain's release, faults,
shutdown steps, retries and margin DAC steps.
-/

namespace Sys2Proof.Machine

open Sys2Proof

/-- Slots good, as a mask. -/
def State.goodMask (s : State) : Nat :=
  slots.foldl (fun m n => if s.get (Obj.railSlotState n) = 5 then setBit m n else m) 0

/-- The payload of a rail snapshot (Table 16-4, R515): record bytes 12 to 91. -/
def State.railSnapshot (s : State) (n source : Nat) : Bytes :=
  let rel := fun t => if t = 0 then 0 else t - 1 - s.rail.seqStart
  let oldest := slots.foldl (fun a m => max a (s.now - (lookupD s.rail.readAt m 0))) 0
  let margins := (List.range 4).map (fun m =>
    byteOf (s.get (Obj.marginCommand m) * 16 + s.get (Obj.marginState m)))
  [byteOf source, byteOf (s.get Obj.railSeqAttempt), byteOf (s.get (Obj.railSlotRetries n)), 0x00#8]
    ++ leBytes 4 (rel (lookupD s.rail.enabledAt n 0)) ++ leBytes 4 (s.now - s.rail.seqStart)
    ++ slots.flatMap (fun m => leBytes 2 (s.get (Obj.railSlotReading m)))
    ++ leBytes 2 (satBytes 2 oldest)
    ++ leBytes 2 s.pins.railEn.toNat ++ leBytes 2 s.pins.pgLevel.toNat ++ leBytes 2 s.goodMask
    ++ margins ++ [byteOf s.rail.abandoned]

/-- Slots that depend on a slot directly or through others, nearest first. -/
def State.dependentsAll (s : State) : Nat → Nat → List Nat
  | 0, _ => []
  | fuel + 1, n => (s.dependents n).flatMap (fun m => m :: s.dependentsAll fuel m)

/-- A slot and its dependents released at once, dependents first (R497). -/
def State.releaseNow (s : State) (n : Nat) : State :=
  (((n :: s.dependentsAll 16 n).eraseDups).reverse).foldl (fun s m => if s.railOn m then s.releaseRail m else s) s

/-- What every rail fault leaves (R499, R513, R515, R521): margins returned, counts, the flag and the snapshot. -/
def State.railFaultRecord (s : State) (n bit source : Nat) : State :=
  let s := s.returnMargins
  let s := (s.bump (Obj.railSlotFaultCount n) 1).bump Obj.railSeqFaultCount 1
  let s := s.flag (Obj.railSlotSticky n) bit
  let s := s.postLog .cellar (if bit = 0 then 0x1D01 else 0x1E01 + bit) 3 n true false (s.railSnapshot n source)
  { s with rail.abandoned := 0 }

/-- The shutdown that a rail fault joins or starts (R491, R494, R499, R500, R721). -/
def State.railFaultShutdown (s : State) (n : Nat) : State :=
  match s.rail.shutdown with
  | some d =>
    ({ s with rail.shutdown := some { d with faults := d.faults ++ [n] } }).set Obj.powerStateLastReason 0x11
  | none => s.beginShutdown .rail 0x11 false (1000 * s.get Obj.railSeqWarnLead) [n]

/-- A slot that missed its ramp released at once (R491). -/
def State.releaseMissed (s : State) (n : Nat) : State :=
  let s := (s.driveRail n false).disarm (.railRamp n)
  { s with rail.releasedAt := putKey s.rail.releasedAt n (s.now + 1) 0 }

/-- A rail fault declared (R491, R494, R497 to R500, R515, R521, R721): its record; then HOLDUP for an undervoltage of
S00, nothing more in HOLDUP, or PFW_N, the hard mute, the lanes' stop (R496) and the shutdown, an overvoltage with
OvAction releasing its slot at once. -/
def State.railFault (s : State) (n bit source : Nat) : State :=
  let starting := decide (1 ≤ s.get Obj.railSeqState ∧ s.get Obj.railSeqState ≤ 3)
  let s := (s.railFaultRecord n bit source).set (Obj.railSlotState n) 7
  if s.power.state == .holdup then s
  else if bit == 1 && n == 0 then s.enterHoldup
  else
    let s := ((s.flag Obj.railSeqSticky (if starting then 0 else 1)).hardMute).stopLanes
    let s : State := { s with pins.pfwN := false }
    let s := if bit == 0 then s.releaseMissed n else s
    let s := s.railFaultShutdown n
    if bit == 2 && s.get (Obj.railSlotOvAction n) == 1 then s.releaseNow n else s

/-- Whether every configured slot of this start is good (R483). -/
def State.trellisGood (s : State) : Bool :=
  slots.all (fun n => s.trellis (Obj.railSlotEnable n) == 0
    || (s.power.limitedStart && !(s.trellis Obj.railSeqCoreSet).testBit n)
    || s.get (Obj.railSlotState n) == 5)

/-- Whether CoreSet is good (R482). -/
def State.coreSetGood (s : State) : Bool :=
  slots.all (fun n => !(s.trellis Obj.railSeqCoreSet).testBit n || s.get (Obj.railSlotState n) == 5)

/-- A start in progress. -/
def State.starting (s : State) : Bool :=
  match s.power.trans with
  | some t => t.kind == .start
  | none => false

/-- The start goes on as far as it can: CoreSet good releases the core domain, the cores' report lets the rest follow,
and the whole trellis good ends the start. -/
def State.advanceStart (s : State) : State :=
  if !s.starting then s
  else
    let s := if !s.power.coreReleased && s.coreSetGood then s.releaseCore else s
    let s := s.startDelays
    if s.rail.coresReadyAt.isSome ∧ s.trellisGood then s.trellisComplete else s

/-- The entries as committed, for the next scan (R556). -/
def State.hkaSequence (s : State) : List Nat := slots.map (fun n => s.get (Obj.hkAEntry n))

/-- The gain of an HK-A entry (R556). -/
def State.hkaGain (s : State) (n : Nat) : Nat := 2 ^ (s.hkaEntry n / 256 % 256)

/-- A single-ended conversion (R555): the code, limited to full scale, and whether it was clipped. -/
def convert (gain : Nat) (input : Int) : Nat × Bool :=
  let raw := input * gain
  if 32767 < raw then (32767, true) else if raw < 0 then (0, false) else (raw.toNat, false)

/-- A slot's reading in mV at the rail, of a code (R476, R555), to the nearest mV (log entry 10). -/
def State.railMilli (s : State) (n code : Nat) : Nat :=
  satBytes 2 (roundDiv (code * 1200 * s.trellis (Obj.railSlotSenseRatio n)) (32768 * s.hkaGain n * 1000)).toNat

/-- Whether a reading lies in a slot's window with its power-good where required (R478). -/
def State.findsGood (s : State) (n r : Nat) : Bool :=
  decide (s.get (Obj.railSlotUvThreshold n) ≤ r ∧ r ≤ s.get (Obj.railSlotOvThreshold n))
    && (s.trellis (Obj.railSlotPgMode n) == 0 || s.rail.pgCounted.getLsbD n)

/-- A margined slot's reading after the end of a move (R512). -/
def State.marginReading (s : State) (n r : Nat) : State :=
  match s.margin.find? (fun x => decide (0 < x.scans) && s.get (Obj.marginSlot x.ch) == n) with
  | none => s
  | some x =>
    let goal := if x.target = 1 then s.get (Obj.marginHigh x.ch) else if x.target = 2 then s.get (Obj.marginLow x.ch)
      else s.get (Obj.railSlotNominal n)
    let diff := if goal < r then r - goal else goal - r
    let rest := s.margin.filter (fun y => !(y.ch == x.ch))
    if 1000 * diff ≤ goal * s.get (Obj.marginTolerance x.ch) then
      ({ s with margin := rest }).set (Obj.marginState x.ch) (if x.target = 0 then 0 else x.target + 1)
    else if x.scans < 2 then { s with margin := { x with scans := x.scans + 1 } :: rest }
    else
      let s := ({ s with margin := rest }).faultRow Obj.marginSticky x.ch .cellar 0x210D 1 x.ch
        ([byteOf x.ch, byteOf x.target] ++ leBytes 2 r)
      let s := s.set (Obj.marginCommand x.ch) 0
      if x.target = 0 then s.set (Obj.marginState x.ch) 0 else s.startMargin x.ch 0

/-- A reading evaluated (R478, R484, R486 to R492, R497, R498): what it means for a slot in each state. An undervoltage of
S00 counts as long as its enable is asserted, another fault of it declared or not. -/
def State.railReading (s : State) (n r begin_ : Nat) : State :=
  let st := s.get (Obj.railSlotState n)
  let ov := s.get (Obj.railSlotOvThreshold n)
  if st = 4 then
    if ov < r then s.railFault n 2 0
    else if s.findsGood n r then
      let s := (s.set (Obj.railSlotState n) 5).disarm (.railRamp n)
      ({ s with rail.goodAt := putKey s.rail.goodAt n (s.now + 1) 0 }).advanceStart
    else if lookupD s.rail.enabledAt n 0 + 10 * s.trellis (Obj.railSlotRampTime n) ≤ begin_ + 1 then
      s.railFault n 0 0
    else s
  else if st = 5 then
    if r < s.get (Obj.railSlotUvThreshold n) then s.railFault n 1 0
    else if ov < r then s.railFault n 2 0
    else
      let low := s.get (Obj.railSlotMinSeen n)
      let s := (s.set (Obj.railSlotMinSeen n) (if low = 0 then r else min r low)).set (Obj.railSlotMaxSeen n)
        (max r (s.get (Obj.railSlotMaxSeen n)))
      s.marginReading n r
  else if st = 6 ∧ 10 * r < s.get (Obj.railSlotNominal n) then s.slotOff n
  else if s.railOn n then (if n = 0 ∧ st = 7 ∧ r < s.get (Obj.railSlotUvThreshold 0) then s.railFault 0 1 0 else s)
  else if ov < r ∧ lookupD s.rail.releasedAt n 0 ≠ 0 then
    (s.flag (Obj.railSlotSticky n) 2).postLog .cellar 0x1E03 1 n true false (s.railSnapshot n 0)
  else
    let since := s.now + 1 - lookupD s.rail.releasedAt n 0
    if s.get (Obj.railSlotNominal n) ≤ 10 * r ∧ 10 * s.get (Obj.railSlotOffTime n) < since then
      s.flagFirst (Obj.railSlotSticky n) 4 (fun s => s.log .cellar 0x2005 1 n [])
    else s

/-- A start that waited for HK-A begins its sequence (R477, R483). -/
def State.sequenceStart (s : State) : State :=
  if s.starting then ({ s with rail.seqStart := s.now }).startDelays else s

/-- HKA_START (R477, R483, R558): the reference has been on for 2 ms; conversions begin, and with the first scan the
sequence of a start that waits for it. -/
def execHkaStart (s : State) : Out :=
  .next (s.when (s.awake && !s.rail.adcOn) (fun s =>
    ({ s with rail.adcOn := true, rail.scan := s.hkaSequence, rail.slot := 0, rail.window := s.now } : State).sequenceStart))

/-- RAIL_ENABLE (R480): the slot's delay has run; its enable is asserted and its ramp window starts. -/
def execRailEnable (slot : Fin 16) (s : State) : Out :=
  .next (s.supervised (fun s => s.onTimer (.railDelay slot.val) (fun s =>
    if s.get (Obj.railSlotState slot.val) = 3 then
      let s := (s.driveRail slot.val true).set (Obj.railSlotState slot.val) 4
      { s with rail.enabledAt := putKey s.rail.enabledAt slot.val (s.now + 1) 0 }
    else s)))

/-- WARN_LEAD_EXPIRY (R494): the timed shutdown starts. -/
def execWarnLeadExpiry (s : State) : Out :=
  .next (s.supervised (fun s => s.onTimer .warnLead State.goDown))

/-- HOLDUP_LEAD_EXPIRY (R507): the shutdown of HOLDUP starts. -/
def execHoldupLeadExpiry (s : State) : Out :=
  .next (s.supervised (fun s => s.onTimer .holdupLead State.goDown))

/-- HOLDUP_STEP_EXPIRY (R507): a step's HoldupStep is over. -/
def execHoldupStepExpiry (slot : Fin 16) (s : State) : Out :=
  .next (s.supervised (fun s => s.onTimer (.holdupStep slot.val) (fun s => s.slotOff slot.val)))

/-- RAIL_OFF (R484): a released slot reads below 10 % of Nominal. -/
def execRailOff (slot : Fin 16) (s : State) : Out :=
  .next (s.supervised (fun s => s.when (s.get (Obj.railSlotState slot.val) == 6) (fun s => s.slotOff slot.val)))

/-- RAIL_OFF_TIME_EXPIRY (R484, R485): a slot still up at its OffTime sets SlowOff, and the shutdown proceeds. -/
def execRailOffTimeExpiry (slot : Fin 16) (s : State) : Out :=
  .next (s.supervised (fun s => s.onTimer (.railOffTime slot.val) (fun s =>
    let s := if s.get (Obj.railSlotNominal slot.val) ≤ 10 * s.get (Obj.railSlotReading slot.val) then
        s.flagFirst (Obj.railSlotSticky slot.val) 5 (fun s =>
          s.log .cellar 0x2006 1 slot.val [])
      else s
    s.slotOff slot.val)))

/-- RETRY_BACKOFF_EXPIRY (R502): the next attempt starts from DORMANT. -/
def execRetryBackoffExpiry (s : State) : Out :=
  .next (s.supervised (fun s => s.onTimer .retryBackoff (fun s => s.beginStart 0x12 false false)))

/-- ATTEMPT_RESET (R503): Attempt returns to 1. -/
def execAttemptReset (s : State) : Out :=
  .next (s.onTimer .attemptReset (fun s => s.set Obj.railSeqAttempt 1))

/-- MARGIN_DAC_STEP (R511): one code towards the goal every 10 µs; on the return, high impedance 100 µs after
DacNeutral. The move then waits for its readings (R512). -/
def execMarginDacStep (ch : Fin 4) (s : State) : Out :=
  .next (s.onTimer (.marginStep ch.val) (fun s =>
    match s.margin.find? (fun r => r.ch == ch.val) with
    | none => s
    | some r =>
      let rest := s.margin.filter (fun x => !(x.ch == ch.val))
      let goal := s.marginGoal ch.val r.target
      if r.code = goal then
        if r.target = 0 then
          if r.steps.isEmpty then ({ s with margin := { r with steps := [9] } :: rest }).arm (.marginStep ch.val) 100
          else { s with margin := { r with steps := [], scans := 1 } :: rest, pins.mrg := dropKey s.pins.mrg ch.val }
        else { s with margin := { r with scans := 1 } :: rest }
      else
        let code := if r.code < goal then r.code + 1 else r.code - 1
        ({ s with margin := { r with code := code } :: rest, pins.mrg := putKey s.pins.mrg ch.val (code + 1) 0 }).arm
          (.marginStep ch.val) 10))

/-! ## Readings and power-good -/

/-- A reading lost while the Cellarmaster pair recovers (R557, R581). -/
def State.hkaLost (s : State) : State :=
  (s.bump Obj.hkAOverrunCount 1).faultRow Obj.hkSticky 0 .cellar 0x2401 1 31 []

/-- One HK-A result (R475, R476, R554 to R556): its window follows the one before, and it arrives 64 µs after its window
ends; a changed sequence takes effect at the next scan. -/
def State.hkaResult (s : State) (n : Nat) (input : Int) : State :=
  let time := s.hkaTime n
  let s := s.elapse (s.rail.window + time + 64 - s.now)
  let s : State := { s with rail.slot := (n + 1) % 16, rail.window := s.now - 64 }
  let c := convert (s.hkaGain n) input
  let r := s.railMilli n c.1
  let s : State :=
    if s.wd.lockstepBusy then s.hkaLost
    else
      let s := (s.set (Obj.hkAResult n) (c.1 + 65536 * (if c.2 then 3 else 1))).set (Obj.railSlotReading n) r
      let s : State := { s with rail.readAt := putKey s.rail.readAt n s.now 0 }
      s.railReading n r (s.now - 64 - time)
  if n = 15 then { s with rail.scan := s.hkaSequence } else s

/-- HKA_READING (R475 to R498, R512 to R521, R554 to R557, R581): the result of the slot whose turn it is, its input in
codes at gain 1. -/
def execHkaReading (slot : Fin 16) (input : Int) (s : State) : Out :=
  .next (s.when (s.awake && s.rail.adcOn && s.rail.slot == slot.val) (fun s => s.hkaResult slot.val input))

/-- The level of PG_xx counted (R479, R493): a good slot that watches it takes a power-good fault at a low. -/
def State.countPg (s : State) (n : Nat) : State :=
  let high := s.pins.pgLevel.getLsbD n
  let was := s.rail.pgCounted.getLsbD n
  let s : State := { s with rail.pgCounted := BitVec.ofNat 16 (putBit s.rail.pgCounted.toNat n high) }
  if was && !high && s.get (Obj.railSlotState n) == 5 && s.trellis (Obj.railSlotPgMode n) == 1 then s.railFault n 3 1
  else s

/-- PG_CHANGE (R92, R479, R493, R494, R521): PG_xx has held a new level for RailSeq.PgFilter; while the Cellarmaster pair
recovers the new level is not counted yet. -/
def execPgChange (slot : Fin 16) (high : Bool) (s : State) : Out :=
  .next (s.when s.awake (fun s =>
    let s : State := { s with pins.pgLevel := BitVec.ofNat 16 (putBit s.pins.pgLevel.toNat slot.val high) }
    s.supervised (fun s => s.countPg slot.val)))

end Sys2Proof.Machine
end

