-- ==== Sys2Proof/Machine/Power.lean ====
section
/-!
DEFINITION. The power-supply, wake, clock and watchdog commands (ch. 02, 03).
-/

namespace Sys2Proof.Machine

open Sys2Proof

/-! ## Supply (R34 to R50, R64, R154) -/

/-- Whether a register keeps its value through power loss (Table 5-3): sticky flags, what lies in fuses, the key store or
OTP, and every Persistent RO object that counts nothing; a count is as the last write-back left it (R156). -/
def keepsThroughLoss (k : Nat) : Bool :=
  match objOf k with
  | some d => d.acc == .rw1c || d.pers == .fuse || d.pers == .keyStore || d.pers == .otp
      || (isPersistentRo k && !isCounter k)
  | none => false

/-- The registers after power loss (R154 to R156, R158): the configuration image in use, the sticky flags, and what
does not lie in the store; every other register is at its default. -/
def State.dictAfterLoss (s : State) : List (Nat × Nat) :=
  overlay (s.dict.filter (fun p => keepsThroughLoss p.1)) ((s.cfg.current.image ++
    (if s.cfg.marker then s.cfg.journal else [])).filter (fun p => !keepsThroughLoss p.1))

/-- The configuration store as power is lost (R157): whether the commit marker of a journal in writing had followed it is
open (log entry 119). -/
def Cfg.cut (c : Cfg) (marked : Bool) : Cfg := { c with marker := !c.journal.isEmpty && marked }

/-- VDD_AON below the brown-out threshold (R39, R64, R142, R154, R503): every output released, and only what is
non-volatile kept. Open sessions have ended, and receipts the Cork had not signed are found at its next start (R26). -/
def State.powerLoss (s : State) : State :=
  let s := (s.cutRecord).cutEntry
  let d := s.draw
  let s : State := { d.2 with cfg := s.cfg.cut (d.1 % 2 == 1) }
  { State.reset with
    pending := s.pending
    time := { s.time with opFrac := 0, coreFrac := 0, uncountedFrac := 0 }
    dict := s.dictAfterLoss
    cfg := s.cfg
    sec := { State.reset.sec with
      fuses := s.sec.fuses, securityCounter := s.sec.securityCounter, slot0Revoked := s.sec.slot0Revoked,
      keyStore := s.sec.keyStore, keyWrites := s.sec.keyWrites,
      rskPublic := s.sec.rskPublic, rskEndorsement := s.sec.rskEndorsement, erased := s.sec.erased,
      ended := s.sec.ended ++ (s.sec.sessions.filter (fun x => x.isOpen)).map (fun x => x.sid) }
    boot := s.boot
    upd := s.upd
    pins := { State.reset.pins with
      sealN := s.pins.sealN, ovenOk := s.pins.ovenOk, twinSel := s.pins.twinSel,
      pgLevel := s.pins.pgLevel, rstN := s.pins.rstN, vddioA := s.pins.vddioA,
      vddioAbove25 := s.pins.vddioAbove25, cellsOnAon := s.pins.cellsOnAon }
    mems := { s.mems with mbReq := [], mbRsp := [], rcv := [] }
    cask := { State.reset.cask with ullageNotified := s.cask.ullageNotified }
    net := s.net
    pa := { PaUnit.idle with breach := s.pa.breach }
    free := s.free }

/-- BROWN_OUT (R39, R64): any state to OFF. -/
def execBrownOut (s : State) : Out := .next (s.when s.awake State.powerLoss)

/-- What the Cellarmaster finds as VDD_AON rises (R45, R86, R191, R509). -/
def State.powerOnChecks (s : State) : State :=
  let s := if s.pins.tmode && s.lifecycle != 0 then s.faultRow Obj.securitySticky 7 .cellar 0x0608 1 31 [] else s
  let s := if s.ctl 0x18 4 != 0 && s.ctl 0x18 4 != s.ctl 0x1C 4 then
      s.faultRow Obj.railSeqSticky 5 .cellar 0x200C 1 31 (leBytes 4 (s.ctl 0x18 4))
    else s
  let u := s.get Obj.updateState
  let s := if decide (1 ≤ u ∧ u ≤ 3) then
      (s.set Obj.updateState 4).faultRow Obj.updateSticky 2 .vintner 0x090A 1 31 []
    else s
  s.set Obj.watchdogLockout 0

/-- What runs as VDD_AON rises: the write-back of counters (R156), the wake timer (R69), and from before the power loss a
timed lockout (R421), the wait of an automatic seal (R465), and the start check of the lid (R575). -/
def State.powerOnTimers (s : State) : State :=
  let s := s.arm .counterWriteback 60000000
  let s := if s.get Obj.powerStateWakeTimer = 0 then s else s.arm .wakeTimer (1000000 * s.get Obj.powerStateWakeTimer)
  let s := if s.get Obj.netState = 2 then s.arm .lockout (s.untilSecond s.net.lockoutEnd) else s
  let s := if s.pa.breach && s.get Obj.sealMode == 0 && s.pins.sealN then
      s.arm .sealClear (1000000 * s.get Obj.sealClearTime) else s
  if s.get Obj.lidEnable = 1 then { (s.set Obj.lidState 1) with lid.checking := true } else s

/-- The level at which TMODE stands when VDD_AON rises (R45): no command drives that pin, so that it is a free value (log
entry 132). -/
def State.sampleTmode (s : State) : State :=
  let d := s.draw
  { d.2 with pins.tmode := d.1 % 2 == 1 }

/-- VDD_AON_RISE (R38, R45, R64, R94): OFF to DORMANT; the level of TMODE is taken, the power-cycle count rises, outputs
are driven to their reset levels, the level of a VDDIO_A that is present is selected (R35, log entry 128), and the Cask
waits for its scan. -/
def execVddAonRise (s : State) : Out :=
  .next (s.when (!s.awake) (fun s =>
    let n := min 16777215 (s.get Obj.powerStatePowerCycleCount + 1)
    let s := s.sampleTmode
    let s : State := { s with pins.pfwN := true, pins.rfMuteN := false, pins.vddioSel := s.pins.vddioA,
                              cask.scanned := false }
    let s := ((s.set Obj.powerStatePowerCycleCount n).powerOnChecks).powerOnTimers
    s.enterState .dormant 1))

/-- VDDIO_A_LEVEL_SELECT (R35): VDDIO_A has risen and settled, its level is selected, and bank A's cells leave high
impedance. -/
def execVddioALevelSelect (above25 : Bool) (s : State) : Out :=
  .next (s.when s.awake (fun s => { s with pins.vddioA := true, pins.vddioSel := true, pins.vddioAbove25 := above25 }))

/-- A host transaction cut by a switch of supply (R49, R283): HOST_MISO is high-impedance for the rest of it, the
transaction is discarded, and SupplySwitch is set while CoreUp reads 1. -/
def State.cutTransaction (s : State) : State := { s.hostFlag 3 with hp.miso := [], hp.cut := true }

/-- HOST_CELL_SUPPLY_SWITCH (R35, R46, R49, R50): VDDIO_A falls below 1.55 V or reaches 1.6 V, and the host-port cells
change supply. With VDDIO_A gone its level is to be selected again; a transaction that holds HOST_CS_N low is cut. -/
def execHostCellSupplySwitch (w : CellSwitch) (s : State) : Out :=
  .next (s.when (s.awake && s.pins.cellsOnAon != w.toAon) (fun s =>
    let s : State := { s with pins.cellsOnAon := w.toAon, pins.vddioA := !w.toAon,
                              pins.vddioSel := s.pins.vddioSel && !w.toAon }
    if w.csLow then s.cutTransaction else s))

/-! ## Starts and restarts -/

/-- RST_N_LOW (R44, R69, R72, R86, R90, R92, R721): a restart outside DORMANT, a wake source in DORMANT, held during a
shutdown and while the Cellarmaster pair recovers, ignored in OFF and HOLDUP. -/
def execRstNLow (s : State) : Out :=
  .next (s.when (s.awake && s.power.state != .holdup && !s.power.recovery) (fun s =>
    if s.rail.shutdown.isSome || s.wd.lockstepBusy then { s with power.restartPending := true }
    else if s.power.state == .dormant && !s.starting then s.rstInDormant
    else s.restart 2))

/-- POWER_ON_AUTOSTART (R64, R504, R505): the start that follows power-on. -/
def execPowerOnAutostart (s : State) : Out :=
  .next (s.when (s.power.state == .dormant && s.power.trans.isNone && s.cask.scanned
      && s.get Obj.powerStateLastReason == 1 && s.get Obj.powerStateAutoStart == 1 && !s.power.recovery) (fun s =>
    let l := s.get Obj.railSeqLatchedSlot
    if l = 0xFF then s.beginStart 1 false false
    else if (s.get Obj.railSeqCoreSet).testBit l then s.beginStart 1 false true
    else s))

/-- HOLDUP_RESTART_DELAY_EXPIRY (R65, R86, R504). -/
def execHoldupRestartDelayExpiry (s : State) : Out :=
  .next (s.onTimer .holdupRestart (fun s => if s.autoHeld then s else s.beginStart 0x10 false false))

/-- RESTART_DELAY_EXPIRY (R71, R504): the start of a restart, limited while a slot is latched. -/
def execRestartDelayExpiry (s : State) : Out :=
  .next (s.onTimer .restartDelay (fun s => s.wakeStart s.power.startReason false))

/-- WAKE_TIMER_EXPIRY (R69, R86, R504). -/
def execWakeTimerExpiry (s : State) : Out :=
  .next (s.onTimer .wakeTimer (fun s =>
    if s.bit Obj.powerStateWakeSources 4 && !s.autoHeld && !s.power.recovery then s.beginStart 0x0A false false
    else s))

/-- FIELD_PORT_WAKE (R69, R86, R504): recognised while VDDIO_A is present and the transceiver is in standby. -/
def execFieldPortWake (p : Port) (s : State) : Out :=
  let stb := match p with
    | .a => s.pins.canStbA
    | .b => s.pins.canStbB
  .next (s.when (s.power.state == .dormant && s.bit Obj.powerStateWakeSources 2 && s.pins.vddioA && stb
      && !s.autoHeld && !s.power.recovery) (fun s => s.beginStart 0x0B false false))

/-- SERVICE_TIMEOUT (R64, R70, R723): SERVICE ends, unless a shutdown or lifecycle transition is already on its way;
while a commit is applied it waits for that commit, as a request does (R192, log entry 121). -/
def execServiceTimeout (s : State) : Out :=
  .next (s.when s.eng.commit.isNone (fun s => s.onTimer .serviceTimeout State.serviceOver))

/-- HOLDUP_COMPLETE (R64, R65, R67, R501): the timed shutdown is over, PFW_N stays asserted, HoldupRestartDelay
runs, and the Vintage work that HOLDUP did not start goes on (R614, log entry 131). -/
def execHoldupComplete (s : State) : Out :=
  .next (s.when (s.power.state == .holdup && !slots.any s.railLive && s.cask.own.isEmpty) (fun s =>
    let s : State := { s with rail.shutdown := none }
    let s := if s.cask.vintWork.isEmpty || s.armed .vintage then s else s.arm .vintage 4000
    (((s.set Obj.railSeqState 0).enterDormant 5).arm .holdupRestart
      (1000 * s.get Obj.powerStateHoldupRestartDelay)).actHeldRst))

/-! ## REF_IN and relocks -/

/-- REF_IN_FIRST_PRESENT (R720): REF_IN has been present for 10 ms since the core's release; the core PLL relocks. -/
def execRefInFirstPresent (s : State) : Out :=
  .next (s.when (s.power.coreReleased && !s.power.refSeen) (fun s =>
    let s : State := { s with power.refPresent := true, power.refSeen := true, power.linkLocked := true }
    ((s.set Obj.clockRefInPresent 1).warmRefBack).beginRelock (s.targetOf s.power.state)))

/-- REF_IN_RETURN (R75, R76, R91): back for 10 ms after a loss; the loss is recorded with both instants, and the core
PLL relocks for the state in force. -/
def execRefInReturn (s : State) : Out :=
  .next (s.when (s.power.coreReleased && s.power.refSeen && !s.power.refPresent) (fun s =>
    let s := match s.power.refLostAt with
      | some t => s.log .press 0x0001 2 31 (leBytes 4 t ++ leBytes 4 s.opSeconds)
      | none => s
    let s : State := { s with power.refPresent := true, power.refLostAt := none, power.linkLocked := true }
    (((s.set Obj.clockRefInPresent 1).disarm .linkHoldover).warmRefBack).beginRelock (s.targetOf s.power.state)))

/-- Whether a lock-detector count lies within ±0.5 % of the target's (R76). -/
def lockWindow (target count : Nat) : Bool :=
  decide (1000 * count ≤ 1005 * (20 * target) ∧ 995 * (20 * target) ≤ 1000 * count)

/-- LOCK_DECLARED (R76, R78): two consecutive windows within ±0.5 % of the new target; the 1 ms of the timeout is over. -/
def execLockDeclared (window1 window2 : Nat) (s : State) : Out :=
  .next (s.when (s.armed .relock && lockWindow s.power.relockTarget window1 && lockWindow s.power.relockTarget window2)
    (fun s => { (s.disarm .relock) with power.relockLocked := true }))

/-- CLOCK_MUX_TO_PLL (R76, R203, R661): 256 PLL cycles after the lock the core clock returns to the PLL, the ports
rejoin, and a transition that waited for it ends; with ACTIVE entered the sessions of a SERVICE have ended (R117). -/
def execClockMuxToPll (s : State) : Out :=
  .next (s.when s.power.relockLocked (fun s =>
    let s := ((s.set Obj.clockCoreSource 1).bump Obj.clockRelockCount 1).resumeSeq
    let s : State := { s with power.relockLocked := false, power.relockRetry := false }
    let s := s.leaveRestricted
    match s.power.trans with
    | some ⟨.relock, .active⟩ =>
      { ((({ s with power.trans := none }).endServiceSessions).enterState .active s.power.startReason) with
          power.cameFrom := .active }
    | some ⟨.relock, _⟩ => { s with power.trans := none }
    | _ => s))

/-- The reaction to a relock that timed out (Table 3-7): the transition that waited for it is over, ACTIVE and SERVICE
fall to STANDBY, and the one retry follows 100 ms later; a retry that timed out is followed by a restart. -/
def State.relockFailed (s : State) : State :=
  if s.power.relockRetry then s.restart 0x0F
  else
    let s := (s.endRelock).set Obj.clockCoreTarget 240
    let s := if s.power.state == .active || s.power.state == .service then s.fallToStandby 0x0F else s
    s.arm .relockRetry 100000

/-- RELOCK_TIMEOUT (R64, R67, R78, R91): the flag and the record; the core stays on INT48, and in HOLDUP or a timed
shutdown nothing more follows. -/
def execRelockTimeout (lastCount : Nat) (s : State) : Out :=
  .next (s.onTimer .relock (fun s =>
    let s := s.faultRow Obj.clockSticky 2 .press 0x0003 2 31 (leBytes 2 s.power.relockTarget ++ leBytes 4 lastCount)
    if s.rail.shutdown.isSome then s else s.relockFailed))

/-- RELOCK_RETRY (Table 3-7): the one retry, aimed at the target of the state then in force. -/
def execRelockRetry (s : State) : Out :=
  .next (s.onTimer .relockRetry (fun s =>
    if s.rail.shutdown.isSome then s
    else { (s.beginRelock (s.targetOf s.power.state)) with power.relockRetry := true }))

/-! ## Stretching and aging (R79 to R84) -/

/-- DROOP_STRETCH (R79, R81). -/
def execDroopStretch (s : State) : Out :=
  .next (s.when (s.power.coreReleased && s.power.stretchAt.isNone) (fun s =>
    let s : State := { s with power.stretchAt := some s.now }
    ((s.bump Obj.clockStretchCount 1).flag Obj.clockSticky 3).arm .stretchLong 1000))

/-- STRETCH_RELEASE (R79, Table 3-9): the slack has stayed above the guard band for 64 cycles. -/
def execStretchRelease (s : State) : Out :=
  .next (match s.power.stretchAt with
    | none => s
    | some t =>
      let s : State := { s with power.stretchAt := none }
      (s.set Obj.clockStretchLongest (max (s.get Obj.clockStretchLongest) (satBytes 2 (s.now - t)))).disarm .stretchLong)

/-- STRETCH_LONG (R81, Table 3-7): hard mute, S00 read at once, and the record of duration and reading. -/
def execStretchLong (s00mV : BitVec 16) (s : State) : Out :=
  .next (s.onTimer .stretchLong (fun s =>
    match s.power.stretchAt with
    | none => s
    | some t =>
      let s := (s.hardMute).set (Obj.railSlotReading 0) s00mV.toNat
      s.faultRow Obj.clockSticky 4 .monitors 0x0104 2 31 (leBytes 4 (s.now - t) ++ leBytes 2 s00mV.toNat)))

/-- Ten times the logarithm of a lane's k, in 0.01 dB (R468). -/
def State.kDb (s : State) (n : Nat) : Int := Config.toDb ((s.lane n).kFine * 2 ^ 32 / 1000000000)

/-- The PA model trim of one lane (R468, R474): the mean to the nearest 0.05 dB, at most 0.50 dB; the result within
±3.00 dB; k divided by the step; the record of lane, old, new and mean. -/
def State.trimLane (s : State) (n : Nat) : State :=
  let r := s.lane n
  if r.readyUs < 36000000000 then s
  else
    let mean := r.trimSum / r.readyUs
    let step := max (-50) (min 50 (5 * roundDiv mean 5))
    let old := s.getI (Obj.paLaneModelTrim n)
    let new := max (-300) (min 300 (old + step))
    let ratio := Config.fromDb (new - old)
    let k := max 500000000 (min 2000000000 (r.kFine * 2 ^ 32 / ratio))
    let s := (s.setI (Obj.paLaneModelTrim n) new).set (Obj.paLaneModelK n) ((k + 500000) / 1000000)
    let s := s.setLane n { r with readyUs := 0, trimSum := 0, kFine := k }
    let s := s.log .press 0x8102 0 n (u32 n ++ leBytes 2 (ofSigned 2 old) ++ leBytes 2 (ofSigned 2 new)
      ++ leBytes 4 (ofSigned 4 mean))
    if new = 300 ∨ new = -300 then s.faultRow (Obj.paLaneSticky n) 4 .press 0x1A05 1 n [] else s

/-- AGING_TRIM (R82 to R84, R468): the guard band takes the growth rounded up to 0.25 %, never falls and stops at 4.00 %. -/
def execAgingTrim (growth : BitVec 16) (s : State) : Out :=
  .next (s.when (s.awake && s.power.coreReleased && decide (s.get Obj.clockNextTrim ≤ s.get Obj.powerStateCoreSeconds))
    (fun s =>
      let g := growth.toNat
      let old := s.get Obj.clockGuardBand
      let new := max old (min 16 ((g + 24) / 25))
      let s := (s.set Obj.clockAgingGrowth g).set Obj.clockGuardBand new
      let s := s.set Obj.clockNextTrim (satBytes 4 (s.get Obj.powerStateCoreSeconds + 3600000))
      let s := s.log .cellar 0x8101 0 31 ([byteOf old, byteOf new] ++ leBytes 2 g)
      let s := laneNums.foldl State.trimLane s
      if 400 < g then s.faultRow Obj.clockSticky 5 .cellar 0x0105 1 31 (leBytes 2 g) else s))

/-! ## Watchdogs and lockstep (R24, R25, R85, R86, R92, R190, R629) -/

/-- Core codes 1 Press, 2 Vintner, 3 Cork. -/
def coreCode : CoreId → Nat
  | .press => 1 | .vintner => 2 | .cork => 3

/-- A watchdog restart during Trial selects the previous bank again (R190). -/
def State.rollBack (s : State) : State :=
  if s.get Obj.updateState = 5 then
    let s := (s.set Obj.bootSelectedBank s.boot.previousBank).bump Obj.bootFallbackCount 1
    (s.set Obj.updateState 0).faultRow Obj.updateSticky 1 .cellar 0x0909 2 31 []
  else s

/-- What the third expiry of a core within 600 s causes: a full restart, or at the third such restart within 3,600 s
the lockout (R85, R86). The three expiries of that core count no further; those of the other cores stand (log entry
111). -/
def State.escalate (s : State) (c : CoreId) : State :=
  let recent := s.wd.restarts.filter (fun t => decide (s.now ≤ t + 3600000000))
  let s : State := { s with wd.restarts := recent ++ [s.now], wd.expiries := s.wd.expiries.filter (fun e => e.1 != c) }
  let s := s.rollBack
  if 2 ≤ recent.length then (s.set Obj.watchdogLockout 1).beginShutdown .lockout 0x0E false 0 []
  else s.restart 4

/-- One expiry counted and recorded (R24, R25, R85), and whether it is the third within 600 s. -/
def State.noteExpiry (s : State) (c : CoreId) (counter : Nat) : State × Bool :=
  let s := s.bump counter 1
  let s := s.log .cellar 0x0206 2 31 (u32 (coreCode c) ++ leBytes 2 (s.get counter) ++
    [byteOf s.power.state.code])
  let recent := s.wd.expiries.filter (fun e => decide (s.now ≤ e.2 + 600000000))
  let mine := recent.filter (fun e => e.1 == c)
  let s : State := { s with wd.expiries := recent ++ [(c, s.now)] }
  let s : State := if s.get Obj.bootConfirmed = 0 then
      ({ s with boot.confirmedAfter := s.get Obj.powerStateCoreSeconds + 3600 }).arm .bundleConfirm 3600000000
    else s
  (s, decide (2 ≤ mine.length))

/-- PRESS_WATCHDOG_EXPIRY (R24, R85, R92, R629): RF_MUTE_N asserted, every lane disabled, the Press reset, TWIN_ACT
low. -/
def execPressWatchdogExpiry (s : State) : Out :=
  .next (s.supervised (fun s => s.onTimer (.watchdog .press) (fun s =>
    let s := (s.hardMute).paOff
    let r := s.noteExpiry .press Obj.watchdogPressExpiryCount
    let s : State := { (r.1.depart 3) with power.pressReady := false }
    if r.2 then s.escalate .press else s)))

/-- The Vintner reset (R25): open block transfers go with it. -/
def State.vintnerReset (s : State) : State := { s with power.vintReady := false, blockReads := [], blockWrites := [] }

/-- The Cork reset (R25, R26, R141): sessions end, and a receipt in signature is left unsigned with reason 5. -/
def State.corkReset (s : State) : State := 
  let s := (s.dropSigning 5).endSessions
  { s with power.corkReady := false, sec := { s.sec with kwk := none, dik := none } }

/-- CORE_WATCHDOG_EXPIRY (R25, R26, R85, R92, R141): the Vintner or the Cork is reset; dictionary writes are refused until
it reports ready again. -/
def execCoreWatchdogExpiry (c : SideCore) (s : State) : Out :=
  match c with
  | .vintner => .next (s.supervised (fun s => s.onTimer (.watchdog .vintner) (fun s =>
      let r := s.noteExpiry .vintner Obj.watchdogVintnerExpiryCount
      let s := r.1.vintnerReset
      if r.2 then s.escalate .vintner else s)))
  | .cork => .next (s.supervised (fun s => s.onTimer (.watchdog .cork) (fun s =>
      let r := s.noteExpiry .cork Obj.watchdogCorkExpiryCount
      let s := r.1.corkReset
      if r.2 then s.escalate .cork else s)))

/-- LOCKSTEP_MISMATCH (R92): hardware mutes, drives PA_EN low, holds enables and PFW_N, and resets the pair. -/
def execLockstepMismatch (cycle signals : BitVec 32) (s : State) : Out :=
  .next (s.when (s.awake && !s.wd.lockstepBusy) (fun s =>
    let s := (s.hardMute).paOff
    ({ s with wd.lockstepBusy := true, wd.lockstepInfo := some (cycle, signals) }).arm .lockstepRecovery 1000))

/-- The Cellarmaster pair supervises again (R92): power-good levels that have changed meanwhile are counted, a shutdown
that waited goes on, and an RST_N low held meanwhile acts. -/
def State.resumeSupervision (s : State) : State :=
  let s := slots.foldl State.countPg s
  match s.rail.shutdown with
  | some d => if d.stepping || s.armed .warnLead || s.armed .holdupLead then s else s.goDown
  | none =>
    if s.power.restartPending && s.power.state != .dormant then ({ s with power.restartPending := false }).restart 2
    else s.actHeldRst

/-- LOCKSTEP_RECOVERY (R92, R93, Table 3-7): supervision resumes, and the record is written. -/
def execLockstepRecovery (s : State) : Out :=
  .next (s.onTimer .lockstepRecovery (fun s =>
    let info := match s.wd.lockstepInfo with
      | some i => leBytes 4 i.1.toNat ++ leBytes 4 i.2.toNat
      | none => []
    let s : State := { s with wd.lockstepBusy := false, wd.lockstepInfo := none }
    (s.faultRow Obj.clockSticky 6 .cellar 0x0307 2 31 info).resumeSupervision))

end Sys2Proof.Machine
end

