-- ==== Sys2Proof/Machine/Datapath.lean ====
section
/-!
DEFINITION. The converter and datapath commands (ch. 09).
-/

namespace Sys2Proof.Machine

open Sys2Proof

/-- ADC_CALIBRATION_DONE (R315, R354, R357): a calibration ends; a failed one keeps its pair's paths muted. -/
def execAdcCalibrationDone (conv : Fin 4) (ok : Bool) (stage : Byte) (s : State) : Out :=
  .next (s.when (s.get (Obj.adcCalStatus conv.val) == 1) (fun s =>
    if ok then s.set (Obj.adcCalStatus conv.val) 2
    else (s.set (Obj.adcCalStatus conv.val) 3).faultRow Obj.converterSticky 8 .press 0x1104 2 conv.val
      (u32 conv.val ++ u32 stage.toNat)))

/-! ## Tasting (R316, R355, R356) -/

/-- The tasting runs of a pair. -/
def State.taste (s : State) (d : Dir) : Taste :=
  match d with
  | .ul => s.conv.tasteUL
  | .dl => s.conv.tasteDL

/-- The same, replaced. -/
def State.setTaste (s : State) (d : Dir) (t : Taste) : State :=
  match d with
  | .ul => { s with conv.tasteUL := t }
  | .dl => { s with conv.tasteDL := t }

/-- Converter.TasteBlocksUL or DL. -/
def tasteKey : Dir → Nat
  | .ul => Obj.converterTasteBlocksUL
  | .dl => Obj.converterTasteBlocksDL

/-- Divergence declared or cleared on a pair: Converter.TasteState, and event 6 on its paths. -/
def State.setDivergent (s : State) (d : Dir) (b : Bool) : State :=
  let s := s.set Obj.converterTasteState (putBit (s.get Obj.converterTasteState) (dirNum d) b)
  (s.liveOf d).foldl (fun s p => s.fabEvent p 6) s

/-- A divergent block (R316, R355, R356): declared at the TasteBlocks-th in a row, muting the pair's direction. -/
def State.divergentBlock (s : State) (d : Dir) (largest : Nat) : State :=
  let s := s.bump (tasteKey d) 1
  let t := s.taste d
  let s := s.setTaste d ⟨t.run + 1, 0⟩
  if t.run + 1 = s.get Obj.converterTasteBlocks ∧ !(s.get Obj.converterTasteState).testBit (dirNum d) then
    let s := (s.mutePaths (s.liveOf d)).setDivergent d true
    s.faultRow Obj.converterSticky (4 + dirNum d) .press 0x1002 2 (dirNum d)
      (u32 (dirNum d) ++ u32 (s.get (tasteKey d)) ++ u32 largest)
  else s

/-- A block that is not divergent (R355): 60,000 in a row clear a divergence. -/
def State.cleanBlock (s : State) (d : Dir) : State :=
  let t := s.taste d
  let s := s.setTaste d ⟨0, t.clean + 1⟩
  if 60000 ≤ t.clean + 1 ∧ (s.get Obj.converterTasteState).testBit (dirNum d) then s.setDivergent d false else s

/-- TASTE_BLOCK_END (R316, R355, R356): a block of a pair in Tasting ends. -/
def execTasteBlockEnd (pair : Dir) (differing : Nat) (largest : BitVec 16) (s : State) : Out :=
  .next (s.when (s.running && s.pairMode pair == 2) (fun s =>
    if s.get Obj.converterTasteCount ≤ differing then s.divergentBlock pair largest.toNat else s.cleanBlock pair))

/-! ## Overrange, saturation, clipping -/

/-- ADC_OVERRANGE (R318, R354): an overrange run; the DC blocker stays frozen for 1 ms after it. -/
def execAdcOverrange (conv : Fin 4) (s : State) : Out :=
  .next (s.when s.running (fun s =>
    let c := conv.val
    let s := s.bump (Obj.adcOverrangeCount c) 1
    let s := s.flagFirst Obj.converterSticky c (fun s => s.log .press 0x0F01 1 c [])
    let s := (s.arm (.dcFreeze c) 1000).refreeze c
    (s.convPaths c).foldl (fun s p => s.fabEvent p 4) s))

/-- DC_FREEZE_END (R318): 1 ms after the last overranged sample. -/
def execDcFreezeEnd (conv : Fin 4) (s : State) : Out :=
  .next (s.onTimer (.dcFreeze conv.val) (fun s => s.refreeze conv.val))

/-- ELEMENT_SATURATION (R325, R354): a saturated run of an element; the side it lies on raises Saturation. -/
def execElementSaturation (path : Fin 16) (element : Fin 22) (samples : Nat) (s : State) : Out :=
  .next (s.when (s.running && decide (0 < samples)) (fun s =>
    let p := path.val
    ((s.flag (Obj.bandPathSatSticky p) element.val).bump (Obj.bandPathSatCount p) samples).fabEvent p 3))

/-- DAC_CLIP (R319, R354): the sum of a direction exceeded the 14-bit range. -/
def execDacClip (d : Dir) (s : State) : Out :=
  .next (s.when s.running (fun s =>
    let s := s.bump (match d with | .ul => Obj.converterDacClipCountUL | .dl => Obj.converterDacClipCountDL) 1
    s.flagFirst Obj.converterSticky (6 + dirNum d) (fun s => s.log .press 0x0F03 1 (dirNum d) [])))

/-! ## Settling and SYNC -/

/-- The settings of the next detector window: 2 × WindowLog2 + DetectPoint (R343). -/
def State.windowOf (s : State) (p : Nat) : Nat := 2 * s.get (Obj.bandPathWindowLog2 p) + s.get (Obj.bandPathDetectPoint p)

/-- A detector window of a path begun with the settings as they are, its counters at zero (R336, R343); the envelope
runs on (R341). -/
def State.freshWindow (s : State) (p : Nat) : State :=
  let r := s.path p
  s.setPath p { r with window := s.windowOf p, suppressed := s.get (Obj.bandPathSettling p) == 1,
                       chain.detect := ⟨0, 0, 0, false, false, r.chain.detect.env⟩ }

/-- SETTLE_END (R328 to R330, R352): suppression over; after a relock the path's first window begins here. -/
def execSettleEnd (path : Fin 16) (s : State) : Out :=
  let p := path.val
  .next (s.onTimer (.settle p) (fun s =>
    let s := s.set (Obj.bandPathSettling p) 0
    let s := if s.conv.noWindow.contains p then
        ({ s with conv.noWindow := s.conv.noWindow.filter (fun x => x != p) } : State).freshWindow p
      else s
    s.fabEvent p 5))

/-- The phase counters of every stage, both NCO phases and the window counters of a path at zero; what its delay lines
hold, and the envelope, stay (R334). -/
def Chain.sync (c : Chain) : Chain :=
  { c with inPhase := 0, outPhase := 0, decim := c.decim.map (fun d => (0, d.2)),
           detect := ⟨0, 0, 0, false, false, c.detect.env⟩ }

/-- Phases and detector windows begun afresh on every path (R334, R336). -/
def State.newWindows (s : State) : State :=
  pathNums.foldl (fun (s : State) p =>
    s.setPath p { s.path p with window := s.windowOf p, chain := (s.path p).chain.sync }) s

/-- SYNC (R334): phases and windows restart, every path settles, and the count rises. -/
def State.doSync (s : State) : State := ((s.newWindows).settleAll pathNums).bump Obj.converterSyncCount 1

/-- SYNC_EDGE (R332 to R334): a rising edge while Converter.SyncPinEnable is 1. -/
def execSyncEdge (s : State) : Out :=
  .next (s.when (s.running && s.get Obj.converterSyncPinEnable == 1) State.doSync)

/-! ## Detectors (R336 to R343, R352, R403, R404) -/

/-- A level of a linear quotient of 2^30 (R337, R338): −32,768 for nothing or an invalid window. -/
def levelOf (num den : Nat) (valid : Bool) : Int := if !valid || num * 4 / den == 0 then -32768 else Config.toDb (num * 4 / den)

/-- Both results of a window latched (R339, R340). -/
def State.latchWindow (s : State) (p pmax sum : Nat) (clipped : Bool) : State :=
  let r := s.path p
  let over_ := decide (2 ^ 48 ≤ sum)
  let sum := min sum (2 ^ 48 - 1)
  let valid := !over_ && !r.suppressed
  let flags := (if valid then 1 else 0) + (if over_ then 2 else 0) + (if r.suppressed then 4 else 0) + (if clipped then 8 else 0)
  let seq := (fieldAt (s.bytesOf (Obj.bandPathPeak p)) 8 4 + 1) % 2 ^ 32
  let tail := fun (l : Int) => leBytes 4 seq ++ [byteOf flags, 0#8] ++ leBytes 2 (ofSigned 2 l)
  let s := s.set (Obj.bandPathPeak p) (leNat (leBytes 8 pmax ++ tail (levelOf pmax 1 valid)))
  let s := s.set (Obj.bandPathRms p) (leNat (leBytes 8 sum ++ tail (levelOf sum (2 ^ (r.window / 2)) valid)))
  let s := s.freshWindow p
  let s := if over_ then (s.flag (Obj.bandPathSticky p) 0).fabEvent p 7 else s
  s.fabEvent p 0

/-- Whether the noise cap of a path is its lowest limit (R403). -/
def State.noiseBinds (s : State) (p : Nat) : Bool :=
  match s.noiseCap p with
  | some c => (s.openLimits p).all (fun l => match l with
      | some x => decide (c ≤ x)
      | none => true)
  | none => false

/-- Uplink noise (Table 11-2, 0x03): NoiseHold runs while the density is excessive with the cap in force. -/
def State.watchNoise (s : State) (p : Nat) : State :=
  if s.dirOf p = .dl then s
  else
    let bad : Bool := match s.noiseDensity p with
      | some d => s.inService p && s.noiseBinds p && decide (s.getI Obj.netUlNoiseLimit + s.get Obj.netNoiseExcess < d)
      | none => false
    let s := s.setI (Obj.stabNoiseDensity p) ((s.noiseDensity p).getD (-32768))
    if !bad then s.disarm (.noiseHold p)
    else if s.armed (.noiseHold p) then s
    else s.arm (.noiseHold p) (1000 * s.get Obj.netNoiseHold)

/-- A valid RMS result of an unmuted path, at the gain-stage output (R395, R404): a result taken after the FIR has the
gain stage added. -/
def State.noteLevel (s : State) (p : Nat) (afterGain : Bool) (level : Int) : State :=
  let out := if level ≤ -32768 then level else if afterGain then level else level + s.stageGain p
  let r := s.path p
  let s := s.setPath p { r with levels := (s.now, out) :: r.levels.filter (fun l => decide (s.now ≤ l.1 + 1000000)) }
  let shown := if out ≤ -32768 then out else out + s.outputRef (s.dirOf p)
  (s.setI (Obj.stabOutputLevel p) shown).watchNoise p

/-- Overpower (Table 11-2, 0x04): the third window in a row is the trigger. -/
def State.watchPower (s : State) (p : Nat) : State × Bool :=
  let limit := s.getI (Obj.netMaxOutput (dirNum (s.dirOf p))) + s.get Obj.netOverpowerExcess
  let r := s.path p
  if s.inService p ∧ limit < s.getI (Obj.stabOutputLevel p) then
    (s.setPath p { r with overpower := r.overpower + 1 }, decide (3 ≤ r.overpower + 1))
  else (s.setPath p { r with overpower := 0 }, false)

/-- DETECTOR_WINDOW_END (R336 to R343, R395, R403, R404, R417): a window's results, and what they mean for the path. -/
def execDetectorWindowEnd (path : Fin 16) (pmax : BitVec 32) (sum : Nat) (clipped : Bool) (s : State) : Out :=
  let p := path.val
  .next (s.when (s.running && s.power.pressReady && s.get Obj.clockSamplePllLocked == 1 && !s.conv.noWindow.contains p)
    (fun s =>
      let after := (s.path p).window % 2 == 1
      let s := s.latchWindow p pmax.toNat sum clipped
      let valid := (fieldAt (s.bytesOf (Obj.bandPathRms p)) 12 1).testBit 0
      if valid && s.unmuted p then
        let s := (s.moveGains).noteLevel p after (toSigned 2 (fieldAt (s.bytesOf (Obj.bandPathRms p)) 14 2))
        let r := s.watchPower p
        if r.2 then (r.1.fabEvent p 13).netTrigger 4 [p] else r.1.settleGains
      else s))

/-- ENVELOPE_HIGH (R342): the envelope rises above BandPath.EnvHigh. -/
def execEnvelopeHigh (path : Fin 16) (level : BitVec 16) (s : State) : Out :=
  let p := path.val
  .next (s.when (s.running && !(s.path p).envHigh && decide (s.getI (Obj.bandPathEnvHigh p) < level.toInt)) (fun s =>
    let s := s.setPath p { s.path p with envHigh := true }
    (s.set (Obj.bandPathEnvelope p) level.toNat).fabEvent p 1))

/-- ENVELOPE_LOW (R342): the envelope next falls below BandPath.EnvLow. -/
def execEnvelopeLow (path : Fin 16) (level : BitVec 16) (s : State) : Out :=
  let p := path.val
  .next (s.when (s.running && (s.path p).envHigh && decide (level.toInt < s.getI (Obj.bandPathEnvLow p))) (fun s =>
    let s := s.setPath p { s.path p with envHigh := false }
    (s.set (Obj.bandPathEnvelope p) level.toNat).fabEvent p 2))

/-- FABRIC_POST (R346, R348): with a credit free in the path's queue, the lowest pending input is posted and clears. -/
def execFabricPost (path : Fin 16) (s : State) : Out :=
  let p := path.val
  .next (match lowestInput (s.path p).inputs with
    | none => s
    | some i =>
      if s.credits (0xC0 + p) = 0 then s
      else
        let s := s.post .fresh (0xC0 + p) 1 (.raw (s.fabMessage p i))
        let s := s.setPath p { s.path p with inputs := (s.path p).inputs.filter (fun j => j.input != i.input) }
        s.set (Obj.bandPathEventPending p) (clearBit (s.get (Obj.bandPathEventPending p)) i.input))

end Sys2Proof.Machine
end

