-- ==== Sys2Proof/Machine/RefCmds.lean ====
section
/-!
DEFINITION. The reference and the sample PLL (R74, R75, R91, R315, R352, R719, R720), and the feed-collapse report (R22).
-/

namespace Sys2Proof.Machine

open Sys2Proof

/-! ## The sample PLL -/

/-- A detector window in progress ends with Valid cleared (R352); what it had summed is open (log entry 4). The next one
takes the settings as they are then (R343). -/
def State.cutWindow (s : State) (p : Nat) : State :=
  if !s.bandOn p then s
  else
    let a := s.draw
    let b := a.2.draw
    let s := b.2
    let flags := if (s.path p).suppressed then 4 else 0
    let seq := (fieldAt (s.bytesOf (Obj.bandPathPeak p)) 8 4 + 1) % 2 ^ 32
    let tail := leBytes 4 seq ++ [byteOf flags, 0#8] ++ leBytes 2 0x8000
    let s := s.set (Obj.bandPathPeak p) (leNat (leBytes 8 (a.1 % 2 ^ 32) ++ tail))
    let s := (s.set (Obj.bandPathRms p) (leNat (leBytes 8 (b.1 % 2 ^ 48) ++ tail))).fabEvent p 0
    s.freshWindow p

/-- What an unlocked sample PLL stops (R74, R318, R352, R719): DC blockers freeze, detector windows end, HK-B converts
nothing. -/
def State.pllDown (s : State) : State :=
  if s.get Obj.clockSamplePllLocked = 0 then s
  else
    let s := s.set Obj.clockSamplePllLocked 0
    let s := [0, 1, 2, 3].foldl State.refreeze s
    let s : State := { s with conv.noWindow := pathNums, hkb.converting := false, hkb.held := none }
    pathNums.foldl State.cutWindow s

/-- The reference or the sample PLL lost (R417, Tables 3-2 and 3-7): a network-protective shutdown where a path is in
service, else the hard mute and, from ACTIVE or SERVICE, STANDBY. -/
def State.refReaction (s : State) : State :=
  let ps := pathNums.filter s.inService
  if !ps.isEmpty then s.netTrigger 5 ps
  else if s.power.state == .active || s.power.state == .service then s.fallToStandby 6
  else s.hardMute

/-- REF_IN_LOSS (R20, R26, R75, R91, R203, R408, R417, R532, R551, R648, R661, R719). -/
def execRefInLoss (s : State) : Out :=
  .next (s.when (s.power.coreReleased && s.power.refSeen && s.power.refPresent) (fun s =>
    let s : State := { s with power.refPresent := false, power.refLostAt := some s.opSeconds }
    let s := ((s.set Obj.clockRefInPresent 0).flag Obj.clockSticky 0).arm .linkHoldover 50000
    let s := (s.refReaction).endRelock
    (((s.toInt48).warmRefLost).tiuRefLost).pllDown.demoteIfDue))

/-- LINK_HOLDOVER_EXPIRY (R75): 50 ms without REF_IN, the Jensiac transmitter stops. -/
def execLinkHoldoverExpiry (s : State) : Out :=
  .next (s.onTimer .linkHoldover (fun s => { s with power.linkLocked := false }))

/-- SAMPLE_PLL_UNLOCK (R74, R91, R318, R352, R417): an unlock with REF_IN present. -/
def execSamplePllUnlock (status : BitVec 32) (s : State) : Out :=
  .next (s.when (s.power.coreReleased && s.power.refPresent && s.get Obj.clockSamplePllLocked == 1) (fun s =>
    let s := s.faultRow Obj.clockSticky 1 .press 0x0002 2 31 (u32 status.toNat)
    (s.refReaction).pllDown))

/-- The HK-B sequence as committed (R563). -/
def State.hkbSequence (s : State) : List Nat :=
  (List.range (s.get Obj.hkBEntryCount)).map (fun i => s.get (Obj.hkBEntry i))

/-- HK-B begins a pass at entry 0 of its sequence, its first window no earlier than `notBefore` (R74, R559, R563). -/
def State.hkbPass (s : State) : State :=
  { s with hkb := { s.hkb with
    converting := true, badPass := false, next := 0, window := max s.now s.hkb.notBefore
    seq := s.hkbSequence } }

/-- SAMPLE_PLL_RELOCK (R74, R318, R328, R352): blockers resume, every path settles, and HK-B starts a fresh pass 100 µs
later, or when StartLead is over where that is later still. -/
def execSamplePllRelock (s : State) : Out :=
  .next (s.when (s.power.pressReady && s.power.pllLocked && s.power.refPresent && s.get Obj.clockSamplePllLocked == 0)
    (fun s =>
      let s := s.set Obj.clockSamplePllLocked 1
      let s := ([0, 1, 2, 3].foldl State.refreeze s).settleAll pathNums
      let s : State := { s with hkb.notBefore := s.now + 100 }
      if s.hkb.refAt.any (fun t => decide (t + s.get Obj.hkBStartLead ≤ s.now)) then s.hkbPass else s))

/-- SAMPLE_PLL_LOCK (R315): the first lock of a start; every converter begins its stage calibration. -/
def execSamplePllLock (s : State) : Out :=
  .next (s.when (s.power.pressReady && s.power.refPresent && !s.power.pllLocked) (fun s =>
    let s : State := { (s.set Obj.clockSamplePllLocked 1) with power.pllLocked := true, conv.noWindow := [] }
    let s := [0, 1, 2, 3].foldl State.refreeze s
    [0, 1, 2, 3].foldl (fun (s : State) c => s.set (Obj.adcCalStatus c) 1) s))

/-! ## The feed -/

/-- The Cellarmaster acts on the Press's report (R22, Table 3-2): HOLDUP from any state in which a RAIL_EN output is
asserted. -/
def State.collapseReported (s : State) : State :=
  let s : State := { s with feed.report := false }
  if s.pins.railEn ≠ 0 ∧ s.power.state ≠ .holdup then s.enterHoldup else s

/-- FEED_COLLAPSE_REPORT (R22, R64, R92, R507): the Cellarmaster takes the Press's report out of its queue and acts on
it. -/
def execFeedCollapseReport (s : State) : Out :=
  .next (s.when s.feed.report (fun s => s.supervised (fun s => (s.take 0xF2).collapseReported)))

end Sys2Proof.Machine
end

