-- ==== Sys2Proof/Machine/Twin.lean ====
section
/-!
DEFINITION. The twin function (ch. 17): the Jensiac link, the roles, racking, readiness, takeover, demotion and handover.
-/

namespace Sys2Proof.Machine

open Sys2Proof

/-! ## Serials, nonces and keys (R632) -/

/-- The unit's own serial. -/
def State.ownSerial (s : State) : Bytes := s.bytesOf Obj.identitySerialNumber

/-- The partner's serial as configured. -/
def State.peerSerial (s : State) : Bytes := s.bytesOf Obj.twinPartnerSerial

/-- Whether the own serial is the lower, byte 0 most significant (R235, R632). -/
def State.isUnitA (s : State) : Bool := decide (leNat s.ownSerial.reverse < leNat s.peerSerial.reverse)

/-- A CMAC under the pair key as the number its bytes spell. -/
def State.pairMac (s : State) (m : Bytes) : Nat := (Config.cmac ((s.storedKey pairEntry).getD 0) m).toNat

/-- The tag of a Confirm (R632). -/
def State.confirmTag (s : State) (serial peer : Bytes) (nonce peerNonce : Nat) : Nat :=
  s.pairMac (0x4A#8 :: serial ++ peer ++ leBytes 16 nonce ++ leBytes 16 peerNonce)

/-- The link key (R632): two CMACs over both nonces, that of unit A first. -/
def State.makeLinkKey (s : State) : Nat :=
  let a := if s.isUnitA then s.twin.ownNonce else s.twin.peerNonce
  let b := if s.isUnitA then s.twin.peerNonce else s.twin.ownNonce
  let m := fun (i : Byte) => i :: [0x4A#8, 0x45#8, 0x4E#8, 0x53#8] ++ leBytes 16 a ++ leBytes 16 b
  s.pairMac (m 0x01#8) + 2 ^ 128 * s.pairMac (m 0x02#8)

/-! ## Reception (R631) -/

/-- Whether the link engine runs. -/
def State.linkOn (s : State) : Bool := s.twin.enabled && s.power.vintReady && s.twin.characters

/-- A frame with a valid CRC and a defined type (R631): its sequence becomes the reference; one out of sequence is discarded
and counted. -/
def State.onFrame (s : State) (seq : Nat) (f : State → State) : State :=
  if !s.linkOn then s
  else
    let ok : Bool := match s.twin.rxRef with
      | none => true
      | some r => decide (seq = (r + 1) % 65536)
    let s : State := { s with twin.rxRef := some seq }
    if ok then f (s.linkStat 1) else s.linkStat 2

/-- JENSIAC_BAD_FRAME (R631): a failed CRC or a reserved type leaves the reference; a sequence that does not follow on
becomes the new reference. -/
def execJensiacBadFrame (why : BadFrame) (s : State) : Out :=
  .next (s.when s.linkOn (fun s =>
    match why with
    | .crc | .reservedType => s.linkStat 2
    | .sequence seq => match s.twin.rxRef with
      | some r => if seq.toNat = (r + 1) % 65536 then s else ({ s with twin.rxRef := some seq.toNat }).linkStat 2
      | none => s))

/-! ## The handshake -/

/-- A handshake begun (R632): a fresh nonce, and Hello at once. -/
def State.beginHandshake (s : State) : State :=
  let d := s.drawRandom 128
  let s : State := { d.2 with twin.ownNonce := d.1, twin.helloSeen := false, twin.confirmed := false }
  (s.set Obj.twinLinkState 1).arm .twinHello 0

/-- LINK_CHARACTERS_APPEAR (R631, R632): the receiver sees link characters; the sequence reference is reset, and a handshake
begins where none is under way. -/
def execLinkCharactersAppear (s : State) : Out :=
  .next (s.when (s.twin.enabled && s.power.vintReady) (fun s =>
    let s : State := { s with twin.characters := true, twin.rxRef := none }
    if s.get Obj.twinLinkState = 0 ∧ !s.armed .authRestart then s.beginHandshake else s))

/-- HELLO (R632): every 10 ms until the link is up. -/
def execHello (s : State) : Out :=
  .next (s.onTimer .twinHello (fun s =>
    if s.linkOn && s.get Obj.twinLinkState == 1 then
      (s.sendLink 1 (s.ownSerial ++ s.peerSerial ++ leBytes 16 s.twin.ownNonce
        ++ [byteOf (s.get Obj.twinPreferred), if s.twin.selCounted then 1#8 else 0#8])).arm .twinHello 10000
    else s))

/-! ## Claims (R634 to R636) -/

/-- Whether a network lockout or a refusal of its own keeps a unit that takes over from requesting ACTIVE (R643, R717). -/
def State.takeoverRefused (s : State) : Bool :=
  let t : State := { s with dict := putKey s.dict Obj.twinRole 1 (objDefault Obj.twinRole) }
  t.activeRefusal.isSome

/-- The request for ACTIVE of a takeover (R643). -/
def State.takeoverRequest (s : State) : State :=
  if s.power.trans.isSome || s.rail.shutdown.isSome || s.power.state == .active || s.takeoverRefused then s
  else (if s.power.state = .service then s.leaveService else s).towardsActive 3

/-- The committed image slot of higher generation (R639). -/
def State.bestImage (s : State) : Option ImageSlot :=
  let a := s.twin.slot0
  let b := s.twin.slot1
  if a.committed && (!b.committed || decide (b.gen < a.gen)) then some a
  else if b.committed then some b else none

/-- A field of an image (Table 17-5). -/
def ImageSlot.field (i : ImageSlot) (off n : Nat) : Nat := fieldAt i.data off n

/-- The Net state of an image adopted (R643, R653): the lockout for its remaining time, with its history in own operating
seconds, or the latch; the unit stays in STANDBY while it holds. -/
def State.adoptNet (s : State) (i : ImageSlot) : State :=
  let at_ := i.field 20 4
  let starts := ([76, 80, 84].map (fun o => i.field o 4)).filter (fun t => t != 0)
  let own := starts.map (fun t => s.opSeconds - (at_ - t))
  let s : State := { s with net.before := i.field 73 1, net.history := s.net.history ++ own }
  let st := i.field 72 1
  let s : State :=
    if st = 2 then
      let stop := s.opSeconds + i.field 74 2
      (({ s with net.lockoutEnd := stop }).set Obj.netState 2).arm .lockout (s.untilSecond stop)
    else if st = 3 then (s.set Obj.netState 3).disarm .lockout
    else s
  if st ≠ 2 ∧ st ≠ 3 then s
  else if s.power.state = .active then s.fallToStandby 7
  else match s.power.trans with
    | some ⟨.relock, .active⟩ => ({ s with power.trans := none }).beginRelock 240
    | _ => s

/-- The path records of an image adopted (R643, R644): applied gain and isolation of the paths that were unmuted. -/
def State.adoptPaths (s : State) (i : ImageSlot) : State :=
  pathNums.foldl (fun (s : State) p =>
    let o := 328 + 48 * p
    let st := i.field (o + 19) 1
    let r := if 2 ≤ st ∧ st ≤ 5 then some (toSigned 2 (i.field o 2), i.field (o + 12) 2) else none
    s.setPath p { s.path p with racked := r }) s

/-- The hint windows of an image, as one commit of the Hint objects (R643). -/
def State.adoptHints (s : State) (i : ImageSlot) : State :=
  let es := [(Obj.hintWindow 0, i.field 304 12), (Obj.hintWindow 1, i.field 316 12)]
  let c : Caller := ⟨none, none, 0, false, ⟨.host, 0xFFFF, 0xFFFF, 0, 0, 0, none⟩⟩
  if s.eng.commit.isSome || s.get Obj.dictCommitState != 0 then s
  else s.startCommit c .none none es []

/-- The bursts of an image adopted, where the pair shares its line (R546): the height history in own time. -/
def State.adoptBursts (s : State) (i : ImageSlot) : State :=
  if s.get Obj.tdrSharedLine = 0 then s
  else
    let at_ := i.field 20 4
    let hist := (List.range 32).filterMap (fun k =>
      let t := i.field (112 + 6 * k + 2) 4
      if t = 0 then none else some (s.now - 1000000 * (at_ - t), toSigned 2 (i.field (112 + 6 * k) 2)))
    { s with tiu.history := hist }

/-- The image adopted at a takeover (R639, R643, R646): what it held, restored to the Press by way of queue 0xBD (R12, log
entry 123), and its age. -/
def State.adoptImage (s : State) : State :=
  let s : State := { s with loops := { s.loops with
    reprobe := true, adoptedAt := some s.now, ulPassed := false, dlPassed := false } }
  match s.bestImage with
  | none => ({ s with twin.takeoverImage := none }).rackStale
  | some i =>
    let age := satBytes 2 ((s.now - i.arrived) / 1000)
    let s : State := { (s.pass 0xBD 1) with twin.takeoverImage := some (i.gen, age) }
    let s := ((s.adoptNet i).adoptHints i).adoptBursts i
    if s.get Obj.twinStaleLimit < age then s.rackStale else s.adoptPaths i

/-- The role becomes active (R627, R643): racking starts while the link is up, Notify 0x05 goes out, and a takeover adopts
its image. -/
def State.becomeActive (s : State) : State :=
  let s : State := { s with twin.claiming := false }
  let s := (((s.disarm .relayTime).disarm .startWait).disarm .claimInterval).set Obj.twinRole 1
  let s := if s.get Obj.twinLinkState = 2 then s.arm .rack 50000 else s
  let s := s.notify 5 0xFFFF [0x01#8]
  if s.twin.takeover.isNone then s
  else ((s.bump Obj.twinTakeoverCount 1).takeoverRequest).adoptImage

/-- A claim (R635): TWIN_ACT asserted; a TWIN_SEL that already counts as high makes the role active. -/
def State.claim (s : State) : State :=
  let s : State := { s with pins.twinAct := true, twin.claiming := true }
  if s.twin.selCounted then s.becomeActive else s.arm .relayTime (1000 * s.get Obj.twinRelayTime)

/-- A claim refused (R635, R636, R643): TWIN_ACT low, the role standby and the power state STANDBY; with the link down it
claims again. -/
def State.refuseClaim (s : State) : State :=
  let s : State := { (s.abandonBurst) with pins.twinAct := false, twin.claiming := false, twin.takeover := none }
  let s := (s.set Obj.twinRole 2).faultRow Obj.twinSticky 6 .vintner 0x2707 1 31 []
  let s : State :=
    if s.power.state = .active then s.fallToStandby 8
    else match s.power.trans with
      | some ⟨.relock, .active⟩ => ({ s with power.trans := none }).beginRelock 240
      | _ => s
  if s.get Obj.twinLinkState = 2 then s else s.arm .claimInterval (1000 * s.get Obj.twinClaimInterval)

/-- Whether the unit claims when the link comes up (R634). -/
def State.shouldClaim (s : State) : Bool :=
  if s.twin.selCounted != s.twin.peerSel then s.twin.selCounted
  else if (s.get Obj.twinPreferred == 1) != s.twin.peerPreferred then s.get Obj.twinPreferred == 1
  else s.isUnitA

/-- The link is up (R632 to R634): counters restart, Heartbeats run, and roles not yet held are settled. -/
def State.linkUp (s : State) : State :=
  let s : State := { s with twin.counterOut := 0, twin.counterIn := 0, twin.peerReady := 0, twin.lastHeartbeatRole := 0 }
  let s := ((s.set Obj.twinLinkState 2).disarm .twinHello).disarm .claimInterval
  let s := ((s.arm .twinHeartbeat 5000).arm .twinLinkDown 15000).disarm .startWait
  if s.get Obj.twinRole = 1 then s.arm .rack 50000
  else if s.pins.twinAct then s
  else if s.shouldClaim then s.claim else s

/-! ## The link going down (R633, R657) -/

/-- The link dropped (R633, Table 17-10 row 1): racking stops on the active, and a fresh handshake waits for its time. -/
def State.dropLink (s : State) : State :=
  let s := (((s.set Obj.twinLinkState 0).disarm .twinHeartbeat).disarm .twinLinkDown).disarm .twinHello
  let s : State := { (s.disarm .rack) with twin.helloSeen := false, twin.confirmed := false, twin.peerReady := 0 }
  let s := if s.get Obj.twinRole = 1 then s.faultRow Obj.twinSticky 0 .vintner 0x2601 1 31 []
    else if s.pins.twinAct then s
    else s.arm .claimInterval (1000 * s.get Obj.twinClaimInterval)
  s.set Obj.twinReady (s.get Obj.twinReady % 256)

/-- A tag that fails (Table 17-10 row 2): the third within 1 s drops the link, and Hello restarts 1 s later. -/
def State.tagFail (s : State) : State :=
  let s := (s.linkStat 3).faultRow Obj.twinSticky 1 .vintner 0x2602 1 31 []
  let recent := s.twin.authFails.filter (fun t => decide (s.now ≤ t + 1000000))
  if 2 ≤ recent.length then
    let s : State := { s with twin.authFails := [] }
    (if s.get Obj.twinLinkState = 2 then s.dropLink else (s.set Obj.twinLinkState 0).disarm .twinHello).arm .authRestart 1000000
  else { s with twin.authFails := recent ++ [s.now] }

/-- AUTH_FAIL_RESTART (R657): Hello restarts. -/
def execAuthFailRestart (s : State) : Out :=
  .next (s.onTimer .authRestart (fun s => if s.linkOn then s.beginHandshake else s))

/-- A Hello taken (R632): the partner's nonce and marks, the link key, and a Confirm. -/
def State.takeHello (s : State) (nonce : Nat) (preferred sel : Bool) : State :=
  let fresh := !s.twin.helloSeen || s.twin.peerNonce != nonce
  let s : State := { s with twin := { s.twin with
    peerNonce := nonce, peerPreferred := preferred, peerSel := sel, helloSeen := true
    confirmed := s.twin.confirmed && !fresh } }
  let s : State := { s with twin.linkKey := s.makeLinkKey }
  s.sendLink 2 (leBytes 16 (s.confirmTag s.ownSerial s.peerSerial s.twin.ownNonce nonce))

/-- HELLO_RECEIVE (R631, R632, R657): the serials must match crosswise. -/
def execHelloReceive (seq : BitVec 16) (serial expected : BitVec 64) (nonce : BitVec 128) (preferred sel : Bool)
    (s : State) : Out :=
  .next (s.onFrame seq.toNat (fun s =>
    if s.get Obj.twinLinkState ≠ 1 then s
    else if serial.toNat ≠ leNat s.peerSerial then
      s.faultRow Obj.twinSticky 2 .vintner 0x2603 1 31 (leBytes 8 serial.toNat)
    else if expected.toNat ≠ leNat s.ownSerial then s
    else s.takeHello nonce.toNat preferred sel))

/-- CONFIRM_RECEIVE (R632, R634, R657): the partner's tag verified brings the link up. -/
def execConfirmReceive (seq : BitVec 16) (tag : BitVec 128) (s : State) : Out :=
  .next (s.onFrame seq.toNat (fun s =>
    if s.get Obj.twinLinkState ≠ 1 ∨ !s.twin.helloSeen then s
    else if tag.toNat = s.confirmTag s.peerSerial s.ownSerial s.twin.peerNonce s.twin.ownNonce then
      ({ s with twin.confirmed := true }).linkUp
    else s.tagFail))

/-! ## Readiness (R640, R641) -/

/-- The objects of the configuration digest, in ascending order (R640). -/
def digestKeys : List Nat :=
  let rw := fun k => match objOf k with
    | some d => d.acc == .rw
    | none => false
  ((List.range 16).flatMap (fun i => (List.range 256).map (fun j => 256 * (0x3000 + i) + j))
    ++ (List.range 16).flatMap (fun i => [1, 2, 3, 4].map (fun j => 256 * (0x3110 + i) + j))
    ++ (List.range 256).map (fun j => 0x320000 + j) ++ (List.range 256).map (fun j => 0x330000 + j)).filter rw

/-- The 32 bytes of the configuration digest (R640). -/
def State.configDigest (s : State) : Bytes :=
  sliceBytes (Config.sha256 (digestKeys.flatMap (fun k => match objOf k with
    | some d => leBytes 2 (k / 256) ++ [byteOf (k % 256), byteOf d.ty.code] ++ s.bytesOf k
    | none => []))) 0 32

/-- The age of the latest committed image of a standby, or of the latest capture of an active, in ms; 0xFFFF none. -/
def State.rackAge (s : State) : Nat :=
  let at_ := if s.get Obj.twinRole = 1 then s.twin.capturedAt else s.bestImage.map (fun i => i.arrived)
  match at_ with
  | some t => satBytes 2 ((s.now - t) / 1000)
  | none => 0xFFFF

/-- Whether the latest image's digest is the unit's own (Table 17-6 bit 5); the active has no image of its partner. -/
def State.digestAgrees (s : State) : Bool :=
  s.get Obj.twinRole == 1 || (match s.bestImage with
    | some i => sliceBytes i.data 24 32 == s.configDigest
    | none => false)

/-- The ready flags of Table 17-6. -/
def State.readyFlags (s : State) : Nat :=
  let active := s.get Obj.twinRole == 1
  let lanes := (List.range 4).all (fun n => s.get (Obj.paLaneEnable n) == 0 || s.get (Obj.paLaneState n) == 3)
  let f := fun (b : Bool) i => if b then 2 ^ i else 0
  f (s.get Obj.tiuRefWarm == 0) 0 + f (!s.pa.breach && s.pins.sealN) 1 + f (lanes || s.get Obj.twinWarmLanes == 0) 2
    + f (s.get Obj.railSeqState == 4 && s.get Obj.railSeqLatchedSlot == 0xFF) 3
    + f (if active then s.get Obj.twinLinkState == 2 else decide (s.rackAge ≤ s.get Obj.twinStaleLimit)) 4
    + f s.digestAgrees 5
    + f (s.power.pressReady && s.power.vintReady && s.power.corkReady && s.sec.halted.isEmpty) 6
    + f ((s.lifecycle == 1 || s.lifecycle == 2) && s.get Obj.netState != 3) 7

/-- Twin.Ready followed, with the onsets of rows 4 and 5 of Table 17-10. -/
def State.noteReady (s : State) : State :=
  let stale := s.get Obj.twinRole == 2 && decide (s.get Obj.twinStaleLimit < s.rackAge)
  let s := if stale && !s.twin.staleNoted then s.rackStale else s
  let differs := s.get Obj.twinRole == 2 && s.bestImage.isSome && !s.digestAgrees
  let s := if differs && !s.twin.digestNoted then s.faultRow Obj.twinSticky 4 .vintner 0x2705 1 31 [] else s
  let s : State := { s with twin.staleNoted := stale, twin.digestNoted := differs }
  s.set Obj.twinReady (s.readyFlags + 256 * s.twin.peerReady)

/-! ## Heartbeats (R633) -/

/-- The first 8 bytes of a CMAC under the link key, as a number. -/
def State.linkTag (s : State) (m : Bytes) : Nat := (Config.cmac s.twin.linkKey m).toNat % 2 ^ 64

/-- The Heartbeat payload (Table 17-4). -/
def State.linkHeartbeat (s : State) : Bytes :=
  let head := leBytes 4 s.twin.counterOut ++ [byteOf (s.get Obj.twinRole), byteOf s.power.state.code, byteOf s.readyFlags,
    if s.twin.selCounted then 1#8 else 0#8] ++ leBytes 4 (s.get Obj.twinRackGeneration) ++ leBytes 4 s.opSeconds
    ++ leBytes 2 s.field.effective ++ List.replicate 38 0#8
  head ++ leBytes 8 (s.linkTag head)

/-- TWIN_HEARTBEAT (R633): every 5 ms while the link is up. -/
def execTwinHeartbeat (s : State) : Out :=
  .next (s.onTimer .twinHeartbeat (fun s =>
    if s.get Obj.twinLinkState ≠ 2 then s
    else
      let s := s.noteReady
      let s : State := { s with twin.counterOut := s.twin.counterOut + 1 }
      (s.sendLink 3 s.linkHeartbeat).arm .twinHeartbeat 5000))

/-- A valid Heartbeat (R633, R641, R648, R662, R672). -/
def State.validHeartbeat (s : State) (b : Bytes) : State :=
  let s : State := { s with twin := { s.twin with
    counterIn := fieldAt b 0 4, lastHeartbeatRole := fieldAt b 4 1
    peerReady := fieldAt b 6 1, peerSel := fieldAt b 7 1 != 0 } }
  let s := (s.set Obj.twinPartnerAddress (fieldAt b 16 2)).arm .twinLinkDown 15000
  (s.noteReady).demoteIfDue

/-- TWIN_HEARTBEAT_RECEIVE (R631, R633): the counter must rise and the tag verify. -/
def execTwinHeartbeatReceive (seq : BitVec 16) (payload : Bytes) (s : State) : Out :=
  .next (s.onFrame seq.toNat (fun s =>
    let b := sliceBytes payload 0 64
    if s.get Obj.twinLinkState ≠ 2 then s
    else if fieldAt b 56 8 ≠ s.linkTag (b.take 56) then s.tagFail
    else if fieldAt b 0 4 ≤ s.twin.counterIn then s
    else s.validHeartbeat b))

/-! ## Takeover (R642, R643, R670) -/

/-- A takeover declared (R643, R650, R670): a halted Press resumes, a commit is pre-empted, TWIN_ACT is asserted and ACTIVE
requested. Cause 0 is the link's loss, and 1 more than Table 17-3's cause a Departing (log entry 34). -/
def State.takeOver (s : State) (cause : Nat) : State :=
  if s.pins.twinAct || !s.twin.enabled then s
  else
    let s := if s.sec.halted.contains .press then s.endDebug false else s
    let s := s.preemptCommit
    let s : State := { s with twin.takeover := some (s.now, cause) }
    (s.takeoverRequest).claim

/-- TWIN_LINK_DOWN (R633, R642): 15 ms without a valid Heartbeat; a standby whose partner was last seen active takes over. -/
def execTwinLinkDown (s : State) : Out :=
  .next (s.onTimer .twinLinkDown (fun s =>
    if s.get Obj.twinLinkState ≠ 2 then s
    else
      let peer := s.twin.lastHeartbeatRole
      let own := s.get Obj.twinRole
      let s := s.dropLink
      let s := if own = 2 ∧ peer = 1 then s.takeOver 0 else s
      if s.linkOn then s.beginHandshake else s))

/-- The code of a Departing cause (Table 17-3). -/
def departCode : DepartCause → Nat
  | .holdup => 0 | .dormant => 1 | .restart => 2 | .pressWatchdog => 3 | .demotion => 4

/-- DEPARTING_RECEIVE (R642, R643): a standby takes over, ready or not. -/
def execDepartingReceive (seq : BitVec 16) (cause : DepartCause) (generation : BitVec 32) (s : State) : Out :=
  .next (s.onFrame seq.toNat (fun s =>
    if s.get Obj.twinLinkState ≠ 2 ∨ s.get Obj.twinRole ≠ 2 then s
    else ({ s with twin.lastHeartbeatRole := 2, twin.generation := max s.twin.generation generation.toNat }).takeOver
      (1 + departCode cause)))

/-- TWIN_SEL_CHANGE (R627, R635, R643, R657): TWIN_SEL has held a new level for 1 ms. -/
def execTwinSelChange (high : Bool) (s : State) : Out :=
  .next (s.when s.awake (fun s =>
    let was := s.twin.selCounted
    let s : State := { s with pins.twinSel := high, twin.selCounted := high }
    if !s.twin.enabled || was == high then s
    else if high then
      if s.twin.claiming then s.becomeActive
      else if s.pins.twinAct && s.twin.relayLost then
        let s := (({ s with twin.relayLost := false }).disarm .relayLost).set Obj.twinRole 1
        if s.get Obj.twinLinkState = 2 then s.arm .rack 50000 else s
      else s
    else if s.pins.twinAct && s.get Obj.twinRole == 1 then
      let s := ({ s with twin.relayLost := true }).hardMute
      ((s.set Obj.twinRole 2).faultRow Obj.twinSticky 7 .press 0x2708 2 31 []).arm .relayLost 1000000
    else s))

/-- RELAY_LOST_DEMOTION (R648, R657): 1 s after the relay was lost. -/
def execRelayLostDemotion (s : State) : Out := .next (s.onTimer .relayLost (fun s => s.demoteIfDue))

/-- START_WAIT_EXPIRY (R636): the link has not come up; the unit claims once. -/
def execStartWaitExpiry (s : State) : Out :=
  .next (s.onTimer .startWait (fun s =>
    if s.get Obj.twinLinkState = 2 ∨ s.pins.twinAct ∨ !s.twin.enabled then s else s.claim))

/-- CLAIM_INTERVAL_EXPIRY (R636, R642): with the link still down the standby claims again; success is a takeover. -/
def execClaimIntervalExpiry (s : State) : Out :=
  .next (s.onTimer .claimInterval (fun s =>
    if s.get Obj.twinLinkState = 2 ∨ s.pins.twinAct ∨ !s.twin.enabled then s
    else ({ s with twin.takeover := some (s.now, 0) }).claim))

/-- RELAY_TIME_EXPIRY (R635, R643): TWIN_SEL has not counted as high within Twin.RelayTime. -/
def execRelayTimeExpiry (s : State) : Out :=
  .next (s.onTimer .relayTime (fun s => if s.twin.claiming then s.refuseClaim else s))

/-! ## Racking (R637 to R639) -/

/-- A path record of an image (Table 17-5). -/
def State.rackPath (s : State) (p : Nat) : Bytes :=
  let loop := s.bytesOf (Obj.stabLoop p)
  let r := s.path p
  s.bytesOf (Obj.stabApplied p) ++ s.bytesOf (Obj.stabTargetGain p) ++ limitBytes r.pilotLimit ++ limitBytes (s.scheduleLimit p)
    ++ sliceBytes loop 0 2 ++ sliceBytes loop 4 2 ++ leBytes 2 (s.isolation p) ++ leBytes 4 r.loopDelay
    ++ [byteOf (fieldAt loop 14 1), byteOf (s.get (Obj.stabState p)),
        byteOf (countFrames r.frameBits (s.get Obj.stabPilotFrames)), 0#8]
    ++ leBytes 2 (s.frameAge p) ++ List.replicate 24 0#8

/-- The burst history of an image (Table 17-5): height and operating seconds, oldest first. -/
def State.rackBursts (s : State) : Bytes :=
  let h := s.tiu.history.drop (s.tiu.history.length - 32)
  sliceBytes (h.flatMap (fun x => leBytes 2 (ofSigned 2 x.2) ++ leBytes 4 (s.opSeconds - (s.now - x.1) / 1000000))) 0 192

/-- The lockout starts of an image (Table 17-5). -/
def State.rackLockouts (s : State) : Bytes :=
  let h := s.net.history.filter (fun t => decide (s.opSeconds ≤ t + s.get Obj.netRepeatWindow))
  sliceBytes (h.flatMap (leBytes 4)) 0 12

/-- An image as it stands at this instant (Table 17-5), its CMAC over bytes 0–55 and 72 onwards. -/
def State.rackImage (s : State) (gen : Nat) : Bytes :=
  let head := [0x4D#8, 0x56#8, 0x54#8, 0x57#8, 0x01#8, 0x00#8] ++ leBytes 2 2120 ++ s.ownSerial ++ leBytes 4 gen
    ++ leBytes 4 s.opSeconds ++ s.configDigest
  let tail := [byteOf (s.get Obj.netState), byteOf s.net.before] ++ leBytes 2 s.lockoutRemaining ++ s.rackLockouts
    ++ List.replicate 8 0#8 ++ s.bytesOf Obj.tdrWaterline ++ s.rackBursts
    ++ s.bytesOf (Obj.hintWindow 0) ++ s.bytesOf (Obj.hintWindow 1) ++ pathNums.flatMap s.rackPath
    ++ pathNums.flatMap (fun p => s.bytesOf (Obj.stabSchedule p))
  head ++ leBytes 16 (Config.cmac s.twin.linkKey (head ++ tail)).toNat ++ tail

/-- An image captured and sent (R637), the Press's part by way of queue 0xBC (R12, log entry 123): chunks of 56 bytes in
ascending offset, then ImageEnd. -/
def State.captureImage (s : State) : State :=
  let gen := (s.twin.generation + 1) % 2 ^ 32
  let image := s.rackImage gen
  let s := (List.range 38).foldl (fun (s : State) i =>
    let part := (image.drop (56 * i)).take 56
    s.sendLink 4 (leBytes 4 gen ++ leBytes 2 (56 * i) ++ [byteOf part.length, 0#8] ++ part)) (s.pass 0xBC 1)
  let s := s.sendLink 5 (leBytes 4 gen ++ leBytes 2 2120)
  { (s.set Obj.twinRackGeneration gen) with twin.generation := gen, twin.capturedAt := some s.now }

/-- RACK_CAPTURE (R637): every 50 ms while the link is up. -/
def execRackCapture (s : State) : Out :=
  .next (s.onTimer .rack (fun s =>
    if s.get Obj.twinRole = 1 ∧ s.get Obj.twinLinkState = 2 then (s.captureImage).arm .rack 50000 else s))

/-- The image slot of a generation (R638). -/
def State.imageSlot (s : State) (gen : Nat) : ImageSlot := if gen % 2 = 0 then s.twin.slot0 else s.twin.slot1

/-- The same, replaced. -/
def State.setImage (s : State) (i : ImageSlot) : State :=
  if i.gen % 2 = 0 then { s with twin.slot0 := i } else { s with twin.slot1 := i }

/-- IMAGE_CHUNK_RECEIVE (R631, R638): the first chunk of a generation clears its slot's marker; chunks follow in ascending
offset, and one that does not follow on is left out, so that the generation fails at its end. -/
def execImageChunkReceive (seq : BitVec 16) (generation : BitVec 32) (offset : BitVec 16) (data : Bytes) (s : State) : Out :=
  .next (s.onFrame seq.toNat (fun s =>
    if s.get Obj.twinLinkState ≠ 2 ∨ s.get Obj.twinRole ≠ 2 then s
    else
      let g := generation.toNat
      let old := s.imageSlot g
      let i : ImageSlot := if old.gen = g ∧ !old.committed ∧ !old.data.isEmpty then old else ⟨g, s.now, [], false⟩
      if offset.toNat = i.data.length ∧ 1 ≤ data.length ∧ data.length ≤ 56 then s.setImage { i with data := i.data ++ data }
      else s.setImage i))

/-- Whether a finished generation is complete and its CMAC verifies (R638). -/
def State.imageOk (s : State) (i : ImageSlot) (length : Nat) : Bool :=
  !i.committed && i.data.length == length && length == 2120 && i.field 16 4 == i.gen
    && i.field 56 16 == (Config.cmac s.twin.linkKey (sliceBytes i.data 0 56 ++ i.data.drop 72)).toNat

/-- The waterline of a committed image published by a standby that shares the line (R546, R639), for what is left of its
validity since the active's burst. -/
def State.rackWaterline (s : State) (i : ImageSlot) : State :=
  let bs := sliceBytes i.data 96 16
  let flags := fieldAt bs 10 1
  if s.get Obj.tdrSharedLine = 0 ∨ !flags.testBit 0 then s
  else
    let age := i.field 20 4 - fieldAt bs 12 4
    let left := s.get Obj.tdrValidAge - age
    if left = 0 then s
    else s.publishWater (sliceBytes bs 0 10 ++ [byteOf (setBit flags 3), 0#8] ++ sliceBytes bs 12 4) (1000000 * left)

/-- The schedule of a path lowered to racked points that lie lower (R402, R639). -/
def State.rackSchedule (s : State) (i : ImageSlot) (p : Nat) : State :=
  (List.range 16).foldl (fun (s : State) k =>
    let own := s.bytesOf (Obj.stabSchedule p)
    let o := 1096 + 64 * p + 4 * k
    let h := fieldAt own (4 * k) 2
    if h = 0xFFFF ∨ i.field o 2 ≠ h ∨ fieldAt own (4 * k + 2) 2 ≤ i.field (o + 2) 2 then s
    else s.lowerPoint p k (fieldAt own (4 * k + 2) 2) (i.field (o + 2) 2)) s

/-- HandoverAccept sent by a ready standby that has committed the generation named (R649, R663). -/
def State.answerHandover (s : State) : State :=
  match s.twin.handoverGen with
  | some g =>
    if s.readyFlags ≠ 0xFF then { s with twin.handoverGen := none }
    else if (s.imageSlot g).gen = g ∧ (s.imageSlot g).committed then
      ({ s with twin.handoverGen := none }).sendLink 8 (leBytes 4 g)
    else s
  | none => s

/-- A generation committed (R638, R639, R649). -/
def State.commitImage (s : State) (i : ImageSlot) : State :=
  let s := (s.setImage { i with committed := true }).set Obj.twinRackGeneration i.gen
  let s := s.rackWaterline i
  let s := if s.get Obj.stabScheduleLearn = 1 then pathNums.foldl (fun (s : State) p => s.rackSchedule i p) s else s
  (s.noteReady).answerHandover

/-- IMAGE_END_RECEIVE (R402, R546, R638, R639): the generation is checked and committed, or dropped. -/
def execImageEndReceive (seq : BitVec 16) (generation : BitVec 32) (length : BitVec 16) (s : State) : Out :=
  .next (s.onFrame seq.toNat (fun s =>
    let i := s.imageSlot generation.toNat
    if s.get Obj.twinLinkState ≠ 2 ∨ s.get Obj.twinRole ≠ 2 ∨ i.gen ≠ generation.toNat then s
    else if s.imageOk i length.toNat then s.commitImage i
    else if i.committed then s
    else s.setImage { i with data := [] }))

/-! ## Handover (R649, R655, R663) -/

/-- A planned handover begun (R649). -/
def State.startHandover (s : State) : State :=
  let g := s.twin.generation
  (({ s with twin.handoverGen := some g }).sendLink 7 (leBytes 4 g)).arm .handover 200000

/-- HANDOVER_REQUEST_RECEIVE (R649, R663): answered once the generation named is committed, by a ready standby. -/
def execHandoverRequestReceive (seq : BitVec 16) (generation : BitVec 32) (s : State) : Out :=
  .next (s.onFrame seq.toNat (fun s =>
    if s.get Obj.twinLinkState ≠ 2 ∨ s.get Obj.twinRole ≠ 2 then s
    else ({ s with twin.handoverGen := some generation.toNat }).answerHandover))

/-- HANDOVER_ACCEPT_RECEIVE (R649, R667): the active hard-mutes, racks a final generation, departs and releases TWIN_ACT. -/
def execHandoverAcceptReceive (seq : BitVec 16) (generation : BitVec 32) (s : State) : Out :=
  .next (s.onFrame seq.toNat (fun s =>
    if s.armed .handover ∧ s.twin.handoverGen = some generation.toNat ∧ s.pins.twinAct then
      let s : State := { (s.disarm .handover) with twin.handoverGen := none }
      ((s.hardMute).captureImage).demote
    else s))

/-- HANDOVER_TIMEOUT (R649): abandoned without effect. -/
def execHandoverTimeout (s : State) : Out :=
  .next (s.onTimer .handover (fun s => { s with twin.handoverGen := none }))

/-! ## Start (R634) -/

/-- The twin function as the cores report ready at a start: Twin.Enable taken, role standby, StartWait running. -/
def State.twinStart (s : State) : State :=
  if s.get Obj.twinEnable = 1 then
    let s : State := { s with twin.enabled := true, twin.selCounted := s.pins.twinSel }
    (s.set Obj.twinRole 2).arm .startWait (1000 * s.get Obj.twinStartWait)
  else s

end Sys2Proof.Machine
end

