-- ==== Sys2Proof/Machine/Boot.lean ====
section
/-!
DEFINITION. The boot (ch. 04, ch. 05): the configuration store read, the two banks verified, a lifecycle transition
completed, the cores reporting ready, and the running bundle confirmed.
-/

namespace Sys2Proof.Machine

open Sys2Proof

/-! ## The configuration store at boot (R154, R157, R158, R195) -/

/-- The Persistent RW registers as the image in use gives them (R154, R194), every other register kept. -/
def State.loadImage (s : State) : State :=
  { s with dict := overlay (s.dict.filter (fun p => !isPersistentRw p.1))
                     (s.cfg.current.image.filter (fun p => isPersistentRw p.1)) }

/-- A journal that carries its commit marker replayed (R157): the older copy takes the next generation. A journal
without one is ignored. -/
def State.replayJournal (s : State) : State :=
  if s.cfg.marker then
    let image := overlay s.cfg.current.image s.cfg.journal
    let s : State := { s with cfg := { (s.cfg.writeOlder image) with journal := [], marker := false } }
    s.bump Obj.dictConfigWrites 1
  else { s with cfg.journal := [] }

/-- CONFIG_BOOT_LOAD (R17, R154, R157, R158, R194, R195): the CRC of each copy checked before the stored trellis is used,
the journal replayed, and the Persistent values taken from the copy in use. A failed copy is rewritten from the good one;
with both lost no rail is released. -/
def execConfigBootLoad (crcA crcB : Bool) (s : State) : Out :=
  .next (s.when (s.power.state == .dormant && s.power.trans.isNone && !s.power.recovery) (fun s =>
    let s : State := { s with cfg.copyA.valid := crcA, cfg.copyB.valid := crcB }
    if !crcA && !crcB then
      (({ s with cfg.journal := [], cfg.marker := false } : State).flag Obj.dictSticky 5).postLog .cellar 0x0806 2 31 false true []
    else
      let good := s.cfg.current
      let s := if crcA && crcB then s
        else ({ s with cfg.copyA := good, cfg.copyB := good }).faultRow Obj.dictSticky 4 .cellar 0x0805 1 31 []
      (s.replayJournal).loadImage))

/-! ## Verifying a bundle (R102, R103) -/

/-- Whether the header fields of Table 4-2 are valid for a core's image with `room` bytes of bank from its start. -/
def headerOk (h : Bytes) (core room : Nat) : Bool :=
  fieldAt h 0 4 == 0x3142564D && fieldAt h 4 1 == core && fieldAt h 5 1 == 1 && fieldAt h 6 2 == 0
    && decide (fieldAt h 12 1 ≤ 31) && decide (fieldAt h 13 1 ≤ 1) && fieldAt h 14 2 == 0
    && decide (128 + fieldAt h 16 4 ≤ room) && fieldAt h 20 4 == 0 && fieldAt h 56 8 == 0

/-- The image of a core that begins at byte `at_` of a bank, as R102 and R103 read it, and where the next one begins.
Nothing behind an invalid header is read. -/
def imageAt (m : List Host.Cell) (at_ core : Nat) : ImageFacts × Nat :=
  let h := memSlice zeroByte m at_ 128
  if headerOk h core (1572864 - at_) then
    let n := fieldAt h 16 4
    (⟨true, fieldAt h 13 1,
      Config.imageKeyVerify (fieldAt h 13 1) (sliceBytes h 0 64) (sliceBytes h 64 32) (sliceBytes h 96 32),
      Config.sha256 (memSlice zeroByte m (at_ + 128) n) == sliceBytes h 24 32, fieldAt h 12 1, fieldAt h 8 4⟩,
     at_ + 128 + n)
  else (⟨false, 0, false, false, 0, 0⟩, at_)

/-- The three images of a bank, Press, Vintner and Cork one after another (R102, log entry 112). -/
def bundleAt (m : List Host.Cell) : BundleFacts :=
  let p := imageAt m 0 1
  let v := imageAt m p.2 2
  ⟨p.1, v.1, (imageAt m v.2 3).1⟩

/-- The memory of a bank. -/
def State.bankMem (s : State) (bank : Nat) : List Host.Cell := if bank = 0 then s.mems.bankA else s.mems.bankB

/-- What verification reads in a bank (R103). -/
def State.bankFacts (s : State) (bank : Nat) : BundleFacts := bundleAt (s.bankMem bank)

/-- The check of R103 that an image fails, by the codes of Update.FailedCheck: 1 header, 2 key slot, 3 signature,
4 digest, 5 Svn. -/
def State.imageFault (s : State) (i : ImageFacts) : Option Nat :=
  if !i.headerValid then some 1
  else if i.keySlot = 0 ∧ s.sec.slot0Revoked then some 2
  else if !i.signatureOk then some 3
  else if !i.digestOk then some 4
  else if i.svn < s.sec.securityCounter then some 5
  else none

/-- The first failure of a bundle: core (1 Press, 2 Vintner, 3 Cork) and check; 6 is a Version that differs. -/
def State.bundleFault (s : State) (b : BundleFacts) : Option (Nat × Nat) :=
  match s.imageFault b.press, s.imageFault b.vintner, s.imageFault b.cork with
  | some c, _, _ => some (1, c)
  | none, some c, _ => some (2, c)
  | none, none, some c => some (3, c)
  | none, none, none =>
    if b.vintner.version ≠ b.press.version then some (2, 6)
    else if b.cork.version ≠ b.press.version then some (3, 6)
    else none

/-- The Svn of a bundle: the lowest of its images, so that it still passes once the counter is raised (log entry 35). -/
def bundleSvn (b : BundleFacts) : Nat := min b.press.svn (min b.vintner.svn b.cork.svn)

/-- What the Cork found in a bank. -/
def Boot.bank (b : Boot) (n : Nat) : Option BundleFacts := if n = 0 then b.bankA else b.bankB

/-- The version Identity.BankAVersion or BankBVersion shows: 0 for a bank that holds no accepted bundle. -/
def State.bankVersion (s : State) (n : Nat) : Nat :=
  match s.boot.bank n with
  | some b => if (s.bundleFault b).isNone then b.press.version else 0
  | none => 0

/-- A bank that failed verification (Table 4-14): flag and record of bank, core and failed check. -/
def State.bankFailed (s : State) (bank core check : Nat) : State :=
  s.faultRow Obj.securitySticky 0 .cork 0x0401 1 31 ([byteOf bank] ++ leBytes 4 core ++ [byteOf check])

/-! ## A lifecycle transition completed at boot (R112, R113) -/

/-- Codes of the lifecycle entries of the Vintage, programmed or due, and of the records on their way. -/
def State.lifecycleCodes (s : State) : List Nat :=
  ((List.range 64).filter (fun e => (s.vintEntry e).getD 27 0#8 == 0x5A#8)).map (fun e => fieldAt (s.vintEntry e) 0 2)
    ++ s.cask.vintWork.map (fun w => fieldAt w.2 0 2)
    ++ s.cask.own.map (fun m => m.code)
    ++ s.q.msgs.filterMap (fun m => match m.body with | .log l => some l.code | _ => none)

/-- The state that preceded the one the fuses show (R112): SEALED follows PROVISIONED, and RETURNED the latest state that
has left its entry. -/
def State.stateBefore (s : State) (l : Nat) : Nat :=
  if l = 2 then 1
  else if l = 3 then
    (if s.lifecycleCodes.contains 0x8502 then 2 else if s.lifecycleCodes.contains 0x8501 then 1 else 0)
  else 0

/-- R112, R113: an erasure that was not followed by its fuses blows them; a state without its Vintage entry gets one; an
invalid pattern is flagged and recorded once, in the lifecycle area alone. -/
def State.completeLifecycle (s : State) : State :=
  let l := s.lifecycle
  if s.sec.erased ∧ l < 3 then
    ({ s with sec.fuses := s.sec.fuses ||| fusePattern 3, sec.erased := false }).lifecycleRecord l 3 2
  else if l = 4 then
    let s := s.flag Obj.securitySticky 6
    if s.lifecycleCodes.contains 0x8504 then s
    else s.vintFor (s.mkLog .cork 0x8504 0 31 false true [0x00#8, 0x04#8, 0x03#8]) .lifecycle 0xFFFF
  else
    let s := if l = 0 ∨ s.lifecycleCodes.contains (0x8500 + l) then s
      else s.lifecycleRecord (s.stateBefore l) l 2
    if (l = 1 ∨ l = 2) ∧ !s.hasEntry rskEntry then s.makeRsk else s

/-! ## SECURE_BOOT (R18, R104, R105) -/

/-- A bank started: another bank than before, or one programmed anew since it last started, runs unconfirmed for 3,600
core-seconds (R106), and the receipts that still want a signature get one (R426). A Trial whose bank failed R103 stays a
Trial while the old bank runs (log entry 114). -/
def State.startBank (s : State) (bank : Nat) : State :=
  let version := match s.boot.bank bank with
    | some b => b.press.version
    | none => 0
  let s : State := if bank = s.boot.running ∧ !s.boot.rewritten then s
    else { (s.set Obj.bootConfirmed 0) with
      boot := { s.boot with running := bank, rewritten := false,
                            confirmedAfter := s.get Obj.powerStateCoreSeconds + 3600 } }
  let s := (s.set Obj.bootRunningBank bank).set Obj.bootRunningVersion version
  let s : State := { s with power.corkReady := true }
  let s := s.arm (.watchdog .cork) (s.watchdogTime .cork)
  let left := s.boot.confirmedAfter - s.get Obj.powerStateCoreSeconds
  let s := if s.get Obj.bootConfirmed = 1 then s else s.arm .bundleConfirm (1000000 * left - s.time.coreFrac)
  let s := if s.sec.entropyFailed then s.arm .entropyRetest 10000000 else s
  s.signLate

/-- Both banks failed (R105): the recovery window in DORMANT, with the start abandoned. -/
def State.openRecovery (s : State) : State :=
  let s := (s.flag Obj.securitySticky 1).postLog .cork 0x0402 2 31 false true []
  if s.power.state = .dormant then
    ({ s with power := { s.power with recovery := true, trans := none, touchStart := false, wakePending := false } })
  else s

/-- An update that a restart cut short (R191): the phases Receiving, Verifying and Verified count as interrupted (log
entry 114). -/
def State.cutUpdate (s : State) : State :=
  let u := s.get Obj.updateState
  if 1 ≤ u ∧ u ≤ 3 then
    ({ (s.set Obj.updateState 4) with upd.segments := [] }).faultRow Obj.updateSticky 2 .vintner 0x090A 1 31 []
  else s

/-- The wrapping key and the device identity key derived from the DUK (Table 4-1). -/
def State.deriveKeys (s : State) : State :=
  { s with sec := { s.sec with kwk := some (Config.deriveKwk Config.duk), dik := some (Config.deriveDik Config.duk) } }

/-- The key store read at boot (Table 4-14 bit 2): an entry whose GCM tag fails sets KeyStoreIntegrity, with its record and
Vintage entry. `tagFails` names the entries whose stored bytes fail, by their index. -/
def State.checkKeys (s : State) (tagFails : BitVec 6) : State :=
  let s : State := { s with sec.keyStore := s.sec.keyStore.map (fun e =>
    if tagFails.getLsbD e.index then { e with intact := false } else e) }
  (s.sec.keyStore.filter (fun e => !e.intact)).foldl (fun (s : State) _ =>
    (s.flag Obj.securitySticky 2).postLog .cork 0x0503 1 31 false true []) s

/-- The banks verified and the first that passes started (R104, R105). -/
def State.bootBanks (s : State) : State :=
  let s : State := (s.set Obj.identityBankAVersion (s.bankVersion 0)).set Obj.identityBankBVersion (s.bankVersion 1)
  let sel := s.get Obj.bootSelectedBank
  match s.bundleFault (s.bankFacts sel) with
  | none => s.startBank sel
  | some f =>
    let s := s.bankFailed sel f.1 f.2
    match s.bundleFault (s.bankFacts (1 - sel)) with
    | none => (s.bump Obj.bootFallbackCount 1).startBank (1 - sel)
    | some g => (s.bankFailed (1 - sel) g.1 g.2).openRecovery

/-- SECURE_BOOT (R18, R26, R97, R103 to R105, R112, R113, R146, R191, R426): the Cork leaves reset, derives its keys, reads
the key store, completes what the fuses imply, verifies the selected bank and if need be the other, and starts the first
that passed. A receipt whose signature a brown-out cut says so. A Cork reset alone cuts an update too (log entry 114). -/
def execSecureBoot (roleTagFails : BitVec 4) (otherTagFails : BitVec 2) (s : State) : Out :=
  .next (s.when (s.power.coreReleased && !s.power.corkReady && !s.power.recovery) (fun s =>
    let s : State := { s with boot.bankA := some (s.bankFacts 0), boot.bankB := some (s.bankFacts 1) }
    ((((((s.deriveKeys).checkKeys (otherTagFails ++ roleTagFails)).dropSigning 4).completeLifecycle).cutUpdate).bootBanks)))

/-! ## CORES_READY (Table 1-3 step 5, R25, R481, R524) -/

/-- What the Press begins as it reports ready: its table checked (R524), windows, the reference of HK-B, feed readings
expected, and lanes that a seal breach holds (R465). -/
def State.pressBegins (s : State) (tiuTableOk : Bool) : State :=
  let s : State := { s with power.pressReady := true, tiu.calFault := !tiuTableOk, hkb.refAt := some s.now }
  let s := (s.newWindows).arm (.watchdog .press) (s.watchdogTime .press)
  let s := s.arm .feedStale 4000
  let s := if s.pa.breach then laneNums.foldl (fun (s : State) n => s.set (Obj.paLaneState n) 6) s else s
  if tiuTableOk then s
  else (s.flag Obj.tiuSticky 2).postLog .press 0x2203 1 31 false true []

/-- What the Vintner begins as it reports ready. -/
def State.vintnerBegins (s : State) : State :=
  let s : State := { s with power.vintReady := true }
  let s := s.arm (.watchdog .vintner) (s.watchdogTime .vintner)
  if s.armed .counterWriteback then s else s.arm .counterWriteback 60000000

/-- CORES_READY: the cores that were in reset report ready; at a start the slots outside CoreSet may follow, unless the
start is the limited one of R504. -/
def execCoresReady (tiuTableOk : Bool) (s : State) : Out :=
  .next (s.when (s.power.coreReleased && s.power.corkReady && (!s.power.pressReady || !s.power.vintReady)) (fun s =>
    let s := if s.power.pressReady then s else s.pressBegins tiuTableOk
    let s := if s.power.vintReady then s else s.vintnerBegins
    if s.starting && s.rail.coresReadyAt.isNone then
      let s : State := { (s.set Obj.railSeqState 3) with rail.coresReadyAt := some s.now }
      ((s.twinStart).startDelays).advanceStart
    else s))

/-- BUNDLE_CONFIRM (R106, R190): 3,600 core-seconds without a watchdog expiry; the fused counter rises to the bundle's
Svn, and a Trial ends. -/
def execBundleConfirm (s : State) : Out :=
  .next (s.onTimer .bundleConfirm (fun s =>
    let svn := match s.boot.bank s.boot.running with
      | some b => bundleSvn b
      | none => 0
    let n := max s.sec.securityCounter (min 31 svn)
    let s : State := { s with sec.securityCounter := n }
    let s := (s.set Obj.bootSecurityCounter n).set Obj.bootConfirmed 1
    if s.get Obj.updateState = 5 then s.set Obj.updateState 0 else s))

/-- COUNTER_WRITEBACK (R156): counters and statistics written back, at least every 60 s. -/
def execCounterWriteback (s : State) : Out :=
  .next (s.onTimer .counterWriteback (fun s => (s.writeBack).arm .counterWriteback 60000000))

end Sys2Proof.Machine
end

