-- ==== Sys2Proof/Machine/Pmbus.lean ====
section
/-!
DEFINITION. The PMBus controller and the lanes it serves (R435 to R443, R449, R474), and its margin transactions
(R510, R521).
-/

namespace Sys2Proof.Machine

open Sys2Proof

/-! ## Formats and telemetry -/

/-- A power of two with a signed exponent applied to `m`, rounded to the nearest integer (log entry 10). -/
def scaleBy (m : Int) (e : Int) : Int :=
  if 0 ≤ e then m * (2 : Int) ^ e.toNat else roundDiv m ((2 : Int) ^ (-e).toNat)

/-- A Linear11 value times `scale` (R435): an 11-bit mantissa and a 5-bit exponent, both signed. -/
def linear11 (w scale : Nat) : Int :=
  let y : Int := if 1024 ≤ w % 2048 then (w % 2048 : Int) - 2048 else (w % 2048 : Int)
  let e : Int := if 16 ≤ w / 2048 then (w / 2048 : Int) - 32 else (w / 2048 : Int)
  scaleBy (y * scale) e

/-- A Linear16 value times `scale`, with a declared exponent (R435). -/
def linear16 (w scale : Nat) (e : Int) : Int := scaleBy ((w * scale : Nat) : Int) e

/-- A value as an unsigned field of 16 bits, limited to it. -/
def u16Of (i : Int) : Nat := (max 0 (min 65535 i)).toNat

/-- A value as a signed field of 16 bits, limited to it. -/
def i16Of (i : Int) : Nat := ofSigned 2 (max (-32768) (min 32767 i))

/-- A 16-bit field of PaLane.Telemetry (Table 12-9). -/
def State.telemetry (s : State) (n off : Nat) : Nat := fieldAt (s.bytesOf (Obj.paLaneTelemetry n)) off 2

/-- The same, replaced. -/
def State.setTelemetry (s : State) (n off v : Nat) : State :=
  let bs := s.bytesOf (Obj.paLaneTelemetry n)
  s.set (Obj.paLaneTelemetry n) (leNat (sliceBytes bs 0 off ++ leBytes 2 v ++ sliceBytes bs (off + 2) (14 - off)))

/-! ## Lane events -/

/-- A lane that no stop holds any more is off, and may start (R439, Table 12-9). -/
def State.laneReleased (s : State) (n : Nat) : State :=
  if s.get (Obj.paLaneState n) == 5 && !(s.lane n).hold.any then s.set (Obj.paLaneState n) 0 else s

/-- A regulator fault (R440, Table 12-7): the lane stops; one restart after 10 s, none after a second fault within 3,600 s;
STATUS_VOUT and STATUS_IOUT are read for the snapshot. -/
def State.regulatorFault (s : State) (n : Nat) : State :=
  let r := s.lane n
  let second : Bool := match r.faultAt with
    | some t => decide (s.now ≤ t + 3600000000)
    | none => false
  let s := s.setLane n { r with
    hold := { r.hold with regulator := true }, faultAt := some s.now
    statusVout := none, snapshot := true }
  let s := (s.flag (Obj.paLaneSticky n) 1).stopLane n
  let s := if second then s.disarm (.regulatorRestart n) else s.arm (.regulatorRestart n) 10000000
  s.sendPmb n [0x7A, 0x7B]

/-- The snapshot of a regulator fault (Table 16-4). -/
def State.regulatorSnapshot (s : State) (n iout : Nat) : State :=
  let r := s.lane n
  if r.snapshot then
    (s.setLane n { r with snapshot := false }).postLog .press 0x1802 2 n true false
      ([byteOf n, byteOf (r.statusVout.getD 0), byteOf iout, 0x00#8] ++ leBytes 2 (s.telemetry n 12)
        ++ s.bytesOf (Obj.paLaneTelemetry n))
  else s

/-- The start check met (Table 12-2): PA_EN_x high and the bias rising, unless the hardware path of SEAL_N holds both
low (R23). -/
def State.checkStart (s : State) (n : Nat) : State :=
  let r := s.lane n
  if s.get (Obj.paLaneState n) == 1 && s.sealOpen && r.voutOk && r.statusOk then
    let goal := s.biasTarget n
    let s : State := { (s.disarm (.laneRegulator n)) with pins.paEn := s.pins.paEn ||| BitVec.ofNat 4 (2 ^ n) }
    let s := s.setLane n { r with biasFrom := 0, biasAt := s.now, biasGoal := 0 }
    let s := (s.set (Obj.paLaneState n) 2).setBias n goal
    let slope := max 1 (s.get (Obj.paLaneBiasSlope n))
    s.arm (.laneReady n) ((1000 * goal + slope - 1) / slope)
  else s

/-- The sum of READ_POUT over the Ready lanes, and the overrun it may begin (R449). -/
def State.measurePower (s : State) : State :=
  let sum := laneNums.foldl (fun a n => if s.get (Obj.paLaneState n) = 3 then a + s.telemetry n 6 else a) 0
  let s := s.set Obj.paBudgetMeasured (satBytes 2 sum)
  let above := decide (s.effectiveCap * (1000 + s.get Obj.paBudgetTolerance) < 1000 * sum)
  if !above then s.disarm .overrun
  else if s.armed .overrun || s.pa.overrun then s
  else s.arm .overrun (1000 * s.get Obj.paBudgetOverrunTime)

/-- The factor k after a READ_POUT of `pout` × 0.1 W, `dt` µs after the last one (R443): one step of a time constant of
1 s towards the ratio (log entry 24). -/
def State.nextK (s : State) (n pout dt : Nat) : Nat :=
  let k := (s.lane n).kFine
  let model := s.modelAtOne n
  if model = 0 then k
  else
    let ratio : Int := (pout * wattOne * 100000000 / model : Nat)
    (max 500000000 (min 2000000000 ((k : Int) + (ratio - k) * (min dt 1000000 : Nat) / 1000000))).toNat

/-- The factor `k` in use and reported, with what the bursts' averages take from it, `dt` µs after the last one (R443). -/
def State.noteK (s : State) (n k dt : Nat) : State :=
  let kDb := Config.toDb (k * 2 ^ 32 / 1000000000)
  let r := s.lane n
  let s := s.setLane n { r with
    kFine := k, poutAt := some s.now, pmbFault := false, readyUs := r.readyUs + dt, trimSum := r.trimSum + kDb * dt }
  s.set (Obj.paLaneModelK n) ((k + 500000) / 1000000)

/-- Microseconds since the last READ_POUT of a lane, 0 for the first. -/
def State.sincePout (s : State) (n : Nat) : Nat :=
  match (s.lane n).poutAt with
  | some t => s.now - t
  | none => 0

/-- A READ_POUT result of `pout` × 0.1 W on a lane that is Ready (R443, R449, R468). -/
def State.notePout (s : State) (n pout : Nat) : State :=
  if s.get (Obj.paLaneState n) = 3 then
    ((s.noteK n (s.nextK n pout (s.sincePout n)) (s.sincePout n)).disarm (.laneMonitor n)).measurePower
  else s

/-- A READ_POUT result, in the Linear11 format (R443, R449, R468). -/
def State.poutRead (s : State) (n data : Nat) : State :=
  (s.setTelemetry n 6 (u16Of (linear11 data 10))).notePout n (u16Of (linear11 data 10))

/-- Whether READ_VOUT lies within 5 % of PaLane.VoutNominal (Table 12-2). -/
def State.voutNear (s : State) (n : Nat) : Bool :=
  let v := s.telemetry n 2
  let nom := s.get (Obj.paLaneVoutNominal n)
  decide (20 * v ≤ 21 * nom ∧ 19 * nom ≤ 20 * v)

/-- STATUS_WORD bits that are a fault of a Ready lane (Table 12-7): 15, 14, 11, 5, 4 and 2. -/
def statusFault (w : Nat) : Bool := [15, 14, 11, 5, 4, 2].any w.testBit

/-- A STATUS_WORD result (R437, R474, Table 12-2). -/
def State.statusRead (s : State) (n data : Nat) : State :=
  let s := s.setTelemetry n 12 data
  if s.get (Obj.paLaneState n) = 3 then
    if statusFault data then (s.regulatorFault n).settleGains else s
  else if s.get (Obj.paLaneState n) = 1 then
    (s.setLane n { s.lane n with statusOk := !data.testBit 11 }).checkStart n
  else s

/-- A READ_VOUT result (R437, Table 12-2). -/
def State.voutRead (s : State) (n data : Nat) : State :=
  let s := s.setTelemetry n 2 (u16Of (linear16 data 100 (s.getI (Obj.paLaneVoutExponent n))))
  if s.get (Obj.paLaneState n) = 1 then (s.setLane n { s.lane n with voutOk := s.voutNear n }).checkStart n else s

/-- OPERATION done: 0x80 starts the 50 ms of R440, 0x00 ends a stop (Table 12-9). -/
def State.operationDone (s : State) (n : Nat) : State :=
  if s.get (Obj.paLaneState n) = 1 then s.arm (.laneRegulator n) 50000
  else if s.get (Obj.paLaneState n) = 4 then s.set (Obj.paLaneState n) 0
  else s

/-- A read of a stopped lane that the regulator answers ends a stop of row 1 of Table 12-7 (log entry 25). -/
def State.pmbAnswers (s : State) (n : Nat) : State :=
  let r := s.lane n
  if r.hold.pmbus && !s.laneRuns n then
    (s.setLane n { r with hold := { r.hold with pmbus := false }, pmbFault := false }).laneReleased n
  else s

/-- What a lane's transaction brings (Table 12-1). -/
def State.laneData (s : State) (n code data : Nat) : State :=
  if code = 0x96 then (s.poutRead n data).pmbAnswers n
  else if code = 0x79 then (s.statusRead n data).pmbAnswers n
  else if code = 0x8B then (s.voutRead n data).pmbAnswers n
  else if code = 0x88 then (s.setTelemetry n 0 (u16Of (linear11 data 100))).pmbAnswers n
  else if code = 0x8C then (s.setTelemetry n 4 (u16Of (linear11 data 100))).pmbAnswers n
  else if code = 0x8D then (s.setTelemetry n 8 (i16Of (linear11 data 10))).pmbAnswers n
  else if code = 0x7A then s.setLane n { s.lane n with statusVout := some (data % 256) }
  else if code = 0x7B then s.regulatorSnapshot n (data % 256)
  else if code = 0x01 then s.operationDone n
  else s

/-! ## Transactions -/

/-- The cause code of a failed transaction: 0 NACK, 1 PEC, 2 stretch, 3 CML; none for one that succeeded. A PEC can
fail only where PEC is used, and CML shows in STATUS_WORD (R436). -/
def pmbCause (pec : Bool) (code : Nat) (r : PmbEnd) : Option Nat :=
  match r with
  | .ok d => if code = 0x79 ∧ d.toNat.testBit 1 then some 3 else none
  | .nack => some 0
  | .pecMismatch => if pec then some 1 else none
  | .stretchTimeout => some 2
  | .cml => some 3

/-- The data of a transaction that succeeded. -/
def pmbData : PmbEnd → Nat
  | .ok d => d.toNat
  | _ => 0

/-- A result that cannot occur: a PEC mismatch without PEC (R436). -/
def pmbImpossible (pec : Bool) (r : PmbEnd) : Bool := !pec && r == .pecMismatch

/-- A lane's transaction failed after its repetition (Table 12-7): counted, flagged and recorded; a running lane without a
valid READ_POUT for 1 s stops. A failed PAGE takes the command after it with it. -/
def State.laneFail (s : State) (n code cause : Nat) : State :=
  let s : State := if code = 0 then { s with pa.pmb := s.pa.pmb.tail } else s
  let r := s.lane n
  let s := (s.bump Obj.pmbErrors 1).setLane n { r with pmbFault := true }
  let s := s.faultRow (Obj.paLaneSticky n) 0 .press 0x1801 1 n (u32 n ++ u32 code ++ u32 cause)
  let s := if s.laneRuns n && !s.armed (.laneMonitor n) then
      s.arm (.laneMonitor n) (r.poutAt.getD s.now + 1000000 - s.now) else s
  if code = 0x01 then s.operationDone n
  else if code = 0x7B then s.regulatorSnapshot n 0
  else s

/-- A lane's transaction ended (R436). -/
def State.laneTx (s : State) (t : PmbTx) (result : PmbEnd) : State :=
  let rest := s.pa.pmb.tail
  match pmbCause (s.get (Obj.paLanePec t.lane) == 1) t.code result with
  | none => { s with pa.pmb := rest }.laneData t.lane t.code (pmbData result)
  | some c =>
    if t.repeated then { s with pa.pmb := rest }.laneFail t.lane t.code c
    else { s with pa.pmb := { t with repeated := true } :: rest }

/-- The command code of a margin step: the OPERATION values stand for OPERATION (Table 13-2). -/
def marginCode (step : Nat) : Nat := if 0x80 ≤ step then 0x01 else step

/-- A margin channel's transaction failed after its repetition (Table 13-6): returned to Nominal, state failed. -/
def State.marginFail (s : State) (r : MarginRun) (cause : Nat) : State :=
  let step := r.steps.headD 0
  let rest := s.margin.filter (fun x => !(x.ch == r.ch))
  let s : State := ({ s with margin := rest } : State).faultRow Obj.marginSticky 4 .press 0x210E 1 r.ch
    (u32 r.ch ++ u32 (marginCode step) ++ u32 cause)
  let page : List Nat := if s.get (Obj.marginPmbPage r.ch) = 0xFF then [] else [0]
  let s := (s.bump Obj.pmbErrors 1).set (Obj.marginCommand r.ch) 0
  let s : State := if r.target = 0 then s else { s with margin := ⟨r.ch, 0, 0, page ++ [0x80], 0⟩ :: rest }
  s.set (Obj.marginState r.ch) 4

/-- A margin channel's transaction ended (R436, R510, R512): the next step, or the move is over and its readings count. -/
def State.marginTx (s : State) (r : MarginRun) (result : PmbEnd) : State :=
  let rest := s.margin.filter (fun x => !(x.ch == r.ch))
  match pmbCause (s.get (Obj.marginPec r.ch) == 1) (marginCode (r.steps.headD 0)) result with
  | some c =>
    if r.code = 1 then s.marginFail r c else { s with margin := { r with code := 1 } :: rest }
  | none =>
    if r.steps.length = 1 then
      if s.get (Obj.marginState r.ch) = 4 then { s with margin := rest }
      else { s with margin := { r with steps := [], code := 0, scans := 1 } :: rest }
    else { s with margin := { r with steps := r.steps.tail, code := 0 } :: rest }

/-- The PMBus move of a margin channel under way. -/
def State.marginMove (s : State) (m : Nat) : Option MarginRun :=
  s.margin.find? (fun r => r.ch == m && !r.steps.isEmpty && s.get (Obj.marginMethod m) == 0)

/-- Whether a margin transaction may run: no lane transaction owed, or a return to Nominal (R438, R513). -/
def State.marginTurn (s : State) (r : MarginRun) : Bool := s.pa.pmb.isEmpty || r.target == 0

/-- How a transaction ends: while bank A is high-impedance (R35) nothing acknowledges it. -/
def State.pmbEnd (s : State) (r : PmbEnd) : PmbEnd := if s.bankA then r else .nack

/-- PMBUS_TRANSACTION_DONE (R435 to R438, R443, R474, R510, R521): the transaction that the controller was to make ends. -/
def execPmbusTransactionDone (agent : PmbAgent) (code : Byte) (outcome : PmbEnd) (s : State) : Out :=
  .next (s.when s.power.pressReady (fun s =>
    let result := s.pmbEnd outcome
    match agent with
    | .lane n =>
      match s.pa.pmb.head? with
      | some t =>
        if t.lane = n.val ∧ t.code = code.toNat ∧ !pmbImpossible (s.get (Obj.paLanePec t.lane) == 1) result then
          s.laneTx t result
        else s
      | none => s
    | .margin m =>
      match s.marginMove m.val with
      | some r =>
        if marginCode (r.steps.headD 0) = code.toNat ∧ s.marginTurn r
            ∧ !pmbImpossible (s.get (Obj.marginPec r.ch) == 1) result then
          s.marginTx r result
        else s
      | none => s))

/-- The commands that a poll reads of a lane (R437, Table 12-2). -/
def State.pollCodes (s : State) (n : Nat) (kind : PollKind) : List Nat :=
  let st := s.get (Obj.paLaneState n)
  let stand := s.power.state == .standby
  match kind with
  | .pout => if st = 3 then [0x96] else []
  | .status => if st == 3 || stand then [0x79] else []
  | .telemetry => if st = 3 then [0x88, 0x8B, 0x8C, 0x8D] else if stand then [0x88] else []
  | .start => if st = 1 then [0x8B, 0x79] else []

/-- PMBUS_POLL (R437): a poll of an enabled lane that is due. -/
def execPmbusPoll (lane : Fin 4) (kind : PollKind) (s : State) : Out :=
  .next (s.when (s.running && s.power.pressReady && s.get (Obj.paLaneEnable lane.val) == 1) (fun s =>
    let codes := s.pollCodes lane.val kind
    if codes.isEmpty then s else s.sendPmb lane.val codes))

/-- PMB_ALERT (R437): STATUS_WORD of every enabled lane. -/
def execPmbAlert (s : State) : Out :=
  .next (s.when (s.running && s.power.pressReady && s.bankA) (fun s =>
    (laneNums.filter (fun n => s.get (Obj.paLaneEnable n) == 1)).foldl (fun (s : State) n => s.sendPmb n [0x79]) s))

/-! ## Lane commands -/

/-- LANE_START (R439, R628): a lane that is off and may run starts. -/
def execLaneStart (lane : Fin 4) (s : State) : Out :=
  .next (s.when (s.laneMayRun lane.val && s.get (Obj.paLaneState lane.val) == 0) (fun s => s.startLane lane.val))

/-- LANE_REGULATOR_TIMEOUT (R440, R474): 50 ms after OPERATION 0x80 without the start check. -/
def execLaneRegulatorTimeout (lane : Fin 4) (s : State) : Out :=
  .next (s.onTimer (.laneRegulator lane.val) (fun s =>
    if s.get (Obj.paLaneState lane.val) = 1 then s.regulatorFault lane.val else s))

/-- LANE_READY (R439, R447): the bias stands at its code; one that a hint has re-aimed takes the rest of its ramp. -/
def execLaneReady (lane : Fin 4) (s : State) : Out :=
  .next (s.onTimer (.laneReady lane.val) (fun s =>
    let n := lane.val
    if s.get (Obj.paLaneState n) ≠ 2 then s
    else
      let goal := (s.lane n).biasGoal
      let left := if s.biasNow n ≤ goal then goal - s.biasNow n else s.biasNow n - goal
      let slope := max 1 (s.get (Obj.paLaneBiasSlope n))
      if left = 0 then (s.set (Obj.paLaneState n) 3).settleGains
      else s.arm (.laneReady n) ((1000 * left + slope - 1) / slope)))

/-- LANE_STOP (R433, R441, R447): a running lane whose run conditions no longer hold stops. -/
def execLaneStop (lane : Fin 4) (s : State) : Out :=
  .next (s.when (s.laneRuns lane.val && !s.laneMayRun lane.val) (fun s => (s.stopLane lane.val).settleGains))

/-- REGULATOR_RESTART (R474): 10 s after a first regulator fault the lane may start again. -/
def execRegulatorRestart (lane : Fin 4) (s : State) : Out :=
  .next (s.onTimer (.regulatorRestart lane.val) (fun s =>
    let r := s.lane lane.val
    (s.setLane lane.val { r with hold := { r.hold with regulator := false } }).laneReleased lane.val))

/-- PMB_FAULT_STOP (R474): 1 s without a valid READ_POUT. -/
def execPmbFaultStop (lane : Fin 4) (s : State) : Out :=
  .next (s.onTimer (.laneMonitor lane.val) (fun s =>
    if s.laneRuns lane.val then
      let r := s.lane lane.val
      ((s.setLane lane.val { r with hold := { r.hold with pmbus := true } }).stopLane lane.val).settleGains
    else s))

/-- PA_OVERRUN (R449, R474): the measured sum has stayed above the tolerated cap for OverrunTime. -/
def execPaOverrun (s : State) : Out :=
  .next (s.onTimer .overrun (fun s =>
    ({ s with pa.overrun := true }).faultRow Obj.paBudgetSticky 2 .press 0x1A08 1 31
      (s.bytesOf Obj.paBudgetMeasured ++ leBytes 2 s.effectiveCap)))

/-- HINT_PHASE (R447, R450 to R452): a hint window enters its next phase. -/
def execHintPhase (w : HintId) (s : State) : Out :=
  .next (s.onTimer (.hint w) (fun s => ((s.nextHint w).retargetBias).settleGains))

end Sys2Proof.Machine
end

