-- ==== Sys2Proof/Machine/Pa.lean ====
section
/-!
DEFINITION. HK-B and what its results drive: feed droop, heat and energy (R453 to R463, R466, R467, R554 to R565); die trips and
the seal (R463 to R465).
-/

namespace Sys2Proof.Machine

open Sys2Proof

/-! ## Feed droop -/

/-- A droop cap for every path (R457): its applied gain, or the last one before its mute, or Stab.TargetGain, less
Droop.Backoff. -/
def State.droopCaps (s : State) : State :=
  pathNums.foldl (fun (s : State) p =>
    let r := s.path p
    let base := if s.unmuted p then s.getI (Obj.stabApplied p) else r.lastApplied.getD (s.getI (Obj.stabTargetGain p))
    s.setPath p { r with droopCap := some (base - s.get Obj.droopBackoff) }) s

/-- The droop response becomes active (R454 to R457). -/
def State.startDroop (s : State) (v : Nat) : State :=
  let s := (s.moveGains).droopCaps
  let s := (s.set Obj.droopState 1).bump Obj.droopEventCount 1
  let s := s.flag Obj.droopSticky 0
  { s with feed.lowest := v, feed.since := s.now }

/-- The droop response ends (R454): its record states the lowest voltage and the duration. -/
def State.endDroop (s : State) : State :=
  let s := s.moveGains
  let s := s.log .press 0x1B09 1 31 (leBytes 2 (satBytes 2 s.feed.lowest) ++ leBytes 4 (satBytes 4 ((s.now - s.feed.since) / 1000)))
  let s := s.set Obj.droopState 0
  pathNums.foldl (fun (s : State) p => s.setPath p { s.path p with droopCap := none }) s

/-- A FEED_V result judged against the droop thresholds (R454); voltages in 0.01 V. -/
def State.judgeDroop (s : State) (v : Nat) : State :=
  let onset := 10 * s.get Obj.droopOnset
  let s := if v < onset ∧ s.get Obj.droopState = 0 then s.startDroop v else s
  if s.get Obj.droopState = 0 then s
  else
    let s : State := { s with feed.lowest := min v s.feed.lowest }
    if v < onset + 10 * s.get Obj.droopHysteresis then s.disarm .droopClear
    else if s.armed .droopClear then s
    else s.arm .droopClear (1000 * s.get Obj.droopClearTime)

/-- Whether the least-squares line through `pts` (time before now in µs, voltage) reaches `level` within `ahead` µs. -/
def lineReaches (pts : List (Nat × Nat)) (level ahead : Nat) : Bool :=
  let n : Int := pts.length
  let sum := fun (f : Int → Int → Int) => pts.foldl (fun a p => a + f (-(p.1 : Int)) p.2) (0 : Int)
  let st := sum (fun t _ => t)
  let sv := sum (fun _ v => v)
  let d := n * sum (fun t _ => t * t) - st * st
  let slope := n * sum (fun t v => t * v) - st * sv
  let at_ := fun (t : Int) => decide (sv * d + slope * (n * t - st) ≤ (level : Int) * n * d)
  decide (0 < d) && (at_ 0 || at_ ahead)

/-- Whether a feed-collapse report is due (R459): two consecutive results below Droop.Collapse, or a line through the last
1 ms that reaches it within PredictTime while the droop response is active. -/
def State.collapseDue (s : State) : Bool :=
  let level := 10 * s.get Obj.droopCollapse
  let two : Bool := match s.feed.volts with
    | a :: b :: _ => decide (a.2 < level ∧ b.2 < level)
    | _ => false
  let recent := (s.feed.volts.filter (fun v => decide (s.now ≤ v.1 + 1000))).map (fun v => (s.now - v.1, v.2))
  let ahead := 1000 * s.get Obj.droopPredictTime
  two || (s.get Obj.droopState != 0 && ahead != 0 && lineReaches recent level ahead)

/-- The snapshot of a feed collapse (Table 16-4): the last 16 results of each kind, oldest first. -/
def State.collapseSnapshot (s : State) : Bytes :=
  let v := ((s.feed.volts.take 16).reverse).flatMap (fun x => leBytes 2 x.2)
  let a := ((s.feed.amps.take 16).reverse).flatMap (fun x => leBytes 2 (ofSigned 2 x.2))
  sliceBytes v 0 32 ++ sliceBytes a 0 32 ++ s.bytesOf Obj.hkScapVoltage

/-- The feed-collapse report (R22, R459), sent once in a droop response. -/
def State.reportCollapse (s : State) : State :=
  if s.get Obj.droopState == 2 || !s.collapseDue then s
  else
    let s := (s.flag Obj.droopSticky 1).set Obj.droopState 2
    let s := s.postLog .press 0x1B0A 1 31 true false s.collapseSnapshot
    let s := s.post .fresh 0xF2 1 (.raw (u32 s.now))
    { s with feed.report := true }

/-- A FEED_V result (R454, R455, R459, R561). -/
def State.feedVolts (s : State) (code gain : Nat) : State :=
  let v := satBytes 2 (roundDiv (code * 6000 : Nat) (32768 * gain : Nat)).toNat
  let s := s.set Obj.feedVoltage v
  let old := s.feed.volts
  let keep := old.take 15 ++ (old.drop 15).filter (fun x => decide (s.now ≤ x.1 + 20000))
  let s : State := { s with feed := { s.feed with volts := (s.now, v) :: keep, stale := false } }
  let before := s.get Obj.droopState
  let s := ((s.arm .feedStale 2000).judgeDroop v).reportCollapse
  if before = 0 ∧ s.get Obj.droopState = 0 then s else s.settleGains

/-- A FEED_I result (R466, R467, Table 12-7 row 11): current, power and energy, in 10^-11 J below the mJ. -/
def State.feedAmps (s : State) (code : Int) (gain : Nat) : State :=
  let shunt := max 1 (s.get Obj.feedShunt)
  let i := max (-32768) (min 32767 (roundDiv (code * 12000000) (32768 * gain * shunt : Nat)))
  let s := s.setI Obj.feedCurrent i
  let p : Nat := ((s.get Obj.feedVoltage : Int) * i).toNat
  let s := s.set Obj.energyFeedPower (satBytes 4 (p / 100))
  let s : State := { s with feed.amps := (s.now, i) :: s.feed.amps.take 15 }
  let dt := match s.feed.ampAt with
    | some t => s.now - t
    | none => 0
  let s : State := { s with feed.ampAt := some s.now }
  if s.feed.stale || !s.running then s
  else
    let e := s.feed.remainder + p * dt
    { (s.bump Obj.energyTotal (e / 100000000)) with feed.remainder := e % 100000000 }

/-! ## Heat -/

/-- The temperature of an NTC in 0.1 °C from its ratiometric code (R460, Table 15-4): R / 10,000 = x / (1 − x); none where
the code gives no positive resistance. -/
def ntcTemp (beta code gain : Nat) : Option Int :=
  let num := 1200 * code
  let den := 32768000 * gain - num
  if num = 0 ∨ den = 0 then none
  else
    let b : Int := beta * 2 ^ 32
    let bottom := 100 * b + 29815 * Config.lnRatio num den
    if bottom ≤ 0 then none else some (roundDiv (2 * 298150 * b - 5463 * bottom) (2 * bottom))

/-- A lane's temperature out of range (Table 12-7 row 3): flagged at its onset. -/
def State.ntcOut (s : State) (n : Nat) : State :=
  let r := s.lane n
  if r.ntcBad then s
  else (s.setLane n { r with ntcBad := true }).faultRow (Obj.paLaneSticky n) 2 .press 0x1903 1 n []

/-- A lane's temperature (R461, R462): the stop at LaneStop, and the 60 s at or below LaneRestart. -/
def State.laneTemp (s : State) (n : Nat) (t : Int) : State :=
  let s := s.setLane n { s.lane n with temp := some t, ntcBad := false }
  let s := if s.getI Obj.thermalDerateStart < t then s.flag Obj.droopSticky 5 else s
  if s.getI Obj.thermalLaneStop ≤ t ∧ !(s.lane n).hold.heat then
    let r := s.lane n
    let s := s.setLane n { r with hold := { r.hold with heat := true } }
    let s := s.faultRow (Obj.paLaneSticky n) 3 .press 0x1904 2 n []
    if s.laneRuns n then s.stopLane n else s
  else if !(s.lane n).hold.heat then s
  else if s.getI Obj.thermalLaneRestart < t then s.disarm (.laneCool n)
  else if s.armed (.laneCool n) then s
  else s.arm (.laneCool n) 60000000

/-- What the gains take from a lane's heat: its temperature above DerateStart, the range fault, and its state. -/
def State.thermalOf (s : State) (n : Nat) : Int × Bool × Nat :=
  (max (s.getI Obj.thermalDerateStart) ((s.lane n).temp.getD (-32768)), (s.lane n).ntcBad, s.get (Obj.paLaneState n))

/-- An NTC result of a lane (R460 to R462, R566). -/
def State.ntcRead (s : State) (n code gain : Nat) : State :=
  let t := (ntcTemp (s.get (Obj.paLaneNtcBeta n)) code gain).getD (if code = 0 then 32767 else -32768)
  let field := i16Of t
  let bs := s.bytesOf Obj.hkNtcTemp
  let s := s.set Obj.hkNtcTemp (leNat (sliceBytes bs 0 (2 * n) ++ leBytes 2 field ++ sliceBytes bs (2 * n + 2) (6 - 2 * n)))
  let s := s.setTelemetry n 10 field
  let before := s.thermalOf n
  let s := if t < -550 ∨ 1500 < t then s.ntcOut n else s.laneTemp n t
  if before == s.thermalOf n then s else s.settleGains

/-! ## HK-B -/

/-- An HK-B conversion (R555): the code, limited to full scale, and whether it was clipped. -/
def hkbConvert (inp gain : Nat) (input : Int) : Int × Bool :=
  let raw := input * gain
  if inp = 1 then
    if raw < -32767 then (-32767, true) else if 32767 < raw then (32767, true) else (raw, false)
  else
    let c := convert gain input
    (c.1, c.2)

/-- The Press uses a valid result (R561, R562, Table 15-4). -/
def State.useHkb (s : State) (inp gain : Nat) (code : Int) : State :=
  let c := code.toNat
  if inp = 0 then s.feedVolts c gain
  else if inp = 1 then s.feedAmps code gain
  else if inp = 2 then s.set Obj.hkScapVoltage (satBytes 2 (roundDiv (c * 600 : Nat) (32768 * gain : Nat)).toNat)
  else if inp ≤ 6 then s.ntcRead (inp - 3) c gain
  else if inp ≤ 8 then s.setI (Obj.hkDieTemp (inp - 7)) (Config.dieCelsius (inp - 7) c gain)
  else if inp ≤ 10 then s.set (Obj.hkSpare (inp - 9)) (satBytes 2 (roundDiv (c * 1200 : Nat) (32768 * gain : Nat)).toNat)
  else s

/-- Fields of a sequence entry: input, entry time, gain. -/
def hkbByte (e i : Nat) : Nat := e / 256 ^ i % 256

/-- The high-water mark of a queue that a message passes through at once. -/
def State.noteHighBy (s : State) (q : Nat) : State :=
  let n := s.standing q + 1
  if lookupD s.q.highWater q 0 < n then { s with q.highWater := putKey s.q.highWater q n 0 } else s

/-- A result out of the data register (R564): through queue 0xD5 to the Press, which publishes and uses it. -/
def State.takeHkb (s : State) (entry raw : Nat) : State :=
  let s := s.noteHighBy 0xD5
  let s := s.set (Obj.hkBResult entry) raw
  let e := s.hkb.seq.getD entry 0
  if raw / 65536 % 2 = 1 then s.useHkb (hkbByte e 0) (2 ^ hkbByte e 2) (toSigned 2 (raw % 65536)) else s

/-- A result waiting in the data register is posted when a credit has freed (R564). -/
def State.releaseHkb (s : State) : State :=
  match s.hkb.held with
  | some (entry, raw) =>
    if 1 ≤ s.credits 0xD5 then ({ s with hkb.held := none }).takeHkb entry raw else s
  | none => s

/-- A result reaches the data register (R564): it overwrites one that has not been posted. -/
def State.registerHkb (s : State) (entry raw : Nat) : State :=
  let s := if s.hkb.held.isSome then
      (s.bump Obj.hkBOverrunCount 1).flagFirst Obj.hkSticky 1 (fun s => s.log .press 0x2402 1 31 [])
    else s
  ({ s with hkb.held := some (entry, raw) }).releaseHkb

/-- A self-check entry out of tolerance (R565): the pass is invalid; the record is written at the onset. -/
def State.selfCheckFails (s : State) (entry inp : Nat) (code : Int) : State :=
  let s := s.flag Obj.hkSticky 4
  let s := if s.hkb.badEntries.contains entry then s
    else s.log .press 0x2405 1 31 (u32 inp ++ leBytes 2 (ofSigned 2 code))
  let s := (List.range s.hkb.seq.length).foldl (fun (s : State) i =>
    if i < entry then
      let raw := s.get (Obj.hkBResult i)
      s.set (Obj.hkBResult i) (clearBit (setBit raw 19) 16)
    else s) s
  { s with hkb.badPass := true, hkb.badEntries := if s.hkb.badEntries.contains entry then s.hkb.badEntries else entry :: s.hkb.badEntries }

/-- Whether a self-check code is out of tolerance (R565). -/
def selfCheckBad (inp : Nat) (code : Int) : Bool :=
  (inp == 11 && decide (164 < code.natAbs)) || (inp == 12 && decide (164 < (code - 16384).natAbs))

/-- A conversion's flags taken in (R555, R560, R565). -/
def State.hkbFlags (s : State) (entry inp : Nat) (code : Int) (cold clipped : Bool) : State :=
  let s : State := if entry = 0 then { s with hkb.badPass := false } else s
  let s := if cold then s.flag Obj.hkSticky 2 else s
  let s := if clipped then s.flag Obj.hkSticky 3 else s
  if selfCheckBad inp code then s.selfCheckFails entry inp code
  else if inp = 11 ∨ inp = 12 then { s with hkb.badEntries := s.hkb.badEntries.filter (fun x => x != entry) }
  else s

/-- HKB_START (R74, R559): StartLead after the reference was enabled, with the sample PLL locked, conversions begin, and
no sooner than 100 µs after a relock. -/
def execHkbStart (s : State) : Out :=
  .next (match s.hkb.refAt with
    | some t =>
      if s.hkb.converting || s.get Obj.clockSamplePllLocked == 0 || !s.power.pressReady then s
      else
        (s.elapse (t + s.get Obj.hkBStartLead - s.now)).hkbPass
    | none => s)

/-- The place in the sequence moves on; a committed change of the sequence takes effect at the pass boundary (R554,
R563). -/
def State.hkbAdvance (s : State) (entry : Nat) : State :=
  if entry + 1 < s.hkb.seq.length then { s with hkb.next := entry + 1 }
  else { s with hkb.next := 0, hkb.seq := s.hkbSequence }

/-- One HK-B result (R554 to R565): its window follows the one before, and it arrives 64 µs after its window ends. -/
def State.hkbResult (s : State) (entry : Nat) (input : Int) (refAt : Nat) : State :=
  let e := s.hkb.seq.getD entry 0
  let s := s.elapse (s.hkb.window + 16 * 2 ^ hkbByte e 1 + 64 - s.now)
  let s : State := { s with hkb.window := s.now - 64 }
  let inp := hkbByte e 0
  let r := hkbConvert inp (2 ^ hkbByte e 2) input
  let cold := decide (s.now < refAt + 2000 + 64 + 16 * 2 ^ hkbByte e 1)
  let s := s.hkbFlags entry inp r.1 cold r.2
  let flags := (if cold || s.hkb.badPass then 0 else 1) + (if r.2 then 2 else 0) + (if cold then 4 else 0)
    + (if s.hkb.badPass then 8 else 0)
  (s.registerHkb entry (ofSigned 2 r.1 + 65536 * flags)).hkbAdvance entry

/-- HKB_RESULT (R454 to R467, R554 to R565): the result of the entry whose turn it is (R554), its input in codes at gain
1; no other entry can deliver one. -/
def execHkbResult (entry : Fin 16) (input : Int) (s : State) : Out :=
  .next (match s.hkb.refAt with
    | some t => s.when (s.hkb.converting && s.power.pressReady && entry.val == s.hkb.next
          && decide (entry.val < s.hkb.seq.length))
        (fun s => s.hkbResult entry.val input t)
    | none => s)

/-- DROOP_CLEAR (R454): every result has stayed at or above Onset + Hysteresis for ClearTime. -/
def execDroopClear (s : State) : Out :=
  .next (s.onTimer .droopClear (fun s => if s.get Obj.droopState = 0 then s else (s.endDroop).settleGains))

/-- FEED_STALE (R74, R561, Table 12-7): 2 ms without a valid FEED_V result; the droop response acts with V taken as
Onset. -/
def execFeedStale (s : State) : Out :=
  .next (s.onTimer .feedStale (fun s =>
    let s : State := { (s.disarm .droopClear) with feed.stale := true }
    let s := s.faultRow Obj.droopSticky 2 .press 0x1B0B 1 31 []
    let s := if s.get Obj.droopState = 0 then s.startDroop (10 * s.get Obj.droopOnset) else s
    s.settleGains))

/-- LANE_THERMAL_RESTART (R462): 60 s at or below LaneRestart. -/
def execLaneThermalRestart (lane : Fin 4) (s : State) : Out :=
  .next (s.onTimer (.laneCool lane.val) (fun s =>
    let r := s.lane lane.val
    (s.setLane lane.val { r with hold := { r.hold with heat := false } }).laneReleased lane.val))

/-- DIE_TRIP (R463): the hard mute, every PA_EN_x low, and every lane stopped. -/
def execDieTrip (s : State) : Out :=
  .next (s.when s.power.coreReleased (fun s =>
    let s := s.hardMute
    let s : State := { s with pins.paEn := 0, pa.die := true }
    let s := laneNums.foldl (fun (s : State) n =>
      let r := s.lane n
      let s := s.setLane n { r with hold := { r.hold with die := true } }
      if s.laneRuns n then s.stopLane n else s) s
    (s.faultRow Obj.droopSticky 3 .monitors 0x190C 2 31 []).settleGains))

/-- DIE_TRIP_CLEAR (R463): both die sensors below DieTrip − 10.0 °C for 60 s. -/
def execDieTripClear (s : State) : Out :=
  .next (s.when s.pa.die (fun s =>
    laneNums.foldl (fun (s : State) n =>
      let r := s.lane n
      (s.setLane n { r with hold := { r.hold with die := false } }).laneReleased n) { s with pa.die := false }))

/-! ## The seal -/

/-- SEAL_N_LOW (R23, R58, R59, R464, R465): the hardware path stops the lanes and asserts RF_MUTE_N; with Seal.Mode 0 the
time with SEAL_N high starts again. -/
def execSealNLow (s : State) : Out :=
  .next (s.when s.awake (fun s =>
    let s : State := { s with
      pins := { s.pins with sealN := false, paEn := 0, paBias := [], rfMuteN := false }
      pa := { s.pa with breach := true } }
    let s := if s.running then s.flag Obj.droopSticky 4 else s
    if s.get Obj.sealMode = 0 then s.arm .sealClear (1000000 * s.get Obj.sealClearTime) else s.disarm .sealClear))

/-- The snapshot of a seal breach (Table 16-4). -/
def State.sealSnapshot (s : State) : Bytes :=
  laneNums.map (fun n => byteOf (s.get (Obj.paLaneState n))) ++ laneNums.flatMap (fun n => s.bytesOf (Obj.paLaneTelemetry n))
    ++ s.bytesOf Obj.feedVoltage ++ s.bytesOf (Obj.hkDieTemp 0) ++ [byteOf (s.get Obj.sealMode)]

/-- SEAL_LANES_SEALED (R464, R648): the Press places every lane in Sealed, mutes every path and writes the snapshot; an
active with a ready partner demotes itself. -/
def execSealLanesSealed (s : State) : Out :=
  .next (s.when (s.pa.breach && s.power.pressReady && laneNums.any (fun n => s.get (Obj.paLaneState n) != 6)) (fun s =>
    let snap := s.sealSnapshot
    let s := (laneNums.foldl State.stopLane s).mutePaths pathNums
    ((s.postLog .press 0x1C0D 2 31 true false snap).demoteIfDue).settleGains))

/-- The seal's stop ends (R465): the lanes leave Sealed. -/
def State.unseal (s : State) : State :=
  laneNums.foldl (fun (s : State) n =>
    if s.get (Obj.paLaneState n) = 6 then s.set (Obj.paLaneState n) (if (s.lane n).hold.any then 5 else 0) else s)
    { s with pa.breach := false }

/-- SEAL_CLEAR_TIMER (R465): SEAL_N has been high for Seal.ClearTime; with Seal.Mode 0 the lanes leave Sealed. -/
def execSealClearTimer (s : State) : Out :=
  .next (s.onTimer .sealClear (fun s =>
    let s : State := { s with pins.sealN := true }
    if s.get Obj.sealMode = 0 then s.unseal else s))

end Sys2Proof.Machine
end

