-- ==== Sys2Proof/Machine/Lid.lean ====
section
/-!
DEFINITION. The lid sensor (R567 to R581, R722): samples, presences, touches, Covered, the baseline and the fault.
-/

namespace Sys2Proof.Machine

open Sys2Proof

/-! ## Touches -/

/-- Record 0x8301 (R722): the duration in ms, the power state at the third release sample, and the effect. -/
def State.touchRecord (s : State) (dur state effect : Nat) : State :=
  s.log .cellar 0x8301 0 31 (u32 dur ++ [byteOf state, byteOf effect])

/-- A valid touch acts (Table 15-6, R70, R86, R118, R504, R718); `held` is 0x40 for one held through a transition. -/
def State.actTouch (s : State) (dur state held : Nat) : State :=
  if s.power.state = .dormant then
    if s.bit Obj.powerStateWakeSources 0 && !s.power.recovery then
      let locked := if s.get Obj.watchdogLockout = 1 then 0x80 else 0
      ((s.touchRecord dur state (0x01 + held + locked)).endLockout).wakeStart 9 true
    else
      ((s.touchRecord dur state (0x04 + held)).flag Obj.lidSticky 3).log .cellar 0x2509 1 31 []
  else if s.power.state = .standby ∨ s.power.state = .active then
    if s.lifecycle = 4 then s.touchRecord dur state (0x05 + held)
    else (s.touchRecord dur state (0x02 + held)).towardsService 9 false
  else if s.power.state = .service then
    (s.touchRecord dur state (0x03 + held)).arm .serviceTimeout (60000000 * s.get Obj.powerStateServiceTimeout)
  else s

/-- Whether a transition is in progress (R571). -/
def State.inTransition (s : State) : Bool := s.power.trans.isSome || s.rail.shutdown.isSome

/-- Whether the entry to SERVICE that a touch calls for waits for a commit in application (R192, log entry 121). -/
def State.touchWaits (s : State) : Bool :=
  s.eng.commit.isSome && (s.power.state == .standby || s.power.state == .active)

/-- A valid touch (R569, R571): counted, and held through a transition or a commit in application. -/
def State.validTouch (s : State) (dur : Nat) : State :=
  let s := s.bump Obj.lidTouchCount 1
  if s.inTransition || s.touchWaits then
    { s with lid.heldTouch := some (16 * dur + 2 * s.power.state.code + if s.inTransition then 1 else 0) }
  else s.actTouch dur s.power.state.code 0

/-- A held touch acts once no transition is in progress (R571) and no commit in application delays it; a transition that
held it shows in its record (R722). -/
def State.heldTouchActs (s : State) : State :=
  match s.lid.heldTouch with
  | some x =>
    if s.inTransition then { s with lid.heldTouch := some (x / 2 * 2 + 1) }
    else if s.touchWaits then s
    else ({ s with lid.heldTouch := none }).actTouch (x / 16) (x / 2 % 8) (0x40 * (x % 2))
  | none => s

/-! ## States -/

/-- The tracking period of a state in µs (Table 15-7): a minute Idle, an hour Covered. -/
def trackTime (st : Nat) : Nat := if st = 2 then 60000000 else 3600000000

/-- A tracking period begun where none runs (R572), and the hourly store of R574. -/
def State.lidTimers (s : State) : State :=
  let st := s.get Obj.lidState
  let s := if (st = 2 ∨ st = 4) ∧ !s.armed .lidTrack then s.arm .lidTrack (trackTime st) else s
  if st = 2 ∧ !s.armed .lidStore then s.arm .lidStore 3600000000 else s

/-- Idle entered with the baseline that stands. -/
def State.lidIdle (s : State) : State := (s.lidEnter 2).lidTimers

/-- Covered entered (R570, Table 15-11). -/
def State.lidCovered (s : State) : State :=
  let s := (s.lidEnter 4).lidTimers
  let s : State := { s with lid := { s.lid with coveredAt := s.now, coveredFrac := 0 } }
  s.faultRow Obj.lidSticky 2 .cellar 0x2508 1 31 (u32 0)

/-- The seconds of Covered brought up to this instant. -/
def State.countCovered (s : State) : State :=
  let n := (s.now - s.lid.coveredAt) / 1000000
  { (s.bump Obj.lidCoveredSeconds (n - s.lid.coveredFrac)) with lid.coveredFrac := n }

/-- Covered left (R570, R573): its record with the duration in seconds, and a re-take. -/
def State.lidUncovered (s : State) : State :=
  let s := s.countCovered
  (s.log .cellar 0x2508 1 31 (u32 s.lid.coveredFrac)).lidRetakeNow

/-- The mean of the samples summed. -/
def State.lidMean (s : State) : Nat := (roundDiv s.lid.sum (max 1 s.lid.count)).toNat

/-- A sample added to the sum in hand. -/
def State.lidSum (s : State) (r : Nat) : State :=
  { s with lid := { s.lid with sum := s.lid.sum + r, count := s.lid.count + 1 } }

/-- A sample above the release band: a release that had begun is none (R568), and Covered waits for no release. -/
def State.lidHeldDown (s : State) : State :=
  let s : State := { s with lid.releases := 0 }
  if s.get Obj.lidState == 3 && !s.armed .lidCover
      && decide (s.lid.began + 1000000 * s.get Obj.lidCoverTime ≤ s.now) then s.lidCovered
  else s

/-- The end of a presence (R568 to R570): at the first of three release samples. -/
def State.lidReleased (s : State) : State :=
  if s.get Obj.lidState = 4 then s.lidUncovered
  else
    let dur := (s.lid.releaseAt - s.lid.began) / 1000
    let s := s.lidIdle
    if s.get Obj.lidTouchTime ≤ dur ∧ dur < 1000 * s.get Obj.lidCoverTime then s.validTouch dur else s

/-- A sample of a presence or of Covered (R568). -/
def State.lidPresent (s : State) (delta : Int) : State :=
  if delta < s.get Obj.lidReleaseDelta then
    let l := s.lid
    let s : State := { s with lid := { l with
      releases := l.releases + 1, releaseAt := if l.releases = 0 then s.now else l.releaseAt } }
    if 3 ≤ s.lid.releases then s.lidReleased else s
  else s.lidHeldDown

/-- An Idle sample (R568, R573). -/
def State.lidIdleSample (s : State) (r : Nat) (delta : Int) : State :=
  if s.get Obj.lidTouchDelta ≤ delta then
    let s := s.lidEnter 3
    ({ s with lid.began := s.now }).arm .lidCover (1000000 * s.get Obj.lidCoverTime)
  else
    let s := s.lidSum r
    if delta < -(s.get Obj.lidReleaseDelta : Int) then
      let s : State := { s with lid.lowRun := s.lid.lowRun + 1 }
      if 3 ≤ s.lid.lowRun then s.lidRetakeNow else s
    else { s with lid.lowRun := 0 }

/-- A sample judged in each lid state (R567 to R576). -/
def State.lidJudge (s : State) (r : Nat) : State :=
  let delta : Int := (r : Int) - s.get Obj.lidBaseline
  let st := s.get Obj.lidState
  if st = 1 then
    if s.lid.count < (if s.lid.checking then 10 else 100) then s.lidSum r else s
  else if st = 2 then s.lidIdleSample r delta
  else if st = 3 then s.lidPresent delta
  else if st = 4 then ((s.lidSum r).countCovered).lidPresent delta
  else s

/-- The range of a sample followed (Table 15-11): a run outside it, and in a fault the 10 s inside it. -/
def State.lidRange (s : State) (r : Nat) : State :=
  if r < 2000 ∨ 150000 < r then { (s.disarm .lidResume) with lid.badRun := s.lid.badRun + 1 }
  else
    let s : State := { s with lid.badRun := 0 }
    if s.get Obj.lidState = 5 ∧ !s.armed .lidResume then s.arm .lidResume 10000000 else s

/-- Whether lid sense runs (R567). -/
def State.lidRuns (s : State) : Bool := s.awake && s.power.state != .holdup && s.get Obj.lidEnable == 1

/-- LID_SAMPLE (R567 to R573, R576, R722): a sample, 10 ms after the one before; a touch held through a transition acts
once that is over. -/
def execLidSample (reading : BitVec 32) (s : State) : Out :=
  .next (s.when (s.lidRuns && s.get Obj.lidState != 0) (fun s =>
    let s := match s.lid.sampleAt with
      | some t => s.elapse (t + 10000 - s.now)
      | none => s
    let s : State := { s with lid.sampleAt := some s.now }
    let s := ((s.heldTouchActs).set Obj.lidReading reading.toNat).lidTimers
    (s.lidRange reading.toNat).lidJudge reading.toNat))

/-- LID_COVER (R570): a presence reaches CoverTime; one whose release has begun waits for its next sample. -/
def execLidCover (s : State) : Out :=
  .next (s.onTimer .lidCover (fun s => if s.get Obj.lidState = 3 ∧ s.lid.releases = 0 then s.lidCovered else s))

/-- A baseline moved towards a mean by at most `step`. -/
def moveTowards (base mean step : Nat) : Nat := if base ≤ mean then min mean (base + step) else max mean (base - step)

/-- LID_TRACK (R572, Table 15-7): a tracking period ends. -/
def execLidTrack (s : State) : Out :=
  .next (s.onTimer .lidTrack (fun s =>
    let st := s.get Obj.lidState
    if st = 2 ∨ st = 4 then
      let step := if st = 2 then s.get Obj.lidIdleTrack else s.get Obj.lidCoveredTrack
      let s := if s.lid.count = 0 then s else s.set Obj.lidBaseline (moveTowards (s.get Obj.lidBaseline) s.lidMean step)
      ({ s with lid := { s.lid with sum := 0, count := 0 } }).lidTimers
    else s))

/-- LID_RETAKE_DONE (R573, R576): 100 samples; the baseline is their mean. -/
def execLidRetakeDone (s : State) : Out :=
  .next (s.when (s.lidRuns && s.get Obj.lidState == 1 && !s.lid.checking && s.lid.count == 100) (fun s =>
    ((s.set Obj.lidBaseline s.lidMean).set Obj.lidCoveredAtStart 0).lidIdle))

/-- LID_BASELINE_STORE (R574): once an hour while Idle. -/
def execLidBaselineStore (s : State) : Out :=
  .next (s.onTimer .lidStore (fun s =>
    if s.get Obj.lidState = 2 then (s.set Obj.lidStoredBaseline (s.get Obj.lidBaseline)).lidTimers else s))

/-- LID_START_CHECK (R575): the mean of the first 10 samples after OFF to DORMANT. -/
def execLidStartCheck (s : State) : Out :=
  .next (s.when (s.lidRuns && s.lid.checking && s.lid.count == 10) (fun s =>
    let stored := s.get Obj.lidStoredBaseline
    let mean := s.lidMean
    let delta : Int := (mean : Int) - stored
    let s : State := { s with lid.checking := false }
    if stored = 0xFFFFFFFF then s.lidRetakeNow
    else if s.get Obj.lidTouchDelta ≤ delta then
      let s := (s.set Obj.lidBaseline stored).set Obj.lidCoveredAtStart 1
      (s.faultRow Obj.lidSticky 1 .cellar 0x2507 1 31 (u32 mean ++ u32 stored)).lidCovered
    else if delta < -(s.get Obj.lidReleaseDelta : Int) then s.lidRetakeNow
    else (s.set Obj.lidBaseline stored).lidIdle))

/-- LID_FAULT (R581): samples out of range for 1 s; presence and touch are disabled. -/
def execLidFault (s : State) : Out :=
  .next (s.when (s.lidRuns && decide (100 ≤ s.lid.badRun) && s.get Obj.lidState != 5 && s.get Obj.lidState != 0) (fun s =>
    let s : State := { s with lid.checking := false }
    (s.lidEnter 5).faultRow Obj.lidSticky 0 .cellar 0x2506 1 31 (s.bytesOf Obj.lidReading)))

/-- LID_FAULT_RESUME (R581): 10 s inside the range; sensing resumes with a re-take. -/
def execLidFaultResume (s : State) : Out :=
  .next (s.onTimer .lidResume (fun s => if s.get Obj.lidState = 5 then s.lidRetakeNow else s))

end Sys2Proof.Machine
end

