-- ==== Sys2Proof/Machine/Security.lean ====
section
/-!
DEFINITION. The Cork (ch. 04): lifecycle requests and keys, sessions, debug levels and the test access port, the entropy
test, and the signing of receipts.
-/

namespace Sys2Proof.Machine

open Sys2Proof

/-! ## Lifecycle (R108 to R111, R714) -/

/-- The low 16 bits of the serial number: bytes 6 and 7, byte 6 most significant (R703). -/
def State.serialLow (s : State) : Nat :=
  let b := s.bytesOf Obj.identitySerialNumber
  256 * fieldAt b 6 1 + fieldAt b 7 1

/-- Whether Lifecycle.Confirm was written within the last 10 s with the right value (R109). -/
def State.confirmed (s : State) : Bool :=
  match s.sec.confirm with
  | some (v, t) => v == s.serialLow ^^^ 0xA5A5 && decide (s.now ≤ t + 10000000)
  | none => false

/-- The condition of Table 4-3 that a transition does not meet, as the detail byte of R714; the erasure of R111 comes
last. -/
def State.lifecycleUnmet (s : State) (target : Nat) : Option Nat :=
  if target = 1 ∧ !s.hasEntry 3 then some 1
  else if target = 2 ∧ [0, 1, 2, 3].any (fun r => !s.hasEntry r) then some 1
  else if target = 2 ∧ s.get Obj.debugLevel ≠ 0 then some 2
  else if target = 2 ∧ s.get Obj.bootConfirmed = 0 then some 3
  else none

/-- Whether the key store reads back as erased when the Cork erases it now (R111; log entry 60). -/
def State.erases (s : State) : Bool := Config.eraseOk s.free

/-- The erasure before the RETURNED bits (R111): every session with its keys, the role keys, the RSK and the twin pairing
key; `ok` says whether the key store then reads back as erased. -/
def State.eraseKeys (s : State) (ok : Bool) : State :=
  let s := s.endSessions
  { s with
    sec := { s.sec with keyStore := [], rskPublic := [], rskEndorsement := [], handshakeFails := [], erased := ok }
    free := s.free + 1 }

/-- A lifecycle transition begun by an accepted request (R108, R111, R668): debug ends before its first step, and its
fuses are blown within 50 ms. -/
def State.beginLifecycle (s : State) (target origin : Nat) : State :=
  let s : State := { (s.endDebug true) with sec.lcTrans := some ⟨s.lifecycle, target, origin⟩ }
  s.arm .lifecycleDone 50000

/-- A write of Lifecycle.Request past step 10 (R109, R714). -/
def State.lifecycleWrite (s : State) (c : Caller) (req : Bytes) (target : Nat) : State :=
  if !s.confirmed then s.abort c req (0x0C, 0)
  else
    match s.lifecycleUnmet target with
    | some d => s.abort c req (0x0C, d)
    | none =>
      if target ≠ 3 then (s.done c 0x1A00 2).beginLifecycle target 0
      else if s.erases then ((s.done c 0x1A00 2).eraseKeys true).beginLifecycle 3 0
      else (s.abort c req (0x0C, 4)).eraseKeys false

/-- LIFECYCLE_TRANSITION (R100, R108, R110, R134, R232): the transition takes effect, whatever power state the unit has
fallen to meanwhile, and the unit restarts. -/
def execLifecycleTransition (s : State) : Out :=
  .next (s.onTimer .lifecycleDone (fun s =>
    match s.sec.lcTrans with
    | some _ => (s.blowLifecycle).restart 0x13
    | none => s))

/-! ## Keys (R114) -/

/-- The key a write carries: plain in BLANK, else unwrapped from its blob under the session key. -/
def State.keyFrom (s : State) (c : Caller) (value : Bytes) : Option Nat :=
  if s.lifecycle = 0 then some (leNat value)
  else
    match c.dest.session with
    | some sid =>
      match s.sessionOf sid with
      | some x => Config.gcmOpen x.key (value.take 12) (sliceBytes value 12 32) (sliceBytes value 44 16)
      | none => none
    | none => none

/-- A key write past step 12, into entry `which` (R97): abort 0x0B when its GCM tag does not verify (R114). -/
def State.keyWrite (s : State) (c : Caller) (req : Bytes) (which index sub : Nat) (value : Bytes) : State :=
  match s.keyFrom c value with
  | some key => (s.sealKey which key).done c index sub
  | none => s.abort c req (0x0B, 0)

/-! ## Sessions (R117, R120 to R122, R139, R144, R225, R715) -/

/-- The 8 bytes of the serial number. -/
def State.serial (s : State) : Bytes := s.bytesOf Obj.identitySerialNumber

/-- The number of a byte string as the input of a tag of R120. -/
def handshakeInput (kind role peer : Nat) (n1 n2 sid : Nat) (serial : Bytes) : Bytes :=
  [byteOf kind, byteOf role] ++ leBytes 2 peer ++ leBytes 16 n1 ++ leBytes 16 n2 ++ leBytes 2 sid ++ serial

/-- The session key of R120, its first byte least significant. -/
def sessionKey (key nc nd sid : Nat) : Nat :=
  let m := fun (first : Nat) =>
    [byteOf first, 0x53#8, 0x45#8, 0x53#8, 0x53#8] ++ leBytes 16 nc ++ leBytes 16 nd ++ leBytes 2 sid
  (Config.cmac key (m 1)).toNat + 2 ^ 128 * (Config.cmac key (m 2)).toNat

/-- Sessions open (Session.OpenCount). -/
def State.openCount (s : State) : Nat := (s.sec.sessions.filter (fun x => x.isOpen)).length

/-- The lowest Session.OpenCount slot that no session holds. -/
def State.freeSlot (s : State) : Nat :=
  ((List.range 8).find? (fun n => !s.sec.sessions.any (fun x => x.slot == n))).getD 0

/-- A SessionId that no session holds, from 0x0001 to 0xFFFE, at or after a drawn one (log entry 4). -/
def State.freshSid (s : State) (draw : Nat) : Nat :=
  ((List.range 9).map (fun i => 1 + (draw + i) % 65534)).find?
    (fun sid => !s.sec.sessions.any (fun x => x.sid == sid)) |>.getD 1

/-- The first refusal of a SessionOpen (R95, R117, R122, R144, R225, R715, Table 4-11): what it asks for, the lifecycle and
the role, then the power state and the Cork, then the limits. A SERVICE that is being left admits no role of SERVICE. -/
def State.sessionRefusal (s : State) (src role version peer : Nat) : Option Abort :=
  let l := s.lifecycle
  if 3 < role then some (4, 1)
  else if version ≠ 1 then some (4, 2)
  else if peer ≠ src then some (s.denied 0 5)
  else if l = 4 then some (s.denied 0 2)
  else if s.bit Obj.sessionRoleLockout role then some (s.denied role 6)
  else if l = 2 ∧ 2 ≤ role ∧ (s.power.state ≠ .service ∨ s.transition.isSome) then some (s.denied role 3)
  else if !s.hasEntry role ∨ s.badEntry role then some (s.denied role 7)
  else if !s.running then s.powerCheck
  else if !s.power.corkReady || s.sec.halted.contains .cork || s.sec.entropyFailed then some (conflict 2 3)
  else if 8 ≤ s.sec.sessions.length then some (9, 0xF8)
  else if role = 3 ∧ s.sec.sessions.any (fun x => x.role == 3) then some (9, 0xF9)
  else none

/-- Service activity (R718): a request accepted at step 6 restarts ServiceTimeout. -/
def State.activity (s : State) : State :=
  if s.power.state = .service then s.arm .serviceTimeout (60000000 * s.get Obj.powerStateServiceTimeout) else s

/-- SessionOpen (Table 4-6): a half-open session and its challenge, or the refusal of R715. One that meets a Cork that is
not ready or a full table has passed step 6 (R95, R718). -/
def State.sessionOpen (s : State) (c : Caller) (req : Bytes) (role version peer nc : Nat) : State :=
  match s.sessionRefusal c.dest.peer role version peer with
  | some a => (if a = conflict 2 3 ∨ a.1 = 9 then s.activity else s).abort c req a
  | none =>
    let d := (s.activity).draw
    let sid := d.2.freshSid d.1
    let n := d.2.drawRandom 128
    let s := n.2
    let key := (s.storedKey role).getD 0
    let slot := s.freeSlot
    let x : Session := { slot := slot, sid := sid, role := role, peer := peer, via := c.dest.via, isOpen := false,
                         key := key, nc := nc, nd := n.1, ctrIn := 0, ctrOut := 0, fails := 0 }
    let tag := Config.cmac key (handshakeInput 0x44 role peer nc n.1 sid s.serial)
    let s : State := { s with sec.sessions := s.sec.sessions ++ [x] }
    (s.arm (.handshake slot) 2000000).answer c
      ([0#8, 0#8, 0x02#8, 0#8] ++ leBytes 2 sid ++ [0#8, 0#8] ++ leBytes 16 n.1 ++ leBytes 16 tag.toNat)

/-- A failed handshake (R144): the fifth for one role within 60 s locks the role out. -/
def State.handshakeFailed (s : State) (role : Nat) : State :=
  let mine := s.sec.handshakeFails.filter (fun f => f.1 == role && decide (s.now ≤ f.2 + 60000000))
  let others := s.sec.handshakeFails.filter (fun f => f.1 != role)
  if 4 ≤ mine.length ∧ !s.bit Obj.sessionRoleLockout role then
    let s : State := { s with sec.handshakeFails := others }
    let s := (s.set Obj.sessionRoleLockout (setBit (s.get Obj.sessionRoleLockout) role)).faultRow Obj.securitySticky 4 .cork
      0x0605 1 31 []
    s.arm (.roleLockout role) (1000000 * s.get Obj.sessionLockoutTime)
  else { s with sec.handshakeFails := others ++ mine ++ [(role, s.now)] }

/-- A half-open session discarded. -/
def State.dropHalf (s : State) (slot : Nat) : State :=
  ({ s with sec.sessions := s.sec.sessions.filter (fun x => !(x.slot == slot)) }).disarm (.handshake slot)

/-- A half-open session made a session, with its timers. -/
def State.acceptSession (s : State) (x : Session) : State :=
  let s : State := { s with sec := { s.sec with
    sessions := s.sec.sessions.map (fun y => if y.slot = x.slot then
      { x with isOpen := true, key := sessionKey x.key x.nc x.nd x.sid } else y)
    ended := s.sec.ended.filter (fun n => n != x.sid)
    closing := s.sec.closing.filter (fun e => e.1 != x.sid) } }
  let s := (s.disarm (.handshake x.slot)).arm (.sessionIdle x.slot) (1000000 * s.get Obj.sessionIdleTimeout)
  s.arm (.sessionLife x.slot) (60000000 * s.get Obj.sessionLifetime)

/-- SessionConfirm (R121, R144): the accept; or no reply, and a half-open session whose tag fails is discarded. While
new sessions are withheld (Table 4-14) the half-open session is discarded and no failure counted. -/
def State.sessionConfirm (s : State) (c : Caller) (sid tagC : Nat) : State :=
  match s.sec.sessions.find? (fun x => !x.isOpen && x.sid == sid && x.peer == c.dest.peer && x.via == c.dest.via) with
  | none => s
  | some x =>
    let tag := Config.cmac x.key (handshakeInput 0x43 x.role x.peer x.nd x.nc x.sid s.serial)
    if tag.toNat ≠ tagC then (s.dropHalf x.slot).handshakeFailed x.role
    else if s.sec.entropyFailed then s.dropHalf x.slot
    else ((s.activity).acceptSession x).answer c
      ([0#8, 0#8, 0x04#8, 0#8] ++ leBytes 2 x.sid ++ leBytes 2 (s.get Obj.sessionIdleTimeout))

/-- HANDSHAKE_TIMEOUT (R121, R144): no valid SessionConfirm within 2 s. -/
def execHandshakeTimeout (slot : Fin 8) (s : State) : Out :=
  .next (s.onTimer (.handshake slot.val) (fun s =>
    match s.sec.sessions.find? (fun x => x.slot == slot.val && !x.isOpen) with
    | some x => (s.dropHalf slot.val).handshakeFailed x.role
    | none => s))

/-- ROLE_LOCKOUT_EXPIRY (R144): Session.LockoutTime is over. -/
def execRoleLockoutExpiry (role : Fin 4) (s : State) : Out :=
  .next (s.onTimer (.roleLockout role.val) (fun s =>
    s.set Obj.sessionRoleLockout (clearBit (s.get Obj.sessionRoleLockout) role.val)))

/-- SESSION_IDLE_TIMEOUT (R134, R140, R167, R305). -/
def execSessionIdleTimeout (slot : Fin 8) (s : State) : Out :=
  .next (s.onTimer (.sessionIdle slot.val) (fun s => s.endSession slot.val))

/-- SESSION_LIFETIME_EXPIRY (R134, R139, R140, R167, R305). -/
def execSessionLifetimeExpiry (slot : Fin 8) (s : State) : Out :=
  .next (s.onTimer (.sessionLife slot.val) (fun s => s.endSession slot.val))

/-! ## Debug levels (R127 to R137) -/

/-- A debug level opened, changed or closed (R132, R134): cores that FULL had halted resume below FULL. -/
def State.setDebug (s : State) (level : Nat) (owner : Option Nat) : State :=
  let s := if level = 2 then s else s.endDebug false
  if level = 0 then s
  else
    ({ (s.set Obj.debugLevel level) with sec.debugOwner := owner }).arm .debugEnd (1000000 * s.get Obj.debugTimeout)

/-- A write of Debug.Request past step 12 (R132, R134, R136). -/
def State.debugWrite (s : State) (c : Caller) (level : Nat) : State :=
  (s.done c 0x1A30 2).setDebug level (c.slot.map (fun n => n.val))

/-- Whether a Strelbor token (Table 4-9) names this unit and a challenge issued within the last 60 s, and its signature
verifies under an unrevoked image key slot (R132). -/
def State.tokenGood (s : State) (t : Bytes) : Bool :=
  let slots := if s.sec.slot0Revoked then [1] else [0, 1]
  let fresh := match s.sec.challenge with
    | some (v, at_) => fieldAt t 8 16 == v && decide (s.now ≤ at_ + 60000000)
    | none => false
  sliceBytes t 0 8 == s.serial && fresh
    && slots.any (fun k => Config.imageKeyVerify k (t.take 32) (sliceBytes t 32 32) (sliceBytes t 64 32))

/-- A write of Debug.Token past step 12 (Table 4-3, R111, R132, R136, R714): a debug level in BLANK and RETURNED, or the
transition to RETURNED. The aborts of a token that does not serve are log entry 37. -/
def State.tokenWrite (s : State) (c : Caller) (req : Bytes) (t : Bytes) : State :=
  let kind := fieldAt t 24 1
  if kind ≠ 1 ∧ kind ≠ 2 ∧ kind ≠ 0x80 then s.abort c req (4, 2)
  else if !s.tokenGood t then s.abort c req (0x0B, 0)
  else if kind ≠ 0x80 then (s.done c 0x1A30 5).setDebug kind none
  else if s.erases then ((s.done c 0x1A30 5).eraseKeys true).beginLifecycle 3 1
  else (s.abort c req (0x0C, 4)).eraseKeys false

/-- A read of Debug.Challenge (R99, R133): a fresh value that invalidates every earlier one. -/
def State.newChallenge (s : State) : Nat × State :=
  let d := s.drawRandom 128
  (d.1, { d.2 with sec.challenge := some (d.1, d.2.now) })

/-- DEBUG_TIMEOUT (R134). -/
def execDebugTimeout (s : State) : Out := .next (s.onTimer .debugEnd (fun s => s.endDebug false))

/-- What the debug levels reach (Table 4-8): instructions of the test access port, a core's memory and registers to read
or to write, the key store and the Cork's key registers among them apart, instruction trace, and halts; the Cellarmaster
as a whole. -/
inductive DebugResource where
  | bypass | idcode | samplePreload | extest | memory (c : CoreId) (write : Bool) | keyStore (write : Bool) | trace
  | halt (c : CoreId) | cellarmaster
deriving DecidableEq, Repr

/-- Whether a debug level reaches a resource in a lifecycle state (Table 4-8, R127 to R130). -/
def debugReaches (level lifecycle : Nat) : DebugResource → Bool
  | .bypass | .idcode => true
  | .samplePreload | .trace => decide (1 ≤ level)
  | .memory _ write => decide (if write then 2 ≤ level else 1 ≤ level)
  | .halt .cork | .extest => decide (2 ≤ level) && (lifecycle == 0 || lifecycle == 3)
  | .halt _ => decide (2 ≤ level)
  | .keyStore _ | .cellarmaster => false

/-- Whether the debug level now open reaches a resource. -/
def State.debugReach (s : State) (r : DebugResource) : Bool := debugReaches (s.get Obj.debugLevel) s.lifecycle r

/-- Whether FULL may halt a core now (Table 4-8, R630). -/
def State.mayHalt (s : State) (c : CoreId) : Bool :=
  s.debugReach (.halt c) && !s.sec.halted.contains c &&
  (match c with
    | .press => s.power.pressReady
    | .vintner => s.power.vintReady && !s.twin.enabled
    | .cork => s.power.corkReady)

/-- DEBUG_HALT (R127, R135, R630): the core's watchdog is suspended; before a halt of the Press takes effect, hardware
mutes and drives every PA_EN low. -/
def execDebugHalt (c : CoreId) (s : State) : Out :=
  .next (s.when (s.mayHalt c) (fun s =>
    let s := match c with
      | .press => (s.hardMute).paOff
      | _ => s
    ({ s with sec.halted := s.sec.halted ++ [c] }).disarm (.watchdog c)))

/-- DEBUG_RESUME (R135): the core runs again under its watchdog; its paths return by a fresh probe. -/
def execDebugResume (c : CoreId) (s : State) : Out :=
  .next (s.when (s.sec.halted.contains c && s.get Obj.debugLevel == 2) (fun s =>
    ({ s with sec.halted := s.sec.halted.filter (fun x => x != c) }).arm (.watchdog c) (s.watchdogTime c)))

/-! ## The test access port (R127 to R131): instruction 0 BYPASS, 1 IDCODE, 2 SAMPLE/PRELOAD, 3 EXTEST -/

/-- Whether the test access port works: the core domain is released, and bank A's cells are in operation (R35). -/
def State.tapUp (s : State) : Bool := s.power.coreReleased && s.bankA

/-- IDCODE (R131): the 32-bit register captured. -/
def execIdcode (s : State) : Out :=
  .next (s.when s.tapUp (fun s =>
    let id := s.get Obj.identityDieRevision % 16 * 2 ^ 28 + 0x4216 * 2 ^ 12 + 0x3A7 * 2 + 1
    { s with sec := { s.sec with jtagInstr := 1, captured := BitVec.ofNat 64 id } }))

/-- BYPASS (R127): one bit of delay between TDI and TDO. -/
def execBypass (tdi : Bool) (s : State) : Out :=
  .next (s.when s.tapUp (fun s =>
    { s with sec := { s.sec with jtagInstr := 0, captured := if s.sec.bypassBit then 1 else 0, bypassBit := tdi },
             pins.tdi := tdi }))

/-- The digital balls as the boundary cells see them, in the model's order (log entry 38): RAIL_EN, PA_EN, RF_MUTE_N and
PFW_N in bits 0 to 21, which only observe (R129), TWIN_ACT 22, CAN_A_STB 23, CAN_B_STB 24, FE_GPIO from bit 32. -/
def State.ballCells (s : State) : BitVec 64 :=
  let b := fun (x : Bool) (i : Nat) => if x then 2 ^ i else 0
  BitVec.ofNat 64 (s.pins.railEn.toNat + s.pins.paEn.toNat * 2 ^ 16 + b s.pins.rfMuteN 20 + b s.pins.pfwN 21
    + b s.pins.twinAct 22 + b s.pins.canStbA 23 + b s.pins.canStbB 24 + s.pins.feGpio.toNat * 2 ^ 32)

/-- SAMPLE_PRELOAD (R127): the balls captured and the cells loaded with them at INSPECT and above; at CLOSED the
instruction reaches BYPASS only. -/
def execSamplePreload (s : State) : Out :=
  .next (s.when s.tapUp (fun s =>
    if s.debugReach .samplePreload then
      { s with sec := { s.sec with jtagInstr := 2, captured := s.ballCells, boundary := s.ballCells } }
    else { s with sec.jtagInstr := 0 }))

/-- EXTEST (R127, R129, R130): at FULL in BLANK and RETURNED the cells drive their balls, but for the observe-only
ones; elsewhere it decodes as BYPASS. -/
def execExtest (cells : BitVec 64) (s : State) : Out :=
  .next (s.when s.tapUp (fun s =>
    if s.debugReach .extest then
      { s with
        sec := { s.sec with jtagInstr := 3, captured := s.ballCells, boundary := cells }
        pins := { s.pins with twinAct := cells.getLsbD 22, canStbA := cells.getLsbD 23, canStbB := cells.getLsbD 24,
                              feGpio := BitVec.ofNat 16 (cells.toNat / 2 ^ 32) } }
    else { s with sec.jtagInstr := 0 }))

/-! ## Entropy and receipts (R26, R99, R101, R146, R426, R716) -/

/-- ENTROPY_FAIL (Table 4-14): no new session, challenge or signature until a retest passes, retried every 10 s. -/
def execEntropyFail (s : State) : Out :=
  .next (s.when (s.power.corkReady && !s.sec.entropyFailed) (fun s =>
    (({ s with sec.entropyFailed := true }).faultRow Obj.securitySticky 3 .cork 0x0504 1 31 []).arm .entropyRetest 10000000))

/-- ENTROPY_RETEST (Table 4-14, R426): a pass signs the receipts left unsigned. -/
def execEntropyRetest (pass : Bool) (s : State) : Out :=
  .next (s.onTimer .entropyRetest (fun s =>
    if pass then ({ s with sec.entropyFailed := false }).signLate else s.arm .entropyRetest 10000000))

/-- The next receipt that waits for the Cork while it can sign. -/
def State.nextSignature (s : State) : State :=
  match s.net.unsigned with
  | seq :: rest => if s.sec.entropyFailed then s else ({ s with net.unsigned := rest }).askSignature seq
  | [] => s

/-- RECEIPT_SIGNED (R26, R101, R426, R716): the signature completes within 15 ms, or the zero signature stands and the
record says why. -/
def execReceiptSigned (inTime : Bool) (s : State) : Out :=
  .next (s.when (s.armed .receiptSign) (fun s =>
    let sign := fun (s : State) => match s.net.signing with
      | some seq => if inTime then s.signReceipt seq false else s.leaveUnsigned seq 6
      | none => s
    let s := if inTime then sign (s.disarm .receiptSign) else s.onTimer .receiptSign sign
    ({ s with net.signing := none }).nextSignature))

end Sys2Proof.Machine
end

