-- ==== Sys2Proof/Machine/Sticky.lean ====
section
/-!
DEFINITION. Clearing sticky flags (R180, R181, R184): the conditions that are still present at a clear, the clear of one
object, and Sticky.ClearAll.
-/

namespace Sys2Proof.Machine

open Sys2Proof

/-- A mask from conditions, by flag bit. -/
def maskOf (l : List (Nat × Bool)) : Nat := l.foldl (fun n p => if p.2 then setBit n p.1 else n) 0

/-- Conditions present of the dictionary, queue, field and clock flags. -/
def State.presentCore (s : State) (k : Nat) : Nat :=
  let port := fun (n st : Nat) => s.get (Obj.portState n) == st
  if k = Obj.dictSticky then maskOf [(5, !s.trellisOk), (6, s.cfg.writeFailed)]
  else if k = Obj.fieldSticky then
    maskOf [(0, port 0 5), (1, port 1 5), (2, port 0 4), (3, port 1 4),
      (4, s.field.effective == 0xFFFF && s.get Obj.fieldNodeAddress != 0xFFFF && s.running),
      (10, (s.field.portA.restrictedAt.any (fun t => decide (t + 10000 < s.now)))
        || (s.field.portB.restrictedAt.any (fun t => decide (t + 10000 < s.now))))]
  else if k = Obj.queueSticky then
    maskOf [(4, s.q.msgs.any (fun m => m.escape && decide (m.at_ + 100000 < s.now))),
      (8, s.q.waits.any (fun w => w.isLatch w.msg.queue))]
  else if k = Obj.clockSticky then
    maskOf [(0, s.power.refSeen && !s.power.refPresent),
      (1, s.power.pllLocked && s.power.refPresent && s.get Obj.clockSamplePllLocked == 0), (2, s.power.relockRetry || s.armed .relockRetry), (3, s.power.stretchAt.isSome),
      (4, s.power.stretchAt.any (fun t => decide (t + 1000 < s.now))), (5, decide (400 < s.get Obj.clockAgingGrowth)),
      (6, s.wd.lockstepBusy)]
  else if k = Obj.securitySticky then
    maskOf [(1, s.power.recovery), (2, s.sec.keyStore.any (fun e => !e.intact)), (3, s.sec.entropyFailed),
      (4, s.get Obj.sessionRoleLockout != 0), (6, s.lifecycle == 4), (7, s.pins.tmode && s.lifecycle != 0)]
  else if k = Obj.updateSticky then 0
  else if k = Obj.caskSticky then maskOf [(0, s.caskState == 1), (1, s.caskState == 2)]
  else if k = Obj.vintageSticky then maskOf [(2, s.vintEventFree == 0)]
  else if k = Obj.twinSticky then
    maskOf [(0, s.get Obj.twinRole == 1 && s.get Obj.twinLinkState != 2), (3, s.twin.staleNoted),
      (4, s.twin.digestNoted), (7, s.twin.relayLost)]
  else 0

/-- Conditions present of the converter, gain and network flags. -/
def State.presentRf (s : State) (k : Nat) : Nat :=
  if k = Obj.converterSticky then
    maskOf (((List.range 4).map (fun c => (c, s.armed (.dcFreeze c))))
      ++ [(8, (List.range 4).any (fun c => s.get (Obj.adcCalStatus c) == 3))])
  else if k = Obj.leSticky then maskOf [(1, s.get Obj.leBarred != 0)]
  else if k = Obj.stabSticky then
    maskOf [(0, pathNums.any (fun p => s.inService p && (fieldAt (s.bytesOf (Obj.stabLoop p)) 14 1).testBit 2)),
      (1, pathNums.any (fun p => s.get (Obj.stabState p) == 6)), (2, s.loops.ulHeld || s.loops.dlHeld),
      (4, pathNums.any (fun p => s.unmuted p && (s.noiseCap p).isSome && (s.noiseCap p == some (s.path p).computed))),
      (5, pathNums.any (fun p => s.unmuted p && (s.outputCap p).isSome && (s.outputCap p == some (s.path p).computed))),
      (6, s.loops.waterMissing)]
  else if k = Obj.netSticky then maskOf [(1, s.get Obj.netState == 3)]
  else
    match (List.range 16).find? (fun p => k == Obj.bandSticky p) with
    | some p =>
      if (match s.dirOf p with | .ul => s.fe.failUL | .dl => s.fe.failDL) then 3 else 0
    | none => 0

/-- Conditions present of one lane's flags. -/
def State.presentLane (s : State) (n : Nat) : Nat :=
  let r := s.lane n
  let trim := s.getI (Obj.paLaneModelTrim n)
  maskOf [(0, r.hold.pmbus || r.pmbFault), (1, r.hold.regulator), (2, r.ntcBad), (3, r.hold.heat),
    (4, decide (trim ≤ -300 ∨ 300 ≤ trim))]

/-- Conditions present of one rail slot's flags. -/
def State.presentSlot (s : State) (n : Nat) : Nat :=
  let v := s.get (Obj.railSlotReading n)
  let good := s.get (Obj.railSlotState n) == 5
  maskOf [(1, good && decide (v < s.get (Obj.railSlotUvThreshold n))),
    (2, good && decide (s.get (Obj.railSlotOvThreshold n) < v)),
    (3, good && s.get (Obj.railSlotPgMode n) != 0 && !s.rail.pgCounted.getLsbD n),
    (4, !s.railOn n && decide (s.get (Obj.railSlotNominal n) ≤ 10 * v) && decide (0 < v))]

/-- Conditions present of the power, rail and measurement flags. -/
def State.presentUnit (s : State) (k : Nat) : Nat :=
  let m := fun (st : Nat) => (List.range 4).map (fun c => (c, s.get (Obj.marginState c) == st))
  if k = Obj.paBudgetSticky then
    maskOf [(0, laneNums.any (fun n => (s.lanePaths n).any (fun p => (s.path p).paCut.isSome))),
      (1, pathNums.any (fun p => (s.path p).budgetMuted)), (2, s.pa.overrun)]
  else if k = Obj.droopSticky then
    maskOf [(0, s.get Obj.droopState != 0), (1, s.get Obj.droopState == 2), (2, s.feed.stale), (3, s.pa.die),
      (4, s.pa.breach), (5, pathNums.any (fun p => s.bandOn p && (s.thermalCap p).isSome))]
  else if k = Obj.railSeqSticky then maskOf [(2, s.get Obj.railSeqLatchedSlot != 0xFF)]
  else if k = Obj.marginSticky then maskOf (m 4)
  else if k = Obj.tiuSticky then maskOf [(2, s.tiu.calFault), (4, s.tiu.ovenLow)]
  else if k = Obj.tdrSticky then maskOf [(1, s.waterValid && (s.waterline 10 1).testBit 2), (3, !s.waterValid)]
  else if k = Obj.hkSticky then
    maskOf [(2, s.hkb.refAt.any (fun t => decide (s.now < t + 2000))), (4, !s.hkb.badEntries.isEmpty)]
  else if k = Obj.lidSticky then
    maskOf [(0, s.get Obj.lidState == 5), (1, s.get Obj.lidCoveredAtStart == 1), (2, s.get Obj.lidState == 4)]
  else
    match laneNums.find? (fun n => k == Obj.paLaneSticky n) with
    | some n => s.presentLane n
    | none =>
      match slots.find? (fun n => k == Obj.railSlotSticky n) with
      | some n => s.presentSlot n
      | none => 0

/-- The flags of an RW1C object whose condition is present at this moment (R180). -/
def State.present (s : State) (k : Nat) : Nat := s.presentCore k ||| s.presentRf k ||| s.presentUnit k

/-- A write of `mask` to an RW1C object (R180): the flags cleared, and the state without them. -/
def State.clearFlags (s : State) (k mask : Nat) : Nat × State :=
  let old := s.get k
  let gone := (old &&& mask) - ((old &&& mask) &&& s.present k)
  (gone, s.set k (old - gone))

/-- The role byte of R181 and R184. -/
def roleByte (role : Option Nat) : Byte := byteOf (role.getD 0xFF)

/-- STICKY_CLEAR's effect (R180, R181): the record is written when at least one flag was cleared. -/
def State.stickyClear (s : State) (role : Option Nat) (peer k mask : Nat) : State :=
  let r := s.clearFlags k mask
  if r.1 = 0 then s
  else
    (r.2.log .vintner 0x8001 0 31 (leBytes 2 (k / 256) ++ [byteOf k, 0x00#8] ++ leBytes 4 r.1
      ++ [roleByte role, 0x00#8] ++ leBytes 2 peer)).noteSummary

/-- The RW1C objects with a flag set, in ascending order. -/
def State.flagged (s : State) : List Nat := (s.dict.filter (fun p => isRw1c p.1 && p.2 != 0)).map (fun p => p.1)

/-- STICKY_CLEAR_ALL's effect (R184): all ones written to every RW1C object, and one record. -/
def State.stickyClearAll (s : State) (role : Option Nat) (peer : Nat) : State :=
  let r := s.flagged.foldl (fun (a : List Nat × State) k =>
    let c := a.2.clearFlags k 0xFFFFFFFF
    if c.1 = 0 then a else (a.1 ++ [k], c.2)) ([], s)
  if r.1.isEmpty then s
  else
    let four := (r.1.take 4).flatMap (fun k => leBytes 2 (k / 256) ++ [byteOf k])
    (r.2.log .vintner 0x8002 0 31 ([roleByte role, byteOf r.1.length] ++ leBytes 2 peer
      ++ sliceBytes four 0 12)).noteSummary

end Sys2Proof.Machine
end

