-- ==== Sys2Proof/Machine/Actions.lean ====
section
/-!
DEFINITION. What a plain Write to a WO object does once every check of Table 5-4 has passed (R152, R163), and the
phases of a firmware update (R188 to R191).
-/

namespace Sys2Proof.Machine

open Sys2Proof

/-! ## Firmware update (R188) -/

/-- Update.TargetBank: the bank that is not running. -/
def State.targetBank (s : State) : Nat := 1 - s.boot.running

/-- The memory of a bank replaced. -/
def State.setBank (s : State) (bank : Nat) (m : List Host.Cell) : State :=
  if bank = 0 then { s with mems.bankA := m } else { s with mems.bankB := m }

/-- Update.Begin: the target bank erased, Receiving (R188). -/
def State.beginUpdate (s : State) (length : Nat) : State :=
  let s := s.setBank s.targetBank []
  let s : State := { s with upd := ⟨length, []⟩ }
  ((s.set Obj.updateReceived 0).set Obj.updateFailedCheck 0).set Obj.updateState 1

/-- Update.Activate (R188): the target bank selected, and the restart of R71 into Trial. -/
def State.activateUpdate (s : State) : State :=
  let s := { s with boot.previousBank := s.boot.running }
  let s := (s.set Obj.bootSelectedBank s.targetBank).set Obj.updateState 5
  s.restart 3

/-- UPDATE_VERIFY_DONE's effect (R103, R188, R195): the target bank read; Verified, or Failed with the failing check. -/
def State.updateVerified (s : State) : State :=
  match s.bundleFault (s.bankFacts s.targetBank) with
  | none => (s.set Obj.updateFailedCheck 0).set Obj.updateState 3
  | some f =>
    let s := (s.set Obj.updateFailedCheck f.2).set Obj.updateState 4
    s.faultRow Obj.updateSticky 0 .cork 0x0908 1 31 []

/-! ## Single commands -/

/-- RailSeq.ClearStats (Table 13-10): MinSeen and MaxSeen of every slot are zeroed. -/
def State.clearRailStats (s : State) : State :=
  slots.foldl (fun (s : State) n => (s.set (Obj.railSlotMinSeen n) 0).set (Obj.railSlotMaxSeen n) 0) s

/-- RailSeq.ClearLatch (R506): the latch and Attempt, then the restart of R71. -/
def State.clearLatch (s : State) : State :=
  ((s.set Obj.railSeqLatchedSlot 0xFF).set Obj.railSeqAttempt 1).restart 3

/-- Lid.Rebaseline (R573): a re-take begins; a sensor that is disabled or at fault takes none. -/
def State.rebaseline (s : State) : State := if s.get Obj.lidState = 2 then s.lidRetakeNow else s

/-- Net.Shutdown (R417, R428): a commanded shutdown of every unmuted path. -/
def State.commandedShutdown (s : State) : State := s.netTrigger 6 (pathNums.filter s.unmuted)

/-- The level of SEAL_N as Seal.Clear meets it: a pin that has been low may have returned high (R465); which is a free
value (log entry 4). -/
def State.sampleSeal (s : State) : State :=
  if s.pins.sealN ∨ !s.pa.breach then s
  else
    let d := s.draw
    { d.2 with pins.sealN := d.1 % 2 == 1 }

/-- A command of the PA, rail, TIU, lid, Cask and twin chapters. -/
def State.actUnit (s : State) (k : Nat) : State :=
  if k = Obj.sealClear then s.unseal
  else if k = Obj.railSeqClearLatch then s.clearLatch
  else if k = Obj.railSeqClearStats then s.clearRailStats
  else if k = Obj.tiuArm then s.armTiu
  else if k = Obj.tiuCancel then s.cancelTiu
  else if k = Obj.lidRebaseline then s.rebaseline
  else if k = Obj.caskClear then s.beginClear
  else if k = Obj.twinHandover then s.startHandover
  else if k = Obj.converterSyncNow then s.doSync
  else if k = Obj.frontEndRunInit then s.runInit
  else if k = Obj.netClearLockout then s.set Obj.netState 0
  else if k = Obj.netShutdown then s.commandedShutdown
  else s

/-- A command written to a WO object that answers with success and acts. -/
def State.actCommand (s : State) (c : Caller) (k v : Nat) : State :=
  if k = Obj.queueClearHighWater then { s with q.highWater := [] }
  else if k = Obj.lifecycleConfirm then { s with sec.confirm := some (v, s.now) }
  else if k = Obj.bootRevokeSlot0 then { s with sec.slot0Revoked := true }
  else if k = Obj.stickyClearAll then s.stickyClearAll c.role c.dest.peer
  else if k = Obj.updateBegin then s.beginUpdate v
  else if k = Obj.updateVerify then s.set Obj.updateState 2
  else if k = Obj.updateActivate then s.activateUpdate
  else if k = Obj.updateAbort then ({ s with upd.segments := [] }).set Obj.updateState 0
  else s.actUnit k

/-- The key that an index and sub-index write: 0 to 3 a role key, 4 the pairing key. -/
def keyWhich (k : Nat) : Option Nat :=
  if k = Obj.twinPairKey then some 4 else (List.range 4).find? (fun r => k == Obj.keysRoleKey r)

/-- A write of a WO object past step 12: one that leads to a restart waits for a commit in application (R192); the
lifecycle, keys, debug and token writes answer for themselves; the others are answered with success and act. -/
def State.actWo (s : State) (c : Caller) (req : Bytes) (k v : Nat) (value : Bytes) : State :=
  match keyWhich k with
  | some which => s.keyWrite c req which (k / 256) (k % 256) value
  | none =>
    if s.eng.commit.isSome && [Obj.lifecycleRequest, Obj.updateActivate, Obj.railSeqClearLatch].contains k then
      s.deferPower c req
    else if k = Obj.lifecycleRequest then s.lifecycleWrite c req v
    else if k = Obj.debugRequest then s.debugWrite c v
    else if k = Obj.debugToken then s.tokenWrite c req value
    else (s.done c (k / 256) (k % 256)).actCommand c k v

end Sys2Proof.Machine
end

