-- ==== Sys2Proof/Machine/Read.lean ====
section
/-!
DEFINITION. Reading objects: the values that a read returns for objects that follow other state (R152, R166, R185), and
the two logs that only BlockRead yields (R616).
-/

namespace Sys2Proof.Machine

open Sys2Proof

/-- A truth value as the bool object's byte. -/
def boolNat (b : Bool) : Nat := if b then 1 else 0

/-- Update.TrialRemaining: core-seconds until the running bundle is confirmed (R106, R190). -/
def State.trialRemaining (s : State) : Nat :=
  if s.get Obj.updateState ≠ 5 then 0
  else if s.boot.running = s.get Obj.bootSelectedBank then s.boot.confirmedAfter - s.get Obj.powerStateCoreSeconds
  else 3600

/-- The public half of the device identity key (Table 4-1). -/
def dikPublic : Bytes := sliceBytes (Config.ecdsaPublic (Config.deriveDik Config.duk)) 0 64

/-- Identity.DikCertificate (R198, Table 5-11): serial number, DIK public key, issuer and date, signed by Strelbor. -/
def State.dikCertificate (s : State) : Bytes :=
  let body := s.bytesOf Obj.identitySerialNumber ++ dikPublic ++ leBytes 4 Config.certIssuer ++ leBytes 4 Config.certDate
  body ++ sliceBytes (Config.ecdsaSign (Config.certKey Config.certIssuer) body Config.certNonce) 0 64

/-- Objects of the security range that follow the Cork's state (Table 4-15). -/
def State.readSecurity (s : State) (c : Caller) (k : Nat) : Option Nat :=
  if k = Obj.lifecycleState then some s.lifecycle
  else if k = Obj.sessionOpenCount then some s.openCount
  else if k = Obj.sessionOwnRole then some (c.role.getD 0xFF)
  else if k = Obj.keysStatus then
    some (maskOf ((List.range 4).map (fun r => (r, s.hasEntry r)) ++ [(4, s.hasEntry rskEntry)]))
  else if k = Obj.keysRskPublic then some (leNat s.sec.rskPublic)
  else if k = Obj.keysRskEndorsement then some (leNat s.sec.rskEndorsement)
  else if k = Obj.keysDikPublic then some (leNat dikPublic)
  else if k = Obj.bootSecurityCounter then some s.sec.securityCounter
  else if k = Obj.twinKeyPresent then some (boolNat (s.hasEntry pairEntry))
  else none

/-- Objects of the identity, dictionary, update, field and queue ranges that follow other state. -/
def State.readSystem (s : State) (c : Caller) (k : Nat) : Option Nat :=
  if k = Obj.powerStateCurrent then some s.power.state.code
  else if k = Obj.hostPortCellSupply then some (boolNat s.pins.cellsOnAon)
  else if k = Obj.identityDikCertificate then some (leNat s.dikCertificate)
  else if k = Obj.identityDictionaryVersion then some (Config.dictionaryVersion s.runningVersion).toNat
  else if k = Obj.identityConfigGeneration then some s.configGeneration
  else if k = Obj.stickySummary then some (summaryOf s.dict)
  else if k = Obj.dictOwnStageEntries then
    some (match s.stageId c with
      | some w => (s.stageOf w).length
      | none => 0)
  else if k = Obj.updateTargetBank then some s.targetBank
  else if k = Obj.updateTrialRemaining then some s.trialRemaining
  else if k = Obj.fieldEffectiveAddress then some s.field.effective
  else if k = Obj.bridgeForwarding then some (boolNat s.forwarding)
  else if k = Obj.queueEscapeInUse then some s.escapeInUse
  else if k / 256 = 0x1410 ∧ 1 ≤ k % 256 then some (leNat (s.queueInfo (k % 256 - 1)))
  else if k / 256 = 0x1411 ∧ 1 ≤ k % 256 then some (leNat (s.queueInfo (0x7F + k % 256)))
  else none

/-- Objects of the Cask and the Vintage (Tables 16-11 and 16-12). -/
def State.readCask (s : State) (k : Nat) : Option Nat :=
  if k = Obj.caskState then some s.caskState
  else if k = Obj.caskUllage then some s.ullage
  else if k = Obj.caskWriteIndex then some s.writeIndex
  else if k = Obj.caskGeneration then some (s.ctl 0x08 4)
  else if k = Obj.caskDroppedTotal then some (s.ctl 0x10 4)
  else if k = Obj.caskDroppedByClass then some (s.ctl 0x80 96)
  else if k = Obj.caskFirstSlot then some (s.ctl 0x30 80)
  else if k = Obj.caskTornCount then some (s.ctl 0x14 2)
  else if k = Obj.caskRetentionCount then some (s.ctl 0x16 2)
  else if k = Obj.caskSuppressed then some (s.ctl 0x2C 4)
  else if k = Obj.vintageUsed then some s.vintUsed
  else if k = Obj.vintageEventFree then some s.vintEventFree
  else if k = Obj.vintagePending then some s.vintPending
  else none

/-- Objects of the RF, measurement and twin ranges that are recomputed (R326 to R328, R421, R532, R556, R563). -/
def State.readUnit (s : State) (k : Nat) : Option Nat :=
  let path := fun (f : Nat → Nat) => (List.range 16).find? (fun p => k == f p)
  if k = Obj.netLockoutRemaining then some s.lockoutRemaining
  else if k = Obj.tiuWarmRemaining then
    some (match s.deadline .warm with
      | some t => (t - s.now) / 1000000
      | none => 0xFFFF)
  else if k = Obj.hkAScanTime then some (slots.foldl (fun n i => n + s.hkaTime i) 0)
  else if k = Obj.hkBPassTime then
    some ((if s.hkb.seq.isEmpty then s.hkbSequence else s.hkb.seq).foldl (fun n e => n + 16 * 2 ^ hkbByte e 1) 0)
  else if k = Obj.twinRackAge then some s.rackAge
  else if k = Obj.twinConfigDigest then some (leNat s.configDigest)
  else
    match path Obj.bandPathLatency, path Obj.bandPathSettleTime, path Obj.stabApplied with
    | some p, _, _ => some (108 + s.pathDelay p)
    | _, some p, _ => some (s.settlePeriods p)
    | _, _, some p => if s.unmuted p then some (ofSigned 2 (s.gainNow p).1) else none
    | none, none, none => none

/-- The value in force of an object, as a read by `c` returns it. -/
def State.view (s : State) (c : Caller) (k : Nat) : Nat :=
  match s.readSystem c k with
  | some v => v
  | none =>
    match s.readSecurity c k with
    | some v => v
    | none =>
      match s.readCask k with
      | some v => v
      | none => (s.readUnit k).getD (s.get k)

/-- The value of index.sub as bytes: sub-index 0 is the highest sub-index (R147). -/
def State.viewBytes (s : State) (c : Caller) (index sub : Nat) : Bytes :=
  if sub = 0 then [byteOf (highestSub index)]
  else leBytes (objSize (objKey index sub)) (s.view c (objKey index sub))

/-- The type code of index.sub (R147, R148). -/
def typeCodeOf (index sub : Nat) : Nat :=
  match findObj index sub with
  | some d => d.ty.code
  | none => 2

/-- What a read does besides returning a value: a fresh challenge (R99, R133), the value of a running DC estimate that
nothing reports (a free value, log entry 4), a TIU result read (R530), and the gains of a path brought up to the instant
that the read shows (R186). -/
def State.readEffect (s : State) (k : Nat) : State :=
  if k = Obj.debugChallenge then
    let d := s.newChallenge
    d.2.set Obj.debugChallenge d.1
  else if k = Obj.tiuResult then { s with tiu.unread := false }
  else if (List.range 4).any (fun c => k == Obj.adcDcEstimate c) then
    let d := s.draw
    d.2.set k (d.1 % 2 ^ 32)
  else if 0x3110 ≤ k / 256 ∧ k / 256 < 0x3120 then s.moveGains
  else s

/-- What a read of every sub-index of an index does (R186, R227). -/
def State.readIndexEffect (s : State) (index : Nat) : State :=
  (List.range (highestSub index + 1)).foldl (fun (s : State) sub => s.readEffect (objKey index sub)) s

/-- The snapshot of Cask.Log (R616): bytes at or beyond the write index read 0x00. -/
def State.caskSnapshot (s : State) : Bytes :=
  let n := 32 * s.writeIndex
  s.caskBytes 0 n ++ List.replicate (65536 - n) 0x00#8

/-- The bytes that BlockRead of one object serves (R226, R616). -/
def State.blockBytes (s : State) (c : Caller) (index sub : Nat) : Bytes :=
  let k := objKey index sub
  if k = Obj.caskLog then s.caskSnapshot
  else if k = Obj.vintageLog then memSlice zeroByte s.mems.vint 0 2048
  else s.viewBytes c index sub

/-- A whole index in the format of R227: sub-index, type code, length and value of each defined sub-index; a write-only
one has no value to read, so its length is 0 (log entry 74). -/
def State.wholeIndex (s : State) (c : Caller) (index : Nat) : Bytes :=
  (List.range (highestSub index + 1)).flatMap (fun sub =>
    match findObj index sub with
    | some d =>
      let v := if d.acc == .wo then [] else s.blockBytes c index sub
      [byteOf sub, byteOf d.ty.code] ++ leBytes 2 (v.length % 65536) ++ v
    | none => if sub = 0 then [0x00#8, 0x02#8, 0x01#8, 0x00#8, byteOf (highestSub index)] else [])

end Sys2Proof.Machine
end

