-- ==== Sys2Proof/Machine/Serve.lean ====
section
/-!
DEFINITION. What an accepted request does: the checks of Table 5-4 in order (R159), and each service of Table 6-8 over
the dictionary, the commit engine, block transfers, the anchor, Locate, bridge control and sessions.
-/

namespace Sys2Proof.Machine

open Sys2Proof

/-! ## Checks -/

/-- The first failure of a list of checks. -/
def firstAbort (l : List (Option Abort)) : Option Abort := l.findSome? (fun a => a)

/-- A request through its checks: `upTo6` are those up to step 6 of Table 5-4, `later` those from step 7 on. -/
def State.gated (s : State) (c : Caller) (req : Bytes) (upTo6 later : List (Option Abort)) (f : State → State) : State :=
  match firstAbort upTo6 with
  | some a => s.abort c req a
  | none =>
    let s := s.activity
    match firstAbort later with
    | some a => s.abort c req a
    | none => f s

/-- R723: a transition in progress refuses a Commit and a plain Write. -/
def State.transCheck (s : State) : Option Abort :=
  match s.transition with
  | some t => some (conflict 1 t.target.code)
  | none => none

/-- Step 4 for a request that is no dictionary access: INVALID admits open reads only (Table 4-11). -/
def State.invalidCheck (s : State) : Option Abort := if s.lifecycle = 4 then some (s.denied 0 2) else none

/-- Step 5 for a service that needs a role in PROVISIONED and SEALED (Table 6-8). -/
def State.needRole (s : State) (role : Option Nat) (need : Nat) : Option Abort :=
  if s.lifecycle = 1 ∨ s.lifecycle = 2 then
    match role with
    | none => some (s.denied need 0)
    | some r => if r < need then some (s.denied need 1) else none
  else none

/-- Steps 1 and 2 of Table 5-4 (R3, R4). -/
def addressCheck (index sub : Nat) : Option Abort :=
  if !indexDefined index then some (1, 0)
  else if sub ≠ 0 ∧ (findObj index sub).isNone then some (2, highestSub index)
  else none

/-- The lengths that a service message can have without its trailer (Table 6-9, Table 4-6, Tables 6-13 and 6-15). -/
def sizeOk (svc : Nat) (b : Bytes) : Bool :=
  let n := b.length
  let kind := fieldAt b 0 1
  match svc with
  | 0 => n == 4
  | 1 | 2 => decide (5 ≤ n ∧ n ≤ 516)
  | 3 | 4 => n == 0
  | 5 => n == 12
  | 6 => decide (13 ≤ n ∧ n ≤ 908)
  | 9 => n == 16
  | 10 => n == 16
  | 11 =>
    if kind = 2 then decide (6 ≤ n ∧ n = 6 + fieldAt b 4 2 / 4) else if kind = 3 then n == 4 else n == 2
  | 12 => if kind = 1 then n == 28 else if kind = 3 then n == 24 else decide (1 ≤ n)
  | _ => true

/-- What is wrong with a request before the Cork sees it: its size (R251), its index or its sub-index. -/
def earlyAbort (svc : Nat) (b : Bytes) : Option Abort :=
  let index := fieldAt b 0 2
  if !sizeOk svc b then some (0x0D, 4)
  else if svc ≤ 2 ∨ svc = 6 then addressCheck index (fieldAt b 2 1)
  else if svc = 5 then addressCheck index (if (fieldAt b 3 1).testBit 0 then 0 else fieldAt b 2 1)
  else none

/-! ## Read (Table 6-9) -/

/-- A read of a log outside BlockRead (R616) and of a challenge while the generator has failed (Table 4-14). -/
def State.readFault (s : State) (k : Nat) : Option Abort :=
  if k = Obj.caskLog ∨ k = Obj.vintageLog then some (0x0D, 4)
  else if k = Obj.debugChallenge ∧ s.sec.entropyFailed then some (conflict 2 3)
  else none

/-- The Read service. -/
def State.serveRead (s : State) (c : Caller) (b : Bytes) : State :=
  let index := fieldAt b 0 2
  let sub := fieldAt b 2 1
  let k := objKey index sub
  s.gated c b [s.lifecycleCheck c.dest.via false index sub 0 0, s.roleCheck c.role false index sub 0, s.powerCheck]
    [s.readyCheck false index, s.readFault k]
    (fun s =>
      let s := s.readEffect k
      s.answer c ([0#8, 0#8] ++ leBytes 2 index ++ [byteOf sub, byteOf (typeCodeOf index sub)] ++ s.viewBytes c index sub))

/-! ## Write, StagedWrite, Commit, Discard (R162 to R172) -/

/-- Step 12 of Table 5-4 over the entries of a commit. -/
def State.heldCheck (s : State) (c : Caller) (es : List (Nat × Nat)) : Option Abort :=
  es.findSome? (fun e => (s.holderOf (s.stageId c) e.1).map (fun w => (8, stageCode w)))

/-- A commit started, or made to wait behind the one in application (R171): at most one waits. -/
def State.commitOrWait (s : State) (c : Caller) (form : ReplyForm) (fromStage : Option StageId) (es : List (Nat × Nat))
    (req : Bytes) : State :=
  if s.eng.commit.isNone then s.tryCommit c form fromStage es req
  else if s.eng.waiting.isSome then s.abort c req (9, 0xFB)
  else
    let h : Held := { caller := { c with deferred := true }, claimed := none, body := req, lacks := 0, at_ := s.now,
                      answered := true }
    ({ s with eng.waiting := some h }).abort c req (0x0A, 0)

/-- What Config.RestoreDefaults commits (R199): every Persistent RW object to its default, the excepted ranges apart. -/
def State.restoreEntries (s : State) : List (Nat × Nat) :=
  (s.dict.filter (fun p =>
    let hi := p.1 / 65536
    isPersistentRw p.1 && hi != 0x1A && !(decide (0x50 ≤ hi ∧ hi ≤ 0x52)) && hi != 0x80)).map
    (fun p => (p.1, objDefault p.1))

/-- A write past step 10, by the class of its object (R152, R162, R163, R199). -/
def State.writeObject (s : State) (c : Caller) (req : Bytes) (d : ObjDef) (k v : Nat) (value : Bytes) : State :=
  if k = Obj.powerStateRequest then s.powerRequest c req v
  else
    let s := if k = Obj.sealClear then s.sampleSeal else s
    match firstAbort [s.precondition k v, s.heldCheck c [(k, v)]] with
    | some a => s.abort c req a
    | none =>
      if k = Obj.configRestoreDefaults then
        let es := s.restoreEntries
        match s.heldCheck c es with
        | some a => s.abort c req a
        | none => s.commitOrWait c (.write (k / 256) (k % 256)) none es req
      else
        match d.acc with
        | .rw1c => (s.done c (k / 256) (k % 256)).stickyClear c.role c.dest.peer k v
        | .wo => s.actWo c req k v value
        | .rw => s.commitOrWait c (.write (k / 256) (k % 256)) none [(k, storedValue d v)] req
        | .ro => s.abort c req (5, 0)

/-- Steps 8 to 10 for index.sub; sub-index 0 is read-only (R147). -/
def State.writeValueCheck (s : State) (index sub type len v : Nat) : Option Abort :=
  match findObj index sub with
  | none => some (5, 0)
  | some d => s.valueCheck d (objKey index sub) type len v

/-- A plain Write (R162, R163, R723). -/
def State.serveWrite (s : State) (c : Caller) (b : Bytes) : State :=
  let index := fieldAt b 0 2
  let sub := fieldAt b 2 1
  let value := b.drop 4
  let v := leNat value
  s.gated c b [s.lifecycleCheck c.dest.via true index sub v value.length, s.roleCheck c.role true index sub v,
      s.powerCheck, s.transCheck]
    [s.readyCheck true index, s.writeValueCheck index sub (fieldAt b 3 1) value.length v]
    (fun s =>
      match findObj index sub with
      | some d => s.writeObject c b d (objKey index sub) v value
      | none => s.abort c b (5, 0))

/-- R163, R222: what a StagedWrite, Commit or Discard without a stage of its own ends with. -/
def State.stageCheck (s : State) (c : Caller) : Option Abort :=
  if (s.stageId c).isNone then some (s.denied 0 0) else none

/-- The bytes of values in a stage. -/
def stageBytes (es : List (Nat × Nat)) : Nat := es.foldl (fun n e => n + objSize e.1) 0

/-- A stage with an entry put (R164): a second write of one object takes the place of the first. -/
def putEntry (es : List (Nat × Nat)) (k v : Nat) : List (Nat × Nat) :=
  if es.any (fun e => e.1 == k) then es.map (fun e => if e.1 == k then (k, v) else e) else es ++ [(k, v)]

/-- A value into a requester's stage (R164, R168, R195). -/
def State.stageEntry (s : State) (c : Caller) (b : Bytes) (w : StageId) (k v : Nat) : State :=
  let es := putEntry (s.stageOf w) k v
  if 64 < es.length ∨ 2048 < stageBytes es then (s.flag Obj.dictSticky 2).abort c b (9, 0xFA)
  else
    ((s.setStage w es).arm (.stage w) (1000000 * s.get Obj.configStageTimeout)).answer c (writeReply (k / 256) (k % 256))

/-- The StagedWrite service (R163 to R168). -/
def State.serveStaged (s : State) (c : Caller) (b : Bytes) : State :=
  let index := fieldAt b 0 2
  let sub := fieldAt b 2 1
  let value := b.drop 4
  let v := leNat value
  let k := objKey index sub
  s.gated c b [s.lifecycleCheck c.dest.via true index sub v value.length, s.roleCheck c.role true index sub v,
      s.stageCheck c, s.powerCheck]
    [s.readyCheck true index, s.writeValueCheck index sub (fieldAt b 3 1) value.length v]
    (fun s =>
      match findObj index sub, s.stageId c with
      | some d, some w =>
        match firstAbort [if stageable d k then none else some (conflict 6 0), s.precondition k v, s.heldCheck c [(k, v)]] with
        | some a => s.abort c b a
        | none => s.stageEntry c b w k (storedValue d v)
      | _, _ => s.abort c b (s.denied 0 0))

/-- The Commit service (R169 to R172, R723). -/
def State.serveCommit (s : State) (c : Caller) (b : Bytes) : State :=
  s.gated c b [s.invalidCheck, s.needRole c.role 0, s.stageCheck c, s.powerCheck, s.transCheck]
    [s.readyCheck true 0x7210]
    (fun s =>
      match s.stageId c with
      | some w =>
        let es := s.stageOf w
        let s := if es.isEmpty then s else s.arm (.stage w) (1000000 * s.get Obj.configStageTimeout)
        s.commitOrWait c .commit (some w) es b
      | none => s.abort c b (s.denied 0 0))

/-- The Discard service (R167). -/
def State.serveDiscard (s : State) (c : Caller) (b : Bytes) : State :=
  s.gated c b [s.invalidCheck, s.needRole c.role 0, s.stageCheck c, s.powerCheck] [s.readyCheck true 0x7210]
    (fun s =>
      match s.stageId c with
      | some w =>
        let n := (s.stageOf w).length
        ((s.setStage w []).disarm (.stage w)).answer c [0#8, 0#8, byteOf n, 0#8]
      | none => s.abort c b (s.denied 0 0))

/-! ## Block transfers (R226 to R228) -/

/-- A requester's open BlockRead (`false`) or BlockWrite. -/
def State.blockOf (s : State) (w : Bool) (peer : Nat) : Option BlockRun :=
  (if w then s.blockWrites else s.blockReads).find? (fun r => r.peer == peer)

/-- A requester's block transfer replaced, or ended with `none`. -/
def State.setBlock (s : State) (w : Bool) (peer : Nat) (r : Option BlockRun) : State :=
  let put := fun (l : List BlockRun) => l.filter (fun x => x.peer != peer) ++ r.toList
  let s := if w then { s with blockWrites := put s.blockWrites } else { s with blockReads := put s.blockReads }
  if r.isSome then s.arm (.block peer w) (1000 * s.get Obj.fieldBlockTimeout) else s.disarm (.block peer w)

/-- One segment of a BlockRead from its snapshot. -/
def State.sendBlock (s : State) (c : Caller) (r : BlockRun) (max : Nat) : State :=
  let data := (r.data.drop r.next).take max
  let next := r.next + data.length
  let last := decide (r.total ≤ next)
  let flags := (if r.whole then 1 else 0) + (if last then 2 else 0)
  let s := s.setBlock false r.peer (if last then none else some { r with next := next })
  s.answer c ([0#8, 0#8] ++ leBytes 2 r.index ++ [byteOf r.sub, byteOf flags] ++ leBytes 4 r.total ++ leBytes 4 r.next ++ data)

/-- A transfer whose data were discarded by Field.BlockTimeout (Table 6-10). -/
def BlockRun.expired (r : BlockRun) : Bool := r.total == 0

/-- BlockRead past its checks (Table 6-10). -/
def State.blockReadStep (s : State) (c : Caller) (b : Bytes) : State :=
  let index := fieldAt b 0 2
  let sub := fieldAt b 2 1
  let whole := (fieldAt b 3 1).testBit 0
  let offset := fieldAt b 4 4
  let max := fieldAt b 8 2
  let peer := c.dest.peer
  if offset = 0 then
    let s := if whole then s.readIndexEffect index else s.readEffect (objKey index sub)
    let data := if whole then s.wholeIndex c index else s.blockBytes c index sub
    s.sendBlock c ⟨peer, index, sub, whole, 0, data.length, data⟩ max
  else
    match s.blockOf false peer with
    | none => s.abort c b (0x0D, 5)
    | some r =>
      if r.expired then (s.setBlock false peer none).abort c b (0x0E, 2)
      else if r.index = index ∧ r.sub = sub ∧ r.whole = whole ∧ r.next = offset then s.sendBlock c r max
      else s.abort c b (0x0D, 1)

/-- The BlockRead service: the checks of a Read of the object; a whole index needs what its last sub-index needs. -/
def State.serveBlockRead (s : State) (c : Caller) (b : Bytes) : State :=
  let index := fieldAt b 0 2
  let whole := (fieldAt b 3 1).testBit 0
  let max := fieldAt b 8 2
  let sub := if whole then 0 else fieldAt b 2 1
  let roleSub := if whole ∧ index ≠ 0x1800 then 0 else if whole then 2 else fieldAt b 2 1
  let k := objKey index sub
  s.gated c b [s.lifecycleCheck c.dest.via false index roleSub 0 0, s.roleCheck c.role false index roleSub 0, s.powerCheck]
    [s.readyCheck false index,
     if (k = Obj.debugChallenge ∨ (whole ∧ index = Obj.debugChallenge / 256)) ∧ s.sec.entropyFailed then some (conflict 2 3)
     else none,
     if max < 1 then some (4, 0) else if 896 < max then some (4, 1) else none]
    (fun s => s.blockReadStep c b)

/-- Frames that a message of `n` bytes takes. -/
def framesOf (n : Nat) : Nat := max 1 ((n + 59) / 60)

/-- A segment of Update.Data (R188, R189, R228): posted to the image writer, which answers when it has programmed it. -/
def State.updateSegment (s : State) (c : Caller) (b : Bytes) : State :=
  let offset := fieldAt b 4 4
  let data := b.drop 12
  let st := s.get Obj.updateState
  if st ≠ 1 then s.abort c b (conflict 4 st)
  else if offset ≠ s.get Obj.updateReceived then s.abort c b (0x0D, 1)
  else if s.upd.length < offset + data.length then s.abort c b (0x0D, 2)
  else
    let n := framesOf (b.length + if c.dest.session.isSome then 14 else 0)
    let s := s.post .derived 0x08 n (.raw (leBytes 4 offset))
    let s := { s with upd.segments := s.upd.segments ++ [(⟨some c, offset, data, c.deferred⟩ : Seg)] }
    let s := s.set Obj.updateReceived (offset + data.length)
    if c.deferred then s else s.arm (.defer c.dest.peer c.dest.tid) 10000

/-- The request of a plain Write with a value, as its message spells it. -/
def writeBody (index sub : Nat) (value : Bytes) : Bytes :=
  leBytes 2 index ++ [byteOf sub, byteOf (typeCodeOf index sub)] ++ value

/-- A BlockWrite segment that continues or begins a transfer: held, or the whole value applied (Table 6-10). -/
def State.blockHold (s : State) (c : Caller) (b : Bytes) (held : Bytes) : State :=
  let index := fieldAt b 0 2
  let sub := fieldAt b 2 1
  let final := (fieldAt b 3 1).testBit 0
  let total := fieldAt b 8 4
  let data := held ++ b.drop 12
  let peer := c.dest.peer
  if total < data.length then (s.setBlock true peer none).abort c b (0x0D, 2)
  else if final ∧ data.length < total then (s.setBlock true peer none).abort c b (0x0D, 6)
  else if final then (s.setBlock true peer none).serveWrite { c with aux := total } (writeBody index sub data)
  else
    (s.setBlock true peer (some ⟨peer, index, sub, false, data.length, total, data⟩)).answer c
      (writeReply index sub ++ leBytes 4 data.length)

/-- BlockWrite past its checks (Table 6-10). -/
def State.blockWriteStep (s : State) (c : Caller) (b : Bytes) : State :=
  let index := fieldAt b 0 2
  let sub := fieldAt b 2 1
  let offset := fieldAt b 4 4
  let total := fieldAt b 8 4
  let peer := c.dest.peer
  match s.blockOf true peer with
  | some r =>
    if r.expired then
      let s := s.setBlock true peer none
      if offset = 0 ∧ total ≤ 2048 then s.blockHold c b [] else s.abort c b (0x0E, 2)
    else if r.index ≠ index ∨ r.sub ≠ sub ∨ r.next ≠ offset then s.abort c b (0x0D, 1)
    else if r.total ≠ total then (s.setBlock true peer none).abort c b (0x0D, 7)
    else s.blockHold c b r.data
  | none =>
    if offset ≠ 0 then s.abort c b (0x0D, 5)
    else if 2048 < total then s.abort c b (3, typeCodeOf index sub)
    else s.blockHold c b []

/-- Steps 8, 9 and 12 of Table 5-4 for a segment of a value that is not whole yet: its object can be written, has the
announced length, and stands in no other stage (R159). -/
def State.segmentCheck (s : State) (c : Caller) (index sub total : Nat) : Option Abort :=
  let k := objKey index sub
  match findObj index sub with
  | none => some (5, 0)
  | some d =>
    if d.acc = .ro ∨ (k = Obj.lifecycleRemoteServiceAllowed ∧ 2 ≤ s.lifecycle) then s.valueCheck d k d.ty.code total 0
    else if total ≠ d.size ∧ (d.alt = 0 ∨ total ≠ d.alt) then some (3, d.ty.code)
    else s.heldCheck c [(k, 0)]

/-- The BlockWrite service: the checks of a Write of the object at every segment. -/
def State.serveBlockWrite (s : State) (c : Caller) (b : Bytes) : State :=
  let index := fieldAt b 0 2
  let sub := fieldAt b 2 1
  let data := b.drop 12
  let v := leNat data
  s.gated c b [s.lifecycleCheck c.dest.via true index sub v (fieldAt b 8 4), s.roleCheck c.role true index sub v,
      s.powerCheck, s.transCheck]
    [s.readyCheck true index, if 896 < data.length then some (0x0D, 4) else none,
     if objKey index sub = Obj.updateData then none else s.segmentCheck c index sub (fieldAt b 8 4)]
    (fun s => if objKey index sub = Obj.updateData then s.updateSegment c b else s.blockWriteStep c b)

/-! ## TimeSet (R233) -/

/-- Field.TimeAnchor of a TimeSet: the UTC time paired with the operating seconds. -/
def State.anchorBytes (s : State) (b : Bytes) (role : Option Nat) (src : Nat) : Bytes :=
  sliceBytes b 0 12 ++ leBytes 4 s.opSeconds ++ [byteOf (fieldAt b 12 1), if role.any (fun r => decide (1 ≤ r)) then 1#8 else 0#8]
    ++ leBytes 2 src ++ [0#8, 0#8, 0#8, 0#8]

/-- The anchor and its record. -/
def State.setAnchor (s : State) (c : Caller) (b : Bytes) : State :=
  let a := s.anchorBytes b c.role c.dest.peer
  (s.set Obj.fieldTimeAnchor (leNat a)).log .vintner 0x8201 0 31 (a.take 16)

/-- What is wrong with a TimeSet (Table 6-9). -/
def timeFault (b : Bytes) : Option Abort :=
  if 999999 < fieldAt b 8 4 then some (4, 1) else if 2 < fieldAt b 12 1 then some (4, 2) else none

/-- The unicast TimeSet service; only a head-end's counts. -/
def State.serveTimeSet (s : State) (c : Caller) (b : Bytes) : State :=
  if c.dest.peer < 256 then s
  else
    s.gated c b [s.invalidCheck, s.powerCheck] [timeFault b]
      (fun s => (s.setAnchor c b).answer c ([0#8, 0#8] ++ leBytes 4 s.opSeconds))

/-- A broadcast TimeSet, which has no reply. -/
def State.takeTimeSet (s : State) (c : Caller) (b : Bytes) : State :=
  if c.dest.peer < 256 ∨ s.lifecycle = 4 ∨ !s.running ∨ (timeFault b).isSome then s else (s.activity).setAnchor c b

/-! ## Assign (R237) -/

/-- Steps 10 to 12 of an Assign: field ranges, the takeover of a twin pair, and stages of others. -/
def State.assignFault (s : State) (c : Caller) (es : List (Nat × Nat)) : Option Abort :=
  firstAbort (es.map (fun e =>
    match objOf e.1 with
    | some d => (rangeDetail d e.2 d.size).map (fun x => (4, x))
    | none => none) ++
    [if s.twin.takeover.isSome then some (conflict 5 (s.get Obj.twinRole)) else none, s.heldCheck c es])

/-- The Assign message: one plain Write of three objects by the unit that it names. -/
def State.serveAssign (s : State) (c : Caller) (b : Bytes) : State :=
  let new := fieldAt b 2 2
  let es := [(Obj.fieldNodeAddress, new), (Obj.fieldSegmentA, fieldAt b 12 1), (Obj.fieldSegmentB, fieldAt b 13 1)]
  let need := if s.field.effective = 0xFFFF then none else s.needRole c.role 2
  let range : Option Abort := if 255 < new then some (4, 1) else none
  if sliceBytes b 4 8 ≠ s.serial then s
  else
    s.gated c b [s.invalidCheck, need, s.powerCheck, s.transCheck]
      [s.readyCheck true 0x1100, range, s.assignFault c es]
      (fun s => s.commitOrWait c (.assign new) none es b)

/-! ## BridgeControl (R247) -/

/-- The GetStatus reply (Table 6-15). -/
def State.bridgeStatus (s : State) : Bytes :=
  let on := s.get Obj.bridgeEnable == 1
  let withheld := on && s.get Obj.bridgeFollowTwin == 1 && s.twin.enabled && s.get Obj.twinRole != 1
  [byteOf (maskOf [(0, s.forwarding), (1, on), (2, withheld)]), byteOf (s.get (Obj.portState 0)), byteOf (s.get (Obj.portState 1))]
    ++ leBytes 4 (s.get (Obj.portForwarded 1)) ++ leBytes 4 (s.get (Obj.portForwarded 0))
    ++ leBytes 4 (satBytes 4 (s.get (Obj.portForwardDropped 0) + s.get (Obj.portForwardDropped 1)))

/-- What is wrong with a SetRoutes (R240, Table 6-15). -/
def routesFault (start count : Nat) (codes : Bytes) : Option Abort :=
  if start % 4 ≠ 0 ∨ (4 ≤ count ∧ count ≤ 512 ∧ count % 4 ≠ 0) then some (4, 2)
  else if count < 4 then some (4, 0)
  else if 512 < count ∨ 512 < start + count then some (4, 1)
  else (fieldRange .bridgeRoute codes).map (fun d => (4, d))

/-- Bridge.Route with codes put from an address on. -/
def State.routesWith (s : State) (start : Nat) (codes : Bytes) : Nat :=
  let old := s.bytesOf Obj.bridgeRoute
  leNat (old.take (start / 4) ++ codes ++ old.drop (start / 4 + codes.length))

/-- The BridgeControl service. -/
def State.serveBridge (s : State) (c : Caller) (b : Bytes) : State :=
  let sub := fieldAt b 0 1
  let reply := [0#8, 0#8, byteOf sub, 0#8]
  let set := fun (fault : Option Abort) (e : Nat × Nat) =>
    s.gated c b [s.invalidCheck, s.needRole c.role 2, s.powerCheck, s.transCheck]
      [s.readyCheck true 0x1120, fault, s.heldCheck c [e]]
      (fun s => s.commitOrWait c (.bridge sub) none [e] b)
  if sub = 2 then
    let codes := b.drop 6
    set (routesFault (fieldAt b 2 2) (fieldAt b 4 2) codes) (Obj.bridgeRoute, s.routesWith (fieldAt b 2 2) codes)
  else if sub = 3 then
    set (if 1 < fieldAt b 2 1 then some (4, 2) else none) (Obj.bridgeEnable, fieldAt b 2 1)
  else
    s.gated c b [s.invalidCheck, s.needRole c.role 0, s.powerCheck]
      [s.readyCheck false 0x1120, if sub = 1 ∨ sub = 4 then none else some (4, 2)]
      (fun s => s.answer c (reply ++ if sub = 1 then s.bridgeStatus else [byteOf c.aux]))

/-! ## Sessions (Table 4-6) -/

/-- The Session service: SessionOpen and SessionConfirm. -/
def State.serveSession (s : State) (c : Caller) (b : Bytes) : State :=
  let kind := fieldAt b 0 1
  if kind = 1 then
    s.sessionOpen c b (fieldAt b 4 1) (fieldAt b 5 1) (fieldAt b 6 2) (fieldAt b 8 16)
  else if kind = 3 then
    if s.running ∧ s.power.corkReady ∧ !s.sec.halted.contains .cork then
      s.sessionConfirm c (fieldAt b 4 2) (fieldAt b 8 16)
    else s
  else s.abort c b (4, 2)

/-! ## Every service -/

/-- The service of an accepted request (Table 6-8). -/
def State.act (s : State) (c : Caller) (b : Bytes) : State :=
  match c.dest.svc with
  | 0 => s.serveRead c b
  | 1 => s.serveWrite c b
  | 2 => s.serveStaged c b
  | 3 => s.serveCommit c b
  | 4 => s.serveDiscard c b
  | 5 => s.serveBlockRead c b
  | 6 => s.serveBlockWrite c b
  | 9 => s.serveTimeSet c b
  | 10 => s.serveAssign c b
  | 11 => s.serveBridge c b
  | 12 => s.serveSession c b
  | _ => s

/-- A request that has waited behind a commit, served; a BlockWrite that waits holds its whole value as a plain Write. -/
def State.serveLater (s : State) (h : Held) : State :=
  s.handle (fun s =>
    (if h.caller.dest.svc = 6 then s.serveWrite h.caller h.body else s.act h.caller h.body).endSpent)

/-- The requests for a transition that waited for a commit (R192) are decided anew, oldest first. -/
def State.serveDeferredPower (s : State) : State :=
  s.eng.deferredPower.foldl State.serveLater { s with eng.deferredPower := [] }

/-- A ServiceTimeout that has waited for a commit ends SERVICE (R192, log entry 121). -/
def State.serviceDue (s : State) : State :=
  match s.deadline .serviceTimeout with
  | some d => if d ≤ s.now then (s.disarm .serviceTimeout).serviceOver else s
  | none => s

/-- With the commit engine idle, what waited for it goes on (R171, R192): the transitions first. -/
def State.serveWaiting (s : State) : State :=
  if s.eng.commit.isSome then s
  else
    let s := (s.serveDeferredPower).serviceDue
    match s.eng.waiting with
    | none => s
    | some h => ({ s with eng.waiting := none } : State).serveLater h

end Sys2Proof.Machine
end

