-- ==== Sys2Proof/Machine/Arrive.lean ====
section
/-!
DEFINITION. How a request reaches its service: retransmissions (R218), refusal (R287, R299 to R302), requests held for a
queue credit (R289, R303 to R306), and the integrity of a protected group (R123 to R125, R142, R145).
-/

namespace Sys2Proof.Machine

open Sys2Proof

/-! ## Step 3: integrity -/

/-- The unit's address as a group names it (R124, R234, R263). -/
def State.ownAddress (s : State) (via : Via) : Nat :=
  if via = .host then 0xFFFF else if s.field.effective = 0xFFFF then 511 else s.field.effective

/-- A group that fails under R125: the eighth in a row ends its session (R145). -/
def State.groupFails (s : State) (x : Session) : State :=
  let s := s.setSession { x with fails := x.fails + 1 }
  if 8 ≤ x.fails + 1 then (s.faultRow Obj.securitySticky 5 .cork 0x0606 1 31 []).endSession x.slot else s

/-- The role that a request needs (Tables 4-4 and 6-8), 0 where it needs none. -/
def State.requestRole (s : State) (svc : Nat) (b : Bytes) : Nat :=
  let index := fieldAt b 0 2
  let sub := fieldAt b 2 1
  let need := match svc with
    | 0 | 5 => s.neededRole false index sub 0
    | 1 | 2 => s.neededRole true index sub (leNat (b.drop 4))
    | 6 => s.neededRole true index sub (leNat (b.drop 12))
    | 10 => some 2
    | 11 => if fieldAt b 0 1 = 2 ∨ fieldAt b 0 1 = 3 then some 2 else some 0
    | _ => none
  need.getD 0

/-- A protected group at the Cork (R123 to R125, R142): unknown or ended session, tag, counter; then its service. A group
of an ended session has none, whatever role it needs (Table 4-13). -/
def State.authenticate (s : State) (c : Caller) (sid : Nat) (msg body : Bytes) : State :=
  match s.sec.sessions.find? (fun x => x.isOpen && x.sid == sid && x.peer == c.dest.peer && x.via == c.dest.via) with
  | none => s.abort c body (if s.sec.ended.contains sid then s.denied (s.requestRole c.dest.svc body) 0 else (0x0B, 2))
  | some x =>
    let n := body.length
    let ctr := fieldAt msg (n + 2) 4
    let tag := groupTag x.key (tagInput 0 sid ctr c.dest.peer (s.ownAddress c.dest.via) body)
    if tag.toNat ≠ fieldAt msg (n + 6) 8 then (s.groupFails x).abort c body (0x0B, 0)
    else if ctr ≤ x.ctrIn then (s.groupFails x).abort c body (0x0B, 1)
    else
      let s := s.setSession { x with ctrIn := ctr, fails := 0 }
      let s := s.arm (.sessionIdle x.slot) (1000000 * s.get Obj.sessionIdleTimeout)
      s.act { c with role := some x.role, slot := some (Fin.ofNat 8 x.slot), dest := { c.dest with session := some sid } } body

/-- A request taken out of its intake queue (R159): what the Vintner finds first, then the Cork's checks. -/
def State.serve (s : State) (c : Caller) (claimed : Option Nat) (msg : Bytes) : State :=
  match claimed with
  | none =>
    match earlyAbort c.dest.svc msg with
    | some a => s.abort c msg a
    | none => s.act c msg
  | some sid =>
    let body := msg.take (msg.length - 14)
    if msg.length < 14 then s.abort c msg (0x0D, 4)
    else
      match earlyAbort c.dest.svc body with
      | some a => s.abort c body a
      | none => (s.authenticate c sid msg body).endSpent

/-! ## Credits (R289) and held requests (R303 to R306) -/

/-- Derived posts that wait. -/
def State.derivedWaits (s : State) : Nat := (s.q.waits.filter (fun w => w.kind == .derived)).length

/-- Whether a message is a segment of Update.Data. -/
def isUpdateSegment (svc : Nat) (msg : Bytes) : Bool :=
  svc == 6 && objKey (fieldAt msg 0 2) (fieldAt msg 2 1) == Obj.updateData

/-- The queues that a request passes on its way (R12, R13, Tables 8-2 and 8-3): to the Cork for its checks, to the owning
core that applies it, and back to the Vintner with the reply. -/
def requestChain (svc : Nat) (body : Bytes) : List Nat :=
  if (earlyAbort svc body).isSome then []
  else
    let owner := ownerOf (fieldAt body 0 2)
    let access := svc ≤ 2 ∨ svc = 5 ∨ svc = 6
    if svc = 12 then [0x4B, 0x83]
    else if access ∧ owner = 0 then [0x4B, 0x4C, 0x80]
    else if access ∧ owner = 1 then [0x4B, 0x4D, 0x81]
    else if access ∧ owner = 3 then [0x4B, 0x82]
    else [0x4B, 0x4E]

/-- The first queue of a request's chain at which other messages stand before it. -/
def State.blocker (s : State) (svc : Nat) (body : Bytes) : Option Nat :=
  (requestChain svc body).find? (fun q => (s.headOf q).isSome)

/-- The queue that a request names when it has waited too long for one of its chain (R300, R304). -/
def namedQueue (q : Nat) : Nat := if qCanRefuse q then q else 0x4B

/-- A request served, or the queue whose credit it lacks (R289, R304): 0x08 for a segment of Update.Data, a queue of its
chain where other messages stand before it, and 0x4B where what it posts finds no credit. -/
def State.tryServe (s : State) (c : Caller) (claimed : Option Nat) (msg : Bytes) : Except Nat State :=
  let body := if claimed.isSome then msg.take (msg.length - 14) else msg
  if isUpdateSegment c.dest.svc msg ∧ s.get Obj.updateState = 1 ∧ s.credits 0x08 < framesOf msg.length then .error 0x08
  else
    match s.blocker c.dest.svc body with
    | some q => .error (namedQueue q)
    | none =>
      let s := (requestChain c.dest.svc body).foldl (fun (s : State) q => s.pass q 1) s
      let t := s.handle (fun s => s.serve c claimed msg)
      if s.derivedWaits < t.derivedWaits then .error 0x4B else .ok t

/-- A request held in its intake queue, its deferral threshold running (R303). -/
def State.hold (s : State) (c : Caller) (claimed : Option Nat) (msg : Bytes) (lacks : Nat) : State :=
  let h : Held := ⟨c, claimed, msg, lacks, s.now, false⟩
  let q := intakeQueue c.dest.via c.dest.svc
  let s := s.place ⟨q, framesOf msg.length, false, 1, s.now, h.mark⟩
  ({ s with eng.held := s.eng.held ++ [h] }).arm (.defer c.dest.peer c.dest.tid) 10000

/-- The intake queue of a held request. -/
def Held.queue (h : Held) : Nat := intakeQueue h.caller.dest.via h.caller.dest.svc

/-- Whether two held requests keep their order: they stand in one queue, or come from one requester (R217). -/
def Held.after (h x : Held) : Bool := x.queue == h.queue || x.caller.dest.peer == h.caller.dest.peer

/-- The held requests that stand behind no other: the heads of their queues, the earliest of their requesters (R217). -/
def headsOf : List Held → List Held
  | [] => []
  | h :: rest => h :: (headsOf rest).filter (fun x => !h.after x)

/-- The consumer of a queue: 0 Cellarmaster, 1 Press, 2 Vintner, 3 Cork, 4 and 5 the transmitters of ports A and B, 6 the
mailbox reply buffer, 7 the Jensiac transmitter, 8 the image writer, and a controller each for 0xD0 to 0xD3
(Table 8-2). -/
def consumerOf (q : Nat) : Nat :=
  if 0xE0 ≤ q ∨ q = 0x4C then 0
  else if (0xD0 ≤ q ∧ q ≤ 0xD3) then q
  else if (0xC0 ≤ q ∧ q < 0xE0) ∨ q = 0xBD ∨ q = 0x4D then 1
  else if q = 0x4B then 3
  else if q = 0x86 ∨ q = 0x05 then 6
  else if q = 0xB8 ∨ q = 0xBA then 7
  else if q = 0x08 then 8
  else if [0x84, 0x1A, 0x03, 0x88, 0x51, 0x1D, 0x07].contains q then 4
  else if [0x85, 0x1B, 0x04, 0x87, 0x50, 0x1C, 0x06].contains q then 5
  else 2

/-- The queues of a consumer in which a message other than a held request stands. -/
def State.served (s : State) (c : Nat) : List Nat :=
  (List.range 256).filter (fun q =>
    consumerOf q == c && (s.headOf q).isSome && !s.eng.held.any (fun h => h.queue == q))

/-- Whether the Vintner has a message in a queue of a lower class code than a queue's (R292). -/
def State.earlierClass (s : State) (q : Nat) : Bool := (s.served 2).any (fun x => decide (qClass x < qClass q))

/-- A service noted (R292): the turn of its class, and the queues passed over, held requests among them. -/
def State.noteServed (s : State) (c q : Nat) : State :=
  let held := if c = 2 then ((headsOf s.eng.held).map Held.queue).eraseDups else []
  let others := (s.served c ++ held).filter (fun x => x != q && qClass x != 0)
  let passed := others.foldl (fun l x => putKey l x (lookupD l x 0 + 1) 0) s.q.passed
  { s with q.passed := dropKey passed q, q.turns := putKey s.q.turns (8 * c + qClass q) q 256 }

/-- The queue that a consumer served last in a class. -/
def State.lastServed (s : State) (c cls : Nat) : Option Nat :=
  (s.q.turns.find? (fun p => p.1 == 8 * c + cls)).map (fun p => p.2)

/-- The order in which held requests are tried (R292): a queue passed over 256 times first, then by class code, and in turn
within a class. -/
def State.servedBefore (s : State) (x y : Held) : Bool :=
  let key := fun (h : Held) =>
    let q := h.queue
    let turn := match s.lastServed 2 (qClass q) with
      | some l => if l < q then q else 256 + q
      | none => q
    (if 256 ≤ lookupD s.q.passed q 0 then 0 else 1 + qClass q) * 1024 + turn
  decide (key x ≤ key y)

/-- Held requests put in order. -/
def State.insertHeld (s : State) (h : Held) : List Held → List Held
  | [] => [h]
  | x :: xs => if s.servedBefore h x then h :: x :: xs else x :: s.insertHeld h xs

/-- The first held request that can be served now, served (R289, R292): none while a message of a lower class code waits,
unless its queue has been passed over 256 times. -/
def State.serveOne (s : State) : Option State :=
  ((headsOf s.eng.held).foldr s.insertHeld []).findSome? (fun h =>
    if s.earlierClass h.queue && decide (lookupD s.q.passed h.queue 0 < 256) then none
    else
      let t := (s.noteServed 2 h.queue).unqueue h
      let t : State := { t with eng.held := t.eng.held.erase h }
      let t := (t.disarm (.defer h.caller.dest.peer h.caller.dest.tid)).disarm (.deferLimit h.caller.dest.peer h.caller.dest.tid)
      match t.tryServe { h.caller with deferred := h.answered } h.claimed h.body with
      | .ok u => some u
      | .error _ => none)

/-- Held requests served while credits allow. -/
def State.serveHeldN : Nat → State → State
  | 0, s => s
  | n + 1, s =>
    match s.serveOne with
    | some t => State.serveHeldN n t
    | none => s

/-- Held requests served in order, after credits have freed (R291). -/
def State.serveHeld (s : State) : State := State.serveHeldN s.eng.held.length s

/-! ## Refusals (R287, R299 to R302) -/

/-- A port's engine. -/
def State.portEng (s : State) (p : Port) : PortEngine :=
  match p with
  | .a => s.field.portA
  | .b => s.field.portB

/-- A port's engine replaced. -/
def State.setPortEng (s : State) (p : Port) (e : PortEngine) : State :=
  match p with
  | .a => { s with field.portA := e }
  | .b => { s with field.portB := e }

/-- A refusal withdrawn unsent (R301). -/
def State.refusalGone (s : State) : State := (s.bump Obj.queueRefusalExpiredCount 1).flag Obj.queueSticky 3

/-- A frame into a port's refusal FIFO (R301): the oldest of eight gives way. -/
def State.pushRefusal (s : State) (p : Port) (f : CanFrame) : State :=
  let e := s.portEng p
  let full := decide (8 ≤ e.refusals.length)
  let kept := if full then e.refusals.drop 1 else e.refusals
  let s := s.setPortEng p { e with refusals := kept ++ [⟨f, s.now⟩] }
  let s := if full then s.refusalGone else s
  if s.armed (.refusal p) then s else s.arm (.refusal p) 20000

/-- Queue.LastRefusal (Table 8-8). -/
def State.noteRefusal (s : State) (q : Nat) (late : Bool) (peer : Nat) : State :=
  s.set Obj.queueLastRefusal (leNat ([byteOf q, if late then 1#8 else 0#8] ++ leBytes 2 peer ++ leBytes 4 s.opSeconds))

/-- The bookkeeping of a refusal at a queue (R299, R310): counts, Queue.LastRefusal, and the first one recorded. -/
def State.countRefusal (s : State) (q peer : Nat) : State :=
  let s := { s with q.drops := putKey s.q.drops q (satBytes 4 (lookupD s.q.drops q 0 + 1)) 0 }
  let s := (s.bump Obj.queueRefusedCount 1).noteRefusal q false peer
  s.flagFirst Obj.queueSticky 0 (fun s => s.log .vintner 0x0D01 1 31 [])

/-- The refusal of a request (R299): abort 0x09 with the queue, in the name of `own`. -/
def State.refuse (s : State) (p : Port) (prio svc own peer tid q : Nat) (req : Bytes) : State :=
  let fs := groupFrames (mkIdent prio false (0x10 + svc) own peer) tid false false (abortBody svc req (9, q))
  fs.foldl (fun (s : State) f => s.pushRefusal p f) (s.countRefusal q peer)

/-! ## Retransmissions (R218) -/

/-- The memory with a new group: 4 Tids of each of the last 32 sources. -/
def State.rememberGroup (s : State) (src tid : Nat) (raw : Bytes) : State :=
  let mine := (s.field.retx.filter (fun r => r.src == src && r.tid != tid)).take 3
  let others := s.field.retx.filter (fun r => r.src != src)
  let sources := ((others.map (fun r => r.src)).eraseDups).take 31
  let e : Retx := ⟨src, tid, raw, [], s.now⟩
  { s with field.retx := e :: mine ++ others.filter (fun r => sources.contains r.src) }

/-- The remembered group that a group repeats byte for byte within 5 s. -/
def State.repeated (s : State) (src tid : Nat) (raw : Bytes) : Option Retx :=
  s.field.retx.find? (fun r => r.src == src && r.tid == tid && r.raw == raw && decide (s.now ≤ r.at_ + 5000000))

/-- The stored reply sent again (R218, R306). -/
def State.repeatReply (s : State) (p : Port) (r : Retx) : State :=
  match r.replies with
  | [] => s
  | f :: _ => s.sendFrames .derived p f.1 (r.replies.map (fun x => x.2))

/-! ## Arrival -/

/-- A field port that takes part in the bus: error active or error passive, with the cells of bank A working (R35). -/
def State.portUp (s : State) (p : Port) : Bool := s.bankA && (s.portState p == 3 || s.portState p == 4)

/-- The port of an entrance. -/
def viaPort : Via → Port
  | .portB => .b
  | _ => .a

/-- The priority that a service's requests carry (Table 6-5). -/
def prioOk (svc prio : Nat) : Bool :=
  if svc = 9 ∨ svc = 10 ∨ svc = 12 then prio == 2
  else if svc = 5 ∨ svc = 6 then prio == 7
  else decide (4 ≤ prio ∧ prio ≤ 6)

/-- A whole request in its intake queue: served now, or held behind others of its queue or requester (R217), behind a
message of a lower class code (R292), or for a credit (R289). -/
def State.takeIn (s : State) (c : Caller) (claimed : Option Nat) (msg : Bytes) : State :=
  let q := intakeQueue c.dest.via c.dest.svc
  let s := s.pass q (framesOf msg.length)
  match s.eng.held.find? (fun h => h.queue == q || h.caller.dest.peer == c.dest.peer) with
  | some h => s.hold c claimed msg h.lacks
  | none =>
    if s.earlierClass q then s.hold c claimed msg q
    else
      match (s.noteServed 2 q).tryServe c claimed msg with
      | .ok t => t
      | .error n => s.hold c claimed msg n

/-- A whole request from a field port (R218, R234, R287): a retransmission, a refusal, or the request itself. While the
Vintner is in reset dictionary writes are refused in its name and nothing else is served (R25, log entry 126). -/
def State.portRequest (s : State) (c : Caller) (claimed : Option Nat) (msg raw : Bytes) : State :=
  let d := c.dest
  let p := viaPort d.via
  if s.vintnerDown ∧ ([1, 2, 3, 4, 6].contains d.svc) then s.abort c msg (conflict 2 2)
  else if !s.vintServes then s
  else if s.field.effective = 0xFFFF ∧ d.svc ≠ 10 ∧ d.svc ≠ 11 then s
  else
    match s.repeated d.peer d.tid raw with
    | some r => s.repeatReply p r
    | none =>
      let q := intakeQueue d.via d.svc
      if s.credits q < framesOf msg.length then s.refuse p d.prio d.svc (s.ownAddress d.via) d.peer d.tid q msg
      else (s.rememberGroup d.peer d.tid raw).takeIn c claimed msg

/-- The sender of a request before its checks. -/
def callerOf (r : ReqCtx) (svc aux : Nat) : Caller :=
  ⟨none, none, aux, false, ⟨r.via, reqPeer r, 0xFFFF, r.prio.toNat, r.tid.toNat, svc, none⟩⟩

/-- A message with the session trailer of its sender (Table 4-7). -/
def reqMessage (r : ReqCtx) (body : Bytes) : Bytes :=
  match r.trailer with
  | none => body
  | some t => body ++ leBytes 2 t.sid.toNat ++ leBytes 4 t.counter.toNat ++ leBytes 8 t.tag.toNat

/-- The SessionId that a request claims. -/
def reqClaimed (r : ReqCtx) : Option Nat := r.trailer.map (fun t => t.sid.toNat)

/-- A request through the mailbox (R263): services that the host port does not take end with abort 0x07, reason 5. -/
def State.hostRequest (s : State) (c : Caller) (claimed : Option Nat) (msg : Bytes) : State :=
  if 7 ≤ c.dest.svc ∧ c.dest.svc ≤ 11 ∨ 13 ≤ c.dest.svc then s.abort c msg (s.denied 0 5)
  else s.takeIn c claimed msg

end Sys2Proof.Machine
end

