-- ==== Sys2Proof/WellFormed.lean ====
section
/-!
DEFINITION. The commands that the block's pins and ports can deliver: the operand checks of a well-formed command.
An ill-formed term (a byte string longer than any group or frame) stands for nothing the hardware can receive; no meaning
tests it, and what a meaning then reads is log entry 107.
-/

namespace Sys2Proof

/-- A port request comes from a node address below 512 and a host request from 0xFFFF (Table 6-3, R263). -/
def ReqCtx.wf (r : ReqCtx) : Bool :=
  match r.via with
  | .host => r.src == 0xFFFF#16
  | _ => decide (r.src.toNat < 512)

/-- A frame carries at most 64 bytes (Table 6-1). -/
def CanFrame.wf (f : CanFrame) : Bool := decide (f.data.length ≤ 64)

/-- A value or a segment, of whatever size, travels in a group of at most 960 bytes (R251). -/
def valueWf (v : Bytes) : Bool := decide (v.length ≤ 960)

/-- The operand checks of one command. -/
def Instr.wf : Instr → Bool
  | .requestDormant r | .requestStandby r | .requestActive r | .requestService r | .requestRestart r
  | .revokeSlot0 r | .lifecycleConfirm r _ | .lifecycleRequest r _ | .sessionConfirm r _ _
  | .debugRequest r _ | .debugChallengeRead r | .read r _ _ | .commit r | .discard r
  | .stickyClear r _ _ _ | .stickyClearAll r | .restoreDefaults r | .updateBegin r _ | .updateVerify r
  | .updateActivate r | .updateAbort r | .blockRead r _ _ _ _ _ | .getStatus r | .setForwarding r _ | .ping r _
  | .timeSet r _ _ _ _ | .assign r _ _ _ _ | .sessionOpen r _ _ _ _
  | .clearHighWater r | .syncNow r | .runInit r | .commandedShutdown r | .clearLockout r | .sealClear r
  | .clearLatch r | .marginHigh r _ | .marginLow r _ | .marginNominal r _ | .tiuArm r | .tiuCancel r
  | .lidRebaseline r | .caskClear r | .handover r => r.wf
  | .roleKeyWrite r _ key => r.wf && valueWf key
  | .debugToken r t => r.wf && valueWf t
  | .write r _ _ _ v | .stagedWrite r _ _ _ v => r.wf && valueWf v
  | .updateData r _ _ d | .blockWrite r _ _ _ _ _ d => r.wf && valueWf d
  | .setRoutes r _ _ codes => r.wf && valueWf codes
  | .obvarFrameReceive _ f => f.wf
  | .queuePost _ b _ => decide (b.length ≤ 64)
  | .imageChunkReceive _ _ _ d => decide (d.length ≤ 256)
  | .twinHeartbeatReceive _ d => decide (d.length ≤ 64)
  | .locateQuery _ q => decide (q.maskBits ≤ 64)
  | _ => true

end Sys2Proof
end

