-- ==== Sys2Proof/Machine/Field.lean ====
section
/-!
DEFINITION. The field ports (ch. 06): reception, groups, bridging, heartbeats, Locate, transmission and the port faults.
-/

namespace Sys2Proof.Machine

open Sys2Proof

/-! ## The fields of a frame (Tables 6-3, 6-6 and 6-7) -/

/-- Priority. -/
def framePrio (i : BitVec 29) : Nat := i.toNat / 2 ^ 26

/-- Broadcast. -/
def frameBcast (i : BitVec 29) : Bool := i.toNat.testBit 25

/-- Function. -/
def frameFunc (i : BitVec 29) : Nat := i.toNat / 2 ^ 20 % 32

/-- Service code. -/
def frameSvc (i : BitVec 29) : Nat := frameFunc i % 16

/-- Source. -/
def frameSrc (i : BitVec 29) : Nat := i.toNat / 2 ^ 11 % 512

/-- Destination, or scope. -/
def frameDst (i : BitVec 29) : Nat := i.toNat / 4 % 512

/-- Whether an identifier is that of a request: neither a reply nor a Heartbeat or Notify. -/
def frameRequest (i : BitVec 29) : Bool := decide (frameFunc i < 16) && frameFunc i != 7 && frameFunc i != 8

/-- A byte of the frame header. -/
def frameByte (f : CanFrame) (n : Nat) : Nat := fieldAt f.data n 1

/-- The First flag of the control byte. -/
def frameFirst (f : CanFrame) : Bool := (frameByte f 1).testBit 7

/-- The service bytes of a frame. -/
def frameBytes (f : CanFrame) : Bytes := sliceBytes f.data 4 (frameByte f 3)

/-- Whether Length is within 60 and the payload less 4 (R212). -/
def frameLengthOk (f : CanFrame) : Bool := decide (frameByte f 3 ≤ 60 ∧ frameByte f 3 + 4 ≤ f.data.length)

/-! ## Counting -/

/-- The other port. -/
def otherPort : Port → Port
  | .a => .b
  | .b => .a

/-- The entrance that a port is. -/
def portVia : Port → Via
  | .a => .portA
  | .b => .portB

/-- A frame ignored and counted in Port.RxDiscarded. -/
def State.rxDiscard (s : State) (p : Port) : State := s.bump (Obj.portRxDiscarded (portNum p)) 1

/-- A drop counted against a queue (R307). -/
def State.countDrop (s : State) (q : Nat) : State :=
  { s with q.drops := putKey s.q.drops q (satBytes 4 (lookupD s.q.drops q 0 + 1)) 0 }

/-- Whether the unit has no address (R234). -/
def State.unassigned (s : State) : Bool := s.field.effective == 0xFFFF

/-! ## Presence (R230) and conflicts (R238) -/

/-- A Heartbeat heard from a node (R230). -/
def State.heard (s : State) (src : Nat) : State :=
  (s.set Obj.fieldNodePresent (setBit (s.get Obj.fieldNodePresent) src)).arm (.offline src)
    (1000 * s.get Obj.fieldOfflineTime)

/-- The unit's own address seen as Source (R238): it withdraws. The record is committed first, so that the Notify names its
slot (R232, log entry 124). -/
def State.addressConflict (s : State) : State :=
  let stored := leBytes 2 (s.get Obj.fieldNodeAddress)
  let s := s.faultRow Obj.fieldSticky 4 .vintner 0x0C03 1 31 []
  let s := State.drainLogs s.logCount s
  let s := s.notify 8 (s.slotOfCode 0x0C03) stored
  (({ s with field.effective := 0xFFFF }).disarm (.heartbeat .a)).disarm (.heartbeat .b)

/-! ## Locate (R235, R236) -/

/-- Whether the serial number matches a pattern in its first bits, byte 0 first and most significant bit first. -/
def serialMatches (serial pattern : Bytes) (bits : Nat) : Bool :=
  (List.range bits).all (fun i =>
    (fieldAt serial (i / 8) 1).testBit (7 - i % 8) == (fieldAt pattern (i / 8) 1).testBit (7 - i % 8))

/-- The Locate timer set to the reply that is due first. -/
def State.armLocate (s : State) : State :=
  match s.field.locate with
  | [] => s.disarm .locateReply
  | r :: _ => s.arm .locateReply (r.due - s.now)

/-- A Locate reply with a delay drawn from 0 to its window. -/
def State.drawLocate (s : State) (r : LocateRun) : State :=
  let d := s.draw
  let s := d.2
  let r := { r with due := s.now + d.1 % (1000 * r.window + 1) }
  let early := s.field.locate.filter (fun x => decide (x.due ≤ r.due))
  let late := s.field.locate.filter (fun x => !decide (x.due ≤ r.due))
  ({ s with field.locate := early ++ r :: late }).armLocate

/-- A Locate Query (R235). -/
def State.takeQuery (s : State) (p : Port) (requester tid : Nat) (b : Bytes) : State :=
  let bits := fieldAt b 1 1
  let window := fieldAt b 12 2
  if b.length ≠ 16 ∨ 64 < bits ∨ window < 10 ∨ 5000 < window then s
  else if (fieldAt b 2 1).testBit 0 ∧ !s.unassigned then s
  else if serialMatches s.serial (sliceBytes b 4 8) bits then s.drawLocate ⟨0, p, requester, tid, window, 0⟩
  else s

/-- The Query reply (Table 6-13). -/
def State.queryReply (s : State) (requester : Nat) : Bytes :=
  [0#8, 0#8, 1#8, 0#8] ++ leBytes 2 requester ++ s.serial ++ leBytes 2 s.field.effective
    ++ [byteOf (s.get Obj.fieldSegmentA), byteOf (s.get Obj.fieldSegmentB), byteOf s.lifecycle, byteOf (s.get Obj.twinRole)]
    ++ (if s.get Obj.twinEnable = 1 then s.bytesOf Obj.twinPartnerSerial else leBytes 8 0)

/-- The frame that a port has sent last, with the ESI of its error state (Table 6-1). -/
def State.noteSent (s : State) (p : Port) (f : CanFrame) : State :=
  s.setPortEng p { s.portEng p with sent := some { f with esi := s.portState p == 4 } }

/-- The Locate reply of an unassigned unit (R236): from source 511 to the destination that its serial number spells. -/
def State.anonymousReply (s : State) (r : LocateRun) : List CanFrame :=
  let dst := fieldAt s.serial 6 1 % 2 * 256 + fieldAt s.serial 7 1
  groupFrames (mkIdent 2 false 0x1A 511 dst) r.tid false false (s.queryReply r.requester)

/-- A Locate reply whose delay is over (R236): an assigned unit replies as any other; an unassigned one sends a single
shot, up to 8 of them. `acked` says that a single shot was sent and acknowledged. -/
def State.locateDue (s : State) (acked : Bool) : State :=
  match s.field.locate with
  | [] => s
  | r :: rest =>
    let s := { s with field.locate := rest }
    let s :=
      if !s.vintServes then s
      else if !s.unassigned then
        let fs := groupFrames (mkIdent 2 false 0x1A s.field.effective r.requester) r.tid false false
          (s.queryReply r.requester)
        (s.sendFrames .fresh r.port 0x1A fs).remember r.requester r.tid (fs.map (fun f => (0x1A, f)))
      else if acked ∧ s.portUp r.port then
        (s.anonymousReply r).foldl (fun (s : State) f =>
          (s.noteSent r.port f).bump (Obj.portTxFrames (portNum r.port)) 1) s
      else if r.attempts + 1 < 8 then s.drawLocate { r with attempts := r.attempts + 1 }
      else s
    s.armLocate

/-! ## Whole groups -/

/-- A protected group broadcast to a scope (R124): its session, once its tag and counter hold. -/
def State.authBroadcast (s : State) (c : Caller) (sid scope : Nat) (msg body : Bytes) : Caller × State :=
  match s.sec.sessions.find? (fun x => x.isOpen && x.sid == sid && x.peer == c.dest.peer && x.via == c.dest.via) with
  | none => (c, s)
  | some x =>
    let ctr := fieldAt msg (body.length + 2) 4
    let tag := groupTag x.key (tagInput 0 sid ctr c.dest.peer scope body)
    if tag.toNat ≠ fieldAt msg (body.length + 6) 8 ∨ ctr ≤ x.ctrIn then (c, s.groupFails x)
    else
      let s := s.setSession { x with ctrIn := ctr, fails := 0 }
      ({ c with role := some x.role, slot := some (Fin.ofNat 8 x.slot) },
        s.arm (.sessionIdle x.slot) (1000000 * s.get Obj.sessionIdleTimeout))

/-- A broadcast TimeSet (R233); one whose protection fails is discarded. -/
def State.broadcastTime (s : State) (c : Caller) (claimed : Option Nat) (scope : Nat) (msg : Bytes) : State :=
  match claimed with
  | none => if msg.length = 16 then s.takeTimeSet c msg else s
  | some sid =>
    let body := msg.take (msg.length - 14)
    if msg.length ≠ 30 then s
    else
      let r := s.authBroadcast c sid scope msg body
      if r.1.role.isSome then (r.2.takeTimeSet r.1 body).endSpent else r.2.endSpent

/-- A whole group: a request, a broadcast or an Assign to address 511 (R233 to R237). -/
def State.takeGroup (s : State) (p : Port) (i : BitVec 29) (tid hop : Nat) (prot : Bool) (msg raw : Bytes) : State :=
  let svc := frameSvc i
  let c : Caller := ⟨none, none, hop, false, ⟨portVia p, frameSrc i, 0xFFFF, framePrio i, tid, svc, none⟩⟩
  let claimed := if prot then some (fieldAt msg (msg.length - 14) 2) else none
  let mine := sliceBytes msg 4 8 == s.serial
  if frameBcast i ∧ (svc = 9 ∨ (svc = 10 ∧ fieldAt msg 0 1 = 1)) then
    if s.vintnerDown ∨ (svc = 9 ∧ s.unassigned) then s
    else
      match s.repeated (frameSrc i) tid raw with
      | some r => s.repeatReply p r
      | none =>
        let s := s.rememberGroup (frameSrc i) tid raw
        if svc = 9 then s.handle (fun s => s.broadcastTime c claimed (frameDst i) msg)
        else s.takeQuery p (frameSrc i) tid msg
  else if frameBcast i then (if svc = 10 ∧ fieldAt msg 0 1 = 2 ∧ mine then s.portRequest c claimed msg raw else s)
  else if svc = 10 ∧ (!mine ∨ fieldAt msg 0 1 ≠ 2) then s
  else s.portRequest c claimed msg raw

/-! ## Reassembly (R212 to R216, R287, R309, R710) -/

/-- The group in reassembly from a source, on whichever port it came in (R216, R710). -/
def State.groupFrom (s : State) (src : Nat) : Option Reasm :=
  s.field.reasm.find? (fun g => frameSrc g.ident == src)

/-- A group's frames, credits and timer given up. -/
def State.dropGroup (s : State) (g : Reasm) : State :=
  ({ s with field.reasm := s.field.reasm.filter (fun x => frameSrc x.ident != frameSrc g.ident) }).disarm
    (.reassembly g.port (frameSrc g.ident))

/-- Whether a group to address 511 shows a serial number that is not this unit's (R237). -/
def State.otherSerial (s : State) (i : BitVec 29) (body : Bytes) : Bool :=
  frameDst i == 511 && frameSvc i == 10 && !(((body.drop 4).take 8).isPrefixOf s.serial)

/-- What ends a group that its conditions break: an abort when it is a request to this unit (R212); a serial number that is
not the unit's makes it another's. -/
def State.groupAbort (s : State) (p : Port) (i : BitVec 29) (tid : Nat) (body : Bytes) (a : Abort) : State :=
  if frameRequest i ∧ !frameBcast i ∧ !s.otherSerial i body ∧ !s.vintnerDown then
    s.abort ⟨none, none, 0, false, ⟨portVia p, frameSrc i, 0xFFFF, framePrio i, tid, frameSvc i, none⟩⟩ body a
  else s

/-- What a frame without a credit meets: refusal of its request, or a counted drop (R287, R307, R309). -/
def State.groupFull (s : State) (p : Port) (i : BitVec 29) (tid q : Nat) (body : Bytes) : State :=
  if frameRequest i ∧ !frameBcast i then
    s.refuse p (framePrio i) (frameSvc i) (s.ownAddress (portVia p)) (frameSrc i) tid q body
  else s.countDrop q

/-- The bytes by which a retransmission is known. -/
def rawOf (f : CanFrame) : Bytes := leBytes 4 f.ident.toNat ++ f.data

/-- A First frame that opens or is a group. -/
def State.firstFrame (s : State) (p : Port) (f : CanFrame) : State :=
  let i := f.ident
  let src := frameSrc i
  let tid := frameByte f 0
  let ctl := frameByte f 1
  let q := intakeQueue (portVia p) (frameSvc i)
  let body := frameBytes f
  if ctl % 16 ≠ 0 then s.groupAbort p i tid body (0x0D, 3)
  else if !frameLengthOk f then s.groupAbort p i tid body (0x0D, 4)
  else if s.credits q < 1 then s.groupFull p i tid q body
  else if ctl.testBit 6 then s.takeGroup p i tid (frameByte f 2) (ctl.testBit 5) body (rawOf f)
  else
    let g : Reasm := ⟨p, i, tid, 1, ctl.testBit 5, frameByte f 2, body, rawOf f, q, 1⟩
    ({ s with field.reasm := s.field.reasm ++ [g] }).arm (.reassembly p src) (1000 * s.get Obj.fieldReassemblyTimeout)

/-- A frame of a group that is in reassembly. -/
def State.nextFrame (s : State) (g : Reasm) (f : CanFrame) : State :=
  let p := g.port
  let ctl := frameByte f 1
  if f.ident ≠ g.ident ∨ frameByte f 0 ≠ g.tid ∨ ctl % 16 ≠ g.next then
    (s.dropGroup g).groupAbort p g.ident g.tid g.body (0x0D, 3)
  else if !frameLengthOk f then (s.dropGroup g).groupAbort p g.ident g.tid g.body (0x0D, 4)
  else if s.credits g.queue < 1 then (s.dropGroup g).groupFull p g.ident g.tid g.queue g.body
  else
    let body := g.body ++ frameBytes f
    let raw := g.raw ++ rawOf f
    if ctl.testBit 6 then (s.dropGroup g).takeGroup p g.ident g.tid g.hop g.prot body raw
    else
      let h := { g with next := g.next + 1, body := body, raw := raw, credits := g.credits + 1 }
      { s with field.reasm := s.field.reasm.map (fun x => if x == g then h else x) }

/-- A frame of a group for this unit. -/
def State.assemble (s : State) (p : Port) (f : CanFrame) : State :=
  match s.groupFrom (frameSrc f.ident), frameFirst f with
  | some g, true => ((s.dropGroup g).groupAbort g.port g.ident g.tid g.body (0x0D, 3)).firstFrame p f
  | some g, false => s.nextFrame g f
  | none, true => s.firstFrame p f
  | none, false => s.groupAbort p f.ident (frameByte f 0) (frameBytes f) (0x0D, 3)

/-- A Heartbeat, Notify or reply frame ends a group in reassembly from its source (R216, R710): with First set it
abandons it, without it is a Seq fault of it. -/
def State.interruptGroup (s : State) (f : CanFrame) : State :=
  match s.groupFrom (frameSrc f.ident) with
  | some g => (s.dropGroup g).groupAbort g.port g.ident g.tid g.body (0x0D, 3)
  | none => s

/-- A frame that concerns this unit: Heartbeats, and the groups of requests and broadcasts. -/
def State.localFrame (s : State) (p : Port) (f : CanFrame) : State :=
  let func := frameFunc f.ident
  if func = 7 ∨ func = 8 ∨ 16 ≤ func then
    let q := 0x18 + portNum p
    if s.vintnerDown then s
    else
      let t := s.interruptGroup f
      if func = 8 ∧ frameFirst f then (if t.credits q = 0 then t.countDrop q else t.heard (frameSrc f.ident)) else t
  else if s.unassigned ∧ func ≠ 10 ∧ func ≠ 11 then s
  else s.assemble p f

/-! ## Bridging (R239 to R246) -/

/-- The Bridge.Route code of an address (R240). -/
def State.routeCode (s : State) (a : Nat) : Nat := s.get Obj.bridgeRoute / 4 ^ a % 4

/-- The code of an address behind a port. -/
def behindPort (p : Port) : Nat := portNum p + 1

/-- Whether a frame received on a port is to go to the other port (R239, R243). -/
def State.forwards (s : State) (p : Port) (f : CanFrame) : Bool :=
  let i := f.ident
  let dst := frameDst i
  let everywhere := (s.get Obj.bridgeBroadcastForward).testBit (portNum p)
  s.bridges &&
    (if frameBcast i then dst == 0x1FF && everywhere
    else if frameFunc i = 0x1A ∧ frameSrc i = 511 ∧ frameByte f 6 = 1 then s.routeCode (fieldAt f.data 8 2 % 512) == behindPort (otherPort p)
    else if dst = 511 then everywhere
    else dst != s.field.effective && s.routeCode dst == behindPort (otherPort p))

/-- The forward queue of a frame received on port A; port B's follows it. -/
def forwardQueue (i : BitVec 29) : Nat :=
  let svc := frameSvc i
  if svc = 5 ∨ svc = 6 then 0x06 else if 7 ≤ svc ∧ svc ≤ 10 then 0x1C else if 16 ≤ frameFunc i then 0x87 else 0x50

/-- A unicast request that a bridge cannot pass on, answered in the name of its destination (R242). -/
def State.unreachable (s : State) (p : Port) (f : CanFrame) : State :=
  let i := f.ident
  let seg := match p with
    | .a => s.get Obj.fieldSegmentB
    | .b => s.get Obj.fieldSegmentA
  s.sendFrames .fresh p (replyQueue (frameSvc i))
    (groupFrames (mkIdent (framePrio i) false (0x10 + frameSvc i) (frameDst i) (frameSrc i)) (frameByte f 0) false false
      (abortBody (frameSvc i) (frameBytes f) (0x0F, seg)))

/-- What names a forwarded group: the port it came in at, its identifier and its Tid. -/
def groupName (p : Port) (f : CanFrame) : Port × Nat × Nat := (p, f.ident.toNat, frameByte f 0)

/-- A forwarded group that has found its queue full discarded (R287, R309): its frames that still stand there go, and what
is to come of it is not forwarded. -/
def State.dropForwarded (s : State) (p : Port) (f : CanFrame) (i : BitVec 29) (q : Nat) : State :=
  let mine := fun (m : QMsg) => m.queue == q && (match m.body with
    | .frame g => g.ident == i && frameByte g 0 == frameByte f 0
    | _ => false)
  let s : State := if frameFirst f then s else { s with q.msgs := s.q.msgs.filter (fun m => !mine m) }
  if (frameByte f 1).testBit 6 then s else { s with field.dropped := s.field.dropped ++ [groupName p f] }

/-- Whether a frame is the rest of a forwarded group that has been discarded. -/
def State.wasDropped (s : State) (p : Port) (f : CanFrame) : Bool :=
  !frameFirst f && s.field.dropped.contains (groupName p f)

/-- The mark of a discarded group removed as its last frame or a new First frame passes. -/
def State.forgetDropped (s : State) (p : Port) (f : CanFrame) : State :=
  if frameFirst f ∨ (frameByte f 1).testBit 6 then
    { s with field.dropped := s.field.dropped.filter (fun g => g != groupName p f) }
  else s

/-- Whether a port can pass nothing on (R242): disabled, in bus-off or in restricted operation. -/
def State.portUnusable (s : State) (p : Port) : Bool := s.portState p == 0 || s.portState p == 5 || s.portState p == 6

/-- A frame on its way to the other port (R241, R242, R299). -/
def State.forwardFrame (s : State) (p : Port) (f : CanFrame) : State :=
  let i := f.ident
  let out := otherPort p
  let hop := frameByte f 2 + 1
  let asked := frameRequest i && !frameBcast i && frameDst i != 511
  let lost := s.wasDropped p f
  let s := s.forgetDropped p f
  if s.get Obj.bridgeMaxHops < hop then
    let s := s.bump Obj.bridgeHopLimitCount 1
    s.faultRow Obj.fieldSticky 7 .vintner 0x0C06 1 31 []
  else if lost then s.bump (Obj.portForwardDropped (portNum out)) 1
  else if s.portUnusable out then (if asked ∧ frameFirst f then s.unreachable p f else s)
  else
    let q := forwardQueue i + portNum p
    let i := if !frameBcast i ∧ frameDst i = 511 then mkIdent (framePrio i) true (frameFunc i) (frameSrc i) 0x1FF else i
    let g : CanFrame := { f with ident := i, data := f.data.take 2 ++ byteOf hop :: f.data.drop 3 }
    if s.txClosed out then s.txExpired 1
    else if 1 ≤ s.credits q then
      let s := s.post .fresh q 1 (.frame g)
      if s.armed (.txLife out q) then s else s.arm (.txLife out q) (1000 * s.get Obj.queueTxLifetime)
    else
      let s := ((s.flag Obj.fieldSticky 8).bump (Obj.portForwardDropped (portNum out)) 1).dropForwarded p f i q
      if asked then
        s.refuse p (framePrio f.ident) (frameSvc f.ident) (frameDst f.ident) (frameSrc f.ident) (frameByte f 0) q
          (if frameFirst f then frameBytes f else [])
      else s.countDrop q

/-! ## Reception -/

/-- Whether a frame is one this unit processes: a broadcast, its own address, or 511 for Locate and for an unassigned
unit (R234, R250). -/
def State.isLocal (s : State) (f : CanFrame) : Bool :=
  let i := f.ident
  frameBcast i || (!s.unassigned && frameDst i == s.field.effective)
    || (frameDst i == 511 && (frameFunc i == 10 || s.unassigned))

/-- A protocol exception (Table 6-1): the port leaves the bus and joins it again by bus integration. -/
def State.exceptIntegrate (s : State) (p : Port) : State := s.joinPort p

/-- A frame on a port (R200 to R221, R238 to R250); a unicast frame neither for the unit nor forwarded is not counted. -/
def State.receiveFrame (s : State) (p : Port) (f : CanFrame) : State :=
  if !s.portUp p ∨ !(s.vintServes ∨ s.vintnerDown) then s
  else
    let i := f.ident
    let t := s
    let s := s.bump (Obj.portRxFrames (portNum p)) 1
    if f.res then (s.rxDiscard p).exceptIntegrate p
    else if !f.extended then s.bump (Obj.portStdIdCount (portNum p)) 1
    else if !f.fd ∨ f.remote then s.bump (Obj.portClassicCount (portNum p)) 1
    else if i.toNat % 4 ≠ 0 then (s.rxDiscard p).flag Obj.fieldSticky 5
    else if !s.unassigned ∧ frameSrc i = s.field.effective then s.addressConflict
    else if frameBcast i ∧ frameDst i ≠ 0 ∧ frameDst i ≠ 0x1FF then s.rxDiscard p
    else
      let on := s.forwards p f
      let here := s.isLocal f
      if !on ∧ !here then t
      else if 13 ≤ frameSvc i ∨ f.data.length < 4 ∨ (frameRequest i ∧ !prioOk (frameSvc i) (framePrio i)) then s.rxDiscard p
      else
        let s := if on then s.forwardFrame p f else s
        if here then s.localFrame p f else s

/-- Frames received in turn. -/
def State.receiveAll (s : State) (p : Port) (fs : List CanFrame) : State :=
  fs.foldl (fun (s : State) f => s.receiveFrame p f) s

/-- A request as a command names it: the frames of its group as a port receives them, or its mailbox message. A message that
no group carries ends with abort 0x0D, detail 0x04 (R251). -/
def State.arrive (s : State) (r : ReqCtx) (svc aux : Nat) (body : Bytes) : State :=
  let msg := reqMessage r body
  let c := callerOf r svc aux
  match r.via with
  | .host => if s.vintServes then s.hostRequest c (reqClaimed r) msg else s
  | via =>
    let p := viaPort via
    if 960 < msg.length then
      (if s.portUp p ∧ s.vintServes then s.abort c (msg.take (msg.length - 14)) (0x0D, 4) else s)
    else
      let ident := mkIdent r.prio.toNat false svc (reqPeer r) (s.ownAddress via)
      let fs := groupFrames ident r.tid.toNat r.trailer.isSome false msg
      s.receiveAll p (fs.map (fun f => { f with data := f.data.set 2 (byteOf aux) }))

/-- OBVAR_FRAME_RECEIVE (R200 to R250). -/
def execObvarFrameReceive (p : Port) (f : CanFrame) (s : State) : Out :=
  .next (s.receiveFrame p { f with data := f.data.take 64 })

/-- REASSEMBLY_TIMEOUT (R215): the group is discarded and answered with abort 0x0E, detail 0x01. -/
def execReassemblyTimeout (p : Port) (src : BitVec 9) (s : State) : Out :=
  .next (s.onTimer (.reassembly p src.toNat) (fun s =>
    match s.groupFrom src.toNat with
    | some g => ((s.dropGroup g).flag Obj.fieldSticky 6).groupAbort g.port g.ident g.tid g.body (0x0E, 1)
    | none => s))

/-! ## Transmission (R296, R297) -/

/-- The transmit queues of a port: its own, then the forward queues. -/
def ownTxQueues (p : Port) : List Nat := [0x84 + portNum p, 0x1A + portNum p, 0x03 + portNum p]

/-- The forward queues that a port's transmitter consumes. -/
def fwdTxQueues : Port → List Nat
  | .a => [0x88, 0x51, 0x1D, 0x07]
  | .b => [0x87, 0x50, 0x1C, 0x06]

/-- The frame in a message. -/
def QMsg.frame? (m : QMsg) : Option CanFrame :=
  match m.body with
  | .frame f => some f
  | _ => none

/-- The heads of a port's transmit queues, with their queues. -/
def State.txHeads (s : State) (p : Port) : List (Nat × CanFrame) :=
  (ownTxQueues p ++ fwdTxQueues p).filterMap (fun q => ((s.headOf q).bind QMsg.frame?).map (fun f => (q, f)))

/-- The lifetime of the frame now at the head of a transmit queue. -/
def State.rearmTx (s : State) (p : Port) (q : Nat) : State :=
  match s.headOf q with
  | none => s.disarm (.txLife p q)
  | some m => s.arm (.txLife p q) (m.at_ + 1000 * s.get Obj.queueTxLifetime - s.now)

/-- The 20 ms of the refusal now at the head of a port's FIFO. -/
def State.rearmRefusal (s : State) (p : Port) : State :=
  match (s.portEng p).refusals with
  | [] => s.disarm (.refusal p)
  | r :: _ => s.arm (.refusal p) (r.at_ + 20000 - s.now)

/-- A port error active: the 600 s of R254 run after a bus-off. -/
def State.errorActive (s : State) (p : Port) : State :=
  if (s.portEng p).joinedAt = 0 then s else s.arm (.busOffWait p) 600000000

/-- Port.Tec given a new value; the values before it are the history that a bus-off records (R253, log entry 129). -/
def State.setTec (s : State) (p : Port) (tec : Nat) : State :=
  let old := s.get (Obj.portTec (portNum p))
  if old = tec then s
  else
    let e := s.portEng p
    (s.setPortEng p { e with tecs := (old :: e.tecs).take 4 }).set (Obj.portTec (portNum p)) tec

/-- A frame sent by a port; one in error passive is error active again after the transmission that brings its error
counter below 128 (ISO 11898-1). -/
def State.sentOne (s : State) (p : Port) : State :=
  let n := portNum p
  let s := s.bump (Obj.portTxFrames n) 1
  let tec := s.get (Obj.portTec n) - 1
  let s := s.setTec p tec
  if s.portState p = 4 ∧ tec < 128 ∧ s.get (Obj.portRec n) < 128 then
    let s := s.set (Obj.portState n) 3
    s.errorActive p
  else s

/-- The frame with the lowest identifier among the candidates; the first of equals. -/
def lowestFrame (l : List (Nat × CanFrame)) : Option (Nat × CanFrame) :=
  l.foldl (fun b x =>
    match b with
    | none => some x
    | some y => if x.2.ident.toNat < y.2.ident.toNat then some x else some y) none

/-- A forwarded frame counted (Port.Forwarded). -/
def State.countForwarded (s : State) (p : Port) (q : Nat) : State :=
  if (fwdTxQueues p).contains q then s.bump (Obj.portForwarded (portNum p)) 1 else s

/-- A queued frame sent. -/
def State.sendQueued (s : State) (p : Port) (x : Nat × CanFrame) : State :=
  (((((s.noteSent p x.2).take x.1).rearmTx p x.1).sentOne p).countForwarded p x.1).serveHeld

/-- The oldest refusal sent. -/
def State.sendRefusal (s : State) (p : Port) (r : RefusalFrame) (rest : List RefusalFrame) : State :=
  (((s.noteSent p r.frame).setPortEng p { (s.noteSent p r.frame).portEng p with refusals := rest }).rearmRefusal p).sentOne p

/-- The frame that wins is sent: the lowest identifier among the heads and the refusal FIFO (R297). -/
def State.transmit (s : State) (p : Port) : State :=
  match lowestFrame (s.txHeads p), (s.portEng p).refusals with
  | none, [] => s
  | some x, [] => s.sendQueued p x
  | none, r :: rest => s.sendRefusal p r rest
  | some x, r :: rest => if r.frame.ident.toNat ≤ x.2.ident.toNat then s.sendRefusal p r rest else s.sendQueued p x

/-- A port after a frame has left it: in HOLDUP, its last Heartbeat sent, it goes to transceiver standby (Table 6-16); a
change of its own enables takes effect once the reply has left (R249). -/
def State.afterSend (s : State) (p : Port) : State :=
  if s.power.state = .holdup then (if (s.headOf (0x1A + portNum p)).isSome then s else s.portStandby p) else s.settleJoin p

/-- FRAME_TRANSMIT (R205, R248, R249, R296, R297): a port sends the frame that it offers. -/
def execFrameTransmit (p : Port) (s : State) : Out :=
  .next (s.when (s.portUp p) (fun s => (s.transmit p).afterSend p))

/-- A frame at the head of a transmit queue whose lifetime has passed (R296). -/
def State.txTimeout (s : State) (p : Port) (q : Nat) : State :=
  match s.headOf q with
  | none => s
  | some m =>
    if s.now < m.at_ + 1000 * s.get Obj.queueTxLifetime then s.rearmTx p q
    else ((((s.take q).txExpired 1).noteSummary).rearmTx p q).serveHeld

/-- TX_LIFETIME_EXPIRY (R296). -/
def execTxLifetimeExpiry (p : Port) (queue : Byte) (s : State) : Out :=
  .next (s.onTimer (.txLife p queue.toNat) (fun s => (s.txTimeout p queue.toNat).settleJoin p))

/-- Every frame for a port discarded at once (R296): queued ones and those that wait for a credit. -/
def State.flushPort (s : State) (p : Port) : State :=
  let qs := ownTxQueues p ++ fwdTxQueues p
  let n := (s.q.msgs.filter (fun m => qs.contains m.queue)).length + (s.q.waits.filter (fun w => qs.contains w.msg.queue)).length
  let s := { s with q.msgs := s.q.msgs.filter (fun m => !qs.contains m.queue),
                    q.waits := s.q.waits.filter (fun w => !qs.contains w.msg.queue) }
  let s := qs.foldl (fun (s : State) q => s.disarm (.txLife p q)) s
  (((s.txExpired n).noteSummary).serveHeld)

/-! ## Heartbeats, presence and TimeSet -/

/-- HEARTBEAT (R229): the Heartbeat of Table 6-11, and the next one a period later. -/
def execHeartbeat (p : Port) (s : State) : Out :=
  .next (s.onTimer (.heartbeat p) (fun s =>
    if s.portUp p ∧ !s.unassigned ∧ s.vintServes then
      let s := s.sendFrames .fresh p 0x1A (groupFrames s.heartbeatIdent 0 false false (s.heartbeatBody s.power.state.code))
      s.arm (.heartbeat p) (1000 * s.get Obj.fieldHeartbeatPeriod)
    else s))

/-- HEARTBEAT_RECEIVE (R229, R230, R243): a node's Heartbeat, broadcast to every segment. What it says of its sender, which
a bridge passes on, is a free value (log entry 4). -/
def execHeartbeatReceive (p : Port) (src : BitVec 9) (s : State) : Out :=
  let d := s.draw
  .next (d.2.receiveAll p (groupFrames (mkIdent 1 true 8 src.toNat 0x1FF) 0 false false (leBytes 20 d.1)))

/-- NODE_OFFLINE (R230): Field.OfflineTime without a Heartbeat. -/
def execNodeOffline (node : BitVec 9) (s : State) : Out :=
  .next (s.onTimer (.offline node.toNat) (fun s =>
    (s.set Obj.fieldNodePresent (clearBit (s.get Obj.fieldNodePresent) node.toNat)).notify 6 0xFFFF (leBytes 2 node.toNat)))

/-- TIME_SET (R233): unicast as any request, or broadcast to every segment. -/
def execTimeSet (r : ReqCtx) (broadcast : Bool) (utcSeconds : BitVec 64) (micros : BitVec 32) (source : Byte) (s : State) :
    Out :=
  let body := leBytes 8 utcSeconds.toNat ++ leBytes 4 micros.toNat ++ [source, 0#8, 0#8, 0#8]
  .next (if broadcast && r.via != .host then
      s.receiveAll (viaPort r.via) (groupFrames (mkIdent r.prio.toNat true 9 r.src.toNat 0x1FF) r.tid.toNat r.trailer.isSome
        false (reqMessage r body))
    else s.arrive r 9 0 body)

/-- LOCATE_QUERY (R235, R239): a Query broadcast to every segment. -/
def execLocateQuery (p : Port) (q : LocateQ) (s : State) : Out :=
  let body := [1#8, byteOf q.maskBits, if q.unassignedOnly then 1#8 else 0#8, 0#8] ++ leBytes 8 q.pattern.toNat
    ++ leBytes 2 q.window.toNat ++ [0#8, 0#8]
  .next (s.receiveAll p (groupFrames (mkIdent 2 true 10 q.requester.toNat 0x1FF) 0 false false body))

/-- LOCATE_REPLY (R236). -/
def execLocateReply (acked : Bool) (s : State) : Out := .next (s.onTimer .locateReply (fun s => s.locateDue acked))

/-! ## Port faults (R253, R254) -/

/-- BUS_OFF (R253, R254): the wait of Field.BusOffHoldoff, doubled by a bus-off within 60 s of rejoining. -/
def execBusOff (p : Port) (s : State) : Out :=
  .next (s.when (s.portUp p) (fun s =>
    let n := portNum p
    let e := s.portEng p
    let again := e.joinedAt != 0 && decide (s.now ≤ e.joinedAt + 60000000)
    let factor := if again then min 64 (2 * e.waitFactor) else e.waitFactor
    let s := s.setTec p 255
    let s := s.faultRow Obj.fieldSticky n .vintner 0x0B01 1 n (u32 n ++ u32 (leNat ((s.portEng p).tecs.map byteOf)))
    let s := (s.bump (Obj.portBusOffCount n) 1).set (Obj.portState n) 5
    let s := (s.setPortEng p { s.portEng p with waitFactor := factor }).disarm (.busOffWait p)
    let s := (s.disarm (.heartbeat p)).arm (.busOffHoldoff p) (1000 * s.get Obj.fieldBusOffHoldoff * factor)
    s.flushPort p))

/-- BUS_OFF_HOLDOFF_EXPIRY (R254): the recovery of the standard begins; error counters start at 0. -/
def execBusOffHoldoffExpiry (p : Port) (s : State) : Out :=
  .next (s.onTimer (.busOffHoldoff p) (fun s =>
    let s := ((s.setTec p 0).set (Obj.portRec (portNum p)) 0).joinPort p
    s.setPortEng p { s.portEng p with rejoining := true }))

/-- BUS_OFF_WAIT_RESET (R254): 600 s error active. -/
def execBusOffWaitReset (p : Port) (s : State) : Out :=
  .next (s.onTimer (.busOffWait p) (fun s => s.setPortEng p { s.portEng p with waitFactor := 1, joinedAt := 0 }))

/-- ERROR_PASSIVE (R253): ESI recessive; the first entry after the flag was cleared is recorded. -/
def execErrorPassive (p : Port) (s : State) : Out :=
  .next (s.when (s.portState p == 3) (fun s =>
    let n := portNum p
    let s := ((s.setTec p 128).set (Obj.portState n) 4).disarm (.busOffWait p)
    s.flagFirst Obj.fieldSticky (2 + n) (fun s => s.log .vintner 0x0B02 1 n [])))

/-- STUCK_DOMINANT (R253): CAN_x_STB high for Field.BusOffHoldoff. -/
def execStuckDominant (p : Port) (s : State) : Out :=
  .next (s.when (s.portUp p || s.portState p == 2) (fun s =>
    let n := portNum p
    let s := s.faultRow Obj.fieldSticky 9 .vintner 0x0B08 1 n []
    let s := (((s.set (Obj.portState n) 1).setStb p true).disarm (.heartbeat p)).disarm (.busOffWait p)
    (s.arm (.stuckRejoin p) (1000 * s.get Obj.fieldBusOffHoldoff)).flushPort p))

/-- STUCK_DOMINANT_REJOIN (R253). -/
def execStuckDominantRejoin (p : Port) (s : State) : Out := .next (s.onTimer (.stuckRejoin p) (fun s => s.joinPort p))

/-- RESTRICTED_LONG (R204, R253, R296): more than 10 ms of restricted operation. -/
def execRestrictedLong (s : State) : Out :=
  .next (s.onTimer .restricted (fun s => ((s.flag Obj.fieldSticky 10).flushPort .a).flushPort .b))

/-- BUS_INTEGRATION (R203, R229, R248, R249): a port has joined the bus; its first Heartbeat follows within 10 ms. -/
def execBusIntegration (p : Port) (s : State) : Out :=
  .next (s.when (s.portState p == 2) (fun s =>
    let s := s.set (Obj.portState (portNum p)) 3
    let s := if s.unassigned then s else s.arm (.heartbeat p) 10000
    let e := s.portEng p
    let s := if e.rejoining then s.setPortEng p { e with rejoining := false, joinedAt := s.now } else s
    s.errorActive p))

end Sys2Proof.Machine
end

