-- ==== Sys2Proof/Machine/Requests.lean ====
section
/-!
DEFINITION. The requests that the table names one by one: each is the message of its service (Table 6-9) on its way
through the unit's checks.
-/

namespace Sys2Proof.Machine

open Sys2Proof

/-- A plain Write of an object with a number of its size, as a requester sends it. -/
def State.requestWrite (s : State) (r : ReqCtx) (k v : Nat) : State :=
  s.arrive r 1 0 (writeBody (k / 256) (k % 256) (leBytes (objSize k) v))

/-- REQUEST_DORMANT (R63, R70, R87, R192, R712): PowerState.Request = 2. -/
def execRequestDormant (r : ReqCtx) (s : State) : Out := .next (s.requestWrite r Obj.powerStateRequest 2)

/-- REQUEST_STANDBY (R70, R87, R88, R192): PowerState.Request = 3. -/
def execRequestStandby (r : ReqCtx) (s : State) : Out := .next (s.requestWrite r Obj.powerStateRequest 3)

/-- REQUEST_ACTIVE (R87, R88, R192, R717): PowerState.Request = 4. -/
def execRequestActive (r : ReqCtx) (s : State) : Out := .next (s.requestWrite r Obj.powerStateRequest 4)

/-- REQUEST_SERVICE (R70, R118, R717): PowerState.Request = 5. -/
def execRequestService (r : ReqCtx) (s : State) : Out := .next (s.requestWrite r Obj.powerStateRequest 5)

/-- REQUEST_RESTART (R71): PowerState.Request = 6. -/
def execRequestRestart (r : ReqCtx) (s : State) : Out := .next (s.requestWrite r Obj.powerStateRequest 6)

/-- REVOKE_SLOT0 (R107): Boot.RevokeSlot0 = 1. -/
def execRevokeSlot0 (r : ReqCtx) (s : State) : Out := .next (s.requestWrite r Obj.bootRevokeSlot0 1)

/-- LIFECYCLE_CONFIRM (R109). -/
def execLifecycleConfirm (r : ReqCtx) (value : BitVec 16) (s : State) : Out :=
  .next (s.requestWrite r Obj.lifecycleConfirm value.toNat)

/-- LIFECYCLE_REQUEST (R108, R109, R714). -/
def execLifecycleRequest (r : ReqCtx) (target : Byte) (s : State) : Out :=
  .next (s.requestWrite r Obj.lifecycleRequest target.toNat)

/-- ROLE_KEY_WRITE (R114): a role key 0 to 3, or the twin pairing key. -/
def execRoleKeyWrite (r : ReqCtx) (which : Fin 5) (key : Bytes) (s : State) : Out :=
  let k := if which.val = 4 then Obj.twinPairKey else Obj.keysRoleKey which.val
  .next (s.arrive r 1 0 (writeBody (k / 256) (k % 256) key))

/-- SESSION_OPEN (R120, R122, R225, R715). -/
def execSessionOpen (r : ReqCtx) (role version : Byte) (peer : BitVec 16) (nc : BitVec 128) (s : State) : Out :=
  .next (s.arrive r 12 0 ([1#8, 0#8, 0#8, 0#8, role, version] ++ leBytes 2 peer.toNat ++ leBytes 16 nc.toNat
    ++ [0#8, 0#8, 0#8, 0#8]))

/-- SESSION_CONFIRM (R121, R144). -/
def execSessionConfirm (r : ReqCtx) (sid : BitVec 16) (tagC : BitVec 128) (s : State) : Out :=
  .next (s.arrive r 12 0 ([3#8, 0#8, 0#8, 0#8] ++ leBytes 2 sid.toNat ++ [0#8, 0#8] ++ leBytes 16 tagC.toNat))

/-- DEBUG_REQUEST (R132, R134). -/
def execDebugRequest (r : ReqCtx) (level : Byte) (s : State) : Out :=
  .next (s.requestWrite r Obj.debugRequest level.toNat)

/-- DEBUG_TOKEN (R132, R136). -/
def execDebugToken (r : ReqCtx) (token : Bytes) (s : State) : Out :=
  .next (s.arrive r 1 0 (writeBody 0x1A30 5 token))

/-- A Read's message. -/
def readBody (index sub : Nat) : Bytes := leBytes 2 index ++ [byteOf sub, 0#8]

/-- DEBUG_CHALLENGE_READ (R99, R133). -/
def execDebugChallengeRead (r : ReqCtx) (s : State) : Out := .next (s.arrive r 0 0 (readBody 0x1A30 4))

/-- READ (R159, R166, R185). -/
def execRead (r : ReqCtx) (index : BitVec 16) (sub : Byte) (s : State) : Out :=
  .next (s.arrive r 0 0 (readBody index.toNat sub.toNat))

/-- The message of a Write or StagedWrite with a type code of the requester's. -/
def typedBody (index : BitVec 16) (sub type : Byte) (value : Bytes) : Bytes :=
  leBytes 2 index.toNat ++ [sub, type] ++ value

/-- WRITE (R159 to R163). -/
def execWrite (r : ReqCtx) (index : BitVec 16) (sub type : Byte) (value : Bytes) (s : State) : Out :=
  .next (s.arrive r 1 0 (typedBody index sub type value))

/-- STAGED_WRITE (R163 to R168). -/
def execStagedWrite (r : ReqCtx) (index : BitVec 16) (sub type : Byte) (value : Bytes) (s : State) : Out :=
  .next (s.arrive r 2 0 (typedBody index sub type value))

/-- COMMIT (R169 to R176). -/
def execCommit (r : ReqCtx) (s : State) : Out := .next (s.arrive r 3 0 [])

/-- DISCARD (R167). -/
def execDiscard (r : ReqCtx) (s : State) : Out := .next (s.arrive r 4 0 [])

/-- STAGE_TIMEOUT (R167): Config.StageTimeout without a StagedWrite or Commit. -/
def execStageTimeout (who : StageId) (s : State) : Out := .next (s.onTimer (.stage who) (fun s => s.setStage who []))

/-- CONFIG_WRITE_DONE (R157, R169, R194 to R196): the configuration write has ended; what waited for the commit engine
goes on. -/
def execConfigWriteDone (verified : Bool) (s : State) : Out := .next ((s.configWritten verified).serveWaiting)

/-- COMMIT_DEFER (R172): entries not in force 5 ms after the commit point. -/
def execCommitDefer (s : State) : Out :=
  .next (s.onTimer .commitDefer (fun s =>
    match s.eng.commit with
    | some r =>
      if r.answered || r.form == .none then s
      else (({ s with eng.commit := some { r with answered := true } }).abort r.caller r.form.request (0x0A, 0)).endSpent
    | none => s))

/-- STICKY_CLEAR (R116, R180, R181): a mask written to an RW1C object. -/
def execStickyClear (r : ReqCtx) (index : BitVec 16) (sub : Byte) (mask : BitVec 32) (s : State) : Out :=
  .next (s.requestWrite r (objKey index.toNat sub.toNat) mask.toNat)

/-- STICKY_CLEAR_ALL (R184). -/
def execStickyClearAll (r : ReqCtx) (s : State) : Out := .next (s.requestWrite r Obj.stickyClearAll 0xC1EA)

/-- RESTORE_DEFAULTS (R199). -/
def execRestoreDefaults (r : ReqCtx) (s : State) : Out := .next (s.requestWrite r Obj.configRestoreDefaults 0xDEF0)

/-- UPDATE_BEGIN (R188). -/
def execUpdateBegin (r : ReqCtx) (length : BitVec 32) (s : State) : Out :=
  .next (s.requestWrite r Obj.updateBegin length.toNat)

/-- A BlockWrite's message. -/
def blockWriteBody (index sub : Nat) (final : Bool) (offset total : BitVec 32) (data : Bytes) : Bytes :=
  leBytes 2 index ++ [byteOf sub, if final then 1#8 else 0#8] ++ leBytes 4 offset.toNat ++ leBytes 4 total.toNat ++ data

/-- UPDATE_DATA (R189, R228). -/
def execUpdateData (r : ReqCtx) (offset total : BitVec 32) (data : Bytes) (s : State) : Out :=
  .next (s.arrive r 6 0 (blockWriteBody 0x9000 4 false offset total data))

/-- The segment at the head of queue 0x08 programmed into the target bank and answered. -/
def State.programSegment (s : State) : State :=
  match s.upd.segments with
  | [] => s
  | g :: rest =>
    let bank := s.targetBank
    let s := s.setBank bank (memWriteAll zeroByte (s.bankMem bank) g.offset g.data)
    let s := { s with upd.segments := rest }
    match g.caller with
    | none => s
    | some c =>
      let s := (s.disarm (.defer c.dest.peer c.dest.tid)).disarm (.deferLimit c.dest.peer c.dest.tid)
      (s.done { c with deferred := c.deferred || g.answered, aux := g.offset + g.data.length } 0x9000 4).endSpent

/-- IMAGE_SEGMENT_DONE (R188, R228, R296): the image writer frees its credits, and requests that waited for them go on. -/
def execImageSegmentDone (s : State) : Out :=
  .next (s.when ((s.headOf 0x08).isSome) (fun s => ((s.programSegment).take 0x08).serveHeld))

/-- UPDATE_VERIFY (R188). -/
def execUpdateVerify (r : ReqCtx) (s : State) : Out := .next (s.requestWrite r Obj.updateVerify 1)

/-- UPDATE_VERIFY_DONE (R102, R103, R188): the Cork has checked the target bank, which took `micros` µs (log entry 12). -/
def execUpdateVerifyDone (micros : BitVec 32) (s : State) : Out :=
  .next (s.when (s.running && s.get Obj.updateState == 2) (fun s => (s.elapse micros.toNat).updateVerified))

/-- UPDATE_ACTIVATE (R188). -/
def execUpdateActivate (r : ReqCtx) (s : State) : Out := .next (s.requestWrite r Obj.updateActivate 1)

/-- UPDATE_ABORT (R188). -/
def execUpdateAbort (r : ReqCtx) (s : State) : Out := .next (s.requestWrite r Obj.updateAbort 1)

/-- BLOCK_READ (R186, R226, R227, R616). -/
def execBlockRead (r : ReqCtx) (index : BitVec 16) (sub : Byte) (whole : Bool) (offset : BitVec 32) (maxLen : BitVec 16)
    (s : State) : Out :=
  .next (s.arrive r 5 0 (leBytes 2 index.toNat ++ [sub, if whole then 1#8 else 0#8] ++ leBytes 4 offset.toNat
    ++ leBytes 2 maxLen.toNat ++ [0#8, 0#8]))

/-- BLOCK_WRITE (R226, R228). -/
def execBlockWrite (r : ReqCtx) (index : BitVec 16) (sub : Byte) (final : Bool) (offset total : BitVec 32) (data : Bytes)
    (s : State) : Out :=
  .next (s.arrive r 6 0 (blockWriteBody index.toNat sub.toNat final offset total data))

/-- BLOCK_TIMEOUT (Table 6-10): Field.BlockTimeout with no segment discards the snapshot or the held data. -/
def execBlockTimeout (src : BitVec 16) (ofWrite : Bool) (s : State) : Out :=
  let expire := fun (l : List BlockRun) =>
    l.map (fun x => if x.peer = src.toNat then { x with total := 0, data := [] } else x)
  .next (s.onTimer (.block src.toNat ofWrite) (fun s =>
    if ofWrite then { s with blockWrites := expire s.blockWrites } else { s with blockReads := expire s.blockReads }))

/-- ASSIGN (R237). -/
def execAssign (r : ReqCtx) (newAddress : BitVec 16) (serial : BitVec 64) (segA segB : Byte) (s : State) : Out :=
  .next (s.arrive r 10 0 ([2#8, 0#8] ++ leBytes 2 newAddress.toNat ++ leBytes 8 serial.toNat
    ++ [segA, segB, 0#8, 0#8]))

/-- GET_STATUS (R247). -/
def execGetStatus (r : ReqCtx) (s : State) : Out := .next (s.arrive r 11 0 [1#8, 0#8])

/-- SET_ROUTES (R240, R247). -/
def execSetRoutes (r : ReqCtx) (start count : BitVec 16) (codes : Bytes) (s : State) : Out :=
  .next (s.arrive r 11 0 ([2#8, 0#8] ++ leBytes 2 start.toNat ++ leBytes 2 count.toNat ++ codes))

/-- SET_FORWARDING (R247). -/
def execSetForwarding (r : ReqCtx) (enable : Byte) (s : State) : Out :=
  .next (s.arrive r 11 0 [3#8, 0#8, enable, 0#8])

/-- PING (R247): the reply carries the HopCount of the request as received. -/
def execPing (r : ReqCtx) (hopCount : Byte) (s : State) : Out := .next (s.arrive r 11 hopCount.toNat [4#8, 0#8])

/-- CLEAR_HIGH_WATER (Table 8-8). -/
def execClearHighWater (r : ReqCtx) (s : State) : Out := .next (s.requestWrite r Obj.queueClearHighWater 1)

/-- SYNC_NOW (R336, R350). -/
def execSyncNow (r : ReqCtx) (s : State) : Out := .next (s.requestWrite r Obj.converterSyncNow 1)

/-- RUN_INIT (R377, R387). -/
def execRunInit (r : ReqCtx) (s : State) : Out := .next (s.requestWrite r Obj.frontEndRunInit 1)

/-- COMMANDED_SHUTDOWN (R417, R428): Net.Shutdown = 0x5D0F. -/
def execCommandedShutdown (r : ReqCtx) (s : State) : Out := .next (s.requestWrite r Obj.netShutdown 0x5D0F)

/-- CLEAR_LOCKOUT (R421, R428). -/
def execClearLockout (r : ReqCtx) (s : State) : Out := .next (s.requestWrite r Obj.netClearLockout 1)

/-- SEAL_CLEAR (R465, R472). -/
def execSealClear (r : ReqCtx) (s : State) : Out := .next (s.requestWrite r Obj.sealClear 1)

/-- CLEAR_LATCH (R506, R519). -/
def execClearLatch (r : ReqCtx) (s : State) : Out := .next (s.requestWrite r Obj.railSeqClearLatch 1)

/-- MARGIN_HIGH (R510, R511, R514, R519). -/
def execMarginHigh (r : ReqCtx) (ch : Fin 4) (s : State) : Out :=
  .next (s.requestWrite r (Obj.marginCommand ch.val) 1)

/-- MARGIN_LOW (R510, R511, R514, R519). -/
def execMarginLow (r : ReqCtx) (ch : Fin 4) (s : State) : Out :=
  .next (s.requestWrite r (Obj.marginCommand ch.val) 2)

/-- MARGIN_NOMINAL (R510, R514). -/
def execMarginNominal (r : ReqCtx) (ch : Fin 4) (s : State) : Out :=
  .next (s.requestWrite r (Obj.marginCommand ch.val) 0)

/-- TIU_ARM (R528, R547). -/
def execTiuArm (r : ReqCtx) (s : State) : Out := .next (s.requestWrite r Obj.tiuArm 1)

/-- TIU_CANCEL (R528, R547). -/
def execTiuCancel (r : ReqCtx) (s : State) : Out := .next (s.requestWrite r Obj.tiuCancel 1)

/-- LID_REBASELINE (R573, R579). -/
def execLidRebaseline (r : ReqCtx) (s : State) : Out := .next (s.requestWrite r Obj.lidRebaseline 1)

/-- CASK_CLEAR (R617, R618). -/
def execCaskClear (r : ReqCtx) (s : State) : Out := .next (s.requestWrite r Obj.caskClear 0xCA5C)

/-- HANDOVER (R649, R655). -/
def execHandover (r : ReqCtx) (s : State) : Out := .next (s.requestWrite r Obj.twinHandover 1)

end Sys2Proof.Machine
end

