-- ==== Sys2Proof/Machine/Host.lean ====
section
/-!
DEFINITION. The host port (ch. 07): the register window, the mailbox, 64-bit reads, the wake request, the recovery window
and forensic readout.
-/

namespace Sys2Proof.Machine

open Sys2Proof

/-! ## Registers -/

/-- HP_STATUS (Table 7-3); its low byte is the status byte (R256). -/
def State.hpStatus (s : State) : Nat :=
  s.power.state.code + maskOf [(3, s.pins.cellsOnAon), (4, s.irqAsserted), (5, s.hp.busy), (6, s.hp.ready), (7, s.coreUp),
    (8, s.bit Obj.securitySticky 1), (9, s.power.recovery), (10, s.power.wakePending),
    (11, s.get Obj.watchdogLockout == 1)]

/-- The status byte. -/
def State.statusByte (s : State) : Byte := byteOf s.hpStatus

/-- The IDCODE value of R131. -/
def State.idcode (s : State) : Nat := s.get Obj.identityDieRevision % 16 * 2 ^ 28 + 0x4216 * 2 ^ 12 + 0x3A7 * 2 + 1

/-- RCV_CTRL as it reads (Table 7-7). -/
def State.rcvCtrl (s : State) : Nat :=
  s.hp.rcvOffset.toNat + s.hp.rcvFailed.toNat * 2 ^ 24 + s.hp.rcvResult.toNat * 2 ^ 28

/-- The 64-bit value of a register pair. -/
def State.wide (s : State) : WidePair → Nat
  | .energy => s.get Obj.energyTotal
  | .utc => s.utcMicros % 2 ^ 64

/-- The latch of a pair. -/
def State.latch (s : State) : WidePair → Option (BitVec 32)
  | .energy => s.hp.latchEnergy
  | .utc => s.hp.latchUtc

/-- The latch of a pair set or invalidated. -/
def State.setLatch (s : State) (w : WidePair) (v : Option (BitVec 32)) : State :=
  match w with
  | .energy => { s with hp.latchEnergy := v }
  | .utc => { s with hp.latchUtc := v }

/-- A _LO register read (R269): the high half of the same value is latched. -/
def State.readLo (s : State) (w : WidePair) : Nat × State :=
  (s.wide w % 2 ^ 32, s.setLatch w (some (BitVec.ofNat 32 (s.wide w / 2 ^ 32))))

/-- An _HI register read (R270): the latched half, or the live one with TornRead. -/
def State.readHi (s : State) (w : WidePair) : Nat × State :=
  match s.latch w with
  | some v => (v.toNat, s.setLatch w none)
  | none => (s.wide w / 2 ^ 32, (s.bump Obj.hostPortTornReadCount 1).hostFlag 0)

/-- A register of the window, by its address, read (Table 7-2); the recovery window serves three of them. -/
def State.readReg (s : State) (a : Nat) : Nat × State :=
  if a = 0x00 then (s.idcode, s)
  else if a = 0x04 then (s.hpStatus, s)
  else if !s.coreUp then (0, s)
  else if a = 0x30 then (s.rcvCtrl, s)
  else if s.power.recovery then (0, s)
  else if a = 0x08 then (s.hp.irqStatus.toNat, s)
  else if a = 0x0C then (s.get Obj.hostPortIrqEnable, s)
  else if a = 0x10 then (s.get Obj.hostPortSticky, s)
  else if a = 0x14 then (summaryOf s.dict, s)
  else if a = 0x18 then (s.hp.reqLength.toNat + (if s.hp.busy then 2 ^ 30 else 0), s)
  else if a = 0x1C then (s.hp.rspLength.toNat + (if s.hp.ready then 2 ^ 31 else 0), s)
  else if a = 0x20 then s.readLo .energy
  else if a = 0x24 then s.readHi .energy
  else if a = 0x28 then s.readLo .utc
  else if a = 0x2C then s.readHi .utc
  else (0, s)

/-- A byte of the buffers; every other address reads 0x00 (R259, Table 7-2). -/
def State.bufferByte (s : State) (a : Nat) : Byte :=
  if !s.coreUp then 0x00#8
  else if 0x1000 ≤ a ∧ a < 0x2000 then memRead zeroByte s.mems.rcv (a - 0x1000)
  else if s.power.recovery then 0x00#8
  else if 0x100 ≤ a ∧ a < 0x500 then memRead zeroByte s.mems.mbReq (a - 0x100)
  else if 0x500 ≤ a ∧ a < 0x900 then memRead zeroByte s.mems.mbRsp (a - 0x500)
  else 0x00#8

/-- Registers from an address on, read in ascending order. -/
def State.readRegs : Nat → Nat → State → Bytes × State
  | 0, _, s => ([], s)
  | n + 1, a, s =>
    let r := s.readReg a
    let rest := State.readRegs n (a + 4) r.2
    (leBytes 4 r.1 ++ rest.1, rest.2)

/-- The data bytes of a Read (R257, R259, R260, R280), and what its register reads do. -/
def State.readWindow (s : State) (a n : Nat) : Bytes × State :=
  if 0x100 ≤ a then ((List.range n).map (fun i => s.bufferByte (a + i)), s)
  else if a % 4 ≠ 0 then (List.replicate n 0x00#8, s.hostFlag 2)
  else
    let words := min ((n + 3) / 4) ((0x100 - a) / 4)
    let r := State.readRegs words a s
    (sliceBytes r.1 0 (min n (4 * words)) ++ (List.range (n - 4 * words)).map (fun i => s.bufferByte (0x100 + i)), r.2)

/-- What HOST_MISO carried: the status byte of the command, then data (R256). A transaction that begins has seen HOST_CS_N
high, and ends what a supply switch cut (R49). -/
def State.shiftOut (s : State) (status : Byte) (data : Bytes) : State :=
  { s with hp := { s.hp with miso := status :: data, cut := false } }

/-- HOST_READ (R257, R259, R260, R269, R270, R280). -/
def execHostRead (addr : BitVec 16) (len : Nat) (s : State) : Out :=
  .next (s.when s.awake (fun s =>
    let r := s.readWindow addr.toNat len
    r.2.shiftOut s.statusByte r.1))

/-! ## The mailbox (R262 to R268) -/

/-- The request in MB_REQ_BUF taken and served (R262 to R264): a body length that is not the message's ends it with abort
0x0D, detail 0x04. -/
def State.takeMailbox (s : State) : State :=
  let s : State := { s with hp.busy := false }
  let m := memSlice zeroByte s.mems.mbReq 0 s.hp.reqLength.toNat
  let svc := fieldAt m 0 1
  let body := m.drop 8
  let prot := (fieldAt m 2 1).testBit 5
  let claimed := if prot then some (fieldAt body (body.length - 14) 2) else none
  let c : Caller := ⟨none, none, 0, false, ⟨.host, 0xFFFF, 0xFFFF, 4, fieldAt m 1 1, svc, none⟩⟩
  if fieldAt m 4 2 ≠ body.length then s.abort c body (0x0D, 4) else s.hostRequest c claimed body

/-- The mailbox reply that is placed next. -/
def State.nextReply (s : State) : Option QMsg :=
  match s.headOf 0x86 with
  | some m => some m
  | none => s.headOf 0x05

/-- Whether a mailbox request is still unanswered. -/
def State.hostUnanswered (s : State) : Bool :=
  let host := fun (c : Caller) => c.dest.via == .host
  s.eng.held.any (fun h => host h.caller) || s.eng.waiting.any (fun h => host h.caller)
    || s.eng.deferredPower.any (fun h => host h.caller) || s.eng.commit.any (fun r => host r.caller && r.form != .none)
    || s.upd.segments.any (fun x => x.caller.any host)

/-- Whether the next request can be taken out of MB_REQ_BUF: none is unanswered, and no reply waits for the host, so that
one request is outstanding and one reply at most waits behind another (R266, R268, R296; log entry 127). -/
def State.mailboxFree (s : State) : Bool := !s.hp.ready && s.nextReply.isNone && !s.hostUnanswered

/-- A request that waits in MB_REQ_BUF taken as soon as it can be (R264). -/
def State.takeNext (s : State) : State := if s.hp.busy && s.vintServes && s.mailboxFree then s.takeMailbox else s

/-- Go with a length (R264, R268, R283). -/
def State.go (s : State) (n : Nat) : State :=
  if s.hp.busy ∨ s.hp.outstanding then s.hostFlag 1
  else if n < 8 ∨ 968 < n then s.hostFlag 2
  else
    let s : State := { s with hp.reqLength := BitVec.ofNat 11 n, hp.busy := true }
    (s.bump Obj.hostPortMailboxRequests 1).takeNext

/-- Ack (R266, R268): the reply is released, the next may be written, and a request that waited is taken. -/
def State.ackReply (s : State) : State :=
  if !s.hp.ready then s
  else
    let s : State := if s.hp.rspFinal then { s with hp := { s.hp with ready := false, rspFinal := false, outstanding := false } }
      else { s with hp.ready := false }
    s.takeNext

/-- MAILBOX_GO (R262 to R264, R268, R302): MB_REQ written with Go. -/
def execMailboxGo (length : BitVec 11) (s : State) : Out := .next (s.when s.vintServes (fun s => s.go length.toNat))

/-- The next reply placed in MB_RSP_BUF (R261, R265, R266). -/
def State.placeReply (s : State) : State :=
  match s.nextReply with
  | none => s
  | some m =>
    match m.body with
    | .mail bs =>
      let final := s.hp.outstanding && (fieldAt bs 2 1).testBit 4
      let s : State := { s with
        mems.mbRsp := memWriteAll zeroByte s.mems.mbRsp 0 (bs.take 1024)
        hp := { s.hp with ready := true, rspLength := BitVec.ofNat 11 bs.length, rspFinal := final } }
      ((s.raiseIrq 0).take m.queue).serveHeld
    | _ => (s.take m.queue).serveHeld

/-- MAILBOX_REPLY (R261, R265). -/
def execMailboxReply (s : State) : Out := .next (s.when (s.vintServes && !s.hp.ready) (fun s => s.placeReply))

/-- MAILBOX_ACK (R266, R268): MB_RSP written with Ack. -/
def execMailboxAck (s : State) : Out := .next (s.when s.vintServes (fun s => (s.ackReply).serveHeld))

/-! ## Register writes (R259, R260, R279, R280) -/

/-- HP_IRQ_STATUS bits cleared (R261). -/
def State.clearIrq (s : State) (mask : Nat) : State :=
  { s with hp.irqStatus := s.hp.irqStatus &&& ~~~ BitVec.ofNat 32 mask }

/-- HP_STICKY bits cleared (R181, R283): no session, the host port's address. -/
def State.clearHostSticky (s : State) (mask : Nat) : State := s.stickyClear none 0xFFFF Obj.hostPortSticky mask

/-- RCV_BUF programmed into the bank that Boot.SelectedBank names (R273). -/
def State.programChunk (s : State) : State :=
  let bank := s.get Obj.bootSelectedBank
  let chunk := memSlice zeroByte s.mems.rcv 0 4096
  let s := s.setBank bank (memWriteAll zeroByte (s.bankMem bank) (4096 * s.hp.rcvOffset.toNat) chunk)
  let s : State := if bank = s.boot.running then { s with boot.rewritten := true } else s
  ({ s with hp.rcvResult := 1 } : State).raiseIrq 4

/-- Verify of the recovery window (R103, R273, R283): a bank that passes starts the restart of R71; one that fails leaves
the window open. -/
def State.rcvVerify (s : State) : State :=
  match s.bundleFault (s.bankFacts (s.get Obj.bootSelectedBank)) with
  | none => ((({ s with hp.rcvResult := 2, hp.rcvFailed := 0 } : State).raiseIrq 4).set Obj.updateFailedCheck 0).restart 3
  | some f => (({ s with hp.rcvResult := 3, hp.rcvFailed := BitVec.ofNat 4 f.2 } : State).raiseIrq 4).hostFlag 4

/-- RCV_CTRL written (R273): Commit, then Verify; an Offset beyond 383 programs nothing. -/
def State.writeRcvCtrl (s : State) (v : Nat) : State :=
  let s : State := { s with hp.rcvOffset := BitVec.ofNat 21 v }
  let s := if v.testBit 31 ∧ s.power.recovery ∧ s.hp.rcvOffset.toNat ≤ 383 then s.programChunk else s
  if v.testBit 30 ∧ s.power.recovery then s.rcvVerify else s

/-- A register written (Table 7-2): reserved bits are ignored (R2). -/
def State.writeReg (s : State) (a v : Nat) : State :=
  if a = 0x30 then s.writeRcvCtrl v
  else if s.power.recovery then s
  else if a = 0x08 then s.clearIrq v
  else if a = 0x0C then s.set Obj.hostPortIrqEnable (v % 32)
  else if a = 0x10 then s.clearHostSticky v
  else if a = 0x18 then
    if v.testBit 31 then s.go (v % 2048)
    else if s.hp.busy then s
    else { s with hp.reqLength := BitVec.ofNat 11 v }
  else if a = 0x1C then (if v.testBit 30 then s.ackReply else s)
  else s

/-- A buffer byte written. -/
def State.writeBufferByte (s : State) (a : Nat) (b : Byte) : State :=
  if 0x1000 ≤ a ∧ a < 0x2000 then { s with mems.rcv := memWrite zeroByte s.mems.rcv (a - 0x1000) b }
  else if s.power.recovery then s
  else if 0x100 ≤ a ∧ a < 0x500 then { s with mems.mbReq := memWrite zeroByte s.mems.mbReq (a - 0x100) b }
  else s

/-- Buffer bytes from an address on. -/
def State.writeBuffer (s : State) (a : Nat) : Bytes → State
  | [] => s
  | b :: bs => State.writeBuffer (s.writeBufferByte a b) (a + 1) bs

/-- Complete registers from an address on. -/
def State.writeRegs (s : State) (a : Nat) : List Nat → State
  | [] => s
  | v :: vs => State.writeRegs (s.writeReg a v) (a + 4) vs

/-- The data bytes of a Write (R260, R279, R280). -/
def State.writeWindow (s : State) (a : Nat) (data : Bytes) : State :=
  if 0x100 ≤ a then s.writeBuffer a data
  else if a % 4 ≠ 0 then s.hostFlag 2
  else
    let words := min (data.length / 4) ((0x100 - a) / 4)
    let s := s.writeRegs a ((List.range words).map (fun i => fieldAt data (4 * i) 4))
    if 0x100 - a < data.length then s.writeBuffer 0x100 (data.drop (0x100 - a)) else s

/-- HOST_WRITE (R259, R260, R279, R280). -/
def execHostWrite (addr : BitVec 16) (data : Bytes) (s : State) : Out :=
  .next (s.when s.awake (fun s =>
    let t := s.shiftOut s.statusByte []
    if s.coreUp then (t.writeWindow addr.toNat data).serveHeld else t))

/-- BAD_COMMAND (R256, R258, R283): a code of Table 7-1 is no bad command. -/
def execBadCommand (code : Byte) (s : State) : Out :=
  .next (s.when (s.awake && !([0x03#8, 0x02#8, 0x0B#8, 0xAB#8].contains code)) (fun s =>
    (s.shiftOut s.statusByte []).hostFlag 2))

/-- HP_IRQ_STATUS_CLEAR (R261). -/
def execHpIrqStatusClear (mask : BitVec 32) (s : State) : Out :=
  .next (s.when s.vintServes (fun s => s.clearIrq mask.toNat))

/-- HP_STICKY_CLEAR (R181, R283). -/
def execHpStickyClear (mask : BitVec 32) (s : State) : Out :=
  .next (s.when s.vintServes (fun s => s.clearHostSticky mask.toNat))

/-- LO_READ_LATCH (R269). -/
def execLoReadLatch (pair : WidePair) (s : State) : Out :=
  .next (s.when s.vintServes (fun s =>
    let r := s.readLo pair
    r.2.shiftOut s.statusByte (leBytes 4 r.1)))

/-- HI_READ (R270, R271). -/
def execHiRead (pair : WidePair) (s : State) : Out :=
  .next (s.when s.vintServes (fun s =>
    let r := s.readHi pair
    r.2.shiftOut s.statusByte (leBytes 4 r.1)))

/-! ## Forensic readout (R274 to R278, R282) -/

/-- The identity region (Table 7-9). -/
def State.identityRegion (s : State) : Bytes :=
  s.bytesOf Obj.identityVendor ++ s.bytesOf Obj.identityFamily ++ s.bytesOf Obj.identityDeviceCode
    ++ s.bytesOf Obj.identityDieRevision ++ [0x00#8] ++ s.bytesOf Obj.identitySerialNumber
    ++ s.bytesOf Obj.identityManufactureDate ++ s.dikCertificate

/-- A byte of the Vintage; the entry in programming shows without its completion marker (R278). -/
def State.vintByte (s : State) (a : Nat) : Byte :=
  match s.cask.vintWork with
  | w :: _ =>
    if s.armed .vintage ∧ a / 32 = w.1 then (if a % 32 = 27 then 0x00#8 else w.2.getD (a % 32) 0x00#8)
    else memRead zeroByte s.mems.vint a
  | [] => memRead zeroByte s.mems.vint a

/-- A byte of a forensic region (Table 7-8); what lies beyond reads 0x00. -/
def State.forensicByte (s : State) (region a : Nat) : Byte :=
  if region = 0 ∧ a < 192 then s.identityRegion.getD a 0x00#8
  else if region = 1 ∧ a < 65536 then memRead zeroByte s.mems.cask a
  else if region = 2 ∧ a < 2048 then s.vintByte a
  else if region = 3 ∧ a < 256 then memRead ctlByte s.mems.ctl a
  else 0x00#8

/-- FORENSIC_READ (R274, R275, R282): bytes at rising addresses of 24 bits, in every power state but OFF; nothing but the
pins changes. -/
def execForensicRead (addr : BitVec 24) (len : Nat) (s : State) : Out :=
  .next (s.when s.awake (fun s =>
    s.shiftOut s.statusByte
      ((List.range len).map (fun i =>
        let a := (addr.toNat + i) % 2 ^ 24
        s.forensicByte (a / 65536) (a % 65536)))))

/-- WAKE (R86, R272, R275, R504): the key byte 0x57 and nothing more ends a lockout and, in DORMANT, starts the unit. -/
def execWake (body : Bytes) (s : State) : Out :=
  .next (s.when s.awake (fun s =>
    let t := s.shiftOut s.statusByte []
    if body ≠ [0x57#8] ∨ s.power.recovery then t
    else
      let t := t.endLockout
      if t.power.state = .dormant ∧ t.bit Obj.powerStateWakeSources 3 ∧ t.trellisOk ∧ t.power.trans.isNone then
        ({ t with power.wakePending := true } : State).wakeStart 0x0C false
      else t))

/-! ## The recovery window (R105, R273) -/

/-- RCV_COMMIT (R273). -/
def execRcvCommit (offset : BitVec 21) (s : State) : Out :=
  .next (s.when s.power.recovery (fun s => s.writeRcvCtrl (2 ^ 31 + offset.toNat)))

/-- RCV_VERIFY (R103, R273, R283): RCV_CTRL written with Verify and an Offset, which Verify does not use. -/
def execRcvVerify (offset : BitVec 21) (s : State) : Out :=
  .next (s.when s.power.recovery (fun s => s.writeRcvCtrl (2 ^ 30 + offset.toNat)))

end Sys2Proof.Machine
end

