-- ==== Sys2Proof/Machine/Loop.lean ====
section
/-!
DEFINITION. Loop-frame boundaries, probes, re-checks, the oscillation detector, the noise hold and the end of a timed
lockout (ch. 11).
-/

namespace Sys2Proof.Machine

open Sys2Proof

/-- LOOP_FRAME (R175, R388, R396 to R413, R416, R417, R420, R421, R431, R449): a loop frame of a direction ends; what
waited for the commit engine goes on. -/
def execLoopFrame (d : Dir) (meas : List PathMeas) (s : State) : Out :=
  .next (s.when (s.running && s.power.pressReady && !s.sec.halted.contains .press)
    (fun s => (s.loopFrame d meas).serveWaiting))

/-- PROBE_END (R410, R411, R431, R458, R545, R643 to R646, R657): the 40 ms of a band's probe are over; the path named is
one of the band's. -/
def execProbeEnd (path : Fin 16) (own partner : PathMeas) (s : State) : Out :=
  .next (s.onTimer (.probe path.val) (fun s =>
    let q := s.partnerOf path.val
    s.when (s.get (Obj.stabState path.val) == 1 && s.get (Obj.stabState q) == 1)
      (fun s => s.probeEnd path.val q own partner)))

/-- PROBE_RETRY (R411): Stab.ProbeInterval has passed since a failed probe; the next boundary starts another. -/
def execProbeRetry (path : Fin 16) (s : State) : Out :=
  .next (s.onTimer (.probeRetry path.val) (fun s =>
    let q := s.partnerOf path.val
    match s.deadline (.probeRetry q) with
    | some t => if t ≤ s.now then s.disarm (.probeRetry q) else s
    | none => s))

/-- RECHECK_TIMEOUT (R416, R430): the Raise entries are targets, and the gains of the direction do not rise until a frame
counts. -/
def execRecheckTimeout (d : Dir) (s : State) : Out :=
  .next (s.onTimer (.recheck d) (fun s =>
    let s := ((s.raiseDir d true).setHeld d true).faultRow Obj.stabSticky 2 .press 0x1503 1 31 (u32 (dirNum d))
    s.settleGains))

/-- OSC_BLOCK_END (R414, R417): a block of 256 samples of an unmuted path ends with its correlation and envelope. -/
def execOscBlockEnd (path : Fin 16) (rho envelope : BitVec 16) (s : State) : Out :=
  let p := path.val
  .next (s.when (s.power.pressReady && s.unmuted p) (fun s =>
    let s := s.set (Obj.stabRho p) rho.toNat
    let high := decide (s.get Obj.oscRho ≤ rho.toNat ∧ s.getI Obj.oscLevel ≤ toSigned 2 envelope.toNat)
    let n := if high then (s.path p).osc + 1 else 0
    let s := s.setPath p { s.path p with osc := n }
    if s.get Obj.oscBlocks ≤ n then ((s.setPath p { s.path p with osc := 0 }).fabEvent p 10).netTrigger 1 [p] else s))

/-- NOISE_HOLD_EXPIRY (R417): the noise has exceeded its limit for Net.NoiseHold while the noise cap is in force. -/
def execNoiseHoldExpiry (path : Fin 16) (s : State) : Out :=
  .next (s.onTimer (.noiseHold path.val) (fun s => if s.inService path.val then s.netTrigger 3 [path.val] else s))

/-- LOCKOUT_EXPIRY (R421, R422): a timed lockout ends. -/
def execLockoutExpiry (s : State) : Out := .next (s.onTimer .lockout State.endTimedLockout)

end Sys2Proof.Machine
end

