-- ==== Sys2Proof/Machine/Queues.lean ====
section
/-!
DEFINITION. The queue engine's own events (ch. 08): a post, the removal of a message by its consumer, deferral and its
limit, refusals that expire, the credit audit and an escape slot held long.
-/

namespace Sys2Proof.Machine

open Sys2Proof

/-! ## Posts (R284 to R295) -/

/-- The record that a message of the log class spells: code, severity, source, then its payload (log entry 50). -/
def State.rawLog (s : State) (q : Nat) (b : Bytes) : LogMsg :=
  ⟨fieldAt b 0 2, decide (0xE4 ≤ q ∧ q < 0xE8), fieldAt b 2 1 % 4, fieldAt b 3 1, s.opSeconds,
    s.get Obj.powerStatePowerCycleCount, 0, decide (0xE8 ≤ q), sliceBytes b 4 60⟩

/-- Whether a queue belongs to a field-port transmitter. -/
def isTxQueue (q : Nat) : Bool :=
  (ownTxQueues .a ++ fwdTxQueues .a ++ ownTxQueues .b ++ fwdTxQueues .b).contains q

/-- The port whose transmitter consumes a queue. -/
def txPort (q : Nat) : Port := if (ownTxQueues .a ++ fwdTxQueues .a).contains q then .a else .b

/-- What a posted message is for its consumer: a record, a frame (identifier, then data), a mailbox reply or plain
bytes. -/
def State.posted (s : State) (q : Nat) (b : Bytes) : Msg :=
  if qClass q = 1 then .log (s.rawLog q b)
  else if isTxQueue q then .frame (mkFrame (BitVec.ofNat 29 (fieldAt b 0 4)) (b.drop 4))
  else if q = 0x86 ∨ q = 0x05 then .mail b
  else .raw b

/-- What a post meets when no credit is free: hardware monitors and the Cellarmaster latch, a port or mailbox is refused,
everyone else waits (R287, R295). -/
def postKind (q : Nat) (derived : Bool) : PostKind :=
  if q = 0x20 ∨ producerOf q = .monitors then .latched
  else if derived then .derived
  else if qCanRefuse q then .refusable
  else .fresh

/-- QUEUE_POST (R284 to R295): one message to one queue by its producer (`producerOf`); an unused queue takes none. -/
def execQueuePost (queue : Byte) (body : Bytes) (derived : Bool) (s : State) : Out :=
  let q := queue.toNat
  .next (s.when (s.awake && decide (0 < qDepth q)) (fun s =>
    let s := (s.post (postKind q derived) q 1 (s.posted q (body.take 64))).noteSummary
    if isTxQueue q && !s.armed (.txLife (txPort q) q) && (s.headOf q).isSome then s.rearmTx (txPort q) q else s))

/-! ## Who serves what (Table 8-2, R292) -/

/-- The queue of a list that comes next in turn after the one served last. -/
def inTurn (last : Option Nat) (qs : List Nat) : Option Nat :=
  match last with
  | none => qs.head?
  | some l =>
    match qs.find? (fun q => decide (l < q)) with
    | some q => some q
    | none => qs.head?

/-- The queue that a consumer serves next (R292): the safety class, then a queue passed over 256 times, then the lowest
class, in turn within it. -/
def State.nextServed (s : State) (c : Nat) : Option Nat :=
  let qs := s.served c
  let safety := qs.filter (fun q => qClass q == 0)
  if !safety.isEmpty then inTurn (s.lastServed c 0) safety
  else
    match qs.find? (fun q => decide (256 ≤ lookupD s.q.passed q 0)) with
    | some q => some q
    | none =>
      let cls := qs.foldl (fun n q => min n (qClass q)) 8
      inTurn (s.lastServed c cls) (qs.filter (fun q => qClass q == cls))

/-! ## What a consumer does with a message -/

/-- The core whose watchdog a safety queue services. -/
def serviceOf (q : Nat) : Option CoreId :=
  if q = 0xF0 then some .press else if q = 0xF4 then some .vintner else if q = 0xF8 then some .cork else none

/-- The Cellarmaster removes a safety message (R294): watchdog service restarts its timer, and the Press's report of a feed
collapse is acted on (R459). -/
def State.takeSafety (s : State) (q : Nat) : State :=
  match serviceOf q with
  | some c =>
    let s := s.take q
    if s.armed (.watchdog c) then s.arm (.watchdog c) (s.watchdogTime c) else s
  | none =>
    if q = 0xF2 ∧ s.feed.report then (s.take q).collapseReported else s.take q

/-- The Cellarmaster writes a log message into the Cask (R294). -/
def State.takeLog (s : State) (q : Nat) : State :=
  match s.headOf q with
  | some ⟨_, _, _, _, _, .log m⟩ =>
    if s.cask.scanned ∧ !s.cask.clearing then (s.take q).commitMsg m true true else s
  | _ => s.take q

/-- The Jensiac transmitter takes a frame (R296, R631): sent with the next sequence number while the link has its clock and
is not down, else discarded. -/
def State.takeLink (s : State) (q : Nat) : State :=
  let s := s.take q
  if s.get Obj.twinLinkState ≠ 0 ∧ s.power.linkLocked then
    ({ s with twin.txSeq := (s.twin.txSeq + 1) % 65536 } : State).linkStat 0
  else s

/-- The Vintner sends the Notify that another core or a monitor has asked for (R232): the slot is that of the matching
record, where it has been written by now (log entry 124). -/
def State.takeNotify (s : State) (q : Nat) : State :=
  match s.headOf q with
  | some ⟨_, _, _, _, _, .raw b⟩ =>
    let e := fieldAt b 0 1
    let slot := fieldAt b 1 2
    let code := fieldAt b 3 2
    let slot := if slot = 0xFFFF ∧ code ≠ 0 then s.slotOfCode code else slot
    if 1 ≤ e ∧ e ≤ 8 then (s.take q).notify e slot (b.drop 5) else s.take q
  | _ => s.take q

/-- The consumer of a queue removes the message at its head and handles it. -/
def State.consume (s : State) (q : Nat) : State :=
  if qClass q = 0 then s.takeSafety q
  else if qClass q = 1 then s.takeLog q
  else if q = 0xB8 ∨ q = 0xBA then s.takeLink q
  else if q = 0xD5 then (s.take q).releaseHkb
  else if 0x1E ≤ q ∧ q ≤ 0x21 then s.takeNotify q
  else if q = 0x08 then (s.programSegment).take q
  else s.take q

/-- QUEUE_TAKE (R284 to R292, R294, R296): the consumer of a queue serves it, if it is the one that its order has it serve
next and every message that it will post finds its credit, the Cellarmaster only while its pair does not recover (R92);
a transmitter sends the frame that wins (R297), and the mailbox places its next reply while none is ready. -/
def execQueueTake (queue : Byte) (s : State) : Out :=
  let q := queue.toNat
  let c := consumerOf q
  .next (s.when (s.awake && (s.headOf q).isSome) (fun s =>
    if isTxQueue q then
      let p := txPort q
      if s.portUp p ∧ (lowestFrame (s.txHeads p)).any (fun x => x.1 == q) then s.transmit p else s
    else if c = 6 then (if s.vintServes ∧ !s.hp.ready ∧ (s.nextReply).any (fun m => m.queue == q) then s.placeReply else s)
    else if s.nextServed c = some q ∧ !(c = 0 && s.wd.lockstepBusy) then
      let t := (s.noteServed c q).handle (fun s => s.consume q)
      if c ≠ 0 ∧ s.derivedWaits < t.derivedWaits then s else (t.noteSummary).serveHeld
    else s))

/-! ## Deferral (R303 to R306) -/

/-- A held request answered with abort 0x0A, its limit running. -/
def State.deferHeld (s : State) (h : Held) : State :=
  let s := { s with eng.held := s.eng.held.map (fun x => if x == h then { x with answered := true } else x) }
  let left := 1000 * s.get Obj.queueDeferLimit - 10000
  (s.arm (.deferLimit h.caller.dest.peer h.caller.dest.tid) left).abort h.caller h.body (0x0A, 0)

/-- A segment in programming answered with abort 0x0A. -/
def State.deferSegment (s : State) (g : Seg) (c : Caller) : State :=
  let s := { s with upd.segments := s.upd.segments.map (fun x => if x == g then { x with answered := true } else x) }
  (s.abort c (leBytes 2 0x9000 ++ [0x04#8]) (0x0A, 0)).endSpent

/-- DEFER_TIMEOUT (R303, R305): no reply 10 ms after a request's last frame. -/
def execDeferTimeout (src : BitVec 16) (tid : Byte) (s : State) : Out :=
  let mine := fun (c : Caller) => c.dest.peer == src.toNat && c.dest.tid == tid.toNat
  .next (s.onTimer (.defer src.toNat tid.toNat) (fun s =>
    match s.eng.held.find? (fun h => mine h.caller && !h.answered) with
    | some h => s.deferHeld h
    | none =>
      match s.upd.segments.find? (fun g => g.caller.any mine && !g.answered) with
      | some ⟨some c, o, d, a⟩ => s.deferSegment ⟨some c, o, d, a⟩ c
      | _ => s))

/-- DEFER_LIMIT_EXPIRY (R304, R310): a delayed request that still waits is withdrawn; the detail names the queue whose
credit it lacked. -/
def execDeferLimitExpiry (src : BitVec 16) (tid : Byte) (s : State) : Out :=
  .next (s.onTimer (.deferLimit src.toNat tid.toNat) (fun s =>
    match s.eng.held.find? (fun h => h.answered && h.caller.dest.peer == src.toNat && h.caller.dest.tid == tid.toNat) with
    | none => s
    | some h =>
      let s := s.unqueue h
      let s : State := { s with eng.held := s.eng.held.erase h }
      let s := ((s.bump Obj.queueDeferRefusedCount 1).countDrop h.lacks).noteRefusal h.lacks true src.toNat
      let s := s.faultRow Obj.queueSticky 1 .vintner 0x0D02 1 31 []
      (s.abort { h.caller with deferred := true } h.body (9, h.lacks)).serveHeld))

/-- REFUSAL_EXPIRY (R301): a refusal that has not won arbitration within 20 ms is withdrawn. -/
def execRefusalExpiry (p : Port) (s : State) : Out :=
  .next (s.onTimer (.refusal p) (fun s =>
    let e := s.portEng p
    match e.refusals with
    | [] => s
    | _ :: rest => ((s.setPortEng p { e with refusals := rest }).refusalGone).rearmRefusal p))

/-! ## Faults of the engine (R310, R311) -/

/-- The messages of a queue discarded and its credits restored (R311): requests among them get no reply and are not
remembered, and an update goes on at the first segment lost. -/
def State.discardQueue (s : State) (q : Nat) : State :=
  let gone := s.eng.held.filter (fun h => h.queue == q)
  let lost := fun (src tid : Nat) => gone.any (fun h => h.caller.dest.peer == src && h.caller.dest.tid == tid)
  let s := { s with
    q.msgs := s.q.msgs.filter (fun m => m.queue != q)
    eng.held := s.eng.held.filter (fun h => h.queue != q)
    field := { s.field with reasm := s.field.reasm.filter (fun g => g.queue != q),
                            retx := s.field.retx.filter (fun r => !lost r.src r.tid) } }
  let s := match q, s.upd.segments with
    | 0x08, g :: _ => ({ s with upd.segments := [] } : State).set Obj.updateReceived g.offset
    | _, _ => s
  if s.escapeTaken (qClass q) then s else (s.disarm (.escape (qClass q))).escapeWaiting (qClass q)

/-- CREDIT_AUDIT (R310, R311): the 1 ms check of one queue, with the count it found. -/
def execCreditAudit (queue : Byte) (found : Nat) (s : State) : Out :=
  let q := queue.toNat
  .next (s.when (s.awake && found != qDepth q) (fun s =>
    (((s.discardQueue q).faultRow Obj.queueSticky 7 .monitors 0x0E08 1 31
      (leBytes 4 q ++ leBytes 4 (qDepth q) ++ leBytes 4 found)).placeWaiting q).serveHeld))

/-- ESCAPE_HELD (R310): an escape slot occupied for more than 100 ms. -/
def execEscapeHeld (cls : Fin 8) (s : State) : Out :=
  .next (s.onTimer (.escape cls.val) (fun s =>
    match s.q.msgs.find? (fun m => m.escape && qClass m.queue == cls.val) with
    | some m => s.faultRow Obj.queueSticky 4 .monitors 0x0E05 1 31 (leBytes 4 cls.val ++ leBytes 4 m.queue)
    | none => s))

end Sys2Proof.Machine
end

