-- ==== Sys2Proof/Machine/Dispatch.lean ====
section
/-!
DEFINITION. The dispatch: one arm per command, each one direct call of its meaning.
-/

namespace Sys2Proof.Machine

open Sys2Proof

/-- What a command does to everything but the queue. -/
def exec (i : Instr) (s : State) : Host.Outcome State Fault Refusal :=
  match i with
  | .vddAonRise => Sys2Proof.Machine.execVddAonRise s
  | .brownOut => Sys2Proof.Machine.execBrownOut s
  | .vddioALevelSelect above25 => Sys2Proof.Machine.execVddioALevelSelect above25 s
  | .hostCellSupplySwitch toAon => Sys2Proof.Machine.execHostCellSupplySwitch toAon s
  | .rstNLow => Sys2Proof.Machine.execRstNLow s
  | .powerOnAutostart => Sys2Proof.Machine.execPowerOnAutostart s
  | .holdupRestartDelayExpiry => Sys2Proof.Machine.execHoldupRestartDelayExpiry s
  | .restartDelayExpiry => Sys2Proof.Machine.execRestartDelayExpiry s
  | .wakeTimerExpiry => Sys2Proof.Machine.execWakeTimerExpiry s
  | .fieldPortWake p => Sys2Proof.Machine.execFieldPortWake p s
  | .requestDormant r => Sys2Proof.Machine.execRequestDormant r s
  | .requestStandby r => Sys2Proof.Machine.execRequestStandby r s
  | .requestActive r => Sys2Proof.Machine.execRequestActive r s
  | .requestService r => Sys2Proof.Machine.execRequestService r s
  | .requestRestart r => Sys2Proof.Machine.execRequestRestart r s
  | .serviceTimeout => Sys2Proof.Machine.execServiceTimeout s
  | .feedCollapseReport => Sys2Proof.Machine.execFeedCollapseReport s
  | .holdupComplete => Sys2Proof.Machine.execHoldupComplete s
  | .refInFirstPresent => Sys2Proof.Machine.execRefInFirstPresent s
  | .refInLoss => Sys2Proof.Machine.execRefInLoss s
  | .refInReturn => Sys2Proof.Machine.execRefInReturn s
  | .linkHoldoverExpiry => Sys2Proof.Machine.execLinkHoldoverExpiry s
  | .samplePllUnlock status => Sys2Proof.Machine.execSamplePllUnlock status s
  | .samplePllRelock => Sys2Proof.Machine.execSamplePllRelock s
  | .lockDeclared window1 window2 => Sys2Proof.Machine.execLockDeclared window1 window2 s
  | .clockMuxToPll => Sys2Proof.Machine.execClockMuxToPll s
  | .relockTimeout lastCount => Sys2Proof.Machine.execRelockTimeout lastCount s
  | .relockRetry => Sys2Proof.Machine.execRelockRetry s
  | .droopStretch => Sys2Proof.Machine.execDroopStretch s
  | .stretchRelease => Sys2Proof.Machine.execStretchRelease s
  | .stretchLong s00mV => Sys2Proof.Machine.execStretchLong s00mV s
  | .agingTrim growth => Sys2Proof.Machine.execAgingTrim growth s
  | .pressWatchdogExpiry => Sys2Proof.Machine.execPressWatchdogExpiry s
  | .coreWatchdogExpiry c => Sys2Proof.Machine.execCoreWatchdogExpiry c s
  | .lockstepMismatch cycle signals => Sys2Proof.Machine.execLockstepMismatch cycle signals s
  | .lockstepRecovery => Sys2Proof.Machine.execLockstepRecovery s
  | .secureBoot roleTagFails otherTagFails => Sys2Proof.Machine.execSecureBoot roleTagFails otherTagFails s
  | .configBootLoad crcA crcB => Sys2Proof.Machine.execConfigBootLoad crcA crcB s
  | .bundleConfirm => Sys2Proof.Machine.execBundleConfirm s
  | .revokeSlot0 r => Sys2Proof.Machine.execRevokeSlot0 r s
  | .lifecycleConfirm r value => Sys2Proof.Machine.execLifecycleConfirm r value s
  | .lifecycleRequest r target => Sys2Proof.Machine.execLifecycleRequest r target s
  | .lifecycleTransition => Sys2Proof.Machine.execLifecycleTransition s
  | .roleKeyWrite r which key => Sys2Proof.Machine.execRoleKeyWrite r which key s
  | .sessionOpen r role version peer nc => Sys2Proof.Machine.execSessionOpen r role version peer nc s
  | .sessionConfirm r sid tagC => Sys2Proof.Machine.execSessionConfirm r sid tagC s
  | .handshakeTimeout slot => Sys2Proof.Machine.execHandshakeTimeout slot s
  | .roleLockoutExpiry role => Sys2Proof.Machine.execRoleLockoutExpiry role s
  | .sessionIdleTimeout slot => Sys2Proof.Machine.execSessionIdleTimeout slot s
  | .sessionLifetimeExpiry slot => Sys2Proof.Machine.execSessionLifetimeExpiry slot s
  | .debugRequest r level => Sys2Proof.Machine.execDebugRequest r level s
  | .debugToken r token => Sys2Proof.Machine.execDebugToken r token s
  | .debugChallengeRead r => Sys2Proof.Machine.execDebugChallengeRead r s
  | .debugTimeout => Sys2Proof.Machine.execDebugTimeout s
  | .idcode => Sys2Proof.Machine.execIdcode s
  | .bypass tdi => Sys2Proof.Machine.execBypass tdi s
  | .samplePreload => Sys2Proof.Machine.execSamplePreload s
  | .extest cells => Sys2Proof.Machine.execExtest cells s
  | .entropyFail => Sys2Proof.Machine.execEntropyFail s
  | .entropyRetest pass => Sys2Proof.Machine.execEntropyRetest pass s
  | .receiptSigned inTime => Sys2Proof.Machine.execReceiptSigned inTime s
  | .read r index sub => Sys2Proof.Machine.execRead r index sub s
  | .write r index sub type value => Sys2Proof.Machine.execWrite r index sub type value s
  | .stagedWrite r index sub type value => Sys2Proof.Machine.execStagedWrite r index sub type value s
  | .commit r => Sys2Proof.Machine.execCommit r s
  | .discard r => Sys2Proof.Machine.execDiscard r s
  | .stageTimeout who => Sys2Proof.Machine.execStageTimeout who s
  | .configWriteDone verified => Sys2Proof.Machine.execConfigWriteDone verified s
  | .commitDefer => Sys2Proof.Machine.execCommitDefer s
  | .counterWriteback => Sys2Proof.Machine.execCounterWriteback s
  | .stickyClear r index sub mask => Sys2Proof.Machine.execStickyClear r index sub mask s
  | .stickyClearAll r => Sys2Proof.Machine.execStickyClearAll r s
  | .restoreDefaults r => Sys2Proof.Machine.execRestoreDefaults r s
  | .updateBegin r length => Sys2Proof.Machine.execUpdateBegin r length s
  | .updateData r offset total data => Sys2Proof.Machine.execUpdateData r offset total data s
  | .imageSegmentDone => Sys2Proof.Machine.execImageSegmentDone s
  | .updateVerify r => Sys2Proof.Machine.execUpdateVerify r s
  | .updateVerifyDone micros => Sys2Proof.Machine.execUpdateVerifyDone micros s
  | .updateActivate r => Sys2Proof.Machine.execUpdateActivate r s
  | .updateAbort r => Sys2Proof.Machine.execUpdateAbort r s
  | .blockRead r index sub whole offset maxLen => Sys2Proof.Machine.execBlockRead r index sub whole offset maxLen s
  | .blockWrite r index sub final offset total data => Sys2Proof.Machine.execBlockWrite r index sub final offset total data s
  | .blockTimeout src ofWrite => Sys2Proof.Machine.execBlockTimeout src ofWrite s
  | .obvarFrameReceive p f => Sys2Proof.Machine.execObvarFrameReceive p f s
  | .reassemblyTimeout p src => Sys2Proof.Machine.execReassemblyTimeout p src s
  | .frameTransmit p => Sys2Proof.Machine.execFrameTransmit p s
  | .txLifetimeExpiry p queue => Sys2Proof.Machine.execTxLifetimeExpiry p queue s
  | .heartbeat p => Sys2Proof.Machine.execHeartbeat p s
  | .heartbeatReceive p src => Sys2Proof.Machine.execHeartbeatReceive p src s
  | .nodeOffline node => Sys2Proof.Machine.execNodeOffline node s
  | .timeSet r broadcast utcSeconds micros source => Sys2Proof.Machine.execTimeSet r broadcast utcSeconds micros source s
  | .locateQuery p q => Sys2Proof.Machine.execLocateQuery p q s
  | .locateReply acked => Sys2Proof.Machine.execLocateReply acked s
  | .assign r newAddress serial segA segB => Sys2Proof.Machine.execAssign r newAddress serial segA segB s
  | .getStatus r => Sys2Proof.Machine.execGetStatus r s
  | .setRoutes r start count codes => Sys2Proof.Machine.execSetRoutes r start count codes s
  | .setForwarding r enable => Sys2Proof.Machine.execSetForwarding r enable s
  | .ping r hopCount => Sys2Proof.Machine.execPing r hopCount s
  | .busOff p => Sys2Proof.Machine.execBusOff p s
  | .busOffHoldoffExpiry p => Sys2Proof.Machine.execBusOffHoldoffExpiry p s
  | .busOffWaitReset p => Sys2Proof.Machine.execBusOffWaitReset p s
  | .errorPassive p => Sys2Proof.Machine.execErrorPassive p s
  | .stuckDominant p => Sys2Proof.Machine.execStuckDominant p s
  | .restrictedLong => Sys2Proof.Machine.execRestrictedLong s
  | .hostRead addr len => Sys2Proof.Machine.execHostRead addr len s
  | .hostWrite addr data => Sys2Proof.Machine.execHostWrite addr data s
  | .badCommand code => Sys2Proof.Machine.execBadCommand code s
  | .forensicRead addr len => Sys2Proof.Machine.execForensicRead addr len s
  | .wake body => Sys2Proof.Machine.execWake body s
  | .mailboxGo length => Sys2Proof.Machine.execMailboxGo length s
  | .mailboxReply => Sys2Proof.Machine.execMailboxReply s
  | .mailboxAck => Sys2Proof.Machine.execMailboxAck s
  | .hpIrqStatusClear mask => Sys2Proof.Machine.execHpIrqStatusClear mask s
  | .hpStickyClear mask => Sys2Proof.Machine.execHpStickyClear mask s
  | .loReadLatch pair => Sys2Proof.Machine.execLoReadLatch pair s
  | .hiRead pair => Sys2Proof.Machine.execHiRead pair s
  | .rcvCommit offset => Sys2Proof.Machine.execRcvCommit offset s
  | .rcvVerify offset => Sys2Proof.Machine.execRcvVerify offset s
  | .queuePost queue body derived => Sys2Proof.Machine.execQueuePost queue body derived s
  | .queueTake queue => Sys2Proof.Machine.execQueueTake queue s
  | .deferTimeout src tid => Sys2Proof.Machine.execDeferTimeout src tid s
  | .deferLimitExpiry src tid => Sys2Proof.Machine.execDeferLimitExpiry src tid s
  | .refusalExpiry p => Sys2Proof.Machine.execRefusalExpiry p s
  | .creditAudit queue found => Sys2Proof.Machine.execCreditAudit queue found s
  | .escapeHeld cls => Sys2Proof.Machine.execEscapeHeld cls s
  | .clearHighWater r => Sys2Proof.Machine.execClearHighWater r s
  | .adcCalibrationDone conv ok stage => Sys2Proof.Machine.execAdcCalibrationDone conv ok stage s
  | .tasteBlockEnd pair differing largest => Sys2Proof.Machine.execTasteBlockEnd pair differing largest s
  | .adcOverrange conv => Sys2Proof.Machine.execAdcOverrange conv s
  | .dcFreezeEnd conv => Sys2Proof.Machine.execDcFreezeEnd conv s
  | .elementSaturation path element samples => Sys2Proof.Machine.execElementSaturation path element samples s
  | .dacClip d => Sys2Proof.Machine.execDacClip d s
  | .settleEnd path => Sys2Proof.Machine.execSettleEnd path s
  | .syncEdge => Sys2Proof.Machine.execSyncEdge s
  | .syncNow r => Sys2Proof.Machine.execSyncNow r s
  | .detectorWindowEnd path pmax sum clipped => Sys2Proof.Machine.execDetectorWindowEnd path pmax sum clipped s
  | .envelopeHigh path level => Sys2Proof.Machine.execEnvelopeHigh path level s
  | .envelopeLow path level => Sys2Proof.Machine.execEnvelopeLow path level s
  | .fabricPost path => Sys2Proof.Machine.execFabricPost path s
  | .feEntryDone received => Sys2Proof.Machine.execFeEntryDone received s
  | .runInit r => Sys2Proof.Machine.execRunInit r s
  | .lockPoll d level => Sys2Proof.Machine.execLockPoll d level s
  | .lockTimeout d => Sys2Proof.Machine.execLockTimeout d s
  | .feSequenceReplay => Sys2Proof.Machine.execFeSequenceReplay s
  | .leDetect d both => Sys2Proof.Machine.execLeDetect d both s
  | .leRelease => Sys2Proof.Machine.execLeRelease s
  | .leMaxHold => Sys2Proof.Machine.execLeMaxHold s
  | .leGuardEnd => Sys2Proof.Machine.execLeGuardEnd s
  | .leBarEnd d => Sys2Proof.Machine.execLeBarEnd d s
  | .loopFrame d meas => Sys2Proof.Machine.execLoopFrame d meas s
  | .probeEnd path own partner => Sys2Proof.Machine.execProbeEnd path own partner s
  | .probeRetry path => Sys2Proof.Machine.execProbeRetry path s
  | .recheckTimeout d => Sys2Proof.Machine.execRecheckTimeout d s
  | .oscBlockEnd path rho envelope => Sys2Proof.Machine.execOscBlockEnd path rho envelope s
  | .noiseHoldExpiry path => Sys2Proof.Machine.execNoiseHoldExpiry path s
  | .commandedShutdown r => Sys2Proof.Machine.execCommandedShutdown r s
  | .lockoutExpiry => Sys2Proof.Machine.execLockoutExpiry s
  | .clearLockout r => Sys2Proof.Machine.execClearLockout r s
  | .pmbusTransactionDone agent code result => Sys2Proof.Machine.execPmbusTransactionDone agent code result s
  | .pmbusPoll lane kind => Sys2Proof.Machine.execPmbusPoll lane kind s
  | .pmbAlert => Sys2Proof.Machine.execPmbAlert s
  | .laneStart lane => Sys2Proof.Machine.execLaneStart lane s
  | .laneRegulatorTimeout lane => Sys2Proof.Machine.execLaneRegulatorTimeout lane s
  | .laneReady lane => Sys2Proof.Machine.execLaneReady lane s
  | .laneStop lane => Sys2Proof.Machine.execLaneStop lane s
  | .regulatorRestart lane => Sys2Proof.Machine.execRegulatorRestart lane s
  | .pmbFaultStop lane => Sys2Proof.Machine.execPmbFaultStop lane s
  | .paOverrun => Sys2Proof.Machine.execPaOverrun s
  | .hintPhase w => Sys2Proof.Machine.execHintPhase w s
  | .hkbStart => Sys2Proof.Machine.execHkbStart s
  | .hkbResult entry input => Sys2Proof.Machine.execHkbResult entry input s
  | .droopClear => Sys2Proof.Machine.execDroopClear s
  | .feedStale => Sys2Proof.Machine.execFeedStale s
  | .laneThermalRestart lane => Sys2Proof.Machine.execLaneThermalRestart lane s
  | .dieTrip => Sys2Proof.Machine.execDieTrip s
  | .dieTripClear => Sys2Proof.Machine.execDieTripClear s
  | .sealNLow => Sys2Proof.Machine.execSealNLow s
  | .sealLanesSealed => Sys2Proof.Machine.execSealLanesSealed s
  | .sealClear r => Sys2Proof.Machine.execSealClear r s
  | .sealClearTimer => Sys2Proof.Machine.execSealClearTimer s
  | .hkaStart => Sys2Proof.Machine.execHkaStart s
  | .hkaReading slot input => Sys2Proof.Machine.execHkaReading slot input s
  | .railEnable slot => Sys2Proof.Machine.execRailEnable slot s
  | .pgChange slot high => Sys2Proof.Machine.execPgChange slot high s
  | .coresReady tiuTableOk => Sys2Proof.Machine.execCoresReady tiuTableOk s
  | .warnLeadExpiry => Sys2Proof.Machine.execWarnLeadExpiry s
  | .holdupLeadExpiry => Sys2Proof.Machine.execHoldupLeadExpiry s
  | .holdupStepExpiry slot => Sys2Proof.Machine.execHoldupStepExpiry slot s
  | .railOff slot => Sys2Proof.Machine.execRailOff slot s
  | .railOffTimeExpiry slot => Sys2Proof.Machine.execRailOffTimeExpiry slot s
  | .retryBackoffExpiry => Sys2Proof.Machine.execRetryBackoffExpiry s
  | .attemptReset => Sys2Proof.Machine.execAttemptReset s
  | .clearLatch r => Sys2Proof.Machine.execClearLatch r s
  | .marginHigh r ch => Sys2Proof.Machine.execMarginHigh r ch s
  | .marginLow r ch => Sys2Proof.Machine.execMarginLow r ch s
  | .marginNominal r ch => Sys2Proof.Machine.execMarginNominal r ch s
  | .marginDacStep ch => Sys2Proof.Machine.execMarginDacStep ch s
  | .tiuArm r => Sys2Proof.Machine.execTiuArm r s
  | .tiuCancel r => Sys2Proof.Machine.execTiuCancel r s
  | .tiuStartEdge fineStart => Sys2Proof.Machine.execTiuStartEdge fineStart s
  | .tiuStopEdge coarse fineStop => Sys2Proof.Machine.execTiuStopEdge coarse fineStop s
  | .tiuTimeout => Sys2Proof.Machine.execTiuTimeout s
  | .tiuOverflow => Sys2Proof.Machine.execTiuOverflow s
  | .tdrBurstStart => Sys2Proof.Machine.execTdrBurstStart s
  | .tdrLaunch => Sys2Proof.Machine.execTdrLaunch s
  | .tdrComparatorEnable pastThreshold => Sys2Proof.Machine.execTdrComparatorEnable pastThreshold s
  | .tdrReflection counts => Sys2Proof.Machine.execTdrReflection counts s
  | .tdrStopWindowEnd => Sys2Proof.Machine.execTdrStopWindowEnd s
  | .tdrBurstEnd => Sys2Proof.Machine.execTdrBurstEnd s
  | .waterlineStale => Sys2Proof.Machine.execWaterlineStale s
  | .ovenOkHigh => Sys2Proof.Machine.execOvenOkHigh s
  | .ovenOkLow => Sys2Proof.Machine.execOvenOkLow s
  | .warmTimerExpiry => Sys2Proof.Machine.execWarmTimerExpiry s
  | .lidSample reading => Sys2Proof.Machine.execLidSample reading s
  | .lidCover => Sys2Proof.Machine.execLidCover s
  | .lidTrack => Sys2Proof.Machine.execLidTrack s
  | .lidRetakeDone => Sys2Proof.Machine.execLidRetakeDone s
  | .lidRebaseline r => Sys2Proof.Machine.execLidRebaseline r s
  | .lidBaselineStore => Sys2Proof.Machine.execLidBaselineStore s
  | .lidStartCheck => Sys2Proof.Machine.execLidStartCheck s
  | .lidFault => Sys2Proof.Machine.execLidFault s
  | .lidFaultResume => Sys2Proof.Machine.execLidFaultResume s
  | .caskRecordCommit firstOk secondOk => Sys2Proof.Machine.execCaskRecordCommit firstOk secondOk s
  | .floodTokenRefill code => Sys2Proof.Machine.execFloodTokenRefill code s
  | .caskStartScan => Sys2Proof.Machine.execCaskStartScan s
  | .vintageProgramDone ok => Sys2Proof.Machine.execVintageProgramDone ok s
  | .caskClear r => Sys2Proof.Machine.execCaskClear r s
  | .twinSelChange high => Sys2Proof.Machine.execTwinSelChange high s
  | .hello => Sys2Proof.Machine.execHello s
  | .helloReceive seq serial expected nonce preferred sel => Sys2Proof.Machine.execHelloReceive seq serial expected nonce preferred sel s
  | .confirmReceive seq tag => Sys2Proof.Machine.execConfirmReceive seq tag s
  | .twinHeartbeat => Sys2Proof.Machine.execTwinHeartbeat s
  | .twinHeartbeatReceive seq payload => Sys2Proof.Machine.execTwinHeartbeatReceive seq payload s
  | .jensiacBadFrame why => Sys2Proof.Machine.execJensiacBadFrame why s
  | .twinLinkDown => Sys2Proof.Machine.execTwinLinkDown s
  | .departingReceive seq cause generation => Sys2Proof.Machine.execDepartingReceive seq cause generation s
  | .rackCapture => Sys2Proof.Machine.execRackCapture s
  | .imageChunkReceive seq generation offset data => Sys2Proof.Machine.execImageChunkReceive seq generation offset data s
  | .imageEndReceive seq generation length => Sys2Proof.Machine.execImageEndReceive seq generation length s
  | .startWaitExpiry => Sys2Proof.Machine.execStartWaitExpiry s
  | .claimIntervalExpiry => Sys2Proof.Machine.execClaimIntervalExpiry s
  | .relayTimeExpiry => Sys2Proof.Machine.execRelayTimeExpiry s
  | .handover r => Sys2Proof.Machine.execHandover r s
  | .handoverRequestReceive seq generation => Sys2Proof.Machine.execHandoverRequestReceive seq generation s
  | .handoverAcceptReceive seq generation => Sys2Proof.Machine.execHandoverAcceptReceive seq generation s
  | .handoverTimeout => Sys2Proof.Machine.execHandoverTimeout s
  | .authFailRestart => Sys2Proof.Machine.execAuthFailRestart s
  | .relayLostDemotion => Sys2Proof.Machine.execRelayLostDemotion s
  | .busIntegration p => Sys2Proof.Machine.execBusIntegration p s
  | .stuckDominantRejoin p => Sys2Proof.Machine.execStuckDominantRejoin p s
  | .debugHalt c => Sys2Proof.Machine.execDebugHalt c s
  | .debugResume c => Sys2Proof.Machine.execDebugResume c s
  | .samplePllLock => Sys2Proof.Machine.execSamplePllLock s
  | .caskClearDone => Sys2Proof.Machine.execCaskClearDone s
  | .linkCharactersAppear => Sys2Proof.Machine.execLinkCharactersAppear s

end Sys2Proof.Machine
end

