-- ==== Sys2Proof/Machine/Step.lean ====
section
/-!
DEFINITION. One step of the block: the command at the front of the queue of waiting commands, or the tick that the block
makes while none waits.
-/

namespace Sys2Proof.Machine

open Sys2Proof

/-- What happens while no command waits (log entry 11): 1 µs passes, a commit in application follows its gains, what
waited for an idle commit engine goes on, a held touch acts, a port joins once its reply has left, the mailbox takes
its next request, and Sticky.Summary is followed. -/
def State.tick (s : State) : State :=
  ((((((((s.elapse 1).followCommit).serveWaiting).heldTouchActs).settleJoin .a).settleJoin .b).takeNext).noteSummary)

/-- One step: the command at the front of the queue acts on the state that holds the rest of the queue. -/
def step (s : State) : Out :=
  match s.pending with
  | [] => .next s.tick
  | c :: rest => exec c { s with pending := rest }

/-- The state with the command that a word of the opcode table spells at the front of its queue; the table gives no row
bits, so no word spells one (log entry 7). -/
def State.withFetchWord (s : State) (nbits w : Nat) : State :=
  match decodeTableWord nbits w with
  | some c => { s with pending := c :: s.pending }
  | none => s

end Sys2Proof.Machine
end

