-- ==== Sys2Proof/Safety.lean ====
section
/-!
DEFINITION. What counts as a safe run, in the terms that claims use: the memories in canonical form, a queue of commands
that the pins and ports can deliver, steps that end in a next state, and the parts of the state that each command may
change.
-/

namespace Sys2Proof.Safety

open Sys2Proof Sys2Proof.Machine

/-- Every memory of the block is in canonical form: addresses rise, and no cell holds its reset byte. -/
def Canonical (s : State) : Prop := s.mems.wf = true

/-- Every waiting command is one that the hardware can receive. -/
def Deliverable (s : State) : Prop := s.pending.all Instr.wf = true

/-- The block is not stopped: its next step ends in a next state. -/
def Runs (s : State) : Prop := ∃ t, step s = .next t

/-! ## The parts of a state -/

/-- The parts of a state: its fields, the memories one by one, and within fields the outputs that mute the unit, the
power state, the fuses, the keys and the sessions. -/
inductive Part where
  | time | timers | registers | config | pins | railEnPins | paEnPins | rfMutePin | pfwPin | twinActPin | power
  | powerState | watch | cork | fuses | keys | sessions | bootBanks | commits | blockReads | blockWrites | update
  | fieldNet | hostPort | queues | caskWork | caskMem | caskControl | vintage | requestBuffer | replyBuffer
  | recoveryBuffer | bankA | bankB | railUnit | margins | paths | loops | converters | frontEnd | leUnit | netUnit
  | paUnit | feed | hkb | tiuUnit | lidUnit | twinUnit | draws
deriving DecidableEq, Repr

/-- A part is the same in two states. -/
def Part.same : Part → State → State → Prop
  | .time, s, t => t.time = s.time
  | .timers, s, t => t.timers = s.timers
  | .registers, s, t => t.dict = s.dict
  | .config, s, t => t.cfg = s.cfg
  | .pins, s, t => t.pins = s.pins
  | .railEnPins, s, t => t.pins.railEn = s.pins.railEn
  | .paEnPins, s, t => t.pins.paEn = s.pins.paEn
  | .rfMutePin, s, t => t.pins.rfMuteN = s.pins.rfMuteN
  | .pfwPin, s, t => t.pins.pfwN = s.pins.pfwN
  | .twinActPin, s, t => t.pins.twinAct = s.pins.twinAct
  | .power, s, t => t.power = s.power
  | .powerState, s, t => t.power.state = s.power.state
  | .watch, s, t => t.wd = s.wd
  | .cork, s, t => t.sec = s.sec
  | .fuses, s, t => t.sec.fuses = s.sec.fuses
  | .keys, s, t => t.sec.keyStore = s.sec.keyStore
  | .sessions, s, t => t.sec.sessions = s.sec.sessions
  | .bootBanks, s, t => t.boot = s.boot
  | .commits, s, t => t.eng = s.eng
  | .blockReads, s, t => t.blockReads = s.blockReads
  | .blockWrites, s, t => t.blockWrites = s.blockWrites
  | .update, s, t => t.upd = s.upd
  | .fieldNet, s, t => t.field = s.field
  | .hostPort, s, t => t.hp = s.hp
  | .queues, s, t => t.q = s.q
  | .caskWork, s, t => t.cask = s.cask
  | .caskMem, s, t => t.mems.cask = s.mems.cask
  | .caskControl, s, t => t.mems.ctl = s.mems.ctl
  | .vintage, s, t => t.mems.vint = s.mems.vint
  | .requestBuffer, s, t => t.mems.mbReq = s.mems.mbReq
  | .replyBuffer, s, t => t.mems.mbRsp = s.mems.mbRsp
  | .recoveryBuffer, s, t => t.mems.rcv = s.mems.rcv
  | .bankA, s, t => t.mems.bankA = s.mems.bankA
  | .bankB, s, t => t.mems.bankB = s.mems.bankB
  | .railUnit, s, t => t.rail = s.rail
  | .margins, s, t => t.margin = s.margin
  | .paths, s, t => t.paths = s.paths
  | .loops, s, t => t.loops = s.loops
  | .converters, s, t => t.conv = s.conv
  | .frontEnd, s, t => t.fe = s.fe
  | .leUnit, s, t => t.le = s.le
  | .netUnit, s, t => t.net = s.net
  | .paUnit, s, t => t.pa = s.pa
  | .feed, s, t => t.feed = s.feed
  | .hkb, s, t => t.hkb = s.hkb
  | .tiuUnit, s, t => t.tiu = s.tiu
  | .lidUnit, s, t => t.lid = s.lid
  | .twinUnit, s, t => t.twin = s.twin
  | .draws, s, t => t.free = s.free

/-- Every part. -/
def parts : List Part :=
  [.time, .timers, .registers, .config, .pins, .railEnPins, .paEnPins, .rfMutePin, .pfwPin, .twinActPin, .power,
   .powerState, .watch, .cork, .fuses, .keys, .sessions, .bootBanks, .commits, .blockReads, .blockWrites, .update,
   .fieldNet, .hostPort, .queues, .caskWork, .caskMem, .caskControl, .vintage, .requestBuffer, .replyBuffer,
   .recoveryBuffer, .bankA, .bankB, .railUnit, .margins, .paths, .loops, .converters, .frontEnd, .leUnit,
   .netUnit, .paUnit, .feed, .hkb, .tiuUnit, .lidUnit, .twinUnit, .draws]

/-- Every part but those of a list. -/
def allBut (l : List Part) : List Part := parts.filter (fun p => !l.contains p)

/-- The parts that may change with a record, a sticky flag with its summary, or a Notify. -/
def reporting : List Part :=
  [.timers, .registers, .hostPort, .queues, .caskWork]

/-- The parts that may change with the expiry of a timer. -/
def expiry : List Part :=
  [.time, .timers, .registers]

/-- The parts that may change with a hard mute. -/
def muting : List Part :=
  [.timers, .registers, .pins, .rfMutePin, .paths, .leUnit]

/-- The parts that may change with what follows when a commit or a front-end sequence goes on. -/
def resuming : List Part :=
  [.timers, .registers, .pins, .paEnPins, .cork, .sessions, .commits, .update, .fieldNet, .hostPort, .queues,
   .caskWork, .railUnit, .margins, .paths, .frontEnd, .leUnit, .paUnit, .lidUnit]

/-- The parts that may change with the fall to STANDBY. -/
def falling : List Part :=
  [.timers, .registers, .pins, .paEnPins, .rfMutePin, .power, .powerState, .cork, .sessions, .commits, .update,
   .fieldNet, .hostPort, .queues, .caskWork, .railUnit, .margins, .paths, .frontEnd, .leUnit, .paUnit, .lidUnit]

/-- The parts that may change with a timed shutdown and what follows it. -/
def shutdown : List Part :=
  allBut [.time, .config, .watch, .bootBanks, .vintage, .requestBuffer, .replyBuffer, .recoveryBuffer, .bankA,
   .bankB]

/-- The parts that may change with a request, which may be any service of the dictionary. -/
def served : List Part :=
  allBut [.time, .watch, .vintage, .requestBuffer, .replyBuffer, .recoveryBuffer]

/-- The parts of a state that a command may change. -/
def touches : Instr → List Part
  | .vddAonRise => reporting ++ [.pins, .rfMutePin, .pfwPin, .power, .powerState, .lidUnit, .draws]
  | .brownOut => allBut []
  | .vddioALevelSelect _ => [.pins]
  | .hostCellSupplySwitch _ => reporting ++ [.pins]
  | .rstNLow => shutdown
  | .powerOnAutostart | .fieldPortWake _ => [.timers, .registers, .power, .railUnit]
  | .holdupRestartDelayExpiry | .restartDelayExpiry | .wakeTimerExpiry | .retryBackoffExpiry =>
     expiry ++ [.power, .railUnit]
  | .requestDormant _ | .requestStandby _ | .requestActive _ | .requestService _ | .requestRestart _
  | .revokeSlot0 _ | .lifecycleConfirm _ _ | .lifecycleRequest _ _ | .roleKeyWrite _ _ _
  | .sessionOpen _ _ _ _ _ | .sessionConfirm _ _ _ | .debugRequest _ _ | .debugToken _ _
  | .debugChallengeRead _ | .read _ _ _ | .write _ _ _ _ _ | .stagedWrite _ _ _ _ _ | .commit _ | .discard _
  | .configWriteDone _ | .stickyClear _ _ _ _ | .stickyClearAll _ | .restoreDefaults _ | .updateBegin _ _
  | .updateData _ _ _ _ | .imageSegmentDone | .updateVerify _ | .updateActivate _ | .updateAbort _
  | .blockRead _ _ _ _ _ _ | .blockWrite _ _ _ _ _ _ _ | .obvarFrameReceive _ _ | .frameTransmit _
  | .heartbeatReceive _ _ | .timeSet _ _ _ _ _ | .locateQuery _ _ | .assign _ _ _ _ _ | .getStatus _
  | .setRoutes _ _ _ _ | .setForwarding _ _ | .ping _ _ | .busOff _ | .stuckDominant _ | .mailboxGo _
  | .mailboxAck | .creditAudit _ _ | .clearHighWater _ | .syncNow _ | .runInit _ | .commandedShutdown _
  | .clearLockout _ | .sealClear _ | .clearLatch _ | .marginHigh _ _ | .marginLow _ _ | .marginNominal _ _
  | .tiuArm _ | .tiuCancel _ | .lidRebaseline _ | .caskClear _ | .handover _ => served
  | .serviceTimeout | .relockTimeout _ | .lifecycleTransition => expiry ++ shutdown
  | .feedCollapseReport =>
     reporting ++ muting ++ [.config, .paEnPins, .pfwPin, .twinActPin, .power, .powerState, .cork, .sessions,
      .commits, .update, .fieldNet, .caskControl, .railUnit, .margins, .netUnit, .feed, .tiuUnit, .lidUnit, .twinUnit]
  | .holdupComplete =>
     allBut [.time, .config, .railEnPins, .pfwPin, .watch, .fuses, .keys, .bootBanks, .caskMem, .caskControl,
      .vintage, .requestBuffer, .replyBuffer, .recoveryBuffer, .bankA, .bankB, .margins, .lidUnit, .draws]
  | .refInFirstPresent => [.timers, .registers, .power, .fieldNet, .frontEnd, .tiuUnit]
  | .refInLoss =>
     falling ++ [.twinActPin, .caskMem, .caskControl, .converters, .netUnit, .hkb, .tiuUnit, .twinUnit, .draws]
  | .refInReturn => [.timers, .registers, .power, .fieldNet, .queues, .caskWork, .frontEnd, .tiuUnit]
  | .linkHoldoverExpiry => expiry ++ [.power]
  | .samplePllUnlock _ => falling ++ [.caskMem, .caskControl, .converters, .netUnit, .hkb, .draws]
  | .samplePllRelock => reporting ++ [.paths, .leUnit, .hkb]
  | .lockDeclared _ _ => [.timers, .power]
  | .clockMuxToPll =>
     reporting ++ [.pins, .power, .powerState, .cork, .sessions, .commits, .update, .fieldNet, .frontEnd]
  | .relockRetry => expiry ++ [.power, .fieldNet, .frontEnd]
  | .droopStretch => reporting ++ [.power]
  | .stretchRelease => [.timers, .registers, .power]
  | .stretchLong _ => reporting ++ expiry ++ muting
  | .agingTrim _ => reporting ++ [.paUnit]
  | .pressWatchdogExpiry | .coreWatchdogExpiry _ => shutdown ++ [.time, .watch, .bootBanks]
  | .lockstepMismatch _ _ => muting ++ [.paEnPins, .watch]
  | .lockstepRecovery => shutdown ++ [.time, .config, .watch]
  | .secureBoot _ _ =>
     reporting ++ [.power, .cork, .fuses, .keys, .bootBanks, .update, .caskControl, .netUnit, .draws]
  | .configBootLoad _ _ => reporting ++ [.config]
  | .bundleConfirm | .debugTimeout => expiry ++ [.cork]
  | .handshakeTimeout _ => reporting ++ [.time, .cork, .sessions]
  | .roleLockoutExpiry _ | .leGuardEnd | .leBarEnd _ | .probeRetry _ | .attemptReset | .lidBaselineStore => expiry
  | .sessionIdleTimeout _ | .sessionLifetimeExpiry _ =>
     expiry ++ [.cork, .sessions, .commits, .update, .hostPort, .queues]
  | .idcode | .samplePreload => [.cork]
  | .bypass _ => [.pins, .cork]
  | .extest _ => [.pins, .twinActPin, .cork]
  | .entropyFail => reporting ++ [.cork]
  | .entropyRetest _ => expiry ++ [.cork, .netUnit, .draws]
  | .receiptSigned _ => reporting ++ [.time, .netUnit, .draws]
  | .stageTimeout _ => expiry ++ [.commits]
  | .commitDefer | .deferTimeout _ _ => reporting ++ [.time, .cork, .sessions, .commits, .update, .fieldNet]
  | .counterWriteback => expiry ++ [.config]
  | .updateVerifyDone _ | .escapeHeld _ | .waterlineStale => reporting ++ expiry
  | .blockTimeout _ _ => expiry ++ [.blockReads, .blockWrites]
  | .reassemblyTimeout _ _ => reporting ++ [.time, .cork, .sessions, .fieldNet]
  | .txLifetimeExpiry _ _ | .restrictedLong | .deferLimitExpiry _ _ | .loopFrame _ _ => expiry ++ served
  | .heartbeat _ | .nodeOffline _ | .hello => expiry ++ [.queues, .caskWork]
  | .locateReply _ => expiry ++ [.fieldNet, .queues, .caskWork, .draws]
  | .busOffHoldoffExpiry _ | .stuckDominantRejoin _ => expiry ++ [.pins, .fieldNet]
  | .busOffWaitReset _ => expiry ++ [.fieldNet]
  | .errorPassive _ => reporting ++ [.fieldNet]
  | .hostRead _ _ | .badCommand _ | .hpStickyClear _ | .hiRead _ | .queuePost _ _ _ | .adcCalibrationDone _ _ _
  | .dacClip _ => reporting
  | .hostWrite _ _ => served ++ [.requestBuffer, .recoveryBuffer]
  | .forensicRead _ _ | .hpIrqStatusClear _ | .loReadLatch _ => [.hostPort]
  | .wake _ => [.timers, .registers, .power, .hostPort, .railUnit]
  | .mailboxReply | .queueTake _ => served ++ [.replyBuffer]
  | .rcvCommit _ | .rcvVerify _ => shutdown ++ [.bootBanks, .bankA, .bankB]
  | .refusalExpiry _ => reporting ++ [.time, .fieldNet]
  | .tasteBlockEnd _ _ _ => reporting ++ [.paths, .converters, .leUnit]
  | .adcOverrange _ | .elementSaturation _ _ _ | .envelopeHigh _ _ | .envelopeLow _ _ | .leDetect _ _ =>
     reporting ++ [.paths]
  | .dcFreezeEnd _ => reporting ++ [.time, .paths]
  | .settleEnd _ => reporting ++ [.time, .paths, .converters]
  | .syncEdge => [.timers, .registers, .paths, .leUnit]
  | .detectorWindowEnd _ _ _ _ | .oscBlockEnd _ _ _ => falling ++ [.caskMem, .caskControl, .netUnit, .draws]
  | .fabricPost _ => [.timers, .registers, .queues, .caskWork, .paths]
  | .feEntryDone _ | .lockTimeout _ | .laneReady _ | .pmbFaultStop _ | .hintPhase _ | .droopClear =>
     expiry ++ resuming
  | .lockPoll _ _ | .pmbusTransactionDone _ _ _ | .laneStop _ => resuming
  | .feSequenceReplay => expiry ++ [.pins, .frontEnd]
  | .leRelease => reporting ++ [.paths, .leUnit]
  | .leMaxHold => reporting ++ [.time, .paths, .leUnit]
  | .probeEnd _ _ _ => resuming ++ [.time, .twinUnit]
  | .recheckTimeout _ => resuming ++ [.time, .loops]
  | .noiseHoldExpiry _ => falling ++ [.time, .caskMem, .caskControl, .netUnit, .draws]
  | .lockoutExpiry => reporting ++ [.time, .power, .powerState, .cork, .sessions, .commits, .fieldNet, .frontEnd]
  | .pmbusPoll _ _ | .pmbAlert => [.paUnit]
  | .laneStart _ | .dieTripClear => [.registers, .paUnit]
  | .laneRegulatorTimeout _ => reporting ++ [.time, .pins, .paEnPins, .paths, .leUnit, .paUnit]
  | .regulatorRestart _ | .laneThermalRestart _ => expiry ++ [.paUnit]
  | .paOverrun => reporting ++ [.time, .paUnit]
  | .hkbStart => [.time, .registers, .hkb]
  | .hkbResult _ _ => resuming ++ [.time, .feed, .hkb]
  | .feedStale => resuming ++ [.time, .feed]
  | .dieTrip => muting ++ resuming
  | .sealNLow => reporting ++ [.pins, .paEnPins, .rfMutePin, .paUnit]
  | .sealLanesSealed | .twinHeartbeatReceive _ _ | .handoverAcceptReceive _ _ =>
     falling ++ [.twinActPin, .tiuUnit, .twinUnit]
  | .sealClearTimer => expiry ++ [.pins, .paUnit]
  | .hkaStart => [.timers, .registers, .railUnit]
  | .hkaReading _ _ => shutdown ++ [.time, .config]
  | .railEnable _ => expiry ++ [.pins, .railEnPins, .railUnit]
  | .pgChange _ _ => shutdown ++ [.config]
  | .coresReady _ =>
     reporting ++ muting ++ [.time, .power, .powerState, .cork, .sessions, .commits, .fieldNet, .railUnit, .frontEnd,
      .hkb, .tiuUnit, .twinUnit]
  | .warnLeadExpiry | .holdupLeadExpiry | .holdupStepExpiry _ | .railOffTimeExpiry _ =>
     allBut [.config, .watch, .fuses, .keys, .bootBanks, .vintage, .requestBuffer, .replyBuffer, .recoveryBuffer,
      .bankA, .bankB, .margins, .lidUnit]
  | .railOff _ =>
     allBut [.time, .config, .watch, .fuses, .keys, .bootBanks, .vintage, .requestBuffer, .replyBuffer,
      .recoveryBuffer, .bankA, .bankB, .margins, .lidUnit]
  | .marginDacStep _ => expiry ++ [.pins, .margins]
  | .tiuStartEdge _ | .tiuStopEdge _ _ => [.timers, .registers, .tiuUnit]
  | .tiuTimeout | .tiuOverflow => reporting ++ [.time, .tiuUnit, .draws]
  | .tdrBurstStart | .warmTimerExpiry => expiry ++ [.tiuUnit]
  | .tdrLaunch | .tdrStopWindowEnd => expiry ++ [.pins, .tiuUnit]
  | .tdrComparatorEnable _ | .tdrReflection _ => [.tiuUnit]
  | .tdrBurstEnd => reporting ++ [.pins, .tiuUnit]
  | .ovenOkHigh => [.timers, .registers, .pins, .tiuUnit]
  | .ovenOkLow => reporting ++ muting ++ [.tiuUnit]
  | .lidSample _ =>
     reporting ++ muting ++ [.time, .power, .powerState, .cork, .sessions, .commits, .fieldNet, .railUnit, .lidUnit]
  | .lidCover => reporting ++ [.time, .lidUnit]
  | .lidTrack | .lidFaultResume => expiry ++ [.lidUnit]
  | .lidRetakeDone => [.timers, .registers, .lidUnit]
  | .lidStartCheck | .lidFault => reporting ++ [.lidUnit]
  | .caskRecordCommit _ _ => reporting ++ [.caskMem, .caskControl, .draws]
  | .floodTokenRefill _ => expiry ++ [.caskWork]
  | .caskStartScan => reporting ++ [.caskMem, .caskControl, .vintage, .draws]
  | .vintageProgramDone _ => reporting ++ [.time, .caskControl, .vintage, .draws]
  | .twinSelChange _ => falling ++ [.config, .loops, .netUnit, .tiuUnit, .twinUnit]
  | .helloReceive _ _ _ _ _ _ | .imageEndReceive _ _ _ => reporting ++ [.twinUnit]
  | .confirmReceive _ _ | .departingReceive _ _ _ =>
     falling ++ [.config, .twinActPin, .loops, .netUnit, .tiuUnit, .twinUnit]
  | .twinHeartbeat => reporting ++ [.time, .twinUnit]
  | .jensiacBadFrame _ | .imageChunkReceive _ _ _ _ => [.registers, .twinUnit]
  | .twinLinkDown => falling ++ [.time, .config, .twinActPin, .loops, .netUnit, .tiuUnit, .twinUnit, .draws]
  | .rackCapture => expiry ++ [.queues, .caskWork, .twinUnit]
  | .startWaitExpiry | .claimIntervalExpiry =>
     falling ++ [.time, .config, .twinActPin, .loops, .netUnit, .tiuUnit, .twinUnit]
  | .relayTimeExpiry | .relayLostDemotion => falling ++ [.time, .twinActPin, .tiuUnit, .twinUnit]
  | .handoverRequestReceive _ _ => [.timers, .registers, .queues, .caskWork, .twinUnit]
  | .handoverTimeout => expiry ++ [.twinUnit]
  | .authFailRestart => expiry ++ [.twinUnit, .draws]
  | .busIntegration _ => [.timers, .registers, .fieldNet]
  | .debugHalt _ => muting ++ [.paEnPins, .cork]
  | .debugResume _ => [.timers, .cork]
  | .samplePllLock => reporting ++ [.power, .paths, .converters]
  | .caskClearDone => reporting ++ [.time, .caskMem, .caskControl, .draws]
  | .linkCharactersAppear => [.timers, .registers, .twinUnit, .draws]

end Sys2Proof.Safety
end

