-- ==== Sys2Proof/Certificates/Slice0/Obligations.lean ====
section
/-!
DEFINITION. The statements for the provers.
-/

open Sys2Proof Sys2Proof.Machine

/-! ## Words of the statements -/

/-- A command answers a next state of which `P` holds. -/
def Claims.Answers (i : Instr) (s : State) (P : State → Prop) : Prop := ∃ t, exec i s = .next t ∧ P t

/-- The state at the expiry of a timer whose deadline is `d`: the instant is `d` (or the present one, if `d` has passed
while other commands acted), and the timer has stopped. -/
def Claims.expired (s : State) (T : TimerId) (d : Nat) : State := (s.elapse (d - s.now)).disarm T

/-- A start from DORMANT has begun, for reason `r` of Table 3-1: the unit goes towards STANDBY and the trellis starts. -/
def Claims.Starting (t : State) (r : Nat) : Prop :=
  t.power.state = .dormant ∧ t.power.trans = some ⟨.start, .standby⟩ ∧ t.power.startReason = r ∧
    t.get Obj.railSeqState = 1

/-- A start may begin: the stored trellis passes its check and the unit rests in DORMANT. -/
def Claims.MayStart (s : State) : Prop :=
  s.trellisOk = true ∧ s.power.state = .dormant ∧ s.power.trans = none

/-- What a network-protective shutdown with trigger `code`, other than 5, for the paths `ps` leaves (R418, R424, R425). -/
def Claims.ShutDown (s t : State) (code : Nat) (ps : List Nat) : Prop :=
  let r := t.bytesOf (Obj.netReceipt (s.get Obj.netReceiptLatest % 16))
  t.pins.rfMuteN = false ∧ (∀ n ∈ laneNums, s.laneRuns n = true → t.pins.paEn.getLsbD n = false) ∧
    2 ≤ t.get Obj.netState ∧ t.get Obj.netLastTrigger = code ∧
    t.get Obj.netReceiptLatest = s.get Obj.netReceiptLatest + 1 ∧
    t.get Obj.netShutdownCount = satBytes (objSize Obj.netShutdownCount) (s.get Obj.netShutdownCount + 1) ∧
    fieldAt r 5 1 = code ∧ fieldAt r 6 2 = bitmapOf ps ∧ t.hp.irqStatus.getLsbD 3 = true ∧
    (s.power.state = .active ∨ s.power.state = .service →
      t.power.state = .standby ∧ t.get Obj.powerStateLastReason = 7)

/-! ## The machine -/

/-- A step of a state with a command at the front of its queue is that command's effect on the state that holds the
rest of the queue. While no command waits, a step answers a next state: the tick of log entry 11, in which one
microsecond passes and what waited for an instant or an idle engine goes on (the model's choice). -/
def Obligations.StepRunsFrontCommand : Prop :=
  (∀ (c : Instr) (rest : List Instr) (s : State),
    step { s with pending := c :: rest } = exec c { s with pending := rest }) ∧
  (∀ s : State, s.pending = [] → ∃ t, step s = .next t ∧ t = s.tick ∧ t.pending = [] ∧ s.now + 1 ≤ t.now)

/-- The state after reset lists no memory cell, keeps every memory in canonical form, and holds an empty queue. -/
def Obligations.ResetCanonical : Prop := Safety.Canonical State.reset ∧ State.reset.pending = []

/-- From every state whose memories are in canonical form, a step that answers a next state leaves them in canonical
form, whatever command it runs. -/
def Obligations.StepKeepsCanonical : Prop :=
  ∀ s t : State, Safety.Canonical s → step s = .next t → Safety.Canonical t

/-- Whatever command a step runs, the lifecycle fuses keep every bit they had, the security counter does not fall, a
revoked image key slot stays revoked, and the model's clock does not run back. -/
def Obligations.FusesOnlyRise : Prop :=
  ∀ s t : State, step s = .next t →
    s.sec.fuses &&& t.sec.fuses = s.sec.fuses ∧ s.sec.securityCounter ≤ t.sec.securityCounter ∧
      (s.sec.slot0Revoked = true → t.sec.slot0Revoked = true) ∧ s.time.nowUs ≤ t.time.nowUs

/-- A command that answers a next state leaves every part of the state (a field, a memory, the mute outputs, the power
state, the fuses, the keys, the sessions) outside the parts that Safety.touches names for it as it was, and the queue
of waiting commands too. -/
def Obligations.CommandsChangeOnlyTheirParts : Prop :=
  ∀ (c : Instr) (s t : State), exec c s = .next t →
    t.pending = s.pending ∧ ∀ p : Safety.Part, p ∉ Safety.touches c → p.same s t

/-- Every command answers a next state from every state, whatever its operands: the block is never stopped. -/
def Obligations.WellFormedCommandsComplete : Prop :=
  (∀ (c : Instr) (s : State), ∃ t, exec c s = .next t) ∧ ∀ s : State, Safety.Runs s

/-! ## Supply, starts and clocks (ch. 02, 03) -/

/-- VDD_AON rising takes OFF to DORMANT for reason 1, counts the power cycle, releases PFW_N and asserts RF_MUTE_N.
VDD_AON falling takes any other state to OFF: every output released, no timer, no session, and the fuses, the keys and
the log memories kept but for a record or an entry being written. VDDIO_A settling gives the level of bank A. The
host-port cells change supply, VDDIO_A follows, and a transaction in hand is cut. -/
def Obligations.SupplyCommands : Prop :=
  ∀ s : State,
    (s.power.state = .off → Claims.Answers .vddAonRise s (fun t =>
      t.power.state = .dormant ∧ t.get Obj.powerStateLastReason = 1 ∧
        t.get Obj.powerStatePowerCycleCount = min 16777215 (s.get Obj.powerStatePowerCycleCount + 1) ∧
        t.pins.pfwN = true ∧ t.pins.rfMuteN = false)) ∧
    (s.power.state ≠ .off → Claims.Answers .brownOut s (fun t =>
      t.power.state = .off ∧ t.pins.railEn = 0 ∧ t.pins.paEn = 0 ∧ t.pins.twinAct = false ∧ t.pins.paBias = [] ∧
        t.pins.rfMuteN = true ∧ t.pins.pfwN = true ∧ t.timers = [] ∧ t.sec.sessions = [] ∧
        t.sec.fuses = s.sec.fuses ∧ t.sec.keyStore = s.sec.keyStore ∧ t.sec.kwk = none ∧
        (s.nextLog = none → t.mems.cask = s.mems.cask ∧ t.mems.ctl = s.mems.ctl) ∧
        (s.cask.vintWork = [] → t.mems.vint = s.mems.vint) ∧ t.pending = s.pending)) ∧
    (∀ b, s.power.state ≠ .off → exec (.vddioALevelSelect b) s =
      .next { s with pins := { s.pins with vddioA := true, vddioSel := true, vddioAbove25 := b } }) ∧
    (∀ b c, s.power.state ≠ .off → s.pins.cellsOnAon ≠ b → Claims.Answers (.hostCellSupplySwitch ⟨b, c⟩) s (fun t =>
      t.pins.cellsOnAon = b ∧ t.pins.vddioA = !b ∧ (b = true → t.bankA = false) ∧
        (∀ c', t.readSystem c' Obj.hostPortCellSupply = some (if b then 1 else 0)) ∧
        (c = true → t.hp.cut = true ∧ t.hp.miso = []) ∧ (c = false → t.hp = s.hp) ∧
        t.power = s.power ∧ t.mems = s.mems ∧ t.sec = s.sec))

/-- In DORMANT with the stored trellis intact and no transition under way: the start after power-on (reason 1), the
end of HoldupRestartDelay (0x10) and a due wake timer (0x0A) with no automatic start held back, a wake on a field port
(0x0B), the end of RestartDelay (the reason of the restart), and RST_N as a wake source (2) each begin the start
sequence. Where WakeSources has no bit for RST_N, RST_N only ends a watchdog lockout. -/
def Obligations.StartsFromDormant : Prop :=
  ∀ s : State, Claims.MayStart s →
    (s.cask.scanned = true → s.get Obj.powerStateLastReason = 1 → s.get Obj.powerStateAutoStart = 1 →
      s.power.recovery = false → s.get Obj.railSeqLatchedSlot = 0xFF →
      Claims.Answers .powerOnAutostart s (Claims.Starting · 1)) ∧
    (∀ d, s.deadline .holdupRestart = some d → s.autoHeld = false →
      Claims.Answers .holdupRestartDelayExpiry s (Claims.Starting · 0x10)) ∧
    (∀ d, s.deadline .restartDelay = some d →
      Claims.Answers .restartDelayExpiry s (Claims.Starting · s.power.startReason)) ∧
    (∀ d, s.deadline .wakeTimer = some d → s.bit Obj.powerStateWakeSources 4 = true → s.autoHeld = false →
      s.power.recovery = false → Claims.Answers .wakeTimerExpiry s (Claims.Starting · 0x0A)) ∧
    (∀ p, s.bit Obj.powerStateWakeSources 2 = true → s.pins.vddioA = true →
      (match p with | .a => s.pins.canStbA | .b => s.pins.canStbB) = true → s.autoHeld = false →
      s.power.recovery = false → Claims.Answers (.fieldPortWake p) s (Claims.Starting · 0x0B)) ∧
    (s.power.recovery = false → s.rail.shutdown = none → s.wd.lockstepBusy = false →
      (s.bit Obj.powerStateWakeSources 1 = true → Claims.Answers .rstNLow s (Claims.Starting · 2)) ∧
      (s.bit Obj.powerStateWakeSources 1 = false → exec .rstNLow s = .next (s.set Obj.watchdogLockout 0)))

/-- RST_N low outside DORMANT and HOLDUP restarts the unit (reason 2), and is held while a shutdown runs. The service
timeout ends SERVICE: after a lid-touch start by a shutdown to DORMANT, otherwise towards ACTIVE or to STANDBY (reason
0x0D); while a commit is applied it waits (log entry 121). The Press's collapse report takes the unit to HOLDUP from
any state with a RAIL_EN asserted, and HOLDUP ends in DORMANT once every rail is off. -/
def Obligations.RestartsAndReturns : Prop :=
  ∀ s : State,
    (s.running = true → s.power.recovery = false → s.rail.shutdown = none → s.wd.lockstepBusy = false →
      exec .rstNLow s = .next (s.restart 2)) ∧
    (∀ x, s.running = true → s.power.recovery = false → s.rail.shutdown = some x →
      exec .rstNLow s = .next { s with power.restartPending := true }) ∧
    (∀ d, s.deadline .serviceTimeout = some d → s.power.state = .service → s.transition = none →
      s.eng.commit = none → exec .serviceTimeout s = .next (
        let u := (Claims.expired s .serviceTimeout d).leaveService
        if s.power.touchStart then u.beginShutdown .request 0x0D false 0 []
        else if s.power.cameFrom = .active ∧ u.activeRefusal = none then u.towardsActive 0x0D
        else u.fallToStandby 0x0D)) ∧
    (s.eng.commit.isSome = true → exec .serviceTimeout s = .next s) ∧
    (s.feed.report = true → s.wd.lockstepBusy = false → s.pins.railEn ≠ 0 → s.power.state ≠ .holdup →
      Claims.Answers .feedCollapseReport s (fun t =>
        t.power.state = .holdup ∧ t.pins.pfwN = false ∧ t.pins.rfMuteN = false ∧ t.feed.report = false ∧
          t.armed .holdupLead = true ∧ t.sec.fuses = s.sec.fuses)) ∧
    (s.power.state = .holdup → (∀ n ∈ slots, s.railLive n = false) → s.cask.own = [] →
      s.power.restartPending = false → Claims.Answers .holdupComplete s (fun t =>
        t.power.state = .dormant ∧ t.get Obj.powerStateLastReason = 5 ∧ t.pins.rfMuteN = false ∧
          t.pins.pfwN = s.pins.pfwN ∧ t.pins.twinAct = false ∧ t.power.coreReleased = false ∧
          t.rail.shutdown = none ∧ t.armed .holdupRestart = true))

/-- REF_IN first present, or back after a loss, relocks the core PLL: the core runs on INT48 with 1 ms to lock to the
target of the power state. A loss mutes or shuts down as R417 says, moves the core to INT48 and lets the link hold
over for 50 ms. Two windows within 0.5 % of the target declare the lock and stop the 1 ms; 256 cycles later the core
runs on the PLL again. A timeout records itself and, outside a timed shutdown, leaves the unit on 240 MHz, takes
ACTIVE and SERVICE to STANDBY and arms one retry; the retry's timeout restarts the unit (0x0F). -/
def Obligations.ReferenceAndRelock : Prop :=
  ∀ s : State,
    (s.power.coreReleased = true → s.power.refSeen = false → Claims.Answers .refInFirstPresent s (fun t =>
      t.power.refPresent = true ∧ t.power.refSeen = true ∧ t.get Obj.clockRefInPresent = 1 ∧
        t.get Obj.clockCoreSource = 0 ∧ t.get Obj.clockCoreTarget = s.targetOf s.power.state ∧
        t.deadline .relock = some (s.now + 1000))) ∧
    (s.power.coreReleased = true → s.power.refSeen = true → s.power.refPresent = false →
      Claims.Answers .refInReturn s (fun t =>
        t.power.refPresent = true ∧ t.power.refLostAt = none ∧ t.get Obj.clockRefInPresent = 1 ∧
          t.get Obj.clockCoreSource = 0 ∧ t.get Obj.clockCoreTarget = s.targetOf s.power.state ∧
          t.deadline .relock = some (s.now + 1000) ∧ t.armed .linkHoldover = false)) ∧
    (s.power.coreReleased = true → s.power.refSeen = true → s.power.refPresent = true →
      Claims.Answers .refInLoss s (fun t =>
        t.power.refPresent = false ∧ t.pins.rfMuteN = false ∧ t.power.relockLocked = false ∧
          t.armed .relock = false ∧
          t = (let u := { s with power.refPresent := false, power.refLostAt := some s.opSeconds }
            let u := ((u.set Obj.clockRefInPresent 0).flag Obj.clockSticky 0).arm .linkHoldover 50000
            let u := ((u.refReaction).endRelock).toInt48
            (((u.warmRefLost).tiuRefLost).pllDown).demoteIfDue))) ∧
    (∀ d, s.deadline .linkHoldover = some d →
      exec .linkHoldoverExpiry s = .next { Claims.expired s .linkHoldover d with power.linkLocked := false }) ∧
    (∀ status, s.power.coreReleased = true → s.power.refPresent = true → s.get Obj.clockSamplePllLocked = 1 →
      exec (.samplePllUnlock status) s = .next
        (((s.faultRow Obj.clockSticky 1 .press 0x0002 2 31 (u32 status.toNat)).refReaction).pllDown)) ∧
    (s.power.pressReady = true → s.power.refPresent = true → s.power.pllLocked = false →
      Claims.Answers .samplePllLock s (fun t => t.get Obj.clockSamplePllLocked = 1 ∧ t.power.pllLocked = true ∧
        t.conv.noWindow = [] ∧ ∀ c < 4, t.get (Obj.adcCalStatus c) = 1)) ∧
    (s.power.pressReady = true → s.power.pllLocked = true → s.power.refPresent = true →
      s.get Obj.clockSamplePllLocked = 0 → Claims.Answers .samplePllRelock s (fun t =>
        t.get Obj.clockSamplePllLocked = 1 ∧ t.conv.noWindow = s.conv.noWindow ∧
          (∀ p ∈ pathNums, t.armed (.settle p) = true) ∧
          t.hkb.notBefore = s.now + 100 ∧ t.power = s.power ∧ t.mems = s.mems)) ∧
    (∀ a b, s.armed .relock = true → lockWindow s.power.relockTarget a = true →
      lockWindow s.power.relockTarget b = true →
      exec (.lockDeclared a b) s = .next { s.disarm .relock with power.relockLocked := true }) ∧
    (s.power.relockLocked = true → Claims.Answers .clockMuxToPll s (fun t =>
        t.get Obj.clockCoreSource = 1 ∧ t.power.relockLocked = false ∧ t.power.relockRetry = false ∧
          (s.power.trans ≠ some ⟨.relock, .active⟩ → t.power.state = s.power.state) ∧
          (s.power.trans = some ⟨.relock, .active⟩ → t.power.state = .active ∧ t.power.trans = none))) ∧
    (∀ d n, s.deadline .relock = some d → s.rail.shutdown = none →
      exec (.relockTimeout n) s = .next (((Claims.expired s .relock d).faultRow Obj.clockSticky 2 .press 0x0003 2 31
        (leBytes 2 s.power.relockTarget ++ leBytes 4 n)).relockFailed)) ∧
    (∀ d n, s.deadline .relock = some d → s.rail.shutdown = none → s.power.relockRetry = false →
      s.eng.commit = none → Claims.Answers (.relockTimeout n) s (fun t =>
        t.armed .relock = false ∧ t.get Obj.clockCoreTarget = 240 ∧ t.power.relockLocked = false ∧
          (∀ p, s.power.trans = some ⟨.relock, p⟩ → t.power.trans = none) ∧
          t.deadline .relockRetry = some (max s.now d + 100000) ∧
          (t.power.state = if s.power.state = .active ∨ s.power.state = .service then .standby else s.power.state))) ∧
    (∀ d n, s.deadline .relock = some d → s.rail.shutdown = none → s.power.relockRetry = true →
      exec (.relockTimeout n) s = .next (((Claims.expired s .relock d).faultRow Obj.clockSticky 2 .press 0x0003 2 31
        (leBytes 2 s.power.relockTarget ++ leBytes 4 n)).restart 0x0F)) ∧
    (∀ d n x, s.deadline .relock = some d → s.rail.shutdown = some x →
      exec (.relockTimeout n) s = .next ((Claims.expired s .relock d).faultRow Obj.clockSticky 2 .press 0x0003 2 31
        (leBytes 2 s.power.relockTarget ++ leBytes 4 n))) ∧
    (∀ d, s.deadline .relockRetry = some d → s.rail.shutdown = none → exec .relockRetry s = .next
      (let u := Claims.expired s .relockRetry d
       { u.beginRelock (u.targetOf s.power.state) with power.relockRetry := true }))

/-- A droop below the guard band stretches the core clock: counted and flagged, with 1 ms before it counts as long.
Its release keeps the longest duration. A long stretch mutes the unit and takes the reading of S00. A due aging trim
stores the growth and a guard band that does not fall and stays within 16 steps of 0.25 %, and falls due again
3,600,000 core-seconds later. A Press watchdog expiry asserts RF_MUTE_N, drives every PA_EN low and resets the Press.
A Vintner or Cork expiry resets that core; a Cork expiry ends every session. Each is counted, and the third of a core
within 600 s escalates. A lockstep mismatch mutes and drives PA_EN low in hardware, and supervision resumes 1 ms later
with its record. -/
def Obligations.StretchWatchdogsAndLockstep : Prop :=
  (∀ s : State,
      (s.power.coreReleased = true → s.power.stretchAt = none → Claims.Answers .droopStretch s (fun t =>
        t.power.stretchAt = some s.now ∧ t.bit Obj.clockSticky 3 = true ∧ t.deadline .stretchLong = some (s.now + 1000) ∧
          t.mems = s.mems ∧ t.pins = s.pins)) ∧
      (∀ at_, s.power.stretchAt = some at_ → exec .stretchRelease s = .next
        (({ s with power.stretchAt := none }).set Obj.clockStretchLongest
          (max (s.get Obj.clockStretchLongest) (satBytes 2 (s.now - at_)))|>.disarm .stretchLong)) ∧
      (∀ d at_ mv, s.deadline .stretchLong = some d → s.power.stretchAt = some at_ →
        Claims.Answers (.stretchLong mv) s (fun t => t.pins.rfMuteN = false ∧ t.get (Obj.railSlotReading 0) = mv.toNat ∧
          t.bit Obj.clockSticky 4 = true ∧ t.power = s.power)) ∧
      (∀ g, s.power.state ≠ .off → s.power.coreReleased = true →
        s.get Obj.clockNextTrim ≤ s.get Obj.powerStateCoreSeconds → exec (.agingTrim g) s = .next (
          let new := max (s.get Obj.clockGuardBand) (min 16 ((g.toNat + 24) / 25))
          let u := (s.set Obj.clockAgingGrowth g.toNat).set Obj.clockGuardBand new
          let u := u.set Obj.clockNextTrim (satBytes 4 (s.get Obj.powerStateCoreSeconds + 3600000))
          let u := u.log .cellar 0x8101 0 31 ([byteOf (s.get Obj.clockGuardBand), byteOf new] ++ leBytes 2 g.toNat)
          let u := laneNums.foldl State.trimLane u
          if 400 < g.toNat then u.faultRow Obj.clockSticky 5 .cellar 0x0105 1 31 (leBytes 2 g.toNat) else u))) ∧
  (∀ s : State, s.wd.lockstepBusy = false →
      (∀ d, s.deadline (.watchdog .press) = some d → exec .pressWatchdogExpiry s = .next (
        let r := ((Claims.expired s (.watchdog .press) d).hardMute.paOff).noteExpiry .press Obj.watchdogPressExpiryCount
        let u := { r.1.depart 3 with power.pressReady := false }
        if r.2 then u.escalate .press else u)) ∧
      (∀ d, s.deadline (.watchdog .vintner) = some d → exec (.coreWatchdogExpiry .vintner) s = .next (
        let r := (Claims.expired s (.watchdog .vintner) d).noteExpiry .vintner Obj.watchdogVintnerExpiryCount
        let u := { r.1 with power.vintReady := false, blockReads := [], blockWrites := [] }
        if r.2 then u.escalate .vintner else u)) ∧
      (∀ d, s.deadline (.watchdog .cork) = some d → Claims.Answers (.coreWatchdogExpiry .cork) s (fun t =>
        t.power.corkReady = false ∧ t.sec.sessions = [] ∧ t.sec.kwk = none ∧ t.net.signing = none ∧ t.net.queued = [] ∧
          t = (let r := (Claims.expired s (.watchdog .cork) d).noteExpiry .cork Obj.watchdogCorkExpiryCount
               if r.2 then r.1.corkReset.escalate .cork else r.1.corkReset))) ∧
      (∀ c n, s.power.state ≠ .off → Claims.Answers (.lockstepMismatch c n) s (fun t =>
        t.pins.rfMuteN = false ∧ t.pins.paEn = 0 ∧ t.wd.lockstepBusy = true ∧ t.wd.lockstepInfo = some (c, n) ∧
          t.pins.railEn = s.pins.railEn ∧ t.pins.pfwN = s.pins.pfwN ∧
          t.deadline .lockstepRecovery = some (s.now + 1000)))) ∧
  (∀ s : State,
      (∀ d, s.deadline .lockstepRecovery = some d → Claims.Answers .lockstepRecovery s (fun t =>
        t.wd.lockstepBusy = false ∧ t.wd.lockstepInfo = none ∧
          t = (let u : State := { Claims.expired s .lockstepRecovery d with
                 wd.lockstepBusy := false, wd.lockstepInfo := none }
               (u.faultRow Obj.clockSticky 6 .cellar 0x0307 2 31 (match s.wd.lockstepInfo with
                 | some i => leBytes 4 i.1.toNat ++ leBytes 4 i.2.toNat
                 | none => [])).resumeSupervision))) ∧
      (s.wd.lockstepBusy = true → exec .pressWatchdogExpiry s = .next s ∧ (∀ c, exec (.coreWatchdogExpiry c) s = .next s) ∧
        exec .feedCollapseReport s = .next s ∧ ∀ n, exec (.railEnable n) s = .next s))

/-! ## Boot, lifecycle, sessions and debug (ch. 04) -/

/-- The Cork starts the selected bank when the bundle in it passes R103, else the other bank when that one passes, and
opens the recovery window in DORMANT when neither does. A configuration store with a good copy is made whole and its
journal replayed; with both copies lost no rail may be released. The cores that were in reset report ready. A bundle
that has run its time is confirmed. Counters are written back every 60 s. -/
def Obligations.BootCommands : Prop :=
  ∀ s : State,
    (∀ k n, s.power.coreReleased = true → s.power.corkReady = false → s.power.recovery = false →
      Claims.Answers (.secureBoot k n) s (fun t =>
        let own := s.bundleFault (s.bankFacts (s.get Obj.bootSelectedBank))
        let other := s.bundleFault (s.bankFacts (1 - s.get Obj.bootSelectedBank))
        t.boot.bankA = some (s.bankFacts 0) ∧ t.boot.bankB = some (s.bankFacts 1) ∧
          t.sec.kwk = some (Config.deriveKwk Config.duk) ∧
          (own = none → t.power.corkReady = true ∧ t.boot.running = s.get Obj.bootSelectedBank) ∧
          (own.isSome = true → other = none →
            t.power.corkReady = true ∧ t.boot.running = 1 - s.get Obj.bootSelectedBank) ∧
          (own.isSome = true → other.isSome = true → s.power.state = .dormant →
            t.power.corkReady = false ∧ t.power.recovery = true ∧ t.power.trans = none))) ∧
    (s.power.state = .dormant → s.power.trans = none → s.power.recovery = false →
      Claims.Answers (.configBootLoad false false) s (fun t => t.trellisOk = false ∧ t.bit Obj.dictSticky 5 = true ∧
        t.power = s.power)) ∧
    (∀ a b, s.power.state = .dormant → s.power.trans = none → s.power.recovery = false → (a || b) = true →
      Claims.Answers (.configBootLoad a b) s (fun t => t.trellisOk = true ∧ t.cfg.marker = false ∧
        t.cfg.journal = [] ∧ t.power = s.power)) ∧
    (∀ ok, s.power.coreReleased = true → s.power.corkReady = true → s.power.pressReady = false →
      s.power.vintReady = false → s.power.trans = none →
      exec (.coresReady ok) s = .next ((s.pressBegins ok).vintnerBegins)) ∧
    (∀ ok, s.power.coreReleased = true → s.power.corkReady = true → s.power.pressReady = false →
      s.power.vintReady = false → s.starting = true → s.rail.coresReadyAt = none →
      exec (.coresReady ok) s = .next (
        let u := (((s.pressBegins ok).vintnerBegins).set Obj.railSeqState 3)
        (({ u with rail.coresReadyAt := some u.now }).twinStart.startDelays).advanceStart)) ∧
    (∀ d b, s.deadline .bundleConfirm = some d → s.boot.bank s.boot.running = some b →
      Claims.Answers .bundleConfirm s (fun t =>
        t.sec.securityCounter = max s.sec.securityCounter (min 31 (bundleSvn b)) ∧ t.get Obj.bootConfirmed = 1 ∧
          t.get Obj.bootSecurityCounter = t.sec.securityCounter ∧ t.boot = s.boot ∧ t.power = s.power)) ∧
    (∀ d, s.deadline .counterWriteback = some d → exec .counterWriteback s = .next
      (((Claims.expired s .counterWriteback d).writeBack).arm .counterWriteback 60000000))

/-- At the end of an accepted lifecycle transition the fuses of the target state are blown, the transition and the
confirmation are spent, debug and every session end, the Vintage entry and the Notify are posted, and the unit
restarts with reason 0x13, whatever power state it is in by then. A timed shutdown that comes first blows them before
it releases a rail; HOLDUP leaves the fuses as they are. -/
def Obligations.LifecycleTransitionBlowsFuses : Prop :=
  ∀ (s : State) (l : LcTrans), s.sec.lcTrans = some l →
    (∀ d, s.deadline .lifecycleDone = some d → Claims.Answers .lifecycleTransition s (fun t =>
      t.sec.fuses = s.sec.fuses ||| fusePattern l.target ∧ t.sec.lcTrans = none ∧ t.sec.confirm = none ∧
        t.sec.sessions = [] ∧ t.sec.debugOwner = none ∧
        t = ((Claims.expired s .lifecycleDone d).blowLifecycle).restart 0x13)) ∧
    (∀ cause reason restart lead, (s.beginShutdown cause reason restart lead []).sec.fuses =
      s.sec.fuses ||| fusePattern l.target) ∧
    s.enterHoldup.sec.fuses = s.sec.fuses ∧ s.enterHoldup.sec.lcTrans = none

/-- A half-open session whose confirmation does not come is dropped and counts as a failed handshake of its role. An
idle session and one at the end of its lifetime end. A role lockout ends when its time is over. An entropy failure is
flagged and recorded, and a retest follows 10 s later. A failed retest is repeated after 10 s; a passed one ends the
failure and signs what waited. A receipt is signed in time, or keeps its zero signature, and the next one follows. -/
def Obligations.SessionTimersEntropyAndReceipts : Prop :=
  (∀ (s : State) (n : Fin 8) (r : Fin 4) (d : Nat),
      (∀ x, s.deadline (.handshake n.val) = some d →
        s.sec.sessions.find? (fun y => y.slot == n.val && !y.isOpen) = some x →
        exec (.handshakeTimeout n) s = .next
          (((Claims.expired s (.handshake n.val) d).dropHalf n.val).handshakeFailed x.role)) ∧
      (s.deadline (.sessionIdle n.val) = some d → Claims.Answers (.sessionIdleTimeout n) s (fun t =>
        t.sec.sessions = s.sec.sessions.filter (fun x => !(x.slot == n.val)) ∧ t.armed (.sessionLife n.val) = false ∧
          t.sec.keyStore = s.sec.keyStore ∧ t.power = s.power ∧
          ∀ x ∈ s.sec.sessions, x.slot = n.val → x.isOpen = true → x.sid ∈ t.sec.ended)) ∧
      (s.deadline (.sessionLife n.val) = some d → Claims.Answers (.sessionLifetimeExpiry n) s (fun t =>
        t.sec.sessions = s.sec.sessions.filter (fun x => !(x.slot == n.val)) ∧ t.armed (.sessionIdle n.val) = false ∧
          t.sec.keyStore = s.sec.keyStore ∧ t.power = s.power ∧
          ∀ x ∈ s.sec.sessions, x.slot = n.val → x.isOpen = true → x.sid ∈ t.sec.ended)) ∧
      (s.deadline (.roleLockout r.val) = some d → Claims.Answers (.roleLockoutExpiry r) s (fun t =>
        t.bit Obj.sessionRoleLockout r.val = false ∧ t.sec = s.sec ∧ t.mems = s.mems))) ∧
  (∀ s : State,
      (s.power.corkReady = true → s.sec.entropyFailed = false → Claims.Answers .entropyFail s (fun t =>
        t.sec.entropyFailed = true ∧ t.bit Obj.securitySticky 3 = true ∧
          t.deadline .entropyRetest = some (s.now + 10000000) ∧ t.sec.sessions = s.sec.sessions ∧ t.mems = s.mems)) ∧
      (∀ d, s.deadline .entropyRetest = some d → exec (.entropyRetest false) s = .next
        ((Claims.expired s .entropyRetest d).arm .entropyRetest 10000000)) ∧
      (∀ d, s.deadline .entropyRetest = some d → Claims.Answers (.entropyRetest true) s (fun t =>
        t.sec.entropyFailed = false ∧ t.sec.sessions = s.sec.sessions ∧ t.mems = s.mems)) ∧
      (∀ seq, s.armed .receiptSign = true → s.net.signing = some seq → exec (.receiptSigned true) s = .next
        ({ (s.disarm .receiptSign).signReceipt seq false with net.signing := none }).nextSignature) ∧
      (∀ d seq, s.deadline .receiptSign = some d → s.net.signing = some seq → exec (.receiptSigned false) s = .next
        ({ (Claims.expired s .receiptSign d).leaveUnsigned seq 6 with net.signing := none }).nextSignature))

/-- With the test access port in operation, IDCODE captures a word with the die revision in bits 31-28, 0x4216 in bits
27-12, 0x3A7 in bits 11-1 and 1 in bit 0, and changes nothing outside the test access port. -/
def Obligations.IdcodeReads : Prop :=
  ∀ s : State, s.tapUp = true → ∃ w : BitVec 64,
    exec .idcode s = .next { s with sec.jtagInstr := 1, sec.captured := w } ∧
      w.extractLsb' 28 4 = BitVec.ofNat 4 (s.get Obj.identityDieRevision) ∧ w.extractLsb' 12 16 = 0x4216#16 ∧
      w.extractLsb' 1 11 = 0x3A7#11 ∧ w.extractLsb' 0 1 = 1#1 ∧ w.extractLsb' 32 32 = 0#32

/-- BYPASS shifts one bit. SAMPLE/PRELOAD captures the balls and loads the cells at INSPECT and above, and reaches
BYPASS only at CLOSED. EXTEST drives the balls from the cells at FULL in BLANK and RETURNED, the rail, lane, mute and
power-fail outputs excepted, and decodes as BYPASS elsewhere. The order of the cells is the model's (log entry 38). -/
def Obligations.TestAccessPort : Prop :=
  ∀ s : State, s.tapUp = true →
    (∀ b, exec (.bypass b) s = .next { s with
      sec.jtagInstr := 0, sec.captured := if s.sec.bypassBit then 1 else 0, sec.bypassBit := b, pins.tdi := b }) ∧
    (s.get Obj.debugLevel = 0 → exec .samplePreload s = .next { s with sec.jtagInstr := 0 }) ∧
    (s.get Obj.debugLevel ≠ 0 → exec .samplePreload s = .next { s with
      sec.jtagInstr := 2, sec.captured := s.ballCells, sec.boundary := s.ballCells }) ∧
    (∀ c, 2 ≤ s.get Obj.debugLevel → s.lifecycle = 0 ∨ s.lifecycle = 3 → Claims.Answers (.extest c) s (fun t =>
      t.sec.jtagInstr = 3 ∧ t.sec.boundary = c ∧ t.pins.twinAct = c.getLsbD 22 ∧ t.pins.railEn = s.pins.railEn ∧
        t.pins.paEn = s.pins.paEn ∧ t.pins.rfMuteN = s.pins.rfMuteN ∧ t.pins.pfwN = s.pins.pfwN ∧ t.dict = s.dict)) ∧
    (∀ c, ¬ (2 ≤ s.get Obj.debugLevel ∧ (s.lifecycle = 0 ∨ s.lifecycle = 3)) →
      exec (.extest c) s = .next { s with sec.jtagInstr := 0 })

/-- A halt that FULL allows suspends the watchdog of the core; a halt of the Press first asserts RF_MUTE_N and drives
every PA_EN low. A resume puts the core back under its watchdog. The debug timeout closes the debug level, and every
core it had halted resumes. FULL halts the Cork in BLANK and RETURNED alone, no level below FULL halts a core or
writes memory, and none reaches the key store or the Cellarmaster. -/
def Obligations.DebugHalts : Prop :=
  (∀ (s : State) (c : CoreId),
    (s.mayHalt c = true → Claims.Answers (.debugHalt c) s (fun t =>
      t.sec.halted = s.sec.halted ++ [c] ∧ t.armed (.watchdog c) = false ∧ t.power = s.power ∧
        (c = .press → t.pins.rfMuteN = false ∧ t.pins.paEn = 0) ∧ (c ≠ .press → t.pins = s.pins))) ∧
    (c ∈ s.sec.halted → s.get Obj.debugLevel = 2 → exec (.debugResume c) s = .next
      (({ s with sec.halted := s.sec.halted.filter (fun x => x != c) }).arm (.watchdog c) (s.watchdogTime c))) ∧
    (∀ d, s.deadline .debugEnd = some d → s.get Obj.debugLevel ≠ 0 → Claims.Answers .debugTimeout s (fun t =>
      t.get Obj.debugLevel = 0 ∧ t.sec.debugOwner = none ∧ t.sec.halted = [] ∧ t.armed .debugEnd = false ∧
        ∀ k ∈ s.sec.halted, t.armed (.watchdog k) = true)) ∧
    (s.mayHalt .cork = true → s.lifecycle = 0 ∨ s.lifecycle = 3)) ∧
  (∀ level life c, level < 2 → debugReaches level life (.halt c) = false ∧
    debugReaches level life (.memory c true) = false) ∧
  (∀ level life w, debugReaches level life (.keyStore w) = false ∧ debugReaches level life .cellarmaster = false)

/-! ## Commits, the store and firmware updates (ch. 05) -/

/-- A stage times out and is discarded. A configuration write that ends with no commit journalled applies the commit
in hand when it verified, and is retried by R196 when the store has failed. Entries not in force 5 ms after the commit
point answer Deferred once. The image writer programs the oldest segment and frees its credits. A bundle that passes
makes an update Verified, one that fails makes it Failed with the check it failed. A block transfer without a segment
loses its data. -/
def Obligations.StoreAndUpdateEvents : Prop :=
  ∀ s : State,
    (∀ who d, s.deadline (.stage who) = some d →
      exec (.stageTimeout who) s = .next ((Claims.expired s (.stage who) d).setStage who [])) ∧
    (∀ ok, exec (.configWriteDone ok) s = .next ((s.configWritten ok).serveWaiting)) ∧
    (∀ d r, s.deadline .commitDefer = some d → s.eng.commit = some r → r.answered = false → r.form ≠ .none →
      exec .commitDefer s = .next (({ Claims.expired s .commitDefer d with
        eng.commit := some { r with answered := true } }).abort r.caller r.form.request (0x0A, 0)).endSpent) ∧
    (∀ m, s.headOf 0x08 = some m → exec .imageSegmentDone s = .next (((s.programSegment).take 0x08).serveHeld)) ∧
    (∀ n, s.running = true → s.get Obj.updateState = 2 → Claims.Answers (.updateVerifyDone n) s (fun t =>
      t.mems = s.mems ∧ t.boot = s.boot ∧
        (s.bundleFault (s.bankFacts s.targetBank) = none →
          t = ((s.elapse n.toNat).set Obj.updateFailedCheck 0).set Obj.updateState 3) ∧
        (∀ f, s.bundleFault (s.bankFacts s.targetBank) = some f →
          t.get Obj.updateState = 4 ∧ t.get Obj.updateFailedCheck = f.2 ∧ t.bit Obj.updateSticky 0 = true))) ∧
    (∀ src d, s.deadline (.block src.toNat true) = some d → Claims.Answers (.blockTimeout src true) s (fun t =>
      (∀ x ∈ t.blockWrites, x.peer = src.toNat → x.total = 0 ∧ x.data = []) ∧ t.blockReads = s.blockReads ∧
        t.mems = s.mems)) ∧
    (∀ src d, s.deadline (.block src.toNat false) = some d → Claims.Answers (.blockTimeout src false) s (fun t =>
      (∀ x ∈ t.blockReads, x.peer = src.toNat → x.total = 0 ∧ x.data = []) ∧ t.blockWrites = s.blockWrites ∧
        t.mems = s.mems))

/-- With a commit in hand that is not yet journalled, a configuration write that verifies stores its persistent values
over the current image, clears the journal and its marker, and counts the write; one that fails withdraws the commit,
leaves the registers in force, and holds the store for R196. -/
def Obligations.VerifiedWriteAppliesCommit : Prop :=
  ∀ (s : State) (r : CommitRun), s.cfg.writeFailed = false → s.eng.commit = some r → r.journalled = false →
    (s.running = false →
      (s.configWritten true).cfg = { s.cfg.writeOlder (overlay s.cfg.current.image r.persistent) with
        journal := [], marker := false } ∧
      (s.configWritten true).eng.commit = none ∧ (s.configWritten true).get Obj.dictCommitState = 0) ∧
    (r.form = .none → (s.configWritten false).eng.commit = none ∧ (s.configWritten false).cfg.writeFailed = true ∧
      (s.configWritten false).cfg.copyA = s.cfg.copyA ∧ (s.configWritten false).cfg.copyB = s.cfg.copyB ∧
      (s.configWritten false).bit Obj.dictSticky 6 = true)

/-! ## The field network (ch. 06) -/

/-- A port on the bus counts every frame that it takes part in. A protocol exception is discarded and the port joins
the bus anew. A frame with an 11-bit identifier, and a classical or remote one, is counted and dropped; one with
reserved identifier bits set is discarded with its flag. The unit's own address as Source makes it withdraw. A unicast
frame that is neither for this unit nor to be forwarded is ignored without being counted, one for this unit is
processed, one to be forwarded goes on. A group that is not complete in time is given up, flagged and answered. A
broadcast TimeSet and a Locate Query arrive as the frames of their messages. -/
def Obligations.FramesReceived : Prop :=
  ∀ (s : State) (p : Port),
    (∀ f : CanFrame, f.data.length ≤ 64 → s.portUp p = true → s.vintServes = true →
      let u := s.bump (Obj.portRxFrames (portNum p)) 1
      (f.res = true → exec (.obvarFrameReceive p f) s = .next ((u.rxDiscard p).joinPort p)) ∧
      (f.res = false → f.extended = false → exec (.obvarFrameReceive p f) s =
        .next (u.bump (Obj.portStdIdCount (portNum p)) 1)) ∧
      (f.res = false → f.extended = true → f.fd = false ∨ f.remote = true → exec (.obvarFrameReceive p f) s =
        .next (u.bump (Obj.portClassicCount (portNum p)) 1)) ∧
      (f.res = false → f.extended = true → f.fd = true → f.remote = false →
        (f.ident.toNat % 4 ≠ 0 → exec (.obvarFrameReceive p f) s = .next ((u.rxDiscard p).flag Obj.fieldSticky 5)) ∧
        (f.ident.toNat % 4 = 0 →
          (s.unassigned = false → frameSrc f.ident = s.field.effective →
            exec (.obvarFrameReceive p f) s = .next u.addressConflict) ∧
          ((s.unassigned = true ∨ frameSrc f.ident ≠ s.field.effective) →
            (frameBcast f.ident = false ∨ frameDst f.ident = 0 ∨ frameDst f.ident = 0x1FF) →
            (u.forwards p f = false → u.isLocal f = false → exec (.obvarFrameReceive p f) s = .next s) ∧
            (4 ≤ f.data.length → frameSvc f.ident < 13 →
              (frameRequest f.ident = true → prioOk (frameSvc f.ident) (framePrio f.ident) = true) →
              (u.forwards p f = false → u.isLocal f = true →
                exec (.obvarFrameReceive p f) s = .next (u.localFrame p f)) ∧
              (u.forwards p f = true → u.isLocal f = false →
                exec (.obvarFrameReceive p f) s = .next (u.forwardFrame p f)) ∧
              (u.forwards p f = true → u.isLocal f = true →
                exec (.obvarFrameReceive p f) s = .next ((u.forwardFrame p f).localFrame p f))))))) ∧
    (∀ (src : BitVec 9) d g, s.deadline (.reassembly p src.toNat) = some d → s.groupFrom src.toNat = some g →
      exec (.reassemblyTimeout p src) s = .next
        ((((Claims.expired s (.reassembly p src.toNat) d).dropGroup g).flag Obj.fieldSticky 6).groupAbort g.port
          g.ident g.tid g.body (0x0E, 1))) ∧
    (∀ (r : ReqCtx) (sec : BitVec 64) (us : BitVec 32) (src : Byte), r.via ≠ .host →
      exec (.timeSet r true sec us src) s = .next (s.receiveAll (viaPort r.via)
        (groupFrames (mkIdent r.prio.toNat true 9 r.src.toNat 0x1FF) r.tid.toNat r.trailer.isSome false
          (reqMessage r (leBytes 8 sec.toNat ++ leBytes 4 us.toNat ++ [src, 0#8, 0#8, 0#8]))))) ∧
    (∀ q : LocateQ, exec (.locateQuery p q) s = .next (s.receiveAll p
      (groupFrames (mkIdent 2 true 10 q.requester.toNat 0x1FF) 0 false false
        ([1#8, byteOf q.maskBits, if q.unassignedOnly then 1#8 else 0#8, 0#8] ++ leBytes 8 q.pattern.toNat
          ++ leBytes 2 q.window.toNat ++ [0#8, 0#8]))))

/-- A Heartbeat from a source other than the unit itself, received while its queue has a credit, marks that source
present and starts Field.OfflineTime afresh; the expiry of that time marks the source offline, and every other source
stays as it was. One that comes in the midst of a group of its source breaks that group off first. -/
def Obligations.PresenceFollowsHeartbeats : Prop :=
  ∀ (s : State) (p : Port) (src : BitVec 9),
    (s.portUp p = true → s.vintServes = true → src.toNat ≠ s.field.effective → s.groupFrom src.toNat = none →
      1 ≤ s.credits (0x18 + portNum p) → Claims.Answers (.heartbeatReceive p src) s (fun t =>
        t.bit Obj.fieldNodePresent src.toNat = true ∧
        (∀ n, n ≠ src.toNat → t.bit Obj.fieldNodePresent n = s.bit Obj.fieldNodePresent n) ∧
        t.deadline (.offline src.toNat) = some (s.now + 1000 * s.get Obj.fieldOfflineTime))) ∧
    (∀ g, s.portUp p = true → s.vintServes = true → src.toNat ≠ s.field.effective → s.groupFrom src.toNat = some g →
      s.bridges = false → exec (.heartbeatReceive p src) s = .next (
        let u := (({ s with free := s.free + 1 }).bump (Obj.portRxFrames (portNum p)) 1).dropGroup g
        let v := u.groupAbort g.port g.ident g.tid g.body (0x0D, 3)
        if v.credits (0x18 + portNum p) = 0 then v.countDrop (0x18 + portNum p) else v.heard src.toNat)) ∧
    (∀ d, s.deadline (.offline src.toNat) = some d → Claims.Answers (.nodeOffline src) s (fun t =>
      t.bit Obj.fieldNodePresent src.toNat = false ∧
        (∀ n, n ≠ src.toNat → t.bit Obj.fieldNodePresent n = s.bit Obj.fieldNodePresent n) ∧
        t.field = s.field ∧ t.mems = s.mems))

/-- After a bus-off a port that was error active or error passive waits Field.BusOffHoldoff times its factor, and then
rejoins. The factor doubles, up to 64, when the bus-off comes within 60 s of rejoining, and is 1 again after 600 s
error active. -/
def Obligations.BusOffWait : Prop :=
  ∀ (s : State) (p : Port),
    (s.portUp p = true → ∃ u : State, exec (.busOff p) s = .next (u.flushPort p) ∧
      u.portState p = 5 ∧ u.bit Obj.fieldSticky (portNum p) = true ∧
      (u.portEng p).waitFactor = (if (s.portEng p).joinedAt ≠ 0 ∧ s.now ≤ (s.portEng p).joinedAt + 60000000
        then min 64 (2 * (s.portEng p).waitFactor) else (s.portEng p).waitFactor) ∧
      u.deadline (.busOffHoldoff p) = some (s.now + 1000 * s.get Obj.fieldBusOffHoldoff * (u.portEng p).waitFactor)) ∧
    (∀ d, s.deadline (.busOffHoldoff p) = some d → s.portOn p = true → s.armed (.stuckRejoin p) = false →
      s.get Obj.clockCoreSource ≠ 0 → Claims.Answers (.busOffHoldoffExpiry p) s (fun t =>
        t.portState p = 2 ∧ t.get (Obj.portTec (portNum p)) = 0 ∧ t.get (Obj.portRec (portNum p)) = 0 ∧
          (t.portEng p).rejoining = true)) ∧
    (s.portState p = 2 → (s.portEng p).rejoining = true → s.now ≠ 0 → Claims.Answers (.busIntegration p) s (fun t =>
      t.portState p = 3 ∧ (t.portEng p).joinedAt = s.now ∧ (t.portEng p).waitFactor = (s.portEng p).waitFactor ∧
        t.deadline (.busOffWait p) = some (s.now + 600000000))) ∧
    (∀ d, s.deadline (.busOffWait p) = some d → Claims.Answers (.busOffWaitReset p) s (fun t =>
      (t.portEng p).waitFactor = 1 ∧ t.q = s.q ∧ t.mems = s.mems))

/-- A port on the bus sends the frame with the lowest identifier among the heads of its queues and its refusal FIFO; a
frame at the head past its lifetime is dropped and counted. What the port does once a frame has left it, in HOLDUP or
with a change of its enables pending, follows. A due Heartbeat of an assigned unit is posted and the next one follows
a period later. A due Locate reply is sent or drawn again. -/
def Obligations.PortsSend : Prop :=
  ∀ (s : State) (p : Port),
    (∀ x, s.portUp p = true → lowestFrame (s.txHeads p) = some x → (s.portEng p).refusals = [] →
      exec (.frameTransmit p) s = .next
        (((((((s.noteSent p x.2).take x.1).rearmTx p x.1).sentOne p).countForwarded p x.1).serveHeld).afterSend p)) ∧
    (∀ x r rest, s.portUp p = true → lowestFrame (s.txHeads p) = some x → (s.portEng p).refusals = r :: rest →
      exec (.frameTransmit p) s = .next
        ((if r.frame.ident.toNat ≤ x.2.ident.toNat then s.sendRefusal p r rest else s.sendQueued p x).afterSend p)) ∧
    (∀ r rest, s.portUp p = true → lowestFrame (s.txHeads p) = none → (s.portEng p).refusals = r :: rest →
      exec (.frameTransmit p) s = .next ((s.sendRefusal p r rest).afterSend p)) ∧
    (s.portUp p = true → lowestFrame (s.txHeads p) = none → (s.portEng p).refusals = [] →
      exec (.frameTransmit p) s = .next (s.afterSend p)) ∧
    (∀ (q : Byte) d m, s.deadline (.txLife p q.toNat) = some d → s.headOf q.toNat = some m →
      m.at_ + 1000 * s.get Obj.queueTxLifetime ≤ max s.now d →
      exec (.txLifetimeExpiry p q) s = .next
        (((((((Claims.expired s (.txLife p q.toNat) d).take q.toNat).txExpired 1).noteSummary).rearmTx p
          q.toNat).serveHeld).settleJoin p)) ∧
    (∀ d, s.deadline (.heartbeat p) = some d → s.portUp p = true → s.unassigned = false → s.vintServes = true →
      Claims.Answers (.heartbeat p) s (fun t =>
        t.deadline (.heartbeat p) = some (max s.now d + 1000 * s.get Obj.fieldHeartbeatPeriod) ∧ t.field = s.field ∧
          t.mems = s.mems)) ∧
    (∀ d b, s.deadline .locateReply = some d → exec (.locateReply b) s = .next
      ((Claims.expired s .locateReply d).locateDue b))

/-- An error-active port that becomes error passive shows it and its flag. A stuck-dominant bus puts the transceiver
in standby and arms its return. Restricted operation that lasts is flagged and drops what waits to be sent. A port
that has joined the bus is error active and, on an assigned unit, sends a Heartbeat within 10 ms. -/
def Obligations.PortFaults : Prop :=
  ∀ (s : State) (p : Port),
    (s.portState p = 3 → Claims.Answers (.errorPassive p) s (fun t => t.portState p = 4 ∧
      t.bit Obj.fieldSticky (2 + portNum p) = true ∧ t.get (Obj.portTec (portNum p)) = 128 ∧
        t.armed (.busOffWait p) = false ∧ t.field.effective = s.field.effective ∧ t.mems = s.mems)) ∧
    (s.portUp p = true ∨ s.portState p = 2 → ∃ u : State, exec (.stuckDominant p) s = .next (u.flushPort p) ∧
      u.portState p = 1 ∧ u.bit Obj.fieldSticky 9 = true ∧
      (match p with | .a => u.pins.canStbA | .b => u.pins.canStbB) = true ∧
      u.deadline (.stuckRejoin p) = some (s.now + 1000 * s.get Obj.fieldBusOffHoldoff)) ∧
    (∀ d, s.deadline (.stuckRejoin p) = some d → s.portOn p = true → s.armed (.busOffHoldoff p) = false →
      s.get Obj.clockCoreSource ≠ 0 → Claims.Answers (.stuckDominantRejoin p) s (fun t => t.portState p = 2 ∧
        (match p with | .a => t.pins.canStbA | .b => t.pins.canStbB) = false)) ∧
    (∀ d, s.deadline .restricted = some d → exec .restrictedLong s = .next
      ((((Claims.expired s .restricted d).flag Obj.fieldSticky 10).flushPort .a).flushPort .b)) ∧
    (s.portState p = 2 → s.unassigned = false → (s.portEng p).rejoining = false → Claims.Answers (.busIntegration p) s
      (fun t => t.portState p = 3 ∧ t.deadline (.heartbeat p) = some (s.now + 10000) ∧ t.field = s.field ∧
        t.mems = s.mems))

/-! ## The host port (ch. 07) -/

/-- LO_READ_LATCH shifts out the low half of the 64-bit value and latches its high half. HI_READ with a valid latch
returns the latched half and makes the latch invalid; without one it returns the live high half and sets TornRead. -/
def Obligations.WidePairsReadTogether : Prop :=
  ∀ (s : State) (w : WidePair), s.vintServes = true →
    Claims.Answers (.loReadLatch w) s (fun t => t.hp.miso = s.statusByte :: leBytes 4 (s.wide w) ∧
      t.latch w = some (BitVec.ofNat 32 (s.wide w / 2 ^ 32)) ∧ t.dict = s.dict ∧ t.mems = s.mems) ∧
    (∀ v, s.latch w = some v → Claims.Answers (.hiRead w) s (fun t =>
      t.hp.miso = s.statusByte :: leBytes 4 v.toNat ∧ t.latch w = none ∧ t.dict = s.dict ∧ t.mems = s.mems)) ∧
    (s.latch w = none → Claims.Answers (.hiRead w) s (fun t =>
      t.hp.miso = s.statusByte :: leBytes 4 (s.wide w / 2 ^ 32) ∧ t.bit Obj.hostPortSticky 0 = true ∧
        t.get Obj.hostPortTornReadCount = satBytes (objSize Obj.hostPortTornReadCount)
          (s.get Obj.hostPortTornReadCount + 1) ∧ t.mems = s.mems))

/-- A read of the buffers shifts out the status byte and their bytes and changes nothing else; a forensic read
likewise, over the whole range of 24-bit addresses and in every state but OFF. A write to MB_REQ_BUF stores each byte
at its address and no other byte of the buffer changes. A command that Table 7-1 does not have is a bad command. Ones
written to HP_IRQ_STATUS clear those bits, and ones written to HP_STICKY clear flags as R180 allows. -/
def Obligations.HostReadsAndWrites : Prop :=
  ∀ s : State, s.power.state ≠ .off →
    (∀ (a : BitVec 16) n, 0x100 ≤ a.toNat → exec (.hostRead a n) s = .next { s with
      hp.miso := s.statusByte :: (List.range n).map (fun i => s.bufferByte (a.toNat + i)), hp.cut := false }) ∧
    (∀ (a : BitVec 24) n, exec (.forensicRead a n) s = .next { s with
      hp.miso := s.statusByte :: (List.range n).map (fun i =>
        s.forensicByte ((a.toNat + i) % 2 ^ 24 / 65536) ((a.toNat + i) % 2 ^ 24 % 65536)), hp.cut := false }) ∧
    (∀ (a : BitVec 16) (d : Bytes), s.vintServes = true → s.power.recovery = false → 0x100 ≤ a.toNat →
      a.toNat + d.length ≤ 0x500 → Claims.Answers (.hostWrite a d) s (fun t =>
        (∀ i (h : i < d.length), memRead zeroByte t.mems.mbReq (a.toNat - 0x100 + i) = d[i]) ∧
        (∀ x, x < a.toNat - 0x100 ∨ a.toNat - 0x100 + d.length ≤ x →
          memRead zeroByte t.mems.mbReq x = memRead zeroByte s.mems.mbReq x) ∧
        t.mems.mbRsp = s.mems.mbRsp ∧ t.mems.rcv = s.mems.rcv ∧ t.mems.vint = s.mems.vint)) ∧
    (∀ c : Byte, c ∉ [0x03#8, 0x02#8, 0x0B#8, 0xAB#8] → Claims.Answers (.badCommand c) s (fun t =>
      t.hp.miso = [s.statusByte] ∧ (s.coreUp = true → t.bit Obj.hostPortSticky 2 = true) ∧ t.mems = s.mems)) ∧
    (∀ m : BitVec 32, s.vintServes = true → exec (.hpIrqStatusClear m) s = .next { s with
      hp.irqStatus := s.hp.irqStatus &&& ~~~ m }) ∧
    (∀ m : BitVec 32, s.vintServes = true →
      exec (.hpStickyClear m) s = .next (s.stickyClear none 0xFFFF Obj.hostPortSticky m.toNat))

/-- Go with a valid length, while no request is in hand or unanswered and no reply waits for the host, takes the
request out of the buffer and serves it; where a reply or an unanswered request stands before it, it waits in the
buffer (log entry 127). While one is in hand, or with a length outside 8 to 968, Go only flags. While no reply is
ready, the next one is written into MB_RSP_BUF with its length, and Ready and the interrupt bit are set. Ack releases
a reply; a final one ends the request that waited for it. -/
def Obligations.MailboxExchanges : Prop :=
  ∀ s : State, s.vintServes = true →
    (∀ n : BitVec 11, s.hp.busy = false → s.hp.outstanding = false → 8 ≤ n.toNat → n.toNat ≤ 968 →
      let u := ({ s with hp.reqLength := n, hp.busy := true }).bump Obj.hostPortMailboxRequests 1
      (s.mailboxFree = true → exec (.mailboxGo n) s = .next u.takeMailbox) ∧
      (s.mailboxFree = false → exec (.mailboxGo n) s = .next u)) ∧
    (∀ n : BitVec 11, s.hp.busy = true ∨ s.hp.outstanding = true → Claims.Answers (.mailboxGo n) s (fun t =>
      t.bit Obj.hostPortSticky 1 = true ∧ t.hp.reqLength = s.hp.reqLength ∧ t.hp.busy = s.hp.busy ∧
        t.hp.outstanding = s.hp.outstanding ∧ t.mems = s.mems)) ∧
    (∀ n : BitVec 11, s.hp.busy = false → s.hp.outstanding = false → n.toNat < 8 ∨ 968 < n.toNat →
      Claims.Answers (.mailboxGo n) s (fun t => t.bit Obj.hostPortSticky 2 = true ∧ t.hp.busy = false ∧
        t.mems = s.mems)) ∧
    (∀ m bs, s.hp.ready = false → s.nextReply = some m → m.body = .mail bs → bs.length ≤ 1024 →
      ∃ u : State, exec .mailboxReply s = .next u.serveHeld ∧ u.hp.ready = true ∧
        u.hp.rspLength = BitVec.ofNat 11 bs.length ∧ u.hp.irqStatus = s.hp.irqStatus ||| 1 ∧
        (∀ i (h : i < bs.length), memRead zeroByte u.mems.mbRsp i = bs[i]) ∧
        (∀ x, bs.length ≤ x → memRead zeroByte u.mems.mbRsp x = memRead zeroByte s.mems.mbRsp x) ∧
        (∀ k, k ≠ Obj.queueEscapeUseCount → u.get k = s.get k) ∧ u.mems.mbReq = s.mems.mbReq) ∧
    (s.hp.ready = true → s.hp.busy = false → exec .mailboxAck s = .next (
      if s.hp.rspFinal = true then { s with hp.ready := false, hp.rspFinal := false, hp.outstanding := false }
      else { s with hp.ready := false }).serveHeld)

/-- The Wake key in DORMANT ends a watchdog lockout and starts the unit (reason 0x0C). In the recovery window a Commit
programs the 4,096 bytes of RCV_BUF at its chunk of the selected bank and no other byte; a Verify whose bank passes
restarts the unit, and one whose bank fails leaves the window open with the failed check. -/
def Obligations.WakeAndRecovery : Prop :=
  ∀ s : State,
    (Claims.MayStart s → s.power.recovery = false → s.bit Obj.powerStateWakeSources 3 = true →
      Claims.Answers (.wake [0x57#8]) s (fun t => Claims.Starting t 0x0C ∧ t.power.wakePending = true ∧
        t.get Obj.watchdogLockout = 0)) ∧
    (∀ n : BitVec 21, s.power.recovery = true → n.toNat ≤ 383 → Claims.Answers (.rcvCommit n) s (fun t =>
      t.hp.rcvOffset = n ∧ t.hp.rcvResult = 1 ∧
        (∀ i < 4096, memRead zeroByte (t.bankMem (s.get Obj.bootSelectedBank)) (4096 * n.toNat + i) =
          memRead zeroByte s.mems.rcv i) ∧
        (∀ x, x < 4096 * n.toNat ∨ 4096 * n.toNat + 4096 ≤ x →
          memRead zeroByte (t.bankMem (s.get Obj.bootSelectedBank)) x =
            memRead zeroByte (s.bankMem (s.get Obj.bootSelectedBank)) x) ∧
        t.dict = s.dict ∧ t.mems.rcv = s.mems.rcv)) ∧
    (∀ o, s.power.recovery = true → Claims.Answers (.rcvVerify o) s (fun t =>
      (s.bundleFault (s.bankFacts (s.get Obj.bootSelectedBank)) = none →
        t = (((({ s with hp.rcvOffset := o, hp.rcvResult := 2, hp.rcvFailed := 0 }).raiseIrq 4).set Obj.updateFailedCheck 0).restart 3)) ∧
      (∀ f, s.bundleFault (s.bankFacts (s.get Obj.bootSelectedBank)) = some f →
        t.hp.rcvResult = 3 ∧ t.hp.rcvFailed = BitVec.ofNat 4 f.2 ∧ t.power = s.power ∧ t.mems = s.mems)))

/-! ## The queues (ch. 08) -/

/-- A post that finds the credits it needs, and none before it that waits for the same queue, stands at the tail of
its queue. Without them nothing enters but a derived message of one slot, which takes the free escape slot of its
class, is counted, and is watched for 100 ms; a refusable post is counted as dropped, every other post waits, and a
latched one that already waits is merged. What a core posts while it handles a message is derived. -/
def Obligations.PostsNeedCredits : Prop :=
  ∀ (s : State) (k : PostKind) (q n : Nat) (b : Msg), 0 < qDepth q →
    let j := s.postAs k
    (n ≤ s.credits q → s.standsBehind j q = false →
      (s.post k q n b).q.msgs = s.q.msgs ++ [⟨q, n, false, 1, s.now, b⟩]) ∧
    (s.credits q < n → j = .derived → s.escapeTaken (qClass q) = false → n = 1 → s.standsBehind j q = false →
      (s.post k q n b).q.msgs = s.q.msgs ++ [⟨q, n, true, 1, s.now, b⟩] ∧
      (s.post k q n b).deadline (.escape (qClass q)) = some (s.now + 100000) ∧
      (s.post k q n b).get Obj.queueEscapeUseCount =
        satBytes (objSize Obj.queueEscapeUseCount) (s.get Obj.queueEscapeUseCount + 1)) ∧
    (s.credits q < n ∨ s.standsBehind j q = true →
      (j = .derived → s.escapeTaken (qClass q) = true ∨ n ≠ 1 ∨ s.standsBehind j q = true) →
      (s.post k q n b).q.msgs = s.q.msgs ∧
      (j = .refusable → lookupD (s.post k q n b).q.drops q 0 = satBytes 4 (lookupD s.q.drops q 0 + 1)) ∧
      (j = .fresh ∨ j = .derived ∨ (j = .latched ∧ ∀ w ∈ s.q.waits, w.isLatch q = false) →
        (s.post k q n b).q.waits.length = s.q.waits.length + 1) ∧
      (j = .latched → (∃ w ∈ s.q.waits, w.isLatch q = true) →
        (s.post k q n b).q.waits = s.q.waits.map (fun w => if w.isLatch q then w.merge else w))) ∧
    (s.q.handling = true → k = .fresh → j = .derived) ∧ (s.q.handling = false → j = k)

/-- The queue that a consumer serves next holds a message for it. It is a safety queue if any of its safety queues
holds one; else a queue passed over 256 times if there is one; else a queue of the lowest class that holds one. Within
the safety class and within the lowest class it is the first such queue after the one served last in that class, or
the first of all where none comes after it. -/
def Obligations.ConsumersServeInOrder : Prop :=
  ∀ (s : State) (c q : Nat), s.nextServed c = some q →
    q ∈ s.served c ∧
    ((∃ x ∈ s.served c, qClass x = 0) → qClass q = 0) ∧
    ((∀ x ∈ s.served c, qClass x ≠ 0) → (∃ x ∈ s.served c, 256 ≤ lookupD s.q.passed x 0) →
      256 ≤ lookupD s.q.passed q 0) ∧
    ((∀ x ∈ s.served c, lookupD s.q.passed x 0 < 256) → ∀ x ∈ s.served c, qClass q ≤ qClass x) ∧
    (qClass q = 0 ∨ (∀ x ∈ s.served c, lookupD s.q.passed x 0 < 256) →
      ∀ l, s.lastServed c (qClass q) = some l →
        ((∃ x ∈ s.served c, qClass x = qClass q ∧ l < x) →
          l < q ∧ ∀ x ∈ s.served c, qClass x = qClass q → l < x → q ≤ x) ∧
        ((∀ x ∈ s.served c, qClass x = qClass q → x ≤ l) → ∀ x ∈ s.served c, qClass x = qClass q → q ≤ x))

/-- A post to a queue with a free credit and no post that waits before it stands at its tail. The consumer whose turn
it is removes the message at the head and handles it, where what it posts finds its credits, and what waited for the
credit goes on. A request not answered within 10 ms is answered Deferred, and one that still waits at its limit is
withdrawn with abort 0x09. A refusal unsent for 20 ms is withdrawn. An audit that finds another count discards the
queue's messages, and an escape slot held for 100 ms is flagged. -/
def Obligations.QueueCommands : Prop :=
  ∀ s : State,
    (∀ (q : Byte) b d, s.power.state ≠ .off → 0 < qDepth q.toNat → 1 ≤ s.credits q.toNat →
      s.standsBehind (s.postAs (postKind q.toNat d)) q.toNat = false →
      isTxQueue q.toNat = false → exec (.queuePost q b d) s = .next
        ((s.place ⟨q.toNat, 1, false, 1, s.now, s.posted q.toNat (b.take 64)⟩).noteSummary)) ∧
    (∀ (q : Byte), s.power.state ≠ .off → (s.headOf q.toNat).isSome = true → isTxQueue q.toNat = false →
      consumerOf q.toNat ≠ 6 → s.nextServed (consumerOf q.toNat) = some q.toNat →
      (consumerOf q.toNat = 0 → s.wd.lockstepBusy = false) →
      let t := (s.noteServed (consumerOf q.toNat) q.toNat).handle (fun u => u.consume q.toNat)
      (consumerOf q.toNat = 0 ∨ t.derivedWaits ≤ s.derivedWaits →
        exec (.queueTake q) s = .next ((t.noteSummary).serveHeld)) ∧
      (consumerOf q.toNat ≠ 0 → s.derivedWaits < t.derivedWaits → exec (.queueTake q) s = .next s)) ∧
    (∀ (src : BitVec 16) (tid : Byte) d h, s.deadline (.defer src.toNat tid.toNat) = some d →
      s.eng.held.find? (fun h => (h.caller.dest.peer == src.toNat && h.caller.dest.tid == tid.toNat) && !h.answered)
        = some h →
      exec (.deferTimeout src tid) s = .next ((Claims.expired s (.defer src.toNat tid.toNat) d).deferHeld h)) ∧
    (∀ (src : BitVec 16) (tid : Byte) d h, s.deadline (.deferLimit src.toNat tid.toNat) = some d →
      s.eng.held.find? (fun h => h.answered && h.caller.dest.peer == src.toNat && h.caller.dest.tid == tid.toNat)
        = some h →
      ∃ u : State, u.eng.held = s.eng.held.erase h ∧ u.bit Obj.queueSticky 1 = true ∧
        exec (.deferLimitExpiry src tid) s = .next
          ((u.abort { h.caller with deferred := true } h.body (9, h.lacks)).serveHeld)) ∧
    (∀ p d r rest, s.deadline (.refusal p) = some d → (s.portEng p).refusals = r :: rest →
      Claims.Answers (.refusalExpiry p) s (fun t => (t.portEng p).refusals = rest ∧ t.bit Obj.queueSticky 3 = true ∧
        t.mems = s.mems)) ∧
    (∀ (q : Byte) n, s.power.state ≠ .off → n ≠ qDepth q.toNat →
      ((∀ w ∈ s.q.waits, w.kind ≠ .derived ∨ qClass w.msg.queue ≠ qClass q.toNat) →
        ∀ m ∈ (s.discardQueue q.toNat).q.msgs, m.queue ≠ q.toNat) ∧
      exec (.creditAudit q n) s = .next ((((s.discardQueue q.toNat).faultRow Obj.queueSticky 7 .monitors 0x0E08 1 31
        (leBytes 4 q.toNat ++ leBytes 4 (qDepth q.toNat) ++ leBytes 4 n)).placeWaiting q.toNat).serveHeld)) ∧
    (∀ (c : Fin 8) d m, s.deadline (.escape c.val) = some d →
      s.q.msgs.find? (fun m => m.escape && qClass m.queue == c.val) = some m →
      Claims.Answers (.escapeHeld c) s (fun t => t.bit Obj.queueSticky 4 = true ∧ t.power = s.power ∧ t.mems = s.mems))

/-! ## Converters, datapath and front end (ch. 09, 10) -/

/-- A calibration that ends well leaves its status 2, one that fails 3 with its flag. In Tasting, the TasteBlocks-th
divergent block in a row declares divergence and mutes every enabled path of the direction, a shorter run only counts,
and 60,000 clean blocks in a row clear it. An overrange run counts, flags and freezes the DC blocker for 1 ms more. A
saturated element sets its own bit and adds its samples; a clipped DAC counts and flags its direction. At the end of
suppression the path has settled, and after a relock its first detector window begins there. A SYNC edge settles every
path, begins every window afresh, counts, and leaves mute states, applied gains and FabricTime alone. -/
def Obligations.ConvertersAndBlocks : Prop :=
  ∀ s : State, s.paths.length = 16 →
    (∀ (c : Fin 4) st, s.get (Obj.adcCalStatus c.val) = 1 →
      exec (.adcCalibrationDone c true st) s = .next (s.set (Obj.adcCalStatus c.val) 2) ∧
      Claims.Answers (.adcCalibrationDone c false st) s (fun t => t.get (Obj.adcCalStatus c.val) = 3 ∧
        t.bit Obj.converterSticky 8 = true ∧ t.mems = s.mems ∧ t.pins = s.pins)) ∧
    (∀ d n (l : BitVec 16), s.running = true → s.pairMode d = 2 →
      (s.get Obj.converterTasteCount ≤ n → (s.taste d).run + 1 = s.get Obj.converterTasteBlocks →
        (s.get Obj.converterTasteState).testBit (dirNum d) = false → Claims.Answers (.tasteBlockEnd d n l) s (fun t =>
          (t.get Obj.converterTasteState).testBit (dirNum d) = true ∧ t.bit Obj.converterSticky (4 + dirNum d) = true ∧
            ∀ p ∈ s.liveOf d, t.get (Obj.stabState p) = 0)) ∧
      (s.get Obj.converterTasteCount ≤ n → (s.taste d).run + 1 < s.get Obj.converterTasteBlocks →
        Claims.Answers (.tasteBlockEnd d n l) s (fun t => t.taste d = ⟨(s.taste d).run + 1, 0⟩ ∧
          t.get Obj.converterTasteState = s.get Obj.converterTasteState ∧ t.paths = s.paths)) ∧
      (n < s.get Obj.converterTasteCount → Claims.Answers (.tasteBlockEnd d n l) s (fun t =>
        t.taste d = ⟨0, (s.taste d).clean + 1⟩ ∧
          (60000 ≤ (s.taste d).clean + 1 → (t.get Obj.converterTasteState).testBit (dirNum d) = false) ∧
          ((s.taste d).clean + 1 < 60000 → t.get Obj.converterTasteState = s.get Obj.converterTasteState)))) ∧
    (∀ c : Fin 4, s.running = true → Claims.Answers (.adcOverrange c) s (fun t =>
      t.get (Obj.adcOverrangeCount c.val) = satBytes (objSize (Obj.adcOverrangeCount c.val))
        (s.get (Obj.adcOverrangeCount c.val) + 1) ∧
      t.bit Obj.converterSticky c.val = true ∧ t.get (Obj.adcDcFrozen c.val) = 1 ∧
      t.deadline (.dcFreeze c.val) = some (s.now + 1000))) ∧
    (∀ (c : Fin 4) d, s.deadline (.dcFreeze c.val) = some d → s.get (Obj.adcDcFreeze c.val) = 0 →
      s.get Obj.clockSamplePllLocked = 1 →
      Claims.Answers (.dcFreezeEnd c) s (fun t => t.get (Obj.adcDcFrozen c.val) ≠ 1 ∧ t.pins = s.pins)) ∧
    (∀ (p : Fin 16) (e : Fin 22) n, s.running = true → 0 < n → Claims.Answers (.elementSaturation p e n) s (fun t =>
      t.bit (Obj.bandPathSatSticky p.val) e.val = true ∧ t.get (Obj.bandPathSatCount p.val) =
        satBytes (objSize (Obj.bandPathSatCount p.val)) (s.get (Obj.bandPathSatCount p.val) + n) ∧
      ∃ i ∈ (t.path p.val).inputs, i.input = 3)) ∧
    (∀ d, s.running = true → Claims.Answers (.dacClip d) s (fun t =>
      t.bit Obj.converterSticky (6 + dirNum d) = true ∧ t.paths = s.paths ∧ t.mems = s.mems)) ∧
    (∀ (p : Fin 16) d, s.deadline (.settle p.val) = some d → Claims.Answers (.settleEnd p) s (fun t =>
      t.get (Obj.bandPathSettling p.val) = 0 ∧ p.val ∉ t.conv.noWindow ∧
      (s.paths.length = 16 → p.val ∈ s.conv.noWindow → (t.path p.val).window = s.windowOf p.val ∧
        (t.path p.val).suppressed = false) ∧ ∃ i ∈ (t.path p.val).inputs, i.input = 5)) ∧
    (s.running = true → s.get Obj.converterSyncPinEnable = 1 → Claims.Answers .syncEdge s (fun t =>
      t.get Obj.converterSyncCount =
        satBytes (objSize Obj.converterSyncCount) (s.get Obj.converterSyncCount + 1) ∧
      t.fabricTime = s.fabricTime ∧ ∀ p ∈ pathNums, t.get (Obj.bandPathSettling p) = 1 ∧
        t.armed (.settle p) = true ∧ (t.path p).window = s.windowOf p ∧
        t.get (Obj.stabState p) = s.get (Obj.stabState p) ∧ t.get (Obj.stabApplied p) = s.get (Obj.stabApplied p))) ∧
    (s.get Obj.converterSyncPinEnable ≠ 1 → exec .syncEdge s = .next s)

/-- Suppression marks the window in progress on its path. The end of a window that contains a suppressed sample
latches both results with the Suppressed flag and without Valid, and raises DetectorWindow; another window's results
do not carry the flag. The window after it contains suppressed samples from the start exactly while the path still
settles. -/
def Obligations.SuppressedWindowsAreInvalid : Prop :=
  ∀ (s : State) (p : Fin 16) (m : BitVec 32) (n : Nat) (c : Bool), s.paths.length = 16 →
    ((s.startSettle p.val).path p.val).suppressed = true ∧
    (s.running = true → s.power.pressReady = true → s.get Obj.clockSamplePllLocked = 1 → p.val ∉ s.conv.noWindow →
      (s.path p.val).suppressed = true → Claims.Answers (.detectorWindowEnd p m n c) s (fun t =>
        (∀ k ∈ [Obj.bandPathPeak p.val, Obj.bandPathRms p.val],
          (fieldAt (t.bytesOf k) 12 1).testBit 0 = false ∧ (fieldAt (t.bytesOf k) 12 1).testBit 2 = true) ∧
        (t.path p.val).suppressed = (s.get (Obj.bandPathSettling p.val) == 1) ∧
        ∃ i ∈ (t.path p.val).inputs, i.input = 0)) ∧
    ((s.path p.val).suppressed = false → ∀ k ∈ [Obj.bandPathPeak p.val, Obj.bandPathRms p.val],
      (fieldAt ((s.latchWindow p.val m.toNat n c).bytesOf k) 12 1).testBit 2 = false)

/-- The end of a window on a path that is muted latches the peak and the sum (at most 2^48 − 1, with GuardOverflow),
the next WindowSeq, the flags, with Clipped leaving Valid alone, and the settings for the next window. On an unmuted
path a valid result is also its level; the third overpower window in a row is trigger 4. Without a locked sample PLL
no window ends. -/
def Obligations.DetectorWindows : Prop :=
  ∀ (s : State) (p : Fin 16) (m : BitVec 32) (n : Nat) (c : Bool), s.paths.length = 16 → s.running = true →
    s.power.pressReady = true →
    (s.get Obj.clockSamplePllLocked ≠ 1 → exec (.detectorWindowEnd p m n c) s = .next s) ∧
    (s.get Obj.clockSamplePllLocked = 1 → p.val ∉ s.conv.noWindow → (s.path p.val).suppressed = false →
      (s.unmuted p.val = false → Claims.Answers (.detectorWindowEnd p m n c) s (fun t =>
        fieldAt (t.bytesOf (Obj.bandPathPeak p.val)) 0 8 = m.toNat ∧
        fieldAt (t.bytesOf (Obj.bandPathRms p.val)) 0 8 = min n (2 ^ 48 - 1) ∧
        (∀ k ∈ [Obj.bandPathPeak p.val, Obj.bandPathRms p.val],
          fieldAt (t.bytesOf k) 8 4 = (fieldAt (s.bytesOf (Obj.bandPathPeak p.val)) 8 4 + 1) % 2 ^ 32 ∧
          (fieldAt (t.bytesOf k) 12 1).testBit 0 = decide (n < 2 ^ 48) ∧
          (fieldAt (t.bytesOf k) 12 1).testBit 1 = decide (2 ^ 48 ≤ n) ∧ (fieldAt (t.bytesOf k) 12 1).testBit 3 = c) ∧
        (t.path p.val).window = s.windowOf p.val ∧ t.get (Obj.stabState p.val) = s.get (Obj.stabState p.val))) ∧
      (s.unmuted p.val = true → n < 2 ^ 48 →
        let u := s.latchWindow p.val m.toNat n c
        let u := (u.moveGains).noteLevel p.val ((s.path p.val).window % 2 == 1)
          (toSigned 2 (ofSigned 2 (levelOf n (2 ^ ((s.path p.val).window / 2)) true)))
        (∀ v, u.watchPower p.val = (v, true) →
          exec (.detectorWindowEnd p m n c) s = .next ((v.fabEvent p.val 13).netTrigger 4 [p.val])) ∧
        (∀ v, u.watchPower p.val = (v, false) → exec (.detectorWindowEnd p m n c) s = .next v.settleGains)))

/-- A rise of the envelope above BandPath.EnvHigh raises EnvelopeHigh (input 1) unless the last envelope event of the
path was one; a fall below BandPath.EnvLow raises EnvelopeLow (input 2) only after an EnvelopeHigh. Otherwise nothing
changes. Mutes and gains are left alone. -/
def Obligations.EnvelopeEventsAlternate : Prop :=
  ∀ (s : State) (p : Fin 16) (l : BitVec 16), s.paths.length = 16 → s.running = true →
    ((s.path p.val).envHigh = false → s.getI (Obj.bandPathEnvHigh p.val) < l.toInt →
      Claims.Answers (.envelopeHigh p l) s (fun t => (t.path p.val).envHigh = true ∧
        (∃ i ∈ (t.path p.val).inputs, i.input = 1) ∧ t.get (Obj.bandPathEnvelope p.val) = l.toNat ∧
        t.pins = s.pins ∧ t.mems = s.mems)) ∧
    ((s.path p.val).envHigh = true ∨ l.toInt ≤ s.getI (Obj.bandPathEnvHigh p.val) →
      exec (.envelopeHigh p l) s = .next s) ∧
    ((s.path p.val).envHigh = true → l.toInt < s.getI (Obj.bandPathEnvLow p.val) →
      Claims.Answers (.envelopeLow p l) s (fun t => (t.path p.val).envHigh = false ∧
        (∃ i ∈ (t.path p.val).inputs, i.input = 2) ∧ t.get (Obj.bandPathEnvelope p.val) = l.toNat ∧
        t.pins = s.pins ∧ t.mems = s.mems)) ∧
    ((s.path p.val).envHigh = false ∨ s.getI (Obj.bandPathEnvLow p.val) ≤ l.toInt →
      exec (.envelopeLow p l) s = .next s)

/-- With a credit free, the fabric posts one message for the lowest pending input of the path, which stands at the
tail of its queue unless another waits before it, and clears that input. A front-end entry drives its GPIO lines or
sends its SPI word, and its wait time after it began the sequence goes on to the next entry; a compare entry that
reads back another word fails the sequence. The lock line read high, or the timeout without a lock line, is the lock
of a retune; a timeout with a line fails it. A failed sequence is replayed from its first entry. -/
def Obligations.FabricAndFrontEnd : Prop :=
  ∀ s : State,
    (∀ (p : Fin 16) i, s.paths.length = 16 → lowestInput (s.path p.val).inputs = some i →
      s.credits (0xC0 + p.val) ≠ 0 → Claims.Answers (.fabricPost p) s (fun t =>
        (s.standsBehind (s.postAs .fresh) (0xC0 + p.val) = false →
          t.q.msgs = s.q.msgs ++ [⟨0xC0 + p.val, 1, false, 1, s.now, .raw (s.fabMessage p.val i)⟩]) ∧
        (∀ j ∈ (t.path p.val).inputs, j.input ≠ i.input) ∧
        (∀ j ∈ (s.path p.val).inputs, i.input ≤ j.input) ∧
        (t.get (Obj.bandPathEventPending p.val)).testBit i.input = false)) ∧
    (∀ r (w : BitVec 32), s.fe.run = some r → r.phase = .entries → s.running = true → s.power.pressReady = true →
      let e := s.feEntry (s.seqWord r.seq % 256 + r.pos)
      let mask := 2 ^ (8 * (fieldAt e 1 1 % 4 + 1)) - 1
      let u := s.elapse (r.since + fieldAt e 2 2 - s.now)
      let next := fun (t : State) => t.fe.run = some { r with pos := r.pos + 1, since := t.now } ∧
        t.now = max s.now (r.since + fieldAt e 2 2) ∧ t.dict = u.dict
      ((fieldAt e 1 1).testBit 2 = true → r.pos + 1 < s.seqCount r.seq → Claims.Answers (.feEntryDone w) s (fun t =>
        next t ∧ t.pins = (s.driveGpio (fieldAt e 6 2) (fieldAt e 4 2)).pins)) ∧
      ((fieldAt e 1 1).testBit 2 = false → r.pos + 1 < s.seqCount r.seq →
        ((fieldAt e 1 1).testBit 3 = false ∨ w.toNat &&& mask = fieldAt e 8 4 &&& mask) →
        Claims.Answers (.feEntryDone w) s (fun t => next t ∧ t.pins = s.pins ∧ t.fe.sent = some (fieldAt e 0 1, fieldAt e 1 1 % 4, fieldAt e 4 4 &&& mask))) ∧
      ((fieldAt e 1 1).testBit 2 = false → (fieldAt e 1 1).testBit 3 = true →
        w.toNat &&& mask ≠ fieldAt e 8 4 &&& mask → r.replayed = false → Claims.Answers (.feEntryDone w) s (fun t =>
          t.fe.run = some ⟨r.seq, 0, .replay, true, t.now⟩ ∧ t.deadline .feReplay = some (t.now + 100000) ∧
            t.now = max s.now (r.since + fieldAt e 2 2) ∧ t.pins = s.pins))) ∧
    (∀ d, s.awaitsLock d = true → s.lockLine d ≠ 0xFF → exec (.lockPoll d true) s = .next (s.lockSeen d) ∧
      exec (.lockPoll d false) s = .next s) ∧
    (∀ d x r, s.deadline (.lockTimeout d) = some x → s.fe.run = some r → s.awaitsLock d = true →
      (s.lockLine d = 0xFF →
        exec (.lockTimeout d) s = .next ((Claims.expired s (.lockTimeout d) x).lockSeen d)) ∧
      (s.lockLine d ≠ 0xFF → r.replayed = false → Claims.Answers (.lockTimeout d) s (fun t =>
        t.fe.run = some ⟨r.seq, 0, .replay, true, t.now⟩ ∧ t.armed .feReplay = true ∧ t.pins = s.pins))) ∧
    (∀ x r, s.deadline .feReplay = some x → s.fe.run = some r → r.phase = .replay → s.seqCount r.seq ≠ 0 →
      Claims.Answers .feSequenceReplay s (fun t => t.fe.run = some ⟨r.seq, 0, .entries, true, t.now⟩ ∧
        t.get Obj.frontEndState = r.seq))

/-- In Idle, a detection on a side that is not barred opens that side's gate and starts MaxHold; in the tie, the side
of Le.TieDirection. While a side is open a detection on the other only counts. A release, or MaxHold, leads to Guard
with both gates closed, and the end of Guard to Idle. The third hold of a direction in a row to end by MaxHold within
10 s bars that side for Le.BarTime; earlier ones are remembered and bar nothing, and a hold that ends by release
starts the count afresh. A detection on a barred side changes nothing, the other side's bar bit is not touched, and
the end of the bar time clears the bit. -/
def Obligations.DirectionSwitch : Prop :=
  (∀ s : State,
      (∀ d p, s.running = true → s.leOpen = none → s.get Obj.leDirection ≠ 3 → s.leReady = true →
        s.leBarredSide d = false → s.lePath d = some p → Claims.Answers (.leDetect d false) s (fun t =>
          t.get Obj.leDirection = dirNum d + 1 ∧ t.deadline .leMaxHold = some (s.now + 1000 * s.get Obj.leMaxHold) ∧
          2 ≤ t.get (Obj.stabState p) ∧ t.get (Obj.stabState p) ≤ 4 ∧ t.get Obj.leSwitchCount =
            satBytes (objSize Obj.leSwitchCount) (s.get Obj.leSwitchCount + 1))) ∧
      (∀ d, s.running = true → s.leOpen = none → s.get Obj.leDirection ≠ 3 → s.leReady = true →
        s.leBarredSide .ul = false → s.leBarredSide .dl = false → Claims.Answers (.leDetect d true) s (fun t =>
          t.get Obj.leDirection = if s.get Obj.leTieDirection = 0 then 1 else 2)) ∧
      (∀ d, s.running = true → s.leOpen = some (otherDir d) → exec (.leDetect d false) s =
        .next (if s.leBarredSide d = true then s else s.bump Obj.leBlockedCount 1)) ∧
      (∀ d, s.leOpen = some d → Claims.Answers .leRelease s (fun t => t.get Obj.leDirection = 3 ∧
        t.deadline .leGuard = some (s.now + s.get Obj.leGuard) ∧ t.armed .leMaxHold = false ∧
        (∀ x ∈ t.le.streak, x.1 ≠ d) ∧
        ∀ p ∈ pathNums, s.isLe p = true → s.unmuted p = true → t.get (Obj.stabState p) = 5)) ∧
      (∀ d x, s.deadline .leMaxHold = some x → s.leOpen = some d → Claims.Answers .leMaxHold s (fun t =>
        t.get Obj.leDirection = 3 ∧ t.armed .leGuard = true ∧ t.bit Obj.leSticky 0 = true ∧
        ∀ p ∈ pathNums, s.isLe p = true → s.unmuted p = true → t.get (Obj.stabState p) = 5)) ∧
      (∀ x, s.deadline .leGuard = some x → s.get Obj.leDirection = 3 → Claims.Answers .leGuardEnd s (fun t =>
        t.get Obj.leDirection = 0 ∧ t.armed .leGuard = false ∧ t.paths = s.paths))) ∧
  (∀ s : State,
      (∀ d x, s.deadline .leMaxHold = some x → s.leOpen = some d →
        let now := (Claims.expired s .leMaxHold x).now
        let mine := s.le.streak.filter (fun y => y.1 == d && decide (now ≤ y.2 + 10000000))
        Claims.Answers .leMaxHold s (fun t =>
          t.leBarredSide (otherDir d) = s.leBarredSide (otherDir d) ∧
          (2 ≤ mine.length → t.leBarredSide d = true ∧
            t.deadline (.leBar d) = some (now + 1000000 * s.get Obj.leBarTime) ∧ ∀ y ∈ t.le.streak, y.1 ≠ d) ∧
          (mine.length < 2 → t.leBarredSide d = s.leBarredSide d ∧
            t.le.streak.filter (fun y => y.1 == d) = mine ++ [(d, now)]))) ∧
      (∀ d, s.running = true → s.leOpen = none → s.leBarredSide d = true → exec (.leDetect d false) s = .next s) ∧
      (∀ d x, s.deadline (.leBar d) = some x → Claims.Answers (.leBarEnd d) s (fun t => t.leBarredSide d = false ∧
        t.leBarredSide (otherDir d) = s.leBarredSide (otherDir d) ∧ t.paths = s.paths ∧ t.pins = s.pins)))

/-! ## Gain, stability and network protection (ch. 11) -/

/-- A boundary lies 10 ms after the one before it. A counted frame sets the path's pilot limit to its isolation
estimate less Stab.Margin; when none counted in the coherent window, the limit of a path in service falls by 0.10 dB.
Each path of the direction raises LoopFrame. A collapsed path at the boundary is trigger 2, and its bitmap has every
such path. What waited for the commit engine goes on after the boundary. -/
def Obligations.FrameBoundaries : Prop :=
  ∀ (s : State) (d : Dir) (ms : List PathMeas),
    (s.running = true → s.power.pressReady = true → CoreId.press ∉ s.sec.halted →
      exec (.loopFrame d ms) s = .next ((s.loopFrame d ms).serveWaiting)) ∧
    (∀ x, s.lastFrame d = some x → (s.toBoundary d).now = max s.now (x + 10000) ∧
      (s.toBoundary d).lastFrame d = some (max s.now (x + 10000))) ∧
    (∀ (p : Fin 16) (m : PathMeas), s.paths.length = 16 →
      (∃ i ∈ ((s.framePath p.val m).path p.val).inputs, i.input = 9) ∧
      (s.frameCounts p.val m = true → m.coherentAboveFloor = true → ((s.framePath p.val m).path p.val).pilotLimit =
        some (s.chainGain (s.dirOf p.val) - (m.coherentLoop - s.stageGain p.val) - s.get (Obj.stabMargin p.val))) ∧
      (s.frameCounts p.val m = false → s.inService p.val = true →
        countFrames ((s.path p.val).frameBits * 2 % 2 ^ 64) (s.get Obj.stabPilotFrames) = 0 →
        ((s.framePath p.val m).path p.val).pilotLimit = (s.path p.val).pilotLimit.map (fun l => l - 10)) ∧
      (s.frameCounts p.val m = false →
        countFrames ((s.path p.val).frameBits * 2 % 2 ^ 64) (s.get Obj.stabPilotFrames) ≠ 0 →
        ((s.framePath p.val m).path p.val).pilotLimit = (s.path p.val).pilotLimit)) ∧
    (let u := (s.toBoundary d).moveGains
     ∀ p ∈ u.liveOf d, u.collapsed p (ms.getD p noMeas) = true → ∃ (v : State) (ps : List Nat), s.loopFrame d ms = v.netTrigger 2 ps ∧
       ∀ q ∈ u.liveOf d, u.collapsed q (ms.getD q noMeas) = true → q ∈ ps)

/-- A probe records its pilot limit: isolation less Stab.Margin. One with a frame that did not count, or with a pilot
limit below Stab.MinGain, does not pass. A failed probe leaves both paths in probe failed with ProbeFail, and another
waits for Stab.ProbeInterval. A probe that passes while a gate is closed leaves both paths muted. A path unmutes at
its gain, in service unless it is licence-exempt. A re-check past its time holds the direction's gains and sets
RecheckLate. -/
def Obligations.ProbesAndRechecks : Prop :=
  ∀ (s : State) (p q : Fin 16),
    (∀ own partner x, s.deadline (.probe p.val) = some x → s.get (Obj.stabState p.val) = 1 →
      s.partnerOf p.val = q.val → s.get (Obj.stabState q.val) = 1 → exec (.probeEnd p own partner) s = .next
        ((Claims.expired s (.probe p.val) x).probeEnd p.val q.val own partner)) ∧
    (∀ m : PathMeas, s.paths.length = 16 → m.coherentAboveFloor = true →
      ((s.noteProbe p.val m).path p.val).pilotLimit =
        some (s.chainGain (s.dirOf p.val) - m.coherentLoop - s.get (Obj.stabMargin p.val))) ∧
    (∀ m : PathMeas, s.probePasses p.val m = true ↔ m.counts = true ∧
      ∃ l, (s.path p.val).pilotLimit = some l ∧ s.getI (Obj.stabMinGain p.val) ≤ l) ∧
    ((s.failProbe p.val q.val).get (Obj.stabState p.val) = 6 ∧ (s.failProbe p.val q.val).get (Obj.stabState q.val) = 6 ∧
      (s.failProbe p.val q.val).bit Obj.stabSticky 1 = true ∧
      (s.failProbe p.val q.val).deadline (.probeRetry p.val) = some (s.now + 1000000 * s.get Obj.stabProbeInterval) ∧
      (s.failProbe p.val q.val).armed (.probeRetry q.val) = true ∧ (s.failProbe p.val q.val).pins = s.pins) ∧
    (∀ g, (s.isLe p.val = true → (s.unmute p.val g).get (Obj.stabState p.val) = 5) ∧
      (s.isLe p.val = false → (s.unmute p.val g).inService p.val = true)) ∧
    (∀ x, s.deadline (.probeRetry p.val) = some x → Claims.Answers (.probeRetry p) s (fun t =>
      t.armed (.probeRetry p.val) = false ∧ t.paths = s.paths ∧ t.pins = s.pins ∧ t.power = s.power)) ∧
    (s.gatesOpen (if s.dirOf p.val = .ul then (p.val, q.val) else (q.val, p.val)) = false →
      (s.passProbe p.val q.val).get (Obj.stabState p.val) = 0 ∧ (s.passProbe p.val q.val).get (Obj.stabState q.val) = 0 ∧
      (s.passProbe p.val q.val).pins = s.pins) ∧
    (∀ d x, s.deadline (.recheck d) = some x → s.eng.commit = none → Claims.Answers (.recheckTimeout d) s (fun t =>
      t.heldDir d = true ∧ t.bit Obj.stabSticky 2 = true ∧ t.armed (.recheck d) = false))

/-- The Osc.Blocks-th oscillating block in a row (trigger 1) and uplink noise for Net.NoiseHold (trigger 3) shut the
network down: RF_MUTE_N low, PA_EN_x of every running lane low, a lockout, the next receipt with its code and bitmap
in the store, HP_IRQ_STATUS.Shutdown, and STANDBY with reason 7 from ACTIVE or SERVICE. While a lockout holds, a
trigger only sets TriggerSuppressed. A block below the limits ends the count, and one before the last raises it. A
timed lockout lasts Net.LockoutTime operating seconds; the third within Net.RepeatWindow is a latched one, which no
timer ends. The end of a timed lockout clears Net.State, and under Net.AutoResume asks for ACTIVE where the unit was
there before. An expiry never ends a latched lockout. -/
def Obligations.NetworkShutdowns : Prop :=
  (∀ (s : State) (p : Fin 16), s.paths.length = 16 → s.eng.commit = none →
      (∀ x, s.deadline (.noiseHold p.val) = some x → s.inService p.val = true →
        (s.get Obj.netState < 2 → Claims.Answers (.noiseHoldExpiry p) s (fun t => Claims.ShutDown s t 3 [p.val])) ∧
        (2 ≤ s.get Obj.netState → Claims.Answers (.noiseHoldExpiry p) s (fun t => t.bit Obj.netSticky 3 = true ∧
          t.get Obj.netState = s.get Obj.netState ∧ t.get Obj.netReceiptLatest = s.get Obj.netReceiptLatest ∧
          t.pins = s.pins ∧ t.power = s.power))) ∧
      (∀ rho env : BitVec 16, s.power.pressReady = true → s.unmuted p.val = true →
        let high := s.get Obj.oscRho ≤ rho.toNat ∧ s.getI Obj.oscLevel ≤ env.toInt
        (high → s.get Obj.oscBlocks ≤ (s.path p.val).osc + 1 → s.get Obj.netState < 2 →
          Claims.Answers (.oscBlockEnd p rho env) s (fun t => Claims.ShutDown s t 1 [p.val])) ∧
        (high → (s.path p.val).osc + 1 < s.get Obj.oscBlocks → Claims.Answers (.oscBlockEnd p rho env) s (fun t =>
          (t.path p.val).osc = (s.path p.val).osc + 1 ∧ t.get (Obj.stabRho p.val) = rho.toNat ∧ t.pins = s.pins)) ∧
        (¬ high → s.get Obj.oscBlocks ≠ 0 → Claims.Answers (.oscBlockEnd p rho env) s (fun t =>
          (t.path p.val).osc = 0 ∧ t.get (Obj.stabRho p.val) = rho.toNat ∧ t.pins = s.pins)))) ∧
  (∀ s : State,
      (let recent := s.net.history.filter (fun t => decide (s.opSeconds ≤ t + s.get Obj.netRepeatWindow))
       (recent.length < 2 → s.timedLockout.get Obj.netState = 2 ∧
         s.timedLockout.net.lockoutEnd = s.opSeconds + s.get Obj.netLockoutTime ∧ s.timedLockout.armed .lockout = true ∧
         s.timedLockout.net.history = recent ++ [s.opSeconds]) ∧
       (2 ≤ recent.length → s.timedLockout.get Obj.netState = 3 ∧ s.timedLockout.armed .lockout = false ∧
         s.timedLockout.bit Obj.netSticky 1 = true)) ∧
      (∀ x, s.deadline .lockout = some x → s.get Obj.netState = 2 →
        let u := (Claims.expired s .lockout x).set Obj.netState 0
        (s.get Obj.netAutoResume ≠ 1 ∨ s.net.before ≠ 4 → exec .lockoutExpiry s = .next u) ∧
        (s.get Obj.netAutoResume = 1 → s.net.before = 4 → s.power.state = .standby → s.power.trans = none →
          u.activeRefusal = none → exec .lockoutExpiry s = .next (u.towardsActive 3))) ∧
      (∀ x, s.deadline .lockout = some x → s.get Obj.netState = 3 → Claims.Answers .lockoutExpiry s (fun t =>
        t.get Obj.netState = 3 ∧ t.power = s.power ∧ t.pins = s.pins)))

/-! ## Power amplifiers (ch. 12) -/

/-- A lane that is off and may run starts, with OPERATION 0x80 owed to its regulator; the start check raises its PA_EN
while the hardware path of SEAL_N is open (R23); a bias that stands at its code makes it Ready. A stop mutes the
lane's paths, drops its bias and its PA_EN and leaves the other enables alone. A start check missed for 50 ms, or 1 s
without READ_POUT, stops the lane by fault; a first regulator fault restarts after 10 s, a second within 3,600 s does
not. -/
def Obligations.LanesStartAndStop : Prop :=
  ∀ (s : State) (n : Fin 4), s.pa.lanes.length = 4 →
    (s.laneMayRun n.val = true → s.get (Obj.paLaneState n.val) = 0 → Claims.Answers (.laneStart n) s (fun t =>
      t.get (Obj.paLaneState n.val) = 1 ∧ (⟨n.val, 0x01, false⟩ : PmbTx) ∈ t.pa.pmb ∧ t.pins = s.pins)) ∧
    (s.get (Obj.paLaneState n.val) = 1 → s.sealOpen = true → (s.lane n.val).voutOk = true →
        (s.lane n.val).statusOk = true →
      (s.checkStart n.val).pins.paEn.getLsbD n.val = true ∧ (s.checkStart n.val).get (Obj.paLaneState n.val) = 2 ∧
      (s.checkStart n.val).armed (.laneReady n.val) = true) ∧
    (∀ x, s.deadline (.laneReady n.val) = some x → s.get (Obj.paLaneState n.val) = 2 → s.eng.commit = none →
      let u := Claims.expired s (.laneReady n.val) x
      (u.biasNow n.val = (s.lane n.val).biasGoal → Claims.Answers (.laneReady n) s (fun t =>
        t.get (Obj.paLaneState n.val) = 3 ∧ t.pins = s.pins)) ∧
      (u.biasNow n.val ≠ (s.lane n.val).biasGoal → Claims.Answers (.laneReady n) s (fun t =>
        t.get (Obj.paLaneState n.val) = 2 ∧ t.armed (.laneReady n.val) = true ∧ t.pins = s.pins))) ∧
    (s.laneRuns n.val = true → s.laneMayRun n.val = false → s.eng.commit = none →
      Claims.Answers (.laneStop n) s (fun t =>
        t.get (Obj.paLaneState n.val) = s.stoppedState n.val ∧ t.pins.paEn.getLsbD n.val = false ∧
        lookupD t.pins.paBias n.val 0 = 0 ∧ (∀ p ∈ s.lanePaths n.val, t.get (Obj.stabState p) = 0) ∧
        (⟨n.val, 0x01, false⟩ : PmbTx) ∈ t.pa.pmb ∧
        ∀ m ∈ laneNums, m ≠ n.val → t.pins.paEn.getLsbD m = s.pins.paEn.getLsbD m)) ∧
    (∀ x, s.deadline (.laneRegulator n.val) = some x → s.get (Obj.paLaneState n.val) = 1 →
      Claims.Answers (.laneRegulatorTimeout n) s (fun t =>
        t.laneRuns n.val = false ∧ (t.lane n.val).hold.regulator = true ∧ t.bit (Obj.paLaneSticky n.val) 1 = true ∧
        t.pins.paEn.getLsbD n.val = false ∧
        ((s.lane n.val).faultAt = none →
          t.deadline (.regulatorRestart n.val) = some (max s.now x + 10000000)) ∧
        (∀ y, (s.lane n.val).faultAt = some y → max s.now x ≤ y + 3600000000 →
          t.armed (.regulatorRestart n.val) = false))) ∧
    (∀ x, s.deadline (.regulatorRestart n.val) = some x → s.get (Obj.paLaneState n.val) = 5 →
      ({ (s.lane n.val).hold with regulator := false } : LaneHold).any = false →
      Claims.Answers (.regulatorRestart n) s (fun t => t.get (Obj.paLaneState n.val) = 0 ∧
        (t.lane n.val).hold.any = false ∧ t.pins = s.pins)) ∧
    (∀ x, s.deadline (.laneMonitor n.val) = some x → s.laneRuns n.val = true → s.eng.commit = none →
      Claims.Answers (.pmbFaultStop n) s (fun t => t.laneRuns n.val = false ∧ (t.lane n.val).hold.pmbus = true ∧
        t.pins.paEn.getLsbD n.val = false ∧ ∀ p ∈ s.lanePaths n.val, t.get (Obj.stabState p) = 0))

/-- The controller makes the transactions owed to lanes in their order. One that succeeds is done with; one that fails
is repeated once; one that fails again is counted and flagged, and the next is made. A poll adds the reads of Table
12-1 for the lane's state; the alert adds STATUS_WORD for every enabled lane. A margin channel's transaction goes on
to its next step. An acknowledged transaction and the alert need bank A's pins, which R35 holds high-impedance until
VDDIO_A and its level are there. -/
def Obligations.PmbusWork : Prop :=
  ∀ (s : State) (n : Fin 4),
    (∀ (t : PmbTx) (rest : List PmbTx) (c : Byte), s.power.pressReady = true → s.pa.pmb = t :: rest →
      t.lane = n.val → t.code = c.toNat →
      (∀ d : BitVec 16, s.bankA = true → c ≠ 0x79#8 ∨ d.getLsbD 1 = false → exec (.pmbusTransactionDone (.lane n) c (.ok d)) s =
        .next ({ s with pa.pmb := rest }.laneData n.val c.toNat d.toNat)) ∧
      (t.repeated = false → exec (.pmbusTransactionDone (.lane n) c .nack) s =
        .next { s with pa.pmb := { t with repeated := true } :: rest }) ∧
      (t.repeated = true → c ∉ [0x00#8, 0x01#8, 0x7B#8] →
        Claims.Answers (.pmbusTransactionDone (.lane n) c .nack) s (fun u =>
          u.get Obj.pmbErrors = satBytes (objSize Obj.pmbErrors) (s.get Obj.pmbErrors + 1) ∧
            u.bit (Obj.paLaneSticky n.val) 0 = true ∧ u.pa.pmb = rest ∧ u.pins = s.pins))) ∧
    (∀ (r : MarginRun) (c : Byte) (d : BitVec 16), s.power.pressReady = true → s.bankA = true → s.marginMove n.val = some r →
      s.marginTurn r = true → marginCode (r.steps.headD 0) = c.toNat → c ≠ 0x79#8 → 2 ≤ r.steps.length →
      exec (.pmbusTransactionDone (.margin n) c (.ok d)) s = .next
        { s with margin := { r with steps := r.steps.tail, code := 0 } :: s.margin.filter (fun x => !(x.ch == r.ch)) }) ∧
    (s.running = true → s.power.pressReady = true → s.get (Obj.paLaneEnable n.val) = 1 →
      s.get (Obj.paLanePmbPage n.val) = 0xFF →
      let owes := fun (k : PollKind) (codes : List Nat) => exec (.pmbusPoll n k) s = .next
        { s with pa.pmb := s.pa.pmb ++ codes.map (fun c => ⟨n.val, c, false⟩) }
      (s.get (Obj.paLaneState n.val) = 3 →
        owes .pout [0x96] ∧ owes .status [0x79] ∧ owes .telemetry [0x88, 0x8B, 0x8C, 0x8D]) ∧
      (s.get (Obj.paLaneState n.val) = 1 → owes .start [0x8B, 0x79]) ∧
      (s.get (Obj.paLaneState n.val) = 0 → s.power.state = .standby → owes .status [0x79] ∧ owes .telemetry [0x88])) ∧
    (s.running = true → s.power.pressReady = true → s.bankA = true → Claims.Answers .pmbAlert s (fun t =>
      (∀ m ∈ laneNums, s.get (Obj.paLaneEnable m) = 1 → (⟨m, 0x79, false⟩ : PmbTx) ∈ t.pa.pmb) ∧
      s.pa.pmb <+: t.pa.pmb ∧ t.dict = s.dict ∧ t.pins = s.pins))

/-- An overrun past its time cuts classes at each boundary until the measured sum is within the cap. A hint window
passes from armed to lead, to open, to over. HK-B starts StartLead after its reference; a result stays in the data
register without a credit, and the next one overwrites it and counts; an invalid result is published and used for
nothing. A FEED_V result below Onset starts the droop response, ClearTime at or above Onset + Hysteresis ends it, and
2 ms without one starts it too, with FeedStale. -/
def Obligations.BudgetAndFeed : Prop :=
  ∀ s : State,
    (∀ x, s.deadline .overrun = some x → Claims.Answers .paOverrun s (fun t => t.pa.overrun = true ∧
      t.bit Obj.paBudgetSticky 2 = true ∧ t.paths = s.paths ∧ t.pins = s.pins)) ∧
    (s.pa.overrun = true → (s.get Obj.paBudgetMeasured ≤ s.effectiveCap →
        s.stepOverrun.pa.overrun = false ∧ s.stepOverrun.pa.cut = 0) ∧
      (s.effectiveCap < s.get Obj.paBudgetMeasured → s.stepOverrun.pa.cut = min 3 (s.pa.cut + 1))) ∧
    (∀ w x, s.deadline (.hint w) = some x → s.eng.commit = none → Claims.Answers (.hintPhase w) s (fun t =>
      (s.get (Obj.hintState (hintNum w)) = 1 → t.get (Obj.hintState (hintNum w)) = 2 ∧ t.armed (.hint w) = true) ∧
      (s.get (Obj.hintState (hintNum w)) = 2 → t.get (Obj.hintState (hintNum w)) = 3 ∧ t.armed (.hint w) = true) ∧
      (s.get (Obj.hintState (hintNum w)) = 3 ∨ s.get (Obj.hintState (hintNum w)) = 4 →
        t.get (Obj.hintState (hintNum w)) = 0 ∧ t.armed (.hint w) = false))) ∧
    (∀ at_, s.hkb.refAt = some at_ → s.hkb.converting = false → s.get Obj.clockSamplePllLocked = 1 →
      s.power.pressReady = true → Claims.Answers .hkbStart s (fun t => t.hkb.converting = true ∧
        t.now = max s.now (at_ + s.get Obj.hkBStartLead) ∧ t.hkb.seq = s.hkbSequence ∧ t.pins = s.pins)) ∧
    (∀ (e : Fin 16) i at_, s.hkb.refAt = some at_ → s.hkb.converting = true → s.power.pressReady = true →
      e.val = s.hkb.next → e.val < s.hkb.seq.length → exec (.hkbResult e i) s = .next (s.hkbResult e.val i at_)) ∧
    (∀ (e : Fin 16) raw, raw / 65536 % 2 = 0 → (s.takeHkb e.val raw).get (Obj.hkBResult e.val) = raw ∧
      ∀ k, k ≠ Obj.hkBResult e.val → (s.takeHkb e.val raw).get k = s.get k) ∧
    (∀ (e : Fin 16) raw, s.credits 0xD5 = 0 → (s.registerHkb e.val raw).hkb.held = some (e.val, raw) ∧
      (s.hkb.held ≠ none → (s.registerHkb e.val raw).bit Obj.hkSticky 1 = true ∧
        (s.registerHkb e.val raw).get Obj.hkBOverrunCount =
          satBytes (objSize Obj.hkBOverrunCount) (s.get Obj.hkBOverrunCount + 1))) ∧
    (∀ code gain, s.eng.commit = none → s.get Obj.droopState = 0 →
      satBytes 2 (roundDiv (code * 6000 : Nat) (32768 * gain : Nat)).toNat < 10 * s.get Obj.droopOnset →
      (s.feedVolts code gain).get Obj.droopState ≠ 0 ∧ (s.feedVolts code gain).bit Obj.droopSticky 0 = true ∧
        (s.feedVolts code gain).get Obj.droopEventCount =
          satBytes (objSize Obj.droopEventCount) (s.get Obj.droopEventCount + 1)) ∧
    (∀ x, s.deadline .droopClear = some x → s.eng.commit = none → Claims.Answers .droopClear s (fun t =>
      t.get Obj.droopState = 0 ∧ (s.get Obj.droopState ≠ 0 → ∀ p ∈ pathNums, (t.path p).droopCap = none) ∧
        t.pins = s.pins)) ∧
    (∀ x, s.deadline .feedStale = some x → s.eng.commit = none → Claims.Answers .feedStale s (fun t =>
      t.feed.stale = true ∧ t.bit Obj.droopSticky 2 = true ∧ t.get Obj.droopState ≠ 0 ∧
        t.armed .droopClear = false ∧ t.pins = s.pins))

/-- A die trip mutes every path, asserts RF_MUTE_N, drives every PA_EN_x low and stops every lane, without a change of
the power state. SEAL_N low drives every PA_EN_x low and every bias to 0 and asserts RF_MUTE_N, and the Press then
places every lane in Sealed and mutes every path. The lanes leave these stops only as R462, R463 and R465 say. -/
def Obligations.HeatAndSeal : Prop :=
  ∀ s : State, s.pa.lanes.length = 4 →
    (∀ (n : Fin 4) x, s.deadline (.laneCool n.val) = some x → s.get (Obj.paLaneState n.val) = 5 →
      ({ (s.lane n.val).hold with heat := false } : LaneHold).any = false →
      Claims.Answers (.laneThermalRestart n) s (fun t => t.get (Obj.paLaneState n.val) = 0 ∧
        (t.lane n.val).hold.heat = false ∧ t.pins = s.pins)) ∧
    (s.power.coreReleased = true → s.eng.commit = none → Claims.Answers .dieTrip s (fun t =>
      t.pins.rfMuteN = false ∧ t.pins.paEn = 0 ∧ t.pa.die = true ∧ t.power = s.power ∧
        (∀ n ∈ laneNums, (t.lane n).hold.die = true ∧ t.laneRuns n = false) ∧
        ∀ p ∈ pathNums, t.get (Obj.stabState p) = 0)) ∧
    (s.pa.die = true → Claims.Answers .dieTripClear s (fun t => t.pa.die = false ∧ t.pins = s.pins ∧
      (∀ n ∈ laneNums, (t.lane n).hold.die = false) ∧ ∀ n ∈ laneNums, s.get (Obj.paLaneState n) = 5 →
        ({ (s.lane n).hold with die := false } : LaneHold).any = false → t.get (Obj.paLaneState n) = 0)) ∧
    (s.power.state ≠ .off → Claims.Answers .sealNLow s (fun t =>
      t.pins.sealN = false ∧ t.pins.paEn = 0 ∧ t.pins.paBias = [] ∧ t.pins.rfMuteN = false ∧ t.pa.breach = true ∧
        t.power = s.power ∧
        (s.get Obj.sealMode = 0 → t.deadline .sealClear = some (s.now + 1000000 * s.get Obj.sealClearTime)) ∧
        (s.get Obj.sealMode ≠ 0 → t.armed .sealClear = false))) ∧
    (s.pa.breach = true → s.power.pressReady = true → (∃ n ∈ laneNums, s.get (Obj.paLaneState n) ≠ 6) →
      s.twin.enabled = false → s.eng.commit = none → Claims.Answers .sealLanesSealed s (fun t =>
        (∀ n ∈ laneNums, t.get (Obj.paLaneState n) = 6 ∧ (⟨n, 0x01, false⟩ : PmbTx) ∈ t.pa.pmb) ∧
        (∀ p ∈ pathNums, t.get (Obj.stabState p) = 0) ∧ t.power = s.power)) ∧
    (∀ x, s.deadline .sealClear = some x →
      (s.get Obj.sealMode = 0 → Claims.Answers .sealClearTimer s (fun t => t.pins.sealN = true ∧
        t.pa.breach = false ∧ ∀ n ∈ laneNums, t.get (Obj.paLaneState n) ≠ 6)) ∧
      (s.get Obj.sealMode ≠ 0 → Claims.Answers .sealClearTimer s (fun t => t.pins.sealN = true ∧
        t.pa.breach = s.pa.breach ∧ ∀ n ∈ laneNums, t.get (Obj.paLaneState n) = s.get (Obj.paLaneState n))))

/-! ## Rails (ch. 13) -/

/-- HK-A starts with its committed sequence, and a start that waited for it begins there: a CoreSet slot that depends
on none enters its delay, and no enable moves. A reading is published as a code and in mV; a good slot in its window
only has its extremes noted, a released slot below 10 % of its nominal is off, and an undervoltage of S00 takes the
unit to HOLDUP. A slot's delay over asserts its enable alone and its ramp begins; a ramping slot that reads in its
window with its power-good is good. A watched power-good lost on a good slot asserts PFW_N, mutes every path and
starts the shutdown WarnLead later. While the Cellarmaster pair recovers from a mismatch no RAIL_EN and no PFW_N
moves. -/
def Obligations.RailReadings : Prop :=
  ∀ (s : State) (n : Fin 16),
    (s.power.state ≠ .off → s.rail.adcOn = false → s.starting = false → exec .hkaStart s = .next
      { s with rail.adcOn := true, rail.scan := s.hkaSequence, rail.slot := 0, rail.window := s.now }) ∧
    (s.power.state ≠ .off → s.rail.adcOn = false → s.starting = true → Claims.Answers .hkaStart s (fun t =>
      t.rail.adcOn = true ∧ t.rail.seqStart = s.now ∧ t.pins = s.pins ∧
      (s.get (Obj.railSlotState n.val) = 2 → (s.trellis Obj.railSeqCoreSet).testBit n.val = true →
        s.trellis (Obj.railSlotDependMask n.val) = 0 → t.get (Obj.railSlotState n.val) = 3 ∧
        t.deadline (.railDelay n.val) = some (s.now + 10 * s.trellis (Obj.railSlotDelay n.val))))) ∧
    (∀ i, s.power.state ≠ .off → s.rail.adcOn = true → s.rail.slot = n.val → s.wd.lockstepBusy = false →
      let c := convert (s.hkaGain n.val) i
      let r := s.railMilli n.val c.1
      let shown := fun (t : State) => t.get (Obj.hkAResult n.val) = c.1 + 65536 * (if c.2 then 3 else 1) ∧
        t.get (Obj.railSlotReading n.val) = r ∧ t.now = max s.now (s.rail.window + s.hkaTime n.val + 64)
      (s.get (Obj.railSlotState n.val) = 5 → s.get (Obj.railSlotUvThreshold n.val) ≤ r →
        r ≤ s.get (Obj.railSlotOvThreshold n.val) → Claims.Answers (.hkaReading n i) s (fun t => shown t ∧
          t.get (Obj.railSlotState n.val) = 5 ∧
          t.get (Obj.railSlotMinSeen n.val) = (if s.get (Obj.railSlotMinSeen n.val) = 0 then r
            else min r (s.get (Obj.railSlotMinSeen n.val))) ∧
          t.get (Obj.railSlotMaxSeen n.val) = max r (s.get (Obj.railSlotMaxSeen n.val)) ∧
          t.pins.railEn = s.pins.railEn ∧ t.pins.pfwN = s.pins.pfwN ∧ t.power = s.power)) ∧
      (s.get (Obj.railSlotState n.val) = 4 → s.starting = false → s.findsGood n.val r = true →
        Claims.Answers (.hkaReading n i) s (fun t => shown t ∧ t.get (Obj.railSlotState n.val) = 5 ∧
          t.armed (.railRamp n.val) = false ∧ t.pins = s.pins)) ∧
      (s.get (Obj.railSlotState n.val) = 6 → 10 * r < s.get (Obj.railSlotNominal n.val) →
        slots.any (fun m => m != n.val && s.railLive m) = true → Claims.Answers (.hkaReading n i) s (fun t => shown t ∧
          t.get (Obj.railSlotState n.val) = (if s.trellis (Obj.railSlotEnable n.val) = 1 then 1 else 0) ∧
          t.armed (.railOffTime n.val) = false)) ∧
      (n.val = 0 → s.get (Obj.railSlotState 0) = 5 → r < s.get (Obj.railSlotUvThreshold 0) → s.power.state ≠ .holdup →
        Claims.Answers (.hkaReading n i) s (fun t => t.power.state = .holdup ∧ t.pins.pfwN = false ∧
          t.pins.rfMuteN = false ∧ t.get Obj.powerStateLastReason = 5 ∧ t.bit (Obj.railSlotSticky 0) 1 = true ∧
          t.armed .holdupLead = true))) ∧
    (∀ x, s.wd.lockstepBusy = false → s.deadline (.railDelay n.val) = some x → s.get (Obj.railSlotState n.val) = 3 →
      Claims.Answers (.railEnable n) s (fun t => t.railOn n.val = true ∧ t.get (Obj.railSlotState n.val) = 4 ∧
        (∀ m ∈ slots, m ≠ n.val → t.railOn m = s.railOn m ∧
          t.get (Obj.railSlotState m) = s.get (Obj.railSlotState m)) ∧ t.power = s.power)) ∧
    (s.power.state ≠ .off → s.power.state ≠ .holdup → s.wd.lockstepBusy = false →
      s.rail.pgCounted.getLsbD n.val = true → s.get (Obj.railSlotState n.val) = 5 → s.trellis (Obj.railSlotPgMode n.val) = 1 → s.rail.shutdown = none → s.eng.commit = none →
      s.get Obj.railSeqWarnLead ≠ 0 → Claims.Answers (.pgChange n false) s (fun t =>
        t.pins.pfwN = false ∧ t.pins.rfMuteN = false ∧ (∀ p ∈ pathNums, t.get (Obj.stabState p) = 0) ∧
        t.bit (Obj.railSlotSticky n.val) 3 = true ∧ t.get (Obj.railSlotState n.val) = 7 ∧
        t.rail.shutdown = some ⟨.rail, 0x11, false, false, [n.val]⟩ ∧
        t.deadline .warnLead = some (s.now + 1000 * s.get Obj.railSeqWarnLead) ∧ t.pins.railEn = s.pins.railEn)) ∧
    (s.power.state ≠ .off → Claims.Answers (.pgChange n true) s (fun t => t.pins.pgLevel.getLsbD n.val = true ∧
      (s.wd.lockstepBusy = false → t.rail.pgCounted.getLsbD n.val = true) ∧ t.dict = s.dict ∧
      t.pins.railEn = s.pins.railEn)) ∧
    (s.wd.lockstepBusy = true → Claims.Answers (.railEnable n) s (· = s) ∧
      Claims.Answers (.pgChange n false) s (fun t => t.rail = s.rail ∧ t.pins.railEn = s.pins.railEn ∧
        t.pins.pfwN = s.pins.pfwN))

/-- The lead of a shutdown over, the releases begin: a slot is released exactly when no enabled slot that depends on
it is up. A released slot counts as off at its reading, its OffTime (SlowOff if it still reads high) or HoldupStep,
and the shutdown that is complete leaves DORMANT with PFW_N released, except in HOLDUP. The reaction of a faulted slot
is a latch, or a retry after a doubling backoff. A DAC margin steps one code every 10 µs and ends in high impedance.
-/
def Obligations.TrellisFalls : Prop :=
  ∀ s : State,
    (∀ x, s.wd.lockstepBusy = false → s.deadline .warnLead = some x → exec .warnLeadExpiry s = .next (
      let u := ((Claims.expired s .warnLead x).paOff).beginReleases
      if slots.any u.railLive then u else u.completeShutdown)) ∧
    (∀ x, s.wd.lockstepBusy = false → s.deadline .holdupLead = some x → exec .holdupLeadExpiry s = .next (
      let u := ((Claims.expired s .holdupLead x).paOff).beginReleases
      if slots.any u.railLive then u else u.completeShutdown)) ∧
    (∀ n ∈ slots, s.railOn n = true →
      (s.releaseReady.railOn n = true ↔ ∃ m ∈ s.dependents n, s.railLive m = true)) ∧
    (∀ d, s.rail.shutdown = some d →
      (d.cause ≠ .holdup → s.completeShutdown.power.state = .dormant ∧ s.completeShutdown.pins.pfwN = true ∧
        s.completeShutdown.rail.shutdown = none ∧ s.completeShutdown.pins.rfMuteN = false) ∧
      (d.cause = .holdup → s.completeShutdown.pins = s.pins ∧ s.completeShutdown.power = s.power)) ∧
    (∀ n : Fin 16, s.wd.lockstepBusy = false → s.railOn n.val = false → (∃ m ∈ slots, m ≠ n.val ∧ s.railLive m = true) →
      let off := fun (t : State) => t.get (Obj.railSlotState n.val) ≤ 1 ∧ t.armed (.holdupStep n.val) = false ∧
        t.armed (.railOffTime n.val) = false ∧ t.power.state = s.power.state
      (s.get (Obj.railSlotState n.val) = 6 → Claims.Answers (.railOff n) s off) ∧
      (∀ x, s.deadline (.holdupStep n.val) = some x → Claims.Answers (.holdupStepExpiry n) s off) ∧
      (∀ x, s.deadline (.railOffTime n.val) = some x → Claims.Answers (.railOffTimeExpiry n) s (fun t => off t ∧
        (s.get (Obj.railSlotNominal n.val) ≤ 10 * s.get (Obj.railSlotReading n.val) →
          t.bit (Obj.railSlotSticky n.val) 5 = true)))) ∧
    (∀ n : Fin 16, s.get (Obj.railSlotReaction n.val) = 0 →
      (s.applyReaction [n.val]).get Obj.railSeqLatchedSlot = n.val ∧ (s.applyReaction [n.val]).get Obj.railSeqState = 8) ∧
    (∀ n : Fin 16, s.get (Obj.railSlotReaction n.val) ≠ 0 →
      (s.get Obj.railSeqAttempt ≤ s.get (Obj.railSlotRetries n.val) →
        (s.applyReaction [n.val]).get Obj.railSeqAttempt = s.get Obj.railSeqAttempt + 1 ∧
        (s.applyReaction [n.val]).deadline .retryBackoff =
          some (s.now + 1000 * s.get Obj.railSeqRetryBackoff * 2 ^ (s.get Obj.railSeqAttempt - 1))) ∧
      (s.get (Obj.railSlotRetries n.val) < s.get Obj.railSeqAttempt →
        (s.applyReaction [n.val]).get Obj.railSeqLatchedSlot = n.val ∧
        (s.applyReaction [n.val]).bit Obj.railSeqSticky 3 = true)) ∧
    (∀ x, s.wd.lockstepBusy = false → s.deadline .retryBackoff = some x → Claims.MayStart s →
      Claims.Answers .retryBackoffExpiry s (Claims.Starting · 0x12)) ∧
    (∀ x, s.deadline .attemptReset = some x → Claims.Answers .attemptReset s (fun t =>
      t.get Obj.railSeqAttempt = 1 ∧ t.power = s.power ∧ t.pins = s.pins)) ∧
    (∀ (c : Fin 4) x r, s.deadline (.marginStep c.val) = some x → s.margin.find? (fun y => y.ch == c.val) = some r →
      let goal := s.marginGoal c.val r.target
      (r.code ≠ goal → Claims.Answers (.marginDacStep c) s (fun t =>
        lookupD t.pins.mrg c.val 0 = (if r.code < goal then r.code + 1 else r.code - 1) + 1 ∧
        t.deadline (.marginStep c.val) = some (max s.now x + 10))) ∧
      (r.code = goal → r.target = 0 → r.steps = [] → Claims.Answers (.marginDacStep c) s (fun t =>
        t.pins = s.pins ∧ t.deadline (.marginStep c.val) = some (max s.now x + 100))) ∧
      (r.code = goal → r.target = 0 → r.steps ≠ [] → Claims.Answers (.marginDacStep c) s (fun t =>
        lookupD t.pins.mrg c.val 0 = 0 ∧ t.armed (.marginStep c.val) = false)))

/-! ## Time-interval unit and waterline (ch. 14) -/

/-- The first stop edge at least 2.0 ns after the start ends the measurement with the interval coarse × 1,024 +
fine_start − fine_stop in Tiu.Result, held as a u64, the next sequence number, and Valid unless REF_WARM or the
calibration fault clears it. An earlier edge changes nothing. -/
def Obligations.IntervalsAreCoarseAndFine : Prop :=
  ∀ (s : State) (c : BitVec 32) (f : BitVec 10) (x : Nat), s.get Obj.tiuState = 3 → s.tiu.startFine = some x → x < 1024 →
    let counts : Int := c.toNat * 1024 + x - f.toNat
    (2048000 ≤ counts * 3125 → Claims.Answers (.tiuStopEdge c f) s (fun t =>
      (fieldAt (t.bytesOf Obj.tiuResult) 0 8 : Int) = counts ∧
      fieldAt (t.bytesOf Obj.tiuResult) 8 4 = (fieldAt (s.bytesOf Obj.tiuResult) 8 4 + 1) % 2 ^ 32 ∧
      (fieldAt (t.bytesOf Obj.tiuResult) 12 1).testBit 0 = (s.get Obj.tiuRefWarm != 1 && !s.tiu.calFault) ∧
      t.tiu.startFine = none ∧ t.armed .tiuTimeout = false ∧ t.armed .tiuOverflow = false)) ∧
    (counts * 3125 < 2048000 → exec (.tiuStopEdge c f) s = .next s)

/-- The first start edge of an armed measurement starts it, with its timeout and the overflow at 2^32 coarse counts. A
timeout or an overflow ends it with its flag and without Valid (the interval of such a result is open), and the
channel is armed again in Tiu.Mode 1 or idle, unless a burst is due. A burst starts when its period ends, its
conditions hold and the channel is free, takes the settings in force, and gives the threshold DAC its code. A launch
raises TDR_LAUNCH, which falls half a gap later. A stop at the enable instant is early; a crossing inside the stop
window is timed, and one outside it is none. The last gap over, the burst is classed: without a stop it is Dry; a
valid class publishes its distance and the height of the map, Invalid leaves the waterline as it stood. A waterline
older than ValidAge loses its height. -/
def Obligations.MeasurementsAndBursts : Prop :=
  (∀ s : State,
      (∀ f : BitVec 10, s.power.coreReleased = true → s.get Obj.tiuState = 2 → s.startSource = true → Claims.Answers (.tiuStartEdge f) s (fun t =>
        t.get Obj.tiuState = 3 ∧ t.tiu.startFine = some f.toNat ∧ t.deadline .tiuOverflow = some (s.now + 13421773) ∧
        (s.get Obj.tiuTimeout ≠ 0 → t.deadline .tiuTimeout = some (s.now + 1000 * s.get Obj.tiuTimeout)))) ∧
      (∀ f : BitVec 10, s.get Obj.tiuState ≠ 2 → exec (.tiuStartEdge f) s = .next s) ∧
      (let ended := fun (t : State) (flag sticky : Nat) =>
        (fieldAt (t.bytesOf Obj.tiuResult) 12 1).testBit 0 = false ∧
        (fieldAt (t.bytesOf Obj.tiuResult) 12 1).testBit flag = true ∧ t.bit Obj.tiuSticky sticky = true ∧
        (s.tiu.due = false → t.get Obj.tiuState = if s.get Obj.tiuMode = 1 then 2 else 0) ∧
        (s.tiu.unread = true → t.get Obj.tiuOverwritten =
          satBytes (objSize Obj.tiuOverwritten) (s.get Obj.tiuOverwritten + 1))
       (∀ x, s.deadline .tiuTimeout = some x → s.get Obj.tiuState = 3 →
         Claims.Answers .tiuTimeout s (fun t => ended t 2 1)) ∧
       (∀ x, s.deadline .tiuOverflow = some x → s.get Obj.tiuState = 3 →
         Claims.Answers .tiuOverflow s (fun t => ended t 1 0)))) ∧
  (∀ s : State,
      (∀ x, s.deadline .tdrPeriod = some x → s.burstAllowed = true → s.get Obj.tiuState = 0 →
        Claims.Answers .tdrBurstStart s (fun t => t.tiu.burst = true ∧ t.get Obj.tiuState = 4 ∧
          t.tiu.held = s.burstSettings ∧ t.tiu.dac = thresholdCode (s.get Obj.tdrThreshold) ∧ t.tiu.launched = 0 ∧
          t.armed .tdrGap = true ∧
          t.deadline .tdrPeriod = some (max s.now x + 1000 * s.get Obj.tdrPeriod))) ∧
      (∀ x, s.deadline .tdrPeriod = some x → s.burstAllowed = true → s.get Obj.tiuState = 3 → s.tiu.burst = false →
        Claims.Answers .tdrBurstStart s (fun t => t.tiu.due = true ∧ t.tiu.burst = false ∧ t.get Obj.tiuState = 3)) ∧
      (∀ x, s.deadline .tdrGap = some x → s.tiu.burst = true → s.tiu.launched < s.burstGet Obj.tdrLaunches →
        Claims.Answers .tdrLaunch s (fun t => t.pins.tdrLaunch = true ∧ t.tiu.launched = s.tiu.launched + 1 ∧
          t.deadline .tdrGap = some (max s.now x + s.burstGet Obj.tdrLaunchGap) ∧
          t.deadline .tdrStop = some (max s.now x + s.burstGet Obj.tdrLaunchGap / 2))) ∧
      (s.tiu.burst = true → 0 < s.tiu.launched → s.tiu.enabled = false → s.tiu.early = false →
        exec (.tdrComparatorEnable false) s = .next { s with tiu.enabled := true } ∧
        exec (.tdrComparatorEnable true) s = .next { s with
          tiu.stops := s.tiu.stops ++ [(1024 * s.burstGet Obj.tdrBlank, true)], tiu.early := true }) ∧
      (∀ c : BitVec 32, s.tiu.burst = true → s.tiu.enabled = true →
        (c.toNat * 3125 ≤ s.stopWindow → exec (.tdrReflection c) s = .next { s with
          tiu.stops := s.tiu.stops ++ [(c.toNat * 3125, false)], tiu.enabled := false }) ∧
        (s.stopWindow < c.toNat * 3125 → exec (.tdrReflection c) s = .next s)) ∧
      (∀ x, s.deadline .tdrStop = some x → Claims.Answers .tdrStopWindowEnd s (fun t =>
        t.pins.tdrLaunch = false ∧ t.tiu.enabled = false ∧ t.tiu.stops = s.tiu.stops)) ∧
      (s.tiu.burst = true → s.burstGet Obj.tdrLaunches ≤ s.tiu.launched →
        Claims.Answers .tdrBurstEnd s (fun t => t.tiu.burst = false ∧ t.pins.tdrLaunch = false ∧
          t.get Obj.tdrBurstCount = satBytes (objSize Obj.tdrBurstCount) (s.get Obj.tdrBurstCount + 1) ∧
          (s.tiu.stops = [] → s.burstClass = .dry) ∧
          (s.burstClass = .invalid → t.get Obj.tdrWaterline = s.get Obj.tdrWaterline ∧ t.bit Obj.tdrSticky 0 = true) ∧
          (∀ h, s.burstClass ≠ .invalid → interpolate s.heightMap (s.burstDistance s.burstClass) = some h →
            fieldAt (t.bytesOf Obj.tdrWaterline) 0 2 = ofSigned 2 h ∧
            fieldAt (t.bytesOf Obj.tdrWaterline) 4 2 = satBytes 2 (s.burstDistance s.burstClass) ∧
            (fieldAt (t.bytesOf Obj.tdrWaterline) 10 1).testBit 0 = true ∧
            t.deadline .waterlineAge = some (s.now + 1000000 * s.burstGet Obj.tdrValidAge)))) ∧
      (∀ x, s.deadline .waterlineAge = some x → Claims.Answers .waterlineStale s (fun t =>
        fieldAt (t.bytesOf Obj.tdrWaterline) 0 2 = 0x8000 ∧ t.bit Obj.tdrSticky 3 = true ∧
        (fieldAt (t.bytesOf Obj.tdrWaterline) 10 1).testBit 0 = false ∧ t.pins = s.pins)))

/-- OVEN_OK low while the reference is warm sets REF_WARM with a hard mute of unmuted paths, ends a probe, and stops
the warm timer; it starts again, for Tiu.WarmTime, when OVEN_OK counts as high with REF_IN present. The timer's end
clears REF_WARM while OVEN_OK counts as high, and otherwise leaves that to the next OVEN_OK high. -/
def Obligations.RefWarmFollowsOvenAndTimer : Prop :=
  ∀ s : State,
    (s.power.coreReleased = true → s.get Obj.tiuOvenOk = 1 → Claims.Answers .ovenOkLow s (fun t =>
      t.get Obj.tiuOvenOk = 0 ∧ t.armed .warm = false ∧ t.tiu.ovenLow = true ∧
      (s.get Obj.tiuRefWarm = 0 → t.get Obj.tiuRefWarm = 1 ∧ t.bit Obj.tiuSticky 4 = true ∧
        (∀ p ∈ pathNums, s.get (Obj.stabState p) = 1 → t.get (Obj.stabState p) = 0) ∧
        ((∃ p ∈ pathNums, s.unmuted p = true) → t.pins.rfMuteN = false ∧
          ∀ p ∈ pathNums, t.get (Obj.stabState p) = 0)) ∧
      (s.get Obj.tiuRefWarm ≠ 0 → t.get Obj.tiuRefWarm = s.get Obj.tiuRefWarm))) ∧
    (s.power.coreReleased = true → s.get Obj.tiuOvenOk = 0 → Claims.Answers .ovenOkHigh s (fun t =>
      t.get Obj.tiuOvenOk = 1 ∧ t.tiu.ovenLow = false ∧
      (s.tiu.ovenLow = true → t.get Obj.tiuRefWarm = s.get Obj.tiuRefWarm ∧ (s.power.refPresent = true →
        t.deadline .warm = some (s.now + 1000000 * s.get Obj.tiuWarmTime))) ∧
      (s.tiu.ovenLow = false → s.tiu.warmDone = true → t.get Obj.tiuRefWarm = 0))) ∧
    (∀ x, s.deadline .warm = some x → Claims.Answers .warmTimerExpiry s (fun t =>
      (s.get Obj.tiuOvenOk = 1 → t.get Obj.tiuRefWarm = 0) ∧
      (s.get Obj.tiuOvenOk ≠ 1 → t.get Obj.tiuRefWarm = s.get Obj.tiuRefWarm ∧ t.tiu.warmDone = true) ∧
      t.pins = s.pins))

/-! ## Lid sense (ch. 15) -/

/-- At the third release sample of a presence outside Covered, a touch counts exactly when the presence lasted at
least Lid.TouchTime and less than Lid.CoverTime, and the lid is Idle. A sample that leaves the presence standing, of
whatever length, counts none; nor does the end of Covered, which begins a re-take. -/
def Obligations.TouchesAreTimed : Prop :=
  ∀ (s : State) (r : BitVec 32), s.lidRuns = true → s.lid.heldTouch = none → 2000 ≤ r.toNat → r.toNat ≤ 150000 →
    let delta : Int := (r.toNat : Int) - s.get Obj.lidBaseline
    let dur := (s.lid.releaseAt - s.lid.began) / 1000
    (s.get Obj.lidState = 3 → delta < s.get Obj.lidReleaseDelta → s.lid.releases = 2 →
      Claims.Answers (.lidSample r) s (fun t => t.get Obj.lidState = 2 ∧ t.get Obj.lidTouchCount =
        if s.get Obj.lidTouchTime ≤ dur ∧ dur < 1000 * s.get Obj.lidCoverTime then
          satBytes (objSize Obj.lidTouchCount) (s.get Obj.lidTouchCount + 1)
        else s.get Obj.lidTouchCount)) ∧
    (s.get Obj.lidState = 3 → delta < s.get Obj.lidReleaseDelta → s.lid.releases < 2 →
      Claims.Answers (.lidSample r) s (fun t => t.get Obj.lidState = 3 ∧ t.lid.releases = s.lid.releases + 1 ∧
        t.get Obj.lidTouchCount = s.get Obj.lidTouchCount)) ∧
    (s.get Obj.lidState = 3 → s.get Obj.lidReleaseDelta ≤ delta → s.armed .lidCover = true →
      Claims.Answers (.lidSample r) s (fun t => t.get Obj.lidState = 3 ∧ t.lid.releases = 0 ∧
        t.get Obj.lidTouchCount = s.get Obj.lidTouchCount)) ∧
    (s.get Obj.lidState = 4 → delta < s.get Obj.lidReleaseDelta → s.lid.releases = 2 →
      Claims.Answers (.lidSample r) s (fun t => t.get Obj.lidState = 1 ∧
        t.get Obj.lidTouchCount = s.get Obj.lidTouchCount))

/-- An Idle sample at TouchDelta or more begins a presence; one that reaches CoverTime becomes Covered. The baseline
moves towards the mean of its period by at most its step, is replaced by the mean of a re-take's 100 samples, and is
stored once an hour while Idle. After OFF, the first ten samples decide between a re-take, Covered and Idle. Samples
out of range for 1 s are a fault, and 10 s inside the range end it with a re-take. -/
def Obligations.LidStatesAndBaseline : Prop :=
  ∀ s : State,
    (∀ r : BitVec 32, s.lidRuns = true → s.lid.heldTouch = none → 2000 ≤ r.toNat → r.toNat ≤ 150000 →
      s.get Obj.lidState = 2 → (s.get Obj.lidTouchDelta : Int) ≤ (r.toNat : Int) - s.get Obj.lidBaseline →
      Claims.Answers (.lidSample r) s (fun t => t.get Obj.lidState = 3 ∧ t.get Obj.lidReading = r.toNat ∧
        t.lid.began = t.now ∧ t.lid.sampleAt = some t.now ∧
        t.deadline .lidCover = some (t.now + 1000000 * s.get Obj.lidCoverTime) ∧
        (∀ x, s.lid.sampleAt = some x → t.now = max s.now (x + 10000)))) ∧
    (∀ x, s.deadline .lidCover = some x → s.get Obj.lidState = 3 →
      (s.lid.releases = 0 → Claims.Answers .lidCover s (fun t => t.get Obj.lidState = 4 ∧
        t.bit Obj.lidSticky 2 = true ∧ t.get Obj.lidTouchCount = s.get Obj.lidTouchCount)) ∧
      (s.lid.releases ≠ 0 → Claims.Answers .lidCover s (fun t => t.get Obj.lidState = 3))) ∧
    (∀ b m k, moveTowards b m k ≤ b + k ∧ b ≤ moveTowards b m k + k) ∧
    (∀ x, s.deadline .lidTrack = some x → s.get Obj.lidState = 2 → Claims.Answers .lidTrack s (fun t =>
      t.get Obj.lidBaseline = (if s.lid.count = 0 then s.get Obj.lidBaseline
        else moveTowards (s.get Obj.lidBaseline) s.lidMean (s.get Obj.lidIdleTrack)) ∧
      t.lid.count = 0 ∧ t.lid.sum = 0 ∧ t.deadline .lidTrack = some (max s.now x + 60000000))) ∧
    (∀ x, s.deadline .lidTrack = some x → s.get Obj.lidState = 3 → Claims.Answers .lidTrack s (fun t =>
      t.get Obj.lidBaseline = s.get Obj.lidBaseline)) ∧
    (s.lidRuns = true → s.get Obj.lidState = 1 → s.lid.checking = false → s.lid.count = 100 →
      Claims.Answers .lidRetakeDone s (fun t => t.get Obj.lidBaseline = s.lidMean ∧ t.get Obj.lidState = 2 ∧
        t.get Obj.lidCoveredAtStart = 0)) ∧
    (∀ x, s.deadline .lidStore = some x → Claims.Answers .lidBaselineStore s (fun t =>
      (s.get Obj.lidState = 2 → t.get Obj.lidStoredBaseline = s.get Obj.lidBaseline ∧
        t.deadline .lidStore = some (max s.now x + 3600000000)) ∧
      (s.get Obj.lidState ≠ 2 → t.get Obj.lidStoredBaseline = s.get Obj.lidStoredBaseline))) ∧
    (s.lidRuns = true → s.lid.checking = true → s.lid.count = 10 →
      let stored := s.get Obj.lidStoredBaseline
      let delta : Int := (s.lidMean : Int) - stored
      Claims.Answers .lidStartCheck s (fun t => t.lid.checking = false ∧
        (stored = 0xFFFFFFFF → t.get Obj.lidState = 1) ∧
        (stored ≠ 0xFFFFFFFF → s.get Obj.lidTouchDelta ≤ delta → t.get Obj.lidState = 4 ∧
          t.get Obj.lidBaseline = stored ∧ t.get Obj.lidCoveredAtStart = 1 ∧ t.bit Obj.lidSticky 1 = true) ∧
        (stored ≠ 0xFFFFFFFF → delta < s.get Obj.lidTouchDelta → delta < -(s.get Obj.lidReleaseDelta : Int) →
          t.get Obj.lidState = 1) ∧
        (stored ≠ 0xFFFFFFFF → delta < s.get Obj.lidTouchDelta → -(s.get Obj.lidReleaseDelta : Int) ≤ delta →
          t.get Obj.lidState = 2 ∧ t.get Obj.lidBaseline = stored))) ∧
    (s.lidRuns = true → 100 ≤ s.lid.badRun → s.get Obj.lidState ≠ 5 → s.get Obj.lidState ≠ 0 →
      Claims.Answers .lidFault s (fun t => t.get Obj.lidState = 5 ∧ t.bit Obj.lidSticky 0 = true ∧
        t.power = s.power ∧ t.pins = s.pins)) ∧
    (∀ x, s.deadline .lidResume = some x → s.get Obj.lidState = 5 →
      Claims.Answers .lidFaultResume s (fun t => t.get Obj.lidState = 1 ∧ t.lid.count = 0))

/-! ## The Cask and the Vintage (ch. 16) -/

/-- A record that the Vintage takes is written whole at the write index, which rises by its slot; no other byte of the
Cask changes. A sealed Cask drops it and counts, and no record is written while a safety message stands before the
Cellarmaster. A bucket gains a token up to its rate. A programmed entry of the Vintage holds its bytes with the marker
0x5A, and no other entry changes; one that fails is voided, whatever bytes it leaves. The scan runs once. A clear that
completes leaves record 0x8401 alone, and Recording. -/
def Obligations.CaskAndVintageWork : Prop :=
  ∀ s : State,
    (∀ (m : LogMsg) (u : State) (ok : Bool), s.power.state ≠ .off → s.cask.scanned = true → s.cask.clearing = false →
      s.safetyWaits = false → s.nextLog = some (m, u) →
      (s.caskState ≠ 2 → m.snapshot = false → u.vintUse m ≠ .none → s.writeIndex < 2048 →
        Claims.Answers (.caskRecordCommit true ok) s (fun t => t.writeIndex = s.writeIndex + 1 ∧
          (∀ i (h : i < (recordBytes m false false true).length),
            memRead zeroByte t.mems.cask (32 * s.writeIndex + i) = (recordBytes m false false true)[i]) ∧
          (∀ a, a < 32 * s.writeIndex ∨ 32 * s.writeIndex + 32 ≤ a →
            memRead zeroByte t.mems.cask a = memRead zeroByte s.mems.cask a) ∧
          t.mems.vint = s.mems.vint)) ∧
      (s.caskState = 2 → Claims.Answers (.caskRecordCommit ok ok) s (fun t => t.mems.cask = s.mems.cask ∧
        t.ctl 0x10 4 = satBytes 4 (s.ctl 0x10 4 + 1) ∧ t.bit Obj.caskSticky 6 = true ∧
        t.writeIndex = s.writeIndex))) ∧
    (∀ a b, s.nextLog = none → exec (.caskRecordCommit a b) s = .next s) ∧
    (∀ (c : BitVec 16) x, s.deadline (.floodRefill c.toNat) = some x →
      let n := (s.floodMode c.toNat).2
      let k := min n (lookupD s.cask.buckets c.toNat n + 1)
      Claims.Answers (.floodTokenRefill c) s (fun t => lookupD t.cask.buckets c.toNat n = k ∧
        t.armed (.floodRefill c.toNat) = decide (k < n) ∧ t.mems = s.mems)) ∧
    (s.power.state ≠ .off → s.cask.scanned = false → exec .caskStartScan s = .next s.caskScan ∧
      s.caskScan.cask.scanned = true) ∧
    (s.cask.scanned = true → exec .caskStartScan s = .next s) ∧
    (∀ x e bs rest, s.deadline .vintage = some x → s.cask.vintWork = (e, bs) :: rest → bs.length = 32 →
      Claims.Answers (.vintageProgramDone true) s (fun t => t.cask.vintWork = rest ∧
        memRead zeroByte t.mems.vint (32 * e + 27) = 0x5A#8 ∧
        (∀ i (h : i < bs.length), i ≠ 27 → memRead zeroByte t.mems.vint (32 * e + i) = bs[i]) ∧
        (∀ a, a < 32 * e ∨ 32 * e + 32 ≤ a → memRead zeroByte t.mems.vint a = memRead zeroByte s.mems.vint a) ∧
        t.mems.cask = s.mems.cask ∧
        t.armed .vintage = (!rest.isEmpty && s.power.state != .holdup)) ∧
      Claims.Answers (.vintageProgramDone false) s (fun t => memRead zeroByte t.mems.vint (32 * e + 27) = 0xFF#8 ∧
        t.bit Obj.vintageSticky 0 = true ∧ t.mems.cask = s.mems.cask)) ∧
    (∀ a b, s.safetyWaits = true → exec (.caskRecordCommit a b) s = .next s) ∧
    (∀ x, s.deadline .caskClear = some x → s.caskState = 3 → Claims.Answers .caskClearDone s (fun t =>
      t.cask.clearing = false ∧ t.writeIndex = 1 ∧ t.caskState = 0 ∧ fieldAt (t.caskBytes 0 32) 0 2 = 0x8401 ∧
        t.mems.vint = s.mems.vint))

/-! ## Twin operation (ch. 17) -/

/-- The link's transmit queue has a credit, and nothing waits for it. -/
def Claims.LinkRoom (s : State) : Prop := 1 ≤ s.credits 0xB8 ∧ ∀ w ∈ s.q.waits, w.msg.queue ≠ 0xB8

/-- A frame of the link with this sequence number is the first after the characters appeared, or follows the reference
(R631). -/
def Claims.Follows (s : State) (seq : Nat) : Prop :=
  s.linkOn = true ∧ (s.twin.rxRef = none ∨ ∃ r, s.twin.rxRef = some r ∧ seq = (r + 1) % 65536)

/-- A frame out of sequence, whatever its type, is discarded, counted, and becomes the reference; a failed CRC or a
reserved type is counted and leaves it. Link characters begin a handshake; Hello goes out every 10 ms, a crosswise
match of serials sends Confirm, and a Confirm whose tag verifies brings the link up, with Heartbeats every 5 ms. A
Heartbeat with a valid tag and a higher counter restarts the 15 ms; one whose tag fails sets AuthFail, the third in 1
s drops the link and restarts Hello 1 s later. -/
def Obligations.LinkFrames : Prop :=
  ∀ s : State,
    (∀ r, s.linkOn = true → s.twin.rxRef = some r →
      let discarded := fun (i : Instr) (q : BitVec 16) => q.toNat ≠ (r + 1) % 65536 → exec i s = .next
        (({ s with twin.rxRef := some q.toNat }).linkStat 2)
      (∀ q, discarded (.jensiacBadFrame (.sequence q)) q) ∧ (∀ q tag, discarded (.confirmReceive q tag) q) ∧
      (∀ q a b n x y, discarded (.helloReceive q a b n x y) q) ∧
      (∀ (q : BitVec 16) (b : Bytes), b.length ≤ 64 → discarded (.twinHeartbeatReceive q b) q) ∧
      (∀ q c g, discarded (.departingReceive q c g) q) ∧
      (∀ (q : BitVec 16) g o (b : Bytes), b.length ≤ 256 → discarded (.imageChunkReceive q g o b) q) ∧
      (∀ q g l, discarded (.imageEndReceive q g l) q) ∧ (∀ q g, discarded (.handoverRequestReceive q g) q) ∧
      (∀ q g, discarded (.handoverAcceptReceive q g) q)) ∧
    (s.linkOn = true → exec (.jensiacBadFrame .crc) s = .next (s.linkStat 2) ∧
      exec (.jensiacBadFrame .reservedType) s = .next (s.linkStat 2)) ∧
    (s.twin.enabled = true → s.power.vintReady = true → Claims.Answers .linkCharactersAppear s (fun t =>
      t.twin.characters = true ∧ t.twin.rxRef = none ∧ (s.get Obj.twinLinkState = 0 → s.armed .authRestart = false →
        t.get Obj.twinLinkState = 1 ∧ t.armed .twinHello = true ∧ t.twin.confirmed = false))) ∧
    (∀ x, s.deadline .twinHello = some x → s.linkOn = true → s.get Obj.twinLinkState = 1 → Claims.LinkRoom s →
      Claims.Answers .hello s (fun t => t.deadline .twinHello = some (max s.now x + 10000) ∧
        t.q.msgs = s.q.msgs ++ [⟨0xB8, 1, false, 1, max s.now x, .raw (0x01#8 :: sliceBytes (s.ownSerial ++ s.peerSerial
          ++ leBytes 16 s.twin.ownNonce ++ [byteOf (s.get Obj.twinPreferred),
            if s.twin.selCounted then 1#8 else 0#8]) 0 64)⟩])) ∧
    (∀ (q : BitVec 16) (a b : BitVec 64) (n : BitVec 128) pf sel, Claims.Follows s q.toNat →
      s.get Obj.twinLinkState = 1 →
      (a.toNat = leNat s.peerSerial → b.toNat = leNat s.ownSerial → Claims.LinkRoom s →
        Claims.Answers (.helloReceive q a b n pf sel) s (fun t => t.twin.rxRef = some q.toNat ∧
          t.twin.peerNonce = n.toNat ∧ t.twin.helloSeen = true ∧ t.get Obj.twinLinkState = 1 ∧
          t.q.msgs = s.q.msgs ++ [⟨0xB8, 1, false, 1, s.now, .raw (0x02#8 :: sliceBytes (leBytes 16
            (s.confirmTag s.ownSerial s.peerSerial s.twin.ownNonce n.toNat)) 0 64)⟩])) ∧
      (a.toNat ≠ leNat s.peerSerial → Claims.Answers (.helloReceive q a b n pf sel) s (fun t =>
        t.bit Obj.twinSticky 2 = true ∧ t.get Obj.twinLinkState = 1 ∧ t.twin.helloSeen = s.twin.helloSeen))) ∧
    (∀ (q : BitVec 16) (tag : BitVec 128), Claims.Follows s q.toNat → s.get Obj.twinLinkState = 1 →
      s.twin.helloSeen = true → s.twin.takeover = none →
      let right := s.confirmTag s.peerSerial s.ownSerial s.twin.peerNonce s.twin.ownNonce
      let recent := s.twin.authFails.filter (fun t => decide (s.now ≤ t + 1000000))
      (tag.toNat = right → Claims.Answers (.confirmReceive q tag) s (fun t => t.get Obj.twinLinkState = 2 ∧
        t.twin.confirmed = true ∧ t.deadline .twinHeartbeat = some (s.now + 5000) ∧
        t.deadline .twinLinkDown = some (s.now + 15000) ∧ t.armed .twinHello = false)) ∧
      (tag.toNat ≠ right → Claims.Answers (.confirmReceive q tag) s (fun t => t.bit Obj.twinSticky 1 = true ∧
        (2 ≤ recent.length → t.get Obj.twinLinkState = 0 ∧ t.deadline .authRestart = some (s.now + 1000000)) ∧
        (recent.length < 2 → t.get Obj.twinLinkState = 1 ∧ t.twin.authFails = recent ++ [s.now])))) ∧
    (∀ x, s.deadline .authRestart = some x → s.linkOn = true → Claims.Answers .authFailRestart s (fun t =>
      t.get Obj.twinLinkState = 1 ∧ t.armed .twinHello = true ∧ t.twin.helloSeen = false)) ∧
    (∀ x, s.deadline .twinHeartbeat = some x → s.get Obj.twinLinkState = 2 → Claims.Answers .twinHeartbeat s (fun t =>
      t.twin.counterOut = s.twin.counterOut + 1 ∧ t.deadline .twinHeartbeat = some (max s.now x + 5000) ∧
        t.pins = s.pins)) ∧
    (∀ (q : BitVec 16) (p : Bytes), Claims.Follows s q.toNat → p.length ≤ 64 → s.get Obj.twinLinkState = 2 →
      s.pins.twinAct = false →
      let b := sliceBytes p 0 64
      (fieldAt b 56 8 = s.linkTag (b.take 56) → s.twin.counterIn < fieldAt b 0 4 →
        Claims.Answers (.twinHeartbeatReceive q p) s (fun t => t.twin.counterIn = fieldAt b 0 4 ∧
          t.twin.peerReady = fieldAt b 6 1 ∧ t.twin.lastHeartbeatRole = fieldAt b 4 1 ∧
          t.get Obj.twinPartnerAddress = fieldAt b 16 2 ∧ t.deadline .twinLinkDown = some (s.now + 15000))) ∧
      (fieldAt b 56 8 = s.linkTag (b.take 56) → fieldAt b 0 4 ≤ s.twin.counterIn →
        Claims.Answers (.twinHeartbeatReceive q p) s (fun t => t.twin.counterIn = s.twin.counterIn ∧
          t.timers = s.timers ∧ t.twin.peerReady = s.twin.peerReady)) ∧
      (fieldAt b 56 8 ≠ s.linkTag (b.take 56) → Claims.Answers (.twinHeartbeatReceive q p) s (fun t =>
        t.bit Obj.twinSticky 1 = true ∧ t.twin.counterIn = s.twin.counterIn)))

/-- A claim asserts TWIN_ACT, and the role is active only when TWIN_SEL counts as high; without it by RelayTime the
unit drives TWIN_ACT low and is standby, in STANDBY. TWIN_SEL lost on the active mutes it with TWIN_ACT held, and its
return gives the role back; 1 s later it demotes itself where that is due. A standby takes over when the link of a
partner last seen active goes down, or on Departing; an active whose link goes down stays active and racks no more. -/
def Obligations.RolesFollowTheRelay : Prop :=
  ∀ s : State, s.twin.enabled = true → s.eng.commit = none →
    (s.power.state ≠ .off → s.twin.selCounted = false →
      (s.twin.claiming = true → s.twin.takeover = none → Claims.Answers (.twinSelChange true) s (fun t =>
        t.get Obj.twinRole = 1 ∧ t.twin.claiming = false ∧ t.twin.selCounted = true ∧ t.armed .relayTime = false ∧
          t.pins.twinAct = s.pins.twinAct)) ∧
      (s.twin.claiming = false → s.pins.twinAct = true → s.twin.relayLost = true →
        Claims.Answers (.twinSelChange true) s (fun t => t.get Obj.twinRole = 1 ∧ t.twin.relayLost = false ∧
          t.armed .relayLost = false)) ∧
      (s.twin.claiming = false → s.pins.twinAct = false → Claims.Answers (.twinSelChange true) s (fun t =>
        t.get Obj.twinRole = s.get Obj.twinRole ∧ t.pins.twinAct = false ∧ t.twin.selCounted = true))) ∧
    (s.power.state ≠ .off → s.twin.selCounted = true → s.pins.twinAct = true → s.get Obj.twinRole = 1 →
      Claims.Answers (.twinSelChange false) s (fun t => t.get Obj.twinRole = 2 ∧ t.pins.twinAct = true ∧
        t.pins.rfMuteN = false ∧ t.twin.relayLost = true ∧ t.bit Obj.twinSticky 7 = true ∧
        t.deadline .relayLost = some (s.now + 1000000))) ∧
    (s.pins.twinAct = false → s.twin.selCounted = false →
      (∀ x, s.deadline .startWait = some x → s.get Obj.twinLinkState ≠ 2 → Claims.Answers .startWaitExpiry s (fun t =>
        t.pins.twinAct = true ∧ t.twin.claiming = true ∧ t.get Obj.twinRole = s.get Obj.twinRole ∧
          t.twin.takeover = s.twin.takeover ∧
          t.deadline .relayTime = some (max s.now x + 1000 * s.get Obj.twinRelayTime))) ∧
      (∀ x, s.deadline .claimInterval = some x → s.get Obj.twinLinkState ≠ 2 →
        Claims.Answers .claimIntervalExpiry s (fun t => t.pins.twinAct = true ∧ t.twin.claiming = true ∧
          t.get Obj.twinRole = s.get Obj.twinRole ∧ t.twin.takeover = some (max s.now x, 0) ∧
          t.armed .relayTime = true)) ∧
      (∀ x, s.deadline .twinLinkDown = some x → s.get Obj.twinLinkState = 2 → s.get Obj.twinRole = 2 →
        s.twin.lastHeartbeatRole = 1 → CoreId.press ∉ s.sec.halted → Claims.Answers .twinLinkDown s (fun t =>
          t.pins.twinAct = true ∧ t.twin.claiming = true ∧ t.twin.takeover = some (max s.now x, 0) ∧
            t.get Obj.twinLinkState ≠ 2)) ∧
      (∀ q c g, Claims.Follows s q.toNat → s.get Obj.twinLinkState = 2 → s.get Obj.twinRole = 2 →
        CoreId.press ∉ s.sec.halted → Claims.Answers (.departingReceive q c g) s (fun t =>
          t.pins.twinAct = true ∧ t.twin.claiming = true ∧ t.twin.takeover = some (s.now, 1 + departCode c)))) ∧
    (∀ x, s.deadline .twinLinkDown = some x → s.get Obj.twinLinkState = 2 → s.get Obj.twinRole = 1 →
      Claims.Answers .twinLinkDown s (fun t => t.get Obj.twinRole = 1 ∧ t.get Obj.twinLinkState ≠ 2 ∧
        t.bit Obj.twinSticky 0 = true ∧ t.armed .rack = false ∧ t.pins = s.pins ∧ t.power = s.power)) ∧
    (∀ x, s.deadline .relayTime = some x → s.twin.claiming = true → Claims.Answers .relayTimeExpiry s (fun t =>
      t.pins.twinAct = false ∧ t.get Obj.twinRole = 2 ∧ t.twin.claiming = false ∧ t.bit Obj.twinSticky 6 = true ∧
      (s.power.state = .active → t.power.state = .standby ∧ t.get Obj.powerStateLastReason = 8) ∧
      (s.get Obj.twinLinkState ≠ 2 → t.armed .claimInterval = true))) ∧
    (∀ x, s.deadline .relayLost = some x →
      let u := Claims.expired s .relayLost x
      (u.demoteDue = true → Claims.Answers .relayLostDemotion s (fun t => t.pins.twinAct = false ∧
        t.get Obj.twinRole = 2 ∧ t.twin.relayLost = false ∧
        (s.power.state = .active → t.power.state = .standby ∧ t.get Obj.powerStateLastReason = 8))) ∧
      (u.demoteDue = false → exec .relayLostDemotion s = .next u))

/-- The active captures an image of 2,120 bytes every 50 ms, each with the next generation. A standby keeps the chunks
of generation g in slot g mod 2, in order, commits a whole image whose CMAC verifies and drops any other, the other
slot untouched. A ready standby answers a handover for a generation it has committed; the accepted handover mutes the
active, which departs and is standby; one not accepted in time is forgotten. -/
def Obligations.RackingAndHandovers : Prop :=
  ∀ s : State,
    (∀ x, s.deadline .rack = some x → s.get Obj.twinRole = 1 → s.get Obj.twinLinkState = 2 →
      Claims.Answers .rackCapture s (fun t => t.twin.generation = (s.twin.generation + 1) % 2 ^ 32 ∧
        t.get Obj.twinRackGeneration = (s.twin.generation + 1) % 2 ^ 32 ∧ t.twin.capturedAt = some (max s.now x) ∧
        t.deadline .rack = some (max s.now x + 50000) ∧ t.pins = s.pins)) ∧
    (∀ g, (s.rackImage g).length = 2120) ∧
    (∀ (q : BitVec 16) (g : BitVec 32) (o : BitVec 16) (d : Bytes), Claims.Follows s q.toNat →
      s.get Obj.twinLinkState = 2 → s.get Obj.twinRole = 2 → 1 ≤ d.length → d.length ≤ 56 →
      ((s.imageSlot g.toNat).gen ≠ g.toNat → o = 0#16 → Claims.Answers (.imageChunkReceive q g o d) s (fun t =>
        t.imageSlot g.toNat = ⟨g.toNat, s.now, d, false⟩ ∧
          t.imageSlot (g.toNat + 1) = s.imageSlot (g.toNat + 1))) ∧
      ((s.imageSlot g.toNat).gen = g.toNat → (s.imageSlot g.toNat).committed = false →
        (s.imageSlot g.toNat).data ≠ [] → Claims.Answers (.imageChunkReceive q g o d) s (fun t =>
          t.imageSlot g.toNat = (if o.toNat = (s.imageSlot g.toNat).data.length then
            { s.imageSlot g.toNat with data := (s.imageSlot g.toNat).data ++ d } else s.imageSlot g.toNat) ∧
          t.imageSlot (g.toNat + 1) = s.imageSlot (g.toNat + 1)))) ∧
    (∀ (q : BitVec 16) (g : BitVec 32) (l : BitVec 16), Claims.Follows s q.toNat → s.get Obj.twinLinkState = 2 →
      s.get Obj.twinRole = 2 → (s.imageSlot g.toNat).gen = g.toNat →
      (s.imageOk (s.imageSlot g.toNat) l.toNat = true → Claims.Answers (.imageEndReceive q g l) s (fun t =>
        t.imageSlot g.toNat = { s.imageSlot g.toNat with committed := true } ∧
          t.get Obj.twinRackGeneration = g.toNat ∧ t.imageSlot (g.toNat + 1) = s.imageSlot (g.toNat + 1))) ∧
      (s.imageOk (s.imageSlot g.toNat) l.toNat = false → (s.imageSlot g.toNat).committed = false →
        Claims.Answers (.imageEndReceive q g l) s (fun t => (t.imageSlot g.toNat).committed = false ∧
          (t.imageSlot g.toNat).data = [] ∧ t.imageSlot (g.toNat + 1) = s.imageSlot (g.toNat + 1)))) ∧
    (∀ (q : BitVec 16) (g : BitVec 32), Claims.Follows s q.toNat → s.get Obj.twinLinkState = 2 →
      s.get Obj.twinRole = 2 →
      (s.readyFlags = 0xFF → (s.imageSlot g.toNat).gen = g.toNat → (s.imageSlot g.toNat).committed = true →
        Claims.LinkRoom s → Claims.Answers (.handoverRequestReceive q g) s (fun t => t.twin.handoverGen = none ∧
          t.q.msgs = s.q.msgs ++
            [⟨0xB8, 1, false, 1, s.now, .raw (0x08#8 :: sliceBytes (leBytes 4 g.toNat) 0 64)⟩])) ∧
      (s.readyFlags = 0xFF → ¬ ((s.imageSlot g.toNat).gen = g.toNat ∧ (s.imageSlot g.toNat).committed = true) →
        Claims.Answers (.handoverRequestReceive q g) s (fun t => t.twin.handoverGen = some g.toNat ∧ t.q = s.q)) ∧
      (s.readyFlags ≠ 0xFF → Claims.Answers (.handoverRequestReceive q g) s (fun t =>
        t.twin.handoverGen = none ∧ t.q = s.q))) ∧
    (∀ (q : BitVec 16) (g : BitVec 32), Claims.Follows s q.toNat → s.armed .handover = true →
      s.twin.handoverGen = some g.toNat → s.pins.twinAct = true → s.eng.commit = none →
      Claims.Answers (.handoverAcceptReceive q g) s (fun t => t.pins.twinAct = false ∧ t.pins.rfMuteN = false ∧
        t.get Obj.twinRole = 2 ∧ t.twin.handoverGen = none ∧ t.armed .handover = false ∧
        (s.power.state = .active → t.power.state = .standby ∧ t.get Obj.powerStateLastReason = 8))) ∧
    (∀ x, s.deadline .handover = some x → exec .handoverTimeout s = .next
      { Claims.expired s .handover x with twin.handoverGen := none })

/-! ## Requests (ch. 04 to 08) -/

/-- The Write message of an object with a number of its size. -/
def Claims.numberBody (k v : Nat) : Bytes := writeBody (k / 256) (k % 256) (leBytes (objSize k) v)

/-- The request that a command sends (Tables 6-8, 6-9, 4-6, 6-13 and 6-15): its sender, service, HopCount and message. -/
def Claims.message : Instr → Option (ReqCtx × Nat × Nat × Bytes)
  | .requestDormant r => some (r, 1, 0, Claims.numberBody Obj.powerStateRequest 2)
  | .requestStandby r => some (r, 1, 0, Claims.numberBody Obj.powerStateRequest 3)
  | .requestActive r => some (r, 1, 0, Claims.numberBody Obj.powerStateRequest 4)
  | .requestService r => some (r, 1, 0, Claims.numberBody Obj.powerStateRequest 5)
  | .requestRestart r => some (r, 1, 0, Claims.numberBody Obj.powerStateRequest 6)
  | .revokeSlot0 r => some (r, 1, 0, Claims.numberBody Obj.bootRevokeSlot0 1)
  | .lifecycleConfirm r v => some (r, 1, 0, Claims.numberBody Obj.lifecycleConfirm v.toNat)
  | .lifecycleRequest r v => some (r, 1, 0, Claims.numberBody Obj.lifecycleRequest v.toNat)
  | .roleKeyWrite r w key =>
    let k := if w.val = 4 then Obj.twinPairKey else Obj.keysRoleKey w.val
    some (r, 1, 0, writeBody (k / 256) (k % 256) key)
  | .sessionOpen r role version peer nc => some (r, 12, 0, [1#8, 0#8, 0#8, 0#8, role, version] ++ leBytes 2 peer.toNat
      ++ leBytes 16 nc.toNat ++ [0#8, 0#8, 0#8, 0#8])
  | .sessionConfirm r sid tagC => some (r, 12, 0, [3#8, 0#8, 0#8, 0#8] ++ leBytes 2 sid.toNat ++ [0#8, 0#8]
      ++ leBytes 16 tagC.toNat)
  | .debugRequest r level => some (r, 1, 0, Claims.numberBody Obj.debugRequest level.toNat)
  | .debugToken r t => some (r, 1, 0, writeBody 0x1A30 5 t)
  | .debugChallengeRead r => some (r, 0, 0, leBytes 2 0x1A30 ++ [4#8, 0#8])
  | .read r index sub => some (r, 0, 0, leBytes 2 index.toNat ++ [sub, 0#8])
  | .write r index sub type v => some (r, 1, 0, leBytes 2 index.toNat ++ [sub, type] ++ v)
  | .stagedWrite r index sub type v => some (r, 2, 0, leBytes 2 index.toNat ++ [sub, type] ++ v)
  | .commit r => some (r, 3, 0, [])
  | .discard r => some (r, 4, 0, [])
  | .stickyClear r index sub mask => some (r, 1, 0, Claims.numberBody (objKey index.toNat sub.toNat) mask.toNat)
  | .stickyClearAll r => some (r, 1, 0, Claims.numberBody Obj.stickyClearAll 0xC1EA)
  | .restoreDefaults r => some (r, 1, 0, Claims.numberBody Obj.configRestoreDefaults 0xDEF0)
  | .updateBegin r n => some (r, 1, 0, Claims.numberBody Obj.updateBegin n.toNat)
  | .updateData r offset total data => some (r, 6, 0, leBytes 2 0x9000 ++ [4#8, 0#8] ++ leBytes 4 offset.toNat
      ++ leBytes 4 total.toNat ++ data)
  | .updateVerify r => some (r, 1, 0, Claims.numberBody Obj.updateVerify 1)
  | .updateActivate r => some (r, 1, 0, Claims.numberBody Obj.updateActivate 1)
  | .updateAbort r => some (r, 1, 0, Claims.numberBody Obj.updateAbort 1)
  | .blockRead r index sub whole offset n => some (r, 5, 0, leBytes 2 index.toNat ++ [sub, if whole then 1#8 else 0#8]
      ++ leBytes 4 offset.toNat ++ leBytes 2 n.toNat ++ [0#8, 0#8])
  | .blockWrite r index sub final offset total data => some (r, 6, 0, leBytes 2 index.toNat
      ++ [sub, if final then 1#8 else 0#8] ++ leBytes 4 offset.toNat ++ leBytes 4 total.toNat ++ data)
  | .timeSet r broadcast utc micros source =>
    if broadcast && r.via != .host then none
    else some (r, 9, 0, leBytes 8 utc.toNat ++ leBytes 4 micros.toNat ++ [source, 0#8, 0#8, 0#8])
  | .assign r a serial segA segB => some (r, 10, 0, [2#8, 0#8] ++ leBytes 2 a.toNat ++ leBytes 8 serial.toNat
      ++ [segA, segB, 0#8, 0#8])
  | .getStatus r => some (r, 11, 0, [1#8, 0#8])
  | .setRoutes r start count codes => some (r, 11, 0, [2#8, 0#8] ++ leBytes 2 start.toNat ++ leBytes 2 count.toNat ++ codes)
  | .setForwarding r enable => some (r, 11, 0, [3#8, 0#8, enable, 0#8])
  | .ping r hop => some (r, 11, hop.toNat, [4#8, 0#8])
  | .clearHighWater r => some (r, 1, 0, Claims.numberBody Obj.queueClearHighWater 1)
  | .syncNow r => some (r, 1, 0, Claims.numberBody Obj.converterSyncNow 1)
  | .runInit r => some (r, 1, 0, Claims.numberBody Obj.frontEndRunInit 1)
  | .commandedShutdown r => some (r, 1, 0, Claims.numberBody Obj.netShutdown 0x5D0F)
  | .clearLockout r => some (r, 1, 0, Claims.numberBody Obj.netClearLockout 1)
  | .sealClear r => some (r, 1, 0, Claims.numberBody Obj.sealClear 1)
  | .clearLatch r => some (r, 1, 0, Claims.numberBody Obj.railSeqClearLatch 1)
  | .marginHigh r ch => some (r, 1, 0, Claims.numberBody (Obj.marginCommand ch.val) 1)
  | .marginLow r ch => some (r, 1, 0, Claims.numberBody (Obj.marginCommand ch.val) 2)
  | .marginNominal r ch => some (r, 1, 0, Claims.numberBody (Obj.marginCommand ch.val) 0)
  | .tiuArm r => some (r, 1, 0, Claims.numberBody Obj.tiuArm 1)
  | .tiuCancel r => some (r, 1, 0, Claims.numberBody Obj.tiuCancel 1)
  | .lidRebaseline r => some (r, 1, 0, Claims.numberBody Obj.lidRebaseline 1)
  | .caskClear r => some (r, 1, 0, Claims.numberBody Obj.caskClear 0xCA5C)
  | .handover r => some (r, 1, 0, Claims.numberBody Obj.twinHandover 1)
  | _ => none

/-- A request received whole at a field port: the state before the Vintner takes it, and the bytes by which a
retransmission is known. The port takes part in its bus; the sender's address is not the unit's; the unit, assigned or
not, is addressed and nothing of it is to be bridged; the priority is its service's; no group of the sender is in
reassembly; and the intake queue has the credits it needs (R211 to R218, R234, R238, R287). `none` otherwise. -/
def Claims.received (s : State) (r : ReqCtx) (svc aux : Nat) (b : Bytes) : Option (State × Bytes) :=
  let p := viaPort r.via
  let msg := reqMessage r b
  let fs := (groupFrames (mkIdent r.prio.toNat false svc (reqPeer r) (s.ownAddress r.via)) r.tid.toNat r.trailer.isSome
    false msg).map (fun f => { f with data := f.data.set 2 (byteOf aux) })
  if r.via ≠ .host ∧ s.portUp p = true ∧ s.vintServes = true ∧ prioOk svc r.prio.toNat = true ∧ msg.length ≤ 960
      ∧ s.ownAddress r.via < 512 ∧ (s.unassigned = true ∨ reqPeer r ≠ s.field.effective)
      ∧ (s.unassigned = false ∨ svc = 10 ∨ svc = 11) ∧ fs.all (fun f => !s.forwards p f) = true
      ∧ s.groupFrom (reqPeer r) = none ∧ s.deadline (.reassembly p (reqPeer r)) = none
      ∧ framesOf msg.length ≤ s.credits (intakeQueue r.via svc) then
    some (s.bump (Obj.portRxFrames (portNum p)) (framesOf msg.length), fs.flatMap rawOf)
  else none

/-- The state in which the Vintner takes a request out of its intake queue at once, the queue's high-water mark followed
and the service noted (R292): it came through the mailbox for a service of the host port, or whole to a field port and is
no retransmission (R218, R263); no request of its queue or its requester is held, and no message of a lower class code
waits (R217, R292). `none` where it does not come so far. -/
def Claims.arrived (s : State) (r : ReqCtx) (svc aux : Nat) (b : Bytes) : Option State :=
  let q := intakeQueue r.via svc
  let intake := fun (u : State) =>
    let u := u.pass q (framesOf (reqMessage r b).length)
    if u.eng.held.any (fun h => h.queue == q || h.caller.dest.peer == reqPeer r) || u.earlierClass q then none
    else some (u.noteServed 2 q)
  if r.via = .host then (if s.vintServes = true ∧ (svc ≤ 6 ∨ svc = 12) then intake s else none)
  else
    match Claims.received s r svc aux b with
    | none => none
    | some (u, raw) =>
      if (svc ≠ 10 ∨ sliceBytes b 4 8 = s.serial) ∧ (u.repeated (reqPeer r) r.tid.toNat raw).isNone = true then
        intake (u.rememberGroup (reqPeer r) r.tid.toNat raw)
      else none

/-- The state in which an arrived request's checks begin: its size and address pass (R3, R4, R251), no message stands
before it in the queues of its way, whose high-water marks follow (R12, R304), and what it posts is derived (R288). -/
def Claims.opened (s : State) (r : ReqCtx) (svc aux : Nat) (b : Bytes) : Option State :=
  match Claims.arrived s r svc aux b with
  | none => none
  | some v =>
    if (earlyAbort svc b).isSome || (v.blocker svc b).isSome then none
    else some { (requestChain svc b).foldl (fun (s : State) q => s.pass q 1) v with q.handling := true }

/-- The caller and the state at which the service of a request acts: its trailer, if it has one, is that of an open
session, with the right tag and a counter above the last (R123 to R125). -/
def Claims.entry (s : State) (r : ReqCtx) (svc aux : Nat) (b : Bytes) : Option (Caller × State) :=
  match Claims.opened s r svc aux b with
  | none => none
  | some u =>
    let c := callerOf r svc aux
    match r.trailer with
    | none => some (c, u)
    | some t =>
      match u.sec.sessions.find? (fun x => x.isOpen && x.sid == t.sid.toNat && x.peer == reqPeer r && x.via == r.via) with
      | none => none
      | some x =>
        if groupTag x.key (tagInput 0 t.sid.toNat t.counter.toNat (reqPeer r) (u.ownAddress r.via) b) = t.tag
            ∧ x.ctrIn < t.counter.toNat then
          some ({ c with role := some x.role, slot := some (Fin.ofNat 8 x.slot),
                         dest := { c.dest with session := some t.sid.toNat } },
            (u.setSession { x with ctrIn := t.counter.toNat, fails := 0 }).arm (.sessionIdle x.slot)
              (1000000 * u.get Obj.sessionIdleTimeout))
        else none

/-- The state after a request: a session whose counter a protected one brings to its end ends (R139), and what the core
posts from here on is fresh again where it was before. -/
def Claims.finished (s : State) (r : ReqCtx) (t : State) : State :=
  { (if r.trailer.isSome then t.endSpent else t) with q.handling := s.q.handling }

/-- Command `i` sends the request of `r` with message `b`, its service acts for caller `c` in state `u`, and its reply
and what else it posts find their credits (R289); a segment of Update.Data finds them in queue 0x08 (R188). -/
def Claims.Served (i : Instr) (s : State) (r : ReqCtx) (b : Bytes) (c : Caller) (u : State) : Prop :=
  ∃ svc aux, Claims.message i = some (r, svc, aux, b) ∧ Claims.entry s r svc aux b = some (c, u) ∧
    (isUpdateSegment svc (reqMessage r b) = true → u.get Obj.updateState = 1 →
      framesOf (reqMessage r b).length ≤ u.credits 0x08) ∧
    (Claims.finished s r (u.act c b)).derivedWaits ≤ u.derivedWaits

/-- The state in which a Write that passes step 10 acts: Service activity noted (R718), and for Seal.Clear the level of
SEAL_N as it finds it (log entry 4). -/
def Claims.writeState (u : State) (k : Nat) : State := if k = Obj.sealClear then u.activity.sampleSeal else u.activity

/-- The first check of Table 5-4, from step 4 on, that a Write of `v` in `len` bytes to object `k` fails. -/
def Claims.writeFault (c : Caller) (u : State) (k v len : Nat) : Option Abort :=
  firstAbort [u.lifecycleCheck c.dest.via true (k / 256) (k % 256) v len, u.roleCheck c.role true (k / 256) (k % 256) v,
    u.powerCheck, u.transCheck, u.readyCheck true (k / 256),
    u.writeValueCheck (k / 256) (k % 256) (typeCodeOf (k / 256) (k % 256)) len v,
    (Claims.writeState u k).precondition k v, (Claims.writeState u k).heldCheck c [(k, v)]]

/-- Command `i` writes `v` to object `k`: once every check passes, and for one that leads to a restart no commit is in
application (R192), it is answered with success and then does `f`. -/
def Claims.Does (i : Instr) (k v : Nat) (f : Caller → State → State) : Prop :=
  ∀ s r b c u, Claims.Served i s r b c u → Claims.writeFault c u k v (objSize k) = none →
    (u.eng.commit = none ∨ k ∉ [Obj.lifecycleRequest, Obj.updateActivate, Obj.railSeqClearLatch]) →
    exec i s = .next (Claims.finished s r (f c ((Claims.writeState u k).done c (k / 256) (k % 256))))

/-- Command `i` writes `v` to the RW object `k` while no commit is in application: the commit of the one entry is tried. -/
def Claims.Commits (i : Instr) (k v : Nat) : Prop :=
  ∀ s r b c u, Claims.Served i s r b c u → Claims.writeFault c u k v (objSize k) = none → u.eng.commit = none →
    exec i s = .next (Claims.finished s r (u.activity.tryCommit c (.write (k / 256) (k % 256)) none [(k, v)] b))

/-- For each command that is a request, through the mailbox or a field port, protected or not: one that arrives whole,
with the priority of its service and the credits it needs, behind no held request, with a size and an address that
exist and, if it is protected, with the tag and a fresh counter of an open session, is acted on at once by the service
that it names, for the role and slot of its session. Where its reply finds no credit, it is held in its intake queue
as it came, and its deferral threshold of 10 ms runs. -/
def Obligations.RequestsReachTheirService : Prop :=
  ∀ (i : Instr) (s : State) (r : ReqCtx) (b : Bytes) (c : Caller) (u : State),
    (∀ svc aux, Claims.message i = some (r, svc, aux, b) → Claims.Served i s r b c u →
      exec i s = .next (Claims.finished s r (u.act c b)) ∧ c.dest.svc = svc ∧ c.dest.peer = reqPeer r ∧
        (c.role.isSome ↔ r.trailer.isSome)) ∧
    (∀ svc aux, Claims.message i = some (r, svc, aux, b) → Claims.entry s r svc aux b = some (c, u) →
      isUpdateSegment svc (reqMessage r b) = false →
      u.derivedWaits < (Claims.finished s r (u.act c b)).derivedWaits → Claims.Answers i s (fun t =>
        t.eng.held = s.eng.held ++ [⟨callerOf r svc aux, reqClaimed r, reqMessage r b, 0x4B, s.now, false⟩] ∧
          t.deadline (.defer (reqPeer r) r.tid.toNat) = some (s.now + 10000) ∧ t.power = s.power ∧ t.pins = s.pins))

/-- Boot.RevokeSlot0 revokes key slot 0. Queue.ClearHighWater clears the high-water marks. A mask written to an RW1C
object clears the flags it names whose conditions are no longer present, with the record of them, and Sticky.ClearAll
does so for every one. Update.Begin erases the target bank and receives, Verify goes to Verifying, Activate selects
the target bank and restarts into Trial, Abort returns to Idle. SyncNow restarts every window and path and counts.
RunInit plays SeqInit. Net.Shutdown is trigger 6 for every unmuted path, Net.ClearLockout clears Net.State. Seal.Clear
ends the seal's stop. ClearLatch clears the latch and the attempts and restarts. Tiu.Arm and Tiu.Cancel arm and free
the channel. Lid.Rebaseline re-takes an idle sensor. Cask.Clear begins a clear of 10 ms. Twin.Handover asks the
partner for one. -/
def Obligations.CommandWrites : Prop :=
  (∀ r, Claims.Does (.revokeSlot0 r) Obj.bootRevokeSlot0 1 (fun _ w => { w with sec.slot0Revoked := true })) ∧
  (∀ r, Claims.Does (.clearHighWater r) Obj.queueClearHighWater 1 (fun _ w => { w with q.highWater := [] })) ∧
  (∀ (r : ReqCtx) (index : BitVec 16) (sub : Byte) (mask : BitVec 32),
    let k := objKey index.toNat sub.toNat
    let v := leNat (leBytes (objSize k) mask.toNat)
    isRw1c k = true → Claims.Does (.stickyClear r index sub mask) k v (fun c w =>
      let gone := (w.get k &&& v) - ((w.get k &&& v) &&& w.present k)
      if gone = 0 then w
      else ((w.set k (w.get k - gone)).log .vintner 0x8001 0 31 (leBytes 2 index.toNat ++ [sub, 0#8] ++ leBytes 4 gone
        ++ [byteOf (c.role.getD 0xFF), 0#8] ++ leBytes 2 c.dest.peer)).noteSummary)) ∧
  (∀ (w : State) (k mask n : Nat), (w.clearFlags k mask).2.bit k n =
    (w.bit k n && (!mask.testBit n || (w.present k).testBit n))) ∧
  (∀ r, Claims.Does (.stickyClearAll r) Obj.stickyClearAll 0xC1EA (fun c w => w.stickyClearAll c.role c.dest.peer)) ∧
  (∀ r (n : BitVec 32), Claims.Does (.updateBegin r n) Obj.updateBegin n.toNat (fun _ w =>
    let x := { w.setBank w.targetBank [] with upd := ⟨n.toNat, []⟩ }
    ((x.set Obj.updateReceived 0).set Obj.updateFailedCheck 0).set Obj.updateState 1)) ∧
  (∀ r, Claims.Does (.updateVerify r) Obj.updateVerify 1 (fun _ w => w.set Obj.updateState 2)) ∧
  (∀ r, Claims.Does (.updateActivate r) Obj.updateActivate 1 (fun _ w =>
    let x := { w with boot.previousBank := w.boot.running }
    ((x.set Obj.bootSelectedBank (1 - w.boot.running)).set Obj.updateState 5).restart 3)) ∧
  (∀ r, Claims.Does (.updateAbort r) Obj.updateAbort 1 (fun _ w =>
    { w with upd.segments := [] }.set Obj.updateState 0)) ∧
  (∀ r, Claims.Does (.syncNow r) Obj.converterSyncNow 1 (fun _ w =>
    ((w.newWindows).settleAll pathNums).bump Obj.converterSyncCount 1)) ∧
  (∀ r, Claims.Does (.runInit r) Obj.frontEndRunInit 1 (fun _ w =>
    { w with fe.initOk := false, fe.failUL := false, fe.failDL := false }.playSeq 1)) ∧
  (∀ r, Claims.Does (.commandedShutdown r) Obj.netShutdown 0x5D0F (fun _ w =>
    w.netTrigger 6 (pathNums.filter w.unmuted))) ∧
  (∀ r, Claims.Does (.clearLockout r) Obj.netClearLockout 1 (fun _ w => w.set Obj.netState 0)) ∧
  (∀ r, Claims.Does (.sealClear r) Obj.sealClear 1 (fun _ w => w.unseal)) ∧
  (∀ w : State, w.unseal.pa.breach = false ∧ ∀ n ∈ laneNums, w.unseal.get (Obj.paLaneState n) ≠ 6) ∧
  (∀ r, Claims.Does (.clearLatch r) Obj.railSeqClearLatch 1 (fun _ w =>
    ((w.set Obj.railSeqLatchedSlot 0xFF).set Obj.railSeqAttempt 1).restart 3)) ∧
  (∀ r, Claims.Does (.tiuArm r) Obj.tiuArm 1 (fun _ w => w.set Obj.tiuState (if w.tiu.burst then 1 else 2))) ∧
  (∀ r, Claims.Does (.tiuCancel r) Obj.tiuCancel 1 (fun _ w =>
    let x := { (w.disarm .tiuTimeout).disarm .tiuOverflow with tiu.startFine := none }
    if w.tiu.burst then x.set Obj.tiuState 4 else x.channelFree false)) ∧
  (∀ r, Claims.Does (.lidRebaseline r) Obj.lidRebaseline 1 (fun _ w =>
    if w.get Obj.lidState = 2 then w.lidEnter 1 else w)) ∧
  (∀ r, Claims.Does (.caskClear r) Obj.caskClear 0xCA5C (fun _ w =>
    (({ w with cask.clearing := true, mems.cask := [] }).setCtl 0x05 1 3).arm .caskClear 10000)) ∧
  (∀ r, Claims.Does (.handover r) Obj.twinHandover 1 (fun _ w =>
    (({ w with twin.handoverGen := some w.twin.generation }).sendLink 7 (leBytes 4 w.twin.generation)).arm .handover
      200000))

/-- An accepted power-state request is answered and carried out: the present state changes nothing; DORMANT by the
timed shutdown and Restart by the restart, reason 3, STANDBY, ACTIVE and SERVICE as Table 3-2 has them, SERVICE left
first. Lifecycle.Confirm is held with its instant; a confirmed Lifecycle.Request whose conditions hold begins the
transition, and an unconfirmed one ends with abort 0x0C. A key goes plain into the store in BLANK, and unwrapped
elsewhere; one whose wrapping does not verify ends with 0x0B. SessionOpen leaves a half-open session of the peer and
role in the lowest free slot with 2 s to confirm; the right tag opens it, and its idle and life timers run.
Debug.Request and a good Strelbor token open, change or close the debug level, or begin the transition to RETURNED. -/
def Obligations.PowerKeysSessionsAndDebug : Prop :=
  (∀ (i : Instr) (v : Nat) (r : ReqCtx), (i, v) ∈ [(Instr.requestDormant r, 2), (Instr.requestStandby r, 3),
      (Instr.requestActive r, 4), (Instr.requestService r, 5), (Instr.requestRestart r, 6)] → ∀ s b c u, Claims.Served i s r b c u →
    Claims.writeFault c u Obj.powerStateRequest v (objSize Obj.powerStateRequest) = none → u.activity.powerRefusal v = none →
    (u.eng.commit = none → exec i s = .next (Claims.finished s r (
      let w := (u.activity.done c 0x1800 2).set Obj.powerStateRequest v
      let x := if w.power.state = .service then w.leaveService else w
      if v = w.power.state.code then w else if v = 2 then w.beginShutdown .request 3 false 0 []
      else if v = 3 then x.fallToStandby 3 else if v = 4 then x.towardsActive 3
      else if v = 5 then w.towardsService 3 false else w.restart 3))) ∧
    (u.eng.commit.isSome → exec i s = .next (Claims.finished s r
      ({ u.activity with eng.deferredPower := u.eng.deferredPower ++
        [(⟨{ c with deferred := true }, none, b, 0, u.now, true⟩ : Held)] }.abort c b (0x0A, 0))))) ∧
  (∀ r v, Claims.Does (.lifecycleConfirm r v) Obj.lifecycleConfirm v.toNat (fun _ w =>
    { w with sec.confirm := some (v.toNat, w.now) })) ∧
  (∀ (r : ReqCtx) (v : Byte) s b c u, Claims.Served (.lifecycleRequest r v) s r b c u →
    Claims.writeFault c u Obj.lifecycleRequest v.toNat (objSize Obj.lifecycleRequest) = none → u.eng.commit = none →
    (u.confirmed = true → u.lifecycleUnmet v.toNat = none → v ≠ 3#8 →
      exec (.lifecycleRequest r v) s = .next (Claims.finished s r
        ((u.activity.done c 0x1A00 2).beginLifecycle v.toNat 0))) ∧
    (u.confirmed = true → u.lifecycleUnmet v.toNat = none → v = 3#8 →
      (Config.eraseOk u.free = true → exec (.lifecycleRequest r v) s = .next (Claims.finished s r
        (((u.activity.done c 0x1A00 2).eraseKeys true).beginLifecycle 3 0))) ∧
      (Config.eraseOk u.free = false → exec (.lifecycleRequest r v) s = .next (Claims.finished s r
        ((u.activity.abort c b (0x0C, 4)).eraseKeys false)))) ∧
    (u.confirmed = false → exec (.lifecycleRequest r v) s = .next (Claims.finished s r
      (u.activity.abort c b (0x0C, 0))))) ∧
  (∀ (r : ReqCtx) (n : Fin 5) (key : Bytes) s b c u, Claims.Served (.roleKeyWrite r n key) s r b c u →
    let k := if n.val = 4 then Obj.twinPairKey else Obj.keysRoleKey n.val
    Claims.writeFault c u k (leNat key) key.length = none →
    (u.lifecycle = 0 → exec (.roleKeyWrite r n key) s = .next (Claims.finished s r
      ((u.activity.sealKey n.val (leNat key)).done c (k / 256) (k % 256)))) ∧
    (∀ v, u.keyFrom c key = some v → exec (.roleKeyWrite r n key) s = .next (Claims.finished s r
      ((u.activity.sealKey n.val v).done c (k / 256) (k % 256)))) ∧
    (u.keyFrom c key = none → exec (.roleKeyWrite r n key) s = .next (Claims.finished s r
      (u.activity.abort c b (0x0B, 0))))) ∧
  (∀ (w : State) (n : Fin 5) (key : Nat), (w.sec.kwk.isSome → (w.sealKey n.val key).storedKey n.val = some key) ∧
    (∀ m, m ≠ n.val → (w.sealKey n.val key).storedKey m = w.storedKey m) ∧
    lookupD (w.sealKey n.val key).sec.keyWrites n.val 0 = lookupD w.sec.keyWrites n.val 0 + 1 ∧
    (w.sealKey n.val key).sec.fuses = w.sec.fuses) ∧
  (∀ (w : State) (ok : Bool), (w.eraseKeys ok).sec.keyStore = [] ∧ (w.eraseKeys ok).sec.sessions = [] ∧
    (w.eraseKeys ok).sec.erased = ok ∧ (w.eraseKeys ok).sec.fuses = w.sec.fuses) ∧
  (∀ (r : ReqCtx) (role version : Byte) (peer : BitVec 16) (nc : BitVec 128) s b c u,
    Claims.Served (.sessionOpen r role version peer nc) s r b c u →
    u.sessionRefusal (reqPeer r) role.toNat version.toNat peer.toNat = none →
    exec (.sessionOpen r role version peer nc) s = .next (Claims.finished s r
      (u.sessionOpen c b role.toNat version.toNat peer.toNat nc.toNat)) ∧
    (r.trailer = none → Claims.Answers (.sessionOpen r role version peer nc) s (fun t => ∃ x ∈ t.sec.sessions,
      x.slot = u.freeSlot ∧ x.role = role.toNat ∧ x.peer = peer.toNat ∧ x.via = r.via ∧ x.isOpen = false ∧
        x.nc = nc.toNat ∧ (∀ k, u.storedKey role.toNat = some k → x.key = k) ∧
        t.deadline (.handshake u.freeSlot) = some (s.now + 2000000)))) ∧
  (∀ (r : ReqCtx) (sid : BitVec 16) (tag : BitVec 128) s b c u x,
    Claims.Served (.sessionConfirm r sid tag) s r b c u → u.running = true → u.power.corkReady = true →
    CoreId.cork ∉ u.sec.halted → u.sec.sessions.find? (fun x =>
      !x.isOpen && x.sid == sid.toNat && x.peer == reqPeer r && x.via == r.via) = some x →
    (Config.cmac x.key (handshakeInput 0x43 x.role x.peer x.nd x.nc x.sid u.serial) = tag → u.sec.entropyFailed = false →
      exec (.sessionConfirm r sid tag) s = .next (Claims.finished s r ((u.activity.acceptSession x).answer c
        ([0#8, 0#8, 4#8, 0#8] ++ leBytes 2 x.sid ++ leBytes 2 (u.get Obj.sessionIdleTimeout))))) ∧
    (Config.cmac x.key (handshakeInput 0x43 x.role x.peer x.nd x.nc x.sid u.serial) ≠ tag →
      exec (.sessionConfirm r sid tag) s = .next (Claims.finished s r
        ((u.dropHalf x.slot).handshakeFailed x.role)))) ∧
  (∀ (w : State) (x : Session), (w.acceptSession x).deadline (.sessionLife x.slot) =
      some (w.now + 60000000 * w.get Obj.sessionLifetime) ∧
    (w.acceptSession x).armed (.sessionIdle x.slot) = true ∧
    ∀ y ∈ (w.acceptSession x).sec.sessions, y.slot = x.slot → y.isOpen = true ∧ y.role = x.role ∧
      y.key = sessionKey x.key x.nc x.nd x.sid) ∧
  (∀ (r : ReqCtx) (level : Byte) s b c u, Claims.Served (.debugRequest r level) s r b c u →
    Claims.writeFault c u Obj.debugRequest level.toNat (objSize Obj.debugRequest) = none →
    exec (.debugRequest r level) s = .next (Claims.finished s r
      ((u.activity.done c 0x1A30 2).setDebug level.toNat (c.slot.map (fun n => n.val))))) ∧
  (∀ (r : ReqCtx) (t : Bytes) s b c u, Claims.Served (.debugToken r t) s r b c u →
    Claims.writeFault c u Obj.debugToken (leNat t) t.length = none → u.tokenGood t = true →
    (fieldAt t 24 1 = 0x80 → Config.eraseOk u.free = true → exec (.debugToken r t) s = .next (Claims.finished s r
      (((u.activity.done c 0x1A30 5).eraseKeys true).beginLifecycle 3 1))) ∧
    (fieldAt t 24 1 = 0x80 → Config.eraseOk u.free = false → exec (.debugToken r t) s = .next (Claims.finished s r
      ((u.activity.abort c b (0x0C, 4)).eraseKeys false))) ∧
    (fieldAt t 24 1 = 1 ∨ fieldAt t 24 1 = 2 →
      exec (.debugToken r t) s = .next (Claims.finished s r
        ((u.activity.done c 0x1A30 5).setDebug (fieldAt t 24 1) none)))) ∧
  (∀ (w : State) (level : Nat) (owner : Option Nat), 0 < level → (w.setDebug level owner).get Obj.debugLevel = level ∧
    (w.setDebug level owner).sec.debugOwner = owner ∧ (w.setDebug level owner).armed .debugEnd = true)

/-- A Read answers the type and the value in force of its object; a read of Debug.Challenge is a fresh challenge. A
Write of an RW object tries the commit of its one entry, or waits (abort 0x0A) behind the one in application; a
Persistent value goes to the journal first. A StagedWrite puts its value into the requester's stage, whose timer
restarts; Discard empties it; Commit tries all of it. Config.RestoreDefaults commits the defaults. A margin command is
the commit of Margin.Command. A BlockRead at offset 0 takes its snapshot and sends the first segment, and goes on from
it. A first BlockWrite segment that is not the last is held and answered with the next offset, and the last one
applies the value. A segment of Update.Data is posted to the image writer and Update.Received rises. -/
def Obligations.DictionaryServices : Prop :=
  (∀ (r : ReqCtx) (i : Instr) (index : BitVec 16) (sub : Byte),
    i = .read r index sub ∨ (i = .debugChallengeRead r ∧ index = 0x1A30 ∧ sub = 4) → ∀ s b c u,
    Claims.Served i s r b c u →
    let k := objKey index.toNat sub.toNat
    firstAbort [u.lifecycleCheck r.via false index.toNat sub.toNat 0 0, u.roleCheck c.role false index.toNat sub.toNat 0,
      u.powerCheck, u.readyCheck false index.toNat, u.readFault k] = none →
    exec i s = .next (Claims.finished s r (let w := u.activity.readEffect k
      w.answer c ([0#8, 0#8] ++ leBytes 2 index.toNat ++ [sub, byteOf (typeCodeOf index.toNat sub.toNat)]
        ++ w.viewBytes c index.toNat sub.toNat)))) ∧
  (∀ w : State, ∃ v, (w.readEffect Obj.debugChallenge).sec.challenge = some (v, w.now) ∧
    (w.readEffect Obj.debugChallenge).get Obj.debugChallenge = v) ∧
  (∀ (r : ReqCtx) (index : BitVec 16) (sub type : Byte) (value : Bytes) (d : ObjDef) s b c u,
    Claims.Served (.write r index sub type value) s r b c u →
    let k := objKey index.toNat sub.toNat
    findObj index.toNat sub.toNat = some d → d.acc = .rw → type = byteOf d.ty.code → k ≠ Obj.powerStateRequest →
    Claims.writeFault c u k (leNat value) value.length = none →
    (u.eng.commit = none → exec (.write r index sub type value) s = .next (Claims.finished s r
      (u.activity.tryCommit c (.write index.toNat sub.toNat) none [(k, storedValue d (leNat value))] b))) ∧
    (u.eng.commit.isSome → u.eng.waiting = none → exec (.write r index sub type value) s = .next (Claims.finished s r
      ({ u.activity with eng.waiting := some ⟨{ c with deferred := true }, none, b, 0, u.now, true⟩ }.abort c b
        (0x0A, 0)))) ∧
    (u.eng.commit.isSome → u.eng.waiting.isSome → exec (.write r index sub type value) s = .next (Claims.finished s r
      (u.activity.abort c b (9, 0xFB))))) ∧
  (∀ (w : State) (c : Caller) (form : ReplyForm) (st : Option StageId) (es : List (Nat × Nat)) (b : Bytes),
    let stored := es.filter (fun e => isPersistentRw e.1)
    w.transition = none → w.powerCheck = none → w.cfg.writeFailed = false → firstFailure es (w.allChecks es) = none →
    (∀ e ∈ es, w.readyCheck true (e.1 / 256) = none ∧ w.precondition e.1 e.2 = none) → stored ≠ [] →
    let t := w.tryCommit c form st es b
    t.cfg.journal = stored ∧ t.cfg.marker = false ∧ t.get Obj.dictCommitState = 1 ∧
      t.eng.commit.any (fun x => !x.journalled && x.total == es.length && x.persistent == stored) = true) ∧
  (∀ (r : ReqCtx) (index : BitVec 16) (sub type : Byte) (value : Bytes) (d : ObjDef) (who : StageId) s b c u,
    Claims.Served (.stagedWrite r index sub type value) s r b c u →
    let k := objKey index.toNat sub.toNat
    findObj index.toNat sub.toNat = some d → type = byteOf d.ty.code → stageable d k = true → u.stageId c = some who →
    firstAbort [u.lifecycleCheck r.via true index.toNat sub.toNat (leNat value) value.length,
      u.roleCheck c.role true index.toNat sub.toNat (leNat value), u.powerCheck, u.readyCheck true index.toNat,
      u.writeValueCheck index.toNat sub.toNat d.ty.code value.length (leNat value),
      u.activity.precondition k (leNat value), u.activity.heldCheck c [(k, leNat value)]] = none →
    let es := putEntry (u.stageOf who) k (storedValue d (leNat value))
    es.length ≤ 64 → stageBytes es ≤ 2048 →
    exec (.stagedWrite r index sub type value) s = .next (Claims.finished s r
      (((u.activity.setStage who es).arm (.stage who) (1000000 * u.get Obj.configStageTimeout)).answer c
        (writeReply index.toNat sub.toNat)))) ∧
  (∀ (w : State) (who : StageId) (es : List (Nat × Nat)), (w.setStage who es).stageOf who = es) ∧
  (∀ (r : ReqCtx) (who : StageId) s b c u, u.stageId c = some who → u.invalidCheck = none →
    u.needRole c.role 0 = none → u.powerCheck = none → u.readyCheck true 0x7210 = none →
    (Claims.Served (.discard r) s r b c u → exec (.discard r) s = .next (Claims.finished s r
      (((u.activity.setStage who []).disarm (.stage who)).answer c [0#8, 0#8, byteOf (u.stageOf who).length, 0#8]))) ∧
    (Claims.Served (.commit r) s r b c u → u.transCheck = none → u.eng.commit = none →
      exec (.commit r) s = .next (Claims.finished s r (
        let w := if (u.stageOf who).isEmpty then u.activity
          else u.activity.arm (.stage who) (1000000 * u.get Obj.configStageTimeout)
        w.tryCommit c .commit (some who) (u.stageOf who) b)))) ∧
  (∀ (r : ReqCtx) s b c u, Claims.Served (.restoreDefaults r) s r b c u →
    Claims.writeFault c u Obj.configRestoreDefaults 0xDEF0 (objSize Obj.configRestoreDefaults) = none →
    u.activity.heldCheck c u.activity.restoreEntries = none → u.eng.commit = none →
    exec (.restoreDefaults r) s = .next (Claims.finished s r
      (u.activity.tryCommit c (.write (Obj.configRestoreDefaults / 256) (Obj.configRestoreDefaults % 256)) none u.activity.restoreEntries b))) ∧
  (∀ (r : ReqCtx) (ch : Fin 4), Claims.Commits (.marginHigh r ch) (Obj.marginCommand ch.val) 1 ∧
    Claims.Commits (.marginLow r ch) (Obj.marginCommand ch.val) 2 ∧
    Claims.Commits (.marginNominal r ch) (Obj.marginCommand ch.val) 0) ∧
  (∀ (r : ReqCtx) (index : BitVec 16) (sub : Byte) (whole : Bool) (offset : BitVec 32) (n : BitVec 16) s b c u,
    Claims.Served (.blockRead r index sub whole offset n) s r b c u →
    let ix := index.toNat
    let rs := if whole ∧ ix ≠ 0x1800 then 0 else if whole then 2 else sub.toNat
    let k := objKey ix (if whole then 0 else sub.toNat)
    firstAbort [u.lifecycleCheck r.via false ix rs 0 0, u.roleCheck c.role false ix rs 0, u.powerCheck,
      u.readyCheck false ix] = none → 
    (k = Obj.debugChallenge ∨ (whole = true ∧ ix = Obj.debugChallenge / 256) → u.sec.entropyFailed = false) →
    1 ≤ n.toNat → n.toNat ≤ 896 →
    (offset = 0 → exec (.blockRead r index sub whole offset n) s = .next (Claims.finished s r (
      let w := if whole then u.activity.readIndexEffect ix else u.activity.readEffect k
      let data := if whole then w.wholeIndex c ix else w.blockBytes c ix sub.toNat
      w.sendBlock c ⟨reqPeer r, ix, sub.toNat, whole, 0, data.length, data⟩ n.toNat))) ∧
    (∀ x, offset ≠ 0 → u.blockOf false (reqPeer r) = some x → x.total ≠ 0 → x.index = ix → x.sub = sub.toNat →
      x.whole = whole → x.next = offset.toNat → exec (.blockRead r index sub whole offset n) s = .next (Claims.finished s r
        (u.activity.sendBlock c x n.toNat)))) ∧
  (∀ (r : ReqCtx) (index : BitVec 16) (sub : Byte) (final : Bool) (offset total : BitVec 32) (data : Bytes) s b c u,
    Claims.Served (.blockWrite r index sub final offset total data) s r b c u →
    let ix := index.toNat
    firstAbort [u.lifecycleCheck r.via true ix sub.toNat (leNat data) total.toNat,
      u.roleCheck c.role true ix sub.toNat (leNat data), u.powerCheck, u.transCheck, u.readyCheck true ix] = none →
    objKey ix sub.toNat ≠ Obj.updateData → u.segmentCheck c ix sub.toNat total.toNat = none →
    u.blockOf true (reqPeer r) = none → offset = 0 → total.toNat ≤ 2048 →
    (final = false → data.length ≤ total.toNat →
      exec (.blockWrite r index sub final offset total data) s = .next (Claims.finished s r
        ((u.activity.setBlock true (reqPeer r)
          (some ⟨reqPeer r, ix, sub.toNat, false, data.length, total.toNat, data⟩)).answer c
          (writeReply ix sub.toNat ++ leBytes 4 data.length)))) ∧
    (final = true → data.length = total.toNat →
      exec (.blockWrite r index sub final offset total data) s = .next (Claims.finished s r
        ((u.activity.setBlock true (reqPeer r) none).serveWrite { c with aux := total.toNat }
          (writeBody ix sub.toNat data))))) ∧
  (∀ (r : ReqCtx) (offset total : BitVec 32) (data : Bytes) s b c u,
    Claims.Served (.updateData r offset total data) s r b c u →
    firstAbort [u.lifecycleCheck r.via true 0x9000 4 (leNat data) total.toNat, u.roleCheck c.role true 0x9000 4 (leNat data),
      u.powerCheck, u.transCheck, u.readyCheck true 0x9000] = none →
    u.get Obj.updateState = 1 → offset.toNat = u.get Obj.updateReceived → offset.toNat + data.length ≤ u.upd.length →
    exec (.updateData r offset total data) s = .next (Claims.finished s r (
      let w := u.activity.post .derived 0x08 (framesOf (b.length + if c.dest.session.isSome then 14 else 0))
        (.raw (leBytes 4 offset.toNat))
      let w := { w with upd.segments := w.upd.segments ++ [(⟨some c, offset.toNat, data, false⟩ : Seg)] }
      (w.set Obj.updateReceived (offset.toNat + data.length)).arm (.defer (reqPeer r) r.tid.toNat) 10000)))

/-- A head-end's TimeSet pairs its time with the operating seconds, is recorded and answered with them; a broadcast
one sets the anchor alike. The unit that an Assign names tries the commit of its address and segments. GetStatus
answers the bridge's status and Ping the HopCount it came with; SetRoutes and SetForwarding try the commit of the
routes and of Bridge.Enable. At the host port all six end with abort 0x07, reason 5 (the model's choice of code, log
entry 55). -/
def Obligations.BridgeAddressAndTime : Prop :=
  (∀ (r : ReqCtx) (broadcast : Bool) (utc : BitVec 64) (micros : BitVec 32) (source : Byte) s b c u,
    Claims.Served (.timeSet r broadcast utc micros source) s r b c u →
    256 ≤ reqPeer r → u.invalidCheck = none → u.powerCheck = none → micros.toNat ≤ 999999 → source.toNat ≤ 2 →
    exec (.timeSet r broadcast utc micros source) s = .next (Claims.finished s r (
      let a := leBytes 8 utc.toNat ++ leBytes 4 micros.toNat ++ leBytes 4 u.opSeconds
        ++ [source, if c.role.any (fun n => decide (1 ≤ n)) then 1#8 else 0#8] ++ leBytes 2 (reqPeer r) ++ [0#8, 0#8, 0#8, 0#8]
      let w := (u.activity.set Obj.fieldTimeAnchor (leNat a)).log .vintner 0x8201 0 31 (a.take 16)
      w.answer c ([0#8, 0#8] ++ leBytes 4 u.opSeconds)))) ∧
  (∀ (r : ReqCtx) (utc : BitVec 64) (micros : BitVec 32) (source : Byte) (s : State),
    r.wf = true → r.via ≠ .host → r.trailer = none → r.prio = 2 → s.portUp (viaPort r.via) = true → s.vintServes = true →
    s.field.effective ≠ 0xFFFF → s.field.effective ≠ r.src.toNat → 256 ≤ r.src.toNat → s.bridges = false →
    s.groupFrom r.src.toNat = none → (∀ x ∈ s.field.retx, x.src = r.src.toNat → x.tid ≠ r.tid.toNat) → 1 ≤ s.credits (intakeQueue r.via 9) → s.lifecycle ≠ 4 →
    s.running = true → micros.toNat ≤ 999999 → source.toNat ≤ 2 →
    Claims.Answers (.timeSet r true utc micros source) s (fun t => t.get Obj.fieldTimeAnchor =
      leNat (leBytes 8 utc.toNat ++ leBytes 4 micros.toNat ++ leBytes 4 s.opSeconds ++ [source, 0#8]
        ++ leBytes 2 r.src.toNat ++ [0#8, 0#8, 0#8, 0#8]))) ∧
  (∀ (r : ReqCtx) (a : BitVec 16) (serial : BitVec 64) (segA segB : Byte) s b c u,
    Claims.Served (.assign r a serial segA segB) s r b c u →
    let es := [(Obj.fieldNodeAddress, a.toNat), (Obj.fieldSegmentA, segA.toNat), (Obj.fieldSegmentB, segB.toNat)]
    leBytes 8 serial.toNat = u.serial → u.invalidCheck = none →
    (u.field.effective = 0xFFFF ∨ u.needRole c.role 2 = none) → u.powerCheck = none → u.transCheck = none →
    u.readyCheck true 0x1100 = none → a.toNat ≤ 255 → u.assignFault c es = none → u.eng.commit = none →
    exec (.assign r a serial segA segB) s = .next (Claims.finished s r
      (u.activity.tryCommit c (.assign a.toNat) none es b))) ∧
  (∀ (r : ReqCtx) (a : BitVec 16) (serial : BitVec 64) (segA segB : Byte) s b u raw,
    Claims.message (.assign r a serial segA segB) = some (r, 10, 0, b) → Claims.received s r 10 0 b = some (u, raw) →
    leBytes 8 serial.toNat ≠ s.serial → exec (.assign r a serial segA segB) s = .next u) ∧
  (∀ (r : ReqCtx) (hop : Byte) s b c u, u.invalidCheck = none → u.needRole c.role 0 = none → u.powerCheck = none →
    u.readyCheck false 0x1120 = none →
    (Claims.Served (.getStatus r) s r b c u → exec (.getStatus r) s = .next (Claims.finished s r
      (u.activity.answer c ([0#8, 0#8, 1#8, 0#8] ++ u.activity.bridgeStatus)))) ∧
    (Claims.Served (.ping r hop) s r b c u → exec (.ping r hop) s = .next (Claims.finished s r
      (u.activity.answer c [0#8, 0#8, 4#8, 0#8, hop])))) ∧
  (∀ (r : ReqCtx) (start count : BitVec 16) (codes : Bytes) (enable : Byte) s b c u, u.invalidCheck = none →
    u.needRole c.role 2 = none → u.powerCheck = none → u.transCheck = none → u.readyCheck true 0x1120 = none →
    u.eng.commit = none →
    (Claims.Served (.setRoutes r start count codes) s r b c u → routesFault start.toNat count.toNat codes = none →
      let e := (Obj.bridgeRoute, u.routesWith start.toNat codes)
      u.heldCheck c [e] = none → exec (.setRoutes r start count codes) s = .next (Claims.finished s r
        (u.activity.tryCommit c (.bridge 2) none [e] b))) ∧
    (Claims.Served (.setForwarding r enable) s r b c u → enable.toNat ≤ 1 →
      u.heldCheck c [(Obj.bridgeEnable, enable.toNat)] = none →
      exec (.setForwarding r enable) s = .next (Claims.finished s r
        (u.activity.tryCommit c (.bridge 3) none [(Obj.bridgeEnable, enable.toNat)] b)))) ∧
  (∀ (i : Instr) (r : ReqCtx) (svc aux : Nat) (b : Bytes) (s : State),
    Claims.message i = some (r, svc, aux, b) → r.via = .host → 9 ≤ svc → svc ≤ 11 → s.vintServes = true →
    exec i s = .next (s.abort (callerOf r svc aux) (reqMessage r b) (7, s.lifecycle * 32 + 5)))
end

