-- ==== Sys2Proof/Laws/State.lean ====
section
/-!
SUPPORT. The fields of State under each named update, one lemma per field: what an update does not name it leaves as it
was.
-/

namespace Sys2Proof.Machine

open Sys2Proof

variable (s : State)

/-! ## When a dictionary register is written -/

@[simp] theorem State.set_pending (k v : Nat) : (s.set k v).pending = s.pending := rfl
@[simp] theorem State.set_time (k v : Nat) : (s.set k v).time = s.time := rfl
@[simp] theorem State.set_timers (k v : Nat) : (s.set k v).timers = s.timers := rfl
@[simp] theorem State.set_cfg (k v : Nat) : (s.set k v).cfg = s.cfg := rfl
@[simp] theorem State.set_pins (k v : Nat) : (s.set k v).pins = s.pins := rfl
@[simp] theorem State.set_power (k v : Nat) : (s.set k v).power = s.power := rfl
@[simp] theorem State.set_wd (k v : Nat) : (s.set k v).wd = s.wd := rfl
@[simp] theorem State.set_sec (k v : Nat) : (s.set k v).sec = s.sec := rfl
@[simp] theorem State.set_boot (k v : Nat) : (s.set k v).boot = s.boot := rfl
@[simp] theorem State.set_eng (k v : Nat) : (s.set k v).eng = s.eng := rfl
@[simp] theorem State.set_blockReads (k v : Nat) : (s.set k v).blockReads = s.blockReads := rfl
@[simp] theorem State.set_blockWrites (k v : Nat) : (s.set k v).blockWrites = s.blockWrites := rfl
@[simp] theorem State.set_upd (k v : Nat) : (s.set k v).upd = s.upd := rfl
@[simp] theorem State.set_field (k v : Nat) : (s.set k v).field = s.field := rfl
@[simp] theorem State.set_hp (k v : Nat) : (s.set k v).hp = s.hp := rfl
@[simp] theorem State.set_q (k v : Nat) : (s.set k v).q = s.q := rfl
@[simp] theorem State.set_cask (k v : Nat) : (s.set k v).cask = s.cask := rfl
@[simp] theorem State.set_mems (k v : Nat) : (s.set k v).mems = s.mems := rfl
@[simp] theorem State.set_rail (k v : Nat) : (s.set k v).rail = s.rail := rfl
@[simp] theorem State.set_margin (k v : Nat) : (s.set k v).margin = s.margin := rfl
@[simp] theorem State.set_paths (k v : Nat) : (s.set k v).paths = s.paths := rfl
@[simp] theorem State.set_loops (k v : Nat) : (s.set k v).loops = s.loops := rfl
@[simp] theorem State.set_conv (k v : Nat) : (s.set k v).conv = s.conv := rfl
@[simp] theorem State.set_fe (k v : Nat) : (s.set k v).fe = s.fe := rfl
@[simp] theorem State.set_le (k v : Nat) : (s.set k v).le = s.le := rfl
@[simp] theorem State.set_net (k v : Nat) : (s.set k v).net = s.net := rfl
@[simp] theorem State.set_pa (k v : Nat) : (s.set k v).pa = s.pa := rfl
@[simp] theorem State.set_feed (k v : Nat) : (s.set k v).feed = s.feed := rfl
@[simp] theorem State.set_hkb (k v : Nat) : (s.set k v).hkb = s.hkb := rfl
@[simp] theorem State.set_tiu (k v : Nat) : (s.set k v).tiu = s.tiu := rfl
@[simp] theorem State.set_lid (k v : Nat) : (s.set k v).lid = s.lid := rfl
@[simp] theorem State.set_twin (k v : Nat) : (s.set k v).twin = s.twin := rfl
@[simp] theorem State.set_free (k v : Nat) : (s.set k v).free = s.free := rfl

/-! ## When a signed register is written -/

@[simp] theorem State.setI_pending (k : Nat) (i : Int) : (s.setI k i).pending = s.pending := rfl
@[simp] theorem State.setI_time (k : Nat) (i : Int) : (s.setI k i).time = s.time := rfl
@[simp] theorem State.setI_timers (k : Nat) (i : Int) : (s.setI k i).timers = s.timers := rfl
@[simp] theorem State.setI_cfg (k : Nat) (i : Int) : (s.setI k i).cfg = s.cfg := rfl
@[simp] theorem State.setI_pins (k : Nat) (i : Int) : (s.setI k i).pins = s.pins := rfl
@[simp] theorem State.setI_power (k : Nat) (i : Int) : (s.setI k i).power = s.power := rfl
@[simp] theorem State.setI_wd (k : Nat) (i : Int) : (s.setI k i).wd = s.wd := rfl
@[simp] theorem State.setI_sec (k : Nat) (i : Int) : (s.setI k i).sec = s.sec := rfl
@[simp] theorem State.setI_boot (k : Nat) (i : Int) : (s.setI k i).boot = s.boot := rfl
@[simp] theorem State.setI_eng (k : Nat) (i : Int) : (s.setI k i).eng = s.eng := rfl
@[simp] theorem State.setI_blockReads (k : Nat) (i : Int) : (s.setI k i).blockReads = s.blockReads := rfl
@[simp] theorem State.setI_blockWrites (k : Nat) (i : Int) : (s.setI k i).blockWrites = s.blockWrites := rfl
@[simp] theorem State.setI_upd (k : Nat) (i : Int) : (s.setI k i).upd = s.upd := rfl
@[simp] theorem State.setI_field (k : Nat) (i : Int) : (s.setI k i).field = s.field := rfl
@[simp] theorem State.setI_hp (k : Nat) (i : Int) : (s.setI k i).hp = s.hp := rfl
@[simp] theorem State.setI_q (k : Nat) (i : Int) : (s.setI k i).q = s.q := rfl
@[simp] theorem State.setI_cask (k : Nat) (i : Int) : (s.setI k i).cask = s.cask := rfl
@[simp] theorem State.setI_mems (k : Nat) (i : Int) : (s.setI k i).mems = s.mems := rfl
@[simp] theorem State.setI_rail (k : Nat) (i : Int) : (s.setI k i).rail = s.rail := rfl
@[simp] theorem State.setI_margin (k : Nat) (i : Int) : (s.setI k i).margin = s.margin := rfl
@[simp] theorem State.setI_paths (k : Nat) (i : Int) : (s.setI k i).paths = s.paths := rfl
@[simp] theorem State.setI_loops (k : Nat) (i : Int) : (s.setI k i).loops = s.loops := rfl
@[simp] theorem State.setI_conv (k : Nat) (i : Int) : (s.setI k i).conv = s.conv := rfl
@[simp] theorem State.setI_fe (k : Nat) (i : Int) : (s.setI k i).fe = s.fe := rfl
@[simp] theorem State.setI_le (k : Nat) (i : Int) : (s.setI k i).le = s.le := rfl
@[simp] theorem State.setI_net (k : Nat) (i : Int) : (s.setI k i).net = s.net := rfl
@[simp] theorem State.setI_pa (k : Nat) (i : Int) : (s.setI k i).pa = s.pa := rfl
@[simp] theorem State.setI_feed (k : Nat) (i : Int) : (s.setI k i).feed = s.feed := rfl
@[simp] theorem State.setI_hkb (k : Nat) (i : Int) : (s.setI k i).hkb = s.hkb := rfl
@[simp] theorem State.setI_tiu (k : Nat) (i : Int) : (s.setI k i).tiu = s.tiu := rfl
@[simp] theorem State.setI_lid (k : Nat) (i : Int) : (s.setI k i).lid = s.lid := rfl
@[simp] theorem State.setI_twin (k : Nat) (i : Int) : (s.setI k i).twin = s.twin := rfl
@[simp] theorem State.setI_free (k : Nat) (i : Int) : (s.setI k i).free = s.free := rfl

/-! ## When a counter rises -/

@[simp] theorem State.bump_pending (k n : Nat) : (s.bump k n).pending = s.pending := rfl
@[simp] theorem State.bump_time (k n : Nat) : (s.bump k n).time = s.time := rfl
@[simp] theorem State.bump_timers (k n : Nat) : (s.bump k n).timers = s.timers := rfl
@[simp] theorem State.bump_cfg (k n : Nat) : (s.bump k n).cfg = s.cfg := rfl
@[simp] theorem State.bump_pins (k n : Nat) : (s.bump k n).pins = s.pins := rfl
@[simp] theorem State.bump_power (k n : Nat) : (s.bump k n).power = s.power := rfl
@[simp] theorem State.bump_wd (k n : Nat) : (s.bump k n).wd = s.wd := rfl
@[simp] theorem State.bump_sec (k n : Nat) : (s.bump k n).sec = s.sec := rfl
@[simp] theorem State.bump_boot (k n : Nat) : (s.bump k n).boot = s.boot := rfl
@[simp] theorem State.bump_eng (k n : Nat) : (s.bump k n).eng = s.eng := rfl
@[simp] theorem State.bump_blockReads (k n : Nat) : (s.bump k n).blockReads = s.blockReads := rfl
@[simp] theorem State.bump_blockWrites (k n : Nat) : (s.bump k n).blockWrites = s.blockWrites := rfl
@[simp] theorem State.bump_upd (k n : Nat) : (s.bump k n).upd = s.upd := rfl
@[simp] theorem State.bump_field (k n : Nat) : (s.bump k n).field = s.field := rfl
@[simp] theorem State.bump_hp (k n : Nat) : (s.bump k n).hp = s.hp := rfl
@[simp] theorem State.bump_q (k n : Nat) : (s.bump k n).q = s.q := rfl
@[simp] theorem State.bump_cask (k n : Nat) : (s.bump k n).cask = s.cask := rfl
@[simp] theorem State.bump_mems (k n : Nat) : (s.bump k n).mems = s.mems := rfl
@[simp] theorem State.bump_rail (k n : Nat) : (s.bump k n).rail = s.rail := rfl
@[simp] theorem State.bump_margin (k n : Nat) : (s.bump k n).margin = s.margin := rfl
@[simp] theorem State.bump_paths (k n : Nat) : (s.bump k n).paths = s.paths := rfl
@[simp] theorem State.bump_loops (k n : Nat) : (s.bump k n).loops = s.loops := rfl
@[simp] theorem State.bump_conv (k n : Nat) : (s.bump k n).conv = s.conv := rfl
@[simp] theorem State.bump_fe (k n : Nat) : (s.bump k n).fe = s.fe := rfl
@[simp] theorem State.bump_le (k n : Nat) : (s.bump k n).le = s.le := rfl
@[simp] theorem State.bump_net (k n : Nat) : (s.bump k n).net = s.net := rfl
@[simp] theorem State.bump_pa (k n : Nat) : (s.bump k n).pa = s.pa := rfl
@[simp] theorem State.bump_feed (k n : Nat) : (s.bump k n).feed = s.feed := rfl
@[simp] theorem State.bump_hkb (k n : Nat) : (s.bump k n).hkb = s.hkb := rfl
@[simp] theorem State.bump_tiu (k n : Nat) : (s.bump k n).tiu = s.tiu := rfl
@[simp] theorem State.bump_lid (k n : Nat) : (s.bump k n).lid = s.lid := rfl
@[simp] theorem State.bump_twin (k n : Nat) : (s.bump k n).twin = s.twin := rfl
@[simp] theorem State.bump_free (k n : Nat) : (s.bump k n).free = s.free := rfl

/-! ## When a timer starts -/

@[simp] theorem State.arm_pending (t : TimerId) (us : Nat) : (s.arm t us).pending = s.pending := rfl
@[simp] theorem State.arm_time (t : TimerId) (us : Nat) : (s.arm t us).time = s.time := rfl
@[simp] theorem State.arm_dict (t : TimerId) (us : Nat) : (s.arm t us).dict = s.dict := rfl
@[simp] theorem State.arm_cfg (t : TimerId) (us : Nat) : (s.arm t us).cfg = s.cfg := rfl
@[simp] theorem State.arm_pins (t : TimerId) (us : Nat) : (s.arm t us).pins = s.pins := rfl
@[simp] theorem State.arm_power (t : TimerId) (us : Nat) : (s.arm t us).power = s.power := rfl
@[simp] theorem State.arm_wd (t : TimerId) (us : Nat) : (s.arm t us).wd = s.wd := rfl
@[simp] theorem State.arm_sec (t : TimerId) (us : Nat) : (s.arm t us).sec = s.sec := rfl
@[simp] theorem State.arm_boot (t : TimerId) (us : Nat) : (s.arm t us).boot = s.boot := rfl
@[simp] theorem State.arm_eng (t : TimerId) (us : Nat) : (s.arm t us).eng = s.eng := rfl
@[simp] theorem State.arm_blockReads (t : TimerId) (us : Nat) : (s.arm t us).blockReads = s.blockReads := rfl
@[simp] theorem State.arm_blockWrites (t : TimerId) (us : Nat) : (s.arm t us).blockWrites = s.blockWrites := rfl
@[simp] theorem State.arm_upd (t : TimerId) (us : Nat) : (s.arm t us).upd = s.upd := rfl
@[simp] theorem State.arm_field (t : TimerId) (us : Nat) : (s.arm t us).field = s.field := rfl
@[simp] theorem State.arm_hp (t : TimerId) (us : Nat) : (s.arm t us).hp = s.hp := rfl
@[simp] theorem State.arm_q (t : TimerId) (us : Nat) : (s.arm t us).q = s.q := rfl
@[simp] theorem State.arm_cask (t : TimerId) (us : Nat) : (s.arm t us).cask = s.cask := rfl
@[simp] theorem State.arm_mems (t : TimerId) (us : Nat) : (s.arm t us).mems = s.mems := rfl
@[simp] theorem State.arm_rail (t : TimerId) (us : Nat) : (s.arm t us).rail = s.rail := rfl
@[simp] theorem State.arm_margin (t : TimerId) (us : Nat) : (s.arm t us).margin = s.margin := rfl
@[simp] theorem State.arm_paths (t : TimerId) (us : Nat) : (s.arm t us).paths = s.paths := rfl
@[simp] theorem State.arm_loops (t : TimerId) (us : Nat) : (s.arm t us).loops = s.loops := rfl
@[simp] theorem State.arm_conv (t : TimerId) (us : Nat) : (s.arm t us).conv = s.conv := rfl
@[simp] theorem State.arm_fe (t : TimerId) (us : Nat) : (s.arm t us).fe = s.fe := rfl
@[simp] theorem State.arm_le (t : TimerId) (us : Nat) : (s.arm t us).le = s.le := rfl
@[simp] theorem State.arm_net (t : TimerId) (us : Nat) : (s.arm t us).net = s.net := rfl
@[simp] theorem State.arm_pa (t : TimerId) (us : Nat) : (s.arm t us).pa = s.pa := rfl
@[simp] theorem State.arm_feed (t : TimerId) (us : Nat) : (s.arm t us).feed = s.feed := rfl
@[simp] theorem State.arm_hkb (t : TimerId) (us : Nat) : (s.arm t us).hkb = s.hkb := rfl
@[simp] theorem State.arm_tiu (t : TimerId) (us : Nat) : (s.arm t us).tiu = s.tiu := rfl
@[simp] theorem State.arm_lid (t : TimerId) (us : Nat) : (s.arm t us).lid = s.lid := rfl
@[simp] theorem State.arm_twin (t : TimerId) (us : Nat) : (s.arm t us).twin = s.twin := rfl
@[simp] theorem State.arm_free (t : TimerId) (us : Nat) : (s.arm t us).free = s.free := rfl

/-! ## When a timer stops -/

@[simp] theorem State.disarm_pending (t : TimerId) : (s.disarm t).pending = s.pending := rfl
@[simp] theorem State.disarm_time (t : TimerId) : (s.disarm t).time = s.time := rfl
@[simp] theorem State.disarm_dict (t : TimerId) : (s.disarm t).dict = s.dict := rfl
@[simp] theorem State.disarm_cfg (t : TimerId) : (s.disarm t).cfg = s.cfg := rfl
@[simp] theorem State.disarm_pins (t : TimerId) : (s.disarm t).pins = s.pins := rfl
@[simp] theorem State.disarm_power (t : TimerId) : (s.disarm t).power = s.power := rfl
@[simp] theorem State.disarm_wd (t : TimerId) : (s.disarm t).wd = s.wd := rfl
@[simp] theorem State.disarm_sec (t : TimerId) : (s.disarm t).sec = s.sec := rfl
@[simp] theorem State.disarm_boot (t : TimerId) : (s.disarm t).boot = s.boot := rfl
@[simp] theorem State.disarm_eng (t : TimerId) : (s.disarm t).eng = s.eng := rfl
@[simp] theorem State.disarm_blockReads (t : TimerId) : (s.disarm t).blockReads = s.blockReads := rfl
@[simp] theorem State.disarm_blockWrites (t : TimerId) : (s.disarm t).blockWrites = s.blockWrites := rfl
@[simp] theorem State.disarm_upd (t : TimerId) : (s.disarm t).upd = s.upd := rfl
@[simp] theorem State.disarm_field (t : TimerId) : (s.disarm t).field = s.field := rfl
@[simp] theorem State.disarm_hp (t : TimerId) : (s.disarm t).hp = s.hp := rfl
@[simp] theorem State.disarm_q (t : TimerId) : (s.disarm t).q = s.q := rfl
@[simp] theorem State.disarm_cask (t : TimerId) : (s.disarm t).cask = s.cask := rfl
@[simp] theorem State.disarm_mems (t : TimerId) : (s.disarm t).mems = s.mems := rfl
@[simp] theorem State.disarm_rail (t : TimerId) : (s.disarm t).rail = s.rail := rfl
@[simp] theorem State.disarm_margin (t : TimerId) : (s.disarm t).margin = s.margin := rfl
@[simp] theorem State.disarm_paths (t : TimerId) : (s.disarm t).paths = s.paths := rfl
@[simp] theorem State.disarm_loops (t : TimerId) : (s.disarm t).loops = s.loops := rfl
@[simp] theorem State.disarm_conv (t : TimerId) : (s.disarm t).conv = s.conv := rfl
@[simp] theorem State.disarm_fe (t : TimerId) : (s.disarm t).fe = s.fe := rfl
@[simp] theorem State.disarm_le (t : TimerId) : (s.disarm t).le = s.le := rfl
@[simp] theorem State.disarm_net (t : TimerId) : (s.disarm t).net = s.net := rfl
@[simp] theorem State.disarm_pa (t : TimerId) : (s.disarm t).pa = s.pa := rfl
@[simp] theorem State.disarm_feed (t : TimerId) : (s.disarm t).feed = s.feed := rfl
@[simp] theorem State.disarm_hkb (t : TimerId) : (s.disarm t).hkb = s.hkb := rfl
@[simp] theorem State.disarm_tiu (t : TimerId) : (s.disarm t).tiu = s.tiu := rfl
@[simp] theorem State.disarm_lid (t : TimerId) : (s.disarm t).lid = s.lid := rfl
@[simp] theorem State.disarm_twin (t : TimerId) : (s.disarm t).twin = s.twin := rfl
@[simp] theorem State.disarm_free (t : TimerId) : (s.disarm t).free = s.free := rfl

/-! ## When a path is replaced -/

@[simp] theorem State.setPath_pending (p : Nat) (r : PathRun) : (s.setPath p r).pending = s.pending := rfl
@[simp] theorem State.setPath_time (p : Nat) (r : PathRun) : (s.setPath p r).time = s.time := rfl
@[simp] theorem State.setPath_timers (p : Nat) (r : PathRun) : (s.setPath p r).timers = s.timers := rfl
@[simp] theorem State.setPath_dict (p : Nat) (r : PathRun) : (s.setPath p r).dict = s.dict := rfl
@[simp] theorem State.setPath_cfg (p : Nat) (r : PathRun) : (s.setPath p r).cfg = s.cfg := rfl
@[simp] theorem State.setPath_pins (p : Nat) (r : PathRun) : (s.setPath p r).pins = s.pins := rfl
@[simp] theorem State.setPath_power (p : Nat) (r : PathRun) : (s.setPath p r).power = s.power := rfl
@[simp] theorem State.setPath_wd (p : Nat) (r : PathRun) : (s.setPath p r).wd = s.wd := rfl
@[simp] theorem State.setPath_sec (p : Nat) (r : PathRun) : (s.setPath p r).sec = s.sec := rfl
@[simp] theorem State.setPath_boot (p : Nat) (r : PathRun) : (s.setPath p r).boot = s.boot := rfl
@[simp] theorem State.setPath_eng (p : Nat) (r : PathRun) : (s.setPath p r).eng = s.eng := rfl
@[simp] theorem State.setPath_blockReads (p : Nat) (r : PathRun) : (s.setPath p r).blockReads = s.blockReads := rfl
@[simp] theorem State.setPath_blockWrites (p : Nat) (r : PathRun) : (s.setPath p r).blockWrites = s.blockWrites := rfl
@[simp] theorem State.setPath_upd (p : Nat) (r : PathRun) : (s.setPath p r).upd = s.upd := rfl
@[simp] theorem State.setPath_field (p : Nat) (r : PathRun) : (s.setPath p r).field = s.field := rfl
@[simp] theorem State.setPath_hp (p : Nat) (r : PathRun) : (s.setPath p r).hp = s.hp := rfl
@[simp] theorem State.setPath_q (p : Nat) (r : PathRun) : (s.setPath p r).q = s.q := rfl
@[simp] theorem State.setPath_cask (p : Nat) (r : PathRun) : (s.setPath p r).cask = s.cask := rfl
@[simp] theorem State.setPath_mems (p : Nat) (r : PathRun) : (s.setPath p r).mems = s.mems := rfl
@[simp] theorem State.setPath_rail (p : Nat) (r : PathRun) : (s.setPath p r).rail = s.rail := rfl
@[simp] theorem State.setPath_margin (p : Nat) (r : PathRun) : (s.setPath p r).margin = s.margin := rfl
@[simp] theorem State.setPath_loops (p : Nat) (r : PathRun) : (s.setPath p r).loops = s.loops := rfl
@[simp] theorem State.setPath_conv (p : Nat) (r : PathRun) : (s.setPath p r).conv = s.conv := rfl
@[simp] theorem State.setPath_fe (p : Nat) (r : PathRun) : (s.setPath p r).fe = s.fe := rfl
@[simp] theorem State.setPath_le (p : Nat) (r : PathRun) : (s.setPath p r).le = s.le := rfl
@[simp] theorem State.setPath_net (p : Nat) (r : PathRun) : (s.setPath p r).net = s.net := rfl
@[simp] theorem State.setPath_pa (p : Nat) (r : PathRun) : (s.setPath p r).pa = s.pa := rfl
@[simp] theorem State.setPath_feed (p : Nat) (r : PathRun) : (s.setPath p r).feed = s.feed := rfl
@[simp] theorem State.setPath_hkb (p : Nat) (r : PathRun) : (s.setPath p r).hkb = s.hkb := rfl
@[simp] theorem State.setPath_tiu (p : Nat) (r : PathRun) : (s.setPath p r).tiu = s.tiu := rfl
@[simp] theorem State.setPath_lid (p : Nat) (r : PathRun) : (s.setPath p r).lid = s.lid := rfl
@[simp] theorem State.setPath_twin (p : Nat) (r : PathRun) : (s.setPath p r).twin = s.twin := rfl
@[simp] theorem State.setPath_free (p : Nat) (r : PathRun) : (s.setPath p r).free = s.free := rfl

/-! ## When a lane is replaced -/

@[simp] theorem State.setLane_pending (n : Nat) (r : LaneRun) : (s.setLane n r).pending = s.pending := rfl
@[simp] theorem State.setLane_time (n : Nat) (r : LaneRun) : (s.setLane n r).time = s.time := rfl
@[simp] theorem State.setLane_timers (n : Nat) (r : LaneRun) : (s.setLane n r).timers = s.timers := rfl
@[simp] theorem State.setLane_dict (n : Nat) (r : LaneRun) : (s.setLane n r).dict = s.dict := rfl
@[simp] theorem State.setLane_cfg (n : Nat) (r : LaneRun) : (s.setLane n r).cfg = s.cfg := rfl
@[simp] theorem State.setLane_pins (n : Nat) (r : LaneRun) : (s.setLane n r).pins = s.pins := rfl
@[simp] theorem State.setLane_power (n : Nat) (r : LaneRun) : (s.setLane n r).power = s.power := rfl
@[simp] theorem State.setLane_wd (n : Nat) (r : LaneRun) : (s.setLane n r).wd = s.wd := rfl
@[simp] theorem State.setLane_sec (n : Nat) (r : LaneRun) : (s.setLane n r).sec = s.sec := rfl
@[simp] theorem State.setLane_boot (n : Nat) (r : LaneRun) : (s.setLane n r).boot = s.boot := rfl
@[simp] theorem State.setLane_eng (n : Nat) (r : LaneRun) : (s.setLane n r).eng = s.eng := rfl
@[simp] theorem State.setLane_blockReads (n : Nat) (r : LaneRun) : (s.setLane n r).blockReads = s.blockReads := rfl
@[simp] theorem State.setLane_blockWrites (n : Nat) (r : LaneRun) : (s.setLane n r).blockWrites = s.blockWrites := rfl
@[simp] theorem State.setLane_upd (n : Nat) (r : LaneRun) : (s.setLane n r).upd = s.upd := rfl
@[simp] theorem State.setLane_field (n : Nat) (r : LaneRun) : (s.setLane n r).field = s.field := rfl
@[simp] theorem State.setLane_hp (n : Nat) (r : LaneRun) : (s.setLane n r).hp = s.hp := rfl
@[simp] theorem State.setLane_q (n : Nat) (r : LaneRun) : (s.setLane n r).q = s.q := rfl
@[simp] theorem State.setLane_cask (n : Nat) (r : LaneRun) : (s.setLane n r).cask = s.cask := rfl
@[simp] theorem State.setLane_mems (n : Nat) (r : LaneRun) : (s.setLane n r).mems = s.mems := rfl
@[simp] theorem State.setLane_rail (n : Nat) (r : LaneRun) : (s.setLane n r).rail = s.rail := rfl
@[simp] theorem State.setLane_margin (n : Nat) (r : LaneRun) : (s.setLane n r).margin = s.margin := rfl
@[simp] theorem State.setLane_paths (n : Nat) (r : LaneRun) : (s.setLane n r).paths = s.paths := rfl
@[simp] theorem State.setLane_loops (n : Nat) (r : LaneRun) : (s.setLane n r).loops = s.loops := rfl
@[simp] theorem State.setLane_conv (n : Nat) (r : LaneRun) : (s.setLane n r).conv = s.conv := rfl
@[simp] theorem State.setLane_fe (n : Nat) (r : LaneRun) : (s.setLane n r).fe = s.fe := rfl
@[simp] theorem State.setLane_le (n : Nat) (r : LaneRun) : (s.setLane n r).le = s.le := rfl
@[simp] theorem State.setLane_net (n : Nat) (r : LaneRun) : (s.setLane n r).net = s.net := rfl
@[simp] theorem State.setLane_feed (n : Nat) (r : LaneRun) : (s.setLane n r).feed = s.feed := rfl
@[simp] theorem State.setLane_hkb (n : Nat) (r : LaneRun) : (s.setLane n r).hkb = s.hkb := rfl
@[simp] theorem State.setLane_tiu (n : Nat) (r : LaneRun) : (s.setLane n r).tiu = s.tiu := rfl
@[simp] theorem State.setLane_lid (n : Nat) (r : LaneRun) : (s.setLane n r).lid = s.lid := rfl
@[simp] theorem State.setLane_twin (n : Nat) (r : LaneRun) : (s.setLane n r).twin = s.twin := rfl
@[simp] theorem State.setLane_free (n : Nat) (r : LaneRun) : (s.setLane n r).free = s.free := rfl

/-! ## When a session is replaced -/

@[simp] theorem State.setSession_pending (x : Session) : (s.setSession x).pending = s.pending := rfl
@[simp] theorem State.setSession_time (x : Session) : (s.setSession x).time = s.time := rfl
@[simp] theorem State.setSession_timers (x : Session) : (s.setSession x).timers = s.timers := rfl
@[simp] theorem State.setSession_dict (x : Session) : (s.setSession x).dict = s.dict := rfl
@[simp] theorem State.setSession_cfg (x : Session) : (s.setSession x).cfg = s.cfg := rfl
@[simp] theorem State.setSession_pins (x : Session) : (s.setSession x).pins = s.pins := rfl
@[simp] theorem State.setSession_power (x : Session) : (s.setSession x).power = s.power := rfl
@[simp] theorem State.setSession_wd (x : Session) : (s.setSession x).wd = s.wd := rfl
@[simp] theorem State.setSession_boot (x : Session) : (s.setSession x).boot = s.boot := rfl
@[simp] theorem State.setSession_eng (x : Session) : (s.setSession x).eng = s.eng := rfl
@[simp] theorem State.setSession_blockReads (x : Session) : (s.setSession x).blockReads = s.blockReads := rfl
@[simp] theorem State.setSession_blockWrites (x : Session) : (s.setSession x).blockWrites = s.blockWrites := rfl
@[simp] theorem State.setSession_upd (x : Session) : (s.setSession x).upd = s.upd := rfl
@[simp] theorem State.setSession_field (x : Session) : (s.setSession x).field = s.field := rfl
@[simp] theorem State.setSession_hp (x : Session) : (s.setSession x).hp = s.hp := rfl
@[simp] theorem State.setSession_q (x : Session) : (s.setSession x).q = s.q := rfl
@[simp] theorem State.setSession_cask (x : Session) : (s.setSession x).cask = s.cask := rfl
@[simp] theorem State.setSession_mems (x : Session) : (s.setSession x).mems = s.mems := rfl
@[simp] theorem State.setSession_rail (x : Session) : (s.setSession x).rail = s.rail := rfl
@[simp] theorem State.setSession_margin (x : Session) : (s.setSession x).margin = s.margin := rfl
@[simp] theorem State.setSession_paths (x : Session) : (s.setSession x).paths = s.paths := rfl
@[simp] theorem State.setSession_loops (x : Session) : (s.setSession x).loops = s.loops := rfl
@[simp] theorem State.setSession_conv (x : Session) : (s.setSession x).conv = s.conv := rfl
@[simp] theorem State.setSession_fe (x : Session) : (s.setSession x).fe = s.fe := rfl
@[simp] theorem State.setSession_le (x : Session) : (s.setSession x).le = s.le := rfl
@[simp] theorem State.setSession_net (x : Session) : (s.setSession x).net = s.net := rfl
@[simp] theorem State.setSession_pa (x : Session) : (s.setSession x).pa = s.pa := rfl
@[simp] theorem State.setSession_feed (x : Session) : (s.setSession x).feed = s.feed := rfl
@[simp] theorem State.setSession_hkb (x : Session) : (s.setSession x).hkb = s.hkb := rfl
@[simp] theorem State.setSession_tiu (x : Session) : (s.setSession x).tiu = s.tiu := rfl
@[simp] theorem State.setSession_lid (x : Session) : (s.setSession x).lid = s.lid := rfl
@[simp] theorem State.setSession_twin (x : Session) : (s.setSession x).twin = s.twin := rfl
@[simp] theorem State.setSession_free (x : Session) : (s.setSession x).free = s.free := rfl

/-! ## When a field of the Cask control block is written -/

@[simp] theorem State.setCtl_pending (off n v : Nat) : (s.setCtl off n v).pending = s.pending := rfl
@[simp] theorem State.setCtl_time (off n v : Nat) : (s.setCtl off n v).time = s.time := rfl
@[simp] theorem State.setCtl_timers (off n v : Nat) : (s.setCtl off n v).timers = s.timers := rfl
@[simp] theorem State.setCtl_dict (off n v : Nat) : (s.setCtl off n v).dict = s.dict := rfl
@[simp] theorem State.setCtl_cfg (off n v : Nat) : (s.setCtl off n v).cfg = s.cfg := rfl
@[simp] theorem State.setCtl_pins (off n v : Nat) : (s.setCtl off n v).pins = s.pins := rfl
@[simp] theorem State.setCtl_power (off n v : Nat) : (s.setCtl off n v).power = s.power := rfl
@[simp] theorem State.setCtl_wd (off n v : Nat) : (s.setCtl off n v).wd = s.wd := rfl
@[simp] theorem State.setCtl_sec (off n v : Nat) : (s.setCtl off n v).sec = s.sec := rfl
@[simp] theorem State.setCtl_boot (off n v : Nat) : (s.setCtl off n v).boot = s.boot := rfl
@[simp] theorem State.setCtl_eng (off n v : Nat) : (s.setCtl off n v).eng = s.eng := rfl
@[simp] theorem State.setCtl_blockReads (off n v : Nat) : (s.setCtl off n v).blockReads = s.blockReads := rfl
@[simp] theorem State.setCtl_blockWrites (off n v : Nat) : (s.setCtl off n v).blockWrites = s.blockWrites := rfl
@[simp] theorem State.setCtl_upd (off n v : Nat) : (s.setCtl off n v).upd = s.upd := rfl
@[simp] theorem State.setCtl_field (off n v : Nat) : (s.setCtl off n v).field = s.field := rfl
@[simp] theorem State.setCtl_hp (off n v : Nat) : (s.setCtl off n v).hp = s.hp := rfl
@[simp] theorem State.setCtl_q (off n v : Nat) : (s.setCtl off n v).q = s.q := rfl
@[simp] theorem State.setCtl_cask (off n v : Nat) : (s.setCtl off n v).cask = s.cask := rfl
@[simp] theorem State.setCtl_rail (off n v : Nat) : (s.setCtl off n v).rail = s.rail := rfl
@[simp] theorem State.setCtl_margin (off n v : Nat) : (s.setCtl off n v).margin = s.margin := rfl
@[simp] theorem State.setCtl_paths (off n v : Nat) : (s.setCtl off n v).paths = s.paths := rfl
@[simp] theorem State.setCtl_loops (off n v : Nat) : (s.setCtl off n v).loops = s.loops := rfl
@[simp] theorem State.setCtl_conv (off n v : Nat) : (s.setCtl off n v).conv = s.conv := rfl
@[simp] theorem State.setCtl_fe (off n v : Nat) : (s.setCtl off n v).fe = s.fe := rfl
@[simp] theorem State.setCtl_le (off n v : Nat) : (s.setCtl off n v).le = s.le := rfl
@[simp] theorem State.setCtl_net (off n v : Nat) : (s.setCtl off n v).net = s.net := rfl
@[simp] theorem State.setCtl_pa (off n v : Nat) : (s.setCtl off n v).pa = s.pa := rfl
@[simp] theorem State.setCtl_feed (off n v : Nat) : (s.setCtl off n v).feed = s.feed := rfl
@[simp] theorem State.setCtl_hkb (off n v : Nat) : (s.setCtl off n v).hkb = s.hkb := rfl
@[simp] theorem State.setCtl_tiu (off n v : Nat) : (s.setCtl off n v).tiu = s.tiu := rfl
@[simp] theorem State.setCtl_lid (off n v : Nat) : (s.setCtl off n v).lid = s.lid := rfl
@[simp] theorem State.setCtl_twin (off n v : Nat) : (s.setCtl off n v).twin = s.twin := rfl
@[simp] theorem State.setCtl_free (off n v : Nat) : (s.setCtl off n v).free = s.free := rfl

/-! ## When Cask bytes are written -/

@[simp] theorem State.setCask_pending (a : Nat) (bs : Bytes) : (s.setCask a bs).pending = s.pending := rfl
@[simp] theorem State.setCask_time (a : Nat) (bs : Bytes) : (s.setCask a bs).time = s.time := rfl
@[simp] theorem State.setCask_timers (a : Nat) (bs : Bytes) : (s.setCask a bs).timers = s.timers := rfl
@[simp] theorem State.setCask_dict (a : Nat) (bs : Bytes) : (s.setCask a bs).dict = s.dict := rfl
@[simp] theorem State.setCask_cfg (a : Nat) (bs : Bytes) : (s.setCask a bs).cfg = s.cfg := rfl
@[simp] theorem State.setCask_pins (a : Nat) (bs : Bytes) : (s.setCask a bs).pins = s.pins := rfl
@[simp] theorem State.setCask_power (a : Nat) (bs : Bytes) : (s.setCask a bs).power = s.power := rfl
@[simp] theorem State.setCask_wd (a : Nat) (bs : Bytes) : (s.setCask a bs).wd = s.wd := rfl
@[simp] theorem State.setCask_sec (a : Nat) (bs : Bytes) : (s.setCask a bs).sec = s.sec := rfl
@[simp] theorem State.setCask_boot (a : Nat) (bs : Bytes) : (s.setCask a bs).boot = s.boot := rfl
@[simp] theorem State.setCask_eng (a : Nat) (bs : Bytes) : (s.setCask a bs).eng = s.eng := rfl
@[simp] theorem State.setCask_blockReads (a : Nat) (bs : Bytes) : (s.setCask a bs).blockReads = s.blockReads := rfl
@[simp] theorem State.setCask_blockWrites (a : Nat) (bs : Bytes) : (s.setCask a bs).blockWrites = s.blockWrites := rfl
@[simp] theorem State.setCask_upd (a : Nat) (bs : Bytes) : (s.setCask a bs).upd = s.upd := rfl
@[simp] theorem State.setCask_field (a : Nat) (bs : Bytes) : (s.setCask a bs).field = s.field := rfl
@[simp] theorem State.setCask_hp (a : Nat) (bs : Bytes) : (s.setCask a bs).hp = s.hp := rfl
@[simp] theorem State.setCask_q (a : Nat) (bs : Bytes) : (s.setCask a bs).q = s.q := rfl
@[simp] theorem State.setCask_cask (a : Nat) (bs : Bytes) : (s.setCask a bs).cask = s.cask := rfl
@[simp] theorem State.setCask_rail (a : Nat) (bs : Bytes) : (s.setCask a bs).rail = s.rail := rfl
@[simp] theorem State.setCask_margin (a : Nat) (bs : Bytes) : (s.setCask a bs).margin = s.margin := rfl
@[simp] theorem State.setCask_paths (a : Nat) (bs : Bytes) : (s.setCask a bs).paths = s.paths := rfl
@[simp] theorem State.setCask_loops (a : Nat) (bs : Bytes) : (s.setCask a bs).loops = s.loops := rfl
@[simp] theorem State.setCask_conv (a : Nat) (bs : Bytes) : (s.setCask a bs).conv = s.conv := rfl
@[simp] theorem State.setCask_fe (a : Nat) (bs : Bytes) : (s.setCask a bs).fe = s.fe := rfl
@[simp] theorem State.setCask_le (a : Nat) (bs : Bytes) : (s.setCask a bs).le = s.le := rfl
@[simp] theorem State.setCask_net (a : Nat) (bs : Bytes) : (s.setCask a bs).net = s.net := rfl
@[simp] theorem State.setCask_pa (a : Nat) (bs : Bytes) : (s.setCask a bs).pa = s.pa := rfl
@[simp] theorem State.setCask_feed (a : Nat) (bs : Bytes) : (s.setCask a bs).feed = s.feed := rfl
@[simp] theorem State.setCask_hkb (a : Nat) (bs : Bytes) : (s.setCask a bs).hkb = s.hkb := rfl
@[simp] theorem State.setCask_tiu (a : Nat) (bs : Bytes) : (s.setCask a bs).tiu = s.tiu := rfl
@[simp] theorem State.setCask_lid (a : Nat) (bs : Bytes) : (s.setCask a bs).lid = s.lid := rfl
@[simp] theorem State.setCask_twin (a : Nat) (bs : Bytes) : (s.setCask a bs).twin = s.twin := rfl
@[simp] theorem State.setCask_free (a : Nat) (bs : Bytes) : (s.setCask a bs).free = s.free := rfl

/-! ## When a bit of HP_IRQ_STATUS is set -/

@[simp] theorem State.raiseIrq_pending (b : Nat) : (s.raiseIrq b).pending = s.pending := rfl
@[simp] theorem State.raiseIrq_time (b : Nat) : (s.raiseIrq b).time = s.time := rfl
@[simp] theorem State.raiseIrq_timers (b : Nat) : (s.raiseIrq b).timers = s.timers := rfl
@[simp] theorem State.raiseIrq_dict (b : Nat) : (s.raiseIrq b).dict = s.dict := rfl
@[simp] theorem State.raiseIrq_cfg (b : Nat) : (s.raiseIrq b).cfg = s.cfg := rfl
@[simp] theorem State.raiseIrq_pins (b : Nat) : (s.raiseIrq b).pins = s.pins := rfl
@[simp] theorem State.raiseIrq_power (b : Nat) : (s.raiseIrq b).power = s.power := rfl
@[simp] theorem State.raiseIrq_wd (b : Nat) : (s.raiseIrq b).wd = s.wd := rfl
@[simp] theorem State.raiseIrq_sec (b : Nat) : (s.raiseIrq b).sec = s.sec := rfl
@[simp] theorem State.raiseIrq_boot (b : Nat) : (s.raiseIrq b).boot = s.boot := rfl
@[simp] theorem State.raiseIrq_eng (b : Nat) : (s.raiseIrq b).eng = s.eng := rfl
@[simp] theorem State.raiseIrq_blockReads (b : Nat) : (s.raiseIrq b).blockReads = s.blockReads := rfl
@[simp] theorem State.raiseIrq_blockWrites (b : Nat) : (s.raiseIrq b).blockWrites = s.blockWrites := rfl
@[simp] theorem State.raiseIrq_upd (b : Nat) : (s.raiseIrq b).upd = s.upd := rfl
@[simp] theorem State.raiseIrq_field (b : Nat) : (s.raiseIrq b).field = s.field := rfl
@[simp] theorem State.raiseIrq_q (b : Nat) : (s.raiseIrq b).q = s.q := rfl
@[simp] theorem State.raiseIrq_cask (b : Nat) : (s.raiseIrq b).cask = s.cask := rfl
@[simp] theorem State.raiseIrq_mems (b : Nat) : (s.raiseIrq b).mems = s.mems := rfl
@[simp] theorem State.raiseIrq_rail (b : Nat) : (s.raiseIrq b).rail = s.rail := rfl
@[simp] theorem State.raiseIrq_margin (b : Nat) : (s.raiseIrq b).margin = s.margin := rfl
@[simp] theorem State.raiseIrq_paths (b : Nat) : (s.raiseIrq b).paths = s.paths := rfl
@[simp] theorem State.raiseIrq_loops (b : Nat) : (s.raiseIrq b).loops = s.loops := rfl
@[simp] theorem State.raiseIrq_conv (b : Nat) : (s.raiseIrq b).conv = s.conv := rfl
@[simp] theorem State.raiseIrq_fe (b : Nat) : (s.raiseIrq b).fe = s.fe := rfl
@[simp] theorem State.raiseIrq_le (b : Nat) : (s.raiseIrq b).le = s.le := rfl
@[simp] theorem State.raiseIrq_net (b : Nat) : (s.raiseIrq b).net = s.net := rfl
@[simp] theorem State.raiseIrq_pa (b : Nat) : (s.raiseIrq b).pa = s.pa := rfl
@[simp] theorem State.raiseIrq_feed (b : Nat) : (s.raiseIrq b).feed = s.feed := rfl
@[simp] theorem State.raiseIrq_hkb (b : Nat) : (s.raiseIrq b).hkb = s.hkb := rfl
@[simp] theorem State.raiseIrq_tiu (b : Nat) : (s.raiseIrq b).tiu = s.tiu := rfl
@[simp] theorem State.raiseIrq_lid (b : Nat) : (s.raiseIrq b).lid = s.lid := rfl
@[simp] theorem State.raiseIrq_twin (b : Nat) : (s.raiseIrq b).twin = s.twin := rfl
@[simp] theorem State.raiseIrq_free (b : Nat) : (s.raiseIrq b).free = s.free := rfl

/-! ## When an enable is driven -/

@[simp] theorem State.driveRail_pending (n : Nat) (b : Bool) : (s.driveRail n b).pending = s.pending := rfl
@[simp] theorem State.driveRail_time (n : Nat) (b : Bool) : (s.driveRail n b).time = s.time := rfl
@[simp] theorem State.driveRail_timers (n : Nat) (b : Bool) : (s.driveRail n b).timers = s.timers := rfl
@[simp] theorem State.driveRail_dict (n : Nat) (b : Bool) : (s.driveRail n b).dict = s.dict := rfl
@[simp] theorem State.driveRail_cfg (n : Nat) (b : Bool) : (s.driveRail n b).cfg = s.cfg := rfl
@[simp] theorem State.driveRail_power (n : Nat) (b : Bool) : (s.driveRail n b).power = s.power := rfl
@[simp] theorem State.driveRail_wd (n : Nat) (b : Bool) : (s.driveRail n b).wd = s.wd := rfl
@[simp] theorem State.driveRail_sec (n : Nat) (b : Bool) : (s.driveRail n b).sec = s.sec := rfl
@[simp] theorem State.driveRail_boot (n : Nat) (b : Bool) : (s.driveRail n b).boot = s.boot := rfl
@[simp] theorem State.driveRail_eng (n : Nat) (b : Bool) : (s.driveRail n b).eng = s.eng := rfl
@[simp] theorem State.driveRail_blockReads (n : Nat) (b : Bool) : (s.driveRail n b).blockReads = s.blockReads := rfl
@[simp] theorem State.driveRail_blockWrites (n : Nat) (b : Bool) : (s.driveRail n b).blockWrites = s.blockWrites := rfl
@[simp] theorem State.driveRail_upd (n : Nat) (b : Bool) : (s.driveRail n b).upd = s.upd := rfl
@[simp] theorem State.driveRail_field (n : Nat) (b : Bool) : (s.driveRail n b).field = s.field := rfl
@[simp] theorem State.driveRail_hp (n : Nat) (b : Bool) : (s.driveRail n b).hp = s.hp := rfl
@[simp] theorem State.driveRail_q (n : Nat) (b : Bool) : (s.driveRail n b).q = s.q := rfl
@[simp] theorem State.driveRail_cask (n : Nat) (b : Bool) : (s.driveRail n b).cask = s.cask := rfl
@[simp] theorem State.driveRail_mems (n : Nat) (b : Bool) : (s.driveRail n b).mems = s.mems := rfl
@[simp] theorem State.driveRail_rail (n : Nat) (b : Bool) : (s.driveRail n b).rail = s.rail := rfl
@[simp] theorem State.driveRail_margin (n : Nat) (b : Bool) : (s.driveRail n b).margin = s.margin := rfl
@[simp] theorem State.driveRail_paths (n : Nat) (b : Bool) : (s.driveRail n b).paths = s.paths := rfl
@[simp] theorem State.driveRail_loops (n : Nat) (b : Bool) : (s.driveRail n b).loops = s.loops := rfl
@[simp] theorem State.driveRail_conv (n : Nat) (b : Bool) : (s.driveRail n b).conv = s.conv := rfl
@[simp] theorem State.driveRail_fe (n : Nat) (b : Bool) : (s.driveRail n b).fe = s.fe := rfl
@[simp] theorem State.driveRail_le (n : Nat) (b : Bool) : (s.driveRail n b).le = s.le := rfl
@[simp] theorem State.driveRail_net (n : Nat) (b : Bool) : (s.driveRail n b).net = s.net := rfl
@[simp] theorem State.driveRail_pa (n : Nat) (b : Bool) : (s.driveRail n b).pa = s.pa := rfl
@[simp] theorem State.driveRail_feed (n : Nat) (b : Bool) : (s.driveRail n b).feed = s.feed := rfl
@[simp] theorem State.driveRail_hkb (n : Nat) (b : Bool) : (s.driveRail n b).hkb = s.hkb := rfl
@[simp] theorem State.driveRail_tiu (n : Nat) (b : Bool) : (s.driveRail n b).tiu = s.tiu := rfl
@[simp] theorem State.driveRail_lid (n : Nat) (b : Bool) : (s.driveRail n b).lid = s.lid := rfl
@[simp] theorem State.driveRail_twin (n : Nat) (b : Bool) : (s.driveRail n b).twin = s.twin := rfl
@[simp] theorem State.driveRail_free (n : Nat) (b : Bool) : (s.driveRail n b).free = s.free := rfl

/-! ## When a stage is replaced -/

@[simp] theorem State.setStage_pending (w : StageId) (es : List (Nat × Nat)) : (s.setStage w es).pending = s.pending := rfl
@[simp] theorem State.setStage_time (w : StageId) (es : List (Nat × Nat)) : (s.setStage w es).time = s.time := rfl
@[simp] theorem State.setStage_timers (w : StageId) (es : List (Nat × Nat)) : (s.setStage w es).timers = s.timers := rfl
@[simp] theorem State.setStage_dict (w : StageId) (es : List (Nat × Nat)) : (s.setStage w es).dict = s.dict := rfl
@[simp] theorem State.setStage_cfg (w : StageId) (es : List (Nat × Nat)) : (s.setStage w es).cfg = s.cfg := rfl
@[simp] theorem State.setStage_pins (w : StageId) (es : List (Nat × Nat)) : (s.setStage w es).pins = s.pins := rfl
@[simp] theorem State.setStage_power (w : StageId) (es : List (Nat × Nat)) : (s.setStage w es).power = s.power := rfl
@[simp] theorem State.setStage_wd (w : StageId) (es : List (Nat × Nat)) : (s.setStage w es).wd = s.wd := rfl
@[simp] theorem State.setStage_sec (w : StageId) (es : List (Nat × Nat)) : (s.setStage w es).sec = s.sec := rfl
@[simp] theorem State.setStage_boot (w : StageId) (es : List (Nat × Nat)) : (s.setStage w es).boot = s.boot := rfl
@[simp] theorem State.setStage_blockReads (w : StageId) (es : List (Nat × Nat)) : (s.setStage w es).blockReads = s.blockReads := rfl
@[simp] theorem State.setStage_blockWrites (w : StageId) (es : List (Nat × Nat)) : (s.setStage w es).blockWrites = s.blockWrites := rfl
@[simp] theorem State.setStage_upd (w : StageId) (es : List (Nat × Nat)) : (s.setStage w es).upd = s.upd := rfl
@[simp] theorem State.setStage_field (w : StageId) (es : List (Nat × Nat)) : (s.setStage w es).field = s.field := rfl
@[simp] theorem State.setStage_hp (w : StageId) (es : List (Nat × Nat)) : (s.setStage w es).hp = s.hp := rfl
@[simp] theorem State.setStage_q (w : StageId) (es : List (Nat × Nat)) : (s.setStage w es).q = s.q := rfl
@[simp] theorem State.setStage_cask (w : StageId) (es : List (Nat × Nat)) : (s.setStage w es).cask = s.cask := rfl
@[simp] theorem State.setStage_mems (w : StageId) (es : List (Nat × Nat)) : (s.setStage w es).mems = s.mems := rfl
@[simp] theorem State.setStage_rail (w : StageId) (es : List (Nat × Nat)) : (s.setStage w es).rail = s.rail := rfl
@[simp] theorem State.setStage_margin (w : StageId) (es : List (Nat × Nat)) : (s.setStage w es).margin = s.margin := rfl
@[simp] theorem State.setStage_paths (w : StageId) (es : List (Nat × Nat)) : (s.setStage w es).paths = s.paths := rfl
@[simp] theorem State.setStage_loops (w : StageId) (es : List (Nat × Nat)) : (s.setStage w es).loops = s.loops := rfl
@[simp] theorem State.setStage_conv (w : StageId) (es : List (Nat × Nat)) : (s.setStage w es).conv = s.conv := rfl
@[simp] theorem State.setStage_fe (w : StageId) (es : List (Nat × Nat)) : (s.setStage w es).fe = s.fe := rfl
@[simp] theorem State.setStage_le (w : StageId) (es : List (Nat × Nat)) : (s.setStage w es).le = s.le := rfl
@[simp] theorem State.setStage_net (w : StageId) (es : List (Nat × Nat)) : (s.setStage w es).net = s.net := rfl
@[simp] theorem State.setStage_pa (w : StageId) (es : List (Nat × Nat)) : (s.setStage w es).pa = s.pa := rfl
@[simp] theorem State.setStage_feed (w : StageId) (es : List (Nat × Nat)) : (s.setStage w es).feed = s.feed := rfl
@[simp] theorem State.setStage_hkb (w : StageId) (es : List (Nat × Nat)) : (s.setStage w es).hkb = s.hkb := rfl
@[simp] theorem State.setStage_tiu (w : StageId) (es : List (Nat × Nat)) : (s.setStage w es).tiu = s.tiu := rfl
@[simp] theorem State.setStage_lid (w : StageId) (es : List (Nat × Nat)) : (s.setStage w es).lid = s.lid := rfl
@[simp] theorem State.setStage_twin (w : StageId) (es : List (Nat × Nat)) : (s.setStage w es).twin = s.twin := rfl
@[simp] theorem State.setStage_free (w : StageId) (es : List (Nat × Nat)) : (s.setStage w es).free = s.free := rfl

end Sys2Proof.Machine
end

