-- ==== Sys2Proof/Laws/Ops.lean ====
section
/-!
SUPPORT. The laws of the named operations: sparse tables, dictionary registers, byte memories (read after write, and the
canonical form that every write keeps), timers and the passing of time.
-/

namespace Sys2Proof.Machine

open Sys2Proof

/-! ## Sparse tables -/

theorem lookupD_insertKey_self (l : List (Nat × Nat)) (k v d : Nat) (h : ∀ p ∈ l, p.1 ≠ k) :
    lookupD (insertKey l k v) k d = v := by
  induction l with
  | nil => simp [insertKey, lookupD]
  | cons p ps ih =>
    have hp : p.1 ≠ k := h p (by simp)
    have ht : ∀ q ∈ ps, q.1 ≠ k := fun q hq => h q (by simp [hq])
    by_cases hk : k < p.1
    · simp [insertKey, hk, lookupD]
    · simpa [insertKey, hk, lookupD, hp] using ih ht

theorem lookupD_insertKey_ne (l : List (Nat × Nat)) (k j v d : Nat) (h : j ≠ k) :
    lookupD (insertKey l k v) j d = lookupD l j d := by
  induction l with
  | nil => simp [insertKey, lookupD, Ne.symm h]
  | cons p ps ih =>
    by_cases hk : k < p.1
    · simp [insertKey, hk, lookupD, Ne.symm h]
    · by_cases hp : p.1 = j
      · subst hp; simp [insertKey, hk, lookupD]
      · simpa [insertKey, hk, lookupD, hp] using ih

theorem lookupD_dropKey_self (l : List (Nat × Nat)) (k d : Nat) : lookupD (dropKey l k) k d = d := by
  have h : (dropKey l k).find? (fun p => p.1 == k) = none := by
    simp [dropKey, List.find?_eq_none]
  simp [lookupD, h]

theorem lookupD_dropKey_ne (l : List (Nat × Nat)) (k j d : Nat) (h : j ≠ k) :
    lookupD (dropKey l k) j d = lookupD l j d := by
  induction l with
  | nil => rfl
  | cons p ps ih =>
    by_cases hp : p.1 = k
    · have hj : ¬ k = j := fun e => h e.symm
      simpa [dropKey, lookupD, hp, hj] using ih
    · by_cases hj : p.1 = j
      · simp [dropKey, lookupD, hj, h]
      · simpa [dropKey, lookupD, hp, hj] using ih

/-- A key that has been put has its number. -/
@[simp] theorem lookupD_putKey_self (l : List (Nat × Nat)) (k v d : Nat) : lookupD (putKey l k v d) k d = v := by
  unfold putKey
  split
  · next h => rw [lookupD_dropKey_self, h]
  · exact lookupD_insertKey_self _ _ _ _ (fun p hp => by simpa [dropKey] using (List.mem_filter.mp hp).2)

/-- Every other key keeps its number. -/
theorem lookupD_putKey_ne (l : List (Nat × Nat)) (k j v d e : Nat) (h : j ≠ k) :
    lookupD (putKey l k v d) j e = lookupD l j e := by
  unfold putKey
  split
  · exact lookupD_dropKey_ne _ _ _ _ h
  · rw [lookupD_insertKey_ne _ _ _ _ _ h, lookupD_dropKey_ne _ _ _ _ h]

/-! ## Dictionary registers -/

/-- A register that has been written holds its value. -/
@[simp] theorem State.get_set_self (s : State) (k v : Nat) : (s.set k v).get k = v := lookupD_putKey_self _ _ _ _

/-- Every other register keeps its value. -/
theorem State.get_set_ne (s : State) (k j v : Nat) (h : j ≠ k) : (s.set k v).get j = s.get j :=
  lookupD_putKey_ne _ _ _ _ _ _ h

theorem State.get_setI_ne (s : State) (k j : Nat) (i : Int) (h : j ≠ k) : (s.setI k i).get j = s.get j :=
  s.get_set_ne _ _ _ h

theorem State.get_bump_ne (s : State) (k j n : Nat) (h : j ≠ k) : (s.bump k n).get j = s.get j := s.get_set_ne _ _ _ h

/-- A counter saturates (R151). -/
@[simp] theorem State.get_bump_self (s : State) (k n : Nat) :
    (s.bump k n).get k = satBytes (objSize k) (s.get k + n) := s.get_set_self _ _

/-- A register reads the dictionary and nothing else. -/
theorem State.get_congr {s t : State} (h : s.dict = t.dict) (k : Nat) : s.get k = t.get k := by simp [State.get, h]

@[simp] theorem State.get_arm (s : State) (t : TimerId) (us k : Nat) : (s.arm t us).get k = s.get k := rfl

@[simp] theorem State.get_disarm (s : State) (t : TimerId) (k : Nat) : (s.disarm t).get k = s.get k := rfl

/-! ## Memories -/

theorem memWf_cons {d : Nat → Byte} {c : Host.Cell} {m : List Host.Cell} :
    memWf d (c :: m) = true ↔ c.2 ≠ d c.1 ∧ (∀ x ∈ m.head?, c.1 < x.1) ∧ memWf d m = true := by
  cases m with
  | nil => simp [memWf]
  | cons x xs => simp [memWf, and_assoc]

theorem memWf_tail {d : Nat → Byte} {c : Host.Cell} {m : List Host.Cell} (h : memWf d (c :: m) = true) :
    memWf d m = true := (memWf_cons.mp h).2.2

/-- In a canonical memory the first address is below every other. -/
theorem memWf_lt {d : Nat → Byte} {c : Host.Cell} {m : List Host.Cell} (h : memWf d (c :: m) = true) :
    ∀ x ∈ m, c.1 < x.1 := by
  induction m generalizing c with
  | nil => simp
  | cons y ys ih =>
    have hw := memWf_cons.mp h
    have hy : c.1 < y.1 := hw.2.1 y (by simp)
    intro x hx
    rcases List.mem_cons.mp hx with rfl | hx
    · exact hy
    · exact lt_trans hy (ih hw.2.2 x hx)

theorem memInsert_head (m : List Host.Cell) (a : Nat) (b : Byte) (n : Nat) (hn : n < a)
    (h : ∀ x ∈ m.head?, n < x.1) : ∀ x ∈ (memInsert m a b).head?, n < x.1 := by
  cases m with
  | nil => simpa [memInsert] using hn
  | cons c cs =>
    have hc : n < c.1 := h c (by simp)
    unfold memInsert
    split
    · simpa using hn
    · split
      · simpa using hn
      · simpa using hc

/-- A byte inserted keeps the canonical form, unless it is the reset byte. -/
theorem memInsert_wf {d : Nat → Byte} {m : List Host.Cell} {a : Nat} {b : Byte} (hb : b ≠ d a)
    (h : memWf d m = true) : memWf d (memInsert m a b) = true := by
  induction m with
  | nil => simpa [memInsert, memWf] using hb
  | cons c cs ih =>
    have hc := memWf_cons.mp h
    unfold memInsert
    split
    · next hlt => exact memWf_cons.mpr ⟨hb, by simpa using hlt, h⟩
    · next hge =>
      split
      · next heq => subst heq; exact memWf_cons.mpr ⟨hb, hc.2.1, hc.2.2⟩
      · next hne =>
        refine memWf_cons.mpr ⟨hc.1, ?_, ih hc.2.2⟩
        exact memInsert_head cs a b c.1 (by omega) hc.2.1

theorem memErase_wf {d : Nat → Byte} {m : List Host.Cell} (a : Nat) (h : memWf d m = true) :
    memWf d (memErase m a) = true := by
  induction m with
  | nil => rfl
  | cons c cs ih =>
    have hc := memWf_cons.mp h
    by_cases ha : c.1 = a
    · simpa [memErase, ha] using ih hc.2.2
    · have e : memErase (c :: cs) a = c :: memErase cs a := by simp [memErase, ha]
      rw [e]
      refine memWf_cons.mpr ⟨hc.1, ?_, ih hc.2.2⟩
      intro x hx
      have hm : x ∈ memErase cs a := List.mem_of_mem_head? hx
      exact memWf_lt h x (List.mem_filter.mp hm).1

/-- Every write keeps the canonical form. -/
theorem memWrite_wf {d : Nat → Byte} {m : List Host.Cell} (a : Nat) (b : Byte) (h : memWf d m = true) :
    memWf d (memWrite d m a b) = true := by
  unfold memWrite
  split
  · exact memErase_wf a h
  · next hb => exact memInsert_wf hb h

/-- A run of writes keeps the canonical form. -/
theorem memWriteAll_wf {d : Nat → Byte} {m : List Host.Cell} (a : Nat) (bs : Bytes) (h : memWf d m = true) :
    memWf d (memWriteAll d m a bs) = true := by
  induction bs generalizing m a with
  | nil => exact h
  | cons b bs ih => exact ih (a + 1) (memWrite_wf a b h)

/-- Cells left out leave the rest canonical. -/
theorem memWf_filter {d : Nat → Byte} {m : List Host.Cell} (f : Host.Cell → Bool) (h : memWf d m = true) :
    memWf d (m.filter f) = true := by
  induction m with
  | nil => rfl
  | cons c m ih =>
    have hw := memWf_cons.mp h
    by_cases hc : f c = true
    · rw [List.filter_cons_of_pos hc]
      refine memWf_cons.mpr ⟨hw.1, fun x hx => memWf_lt h x ?_, ih hw.2.2⟩
      exact (List.mem_filter.mp (List.mem_of_mem_head? hx)).1
    · rw [List.filter_cons_of_neg hc]
      exact ih hw.2.2

theorem memRead_memErase_self (d : Nat → Byte) (m : List Host.Cell) (a : Nat) : memRead d (memErase m a) a = d a := by
  have h : (memErase m a).find? (fun c => c.1 == a) = none := by simp [memErase, List.find?_eq_none]
  simp [memRead, h]

theorem memRead_memErase_ne (d : Nat → Byte) (m : List Host.Cell) (a x : Nat) (h : x ≠ a) :
    memRead d (memErase m a) x = memRead d m x := by
  induction m with
  | nil => rfl
  | cons c cs ih =>
    by_cases hc : c.1 = a
    · have hx : ¬ a = x := fun e => h e.symm
      simpa [memErase, memRead, hc, hx] using ih
    · by_cases hx : c.1 = x
      · simp [memErase, memRead, hx, h]
      · simpa [memErase, memRead, hc, hx] using ih

theorem memRead_memInsert_self (d : Nat → Byte) (m : List Host.Cell) (a : Nat) (b : Byte) :
    memRead d (memInsert m a b) a = b := by
  induction m with
  | nil => simp [memInsert, memRead]
  | cons c cs ih =>
    unfold memInsert
    split
    · simp [memRead]
    · split
      · simp [memRead]
      · next hne => simpa [memRead, Ne.symm hne] using ih

theorem memRead_memInsert_ne (d : Nat → Byte) (m : List Host.Cell) (a x : Nat) (b : Byte) (h : x ≠ a) :
    memRead d (memInsert m a b) x = memRead d m x := by
  have hx : ¬ a = x := fun e => h e.symm
  induction m with
  | nil => simp [memInsert, memRead, hx]
  | cons c cs ih =>
    unfold memInsert
    split
    · simp [memRead, hx]
    · split
      · next heq => simp [memRead, ← heq, hx]
      · by_cases hc : c.1 = x
        · simp [memRead, hc]
        · simpa [memRead, hc] using ih

/-- A byte reads as it was written. -/
@[simp] theorem memRead_memWrite_self (d : Nat → Byte) (m : List Host.Cell) (a : Nat) (b : Byte) :
    memRead d (memWrite d m a b) a = b := by
  unfold memWrite
  split
  · next h => rw [memRead_memErase_self, h]
  · exact memRead_memInsert_self d m a b

/-- A write leaves every other byte alone. -/
theorem memRead_memWrite_ne (d : Nat → Byte) (m : List Host.Cell) (a x : Nat) (b : Byte) (h : x ≠ a) :
    memRead d (memWrite d m a b) x = memRead d m x := by
  unfold memWrite
  split
  · exact memRead_memErase_ne d m a x h
  · exact memRead_memInsert_ne d m a x b h

/-- A run of writes leaves every byte outside it alone. -/
theorem memRead_memWriteAll_outside (d : Nat → Byte) (m : List Host.Cell) (a : Nat) (bs : Bytes) (x : Nat)
    (h : x < a ∨ a + bs.length ≤ x) : memRead d (memWriteAll d m a bs) x = memRead d m x := by
  induction bs generalizing m a with
  | nil => rfl
  | cons b bs ih =>
    have hx : x < a + 1 ∨ a + 1 + bs.length ≤ x := by simp only [List.length_cons] at h; omega
    rw [memWriteAll, ih _ _ hx, memRead_memWrite_ne _ _ _ _ _ (by simp only [List.length_cons] at h; omega)]

/-- Within a run of writes each byte reads as it was written. -/
theorem memRead_memWriteAll_inside (d : Nat → Byte) (m : List Host.Cell) (a : Nat) (bs : Bytes) (i : Nat)
    (h : i < bs.length) : memRead d (memWriteAll d m a bs) (a + i) = bs[i] := by
  induction bs generalizing m a i with
  | nil => simp at h
  | cons b bs ih =>
    cases i with
    | zero => rw [memWriteAll, memRead_memWriteAll_outside _ _ _ _ _ (by omega)]; simp
    | succ i =>
      have e : a + (i + 1) = a + 1 + i := by omega
      rw [memWriteAll, e, ih _ _ _ (by simpa using h)]
      simp

/-- The Cask control block keeps the canonical form. -/
theorem State.setCtl_wf {s : State} (off n v : Nat) (h : s.mems.wf = true) : (s.setCtl off n v).mems.wf = true := by
  simp only [Mems.wf, Bool.and_eq_true, State.setCtl] at h ⊢
  obtain ⟨⟨⟨⟨⟨⟨⟨h1, h2⟩, h3⟩, h4⟩, h5⟩, h6⟩, h7⟩, h8⟩ := h
  exact ⟨⟨⟨⟨⟨⟨⟨h1, memWriteAll_wf _ _ h2⟩, h3⟩, h4⟩, h5⟩, h6⟩, h7⟩, h8⟩

/-- The Cask keeps the canonical form. -/
theorem State.setCask_wf {s : State} (a : Nat) (bs : Bytes) (h : s.mems.wf = true) :
    (s.setCask a bs).mems.wf = true := by
  simp only [Mems.wf, Bool.and_eq_true, State.setCask] at h ⊢
  obtain ⟨⟨⟨⟨⟨⟨⟨h1, h2⟩, h3⟩, h4⟩, h5⟩, h6⟩, h7⟩, h8⟩ := h
  exact ⟨⟨⟨⟨⟨⟨⟨memWriteAll_wf _ _ h1, h2⟩, h3⟩, h4⟩, h5⟩, h6⟩, h7⟩, h8⟩

/-! ## Timers and time -/

@[simp] theorem State.when_true (s : State) (f : State → State) : s.when true f = f s := rfl

@[simp] theorem State.when_false (s : State) (f : State → State) : s.when false f = s := rfl

/-- A timer that has been stopped does not run. -/
@[simp] theorem State.armed_disarm_self (s : State) (t : TimerId) : (s.disarm t).armed t = false := by
  simp [State.armed, State.disarm]

/-- A timer that has been started runs. -/
@[simp] theorem State.armed_arm_self (s : State) (t : TimerId) (us : Nat) : (s.arm t us).armed t = true := by
  simp [State.armed, State.arm]

/-- The deadline of a timer just started. -/
theorem State.deadline_arm_self (s : State) (t : TimerId) (us : Nat) : (s.arm t us).deadline t = some (s.now + us) := by
  have h : (s.timers.filter (fun p => !(p.1 == t))).find? (fun p => p.1 == t) = none := by
    simp [List.find?_eq_none]
  simp [State.deadline, State.arm, List.find?_append, h]

/-- A timer runs exactly when it has a deadline. -/
theorem State.armed_iff (s : State) (t : TimerId) : s.armed t = true ↔ ∃ d, s.deadline t = some d := by
  unfold State.armed State.deadline
  cases h : s.timers.find? (fun p => p.1 == t) with
  | none =>
    simp only [List.find?_eq_none] at h
    simp only [List.any_eq_true, reduceCtorEq, exists_false, iff_false, not_exists, not_and]
    exact fun x hx => h x hx
  | some p =>
    have hp := List.find?_some h
    have hm := List.mem_of_find?_eq_some h
    simp only [List.any_eq_true, Option.some.injEq, exists_eq', iff_true]
    exact ⟨p, hm, hp⟩

/-- The expiry of a timer that runs: time reaches its deadline, it stops, and its event acts. -/
theorem State.onTimer_armed (s : State) (t : TimerId) (f : State → State) (h : s.armed t = true) :
    ∃ d, s.deadline t = some d ∧ s.onTimer t f = f ((s.elapse (d - s.now)).disarm t) := by
  obtain ⟨d, hd⟩ := (s.armed_iff t).mp h
  exact ⟨d, hd, by simp [State.onTimer, hd]⟩

/-- A timer that does not run has no expiry. -/
theorem State.onTimer_idle (s : State) (t : TimerId) (f : State → State) (h : s.armed t = false) :
    s.onTimer t f = s := by
  have hd : s.deadline t = none := by
    cases e : s.deadline t with
    | none => rfl
    | some d => exact absurd ((s.armed_iff t).mpr ⟨d, e⟩) (by simp [h])
  simp [State.onTimer, hd]

end Sys2Proof.Machine
end

