-- ==== Sys2Proof/Laws/Kept.lean ====
section
/-!
SUPPORT. What every command keeps: the queue of waiting commands, the canonical form of every memory, the fuses of the
lifecycle, of the security counter and of the revoked key slot, which only rise, and the model's clock, which never runs
back.
-/

namespace Sys2Proof.Machine

open Sys2Proof

/-- What may only rise: the security counter, the revocation of slot 0, the lifecycle fuses, the model's clock. -/
structure Floor where
  counter : Nat
  revoked : Bool
  fuses : BitVec 3
  now : Nat

/-- The parts of a state that every command keeps, against a queue and a floor. -/
def KeptF (q : List Instr) (n : Floor) (pending : List Instr) (m : Mems) (counter : Nat) (revoked : Bool)
    (fuses : BitVec 3) (now : Nat) : Prop :=
  pending = q ∧ m.wf = true ∧ n.counter ≤ counter ∧ (n.revoked = true → revoked = true) ∧ n.fuses &&& fuses = n.fuses ∧
    n.now ≤ now

/-- A state that keeps them. -/
abbrev Kept (q : List Instr) (n : Floor) (s : State) : Prop :=
  KeptF q n s.pending s.mems s.sec.securityCounter s.sec.slot0Revoked s.sec.fuses s.time.nowUs

/-- An outcome whose next state keeps them. -/
def KeptOut (q : List Instr) (n : Floor) (o : Out) : Prop := ∀ t, o = .next t → Kept q n t

variable {q : List Instr} {n : Floor}

theorem kept_ite {c : Prop} [Decidable c] {s t : State} (hs : Kept q n s) (ht : Kept q n t) :
    Kept q n (if c then s else t) := by
  split
  · exact hs
  · exact ht

theorem kept_ite_snd {α : Type} {c : Prop} [Decidable c] {x y : α × State} (hs : Kept q n x.2) (ht : Kept q n y.2) :
    Kept q n (if c then x else y).2 := by
  split
  · exact hs
  · exact ht

theorem kept_ite_fst {α : Type} {c : Prop} [Decidable c] {x y : State × α} (hs : Kept q n x.1) (ht : Kept q n y.1) :
    Kept q n (if c then x else y).1 := by
  split
  · exact hs
  · exact ht

theorem kept_foldl_snd {α β : Type} {f : β × State → α → β × State} {l : List α} {a : β × State}
    (hf : ∀ a x, Kept q n a.2 → Kept q n (f a x).2) (hs : Kept q n a.2) : Kept q n (l.foldl f a).2 := by
  induction l generalizing a with
  | nil => exact hs
  | cons x l ih => exact ih (hf a x hs)

theorem kept_foldl {α : Type} {f : State → α → State} {l : List α} {s : State}
    (hf : ∀ u a, Kept q n u → Kept q n (f u a)) (hs : Kept q n s) : Kept q n (l.foldl f s) := by
  induction l generalizing s with
  | nil => exact hs
  | cons a l ih => exact ih (hf s a hs)

/-- Fuses that gain bits. -/
theorem kept_fuses {p : List Instr} {m : Mems} {c : Nat} {r : Bool} {f : BitVec 3} {t : Nat} (g : BitVec 3)
    (h : KeptF q n p m c r f t) : KeptF q n p m c r (f ||| g) t := by
  obtain ⟨h1, h2, h3, h4, h5, h6⟩ := h
  refine ⟨h1, h2, h3, h4, ?_, h6⟩
  rw [BitVec.and_or_distrib_left, h5]
  ext i hi
  simp
  tauto

/-- A counter that has risen. -/
theorem kept_counter {p : List Instr} {m : Mems} {c d : Nat} {r : Bool} {f : BitVec 3} {t : Nat} (hd : c ≤ d)
    (h : KeptF q n p m c r f t) : KeptF q n p m d r f t :=
  ⟨h.1, h.2.1, h.2.2.1.trans hd, h.2.2.2⟩

/-- A key slot revoked. -/
theorem kept_revoked {p : List Instr} {m : Mems} {c : Nat} {r : Bool} {f : BitVec 3} {t : Nat} (h : KeptF q n p m c r f t) :
    KeptF q n p m c true f t :=
  ⟨h.1, h.2.1, h.2.2.1, fun _ => rfl, h.2.2.2.2⟩

/-- A clock that has gone on. -/
theorem kept_later {p : List Instr} {m : Mems} {c : Nat} {r : Bool} {f : BitVec 3} {t u : Nat} (hu : t ≤ u)
    (h : KeptF q n p m c r f t) : KeptF q n p m c r f u :=
  ⟨h.1, h.2.1, h.2.2.1, h.2.2.2.1, h.2.2.2.2.1, h.2.2.2.2.2.trans hu⟩

/-- Memories that are canonical again. -/
theorem kept_mems {p : List Instr} {m m' : Mems} {c : Nat} {r : Bool} {f : BitVec 3} {t : Nat} (hm : m.wf = true → m'.wf = true)
    (h : KeptF q n p m c r f t) : KeptF q n p m' c r f t :=
  ⟨h.1, hm h.2.1, h.2.2⟩

theorem memWf_nil (d : Nat → Byte) : memWf d [] = true := rfl

/-! ## One memory canonical again -/

theorem kept_mems_cask {p : List Instr} {m : Mems} {w : List Host.Cell} {c : Nat} {r : Bool} {f : BitVec 3} {t : Nat}
    (hw : memWf zeroByte m.cask = true → memWf zeroByte w = true) (h : KeptF q n p m c r f t) :
    KeptF q n p { m with cask := w } c r f t := by
  refine kept_mems (fun hm => ?_) h
  simp only [Mems.wf, Bool.and_eq_true] at hm ⊢
  exact ⟨⟨⟨⟨⟨⟨⟨hw hm.1.1.1.1.1.1.1, hm.1.1.1.1.1.1.2⟩, hm.1.1.1.1.1.2⟩, hm.1.1.1.1.2⟩, hm.1.1.1.2⟩, hm.1.1.2⟩, hm.1.2⟩, hm.2⟩

theorem kept_mems_ctl {p : List Instr} {m : Mems} {w : List Host.Cell} {c : Nat} {r : Bool} {f : BitVec 3} {t : Nat}
    (hw : memWf ctlByte m.ctl = true → memWf ctlByte w = true) (h : KeptF q n p m c r f t) :
    KeptF q n p { m with ctl := w } c r f t := by
  refine kept_mems (fun hm => ?_) h
  simp only [Mems.wf, Bool.and_eq_true] at hm ⊢
  exact ⟨⟨⟨⟨⟨⟨⟨hm.1.1.1.1.1.1.1, hw hm.1.1.1.1.1.1.2⟩, hm.1.1.1.1.1.2⟩, hm.1.1.1.1.2⟩, hm.1.1.1.2⟩, hm.1.1.2⟩, hm.1.2⟩, hm.2⟩

theorem kept_mems_vint {p : List Instr} {m : Mems} {w : List Host.Cell} {c : Nat} {r : Bool} {f : BitVec 3} {t : Nat}
    (hw : memWf zeroByte m.vint = true → memWf zeroByte w = true) (h : KeptF q n p m c r f t) :
    KeptF q n p { m with vint := w } c r f t := by
  refine kept_mems (fun hm => ?_) h
  simp only [Mems.wf, Bool.and_eq_true] at hm ⊢
  exact ⟨⟨⟨⟨⟨⟨⟨hm.1.1.1.1.1.1.1, hm.1.1.1.1.1.1.2⟩, hw hm.1.1.1.1.1.2⟩, hm.1.1.1.1.2⟩, hm.1.1.1.2⟩, hm.1.1.2⟩, hm.1.2⟩, hm.2⟩

theorem kept_mems_mbReq {p : List Instr} {m : Mems} {w : List Host.Cell} {c : Nat} {r : Bool} {f : BitVec 3} {t : Nat}
    (hw : memWf zeroByte m.mbReq = true → memWf zeroByte w = true) (h : KeptF q n p m c r f t) :
    KeptF q n p { m with mbReq := w } c r f t := by
  refine kept_mems (fun hm => ?_) h
  simp only [Mems.wf, Bool.and_eq_true] at hm ⊢
  exact ⟨⟨⟨⟨⟨⟨⟨hm.1.1.1.1.1.1.1, hm.1.1.1.1.1.1.2⟩, hm.1.1.1.1.1.2⟩, hw hm.1.1.1.1.2⟩, hm.1.1.1.2⟩, hm.1.1.2⟩, hm.1.2⟩, hm.2⟩

theorem kept_mems_mbRsp {p : List Instr} {m : Mems} {w : List Host.Cell} {c : Nat} {r : Bool} {f : BitVec 3} {t : Nat}
    (hw : memWf zeroByte m.mbRsp = true → memWf zeroByte w = true) (h : KeptF q n p m c r f t) :
    KeptF q n p { m with mbRsp := w } c r f t := by
  refine kept_mems (fun hm => ?_) h
  simp only [Mems.wf, Bool.and_eq_true] at hm ⊢
  exact ⟨⟨⟨⟨⟨⟨⟨hm.1.1.1.1.1.1.1, hm.1.1.1.1.1.1.2⟩, hm.1.1.1.1.1.2⟩, hm.1.1.1.1.2⟩, hw hm.1.1.1.2⟩, hm.1.1.2⟩, hm.1.2⟩, hm.2⟩

theorem kept_mems_rcv {p : List Instr} {m : Mems} {w : List Host.Cell} {c : Nat} {r : Bool} {f : BitVec 3} {t : Nat}
    (hw : memWf zeroByte m.rcv = true → memWf zeroByte w = true) (h : KeptF q n p m c r f t) :
    KeptF q n p { m with rcv := w } c r f t := by
  refine kept_mems (fun hm => ?_) h
  simp only [Mems.wf, Bool.and_eq_true] at hm ⊢
  exact ⟨⟨⟨⟨⟨⟨⟨hm.1.1.1.1.1.1.1, hm.1.1.1.1.1.1.2⟩, hm.1.1.1.1.1.2⟩, hm.1.1.1.1.2⟩, hm.1.1.1.2⟩, hw hm.1.1.2⟩, hm.1.2⟩, hm.2⟩

theorem kept_mems_bankA {p : List Instr} {m : Mems} {w : List Host.Cell} {c : Nat} {r : Bool} {f : BitVec 3} {t : Nat}
    (hw : memWf zeroByte m.bankA = true → memWf zeroByte w = true) (h : KeptF q n p m c r f t) :
    KeptF q n p { m with bankA := w } c r f t := by
  refine kept_mems (fun hm => ?_) h
  simp only [Mems.wf, Bool.and_eq_true] at hm ⊢
  exact ⟨⟨⟨⟨⟨⟨⟨hm.1.1.1.1.1.1.1, hm.1.1.1.1.1.1.2⟩, hm.1.1.1.1.1.2⟩, hm.1.1.1.1.2⟩, hm.1.1.1.2⟩, hm.1.1.2⟩, hw hm.1.2⟩, hm.2⟩

theorem kept_mems_bankB {p : List Instr} {m : Mems} {w : List Host.Cell} {c : Nat} {r : Bool} {f : BitVec 3} {t : Nat}
    (hw : memWf zeroByte m.bankB = true → memWf zeroByte w = true) (h : KeptF q n p m c r f t) :
    KeptF q n p { m with bankB := w } c r f t := by
  refine kept_mems (fun hm => ?_) h
  simp only [Mems.wf, Bool.and_eq_true] at hm ⊢
  exact ⟨⟨⟨⟨⟨⟨⟨hm.1.1.1.1.1.1.1, hm.1.1.1.1.1.1.2⟩, hm.1.1.1.1.1.2⟩, hm.1.1.1.1.2⟩, hm.1.1.1.2⟩, hm.1.1.2⟩, hm.1.2⟩, hw hm.2⟩

theorem keptOut_next {s : State} (h : Kept q n s) : KeptOut q n (.next s) := by
  intro t ht
  cases ht
  exact h

end Sys2Proof.Machine
end

