-- ==== Sys2Proof/Laws/FrameOps.lean ====
section
/-!
SUPPORT. The frames of the functions of Sys2Proof/Machine/Ops.lean, one lemma for each of them (Laws/Frame.lean).
-/

namespace Sys2Proof.Machine

set_option linter.unusedTactic false
set_option linter.unreachableTactic false
set_option linter.unusedVariables false

open Sys2Proof

variable {F : Nat} {v : State}

theorem State.set_fr (s : State) (k v' : Nat) (hF : within 4 F = true) (h : Fr F v s) :
    Fr F v (State.set s k v') := by
  unfold State.set
  repeat' (first
    | with_reducible assumption
    | exact within_trans hF rfl
    | exact bit_within hF rfl
    | with_reducible intro _
    | with_reducible apply fr_ite
    | split
    | dsimp only
    | (with_reducible apply fr_dict; exact bit_within hF rfl
       first
         | with_reducible assumption
         | with_reducible apply fr_ite
         | split))

theorem State.setI_fr (s : State) (k : Nat) (i : Int) (hF : within 4 F = true) (h : Fr F v s) :
    Fr F v (State.setI s k i) := by
  unfold State.setI
  repeat' (first
    | with_reducible assumption
    | exact within_trans hF rfl
    | exact bit_within hF rfl
    | with_reducible intro _
    | with_reducible apply fr_ite
    | with_reducible apply State.set_fr
    | split
    | dsimp only)

theorem State.bump_fr (s : State) (k n : Nat) (hF : within 4 F = true) (h : Fr F v s) :
    Fr F v (State.bump s k n) := by
  unfold State.bump
  repeat' (first
    | with_reducible assumption
    | exact within_trans hF rfl
    | exact bit_within hF rfl
    | with_reducible intro _
    | with_reducible apply fr_ite
    | with_reducible apply State.set_fr
    | split
    | dsimp only)

theorem State.elapse_fr (s : State) (n : Nat) (hF : within 5 F = true) (h : Fr F v s) :
    Fr F v (State.elapse s n) := by
  unfold State.elapse
  repeat' (first
    | with_reducible assumption
    | exact within_trans hF rfl
    | exact bit_within hF rfl
    | with_reducible intro _
    | with_reducible apply fr_ite
    | with_reducible apply State.bump_fr
    | split
    | dsimp only
    | (with_reducible apply fr_time; exact bit_within hF rfl
       first
         | with_reducible assumption
         | with_reducible apply fr_ite
         | with_reducible apply State.bump_fr
         | split))

theorem State.disarm_fr (s : State) (t : TimerId) (hF : within 2 F = true) (h : Fr F v s) :
    Fr F v (State.disarm s t) := by
  unfold State.disarm
  repeat' (first
    | with_reducible assumption
    | exact within_trans hF rfl
    | exact bit_within hF rfl
    | with_reducible intro _
    | with_reducible apply fr_ite
    | split
    | dsimp only
    | (with_reducible apply fr_timers; exact bit_within hF rfl
       first
         | with_reducible assumption
         | with_reducible apply fr_ite
         | split))

theorem State.arm_fr (s : State) (t : TimerId) (us : Nat) (hF : within 2 F = true) (h : Fr F v s) :
    Fr F v (State.arm s t us) := by
  unfold State.arm
  repeat' (first
    | with_reducible assumption
    | exact within_trans hF rfl
    | exact bit_within hF rfl
    | with_reducible intro _
    | with_reducible apply fr_ite
    | split
    | dsimp only
    | (with_reducible apply fr_timers; exact bit_within hF rfl
       first
         | with_reducible assumption
         | with_reducible apply fr_ite
         | split))

theorem State.onTimer_fr (s : State) (t : TimerId) (f : State → State) (hf : ∀ u, Fr F v u → Fr F v (f u)) (hF : within 7 F = true) (h : Fr F v s) :
    Fr F v (State.onTimer s t f) := by
  unfold State.onTimer
  repeat' (first
    | with_reducible assumption
    | exact within_trans hF rfl
    | exact bit_within hF rfl
    | with_reducible intro _
    | with_reducible apply fr_ite
    | with_reducible apply hf
    | with_reducible apply State.elapse_fr
    | with_reducible apply State.disarm_fr
    | split
    | dsimp only)

theorem State.when_fr (s : State) (c : Bool) (f : State → State) (hf : ∀ u, Fr F v u → Fr F v (f u)) (hF : within 0 F = true) (h : Fr F v s) :
    Fr F v (State.when s c f) := by
  unfold State.when
  repeat' (first
    | with_reducible assumption
    | exact within_trans hF rfl
    | exact bit_within hF rfl
    | with_reducible intro _
    | with_reducible apply fr_ite
    | with_reducible apply hf
    | split
    | dsimp only)

theorem State.draw_fr (s : State) (hF : within 281474976710656 F = true) (h : Fr F v s) :
    Fr F v (State.draw s).2 := by
  unfold State.draw
  repeat' (first
    | with_reducible assumption
    | exact within_trans hF rfl
    | exact bit_within hF rfl
    | with_reducible intro _
    | with_reducible apply fr_ite
    | with_reducible apply fr_ite_snd
    | split
    | dsimp only
    | (with_reducible apply fr_free; exact bit_within hF rfl
       first
         | with_reducible assumption
         | with_reducible apply fr_ite
         | with_reducible apply fr_ite_snd
         | split))

theorem State.drawRandom_fr (s : State) (bits : Nat) (hF : within 281474976710656 F = true) (h : Fr F v s) :
    Fr F v (State.drawRandom s bits).2 := by
  unfold State.drawRandom
  repeat' (first
    | with_reducible assumption
    | exact within_trans hF rfl
    | exact bit_within hF rfl
    | with_reducible intro _
    | with_reducible apply fr_ite
    | with_reducible apply fr_ite_snd
    | split
    | dsimp only
    | (with_reducible apply fr_free; exact bit_within hF rfl
       first
         | with_reducible assumption
         | with_reducible apply fr_ite
         | with_reducible apply fr_ite_snd
         | split))

theorem State.each_fr (s : State) (l : List Nat) (f : State → Nat → State) (hf : ∀ u a, Fr F v u → Fr F v (f u a)) (hF : within 0 F = true) (h : Fr F v s) :
    Fr F v (State.each s l f) := by
  unfold State.each
  repeat' (first
    | with_reducible assumption
    | exact within_trans hF rfl
    | exact bit_within hF rfl
    | with_reducible intro _
    | with_reducible apply fr_ite
    | with_reducible apply hf
    | with_reducible apply fr_foldl
    | split
    | dsimp only)

theorem State.supervised_fr (s : State) (f : State → State) (hf : ∀ u, Fr F v u → Fr F v (f u)) (hF : within 0 F = true) (h : Fr F v s) :
    Fr F v (State.supervised s f) := by
  unfold State.supervised
  repeat' (first
    | with_reducible assumption
    | exact within_trans hF rfl
    | exact bit_within hF rfl
    | with_reducible intro _
    | with_reducible apply fr_ite
    | with_reducible apply hf
    | split
    | dsimp only)

theorem State.sealKey_fr (s : State) (index key : Nat) (hF : within 40960 F = true) (h : Fr F v s) :
    Fr F v (State.sealKey s index key) := by
  unfold State.sealKey
  repeat' (first
    | with_reducible assumption
    | exact within_trans hF rfl
    | exact bit_within hF rfl
    | with_reducible intro _
    | with_reducible apply fr_ite
    | split
    | dsimp only
    | (with_reducible apply fr_sec; exact bit_within hF rfl; with_reducible apply fr_sec_keyStore; exact bit_within hF rfl
       first
         | with_reducible assumption
         | with_reducible apply fr_ite
         | split))

end Sys2Proof.Machine
end

