-- ==== Sys2Proof/Laws/FrameQueueOps.lean ====
section
/-!
SUPPORT. The frames of the functions of Sys2Proof/Machine/QueueOps.lean, one lemma for each of them (Laws/Frame.lean).
-/

namespace Sys2Proof.Machine

set_option linter.unusedTactic false
set_option linter.unreachableTactic false
set_option linter.unusedVariables false

open Sys2Proof

variable {F : Nat} {v : State}

theorem State.noteHigh_fr (s : State) (q : Nat) (hF : within 16777216 F = true) (h : Fr F v s) :
    Fr F v (State.noteHigh s q) := by
  unfold State.noteHigh
  repeat' (first
    | with_reducible assumption
    | exact within_trans hF rfl
    | exact bit_within hF rfl
    | with_reducible intro _
    | with_reducible apply fr_ite
    | split
    | dsimp only
    | (with_reducible apply fr_q; exact bit_within hF rfl
       first
         | with_reducible assumption
         | with_reducible apply fr_ite
         | split))

theorem State.place_fr (s : State) (m : QMsg) (hF : within 16777216 F = true) (h : Fr F v s) :
    Fr F v (State.place s m) := by
  unfold State.place
  repeat' (first
    | with_reducible assumption
    | exact within_trans hF rfl
    | exact bit_within hF rfl
    | with_reducible intro _
    | with_reducible apply fr_ite
    | with_reducible apply State.noteHigh_fr
    | split
    | dsimp only
    | (with_reducible apply fr_q; exact bit_within hF rfl
       first
         | with_reducible assumption
         | with_reducible apply fr_ite
         | with_reducible apply State.noteHigh_fr
         | split))

theorem State.placeEscape_fr (s : State) (m : QMsg) (hF : within 16777222 F = true) (h : Fr F v s) :
    Fr F v (State.placeEscape s m) := by
  unfold State.placeEscape
  repeat' (first
    | with_reducible assumption
    | exact within_trans hF rfl
    | exact bit_within hF rfl
    | with_reducible intro _
    | with_reducible apply fr_ite
    | with_reducible apply State.bump_fr
    | with_reducible apply State.arm_fr
    | with_reducible apply State.place_fr
    | split
    | dsimp only)

theorem State.post_fr (s : State) (k : PostKind) (q slots : Nat) (body : Msg) (hF : within 50331654 F = true) (h : Fr F v s) :
    Fr F v (State.post s k q slots body) := by
  unfold State.post
  repeat' (first
    | with_reducible assumption
    | exact within_trans hF rfl
    | exact bit_within hF rfl
    | with_reducible intro _
    | with_reducible apply fr_ite
    | with_reducible apply State.set_fr
    | with_reducible apply State.place_fr
    | with_reducible apply State.placeEscape_fr
    | split
    | dsimp only
    | (with_reducible apply fr_q; exact bit_within hF rfl; with_reducible apply fr_cask; exact bit_within hF rfl
       first
         | with_reducible assumption
         | with_reducible apply fr_ite
         | with_reducible apply State.set_fr
         | with_reducible apply State.place_fr
         | with_reducible apply State.placeEscape_fr
         | split))

theorem State.placeNext_fr (s t : State) (qn : Nat) (e : s.placeNext qn = some t) (hF : within 16777216 F = true) (h : Fr F v s) :
    Fr F v t := by
  unfold State.placeNext at e
  repeat' split at e
  all_goals first
    | (cases e; exact State.place_fr _ _ (within_trans hF rfl) (fr_q (bit_within hF rfl) h))
    | cases e

theorem State.placeWaitingN_fr (k qn : Nat) (s : State) (hF : within 16777216 F = true) (h : Fr F v s) :
    Fr F v (State.placeWaitingN k qn s) := by
  induction k generalizing s with
  | zero => exact h
  | succ k ih =>
    unfold State.placeWaitingN
    split
    · next e => exact ih _ (State.placeNext_fr _ _ _ e (within_trans hF rfl) h)
    · exact h

theorem State.placeWaiting_fr (s : State) (q : Nat) (hF : within 16777216 F = true) (h : Fr F v s) :
    Fr F v (State.placeWaiting s q) := by
  unfold State.placeWaiting
  repeat' (first
    | with_reducible assumption
    | exact within_trans hF rfl
    | exact bit_within hF rfl
    | with_reducible intro _
    | with_reducible apply fr_ite
    | with_reducible apply State.placeWaitingN_fr
    | split
    | dsimp only)

theorem State.escapeWaiting_fr (s : State) (cls : Nat) (hF : within 16777222 F = true) (h : Fr F v s) :
    Fr F v (State.escapeWaiting s cls) := by
  unfold State.escapeWaiting
  repeat' (first
    | with_reducible assumption
    | exact within_trans hF rfl
    | exact bit_within hF rfl
    | with_reducible intro _
    | with_reducible apply fr_ite
    | with_reducible apply State.placeEscape_fr
    | split
    | dsimp only
    | (with_reducible apply fr_q; exact bit_within hF rfl
       first
         | with_reducible assumption
         | with_reducible apply fr_ite
         | with_reducible apply State.placeEscape_fr
         | split))

theorem State.handle_fr (s : State) (f : State → State) (hf : ∀ u, Fr F v u → Fr F v (f u)) (hF : within 16777216 F = true) (h : Fr F v s) :
    Fr F v (State.handle s f) := by
  unfold State.handle
  repeat' (first
    | with_reducible assumption
    | exact within_trans hF rfl
    | exact bit_within hF rfl
    | with_reducible intro _
    | with_reducible apply fr_ite
    | with_reducible apply hf
    | split
    | dsimp only
    | (with_reducible apply fr_q; exact bit_within hF rfl
       first
         | with_reducible assumption
         | with_reducible apply fr_ite
         | with_reducible apply hf
         | split))

theorem State.pass_fr (s : State) (q slots : Nat) (hF : within 16777216 F = true) (h : Fr F v s) :
    Fr F v (State.pass s q slots) := by
  unfold State.pass
  repeat' (first
    | with_reducible assumption
    | exact within_trans hF rfl
    | exact bit_within hF rfl
    | with_reducible intro _
    | with_reducible apply fr_ite
    | split
    | dsimp only
    | (with_reducible apply fr_q; exact bit_within hF rfl
       first
         | with_reducible assumption
         | with_reducible apply fr_ite
         | split))

theorem State.take_fr (s : State) (q : Nat) (hF : within 16777222 F = true) (h : Fr F v s) :
    Fr F v (State.take s q) := by
  unfold State.take
  repeat' (first
    | with_reducible assumption
    | exact within_trans hF rfl
    | exact bit_within hF rfl
    | with_reducible intro _
    | with_reducible apply fr_ite
    | with_reducible apply State.disarm_fr
    | with_reducible apply State.placeWaiting_fr
    | with_reducible apply State.escapeWaiting_fr
    | split
    | dsimp only
    | (with_reducible apply fr_q; exact bit_within hF rfl
       first
         | with_reducible assumption
         | with_reducible apply fr_ite
         | with_reducible apply State.disarm_fr
         | with_reducible apply State.placeWaiting_fr
         | with_reducible apply State.escapeWaiting_fr
         | split))

end Sys2Proof.Machine
end

