-- ==== Sys2Proof/Laws/FrameLogOps.lean ====
section
/-!
SUPPORT. The frames of the functions of Sys2Proof/Machine/LogOps.lean, one lemma for each of them (Laws/Frame.lean).
-/

namespace Sys2Proof.Machine

set_option linter.unusedTactic false
set_option linter.unreachableTactic false
set_option linter.unusedVariables false

open Sys2Proof

variable {F : Nat} {v : State}

theorem State.postLog_fr (s : State) (p : Prod) (code sev inst : Nat) (snapshot vint : Bool) (payload : Bytes) (hF : within 50331654 F = true) (h : Fr F v s) :
    Fr F v (State.postLog s p code sev inst snapshot vint payload) := by
  unfold State.postLog
  repeat' (first
    | with_reducible assumption
    | exact within_trans hF rfl
    | exact bit_within hF rfl
    | with_reducible intro _
    | with_reducible apply fr_ite
    | with_reducible apply State.post_fr
    | split
    | dsimp only
    | (with_reducible apply fr_cask; exact bit_within hF rfl
       first
         | with_reducible assumption
         | with_reducible apply fr_ite
         | with_reducible apply State.post_fr
         | split))

theorem State.log_fr (s : State) (p : Prod) (code sev inst : Nat) (payload : Bytes) (hF : within 50331654 F = true) (h : Fr F v s) :
    Fr F v (State.log s p code sev inst payload) := by
  unfold State.log
  repeat' (first
    | with_reducible assumption
    | exact within_trans hF rfl
    | exact bit_within hF rfl
    | with_reducible intro _
    | with_reducible apply fr_ite
    | with_reducible apply State.postLog_fr
    | split
    | dsimp only)

theorem State.txExpired_fr (s : State) (n : Nat) (hF : within 4 F = true) (h : Fr F v s) :
    Fr F v (State.txExpired s n) := by
  unfold State.txExpired
  repeat' (first
    | with_reducible assumption
    | exact within_trans hF rfl
    | exact bit_within hF rfl
    | with_reducible intro _
    | with_reducible apply fr_ite
    | with_reducible apply State.set_fr
    | with_reducible apply State.bump_fr
    | split
    | dsimp only)

theorem State.sendFrames_fr (s : State) (k : PostKind) (p : Port) (queueA : Nat) (fs : List CanFrame) (hF : within 50331654 F = true) (h : Fr F v s) :
    Fr F v (State.sendFrames s k p queueA fs) := by
  unfold State.sendFrames
  repeat' (first
    | with_reducible assumption
    | exact within_trans hF rfl
    | exact bit_within hF rfl
    | with_reducible intro _
    | with_reducible apply fr_ite
    | with_reducible apply State.arm_fr
    | with_reducible apply State.post_fr
    | with_reducible apply State.txExpired_fr
    | with_reducible apply fr_foldl
    | split
    | dsimp only)

theorem State.sendAll_fr (s : State) (k : PostKind) (queueA : Nat) (ident : BitVec 29) (body : Bytes) (hF : within 50331654 F = true) (h : Fr F v s) :
    Fr F v (State.sendAll s k queueA ident body) := by
  unfold State.sendAll
  repeat' (first
    | with_reducible assumption
    | exact within_trans hF rfl
    | exact bit_within hF rfl
    | with_reducible intro _
    | with_reducible apply fr_ite
    | with_reducible apply State.sendFrames_fr
    | with_reducible apply fr_foldl
    | split
    | dsimp only)

theorem State.notify_fr (s : State) (event slot : Nat) (data : Bytes) (hF : within 50331654 F = true) (h : Fr F v s) :
    Fr F v (State.notify s event slot data) := by
  unfold State.notify
  repeat' (first
    | with_reducible assumption
    | exact within_trans hF rfl
    | exact bit_within hF rfl
    | with_reducible intro _
    | with_reducible apply fr_ite
    | with_reducible apply State.set_fr
    | with_reducible apply State.sendAll_fr
    | split
    | dsimp only)

theorem State.raiseNotify_fr (s : State) (p : Prod) (event slot code : Nat) (data : Bytes) (hF : within 50331654 F = true) (h : Fr F v s) :
    Fr F v (State.raiseNotify s p event slot code data) := by
  unfold State.raiseNotify
  repeat' (first
    | with_reducible assumption
    | exact within_trans hF rfl
    | exact bit_within hF rfl
    | with_reducible intro _
    | with_reducible apply fr_ite
    | with_reducible apply State.post_fr
    | split
    | dsimp only)

theorem State.raiseIrq_fr (s : State) (bit : Nat) (hF : within 8388608 F = true) (h : Fr F v s) :
    Fr F v (State.raiseIrq s bit) := by
  unfold State.raiseIrq
  repeat' (first
    | with_reducible assumption
    | exact within_trans hF rfl
    | exact bit_within hF rfl
    | with_reducible intro _
    | with_reducible apply fr_ite
    | split
    | dsimp only
    | (with_reducible apply fr_hp; exact bit_within hF rfl
       first
         | with_reducible assumption
         | with_reducible apply fr_ite
         | split))

theorem State.noteSummary_fr (s : State) (hF : within 58720262 F = true) (h : Fr F v s) :
    Fr F v (State.noteSummary s) := by
  unfold State.noteSummary
  repeat' (first
    | with_reducible assumption
    | exact within_trans hF rfl
    | exact bit_within hF rfl
    | with_reducible intro _
    | with_reducible apply fr_ite
    | with_reducible apply State.notify_fr
    | with_reducible apply State.raiseIrq_fr
    | split
    | dsimp only
    | (with_reducible apply fr_hp; exact bit_within hF rfl
       first
         | with_reducible assumption
         | with_reducible apply fr_ite
         | with_reducible apply State.notify_fr
         | with_reducible apply State.raiseIrq_fr
         | split))

theorem State.flag_fr (s : State) (k bit : Nat) (hF : within 58720262 F = true) (h : Fr F v s) :
    Fr F v (State.flag s k bit) := by
  unfold State.flag
  repeat' (first
    | with_reducible assumption
    | exact within_trans hF rfl
    | exact bit_within hF rfl
    | with_reducible intro _
    | with_reducible apply fr_ite
    | with_reducible apply State.set_fr
    | with_reducible apply State.noteSummary_fr
    | split
    | dsimp only)

theorem State.flagFirst_fr (s : State) (k bit : Nat) (f : State → State) (hf : ∀ u, Fr F v u → Fr F v (f u)) (hF : within 58720262 F = true) (h : Fr F v s) :
    Fr F v (State.flagFirst s k bit f) := by
  unfold State.flagFirst
  repeat' (first
    | with_reducible assumption
    | exact within_trans hF rfl
    | exact bit_within hF rfl
    | with_reducible intro _
    | with_reducible apply fr_ite
    | with_reducible apply hf
    | with_reducible apply State.flag_fr
    | split
    | dsimp only)

theorem State.faultRow_fr (s : State) (k bit : Nat) (p : Prod) (code sev inst : Nat) (payload : Bytes) (hF : within 58720262 F = true) (h : Fr F v s) :
    Fr F v (State.faultRow s k bit p code sev inst payload) := by
  unfold State.faultRow
  repeat' (first
    | with_reducible assumption
    | exact within_trans hF rfl
    | exact bit_within hF rfl
    | with_reducible intro _
    | with_reducible apply fr_ite
    | with_reducible apply State.log_fr
    | with_reducible apply State.flag_fr
    | split
    | dsimp only)

end Sys2Proof.Machine
end

