-- ==== Sys2Proof/Laws/FrameCask.lean ====
section
/-!
SUPPORT. The frames of the functions of Sys2Proof/Machine/Cask.lean, one lemma for each of them (Laws/Frame.lean).
-/

namespace Sys2Proof.Machine

set_option linter.unusedTactic false
set_option linter.unreachableTactic false
set_option linter.unusedVariables false

open Sys2Proof

variable {F : Nat} {v : State}

theorem State.setCtl_fr (s : State) (off n v' : Nat) (hF : within 134217728 F = true) (h : Fr F v s) :
    Fr F v (State.setCtl s off n v') := by
  unfold State.setCtl
  repeat' (first
    | with_reducible assumption
    | exact within_trans hF rfl
    | exact bit_within hF rfl
    | with_reducible intro _
    | with_reducible apply fr_ite
    | split
    | dsimp only
    | (with_reducible apply fr_mems_ctl; exact bit_within hF rfl
       first
         | with_reducible assumption
         | with_reducible apply fr_ite
         | split))

theorem State.bumpCtl_fr (s : State) (off n by_ : Nat) (hF : within 134217728 F = true) (h : Fr F v s) :
    Fr F v (State.bumpCtl s off n by_) := by
  unfold State.bumpCtl
  repeat' (first
    | with_reducible assumption
    | exact within_trans hF rfl
    | exact bit_within hF rfl
    | with_reducible intro _
    | with_reducible apply fr_ite
    | with_reducible apply State.setCtl_fr
    | split
    | dsimp only)

theorem State.setWriteIndex_fr (s : State) (i : Nat) (hF : within 134217728 F = true) (h : Fr F v s) :
    Fr F v (State.setWriteIndex s i) := by
  unfold State.setWriteIndex
  repeat' (first
    | with_reducible assumption
    | exact within_trans hF rfl
    | exact bit_within hF rfl
    | with_reducible intro _
    | with_reducible apply fr_ite
    | with_reducible apply State.setCtl_fr
    | split
    | dsimp only)

theorem State.setCask_fr (s : State) (a : Nat) (bs : Bytes) (hF : within 67108864 F = true) (h : Fr F v s) :
    Fr F v (State.setCask s a bs) := by
  unfold State.setCask
  repeat' (first
    | with_reducible assumption
    | exact within_trans hF rfl
    | exact bit_within hF rfl
    | with_reducible intro _
    | with_reducible apply fr_ite
    | split
    | dsimp only
    | (with_reducible apply fr_mems_cask; exact bit_within hF rfl
       first
         | with_reducible assumption
         | with_reducible apply fr_ite
         | split))

theorem State.rewriteRepeat_fr (s : State) (slot count : Nat) (hF : within 201326592 F = true) (h : Fr F v s) :
    Fr F v (State.rewriteRepeat s slot count) := by
  unfold State.rewriteRepeat
  repeat' (first
    | with_reducible assumption
    | exact within_trans hF rfl
    | exact bit_within hF rfl
    | with_reducible intro _
    | with_reducible apply fr_ite
    | with_reducible apply State.setCtl_fr
    | with_reducible apply State.setCask_fr
    | split
    | dsimp only)

theorem State.queueVintage_fr (s : State) (entry : Nat) (bs : Bytes) (hF : within 167772162 F = true) (h : Fr F v s) :
    Fr F v (State.queueVintage s entry bs) := by
  unfold State.queueVintage
  repeat' (first
    | with_reducible assumption
    | exact within_trans hF rfl
    | exact bit_within hF rfl
    | with_reducible intro _
    | with_reducible apply fr_ite
    | with_reducible apply State.arm_fr
    | with_reducible apply State.setCtl_fr
    | split
    | dsimp only
    | (with_reducible apply fr_cask; exact bit_within hF rfl
       first
         | with_reducible assumption
         | with_reducible apply fr_ite
         | with_reducible apply State.arm_fr
         | with_reducible apply State.setCtl_fr
         | split))

theorem State.ownLog_fr (s : State) (code sev : Nat) (payload : Bytes) (hF : within 33554432 F = true) (h : Fr F v s) :
    Fr F v (State.ownLog s code sev payload) := by
  unfold State.ownLog
  repeat' (first
    | with_reducible assumption
    | exact within_trans hF rfl
    | exact bit_within hF rfl
    | with_reducible intro _
    | with_reducible apply fr_ite
    | split
    | dsimp only
    | (with_reducible apply fr_cask; exact bit_within hF rfl
       first
         | with_reducible assumption
         | with_reducible apply fr_ite
         | split))

theorem State.takeEvent_fr (s : State) (bs : Nat → Bytes) (hF : within 192937990 F = true) (h : Fr F v s) :
    Fr F v (State.takeEvent s bs) := by
  unfold State.takeEvent
  repeat' (first
    | with_reducible assumption
    | exact within_trans hF rfl
    | exact bit_within hF rfl
    | with_reducible intro _
    | with_reducible apply fr_ite
    | with_reducible apply State.bump_fr
    | with_reducible apply State.flagFirst_fr
    | with_reducible apply State.queueVintage_fr
    | with_reducible apply State.ownLog_fr
    | split
    | dsimp only)

theorem State.vintFor_fr (s : State) (m : LogMsg) (u : VintUse) (slot : Nat) (hF : within 192937990 F = true) (h : Fr F v s) :
    Fr F v (State.vintFor s m u slot) := by
  unfold State.vintFor
  repeat' (first
    | with_reducible assumption
    | exact within_trans hF rfl
    | exact bit_within hF rfl
    | with_reducible intro _
    | with_reducible apply fr_ite
    | with_reducible apply State.queueVintage_fr
    | with_reducible apply State.takeEvent_fr
    | split
    | dsimp only)

theorem State.dropRecord_fr (s : State) (m : LogMsg) (hF : within 192937990 F = true) (h : Fr F v s) :
    Fr F v (State.dropRecord s m) := by
  unfold State.dropRecord
  repeat' (first
    | with_reducible assumption
    | exact within_trans hF rfl
    | exact bit_within hF rfl
    | with_reducible intro _
    | with_reducible apply fr_ite
    | with_reducible apply State.flag_fr
    | with_reducible apply State.bumpCtl_fr
    | split
    | dsimp only)

theorem State.sealCask_fr (s : State) (hF : within 192937990 F = true) (h : Fr F v s) :
    Fr F v (State.sealCask s) := by
  unfold State.sealCask
  repeat' (first
    | with_reducible assumption
    | exact within_trans hF rfl
    | exact bit_within hF rfl
    | with_reducible intro _
    | with_reducible apply fr_ite
    | with_reducible apply State.flag_fr
    | with_reducible apply State.setCtl_fr
    | with_reducible apply State.vintFor_fr
    | split
    | dsimp only)

theorem State.raiseIndex_fr (s : State) (i : Nat) (hF : within 192937990 F = true) (h : Fr F v s) :
    Fr F v (State.raiseIndex s i) := by
  unfold State.raiseIndex
  repeat' (first
    | with_reducible assumption
    | exact within_trans hF rfl
    | exact bit_within hF rfl
    | with_reducible intro _
    | with_reducible apply fr_ite
    | with_reducible apply State.flag_fr
    | with_reducible apply State.setCtl_fr
    | with_reducible apply State.setWriteIndex_fr
    | split
    | dsimp only)

theorem State.passRecord_fr (s : State) (slot n c : Nat) (hF : within 192937990 F = true) (h : Fr F v s) :
    Fr F v (State.passRecord s slot n c) := by
  unfold State.passRecord
  repeat' (first
    | with_reducible assumption
    | exact within_trans hF rfl
    | exact bit_within hF rfl
    | with_reducible intro _
    | with_reducible apply fr_ite
    | with_reducible apply State.raiseNotify_fr
    | with_reducible apply State.setCtl_fr
    | with_reducible apply State.raiseIndex_fr
    | split
    | dsimp only
    | (with_reducible apply fr_cask; exact bit_within hF rfl
       first
         | with_reducible assumption
         | with_reducible apply fr_ite
         | with_reducible apply State.raiseNotify_fr
         | with_reducible apply State.setCtl_fr
         | with_reducible apply State.raiseIndex_fr
         | split))

theorem State.writeRecord_fr (s : State) (m : LogMsg) (u : VintUse) (snapshot truncated ok1 ok2 : Bool) (hF : within 281475236757510 F = true) (h : Fr F v s) :
    Fr F v (State.writeRecord s m u snapshot truncated ok1 ok2) := by
  unfold State.writeRecord
  repeat' (first
    | with_reducible assumption
    | exact within_trans hF rfl
    | exact bit_within hF rfl
    | with_reducible intro _
    | with_reducible apply fr_ite
    | with_reducible apply fr_ite_snd
    | with_reducible apply State.draw_fr
    | with_reducible apply State.setCask_fr
    | with_reducible apply State.vintFor_fr
    | with_reducible apply State.sealCask_fr
    | with_reducible apply State.passRecord_fr
    | split
    | dsimp only)

theorem State.commitMsg_fr (s : State) (m : LogMsg) (ok1 ok2 : Bool) (hF : within 281475236757510 F = true) (h : Fr F v s) :
    Fr F v (State.commitMsg s m ok1 ok2) := by
  unfold State.commitMsg
  repeat' (first
    | with_reducible assumption
    | exact within_trans hF rfl
    | exact bit_within hF rfl
    | with_reducible intro _
    | with_reducible apply fr_ite
    | with_reducible apply State.arm_fr
    | with_reducible apply State.bumpCtl_fr
    | with_reducible apply State.rewriteRepeat_fr
    | with_reducible apply State.vintFor_fr
    | with_reducible apply State.dropRecord_fr
    | with_reducible apply State.writeRecord_fr
    | split
    | dsimp only
    | (with_reducible apply fr_cask; exact bit_within hF rfl
       first
         | with_reducible assumption
         | with_reducible apply fr_ite
         | with_reducible apply State.arm_fr
         | with_reducible apply State.bumpCtl_fr
         | with_reducible apply State.rewriteRepeat_fr
         | with_reducible apply State.vintFor_fr
         | with_reducible apply State.dropRecord_fr
         | with_reducible apply State.writeRecord_fr
         | split))

theorem State.nextLog_fr (s t : State) (m : LogMsg) (e : s.nextLog = some (m, t)) (hF : within 50331654 F = true) (h : Fr F v s) : Fr F v t := by
  unfold State.nextLog at e
  repeat' split at e
  all_goals first
    | (cases e; with_reducible exact fr_cask (bit_within hF rfl) h)
    | (cases e; with_reducible exact fr_cask (bit_within hF rfl) (State.take_fr _ _ (within_trans hF rfl) h))
    | cases e

theorem execCaskRecordCommit_fr (firstOk secondOk : Bool) (s : State) (hF : within 281475236757510 F = true) (h : Fr F v s) :
    FrOut F v (execCaskRecordCommit firstOk secondOk s) := by
  unfold execCaskRecordCommit
  refine frOut_next (State.when_fr _ _ _ (fun u hu => ?_) (within_trans hF rfl) h)
  split
  · exact hu
  · next e => exact State.commitMsg_fr _ _ _ _ (within_trans hF rfl) (State.nextLog_fr _ _ _ e (within_trans hF rfl) hu)

theorem execFloodTokenRefill_fr (code : BitVec 16) (s : State) (hF : within 33554439 F = true) (h : Fr F v s) :
    FrOut F v (execFloodTokenRefill code s) := by
  unfold execFloodTokenRefill
  repeat' (first
    | with_reducible assumption
    | exact within_trans hF rfl
    | exact bit_within hF rfl
    | with_reducible apply frOut_next
    | with_reducible intro _
    | with_reducible apply fr_ite
    | with_reducible apply State.arm_fr
    | with_reducible apply State.onTimer_fr
    | split
    | dsimp only
    | (with_reducible apply fr_cask; exact bit_within hF rfl
       first
         | with_reducible assumption
         | with_reducible apply fr_ite
         | with_reducible apply State.arm_fr
         | with_reducible apply State.onTimer_fr
         | split))

theorem State.applyShadow_fr (s : State) (hF : within 201326592 F = true) (h : Fr F v s) :
    Fr F v (State.applyShadow s) := by
  unfold State.applyShadow
  repeat' (first
    | with_reducible assumption
    | exact within_trans hF rfl
    | exact bit_within hF rfl
    | with_reducible intro _
    | with_reducible apply fr_ite
    | with_reducible apply State.rewriteRepeat_fr
    | split
    | dsimp only)

theorem State.clearCask_fr (s : State) (hF : within 201326592 F = true) (h : Fr F v s) :
    Fr F v (State.clearCask s) := by
  unfold State.clearCask
  repeat' (first
    | with_reducible assumption
    | exact within_trans hF rfl
    | exact bit_within hF rfl
    | with_reducible intro _
    | with_reducible apply fr_ite
    | with_reducible apply State.setCtl_fr
    | split
    | dsimp only
    | (with_reducible apply fr_mems_cask; exact bit_within hF rfl; with_reducible apply fr_mems_ctl; exact bit_within hF rfl
       first
         | with_reducible assumption
         | with_reducible apply fr_ite
         | with_reducible apply State.setCtl_fr
         | split))

theorem State.endClear_fr (s : State) (hF : within 281475236757510 F = true) (h : Fr F v s) :
    Fr F v (State.endClear s) := by
  unfold State.endClear
  repeat' (first
    | with_reducible assumption
    | exact within_trans hF rfl
    | exact bit_within hF rfl
    | with_reducible intro _
    | with_reducible apply fr_ite
    | with_reducible apply State.disarm_fr
    | with_reducible apply State.setCtl_fr
    | with_reducible apply State.setWriteIndex_fr
    | with_reducible apply State.writeRecord_fr
    | with_reducible apply State.clearCask_fr
    | split
    | dsimp only
    | (with_reducible apply fr_cask; exact bit_within hF rfl
       first
         | with_reducible assumption
         | with_reducible apply fr_ite
         | with_reducible apply State.disarm_fr
         | with_reducible apply State.setCtl_fr
         | with_reducible apply State.setWriteIndex_fr
         | with_reducible apply State.writeRecord_fr
         | with_reducible apply State.clearCask_fr
         | split))

theorem State.checkIndex_fr (s : State) (hF : within 192937990 F = true) (h : Fr F v s) :
    Fr F v (State.checkIndex s) := by
  unfold State.checkIndex
  repeat' (first
    | with_reducible assumption
    | exact within_trans hF rfl
    | exact bit_within hF rfl
    | with_reducible intro _
    | with_reducible apply fr_ite
    | with_reducible apply State.flag_fr
    | with_reducible apply State.ownLog_fr
    | with_reducible apply State.raiseIndex_fr
    | split
    | dsimp only)

theorem State.checkRetention_fr (s : State) (hF : within 192937990 F = true) (h : Fr F v s) :
    Fr F v (State.checkRetention s) := by
  unfold State.checkRetention
  repeat' (first
    | with_reducible assumption
    | exact within_trans hF rfl
    | exact bit_within hF rfl
    | with_reducible intro _
    | with_reducible apply fr_ite
    | with_reducible apply State.flagFirst_fr
    | with_reducible apply State.bumpCtl_fr
    | with_reducible apply State.ownLog_fr
    | with_reducible apply fr_foldl
    | split
    | dsimp only)

theorem State.checkTorn_fr (s : State) (hF : within 260046854 F = true) (h : Fr F v s) :
    Fr F v (State.checkTorn s) := by
  unfold State.checkTorn
  repeat' (first
    | with_reducible assumption
    | exact within_trans hF rfl
    | exact bit_within hF rfl
    | with_reducible intro _
    | with_reducible apply fr_ite
    | with_reducible apply State.flag_fr
    | with_reducible apply State.bumpCtl_fr
    | with_reducible apply State.setCask_fr
    | with_reducible apply State.ownLog_fr
    | with_reducible apply State.passRecord_fr
    | with_reducible apply fr_foldl
    | split
    | dsimp only)

theorem State.checkStamps_fr (s : State) (hF : within 58720262 F = true) (h : Fr F v s) :
    Fr F v (State.checkStamps s) := by
  unfold State.checkStamps
  repeat' (first
    | with_reducible assumption
    | exact within_trans hF rfl
    | exact bit_within hF rfl
    | with_reducible intro _
    | with_reducible apply fr_ite
    | with_reducible apply State.set_fr
    | with_reducible apply State.flag_fr
    | with_reducible apply State.ownLog_fr
    | split
    | dsimp only)

theorem State.clearPending_fr (s : State) (e : Nat) (hF : within 134217728 F = true) (h : Fr F v s) :
    Fr F v (State.clearPending s e) := by
  unfold State.clearPending
  repeat' (first
    | with_reducible assumption
    | exact within_trans hF rfl
    | exact bit_within hF rfl
    | with_reducible intro _
    | with_reducible apply fr_ite
    | with_reducible apply State.setCtl_fr
    | split
    | dsimp only)

theorem State.voidEntry_fr (s : State) (e : Nat) (content : Bytes) (hF : within 461373446 F = true) (h : Fr F v s) :
    Fr F v (State.voidEntry s e content) := by
  unfold State.voidEntry
  repeat' (first
    | with_reducible assumption
    | exact within_trans hF rfl
    | exact bit_within hF rfl
    | with_reducible intro _
    | with_reducible apply fr_ite
    | with_reducible apply State.flag_fr
    | with_reducible apply State.ownLog_fr
    | with_reducible apply State.takeEvent_fr
    | with_reducible apply State.clearPending_fr
    | split
    | dsimp only
    | (with_reducible apply fr_mems_vint; exact bit_within hF rfl
       first
         | with_reducible assumption
         | with_reducible apply fr_ite
         | with_reducible apply State.flag_fr
         | with_reducible apply State.ownLog_fr
         | with_reducible apply State.takeEvent_fr
         | with_reducible apply State.clearPending_fr
         | split))

theorem State.checkVintage_fr (s : State) (hF : within 461373446 F = true) (h : Fr F v s) :
    Fr F v (State.checkVintage s) := by
  unfold State.checkVintage
  repeat' (first
    | with_reducible assumption
    | exact within_trans hF rfl
    | exact bit_within hF rfl
    | with_reducible intro _
    | with_reducible apply fr_ite
    | with_reducible apply State.flagFirst_fr
    | with_reducible apply State.ownLog_fr
    | with_reducible apply State.clearPending_fr
    | with_reducible apply State.voidEntry_fr
    | with_reducible apply fr_foldl
    | split
    | dsimp only)

theorem State.resumePending_fr (s : State) (hF : within 192937990 F = true) (h : Fr F v s) :
    Fr F v (State.resumePending s) := by
  unfold State.resumePending
  repeat' (first
    | with_reducible assumption
    | exact within_trans hF rfl
    | exact bit_within hF rfl
    | with_reducible intro _
    | with_reducible apply fr_ite
    | with_reducible apply State.flag_fr
    | with_reducible apply State.queueVintage_fr
    | with_reducible apply fr_foldl
    | split
    | dsimp only)

theorem State.resumeBound_fr (s : State) (hF : within 192937990 F = true) (h : Fr F v s) :
    Fr F v (State.resumeBound s) := by
  unfold State.resumeBound
  repeat' (first
    | with_reducible assumption
    | exact within_trans hF rfl
    | exact bit_within hF rfl
    | with_reducible intro _
    | with_reducible apply fr_ite
    | with_reducible apply State.queueVintage_fr
    | with_reducible apply State.takeEvent_fr
    | with_reducible apply fr_foldl
    | split
    | dsimp only)

theorem State.caskScan_fr (s : State) (hF : within 281475505192966 F = true) (h : Fr F v s) :
    Fr F v (State.caskScan s) := by
  unfold State.caskScan
  repeat' (first
    | with_reducible assumption
    | exact within_trans hF rfl
    | exact bit_within hF rfl
    | with_reducible intro _
    | with_reducible apply fr_ite
    | with_reducible apply State.applyShadow_fr
    | with_reducible apply State.endClear_fr
    | with_reducible apply State.checkIndex_fr
    | with_reducible apply State.checkRetention_fr
    | with_reducible apply State.checkTorn_fr
    | with_reducible apply State.checkStamps_fr
    | with_reducible apply State.checkVintage_fr
    | with_reducible apply State.resumePending_fr
    | with_reducible apply State.resumeBound_fr
    | split
    | dsimp only
    | (with_reducible apply fr_cask; exact bit_within hF rfl
       first
         | with_reducible assumption
         | with_reducible apply fr_ite
         | with_reducible apply State.applyShadow_fr
         | with_reducible apply State.endClear_fr
         | with_reducible apply State.checkIndex_fr
         | with_reducible apply State.checkRetention_fr
         | with_reducible apply State.checkTorn_fr
         | with_reducible apply State.checkStamps_fr
         | with_reducible apply State.checkVintage_fr
         | with_reducible apply State.resumePending_fr
         | with_reducible apply State.resumeBound_fr
         | split))

theorem execCaskStartScan_fr (s : State) (hF : within 281475505192966 F = true) (h : Fr F v s) :
    FrOut F v (execCaskStartScan s) := by
  unfold execCaskStartScan
  repeat' (first
    | with_reducible assumption
    | exact within_trans hF rfl
    | exact bit_within hF rfl
    | with_reducible apply frOut_next
    | with_reducible intro _
    | with_reducible apply fr_ite
    | with_reducible apply State.when_fr
    | with_reducible apply State.caskScan_fr
    | split
    | dsimp only)

theorem execVintageProgramDone_fr (ok : Bool) (s : State) (hF : within 281475438084103 F = true) (h : Fr F v s) :
    FrOut F v (execVintageProgramDone ok s) := by
  unfold execVintageProgramDone
  repeat' (first
    | with_reducible assumption
    | exact within_trans hF rfl
    | exact bit_within hF rfl
    | with_reducible apply frOut_next
    | with_reducible intro _
    | with_reducible apply fr_ite
    | with_reducible apply fr_ite_snd
    | with_reducible apply State.arm_fr
    | with_reducible apply State.onTimer_fr
    | with_reducible apply State.draw_fr
    | with_reducible apply State.clearPending_fr
    | with_reducible apply State.voidEntry_fr
    | split
    | dsimp only
    | (with_reducible apply fr_cask; exact bit_within hF rfl; with_reducible apply fr_mems_vint; exact bit_within hF rfl
       first
         | with_reducible assumption
         | with_reducible apply fr_ite
         | with_reducible apply fr_ite_snd
         | with_reducible apply State.arm_fr
         | with_reducible apply State.onTimer_fr
         | with_reducible apply State.draw_fr
         | with_reducible apply State.clearPending_fr
         | with_reducible apply State.voidEntry_fr
         | split))

theorem State.beginClear_fr (s : State) (hF : within 234881026 F = true) (h : Fr F v s) :
    Fr F v (State.beginClear s) := by
  unfold State.beginClear
  repeat' (first
    | with_reducible assumption
    | exact within_trans hF rfl
    | exact bit_within hF rfl
    | with_reducible intro _
    | with_reducible apply fr_ite
    | with_reducible apply State.arm_fr
    | with_reducible apply State.setCtl_fr
    | split
    | dsimp only
    | (with_reducible apply fr_cask; exact bit_within hF rfl; with_reducible apply fr_mems_cask; exact bit_within hF rfl
       first
         | with_reducible assumption
         | with_reducible apply fr_ite
         | with_reducible apply State.arm_fr
         | with_reducible apply State.setCtl_fr
         | split))

theorem execCaskClearDone_fr (s : State) (hF : within 281475236757511 F = true) (h : Fr F v s) :
    FrOut F v (execCaskClearDone s) := by
  unfold execCaskClearDone
  repeat' (first
    | with_reducible assumption
    | exact within_trans hF rfl
    | exact bit_within hF rfl
    | with_reducible apply frOut_next
    | with_reducible intro _
    | with_reducible apply fr_ite
    | with_reducible apply State.onTimer_fr
    | with_reducible apply State.endClear_fr
    | split
    | dsimp only)

theorem State.cutRecord_fr (s : State) (hF : within 281475228368902 F = true) (h : Fr F v s) :
    Fr F v (State.cutRecord s) := by
  unfold State.cutRecord
  repeat' (first
    | with_reducible assumption
    | exact within_trans hF rfl
    | exact bit_within hF rfl
    | with_reducible intro _
    | with_reducible apply fr_ite
    | with_reducible apply fr_ite_snd
    | with_reducible apply State.draw_fr
    | with_reducible apply State.setCtl_fr
    | with_reducible apply State.setCask_fr
    | refine State.nextLog_fr _ _ _ (by assumption) (within_trans hF rfl) ?_
    | split
    | dsimp only)

theorem State.cutEntry_fr (s : State) (hF : within 281475245146112 F = true) (h : Fr F v s) :
    Fr F v (State.cutEntry s) := by
  unfold State.cutEntry
  repeat' (first
    | with_reducible assumption
    | exact within_trans hF rfl
    | exact bit_within hF rfl
    | with_reducible intro _
    | with_reducible apply fr_ite
    | with_reducible apply fr_ite_snd
    | with_reducible apply State.draw_fr
    | with_reducible apply fr_foldl
    | split
    | dsimp only
    | (with_reducible apply fr_mems_vint; exact bit_within hF rfl
       first
         | with_reducible assumption
         | with_reducible apply fr_ite
         | with_reducible apply fr_ite_snd
         | with_reducible apply State.draw_fr
         | with_reducible apply fr_foldl
         | split))

end Sys2Proof.Machine
end

