-- ==== Sys2Proof/Laws/FramePathOps.lean ====
section
/-!
SUPPORT. The frames of the functions of Sys2Proof/Machine/PathOps.lean, one lemma for each of them (Laws/Frame.lean).
-/

namespace Sys2Proof.Machine

set_option linter.unusedTactic false
set_option linter.unreachableTactic false
set_option linter.unusedVariables false

open Sys2Proof

variable {F : Nat} {v : State}

theorem State.setPath_fr (s : State) (p : Nat) (r : PathRun) (hF : within 68719476736 F = true) (h : Fr F v s) :
    Fr F v (State.setPath s p r) := by
  unfold State.setPath
  repeat' (first
    | with_reducible assumption
    | exact within_trans hF rfl
    | exact bit_within hF rfl
    | with_reducible intro _
    | with_reducible apply fr_ite
    | split
    | dsimp only
    | (with_reducible apply fr_paths; exact bit_within hF rfl
       first
         | with_reducible assumption
         | with_reducible apply fr_ite
         | split))

theorem State.fabEvent_fr (s : State) (p input : Nat) (hF : within 68778196998 F = true) (h : Fr F v s) :
    Fr F v (State.fabEvent s p input) := by
  unfold State.fabEvent
  repeat' (first
    | with_reducible assumption
    | exact within_trans hF rfl
    | exact bit_within hF rfl
    | with_reducible intro _
    | with_reducible apply fr_ite
    | with_reducible apply State.set_fr
    | with_reducible apply State.bump_fr
    | with_reducible apply State.log_fr
    | with_reducible apply State.flagFirst_fr
    | with_reducible apply State.setPath_fr
    | split
    | dsimp only)

theorem State.moveGain_fr (s : State) (p : Nat) (hF : within 68719476740 F = true) (h : Fr F v s) :
    Fr F v (State.moveGain s p) := by
  unfold State.moveGain
  repeat' (first
    | with_reducible assumption
    | exact within_trans hF rfl
    | exact bit_within hF rfl
    | with_reducible intro _
    | with_reducible apply fr_ite
    | with_reducible apply State.set_fr
    | with_reducible apply State.setI_fr
    | with_reducible apply State.setPath_fr
    | split
    | dsimp only)

theorem State.moveGains_fr (s : State) (hF : within 68719476740 F = true) (h : Fr F v s) :
    Fr F v (State.moveGains s) := by
  unfold State.moveGains
  repeat' (first
    | with_reducible assumption
    | exact within_trans hF rfl
    | exact bit_within hF rfl
    | with_reducible intro _
    | with_reducible apply fr_ite
    | with_reducible apply State.moveGain_fr
    | with_reducible apply fr_foldl
    | split
    | dsimp only)

theorem State.muteOne_fr (s : State) (p : Nat) (hF : within 68719476742 F = true) (h : Fr F v s) :
    Fr F v (State.muteOne s p) := by
  unfold State.muteOne
  repeat' (first
    | with_reducible assumption
    | exact within_trans hF rfl
    | exact bit_within hF rfl
    | with_reducible intro _
    | with_reducible apply fr_ite
    | with_reducible apply State.set_fr
    | with_reducible apply State.disarm_fr
    | with_reducible apply State.setPath_fr
    | with_reducible apply State.moveGain_fr
    | split
    | dsimp only)

theorem State.closeGates_fr (s : State) (hF : within 68719476742 F = true) (h : Fr F v s) :
    Fr F v (State.closeGates s) := by
  unfold State.closeGates
  repeat' (first
    | with_reducible assumption
    | exact within_trans hF rfl
    | exact bit_within hF rfl
    | with_reducible intro _
    | with_reducible apply fr_ite
    | with_reducible apply State.set_fr
    | with_reducible apply State.disarm_fr
    | with_reducible apply State.moveGain_fr
    | with_reducible apply fr_foldl
    | split
    | dsimp only)

theorem State.endHold_fr (s : State) (hF : within 1168231104518 F = true) (h : Fr F v s) :
    Fr F v (State.endHold s) := by
  unfold State.endHold
  repeat' (first
    | with_reducible assumption
    | exact within_trans hF rfl
    | exact bit_within hF rfl
    | with_reducible intro _
    | with_reducible apply fr_ite
    | with_reducible apply State.closeGates_fr
    | split
    | dsimp only
    | (with_reducible apply fr_le; exact bit_within hF rfl
       first
         | with_reducible assumption
         | with_reducible apply fr_ite
         | with_reducible apply State.closeGates_fr
         | split))

theorem State.mutePath_fr (s : State) (p : Nat) (hF : within 1168231104518 F = true) (h : Fr F v s) :
    Fr F v (State.mutePath s p) := by
  unfold State.mutePath
  repeat' (first
    | with_reducible assumption
    | exact within_trans hF rfl
    | exact bit_within hF rfl
    | with_reducible intro _
    | with_reducible apply fr_ite
    | with_reducible apply State.muteOne_fr
    | with_reducible apply State.endHold_fr
    | split
    | dsimp only)

theorem State.mutePaths_fr (s : State) (ps : List Nat) (hF : within 1168231104518 F = true) (h : Fr F v s) :
    Fr F v (State.mutePaths s ps) := by
  unfold State.mutePaths
  repeat' (first
    | with_reducible assumption
    | exact within_trans hF rfl
    | exact bit_within hF rfl
    | with_reducible intro _
    | with_reducible apply fr_ite
    | with_reducible apply State.mutePath_fr
    | with_reducible apply fr_foldl
    | split
    | dsimp only)

theorem State.hardMute_fr (s : State) (hF : within 1168231104662 F = true) (h : Fr F v s) :
    Fr F v (State.hardMute s) := by
  unfold State.hardMute
  repeat' (first
    | with_reducible assumption
    | exact within_trans hF rfl
    | exact bit_within hF rfl
    | with_reducible intro _
    | with_reducible apply fr_ite
    | with_reducible apply State.mutePath_fr
    | with_reducible apply fr_foldl
    | split
    | dsimp only
    | (with_reducible apply fr_pins; exact bit_within hF rfl; with_reducible apply fr_pins_rfMuteN; exact bit_within hF rfl
       first
         | with_reducible assumption
         | with_reducible apply fr_ite
         | with_reducible apply State.mutePath_fr
         | with_reducible apply fr_foldl
         | split))

theorem State.startSettle_fr (s : State) (p : Nat) (hF : within 1168231104518 F = true) (h : Fr F v s) :
    Fr F v (State.startSettle s p) := by
  unfold State.startSettle
  repeat' (first
    | with_reducible assumption
    | exact within_trans hF rfl
    | exact bit_within hF rfl
    | with_reducible intro _
    | with_reducible apply fr_ite
    | with_reducible apply State.set_fr
    | with_reducible apply State.bump_fr
    | with_reducible apply State.arm_fr
    | with_reducible apply State.setPath_fr
    | with_reducible apply State.endHold_fr
    | split
    | dsimp only)

theorem State.settleAll_fr (s : State) (ps : List Nat) (hF : within 1168231104518 F = true) (h : Fr F v s) :
    Fr F v (State.settleAll s ps) := by
  unfold State.settleAll
  repeat' (first
    | with_reducible assumption
    | exact within_trans hF rfl
    | exact bit_within hF rfl
    | with_reducible intro _
    | with_reducible apply fr_ite
    | with_reducible apply State.startSettle_fr
    | with_reducible apply fr_foldl
    | split
    | dsimp only)

end Sys2Proof.Machine
end

