-- ==== Sys2Proof/Laws/FrameRfOps.lean ====
section
/-!
SUPPORT. The frames of the functions of Sys2Proof/Machine/RfOps.lean, one lemma for each of them (Laws/Frame.lean).
-/

namespace Sys2Proof.Machine

set_option linter.unusedTactic false
set_option linter.unreachableTactic false
set_option linter.unusedVariables false

open Sys2Proof

variable {F : Nat} {v : State}

theorem State.paOff_fr (s : State) (hF : within 84 F = true) (h : Fr F v s) :
    Fr F v (State.paOff s) := by
  unfold State.paOff
  repeat' (first
    | with_reducible assumption
    | exact within_trans hF rfl
    | exact bit_within hF rfl
    | with_reducible intro _
    | with_reducible apply fr_ite
    | with_reducible apply State.set_fr
    | with_reducible apply fr_foldl
    | split
    | dsimp only
    | (with_reducible apply fr_pins; exact bit_within hF rfl; with_reducible apply fr_pins_paEn; exact bit_within hF rfl
       first
         | with_reducible assumption
         | with_reducible apply fr_ite
         | with_reducible apply State.set_fr
         | with_reducible apply fr_foldl
         | split))

theorem State.returnMargin_fr (s : State) (m : Nat) (hF : within 51598327830 F = true) (h : Fr F v s) :
    Fr F v (State.returnMargin s m) := by
  unfold State.returnMargin
  repeat' (first
    | with_reducible assumption
    | exact within_trans hF rfl
    | exact bit_within hF rfl
    | with_reducible intro _
    | with_reducible apply fr_ite
    | with_reducible apply State.set_fr
    | with_reducible apply State.arm_fr
    | with_reducible apply State.flag_fr
    | split
    | dsimp only
    | (with_reducible apply fr_pins; exact bit_within hF rfl; with_reducible apply fr_rail; exact bit_within hF rfl; with_reducible apply fr_margin; exact bit_within hF rfl
       first
         | with_reducible assumption
         | with_reducible apply fr_ite
         | with_reducible apply State.set_fr
         | with_reducible apply State.arm_fr
         | with_reducible apply State.flag_fr
         | split))

theorem State.returnMargins_fr (s : State) (hF : within 51598327830 F = true) (h : Fr F v s) :
    Fr F v (State.returnMargins s) := by
  unfold State.returnMargins
  repeat' (first
    | with_reducible assumption
    | exact within_trans hF rfl
    | exact bit_within hF rfl
    | with_reducible intro _
    | with_reducible apply fr_ite
    | with_reducible apply State.returnMargin_fr
    | with_reducible apply fr_foldl
    | split
    | dsimp only)

theorem State.lastHeartbeat_fr (s : State) (hF : within 16777216 F = true) (h : Fr F v s) :
    Fr F v (State.lastHeartbeat s) := by
  unfold State.lastHeartbeat
  repeat' (first
    | with_reducible assumption
    | exact within_trans hF rfl
    | exact bit_within hF rfl
    | with_reducible intro _
    | with_reducible apply fr_ite
    | with_reducible apply fr_foldl
    | split
    | dsimp only
    | (with_reducible apply fr_q; exact bit_within hF rfl
       first
         | with_reducible assumption
         | with_reducible apply fr_ite
         | with_reducible apply fr_foldl
         | split))

end Sys2Proof.Machine
end

