-- ==== Sys2Proof/Laws/FrameReply.lean ====
section
/-!
SUPPORT. The frames of the functions of Sys2Proof/Machine/Reply.lean, one lemma for each of them (Laws/Frame.lean).
-/

namespace Sys2Proof.Machine

set_option linter.unusedTactic false
set_option linter.unreachableTactic false
set_option linter.unusedVariables false

open Sys2Proof

variable {F : Nat} {v : State}

theorem State.setSession_fr (s : State) (x : Session) (hF : within 73728 F = true) (h : Fr F v s) :
    Fr F v (State.setSession s x) := by
  unfold State.setSession
  repeat' (first
    | with_reducible assumption
    | exact within_trans hF rfl
    | exact bit_within hF rfl
    | with_reducible intro _
    | with_reducible apply fr_ite
    | split
    | dsimp only
    | (with_reducible apply fr_sec; exact bit_within hF rfl; with_reducible apply fr_sec_sessions; exact bit_within hF rfl
       first
         | with_reducible assumption
         | with_reducible apply fr_ite
         | split))

theorem State.protect_fr (s : State) (d : ReplyTo) (own : Nat) (body : Bytes) (hF : within 73728 F = true) (h : Fr F v s) :
    Fr F v (State.protect s d own body).2.2 := by
  unfold State.protect
  repeat' (first
    | with_reducible assumption
    | exact within_trans hF rfl
    | exact bit_within hF rfl
    | with_reducible intro _
    | with_reducible apply fr_ite
    | with_reducible apply State.setSession_fr
    | split
    | dsimp only
    | (with_reducible apply fr_sec; exact bit_within hF rfl
       first
         | with_reducible assumption
         | with_reducible apply fr_ite
         | with_reducible apply State.setSession_fr
         | split))

theorem State.remember_fr (s : State) (peer tid : Nat) (fs : List (Nat × CanFrame)) (hF : within 4194304 F = true) (h : Fr F v s) :
    Fr F v (State.remember s peer tid fs) := by
  unfold State.remember
  repeat' (first
    | with_reducible assumption
    | exact within_trans hF rfl
    | exact bit_within hF rfl
    | with_reducible intro _
    | with_reducible apply fr_ite
    | split
    | dsimp only
    | (with_reducible apply fr_field; exact bit_within hF rfl
       first
         | with_reducible assumption
         | with_reducible apply fr_ite
         | split))

theorem State.reply_fr (s : State) (d : ReplyTo) (deferred : Bool) (body : Bytes) (hF : within 54599686 F = true) (h : Fr F v s) :
    Fr F v (State.reply s d deferred body) := by
  unfold State.reply
  repeat' (first
    | with_reducible assumption
    | exact within_trans hF rfl
    | exact bit_within hF rfl
    | with_reducible intro _
    | with_reducible apply fr_ite
    | with_reducible apply State.post_fr
    | with_reducible apply State.sendFrames_fr
    | with_reducible apply State.protect_fr
    | with_reducible apply State.remember_fr
    | split
    | dsimp only)

theorem State.noteConflict_fr (s : State) (detail peer svc : Nat) (req : Bytes) (hF : within 58720262 F = true) (h : Fr F v s) :
    Fr F v (State.noteConflict s detail peer svc req) := by
  unfold State.noteConflict
  repeat' (first
    | with_reducible assumption
    | exact within_trans hF rfl
    | exact bit_within hF rfl
    | with_reducible intro _
    | with_reducible apply fr_ite
    | with_reducible apply State.set_fr
    | with_reducible apply State.bump_fr
    | with_reducible apply State.flag_fr
    | split
    | dsimp only)

theorem State.abort_fr (s : State) (c : Caller) (req : Bytes) (a : Abort) (hF : within 62988294 F = true) (h : Fr F v s) :
    Fr F v (State.abort s c req a) := by
  unfold State.abort
  repeat' (first
    | with_reducible assumption
    | exact within_trans hF rfl
    | exact bit_within hF rfl
    | with_reducible intro _
    | with_reducible apply fr_ite
    | with_reducible apply State.bump_fr
    | with_reducible apply State.reply_fr
    | with_reducible apply State.noteConflict_fr
    | split
    | dsimp only
    | (with_reducible apply fr_hp; exact bit_within hF rfl
       first
         | with_reducible assumption
         | with_reducible apply fr_ite
         | with_reducible apply State.bump_fr
         | with_reducible apply State.reply_fr
         | with_reducible apply State.noteConflict_fr
         | split))

theorem State.answer_fr (s : State) (c : Caller) (body : Bytes) (hF : within 54599686 F = true) (h : Fr F v s) :
    Fr F v (State.answer s c body) := by
  unfold State.answer
  repeat' (first
    | with_reducible assumption
    | exact within_trans hF rfl
    | exact bit_within hF rfl
    | with_reducible intro _
    | with_reducible apply fr_ite
    | with_reducible apply State.reply_fr
    | split
    | dsimp only)

theorem State.done_fr (s : State) (c : Caller) (index sub : Nat) (hF : within 54599686 F = true) (h : Fr F v s) :
    Fr F v (State.done s c index sub) := by
  unfold State.done
  repeat' (first
    | with_reducible assumption
    | exact within_trans hF rfl
    | exact bit_within hF rfl
    | with_reducible intro _
    | with_reducible apply fr_ite
    | with_reducible apply State.answer_fr
    | split
    | dsimp only)

end Sys2Proof.Machine
end

