-- ==== Sys2Proof/Laws/FrameAccess.lean ====
section
/-!
SUPPORT. The frames of the functions of Sys2Proof/Machine/Access.lean, one lemma for each of them (Laws/Frame.lean).
-/

namespace Sys2Proof.Machine

set_option linter.unusedTactic false
set_option linter.unreachableTactic false
set_option linter.unusedVariables false

open Sys2Proof

variable {F : Nat} {v : State}

theorem State.setStage_fr (s : State) (who : StageId) (entries : List (Nat × Nat)) (hF : within 262144 F = true) (h : Fr F v s) :
    Fr F v (State.setStage s who entries) := by
  unfold State.setStage
  repeat' (first
    | with_reducible assumption
    | exact within_trans hF rfl
    | exact bit_within hF rfl
    | with_reducible intro _
    | with_reducible apply fr_ite
    | split
    | dsimp only
    | (with_reducible apply fr_eng; exact bit_within hF rfl
       first
         | with_reducible assumption
         | with_reducible apply fr_ite
         | split))

end Sys2Proof.Machine
end

