-- ==== Sys2Proof/Laws/FrameGainOps.lean ====
section
/-!
SUPPORT. The frames of the functions of Sys2Proof/Machine/GainOps.lean, one lemma for each of them (Laws/Frame.lean).
-/

namespace Sys2Proof.Machine

set_option linter.unusedTactic false
set_option linter.unreachableTactic false
set_option linter.unusedVariables false

open Sys2Proof

variable {F : Nat} {v : State}

theorem State.setLane_fr (s : State) (n : Nat) (r : LaneRun) (hF : within 4398046511104 F = true) (h : Fr F v s) :
    Fr F v (State.setLane s n r) := by
  unfold State.setLane
  repeat' (first
    | with_reducible assumption
    | exact within_trans hF rfl
    | exact bit_within hF rfl
    | with_reducible intro _
    | with_reducible apply fr_ite
    | split
    | dsimp only
    | (with_reducible apply fr_pa; exact bit_within hF rfl
       first
         | with_reducible assumption
         | with_reducible apply fr_ite
         | split))

theorem State.noteGrant_fr (s : State) (g : Grant) (hF : within 68778196998 F = true) (h : Fr F v s) :
    Fr F v (State.noteGrant s g) := by
  unfold State.noteGrant
  repeat' (first
    | with_reducible assumption
    | exact within_trans hF rfl
    | exact bit_within hF rfl
    | with_reducible intro _
    | with_reducible apply fr_ite
    | with_reducible apply State.log_fr
    | with_reducible apply State.flag_fr
    | with_reducible apply State.flagFirst_fr
    | with_reducible apply State.setPath_fr
    | with_reducible apply fr_foldl
    | split
    | dsimp only)

theorem State.arbitrate_fr (s : State) (hF : within 68778196998 F = true) (h : Fr F v s) :
    Fr F v (State.arbitrate s) := by
  unfold State.arbitrate
  repeat' (first
    | with_reducible assumption
    | exact within_trans hF rfl
    | exact bit_within hF rfl
    | with_reducible intro _
    | with_reducible apply fr_ite
    | with_reducible apply State.set_fr
    | with_reducible apply State.noteGrant_fr
    | with_reducible apply fr_foldl
    | split
    | dsimp only)

theorem State.noteComputed_fr (s : State) (p : Nat) (pa : Option Int) (g : Int) (hF : within 68778196998 F = true) (h : Fr F v s) :
    Fr F v (State.noteComputed s p pa g) := by
  unfold State.noteComputed
  repeat' (first
    | with_reducible assumption
    | exact within_trans hF rfl
    | exact bit_within hF rfl
    | with_reducible intro _
    | with_reducible apply fr_ite
    | with_reducible apply State.set_fr
    | with_reducible apply State.flag_fr
    | with_reducible apply State.setPath_fr
    | with_reducible apply State.fabEvent_fr
    | split
    | dsimp only)

theorem State.waitProbe_fr (s : State) (p : Nat) (hF : within 2 F = true) (h : Fr F v s) :
    Fr F v (State.waitProbe s p) := by
  unfold State.waitProbe
  repeat' (first
    | with_reducible assumption
    | exact within_trans hF rfl
    | exact bit_within hF rfl
    | with_reducible intro _
    | with_reducible apply fr_ite
    | with_reducible apply State.arm_fr
    | split
    | dsimp only)

theorem State.computeBand_fr (s : State) (b : Nat × Nat) (hF : within 1168289824774 F = true) (h : Fr F v s) :
    Fr F v (State.computeBand s b) := by
  unfold State.computeBand
  repeat' (first
    | with_reducible assumption
    | exact within_trans hF rfl
    | exact bit_within hF rfl
    | with_reducible intro _
    | with_reducible apply fr_ite
    | with_reducible apply State.mutePath_fr
    | with_reducible apply State.noteComputed_fr
    | with_reducible apply State.waitProbe_fr
    | split
    | dsimp only)

theorem State.rebalance_fr (s : State) (hF : within 1168289824774 F = true) (h : Fr F v s) :
    Fr F v (State.rebalance s) := by
  unfold State.rebalance
  repeat' (first
    | with_reducible assumption
    | exact within_trans hF rfl
    | exact bit_within hF rfl
    | with_reducible intro _
    | with_reducible apply fr_ite
    | with_reducible apply State.moveGains_fr
    | with_reducible apply State.arbitrate_fr
    | with_reducible apply State.computeBand_fr
    | with_reducible apply fr_foldl
    | split
    | dsimp only)

end Sys2Proof.Machine
end

