-- ==== Sys2Proof/Laws/FrameTiu.lean ====
section
/-!
SUPPORT. The frames of the functions of Sys2Proof/Machine/Tiu.lean, one lemma for each of them (Laws/Frame.lean).
-/

namespace Sys2Proof.Machine

set_option linter.unusedTactic false
set_option linter.unreachableTactic false
set_option linter.unusedVariables false

open Sys2Proof

variable {F : Nat} {v : State}

theorem State.scheduleBurst_fr (s : State) (us : Nat) (hF : within 2 F = true) (h : Fr F v s) :
    Fr F v (State.scheduleBurst s us) := by
  unfold State.scheduleBurst
  repeat' (first
    | with_reducible assumption
    | exact within_trans hF rfl
    | exact bit_within hF rfl
    | with_reducible intro _
    | with_reducible apply fr_ite
    | with_reducible apply State.arm_fr
    | split
    | dsimp only)

theorem State.setRefWarm_fr (s : State) (hF : within 1168231104662 F = true) (h : Fr F v s) :
    Fr F v (State.setRefWarm s) := by
  unfold State.setRefWarm
  repeat' (first
    | with_reducible assumption
    | exact within_trans hF rfl
    | exact bit_within hF rfl
    | with_reducible intro _
    | with_reducible apply fr_ite
    | with_reducible apply State.set_fr
    | with_reducible apply State.mutePaths_fr
    | with_reducible apply State.hardMute_fr
    | split
    | dsimp only)

theorem State.clearRefWarm_fr (s : State) (hF : within 35184372088838 F = true) (h : Fr F v s) :
    Fr F v (State.clearRefWarm s) := by
  unfold State.clearRefWarm
  repeat' (first
    | with_reducible assumption
    | exact within_trans hF rfl
    | exact bit_within hF rfl
    | with_reducible intro _
    | with_reducible apply fr_ite
    | with_reducible apply State.set_fr
    | with_reducible apply State.scheduleBurst_fr
    | split
    | dsimp only
    | (with_reducible apply fr_tiu; exact bit_within hF rfl
       first
         | with_reducible assumption
         | with_reducible apply fr_ite
         | with_reducible apply State.set_fr
         | with_reducible apply State.scheduleBurst_fr
         | split))

theorem State.startWarm_fr (s : State) (hF : within 35184372088834 F = true) (h : Fr F v s) :
    Fr F v (State.startWarm s) := by
  unfold State.startWarm
  repeat' (first
    | with_reducible assumption
    | exact within_trans hF rfl
    | exact bit_within hF rfl
    | with_reducible intro _
    | with_reducible apply fr_ite
    | with_reducible apply State.arm_fr
    | split
    | dsimp only
    | (with_reducible apply fr_tiu; exact bit_within hF rfl
       first
         | with_reducible assumption
         | with_reducible apply fr_ite
         | with_reducible apply State.arm_fr
         | split))

theorem State.warmRefLost_fr (s : State) (hF : within 36352603193494 F = true) (h : Fr F v s) :
    Fr F v (State.warmRefLost s) := by
  unfold State.warmRefLost
  repeat' (first
    | with_reducible assumption
    | exact within_trans hF rfl
    | exact bit_within hF rfl
    | with_reducible intro _
    | with_reducible apply fr_ite
    | with_reducible apply State.disarm_fr
    | with_reducible apply State.setRefWarm_fr
    | split
    | dsimp only
    | (with_reducible apply fr_tiu; exact bit_within hF rfl
       first
         | with_reducible assumption
         | with_reducible apply fr_ite
         | with_reducible apply State.disarm_fr
         | with_reducible apply State.setRefWarm_fr
         | split))

theorem State.warmRefBack_fr (s : State) (hF : within 35184372088834 F = true) (h : Fr F v s) :
    Fr F v (State.warmRefBack s) := by
  unfold State.warmRefBack
  repeat' (first
    | with_reducible assumption
    | exact within_trans hF rfl
    | exact bit_within hF rfl
    | with_reducible intro _
    | with_reducible apply fr_ite
    | with_reducible apply State.startWarm_fr
    | split
    | dsimp only)

theorem execOvenOkHigh_fr (s : State) (hF : within 35184372088854 F = true) (h : Fr F v s) :
    FrOut F v (execOvenOkHigh s) := by
  unfold execOvenOkHigh
  repeat' (first
    | with_reducible assumption
    | exact within_trans hF rfl
    | exact bit_within hF rfl
    | with_reducible apply frOut_next
    | with_reducible intro _
    | with_reducible apply fr_ite
    | with_reducible apply State.set_fr
    | with_reducible apply State.when_fr
    | with_reducible apply State.clearRefWarm_fr
    | with_reducible apply State.startWarm_fr
    | split
    | dsimp only
    | (with_reducible apply fr_pins; exact bit_within hF rfl; with_reducible apply fr_tiu; exact bit_within hF rfl
       first
         | with_reducible assumption
         | with_reducible apply fr_ite
         | with_reducible apply State.set_fr
         | with_reducible apply State.when_fr
         | with_reducible apply State.clearRefWarm_fr
         | with_reducible apply State.startWarm_fr
         | split))

theorem execOvenOkLow_fr (s : State) (hF : within 36352661913750 F = true) (h : Fr F v s) :
    FrOut F v (execOvenOkLow s) := by
  unfold execOvenOkLow
  repeat' (first
    | with_reducible assumption
    | exact within_trans hF rfl
    | exact bit_within hF rfl
    | with_reducible apply frOut_next
    | with_reducible intro _
    | with_reducible apply fr_ite
    | with_reducible apply State.set_fr
    | with_reducible apply State.disarm_fr
    | with_reducible apply State.when_fr
    | with_reducible apply State.faultRow_fr
    | with_reducible apply State.setRefWarm_fr
    | split
    | dsimp only
    | (with_reducible apply fr_pins; exact bit_within hF rfl; with_reducible apply fr_tiu; exact bit_within hF rfl
       first
         | with_reducible assumption
         | with_reducible apply fr_ite
         | with_reducible apply State.set_fr
         | with_reducible apply State.disarm_fr
         | with_reducible apply State.when_fr
         | with_reducible apply State.faultRow_fr
         | with_reducible apply State.setRefWarm_fr
         | split))

theorem execWarmTimerExpiry_fr (s : State) (hF : within 35184372088839 F = true) (h : Fr F v s) :
    FrOut F v (execWarmTimerExpiry s) := by
  unfold execWarmTimerExpiry
  repeat' (first
    | with_reducible assumption
    | exact within_trans hF rfl
    | exact bit_within hF rfl
    | with_reducible apply frOut_next
    | with_reducible intro _
    | with_reducible apply fr_ite
    | with_reducible apply State.onTimer_fr
    | with_reducible apply State.clearRefWarm_fr
    | split
    | dsimp only
    | (with_reducible apply fr_tiu; exact bit_within hF rfl
       first
         | with_reducible assumption
         | with_reducible apply fr_ite
         | with_reducible apply State.onTimer_fr
         | with_reducible apply State.clearRefWarm_fr
         | split))

theorem State.publishTiu_fr (s : State) (interval cause : Nat) (hF : within 35184372088836 F = true) (h : Fr F v s) :
    Fr F v (State.publishTiu s interval cause) := by
  unfold State.publishTiu
  repeat' (first
    | with_reducible assumption
    | exact within_trans hF rfl
    | exact bit_within hF rfl
    | with_reducible intro _
    | with_reducible apply fr_ite
    | with_reducible apply State.set_fr
    | with_reducible apply State.bump_fr
    | split
    | dsimp only
    | (with_reducible apply fr_tiu; exact bit_within hF rfl
       first
         | with_reducible assumption
         | with_reducible apply fr_ite
         | with_reducible apply State.set_fr
         | with_reducible apply State.bump_fr
         | split))

theorem State.beginBurst_fr (s : State) (hF : within 35184372088838 F = true) (h : Fr F v s) :
    Fr F v (State.beginBurst s) := by
  unfold State.beginBurst
  repeat' (first
    | with_reducible assumption
    | exact within_trans hF rfl
    | exact bit_within hF rfl
    | with_reducible intro _
    | with_reducible apply fr_ite
    | with_reducible apply State.set_fr
    | with_reducible apply State.arm_fr
    | split
    | dsimp only
    | (with_reducible apply fr_tiu; exact bit_within hF rfl
       first
         | with_reducible assumption
         | with_reducible apply fr_ite
         | with_reducible apply State.set_fr
         | with_reducible apply State.arm_fr
         | split))

theorem State.channelFree_fr (s : State) (rearm : Bool) (hF : within 35184372088838 F = true) (h : Fr F v s) :
    Fr F v (State.channelFree s rearm) := by
  unfold State.channelFree
  repeat' (first
    | with_reducible assumption
    | exact within_trans hF rfl
    | exact bit_within hF rfl
    | with_reducible intro _
    | with_reducible apply fr_ite
    | with_reducible apply State.set_fr
    | with_reducible apply State.beginBurst_fr
    | split
    | dsimp only)

theorem State.endMeasurement_fr (s : State) (interval cause : Nat) (hF : within 35184372088838 F = true) (h : Fr F v s) :
    Fr F v (State.endMeasurement s interval cause) := by
  unfold State.endMeasurement
  repeat' (first
    | with_reducible assumption
    | exact within_trans hF rfl
    | exact bit_within hF rfl
    | with_reducible intro _
    | with_reducible apply fr_ite
    | with_reducible apply State.disarm_fr
    | with_reducible apply State.publishTiu_fr
    | with_reducible apply State.channelFree_fr
    | split
    | dsimp only)

theorem State.armTiu_fr (s : State) (hF : within 4 F = true) (h : Fr F v s) :
    Fr F v (State.armTiu s) := by
  unfold State.armTiu
  repeat' (first
    | with_reducible assumption
    | exact within_trans hF rfl
    | exact bit_within hF rfl
    | with_reducible intro _
    | with_reducible apply fr_ite
    | with_reducible apply State.set_fr
    | split
    | dsimp only)

theorem State.cancelTiu_fr (s : State) (hF : within 35184372088838 F = true) (h : Fr F v s) :
    Fr F v (State.cancelTiu s) := by
  unfold State.cancelTiu
  repeat' (first
    | with_reducible assumption
    | exact within_trans hF rfl
    | exact bit_within hF rfl
    | with_reducible intro _
    | with_reducible apply fr_ite
    | with_reducible apply State.set_fr
    | with_reducible apply State.disarm_fr
    | with_reducible apply State.channelFree_fr
    | split
    | dsimp only
    | (with_reducible apply fr_tiu; exact bit_within hF rfl
       first
         | with_reducible assumption
         | with_reducible apply fr_ite
         | with_reducible apply State.set_fr
         | with_reducible apply State.disarm_fr
         | with_reducible apply State.channelFree_fr
         | split))

theorem execTiuStartEdge_fr (fineStart : BitVec 10) (s : State) (hF : within 35184372088838 F = true) (h : Fr F v s) :
    FrOut F v (execTiuStartEdge fineStart s) := by
  unfold execTiuStartEdge
  repeat' (first
    | with_reducible assumption
    | exact within_trans hF rfl
    | exact bit_within hF rfl
    | with_reducible apply frOut_next
    | with_reducible intro _
    | with_reducible apply fr_ite
    | with_reducible apply State.set_fr
    | with_reducible apply State.arm_fr
    | with_reducible apply State.when_fr
    | split
    | dsimp only
    | (with_reducible apply fr_tiu; exact bit_within hF rfl
       first
         | with_reducible assumption
         | with_reducible apply fr_ite
         | with_reducible apply State.set_fr
         | with_reducible apply State.arm_fr
         | with_reducible apply State.when_fr
         | split))

theorem execTiuStopEdge_fr (coarse : BitVec 32) (fineStop : BitVec 10) (s : State) (hF : within 35184372088838 F = true) (h : Fr F v s) :
    FrOut F v (execTiuStopEdge coarse fineStop s) := by
  unfold execTiuStopEdge
  repeat' (first
    | with_reducible assumption
    | exact within_trans hF rfl
    | exact bit_within hF rfl
    | with_reducible apply frOut_next
    | with_reducible intro _
    | with_reducible apply fr_ite
    | with_reducible apply State.endMeasurement_fr
    | split
    | dsimp only)

theorem execTiuTimeout_fr (s : State) (hF : within 316659407519751 F = true) (h : Fr F v s) :
    FrOut F v (execTiuTimeout s) := by
  unfold execTiuTimeout
  repeat' (first
    | with_reducible assumption
    | exact within_trans hF rfl
    | exact bit_within hF rfl
    | with_reducible apply frOut_next
    | with_reducible intro _
    | with_reducible apply fr_ite
    | with_reducible apply fr_ite_snd
    | with_reducible apply State.onTimer_fr
    | with_reducible apply State.draw_fr
    | with_reducible apply State.flag_fr
    | with_reducible apply State.endMeasurement_fr
    | split
    | dsimp only)

theorem execTiuOverflow_fr (s : State) (hF : within 316659407519751 F = true) (h : Fr F v s) :
    FrOut F v (execTiuOverflow s) := by
  unfold execTiuOverflow
  repeat' (first
    | with_reducible assumption
    | exact within_trans hF rfl
    | exact bit_within hF rfl
    | with_reducible apply frOut_next
    | with_reducible intro _
    | with_reducible apply fr_ite
    | with_reducible apply fr_ite_snd
    | with_reducible apply State.onTimer_fr
    | with_reducible apply State.draw_fr
    | with_reducible apply State.flag_fr
    | with_reducible apply State.endMeasurement_fr
    | split
    | dsimp only)

theorem State.abandonBurst_fr (s : State) (hF : within 35184430809110 F = true) (h : Fr F v s) :
    Fr F v (State.abandonBurst s) := by
  unfold State.abandonBurst
  repeat' (first
    | with_reducible assumption
    | exact within_trans hF rfl
    | exact bit_within hF rfl
    | with_reducible intro _
    | with_reducible apply fr_ite
    | with_reducible apply State.set_fr
    | with_reducible apply State.bump_fr
    | with_reducible apply State.disarm_fr
    | with_reducible apply State.flag_fr
    | split
    | dsimp only
    | (with_reducible apply fr_pins; exact bit_within hF rfl; with_reducible apply fr_tiu; exact bit_within hF rfl
       first
         | with_reducible assumption
         | with_reducible apply fr_ite
         | with_reducible apply State.set_fr
         | with_reducible apply State.bump_fr
         | with_reducible apply State.disarm_fr
         | with_reducible apply State.flag_fr
         | split))

theorem execTdrBurstStart_fr (s : State) (hF : within 35184372088839 F = true) (h : Fr F v s) :
    FrOut F v (execTdrBurstStart s) := by
  unfold execTdrBurstStart
  repeat' (first
    | with_reducible assumption
    | exact within_trans hF rfl
    | exact bit_within hF rfl
    | with_reducible apply frOut_next
    | with_reducible intro _
    | with_reducible apply fr_ite
    | with_reducible apply State.onTimer_fr
    | with_reducible apply State.scheduleBurst_fr
    | with_reducible apply State.beginBurst_fr
    | split
    | dsimp only
    | (with_reducible apply fr_tiu; exact bit_within hF rfl
       first
         | with_reducible assumption
         | with_reducible apply fr_ite
         | with_reducible apply State.onTimer_fr
         | with_reducible apply State.scheduleBurst_fr
         | with_reducible apply State.beginBurst_fr
         | split))

theorem execTdrLaunch_fr (s : State) (hF : within 35184372088855 F = true) (h : Fr F v s) :
    FrOut F v (execTdrLaunch s) := by
  unfold execTdrLaunch
  repeat' (first
    | with_reducible assumption
    | exact within_trans hF rfl
    | exact bit_within hF rfl
    | with_reducible apply frOut_next
    | with_reducible intro _
    | with_reducible apply fr_ite
    | with_reducible apply State.arm_fr
    | with_reducible apply State.onTimer_fr
    | split
    | dsimp only
    | (with_reducible apply fr_pins; exact bit_within hF rfl; with_reducible apply fr_tiu; exact bit_within hF rfl
       first
         | with_reducible assumption
         | with_reducible apply fr_ite
         | with_reducible apply State.arm_fr
         | with_reducible apply State.onTimer_fr
         | split))

theorem execTdrComparatorEnable_fr (pastThreshold : Bool) (s : State) (hF : within 35184372088832 F = true) (h : Fr F v s) :
    FrOut F v (execTdrComparatorEnable pastThreshold s) := by
  unfold execTdrComparatorEnable
  repeat' (first
    | with_reducible assumption
    | exact within_trans hF rfl
    | exact bit_within hF rfl
    | with_reducible apply frOut_next
    | with_reducible intro _
    | with_reducible apply fr_ite
    | with_reducible apply State.when_fr
    | split
    | dsimp only
    | (with_reducible apply fr_tiu; exact bit_within hF rfl
       first
         | with_reducible assumption
         | with_reducible apply fr_ite
         | with_reducible apply State.when_fr
         | split))

theorem execTdrReflection_fr (counts : BitVec 32) (s : State) (hF : within 35184372088832 F = true) (h : Fr F v s) :
    FrOut F v (execTdrReflection counts s) := by
  unfold execTdrReflection
  repeat' (first
    | with_reducible assumption
    | exact within_trans hF rfl
    | exact bit_within hF rfl
    | with_reducible apply frOut_next
    | with_reducible intro _
    | with_reducible apply fr_ite
    | with_reducible apply State.when_fr
    | split
    | dsimp only
    | (with_reducible apply fr_tiu; exact bit_within hF rfl
       first
         | with_reducible assumption
         | with_reducible apply fr_ite
         | with_reducible apply State.when_fr
         | split))

theorem execTdrStopWindowEnd_fr (s : State) (hF : within 35184372088855 F = true) (h : Fr F v s) :
    FrOut F v (execTdrStopWindowEnd s) := by
  unfold execTdrStopWindowEnd
  repeat' (first
    | with_reducible assumption
    | exact within_trans hF rfl
    | exact bit_within hF rfl
    | with_reducible apply frOut_next
    | with_reducible intro _
    | with_reducible apply fr_ite
    | with_reducible apply State.onTimer_fr
    | split
    | dsimp only
    | (with_reducible apply fr_pins; exact bit_within hF rfl; with_reducible apply fr_tiu; exact bit_within hF rfl
       first
         | with_reducible assumption
         | with_reducible apply fr_ite
         | with_reducible apply State.onTimer_fr
         | split))

theorem State.publishWater_fr (s : State) (bs : Bytes) (ageUs : Nat) (hF : within 6 F = true) (h : Fr F v s) :
    Fr F v (State.publishWater s bs ageUs) := by
  unfold State.publishWater
  repeat' (first
    | with_reducible assumption
    | exact within_trans hF rfl
    | exact bit_within hF rfl
    | with_reducible intro _
    | with_reducible apply fr_ite
    | with_reducible apply State.set_fr
    | with_reducible apply State.arm_fr
    | split
    | dsimp only)

theorem State.invalidBurst_fr (s : State) (hF : within 58720262 F = true) (h : Fr F v s) :
    Fr F v (State.invalidBurst s) := by
  unfold State.invalidBurst
  repeat' (first
    | with_reducible assumption
    | exact within_trans hF rfl
    | exact bit_within hF rfl
    | with_reducible intro _
    | with_reducible apply fr_ite
    | with_reducible apply State.log_fr
    | with_reducible apply State.flagFirst_fr
    | split
    | dsimp only)

theorem State.validBurst_fr (s : State) (c : BurstClass) (hF : within 35184430809094 F = true) (h : Fr F v s) :
    Fr F v (State.validBurst s c) := by
  unfold State.validBurst
  repeat' (first
    | with_reducible assumption
    | exact within_trans hF rfl
    | exact bit_within hF rfl
    | with_reducible intro _
    | with_reducible apply fr_ite
    | with_reducible apply State.log_fr
    | with_reducible apply State.flagFirst_fr
    | with_reducible apply State.faultRow_fr
    | with_reducible apply State.publishWater_fr
    | with_reducible apply State.invalidBurst_fr
    | split
    | dsimp only
    | (with_reducible apply fr_tiu; exact bit_within hF rfl
       first
         | with_reducible assumption
         | with_reducible apply fr_ite
         | with_reducible apply State.log_fr
         | with_reducible apply State.flagFirst_fr
         | with_reducible apply State.faultRow_fr
         | with_reducible apply State.publishWater_fr
         | with_reducible apply State.invalidBurst_fr
         | split))

theorem State.endBurst_fr (s : State) (hF : within 35184372088854 F = true) (h : Fr F v s) :
    Fr F v (State.endBurst s) := by
  unfold State.endBurst
  repeat' (first
    | with_reducible assumption
    | exact within_trans hF rfl
    | exact bit_within hF rfl
    | with_reducible intro _
    | with_reducible apply fr_ite
    | with_reducible apply State.set_fr
    | with_reducible apply State.disarm_fr
    | split
    | dsimp only
    | (with_reducible apply fr_pins; exact bit_within hF rfl; with_reducible apply fr_tiu; exact bit_within hF rfl
       first
         | with_reducible assumption
         | with_reducible apply fr_ite
         | with_reducible apply State.set_fr
         | with_reducible apply State.disarm_fr
         | split))

theorem execTdrBurstEnd_fr (s : State) (hF : within 35184430809110 F = true) (h : Fr F v s) :
    FrOut F v (execTdrBurstEnd s) := by
  unfold execTdrBurstEnd
  repeat' (first
    | with_reducible assumption
    | exact within_trans hF rfl
    | exact bit_within hF rfl
    | with_reducible apply frOut_next
    | with_reducible intro _
    | with_reducible apply fr_ite
    | with_reducible apply State.bump_fr
    | with_reducible apply State.when_fr
    | with_reducible apply State.invalidBurst_fr
    | with_reducible apply State.validBurst_fr
    | with_reducible apply State.endBurst_fr
    | split
    | dsimp only)

theorem execWaterlineStale_fr (s : State) (hF : within 58720263 F = true) (h : Fr F v s) :
    FrOut F v (execWaterlineStale s) := by
  unfold execWaterlineStale
  repeat' (first
    | with_reducible assumption
    | exact within_trans hF rfl
    | exact bit_within hF rfl
    | with_reducible apply frOut_next
    | with_reducible intro _
    | with_reducible apply fr_ite
    | with_reducible apply State.set_fr
    | with_reducible apply State.onTimer_fr
    | with_reducible apply State.faultRow_fr
    | split
    | dsimp only)

theorem State.tiuOff_fr (s : State) (hF : within 35184372088854 F = true) (h : Fr F v s) :
    Fr F v (State.tiuOff s) := by
  unfold State.tiuOff
  repeat' (first
    | with_reducible assumption
    | exact within_trans hF rfl
    | exact bit_within hF rfl
    | with_reducible intro _
    | with_reducible apply fr_ite
    | with_reducible apply State.set_fr
    | with_reducible apply State.disarm_fr
    | split
    | dsimp only
    | (with_reducible apply fr_pins; exact bit_within hF rfl; with_reducible apply fr_tiu; exact bit_within hF rfl
       first
         | with_reducible assumption
         | with_reducible apply fr_ite
         | with_reducible apply State.set_fr
         | with_reducible apply State.disarm_fr
         | split))

theorem State.tiuRefLost_fr (s : State) (hF : within 316659407519766 F = true) (h : Fr F v s) :
    Fr F v (State.tiuRefLost s) := by
  unfold State.tiuRefLost
  repeat' (first
    | with_reducible assumption
    | exact within_trans hF rfl
    | exact bit_within hF rfl
    | with_reducible intro _
    | with_reducible apply fr_ite
    | with_reducible apply fr_ite_snd
    | with_reducible apply State.bump_fr
    | with_reducible apply State.draw_fr
    | with_reducible apply State.flag_fr
    | with_reducible apply State.endMeasurement_fr
    | with_reducible apply State.invalidBurst_fr
    | with_reducible apply State.endBurst_fr
    | split
    | dsimp only)

end Sys2Proof.Machine
end

