-- ==== Sys2Proof/Laws/FrameBandOps.lean ====
section
/-!
SUPPORT. The frames of the functions of Sys2Proof/Machine/BandOps.lean, one lemma for each of them (Laws/Frame.lean).
-/

namespace Sys2Proof.Machine

set_option linter.unusedTactic false
set_option linter.unreachableTactic false
set_option linter.unusedVariables false

open Sys2Proof

variable {F : Nat} {v : State}

theorem State.setRetune_fr (s : State) (d : Dir) (b : Bool) (hF : within 549755813888 F = true) (h : Fr F v s) :
    Fr F v (State.setRetune s d b) := by
  unfold State.setRetune
  repeat' (first
    | with_reducible assumption
    | exact within_trans hF rfl
    | exact bit_within hF rfl
    | with_reducible intro _
    | with_reducible apply fr_ite
    | split
    | dsimp only
    | (with_reducible apply fr_fe; exact bit_within hF rfl
       first
         | with_reducible assumption
         | with_reducible apply fr_ite
         | split))

theorem State.setFail_fr (s : State) (d : Dir) (b : Bool) (hF : within 549755813888 F = true) (h : Fr F v s) :
    Fr F v (State.setFail s d b) := by
  unfold State.setFail
  repeat' (first
    | with_reducible assumption
    | exact within_trans hF rfl
    | exact bit_within hF rfl
    | with_reducible intro _
    | with_reducible apply fr_ite
    | split
    | dsimp only
    | (with_reducible apply fr_fe; exact bit_within hF rfl
       first
         | with_reducible assumption
         | with_reducible apply fr_ite
         | split))

theorem State.driveGpio_fr (s : State) (mask levels : Nat) (hF : within 16 F = true) (h : Fr F v s) :
    Fr F v (State.driveGpio s mask levels) := by
  unfold State.driveGpio
  repeat' (first
    | with_reducible assumption
    | exact within_trans hF rfl
    | exact bit_within hF rfl
    | with_reducible intro _
    | with_reducible apply fr_ite
    | split
    | dsimp only
    | (with_reducible apply fr_pins; exact bit_within hF rfl
       first
         | with_reducible assumption
         | with_reducible apply fr_ite
         | split))

theorem State.sendAtten_fr (s : State) (d : Dir) (hF : within 549755813904 F = true) (h : Fr F v s) :
    Fr F v (State.sendAtten s d) := by
  unfold State.sendAtten
  repeat' (first
    | with_reducible assumption
    | exact within_trans hF rfl
    | exact bit_within hF rfl
    | with_reducible intro _
    | with_reducible apply fr_ite
    | with_reducible apply State.driveGpio_fr
    | split
    | dsimp only
    | (with_reducible apply fr_fe; exact bit_within hF rfl
       first
         | with_reducible assumption
         | with_reducible apply fr_ite
         | with_reducible apply State.driveGpio_fr
         | split))

theorem State.startSeq_fr (s : State) (k : Nat) (replayed : Bool) (hF : within 549755813892 F = true) (h : Fr F v s) :
    Fr F v (State.startSeq s k replayed) := by
  unfold State.startSeq
  repeat' (first
    | with_reducible assumption
    | exact within_trans hF rfl
    | exact bit_within hF rfl
    | with_reducible intro _
    | with_reducible apply fr_ite
    | with_reducible apply State.set_fr
    | split
    | dsimp only
    | (with_reducible apply fr_fe; exact bit_within hF rfl
       first
         | with_reducible assumption
         | with_reducible apply fr_ite
         | with_reducible apply State.set_fr
         | split))

theorem State.seqIdle_fr (s : State) (hF : within 549755813892 F = true) (h : Fr F v s) :
    Fr F v (State.seqIdle s) := by
  unfold State.seqIdle
  repeat' (first
    | with_reducible assumption
    | exact within_trans hF rfl
    | exact bit_within hF rfl
    | with_reducible intro _
    | with_reducible apply fr_ite
    | with_reducible apply State.set_fr
    | split
    | dsimp only
    | (with_reducible apply fr_fe; exact bit_within hF rfl
       first
         | with_reducible assumption
         | with_reducible apply fr_ite
         | with_reducible apply State.set_fr
         | split))

theorem State.seqPlayed_fr (s : State) (k : Nat) (replayed : Bool) (hF : within 549755813910 F = true) (h : Fr F v s) :
    Fr F v (State.seqPlayed s k replayed) := by
  unfold State.seqPlayed
  repeat' (first
    | with_reducible assumption
    | exact within_trans hF rfl
    | exact bit_within hF rfl
    | with_reducible intro _
    | with_reducible apply fr_ite
    | with_reducible apply State.arm_fr
    | with_reducible apply State.sendAtten_fr
    | with_reducible apply State.seqIdle_fr
    | split
    | dsimp only
    | (with_reducible apply fr_fe; exact bit_within hF rfl
       first
         | with_reducible assumption
         | with_reducible apply fr_ite
         | with_reducible apply State.arm_fr
         | with_reducible apply State.sendAtten_fr
         | with_reducible apply State.seqIdle_fr
         | split))

theorem State.playSeq_fr (s : State) (k : Nat) (hF : within 549755813910 F = true) (h : Fr F v s) :
    Fr F v (State.playSeq s k) := by
  unfold State.playSeq
  repeat' (first
    | with_reducible assumption
    | exact within_trans hF rfl
    | exact bit_within hF rfl
    | with_reducible intro _
    | with_reducible apply fr_ite
    | with_reducible apply State.startSeq_fr
    | with_reducible apply State.seqPlayed_fr
    | split
    | dsimp only
    | (with_reducible apply fr_fe; exact bit_within hF rfl
       first
         | with_reducible assumption
         | with_reducible apply fr_ite
         | with_reducible apply State.startSeq_fr
         | with_reducible apply State.seqPlayed_fr
         | split))

theorem State.nextSeq_fr (s : State) (hF : within 549755813910 F = true) (h : Fr F v s) :
    Fr F v (State.nextSeq s) := by
  unfold State.nextSeq
  repeat' (first
    | with_reducible assumption
    | exact within_trans hF rfl
    | exact bit_within hF rfl
    | with_reducible intro _
    | with_reducible apply fr_ite
    | with_reducible apply State.playSeq_fr
    | split
    | dsimp only
    | (with_reducible apply fr_fe; exact bit_within hF rfl
       first
         | with_reducible assumption
         | with_reducible apply fr_ite
         | with_reducible apply State.playSeq_fr
         | split))

theorem State.failSeq_fr (s : State) (k bit code : Nat) (replayed : Bool) (payload : Bytes) (hF : within 549814534150 F = true) (h : Fr F v s) :
    Fr F v (State.failSeq s k bit code replayed payload) := by
  unfold State.failSeq
  repeat' (first
    | with_reducible assumption
    | exact within_trans hF rfl
    | exact bit_within hF rfl
    | with_reducible intro _
    | with_reducible apply fr_ite
    | with_reducible apply State.disarm_fr
    | with_reducible apply State.arm_fr
    | with_reducible apply State.log_fr
    | with_reducible apply State.flag_fr
    | with_reducible apply State.setRetune_fr
    | with_reducible apply State.setFail_fr
    | with_reducible apply State.seqIdle_fr
    | with_reducible apply fr_foldl
    | split
    | dsimp only
    | (with_reducible apply fr_fe; exact bit_within hF rfl
       first
         | with_reducible assumption
         | with_reducible apply fr_ite
         | with_reducible apply State.disarm_fr
         | with_reducible apply State.arm_fr
         | with_reducible apply State.log_fr
         | with_reducible apply State.flag_fr
         | with_reducible apply State.setRetune_fr
         | with_reducible apply State.setFail_fr
         | with_reducible apply State.seqIdle_fr
         | with_reducible apply fr_foldl
         | split))

theorem State.startRetune_fr (s : State) (d : Dir) (hF : within 1717986918422 F = true) (h : Fr F v s) :
    Fr F v (State.startRetune s d) := by
  unfold State.startRetune
  repeat' (first
    | with_reducible assumption
    | exact within_trans hF rfl
    | exact bit_within hF rfl
    | with_reducible intro _
    | with_reducible apply fr_ite
    | with_reducible apply State.mutePaths_fr
    | with_reducible apply State.setRetune_fr
    | with_reducible apply State.setFail_fr
    | with_reducible apply State.playSeq_fr
    | split
    | dsimp only)

theorem State.retuneLocked_fr (s : State) (d : Dir) (hF : within 1717986918406 F = true) (h : Fr F v s) :
    Fr F v (State.retuneLocked s d) := by
  unfold State.retuneLocked
  repeat' (first
    | with_reducible assumption
    | exact within_trans hF rfl
    | exact bit_within hF rfl
    | with_reducible intro _
    | with_reducible apply fr_ite
    | with_reducible apply State.disarm_fr
    | with_reducible apply State.settleAll_fr
    | with_reducible apply State.setRetune_fr
    | with_reducible apply State.seqIdle_fr
    | split
    | dsimp only)

theorem State.stopSeq_fr (s : State) (hF : within 549755813888 F = true) (h : Fr F v s) :
    Fr F v (State.stopSeq s) := by
  unfold State.stopSeq
  repeat' (first
    | with_reducible assumption
    | exact within_trans hF rfl
    | exact bit_within hF rfl
    | with_reducible intro _
    | with_reducible apply fr_ite
    | split
    | dsimp only
    | (with_reducible apply fr_fe; exact bit_within hF rfl
       first
         | with_reducible assumption
         | with_reducible apply fr_ite
         | split))

theorem State.resumeSeq_fr (s : State) (hF : within 549755813888 F = true) (h : Fr F v s) :
    Fr F v (State.resumeSeq s) := by
  unfold State.resumeSeq
  repeat' (first
    | with_reducible assumption
    | exact within_trans hF rfl
    | exact bit_within hF rfl
    | with_reducible intro _
    | with_reducible apply fr_ite
    | split
    | dsimp only
    | (with_reducible apply fr_fe; exact bit_within hF rfl
       first
         | with_reducible assumption
         | with_reducible apply fr_ite
         | split))

theorem State.runInit_fr (s : State) (hF : within 549755813910 F = true) (h : Fr F v s) :
    Fr F v (State.runInit s) := by
  unfold State.runInit
  repeat' (first
    | with_reducible assumption
    | exact within_trans hF rfl
    | exact bit_within hF rfl
    | with_reducible intro _
    | with_reducible apply fr_ite
    | with_reducible apply State.playSeq_fr
    | split
    | dsimp only
    | (with_reducible apply fr_fe; exact bit_within hF rfl
       first
         | with_reducible assumption
         | with_reducible apply fr_ite
         | with_reducible apply State.playSeq_fr
         | split))

theorem State.openGate_fr (s : State) (d : Dir) (hF : within 68778196998 F = true) (h : Fr F v s) :
    Fr F v (State.openGate s d) := by
  unfold State.openGate
  repeat' (first
    | with_reducible assumption
    | exact within_trans hF rfl
    | exact bit_within hF rfl
    | with_reducible intro _
    | with_reducible apply fr_ite
    | with_reducible apply State.set_fr
    | with_reducible apply State.bump_fr
    | with_reducible apply State.arm_fr
    | with_reducible apply State.setPath_fr
    | with_reducible apply State.fabEvent_fr
    | with_reducible apply State.moveGain_fr
    | split
    | dsimp only)

theorem State.enterGuard_fr (s : State) (hF : within 68778196998 F = true) (h : Fr F v s) :
    Fr F v (State.enterGuard s) := by
  unfold State.enterGuard
  repeat' (first
    | with_reducible assumption
    | exact within_trans hF rfl
    | exact bit_within hF rfl
    | with_reducible intro _
    | with_reducible apply fr_ite
    | with_reducible apply State.set_fr
    | with_reducible apply State.arm_fr
    | with_reducible apply State.fabEvent_fr
    | with_reducible apply State.closeGates_fr
    | split
    | dsimp only)

theorem State.endStreak_fr (s : State) (d : Dir) (hF : within 1099511627776 F = true) (h : Fr F v s) :
    Fr F v (State.endStreak s d) := by
  unfold State.endStreak
  repeat' (first
    | with_reducible assumption
    | exact within_trans hF rfl
    | exact bit_within hF rfl
    | with_reducible intro _
    | with_reducible apply fr_ite
    | split
    | dsimp only
    | (with_reducible apply fr_le; exact bit_within hF rfl
       first
         | with_reducible assumption
         | with_reducible apply fr_ite
         | split))

theorem State.leCommit_fr (s : State) (hF : within 1168289824774 F = true) (h : Fr F v s) :
    Fr F v (State.leCommit s) := by
  unfold State.leCommit
  repeat' (first
    | with_reducible assumption
    | exact within_trans hF rfl
    | exact bit_within hF rfl
    | with_reducible intro _
    | with_reducible apply fr_ite
    | with_reducible apply State.enterGuard_fr
    | with_reducible apply State.endStreak_fr
    | split
    | dsimp only)

theorem State.startProbe_fr (s : State) (b : Nat × Nat) (hF : within 35184430809238 F = true) (h : Fr F v s) :
    Fr F v (State.startProbe s b) := by
  unfold State.startProbe
  repeat' (first
    | with_reducible assumption
    | exact within_trans hF rfl
    | exact bit_within hF rfl
    | with_reducible intro _
    | with_reducible apply fr_ite
    | with_reducible apply State.set_fr
    | with_reducible apply State.bump_fr
    | with_reducible apply State.arm_fr
    | with_reducible apply State.abandonBurst_fr
    | with_reducible apply fr_foldl
    | split
    | dsimp only
    | (with_reducible apply fr_pins; exact bit_within hF rfl; with_reducible apply fr_pins_rfMuteN; exact bit_within hF rfl
       first
         | with_reducible assumption
         | with_reducible apply fr_ite
         | with_reducible apply State.set_fr
         | with_reducible apply State.bump_fr
         | with_reducible apply State.arm_fr
         | with_reducible apply State.abandonBurst_fr
         | with_reducible apply fr_foldl
         | split))

theorem State.startProbes_fr (s : State) (hF : within 35184430809238 F = true) (h : Fr F v s) :
    Fr F v (State.startProbes s) := by
  unfold State.startProbes
  repeat' (first
    | with_reducible assumption
    | exact within_trans hF rfl
    | exact bit_within hF rfl
    | with_reducible intro _
    | with_reducible apply fr_ite
    | with_reducible apply State.startProbe_fr
    | with_reducible apply fr_foldl
    | split
    | dsimp only)

theorem State.unmute_fr (s : State) (p : Nat) (g : Int) (hF : within 68719476740 F = true) (h : Fr F v s) :
    Fr F v (State.unmute s p g) := by
  unfold State.unmute
  repeat' (first
    | with_reducible assumption
    | exact within_trans hF rfl
    | exact bit_within hF rfl
    | with_reducible intro _
    | with_reducible apply fr_ite
    | with_reducible apply State.set_fr
    | with_reducible apply State.setI_fr
    | with_reducible apply State.setPath_fr
    | split
    | dsimp only)

theorem State.noteProbe_fr (s : State) (p : Nat) (m : PathMeas) (hF : within 68719476740 F = true) (h : Fr F v s) :
    Fr F v (State.noteProbe s p m) := by
  unfold State.noteProbe
  repeat' (first
    | with_reducible assumption
    | exact within_trans hF rfl
    | exact bit_within hF rfl
    | with_reducible intro _
    | with_reducible apply fr_ite
    | with_reducible apply State.set_fr
    | with_reducible apply State.setPath_fr
    | split
    | dsimp only)

end Sys2Proof.Machine
end

