-- ==== Sys2Proof/Laws/FrameLaneOps.lean ====
section
/-!
SUPPORT. The frames of the functions of Sys2Proof/Machine/LaneOps.lean, one lemma for each of them (Laws/Frame.lean).
-/

namespace Sys2Proof.Machine

set_option linter.unusedTactic false
set_option linter.unreachableTactic false
set_option linter.unusedVariables false

open Sys2Proof

variable {F : Nat} {v : State}

theorem State.refreeze_fr (s : State) (c : Nat) (hF : within 68778196998 F = true) (h : Fr F v s) :
    Fr F v (State.refreeze s c) := by
  unfold State.refreeze
  repeat' (first
    | with_reducible assumption
    | exact within_trans hF rfl
    | exact bit_within hF rfl
    | with_reducible intro _
    | with_reducible apply fr_ite
    | with_reducible apply State.set_fr
    | with_reducible apply State.fabEvent_fr
    | with_reducible apply fr_foldl
    | split
    | dsimp only)

theorem State.setBias_fr (s : State) (n goal : Nat) (hF : within 4398046511120 F = true) (h : Fr F v s) :
    Fr F v (State.setBias s n goal) := by
  unfold State.setBias
  repeat' (first
    | with_reducible assumption
    | exact within_trans hF rfl
    | exact bit_within hF rfl
    | with_reducible intro _
    | with_reducible apply fr_ite
    | with_reducible apply State.setLane_fr
    | split
    | dsimp only
    | (with_reducible apply fr_pins; exact bit_within hF rfl
       first
         | with_reducible assumption
         | with_reducible apply fr_ite
         | with_reducible apply State.setLane_fr
         | split))

theorem State.retargetBias_fr (s : State) (hF : within 4398046511120 F = true) (h : Fr F v s) :
    Fr F v (State.retargetBias s) := by
  unfold State.retargetBias
  repeat' (first
    | with_reducible assumption
    | exact within_trans hF rfl
    | exact bit_within hF rfl
    | with_reducible intro _
    | with_reducible apply fr_ite
    | with_reducible apply State.setBias_fr
    | with_reducible apply fr_foldl
    | split
    | dsimp only)

theorem State.sendPmb_fr (s : State) (n : Nat) (codes : List Nat) (hF : within 4398046511104 F = true) (h : Fr F v s) :
    Fr F v (State.sendPmb s n codes) := by
  unfold State.sendPmb
  repeat' (first
    | with_reducible assumption
    | exact within_trans hF rfl
    | exact bit_within hF rfl
    | with_reducible intro _
    | with_reducible apply fr_ite
    | split
    | dsimp only
    | (with_reducible apply fr_pa; exact bit_within hF rfl
       first
         | with_reducible assumption
         | with_reducible apply fr_ite
         | split))

theorem State.stopLane_fr (s : State) (n : Nat) (hF : within 5566277615702 F = true) (h : Fr F v s) :
    Fr F v (State.stopLane s n) := by
  unfold State.stopLane
  repeat' (first
    | with_reducible assumption
    | exact within_trans hF rfl
    | exact bit_within hF rfl
    | with_reducible intro _
    | with_reducible apply fr_ite
    | with_reducible apply State.set_fr
    | with_reducible apply State.disarm_fr
    | with_reducible apply State.mutePaths_fr
    | with_reducible apply State.setLane_fr
    | with_reducible apply State.sendPmb_fr
    | split
    | dsimp only
    | (with_reducible apply fr_pins; exact bit_within hF rfl; with_reducible apply fr_pins_paEn; exact bit_within hF rfl; with_reducible apply fr_pa; exact bit_within hF rfl
       first
         | with_reducible assumption
         | with_reducible apply fr_ite
         | with_reducible apply State.set_fr
         | with_reducible apply State.disarm_fr
         | with_reducible apply State.mutePaths_fr
         | with_reducible apply State.setLane_fr
         | with_reducible apply State.sendPmb_fr
         | split))

theorem State.stopLanes_fr (s : State) (hF : within 5566277615702 F = true) (h : Fr F v s) :
    Fr F v (State.stopLanes s) := by
  unfold State.stopLanes
  repeat' (first
    | with_reducible assumption
    | exact within_trans hF rfl
    | exact bit_within hF rfl
    | with_reducible intro _
    | with_reducible apply fr_ite
    | with_reducible apply State.stopLane_fr
    | with_reducible apply fr_foldl
    | split
    | dsimp only)

theorem State.startLane_fr (s : State) (n : Nat) (hF : within 4398046511108 F = true) (h : Fr F v s) :
    Fr F v (State.startLane s n) := by
  unfold State.startLane
  repeat' (first
    | with_reducible assumption
    | exact within_trans hF rfl
    | exact bit_within hF rfl
    | with_reducible intro _
    | with_reducible apply fr_ite
    | with_reducible apply State.set_fr
    | with_reducible apply State.setLane_fr
    | with_reducible apply State.sendPmb_fr
    | split
    | dsimp only
    | (with_reducible apply fr_pa; exact bit_within hF rfl
       first
         | with_reducible assumption
         | with_reducible apply fr_ite
         | with_reducible apply State.set_fr
         | with_reducible apply State.setLane_fr
         | with_reducible apply State.sendPmb_fr
         | split))

theorem State.laneEnableWritten_fr (s : State) (n : Nat) (hF : within 5566277615702 F = true) (h : Fr F v s) :
    Fr F v (State.laneEnableWritten s n) := by
  unfold State.laneEnableWritten
  repeat' (first
    | with_reducible assumption
    | exact within_trans hF rfl
    | exact bit_within hF rfl
    | with_reducible intro _
    | with_reducible apply fr_ite
    | with_reducible apply State.set_fr
    | with_reducible apply State.disarm_fr
    | with_reducible apply State.setLane_fr
    | with_reducible apply State.stopLane_fr
    | split
    | dsimp only)

theorem State.judgeHint_fr (s : State) (h' : HintId) (hF : within 6 F = true) (h : Fr F v s) :
    Fr F v (State.judgeHint s h') := by
  unfold State.judgeHint
  repeat' (first
    | with_reducible assumption
    | exact within_trans hF rfl
    | exact bit_within hF rfl
    | with_reducible intro _
    | with_reducible apply fr_ite
    | with_reducible apply State.set_fr
    | with_reducible apply State.disarm_fr
    | with_reducible apply State.arm_fr
    | split
    | dsimp only)

theorem State.cancelHint_fr (s : State) (h' : HintId) (hF : within 6 F = true) (h : Fr F v s) :
    Fr F v (State.cancelHint s h') := by
  unfold State.cancelHint
  repeat' (first
    | with_reducible assumption
    | exact within_trans hF rfl
    | exact bit_within hF rfl
    | with_reducible intro _
    | with_reducible apply fr_ite
    | with_reducible apply State.set_fr
    | with_reducible apply State.arm_fr
    | split
    | dsimp only)

theorem State.nextHint_fr (s : State) (h' : HintId) (hF : within 6 F = true) (h : Fr F v s) :
    Fr F v (State.nextHint s h') := by
  unfold State.nextHint
  repeat' (first
    | with_reducible assumption
    | exact within_trans hF rfl
    | exact bit_within hF rfl
    | with_reducible intro _
    | with_reducible apply fr_ite
    | with_reducible apply State.set_fr
    | with_reducible apply State.arm_fr
    | split
    | dsimp only)

theorem State.resumeHint_fr (s : State) (h' : HintId) (hF : within 6 F = true) (h : Fr F v s) :
    Fr F v (State.resumeHint s h') := by
  unfold State.resumeHint
  repeat' (first
    | with_reducible assumption
    | exact within_trans hF rfl
    | exact bit_within hF rfl
    | with_reducible intro _
    | with_reducible apply fr_ite
    | with_reducible apply State.set_fr
    | with_reducible apply State.judgeHint_fr
    | split
    | dsimp only)

theorem State.lidEnter_fr (s : State) (st : Nat) (hF : within 70368744177670 F = true) (h : Fr F v s) :
    Fr F v (State.lidEnter s st) := by
  unfold State.lidEnter
  repeat' (first
    | with_reducible assumption
    | exact within_trans hF rfl
    | exact bit_within hF rfl
    | with_reducible intro _
    | with_reducible apply fr_ite
    | with_reducible apply State.set_fr
    | with_reducible apply State.disarm_fr
    | split
    | dsimp only
    | (with_reducible apply fr_lid; exact bit_within hF rfl
       first
         | with_reducible assumption
         | with_reducible apply fr_ite
         | with_reducible apply State.set_fr
         | with_reducible apply State.disarm_fr
         | split))

theorem State.lidRetakeNow_fr (s : State) (hF : within 70368744177670 F = true) (h : Fr F v s) :
    Fr F v (State.lidRetakeNow s) := by
  unfold State.lidRetakeNow
  repeat' (first
    | with_reducible assumption
    | exact within_trans hF rfl
    | exact bit_within hF rfl
    | with_reducible intro _
    | with_reducible apply fr_ite
    | with_reducible apply State.lidEnter_fr
    | split
    | dsimp only)

theorem State.lidHoldup_fr (s : State) (hF : within 70368744177670 F = true) (h : Fr F v s) :
    Fr F v (State.lidHoldup s) := by
  unfold State.lidHoldup
  repeat' (first
    | with_reducible assumption
    | exact within_trans hF rfl
    | exact bit_within hF rfl
    | with_reducible intro _
    | with_reducible apply fr_ite
    | with_reducible apply State.set_fr
    | with_reducible apply State.disarm_fr
    | with_reducible apply State.lidEnter_fr
    | split
    | dsimp only
    | (with_reducible apply fr_lid; exact bit_within hF rfl
       first
         | with_reducible assumption
         | with_reducible apply fr_ite
         | with_reducible apply State.set_fr
         | with_reducible apply State.disarm_fr
         | with_reducible apply State.lidEnter_fr
         | split))

theorem State.lidEnabled_fr (s : State) (hF : within 70368744177670 F = true) (h : Fr F v s) :
    Fr F v (State.lidEnabled s) := by
  unfold State.lidEnabled
  repeat' (first
    | with_reducible assumption
    | exact within_trans hF rfl
    | exact bit_within hF rfl
    | with_reducible intro _
    | with_reducible apply fr_ite
    | with_reducible apply State.disarm_fr
    | with_reducible apply State.lidEnter_fr
    | with_reducible apply State.lidRetakeNow_fr
    | split
    | dsimp only)

end Sys2Proof.Machine
end

