-- ==== Sys2Proof/Laws/FrameHooks.lean ====
section
/-!
SUPPORT. The frames of the functions of Sys2Proof/Machine/Hooks.lean, one lemma for each of them (Laws/Frame.lean).
-/

namespace Sys2Proof.Machine

set_option linter.unusedTactic false
set_option linter.unreachableTactic false
set_option linter.unusedVariables false

open Sys2Proof

variable {F : Nat} {v : State}

theorem State.startMargin_fr (s : State) (m cmd : Nat) (hF : within 34359738390 F = true) (h : Fr F v s) :
    Fr F v (State.startMargin s m cmd) := by
  unfold State.startMargin
  repeat' (first
    | with_reducible assumption
    | exact within_trans hF rfl
    | exact bit_within hF rfl
    | with_reducible intro _
    | with_reducible apply fr_ite
    | with_reducible apply State.set_fr
    | with_reducible apply State.arm_fr
    | split
    | dsimp only
    | (with_reducible apply fr_pins; exact bit_within hF rfl; with_reducible apply fr_margin; exact bit_within hF rfl
       first
         | with_reducible assumption
         | with_reducible apply fr_ite
         | with_reducible apply State.set_fr
         | with_reducible apply State.arm_fr
         | split))

theorem State.enterRestricted_fr (s : State) (hF : within 4194310 F = true) (h : Fr F v s) :
    Fr F v (State.enterRestricted s) := by
  unfold State.enterRestricted
  repeat' (first
    | with_reducible assumption
    | exact within_trans hF rfl
    | exact bit_within hF rfl
    | with_reducible intro _
    | with_reducible apply fr_ite
    | with_reducible apply State.bump_fr
    | with_reducible apply State.disarm_fr
    | with_reducible apply State.arm_fr
    | split
    | dsimp only
    | (with_reducible apply fr_field; exact bit_within hF rfl
       first
         | with_reducible assumption
         | with_reducible apply fr_ite
         | with_reducible apply State.bump_fr
         | with_reducible apply State.disarm_fr
         | with_reducible apply State.arm_fr
         | split))

theorem State.setStb_fr (s : State) (p : Port) (b : Bool) (hF : within 16 F = true) (h : Fr F v s) :
    Fr F v (State.setStb s p b) := by
  unfold State.setStb
  repeat' (first
    | with_reducible assumption
    | exact within_trans hF rfl
    | exact bit_within hF rfl
    | with_reducible intro _
    | with_reducible apply fr_ite
    | split
    | dsimp only
    | (with_reducible apply fr_pins; exact bit_within hF rfl
       first
         | with_reducible assumption
         | with_reducible apply fr_ite
         | split))

theorem State.joinPort_fr (s : State) (p : Port) (hF : within 4194326 F = true) (h : Fr F v s) :
    Fr F v (State.joinPort s p) := by
  unfold State.joinPort
  repeat' (first
    | with_reducible assumption
    | exact within_trans hF rfl
    | exact bit_within hF rfl
    | with_reducible intro _
    | with_reducible apply fr_ite
    | with_reducible apply State.set_fr
    | with_reducible apply State.disarm_fr
    | with_reducible apply State.enterRestricted_fr
    | with_reducible apply State.setStb_fr
    | split
    | dsimp only)

theorem State.portStandby_fr (s : State) (p : Port) (hF : within 22 F = true) (h : Fr F v s) :
    Fr F v (State.portStandby s p) := by
  unfold State.portStandby
  repeat' (first
    | with_reducible assumption
    | exact within_trans hF rfl
    | exact bit_within hF rfl
    | with_reducible intro _
    | with_reducible apply fr_ite
    | with_reducible apply State.set_fr
    | with_reducible apply State.disarm_fr
    | with_reducible apply State.setStb_fr
    | split
    | dsimp only)

theorem State.noteRestricted_fr (s : State) (hF : within 54525958 F = true) (h : Fr F v s) :
    Fr F v (State.noteRestricted s) := by
  unfold State.noteRestricted
  repeat' (first
    | with_reducible assumption
    | exact within_trans hF rfl
    | exact bit_within hF rfl
    | with_reducible intro _
    | with_reducible apply fr_ite
    | with_reducible apply State.disarm_fr
    | with_reducible apply State.log_fr
    | split
    | dsimp only
    | (with_reducible apply fr_field; exact bit_within hF rfl
       first
         | with_reducible assumption
         | with_reducible apply fr_ite
         | with_reducible apply State.disarm_fr
         | with_reducible apply State.log_fr
         | split))

theorem State.leaveRestricted_fr (s : State) (hF : within 54525974 F = true) (h : Fr F v s) :
    Fr F v (State.leaveRestricted s) := by
  unfold State.leaveRestricted
  repeat' (first
    | with_reducible assumption
    | exact within_trans hF rfl
    | exact bit_within hF rfl
    | with_reducible intro _
    | with_reducible apply fr_ite
    | with_reducible apply State.joinPort_fr
    | with_reducible apply State.noteRestricted_fr
    | with_reducible apply fr_foldl
    | split
    | dsimp only)

theorem State.heartbeatSoon_fr (s : State) (hF : within 2 F = true) (h : Fr F v s) :
    Fr F v (State.heartbeatSoon s) := by
  unfold State.heartbeatSoon
  repeat' (first
    | with_reducible assumption
    | exact within_trans hF rfl
    | exact bit_within hF rfl
    | with_reducible intro _
    | with_reducible apply fr_ite
    | with_reducible apply State.arm_fr
    | with_reducible apply fr_foldl
    | split
    | dsimp only)

theorem State.putApplied_fr (s : State) (p : Nat) (g : Int) (hF : within 4 F = true) (h : Fr F v s) :
    Fr F v (State.putApplied s p g) := by
  unfold State.putApplied
  repeat' (first
    | with_reducible assumption
    | exact within_trans hF rfl
    | exact bit_within hF rfl
    | with_reducible intro _
    | with_reducible apply fr_ite
    | with_reducible apply State.setI_fr
    | split
    | dsimp only)

theorem State.shiftPilot_fr (s : State) (p : Nat) (by_ : Int) (hF : within 68719476736 F = true) (h : Fr F v s) :
    Fr F v (State.shiftPilot s p by_) := by
  unfold State.shiftPilot
  repeat' (first
    | with_reducible assumption
    | exact within_trans hF rfl
    | exact bit_within hF rfl
    | with_reducible intro _
    | with_reducible apply fr_ite
    | with_reducible apply State.setPath_fr
    | split
    | dsimp only)

theorem State.chainChanged_fr (s : State) (d : Dir) (by_ : Int) (hF : within 68719476740 F = true) (h : Fr F v s) :
    Fr F v (State.chainChanged s d by_) := by
  unfold State.chainChanged
  repeat' (first
    | with_reducible assumption
    | exact within_trans hF rfl
    | exact bit_within hF rfl
    | with_reducible intro _
    | with_reducible apply fr_ite
    | with_reducible apply State.putApplied_fr
    | with_reducible apply State.shiftPilot_fr
    | with_reducible apply fr_foldl
    | split
    | dsimp only)

theorem State.attenChanged_fr (s : State) (d : Dir) (by_ : Int) (hF : within 1717986918422 F = true) (h : Fr F v s) :
    Fr F v (State.attenChanged s d by_) := by
  unfold State.attenChanged
  repeat' (first
    | with_reducible assumption
    | exact within_trans hF rfl
    | exact bit_within hF rfl
    | with_reducible intro _
    | with_reducible apply fr_ite
    | with_reducible apply State.settleAll_fr
    | with_reducible apply State.sendAtten_fr
    | with_reducible apply State.putApplied_fr
    | with_reducible apply fr_foldl
    | split
    | dsimp only)

theorem State.pathEffect_fr (s : State) (p k old new : Nat) (hF : within 1168231104518 F = true) (h : Fr F v s) :
    Fr F v (State.pathEffect s p k old new) := by
  unfold State.pathEffect
  repeat' (first
    | with_reducible assumption
    | exact within_trans hF rfl
    | exact bit_within hF rfl
    | with_reducible intro _
    | with_reducible apply fr_ite
    | with_reducible apply State.setPath_fr
    | with_reducible apply State.mutePath_fr
    | with_reducible apply State.startSettle_fr
    | with_reducible apply State.shiftPilot_fr
    | split
    | dsimp only)

theorem State.rfEffect_fr (s : State) (k old new : Nat) (hF : within 76484836327510 F = true) (h : Fr F v s) :
    Fr F v (State.rfEffect s k old new) := by
  unfold State.rfEffect
  repeat' (first
    | with_reducible assumption
    | exact within_trans hF rfl
    | exact bit_within hF rfl
    | with_reducible intro _
    | with_reducible apply fr_ite
    | with_reducible apply State.disarm_fr
    | with_reducible apply State.endHold_fr
    | with_reducible apply State.settleAll_fr
    | with_reducible apply State.scheduleBurst_fr
    | with_reducible apply State.refreeze_fr
    | with_reducible apply State.retargetBias_fr
    | with_reducible apply State.laneEnableWritten_fr
    | with_reducible apply State.judgeHint_fr
    | with_reducible apply State.lidEnabled_fr
    | with_reducible apply State.chainChanged_fr
    | with_reducible apply State.attenChanged_fr
    | split
    | dsimp only
    | (with_reducible apply fr_pins; exact bit_within hF rfl
       first
         | with_reducible assumption
         | with_reducible apply fr_ite
         | with_reducible apply State.disarm_fr
         | with_reducible apply State.endHold_fr
         | with_reducible apply State.settleAll_fr
         | with_reducible apply State.scheduleBurst_fr
         | with_reducible apply State.refreeze_fr
         | with_reducible apply State.retargetBias_fr
         | with_reducible apply State.laneEnableWritten_fr
         | with_reducible apply State.judgeHint_fr
         | with_reducible apply State.lidEnabled_fr
         | with_reducible apply State.chainChanged_fr
         | with_reducible apply State.attenChanged_fr
         | split))

theorem State.setRejoin_fr (s : State) (p : Port) (b : Bool) (hF : within 4194304 F = true) (h : Fr F v s) :
    Fr F v (State.setRejoin s p b) := by
  unfold State.setRejoin
  repeat' (first
    | with_reducible assumption
    | exact within_trans hF rfl
    | exact bit_within hF rfl
    | with_reducible intro _
    | with_reducible apply fr_ite
    | split
    | dsimp only
    | (with_reducible apply fr_field; exact bit_within hF rfl
       first
         | with_reducible assumption
         | with_reducible apply fr_ite
         | split))

theorem State.settleJoin_fr (s : State) (p : Port) (hF : within 4194326 F = true) (h : Fr F v s) :
    Fr F v (State.settleJoin s p) := by
  unfold State.settleJoin
  repeat' (first
    | with_reducible assumption
    | exact within_trans hF rfl
    | exact bit_within hF rfl
    | with_reducible intro _
    | with_reducible apply fr_ite
    | with_reducible apply State.joinPort_fr
    | with_reducible apply State.setRejoin_fr
    | split
    | dsimp only)

theorem State.entryEffect_fr (s : State) (k old new : Nat) (hF : within 76536380129366 F = true) (h : Fr F v s) :
    Fr F v (State.entryEffect s k old new) := by
  unfold State.entryEffect
  repeat' (first
    | with_reducible assumption
    | exact within_trans hF rfl
    | exact bit_within hF rfl
    | with_reducible intro _
    | with_reducible apply fr_ite
    | with_reducible apply State.set_fr
    | with_reducible apply State.startMargin_fr
    | with_reducible apply State.heartbeatSoon_fr
    | with_reducible apply State.pathEffect_fr
    | with_reducible apply State.rfEffect_fr
    | with_reducible apply State.setRejoin_fr
    | with_reducible apply fr_foldl
    | split
    | dsimp only
    | (with_reducible apply fr_field; exact bit_within hF rfl; with_reducible apply fr_rail; exact bit_within hF rfl
       first
         | with_reducible assumption
         | with_reducible apply fr_ite
         | with_reducible apply State.set_fr
         | with_reducible apply State.startMargin_fr
         | with_reducible apply State.heartbeatSoon_fr
         | with_reducible apply State.pathEffect_fr
         | with_reducible apply State.rfEffect_fr
         | with_reducible apply State.setRejoin_fr
         | with_reducible apply fr_foldl
         | split))

theorem State.onStandby_fr (s : State) (hF : within 549755813910 F = true) (h : Fr F v s) :
    Fr F v (State.onStandby s) := by
  unfold State.onStandby
  repeat' (first
    | with_reducible assumption
    | exact within_trans hF rfl
    | exact bit_within hF rfl
    | with_reducible intro _
    | with_reducible apply fr_ite
    | with_reducible apply State.runInit_fr
    | with_reducible apply State.resumeHint_fr
    | split
    | dsimp only)

end Sys2Proof.Machine
end

