-- ==== Sys2Proof/Laws/FrameCommitOps.lean ====
section
/-!
SUPPORT. The frames of the functions of Sys2Proof/Machine/CommitOps.lean, one lemma for each of them (Laws/Frame.lean).
-/

namespace Sys2Proof.Machine

set_option linter.unusedTactic false
set_option linter.unreachableTactic false
set_option linter.unusedVariables false

open Sys2Proof

variable {F : Nat} {v : State}

theorem State.writeBack_fr (s : State) (hF : within 8 F = true) (h : Fr F v s) :
    Fr F v (State.writeBack s) := by
  unfold State.writeBack
  repeat' (first
    | with_reducible assumption
    | exact within_trans hF rfl
    | exact bit_within hF rfl
    | with_reducible intro _
    | with_reducible apply fr_ite
    | split
    | dsimp only
    | (with_reducible apply fr_cfg; exact bit_within hF rfl
       first
         | with_reducible assumption
         | with_reducible apply fr_ite
         | split))

theorem State.unqueue_fr (s : State) (h' : Held) (hF : within 16777216 F = true) (h : Fr F v s) :
    Fr F v (State.unqueue s h') := by
  unfold State.unqueue
  repeat' (first
    | with_reducible assumption
    | exact within_trans hF rfl
    | exact bit_within hF rfl
    | with_reducible intro _
    | with_reducible apply fr_ite
    | with_reducible apply State.placeWaiting_fr
    | split
    | dsimp only
    | (with_reducible apply fr_q; exact bit_within hF rfl
       first
         | with_reducible assumption
         | with_reducible apply fr_ite
         | with_reducible apply State.placeWaiting_fr
         | split))

theorem State.muteSegments_fr (s : State) (own : Caller → Bool) (hF : within 2097152 F = true) (h : Fr F v s) :
    Fr F v (State.muteSegments s own).2 := by
  unfold State.muteSegments
  repeat' (first
    | with_reducible assumption
    | exact within_trans hF rfl
    | exact bit_within hF rfl
    | with_reducible intro _
    | with_reducible apply fr_ite
    | with_reducible apply fr_ite_snd
    | split
    | dsimp only
    | (with_reducible apply fr_upd; exact bit_within hF rfl
       first
         | with_reducible assumption
         | with_reducible apply fr_ite
         | with_reducible apply fr_ite_snd
         | split))

theorem State.muteCommit_fr (s : State) (own : Caller → Bool) (hF : within 262144 F = true) (h : Fr F v s) :
    Fr F v (State.muteCommit s own).2 := by
  unfold State.muteCommit
  repeat' (first
    | with_reducible assumption
    | exact within_trans hF rfl
    | exact bit_within hF rfl
    | with_reducible intro _
    | with_reducible apply fr_ite
    | with_reducible apply fr_ite_snd
    | split
    | dsimp only
    | (with_reducible apply fr_eng; exact bit_within hF rfl
       first
         | with_reducible assumption
         | with_reducible apply fr_ite
         | with_reducible apply fr_ite_snd
         | split))

theorem State.discardRequests_fr (s : State) (own : Caller → Bool) (mine : Held → Bool) (hF : within 27525124 F = true) (h : Fr F v s) :
    Fr F v (State.discardRequests s own mine) := by
  unfold State.discardRequests
  repeat' (first
    | with_reducible assumption
    | exact within_trans hF rfl
    | exact bit_within hF rfl
    | with_reducible intro _
    | with_reducible apply fr_ite
    | with_reducible apply fr_ite_snd
    | with_reducible apply State.bump_fr
    | with_reducible apply State.unqueue_fr
    | with_reducible apply State.muteSegments_fr
    | with_reducible apply State.muteCommit_fr
    | with_reducible apply fr_foldl
    | split
    | dsimp only
    | (with_reducible apply fr_eng; exact bit_within hF rfl; with_reducible apply fr_hp; exact bit_within hF rfl
       first
         | with_reducible assumption
         | with_reducible apply fr_ite
         | with_reducible apply fr_ite_snd
         | with_reducible apply State.bump_fr
         | with_reducible apply State.unqueue_fr
         | with_reducible apply State.muteSegments_fr
         | with_reducible apply State.muteCommit_fr
         | with_reducible apply fr_foldl
         | split))

theorem State.discardWaiting_fr (s : State) (hF : within 27525124 F = true) (h : Fr F v s) :
    Fr F v (State.discardWaiting s) := by
  unfold State.discardWaiting
  repeat' (first
    | with_reducible assumption
    | exact within_trans hF rfl
    | exact bit_within hF rfl
    | with_reducible intro _
    | with_reducible apply fr_ite
    | with_reducible apply State.discardRequests_fr
    | split
    | dsimp only)

theorem State.endDebug_fr (s : State) (hold : Bool) (hF : within 8198 F = true) (h : Fr F v s) :
    Fr F v (State.endDebug s hold) := by
  unfold State.endDebug
  repeat' (first
    | with_reducible assumption
    | exact within_trans hF rfl
    | exact bit_within hF rfl
    | with_reducible intro _
    | with_reducible apply fr_ite
    | with_reducible apply State.set_fr
    | with_reducible apply State.disarm_fr
    | with_reducible apply State.arm_fr
    | with_reducible apply fr_foldl
    | split
    | dsimp only
    | (with_reducible apply fr_sec; exact bit_within hF rfl
       first
         | with_reducible assumption
         | with_reducible apply fr_ite
         | with_reducible apply State.set_fr
         | with_reducible apply State.disarm_fr
         | with_reducible apply State.arm_fr
         | with_reducible apply fr_foldl
         | split))

theorem State.endSession_fr (s : State) (slot : Nat) (hF : within 27598854 F = true) (h : Fr F v s) :
    Fr F v (State.endSession s slot) := by
  unfold State.endSession
  repeat' (first
    | with_reducible assumption
    | exact within_trans hF rfl
    | exact bit_within hF rfl
    | with_reducible intro _
    | with_reducible apply fr_ite
    | with_reducible apply State.disarm_fr
    | with_reducible apply State.setStage_fr
    | with_reducible apply State.discardRequests_fr
    | with_reducible apply State.endDebug_fr
    | split
    | dsimp only
    | (with_reducible apply fr_sec; exact bit_within hF rfl; with_reducible apply fr_sec_sessions; exact bit_within hF rfl
       first
         | with_reducible assumption
         | with_reducible apply fr_ite
         | with_reducible apply State.disarm_fr
         | with_reducible apply State.setStage_fr
         | with_reducible apply State.discardRequests_fr
         | with_reducible apply State.endDebug_fr
         | split))

theorem State.endSpent_fr (s : State) (hF : within 27598854 F = true) (h : Fr F v s) :
    Fr F v (State.endSpent s) := by
  unfold State.endSpent
  repeat' (first
    | with_reducible assumption
    | exact within_trans hF rfl
    | exact bit_within hF rfl
    | with_reducible intro _
    | with_reducible apply fr_ite
    | with_reducible apply State.endSession_fr
    | with_reducible apply fr_foldl
    | split
    | dsimp only)

theorem State.endSessions_fr (s : State) (hF : within 27598854 F = true) (h : Fr F v s) :
    Fr F v (State.endSessions s) := by
  unfold State.endSessions
  repeat' (first
    | with_reducible assumption
    | exact within_trans hF rfl
    | exact bit_within hF rfl
    | with_reducible intro _
    | with_reducible apply fr_ite
    | with_reducible apply State.endSession_fr
    | with_reducible apply fr_foldl
    | split
    | dsimp only
    | (with_reducible apply fr_sec; exact bit_within hF rfl
       first
         | with_reducible assumption
         | with_reducible apply fr_ite
         | with_reducible apply State.endSession_fr
         | with_reducible apply fr_foldl
         | split))

theorem State.applyEntry_fr (s : State) (e : CEntry) (hF : within 76536380129366 F = true) (h : Fr F v s) :
    Fr F v (State.applyEntry s e) := by
  unfold State.applyEntry
  repeat' (first
    | with_reducible assumption
    | exact within_trans hF rfl
    | exact bit_within hF rfl
    | with_reducible intro _
    | with_reducible apply fr_ite
    | with_reducible apply State.set_fr
    | with_reducible apply State.entryEffect_fr
    | split
    | dsimp only)

theorem State.applyWhere_fr (s : State) (r : CommitRun) (p : CEntry → Bool) (hF : within 76536380129366 F = true) (h : Fr F v s) :
    Fr F v (State.applyWhere s r p).1 := by
  unfold State.applyWhere
  repeat' (first
    | with_reducible assumption
    | exact within_trans hF rfl
    | exact bit_within hF rfl
    | with_reducible intro _
    | with_reducible apply fr_ite
    | with_reducible apply fr_ite_fst
    | with_reducible apply State.applyEntry_fr
    | with_reducible apply fr_foldl
    | split
    | dsimp only)

theorem State.commitReply_fr (s : State) (r : CommitRun) (hF : within 54599686 F = true) (h : Fr F v s) :
    Fr F v (State.commitReply s r) := by
  unfold State.commitReply
  repeat' (first
    | with_reducible assumption
    | exact within_trans hF rfl
    | exact bit_within hF rfl
    | with_reducible intro _
    | with_reducible apply fr_ite
    | with_reducible apply State.answer_fr
    | with_reducible apply State.done_fr
    | split
    | dsimp only)

theorem State.clearStage_fr (s : State) (r : CommitRun) (hF : within 262146 F = true) (h : Fr F v s) :
    Fr F v (State.clearStage s r) := by
  unfold State.clearStage
  repeat' (first
    | with_reducible assumption
    | exact within_trans hF rfl
    | exact bit_within hF rfl
    | with_reducible intro _
    | with_reducible apply fr_ite
    | with_reducible apply State.disarm_fr
    | with_reducible apply State.setStage_fr
    | split
    | dsimp only)

theorem State.finishCommit_fr (s : State) (r : CommitRun) (hF : within 65347606 F = true) (h : Fr F v s) :
    Fr F v (State.finishCommit s r) := by
  unfold State.finishCommit
  repeat' (first
    | with_reducible assumption
    | exact within_trans hF rfl
    | exact bit_within hF rfl
    | with_reducible intro _
    | with_reducible apply fr_ite
    | with_reducible apply State.set_fr
    | with_reducible apply State.bump_fr
    | with_reducible apply State.disarm_fr
    | with_reducible apply State.settleJoin_fr
    | with_reducible apply State.endSpent_fr
    | with_reducible apply State.commitReply_fr
    | with_reducible apply State.clearStage_fr
    | split
    | dsimp only
    | (with_reducible apply fr_eng; exact bit_within hF rfl
       first
         | with_reducible assumption
         | with_reducible apply fr_ite
         | with_reducible apply State.set_fr
         | with_reducible apply State.bump_fr
         | with_reducible apply State.disarm_fr
         | with_reducible apply State.settleJoin_fr
         | with_reducible apply State.endSpent_fr
         | with_reducible apply State.commitReply_fr
         | with_reducible apply State.clearStage_fr
         | split))

theorem State.tryFinish_fr (s : State) (hF : within 65347606 F = true) (h : Fr F v s) :
    Fr F v (State.tryFinish s) := by
  unfold State.tryFinish
  repeat' (first
    | with_reducible assumption
    | exact within_trans hF rfl
    | exact bit_within hF rfl
    | with_reducible intro _
    | with_reducible apply fr_ite
    | with_reducible apply State.set_fr
    | with_reducible apply State.finishCommit_fr
    | split
    | dsimp only
    | (with_reducible apply fr_eng; exact bit_within hF rfl
       first
         | with_reducible assumption
         | with_reducible apply fr_ite
         | with_reducible apply State.set_fr
         | with_reducible apply State.finishCommit_fr
         | split))

theorem State.applyAll_fr (s : State) (r : CommitRun) (hF : within 76536382562390 F = true) (h : Fr F v s) :
    Fr F v (State.applyAll s r) := by
  unfold State.applyAll
  repeat' (first
    | with_reducible assumption
    | exact within_trans hF rfl
    | exact bit_within hF rfl
    | with_reducible intro _
    | with_reducible apply fr_ite
    | with_reducible apply fr_ite_fst
    | with_reducible apply State.applyWhere_fr
    | with_reducible apply State.finishCommit_fr
    | split
    | dsimp only)

theorem State.advanceCommit_fr (s : State) (arb : Bool) (hF : within 76536382562390 F = true) (h : Fr F v s) :
    Fr F v (State.advanceCommit s arb) := by
  unfold State.advanceCommit
  repeat' (first
    | with_reducible assumption
    | exact within_trans hF rfl
    | exact bit_within hF rfl
    | with_reducible intro _
    | with_reducible apply fr_ite
    | with_reducible apply fr_ite_fst
    | with_reducible apply State.applyWhere_fr
    | with_reducible apply State.tryFinish_fr
    | with_reducible apply State.applyAll_fr
    | split
    | dsimp only
    | (with_reducible apply fr_eng; exact bit_within hF rfl
       first
         | with_reducible assumption
         | with_reducible apply fr_ite
         | with_reducible apply fr_ite_fst
         | with_reducible apply State.applyWhere_fr
         | with_reducible apply State.tryFinish_fr
         | with_reducible apply State.applyAll_fr
         | split))

theorem State.setHeld_fr (s : State) (d : Dir) (b : Bool) (hF : within 137438953472 F = true) (h : Fr F v s) :
    Fr F v (State.setHeld s d b) := by
  unfold State.setHeld
  repeat' (first
    | with_reducible assumption
    | exact within_trans hF rfl
    | exact bit_within hF rfl
    | with_reducible intro _
    | with_reducible apply fr_ite
    | split
    | dsimp only
    | (with_reducible apply fr_loops; exact bit_within hF rfl
       first
         | with_reducible assumption
         | with_reducible apply fr_ite
         | split))

theorem State.raiseDir_fr (s : State) (d : Dir) (held : Bool) (hF : within 76536380391510 F = true) (h : Fr F v s) :
    Fr F v (State.raiseDir s d held) := by
  unfold State.raiseDir
  repeat' (first
    | with_reducible assumption
    | exact within_trans hF rfl
    | exact bit_within hF rfl
    | with_reducible intro _
    | with_reducible apply fr_ite
    | with_reducible apply fr_ite_fst
    | with_reducible apply State.disarm_fr
    | with_reducible apply State.applyWhere_fr
    | split
    | dsimp only
    | (with_reducible apply fr_eng; exact bit_within hF rfl
       first
         | with_reducible assumption
         | with_reducible apply fr_ite
         | with_reducible apply fr_ite_fst
         | with_reducible apply State.disarm_fr
         | with_reducible apply State.applyWhere_fr
         | split))

theorem State.moveDir_fr (s : State) (d : Dir) (hF : within 76536380391510 F = true) (h : Fr F v s) :
    Fr F v (State.moveDir s d) := by
  unfold State.moveDir
  repeat' (first
    | with_reducible assumption
    | exact within_trans hF rfl
    | exact bit_within hF rfl
    | with_reducible intro _
    | with_reducible apply fr_ite
    | with_reducible apply fr_ite_fst
    | with_reducible apply State.arm_fr
    | with_reducible apply State.applyWhere_fr
    | split
    | dsimp only
    | (with_reducible apply fr_eng; exact bit_within hF rfl
       first
         | with_reducible assumption
         | with_reducible apply fr_ite
         | with_reducible apply fr_ite_fst
         | with_reducible apply State.arm_fr
         | with_reducible apply State.applyWhere_fr
         | split))

theorem State.capSchedule_fr (s : State) (e : CEntry) (hF : within 68719476736 F = true) (h : Fr F v s) :
    Fr F v (State.capSchedule s e) := by
  unfold State.capSchedule
  repeat' (first
    | with_reducible assumption
    | exact within_trans hF rfl
    | exact bit_within hF rfl
    | with_reducible intro _
    | with_reducible apply fr_ite
    | with_reducible apply State.setPath_fr
    | split
    | dsimp only)

theorem State.reduceDir_fr (s : State) (d : Dir) (r : CommitRun) (hF : within 76536380391510 F = true) (h : Fr F v s) :
    Fr F v (State.reduceDir s d r) := by
  unfold State.reduceDir
  repeat' (first
    | with_reducible assumption
    | exact within_trans hF rfl
    | exact bit_within hF rfl
    | with_reducible intro _
    | with_reducible apply fr_ite
    | with_reducible apply fr_ite_fst
    | with_reducible apply State.rebalance_fr
    | with_reducible apply State.applyWhere_fr
    | with_reducible apply State.capSchedule_fr
    | with_reducible apply fr_foldl
    | split
    | dsimp only
    | (with_reducible apply fr_eng; exact bit_within hF rfl
       first
         | with_reducible assumption
         | with_reducible apply fr_ite
         | with_reducible apply fr_ite_fst
         | with_reducible apply State.rebalance_fr
         | with_reducible apply State.applyWhere_fr
         | with_reducible apply State.capSchedule_fr
         | with_reducible apply fr_foldl
         | split))

theorem State.followDir_fr (s : State) (d : Dir) (hF : within 76536380391510 F = true) (h : Fr F v s) :
    Fr F v (State.followDir s d) := by
  unfold State.followDir
  repeat' (first
    | with_reducible assumption
    | exact within_trans hF rfl
    | exact bit_within hF rfl
    | with_reducible intro _
    | with_reducible apply fr_ite
    | with_reducible apply State.moveDir_fr
    | split
    | dsimp only)

theorem State.followCommit_fr (s : State) (hF : within 76536382562390 F = true) (h : Fr F v s) :
    Fr F v (State.followCommit s) := by
  unfold State.followCommit
  repeat' (first
    | with_reducible assumption
    | exact within_trans hF rfl
    | exact bit_within hF rfl
    | with_reducible intro _
    | with_reducible apply fr_ite
    | with_reducible apply State.moveGains_fr
    | with_reducible apply State.advanceCommit_fr
    | with_reducible apply State.followDir_fr
    | split
    | dsimp only)

theorem State.boundaryCommit_fr (s : State) (d : Dir) (counted : Bool) (hF : within 76536380391510 F = true) (h : Fr F v s) :
    Fr F v (State.boundaryCommit s d counted) := by
  unfold State.boundaryCommit
  repeat' (first
    | with_reducible assumption
    | exact within_trans hF rfl
    | exact bit_within hF rfl
    | with_reducible intro _
    | with_reducible apply fr_ite
    | with_reducible apply State.startRetune_fr
    | with_reducible apply State.leCommit_fr
    | with_reducible apply State.raiseDir_fr
    | with_reducible apply State.reduceDir_fr
    | with_reducible apply State.followDir_fr
    | split
    | dsimp only)

theorem State.startCommit_fr (s : State) (c : Caller) (form : ReplyForm) (fromStage : Option StageId) (es : List (Nat × Nat)) (req : Bytes) (hF : within 76536382562398 F = true) (h : Fr F v s) :
    Fr F v (State.startCommit s c form fromStage es req) := by
  unfold State.startCommit
  repeat' (first
    | with_reducible assumption
    | exact within_trans hF rfl
    | exact bit_within hF rfl
    | with_reducible intro _
    | with_reducible apply fr_ite
    | with_reducible apply State.set_fr
    | with_reducible apply State.arm_fr
    | with_reducible apply State.abort_fr
    | with_reducible apply State.advanceCommit_fr
    | split
    | dsimp only
    | (with_reducible apply fr_cfg; exact bit_within hF rfl; with_reducible apply fr_eng; exact bit_within hF rfl
       first
         | with_reducible assumption
         | with_reducible apply fr_ite
         | with_reducible apply State.set_fr
         | with_reducible apply State.arm_fr
         | with_reducible apply State.abort_fr
         | with_reducible apply State.advanceCommit_fr
         | split))

theorem State.rejectCommit_fr (s : State) (c : Caller) (req : Bytes) (es : List (Nat × Nat)) (pos code : Nat) (hF : within 62988294 F = true) (h : Fr F v s) :
    Fr F v (State.rejectCommit s c req es pos code) := by
  unfold State.rejectCommit
  repeat' (first
    | with_reducible assumption
    | exact within_trans hF rfl
    | exact bit_within hF rfl
    | with_reducible intro _
    | with_reducible apply fr_ite
    | with_reducible apply State.set_fr
    | with_reducible apply State.bump_fr
    | with_reducible apply State.flag_fr
    | with_reducible apply State.abort_fr
    | split
    | dsimp only)

theorem State.tryCommit_fr (s : State) (c : Caller) (form : ReplyForm) (fromStage : Option StageId) (es : List (Nat × Nat)) (req : Bytes) (hF : within 76536382562398 F = true) (h : Fr F v s) :
    Fr F v (State.tryCommit s c form fromStage es req) := by
  unfold State.tryCommit
  repeat' (first
    | with_reducible assumption
    | exact within_trans hF rfl
    | exact bit_within hF rfl
    | with_reducible intro _
    | with_reducible apply fr_ite
    | with_reducible apply State.abort_fr
    | with_reducible apply State.commitReply_fr
    | with_reducible apply State.startCommit_fr
    | with_reducible apply State.rejectCommit_fr
    | split
    | dsimp only)

theorem State.configWritten_fr (s : State) (verified : Bool) (hF : within 76536382562398 F = true) (h : Fr F v s) :
    Fr F v (State.configWritten s verified) := by
  unfold State.configWritten
  repeat' (first
    | with_reducible assumption
    | exact within_trans hF rfl
    | exact bit_within hF rfl
    | with_reducible intro _
    | with_reducible apply fr_ite
    | with_reducible apply State.set_fr
    | with_reducible apply State.bump_fr
    | with_reducible apply State.disarm_fr
    | with_reducible apply State.faultRow_fr
    | with_reducible apply State.abort_fr
    | with_reducible apply State.advanceCommit_fr
    | split
    | dsimp only
    | (with_reducible apply fr_cfg; exact bit_within hF rfl; with_reducible apply fr_eng; exact bit_within hF rfl
       first
         | with_reducible assumption
         | with_reducible apply fr_ite
         | with_reducible apply State.set_fr
         | with_reducible apply State.bump_fr
         | with_reducible apply State.disarm_fr
         | with_reducible apply State.faultRow_fr
         | with_reducible apply State.abort_fr
         | with_reducible apply State.advanceCommit_fr
         | split))

theorem State.notePreempted_fr (s : State) (r : CommitRun) (hF : within 58720262 F = true) (h : Fr F v s) :
    Fr F v (State.notePreempted s r) := by
  unfold State.notePreempted
  repeat' (first
    | with_reducible assumption
    | exact within_trans hF rfl
    | exact bit_within hF rfl
    | with_reducible intro _
    | with_reducible apply fr_ite
    | with_reducible apply State.faultRow_fr
    | split
    | dsimp only)

theorem State.preemptCommit_fr (s : State) (hF : within 76536382562390 F = true) (h : Fr F v s) :
    Fr F v (State.preemptCommit s) := by
  unfold State.preemptCommit
  repeat' (first
    | with_reducible assumption
    | exact within_trans hF rfl
    | exact bit_within hF rfl
    | with_reducible intro _
    | with_reducible apply fr_ite
    | with_reducible apply State.applyAll_fr
    | with_reducible apply State.notePreempted_fr
    | split
    | dsimp only
    | (with_reducible apply fr_eng; exact bit_within hF rfl
       first
         | with_reducible assumption
         | with_reducible apply fr_ite
         | with_reducible apply State.applyAll_fr
         | with_reducible apply State.notePreempted_fr
         | split))

theorem State.endWaiting_fr (s : State) (target : PState) (hF : within 63250438 F = true) (h : Fr F v s) :
    Fr F v (State.endWaiting s target) := by
  unfold State.endWaiting
  repeat' (first
    | with_reducible assumption
    | exact within_trans hF rfl
    | exact bit_within hF rfl
    | with_reducible intro _
    | with_reducible apply fr_ite
    | with_reducible apply State.abort_fr
    | split
    | dsimp only
    | (with_reducible apply fr_eng; exact bit_within hF rfl
       first
         | with_reducible assumption
         | with_reducible apply fr_ite
         | with_reducible apply State.abort_fr
         | split))

end Sys2Proof.Machine
end

