-- ==== Sys2Proof/Laws/FrameTwinOps.lean ====
section
/-!
SUPPORT. The frames of the functions of Sys2Proof/Machine/TwinOps.lean, one lemma for each of them (Laws/Frame.lean).
-/

namespace Sys2Proof.Machine

set_option linter.unusedTactic false
set_option linter.unreachableTactic false
set_option linter.unusedVariables false

open Sys2Proof

variable {F : Nat} {v : State}

theorem State.sendLink_fr (s : State) (type : Nat) (payload : Bytes) (hF : within 50331654 F = true) (h : Fr F v s) :
    Fr F v (State.sendLink s type payload) := by
  unfold State.sendLink
  repeat' (first
    | with_reducible assumption
    | exact within_trans hF rfl
    | exact bit_within hF rfl
    | with_reducible intro _
    | with_reducible apply fr_ite
    | with_reducible apply State.post_fr
    | split
    | dsimp only)

theorem State.linkStat_fr (s : State) (i : Nat) (hF : within 4 F = true) (h : Fr F v s) :
    Fr F v (State.linkStat s i) := by
  unfold State.linkStat
  repeat' (first
    | with_reducible assumption
    | exact within_trans hF rfl
    | exact bit_within hF rfl
    | with_reducible intro _
    | with_reducible apply fr_ite
    | with_reducible apply State.set_fr
    | split
    | dsimp only)

theorem State.depart_fr (s : State) (cause : Nat) (hF : within 175921919164950 F = true) (h : Fr F v s) :
    Fr F v (State.depart s cause) := by
  unfold State.depart
  repeat' (first
    | with_reducible assumption
    | exact within_trans hF rfl
    | exact bit_within hF rfl
    | with_reducible intro _
    | with_reducible apply fr_ite
    | with_reducible apply State.set_fr
    | with_reducible apply State.disarm_fr
    | with_reducible apply State.abandonBurst_fr
    | with_reducible apply State.sendLink_fr
    | split
    | dsimp only
    | (with_reducible apply fr_pins; exact bit_within hF rfl; with_reducible apply fr_pins_twinAct; exact bit_within hF rfl; with_reducible apply fr_twin; exact bit_within hF rfl
       first
         | with_reducible assumption
         | with_reducible apply fr_ite
         | with_reducible apply State.set_fr
         | with_reducible apply State.disarm_fr
         | with_reducible apply State.abandonBurst_fr
         | with_reducible apply State.sendLink_fr
         | split))

theorem State.leaveUnsigned_fr (s : State) (seq reason : Nat) (hF : within 2199081975814 F = true) (h : Fr F v s) :
    Fr F v (State.leaveUnsigned s seq reason) := by
  unfold State.leaveUnsigned
  repeat' (first
    | with_reducible assumption
    | exact within_trans hF rfl
    | exact bit_within hF rfl
    | with_reducible intro _
    | with_reducible apply fr_ite
    | with_reducible apply State.faultRow_fr
    | split
    | dsimp only
    | (with_reducible apply fr_net; exact bit_within hF rfl
       first
         | with_reducible assumption
         | with_reducible apply fr_ite
         | with_reducible apply State.faultRow_fr
         | split))

theorem State.dropSigning_fr (s : State) (reason : Nat) (hF : within 2199081975814 F = true) (h : Fr F v s) :
    Fr F v (State.dropSigning s reason) := by
  unfold State.dropSigning
  repeat' (first
    | with_reducible assumption
    | exact within_trans hF rfl
    | exact bit_within hF rfl
    | with_reducible intro _
    | with_reducible apply fr_ite
    | with_reducible apply State.disarm_fr
    | with_reducible apply State.leaveUnsigned_fr
    | with_reducible apply fr_foldl
    | split
    | dsimp only
    | (with_reducible apply fr_net; exact bit_within hF rfl
       first
         | with_reducible assumption
         | with_reducible apply fr_ite
         | with_reducible apply State.disarm_fr
         | with_reducible apply State.leaveUnsigned_fr
         | with_reducible apply fr_foldl
         | split))

end Sys2Proof.Machine
end

