-- ==== Sys2Proof/Laws/FramePowerOps.lean ====
section
/-!
SUPPORT. The frames of the functions of Sys2Proof/Machine/PowerOps.lean, one lemma for each of them (Laws/Frame.lean).
-/

namespace Sys2Proof.Machine

set_option linter.unusedTactic false
set_option linter.unreachableTactic false
set_option linter.unusedVariables false

open Sys2Proof

variable {F : Nat} {v : State}

theorem State.makeRsk_fr (s : State) (hF : within 281474976751616 F = true) (h : Fr F v s) :
    Fr F v (State.makeRsk s) := by
  unfold State.makeRsk
  repeat' (first
    | with_reducible assumption
    | exact within_trans hF rfl
    | exact bit_within hF rfl
    | with_reducible intro _
    | with_reducible apply fr_ite
    | with_reducible apply fr_ite_snd
    | with_reducible apply State.drawRandom_fr
    | with_reducible apply State.sealKey_fr
    | split
    | dsimp only
    | (with_reducible apply fr_sec; exact bit_within hF rfl
       first
         | with_reducible assumption
         | with_reducible apply fr_ite
         | with_reducible apply fr_ite_snd
         | with_reducible apply State.drawRandom_fr
         | with_reducible apply State.sealKey_fr
         | split))

theorem State.lifecycleRecord_fr (s : State) (old new origin : Nat) (hF : within 50331654 F = true) (h : Fr F v s) :
    Fr F v (State.lifecycleRecord s old new origin) := by
  unfold State.lifecycleRecord
  repeat' (first
    | with_reducible assumption
    | exact within_trans hF rfl
    | exact bit_within hF rfl
    | with_reducible intro _
    | with_reducible apply fr_ite
    | with_reducible apply State.postLog_fr
    | split
    | dsimp only)

theorem State.blowLifecycle_fr (s : State) (hF : within 281475037913094 F = true) (h : Fr F v s) :
    Fr F v (State.blowLifecycle s) := by
  unfold State.blowLifecycle
  repeat' (first
    | with_reducible assumption
    | exact within_trans hF rfl
    | exact bit_within hF rfl
    | with_reducible intro _
    | with_reducible apply fr_ite
    | with_reducible apply State.disarm_fr
    | with_reducible apply State.raiseNotify_fr
    | with_reducible apply State.endDebug_fr
    | with_reducible apply State.endSessions_fr
    | with_reducible apply State.makeRsk_fr
    | with_reducible apply State.lifecycleRecord_fr
    | split
    | dsimp only
    | (with_reducible apply fr_sec; exact bit_within hF rfl; with_reducible apply fr_sec_fuses; exact bit_within hF rfl
       first
         | with_reducible assumption
         | with_reducible apply fr_ite
         | with_reducible apply State.disarm_fr
         | with_reducible apply State.raiseNotify_fr
         | with_reducible apply State.endDebug_fr
         | with_reducible apply State.endSessions_fr
         | with_reducible apply State.makeRsk_fr
         | with_reducible apply State.lifecycleRecord_fr
         | split))

theorem State.enterState_fr (s : State) (new : PState) (reason : Nat) (hF : within 58723334 F = true) (h : Fr F v s) :
    Fr F v (State.enterState s new reason) := by
  unfold State.enterState
  repeat' (first
    | with_reducible assumption
    | exact within_trans hF rfl
    | exact bit_within hF rfl
    | with_reducible intro _
    | with_reducible apply fr_ite
    | with_reducible apply State.set_fr
    | with_reducible apply State.raiseNotify_fr
    | with_reducible apply State.raiseIrq_fr
    | split
    | dsimp only
    | (with_reducible apply fr_power; exact bit_within hF rfl; with_reducible apply fr_power_state; exact bit_within hF rfl
       first
         | with_reducible assumption
         | with_reducible apply fr_ite
         | with_reducible apply State.set_fr
         | with_reducible apply State.raiseNotify_fr
         | with_reducible apply State.raiseIrq_fr
         | split))

theorem State.unitsDown_fr (s : State) (hF : within 208838489800704 F = true) (h : Fr F v s) :
    Fr F v (State.unitsDown s) := by
  unfold State.unitsDown
  repeat' (first
    | with_reducible assumption
    | exact within_trans hF rfl
    | exact bit_within hF rfl
    | with_reducible intro _
    | with_reducible apply fr_ite
    | split
    | dsimp only
    | (with_reducible apply fr_paths; exact bit_within hF rfl; with_reducible apply fr_loops; exact bit_within hF rfl; with_reducible apply fr_conv; exact bit_within hF rfl; with_reducible apply fr_fe; exact bit_within hF rfl; with_reducible apply fr_le; exact bit_within hF rfl; with_reducible apply fr_pa; exact bit_within hF rfl; with_reducible apply fr_feed; exact bit_within hF rfl; with_reducible apply fr_hkb; exact bit_within hF rfl; with_reducible apply fr_tiu; exact bit_within hF rfl; with_reducible apply fr_twin; exact bit_within hF rfl
       first
         | with_reducible assumption
         | with_reducible apply fr_ite
         | split))

theorem State.coreDown_fr (s : State) (hF : within 211037579977750 F = true) (h : Fr F v s) :
    Fr F v (State.coreDown s) := by
  unfold State.coreDown
  repeat' (first
    | with_reducible assumption
    | exact within_trans hF rfl
    | exact bit_within hF rfl
    | with_reducible intro _
    | with_reducible apply fr_ite
    | with_reducible apply State.set_fr
    | with_reducible apply State.discardWaiting_fr
    | with_reducible apply State.endDebug_fr
    | with_reducible apply State.endSessions_fr
    | with_reducible apply State.dropSigning_fr
    | with_reducible apply State.unitsDown_fr
    | split
    | dsimp only
    | (with_reducible apply fr_timers; exact bit_within hF rfl; with_reducible apply fr_dict; exact bit_within hF rfl; with_reducible apply fr_pins; exact bit_within hF rfl; with_reducible apply fr_power; exact bit_within hF rfl; with_reducible apply fr_sec; exact bit_within hF rfl; with_reducible apply fr_eng; exact bit_within hF rfl; with_reducible apply fr_blockReads; exact bit_within hF rfl; with_reducible apply fr_blockWrites; exact bit_within hF rfl; with_reducible apply fr_upd; exact bit_within hF rfl; with_reducible apply fr_field; exact bit_within hF rfl; with_reducible apply fr_hp; exact bit_within hF rfl; with_reducible apply fr_q; exact bit_within hF rfl
       first
         | with_reducible assumption
         | with_reducible apply fr_ite
         | with_reducible apply State.set_fr
         | with_reducible apply State.discardWaiting_fr
         | with_reducible apply State.endDebug_fr
         | with_reducible apply State.endSessions_fr
         | with_reducible apply State.dropSigning_fr
         | with_reducible apply State.unitsDown_fr
         | split))

theorem State.drainLogs_fr (k : Nat) (s : State) (hF : within 281475236757510 F = true) (h : Fr F v s) : Fr F v (State.drainLogs k s) := by
  induction k generalizing s with
  | zero => exact h
  | succ k ih =>
    unfold State.drainLogs
    split
    · exact h
    · next e => exact ih _ (State.commitMsg_fr _ _ _ _ (within_trans hF rfl) (State.nextLog_fr _ _ _ e (within_trans hF rfl) h))

theorem State.closeRefLoss_fr (s : State) (hF : within 50332678 F = true) (h : Fr F v s) :
    Fr F v (State.closeRefLoss s) := by
  unfold State.closeRefLoss
  repeat' (first
    | with_reducible assumption
    | exact within_trans hF rfl
    | exact bit_within hF rfl
    | with_reducible intro _
    | with_reducible apply fr_ite
    | with_reducible apply State.log_fr
    | split
    | dsimp only
    | (with_reducible apply fr_power; exact bit_within hF rfl
       first
         | with_reducible assumption
         | with_reducible apply fr_ite
         | with_reducible apply State.log_fr
         | split))

theorem State.startDelays_fr (s : State) (hF : within 6 F = true) (h : Fr F v s) :
    Fr F v (State.startDelays s) := by
  unfold State.startDelays
  repeat' (first
    | with_reducible assumption
    | exact within_trans hF rfl
    | exact bit_within hF rfl
    | with_reducible intro _
    | with_reducible apply fr_ite
    | with_reducible apply State.set_fr
    | with_reducible apply State.arm_fr
    | with_reducible apply fr_foldl
    | split
    | dsimp only)

theorem State.forgetReadings_fr (s : State) (hF : within 4 F = true) (h : Fr F v s) :
    Fr F v (State.forgetReadings s) := by
  unfold State.forgetReadings
  repeat' (first
    | with_reducible assumption
    | exact within_trans hF rfl
    | exact bit_within hF rfl
    | with_reducible intro _
    | with_reducible apply fr_ite
    | with_reducible apply State.set_fr
    | with_reducible apply fr_foldl
    | split
    | dsimp only)

theorem State.beginStart_fr (s : State) (reason : Nat) (touch limited : Bool) (hF : within 17179870214 F = true) (h : Fr F v s) :
    Fr F v (State.beginStart s reason touch limited) := by
  unfold State.beginStart
  repeat' (first
    | with_reducible assumption
    | exact within_trans hF rfl
    | exact bit_within hF rfl
    | with_reducible intro _
    | with_reducible apply fr_ite
    | with_reducible apply State.set_fr
    | with_reducible apply State.disarm_fr
    | with_reducible apply State.startDelays_fr
    | with_reducible apply State.forgetReadings_fr
    | with_reducible apply fr_foldl
    | split
    | dsimp only
    | (with_reducible apply fr_power; exact bit_within hF rfl; with_reducible apply fr_rail; exact bit_within hF rfl
       first
         | with_reducible assumption
         | with_reducible apply fr_ite
         | with_reducible apply State.set_fr
         | with_reducible apply State.disarm_fr
         | with_reducible apply State.startDelays_fr
         | with_reducible apply State.forgetReadings_fr
         | with_reducible apply fr_foldl
         | split))

theorem State.wakeStart_fr (s : State) (reason : Nat) (touch : Bool) (hF : within 17179870214 F = true) (h : Fr F v s) :
    Fr F v (State.wakeStart s reason touch) := by
  unfold State.wakeStart
  repeat' (first
    | with_reducible assumption
    | exact within_trans hF rfl
    | exact bit_within hF rfl
    | with_reducible intro _
    | with_reducible apply fr_ite
    | with_reducible apply State.beginStart_fr
    | split
    | dsimp only)

theorem State.endLockout_fr (s : State) (hF : within 4 F = true) (h : Fr F v s) :
    Fr F v (State.endLockout s) := by
  unfold State.endLockout
  repeat' (first
    | with_reducible assumption
    | exact within_trans hF rfl
    | exact bit_within hF rfl
    | with_reducible intro _
    | with_reducible apply fr_ite
    | with_reducible apply State.set_fr
    | split
    | dsimp only)

theorem State.driveRail_fr (s : State) (n : Nat) (b : Bool) (hF : within 48 F = true) (h : Fr F v s) :
    Fr F v (State.driveRail s n b) := by
  unfold State.driveRail
  repeat' (first
    | with_reducible assumption
    | exact within_trans hF rfl
    | exact bit_within hF rfl
    | with_reducible intro _
    | with_reducible apply fr_ite
    | split
    | dsimp only
    | (with_reducible apply fr_pins; exact bit_within hF rfl; with_reducible apply fr_pins_railEn; exact bit_within hF rfl
       first
         | with_reducible assumption
         | with_reducible apply fr_ite
         | split))

theorem State.releaseRail_fr (s : State) (n : Nat) (hF : within 492529937884214 F = true) (h : Fr F v s) :
    Fr F v (State.releaseRail s n) := by
  unfold State.releaseRail
  repeat' (first
    | with_reducible assumption
    | exact within_trans hF rfl
    | exact bit_within hF rfl
    | with_reducible intro _
    | with_reducible apply fr_ite
    | with_reducible apply State.set_fr
    | with_reducible apply State.disarm_fr
    | with_reducible apply State.arm_fr
    | with_reducible apply State.endClear_fr
    | with_reducible apply State.noteRestricted_fr
    | with_reducible apply State.coreDown_fr
    | with_reducible apply State.drainLogs_fr
    | with_reducible apply State.closeRefLoss_fr
    | with_reducible apply State.driveRail_fr
    | split
    | dsimp only
    | (with_reducible apply fr_q; exact bit_within hF rfl; with_reducible apply fr_rail; exact bit_within hF rfl
       first
         | with_reducible assumption
         | with_reducible apply fr_ite
         | with_reducible apply State.set_fr
         | with_reducible apply State.disarm_fr
         | with_reducible apply State.arm_fr
         | with_reducible apply State.endClear_fr
         | with_reducible apply State.noteRestricted_fr
         | with_reducible apply State.coreDown_fr
         | with_reducible apply State.drainLogs_fr
         | with_reducible apply State.closeRefLoss_fr
         | with_reducible apply State.driveRail_fr
         | split))

theorem State.releaseReady_fr (s : State) (hF : within 492529937884214 F = true) (h : Fr F v s) :
    Fr F v (State.releaseReady s) := by
  unfold State.releaseReady
  repeat' (first
    | with_reducible assumption
    | exact within_trans hF rfl
    | exact bit_within hF rfl
    | with_reducible intro _
    | with_reducible apply fr_ite
    | with_reducible apply State.releaseRail_fr
    | with_reducible apply fr_foldl
    | split
    | dsimp only)

theorem State.cancelEnables_fr (s : State) (hF : within 6 F = true) (h : Fr F v s) :
    Fr F v (State.cancelEnables s) := by
  unfold State.cancelEnables
  repeat' (first
    | with_reducible assumption
    | exact within_trans hF rfl
    | exact bit_within hF rfl
    | with_reducible intro _
    | with_reducible apply fr_ite
    | with_reducible apply State.set_fr
    | with_reducible apply State.disarm_fr
    | with_reducible apply fr_foldl
    | split
    | dsimp only)

theorem State.markShutdown_fr (s : State) (hF : within 134217728 F = true) (h : Fr F v s) :
    Fr F v (State.markShutdown s) := by
  unfold State.markShutdown
  repeat' (first
    | with_reducible assumption
    | exact within_trans hF rfl
    | exact bit_within hF rfl
    | with_reducible intro _
    | with_reducible apply fr_ite
    | with_reducible apply State.setCtl_fr
    | split
    | dsimp only)

theorem State.stepReleased_fr (s : State) (hF : within 2 F = true) (h : Fr F v s) :
    Fr F v (State.stepReleased s) := by
  unfold State.stepReleased
  repeat' (first
    | with_reducible assumption
    | exact within_trans hF rfl
    | exact bit_within hF rfl
    | with_reducible intro _
    | with_reducible apply fr_ite
    | with_reducible apply State.disarm_fr
    | with_reducible apply State.arm_fr
    | with_reducible apply fr_foldl
    | split
    | dsimp only)

theorem State.beginReleases_fr (s : State) (hF : within 492529937884214 F = true) (h : Fr F v s) :
    Fr F v (State.beginReleases s) := by
  unfold State.beginReleases
  repeat' (first
    | with_reducible assumption
    | exact within_trans hF rfl
    | exact bit_within hF rfl
    | with_reducible intro _
    | with_reducible apply fr_ite
    | with_reducible apply State.set_fr
    | with_reducible apply State.releaseReady_fr
    | with_reducible apply State.cancelEnables_fr
    | with_reducible apply State.stepReleased_fr
    | split
    | dsimp only
    | (with_reducible apply fr_rail; exact bit_within hF rfl
       first
         | with_reducible assumption
         | with_reducible apply fr_ite
         | with_reducible apply State.set_fr
         | with_reducible apply State.releaseReady_fr
         | with_reducible apply State.cancelEnables_fr
         | with_reducible apply State.stepReleased_fr
         | split))

theorem State.latchSlot_fr (s : State) (n : Nat) (exhausted : Bool) (hF : within 58720262 F = true) (h : Fr F v s) :
    Fr F v (State.latchSlot s n exhausted) := by
  unfold State.latchSlot
  repeat' (first
    | with_reducible assumption
    | exact within_trans hF rfl
    | exact bit_within hF rfl
    | with_reducible intro _
    | with_reducible apply fr_ite
    | with_reducible apply State.set_fr
    | with_reducible apply State.postLog_fr
    | with_reducible apply State.flag_fr
    | split
    | dsimp only)

theorem State.applyReaction_fr (s : State) (faults : List Nat) (hF : within 58720262 F = true) (h : Fr F v s) :
    Fr F v (State.applyReaction s faults) := by
  unfold State.applyReaction
  repeat' (first
    | with_reducible assumption
    | exact within_trans hF rfl
    | exact bit_within hF rfl
    | with_reducible intro _
    | with_reducible apply fr_ite
    | with_reducible apply State.set_fr
    | with_reducible apply State.arm_fr
    | with_reducible apply State.latchSlot_fr
    | split
    | dsimp only)

theorem State.enterDormant_fr (s : State) (reason : Nat) (hF : within 211037579980502 F = true) (h : Fr F v s) :
    Fr F v (State.enterDormant s reason) := by
  unfold State.enterDormant
  repeat' (first
    | with_reducible assumption
    | exact within_trans hF rfl
    | exact bit_within hF rfl
    | with_reducible intro _
    | with_reducible apply fr_ite
    | with_reducible apply State.arm_fr
    | with_reducible apply State.hardMute_fr
    | with_reducible apply State.paOff_fr
    | with_reducible apply State.depart_fr
    | with_reducible apply State.enterState_fr
    | with_reducible apply State.coreDown_fr
    | with_reducible apply State.closeRefLoss_fr
    | split
    | dsimp only
    | (with_reducible apply fr_pins; exact bit_within hF rfl; with_reducible apply fr_pins_twinAct; exact bit_within hF rfl; with_reducible apply fr_power; exact bit_within hF rfl
       first
         | with_reducible assumption
         | with_reducible apply fr_ite
         | with_reducible apply State.arm_fr
         | with_reducible apply State.hardMute_fr
         | with_reducible apply State.paOff_fr
         | with_reducible apply State.depart_fr
         | with_reducible apply State.enterState_fr
         | with_reducible apply State.coreDown_fr
         | with_reducible apply State.closeRefLoss_fr
         | split))

theorem State.rstInDormant_fr (s : State) (hF : within 17179870214 F = true) (h : Fr F v s) :
    Fr F v (State.rstInDormant s) := by
  unfold State.rstInDormant
  repeat' (first
    | with_reducible assumption
    | exact within_trans hF rfl
    | exact bit_within hF rfl
    | with_reducible intro _
    | with_reducible apply fr_ite
    | with_reducible apply State.wakeStart_fr
    | with_reducible apply State.endLockout_fr
    | split
    | dsimp only)

theorem State.actHeldRst_fr (s : State) (hF : within 17179870214 F = true) (h : Fr F v s) :
    Fr F v (State.actHeldRst s) := by
  unfold State.actHeldRst
  repeat' (first
    | with_reducible assumption
    | exact within_trans hF rfl
    | exact bit_within hF rfl
    | with_reducible intro _
    | with_reducible apply fr_ite
    | with_reducible apply State.rstInDormant_fr
    | split
    | dsimp only
    | (with_reducible apply fr_power; exact bit_within hF rfl
       first
         | with_reducible assumption
         | with_reducible apply fr_ite
         | with_reducible apply State.rstInDormant_fr
         | split))

theorem State.afterShutdown_fr (s : State) (d : Shutdown) (hF : within 58721286 F = true) (h : Fr F v s) :
    Fr F v (State.afterShutdown s d) := by
  unfold State.afterShutdown
  repeat' (first
    | with_reducible assumption
    | exact within_trans hF rfl
    | exact bit_within hF rfl
    | with_reducible intro _
    | with_reducible apply fr_ite
    | with_reducible apply State.set_fr
    | with_reducible apply State.arm_fr
    | with_reducible apply State.applyReaction_fr
    | split
    | dsimp only
    | (with_reducible apply fr_power; exact bit_within hF rfl
       first
         | with_reducible assumption
         | with_reducible apply fr_ite
         | with_reducible apply State.set_fr
         | with_reducible apply State.arm_fr
         | with_reducible apply State.applyReaction_fr
         | split))

theorem State.completeShutdown_fr (s : State) (hF : within 211054894067670 F = true) (h : Fr F v s) :
    Fr F v (State.completeShutdown s) := by
  unfold State.completeShutdown
  repeat' (first
    | with_reducible assumption
    | exact within_trans hF rfl
    | exact bit_within hF rfl
    | with_reducible intro _
    | with_reducible apply fr_ite
    | with_reducible apply State.set_fr
    | with_reducible apply State.setCtl_fr
    | with_reducible apply State.enterDormant_fr
    | with_reducible apply State.actHeldRst_fr
    | with_reducible apply State.afterShutdown_fr
    | split
    | dsimp only
    | (with_reducible apply fr_pins; exact bit_within hF rfl; with_reducible apply fr_pins_pfwN; exact bit_within hF rfl; with_reducible apply fr_rail; exact bit_within hF rfl
       first
         | with_reducible assumption
         | with_reducible apply fr_ite
         | with_reducible apply State.set_fr
         | with_reducible apply State.setCtl_fr
         | with_reducible apply State.enterDormant_fr
         | with_reducible apply State.actHeldRst_fr
         | with_reducible apply State.afterShutdown_fr
         | split))

theorem State.slotOff_fr (s : State) (n : Nat) (hF : within 492529937887222 F = true) (h : Fr F v s) :
    Fr F v (State.slotOff s n) := by
  unfold State.slotOff
  repeat' (first
    | with_reducible assumption
    | exact within_trans hF rfl
    | exact bit_within hF rfl
    | with_reducible intro _
    | with_reducible apply fr_ite
    | with_reducible apply State.set_fr
    | with_reducible apply State.disarm_fr
    | with_reducible apply State.releaseReady_fr
    | with_reducible apply State.completeShutdown_fr
    | split
    | dsimp only)

theorem State.goDown_fr (s : State) (hF : within 492529937887222 F = true) (h : Fr F v s) :
    Fr F v (State.goDown s) := by
  unfold State.goDown
  repeat' (first
    | with_reducible assumption
    | exact within_trans hF rfl
    | exact bit_within hF rfl
    | with_reducible intro _
    | with_reducible apply fr_ite
    | with_reducible apply State.paOff_fr
    | with_reducible apply State.beginReleases_fr
    | with_reducible apply State.completeShutdown_fr
    | split
    | dsimp only)

theorem State.beginShutdown_fr (s : State) (cause : ShutCause) (reason : Nat) (restart : Bool) (leadUs : Nat) (faults : List Nat) (hF : within 562933041852406 F = true) (h : Fr F v s) :
    Fr F v (State.beginShutdown s cause reason restart leadUs faults) := by
  unfold State.beginShutdown
  repeat' (first
    | with_reducible assumption
    | exact within_trans hF rfl
    | exact bit_within hF rfl
    | with_reducible intro _
    | with_reducible apply fr_ite
    | with_reducible apply State.set_fr
    | with_reducible apply State.arm_fr
    | with_reducible apply State.hardMute_fr
    | with_reducible apply State.returnMargins_fr
    | with_reducible apply State.endDebug_fr
    | with_reducible apply State.preemptCommit_fr
    | with_reducible apply State.endWaiting_fr
    | with_reducible apply State.blowLifecycle_fr
    | with_reducible apply State.cancelEnables_fr
    | with_reducible apply State.markShutdown_fr
    | with_reducible apply State.goDown_fr
    | split
    | dsimp only
    | (with_reducible apply fr_power; exact bit_within hF rfl; with_reducible apply fr_rail; exact bit_within hF rfl
       first
         | with_reducible assumption
         | with_reducible apply fr_ite
         | with_reducible apply State.set_fr
         | with_reducible apply State.arm_fr
         | with_reducible apply State.hardMute_fr
         | with_reducible apply State.returnMargins_fr
         | with_reducible apply State.endDebug_fr
         | with_reducible apply State.preemptCommit_fr
         | with_reducible apply State.endWaiting_fr
         | with_reducible apply State.blowLifecycle_fr
         | with_reducible apply State.cancelEnables_fr
         | with_reducible apply State.markShutdown_fr
         | with_reducible apply State.goDown_fr
         | split))

theorem State.restart_fr (s : State) (reason : Nat) (hF : within 562933041852406 F = true) (h : Fr F v s) :
    Fr F v (State.restart s reason) := by
  unfold State.restart
  repeat' (first
    | with_reducible assumption
    | exact within_trans hF rfl
    | exact bit_within hF rfl
    | with_reducible intro _
    | with_reducible apply fr_ite
    | with_reducible apply State.depart_fr
    | with_reducible apply State.beginShutdown_fr
    | split
    | dsimp only)

theorem State.cutLead_fr (s : State) (hF : within 58720262 F = true) (h : Fr F v s) :
    Fr F v (State.cutLead s) := by
  unfold State.cutLead
  repeat' (first
    | with_reducible assumption
    | exact within_trans hF rfl
    | exact bit_within hF rfl
    | with_reducible intro _
    | with_reducible apply fr_ite
    | with_reducible apply State.disarm_fr
    | with_reducible apply State.faultRow_fr
    | split
    | dsimp only)

theorem State.commitAtHoldup_fr (s : State) (hF : within 58982406 F = true) (h : Fr F v s) :
    Fr F v (State.commitAtHoldup s) := by
  unfold State.commitAtHoldup
  repeat' (first
    | with_reducible assumption
    | exact within_trans hF rfl
    | exact bit_within hF rfl
    | with_reducible intro _
    | with_reducible apply fr_ite
    | with_reducible apply State.set_fr
    | with_reducible apply State.bump_fr
    | with_reducible apply State.notePreempted_fr
    | split
    | dsimp only
    | (with_reducible apply fr_eng; exact bit_within hF rfl
       first
         | with_reducible assumption
         | with_reducible apply fr_ite
         | with_reducible apply State.set_fr
         | with_reducible apply State.bump_fr
         | with_reducible apply State.notePreempted_fr
         | split))

theorem State.updateAtHoldup_fr (s : State) (hF : within 58720262 F = true) (h : Fr F v s) :
    Fr F v (State.updateAtHoldup s) := by
  unfold State.updateAtHoldup
  repeat' (first
    | with_reducible assumption
    | exact within_trans hF rfl
    | exact bit_within hF rfl
    | with_reducible intro _
    | with_reducible apply fr_ite
    | with_reducible apply State.set_fr
    | with_reducible apply State.faultRow_fr
    | split
    | dsimp only)

theorem State.portsAtHoldup_fr (s : State) (hF : within 25166352 F = true) (h : Fr F v s) :
    Fr F v (State.portsAtHoldup s) := by
  unfold State.portsAtHoldup
  repeat' (first
    | with_reducible assumption
    | exact within_trans hF rfl
    | exact bit_within hF rfl
    | with_reducible intro _
    | with_reducible apply fr_ite
    | split
    | dsimp only
    | (with_reducible apply fr_pins; exact bit_within hF rfl; with_reducible apply fr_pins_twinAct; exact bit_within hF rfl; with_reducible apply fr_hp; exact bit_within hF rfl; with_reducible apply fr_q; exact bit_within hF rfl
       first
         | with_reducible assumption
         | with_reducible apply fr_ite
         | split))

theorem State.fieldAtHoldup_fr (s : State) (hF : within 54525974 F = true) (h : Fr F v s) :
    Fr F v (State.fieldAtHoldup s) := by
  unfold State.fieldAtHoldup
  repeat' (first
    | with_reducible assumption
    | exact within_trans hF rfl
    | exact bit_within hF rfl
    | with_reducible intro _
    | with_reducible apply fr_ite
    | with_reducible apply State.disarm_fr
    | with_reducible apply State.lastHeartbeat_fr
    | with_reducible apply State.portStandby_fr
    | with_reducible apply State.noteRestricted_fr
    | with_reducible apply fr_foldl
    | split
    | dsimp only)

theorem State.enterHoldup_fr (s : State) (hF : within 249709598158814 F = true) (h : Fr F v s) :
    Fr F v (State.enterHoldup s) := by
  unfold State.enterHoldup
  repeat' (first
    | with_reducible assumption
    | exact within_trans hF rfl
    | exact bit_within hF rfl
    | with_reducible intro _
    | with_reducible apply fr_ite
    | with_reducible apply State.set_fr
    | with_reducible apply State.disarm_fr
    | with_reducible apply State.arm_fr
    | with_reducible apply State.hardMute_fr
    | with_reducible apply State.paOff_fr
    | with_reducible apply State.returnMargins_fr
    | with_reducible apply State.tiuOff_fr
    | with_reducible apply State.lidHoldup_fr
    | with_reducible apply State.writeBack_fr
    | with_reducible apply State.discardWaiting_fr
    | with_reducible apply State.endDebug_fr
    | with_reducible apply State.endSessions_fr
    | with_reducible apply State.depart_fr
    | with_reducible apply State.dropSigning_fr
    | with_reducible apply State.enterState_fr
    | with_reducible apply State.closeRefLoss_fr
    | with_reducible apply State.cancelEnables_fr
    | with_reducible apply State.markShutdown_fr
    | with_reducible apply State.cutLead_fr
    | with_reducible apply State.commitAtHoldup_fr
    | with_reducible apply State.updateAtHoldup_fr
    | with_reducible apply State.portsAtHoldup_fr
    | with_reducible apply State.fieldAtHoldup_fr
    | split
    | dsimp only
    | (with_reducible apply fr_pins; exact bit_within hF rfl; with_reducible apply fr_pins_pfwN; exact bit_within hF rfl; with_reducible apply fr_power; exact bit_within hF rfl; with_reducible apply fr_sec; exact bit_within hF rfl; with_reducible apply fr_rail; exact bit_within hF rfl
       first
         | with_reducible assumption
         | with_reducible apply fr_ite
         | with_reducible apply State.set_fr
         | with_reducible apply State.disarm_fr
         | with_reducible apply State.arm_fr
         | with_reducible apply State.hardMute_fr
         | with_reducible apply State.paOff_fr
         | with_reducible apply State.returnMargins_fr
         | with_reducible apply State.tiuOff_fr
         | with_reducible apply State.lidHoldup_fr
         | with_reducible apply State.writeBack_fr
         | with_reducible apply State.discardWaiting_fr
         | with_reducible apply State.endDebug_fr
         | with_reducible apply State.endSessions_fr
         | with_reducible apply State.depart_fr
         | with_reducible apply State.dropSigning_fr
         | with_reducible apply State.enterState_fr
         | with_reducible apply State.closeRefLoss_fr
         | with_reducible apply State.cancelEnables_fr
         | with_reducible apply State.markShutdown_fr
         | with_reducible apply State.cutLead_fr
         | with_reducible apply State.commitAtHoldup_fr
         | with_reducible apply State.updateAtHoldup_fr
         | with_reducible apply State.portsAtHoldup_fr
         | with_reducible apply State.fieldAtHoldup_fr
         | split))

theorem State.toInt48_fr (s : State) (hF : within 549760009222 F = true) (h : Fr F v s) :
    Fr F v (State.toInt48 s) := by
  unfold State.toInt48
  repeat' (first
    | with_reducible assumption
    | exact within_trans hF rfl
    | exact bit_within hF rfl
    | with_reducible intro _
    | with_reducible apply fr_ite
    | with_reducible apply State.set_fr
    | with_reducible apply State.disarm_fr
    | with_reducible apply State.stopSeq_fr
    | with_reducible apply State.enterRestricted_fr
    | with_reducible apply fr_foldl
    | split
    | dsimp only
    | (with_reducible apply fr_power; exact bit_within hF rfl
       first
         | with_reducible assumption
         | with_reducible apply fr_ite
         | with_reducible apply State.set_fr
         | with_reducible apply State.disarm_fr
         | with_reducible apply State.stopSeq_fr
         | with_reducible apply State.enterRestricted_fr
         | with_reducible apply fr_foldl
         | split))

theorem State.beginRelock_fr (s : State) (target : Nat) (hF : within 549760009222 F = true) (h : Fr F v s) :
    Fr F v (State.beginRelock s target) := by
  unfold State.beginRelock
  repeat' (first
    | with_reducible assumption
    | exact within_trans hF rfl
    | exact bit_within hF rfl
    | with_reducible intro _
    | with_reducible apply fr_ite
    | with_reducible apply State.set_fr
    | with_reducible apply State.arm_fr
    | with_reducible apply State.toInt48_fr
    | split
    | dsimp only
    | (with_reducible apply fr_power; exact bit_within hF rfl
       first
         | with_reducible assumption
         | with_reducible apply fr_ite
         | with_reducible apply State.set_fr
         | with_reducible apply State.arm_fr
         | with_reducible apply State.toInt48_fr
         | split))

theorem State.endRelock_fr (s : State) (hF : within 1026 F = true) (h : Fr F v s) :
    Fr F v (State.endRelock s) := by
  unfold State.endRelock
  repeat' (first
    | with_reducible assumption
    | exact within_trans hF rfl
    | exact bit_within hF rfl
    | with_reducible intro _
    | with_reducible apply fr_ite
    | with_reducible apply State.disarm_fr
    | split
    | dsimp only
    | (with_reducible apply fr_power; exact bit_within hF rfl
       first
         | with_reducible assumption
         | with_reducible apply fr_ite
         | with_reducible apply State.disarm_fr
         | split))

theorem State.endServiceSessions_fr (s : State) (hF : within 27598854 F = true) (h : Fr F v s) :
    Fr F v (State.endServiceSessions s) := by
  unfold State.endServiceSessions
  repeat' (first
    | with_reducible assumption
    | exact within_trans hF rfl
    | exact bit_within hF rfl
    | with_reducible intro _
    | with_reducible apply fr_ite
    | with_reducible apply State.endSession_fr
    | with_reducible apply fr_foldl
    | split
    | dsimp only)

theorem State.fallToStandby_fr (s : State) (reason : Nat) (hF : within 76536382565590 F = true) (h : Fr F v s) :
    Fr F v (State.fallToStandby s reason) := by
  unfold State.fallToStandby
  repeat' (first
    | with_reducible assumption
    | exact within_trans hF rfl
    | exact bit_within hF rfl
    | with_reducible intro _
    | with_reducible apply fr_ite
    | with_reducible apply State.disarm_fr
    | with_reducible apply State.hardMute_fr
    | with_reducible apply State.preemptCommit_fr
    | with_reducible apply State.endWaiting_fr
    | with_reducible apply State.enterState_fr
    | with_reducible apply State.beginRelock_fr
    | with_reducible apply State.endServiceSessions_fr
    | split
    | dsimp only
    | (with_reducible apply fr_power; exact bit_within hF rfl
       first
         | with_reducible assumption
         | with_reducible apply fr_ite
         | with_reducible apply State.disarm_fr
         | with_reducible apply State.hardMute_fr
         | with_reducible apply State.preemptCommit_fr
         | with_reducible apply State.endWaiting_fr
         | with_reducible apply State.enterState_fr
         | with_reducible apply State.beginRelock_fr
         | with_reducible apply State.endServiceSessions_fr
         | split))

end Sys2Proof.Machine
end

