-- ==== Sys2Proof/Laws/FramePowerReq.lean ====
section
/-!
SUPPORT. The frames of the functions of Sys2Proof/Machine/PowerReq.lean, one lemma for each of them (Laws/Frame.lean).
-/

namespace Sys2Proof.Machine

set_option linter.unusedTactic false
set_option linter.unreachableTactic false
set_option linter.unusedVariables false

open Sys2Proof

variable {F : Nat} {v : State}

theorem State.hostFlag_fr (s : State) (bit : Nat) (hF : within 58720262 F = true) (h : Fr F v s) :
    Fr F v (State.hostFlag s bit) := by
  unfold State.hostFlag
  repeat' (first
    | with_reducible assumption
    | exact within_trans hF rfl
    | exact bit_within hF rfl
    | with_reducible intro _
    | with_reducible apply fr_ite
    | with_reducible apply State.flag_fr
    | split
    | dsimp only)

theorem State.towardsActive_fr (s : State) (reason : Nat) (hF : within 549819067398 F = true) (h : Fr F v s) :
    Fr F v (State.towardsActive s reason) := by
  unfold State.towardsActive
  repeat' (first
    | with_reducible assumption
    | exact within_trans hF rfl
    | exact bit_within hF rfl
    | with_reducible intro _
    | with_reducible apply fr_ite
    | with_reducible apply State.endWaiting_fr
    | with_reducible apply State.enterState_fr
    | with_reducible apply State.beginRelock_fr
    | split
    | dsimp only
    | (with_reducible apply fr_power; exact bit_within hF rfl
       first
         | with_reducible assumption
         | with_reducible apply fr_ite
         | with_reducible apply State.endWaiting_fr
         | with_reducible apply State.enterState_fr
         | with_reducible apply State.beginRelock_fr
         | split))

theorem State.towardsService_fr (s : State) (reason : Nat) (touch : Bool) (hF : within 1168294358166 F = true) (h : Fr F v s) :
    Fr F v (State.towardsService s reason touch) := by
  unfold State.towardsService
  repeat' (first
    | with_reducible assumption
    | exact within_trans hF rfl
    | exact bit_within hF rfl
    | with_reducible intro _
    | with_reducible apply fr_ite
    | with_reducible apply State.arm_fr
    | with_reducible apply State.hardMute_fr
    | with_reducible apply State.endWaiting_fr
    | with_reducible apply State.enterState_fr
    | split
    | dsimp only
    | (with_reducible apply fr_power; exact bit_within hF rfl
       first
         | with_reducible assumption
         | with_reducible apply fr_ite
         | with_reducible apply State.arm_fr
         | with_reducible apply State.hardMute_fr
         | with_reducible apply State.endWaiting_fr
         | with_reducible apply State.enterState_fr
         | split))

theorem State.leaveService_fr (s : State) (hF : within 27599878 F = true) (h : Fr F v s) :
    Fr F v (State.leaveService s) := by
  unfold State.leaveService
  repeat' (first
    | with_reducible assumption
    | exact within_trans hF rfl
    | exact bit_within hF rfl
    | with_reducible intro _
    | with_reducible apply fr_ite
    | with_reducible apply State.disarm_fr
    | with_reducible apply State.endServiceSessions_fr
    | split
    | dsimp only
    | (with_reducible apply fr_power; exact bit_within hF rfl
       first
         | with_reducible assumption
         | with_reducible apply fr_ite
         | with_reducible apply State.disarm_fr
         | with_reducible apply State.endServiceSessions_fr
         | split))

theorem State.doPower_fr (s : State) (v' : Nat) (hF : within 562933041852406 F = true) (h : Fr F v s) :
    Fr F v (State.doPower s v') := by
  unfold State.doPower
  repeat' (first
    | with_reducible assumption
    | exact within_trans hF rfl
    | exact bit_within hF rfl
    | with_reducible intro _
    | with_reducible apply fr_ite
    | with_reducible apply State.set_fr
    | with_reducible apply State.beginShutdown_fr
    | with_reducible apply State.restart_fr
    | with_reducible apply State.fallToStandby_fr
    | with_reducible apply State.towardsActive_fr
    | with_reducible apply State.towardsService_fr
    | with_reducible apply State.leaveService_fr
    | split
    | dsimp only)

theorem State.deferPower_fr (s : State) (c : Caller) (req : Bytes) (hF : within 63250438 F = true) (h : Fr F v s) :
    Fr F v (State.deferPower s c req) := by
  unfold State.deferPower
  repeat' (first
    | with_reducible assumption
    | exact within_trans hF rfl
    | exact bit_within hF rfl
    | with_reducible intro _
    | with_reducible apply fr_ite
    | with_reducible apply State.abort_fr
    | split
    | dsimp only
    | (with_reducible apply fr_eng; exact bit_within hF rfl
       first
         | with_reducible assumption
         | with_reducible apply fr_ite
         | with_reducible apply State.abort_fr
         | split))

theorem State.powerRequest_fr (s : State) (c : Caller) (req : Bytes) (v' : Nat) (hF : within 562933041852406 F = true) (h : Fr F v s) :
    Fr F v (State.powerRequest s c req v') := by
  unfold State.powerRequest
  repeat' (first
    | with_reducible assumption
    | exact within_trans hF rfl
    | exact bit_within hF rfl
    | with_reducible intro _
    | with_reducible apply fr_ite
    | with_reducible apply State.abort_fr
    | with_reducible apply State.done_fr
    | with_reducible apply State.doPower_fr
    | with_reducible apply State.deferPower_fr
    | split
    | dsimp only)

theorem State.serviceOver_fr (s : State) (hF : within 562933041852406 F = true) (h : Fr F v s) :
    Fr F v (State.serviceOver s) := by
  unfold State.serviceOver
  repeat' (first
    | with_reducible assumption
    | exact within_trans hF rfl
    | exact bit_within hF rfl
    | with_reducible intro _
    | with_reducible apply fr_ite
    | with_reducible apply State.beginShutdown_fr
    | with_reducible apply State.fallToStandby_fr
    | with_reducible apply State.towardsActive_fr
    | with_reducible apply State.leaveService_fr
    | split
    | dsimp only)

theorem State.releaseCore_fr (s : State) (hF : within 1029 F = true) (h : Fr F v s) :
    Fr F v (State.releaseCore s) := by
  unfold State.releaseCore
  repeat' (first
    | with_reducible assumption
    | exact within_trans hF rfl
    | exact bit_within hF rfl
    | with_reducible intro _
    | with_reducible apply fr_ite
    | with_reducible apply State.set_fr
    | split
    | dsimp only
    | (with_reducible apply fr_time; exact bit_within hF rfl; with_reducible apply fr_power; exact bit_within hF rfl
       first
         | with_reducible assumption
         | with_reducible apply fr_ite
         | with_reducible apply State.set_fr
         | split))

theorem State.afterStandby_fr (s : State) (touch limited : Bool) (hF : within 1718050172054 F = true) (h : Fr F v s) :
    Fr F v (State.afterStandby s touch limited) := by
  unfold State.afterStandby
  repeat' (first
    | with_reducible assumption
    | exact within_trans hF rfl
    | exact bit_within hF rfl
    | with_reducible intro _
    | with_reducible apply fr_ite
    | with_reducible apply State.towardsActive_fr
    | with_reducible apply State.towardsService_fr
    | split
    | dsimp only)

theorem State.claimAddress_fr (s : State) (hF : within 4194304 F = true) (h : Fr F v s) :
    Fr F v (State.claimAddress s) := by
  unfold State.claimAddress
  repeat' (first
    | with_reducible assumption
    | exact within_trans hF rfl
    | exact bit_within hF rfl
    | with_reducible intro _
    | with_reducible apply fr_ite
    | split
    | dsimp only
    | (with_reducible apply fr_field; exact bit_within hF rfl
       first
         | with_reducible assumption
         | with_reducible apply fr_ite
         | split))

theorem State.trellisComplete_fr (s : State) (hF : within 1718050172054 F = true) (h : Fr F v s) :
    Fr F v (State.trellisComplete s) := by
  unfold State.trellisComplete
  repeat' (first
    | with_reducible assumption
    | exact within_trans hF rfl
    | exact bit_within hF rfl
    | with_reducible intro _
    | with_reducible apply fr_ite
    | with_reducible apply State.set_fr
    | with_reducible apply State.arm_fr
    | with_reducible apply State.joinPort_fr
    | with_reducible apply State.onStandby_fr
    | with_reducible apply State.enterState_fr
    | with_reducible apply State.afterStandby_fr
    | with_reducible apply State.claimAddress_fr
    | split
    | dsimp only
    | (with_reducible apply fr_power; exact bit_within hF rfl
       first
         | with_reducible assumption
         | with_reducible apply fr_ite
         | with_reducible apply State.set_fr
         | with_reducible apply State.arm_fr
         | with_reducible apply State.joinPort_fr
         | with_reducible apply State.onStandby_fr
         | with_reducible apply State.enterState_fr
         | with_reducible apply State.afterStandby_fr
         | with_reducible apply State.claimAddress_fr
         | split))

end Sys2Proof.Machine
end

