-- ==== Sys2Proof/Laws/FrameNetOps.lean ====
section
/-!
SUPPORT. The frames of the functions of Sys2Proof/Machine/NetOps.lean, one lemma for each of them (Laws/Frame.lean).
-/

namespace Sys2Proof.Machine

set_option linter.unusedTactic false
set_option linter.unreachableTactic false
set_option linter.unusedVariables false

open Sys2Proof

variable {F : Nat} {v : State}

theorem State.storeReceipt_fr (s : State) (seq : Nat) (body sig : Bytes) (hF : within 4 F = true) (h : Fr F v s) :
    Fr F v (State.storeReceipt s seq body sig) := by
  unfold State.storeReceipt
  repeat' (first
    | with_reducible assumption
    | exact within_trans hF rfl
    | exact bit_within hF rfl
    | with_reducible intro _
    | with_reducible apply fr_ite
    | with_reducible apply State.set_fr
    | split
    | dsimp only)

theorem State.commitShutdownRecord_fr (s : State) (payload : Bytes) (hF : within 281475236757510 F = true) (h : Fr F v s) :
    Fr F v (State.commitShutdownRecord s payload).2 := by
  unfold State.commitShutdownRecord
  repeat' (first
    | with_reducible assumption
    | exact within_trans hF rfl
    | exact bit_within hF rfl
    | with_reducible intro _
    | with_reducible apply fr_ite
    | with_reducible apply fr_ite_snd
    | with_reducible apply State.postLog_fr
    | with_reducible apply State.drainLogs_fr
    | split
    | dsimp only)

theorem State.askSignature_fr (s : State) (seq : Nat) (hF : within 2199081975814 F = true) (h : Fr F v s) :
    Fr F v (State.askSignature s seq) := by
  unfold State.askSignature
  repeat' (first
    | with_reducible assumption
    | exact within_trans hF rfl
    | exact bit_within hF rfl
    | with_reducible intro _
    | with_reducible apply fr_ite
    | with_reducible apply State.arm_fr
    | with_reducible apply State.leaveUnsigned_fr
    | split
    | dsimp only
    | (with_reducible apply fr_net; exact bit_within hF rfl
       first
         | with_reducible assumption
         | with_reducible apply fr_ite
         | with_reducible apply State.arm_fr
         | with_reducible apply State.leaveUnsigned_fr
         | split))

theorem State.latchLockout_fr (s : State) (hF : within 58720262 F = true) (h : Fr F v s) :
    Fr F v (State.latchLockout s) := by
  unfold State.latchLockout
  repeat' (first
    | with_reducible assumption
    | exact within_trans hF rfl
    | exact bit_within hF rfl
    | with_reducible intro _
    | with_reducible apply fr_ite
    | with_reducible apply State.set_fr
    | with_reducible apply State.disarm_fr
    | with_reducible apply State.postLog_fr
    | with_reducible apply State.flag_fr
    | split
    | dsimp only)

theorem State.timedLockout_fr (s : State) (hF : within 2199081975814 F = true) (h : Fr F v s) :
    Fr F v (State.timedLockout s) := by
  unfold State.timedLockout
  repeat' (first
    | with_reducible assumption
    | exact within_trans hF rfl
    | exact bit_within hF rfl
    | with_reducible intro _
    | with_reducible apply fr_ite
    | with_reducible apply State.set_fr
    | with_reducible apply State.arm_fr
    | with_reducible apply State.latchLockout_fr
    | split
    | dsimp only
    | (with_reducible apply fr_net; exact bit_within hF rfl
       first
         | with_reducible assumption
         | with_reducible apply fr_ite
         | with_reducible apply State.set_fr
         | with_reducible apply State.arm_fr
         | with_reducible apply State.latchLockout_fr
         | split))

theorem State.beginLockout_fr (s : State) (code : Nat) (hF : within 2199081975814 F = true) (h : Fr F v s) :
    Fr F v (State.beginLockout s code) := by
  unfold State.beginLockout
  repeat' (first
    | with_reducible assumption
    | exact within_trans hF rfl
    | exact bit_within hF rfl
    | with_reducible intro _
    | with_reducible apply fr_ite
    | with_reducible apply State.latchLockout_fr
    | with_reducible apply State.timedLockout_fr
    | split
    | dsimp only)

theorem State.shutLanes_fr (s : State) (hF : within 5566277615702 F = true) (h : Fr F v s) :
    Fr F v (State.shutLanes s) := by
  unfold State.shutLanes
  repeat' (first
    | with_reducible assumption
    | exact within_trans hF rfl
    | exact bit_within hF rfl
    | with_reducible intro _
    | with_reducible apply fr_ite
    | with_reducible apply State.retargetBias_fr
    | with_reducible apply State.stopLanes_fr
    | with_reducible apply State.cancelHint_fr
    | split
    | dsimp only)

theorem State.shutPower_fr (s : State) (code : Nat) (hF : within 76536382565590 F = true) (h : Fr F v s) :
    Fr F v (State.shutPower s code) := by
  unfold State.shutPower
  repeat' (first
    | with_reducible assumption
    | exact within_trans hF rfl
    | exact bit_within hF rfl
    | with_reducible intro _
    | with_reducible apply fr_ite
    | with_reducible apply State.preemptCommit_fr
    | with_reducible apply State.beginRelock_fr
    | with_reducible apply State.fallToStandby_fr
    | split
    | dsimp only
    | (with_reducible apply fr_power; exact bit_within hF rfl
       first
         | with_reducible assumption
         | with_reducible apply fr_ite
         | with_reducible apply State.preemptCommit_fr
         | with_reducible apply State.beginRelock_fr
         | with_reducible apply State.fallToStandby_fr
         | split))

theorem State.shutNetwork_fr (s : State) (code : Nat) (paths : List Nat) (hF : within 360210583858390 F = true) (h : Fr F v s) :
    Fr F v (State.shutNetwork s code paths) := by
  unfold State.shutNetwork
  repeat' (first
    | with_reducible assumption
    | exact within_trans hF rfl
    | exact bit_within hF rfl
    | with_reducible intro _
    | with_reducible apply fr_ite
    | with_reducible apply fr_ite_snd
    | with_reducible apply State.set_fr
    | with_reducible apply State.bump_fr
    | with_reducible apply State.raiseNotify_fr
    | with_reducible apply State.raiseIrq_fr
    | with_reducible apply State.flag_fr
    | with_reducible apply State.faultRow_fr
    | with_reducible apply State.moveGains_fr
    | with_reducible apply State.hardMute_fr
    | with_reducible apply State.storeReceipt_fr
    | with_reducible apply State.commitShutdownRecord_fr
    | with_reducible apply State.askSignature_fr
    | with_reducible apply State.beginLockout_fr
    | with_reducible apply State.shutLanes_fr
    | with_reducible apply State.shutPower_fr
    | split
    | dsimp only
    | (with_reducible apply fr_net; exact bit_within hF rfl
       first
         | with_reducible assumption
         | with_reducible apply fr_ite
         | with_reducible apply fr_ite_snd
         | with_reducible apply State.set_fr
         | with_reducible apply State.bump_fr
         | with_reducible apply State.raiseNotify_fr
         | with_reducible apply State.raiseIrq_fr
         | with_reducible apply State.flag_fr
         | with_reducible apply State.faultRow_fr
         | with_reducible apply State.moveGains_fr
         | with_reducible apply State.hardMute_fr
         | with_reducible apply State.storeReceipt_fr
         | with_reducible apply State.commitShutdownRecord_fr
         | with_reducible apply State.askSignature_fr
         | with_reducible apply State.beginLockout_fr
         | with_reducible apply State.shutLanes_fr
         | with_reducible apply State.shutPower_fr
         | split))

theorem State.netTrigger_fr (s : State) (code : Nat) (paths : List Nat) (hF : within 360210583858390 F = true) (h : Fr F v s) :
    Fr F v (State.netTrigger s code paths) := by
  unfold State.netTrigger
  repeat' (first
    | with_reducible assumption
    | exact within_trans hF rfl
    | exact bit_within hF rfl
    | with_reducible intro _
    | with_reducible apply fr_ite
    | with_reducible apply State.faultRow_fr
    | with_reducible apply State.shutNetwork_fr
    | split
    | dsimp only)

theorem State.signReceipt_fr (s : State) (seq : Nat) (late : Bool) (hF : within 281474976710660 F = true) (h : Fr F v s) :
    Fr F v (State.signReceipt s seq late) := by
  unfold State.signReceipt
  repeat' (first
    | with_reducible assumption
    | exact within_trans hF rfl
    | exact bit_within hF rfl
    | with_reducible intro _
    | with_reducible apply fr_ite
    | with_reducible apply fr_ite_snd
    | with_reducible apply State.drawRandom_fr
    | with_reducible apply State.storeReceipt_fr
    | split
    | dsimp only)

theorem State.signLate_fr (s : State) (hF : within 283673999966212 F = true) (h : Fr F v s) :
    Fr F v (State.signLate s) := by
  unfold State.signLate
  repeat' (first
    | with_reducible assumption
    | exact within_trans hF rfl
    | exact bit_within hF rfl
    | with_reducible intro _
    | with_reducible apply fr_ite
    | with_reducible apply State.signReceipt_fr
    | with_reducible apply fr_foldl
    | split
    | dsimp only
    | (with_reducible apply fr_net; exact bit_within hF rfl
       first
         | with_reducible assumption
         | with_reducible apply fr_ite
         | with_reducible apply State.signReceipt_fr
         | with_reducible apply fr_foldl
         | split))

theorem State.endTimedLockout_fr (s : State) (hF : within 549819067398 F = true) (h : Fr F v s) :
    Fr F v (State.endTimedLockout s) := by
  unfold State.endTimedLockout
  repeat' (first
    | with_reducible assumption
    | exact within_trans hF rfl
    | exact bit_within hF rfl
    | with_reducible intro _
    | with_reducible apply fr_ite
    | with_reducible apply State.set_fr
    | with_reducible apply State.towardsActive_fr
    | split
    | dsimp only)

end Sys2Proof.Machine
end

