-- ==== Sys2Proof/Laws/FrameLoopOps.lean ====
section
/-!
SUPPORT. The frames of the functions of Sys2Proof/Machine/LoopOps.lean, one lemma for each of them (Laws/Frame.lean).
-/

namespace Sys2Proof.Machine

set_option linter.unusedTactic false
set_option linter.unreachableTactic false
set_option linter.unusedVariables false

open Sys2Proof

variable {F : Nat} {v : State}

theorem State.noteFrame_fr (s : State) (p : Nat) (m : PathMeas) (bits : Nat) (hF : within 68719476740 F = true) (h : Fr F v s) :
    Fr F v (State.noteFrame s p m bits) := by
  unfold State.noteFrame
  repeat' (first
    | with_reducible assumption
    | exact within_trans hF rfl
    | exact bit_within hF rfl
    | with_reducible intro _
    | with_reducible apply fr_ite
    | with_reducible apply State.set_fr
    | with_reducible apply State.setPath_fr
    | split
    | dsimp only)

theorem State.missFrame_fr (s : State) (p : Nat) (m : PathMeas) (bits : Nat) (hF : within 68778196998 F = true) (h : Fr F v s) :
    Fr F v (State.missFrame s p m bits) := by
  unfold State.missFrame
  repeat' (first
    | with_reducible assumption
    | exact within_trans hF rfl
    | exact bit_within hF rfl
    | with_reducible intro _
    | with_reducible apply fr_ite
    | with_reducible apply State.set_fr
    | with_reducible apply State.log_fr
    | with_reducible apply State.flagFirst_fr
    | with_reducible apply State.setPath_fr
    | split
    | dsimp only)

theorem State.framePath_fr (s : State) (p : Nat) (m : PathMeas) (hF : within 68778196998 F = true) (h : Fr F v s) :
    Fr F v (State.framePath s p m) := by
  unfold State.framePath
  repeat' (first
    | with_reducible assumption
    | exact within_trans hF rfl
    | exact bit_within hF rfl
    | with_reducible intro _
    | with_reducible apply fr_ite
    | with_reducible apply State.fabEvent_fr
    | with_reducible apply State.noteFrame_fr
    | with_reducible apply State.missFrame_fr
    | split
    | dsimp only)

theorem State.lowerPoint_fr (s : State) (p i : Nat) (old new : Nat) (hF : within 58720262 F = true) (h : Fr F v s) :
    Fr F v (State.lowerPoint s p i old new) := by
  unfold State.lowerPoint
  repeat' (first
    | with_reducible assumption
    | exact within_trans hF rfl
    | exact bit_within hF rfl
    | with_reducible intro _
    | with_reducible apply fr_ite
    | with_reducible apply State.set_fr
    | with_reducible apply State.faultRow_fr
    | split
    | dsimp only)

theorem State.learn_fr (s : State) (p : Nat) (m : PathMeas) (hF : within 58720262 F = true) (h : Fr F v s) :
    Fr F v (State.learn s p m) := by
  unfold State.learn
  repeat' (first
    | with_reducible assumption
    | exact within_trans hF rfl
    | exact bit_within hF rfl
    | with_reducible intro _
    | with_reducible apply fr_ite
    | with_reducible apply State.lowerPoint_fr
    | split
    | dsimp only)

theorem State.ageGated_fr (s : State) (p : Nat) (hF : within 4 F = true) (h : Fr F v s) :
    Fr F v (State.ageGated s p) := by
  unfold State.ageGated
  repeat' (first
    | with_reducible assumption
    | exact within_trans hF rfl
    | exact bit_within hF rfl
    | with_reducible intro _
    | with_reducible apply fr_ite
    | with_reducible apply State.setI_fr
    | split
    | dsimp only)

theorem State.noteWater_fr (s : State) (hF : within 137497673734 F = true) (h : Fr F v s) :
    Fr F v (State.noteWater s) := by
  unfold State.noteWater
  repeat' (first
    | with_reducible assumption
    | exact within_trans hF rfl
    | exact bit_within hF rfl
    | with_reducible intro _
    | with_reducible apply fr_ite
    | with_reducible apply State.faultRow_fr
    | split
    | dsimp only
    | (with_reducible apply fr_loops; exact bit_within hF rfl
       first
         | with_reducible assumption
         | with_reducible apply fr_ite
         | with_reducible apply State.faultRow_fr
         | split))

theorem State.toBoundary_fr (s : State) (d : Dir) (hF : within 137438953477 F = true) (h : Fr F v s) :
    Fr F v (State.toBoundary s d) := by
  unfold State.toBoundary
  repeat' (first
    | with_reducible assumption
    | exact within_trans hF rfl
    | exact bit_within hF rfl
    | with_reducible intro _
    | with_reducible apply fr_ite
    | with_reducible apply State.elapse_fr
    | split
    | dsimp only
    | (with_reducible apply fr_loops; exact bit_within hF rfl
       first
         | with_reducible assumption
         | with_reducible apply fr_ite
         | with_reducible apply State.elapse_fr
         | split))

theorem State.stepOverrun_fr (s : State) (hF : within 4398046511104 F = true) (h : Fr F v s) :
    Fr F v (State.stepOverrun s) := by
  unfold State.stepOverrun
  repeat' (first
    | with_reducible assumption
    | exact within_trans hF rfl
    | exact bit_within hF rfl
    | with_reducible intro _
    | with_reducible apply fr_ite
    | split
    | dsimp only
    | (with_reducible apply fr_pa; exact bit_within hF rfl
       first
         | with_reducible assumption
         | with_reducible apply fr_ite
         | split))

theorem State.beginProbes_fr (s : State) (hF : within 35321869762710 F = true) (h : Fr F v s) :
    Fr F v (State.beginProbes s) := by
  unfold State.beginProbes
  repeat' (first
    | with_reducible assumption
    | exact within_trans hF rfl
    | exact bit_within hF rfl
    | with_reducible intro _
    | with_reducible apply fr_ite
    | with_reducible apply State.startProbes_fr
    | split
    | dsimp only
    | (with_reducible apply fr_loops; exact bit_within hF rfl
       first
         | with_reducible assumption
         | with_reducible apply fr_ite
         | with_reducible apply State.startProbes_fr
         | split))

theorem State.settleGains_fr (s : State) (hF : within 76536382562390 F = true) (h : Fr F v s) :
    Fr F v (State.settleGains s) := by
  unfold State.settleGains
  repeat' (first
    | with_reducible assumption
    | exact within_trans hF rfl
    | exact bit_within hF rfl
    | with_reducible intro _
    | with_reducible apply fr_ite
    | with_reducible apply State.rebalance_fr
    | with_reducible apply State.tryFinish_fr
    | with_reducible apply State.advanceCommit_fr
    | split
    | dsimp only)

theorem State.loopFrame_fr (s : State) (d : Dir) (meas : List PathMeas) (hF : within 395532394900695 F = true) (h : Fr F v s) :
    Fr F v (State.loopFrame s d meas) := by
  unfold State.loopFrame
  repeat' (first
    | with_reducible assumption
    | exact within_trans hF rfl
    | exact bit_within hF rfl
    | with_reducible intro _
    | with_reducible apply fr_ite
    | with_reducible apply State.moveGains_fr
    | with_reducible apply State.setHeld_fr
    | with_reducible apply State.boundaryCommit_fr
    | with_reducible apply State.netTrigger_fr
    | with_reducible apply State.framePath_fr
    | with_reducible apply State.learn_fr
    | with_reducible apply State.ageGated_fr
    | with_reducible apply State.noteWater_fr
    | with_reducible apply State.toBoundary_fr
    | with_reducible apply State.stepOverrun_fr
    | with_reducible apply State.beginProbes_fr
    | with_reducible apply State.settleGains_fr
    | with_reducible apply fr_foldl
    | split
    | dsimp only)

theorem State.takeoverDone_fr (s : State) (hF : within 140737547075590 F = true) (h : Fr F v s) :
    Fr F v (State.takeoverDone s) := by
  unfold State.takeoverDone
  repeat' (first
    | with_reducible assumption
    | exact within_trans hF rfl
    | exact bit_within hF rfl
    | with_reducible intro _
    | with_reducible apply fr_ite
    | with_reducible apply State.set_fr
    | with_reducible apply State.faultRow_fr
    | split
    | dsimp only
    | (with_reducible apply fr_twin; exact bit_within hF rfl
       first
         | with_reducible assumption
         | with_reducible apply fr_ite
         | with_reducible apply State.set_fr
         | with_reducible apply State.faultRow_fr
         | split))

theorem State.rackStale_fr (s : State) (hF : within 58720262 F = true) (h : Fr F v s) :
    Fr F v (State.rackStale s) := by
  unfold State.rackStale
  repeat' (first
    | with_reducible assumption
    | exact within_trans hF rfl
    | exact bit_within hF rfl
    | with_reducible intro _
    | with_reducible apply fr_ite
    | with_reducible apply State.log_fr
    | with_reducible apply State.flagFirst_fr
    | split
    | dsimp only)

theorem State.seedPath_fr (s : State) (p : Nat) (hF : within 68719476736 F = true) (h : Fr F v s) :
    Fr F v (State.seedPath s p) := by
  unfold State.seedPath
  repeat' (first
    | with_reducible assumption
    | exact within_trans hF rfl
    | exact bit_within hF rfl
    | with_reducible intro _
    | with_reducible apply fr_ite
    | with_reducible apply State.setPath_fr
    | split
    | dsimp only)

theorem State.dropRacked_fr (s : State) (p : Nat) (hF : within 68719476736 F = true) (h : Fr F v s) :
    Fr F v (State.dropRacked s p) := by
  unfold State.dropRacked
  repeat' (first
    | with_reducible assumption
    | exact within_trans hF rfl
    | exact bit_within hF rfl
    | with_reducible intro _
    | with_reducible apply fr_ite
    | with_reducible apply State.setPath_fr
    | split
    | dsimp only)

theorem State.returnRacked_fr (s : State) (p : Nat) (applied : Int) (hF : within 68719476740 F = true) (h : Fr F v s) :
    Fr F v (State.returnRacked s p applied) := by
  unfold State.returnRacked
  repeat' (first
    | with_reducible assumption
    | exact within_trans hF rfl
    | exact bit_within hF rfl
    | with_reducible intro _
    | with_reducible apply fr_ite
    | with_reducible apply State.unmute_fr
    | split
    | dsimp only)

theorem State.returnBand_fr (s : State) (p q : Nat) (hF : within 141905778180102 F = true) (h : Fr F v s) :
    Fr F v (State.returnBand s p q) := by
  unfold State.returnBand
  repeat' (first
    | with_reducible assumption
    | exact within_trans hF rfl
    | exact bit_within hF rfl
    | with_reducible intro _
    | with_reducible apply fr_ite
    | with_reducible apply State.rebalance_fr
    | with_reducible apply State.unmute_fr
    | with_reducible apply State.takeoverDone_fr
    | with_reducible apply State.seedPath_fr
    | with_reducible apply State.dropRacked_fr
    | with_reducible apply State.returnRacked_fr
    | split
    | dsimp only)

theorem State.noteDisagreed_fr (s : State) (p q : Nat) (hF : within 58720262 F = true) (h : Fr F v s) :
    Fr F v (State.noteDisagreed s p q) := by
  unfold State.noteDisagreed
  repeat' (first
    | with_reducible assumption
    | exact within_trans hF rfl
    | exact bit_within hF rfl
    | with_reducible intro _
    | with_reducible apply fr_ite
    | with_reducible apply State.faultRow_fr
    | with_reducible apply State.rackStale_fr
    | split
    | dsimp only)

theorem State.failProbe_fr (s : State) (p q : Nat) (hF : within 68778196998 F = true) (h : Fr F v s) :
    Fr F v (State.failProbe s p q) := by
  unfold State.failProbe
  repeat' (first
    | with_reducible assumption
    | exact within_trans hF rfl
    | exact bit_within hF rfl
    | with_reducible intro _
    | with_reducible apply fr_ite
    | with_reducible apply State.set_fr
    | with_reducible apply State.faultRow_fr
    | with_reducible apply State.waitProbe_fr
    | with_reducible apply State.dropRacked_fr
    | split
    | dsimp only)

theorem State.burstAfterProbes_fr (s : State) (hF : within 2 F = true) (h : Fr F v s) :
    Fr F v (State.burstAfterProbes s) := by
  unfold State.burstAfterProbes
  repeat' (first
    | with_reducible assumption
    | exact within_trans hF rfl
    | exact bit_within hF rfl
    | with_reducible intro _
    | with_reducible apply fr_ite
    | with_reducible apply State.scheduleBurst_fr
    | split
    | dsimp only)

theorem State.passProbe_fr (s : State) (p q : Nat) (hF : within 141905778180102 F = true) (h : Fr F v s) :
    Fr F v (State.passProbe s p q) := by
  unfold State.passProbe
  repeat' (first
    | with_reducible assumption
    | exact within_trans hF rfl
    | exact bit_within hF rfl
    | with_reducible intro _
    | with_reducible apply fr_ite
    | with_reducible apply State.set_fr
    | with_reducible apply State.returnBand_fr
    | split
    | dsimp only)

theorem State.probeEnd_fr (s : State) (p q : Nat) (own partner : PathMeas) (hF : within 217273870917718 F = true) (h : Fr F v s) :
    Fr F v (State.probeEnd s p q own partner) := by
  unfold State.probeEnd
  repeat' (first
    | with_reducible assumption
    | exact within_trans hF rfl
    | exact bit_within hF rfl
    | with_reducible intro _
    | with_reducible apply fr_ite
    | with_reducible apply State.disarm_fr
    | with_reducible apply State.fabEvent_fr
    | with_reducible apply State.noteProbe_fr
    | with_reducible apply State.settleGains_fr
    | with_reducible apply State.noteDisagreed_fr
    | with_reducible apply State.failProbe_fr
    | with_reducible apply State.burstAfterProbes_fr
    | with_reducible apply State.passProbe_fr
    | split
    | dsimp only)

theorem State.demote_fr (s : State) (hF : within 252458243010262 F = true) (h : Fr F v s) :
    Fr F v (State.demote s) := by
  unfold State.demote
  repeat' (first
    | with_reducible assumption
    | exact within_trans hF rfl
    | exact bit_within hF rfl
    | with_reducible intro _
    | with_reducible apply fr_ite
    | with_reducible apply State.depart_fr
    | with_reducible apply State.fallToStandby_fr
    | split
    | dsimp only)

theorem State.demoteIfDue_fr (s : State) (hF : within 252458243010262 F = true) (h : Fr F v s) :
    Fr F v (State.demoteIfDue s) := by
  unfold State.demoteIfDue
  repeat' (first
    | with_reducible assumption
    | exact within_trans hF rfl
    | exact bit_within hF rfl
    | with_reducible intro _
    | with_reducible apply fr_ite
    | with_reducible apply State.demote_fr
    | split
    | dsimp only)

end Sys2Proof.Machine
end

