-- ==== Sys2Proof/Laws/FramePmbus.lean ====
section
/-!
SUPPORT. The frames of the functions of Sys2Proof/Machine/Pmbus.lean, one lemma for each of them (Laws/Frame.lean).
-/

namespace Sys2Proof.Machine

set_option linter.unusedTactic false
set_option linter.unreachableTactic false
set_option linter.unusedVariables false

open Sys2Proof

variable {F : Nat} {v : State}

theorem State.setTelemetry_fr (s : State) (n off v' : Nat) (hF : within 4 F = true) (h : Fr F v s) :
    Fr F v (State.setTelemetry s n off v') := by
  unfold State.setTelemetry
  repeat' (first
    | with_reducible assumption
    | exact within_trans hF rfl
    | exact bit_within hF rfl
    | with_reducible intro _
    | with_reducible apply fr_ite
    | with_reducible apply State.set_fr
    | split
    | dsimp only)

theorem State.laneReleased_fr (s : State) (n : Nat) (hF : within 4 F = true) (h : Fr F v s) :
    Fr F v (State.laneReleased s n) := by
  unfold State.laneReleased
  repeat' (first
    | with_reducible assumption
    | exact within_trans hF rfl
    | exact bit_within hF rfl
    | with_reducible intro _
    | with_reducible apply fr_ite
    | with_reducible apply State.set_fr
    | split
    | dsimp only)

theorem State.regulatorFault_fr (s : State) (n : Nat) (hF : within 5566336335958 F = true) (h : Fr F v s) :
    Fr F v (State.regulatorFault s n) := by
  unfold State.regulatorFault
  repeat' (first
    | with_reducible assumption
    | exact within_trans hF rfl
    | exact bit_within hF rfl
    | with_reducible intro _
    | with_reducible apply fr_ite
    | with_reducible apply State.disarm_fr
    | with_reducible apply State.arm_fr
    | with_reducible apply State.flag_fr
    | with_reducible apply State.setLane_fr
    | with_reducible apply State.sendPmb_fr
    | with_reducible apply State.stopLane_fr
    | split
    | dsimp only)

theorem State.regulatorSnapshot_fr (s : State) (n iout : Nat) (hF : within 4398096842758 F = true) (h : Fr F v s) :
    Fr F v (State.regulatorSnapshot s n iout) := by
  unfold State.regulatorSnapshot
  repeat' (first
    | with_reducible assumption
    | exact within_trans hF rfl
    | exact bit_within hF rfl
    | with_reducible intro _
    | with_reducible apply fr_ite
    | with_reducible apply State.postLog_fr
    | with_reducible apply State.setLane_fr
    | split
    | dsimp only)

theorem State.checkStart_fr (s : State) (n : Nat) (hF : within 4398046511190 F = true) (h : Fr F v s) :
    Fr F v (State.checkStart s n) := by
  unfold State.checkStart
  repeat' (first
    | with_reducible assumption
    | exact within_trans hF rfl
    | exact bit_within hF rfl
    | with_reducible intro _
    | with_reducible apply fr_ite
    | with_reducible apply State.set_fr
    | with_reducible apply State.disarm_fr
    | with_reducible apply State.arm_fr
    | with_reducible apply State.setLane_fr
    | with_reducible apply State.setBias_fr
    | split
    | dsimp only
    | (with_reducible apply fr_pins; exact bit_within hF rfl; with_reducible apply fr_pins_paEn; exact bit_within hF rfl
       first
         | with_reducible assumption
         | with_reducible apply fr_ite
         | with_reducible apply State.set_fr
         | with_reducible apply State.disarm_fr
         | with_reducible apply State.arm_fr
         | with_reducible apply State.setLane_fr
         | with_reducible apply State.setBias_fr
         | split))

theorem State.measurePower_fr (s : State) (hF : within 6 F = true) (h : Fr F v s) :
    Fr F v (State.measurePower s) := by
  unfold State.measurePower
  repeat' (first
    | with_reducible assumption
    | exact within_trans hF rfl
    | exact bit_within hF rfl
    | with_reducible intro _
    | with_reducible apply fr_ite
    | with_reducible apply State.set_fr
    | with_reducible apply State.disarm_fr
    | with_reducible apply State.arm_fr
    | with_reducible apply fr_foldl
    | split
    | dsimp only)

theorem State.noteK_fr (s : State) (n k dt : Nat) (hF : within 4398046511108 F = true) (h : Fr F v s) :
    Fr F v (State.noteK s n k dt) := by
  unfold State.noteK
  repeat' (first
    | with_reducible assumption
    | exact within_trans hF rfl
    | exact bit_within hF rfl
    | with_reducible intro _
    | with_reducible apply fr_ite
    | with_reducible apply State.set_fr
    | with_reducible apply State.setLane_fr
    | split
    | dsimp only)

theorem State.notePout_fr (s : State) (n pout : Nat) (hF : within 4398046511110 F = true) (h : Fr F v s) :
    Fr F v (State.notePout s n pout) := by
  unfold State.notePout
  repeat' (first
    | with_reducible assumption
    | exact within_trans hF rfl
    | exact bit_within hF rfl
    | with_reducible intro _
    | with_reducible apply fr_ite
    | with_reducible apply State.disarm_fr
    | with_reducible apply State.measurePower_fr
    | with_reducible apply State.noteK_fr
    | split
    | dsimp only)

theorem State.poutRead_fr (s : State) (n data : Nat) (hF : within 4398046511110 F = true) (h : Fr F v s) :
    Fr F v (State.poutRead s n data) := by
  unfold State.poutRead
  repeat' (first
    | with_reducible assumption
    | exact within_trans hF rfl
    | exact bit_within hF rfl
    | with_reducible intro _
    | with_reducible apply fr_ite
    | with_reducible apply State.setTelemetry_fr
    | with_reducible apply State.notePout_fr
    | split
    | dsimp only)

theorem State.statusRead_fr (s : State) (n data : Nat) (hF : within 76536382562390 F = true) (h : Fr F v s) :
    Fr F v (State.statusRead s n data) := by
  unfold State.statusRead
  repeat' (first
    | with_reducible assumption
    | exact within_trans hF rfl
    | exact bit_within hF rfl
    | with_reducible intro _
    | with_reducible apply fr_ite
    | with_reducible apply State.setLane_fr
    | with_reducible apply State.settleGains_fr
    | with_reducible apply State.setTelemetry_fr
    | with_reducible apply State.regulatorFault_fr
    | with_reducible apply State.checkStart_fr
    | split
    | dsimp only)

theorem State.voutRead_fr (s : State) (n data : Nat) (hF : within 4398046511190 F = true) (h : Fr F v s) :
    Fr F v (State.voutRead s n data) := by
  unfold State.voutRead
  repeat' (first
    | with_reducible assumption
    | exact within_trans hF rfl
    | exact bit_within hF rfl
    | with_reducible intro _
    | with_reducible apply fr_ite
    | with_reducible apply State.setLane_fr
    | with_reducible apply State.setTelemetry_fr
    | with_reducible apply State.checkStart_fr
    | split
    | dsimp only)

theorem State.operationDone_fr (s : State) (n : Nat) (hF : within 6 F = true) (h : Fr F v s) :
    Fr F v (State.operationDone s n) := by
  unfold State.operationDone
  repeat' (first
    | with_reducible assumption
    | exact within_trans hF rfl
    | exact bit_within hF rfl
    | with_reducible intro _
    | with_reducible apply fr_ite
    | with_reducible apply State.set_fr
    | with_reducible apply State.arm_fr
    | split
    | dsimp only)

theorem State.pmbAnswers_fr (s : State) (n : Nat) (hF : within 4398046511108 F = true) (h : Fr F v s) :
    Fr F v (State.pmbAnswers s n) := by
  unfold State.pmbAnswers
  repeat' (first
    | with_reducible assumption
    | exact within_trans hF rfl
    | exact bit_within hF rfl
    | with_reducible intro _
    | with_reducible apply fr_ite
    | with_reducible apply State.setLane_fr
    | with_reducible apply State.laneReleased_fr
    | split
    | dsimp only)

theorem State.laneData_fr (s : State) (n code data : Nat) (hF : within 76536382562390 F = true) (h : Fr F v s) :
    Fr F v (State.laneData s n code data) := by
  unfold State.laneData
  repeat' (first
    | with_reducible assumption
    | exact within_trans hF rfl
    | exact bit_within hF rfl
    | with_reducible intro _
    | with_reducible apply fr_ite
    | with_reducible apply State.setLane_fr
    | with_reducible apply State.setTelemetry_fr
    | with_reducible apply State.regulatorSnapshot_fr
    | with_reducible apply State.poutRead_fr
    | with_reducible apply State.statusRead_fr
    | with_reducible apply State.voutRead_fr
    | with_reducible apply State.operationDone_fr
    | with_reducible apply State.pmbAnswers_fr
    | split
    | dsimp only)

theorem State.laneFail_fr (s : State) (n code cause : Nat) (hF : within 4398105231366 F = true) (h : Fr F v s) :
    Fr F v (State.laneFail s n code cause) := by
  unfold State.laneFail
  repeat' (first
    | with_reducible assumption
    | exact within_trans hF rfl
    | exact bit_within hF rfl
    | with_reducible intro _
    | with_reducible apply fr_ite
    | with_reducible apply State.bump_fr
    | with_reducible apply State.arm_fr
    | with_reducible apply State.faultRow_fr
    | with_reducible apply State.setLane_fr
    | with_reducible apply State.regulatorSnapshot_fr
    | with_reducible apply State.operationDone_fr
    | split
    | dsimp only
    | (with_reducible apply fr_pa; exact bit_within hF rfl
       first
         | with_reducible assumption
         | with_reducible apply fr_ite
         | with_reducible apply State.bump_fr
         | with_reducible apply State.arm_fr
         | with_reducible apply State.faultRow_fr
         | with_reducible apply State.setLane_fr
         | with_reducible apply State.regulatorSnapshot_fr
         | with_reducible apply State.operationDone_fr
         | split))

theorem State.laneTx_fr (s : State) (t : PmbTx) (result : PmbEnd) (hF : within 76536382562390 F = true) (h : Fr F v s) :
    Fr F v (State.laneTx s t result) := by
  unfold State.laneTx
  repeat' (first
    | with_reducible assumption
    | exact within_trans hF rfl
    | exact bit_within hF rfl
    | with_reducible intro _
    | with_reducible apply fr_ite
    | with_reducible apply State.laneData_fr
    | with_reducible apply State.laneFail_fr
    | split
    | dsimp only
    | (with_reducible apply fr_pa; exact bit_within hF rfl
       first
         | with_reducible assumption
         | with_reducible apply fr_ite
         | with_reducible apply State.laneData_fr
         | with_reducible apply State.laneFail_fr
         | split))

theorem State.marginFail_fr (s : State) (r : MarginRun) (cause : Nat) (hF : within 34418458630 F = true) (h : Fr F v s) :
    Fr F v (State.marginFail s r cause) := by
  unfold State.marginFail
  repeat' (first
    | with_reducible assumption
    | exact within_trans hF rfl
    | exact bit_within hF rfl
    | with_reducible intro _
    | with_reducible apply fr_ite
    | with_reducible apply State.set_fr
    | with_reducible apply State.bump_fr
    | with_reducible apply State.faultRow_fr
    | split
    | dsimp only
    | (with_reducible apply fr_margin; exact bit_within hF rfl
       first
         | with_reducible assumption
         | with_reducible apply fr_ite
         | with_reducible apply State.set_fr
         | with_reducible apply State.bump_fr
         | with_reducible apply State.faultRow_fr
         | split))

theorem State.marginTx_fr (s : State) (r : MarginRun) (result : PmbEnd) (hF : within 34418458630 F = true) (h : Fr F v s) :
    Fr F v (State.marginTx s r result) := by
  unfold State.marginTx
  repeat' (first
    | with_reducible assumption
    | exact within_trans hF rfl
    | exact bit_within hF rfl
    | with_reducible intro _
    | with_reducible apply fr_ite
    | with_reducible apply State.marginFail_fr
    | split
    | dsimp only
    | (with_reducible apply fr_margin; exact bit_within hF rfl
       first
         | with_reducible assumption
         | with_reducible apply fr_ite
         | with_reducible apply State.marginFail_fr
         | split))

theorem execPmbusTransactionDone_fr (agent : PmbAgent) (code : Byte) (outcome : PmbEnd) (s : State) (hF : within 76536382562390 F = true) (h : Fr F v s) :
    FrOut F v (execPmbusTransactionDone agent code outcome s) := by
  unfold execPmbusTransactionDone
  repeat' (first
    | with_reducible assumption
    | exact within_trans hF rfl
    | exact bit_within hF rfl
    | with_reducible apply frOut_next
    | with_reducible intro _
    | with_reducible apply fr_ite
    | with_reducible apply State.when_fr
    | with_reducible apply State.laneTx_fr
    | with_reducible apply State.marginTx_fr
    | split
    | dsimp only)

theorem execPmbusPoll_fr (lane : Fin 4) (kind : PollKind) (s : State) (hF : within 4398046511104 F = true) (h : Fr F v s) :
    FrOut F v (execPmbusPoll lane kind s) := by
  unfold execPmbusPoll
  repeat' (first
    | with_reducible assumption
    | exact within_trans hF rfl
    | exact bit_within hF rfl
    | with_reducible apply frOut_next
    | with_reducible intro _
    | with_reducible apply fr_ite
    | with_reducible apply State.when_fr
    | with_reducible apply State.sendPmb_fr
    | split
    | dsimp only)

theorem execPmbAlert_fr (s : State) (hF : within 4398046511104 F = true) (h : Fr F v s) :
    FrOut F v (execPmbAlert s) := by
  unfold execPmbAlert
  repeat' (first
    | with_reducible assumption
    | exact within_trans hF rfl
    | exact bit_within hF rfl
    | with_reducible apply frOut_next
    | with_reducible intro _
    | with_reducible apply fr_ite
    | with_reducible apply State.when_fr
    | with_reducible apply State.sendPmb_fr
    | with_reducible apply fr_foldl
    | split
    | dsimp only)

theorem execLaneStart_fr (lane : Fin 4) (s : State) (hF : within 4398046511108 F = true) (h : Fr F v s) :
    FrOut F v (execLaneStart lane s) := by
  unfold execLaneStart
  repeat' (first
    | with_reducible assumption
    | exact within_trans hF rfl
    | exact bit_within hF rfl
    | with_reducible apply frOut_next
    | with_reducible intro _
    | with_reducible apply fr_ite
    | with_reducible apply State.when_fr
    | with_reducible apply State.startLane_fr
    | split
    | dsimp only)

theorem execLaneRegulatorTimeout_fr (lane : Fin 4) (s : State) (hF : within 5566336335959 F = true) (h : Fr F v s) :
    FrOut F v (execLaneRegulatorTimeout lane s) := by
  unfold execLaneRegulatorTimeout
  repeat' (first
    | with_reducible assumption
    | exact within_trans hF rfl
    | exact bit_within hF rfl
    | with_reducible apply frOut_next
    | with_reducible intro _
    | with_reducible apply fr_ite
    | with_reducible apply State.onTimer_fr
    | with_reducible apply State.regulatorFault_fr
    | split
    | dsimp only)

theorem execLaneReady_fr (lane : Fin 4) (s : State) (hF : within 76536382562391 F = true) (h : Fr F v s) :
    FrOut F v (execLaneReady lane s) := by
  unfold execLaneReady
  repeat' (first
    | with_reducible assumption
    | exact within_trans hF rfl
    | exact bit_within hF rfl
    | with_reducible apply frOut_next
    | with_reducible intro _
    | with_reducible apply fr_ite
    | with_reducible apply State.set_fr
    | with_reducible apply State.arm_fr
    | with_reducible apply State.onTimer_fr
    | with_reducible apply State.settleGains_fr
    | split
    | dsimp only)

theorem execLaneStop_fr (lane : Fin 4) (s : State) (hF : within 76536382562390 F = true) (h : Fr F v s) :
    FrOut F v (execLaneStop lane s) := by
  unfold execLaneStop
  repeat' (first
    | with_reducible assumption
    | exact within_trans hF rfl
    | exact bit_within hF rfl
    | with_reducible apply frOut_next
    | with_reducible intro _
    | with_reducible apply fr_ite
    | with_reducible apply State.when_fr
    | with_reducible apply State.stopLane_fr
    | with_reducible apply State.settleGains_fr
    | split
    | dsimp only)

theorem execRegulatorRestart_fr (lane : Fin 4) (s : State) (hF : within 4398046511111 F = true) (h : Fr F v s) :
    FrOut F v (execRegulatorRestart lane s) := by
  unfold execRegulatorRestart
  repeat' (first
    | with_reducible assumption
    | exact within_trans hF rfl
    | exact bit_within hF rfl
    | with_reducible apply frOut_next
    | with_reducible intro _
    | with_reducible apply fr_ite
    | with_reducible apply State.onTimer_fr
    | with_reducible apply State.setLane_fr
    | with_reducible apply State.laneReleased_fr
    | split
    | dsimp only)

theorem execPmbFaultStop_fr (lane : Fin 4) (s : State) (hF : within 76536382562391 F = true) (h : Fr F v s) :
    FrOut F v (execPmbFaultStop lane s) := by
  unfold execPmbFaultStop
  repeat' (first
    | with_reducible assumption
    | exact within_trans hF rfl
    | exact bit_within hF rfl
    | with_reducible apply frOut_next
    | with_reducible intro _
    | with_reducible apply fr_ite
    | with_reducible apply State.onTimer_fr
    | with_reducible apply State.setLane_fr
    | with_reducible apply State.stopLane_fr
    | with_reducible apply State.settleGains_fr
    | split
    | dsimp only)

theorem execPaOverrun_fr (s : State) (hF : within 4398105231367 F = true) (h : Fr F v s) :
    FrOut F v (execPaOverrun s) := by
  unfold execPaOverrun
  repeat' (first
    | with_reducible assumption
    | exact within_trans hF rfl
    | exact bit_within hF rfl
    | with_reducible apply frOut_next
    | with_reducible intro _
    | with_reducible apply fr_ite
    | with_reducible apply State.onTimer_fr
    | with_reducible apply State.faultRow_fr
    | split
    | dsimp only
    | (with_reducible apply fr_pa; exact bit_within hF rfl
       first
         | with_reducible assumption
         | with_reducible apply fr_ite
         | with_reducible apply State.onTimer_fr
         | with_reducible apply State.faultRow_fr
         | split))

theorem execHintPhase_fr (w : HintId) (s : State) (hF : within 76536382562391 F = true) (h : Fr F v s) :
    FrOut F v (execHintPhase w s) := by
  unfold execHintPhase
  repeat' (first
    | with_reducible assumption
    | exact within_trans hF rfl
    | exact bit_within hF rfl
    | with_reducible apply frOut_next
    | with_reducible intro _
    | with_reducible apply fr_ite
    | with_reducible apply State.onTimer_fr
    | with_reducible apply State.retargetBias_fr
    | with_reducible apply State.nextHint_fr
    | with_reducible apply State.settleGains_fr
    | split
    | dsimp only)

end Sys2Proof.Machine
end

