-- ==== Sys2Proof/Laws/FrameRails.lean ====
section
/-!
SUPPORT. The frames of the functions of Sys2Proof/Machine/Rails.lean, one lemma for each of them (Laws/Frame.lean).
-/

namespace Sys2Proof.Machine

set_option linter.unusedTactic false
set_option linter.unreachableTactic false
set_option linter.unusedVariables false

open Sys2Proof

variable {F : Nat} {v : State}

theorem State.releaseNow_fr (s : State) (n : Nat) (hF : within 492529937884214 F = true) (h : Fr F v s) :
    Fr F v (State.releaseNow s n) := by
  unfold State.releaseNow
  repeat' (first
    | with_reducible assumption
    | exact within_trans hF rfl
    | exact bit_within hF rfl
    | with_reducible intro _
    | with_reducible apply fr_ite
    | with_reducible apply State.releaseRail_fr
    | with_reducible apply fr_foldl
    | split
    | dsimp only)

theorem State.railFaultRecord_fr (s : State) (n bit source : Nat) (hF : within 51598327830 F = true) (h : Fr F v s) :
    Fr F v (State.railFaultRecord s n bit source) := by
  unfold State.railFaultRecord
  repeat' (first
    | with_reducible assumption
    | exact within_trans hF rfl
    | exact bit_within hF rfl
    | with_reducible intro _
    | with_reducible apply fr_ite
    | with_reducible apply State.bump_fr
    | with_reducible apply State.postLog_fr
    | with_reducible apply State.flag_fr
    | with_reducible apply State.returnMargins_fr
    | split
    | dsimp only
    | (with_reducible apply fr_rail; exact bit_within hF rfl
       first
         | with_reducible assumption
         | with_reducible apply fr_ite
         | with_reducible apply State.bump_fr
         | with_reducible apply State.postLog_fr
         | with_reducible apply State.flag_fr
         | with_reducible apply State.returnMargins_fr
         | split))

theorem State.railFaultShutdown_fr (s : State) (n : Nat) (hF : within 562933041852406 F = true) (h : Fr F v s) :
    Fr F v (State.railFaultShutdown s n) := by
  unfold State.railFaultShutdown
  repeat' (first
    | with_reducible assumption
    | exact within_trans hF rfl
    | exact bit_within hF rfl
    | with_reducible intro _
    | with_reducible apply fr_ite
    | with_reducible apply State.set_fr
    | with_reducible apply State.beginShutdown_fr
    | split
    | dsimp only
    | (with_reducible apply fr_rail; exact bit_within hF rfl
       first
         | with_reducible assumption
         | with_reducible apply fr_ite
         | with_reducible apply State.set_fr
         | with_reducible apply State.beginShutdown_fr
         | split))

theorem State.releaseMissed_fr (s : State) (n : Nat) (hF : within 17179869234 F = true) (h : Fr F v s) :
    Fr F v (State.releaseMissed s n) := by
  unfold State.releaseMissed
  repeat' (first
    | with_reducible assumption
    | exact within_trans hF rfl
    | exact bit_within hF rfl
    | with_reducible intro _
    | with_reducible apply fr_ite
    | with_reducible apply State.disarm_fr
    | with_reducible apply State.driveRail_fr
    | split
    | dsimp only
    | (with_reducible apply fr_rail; exact bit_within hF rfl
       first
         | with_reducible assumption
         | with_reducible apply fr_ite
         | with_reducible apply State.disarm_fr
         | with_reducible apply State.driveRail_fr
         | split))

theorem State.railFault_fr (s : State) (n bit source : Nat) (hF : within 562933041852414 F = true) (h : Fr F v s) :
    Fr F v (State.railFault s n bit source) := by
  unfold State.railFault
  repeat' (first
    | with_reducible assumption
    | exact within_trans hF rfl
    | exact bit_within hF rfl
    | with_reducible intro _
    | with_reducible apply fr_ite
    | with_reducible apply State.set_fr
    | with_reducible apply State.flag_fr
    | with_reducible apply State.hardMute_fr
    | with_reducible apply State.stopLanes_fr
    | with_reducible apply State.enterHoldup_fr
    | with_reducible apply State.releaseNow_fr
    | with_reducible apply State.railFaultRecord_fr
    | with_reducible apply State.railFaultShutdown_fr
    | with_reducible apply State.releaseMissed_fr
    | split
    | dsimp only
    | (with_reducible apply fr_pins; exact bit_within hF rfl; with_reducible apply fr_pins_pfwN; exact bit_within hF rfl
       first
         | with_reducible assumption
         | with_reducible apply fr_ite
         | with_reducible apply State.set_fr
         | with_reducible apply State.flag_fr
         | with_reducible apply State.hardMute_fr
         | with_reducible apply State.stopLanes_fr
         | with_reducible apply State.enterHoldup_fr
         | with_reducible apply State.releaseNow_fr
         | with_reducible apply State.railFaultRecord_fr
         | with_reducible apply State.railFaultShutdown_fr
         | with_reducible apply State.releaseMissed_fr
         | split))

theorem State.advanceStart_fr (s : State) (hF : within 1718050172055 F = true) (h : Fr F v s) :
    Fr F v (State.advanceStart s) := by
  unfold State.advanceStart
  repeat' (first
    | with_reducible assumption
    | exact within_trans hF rfl
    | exact bit_within hF rfl
    | with_reducible intro _
    | with_reducible apply fr_ite
    | with_reducible apply State.startDelays_fr
    | with_reducible apply State.releaseCore_fr
    | with_reducible apply State.trellisComplete_fr
    | split
    | dsimp only)

theorem State.marginReading_fr (s : State) (n r : Nat) (hF : within 34418458646 F = true) (h : Fr F v s) :
    Fr F v (State.marginReading s n r) := by
  unfold State.marginReading
  repeat' (first
    | with_reducible assumption
    | exact within_trans hF rfl
    | exact bit_within hF rfl
    | with_reducible intro _
    | with_reducible apply fr_ite
    | with_reducible apply State.set_fr
    | with_reducible apply State.faultRow_fr
    | with_reducible apply State.startMargin_fr
    | split
    | dsimp only
    | (with_reducible apply fr_margin; exact bit_within hF rfl
       first
         | with_reducible assumption
         | with_reducible apply fr_ite
         | with_reducible apply State.set_fr
         | with_reducible apply State.faultRow_fr
         | with_reducible apply State.startMargin_fr
         | split))

theorem State.railReading_fr (s : State) (n r begin_ : Nat) (hF : within 562933041852415 F = true) (h : Fr F v s) :
    Fr F v (State.railReading s n r begin_) := by
  unfold State.railReading
  repeat' (first
    | with_reducible assumption
    | exact within_trans hF rfl
    | exact bit_within hF rfl
    | with_reducible intro _
    | with_reducible apply fr_ite
    | with_reducible apply State.set_fr
    | with_reducible apply State.disarm_fr
    | with_reducible apply State.postLog_fr
    | with_reducible apply State.log_fr
    | with_reducible apply State.flag_fr
    | with_reducible apply State.flagFirst_fr
    | with_reducible apply State.slotOff_fr
    | with_reducible apply State.railFault_fr
    | with_reducible apply State.advanceStart_fr
    | with_reducible apply State.marginReading_fr
    | split
    | dsimp only
    | (with_reducible apply fr_rail; exact bit_within hF rfl
       first
         | with_reducible assumption
         | with_reducible apply fr_ite
         | with_reducible apply State.set_fr
         | with_reducible apply State.disarm_fr
         | with_reducible apply State.postLog_fr
         | with_reducible apply State.log_fr
         | with_reducible apply State.flag_fr
         | with_reducible apply State.flagFirst_fr
         | with_reducible apply State.slotOff_fr
         | with_reducible apply State.railFault_fr
         | with_reducible apply State.advanceStart_fr
         | with_reducible apply State.marginReading_fr
         | split))

theorem State.sequenceStart_fr (s : State) (hF : within 17179869190 F = true) (h : Fr F v s) :
    Fr F v (State.sequenceStart s) := by
  unfold State.sequenceStart
  repeat' (first
    | with_reducible assumption
    | exact within_trans hF rfl
    | exact bit_within hF rfl
    | with_reducible intro _
    | with_reducible apply fr_ite
    | with_reducible apply State.startDelays_fr
    | split
    | dsimp only
    | (with_reducible apply fr_rail; exact bit_within hF rfl
       first
         | with_reducible assumption
         | with_reducible apply fr_ite
         | with_reducible apply State.startDelays_fr
         | split))

theorem execHkaStart_fr (s : State) (hF : within 17179869190 F = true) (h : Fr F v s) :
    FrOut F v (execHkaStart s) := by
  unfold execHkaStart
  repeat' (first
    | with_reducible assumption
    | exact within_trans hF rfl
    | exact bit_within hF rfl
    | with_reducible apply frOut_next
    | with_reducible intro _
    | with_reducible apply fr_ite
    | with_reducible apply State.when_fr
    | with_reducible apply State.sequenceStart_fr
    | split
    | dsimp only
    | (with_reducible apply fr_rail; exact bit_within hF rfl
       first
         | with_reducible assumption
         | with_reducible apply fr_ite
         | with_reducible apply State.when_fr
         | with_reducible apply State.sequenceStart_fr
         | split))

theorem execRailEnable_fr (slot : Fin 16) (s : State) (hF : within 17179869239 F = true) (h : Fr F v s) :
    FrOut F v (execRailEnable slot s) := by
  unfold execRailEnable
  repeat' (first
    | with_reducible assumption
    | exact within_trans hF rfl
    | exact bit_within hF rfl
    | with_reducible apply frOut_next
    | with_reducible intro _
    | with_reducible apply fr_ite
    | with_reducible apply State.set_fr
    | with_reducible apply State.onTimer_fr
    | with_reducible apply State.supervised_fr
    | with_reducible apply State.driveRail_fr
    | split
    | dsimp only
    | (with_reducible apply fr_rail; exact bit_within hF rfl
       first
         | with_reducible assumption
         | with_reducible apply fr_ite
         | with_reducible apply State.set_fr
         | with_reducible apply State.onTimer_fr
         | with_reducible apply State.supervised_fr
         | with_reducible apply State.driveRail_fr
         | split))

theorem execWarnLeadExpiry_fr (s : State) (hF : within 492529937887223 F = true) (h : Fr F v s) :
    FrOut F v (execWarnLeadExpiry s) := by
  unfold execWarnLeadExpiry
  repeat' (first
    | with_reducible assumption
    | exact within_trans hF rfl
    | exact bit_within hF rfl
    | with_reducible apply frOut_next
    | with_reducible intro _
    | with_reducible apply fr_ite
    | with_reducible apply State.onTimer_fr
    | with_reducible apply State.supervised_fr
    | with_reducible apply State.goDown_fr
    | split
    | dsimp only)

theorem execHoldupLeadExpiry_fr (s : State) (hF : within 492529937887223 F = true) (h : Fr F v s) :
    FrOut F v (execHoldupLeadExpiry s) := by
  unfold execHoldupLeadExpiry
  repeat' (first
    | with_reducible assumption
    | exact within_trans hF rfl
    | exact bit_within hF rfl
    | with_reducible apply frOut_next
    | with_reducible intro _
    | with_reducible apply fr_ite
    | with_reducible apply State.onTimer_fr
    | with_reducible apply State.supervised_fr
    | with_reducible apply State.goDown_fr
    | split
    | dsimp only)

theorem execHoldupStepExpiry_fr (slot : Fin 16) (s : State) (hF : within 492529937887223 F = true) (h : Fr F v s) :
    FrOut F v (execHoldupStepExpiry slot s) := by
  unfold execHoldupStepExpiry
  repeat' (first
    | with_reducible assumption
    | exact within_trans hF rfl
    | exact bit_within hF rfl
    | with_reducible apply frOut_next
    | with_reducible intro _
    | with_reducible apply fr_ite
    | with_reducible apply State.onTimer_fr
    | with_reducible apply State.supervised_fr
    | with_reducible apply State.slotOff_fr
    | split
    | dsimp only)

theorem execRailOff_fr (slot : Fin 16) (s : State) (hF : within 492529937887222 F = true) (h : Fr F v s) :
    FrOut F v (execRailOff slot s) := by
  unfold execRailOff
  repeat' (first
    | with_reducible assumption
    | exact within_trans hF rfl
    | exact bit_within hF rfl
    | with_reducible apply frOut_next
    | with_reducible intro _
    | with_reducible apply fr_ite
    | with_reducible apply State.when_fr
    | with_reducible apply State.supervised_fr
    | with_reducible apply State.slotOff_fr
    | split
    | dsimp only)

theorem execRailOffTimeExpiry_fr (slot : Fin 16) (s : State) (hF : within 492529937887223 F = true) (h : Fr F v s) :
    FrOut F v (execRailOffTimeExpiry slot s) := by
  unfold execRailOffTimeExpiry
  repeat' (first
    | with_reducible assumption
    | exact within_trans hF rfl
    | exact bit_within hF rfl
    | with_reducible apply frOut_next
    | with_reducible intro _
    | with_reducible apply fr_ite
    | with_reducible apply State.onTimer_fr
    | with_reducible apply State.supervised_fr
    | with_reducible apply State.log_fr
    | with_reducible apply State.flagFirst_fr
    | with_reducible apply State.slotOff_fr
    | split
    | dsimp only)

theorem execRetryBackoffExpiry_fr (s : State) (hF : within 17179870215 F = true) (h : Fr F v s) :
    FrOut F v (execRetryBackoffExpiry s) := by
  unfold execRetryBackoffExpiry
  repeat' (first
    | with_reducible assumption
    | exact within_trans hF rfl
    | exact bit_within hF rfl
    | with_reducible apply frOut_next
    | with_reducible intro _
    | with_reducible apply fr_ite
    | with_reducible apply State.onTimer_fr
    | with_reducible apply State.supervised_fr
    | with_reducible apply State.beginStart_fr
    | split
    | dsimp only)

theorem execAttemptReset_fr (s : State) (hF : within 7 F = true) (h : Fr F v s) :
    FrOut F v (execAttemptReset s) := by
  unfold execAttemptReset
  repeat' (first
    | with_reducible assumption
    | exact within_trans hF rfl
    | exact bit_within hF rfl
    | with_reducible apply frOut_next
    | with_reducible intro _
    | with_reducible apply fr_ite
    | with_reducible apply State.set_fr
    | with_reducible apply State.onTimer_fr
    | split
    | dsimp only)

theorem execMarginDacStep_fr (ch : Fin 4) (s : State) (hF : within 34359738391 F = true) (h : Fr F v s) :
    FrOut F v (execMarginDacStep ch s) := by
  unfold execMarginDacStep
  repeat' (first
    | with_reducible assumption
    | exact within_trans hF rfl
    | exact bit_within hF rfl
    | with_reducible apply frOut_next
    | with_reducible intro _
    | with_reducible apply fr_ite
    | with_reducible apply State.arm_fr
    | with_reducible apply State.onTimer_fr
    | split
    | dsimp only
    | (with_reducible apply fr_pins; exact bit_within hF rfl; with_reducible apply fr_margin; exact bit_within hF rfl
       first
         | with_reducible assumption
         | with_reducible apply fr_ite
         | with_reducible apply State.arm_fr
         | with_reducible apply State.onTimer_fr
         | split))

theorem State.hkaLost_fr (s : State) (hF : within 58720262 F = true) (h : Fr F v s) :
    Fr F v (State.hkaLost s) := by
  unfold State.hkaLost
  repeat' (first
    | with_reducible assumption
    | exact within_trans hF rfl
    | exact bit_within hF rfl
    | with_reducible intro _
    | with_reducible apply fr_ite
    | with_reducible apply State.bump_fr
    | with_reducible apply State.faultRow_fr
    | split
    | dsimp only)

theorem State.hkaResult_fr (s : State) (n : Nat) (input : Int) (hF : within 562933041852415 F = true) (h : Fr F v s) :
    Fr F v (State.hkaResult s n input) := by
  unfold State.hkaResult
  repeat' (first
    | with_reducible assumption
    | exact within_trans hF rfl
    | exact bit_within hF rfl
    | with_reducible intro _
    | with_reducible apply fr_ite
    | with_reducible apply State.set_fr
    | with_reducible apply State.elapse_fr
    | with_reducible apply State.railReading_fr
    | with_reducible apply State.hkaLost_fr
    | split
    | dsimp only
    | (with_reducible apply fr_rail; exact bit_within hF rfl
       first
         | with_reducible assumption
         | with_reducible apply fr_ite
         | with_reducible apply State.set_fr
         | with_reducible apply State.elapse_fr
         | with_reducible apply State.railReading_fr
         | with_reducible apply State.hkaLost_fr
         | split))

theorem execHkaReading_fr (slot : Fin 16) (input : Int) (s : State) (hF : within 562933041852415 F = true) (h : Fr F v s) :
    FrOut F v (execHkaReading slot input s) := by
  unfold execHkaReading
  repeat' (first
    | with_reducible assumption
    | exact within_trans hF rfl
    | exact bit_within hF rfl
    | with_reducible apply frOut_next
    | with_reducible intro _
    | with_reducible apply fr_ite
    | with_reducible apply State.when_fr
    | with_reducible apply State.hkaResult_fr
    | split
    | dsimp only)

theorem State.countPg_fr (s : State) (n : Nat) (hF : within 562933041852414 F = true) (h : Fr F v s) :
    Fr F v (State.countPg s n) := by
  unfold State.countPg
  repeat' (first
    | with_reducible assumption
    | exact within_trans hF rfl
    | exact bit_within hF rfl
    | with_reducible intro _
    | with_reducible apply fr_ite
    | with_reducible apply State.railFault_fr
    | split
    | dsimp only
    | (with_reducible apply fr_rail; exact bit_within hF rfl
       first
         | with_reducible assumption
         | with_reducible apply fr_ite
         | with_reducible apply State.railFault_fr
         | split))

theorem execPgChange_fr (slot : Fin 16) (high : Bool) (s : State) (hF : within 562933041852414 F = true) (h : Fr F v s) :
    FrOut F v (execPgChange slot high s) := by
  unfold execPgChange
  repeat' (first
    | with_reducible assumption
    | exact within_trans hF rfl
    | exact bit_within hF rfl
    | with_reducible apply frOut_next
    | with_reducible intro _
    | with_reducible apply fr_ite
    | with_reducible apply State.when_fr
    | with_reducible apply State.supervised_fr
    | with_reducible apply State.countPg_fr
    | split
    | dsimp only
    | (with_reducible apply fr_pins; exact bit_within hF rfl
       first
         | with_reducible assumption
         | with_reducible apply fr_ite
         | with_reducible apply State.when_fr
         | with_reducible apply State.supervised_fr
         | with_reducible apply State.countPg_fr
         | split))

end Sys2Proof.Machine
end

