-- ==== Sys2Proof/Laws/FrameDatapath.lean ====
section
/-!
SUPPORT. The frames of the functions of Sys2Proof/Machine/Datapath.lean, one lemma for each of them (Laws/Frame.lean).
-/

namespace Sys2Proof.Machine

set_option linter.unusedTactic false
set_option linter.unreachableTactic false
set_option linter.unusedVariables false

open Sys2Proof

variable {F : Nat} {v : State}

theorem execAdcCalibrationDone_fr (conv : Fin 4) (ok : Bool) (stage : Byte) (s : State) (hF : within 58720262 F = true) (h : Fr F v s) :
    FrOut F v (execAdcCalibrationDone conv ok stage s) := by
  unfold execAdcCalibrationDone
  repeat' (first
    | with_reducible assumption
    | exact within_trans hF rfl
    | exact bit_within hF rfl
    | with_reducible apply frOut_next
    | with_reducible intro _
    | with_reducible apply fr_ite
    | with_reducible apply State.set_fr
    | with_reducible apply State.when_fr
    | with_reducible apply State.faultRow_fr
    | split
    | dsimp only)

theorem State.setTaste_fr (s : State) (d : Dir) (t : Taste) (hF : within 274877906944 F = true) (h : Fr F v s) :
    Fr F v (State.setTaste s d t) := by
  unfold State.setTaste
  repeat' (first
    | with_reducible assumption
    | exact within_trans hF rfl
    | exact bit_within hF rfl
    | with_reducible intro _
    | with_reducible apply fr_ite
    | split
    | dsimp only
    | (with_reducible apply fr_conv; exact bit_within hF rfl
       first
         | with_reducible assumption
         | with_reducible apply fr_ite
         | split))

theorem State.setDivergent_fr (s : State) (d : Dir) (b : Bool) (hF : within 68778196998 F = true) (h : Fr F v s) :
    Fr F v (State.setDivergent s d b) := by
  unfold State.setDivergent
  repeat' (first
    | with_reducible assumption
    | exact within_trans hF rfl
    | exact bit_within hF rfl
    | with_reducible intro _
    | with_reducible apply fr_ite
    | with_reducible apply State.set_fr
    | with_reducible apply State.fabEvent_fr
    | with_reducible apply fr_foldl
    | split
    | dsimp only)

theorem State.divergentBlock_fr (s : State) (d : Dir) (largest : Nat) (hF : within 1443167731718 F = true) (h : Fr F v s) :
    Fr F v (State.divergentBlock s d largest) := by
  unfold State.divergentBlock
  repeat' (first
    | with_reducible assumption
    | exact within_trans hF rfl
    | exact bit_within hF rfl
    | with_reducible intro _
    | with_reducible apply fr_ite
    | with_reducible apply State.bump_fr
    | with_reducible apply State.faultRow_fr
    | with_reducible apply State.mutePaths_fr
    | with_reducible apply State.setTaste_fr
    | with_reducible apply State.setDivergent_fr
    | split
    | dsimp only)

theorem State.cleanBlock_fr (s : State) (d : Dir) (hF : within 343656103942 F = true) (h : Fr F v s) :
    Fr F v (State.cleanBlock s d) := by
  unfold State.cleanBlock
  repeat' (first
    | with_reducible assumption
    | exact within_trans hF rfl
    | exact bit_within hF rfl
    | with_reducible intro _
    | with_reducible apply fr_ite
    | with_reducible apply State.setTaste_fr
    | with_reducible apply State.setDivergent_fr
    | split
    | dsimp only)

theorem execTasteBlockEnd_fr (pair : Dir) (differing : Nat) (largest : BitVec 16) (s : State) (hF : within 1443167731718 F = true) (h : Fr F v s) :
    FrOut F v (execTasteBlockEnd pair differing largest s) := by
  unfold execTasteBlockEnd
  repeat' (first
    | with_reducible assumption
    | exact within_trans hF rfl
    | exact bit_within hF rfl
    | with_reducible apply frOut_next
    | with_reducible intro _
    | with_reducible apply fr_ite
    | with_reducible apply State.when_fr
    | with_reducible apply State.divergentBlock_fr
    | with_reducible apply State.cleanBlock_fr
    | split
    | dsimp only)

theorem execAdcOverrange_fr (conv : Fin 4) (s : State) (hF : within 68778196998 F = true) (h : Fr F v s) :
    FrOut F v (execAdcOverrange conv s) := by
  unfold execAdcOverrange
  repeat' (first
    | with_reducible assumption
    | exact within_trans hF rfl
    | exact bit_within hF rfl
    | with_reducible apply frOut_next
    | with_reducible intro _
    | with_reducible apply fr_ite
    | with_reducible apply State.bump_fr
    | with_reducible apply State.arm_fr
    | with_reducible apply State.when_fr
    | with_reducible apply State.log_fr
    | with_reducible apply State.flagFirst_fr
    | with_reducible apply State.fabEvent_fr
    | with_reducible apply State.refreeze_fr
    | with_reducible apply fr_foldl
    | split
    | dsimp only)

theorem execDcFreezeEnd_fr (conv : Fin 4) (s : State) (hF : within 68778196999 F = true) (h : Fr F v s) :
    FrOut F v (execDcFreezeEnd conv s) := by
  unfold execDcFreezeEnd
  repeat' (first
    | with_reducible assumption
    | exact within_trans hF rfl
    | exact bit_within hF rfl
    | with_reducible apply frOut_next
    | with_reducible intro _
    | with_reducible apply fr_ite
    | with_reducible apply State.onTimer_fr
    | with_reducible apply State.refreeze_fr
    | split
    | dsimp only)

theorem execElementSaturation_fr (path : Fin 16) (element : Fin 22) (samples : Nat) (s : State) (hF : within 68778196998 F = true) (h : Fr F v s) :
    FrOut F v (execElementSaturation path element samples s) := by
  unfold execElementSaturation
  repeat' (first
    | with_reducible assumption
    | exact within_trans hF rfl
    | exact bit_within hF rfl
    | with_reducible apply frOut_next
    | with_reducible intro _
    | with_reducible apply fr_ite
    | with_reducible apply State.bump_fr
    | with_reducible apply State.when_fr
    | with_reducible apply State.flag_fr
    | with_reducible apply State.fabEvent_fr
    | split
    | dsimp only)

theorem execDacClip_fr (d : Dir) (s : State) (hF : within 58720262 F = true) (h : Fr F v s) :
    FrOut F v (execDacClip d s) := by
  unfold execDacClip
  repeat' (first
    | with_reducible assumption
    | exact within_trans hF rfl
    | exact bit_within hF rfl
    | with_reducible apply frOut_next
    | with_reducible intro _
    | with_reducible apply fr_ite
    | with_reducible apply State.bump_fr
    | with_reducible apply State.when_fr
    | with_reducible apply State.log_fr
    | with_reducible apply State.flagFirst_fr
    | split
    | dsimp only)

theorem State.freshWindow_fr (s : State) (p : Nat) (hF : within 68719476736 F = true) (h : Fr F v s) :
    Fr F v (State.freshWindow s p) := by
  unfold State.freshWindow
  repeat' (first
    | with_reducible assumption
    | exact within_trans hF rfl
    | exact bit_within hF rfl
    | with_reducible intro _
    | with_reducible apply fr_ite
    | with_reducible apply State.setPath_fr
    | split
    | dsimp only)

theorem execSettleEnd_fr (path : Fin 16) (s : State) (hF : within 343656103943 F = true) (h : Fr F v s) :
    FrOut F v (execSettleEnd path s) := by
  unfold execSettleEnd
  repeat' (first
    | with_reducible assumption
    | exact within_trans hF rfl
    | exact bit_within hF rfl
    | with_reducible apply frOut_next
    | with_reducible intro _
    | with_reducible apply fr_ite
    | with_reducible apply State.set_fr
    | with_reducible apply State.onTimer_fr
    | with_reducible apply State.fabEvent_fr
    | with_reducible apply State.freshWindow_fr
    | split
    | dsimp only
    | (with_reducible apply fr_conv; exact bit_within hF rfl
       first
         | with_reducible assumption
         | with_reducible apply fr_ite
         | with_reducible apply State.set_fr
         | with_reducible apply State.onTimer_fr
         | with_reducible apply State.fabEvent_fr
         | with_reducible apply State.freshWindow_fr
         | split))

theorem State.newWindows_fr (s : State) (hF : within 68719476736 F = true) (h : Fr F v s) :
    Fr F v (State.newWindows s) := by
  unfold State.newWindows
  repeat' (first
    | with_reducible assumption
    | exact within_trans hF rfl
    | exact bit_within hF rfl
    | with_reducible intro _
    | with_reducible apply fr_ite
    | with_reducible apply State.setPath_fr
    | with_reducible apply fr_foldl
    | split
    | dsimp only)

theorem State.doSync_fr (s : State) (hF : within 1168231104518 F = true) (h : Fr F v s) :
    Fr F v (State.doSync s) := by
  unfold State.doSync
  repeat' (first
    | with_reducible assumption
    | exact within_trans hF rfl
    | exact bit_within hF rfl
    | with_reducible intro _
    | with_reducible apply fr_ite
    | with_reducible apply State.bump_fr
    | with_reducible apply State.settleAll_fr
    | with_reducible apply State.newWindows_fr
    | split
    | dsimp only)

theorem execSyncEdge_fr (s : State) (hF : within 1168231104518 F = true) (h : Fr F v s) :
    FrOut F v (execSyncEdge s) := by
  unfold execSyncEdge
  repeat' (first
    | with_reducible assumption
    | exact within_trans hF rfl
    | exact bit_within hF rfl
    | with_reducible apply frOut_next
    | with_reducible intro _
    | with_reducible apply fr_ite
    | with_reducible apply State.when_fr
    | with_reducible apply State.doSync_fr
    | split
    | dsimp only)

theorem State.latchWindow_fr (s : State) (p pmax sum : Nat) (clipped : Bool) (hF : within 68778196998 F = true) (h : Fr F v s) :
    Fr F v (State.latchWindow s p pmax sum clipped) := by
  unfold State.latchWindow
  repeat' (first
    | with_reducible assumption
    | exact within_trans hF rfl
    | exact bit_within hF rfl
    | with_reducible intro _
    | with_reducible apply fr_ite
    | with_reducible apply State.set_fr
    | with_reducible apply State.flag_fr
    | with_reducible apply State.fabEvent_fr
    | with_reducible apply State.freshWindow_fr
    | split
    | dsimp only)

theorem State.watchNoise_fr (s : State) (p : Nat) (hF : within 6 F = true) (h : Fr F v s) :
    Fr F v (State.watchNoise s p) := by
  unfold State.watchNoise
  repeat' (first
    | with_reducible assumption
    | exact within_trans hF rfl
    | exact bit_within hF rfl
    | with_reducible intro _
    | with_reducible apply fr_ite
    | with_reducible apply State.setI_fr
    | with_reducible apply State.disarm_fr
    | with_reducible apply State.arm_fr
    | split
    | dsimp only)

theorem State.noteLevel_fr (s : State) (p : Nat) (afterGain : Bool) (level : Int) (hF : within 68719476742 F = true) (h : Fr F v s) :
    Fr F v (State.noteLevel s p afterGain level) := by
  unfold State.noteLevel
  repeat' (first
    | with_reducible assumption
    | exact within_trans hF rfl
    | exact bit_within hF rfl
    | with_reducible intro _
    | with_reducible apply fr_ite
    | with_reducible apply State.setI_fr
    | with_reducible apply State.setPath_fr
    | with_reducible apply State.watchNoise_fr
    | split
    | dsimp only)

theorem State.watchPower_fr (s : State) (p : Nat) (hF : within 68719476736 F = true) (h : Fr F v s) :
    Fr F v (State.watchPower s p).1 := by
  unfold State.watchPower
  repeat' (first
    | with_reducible assumption
    | exact within_trans hF rfl
    | exact bit_within hF rfl
    | with_reducible intro _
    | with_reducible apply fr_ite
    | with_reducible apply fr_ite_fst
    | with_reducible apply State.setPath_fr
    | split
    | dsimp only)

theorem execDetectorWindowEnd_fr (path : Fin 16) (pmax : BitVec 32) (sum : Nat) (clipped : Bool) (s : State) (hF : within 360210583858390 F = true) (h : Fr F v s) :
    FrOut F v (execDetectorWindowEnd path pmax sum clipped s) := by
  unfold execDetectorWindowEnd
  repeat' (first
    | with_reducible assumption
    | exact within_trans hF rfl
    | exact bit_within hF rfl
    | with_reducible apply frOut_next
    | with_reducible intro _
    | with_reducible apply fr_ite
    | with_reducible apply fr_ite_fst
    | with_reducible apply State.when_fr
    | with_reducible apply State.fabEvent_fr
    | with_reducible apply State.moveGains_fr
    | with_reducible apply State.netTrigger_fr
    | with_reducible apply State.settleGains_fr
    | with_reducible apply State.latchWindow_fr
    | with_reducible apply State.noteLevel_fr
    | with_reducible apply State.watchPower_fr
    | split
    | dsimp only)

theorem execEnvelopeHigh_fr (path : Fin 16) (level : BitVec 16) (s : State) (hF : within 68778196998 F = true) (h : Fr F v s) :
    FrOut F v (execEnvelopeHigh path level s) := by
  unfold execEnvelopeHigh
  repeat' (first
    | with_reducible assumption
    | exact within_trans hF rfl
    | exact bit_within hF rfl
    | with_reducible apply frOut_next
    | with_reducible intro _
    | with_reducible apply fr_ite
    | with_reducible apply State.set_fr
    | with_reducible apply State.when_fr
    | with_reducible apply State.setPath_fr
    | with_reducible apply State.fabEvent_fr
    | split
    | dsimp only)

theorem execEnvelopeLow_fr (path : Fin 16) (level : BitVec 16) (s : State) (hF : within 68778196998 F = true) (h : Fr F v s) :
    FrOut F v (execEnvelopeLow path level s) := by
  unfold execEnvelopeLow
  repeat' (first
    | with_reducible assumption
    | exact within_trans hF rfl
    | exact bit_within hF rfl
    | with_reducible apply frOut_next
    | with_reducible intro _
    | with_reducible apply fr_ite
    | with_reducible apply State.set_fr
    | with_reducible apply State.when_fr
    | with_reducible apply State.setPath_fr
    | with_reducible apply State.fabEvent_fr
    | split
    | dsimp only)

theorem execFabricPost_fr (path : Fin 16) (s : State) (hF : within 68769808390 F = true) (h : Fr F v s) :
    FrOut F v (execFabricPost path s) := by
  unfold execFabricPost
  repeat' (first
    | with_reducible assumption
    | exact within_trans hF rfl
    | exact bit_within hF rfl
    | with_reducible apply frOut_next
    | with_reducible intro _
    | with_reducible apply fr_ite
    | with_reducible apply State.set_fr
    | with_reducible apply State.post_fr
    | with_reducible apply State.setPath_fr
    | split
    | dsimp only)

end Sys2Proof.Machine
end

