-- ==== Sys2Proof/Laws/FrameRefCmds.lean ====
section
/-!
SUPPORT. The frames of the functions of Sys2Proof/Machine/RefCmds.lean, one lemma for each of them (Laws/Frame.lean).
-/

namespace Sys2Proof.Machine

set_option linter.unusedTactic false
set_option linter.unreachableTactic false
set_option linter.unusedVariables false

open Sys2Proof

variable {F : Nat} {v : State}

theorem State.cutWindow_fr (s : State) (p : Nat) (hF : within 281543754907654 F = true) (h : Fr F v s) :
    Fr F v (State.cutWindow s p) := by
  unfold State.cutWindow
  repeat' (first
    | with_reducible assumption
    | exact within_trans hF rfl
    | exact bit_within hF rfl
    | with_reducible intro _
    | with_reducible apply fr_ite
    | with_reducible apply fr_ite_snd
    | with_reducible apply State.set_fr
    | with_reducible apply State.draw_fr
    | with_reducible apply State.fabEvent_fr
    | with_reducible apply State.freshWindow_fr
    | split
    | dsimp only)

theorem State.pllDown_fr (s : State) (hF : within 299410818859014 F = true) (h : Fr F v s) :
    Fr F v (State.pllDown s) := by
  unfold State.pllDown
  repeat' (first
    | with_reducible assumption
    | exact within_trans hF rfl
    | exact bit_within hF rfl
    | with_reducible intro _
    | with_reducible apply fr_ite
    | with_reducible apply State.set_fr
    | with_reducible apply State.refreeze_fr
    | with_reducible apply State.cutWindow_fr
    | with_reducible apply fr_foldl
    | split
    | dsimp only
    | (with_reducible apply fr_conv; exact bit_within hF rfl; with_reducible apply fr_hkb; exact bit_within hF rfl
       first
         | with_reducible assumption
         | with_reducible apply fr_ite
         | with_reducible apply State.set_fr
         | with_reducible apply State.refreeze_fr
         | with_reducible apply State.cutWindow_fr
         | with_reducible apply fr_foldl
         | split))

theorem State.refReaction_fr (s : State) (hF : within 360210583858390 F = true) (h : Fr F v s) :
    Fr F v (State.refReaction s) := by
  unfold State.refReaction
  repeat' (first
    | with_reducible assumption
    | exact within_trans hF rfl
    | exact bit_within hF rfl
    | with_reducible intro _
    | with_reducible apply fr_ite
    | with_reducible apply State.hardMute_fr
    | with_reducible apply State.fallToStandby_fr
    | with_reducible apply State.netTrigger_fr
    | split
    | dsimp only)

theorem execRefInLoss_fr (s : State) (hF : within 553999508254422 F = true) (h : Fr F v s) :
    FrOut F v (execRefInLoss s) := by
  unfold execRefInLoss
  repeat' (first
    | with_reducible assumption
    | exact within_trans hF rfl
    | exact bit_within hF rfl
    | with_reducible apply frOut_next
    | with_reducible intro _
    | with_reducible apply fr_ite
    | with_reducible apply State.set_fr
    | with_reducible apply State.arm_fr
    | with_reducible apply State.when_fr
    | with_reducible apply State.flag_fr
    | with_reducible apply State.warmRefLost_fr
    | with_reducible apply State.tiuRefLost_fr
    | with_reducible apply State.toInt48_fr
    | with_reducible apply State.endRelock_fr
    | with_reducible apply State.demoteIfDue_fr
    | with_reducible apply State.pllDown_fr
    | with_reducible apply State.refReaction_fr
    | split
    | dsimp only
    | (with_reducible apply fr_power; exact bit_within hF rfl
       first
         | with_reducible assumption
         | with_reducible apply fr_ite
         | with_reducible apply State.set_fr
         | with_reducible apply State.arm_fr
         | with_reducible apply State.when_fr
         | with_reducible apply State.flag_fr
         | with_reducible apply State.warmRefLost_fr
         | with_reducible apply State.tiuRefLost_fr
         | with_reducible apply State.toInt48_fr
         | with_reducible apply State.endRelock_fr
         | with_reducible apply State.demoteIfDue_fr
         | with_reducible apply State.pllDown_fr
         | with_reducible apply State.refReaction_fr
         | split))

theorem execLinkHoldoverExpiry_fr (s : State) (hF : within 1031 F = true) (h : Fr F v s) :
    FrOut F v (execLinkHoldoverExpiry s) := by
  unfold execLinkHoldoverExpiry
  repeat' (first
    | with_reducible assumption
    | exact within_trans hF rfl
    | exact bit_within hF rfl
    | with_reducible apply frOut_next
    | with_reducible intro _
    | with_reducible apply fr_ite
    | with_reducible apply State.onTimer_fr
    | split
    | dsimp only
    | (with_reducible apply fr_power; exact bit_within hF rfl
       first
         | with_reducible assumption
         | with_reducible apply fr_ite
         | with_reducible apply State.onTimer_fr
         | split))

theorem execSamplePllUnlock_fr (status : BitVec 32) (s : State) (hF : within 378077647809750 F = true) (h : Fr F v s) :
    FrOut F v (execSamplePllUnlock status s) := by
  unfold execSamplePllUnlock
  repeat' (first
    | with_reducible assumption
    | exact within_trans hF rfl
    | exact bit_within hF rfl
    | with_reducible apply frOut_next
    | with_reducible intro _
    | with_reducible apply fr_ite
    | with_reducible apply State.when_fr
    | with_reducible apply State.faultRow_fr
    | with_reducible apply State.pllDown_fr
    | with_reducible apply State.refReaction_fr
    | split
    | dsimp only)

theorem State.hkbPass_fr (s : State) (hF : within 17592186044416 F = true) (h : Fr F v s) :
    Fr F v (State.hkbPass s) := by
  unfold State.hkbPass
  repeat' (first
    | with_reducible assumption
    | exact within_trans hF rfl
    | exact bit_within hF rfl
    | with_reducible intro _
    | with_reducible apply fr_ite
    | split
    | dsimp only
    | (with_reducible apply fr_hkb; exact bit_within hF rfl
       first
         | with_reducible assumption
         | with_reducible apply fr_ite
         | split))

theorem execSamplePllRelock_fr (s : State) (hF : within 18760475869190 F = true) (h : Fr F v s) :
    FrOut F v (execSamplePllRelock s) := by
  unfold execSamplePllRelock
  repeat' (first
    | with_reducible assumption
    | exact within_trans hF rfl
    | exact bit_within hF rfl
    | with_reducible apply frOut_next
    | with_reducible intro _
    | with_reducible apply fr_ite
    | with_reducible apply State.set_fr
    | with_reducible apply State.when_fr
    | with_reducible apply State.settleAll_fr
    | with_reducible apply State.refreeze_fr
    | with_reducible apply State.hkbPass_fr
    | with_reducible apply fr_foldl
    | split
    | dsimp only
    | (with_reducible apply fr_hkb; exact bit_within hF rfl
       first
         | with_reducible assumption
         | with_reducible apply fr_ite
         | with_reducible apply State.set_fr
         | with_reducible apply State.when_fr
         | with_reducible apply State.settleAll_fr
         | with_reducible apply State.refreeze_fr
         | with_reducible apply State.hkbPass_fr
         | with_reducible apply fr_foldl
         | split))

theorem execSamplePllLock_fr (s : State) (hF : within 343656104966 F = true) (h : Fr F v s) :
    FrOut F v (execSamplePllLock s) := by
  unfold execSamplePllLock
  repeat' (first
    | with_reducible assumption
    | exact within_trans hF rfl
    | exact bit_within hF rfl
    | with_reducible apply frOut_next
    | with_reducible intro _
    | with_reducible apply fr_ite
    | with_reducible apply State.set_fr
    | with_reducible apply State.when_fr
    | with_reducible apply State.refreeze_fr
    | with_reducible apply fr_foldl
    | split
    | dsimp only
    | (with_reducible apply fr_power; exact bit_within hF rfl; with_reducible apply fr_conv; exact bit_within hF rfl
       first
         | with_reducible assumption
         | with_reducible apply fr_ite
         | with_reducible apply State.set_fr
         | with_reducible apply State.when_fr
         | with_reducible apply State.refreeze_fr
         | with_reducible apply fr_foldl
         | split))

theorem State.collapseReported_fr (s : State) (hF : within 258505691181022 F = true) (h : Fr F v s) :
    Fr F v (State.collapseReported s) := by
  unfold State.collapseReported
  repeat' (first
    | with_reducible assumption
    | exact within_trans hF rfl
    | exact bit_within hF rfl
    | with_reducible intro _
    | with_reducible apply fr_ite
    | with_reducible apply State.enterHoldup_fr
    | split
    | dsimp only
    | (with_reducible apply fr_feed; exact bit_within hF rfl
       first
         | with_reducible assumption
         | with_reducible apply fr_ite
         | with_reducible apply State.enterHoldup_fr
         | split))

theorem execFeedCollapseReport_fr (s : State) (hF : within 258505691181022 F = true) (h : Fr F v s) :
    FrOut F v (execFeedCollapseReport s) := by
  unfold execFeedCollapseReport
  repeat' (first
    | with_reducible assumption
    | exact within_trans hF rfl
    | exact bit_within hF rfl
    | with_reducible apply frOut_next
    | with_reducible intro _
    | with_reducible apply fr_ite
    | with_reducible apply State.when_fr
    | with_reducible apply State.supervised_fr
    | with_reducible apply State.take_fr
    | with_reducible apply State.collapseReported_fr
    | split
    | dsimp only)

end Sys2Proof.Machine
end

