-- ==== Sys2Proof/Laws/FramePa.lean ====
section
/-!
SUPPORT. The frames of the functions of Sys2Proof/Machine/Pa.lean, one lemma for each of them (Laws/Frame.lean).
-/

namespace Sys2Proof.Machine

set_option linter.unusedTactic false
set_option linter.unreachableTactic false
set_option linter.unusedVariables false

open Sys2Proof

variable {F : Nat} {v : State}

theorem State.droopCaps_fr (s : State) (hF : within 68719476736 F = true) (h : Fr F v s) :
    Fr F v (State.droopCaps s) := by
  unfold State.droopCaps
  repeat' (first
    | with_reducible assumption
    | exact within_trans hF rfl
    | exact bit_within hF rfl
    | with_reducible intro _
    | with_reducible apply fr_ite
    | with_reducible apply State.setPath_fr
    | with_reducible apply fr_foldl
    | split
    | dsimp only)

theorem State.startDroop_fr (s : State) (v' : Nat) (hF : within 8864871219206 F = true) (h : Fr F v s) :
    Fr F v (State.startDroop s v') := by
  unfold State.startDroop
  repeat' (first
    | with_reducible assumption
    | exact within_trans hF rfl
    | exact bit_within hF rfl
    | with_reducible intro _
    | with_reducible apply fr_ite
    | with_reducible apply State.set_fr
    | with_reducible apply State.bump_fr
    | with_reducible apply State.flag_fr
    | with_reducible apply State.moveGains_fr
    | with_reducible apply State.droopCaps_fr
    | split
    | dsimp only
    | (with_reducible apply fr_feed; exact bit_within hF rfl
       first
         | with_reducible assumption
         | with_reducible apply fr_ite
         | with_reducible apply State.set_fr
         | with_reducible apply State.bump_fr
         | with_reducible apply State.flag_fr
         | with_reducible apply State.moveGains_fr
         | with_reducible apply State.droopCaps_fr
         | split))

theorem State.endDroop_fr (s : State) (hF : within 68769808390 F = true) (h : Fr F v s) :
    Fr F v (State.endDroop s) := by
  unfold State.endDroop
  repeat' (first
    | with_reducible assumption
    | exact within_trans hF rfl
    | exact bit_within hF rfl
    | with_reducible intro _
    | with_reducible apply fr_ite
    | with_reducible apply State.set_fr
    | with_reducible apply State.log_fr
    | with_reducible apply State.setPath_fr
    | with_reducible apply State.moveGains_fr
    | with_reducible apply fr_foldl
    | split
    | dsimp only)

theorem State.judgeDroop_fr (s : State) (v' : Nat) (hF : within 8864871219206 F = true) (h : Fr F v s) :
    Fr F v (State.judgeDroop s v') := by
  unfold State.judgeDroop
  repeat' (first
    | with_reducible assumption
    | exact within_trans hF rfl
    | exact bit_within hF rfl
    | with_reducible intro _
    | with_reducible apply fr_ite
    | with_reducible apply State.disarm_fr
    | with_reducible apply State.arm_fr
    | with_reducible apply State.startDroop_fr
    | split
    | dsimp only
    | (with_reducible apply fr_feed; exact bit_within hF rfl
       first
         | with_reducible assumption
         | with_reducible apply fr_ite
         | with_reducible apply State.disarm_fr
         | with_reducible apply State.arm_fr
         | with_reducible apply State.startDroop_fr
         | split))

theorem State.reportCollapse_fr (s : State) (hF : within 8796151742470 F = true) (h : Fr F v s) :
    Fr F v (State.reportCollapse s) := by
  unfold State.reportCollapse
  repeat' (first
    | with_reducible assumption
    | exact within_trans hF rfl
    | exact bit_within hF rfl
    | with_reducible intro _
    | with_reducible apply fr_ite
    | with_reducible apply State.set_fr
    | with_reducible apply State.post_fr
    | with_reducible apply State.postLog_fr
    | with_reducible apply State.flag_fr
    | split
    | dsimp only
    | (with_reducible apply fr_feed; exact bit_within hF rfl
       first
         | with_reducible assumption
         | with_reducible apply fr_ite
         | with_reducible apply State.set_fr
         | with_reducible apply State.post_fr
         | with_reducible apply State.postLog_fr
         | with_reducible apply State.flag_fr
         | split))

theorem State.feedVolts_fr (s : State) (code gain : Nat) (hF : within 85332475584598 F = true) (h : Fr F v s) :
    Fr F v (State.feedVolts s code gain) := by
  unfold State.feedVolts
  repeat' (first
    | with_reducible assumption
    | exact within_trans hF rfl
    | exact bit_within hF rfl
    | with_reducible intro _
    | with_reducible apply fr_ite
    | with_reducible apply State.set_fr
    | with_reducible apply State.arm_fr
    | with_reducible apply State.settleGains_fr
    | with_reducible apply State.judgeDroop_fr
    | with_reducible apply State.reportCollapse_fr
    | split
    | dsimp only
    | (with_reducible apply fr_feed; exact bit_within hF rfl
       first
         | with_reducible assumption
         | with_reducible apply fr_ite
         | with_reducible apply State.set_fr
         | with_reducible apply State.arm_fr
         | with_reducible apply State.settleGains_fr
         | with_reducible apply State.judgeDroop_fr
         | with_reducible apply State.reportCollapse_fr
         | split))

theorem State.feedAmps_fr (s : State) (code : Int) (gain : Nat) (hF : within 8796093022212 F = true) (h : Fr F v s) :
    Fr F v (State.feedAmps s code gain) := by
  unfold State.feedAmps
  repeat' (first
    | with_reducible assumption
    | exact within_trans hF rfl
    | exact bit_within hF rfl
    | with_reducible intro _
    | with_reducible apply fr_ite
    | with_reducible apply State.set_fr
    | with_reducible apply State.setI_fr
    | with_reducible apply State.bump_fr
    | split
    | dsimp only
    | (with_reducible apply fr_feed; exact bit_within hF rfl
       first
         | with_reducible assumption
         | with_reducible apply fr_ite
         | with_reducible apply State.set_fr
         | with_reducible apply State.setI_fr
         | with_reducible apply State.bump_fr
         | split))

theorem State.ntcOut_fr (s : State) (n : Nat) (hF : within 4398105231366 F = true) (h : Fr F v s) :
    Fr F v (State.ntcOut s n) := by
  unfold State.ntcOut
  repeat' (first
    | with_reducible assumption
    | exact within_trans hF rfl
    | exact bit_within hF rfl
    | with_reducible intro _
    | with_reducible apply fr_ite
    | with_reducible apply State.faultRow_fr
    | with_reducible apply State.setLane_fr
    | split
    | dsimp only)

theorem State.laneTemp_fr (s : State) (n : Nat) (t : Int) (hF : within 5566336335958 F = true) (h : Fr F v s) :
    Fr F v (State.laneTemp s n t) := by
  unfold State.laneTemp
  repeat' (first
    | with_reducible assumption
    | exact within_trans hF rfl
    | exact bit_within hF rfl
    | with_reducible intro _
    | with_reducible apply fr_ite
    | with_reducible apply State.disarm_fr
    | with_reducible apply State.arm_fr
    | with_reducible apply State.flag_fr
    | with_reducible apply State.faultRow_fr
    | with_reducible apply State.setLane_fr
    | with_reducible apply State.stopLane_fr
    | split
    | dsimp only)

theorem State.ntcRead_fr (s : State) (n code gain : Nat) (hF : within 76536382562390 F = true) (h : Fr F v s) :
    Fr F v (State.ntcRead s n code gain) := by
  unfold State.ntcRead
  repeat' (first
    | with_reducible assumption
    | exact within_trans hF rfl
    | exact bit_within hF rfl
    | with_reducible intro _
    | with_reducible apply fr_ite
    | with_reducible apply State.set_fr
    | with_reducible apply State.settleGains_fr
    | with_reducible apply State.setTelemetry_fr
    | with_reducible apply State.ntcOut_fr
    | with_reducible apply State.laneTemp_fr
    | split
    | dsimp only)

theorem State.useHkb_fr (s : State) (inp gain : Nat) (code : Int) (hF : within 85332475584598 F = true) (h : Fr F v s) :
    Fr F v (State.useHkb s inp gain code) := by
  unfold State.useHkb
  repeat' (first
    | with_reducible assumption
    | exact within_trans hF rfl
    | exact bit_within hF rfl
    | with_reducible intro _
    | with_reducible apply fr_ite
    | with_reducible apply State.set_fr
    | with_reducible apply State.setI_fr
    | with_reducible apply State.feedVolts_fr
    | with_reducible apply State.feedAmps_fr
    | with_reducible apply State.ntcRead_fr
    | split
    | dsimp only)

theorem State.noteHighBy_fr (s : State) (q : Nat) (hF : within 16777216 F = true) (h : Fr F v s) :
    Fr F v (State.noteHighBy s q) := by
  unfold State.noteHighBy
  repeat' (first
    | with_reducible assumption
    | exact within_trans hF rfl
    | exact bit_within hF rfl
    | with_reducible intro _
    | with_reducible apply fr_ite
    | split
    | dsimp only
    | (with_reducible apply fr_q; exact bit_within hF rfl
       first
         | with_reducible assumption
         | with_reducible apply fr_ite
         | split))

theorem State.takeHkb_fr (s : State) (entry raw : Nat) (hF : within 85332475584598 F = true) (h : Fr F v s) :
    Fr F v (State.takeHkb s entry raw) := by
  unfold State.takeHkb
  repeat' (first
    | with_reducible assumption
    | exact within_trans hF rfl
    | exact bit_within hF rfl
    | with_reducible intro _
    | with_reducible apply fr_ite
    | with_reducible apply State.set_fr
    | with_reducible apply State.useHkb_fr
    | with_reducible apply State.noteHighBy_fr
    | split
    | dsimp only)

theorem State.releaseHkb_fr (s : State) (hF : within 102924661629014 F = true) (h : Fr F v s) :
    Fr F v (State.releaseHkb s) := by
  unfold State.releaseHkb
  repeat' (first
    | with_reducible assumption
    | exact within_trans hF rfl
    | exact bit_within hF rfl
    | with_reducible intro _
    | with_reducible apply fr_ite
    | with_reducible apply State.takeHkb_fr
    | split
    | dsimp only
    | (with_reducible apply fr_hkb; exact bit_within hF rfl
       first
         | with_reducible assumption
         | with_reducible apply fr_ite
         | with_reducible apply State.takeHkb_fr
         | split))

theorem State.registerHkb_fr (s : State) (entry raw : Nat) (hF : within 102924661629014 F = true) (h : Fr F v s) :
    Fr F v (State.registerHkb s entry raw) := by
  unfold State.registerHkb
  repeat' (first
    | with_reducible assumption
    | exact within_trans hF rfl
    | exact bit_within hF rfl
    | with_reducible intro _
    | with_reducible apply fr_ite
    | with_reducible apply State.bump_fr
    | with_reducible apply State.log_fr
    | with_reducible apply State.flagFirst_fr
    | with_reducible apply State.releaseHkb_fr
    | split
    | dsimp only
    | (with_reducible apply fr_hkb; exact bit_within hF rfl
       first
         | with_reducible assumption
         | with_reducible apply fr_ite
         | with_reducible apply State.bump_fr
         | with_reducible apply State.log_fr
         | with_reducible apply State.flagFirst_fr
         | with_reducible apply State.releaseHkb_fr
         | split))

theorem State.selfCheckFails_fr (s : State) (entry inp : Nat) (code : Int) (hF : within 17592244764678 F = true) (h : Fr F v s) :
    Fr F v (State.selfCheckFails s entry inp code) := by
  unfold State.selfCheckFails
  repeat' (first
    | with_reducible assumption
    | exact within_trans hF rfl
    | exact bit_within hF rfl
    | with_reducible intro _
    | with_reducible apply fr_ite
    | with_reducible apply State.set_fr
    | with_reducible apply State.log_fr
    | with_reducible apply State.flag_fr
    | with_reducible apply fr_foldl
    | split
    | dsimp only
    | (with_reducible apply fr_hkb; exact bit_within hF rfl
       first
         | with_reducible assumption
         | with_reducible apply fr_ite
         | with_reducible apply State.set_fr
         | with_reducible apply State.log_fr
         | with_reducible apply State.flag_fr
         | with_reducible apply fr_foldl
         | split))

theorem State.hkbFlags_fr (s : State) (entry inp : Nat) (code : Int) (cold clipped : Bool) (hF : within 17592244764678 F = true) (h : Fr F v s) :
    Fr F v (State.hkbFlags s entry inp code cold clipped) := by
  unfold State.hkbFlags
  repeat' (first
    | with_reducible assumption
    | exact within_trans hF rfl
    | exact bit_within hF rfl
    | with_reducible intro _
    | with_reducible apply fr_ite
    | with_reducible apply State.flag_fr
    | with_reducible apply State.selfCheckFails_fr
    | split
    | dsimp only
    | (with_reducible apply fr_hkb; exact bit_within hF rfl
       first
         | with_reducible assumption
         | with_reducible apply fr_ite
         | with_reducible apply State.flag_fr
         | with_reducible apply State.selfCheckFails_fr
         | split))

theorem execHkbStart_fr (s : State) (hF : within 17592186044421 F = true) (h : Fr F v s) :
    FrOut F v (execHkbStart s) := by
  unfold execHkbStart
  repeat' (first
    | with_reducible assumption
    | exact within_trans hF rfl
    | exact bit_within hF rfl
    | with_reducible apply frOut_next
    | with_reducible intro _
    | with_reducible apply fr_ite
    | with_reducible apply State.elapse_fr
    | with_reducible apply State.hkbPass_fr
    | split
    | dsimp only)

theorem State.hkbAdvance_fr (s : State) (entry : Nat) (hF : within 17592186044416 F = true) (h : Fr F v s) :
    Fr F v (State.hkbAdvance s entry) := by
  unfold State.hkbAdvance
  repeat' (first
    | with_reducible assumption
    | exact within_trans hF rfl
    | exact bit_within hF rfl
    | with_reducible intro _
    | with_reducible apply fr_ite
    | split
    | dsimp only
    | (with_reducible apply fr_hkb; exact bit_within hF rfl
       first
         | with_reducible assumption
         | with_reducible apply fr_ite
         | split))

theorem State.hkbResult_fr (s : State) (entry : Nat) (input : Int) (refAt : Nat) (hF : within 102924661629015 F = true) (h : Fr F v s) :
    Fr F v (State.hkbResult s entry input refAt) := by
  unfold State.hkbResult
  repeat' (first
    | with_reducible assumption
    | exact within_trans hF rfl
    | exact bit_within hF rfl
    | with_reducible intro _
    | with_reducible apply fr_ite
    | with_reducible apply State.elapse_fr
    | with_reducible apply State.registerHkb_fr
    | with_reducible apply State.hkbFlags_fr
    | with_reducible apply State.hkbAdvance_fr
    | split
    | dsimp only
    | (with_reducible apply fr_hkb; exact bit_within hF rfl
       first
         | with_reducible assumption
         | with_reducible apply fr_ite
         | with_reducible apply State.elapse_fr
         | with_reducible apply State.registerHkb_fr
         | with_reducible apply State.hkbFlags_fr
         | with_reducible apply State.hkbAdvance_fr
         | split))

theorem execHkbResult_fr (entry : Fin 16) (input : Int) (s : State) (hF : within 102924661629015 F = true) (h : Fr F v s) :
    FrOut F v (execHkbResult entry input s) := by
  unfold execHkbResult
  repeat' (first
    | with_reducible assumption
    | exact within_trans hF rfl
    | exact bit_within hF rfl
    | with_reducible apply frOut_next
    | with_reducible intro _
    | with_reducible apply fr_ite
    | with_reducible apply State.when_fr
    | with_reducible apply State.hkbResult_fr
    | split
    | dsimp only)

theorem execDroopClear_fr (s : State) (hF : within 76536382562391 F = true) (h : Fr F v s) :
    FrOut F v (execDroopClear s) := by
  unfold execDroopClear
  repeat' (first
    | with_reducible assumption
    | exact within_trans hF rfl
    | exact bit_within hF rfl
    | with_reducible apply frOut_next
    | with_reducible intro _
    | with_reducible apply fr_ite
    | with_reducible apply State.onTimer_fr
    | with_reducible apply State.settleGains_fr
    | with_reducible apply State.endDroop_fr
    | split
    | dsimp only)

theorem execFeedStale_fr (s : State) (hF : within 85332475584599 F = true) (h : Fr F v s) :
    FrOut F v (execFeedStale s) := by
  unfold execFeedStale
  repeat' (first
    | with_reducible assumption
    | exact within_trans hF rfl
    | exact bit_within hF rfl
    | with_reducible apply frOut_next
    | with_reducible intro _
    | with_reducible apply fr_ite
    | with_reducible apply State.disarm_fr
    | with_reducible apply State.onTimer_fr
    | with_reducible apply State.faultRow_fr
    | with_reducible apply State.settleGains_fr
    | with_reducible apply State.startDroop_fr
    | split
    | dsimp only
    | (with_reducible apply fr_feed; exact bit_within hF rfl
       first
         | with_reducible assumption
         | with_reducible apply fr_ite
         | with_reducible apply State.disarm_fr
         | with_reducible apply State.onTimer_fr
         | with_reducible apply State.faultRow_fr
         | with_reducible apply State.settleGains_fr
         | with_reducible apply State.startDroop_fr
         | split))

theorem execLaneThermalRestart_fr (lane : Fin 4) (s : State) (hF : within 4398046511111 F = true) (h : Fr F v s) :
    FrOut F v (execLaneThermalRestart lane s) := by
  unfold execLaneThermalRestart
  repeat' (first
    | with_reducible assumption
    | exact within_trans hF rfl
    | exact bit_within hF rfl
    | with_reducible apply frOut_next
    | with_reducible intro _
    | with_reducible apply fr_ite
    | with_reducible apply State.onTimer_fr
    | with_reducible apply State.setLane_fr
    | with_reducible apply State.laneReleased_fr
    | split
    | dsimp only)

theorem execDieTrip_fr (s : State) (hF : within 76536382562518 F = true) (h : Fr F v s) :
    FrOut F v (execDieTrip s) := by
  unfold execDieTrip
  repeat' (first
    | with_reducible assumption
    | exact within_trans hF rfl
    | exact bit_within hF rfl
    | with_reducible apply frOut_next
    | with_reducible intro _
    | with_reducible apply fr_ite
    | with_reducible apply State.when_fr
    | with_reducible apply State.faultRow_fr
    | with_reducible apply State.hardMute_fr
    | with_reducible apply State.setLane_fr
    | with_reducible apply State.stopLane_fr
    | with_reducible apply State.settleGains_fr
    | with_reducible apply fr_foldl
    | split
    | dsimp only
    | (with_reducible apply fr_pins; exact bit_within hF rfl; with_reducible apply fr_pins_paEn; exact bit_within hF rfl; with_reducible apply fr_pa; exact bit_within hF rfl
       first
         | with_reducible assumption
         | with_reducible apply fr_ite
         | with_reducible apply State.when_fr
         | with_reducible apply State.faultRow_fr
         | with_reducible apply State.hardMute_fr
         | with_reducible apply State.setLane_fr
         | with_reducible apply State.stopLane_fr
         | with_reducible apply State.settleGains_fr
         | with_reducible apply fr_foldl
         | split))

theorem execDieTripClear_fr (s : State) (hF : within 4398046511108 F = true) (h : Fr F v s) :
    FrOut F v (execDieTripClear s) := by
  unfold execDieTripClear
  repeat' (first
    | with_reducible assumption
    | exact within_trans hF rfl
    | exact bit_within hF rfl
    | with_reducible apply frOut_next
    | with_reducible intro _
    | with_reducible apply fr_ite
    | with_reducible apply State.when_fr
    | with_reducible apply State.setLane_fr
    | with_reducible apply State.laneReleased_fr
    | with_reducible apply fr_foldl
    | split
    | dsimp only
    | (with_reducible apply fr_pa; exact bit_within hF rfl
       first
         | with_reducible assumption
         | with_reducible apply fr_ite
         | with_reducible apply State.when_fr
         | with_reducible apply State.setLane_fr
         | with_reducible apply State.laneReleased_fr
         | with_reducible apply fr_foldl
         | split))

theorem execSealNLow_fr (s : State) (hF : within 4398105231574 F = true) (h : Fr F v s) :
    FrOut F v (execSealNLow s) := by
  unfold execSealNLow
  repeat' (first
    | with_reducible assumption
    | exact within_trans hF rfl
    | exact bit_within hF rfl
    | with_reducible apply frOut_next
    | with_reducible intro _
    | with_reducible apply fr_ite
    | with_reducible apply State.disarm_fr
    | with_reducible apply State.arm_fr
    | with_reducible apply State.when_fr
    | with_reducible apply State.flag_fr
    | split
    | dsimp only
    | (with_reducible apply fr_pins; exact bit_within hF rfl; with_reducible apply fr_pins_paEn; exact bit_within hF rfl; with_reducible apply fr_pins_rfMuteN; exact bit_within hF rfl; with_reducible apply fr_pa; exact bit_within hF rfl
       first
         | with_reducible assumption
         | with_reducible apply fr_ite
         | with_reducible apply State.disarm_fr
         | with_reducible apply State.arm_fr
         | with_reducible apply State.when_fr
         | with_reducible apply State.flag_fr
         | split))

theorem execSealLanesSealed_fr (s : State) (hF : within 252458243010262 F = true) (h : Fr F v s) :
    FrOut F v (execSealLanesSealed s) := by
  unfold execSealLanesSealed
  repeat' (first
    | with_reducible assumption
    | exact within_trans hF rfl
    | exact bit_within hF rfl
    | with_reducible apply frOut_next
    | with_reducible intro _
    | with_reducible apply fr_ite
    | with_reducible apply State.when_fr
    | with_reducible apply State.postLog_fr
    | with_reducible apply State.mutePaths_fr
    | with_reducible apply State.stopLane_fr
    | with_reducible apply State.settleGains_fr
    | with_reducible apply State.demoteIfDue_fr
    | with_reducible apply fr_foldl
    | split
    | dsimp only)

theorem State.unseal_fr (s : State) (hF : within 4398046511108 F = true) (h : Fr F v s) :
    Fr F v (State.unseal s) := by
  unfold State.unseal
  repeat' (first
    | with_reducible assumption
    | exact within_trans hF rfl
    | exact bit_within hF rfl
    | with_reducible intro _
    | with_reducible apply fr_ite
    | with_reducible apply State.set_fr
    | with_reducible apply fr_foldl
    | split
    | dsimp only
    | (with_reducible apply fr_pa; exact bit_within hF rfl
       first
         | with_reducible assumption
         | with_reducible apply fr_ite
         | with_reducible apply State.set_fr
         | with_reducible apply fr_foldl
         | split))

theorem execSealClearTimer_fr (s : State) (hF : within 4398046511127 F = true) (h : Fr F v s) :
    FrOut F v (execSealClearTimer s) := by
  unfold execSealClearTimer
  repeat' (first
    | with_reducible assumption
    | exact within_trans hF rfl
    | exact bit_within hF rfl
    | with_reducible apply frOut_next
    | with_reducible intro _
    | with_reducible apply fr_ite
    | with_reducible apply State.onTimer_fr
    | with_reducible apply State.unseal_fr
    | split
    | dsimp only
    | (with_reducible apply fr_pins; exact bit_within hF rfl
       first
         | with_reducible assumption
         | with_reducible apply fr_ite
         | with_reducible apply State.onTimer_fr
         | with_reducible apply State.unseal_fr
         | split))

end Sys2Proof.Machine
end

