-- ==== Sys2Proof/Laws/FrameLid.lean ====
section
/-!
SUPPORT. The frames of the functions of Sys2Proof/Machine/Lid.lean, one lemma for each of them (Laws/Frame.lean).
-/

namespace Sys2Proof.Machine

set_option linter.unusedTactic false
set_option linter.unreachableTactic false
set_option linter.unusedVariables false

open Sys2Proof

variable {F : Nat} {v : State}

theorem State.touchRecord_fr (s : State) (dur state effect : Nat) (hF : within 50331654 F = true) (h : Fr F v s) :
    Fr F v (State.touchRecord s dur state effect) := by
  unfold State.touchRecord
  repeat' (first
    | with_reducible assumption
    | exact within_trans hF rfl
    | exact bit_within hF rfl
    | with_reducible intro _
    | with_reducible apply fr_ite
    | with_reducible apply State.log_fr
    | split
    | dsimp only)

theorem State.actTouch_fr (s : State) (dur state held : Nat) (hF : within 1185474227350 F = true) (h : Fr F v s) :
    Fr F v (State.actTouch s dur state held) := by
  unfold State.actTouch
  repeat' (first
    | with_reducible assumption
    | exact within_trans hF rfl
    | exact bit_within hF rfl
    | with_reducible intro _
    | with_reducible apply fr_ite
    | with_reducible apply State.arm_fr
    | with_reducible apply State.log_fr
    | with_reducible apply State.flag_fr
    | with_reducible apply State.wakeStart_fr
    | with_reducible apply State.endLockout_fr
    | with_reducible apply State.towardsService_fr
    | with_reducible apply State.touchRecord_fr
    | split
    | dsimp only)

theorem State.validTouch_fr (s : State) (dur : Nat) (hF : within 71554218405014 F = true) (h : Fr F v s) :
    Fr F v (State.validTouch s dur) := by
  unfold State.validTouch
  repeat' (first
    | with_reducible assumption
    | exact within_trans hF rfl
    | exact bit_within hF rfl
    | with_reducible intro _
    | with_reducible apply fr_ite
    | with_reducible apply State.bump_fr
    | with_reducible apply State.actTouch_fr
    | split
    | dsimp only
    | (with_reducible apply fr_lid; exact bit_within hF rfl
       first
         | with_reducible assumption
         | with_reducible apply fr_ite
         | with_reducible apply State.bump_fr
         | with_reducible apply State.actTouch_fr
         | split))

theorem State.heldTouchActs_fr (s : State) (hF : within 71554218405014 F = true) (h : Fr F v s) :
    Fr F v (State.heldTouchActs s) := by
  unfold State.heldTouchActs
  repeat' (first
    | with_reducible assumption
    | exact within_trans hF rfl
    | exact bit_within hF rfl
    | with_reducible intro _
    | with_reducible apply fr_ite
    | with_reducible apply State.actTouch_fr
    | split
    | dsimp only
    | (with_reducible apply fr_lid; exact bit_within hF rfl
       first
         | with_reducible assumption
         | with_reducible apply fr_ite
         | with_reducible apply State.actTouch_fr
         | split))

theorem State.lidTimers_fr (s : State) (hF : within 2 F = true) (h : Fr F v s) :
    Fr F v (State.lidTimers s) := by
  unfold State.lidTimers
  repeat' (first
    | with_reducible assumption
    | exact within_trans hF rfl
    | exact bit_within hF rfl
    | with_reducible intro _
    | with_reducible apply fr_ite
    | with_reducible apply State.arm_fr
    | split
    | dsimp only)

theorem State.lidIdle_fr (s : State) (hF : within 70368744177670 F = true) (h : Fr F v s) :
    Fr F v (State.lidIdle s) := by
  unfold State.lidIdle
  repeat' (first
    | with_reducible assumption
    | exact within_trans hF rfl
    | exact bit_within hF rfl
    | with_reducible intro _
    | with_reducible apply fr_ite
    | with_reducible apply State.lidEnter_fr
    | with_reducible apply State.lidTimers_fr
    | split
    | dsimp only)

theorem State.lidCovered_fr (s : State) (hF : within 70368802897926 F = true) (h : Fr F v s) :
    Fr F v (State.lidCovered s) := by
  unfold State.lidCovered
  repeat' (first
    | with_reducible assumption
    | exact within_trans hF rfl
    | exact bit_within hF rfl
    | with_reducible intro _
    | with_reducible apply fr_ite
    | with_reducible apply State.faultRow_fr
    | with_reducible apply State.lidEnter_fr
    | with_reducible apply State.lidTimers_fr
    | split
    | dsimp only
    | (with_reducible apply fr_lid; exact bit_within hF rfl
       first
         | with_reducible assumption
         | with_reducible apply fr_ite
         | with_reducible apply State.faultRow_fr
         | with_reducible apply State.lidEnter_fr
         | with_reducible apply State.lidTimers_fr
         | split))

theorem State.countCovered_fr (s : State) (hF : within 70368744177668 F = true) (h : Fr F v s) :
    Fr F v (State.countCovered s) := by
  unfold State.countCovered
  repeat' (first
    | with_reducible assumption
    | exact within_trans hF rfl
    | exact bit_within hF rfl
    | with_reducible intro _
    | with_reducible apply fr_ite
    | with_reducible apply State.bump_fr
    | split
    | dsimp only
    | (with_reducible apply fr_lid; exact bit_within hF rfl
       first
         | with_reducible assumption
         | with_reducible apply fr_ite
         | with_reducible apply State.bump_fr
         | split))

theorem State.lidUncovered_fr (s : State) (hF : within 70368794509318 F = true) (h : Fr F v s) :
    Fr F v (State.lidUncovered s) := by
  unfold State.lidUncovered
  repeat' (first
    | with_reducible assumption
    | exact within_trans hF rfl
    | exact bit_within hF rfl
    | with_reducible intro _
    | with_reducible apply fr_ite
    | with_reducible apply State.log_fr
    | with_reducible apply State.lidRetakeNow_fr
    | with_reducible apply State.countCovered_fr
    | split
    | dsimp only)

theorem State.lidSum_fr (s : State) (r : Nat) (hF : within 70368744177664 F = true) (h : Fr F v s) :
    Fr F v (State.lidSum s r) := by
  unfold State.lidSum
  repeat' (first
    | with_reducible assumption
    | exact within_trans hF rfl
    | exact bit_within hF rfl
    | with_reducible intro _
    | with_reducible apply fr_ite
    | split
    | dsimp only
    | (with_reducible apply fr_lid; exact bit_within hF rfl
       first
         | with_reducible assumption
         | with_reducible apply fr_ite
         | split))

theorem State.lidHeldDown_fr (s : State) (hF : within 70368802897926 F = true) (h : Fr F v s) :
    Fr F v (State.lidHeldDown s) := by
  unfold State.lidHeldDown
  repeat' (first
    | with_reducible assumption
    | exact within_trans hF rfl
    | exact bit_within hF rfl
    | with_reducible intro _
    | with_reducible apply fr_ite
    | with_reducible apply State.lidCovered_fr
    | split
    | dsimp only
    | (with_reducible apply fr_lid; exact bit_within hF rfl
       first
         | with_reducible assumption
         | with_reducible apply fr_ite
         | with_reducible apply State.lidCovered_fr
         | split))

theorem State.lidReleased_fr (s : State) (hF : within 71554218405014 F = true) (h : Fr F v s) :
    Fr F v (State.lidReleased s) := by
  unfold State.lidReleased
  repeat' (first
    | with_reducible assumption
    | exact within_trans hF rfl
    | exact bit_within hF rfl
    | with_reducible intro _
    | with_reducible apply fr_ite
    | with_reducible apply State.validTouch_fr
    | with_reducible apply State.lidIdle_fr
    | with_reducible apply State.lidUncovered_fr
    | split
    | dsimp only)

theorem State.lidPresent_fr (s : State) (delta : Int) (hF : within 71554218405014 F = true) (h : Fr F v s) :
    Fr F v (State.lidPresent s delta) := by
  unfold State.lidPresent
  repeat' (first
    | with_reducible assumption
    | exact within_trans hF rfl
    | exact bit_within hF rfl
    | with_reducible intro _
    | with_reducible apply fr_ite
    | with_reducible apply State.lidHeldDown_fr
    | with_reducible apply State.lidReleased_fr
    | split
    | dsimp only
    | (with_reducible apply fr_lid; exact bit_within hF rfl
       first
         | with_reducible assumption
         | with_reducible apply fr_ite
         | with_reducible apply State.lidHeldDown_fr
         | with_reducible apply State.lidReleased_fr
         | split))

theorem State.lidIdleSample_fr (s : State) (r : Nat) (delta : Int) (hF : within 70368744177670 F = true) (h : Fr F v s) :
    Fr F v (State.lidIdleSample s r delta) := by
  unfold State.lidIdleSample
  repeat' (first
    | with_reducible assumption
    | exact within_trans hF rfl
    | exact bit_within hF rfl
    | with_reducible intro _
    | with_reducible apply fr_ite
    | with_reducible apply State.arm_fr
    | with_reducible apply State.lidEnter_fr
    | with_reducible apply State.lidRetakeNow_fr
    | with_reducible apply State.lidSum_fr
    | split
    | dsimp only
    | (with_reducible apply fr_lid; exact bit_within hF rfl
       first
         | with_reducible assumption
         | with_reducible apply fr_ite
         | with_reducible apply State.arm_fr
         | with_reducible apply State.lidEnter_fr
         | with_reducible apply State.lidRetakeNow_fr
         | with_reducible apply State.lidSum_fr
         | split))

theorem State.lidJudge_fr (s : State) (r : Nat) (hF : within 71554218405014 F = true) (h : Fr F v s) :
    Fr F v (State.lidJudge s r) := by
  unfold State.lidJudge
  repeat' (first
    | with_reducible assumption
    | exact within_trans hF rfl
    | exact bit_within hF rfl
    | with_reducible intro _
    | with_reducible apply fr_ite
    | with_reducible apply State.countCovered_fr
    | with_reducible apply State.lidSum_fr
    | with_reducible apply State.lidPresent_fr
    | with_reducible apply State.lidIdleSample_fr
    | split
    | dsimp only)

theorem State.lidRange_fr (s : State) (r : Nat) (hF : within 70368744177666 F = true) (h : Fr F v s) :
    Fr F v (State.lidRange s r) := by
  unfold State.lidRange
  repeat' (first
    | with_reducible assumption
    | exact within_trans hF rfl
    | exact bit_within hF rfl
    | with_reducible intro _
    | with_reducible apply fr_ite
    | with_reducible apply State.disarm_fr
    | with_reducible apply State.arm_fr
    | split
    | dsimp only
    | (with_reducible apply fr_lid; exact bit_within hF rfl
       first
         | with_reducible assumption
         | with_reducible apply fr_ite
         | with_reducible apply State.disarm_fr
         | with_reducible apply State.arm_fr
         | split))

theorem execLidSample_fr (reading : BitVec 32) (s : State) (hF : within 71554218405015 F = true) (h : Fr F v s) :
    FrOut F v (execLidSample reading s) := by
  unfold execLidSample
  repeat' (first
    | with_reducible assumption
    | exact within_trans hF rfl
    | exact bit_within hF rfl
    | with_reducible apply frOut_next
    | with_reducible intro _
    | with_reducible apply fr_ite
    | with_reducible apply State.set_fr
    | with_reducible apply State.elapse_fr
    | with_reducible apply State.when_fr
    | with_reducible apply State.heldTouchActs_fr
    | with_reducible apply State.lidTimers_fr
    | with_reducible apply State.lidJudge_fr
    | with_reducible apply State.lidRange_fr
    | split
    | dsimp only
    | (with_reducible apply fr_lid; exact bit_within hF rfl
       first
         | with_reducible assumption
         | with_reducible apply fr_ite
         | with_reducible apply State.set_fr
         | with_reducible apply State.elapse_fr
         | with_reducible apply State.when_fr
         | with_reducible apply State.heldTouchActs_fr
         | with_reducible apply State.lidTimers_fr
         | with_reducible apply State.lidJudge_fr
         | with_reducible apply State.lidRange_fr
         | split))

theorem execLidCover_fr (s : State) (hF : within 70368802897927 F = true) (h : Fr F v s) :
    FrOut F v (execLidCover s) := by
  unfold execLidCover
  repeat' (first
    | with_reducible assumption
    | exact within_trans hF rfl
    | exact bit_within hF rfl
    | with_reducible apply frOut_next
    | with_reducible intro _
    | with_reducible apply fr_ite
    | with_reducible apply State.onTimer_fr
    | with_reducible apply State.lidCovered_fr
    | split
    | dsimp only)

theorem execLidTrack_fr (s : State) (hF : within 70368744177671 F = true) (h : Fr F v s) :
    FrOut F v (execLidTrack s) := by
  unfold execLidTrack
  repeat' (first
    | with_reducible assumption
    | exact within_trans hF rfl
    | exact bit_within hF rfl
    | with_reducible apply frOut_next
    | with_reducible intro _
    | with_reducible apply fr_ite
    | with_reducible apply State.set_fr
    | with_reducible apply State.onTimer_fr
    | with_reducible apply State.lidTimers_fr
    | split
    | dsimp only
    | (with_reducible apply fr_lid; exact bit_within hF rfl
       first
         | with_reducible assumption
         | with_reducible apply fr_ite
         | with_reducible apply State.set_fr
         | with_reducible apply State.onTimer_fr
         | with_reducible apply State.lidTimers_fr
         | split))

theorem execLidRetakeDone_fr (s : State) (hF : within 70368744177670 F = true) (h : Fr F v s) :
    FrOut F v (execLidRetakeDone s) := by
  unfold execLidRetakeDone
  repeat' (first
    | with_reducible assumption
    | exact within_trans hF rfl
    | exact bit_within hF rfl
    | with_reducible apply frOut_next
    | with_reducible intro _
    | with_reducible apply fr_ite
    | with_reducible apply State.set_fr
    | with_reducible apply State.when_fr
    | with_reducible apply State.lidIdle_fr
    | split
    | dsimp only)

theorem execLidBaselineStore_fr (s : State) (hF : within 7 F = true) (h : Fr F v s) :
    FrOut F v (execLidBaselineStore s) := by
  unfold execLidBaselineStore
  repeat' (first
    | with_reducible assumption
    | exact within_trans hF rfl
    | exact bit_within hF rfl
    | with_reducible apply frOut_next
    | with_reducible intro _
    | with_reducible apply fr_ite
    | with_reducible apply State.set_fr
    | with_reducible apply State.onTimer_fr
    | with_reducible apply State.lidTimers_fr
    | split
    | dsimp only)

theorem execLidStartCheck_fr (s : State) (hF : within 70368802897926 F = true) (h : Fr F v s) :
    FrOut F v (execLidStartCheck s) := by
  unfold execLidStartCheck
  repeat' (first
    | with_reducible assumption
    | exact within_trans hF rfl
    | exact bit_within hF rfl
    | with_reducible apply frOut_next
    | with_reducible intro _
    | with_reducible apply fr_ite
    | with_reducible apply State.set_fr
    | with_reducible apply State.when_fr
    | with_reducible apply State.faultRow_fr
    | with_reducible apply State.lidRetakeNow_fr
    | with_reducible apply State.lidIdle_fr
    | with_reducible apply State.lidCovered_fr
    | split
    | dsimp only
    | (with_reducible apply fr_lid; exact bit_within hF rfl
       first
         | with_reducible assumption
         | with_reducible apply fr_ite
         | with_reducible apply State.set_fr
         | with_reducible apply State.when_fr
         | with_reducible apply State.faultRow_fr
         | with_reducible apply State.lidRetakeNow_fr
         | with_reducible apply State.lidIdle_fr
         | with_reducible apply State.lidCovered_fr
         | split))

theorem execLidFault_fr (s : State) (hF : within 70368802897926 F = true) (h : Fr F v s) :
    FrOut F v (execLidFault s) := by
  unfold execLidFault
  repeat' (first
    | with_reducible assumption
    | exact within_trans hF rfl
    | exact bit_within hF rfl
    | with_reducible apply frOut_next
    | with_reducible intro _
    | with_reducible apply fr_ite
    | with_reducible apply State.when_fr
    | with_reducible apply State.faultRow_fr
    | with_reducible apply State.lidEnter_fr
    | split
    | dsimp only
    | (with_reducible apply fr_lid; exact bit_within hF rfl
       first
         | with_reducible assumption
         | with_reducible apply fr_ite
         | with_reducible apply State.when_fr
         | with_reducible apply State.faultRow_fr
         | with_reducible apply State.lidEnter_fr
         | split))

theorem execLidFaultResume_fr (s : State) (hF : within 70368744177671 F = true) (h : Fr F v s) :
    FrOut F v (execLidFaultResume s) := by
  unfold execLidFaultResume
  repeat' (first
    | with_reducible assumption
    | exact within_trans hF rfl
    | exact bit_within hF rfl
    | with_reducible apply frOut_next
    | with_reducible intro _
    | with_reducible apply fr_ite
    | with_reducible apply State.onTimer_fr
    | with_reducible apply State.lidRetakeNow_fr
    | split
    | dsimp only)

end Sys2Proof.Machine
end

