-- ==== Sys2Proof/Laws/FramePower.lean ====
section
/-!
SUPPORT. The frames of the functions of Sys2Proof/Machine/Power.lean, one lemma for each of them (Laws/Frame.lean).
-/

namespace Sys2Proof.Machine

set_option linter.unusedTactic false
set_option linter.unreachableTactic false
set_option linter.unusedVariables false

open Sys2Proof

variable {F : Nat} {v : State}

theorem State.powerLoss_fr (s : State) (hF : within 562949953421311 F = true) (h : Fr F v s) : Fr F v s.powerLoss := by
  have hm : ∀ i, i < 49 → F.testBit i = true := fun i hi => bit_within hF (by revert i; decide)
  unfold Fr FrF
  simp [hm]

theorem execBrownOut_fr (s : State) (hF : within 562949953421311 F = true) (h : Fr F v s) :
    FrOut F v (execBrownOut s) := by
  unfold execBrownOut
  repeat' (first
    | with_reducible assumption
    | exact within_trans hF rfl
    | exact bit_within hF rfl
    | with_reducible apply frOut_next
    | with_reducible intro _
    | with_reducible apply fr_ite
    | with_reducible apply State.when_fr
    | with_reducible apply State.powerLoss_fr
    | split
    | dsimp only)

theorem State.powerOnChecks_fr (s : State) (hF : within 58720262 F = true) (h : Fr F v s) :
    Fr F v (State.powerOnChecks s) := by
  unfold State.powerOnChecks
  repeat' (first
    | with_reducible assumption
    | exact within_trans hF rfl
    | exact bit_within hF rfl
    | with_reducible intro _
    | with_reducible apply fr_ite
    | with_reducible apply State.set_fr
    | with_reducible apply State.faultRow_fr
    | split
    | dsimp only)

theorem State.powerOnTimers_fr (s : State) (hF : within 70368744177670 F = true) (h : Fr F v s) :
    Fr F v (State.powerOnTimers s) := by
  unfold State.powerOnTimers
  repeat' (first
    | with_reducible assumption
    | exact within_trans hF rfl
    | exact bit_within hF rfl
    | with_reducible intro _
    | with_reducible apply fr_ite
    | with_reducible apply State.set_fr
    | with_reducible apply State.arm_fr
    | split
    | dsimp only
    | (with_reducible apply fr_lid; exact bit_within hF rfl
       first
         | with_reducible assumption
         | with_reducible apply fr_ite
         | with_reducible apply State.set_fr
         | with_reducible apply State.arm_fr
         | split))

theorem State.sampleTmode_fr (s : State) (hF : within 281474976710672 F = true) (h : Fr F v s) :
    Fr F v (State.sampleTmode s) := by
  unfold State.sampleTmode
  repeat' (first
    | with_reducible assumption
    | exact within_trans hF rfl
    | exact bit_within hF rfl
    | with_reducible intro _
    | with_reducible apply fr_ite
    | with_reducible apply fr_ite_snd
    | with_reducible apply State.draw_fr
    | split
    | dsimp only
    | (with_reducible apply fr_pins; exact bit_within hF rfl
       first
         | with_reducible assumption
         | with_reducible apply fr_ite
         | with_reducible apply fr_ite_snd
         | with_reducible apply State.draw_fr
         | split))

theorem execVddAonRise_fr (s : State) (hF : within 351843779612054 F = true) (h : Fr F v s) :
    FrOut F v (execVddAonRise s) := by
  unfold execVddAonRise
  repeat' (first
    | with_reducible assumption
    | exact within_trans hF rfl
    | exact bit_within hF rfl
    | with_reducible apply frOut_next
    | with_reducible intro _
    | with_reducible apply fr_ite
    | with_reducible apply State.set_fr
    | with_reducible apply State.when_fr
    | with_reducible apply State.enterState_fr
    | with_reducible apply State.powerOnChecks_fr
    | with_reducible apply State.powerOnTimers_fr
    | with_reducible apply State.sampleTmode_fr
    | split
    | dsimp only
    | (with_reducible apply fr_pins; exact bit_within hF rfl; with_reducible apply fr_pins_rfMuteN; exact bit_within hF rfl; with_reducible apply fr_pins_pfwN; exact bit_within hF rfl; with_reducible apply fr_cask; exact bit_within hF rfl
       first
         | with_reducible assumption
         | with_reducible apply fr_ite
         | with_reducible apply State.set_fr
         | with_reducible apply State.when_fr
         | with_reducible apply State.enterState_fr
         | with_reducible apply State.powerOnChecks_fr
         | with_reducible apply State.powerOnTimers_fr
         | with_reducible apply State.sampleTmode_fr
         | split))

theorem execVddioALevelSelect_fr (above25 : Bool) (s : State) (hF : within 16 F = true) (h : Fr F v s) :
    FrOut F v (execVddioALevelSelect above25 s) := by
  unfold execVddioALevelSelect
  repeat' (first
    | with_reducible assumption
    | exact within_trans hF rfl
    | exact bit_within hF rfl
    | with_reducible apply frOut_next
    | with_reducible intro _
    | with_reducible apply fr_ite
    | with_reducible apply State.when_fr
    | split
    | dsimp only
    | (with_reducible apply fr_pins; exact bit_within hF rfl
       first
         | with_reducible assumption
         | with_reducible apply fr_ite
         | with_reducible apply State.when_fr
         | split))

theorem State.cutTransaction_fr (s : State) (hF : within 58720262 F = true) (h : Fr F v s) :
    Fr F v (State.cutTransaction s) := by
  unfold State.cutTransaction
  repeat' (first
    | with_reducible assumption
    | exact within_trans hF rfl
    | exact bit_within hF rfl
    | with_reducible intro _
    | with_reducible apply fr_ite
    | with_reducible apply State.hostFlag_fr
    | split
    | dsimp only
    | (with_reducible apply fr_hp; exact bit_within hF rfl
       first
         | with_reducible assumption
         | with_reducible apply fr_ite
         | with_reducible apply State.hostFlag_fr
         | split))

theorem execHostCellSupplySwitch_fr (w : CellSwitch) (s : State) (hF : within 58720278 F = true) (h : Fr F v s) :
    FrOut F v (execHostCellSupplySwitch w s) := by
  unfold execHostCellSupplySwitch
  repeat' (first
    | with_reducible assumption
    | exact within_trans hF rfl
    | exact bit_within hF rfl
    | with_reducible apply frOut_next
    | with_reducible intro _
    | with_reducible apply fr_ite
    | with_reducible apply State.when_fr
    | with_reducible apply State.cutTransaction_fr
    | split
    | dsimp only
    | (with_reducible apply fr_pins; exact bit_within hF rfl
       first
         | with_reducible assumption
         | with_reducible apply fr_ite
         | with_reducible apply State.when_fr
         | with_reducible apply State.cutTransaction_fr
         | split))

theorem execRstNLow_fr (s : State) (hF : within 562933041852406 F = true) (h : Fr F v s) :
    FrOut F v (execRstNLow s) := by
  unfold execRstNLow
  repeat' (first
    | with_reducible assumption
    | exact within_trans hF rfl
    | exact bit_within hF rfl
    | with_reducible apply frOut_next
    | with_reducible intro _
    | with_reducible apply fr_ite
    | with_reducible apply State.when_fr
    | with_reducible apply State.rstInDormant_fr
    | with_reducible apply State.restart_fr
    | split
    | dsimp only
    | (with_reducible apply fr_power; exact bit_within hF rfl
       first
         | with_reducible assumption
         | with_reducible apply fr_ite
         | with_reducible apply State.when_fr
         | with_reducible apply State.rstInDormant_fr
         | with_reducible apply State.restart_fr
         | split))

theorem execPowerOnAutostart_fr (s : State) (hF : within 17179870214 F = true) (h : Fr F v s) :
    FrOut F v (execPowerOnAutostart s) := by
  unfold execPowerOnAutostart
  repeat' (first
    | with_reducible assumption
    | exact within_trans hF rfl
    | exact bit_within hF rfl
    | with_reducible apply frOut_next
    | with_reducible intro _
    | with_reducible apply fr_ite
    | with_reducible apply State.when_fr
    | with_reducible apply State.beginStart_fr
    | split
    | dsimp only)

theorem execHoldupRestartDelayExpiry_fr (s : State) (hF : within 17179870215 F = true) (h : Fr F v s) :
    FrOut F v (execHoldupRestartDelayExpiry s) := by
  unfold execHoldupRestartDelayExpiry
  repeat' (first
    | with_reducible assumption
    | exact within_trans hF rfl
    | exact bit_within hF rfl
    | with_reducible apply frOut_next
    | with_reducible intro _
    | with_reducible apply fr_ite
    | with_reducible apply State.onTimer_fr
    | with_reducible apply State.beginStart_fr
    | split
    | dsimp only)

theorem execRestartDelayExpiry_fr (s : State) (hF : within 17179870215 F = true) (h : Fr F v s) :
    FrOut F v (execRestartDelayExpiry s) := by
  unfold execRestartDelayExpiry
  repeat' (first
    | with_reducible assumption
    | exact within_trans hF rfl
    | exact bit_within hF rfl
    | with_reducible apply frOut_next
    | with_reducible intro _
    | with_reducible apply fr_ite
    | with_reducible apply State.onTimer_fr
    | with_reducible apply State.wakeStart_fr
    | split
    | dsimp only)

theorem execWakeTimerExpiry_fr (s : State) (hF : within 17179870215 F = true) (h : Fr F v s) :
    FrOut F v (execWakeTimerExpiry s) := by
  unfold execWakeTimerExpiry
  repeat' (first
    | with_reducible assumption
    | exact within_trans hF rfl
    | exact bit_within hF rfl
    | with_reducible apply frOut_next
    | with_reducible intro _
    | with_reducible apply fr_ite
    | with_reducible apply State.onTimer_fr
    | with_reducible apply State.beginStart_fr
    | split
    | dsimp only)

theorem execFieldPortWake_fr (p : Port) (s : State) (hF : within 17179870214 F = true) (h : Fr F v s) :
    FrOut F v (execFieldPortWake p s) := by
  unfold execFieldPortWake
  repeat' (first
    | with_reducible assumption
    | exact within_trans hF rfl
    | exact bit_within hF rfl
    | with_reducible apply frOut_next
    | with_reducible intro _
    | with_reducible apply fr_ite
    | with_reducible apply State.when_fr
    | with_reducible apply State.beginStart_fr
    | split
    | dsimp only)

theorem execServiceTimeout_fr (s : State) (hF : within 562933041852407 F = true) (h : Fr F v s) :
    FrOut F v (execServiceTimeout s) := by
  unfold execServiceTimeout
  repeat' (first
    | with_reducible assumption
    | exact within_trans hF rfl
    | exact bit_within hF rfl
    | with_reducible apply frOut_next
    | with_reducible intro _
    | with_reducible apply fr_ite
    | with_reducible apply State.onTimer_fr
    | with_reducible apply State.when_fr
    | with_reducible apply State.serviceOver_fr
    | split
    | dsimp only)

theorem execHoldupComplete_fr (s : State) (hF : within 211054759849686 F = true) (h : Fr F v s) :
    FrOut F v (execHoldupComplete s) := by
  unfold execHoldupComplete
  repeat' (first
    | with_reducible assumption
    | exact within_trans hF rfl
    | exact bit_within hF rfl
    | with_reducible apply frOut_next
    | with_reducible intro _
    | with_reducible apply fr_ite
    | with_reducible apply State.set_fr
    | with_reducible apply State.arm_fr
    | with_reducible apply State.when_fr
    | with_reducible apply State.enterDormant_fr
    | with_reducible apply State.actHeldRst_fr
    | split
    | dsimp only
    | (with_reducible apply fr_rail; exact bit_within hF rfl
       first
         | with_reducible assumption
         | with_reducible apply fr_ite
         | with_reducible apply State.set_fr
         | with_reducible apply State.arm_fr
         | with_reducible apply State.when_fr
         | with_reducible apply State.enterDormant_fr
         | with_reducible apply State.actHeldRst_fr
         | split))

theorem execRefInFirstPresent_fr (s : State) (hF : within 35734132098054 F = true) (h : Fr F v s) :
    FrOut F v (execRefInFirstPresent s) := by
  unfold execRefInFirstPresent
  repeat' (first
    | with_reducible assumption
    | exact within_trans hF rfl
    | exact bit_within hF rfl
    | with_reducible apply frOut_next
    | with_reducible intro _
    | with_reducible apply fr_ite
    | with_reducible apply State.set_fr
    | with_reducible apply State.when_fr
    | with_reducible apply State.warmRefBack_fr
    | with_reducible apply State.beginRelock_fr
    | split
    | dsimp only
    | (with_reducible apply fr_power; exact bit_within hF rfl
       first
         | with_reducible assumption
         | with_reducible apply fr_ite
         | with_reducible apply State.set_fr
         | with_reducible apply State.when_fr
         | with_reducible apply State.warmRefBack_fr
         | with_reducible apply State.beginRelock_fr
         | split))

theorem execRefInReturn_fr (s : State) (hF : within 35734182429702 F = true) (h : Fr F v s) :
    FrOut F v (execRefInReturn s) := by
  unfold execRefInReturn
  repeat' (first
    | with_reducible assumption
    | exact within_trans hF rfl
    | exact bit_within hF rfl
    | with_reducible apply frOut_next
    | with_reducible intro _
    | with_reducible apply fr_ite
    | with_reducible apply State.set_fr
    | with_reducible apply State.disarm_fr
    | with_reducible apply State.when_fr
    | with_reducible apply State.log_fr
    | with_reducible apply State.warmRefBack_fr
    | with_reducible apply State.beginRelock_fr
    | split
    | dsimp only
    | (with_reducible apply fr_power; exact bit_within hF rfl
       first
         | with_reducible assumption
         | with_reducible apply fr_ite
         | with_reducible apply State.set_fr
         | with_reducible apply State.disarm_fr
         | with_reducible apply State.when_fr
         | with_reducible apply State.log_fr
         | with_reducible apply State.warmRefBack_fr
         | with_reducible apply State.beginRelock_fr
         | split))

theorem execLockDeclared_fr (window1 window2 : Nat) (s : State) (hF : within 1026 F = true) (h : Fr F v s) :
    FrOut F v (execLockDeclared window1 window2 s) := by
  unfold execLockDeclared
  repeat' (first
    | with_reducible assumption
    | exact within_trans hF rfl
    | exact bit_within hF rfl
    | with_reducible apply frOut_next
    | with_reducible intro _
    | with_reducible apply fr_ite
    | with_reducible apply State.disarm_fr
    | with_reducible apply State.when_fr
    | split
    | dsimp only
    | (with_reducible apply fr_power; exact bit_within hF rfl
       first
         | with_reducible assumption
         | with_reducible apply fr_ite
         | with_reducible apply State.disarm_fr
         | with_reducible apply State.when_fr
         | split))

theorem execClockMuxToPll_fr (s : State) (hF : within 549821164566 F = true) (h : Fr F v s) :
    FrOut F v (execClockMuxToPll s) := by
  unfold execClockMuxToPll
  repeat' (first
    | with_reducible assumption
    | exact within_trans hF rfl
    | exact bit_within hF rfl
    | with_reducible apply frOut_next
    | with_reducible intro _
    | with_reducible apply fr_ite
    | with_reducible apply State.set_fr
    | with_reducible apply State.bump_fr
    | with_reducible apply State.when_fr
    | with_reducible apply State.resumeSeq_fr
    | with_reducible apply State.leaveRestricted_fr
    | with_reducible apply State.enterState_fr
    | with_reducible apply State.endServiceSessions_fr
    | split
    | dsimp only
    | (with_reducible apply fr_power; exact bit_within hF rfl
       first
         | with_reducible assumption
         | with_reducible apply fr_ite
         | with_reducible apply State.set_fr
         | with_reducible apply State.bump_fr
         | with_reducible apply State.when_fr
         | with_reducible apply State.resumeSeq_fr
         | with_reducible apply State.leaveRestricted_fr
         | with_reducible apply State.enterState_fr
         | with_reducible apply State.endServiceSessions_fr
         | split))

theorem State.relockFailed_fr (s : State) (hF : within 562933041852406 F = true) (h : Fr F v s) :
    Fr F v (State.relockFailed s) := by
  unfold State.relockFailed
  repeat' (first
    | with_reducible assumption
    | exact within_trans hF rfl
    | exact bit_within hF rfl
    | with_reducible intro _
    | with_reducible apply fr_ite
    | with_reducible apply State.set_fr
    | with_reducible apply State.arm_fr
    | with_reducible apply State.restart_fr
    | with_reducible apply State.endRelock_fr
    | with_reducible apply State.fallToStandby_fr
    | split
    | dsimp only)

theorem execRelockTimeout_fr (lastCount : Nat) (s : State) (hF : within 562933041852407 F = true) (h : Fr F v s) :
    FrOut F v (execRelockTimeout lastCount s) := by
  unfold execRelockTimeout
  repeat' (first
    | with_reducible assumption
    | exact within_trans hF rfl
    | exact bit_within hF rfl
    | with_reducible apply frOut_next
    | with_reducible intro _
    | with_reducible apply fr_ite
    | with_reducible apply State.onTimer_fr
    | with_reducible apply State.faultRow_fr
    | with_reducible apply State.relockFailed_fr
    | split
    | dsimp only)

theorem execRelockRetry_fr (s : State) (hF : within 549760009223 F = true) (h : Fr F v s) :
    FrOut F v (execRelockRetry s) := by
  unfold execRelockRetry
  repeat' (first
    | with_reducible assumption
    | exact within_trans hF rfl
    | exact bit_within hF rfl
    | with_reducible apply frOut_next
    | with_reducible intro _
    | with_reducible apply fr_ite
    | with_reducible apply State.onTimer_fr
    | with_reducible apply State.beginRelock_fr
    | split
    | dsimp only
    | (with_reducible apply fr_power; exact bit_within hF rfl
       first
         | with_reducible assumption
         | with_reducible apply fr_ite
         | with_reducible apply State.onTimer_fr
         | with_reducible apply State.beginRelock_fr
         | split))

theorem execDroopStretch_fr (s : State) (hF : within 58721286 F = true) (h : Fr F v s) :
    FrOut F v (execDroopStretch s) := by
  unfold execDroopStretch
  repeat' (first
    | with_reducible assumption
    | exact within_trans hF rfl
    | exact bit_within hF rfl
    | with_reducible apply frOut_next
    | with_reducible intro _
    | with_reducible apply fr_ite
    | with_reducible apply State.bump_fr
    | with_reducible apply State.arm_fr
    | with_reducible apply State.when_fr
    | with_reducible apply State.flag_fr
    | split
    | dsimp only
    | (with_reducible apply fr_power; exact bit_within hF rfl
       first
         | with_reducible assumption
         | with_reducible apply fr_ite
         | with_reducible apply State.bump_fr
         | with_reducible apply State.arm_fr
         | with_reducible apply State.when_fr
         | with_reducible apply State.flag_fr
         | split))

theorem execStretchRelease_fr (s : State) (hF : within 1030 F = true) (h : Fr F v s) :
    FrOut F v (execStretchRelease s) := by
  unfold execStretchRelease
  repeat' (first
    | with_reducible assumption
    | exact within_trans hF rfl
    | exact bit_within hF rfl
    | with_reducible apply frOut_next
    | with_reducible intro _
    | with_reducible apply fr_ite
    | with_reducible apply State.set_fr
    | with_reducible apply State.disarm_fr
    | split
    | dsimp only
    | (with_reducible apply fr_power; exact bit_within hF rfl
       first
         | with_reducible assumption
         | with_reducible apply fr_ite
         | with_reducible apply State.set_fr
         | with_reducible apply State.disarm_fr
         | split))

theorem execStretchLong_fr (s00mV : BitVec 16) (s : State) (hF : within 1168289824919 F = true) (h : Fr F v s) :
    FrOut F v (execStretchLong s00mV s) := by
  unfold execStretchLong
  repeat' (first
    | with_reducible assumption
    | exact within_trans hF rfl
    | exact bit_within hF rfl
    | with_reducible apply frOut_next
    | with_reducible intro _
    | with_reducible apply fr_ite
    | with_reducible apply State.set_fr
    | with_reducible apply State.onTimer_fr
    | with_reducible apply State.faultRow_fr
    | with_reducible apply State.hardMute_fr
    | split
    | dsimp only)

theorem State.trimLane_fr (s : State) (n : Nat) (hF : within 4398105231366 F = true) (h : Fr F v s) :
    Fr F v (State.trimLane s n) := by
  unfold State.trimLane
  repeat' (first
    | with_reducible assumption
    | exact within_trans hF rfl
    | exact bit_within hF rfl
    | with_reducible intro _
    | with_reducible apply fr_ite
    | with_reducible apply State.set_fr
    | with_reducible apply State.setI_fr
    | with_reducible apply State.log_fr
    | with_reducible apply State.faultRow_fr
    | with_reducible apply State.setLane_fr
    | split
    | dsimp only)

theorem execAgingTrim_fr (growth : BitVec 16) (s : State) (hF : within 4398105231366 F = true) (h : Fr F v s) :
    FrOut F v (execAgingTrim growth s) := by
  unfold execAgingTrim
  repeat' (first
    | with_reducible assumption
    | exact within_trans hF rfl
    | exact bit_within hF rfl
    | with_reducible apply frOut_next
    | with_reducible intro _
    | with_reducible apply fr_ite
    | with_reducible apply State.set_fr
    | with_reducible apply State.when_fr
    | with_reducible apply State.log_fr
    | with_reducible apply State.faultRow_fr
    | with_reducible apply State.trimLane_fr
    | with_reducible apply fr_foldl
    | split
    | dsimp only)

theorem State.rollBack_fr (s : State) (hF : within 58720262 F = true) (h : Fr F v s) :
    Fr F v (State.rollBack s) := by
  unfold State.rollBack
  repeat' (first
    | with_reducible assumption
    | exact within_trans hF rfl
    | exact bit_within hF rfl
    | with_reducible intro _
    | with_reducible apply fr_ite
    | with_reducible apply State.set_fr
    | with_reducible apply State.bump_fr
    | with_reducible apply State.faultRow_fr
    | split
    | dsimp only)

theorem State.escalate_fr (s : State) (c : CoreId) (hF : within 562933041856502 F = true) (h : Fr F v s) :
    Fr F v (State.escalate s c) := by
  unfold State.escalate
  repeat' (first
    | with_reducible assumption
    | exact within_trans hF rfl
    | exact bit_within hF rfl
    | with_reducible intro _
    | with_reducible apply fr_ite
    | with_reducible apply State.set_fr
    | with_reducible apply State.beginShutdown_fr
    | with_reducible apply State.restart_fr
    | with_reducible apply State.rollBack_fr
    | split
    | dsimp only
    | (with_reducible apply fr_wd; exact bit_within hF rfl
       first
         | with_reducible assumption
         | with_reducible apply fr_ite
         | with_reducible apply State.set_fr
         | with_reducible apply State.beginShutdown_fr
         | with_reducible apply State.restart_fr
         | with_reducible apply State.rollBack_fr
         | split))

theorem State.noteExpiry_fr (s : State) (c : CoreId) (counter : Nat) (hF : within 50466822 F = true) (h : Fr F v s) :
    Fr F v (State.noteExpiry s c counter).1 := by
  unfold State.noteExpiry
  repeat' (first
    | with_reducible assumption
    | exact within_trans hF rfl
    | exact bit_within hF rfl
    | with_reducible intro _
    | with_reducible apply fr_ite
    | with_reducible apply fr_ite_fst
    | with_reducible apply State.bump_fr
    | with_reducible apply State.arm_fr
    | with_reducible apply State.log_fr
    | split
    | dsimp only
    | (with_reducible apply fr_wd; exact bit_within hF rfl; with_reducible apply fr_boot; exact bit_within hF rfl
       first
         | with_reducible assumption
         | with_reducible apply fr_ite
         | with_reducible apply fr_ite_fst
         | with_reducible apply State.bump_fr
         | with_reducible apply State.arm_fr
         | with_reducible apply State.log_fr
         | split))

theorem execPressWatchdogExpiry_fr (s : State) (hF : within 562933041987575 F = true) (h : Fr F v s) :
    FrOut F v (execPressWatchdogExpiry s) := by
  unfold execPressWatchdogExpiry
  repeat' (first
    | with_reducible assumption
    | exact within_trans hF rfl
    | exact bit_within hF rfl
    | with_reducible apply frOut_next
    | with_reducible intro _
    | with_reducible apply fr_ite
    | with_reducible apply fr_ite_fst
    | with_reducible apply State.onTimer_fr
    | with_reducible apply State.supervised_fr
    | with_reducible apply State.hardMute_fr
    | with_reducible apply State.paOff_fr
    | with_reducible apply State.depart_fr
    | with_reducible apply State.escalate_fr
    | with_reducible apply State.noteExpiry_fr
    | split
    | dsimp only
    | (with_reducible apply fr_power; exact bit_within hF rfl
       first
         | with_reducible assumption
         | with_reducible apply fr_ite
         | with_reducible apply fr_ite_fst
         | with_reducible apply State.onTimer_fr
         | with_reducible apply State.supervised_fr
         | with_reducible apply State.hardMute_fr
         | with_reducible apply State.paOff_fr
         | with_reducible apply State.depart_fr
         | with_reducible apply State.escalate_fr
         | with_reducible apply State.noteExpiry_fr
         | split))

theorem State.vintnerReset_fr (s : State) (hF : within 1573888 F = true) (h : Fr F v s) :
    Fr F v (State.vintnerReset s) := by
  unfold State.vintnerReset
  repeat' (first
    | with_reducible assumption
    | exact within_trans hF rfl
    | exact bit_within hF rfl
    | with_reducible intro _
    | with_reducible apply fr_ite
    | split
    | dsimp only
    | (with_reducible apply fr_power; exact bit_within hF rfl; with_reducible apply fr_blockReads; exact bit_within hF rfl; with_reducible apply fr_blockWrites; exact bit_within hF rfl
       first
         | with_reducible assumption
         | with_reducible apply fr_ite
         | split))

theorem State.corkReset_fr (s : State) (hF : within 2199084409862 F = true) (h : Fr F v s) :
    Fr F v (State.corkReset s) := by
  unfold State.corkReset
  repeat' (first
    | with_reducible assumption
    | exact within_trans hF rfl
    | exact bit_within hF rfl
    | with_reducible intro _
    | with_reducible apply fr_ite
    | with_reducible apply State.endSessions_fr
    | with_reducible apply State.dropSigning_fr
    | split
    | dsimp only
    | (with_reducible apply fr_power; exact bit_within hF rfl; with_reducible apply fr_sec; exact bit_within hF rfl
       first
         | with_reducible assumption
         | with_reducible apply fr_ite
         | with_reducible apply State.endSessions_fr
         | with_reducible apply State.dropSigning_fr
         | split))

theorem execCoreWatchdogExpiry_fr (c : SideCore) (s : State) (hF : within 562933041987575 F = true) (h : Fr F v s) :
    FrOut F v (execCoreWatchdogExpiry c s) := by
  unfold execCoreWatchdogExpiry
  repeat' (first
    | with_reducible assumption
    | exact within_trans hF rfl
    | exact bit_within hF rfl
    | with_reducible apply frOut_next
    | with_reducible intro _
    | with_reducible apply fr_ite
    | with_reducible apply fr_ite_fst
    | with_reducible apply State.onTimer_fr
    | with_reducible apply State.supervised_fr
    | with_reducible apply State.escalate_fr
    | with_reducible apply State.noteExpiry_fr
    | with_reducible apply State.vintnerReset_fr
    | with_reducible apply State.corkReset_fr
    | split
    | dsimp only)

theorem execLockstepMismatch_fr (cycle signals : BitVec 32) (s : State) (hF : within 1168231108822 F = true) (h : Fr F v s) :
    FrOut F v (execLockstepMismatch cycle signals s) := by
  unfold execLockstepMismatch
  repeat' (first
    | with_reducible assumption
    | exact within_trans hF rfl
    | exact bit_within hF rfl
    | with_reducible apply frOut_next
    | with_reducible intro _
    | with_reducible apply fr_ite
    | with_reducible apply State.arm_fr
    | with_reducible apply State.when_fr
    | with_reducible apply State.hardMute_fr
    | with_reducible apply State.paOff_fr
    | split
    | dsimp only
    | (with_reducible apply fr_wd; exact bit_within hF rfl
       first
         | with_reducible assumption
         | with_reducible apply fr_ite
         | with_reducible apply State.arm_fr
         | with_reducible apply State.when_fr
         | with_reducible apply State.hardMute_fr
         | with_reducible apply State.paOff_fr
         | split))

theorem State.resumeSupervision_fr (s : State) (hF : within 562933041852414 F = true) (h : Fr F v s) :
    Fr F v (State.resumeSupervision s) := by
  unfold State.resumeSupervision
  repeat' (first
    | with_reducible assumption
    | exact within_trans hF rfl
    | exact bit_within hF rfl
    | with_reducible intro _
    | with_reducible apply fr_ite
    | with_reducible apply State.actHeldRst_fr
    | with_reducible apply State.goDown_fr
    | with_reducible apply State.restart_fr
    | with_reducible apply State.countPg_fr
    | with_reducible apply fr_foldl
    | split
    | dsimp only
    | (with_reducible apply fr_power; exact bit_within hF rfl
       first
         | with_reducible assumption
         | with_reducible apply fr_ite
         | with_reducible apply State.actHeldRst_fr
         | with_reducible apply State.goDown_fr
         | with_reducible apply State.restart_fr
         | with_reducible apply State.countPg_fr
         | with_reducible apply fr_foldl
         | split))

theorem execLockstepRecovery_fr (s : State) (hF : within 562933041856511 F = true) (h : Fr F v s) :
    FrOut F v (execLockstepRecovery s) := by
  unfold execLockstepRecovery
  repeat' (first
    | with_reducible assumption
    | exact within_trans hF rfl
    | exact bit_within hF rfl
    | with_reducible apply frOut_next
    | with_reducible intro _
    | with_reducible apply fr_ite
    | with_reducible apply State.onTimer_fr
    | with_reducible apply State.faultRow_fr
    | with_reducible apply State.resumeSupervision_fr
    | split
    | dsimp only
    | (with_reducible apply fr_wd; exact bit_within hF rfl
       first
         | with_reducible assumption
         | with_reducible apply fr_ite
         | with_reducible apply State.onTimer_fr
         | with_reducible apply State.faultRow_fr
         | with_reducible apply State.resumeSupervision_fr
         | split))

end Sys2Proof.Machine
end

