-- ==== Sys2Proof/Laws/FrameTwin.lean ====
section
/-!
SUPPORT. The frames of the functions of Sys2Proof/Machine/Twin.lean, one lemma for each of them (Laws/Frame.lean).
-/

namespace Sys2Proof.Machine

set_option linter.unusedTactic false
set_option linter.unreachableTactic false
set_option linter.unusedVariables false

open Sys2Proof

variable {F : Nat} {v : State}

theorem State.onFrame_fr (s : State) (seq : Nat) (f : State → State) (hf : ∀ u, Fr F v u → Fr F v (f u)) (hF : within 140737488355332 F = true) (h : Fr F v s) :
    Fr F v (State.onFrame s seq f) := by
  unfold State.onFrame
  repeat' (first
    | with_reducible assumption
    | exact within_trans hF rfl
    | exact bit_within hF rfl
    | with_reducible intro _
    | with_reducible apply fr_ite
    | with_reducible apply hf
    | with_reducible apply State.linkStat_fr
    | split
    | dsimp only
    | (with_reducible apply fr_twin; exact bit_within hF rfl
       first
         | with_reducible assumption
         | with_reducible apply fr_ite
         | with_reducible apply hf
         | with_reducible apply State.linkStat_fr
         | split))

theorem execJensiacBadFrame_fr (why : BadFrame) (s : State) (hF : within 140737488355332 F = true) (h : Fr F v s) :
    FrOut F v (execJensiacBadFrame why s) := by
  unfold execJensiacBadFrame
  repeat' (first
    | with_reducible assumption
    | exact within_trans hF rfl
    | exact bit_within hF rfl
    | with_reducible apply frOut_next
    | with_reducible intro _
    | with_reducible apply fr_ite
    | with_reducible apply State.when_fr
    | with_reducible apply State.linkStat_fr
    | split
    | dsimp only
    | (with_reducible apply fr_twin; exact bit_within hF rfl
       first
         | with_reducible assumption
         | with_reducible apply fr_ite
         | with_reducible apply State.when_fr
         | with_reducible apply State.linkStat_fr
         | split))

theorem State.beginHandshake_fr (s : State) (hF : within 422212465065990 F = true) (h : Fr F v s) :
    Fr F v (State.beginHandshake s) := by
  unfold State.beginHandshake
  repeat' (first
    | with_reducible assumption
    | exact within_trans hF rfl
    | exact bit_within hF rfl
    | with_reducible intro _
    | with_reducible apply fr_ite
    | with_reducible apply fr_ite_snd
    | with_reducible apply State.set_fr
    | with_reducible apply State.arm_fr
    | with_reducible apply State.drawRandom_fr
    | split
    | dsimp only
    | (with_reducible apply fr_twin; exact bit_within hF rfl
       first
         | with_reducible assumption
         | with_reducible apply fr_ite
         | with_reducible apply fr_ite_snd
         | with_reducible apply State.set_fr
         | with_reducible apply State.arm_fr
         | with_reducible apply State.drawRandom_fr
         | split))

theorem execLinkCharactersAppear_fr (s : State) (hF : within 422212465065990 F = true) (h : Fr F v s) :
    FrOut F v (execLinkCharactersAppear s) := by
  unfold execLinkCharactersAppear
  repeat' (first
    | with_reducible assumption
    | exact within_trans hF rfl
    | exact bit_within hF rfl
    | with_reducible apply frOut_next
    | with_reducible intro _
    | with_reducible apply fr_ite
    | with_reducible apply State.when_fr
    | with_reducible apply State.beginHandshake_fr
    | split
    | dsimp only
    | (with_reducible apply fr_twin; exact bit_within hF rfl
       first
         | with_reducible assumption
         | with_reducible apply fr_ite
         | with_reducible apply State.when_fr
         | with_reducible apply State.beginHandshake_fr
         | split))

theorem execHello_fr (s : State) (hF : within 50331655 F = true) (h : Fr F v s) :
    FrOut F v (execHello s) := by
  unfold execHello
  repeat' (first
    | with_reducible assumption
    | exact within_trans hF rfl
    | exact bit_within hF rfl
    | with_reducible apply frOut_next
    | with_reducible intro _
    | with_reducible apply fr_ite
    | with_reducible apply State.arm_fr
    | with_reducible apply State.onTimer_fr
    | with_reducible apply State.sendLink_fr
    | split
    | dsimp only)

theorem State.takeoverRequest_fr (s : State) (hF : within 549821164550 F = true) (h : Fr F v s) :
    Fr F v (State.takeoverRequest s) := by
  unfold State.takeoverRequest
  repeat' (first
    | with_reducible assumption
    | exact within_trans hF rfl
    | exact bit_within hF rfl
    | with_reducible intro _
    | with_reducible apply fr_ite
    | with_reducible apply State.towardsActive_fr
    | with_reducible apply State.leaveService_fr
    | split
    | dsimp only)

theorem State.adoptNet_fr (s : State) (i : ImageSlot) (hF : within 78735405821142 F = true) (h : Fr F v s) :
    Fr F v (State.adoptNet s i) := by
  unfold State.adoptNet
  repeat' (first
    | with_reducible assumption
    | exact within_trans hF rfl
    | exact bit_within hF rfl
    | with_reducible intro _
    | with_reducible apply fr_ite
    | with_reducible apply State.set_fr
    | with_reducible apply State.disarm_fr
    | with_reducible apply State.arm_fr
    | with_reducible apply State.beginRelock_fr
    | with_reducible apply State.fallToStandby_fr
    | split
    | dsimp only
    | (with_reducible apply fr_power; exact bit_within hF rfl; with_reducible apply fr_net; exact bit_within hF rfl
       first
         | with_reducible assumption
         | with_reducible apply fr_ite
         | with_reducible apply State.set_fr
         | with_reducible apply State.disarm_fr
         | with_reducible apply State.arm_fr
         | with_reducible apply State.beginRelock_fr
         | with_reducible apply State.fallToStandby_fr
         | split))

theorem State.adoptPaths_fr (s : State) (i : ImageSlot) (hF : within 68719476736 F = true) (h : Fr F v s) :
    Fr F v (State.adoptPaths s i) := by
  unfold State.adoptPaths
  repeat' (first
    | with_reducible assumption
    | exact within_trans hF rfl
    | exact bit_within hF rfl
    | with_reducible intro _
    | with_reducible apply fr_ite
    | with_reducible apply State.setPath_fr
    | with_reducible apply fr_foldl
    | split
    | dsimp only)

theorem State.adoptHints_fr (s : State) (i : ImageSlot) (hF : within 76536382562398 F = true) (h : Fr F v s) :
    Fr F v (State.adoptHints s i) := by
  unfold State.adoptHints
  repeat' (first
    | with_reducible assumption
    | exact within_trans hF rfl
    | exact bit_within hF rfl
    | with_reducible intro _
    | with_reducible apply fr_ite
    | with_reducible apply State.startCommit_fr
    | split
    | dsimp only)

theorem State.adoptBursts_fr (s : State) (i : ImageSlot) (hF : within 35184372088832 F = true) (h : Fr F v s) :
    Fr F v (State.adoptBursts s i) := by
  unfold State.adoptBursts
  repeat' (first
    | with_reducible assumption
    | exact within_trans hF rfl
    | exact bit_within hF rfl
    | with_reducible intro _
    | with_reducible apply fr_ite
    | split
    | dsimp only
    | (with_reducible apply fr_tiu; exact bit_within hF rfl
       first
         | with_reducible assumption
         | with_reducible apply fr_ite
         | split))

theorem State.adoptImage_fr (s : State) (hF : within 254794705218782 F = true) (h : Fr F v s) :
    Fr F v (State.adoptImage s) := by
  unfold State.adoptImage
  repeat' (first
    | with_reducible assumption
    | exact within_trans hF rfl
    | exact bit_within hF rfl
    | with_reducible intro _
    | with_reducible apply fr_ite
    | with_reducible apply State.pass_fr
    | with_reducible apply State.rackStale_fr
    | with_reducible apply State.adoptNet_fr
    | with_reducible apply State.adoptPaths_fr
    | with_reducible apply State.adoptHints_fr
    | with_reducible apply State.adoptBursts_fr
    | split
    | dsimp only
    | (with_reducible apply fr_loops; exact bit_within hF rfl; with_reducible apply fr_twin; exact bit_within hF rfl
       first
         | with_reducible assumption
         | with_reducible apply fr_ite
         | with_reducible apply State.pass_fr
         | with_reducible apply State.rackStale_fr
         | with_reducible apply State.adoptNet_fr
         | with_reducible apply State.adoptPaths_fr
         | with_reducible apply State.adoptHints_fr
         | with_reducible apply State.adoptBursts_fr
         | split))

theorem State.becomeActive_fr (s : State) (hF : within 254794705218782 F = true) (h : Fr F v s) :
    Fr F v (State.becomeActive s) := by
  unfold State.becomeActive
  repeat' (first
    | with_reducible assumption
    | exact within_trans hF rfl
    | exact bit_within hF rfl
    | with_reducible intro _
    | with_reducible apply fr_ite
    | with_reducible apply State.set_fr
    | with_reducible apply State.bump_fr
    | with_reducible apply State.disarm_fr
    | with_reducible apply State.arm_fr
    | with_reducible apply State.notify_fr
    | with_reducible apply State.takeoverRequest_fr
    | with_reducible apply State.adoptImage_fr
    | split
    | dsimp only
    | (with_reducible apply fr_twin; exact bit_within hF rfl
       first
         | with_reducible assumption
         | with_reducible apply fr_ite
         | with_reducible apply State.set_fr
         | with_reducible apply State.bump_fr
         | with_reducible apply State.disarm_fr
         | with_reducible apply State.arm_fr
         | with_reducible apply State.notify_fr
         | with_reducible apply State.takeoverRequest_fr
         | with_reducible apply State.adoptImage_fr
         | split))

theorem State.claim_fr (s : State) (hF : within 254794705219294 F = true) (h : Fr F v s) :
    Fr F v (State.claim s) := by
  unfold State.claim
  repeat' (first
    | with_reducible assumption
    | exact within_trans hF rfl
    | exact bit_within hF rfl
    | with_reducible intro _
    | with_reducible apply fr_ite
    | with_reducible apply State.arm_fr
    | with_reducible apply State.becomeActive_fr
    | split
    | dsimp only
    | (with_reducible apply fr_pins; exact bit_within hF rfl; with_reducible apply fr_pins_twinAct; exact bit_within hF rfl; with_reducible apply fr_twin; exact bit_within hF rfl
       first
         | with_reducible assumption
         | with_reducible apply fr_ite
         | with_reducible apply State.arm_fr
         | with_reducible apply State.becomeActive_fr
         | split))

theorem State.refuseClaim_fr (s : State) (hF : within 252458243010262 F = true) (h : Fr F v s) :
    Fr F v (State.refuseClaim s) := by
  unfold State.refuseClaim
  repeat' (first
    | with_reducible assumption
    | exact within_trans hF rfl
    | exact bit_within hF rfl
    | with_reducible intro _
    | with_reducible apply fr_ite
    | with_reducible apply State.set_fr
    | with_reducible apply State.arm_fr
    | with_reducible apply State.faultRow_fr
    | with_reducible apply State.abandonBurst_fr
    | with_reducible apply State.beginRelock_fr
    | with_reducible apply State.fallToStandby_fr
    | split
    | dsimp only
    | (with_reducible apply fr_pins; exact bit_within hF rfl; with_reducible apply fr_pins_twinAct; exact bit_within hF rfl; with_reducible apply fr_power; exact bit_within hF rfl; with_reducible apply fr_twin; exact bit_within hF rfl
       first
         | with_reducible assumption
         | with_reducible apply fr_ite
         | with_reducible apply State.set_fr
         | with_reducible apply State.arm_fr
         | with_reducible apply State.faultRow_fr
         | with_reducible apply State.abandonBurst_fr
         | with_reducible apply State.beginRelock_fr
         | with_reducible apply State.fallToStandby_fr
         | split))

theorem State.linkUp_fr (s : State) (hF : within 254794705219294 F = true) (h : Fr F v s) :
    Fr F v (State.linkUp s) := by
  unfold State.linkUp
  repeat' (first
    | with_reducible assumption
    | exact within_trans hF rfl
    | exact bit_within hF rfl
    | with_reducible intro _
    | with_reducible apply fr_ite
    | with_reducible apply State.set_fr
    | with_reducible apply State.disarm_fr
    | with_reducible apply State.arm_fr
    | with_reducible apply State.claim_fr
    | split
    | dsimp only
    | (with_reducible apply fr_twin; exact bit_within hF rfl
       first
         | with_reducible assumption
         | with_reducible apply fr_ite
         | with_reducible apply State.set_fr
         | with_reducible apply State.disarm_fr
         | with_reducible apply State.arm_fr
         | with_reducible apply State.claim_fr
         | split))

theorem State.dropLink_fr (s : State) (hF : within 140737547075590 F = true) (h : Fr F v s) :
    Fr F v (State.dropLink s) := by
  unfold State.dropLink
  repeat' (first
    | with_reducible assumption
    | exact within_trans hF rfl
    | exact bit_within hF rfl
    | with_reducible intro _
    | with_reducible apply fr_ite
    | with_reducible apply State.set_fr
    | with_reducible apply State.disarm_fr
    | with_reducible apply State.arm_fr
    | with_reducible apply State.faultRow_fr
    | split
    | dsimp only
    | (with_reducible apply fr_twin; exact bit_within hF rfl
       first
         | with_reducible assumption
         | with_reducible apply fr_ite
         | with_reducible apply State.set_fr
         | with_reducible apply State.disarm_fr
         | with_reducible apply State.arm_fr
         | with_reducible apply State.faultRow_fr
         | split))

theorem State.tagFail_fr (s : State) (hF : within 140737547075590 F = true) (h : Fr F v s) :
    Fr F v (State.tagFail s) := by
  unfold State.tagFail
  repeat' (first
    | with_reducible assumption
    | exact within_trans hF rfl
    | exact bit_within hF rfl
    | with_reducible intro _
    | with_reducible apply fr_ite
    | with_reducible apply State.set_fr
    | with_reducible apply State.disarm_fr
    | with_reducible apply State.arm_fr
    | with_reducible apply State.faultRow_fr
    | with_reducible apply State.linkStat_fr
    | with_reducible apply State.dropLink_fr
    | split
    | dsimp only
    | (with_reducible apply fr_twin; exact bit_within hF rfl
       first
         | with_reducible assumption
         | with_reducible apply fr_ite
         | with_reducible apply State.set_fr
         | with_reducible apply State.disarm_fr
         | with_reducible apply State.arm_fr
         | with_reducible apply State.faultRow_fr
         | with_reducible apply State.linkStat_fr
         | with_reducible apply State.dropLink_fr
         | split))

theorem execAuthFailRestart_fr (s : State) (hF : within 422212465065991 F = true) (h : Fr F v s) :
    FrOut F v (execAuthFailRestart s) := by
  unfold execAuthFailRestart
  repeat' (first
    | with_reducible assumption
    | exact within_trans hF rfl
    | exact bit_within hF rfl
    | with_reducible apply frOut_next
    | with_reducible intro _
    | with_reducible apply fr_ite
    | with_reducible apply State.onTimer_fr
    | with_reducible apply State.beginHandshake_fr
    | split
    | dsimp only)

theorem State.takeHello_fr (s : State) (nonce : Nat) (preferred sel : Bool) (hF : within 140737538686982 F = true) (h : Fr F v s) :
    Fr F v (State.takeHello s nonce preferred sel) := by
  unfold State.takeHello
  repeat' (first
    | with_reducible assumption
    | exact within_trans hF rfl
    | exact bit_within hF rfl
    | with_reducible intro _
    | with_reducible apply fr_ite
    | with_reducible apply State.sendLink_fr
    | split
    | dsimp only
    | (with_reducible apply fr_twin; exact bit_within hF rfl
       first
         | with_reducible assumption
         | with_reducible apply fr_ite
         | with_reducible apply State.sendLink_fr
         | split))

theorem execHelloReceive_fr (seq : BitVec 16) (serial expected : BitVec 64) (nonce : BitVec 128) (preferred sel : Bool) (s : State) (hF : within 140737547075590 F = true) (h : Fr F v s) :
    FrOut F v (execHelloReceive seq serial expected nonce preferred sel s) := by
  unfold execHelloReceive
  repeat' (first
    | with_reducible assumption
    | exact within_trans hF rfl
    | exact bit_within hF rfl
    | with_reducible apply frOut_next
    | with_reducible intro _
    | with_reducible apply fr_ite
    | with_reducible apply State.faultRow_fr
    | with_reducible apply State.onFrame_fr
    | with_reducible apply State.takeHello_fr
    | split
    | dsimp only)

theorem execConfirmReceive_fr (seq : BitVec 16) (tag : BitVec 128) (s : State) (hF : within 254794705219294 F = true) (h : Fr F v s) :
    FrOut F v (execConfirmReceive seq tag s) := by
  unfold execConfirmReceive
  repeat' (first
    | with_reducible assumption
    | exact within_trans hF rfl
    | exact bit_within hF rfl
    | with_reducible apply frOut_next
    | with_reducible intro _
    | with_reducible apply fr_ite
    | with_reducible apply State.onFrame_fr
    | with_reducible apply State.linkUp_fr
    | with_reducible apply State.tagFail_fr
    | split
    | dsimp only
    | (with_reducible apply fr_twin; exact bit_within hF rfl
       first
         | with_reducible assumption
         | with_reducible apply fr_ite
         | with_reducible apply State.onFrame_fr
         | with_reducible apply State.linkUp_fr
         | with_reducible apply State.tagFail_fr
         | split))

theorem State.noteReady_fr (s : State) (hF : within 140737547075590 F = true) (h : Fr F v s) :
    Fr F v (State.noteReady s) := by
  unfold State.noteReady
  repeat' (first
    | with_reducible assumption
    | exact within_trans hF rfl
    | exact bit_within hF rfl
    | with_reducible intro _
    | with_reducible apply fr_ite
    | with_reducible apply State.set_fr
    | with_reducible apply State.faultRow_fr
    | with_reducible apply State.rackStale_fr
    | split
    | dsimp only
    | (with_reducible apply fr_twin; exact bit_within hF rfl
       first
         | with_reducible assumption
         | with_reducible apply fr_ite
         | with_reducible apply State.set_fr
         | with_reducible apply State.faultRow_fr
         | with_reducible apply State.rackStale_fr
         | split))

theorem execTwinHeartbeat_fr (s : State) (hF : within 140737547075591 F = true) (h : Fr F v s) :
    FrOut F v (execTwinHeartbeat s) := by
  unfold execTwinHeartbeat
  repeat' (first
    | with_reducible assumption
    | exact within_trans hF rfl
    | exact bit_within hF rfl
    | with_reducible apply frOut_next
    | with_reducible intro _
    | with_reducible apply fr_ite
    | with_reducible apply State.arm_fr
    | with_reducible apply State.onTimer_fr
    | with_reducible apply State.sendLink_fr
    | with_reducible apply State.noteReady_fr
    | split
    | dsimp only
    | (with_reducible apply fr_twin; exact bit_within hF rfl
       first
         | with_reducible assumption
         | with_reducible apply fr_ite
         | with_reducible apply State.arm_fr
         | with_reducible apply State.onTimer_fr
         | with_reducible apply State.sendLink_fr
         | with_reducible apply State.noteReady_fr
         | split))

theorem State.validHeartbeat_fr (s : State) (b : Bytes) (hF : within 252458243010262 F = true) (h : Fr F v s) :
    Fr F v (State.validHeartbeat s b) := by
  unfold State.validHeartbeat
  repeat' (first
    | with_reducible assumption
    | exact within_trans hF rfl
    | exact bit_within hF rfl
    | with_reducible intro _
    | with_reducible apply fr_ite
    | with_reducible apply State.set_fr
    | with_reducible apply State.arm_fr
    | with_reducible apply State.demoteIfDue_fr
    | with_reducible apply State.noteReady_fr
    | split
    | dsimp only
    | (with_reducible apply fr_twin; exact bit_within hF rfl
       first
         | with_reducible assumption
         | with_reducible apply fr_ite
         | with_reducible apply State.set_fr
         | with_reducible apply State.arm_fr
         | with_reducible apply State.demoteIfDue_fr
         | with_reducible apply State.noteReady_fr
         | split))

theorem execTwinHeartbeatReceive_fr (seq : BitVec 16) (payload : Bytes) (s : State) (hF : within 252458243010262 F = true) (h : Fr F v s) :
    FrOut F v (execTwinHeartbeatReceive seq payload s) := by
  unfold execTwinHeartbeatReceive
  repeat' (first
    | with_reducible assumption
    | exact within_trans hF rfl
    | exact bit_within hF rfl
    | with_reducible apply frOut_next
    | with_reducible intro _
    | with_reducible apply fr_ite
    | with_reducible apply State.onFrame_fr
    | with_reducible apply State.tagFail_fr
    | with_reducible apply State.validHeartbeat_fr
    | split
    | dsimp only)

theorem State.takeOver_fr (s : State) (cause : Nat) (hF : within 254794705219294 F = true) (h : Fr F v s) :
    Fr F v (State.takeOver s cause) := by
  unfold State.takeOver
  repeat' (first
    | with_reducible assumption
    | exact within_trans hF rfl
    | exact bit_within hF rfl
    | with_reducible intro _
    | with_reducible apply fr_ite
    | with_reducible apply State.endDebug_fr
    | with_reducible apply State.preemptCommit_fr
    | with_reducible apply State.takeoverRequest_fr
    | with_reducible apply State.claim_fr
    | split
    | dsimp only
    | (with_reducible apply fr_twin; exact bit_within hF rfl
       first
         | with_reducible assumption
         | with_reducible apply fr_ite
         | with_reducible apply State.endDebug_fr
         | with_reducible apply State.preemptCommit_fr
         | with_reducible apply State.takeoverRequest_fr
         | with_reducible apply State.claim_fr
         | split))

theorem execTwinLinkDown_fr (s : State) (hF : within 536269681929951 F = true) (h : Fr F v s) :
    FrOut F v (execTwinLinkDown s) := by
  unfold execTwinLinkDown
  repeat' (first
    | with_reducible assumption
    | exact within_trans hF rfl
    | exact bit_within hF rfl
    | with_reducible apply frOut_next
    | with_reducible intro _
    | with_reducible apply fr_ite
    | with_reducible apply State.onTimer_fr
    | with_reducible apply State.beginHandshake_fr
    | with_reducible apply State.dropLink_fr
    | with_reducible apply State.takeOver_fr
    | split
    | dsimp only)

theorem execDepartingReceive_fr (seq : BitVec 16) (cause : DepartCause) (generation : BitVec 32) (s : State) (hF : within 254794705219294 F = true) (h : Fr F v s) :
    FrOut F v (execDepartingReceive seq cause generation s) := by
  unfold execDepartingReceive
  repeat' (first
    | with_reducible assumption
    | exact within_trans hF rfl
    | exact bit_within hF rfl
    | with_reducible apply frOut_next
    | with_reducible intro _
    | with_reducible apply fr_ite
    | with_reducible apply State.onFrame_fr
    | with_reducible apply State.takeOver_fr
    | split
    | dsimp only
    | (with_reducible apply fr_twin; exact bit_within hF rfl
       first
         | with_reducible assumption
         | with_reducible apply fr_ite
         | with_reducible apply State.onFrame_fr
         | with_reducible apply State.takeOver_fr
         | split))

theorem execTwinSelChange_fr (high : Bool) (s : State) (hF : within 254794705218782 F = true) (h : Fr F v s) :
    FrOut F v (execTwinSelChange high s) := by
  unfold execTwinSelChange
  repeat' (first
    | with_reducible assumption
    | exact within_trans hF rfl
    | exact bit_within hF rfl
    | with_reducible apply frOut_next
    | with_reducible intro _
    | with_reducible apply fr_ite
    | with_reducible apply State.set_fr
    | with_reducible apply State.disarm_fr
    | with_reducible apply State.arm_fr
    | with_reducible apply State.when_fr
    | with_reducible apply State.faultRow_fr
    | with_reducible apply State.hardMute_fr
    | with_reducible apply State.becomeActive_fr
    | split
    | dsimp only
    | (with_reducible apply fr_pins; exact bit_within hF rfl; with_reducible apply fr_twin; exact bit_within hF rfl
       first
         | with_reducible assumption
         | with_reducible apply fr_ite
         | with_reducible apply State.set_fr
         | with_reducible apply State.disarm_fr
         | with_reducible apply State.arm_fr
         | with_reducible apply State.when_fr
         | with_reducible apply State.faultRow_fr
         | with_reducible apply State.hardMute_fr
         | with_reducible apply State.becomeActive_fr
         | split))

theorem execRelayLostDemotion_fr (s : State) (hF : within 252458243010263 F = true) (h : Fr F v s) :
    FrOut F v (execRelayLostDemotion s) := by
  unfold execRelayLostDemotion
  repeat' (first
    | with_reducible assumption
    | exact within_trans hF rfl
    | exact bit_within hF rfl
    | with_reducible apply frOut_next
    | with_reducible intro _
    | with_reducible apply fr_ite
    | with_reducible apply State.onTimer_fr
    | with_reducible apply State.demoteIfDue_fr
    | split
    | dsimp only)

theorem execStartWaitExpiry_fr (s : State) (hF : within 254794705219295 F = true) (h : Fr F v s) :
    FrOut F v (execStartWaitExpiry s) := by
  unfold execStartWaitExpiry
  repeat' (first
    | with_reducible assumption
    | exact within_trans hF rfl
    | exact bit_within hF rfl
    | with_reducible apply frOut_next
    | with_reducible intro _
    | with_reducible apply fr_ite
    | with_reducible apply State.onTimer_fr
    | with_reducible apply State.claim_fr
    | split
    | dsimp only)

theorem execClaimIntervalExpiry_fr (s : State) (hF : within 254794705219295 F = true) (h : Fr F v s) :
    FrOut F v (execClaimIntervalExpiry s) := by
  unfold execClaimIntervalExpiry
  repeat' (first
    | with_reducible assumption
    | exact within_trans hF rfl
    | exact bit_within hF rfl
    | with_reducible apply frOut_next
    | with_reducible intro _
    | with_reducible apply fr_ite
    | with_reducible apply State.onTimer_fr
    | with_reducible apply State.claim_fr
    | split
    | dsimp only
    | (with_reducible apply fr_twin; exact bit_within hF rfl
       first
         | with_reducible assumption
         | with_reducible apply fr_ite
         | with_reducible apply State.onTimer_fr
         | with_reducible apply State.claim_fr
         | split))

theorem execRelayTimeExpiry_fr (s : State) (hF : within 252458243010263 F = true) (h : Fr F v s) :
    FrOut F v (execRelayTimeExpiry s) := by
  unfold execRelayTimeExpiry
  repeat' (first
    | with_reducible assumption
    | exact within_trans hF rfl
    | exact bit_within hF rfl
    | with_reducible apply frOut_next
    | with_reducible intro _
    | with_reducible apply fr_ite
    | with_reducible apply State.onTimer_fr
    | with_reducible apply State.refuseClaim_fr
    | split
    | dsimp only)

theorem State.captureImage_fr (s : State) (hF : within 140737538686982 F = true) (h : Fr F v s) :
    Fr F v (State.captureImage s) := by
  unfold State.captureImage
  repeat' (first
    | with_reducible assumption
    | exact within_trans hF rfl
    | exact bit_within hF rfl
    | with_reducible intro _
    | with_reducible apply fr_ite
    | with_reducible apply State.set_fr
    | with_reducible apply State.pass_fr
    | with_reducible apply State.sendLink_fr
    | with_reducible apply fr_foldl
    | split
    | dsimp only
    | (with_reducible apply fr_twin; exact bit_within hF rfl
       first
         | with_reducible assumption
         | with_reducible apply fr_ite
         | with_reducible apply State.set_fr
         | with_reducible apply State.pass_fr
         | with_reducible apply State.sendLink_fr
         | with_reducible apply fr_foldl
         | split))

theorem execRackCapture_fr (s : State) (hF : within 140737538686983 F = true) (h : Fr F v s) :
    FrOut F v (execRackCapture s) := by
  unfold execRackCapture
  repeat' (first
    | with_reducible assumption
    | exact within_trans hF rfl
    | exact bit_within hF rfl
    | with_reducible apply frOut_next
    | with_reducible intro _
    | with_reducible apply fr_ite
    | with_reducible apply State.arm_fr
    | with_reducible apply State.onTimer_fr
    | with_reducible apply State.captureImage_fr
    | split
    | dsimp only)

theorem State.setImage_fr (s : State) (i : ImageSlot) (hF : within 140737488355328 F = true) (h : Fr F v s) :
    Fr F v (State.setImage s i) := by
  unfold State.setImage
  repeat' (first
    | with_reducible assumption
    | exact within_trans hF rfl
    | exact bit_within hF rfl
    | with_reducible intro _
    | with_reducible apply fr_ite
    | split
    | dsimp only
    | (with_reducible apply fr_twin; exact bit_within hF rfl
       first
         | with_reducible assumption
         | with_reducible apply fr_ite
         | split))

theorem execImageChunkReceive_fr (seq : BitVec 16) (generation : BitVec 32) (offset : BitVec 16) (data : Bytes) (s : State) (hF : within 140737488355332 F = true) (h : Fr F v s) :
    FrOut F v (execImageChunkReceive seq generation offset data s) := by
  unfold execImageChunkReceive
  repeat' (first
    | with_reducible assumption
    | exact within_trans hF rfl
    | exact bit_within hF rfl
    | with_reducible apply frOut_next
    | with_reducible intro _
    | with_reducible apply fr_ite
    | with_reducible apply State.onFrame_fr
    | with_reducible apply State.setImage_fr
    | split
    | dsimp only)

theorem State.rackWaterline_fr (s : State) (i : ImageSlot) (hF : within 6 F = true) (h : Fr F v s) :
    Fr F v (State.rackWaterline s i) := by
  unfold State.rackWaterline
  repeat' (first
    | with_reducible assumption
    | exact within_trans hF rfl
    | exact bit_within hF rfl
    | with_reducible intro _
    | with_reducible apply fr_ite
    | with_reducible apply State.publishWater_fr
    | split
    | dsimp only)

theorem State.rackSchedule_fr (s : State) (i : ImageSlot) (p : Nat) (hF : within 58720262 F = true) (h : Fr F v s) :
    Fr F v (State.rackSchedule s i p) := by
  unfold State.rackSchedule
  repeat' (first
    | with_reducible assumption
    | exact within_trans hF rfl
    | exact bit_within hF rfl
    | with_reducible intro _
    | with_reducible apply fr_ite
    | with_reducible apply State.lowerPoint_fr
    | with_reducible apply fr_foldl
    | split
    | dsimp only)

theorem State.answerHandover_fr (s : State) (hF : within 140737538686982 F = true) (h : Fr F v s) :
    Fr F v (State.answerHandover s) := by
  unfold State.answerHandover
  repeat' (first
    | with_reducible assumption
    | exact within_trans hF rfl
    | exact bit_within hF rfl
    | with_reducible intro _
    | with_reducible apply fr_ite
    | with_reducible apply State.sendLink_fr
    | split
    | dsimp only
    | (with_reducible apply fr_twin; exact bit_within hF rfl
       first
         | with_reducible assumption
         | with_reducible apply fr_ite
         | with_reducible apply State.sendLink_fr
         | split))

theorem State.commitImage_fr (s : State) (i : ImageSlot) (hF : within 140737547075590 F = true) (h : Fr F v s) :
    Fr F v (State.commitImage s i) := by
  unfold State.commitImage
  repeat' (first
    | with_reducible assumption
    | exact within_trans hF rfl
    | exact bit_within hF rfl
    | with_reducible intro _
    | with_reducible apply fr_ite
    | with_reducible apply State.set_fr
    | with_reducible apply State.noteReady_fr
    | with_reducible apply State.setImage_fr
    | with_reducible apply State.rackWaterline_fr
    | with_reducible apply State.rackSchedule_fr
    | with_reducible apply State.answerHandover_fr
    | with_reducible apply fr_foldl
    | split
    | dsimp only)

theorem execImageEndReceive_fr (seq : BitVec 16) (generation : BitVec 32) (length : BitVec 16) (s : State) (hF : within 140737547075590 F = true) (h : Fr F v s) :
    FrOut F v (execImageEndReceive seq generation length s) := by
  unfold execImageEndReceive
  repeat' (first
    | with_reducible assumption
    | exact within_trans hF rfl
    | exact bit_within hF rfl
    | with_reducible apply frOut_next
    | with_reducible intro _
    | with_reducible apply fr_ite
    | with_reducible apply State.onFrame_fr
    | with_reducible apply State.setImage_fr
    | with_reducible apply State.commitImage_fr
    | split
    | dsimp only)

theorem State.startHandover_fr (s : State) (hF : within 140737538686982 F = true) (h : Fr F v s) :
    Fr F v (State.startHandover s) := by
  unfold State.startHandover
  repeat' (first
    | with_reducible assumption
    | exact within_trans hF rfl
    | exact bit_within hF rfl
    | with_reducible intro _
    | with_reducible apply fr_ite
    | with_reducible apply State.arm_fr
    | with_reducible apply State.sendLink_fr
    | split
    | dsimp only
    | (with_reducible apply fr_twin; exact bit_within hF rfl
       first
         | with_reducible assumption
         | with_reducible apply fr_ite
         | with_reducible apply State.arm_fr
         | with_reducible apply State.sendLink_fr
         | split))

theorem execHandoverRequestReceive_fr (seq : BitVec 16) (generation : BitVec 32) (s : State) (hF : within 140737538686982 F = true) (h : Fr F v s) :
    FrOut F v (execHandoverRequestReceive seq generation s) := by
  unfold execHandoverRequestReceive
  repeat' (first
    | with_reducible assumption
    | exact within_trans hF rfl
    | exact bit_within hF rfl
    | with_reducible apply frOut_next
    | with_reducible intro _
    | with_reducible apply fr_ite
    | with_reducible apply State.onFrame_fr
    | with_reducible apply State.answerHandover_fr
    | split
    | dsimp only
    | (with_reducible apply fr_twin; exact bit_within hF rfl
       first
         | with_reducible assumption
         | with_reducible apply fr_ite
         | with_reducible apply State.onFrame_fr
         | with_reducible apply State.answerHandover_fr
         | split))

theorem execHandoverAcceptReceive_fr (seq : BitVec 16) (generation : BitVec 32) (s : State) (hF : within 252458243010262 F = true) (h : Fr F v s) :
    FrOut F v (execHandoverAcceptReceive seq generation s) := by
  unfold execHandoverAcceptReceive
  repeat' (first
    | with_reducible assumption
    | exact within_trans hF rfl
    | exact bit_within hF rfl
    | with_reducible apply frOut_next
    | with_reducible intro _
    | with_reducible apply fr_ite
    | with_reducible apply State.disarm_fr
    | with_reducible apply State.hardMute_fr
    | with_reducible apply State.demote_fr
    | with_reducible apply State.onFrame_fr
    | with_reducible apply State.captureImage_fr
    | split
    | dsimp only
    | (with_reducible apply fr_twin; exact bit_within hF rfl
       first
         | with_reducible assumption
         | with_reducible apply fr_ite
         | with_reducible apply State.disarm_fr
         | with_reducible apply State.hardMute_fr
         | with_reducible apply State.demote_fr
         | with_reducible apply State.onFrame_fr
         | with_reducible apply State.captureImage_fr
         | split))

theorem execHandoverTimeout_fr (s : State) (hF : within 140737488355335 F = true) (h : Fr F v s) :
    FrOut F v (execHandoverTimeout s) := by
  unfold execHandoverTimeout
  repeat' (first
    | with_reducible assumption
    | exact within_trans hF rfl
    | exact bit_within hF rfl
    | with_reducible apply frOut_next
    | with_reducible intro _
    | with_reducible apply fr_ite
    | with_reducible apply State.onTimer_fr
    | split
    | dsimp only
    | (with_reducible apply fr_twin; exact bit_within hF rfl
       first
         | with_reducible assumption
         | with_reducible apply fr_ite
         | with_reducible apply State.onTimer_fr
         | split))

theorem State.twinStart_fr (s : State) (hF : within 140737488355334 F = true) (h : Fr F v s) :
    Fr F v (State.twinStart s) := by
  unfold State.twinStart
  repeat' (first
    | with_reducible assumption
    | exact within_trans hF rfl
    | exact bit_within hF rfl
    | with_reducible intro _
    | with_reducible apply fr_ite
    | with_reducible apply State.set_fr
    | with_reducible apply State.arm_fr
    | split
    | dsimp only
    | (with_reducible apply fr_twin; exact bit_within hF rfl
       first
         | with_reducible assumption
         | with_reducible apply fr_ite
         | with_reducible apply State.set_fr
         | with_reducible apply State.arm_fr
         | split))

end Sys2Proof.Machine
end

