-- ==== Sys2Proof/Laws/FrameBoot.lean ====
section
/-!
SUPPORT. The frames of the functions of Sys2Proof/Machine/Boot.lean, one lemma for each of them (Laws/Frame.lean).
-/

namespace Sys2Proof.Machine

set_option linter.unusedTactic false
set_option linter.unreachableTactic false
set_option linter.unusedVariables false

open Sys2Proof

variable {F : Nat} {v : State}

theorem State.loadImage_fr (s : State) (hF : within 4 F = true) (h : Fr F v s) :
    Fr F v (State.loadImage s) := by
  unfold State.loadImage
  repeat' (first
    | with_reducible assumption
    | exact within_trans hF rfl
    | exact bit_within hF rfl
    | with_reducible intro _
    | with_reducible apply fr_ite
    | split
    | dsimp only
    | (with_reducible apply fr_dict; exact bit_within hF rfl
       first
         | with_reducible assumption
         | with_reducible apply fr_ite
         | split))

theorem State.replayJournal_fr (s : State) (hF : within 12 F = true) (h : Fr F v s) :
    Fr F v (State.replayJournal s) := by
  unfold State.replayJournal
  repeat' (first
    | with_reducible assumption
    | exact within_trans hF rfl
    | exact bit_within hF rfl
    | with_reducible intro _
    | with_reducible apply fr_ite
    | with_reducible apply State.bump_fr
    | split
    | dsimp only
    | (with_reducible apply fr_cfg; exact bit_within hF rfl
       first
         | with_reducible assumption
         | with_reducible apply fr_ite
         | with_reducible apply State.bump_fr
         | split))

theorem execConfigBootLoad_fr (crcA crcB : Bool) (s : State) (hF : within 58720270 F = true) (h : Fr F v s) :
    FrOut F v (execConfigBootLoad crcA crcB s) := by
  unfold execConfigBootLoad
  repeat' (first
    | with_reducible assumption
    | exact within_trans hF rfl
    | exact bit_within hF rfl
    | with_reducible apply frOut_next
    | with_reducible intro _
    | with_reducible apply fr_ite
    | with_reducible apply State.when_fr
    | with_reducible apply State.postLog_fr
    | with_reducible apply State.flag_fr
    | with_reducible apply State.faultRow_fr
    | with_reducible apply State.loadImage_fr
    | with_reducible apply State.replayJournal_fr
    | split
    | dsimp only
    | (with_reducible apply fr_cfg; exact bit_within hF rfl
       first
         | with_reducible assumption
         | with_reducible apply fr_ite
         | with_reducible apply State.when_fr
         | with_reducible apply State.postLog_fr
         | with_reducible apply State.flag_fr
         | with_reducible apply State.faultRow_fr
         | with_reducible apply State.loadImage_fr
         | with_reducible apply State.replayJournal_fr
         | split))

theorem State.bankFailed_fr (s : State) (bank core check : Nat) (hF : within 58720262 F = true) (h : Fr F v s) :
    Fr F v (State.bankFailed s bank core check) := by
  unfold State.bankFailed
  repeat' (first
    | with_reducible assumption
    | exact within_trans hF rfl
    | exact bit_within hF rfl
    | with_reducible intro _
    | with_reducible apply fr_ite
    | with_reducible apply State.faultRow_fr
    | split
    | dsimp only)

theorem State.completeLifecycle_fr (s : State) (hF : within 281475169705990 F = true) (h : Fr F v s) :
    Fr F v (State.completeLifecycle s) := by
  unfold State.completeLifecycle
  repeat' (first
    | with_reducible assumption
    | exact within_trans hF rfl
    | exact bit_within hF rfl
    | with_reducible intro _
    | with_reducible apply fr_ite
    | with_reducible apply State.flag_fr
    | with_reducible apply State.vintFor_fr
    | with_reducible apply State.makeRsk_fr
    | with_reducible apply State.lifecycleRecord_fr
    | split
    | dsimp only
    | (with_reducible apply fr_sec; exact bit_within hF rfl; with_reducible apply fr_sec_fuses; exact bit_within hF rfl
       first
         | with_reducible assumption
         | with_reducible apply fr_ite
         | with_reducible apply State.flag_fr
         | with_reducible apply State.vintFor_fr
         | with_reducible apply State.makeRsk_fr
         | with_reducible apply State.lifecycleRecord_fr
         | split))

theorem State.startBank_fr (s : State) (bank : Nat) (hF : within 283674000098310 F = true) (h : Fr F v s) :
    Fr F v (State.startBank s bank) := by
  unfold State.startBank
  repeat' (first
    | with_reducible assumption
    | exact within_trans hF rfl
    | exact bit_within hF rfl
    | with_reducible intro _
    | with_reducible apply fr_ite
    | with_reducible apply State.set_fr
    | with_reducible apply State.arm_fr
    | with_reducible apply State.signLate_fr
    | split
    | dsimp only
    | (with_reducible apply fr_power; exact bit_within hF rfl; with_reducible apply fr_boot; exact bit_within hF rfl
       first
         | with_reducible assumption
         | with_reducible apply fr_ite
         | with_reducible apply State.set_fr
         | with_reducible apply State.arm_fr
         | with_reducible apply State.signLate_fr
         | split))

theorem State.openRecovery_fr (s : State) (hF : within 58721286 F = true) (h : Fr F v s) :
    Fr F v (State.openRecovery s) := by
  unfold State.openRecovery
  repeat' (first
    | with_reducible assumption
    | exact within_trans hF rfl
    | exact bit_within hF rfl
    | with_reducible intro _
    | with_reducible apply fr_ite
    | with_reducible apply State.postLog_fr
    | with_reducible apply State.flag_fr
    | split
    | dsimp only
    | (with_reducible apply fr_power; exact bit_within hF rfl
       first
         | with_reducible assumption
         | with_reducible apply fr_ite
         | with_reducible apply State.postLog_fr
         | with_reducible apply State.flag_fr
         | split))

theorem State.cutUpdate_fr (s : State) (hF : within 60817414 F = true) (h : Fr F v s) :
    Fr F v (State.cutUpdate s) := by
  unfold State.cutUpdate
  repeat' (first
    | with_reducible assumption
    | exact within_trans hF rfl
    | exact bit_within hF rfl
    | with_reducible intro _
    | with_reducible apply fr_ite
    | with_reducible apply State.set_fr
    | with_reducible apply State.faultRow_fr
    | split
    | dsimp only
    | (with_reducible apply fr_upd; exact bit_within hF rfl
       first
         | with_reducible assumption
         | with_reducible apply fr_ite
         | with_reducible apply State.set_fr
         | with_reducible apply State.faultRow_fr
         | split))

theorem State.deriveKeys_fr (s : State) (hF : within 8192 F = true) (h : Fr F v s) :
    Fr F v (State.deriveKeys s) := by
  unfold State.deriveKeys
  repeat' (first
    | with_reducible assumption
    | exact within_trans hF rfl
    | exact bit_within hF rfl
    | with_reducible intro _
    | with_reducible apply fr_ite
    | split
    | dsimp only
    | (with_reducible apply fr_sec; exact bit_within hF rfl
       first
         | with_reducible assumption
         | with_reducible apply fr_ite
         | split))

theorem State.checkKeys_fr (s : State) (tagFails : BitVec 6) (hF : within 58761222 F = true) (h : Fr F v s) :
    Fr F v (State.checkKeys s tagFails) := by
  unfold State.checkKeys
  repeat' (first
    | with_reducible assumption
    | exact within_trans hF rfl
    | exact bit_within hF rfl
    | with_reducible intro _
    | with_reducible apply fr_ite
    | with_reducible apply State.postLog_fr
    | with_reducible apply State.flag_fr
    | with_reducible apply fr_foldl
    | split
    | dsimp only
    | (with_reducible apply fr_sec; exact bit_within hF rfl; with_reducible apply fr_sec_keyStore; exact bit_within hF rfl
       first
         | with_reducible assumption
         | with_reducible apply fr_ite
         | with_reducible apply State.postLog_fr
         | with_reducible apply State.flag_fr
         | with_reducible apply fr_foldl
         | split))

theorem State.bootBanks_fr (s : State) (hF : within 283674058818566 F = true) (h : Fr F v s) :
    Fr F v (State.bootBanks s) := by
  unfold State.bootBanks
  repeat' (first
    | with_reducible assumption
    | exact within_trans hF rfl
    | exact bit_within hF rfl
    | with_reducible intro _
    | with_reducible apply fr_ite
    | with_reducible apply State.set_fr
    | with_reducible apply State.bump_fr
    | with_reducible apply State.bankFailed_fr
    | with_reducible apply State.startBank_fr
    | with_reducible apply State.openRecovery_fr
    | split
    | dsimp only)

theorem execSecureBoot_fr (roleTagFails : BitVec 4) (otherTagFails : BitVec 2) (s : State) (hF : within 283674195190790 F = true) (h : Fr F v s) :
    FrOut F v (execSecureBoot roleTagFails otherTagFails s) := by
  unfold execSecureBoot
  repeat' (first
    | with_reducible assumption
    | exact within_trans hF rfl
    | exact bit_within hF rfl
    | with_reducible apply frOut_next
    | with_reducible intro _
    | with_reducible apply fr_ite
    | with_reducible apply State.when_fr
    | with_reducible apply State.dropSigning_fr
    | with_reducible apply State.completeLifecycle_fr
    | with_reducible apply State.cutUpdate_fr
    | with_reducible apply State.deriveKeys_fr
    | with_reducible apply State.checkKeys_fr
    | with_reducible apply State.bootBanks_fr
    | split
    | dsimp only
    | (with_reducible apply fr_boot; exact bit_within hF rfl
       first
         | with_reducible assumption
         | with_reducible apply fr_ite
         | with_reducible apply State.when_fr
         | with_reducible apply State.dropSigning_fr
         | with_reducible apply State.completeLifecycle_fr
         | with_reducible apply State.cutUpdate_fr
         | with_reducible apply State.deriveKeys_fr
         | with_reducible apply State.checkKeys_fr
         | with_reducible apply State.bootBanks_fr
         | split))

theorem State.pressBegins_fr (s : State) (tiuTableOk : Bool) (hF : within 52845336331270 F = true) (h : Fr F v s) :
    Fr F v (State.pressBegins s tiuTableOk) := by
  unfold State.pressBegins
  repeat' (first
    | with_reducible assumption
    | exact within_trans hF rfl
    | exact bit_within hF rfl
    | with_reducible intro _
    | with_reducible apply fr_ite
    | with_reducible apply State.set_fr
    | with_reducible apply State.arm_fr
    | with_reducible apply State.postLog_fr
    | with_reducible apply State.flag_fr
    | with_reducible apply State.newWindows_fr
    | with_reducible apply fr_foldl
    | split
    | dsimp only
    | (with_reducible apply fr_power; exact bit_within hF rfl; with_reducible apply fr_hkb; exact bit_within hF rfl; with_reducible apply fr_tiu; exact bit_within hF rfl
       first
         | with_reducible assumption
         | with_reducible apply fr_ite
         | with_reducible apply State.set_fr
         | with_reducible apply State.arm_fr
         | with_reducible apply State.postLog_fr
         | with_reducible apply State.flag_fr
         | with_reducible apply State.newWindows_fr
         | with_reducible apply fr_foldl
         | split))

theorem State.vintnerBegins_fr (s : State) (hF : within 1026 F = true) (h : Fr F v s) :
    Fr F v (State.vintnerBegins s) := by
  unfold State.vintnerBegins
  repeat' (first
    | with_reducible assumption
    | exact within_trans hF rfl
    | exact bit_within hF rfl
    | with_reducible intro _
    | with_reducible apply fr_ite
    | with_reducible apply State.arm_fr
    | split
    | dsimp only
    | (with_reducible apply fr_power; exact bit_within hF rfl
       first
         | with_reducible assumption
         | with_reducible apply fr_ite
         | with_reducible apply State.arm_fr
         | split))

theorem execCoresReady_fr (tiuTableOk : Bool) (s : State) (hF : within 195249276529815 F = true) (h : Fr F v s) :
    FrOut F v (execCoresReady tiuTableOk s) := by
  unfold execCoresReady
  repeat' (first
    | with_reducible assumption
    | exact within_trans hF rfl
    | exact bit_within hF rfl
    | with_reducible apply frOut_next
    | with_reducible intro _
    | with_reducible apply fr_ite
    | with_reducible apply State.set_fr
    | with_reducible apply State.when_fr
    | with_reducible apply State.startDelays_fr
    | with_reducible apply State.twinStart_fr
    | with_reducible apply State.pressBegins_fr
    | with_reducible apply State.vintnerBegins_fr
    | with_reducible apply State.advanceStart_fr
    | split
    | dsimp only
    | (with_reducible apply fr_rail; exact bit_within hF rfl
       first
         | with_reducible assumption
         | with_reducible apply fr_ite
         | with_reducible apply State.set_fr
         | with_reducible apply State.when_fr
         | with_reducible apply State.startDelays_fr
         | with_reducible apply State.twinStart_fr
         | with_reducible apply State.pressBegins_fr
         | with_reducible apply State.vintnerBegins_fr
         | with_reducible apply State.advanceStart_fr
         | split))

theorem execBundleConfirm_fr (s : State) (hF : within 8199 F = true) (h : Fr F v s) :
    FrOut F v (execBundleConfirm s) := by
  unfold execBundleConfirm
  repeat' (first
    | with_reducible assumption
    | exact within_trans hF rfl
    | exact bit_within hF rfl
    | with_reducible apply frOut_next
    | with_reducible intro _
    | with_reducible apply fr_ite
    | with_reducible apply State.set_fr
    | with_reducible apply State.onTimer_fr
    | split
    | dsimp only
    | (with_reducible apply fr_sec; exact bit_within hF rfl
       first
         | with_reducible assumption
         | with_reducible apply fr_ite
         | with_reducible apply State.set_fr
         | with_reducible apply State.onTimer_fr
         | split))

theorem execCounterWriteback_fr (s : State) (hF : within 15 F = true) (h : Fr F v s) :
    FrOut F v (execCounterWriteback s) := by
  unfold execCounterWriteback
  repeat' (first
    | with_reducible assumption
    | exact within_trans hF rfl
    | exact bit_within hF rfl
    | with_reducible apply frOut_next
    | with_reducible intro _
    | with_reducible apply fr_ite
    | with_reducible apply State.arm_fr
    | with_reducible apply State.onTimer_fr
    | with_reducible apply State.writeBack_fr
    | split
    | dsimp only)

end Sys2Proof.Machine
end

