-- ==== Sys2Proof/Laws/FrameSecurity.lean ====
section
/-!
SUPPORT. The frames of the functions of Sys2Proof/Machine/Security.lean, one lemma for each of them (Laws/Frame.lean).
-/

namespace Sys2Proof.Machine

set_option linter.unusedTactic false
set_option linter.unreachableTactic false
set_option linter.unusedVariables false

open Sys2Proof

variable {F : Nat} {v : State}

theorem State.eraseKeys_fr (s : State) (ok : Bool) (hF : within 281475004342278 F = true) (h : Fr F v s) :
    Fr F v (State.eraseKeys s ok) := by
  unfold State.eraseKeys
  repeat' (first
    | with_reducible assumption
    | exact within_trans hF rfl
    | exact bit_within hF rfl
    | with_reducible intro _
    | with_reducible apply fr_ite
    | with_reducible apply State.endSessions_fr
    | split
    | dsimp only
    | (with_reducible apply fr_sec; exact bit_within hF rfl; with_reducible apply fr_sec_keyStore; exact bit_within hF rfl; with_reducible apply fr_free; exact bit_within hF rfl
       first
         | with_reducible assumption
         | with_reducible apply fr_ite
         | with_reducible apply State.endSessions_fr
         | split))

theorem State.beginLifecycle_fr (s : State) (target origin : Nat) (hF : within 8198 F = true) (h : Fr F v s) :
    Fr F v (State.beginLifecycle s target origin) := by
  unfold State.beginLifecycle
  repeat' (first
    | with_reducible assumption
    | exact within_trans hF rfl
    | exact bit_within hF rfl
    | with_reducible intro _
    | with_reducible apply fr_ite
    | with_reducible apply State.arm_fr
    | with_reducible apply State.endDebug_fr
    | split
    | dsimp only
    | (with_reducible apply fr_sec; exact bit_within hF rfl
       first
         | with_reducible assumption
         | with_reducible apply fr_ite
         | with_reducible apply State.arm_fr
         | with_reducible apply State.endDebug_fr
         | split))

theorem State.lifecycleWrite_fr (s : State) (c : Caller) (req : Bytes) (target : Nat) (hF : within 281475042091014 F = true) (h : Fr F v s) :
    Fr F v (State.lifecycleWrite s c req target) := by
  unfold State.lifecycleWrite
  repeat' (first
    | with_reducible assumption
    | exact within_trans hF rfl
    | exact bit_within hF rfl
    | with_reducible intro _
    | with_reducible apply fr_ite
    | with_reducible apply State.abort_fr
    | with_reducible apply State.done_fr
    | with_reducible apply State.eraseKeys_fr
    | with_reducible apply State.beginLifecycle_fr
    | split
    | dsimp only)

theorem execLifecycleTransition_fr (s : State) (hF : within 562933041852407 F = true) (h : Fr F v s) :
    FrOut F v (execLifecycleTransition s) := by
  unfold execLifecycleTransition
  repeat' (first
    | with_reducible assumption
    | exact within_trans hF rfl
    | exact bit_within hF rfl
    | with_reducible apply frOut_next
    | with_reducible intro _
    | with_reducible apply fr_ite
    | with_reducible apply State.onTimer_fr
    | with_reducible apply State.blowLifecycle_fr
    | with_reducible apply State.restart_fr
    | split
    | dsimp only)

theorem State.keyWrite_fr (s : State) (c : Caller) (req : Bytes) (which index sub : Nat) (value : Bytes) (hF : within 63021062 F = true) (h : Fr F v s) :
    Fr F v (State.keyWrite s c req which index sub value) := by
  unfold State.keyWrite
  repeat' (first
    | with_reducible assumption
    | exact within_trans hF rfl
    | exact bit_within hF rfl
    | with_reducible intro _
    | with_reducible apply fr_ite
    | with_reducible apply State.sealKey_fr
    | with_reducible apply State.abort_fr
    | with_reducible apply State.done_fr
    | split
    | dsimp only)

theorem State.activity_fr (s : State) (hF : within 2 F = true) (h : Fr F v s) :
    Fr F v (State.activity s) := by
  unfold State.activity
  repeat' (first
    | with_reducible assumption
    | exact within_trans hF rfl
    | exact bit_within hF rfl
    | with_reducible intro _
    | with_reducible apply fr_ite
    | with_reducible apply State.arm_fr
    | split
    | dsimp only)

theorem State.sessionOpen_fr (s : State) (c : Caller) (req : Bytes) (role version peer nc : Nat) (hF : within 281475039698950 F = true) (h : Fr F v s) :
    Fr F v (State.sessionOpen s c req role version peer nc) := by
  unfold State.sessionOpen
  repeat' (first
    | with_reducible assumption
    | exact within_trans hF rfl
    | exact bit_within hF rfl
    | with_reducible intro _
    | with_reducible apply fr_ite
    | with_reducible apply fr_ite_snd
    | with_reducible apply State.arm_fr
    | with_reducible apply State.draw_fr
    | with_reducible apply State.drawRandom_fr
    | with_reducible apply State.abort_fr
    | with_reducible apply State.answer_fr
    | with_reducible apply State.activity_fr
    | split
    | dsimp only
    | (with_reducible apply fr_sec; exact bit_within hF rfl; with_reducible apply fr_sec_sessions; exact bit_within hF rfl
       first
         | with_reducible assumption
         | with_reducible apply fr_ite
         | with_reducible apply fr_ite_snd
         | with_reducible apply State.arm_fr
         | with_reducible apply State.draw_fr
         | with_reducible apply State.drawRandom_fr
         | with_reducible apply State.abort_fr
         | with_reducible apply State.answer_fr
         | with_reducible apply State.activity_fr
         | split))

theorem State.handshakeFailed_fr (s : State) (role : Nat) (hF : within 58728454 F = true) (h : Fr F v s) :
    Fr F v (State.handshakeFailed s role) := by
  unfold State.handshakeFailed
  repeat' (first
    | with_reducible assumption
    | exact within_trans hF rfl
    | exact bit_within hF rfl
    | with_reducible intro _
    | with_reducible apply fr_ite
    | with_reducible apply State.set_fr
    | with_reducible apply State.arm_fr
    | with_reducible apply State.faultRow_fr
    | split
    | dsimp only
    | (with_reducible apply fr_sec; exact bit_within hF rfl
       first
         | with_reducible assumption
         | with_reducible apply fr_ite
         | with_reducible apply State.set_fr
         | with_reducible apply State.arm_fr
         | with_reducible apply State.faultRow_fr
         | split))

theorem State.dropHalf_fr (s : State) (slot : Nat) (hF : within 73730 F = true) (h : Fr F v s) :
    Fr F v (State.dropHalf s slot) := by
  unfold State.dropHalf
  repeat' (first
    | with_reducible assumption
    | exact within_trans hF rfl
    | exact bit_within hF rfl
    | with_reducible intro _
    | with_reducible apply fr_ite
    | with_reducible apply State.disarm_fr
    | split
    | dsimp only
    | (with_reducible apply fr_sec; exact bit_within hF rfl; with_reducible apply fr_sec_sessions; exact bit_within hF rfl
       first
         | with_reducible assumption
         | with_reducible apply fr_ite
         | with_reducible apply State.disarm_fr
         | split))

theorem State.acceptSession_fr (s : State) (x : Session) (hF : within 73730 F = true) (h : Fr F v s) :
    Fr F v (State.acceptSession s x) := by
  unfold State.acceptSession
  repeat' (first
    | with_reducible assumption
    | exact within_trans hF rfl
    | exact bit_within hF rfl
    | with_reducible intro _
    | with_reducible apply fr_ite
    | with_reducible apply State.disarm_fr
    | with_reducible apply State.arm_fr
    | split
    | dsimp only
    | (with_reducible apply fr_sec; exact bit_within hF rfl; with_reducible apply fr_sec_sessions; exact bit_within hF rfl
       first
         | with_reducible assumption
         | with_reducible apply fr_ite
         | with_reducible apply State.disarm_fr
         | with_reducible apply State.arm_fr
         | split))

theorem State.sessionConfirm_fr (s : State) (c : Caller) (sid tagC : Nat) (hF : within 62988294 F = true) (h : Fr F v s) :
    Fr F v (State.sessionConfirm s c sid tagC) := by
  unfold State.sessionConfirm
  repeat' (first
    | with_reducible assumption
    | exact within_trans hF rfl
    | exact bit_within hF rfl
    | with_reducible intro _
    | with_reducible apply fr_ite
    | with_reducible apply State.answer_fr
    | with_reducible apply State.activity_fr
    | with_reducible apply State.handshakeFailed_fr
    | with_reducible apply State.dropHalf_fr
    | with_reducible apply State.acceptSession_fr
    | split
    | dsimp only)

theorem execHandshakeTimeout_fr (slot : Fin 8) (s : State) (hF : within 58793991 F = true) (h : Fr F v s) :
    FrOut F v (execHandshakeTimeout slot s) := by
  unfold execHandshakeTimeout
  repeat' (first
    | with_reducible assumption
    | exact within_trans hF rfl
    | exact bit_within hF rfl
    | with_reducible apply frOut_next
    | with_reducible intro _
    | with_reducible apply fr_ite
    | with_reducible apply State.onTimer_fr
    | with_reducible apply State.handshakeFailed_fr
    | with_reducible apply State.dropHalf_fr
    | split
    | dsimp only)

theorem execRoleLockoutExpiry_fr (role : Fin 4) (s : State) (hF : within 7 F = true) (h : Fr F v s) :
    FrOut F v (execRoleLockoutExpiry role s) := by
  unfold execRoleLockoutExpiry
  repeat' (first
    | with_reducible assumption
    | exact within_trans hF rfl
    | exact bit_within hF rfl
    | with_reducible apply frOut_next
    | with_reducible intro _
    | with_reducible apply fr_ite
    | with_reducible apply State.set_fr
    | with_reducible apply State.onTimer_fr
    | split
    | dsimp only)

theorem execSessionIdleTimeout_fr (slot : Fin 8) (s : State) (hF : within 27598855 F = true) (h : Fr F v s) :
    FrOut F v (execSessionIdleTimeout slot s) := by
  unfold execSessionIdleTimeout
  repeat' (first
    | with_reducible assumption
    | exact within_trans hF rfl
    | exact bit_within hF rfl
    | with_reducible apply frOut_next
    | with_reducible intro _
    | with_reducible apply fr_ite
    | with_reducible apply State.onTimer_fr
    | with_reducible apply State.endSession_fr
    | split
    | dsimp only)

theorem execSessionLifetimeExpiry_fr (slot : Fin 8) (s : State) (hF : within 27598855 F = true) (h : Fr F v s) :
    FrOut F v (execSessionLifetimeExpiry slot s) := by
  unfold execSessionLifetimeExpiry
  repeat' (first
    | with_reducible assumption
    | exact within_trans hF rfl
    | exact bit_within hF rfl
    | with_reducible apply frOut_next
    | with_reducible intro _
    | with_reducible apply fr_ite
    | with_reducible apply State.onTimer_fr
    | with_reducible apply State.endSession_fr
    | split
    | dsimp only)

theorem State.setDebug_fr (s : State) (level : Nat) (owner : Option Nat) (hF : within 8198 F = true) (h : Fr F v s) :
    Fr F v (State.setDebug s level owner) := by
  unfold State.setDebug
  repeat' (first
    | with_reducible assumption
    | exact within_trans hF rfl
    | exact bit_within hF rfl
    | with_reducible intro _
    | with_reducible apply fr_ite
    | with_reducible apply State.set_fr
    | with_reducible apply State.arm_fr
    | with_reducible apply State.endDebug_fr
    | split
    | dsimp only
    | (with_reducible apply fr_sec; exact bit_within hF rfl
       first
         | with_reducible assumption
         | with_reducible apply fr_ite
         | with_reducible apply State.set_fr
         | with_reducible apply State.arm_fr
         | with_reducible apply State.endDebug_fr
         | split))

theorem State.debugWrite_fr (s : State) (c : Caller) (level : Nat) (hF : within 54599686 F = true) (h : Fr F v s) :
    Fr F v (State.debugWrite s c level) := by
  unfold State.debugWrite
  repeat' (first
    | with_reducible assumption
    | exact within_trans hF rfl
    | exact bit_within hF rfl
    | with_reducible intro _
    | with_reducible apply fr_ite
    | with_reducible apply State.done_fr
    | with_reducible apply State.setDebug_fr
    | split
    | dsimp only)

theorem State.tokenWrite_fr (s : State) (c : Caller) (req : Bytes) (t : Bytes) (hF : within 281475042091014 F = true) (h : Fr F v s) :
    Fr F v (State.tokenWrite s c req t) := by
  unfold State.tokenWrite
  repeat' (first
    | with_reducible assumption
    | exact within_trans hF rfl
    | exact bit_within hF rfl
    | with_reducible intro _
    | with_reducible apply fr_ite
    | with_reducible apply State.abort_fr
    | with_reducible apply State.done_fr
    | with_reducible apply State.eraseKeys_fr
    | with_reducible apply State.beginLifecycle_fr
    | with_reducible apply State.setDebug_fr
    | split
    | dsimp only)

theorem State.newChallenge_fr (s : State) (hF : within 281474976718848 F = true) (h : Fr F v s) :
    Fr F v (State.newChallenge s).2 := by
  unfold State.newChallenge
  repeat' (first
    | with_reducible assumption
    | exact within_trans hF rfl
    | exact bit_within hF rfl
    | with_reducible intro _
    | with_reducible apply fr_ite
    | with_reducible apply fr_ite_snd
    | with_reducible apply State.drawRandom_fr
    | split
    | dsimp only
    | (with_reducible apply fr_sec; exact bit_within hF rfl
       first
         | with_reducible assumption
         | with_reducible apply fr_ite
         | with_reducible apply fr_ite_snd
         | with_reducible apply State.drawRandom_fr
         | split))

theorem execDebugTimeout_fr (s : State) (hF : within 8199 F = true) (h : Fr F v s) :
    FrOut F v (execDebugTimeout s) := by
  unfold execDebugTimeout
  repeat' (first
    | with_reducible assumption
    | exact within_trans hF rfl
    | exact bit_within hF rfl
    | with_reducible apply frOut_next
    | with_reducible intro _
    | with_reducible apply fr_ite
    | with_reducible apply State.onTimer_fr
    | with_reducible apply State.endDebug_fr
    | split
    | dsimp only)

theorem execDebugHalt_fr (c : CoreId) (s : State) (hF : within 1168231112918 F = true) (h : Fr F v s) :
    FrOut F v (execDebugHalt c s) := by
  unfold execDebugHalt
  repeat' (first
    | with_reducible assumption
    | exact within_trans hF rfl
    | exact bit_within hF rfl
    | with_reducible apply frOut_next
    | with_reducible intro _
    | with_reducible apply fr_ite
    | with_reducible apply State.disarm_fr
    | with_reducible apply State.when_fr
    | with_reducible apply State.hardMute_fr
    | with_reducible apply State.paOff_fr
    | split
    | dsimp only
    | (with_reducible apply fr_sec; exact bit_within hF rfl
       first
         | with_reducible assumption
         | with_reducible apply fr_ite
         | with_reducible apply State.disarm_fr
         | with_reducible apply State.when_fr
         | with_reducible apply State.hardMute_fr
         | with_reducible apply State.paOff_fr
         | split))

theorem execDebugResume_fr (c : CoreId) (s : State) (hF : within 8194 F = true) (h : Fr F v s) :
    FrOut F v (execDebugResume c s) := by
  unfold execDebugResume
  repeat' (first
    | with_reducible assumption
    | exact within_trans hF rfl
    | exact bit_within hF rfl
    | with_reducible apply frOut_next
    | with_reducible intro _
    | with_reducible apply fr_ite
    | with_reducible apply State.arm_fr
    | with_reducible apply State.when_fr
    | split
    | dsimp only
    | (with_reducible apply fr_sec; exact bit_within hF rfl
       first
         | with_reducible assumption
         | with_reducible apply fr_ite
         | with_reducible apply State.arm_fr
         | with_reducible apply State.when_fr
         | split))

theorem execIdcode_fr (s : State) (hF : within 8192 F = true) (h : Fr F v s) :
    FrOut F v (execIdcode s) := by
  unfold execIdcode
  repeat' (first
    | with_reducible assumption
    | exact within_trans hF rfl
    | exact bit_within hF rfl
    | with_reducible apply frOut_next
    | with_reducible intro _
    | with_reducible apply fr_ite
    | with_reducible apply State.when_fr
    | split
    | dsimp only
    | (with_reducible apply fr_sec; exact bit_within hF rfl
       first
         | with_reducible assumption
         | with_reducible apply fr_ite
         | with_reducible apply State.when_fr
         | split))

theorem execBypass_fr (tdi : Bool) (s : State) (hF : within 8208 F = true) (h : Fr F v s) :
    FrOut F v (execBypass tdi s) := by
  unfold execBypass
  repeat' (first
    | with_reducible assumption
    | exact within_trans hF rfl
    | exact bit_within hF rfl
    | with_reducible apply frOut_next
    | with_reducible intro _
    | with_reducible apply fr_ite
    | with_reducible apply State.when_fr
    | split
    | dsimp only
    | (with_reducible apply fr_pins; exact bit_within hF rfl; with_reducible apply fr_sec; exact bit_within hF rfl
       first
         | with_reducible assumption
         | with_reducible apply fr_ite
         | with_reducible apply State.when_fr
         | split))

theorem execSamplePreload_fr (s : State) (hF : within 8192 F = true) (h : Fr F v s) :
    FrOut F v (execSamplePreload s) := by
  unfold execSamplePreload
  repeat' (first
    | with_reducible assumption
    | exact within_trans hF rfl
    | exact bit_within hF rfl
    | with_reducible apply frOut_next
    | with_reducible intro _
    | with_reducible apply fr_ite
    | with_reducible apply State.when_fr
    | split
    | dsimp only
    | (with_reducible apply fr_sec; exact bit_within hF rfl
       first
         | with_reducible assumption
         | with_reducible apply fr_ite
         | with_reducible apply State.when_fr
         | split))

theorem execExtest_fr (cells : BitVec 64) (s : State) (hF : within 8720 F = true) (h : Fr F v s) :
    FrOut F v (execExtest cells s) := by
  unfold execExtest
  repeat' (first
    | with_reducible assumption
    | exact within_trans hF rfl
    | exact bit_within hF rfl
    | with_reducible apply frOut_next
    | with_reducible intro _
    | with_reducible apply fr_ite
    | with_reducible apply State.when_fr
    | split
    | dsimp only
    | (with_reducible apply fr_pins; exact bit_within hF rfl; with_reducible apply fr_pins_twinAct; exact bit_within hF rfl; with_reducible apply fr_sec; exact bit_within hF rfl
       first
         | with_reducible assumption
         | with_reducible apply fr_ite
         | with_reducible apply State.when_fr
         | split))

theorem execEntropyFail_fr (s : State) (hF : within 58728454 F = true) (h : Fr F v s) :
    FrOut F v (execEntropyFail s) := by
  unfold execEntropyFail
  repeat' (first
    | with_reducible assumption
    | exact within_trans hF rfl
    | exact bit_within hF rfl
    | with_reducible apply frOut_next
    | with_reducible intro _
    | with_reducible apply fr_ite
    | with_reducible apply State.arm_fr
    | with_reducible apply State.when_fr
    | with_reducible apply State.faultRow_fr
    | split
    | dsimp only
    | (with_reducible apply fr_sec; exact bit_within hF rfl
       first
         | with_reducible assumption
         | with_reducible apply fr_ite
         | with_reducible apply State.arm_fr
         | with_reducible apply State.when_fr
         | with_reducible apply State.faultRow_fr
         | split))

theorem execEntropyRetest_fr (pass : Bool) (s : State) (hF : within 283673999974407 F = true) (h : Fr F v s) :
    FrOut F v (execEntropyRetest pass s) := by
  unfold execEntropyRetest
  repeat' (first
    | with_reducible assumption
    | exact within_trans hF rfl
    | exact bit_within hF rfl
    | with_reducible apply frOut_next
    | with_reducible intro _
    | with_reducible apply fr_ite
    | with_reducible apply State.arm_fr
    | with_reducible apply State.onTimer_fr
    | with_reducible apply State.signLate_fr
    | split
    | dsimp only
    | (with_reducible apply fr_sec; exact bit_within hF rfl
       first
         | with_reducible assumption
         | with_reducible apply fr_ite
         | with_reducible apply State.arm_fr
         | with_reducible apply State.onTimer_fr
         | with_reducible apply State.signLate_fr
         | split))

theorem State.nextSignature_fr (s : State) (hF : within 2199081975814 F = true) (h : Fr F v s) :
    Fr F v (State.nextSignature s) := by
  unfold State.nextSignature
  repeat' (first
    | with_reducible assumption
    | exact within_trans hF rfl
    | exact bit_within hF rfl
    | with_reducible intro _
    | with_reducible apply fr_ite
    | with_reducible apply State.askSignature_fr
    | split
    | dsimp only
    | (with_reducible apply fr_net; exact bit_within hF rfl
       first
         | with_reducible assumption
         | with_reducible apply fr_ite
         | with_reducible apply State.askSignature_fr
         | split))

theorem execReceiptSigned_fr (inTime : Bool) (s : State) (hF : within 283674058686471 F = true) (h : Fr F v s) :
    FrOut F v (execReceiptSigned inTime s) := by
  unfold execReceiptSigned
  repeat' (first
    | with_reducible assumption
    | exact within_trans hF rfl
    | exact bit_within hF rfl
    | with_reducible apply frOut_next
    | with_reducible intro _
    | with_reducible apply fr_ite
    | with_reducible apply State.disarm_fr
    | with_reducible apply State.onTimer_fr
    | with_reducible apply State.when_fr
    | with_reducible apply State.leaveUnsigned_fr
    | with_reducible apply State.signReceipt_fr
    | with_reducible apply State.nextSignature_fr
    | split
    | dsimp only
    | (with_reducible apply fr_net; exact bit_within hF rfl
       first
         | with_reducible assumption
         | with_reducible apply fr_ite
         | with_reducible apply State.disarm_fr
         | with_reducible apply State.onTimer_fr
         | with_reducible apply State.when_fr
         | with_reducible apply State.leaveUnsigned_fr
         | with_reducible apply State.signReceipt_fr
         | with_reducible apply State.nextSignature_fr
         | split))

end Sys2Proof.Machine
end

