-- ==== Sys2Proof/Laws/FrameSticky.lean ====
section
/-!
SUPPORT. The frames of the functions of Sys2Proof/Machine/Sticky.lean, one lemma for each of them (Laws/Frame.lean).
-/

namespace Sys2Proof.Machine

set_option linter.unusedTactic false
set_option linter.unreachableTactic false
set_option linter.unusedVariables false

open Sys2Proof

variable {F : Nat} {v : State}

theorem State.clearFlags_fr (s : State) (k mask : Nat) (hF : within 4 F = true) (h : Fr F v s) :
    Fr F v (State.clearFlags s k mask).2 := by
  unfold State.clearFlags
  repeat' (first
    | with_reducible assumption
    | exact within_trans hF rfl
    | exact bit_within hF rfl
    | with_reducible intro _
    | with_reducible apply fr_ite
    | with_reducible apply fr_ite_snd
    | with_reducible apply State.set_fr
    | split
    | dsimp only)

theorem State.stickyClear_fr (s : State) (role : Option Nat) (peer k mask : Nat) (hF : within 58720262 F = true) (h : Fr F v s) :
    Fr F v (State.stickyClear s role peer k mask) := by
  unfold State.stickyClear
  repeat' (first
    | with_reducible assumption
    | exact within_trans hF rfl
    | exact bit_within hF rfl
    | with_reducible intro _
    | with_reducible apply fr_ite
    | with_reducible apply fr_ite_snd
    | with_reducible apply State.log_fr
    | with_reducible apply State.noteSummary_fr
    | with_reducible apply State.clearFlags_fr
    | split
    | dsimp only)

theorem State.stickyClearAll_fr (s : State) (role : Option Nat) (peer : Nat) (hF : within 58720262 F = true) (h : Fr F v s) :
    Fr F v (s.stickyClearAll role peer) := by
  unfold State.stickyClearAll
  dsimp only
  refine fr_ite h (State.noteSummary_fr _ (within_trans hF rfl) (State.log_fr _ _ _ _ _ _ (within_trans hF rfl)
    (fr_foldl_snd (fun a k ha => ?_) h)))
  try dsimp only
  split
  · exact ha
  · exact State.clearFlags_fr _ _ _ (within_trans hF rfl) ha

end Sys2Proof.Machine
end

