-- ==== Sys2Proof/Laws/FrameActions.lean ====
section
/-!
SUPPORT. The frames of the functions of Sys2Proof/Machine/Actions.lean, one lemma for each of them (Laws/Frame.lean).
-/

namespace Sys2Proof.Machine

set_option linter.unusedTactic false
set_option linter.unreachableTactic false
set_option linter.unusedVariables false

open Sys2Proof

variable {F : Nat} {v : State}

theorem State.setBank_fr (s : State) (bank : Nat) (m : List Host.Cell) (hF : within 12884901888 F = true) (h : Fr F v s) :
    Fr F v (State.setBank s bank m) := by
  unfold State.setBank
  repeat' (first
    | with_reducible assumption
    | exact within_trans hF rfl
    | exact bit_within hF rfl
    | with_reducible intro _
    | with_reducible apply fr_ite
    | split
    | dsimp only
    | (with_reducible apply fr_mems_bankA; exact bit_within hF rfl; with_reducible apply fr_mems_bankB; exact bit_within hF rfl
       first
         | with_reducible assumption
         | with_reducible apply fr_ite
         | split))

theorem State.beginUpdate_fr (s : State) (length : Nat) (hF : within 12886999044 F = true) (h : Fr F v s) :
    Fr F v (State.beginUpdate s length) := by
  unfold State.beginUpdate
  repeat' (first
    | with_reducible assumption
    | exact within_trans hF rfl
    | exact bit_within hF rfl
    | with_reducible intro _
    | with_reducible apply fr_ite
    | with_reducible apply State.set_fr
    | with_reducible apply State.setBank_fr
    | split
    | dsimp only
    | (with_reducible apply fr_upd; exact bit_within hF rfl
       first
         | with_reducible assumption
         | with_reducible apply fr_ite
         | with_reducible apply State.set_fr
         | with_reducible apply State.setBank_fr
         | split))

theorem State.activateUpdate_fr (s : State) (hF : within 562933041983478 F = true) (h : Fr F v s) :
    Fr F v (State.activateUpdate s) := by
  unfold State.activateUpdate
  repeat' (first
    | with_reducible assumption
    | exact within_trans hF rfl
    | exact bit_within hF rfl
    | with_reducible intro _
    | with_reducible apply fr_ite
    | with_reducible apply State.set_fr
    | with_reducible apply State.restart_fr
    | split
    | dsimp only
    | (with_reducible apply fr_boot; exact bit_within hF rfl
       first
         | with_reducible assumption
         | with_reducible apply fr_ite
         | with_reducible apply State.set_fr
         | with_reducible apply State.restart_fr
         | split))

theorem State.updateVerified_fr (s : State) (hF : within 58720262 F = true) (h : Fr F v s) :
    Fr F v (State.updateVerified s) := by
  unfold State.updateVerified
  repeat' (first
    | with_reducible assumption
    | exact within_trans hF rfl
    | exact bit_within hF rfl
    | with_reducible intro _
    | with_reducible apply fr_ite
    | with_reducible apply State.set_fr
    | with_reducible apply State.faultRow_fr
    | split
    | dsimp only)

theorem State.clearRailStats_fr (s : State) (hF : within 4 F = true) (h : Fr F v s) :
    Fr F v (State.clearRailStats s) := by
  unfold State.clearRailStats
  repeat' (first
    | with_reducible assumption
    | exact within_trans hF rfl
    | exact bit_within hF rfl
    | with_reducible intro _
    | with_reducible apply fr_ite
    | with_reducible apply State.set_fr
    | with_reducible apply fr_foldl
    | split
    | dsimp only)

theorem State.clearLatch_fr (s : State) (hF : within 562933041852406 F = true) (h : Fr F v s) :
    Fr F v (State.clearLatch s) := by
  unfold State.clearLatch
  repeat' (first
    | with_reducible assumption
    | exact within_trans hF rfl
    | exact bit_within hF rfl
    | with_reducible intro _
    | with_reducible apply fr_ite
    | with_reducible apply State.set_fr
    | with_reducible apply State.restart_fr
    | split
    | dsimp only)

theorem State.rebaseline_fr (s : State) (hF : within 70368744177670 F = true) (h : Fr F v s) :
    Fr F v (State.rebaseline s) := by
  unfold State.rebaseline
  repeat' (first
    | with_reducible assumption
    | exact within_trans hF rfl
    | exact bit_within hF rfl
    | with_reducible intro _
    | with_reducible apply fr_ite
    | with_reducible apply State.lidRetakeNow_fr
    | split
    | dsimp only)

theorem State.commandedShutdown_fr (s : State) (hF : within 360210583858390 F = true) (h : Fr F v s) :
    Fr F v (State.commandedShutdown s) := by
  unfold State.commandedShutdown
  repeat' (first
    | with_reducible assumption
    | exact within_trans hF rfl
    | exact bit_within hF rfl
    | with_reducible intro _
    | with_reducible apply fr_ite
    | with_reducible apply State.netTrigger_fr
    | split
    | dsimp only)

theorem State.sampleSeal_fr (s : State) (hF : within 281474976710672 F = true) (h : Fr F v s) :
    Fr F v (State.sampleSeal s) := by
  unfold State.sampleSeal
  repeat' (first
    | with_reducible assumption
    | exact within_trans hF rfl
    | exact bit_within hF rfl
    | with_reducible intro _
    | with_reducible apply fr_ite
    | with_reducible apply fr_ite_snd
    | with_reducible apply State.draw_fr
    | split
    | dsimp only
    | (with_reducible apply fr_pins; exact bit_within hF rfl
       first
         | with_reducible assumption
         | with_reducible apply fr_ite
         | with_reducible apply fr_ite_snd
         | with_reducible apply State.draw_fr
         | split))

theorem State.actUnit_fr (s : State) (k : Nat) (hF : within 562933041852406 F = true) (h : Fr F v s) :
    Fr F v (State.actUnit s k) := by
  unfold State.actUnit
  repeat' (first
    | with_reducible assumption
    | exact within_trans hF rfl
    | exact bit_within hF rfl
    | with_reducible intro _
    | with_reducible apply fr_ite
    | with_reducible apply State.set_fr
    | with_reducible apply State.beginClear_fr
    | with_reducible apply State.armTiu_fr
    | with_reducible apply State.cancelTiu_fr
    | with_reducible apply State.runInit_fr
    | with_reducible apply State.doSync_fr
    | with_reducible apply State.startHandover_fr
    | with_reducible apply State.clearRailStats_fr
    | with_reducible apply State.clearLatch_fr
    | with_reducible apply State.rebaseline_fr
    | with_reducible apply State.commandedShutdown_fr
    | with_reducible apply State.unseal_fr
    | split
    | dsimp only)

theorem State.actCommand_fr (s : State) (c : Caller) (k v' : Nat) (hF : within 562945926885366 F = true) (h : Fr F v s) :
    Fr F v (State.actCommand s c k v') := by
  unfold State.actCommand
  repeat' (first
    | with_reducible assumption
    | exact within_trans hF rfl
    | exact bit_within hF rfl
    | with_reducible intro _
    | with_reducible apply fr_ite
    | with_reducible apply State.set_fr
    | with_reducible apply State.stickyClearAll_fr
    | with_reducible apply State.beginUpdate_fr
    | with_reducible apply State.activateUpdate_fr
    | with_reducible apply State.actUnit_fr
    | split
    | dsimp only
    | (with_reducible apply fr_sec; exact bit_within hF rfl; with_reducible apply fr_upd; exact bit_within hF rfl; with_reducible apply fr_q; exact bit_within hF rfl
       first
         | with_reducible assumption
         | with_reducible apply fr_ite
         | with_reducible apply State.set_fr
         | with_reducible apply State.stickyClearAll_fr
         | with_reducible apply State.beginUpdate_fr
         | with_reducible apply State.activateUpdate_fr
         | with_reducible apply State.actUnit_fr
         | split))

theorem State.actWo_fr (s : State) (c : Caller) (req : Bytes) (k v' : Nat) (value : Bytes) (hF : within 562945926885366 F = true) (h : Fr F v s) :
    Fr F v (State.actWo s c req k v' value) := by
  unfold State.actWo
  repeat' (first
    | with_reducible assumption
    | exact within_trans hF rfl
    | exact bit_within hF rfl
    | with_reducible intro _
    | with_reducible apply fr_ite
    | with_reducible apply State.done_fr
    | with_reducible apply State.deferPower_fr
    | with_reducible apply State.lifecycleWrite_fr
    | with_reducible apply State.keyWrite_fr
    | with_reducible apply State.debugWrite_fr
    | with_reducible apply State.tokenWrite_fr
    | with_reducible apply State.actCommand_fr
    | split
    | dsimp only)

end Sys2Proof.Machine
end

