-- ==== Sys2Proof/Laws/FrameRead.lean ====
section
/-!
SUPPORT. The frames of the functions of Sys2Proof/Machine/Read.lean, one lemma for each of them (Laws/Frame.lean).
-/

namespace Sys2Proof.Machine

set_option linter.unusedTactic false
set_option linter.unreachableTactic false
set_option linter.unusedVariables false

open Sys2Proof

variable {F : Nat} {v : State}

theorem State.readEffect_fr (s : State) (k : Nat) (hF : within 316728068284420 F = true) (h : Fr F v s) :
    Fr F v (State.readEffect s k) := by
  unfold State.readEffect
  repeat' (first
    | with_reducible assumption
    | exact within_trans hF rfl
    | exact bit_within hF rfl
    | with_reducible intro _
    | with_reducible apply fr_ite
    | with_reducible apply fr_ite_snd
    | with_reducible apply State.set_fr
    | with_reducible apply State.draw_fr
    | with_reducible apply State.moveGains_fr
    | with_reducible apply State.newChallenge_fr
    | split
    | dsimp only
    | (with_reducible apply fr_tiu; exact bit_within hF rfl
       first
         | with_reducible assumption
         | with_reducible apply fr_ite
         | with_reducible apply fr_ite_snd
         | with_reducible apply State.set_fr
         | with_reducible apply State.draw_fr
         | with_reducible apply State.moveGains_fr
         | with_reducible apply State.newChallenge_fr
         | split))

theorem State.readIndexEffect_fr (s : State) (index : Nat) (hF : within 316728068284420 F = true) (h : Fr F v s) :
    Fr F v (State.readIndexEffect s index) := by
  unfold State.readIndexEffect
  repeat' (first
    | with_reducible assumption
    | exact within_trans hF rfl
    | exact bit_within hF rfl
    | with_reducible intro _
    | with_reducible apply fr_ite
    | with_reducible apply State.readEffect_fr
    | with_reducible apply fr_foldl
    | split
    | dsimp only)

end Sys2Proof.Machine
end

