-- ==== Sys2Proof/Laws/FrameServe.lean ====
section
/-!
SUPPORT. The frames of the functions of Sys2Proof/Machine/Serve.lean, one lemma for each of them (Laws/Frame.lean).
-/

namespace Sys2Proof.Machine

set_option linter.unusedTactic false
set_option linter.unreachableTactic false
set_option linter.unusedVariables false

open Sys2Proof

variable {F : Nat} {v : State}

theorem State.gated_fr (s : State) (c : Caller) (req : Bytes) (upTo6 later : List (Option Abort)) (f : State → State) (hf : ∀ u, Fr F v u → Fr F v (f u)) (hF : within 62988294 F = true) (h : Fr F v s) :
    Fr F v (State.gated s c req upTo6 later f) := by
  unfold State.gated
  repeat' (first
    | with_reducible assumption
    | exact within_trans hF rfl
    | exact bit_within hF rfl
    | with_reducible intro _
    | with_reducible apply fr_ite
    | with_reducible apply hf
    | with_reducible apply State.abort_fr
    | with_reducible apply State.activity_fr
    | split
    | dsimp only)

theorem State.serveRead_fr (s : State) (c : Caller) (b : Bytes) (hF : within 316728131264518 F = true) (h : Fr F v s) :
    Fr F v (State.serveRead s c b) := by
  unfold State.serveRead
  repeat' (first
    | with_reducible assumption
    | exact within_trans hF rfl
    | exact bit_within hF rfl
    | with_reducible intro _
    | with_reducible apply fr_ite
    | with_reducible apply State.answer_fr
    | with_reducible apply State.readEffect_fr
    | with_reducible apply State.gated_fr
    | split
    | dsimp only)

theorem State.commitOrWait_fr (s : State) (c : Caller) (form : ReplyForm) (fromStage : Option StageId) (es : List (Nat × Nat)) (req : Bytes) (hF : within 76536382562398 F = true) (h : Fr F v s) :
    Fr F v (State.commitOrWait s c form fromStage es req) := by
  unfold State.commitOrWait
  repeat' (first
    | with_reducible assumption
    | exact within_trans hF rfl
    | exact bit_within hF rfl
    | with_reducible intro _
    | with_reducible apply fr_ite
    | with_reducible apply State.abort_fr
    | with_reducible apply State.tryCommit_fr
    | split
    | dsimp only
    | (with_reducible apply fr_eng; exact bit_within hF rfl
       first
         | with_reducible assumption
         | with_reducible apply fr_ite
         | with_reducible apply State.abort_fr
         | with_reducible apply State.tryCommit_fr
         | split))

theorem State.writeObject_fr (s : State) (c : Caller) (req : Bytes) (d : ObjDef) (k v' : Nat) (value : Bytes) (hF : within 562945926885374 F = true) (h : Fr F v s) :
    Fr F v (State.writeObject s c req d k v' value) := by
  unfold State.writeObject
  repeat' (first
    | with_reducible assumption
    | exact within_trans hF rfl
    | exact bit_within hF rfl
    | with_reducible intro _
    | with_reducible apply fr_ite
    | with_reducible apply State.abort_fr
    | with_reducible apply State.done_fr
    | with_reducible apply State.powerRequest_fr
    | with_reducible apply State.stickyClear_fr
    | with_reducible apply State.sampleSeal_fr
    | with_reducible apply State.actWo_fr
    | with_reducible apply State.commitOrWait_fr
    | split
    | dsimp only)

theorem State.serveWrite_fr (s : State) (c : Caller) (b : Bytes) (hF : within 562945926885374 F = true) (h : Fr F v s) :
    Fr F v (State.serveWrite s c b) := by
  unfold State.serveWrite
  repeat' (first
    | with_reducible assumption
    | exact within_trans hF rfl
    | exact bit_within hF rfl
    | with_reducible intro _
    | with_reducible apply fr_ite
    | with_reducible apply State.abort_fr
    | with_reducible apply State.gated_fr
    | with_reducible apply State.writeObject_fr
    | split
    | dsimp only)

theorem State.stageEntry_fr (s : State) (c : Caller) (b : Bytes) (w : StageId) (k v' : Nat) (hF : within 63250438 F = true) (h : Fr F v s) :
    Fr F v (State.stageEntry s c b w k v') := by
  unfold State.stageEntry
  repeat' (first
    | with_reducible assumption
    | exact within_trans hF rfl
    | exact bit_within hF rfl
    | with_reducible intro _
    | with_reducible apply fr_ite
    | with_reducible apply State.arm_fr
    | with_reducible apply State.flag_fr
    | with_reducible apply State.abort_fr
    | with_reducible apply State.answer_fr
    | with_reducible apply State.setStage_fr
    | split
    | dsimp only)

theorem State.serveStaged_fr (s : State) (c : Caller) (b : Bytes) (hF : within 63250438 F = true) (h : Fr F v s) :
    Fr F v (State.serveStaged s c b) := by
  unfold State.serveStaged
  repeat' (first
    | with_reducible assumption
    | exact within_trans hF rfl
    | exact bit_within hF rfl
    | with_reducible intro _
    | with_reducible apply fr_ite
    | with_reducible apply State.abort_fr
    | with_reducible apply State.gated_fr
    | with_reducible apply State.stageEntry_fr
    | split
    | dsimp only)

theorem State.serveCommit_fr (s : State) (c : Caller) (b : Bytes) (hF : within 76536382562398 F = true) (h : Fr F v s) :
    Fr F v (State.serveCommit s c b) := by
  unfold State.serveCommit
  repeat' (first
    | with_reducible assumption
    | exact within_trans hF rfl
    | exact bit_within hF rfl
    | with_reducible intro _
    | with_reducible apply fr_ite
    | with_reducible apply State.arm_fr
    | with_reducible apply State.abort_fr
    | with_reducible apply State.gated_fr
    | with_reducible apply State.commitOrWait_fr
    | split
    | dsimp only)

theorem State.serveDiscard_fr (s : State) (c : Caller) (b : Bytes) (hF : within 63250438 F = true) (h : Fr F v s) :
    Fr F v (State.serveDiscard s c b) := by
  unfold State.serveDiscard
  repeat' (first
    | with_reducible assumption
    | exact within_trans hF rfl
    | exact bit_within hF rfl
    | with_reducible intro _
    | with_reducible apply fr_ite
    | with_reducible apply State.disarm_fr
    | with_reducible apply State.abort_fr
    | with_reducible apply State.answer_fr
    | with_reducible apply State.setStage_fr
    | with_reducible apply State.gated_fr
    | split
    | dsimp only)

theorem State.setBlock_fr (s : State) (w : Bool) (peer : Nat) (r : Option BlockRun) (hF : within 1572866 F = true) (h : Fr F v s) :
    Fr F v (State.setBlock s w peer r) := by
  unfold State.setBlock
  repeat' (first
    | with_reducible assumption
    | exact within_trans hF rfl
    | exact bit_within hF rfl
    | with_reducible intro _
    | with_reducible apply fr_ite
    | with_reducible apply State.disarm_fr
    | with_reducible apply State.arm_fr
    | split
    | dsimp only
    | (with_reducible apply fr_blockReads; exact bit_within hF rfl; with_reducible apply fr_blockWrites; exact bit_within hF rfl
       first
         | with_reducible assumption
         | with_reducible apply fr_ite
         | with_reducible apply State.disarm_fr
         | with_reducible apply State.arm_fr
         | split))

theorem State.sendBlock_fr (s : State) (c : Caller) (r : BlockRun) (max : Nat) (hF : within 56172550 F = true) (h : Fr F v s) :
    Fr F v (State.sendBlock s c r max) := by
  unfold State.sendBlock
  repeat' (first
    | with_reducible assumption
    | exact within_trans hF rfl
    | exact bit_within hF rfl
    | with_reducible intro _
    | with_reducible apply fr_ite
    | with_reducible apply State.answer_fr
    | with_reducible apply State.setBlock_fr
    | split
    | dsimp only)

theorem State.blockReadStep_fr (s : State) (c : Caller) (b : Bytes) (hF : within 316728132837382 F = true) (h : Fr F v s) :
    Fr F v (State.blockReadStep s c b) := by
  unfold State.blockReadStep
  repeat' (first
    | with_reducible assumption
    | exact within_trans hF rfl
    | exact bit_within hF rfl
    | with_reducible intro _
    | with_reducible apply fr_ite
    | with_reducible apply State.abort_fr
    | with_reducible apply State.readEffect_fr
    | with_reducible apply State.readIndexEffect_fr
    | with_reducible apply State.setBlock_fr
    | with_reducible apply State.sendBlock_fr
    | split
    | dsimp only)

theorem State.serveBlockRead_fr (s : State) (c : Caller) (b : Bytes) (hF : within 316728132837382 F = true) (h : Fr F v s) :
    Fr F v (State.serveBlockRead s c b) := by
  unfold State.serveBlockRead
  repeat' (first
    | with_reducible assumption
    | exact within_trans hF rfl
    | exact bit_within hF rfl
    | with_reducible intro _
    | with_reducible apply fr_ite
    | with_reducible apply State.gated_fr
    | with_reducible apply State.blockReadStep_fr
    | split
    | dsimp only)

theorem State.updateSegment_fr (s : State) (c : Caller) (b : Bytes) (hF : within 65085446 F = true) (h : Fr F v s) :
    Fr F v (State.updateSegment s c b) := by
  unfold State.updateSegment
  repeat' (first
    | with_reducible assumption
    | exact within_trans hF rfl
    | exact bit_within hF rfl
    | with_reducible intro _
    | with_reducible apply fr_ite
    | with_reducible apply State.set_fr
    | with_reducible apply State.arm_fr
    | with_reducible apply State.post_fr
    | with_reducible apply State.abort_fr
    | split
    | dsimp only
    | (with_reducible apply fr_upd; exact bit_within hF rfl
       first
         | with_reducible assumption
         | with_reducible apply fr_ite
         | with_reducible apply State.set_fr
         | with_reducible apply State.arm_fr
         | with_reducible apply State.post_fr
         | with_reducible apply State.abort_fr
         | split))

theorem State.blockHold_fr (s : State) (c : Caller) (b : Bytes) (held : Bytes) (hF : within 562945926885374 F = true) (h : Fr F v s) :
    Fr F v (State.blockHold s c b held) := by
  unfold State.blockHold
  repeat' (first
    | with_reducible assumption
    | exact within_trans hF rfl
    | exact bit_within hF rfl
    | with_reducible intro _
    | with_reducible apply fr_ite
    | with_reducible apply State.abort_fr
    | with_reducible apply State.answer_fr
    | with_reducible apply State.serveWrite_fr
    | with_reducible apply State.setBlock_fr
    | split
    | dsimp only)

theorem State.blockWriteStep_fr (s : State) (c : Caller) (b : Bytes) (hF : within 562945926885374 F = true) (h : Fr F v s) :
    Fr F v (State.blockWriteStep s c b) := by
  unfold State.blockWriteStep
  repeat' (first
    | with_reducible assumption
    | exact within_trans hF rfl
    | exact bit_within hF rfl
    | with_reducible intro _
    | with_reducible apply fr_ite
    | with_reducible apply State.abort_fr
    | with_reducible apply State.setBlock_fr
    | with_reducible apply State.blockHold_fr
    | split
    | dsimp only)

theorem State.serveBlockWrite_fr (s : State) (c : Caller) (b : Bytes) (hF : within 562945926885374 F = true) (h : Fr F v s) :
    Fr F v (State.serveBlockWrite s c b) := by
  unfold State.serveBlockWrite
  repeat' (first
    | with_reducible assumption
    | exact within_trans hF rfl
    | exact bit_within hF rfl
    | with_reducible intro _
    | with_reducible apply fr_ite
    | with_reducible apply State.gated_fr
    | with_reducible apply State.updateSegment_fr
    | with_reducible apply State.blockWriteStep_fr
    | split
    | dsimp only)

theorem State.setAnchor_fr (s : State) (c : Caller) (b : Bytes) (hF : within 50331654 F = true) (h : Fr F v s) :
    Fr F v (State.setAnchor s c b) := by
  unfold State.setAnchor
  repeat' (first
    | with_reducible assumption
    | exact within_trans hF rfl
    | exact bit_within hF rfl
    | with_reducible intro _
    | with_reducible apply fr_ite
    | with_reducible apply State.set_fr
    | with_reducible apply State.log_fr
    | split
    | dsimp only)

theorem State.serveTimeSet_fr (s : State) (c : Caller) (b : Bytes) (hF : within 62988294 F = true) (h : Fr F v s) :
    Fr F v (State.serveTimeSet s c b) := by
  unfold State.serveTimeSet
  repeat' (first
    | with_reducible assumption
    | exact within_trans hF rfl
    | exact bit_within hF rfl
    | with_reducible intro _
    | with_reducible apply fr_ite
    | with_reducible apply State.answer_fr
    | with_reducible apply State.gated_fr
    | with_reducible apply State.setAnchor_fr
    | split
    | dsimp only)

theorem State.takeTimeSet_fr (s : State) (c : Caller) (b : Bytes) (hF : within 50331654 F = true) (h : Fr F v s) :
    Fr F v (State.takeTimeSet s c b) := by
  unfold State.takeTimeSet
  repeat' (first
    | with_reducible assumption
    | exact within_trans hF rfl
    | exact bit_within hF rfl
    | with_reducible intro _
    | with_reducible apply fr_ite
    | with_reducible apply State.activity_fr
    | with_reducible apply State.setAnchor_fr
    | split
    | dsimp only)

theorem State.serveAssign_fr (s : State) (c : Caller) (b : Bytes) (hF : within 76536382562398 F = true) (h : Fr F v s) :
    Fr F v (State.serveAssign s c b) := by
  unfold State.serveAssign
  repeat' (first
    | with_reducible assumption
    | exact within_trans hF rfl
    | exact bit_within hF rfl
    | with_reducible intro _
    | with_reducible apply fr_ite
    | with_reducible apply State.gated_fr
    | with_reducible apply State.commitOrWait_fr
    | split
    | dsimp only)

theorem State.serveBridge_fr (s : State) (c : Caller) (b : Bytes) (hF : within 76536382562398 F = true) (h : Fr F v s) :
    Fr F v (State.serveBridge s c b) := by
  unfold State.serveBridge
  repeat' (first
    | with_reducible assumption
    | exact within_trans hF rfl
    | exact bit_within hF rfl
    | with_reducible intro _
    | with_reducible apply fr_ite
    | with_reducible apply State.answer_fr
    | with_reducible apply State.gated_fr
    | with_reducible apply State.commitOrWait_fr
    | split
    | dsimp only)

theorem State.serveSession_fr (s : State) (c : Caller) (b : Bytes) (hF : within 281475039698950 F = true) (h : Fr F v s) :
    Fr F v (State.serveSession s c b) := by
  unfold State.serveSession
  repeat' (first
    | with_reducible assumption
    | exact within_trans hF rfl
    | exact bit_within hF rfl
    | with_reducible intro _
    | with_reducible apply fr_ite
    | with_reducible apply State.abort_fr
    | with_reducible apply State.sessionOpen_fr
    | with_reducible apply State.sessionConfirm_fr
    | split
    | dsimp only)

theorem State.act_fr (s : State) (c : Caller) (b : Bytes) (hF : within 562945926885374 F = true) (h : Fr F v s) :
    Fr F v (State.act s c b) := by
  unfold State.act
  repeat' (first
    | with_reducible assumption
    | exact within_trans hF rfl
    | exact bit_within hF rfl
    | with_reducible intro _
    | with_reducible apply fr_ite
    | with_reducible apply State.serveRead_fr
    | with_reducible apply State.serveWrite_fr
    | with_reducible apply State.serveStaged_fr
    | with_reducible apply State.serveCommit_fr
    | with_reducible apply State.serveDiscard_fr
    | with_reducible apply State.serveBlockRead_fr
    | with_reducible apply State.serveBlockWrite_fr
    | with_reducible apply State.serveTimeSet_fr
    | with_reducible apply State.serveAssign_fr
    | with_reducible apply State.serveBridge_fr
    | with_reducible apply State.serveSession_fr
    | split
    | dsimp only)

theorem State.serveLater_fr (s : State) (h' : Held) (hF : within 562945926885374 F = true) (h : Fr F v s) :
    Fr F v (State.serveLater s h') := by
  unfold State.serveLater
  repeat' (first
    | with_reducible assumption
    | exact within_trans hF rfl
    | exact bit_within hF rfl
    | with_reducible intro _
    | with_reducible apply fr_ite
    | with_reducible apply State.handle_fr
    | with_reducible apply State.endSpent_fr
    | with_reducible apply State.serveWrite_fr
    | with_reducible apply State.act_fr
    | split
    | dsimp only)

theorem State.serveDeferredPower_fr (s : State) (hF : within 562945926885374 F = true) (h : Fr F v s) :
    Fr F v (State.serveDeferredPower s) := by
  unfold State.serveDeferredPower
  repeat' (first
    | with_reducible assumption
    | exact within_trans hF rfl
    | exact bit_within hF rfl
    | with_reducible intro _
    | with_reducible apply fr_ite
    | with_reducible apply State.serveLater_fr
    | with_reducible apply fr_foldl
    | split
    | dsimp only
    | (with_reducible apply fr_eng; exact bit_within hF rfl
       first
         | with_reducible assumption
         | with_reducible apply fr_ite
         | with_reducible apply State.serveLater_fr
         | with_reducible apply fr_foldl
         | split))

theorem State.serviceDue_fr (s : State) (hF : within 562933041852406 F = true) (h : Fr F v s) :
    Fr F v (State.serviceDue s) := by
  unfold State.serviceDue
  repeat' (first
    | with_reducible assumption
    | exact within_trans hF rfl
    | exact bit_within hF rfl
    | with_reducible intro _
    | with_reducible apply fr_ite
    | with_reducible apply State.disarm_fr
    | with_reducible apply State.serviceOver_fr
    | split
    | dsimp only)

theorem State.serveWaiting_fr (s : State) (hF : within 562945926885374 F = true) (h : Fr F v s) :
    Fr F v (State.serveWaiting s) := by
  unfold State.serveWaiting
  repeat' (first
    | with_reducible assumption
    | exact within_trans hF rfl
    | exact bit_within hF rfl
    | with_reducible intro _
    | with_reducible apply fr_ite
    | with_reducible apply State.serveLater_fr
    | with_reducible apply State.serveDeferredPower_fr
    | with_reducible apply State.serviceDue_fr
    | split
    | dsimp only
    | (with_reducible apply fr_eng; exact bit_within hF rfl
       first
         | with_reducible assumption
         | with_reducible apply fr_ite
         | with_reducible apply State.serveLater_fr
         | with_reducible apply State.serveDeferredPower_fr
         | with_reducible apply State.serviceDue_fr
         | split))

end Sys2Proof.Machine
end

