-- ==== Sys2Proof/Laws/FrameArrive.lean ====
section
/-!
SUPPORT. The frames of the functions of Sys2Proof/Machine/Arrive.lean, one lemma for each of them (Laws/Frame.lean).
-/

namespace Sys2Proof.Machine

set_option linter.unusedTactic false
set_option linter.unreachableTactic false
set_option linter.unusedVariables false

open Sys2Proof

variable {F : Nat} {v : State}

theorem State.groupFails_fr (s : State) (x : Session) (hF : within 61153286 F = true) (h : Fr F v s) :
    Fr F v (State.groupFails s x) := by
  unfold State.groupFails
  repeat' (first
    | with_reducible assumption
    | exact within_trans hF rfl
    | exact bit_within hF rfl
    | with_reducible intro _
    | with_reducible apply fr_ite
    | with_reducible apply State.faultRow_fr
    | with_reducible apply State.setSession_fr
    | with_reducible apply State.endSession_fr
    | split
    | dsimp only)

theorem State.authenticate_fr (s : State) (c : Caller) (sid : Nat) (msg body : Bytes) (hF : within 562945926885374 F = true) (h : Fr F v s) :
    Fr F v (State.authenticate s c sid msg body) := by
  unfold State.authenticate
  repeat' (first
    | with_reducible assumption
    | exact within_trans hF rfl
    | exact bit_within hF rfl
    | with_reducible intro _
    | with_reducible apply fr_ite
    | with_reducible apply State.arm_fr
    | with_reducible apply State.setSession_fr
    | with_reducible apply State.abort_fr
    | with_reducible apply State.act_fr
    | with_reducible apply State.groupFails_fr
    | split
    | dsimp only)

theorem State.serve_fr (s : State) (c : Caller) (claimed : Option Nat) (msg : Bytes) (hF : within 562945926885374 F = true) (h : Fr F v s) :
    Fr F v (State.serve s c claimed msg) := by
  unfold State.serve
  repeat' (first
    | with_reducible assumption
    | exact within_trans hF rfl
    | exact bit_within hF rfl
    | with_reducible intro _
    | with_reducible apply fr_ite
    | with_reducible apply State.abort_fr
    | with_reducible apply State.endSpent_fr
    | with_reducible apply State.act_fr
    | with_reducible apply State.authenticate_fr
    | split
    | dsimp only)

theorem State.tryServe_fr (s t : State) (c : Caller) (claimed : Option Nat) (msg : Bytes)
    (e : s.tryServe c claimed msg = .ok t) (hF : within 562945926885374 F = true) (h : Fr F v s) : Fr F v t := by
  unfold State.tryServe at e
  dsimp only at e
  repeat' split at e
  all_goals first
    | (cases e
       exact State.handle_fr _ _ (fun _ hu => State.serve_fr _ _ _ _ (within_trans hF rfl) hu) (within_trans hF rfl)
         (fr_foldl (fun _ _ hu => State.pass_fr _ _ _ (within_trans hF rfl) hu) h))
    | cases e

theorem State.hold_fr (s : State) (c : Caller) (claimed : Option Nat) (msg : Bytes) (lacks : Nat) (hF : within 17039362 F = true) (h : Fr F v s) :
    Fr F v (State.hold s c claimed msg lacks) := by
  unfold State.hold
  repeat' (first
    | with_reducible assumption
    | exact within_trans hF rfl
    | exact bit_within hF rfl
    | with_reducible intro _
    | with_reducible apply fr_ite
    | with_reducible apply State.arm_fr
    | with_reducible apply State.place_fr
    | split
    | dsimp only
    | (with_reducible apply fr_eng; exact bit_within hF rfl
       first
         | with_reducible assumption
         | with_reducible apply fr_ite
         | with_reducible apply State.arm_fr
         | with_reducible apply State.place_fr
         | split))

theorem State.noteServed_fr (s : State) (c q : Nat) (hF : within 16777216 F = true) (h : Fr F v s) :
    Fr F v (State.noteServed s c q) := by
  unfold State.noteServed
  repeat' (first
    | with_reducible assumption
    | exact within_trans hF rfl
    | exact bit_within hF rfl
    | with_reducible intro _
    | with_reducible apply fr_ite
    | with_reducible apply fr_foldl
    | split
    | dsimp only
    | (with_reducible apply fr_q; exact bit_within hF rfl
       first
         | with_reducible assumption
         | with_reducible apply fr_ite
         | with_reducible apply fr_foldl
         | split))

theorem State.serveOne_fr (s t : State) (e : s.serveOne = some t) (hF : within 562945926885374 F = true) (h : Fr F v s) : Fr F v t := by
  unfold State.serveOne at e
  obtain ⟨x, -, hx⟩ := List.exists_of_findSome?_eq_some e
  dsimp only at hx
  split at hx
  · cases hx
  · split at hx
    · next hu =>
      cases hx
      refine State.tryServe_fr _ _ _ _ _ hu (within_trans hF rfl) ?_
      apply State.disarm_fr _ _ (within_trans hF rfl)
      apply State.disarm_fr _ _ (within_trans hF rfl)
      exact fr_eng (bit_within hF rfl) (State.unqueue_fr _ _ (within_trans hF rfl)
        (State.noteServed_fr _ _ _ (within_trans hF rfl) h))
    · cases hx

theorem State.serveHeldN_fr (k : Nat) (s : State) (hF : within 562945926885374 F = true) (h : Fr F v s) : Fr F v (State.serveHeldN k s) := by
  induction k generalizing s with
  | zero => exact h
  | succ k ih =>
    unfold State.serveHeldN
    split
    · next e => exact ih _ (State.serveOne_fr _ _ e (within_trans hF rfl) h)
    · exact h

theorem State.serveHeld_fr (s : State) (hF : within 562945926885374 F = true) (h : Fr F v s) :
    Fr F v (State.serveHeld s) := by
  unfold State.serveHeld
  repeat' (first
    | with_reducible assumption
    | exact within_trans hF rfl
    | exact bit_within hF rfl
    | with_reducible intro _
    | with_reducible apply fr_ite
    | with_reducible apply State.serveHeldN_fr
    | split
    | dsimp only)

theorem State.setPortEng_fr (s : State) (p : Port) (e : PortEngine) (hF : within 4194304 F = true) (h : Fr F v s) :
    Fr F v (State.setPortEng s p e) := by
  unfold State.setPortEng
  repeat' (first
    | with_reducible assumption
    | exact within_trans hF rfl
    | exact bit_within hF rfl
    | with_reducible intro _
    | with_reducible apply fr_ite
    | split
    | dsimp only
    | (with_reducible apply fr_field; exact bit_within hF rfl
       first
         | with_reducible assumption
         | with_reducible apply fr_ite
         | split))

theorem State.refusalGone_fr (s : State) (hF : within 58720262 F = true) (h : Fr F v s) :
    Fr F v (State.refusalGone s) := by
  unfold State.refusalGone
  repeat' (first
    | with_reducible assumption
    | exact within_trans hF rfl
    | exact bit_within hF rfl
    | with_reducible intro _
    | with_reducible apply fr_ite
    | with_reducible apply State.bump_fr
    | with_reducible apply State.flag_fr
    | split
    | dsimp only)

theorem State.pushRefusal_fr (s : State) (p : Port) (f : CanFrame) (hF : within 62914566 F = true) (h : Fr F v s) :
    Fr F v (State.pushRefusal s p f) := by
  unfold State.pushRefusal
  repeat' (first
    | with_reducible assumption
    | exact within_trans hF rfl
    | exact bit_within hF rfl
    | with_reducible intro _
    | with_reducible apply fr_ite
    | with_reducible apply State.arm_fr
    | with_reducible apply State.setPortEng_fr
    | with_reducible apply State.refusalGone_fr
    | split
    | dsimp only)

theorem State.noteRefusal_fr (s : State) (q : Nat) (late : Bool) (peer : Nat) (hF : within 4 F = true) (h : Fr F v s) :
    Fr F v (State.noteRefusal s q late peer) := by
  unfold State.noteRefusal
  repeat' (first
    | with_reducible assumption
    | exact within_trans hF rfl
    | exact bit_within hF rfl
    | with_reducible intro _
    | with_reducible apply fr_ite
    | with_reducible apply State.set_fr
    | split
    | dsimp only)

theorem State.countRefusal_fr (s : State) (q peer : Nat) (hF : within 58720262 F = true) (h : Fr F v s) :
    Fr F v (State.countRefusal s q peer) := by
  unfold State.countRefusal
  repeat' (first
    | with_reducible assumption
    | exact within_trans hF rfl
    | exact bit_within hF rfl
    | with_reducible intro _
    | with_reducible apply fr_ite
    | with_reducible apply State.bump_fr
    | with_reducible apply State.log_fr
    | with_reducible apply State.flagFirst_fr
    | with_reducible apply State.noteRefusal_fr
    | split
    | dsimp only
    | (with_reducible apply fr_q; exact bit_within hF rfl
       first
         | with_reducible assumption
         | with_reducible apply fr_ite
         | with_reducible apply State.bump_fr
         | with_reducible apply State.log_fr
         | with_reducible apply State.flagFirst_fr
         | with_reducible apply State.noteRefusal_fr
         | split))

theorem State.refuse_fr (s : State) (p : Port) (prio svc own peer tid q : Nat) (req : Bytes) (hF : within 62914566 F = true) (h : Fr F v s) :
    Fr F v (State.refuse s p prio svc own peer tid q req) := by
  unfold State.refuse
  repeat' (first
    | with_reducible assumption
    | exact within_trans hF rfl
    | exact bit_within hF rfl
    | with_reducible intro _
    | with_reducible apply fr_ite
    | with_reducible apply State.pushRefusal_fr
    | with_reducible apply State.countRefusal_fr
    | with_reducible apply fr_foldl
    | split
    | dsimp only)

theorem State.rememberGroup_fr (s : State) (src tid : Nat) (raw : Bytes) (hF : within 4194304 F = true) (h : Fr F v s) :
    Fr F v (State.rememberGroup s src tid raw) := by
  unfold State.rememberGroup
  repeat' (first
    | with_reducible assumption
    | exact within_trans hF rfl
    | exact bit_within hF rfl
    | with_reducible intro _
    | with_reducible apply fr_ite
    | split
    | dsimp only
    | (with_reducible apply fr_field; exact bit_within hF rfl
       first
         | with_reducible assumption
         | with_reducible apply fr_ite
         | split))

theorem State.repeatReply_fr (s : State) (p : Port) (r : Retx) (hF : within 50331654 F = true) (h : Fr F v s) :
    Fr F v (State.repeatReply s p r) := by
  unfold State.repeatReply
  repeat' (first
    | with_reducible assumption
    | exact within_trans hF rfl
    | exact bit_within hF rfl
    | with_reducible intro _
    | with_reducible apply fr_ite
    | with_reducible apply State.sendFrames_fr
    | split
    | dsimp only)

theorem State.takeIn_fr (s : State) (c : Caller) (claimed : Option Nat) (msg : Bytes) (hF : within 562945926885374 F = true) (h : Fr F v s) :
    Fr F v (State.takeIn s c claimed msg) := by
  unfold State.takeIn
  repeat' (first
    | with_reducible assumption
    | exact within_trans hF rfl
    | exact bit_within hF rfl
    | with_reducible intro _
    | with_reducible apply fr_ite
    | with_reducible apply State.pass_fr
    | refine State.tryServe_fr _ _ _ _ _ (by assumption) (within_trans hF rfl) ?_
    | with_reducible apply State.hold_fr
    | with_reducible apply State.noteServed_fr
    | split
    | dsimp only)

theorem State.portRequest_fr (s : State) (c : Caller) (claimed : Option Nat) (msg raw : Bytes) (hF : within 562945926885374 F = true) (h : Fr F v s) :
    Fr F v (State.portRequest s c claimed msg raw) := by
  unfold State.portRequest
  repeat' (first
    | with_reducible assumption
    | exact within_trans hF rfl
    | exact bit_within hF rfl
    | with_reducible intro _
    | with_reducible apply fr_ite
    | with_reducible apply State.abort_fr
    | with_reducible apply State.refuse_fr
    | with_reducible apply State.rememberGroup_fr
    | with_reducible apply State.repeatReply_fr
    | with_reducible apply State.takeIn_fr
    | split
    | dsimp only)

theorem State.hostRequest_fr (s : State) (c : Caller) (claimed : Option Nat) (msg : Bytes) (hF : within 562945926885374 F = true) (h : Fr F v s) :
    Fr F v (State.hostRequest s c claimed msg) := by
  unfold State.hostRequest
  repeat' (first
    | with_reducible assumption
    | exact within_trans hF rfl
    | exact bit_within hF rfl
    | with_reducible intro _
    | with_reducible apply fr_ite
    | with_reducible apply State.abort_fr
    | with_reducible apply State.takeIn_fr
    | split
    | dsimp only)

end Sys2Proof.Machine
end

