-- ==== Sys2Proof/Laws/FrameBand.lean ====
section
/-!
SUPPORT. The frames of the functions of Sys2Proof/Machine/Band.lean, one lemma for each of them (Laws/Frame.lean).
-/

namespace Sys2Proof.Machine

set_option linter.unusedTactic false
set_option linter.unreachableTactic false
set_option linter.unusedVariables false

open Sys2Proof

variable {F : Nat} {v : State}

theorem State.afterRetune_fr (s : State) (d : Dir) (hF : within 76536382562390 F = true) (h : Fr F v s) :
    Fr F v (State.afterRetune s d) := by
  unfold State.afterRetune
  repeat' (first
    | with_reducible assumption
    | exact within_trans hF rfl
    | exact bit_within hF rfl
    | with_reducible intro _
    | with_reducible apply fr_ite
    | with_reducible apply State.nextSeq_fr
    | with_reducible apply State.tryFinish_fr
    | with_reducible apply State.advanceCommit_fr
    | with_reducible apply State.moveDir_fr
    | split
    | dsimp only)

theorem State.lockSeen_fr (s : State) (d : Dir) (hF : within 76536382562390 F = true) (h : Fr F v s) :
    Fr F v (State.lockSeen s d) := by
  unfold State.lockSeen
  repeat' (first
    | with_reducible assumption
    | exact within_trans hF rfl
    | exact bit_within hF rfl
    | with_reducible intro _
    | with_reducible apply fr_ite
    | with_reducible apply State.retuneLocked_fr
    | with_reducible apply State.afterRetune_fr
    | split
    | dsimp only)

theorem State.seqFailed_fr (s : State) (r : FeRun) (bit code : Nat) (payload : Bytes) (hF : within 76536382562390 F = true) (h : Fr F v s) :
    Fr F v (State.seqFailed s r bit code payload) := by
  unfold State.seqFailed
  repeat' (first
    | with_reducible assumption
    | exact within_trans hF rfl
    | exact bit_within hF rfl
    | with_reducible intro _
    | with_reducible apply fr_ite
    | with_reducible apply State.nextSeq_fr
    | with_reducible apply State.failSeq_fr
    | with_reducible apply State.afterRetune_fr
    | split
    | dsimp only)

theorem State.nextEntry_fr (s : State) (r : FeRun) (hF : within 549755813910 F = true) (h : Fr F v s) :
    Fr F v (State.nextEntry s r) := by
  unfold State.nextEntry
  repeat' (first
    | with_reducible assumption
    | exact within_trans hF rfl
    | exact bit_within hF rfl
    | with_reducible intro _
    | with_reducible apply fr_ite
    | with_reducible apply State.seqPlayed_fr
    | with_reducible apply State.nextSeq_fr
    | split
    | dsimp only
    | (with_reducible apply fr_fe; exact bit_within hF rfl
       first
         | with_reducible assumption
         | with_reducible apply fr_ite
         | with_reducible apply State.seqPlayed_fr
         | with_reducible apply State.nextSeq_fr
         | split))

theorem State.playEntry_fr (s : State) (r : FeRun) (received : Nat) (hF : within 76536382562390 F = true) (h : Fr F v s) :
    Fr F v (State.playEntry s r received) := by
  unfold State.playEntry
  repeat' (first
    | with_reducible assumption
    | exact within_trans hF rfl
    | exact bit_within hF rfl
    | with_reducible intro _
    | with_reducible apply fr_ite
    | with_reducible apply State.driveGpio_fr
    | with_reducible apply State.seqFailed_fr
    | with_reducible apply State.nextEntry_fr
    | split
    | dsimp only
    | (with_reducible apply fr_fe; exact bit_within hF rfl
       first
         | with_reducible assumption
         | with_reducible apply fr_ite
         | with_reducible apply State.driveGpio_fr
         | with_reducible apply State.seqFailed_fr
         | with_reducible apply State.nextEntry_fr
         | split))

theorem State.entryWait_fr (s : State) (r : FeRun) (hF : within 5 F = true) (h : Fr F v s) :
    Fr F v (State.entryWait s r) := by
  unfold State.entryWait
  repeat' (first
    | with_reducible assumption
    | exact within_trans hF rfl
    | exact bit_within hF rfl
    | with_reducible intro _
    | with_reducible apply fr_ite
    | with_reducible apply State.elapse_fr
    | split
    | dsimp only)

theorem execFeEntryDone_fr (received : BitVec 32) (s : State) (hF : within 76536382562391 F = true) (h : Fr F v s) :
    FrOut F v (execFeEntryDone received s) := by
  unfold execFeEntryDone
  repeat' (first
    | with_reducible assumption
    | exact within_trans hF rfl
    | exact bit_within hF rfl
    | with_reducible apply frOut_next
    | with_reducible intro _
    | with_reducible apply fr_ite
    | with_reducible apply State.playEntry_fr
    | with_reducible apply State.entryWait_fr
    | split
    | dsimp only)

theorem execLockPoll_fr (d : Dir) (level : Bool) (s : State) (hF : within 76536382562390 F = true) (h : Fr F v s) :
    FrOut F v (execLockPoll d level s) := by
  unfold execLockPoll
  repeat' (first
    | with_reducible assumption
    | exact within_trans hF rfl
    | exact bit_within hF rfl
    | with_reducible apply frOut_next
    | with_reducible intro _
    | with_reducible apply fr_ite
    | with_reducible apply State.when_fr
    | with_reducible apply State.lockSeen_fr
    | split
    | dsimp only)

theorem execLockTimeout_fr (d : Dir) (s : State) (hF : within 76536382562391 F = true) (h : Fr F v s) :
    FrOut F v (execLockTimeout d s) := by
  unfold execLockTimeout
  repeat' (first
    | with_reducible assumption
    | exact within_trans hF rfl
    | exact bit_within hF rfl
    | with_reducible apply frOut_next
    | with_reducible intro _
    | with_reducible apply fr_ite
    | with_reducible apply State.onTimer_fr
    | with_reducible apply State.lockSeen_fr
    | with_reducible apply State.seqFailed_fr
    | split
    | dsimp only)

theorem execFeSequenceReplay_fr (s : State) (hF : within 549755813911 F = true) (h : Fr F v s) :
    FrOut F v (execFeSequenceReplay s) := by
  unfold execFeSequenceReplay
  repeat' (first
    | with_reducible assumption
    | exact within_trans hF rfl
    | exact bit_within hF rfl
    | with_reducible apply frOut_next
    | with_reducible intro _
    | with_reducible apply fr_ite
    | with_reducible apply State.onTimer_fr
    | with_reducible apply State.startSeq_fr
    | with_reducible apply State.seqPlayed_fr
    | split
    | dsimp only)

theorem execLeDetect_fr (d : Dir) (both : Bool) (s : State) (hF : within 68778196998 F = true) (h : Fr F v s) :
    FrOut F v (execLeDetect d both s) := by
  unfold execLeDetect
  repeat' (first
    | with_reducible assumption
    | exact within_trans hF rfl
    | exact bit_within hF rfl
    | with_reducible apply frOut_next
    | with_reducible intro _
    | with_reducible apply fr_ite
    | with_reducible apply State.bump_fr
    | with_reducible apply State.when_fr
    | with_reducible apply State.openGate_fr
    | split
    | dsimp only)

theorem execLeRelease_fr (s : State) (hF : within 1168289824774 F = true) (h : Fr F v s) :
    FrOut F v (execLeRelease s) := by
  unfold execLeRelease
  repeat' (first
    | with_reducible assumption
    | exact within_trans hF rfl
    | exact bit_within hF rfl
    | with_reducible apply frOut_next
    | with_reducible intro _
    | with_reducible apply fr_ite
    | with_reducible apply State.enterGuard_fr
    | with_reducible apply State.endStreak_fr
    | split
    | dsimp only)

theorem State.countMaxHold_fr (s : State) (d : Dir) (hF : within 1099570348038 F = true) (h : Fr F v s) :
    Fr F v (State.countMaxHold s d) := by
  unfold State.countMaxHold
  repeat' (first
    | with_reducible assumption
    | exact within_trans hF rfl
    | exact bit_within hF rfl
    | with_reducible intro _
    | with_reducible apply fr_ite
    | with_reducible apply State.set_fr
    | with_reducible apply State.arm_fr
    | with_reducible apply State.faultRow_fr
    | split
    | dsimp only
    | (with_reducible apply fr_le; exact bit_within hF rfl
       first
         | with_reducible assumption
         | with_reducible apply fr_ite
         | with_reducible apply State.set_fr
         | with_reducible apply State.arm_fr
         | with_reducible apply State.faultRow_fr
         | split))

theorem execLeMaxHold_fr (s : State) (hF : within 1168289824775 F = true) (h : Fr F v s) :
    FrOut F v (execLeMaxHold s) := by
  unfold execLeMaxHold
  repeat' (first
    | with_reducible assumption
    | exact within_trans hF rfl
    | exact bit_within hF rfl
    | with_reducible apply frOut_next
    | with_reducible intro _
    | with_reducible apply fr_ite
    | with_reducible apply State.onTimer_fr
    | with_reducible apply State.log_fr
    | with_reducible apply State.flagFirst_fr
    | with_reducible apply State.enterGuard_fr
    | with_reducible apply State.countMaxHold_fr
    | split
    | dsimp only)

theorem execLeGuardEnd_fr (s : State) (hF : within 7 F = true) (h : Fr F v s) :
    FrOut F v (execLeGuardEnd s) := by
  unfold execLeGuardEnd
  repeat' (first
    | with_reducible assumption
    | exact within_trans hF rfl
    | exact bit_within hF rfl
    | with_reducible apply frOut_next
    | with_reducible intro _
    | with_reducible apply fr_ite
    | with_reducible apply State.set_fr
    | with_reducible apply State.onTimer_fr
    | split
    | dsimp only)

theorem execLeBarEnd_fr (d : Dir) (s : State) (hF : within 7 F = true) (h : Fr F v s) :
    FrOut F v (execLeBarEnd d s) := by
  unfold execLeBarEnd
  repeat' (first
    | with_reducible assumption
    | exact within_trans hF rfl
    | exact bit_within hF rfl
    | with_reducible apply frOut_next
    | with_reducible intro _
    | with_reducible apply fr_ite
    | with_reducible apply State.set_fr
    | with_reducible apply State.onTimer_fr
    | split
    | dsimp only)

end Sys2Proof.Machine
end

