-- ==== Sys2Proof/Laws/FrameField.lean ====
section
/-!
SUPPORT. The frames of the functions of Sys2Proof/Machine/Field.lean, one lemma for each of them (Laws/Frame.lean).
-/

namespace Sys2Proof.Machine

set_option linter.unusedTactic false
set_option linter.unreachableTactic false
set_option linter.unusedVariables false

open Sys2Proof

variable {F : Nat} {v : State}

theorem State.rxDiscard_fr (s : State) (p : Port) (hF : within 4 F = true) (h : Fr F v s) :
    Fr F v (State.rxDiscard s p) := by
  unfold State.rxDiscard
  repeat' (first
    | with_reducible assumption
    | exact within_trans hF rfl
    | exact bit_within hF rfl
    | with_reducible intro _
    | with_reducible apply fr_ite
    | with_reducible apply State.bump_fr
    | split
    | dsimp only)

theorem State.countDrop_fr (s : State) (q : Nat) (hF : within 16777216 F = true) (h : Fr F v s) :
    Fr F v (State.countDrop s q) := by
  unfold State.countDrop
  repeat' (first
    | with_reducible assumption
    | exact within_trans hF rfl
    | exact bit_within hF rfl
    | with_reducible intro _
    | with_reducible apply fr_ite
    | split
    | dsimp only
    | (with_reducible apply fr_q; exact bit_within hF rfl
       first
         | with_reducible assumption
         | with_reducible apply fr_ite
         | split))

theorem State.heard_fr (s : State) (src : Nat) (hF : within 6 F = true) (h : Fr F v s) :
    Fr F v (State.heard s src) := by
  unfold State.heard
  repeat' (first
    | with_reducible assumption
    | exact within_trans hF rfl
    | exact bit_within hF rfl
    | with_reducible intro _
    | with_reducible apply fr_ite
    | with_reducible apply State.set_fr
    | with_reducible apply State.arm_fr
    | split
    | dsimp only)

theorem State.addressConflict_fr (s : State) (hF : within 281475240951814 F = true) (h : Fr F v s) :
    Fr F v (State.addressConflict s) := by
  unfold State.addressConflict
  repeat' (first
    | with_reducible assumption
    | exact within_trans hF rfl
    | exact bit_within hF rfl
    | with_reducible intro _
    | with_reducible apply fr_ite
    | with_reducible apply State.disarm_fr
    | with_reducible apply State.notify_fr
    | with_reducible apply State.faultRow_fr
    | with_reducible apply State.drainLogs_fr
    | split
    | dsimp only
    | (with_reducible apply fr_field; exact bit_within hF rfl
       first
         | with_reducible assumption
         | with_reducible apply fr_ite
         | with_reducible apply State.disarm_fr
         | with_reducible apply State.notify_fr
         | with_reducible apply State.faultRow_fr
         | with_reducible apply State.drainLogs_fr
         | split))

theorem State.armLocate_fr (s : State) (hF : within 2 F = true) (h : Fr F v s) :
    Fr F v (State.armLocate s) := by
  unfold State.armLocate
  repeat' (first
    | with_reducible assumption
    | exact within_trans hF rfl
    | exact bit_within hF rfl
    | with_reducible intro _
    | with_reducible apply fr_ite
    | with_reducible apply State.disarm_fr
    | with_reducible apply State.arm_fr
    | split
    | dsimp only)

theorem State.drawLocate_fr (s : State) (r : LocateRun) (hF : within 281474980904962 F = true) (h : Fr F v s) :
    Fr F v (State.drawLocate s r) := by
  unfold State.drawLocate
  repeat' (first
    | with_reducible assumption
    | exact within_trans hF rfl
    | exact bit_within hF rfl
    | with_reducible intro _
    | with_reducible apply fr_ite
    | with_reducible apply fr_ite_snd
    | with_reducible apply State.draw_fr
    | with_reducible apply State.armLocate_fr
    | split
    | dsimp only
    | (with_reducible apply fr_field; exact bit_within hF rfl
       first
         | with_reducible assumption
         | with_reducible apply fr_ite
         | with_reducible apply fr_ite_snd
         | with_reducible apply State.draw_fr
         | with_reducible apply State.armLocate_fr
         | split))

theorem State.takeQuery_fr (s : State) (p : Port) (requester tid : Nat) (b : Bytes) (hF : within 281474980904962 F = true) (h : Fr F v s) :
    Fr F v (State.takeQuery s p requester tid b) := by
  unfold State.takeQuery
  repeat' (first
    | with_reducible assumption
    | exact within_trans hF rfl
    | exact bit_within hF rfl
    | with_reducible intro _
    | with_reducible apply fr_ite
    | with_reducible apply State.drawLocate_fr
    | split
    | dsimp only)

theorem State.noteSent_fr (s : State) (p : Port) (f : CanFrame) (hF : within 4194304 F = true) (h : Fr F v s) :
    Fr F v (State.noteSent s p f) := by
  unfold State.noteSent
  repeat' (first
    | with_reducible assumption
    | exact within_trans hF rfl
    | exact bit_within hF rfl
    | with_reducible intro _
    | with_reducible apply fr_ite
    | with_reducible apply State.setPortEng_fr
    | split
    | dsimp only)

theorem State.locateDue_fr (s : State) (acked : Bool) (hF : within 281475031236614 F = true) (h : Fr F v s) :
    Fr F v (State.locateDue s acked) := by
  unfold State.locateDue
  repeat' (first
    | with_reducible assumption
    | exact within_trans hF rfl
    | exact bit_within hF rfl
    | with_reducible intro _
    | with_reducible apply fr_ite
    | with_reducible apply State.bump_fr
    | with_reducible apply State.sendFrames_fr
    | with_reducible apply State.remember_fr
    | with_reducible apply State.armLocate_fr
    | with_reducible apply State.drawLocate_fr
    | with_reducible apply State.noteSent_fr
    | with_reducible apply fr_foldl
    | split
    | dsimp only
    | (with_reducible apply fr_field; exact bit_within hF rfl
       first
         | with_reducible assumption
         | with_reducible apply fr_ite
         | with_reducible apply State.bump_fr
         | with_reducible apply State.sendFrames_fr
         | with_reducible apply State.remember_fr
         | with_reducible apply State.armLocate_fr
         | with_reducible apply State.drawLocate_fr
         | with_reducible apply State.noteSent_fr
         | with_reducible apply fr_foldl
         | split))

theorem State.authBroadcast_fr (s : State) (c : Caller) (sid scope : Nat) (msg body : Bytes) (hF : within 61153286 F = true) (h : Fr F v s) :
    Fr F v (State.authBroadcast s c sid scope msg body).2 := by
  unfold State.authBroadcast
  repeat' (first
    | with_reducible assumption
    | exact within_trans hF rfl
    | exact bit_within hF rfl
    | with_reducible intro _
    | with_reducible apply fr_ite
    | with_reducible apply fr_ite_snd
    | with_reducible apply State.arm_fr
    | with_reducible apply State.setSession_fr
    | with_reducible apply State.groupFails_fr
    | split
    | dsimp only)

theorem State.broadcastTime_fr (s : State) (c : Caller) (claimed : Option Nat) (scope : Nat) (msg : Bytes) (hF : within 61153286 F = true) (h : Fr F v s) :
    Fr F v (State.broadcastTime s c claimed scope msg) := by
  unfold State.broadcastTime
  repeat' (first
    | with_reducible assumption
    | exact within_trans hF rfl
    | exact bit_within hF rfl
    | with_reducible intro _
    | with_reducible apply fr_ite
    | with_reducible apply fr_ite_snd
    | with_reducible apply State.endSpent_fr
    | with_reducible apply State.takeTimeSet_fr
    | with_reducible apply State.authBroadcast_fr
    | split
    | dsimp only)

theorem State.takeGroup_fr (s : State) (p : Port) (i : BitVec 29) (tid hop : Nat) (prot : Bool) (msg raw : Bytes) (hF : within 562945926885374 F = true) (h : Fr F v s) :
    Fr F v (State.takeGroup s p i tid hop prot msg raw) := by
  unfold State.takeGroup
  repeat' (first
    | with_reducible assumption
    | exact within_trans hF rfl
    | exact bit_within hF rfl
    | with_reducible intro _
    | with_reducible apply fr_ite
    | with_reducible apply State.handle_fr
    | with_reducible apply State.rememberGroup_fr
    | with_reducible apply State.repeatReply_fr
    | with_reducible apply State.portRequest_fr
    | with_reducible apply State.takeQuery_fr
    | with_reducible apply State.broadcastTime_fr
    | split
    | dsimp only)

theorem State.dropGroup_fr (s : State) (g : Reasm) (hF : within 4194306 F = true) (h : Fr F v s) :
    Fr F v (State.dropGroup s g) := by
  unfold State.dropGroup
  repeat' (first
    | with_reducible assumption
    | exact within_trans hF rfl
    | exact bit_within hF rfl
    | with_reducible intro _
    | with_reducible apply fr_ite
    | with_reducible apply State.disarm_fr
    | split
    | dsimp only
    | (with_reducible apply fr_field; exact bit_within hF rfl
       first
         | with_reducible assumption
         | with_reducible apply fr_ite
         | with_reducible apply State.disarm_fr
         | split))

theorem State.groupAbort_fr (s : State) (p : Port) (i : BitVec 29) (tid : Nat) (body : Bytes) (a : Abort) (hF : within 62988294 F = true) (h : Fr F v s) :
    Fr F v (State.groupAbort s p i tid body a) := by
  unfold State.groupAbort
  repeat' (first
    | with_reducible assumption
    | exact within_trans hF rfl
    | exact bit_within hF rfl
    | with_reducible intro _
    | with_reducible apply fr_ite
    | with_reducible apply State.abort_fr
    | split
    | dsimp only)

theorem State.groupFull_fr (s : State) (p : Port) (i : BitVec 29) (tid q : Nat) (body : Bytes) (hF : within 62914566 F = true) (h : Fr F v s) :
    Fr F v (State.groupFull s p i tid q body) := by
  unfold State.groupFull
  repeat' (first
    | with_reducible assumption
    | exact within_trans hF rfl
    | exact bit_within hF rfl
    | with_reducible intro _
    | with_reducible apply fr_ite
    | with_reducible apply State.refuse_fr
    | with_reducible apply State.countDrop_fr
    | split
    | dsimp only)

theorem State.firstFrame_fr (s : State) (p : Port) (f : CanFrame) (hF : within 562945926885374 F = true) (h : Fr F v s) :
    Fr F v (State.firstFrame s p f) := by
  unfold State.firstFrame
  repeat' (first
    | with_reducible assumption
    | exact within_trans hF rfl
    | exact bit_within hF rfl
    | with_reducible intro _
    | with_reducible apply fr_ite
    | with_reducible apply State.arm_fr
    | with_reducible apply State.takeGroup_fr
    | with_reducible apply State.groupAbort_fr
    | with_reducible apply State.groupFull_fr
    | split
    | dsimp only
    | (with_reducible apply fr_field; exact bit_within hF rfl
       first
         | with_reducible assumption
         | with_reducible apply fr_ite
         | with_reducible apply State.arm_fr
         | with_reducible apply State.takeGroup_fr
         | with_reducible apply State.groupAbort_fr
         | with_reducible apply State.groupFull_fr
         | split))

theorem State.nextFrame_fr (s : State) (g : Reasm) (f : CanFrame) (hF : within 562945926885374 F = true) (h : Fr F v s) :
    Fr F v (State.nextFrame s g f) := by
  unfold State.nextFrame
  repeat' (first
    | with_reducible assumption
    | exact within_trans hF rfl
    | exact bit_within hF rfl
    | with_reducible intro _
    | with_reducible apply fr_ite
    | with_reducible apply State.takeGroup_fr
    | with_reducible apply State.dropGroup_fr
    | with_reducible apply State.groupAbort_fr
    | with_reducible apply State.groupFull_fr
    | split
    | dsimp only
    | (with_reducible apply fr_field; exact bit_within hF rfl
       first
         | with_reducible assumption
         | with_reducible apply fr_ite
         | with_reducible apply State.takeGroup_fr
         | with_reducible apply State.dropGroup_fr
         | with_reducible apply State.groupAbort_fr
         | with_reducible apply State.groupFull_fr
         | split))

theorem State.assemble_fr (s : State) (p : Port) (f : CanFrame) (hF : within 562945926885374 F = true) (h : Fr F v s) :
    Fr F v (State.assemble s p f) := by
  unfold State.assemble
  repeat' (first
    | with_reducible assumption
    | exact within_trans hF rfl
    | exact bit_within hF rfl
    | with_reducible intro _
    | with_reducible apply fr_ite
    | with_reducible apply State.dropGroup_fr
    | with_reducible apply State.groupAbort_fr
    | with_reducible apply State.firstFrame_fr
    | with_reducible apply State.nextFrame_fr
    | split
    | dsimp only)

theorem State.interruptGroup_fr (s : State) (f : CanFrame) (hF : within 62988294 F = true) (h : Fr F v s) :
    Fr F v (State.interruptGroup s f) := by
  unfold State.interruptGroup
  repeat' (first
    | with_reducible assumption
    | exact within_trans hF rfl
    | exact bit_within hF rfl
    | with_reducible intro _
    | with_reducible apply fr_ite
    | with_reducible apply State.dropGroup_fr
    | with_reducible apply State.groupAbort_fr
    | split
    | dsimp only)

theorem State.localFrame_fr (s : State) (p : Port) (f : CanFrame) (hF : within 562945926885374 F = true) (h : Fr F v s) :
    Fr F v (State.localFrame s p f) := by
  unfold State.localFrame
  repeat' (first
    | with_reducible assumption
    | exact within_trans hF rfl
    | exact bit_within hF rfl
    | with_reducible intro _
    | with_reducible apply fr_ite
    | with_reducible apply State.countDrop_fr
    | with_reducible apply State.heard_fr
    | with_reducible apply State.assemble_fr
    | with_reducible apply State.interruptGroup_fr
    | split
    | dsimp only)

theorem State.unreachable_fr (s : State) (p : Port) (f : CanFrame) (hF : within 50331654 F = true) (h : Fr F v s) :
    Fr F v (State.unreachable s p f) := by
  unfold State.unreachable
  repeat' (first
    | with_reducible assumption
    | exact within_trans hF rfl
    | exact bit_within hF rfl
    | with_reducible intro _
    | with_reducible apply fr_ite
    | with_reducible apply State.sendFrames_fr
    | split
    | dsimp only)

theorem State.dropForwarded_fr (s : State) (p : Port) (f : CanFrame) (i : BitVec 29) (q : Nat) (hF : within 20971520 F = true) (h : Fr F v s) :
    Fr F v (State.dropForwarded s p f i q) := by
  unfold State.dropForwarded
  repeat' (first
    | with_reducible assumption
    | exact within_trans hF rfl
    | exact bit_within hF rfl
    | with_reducible intro _
    | with_reducible apply fr_ite
    | split
    | dsimp only
    | (with_reducible apply fr_field; exact bit_within hF rfl; with_reducible apply fr_q; exact bit_within hF rfl
       first
         | with_reducible assumption
         | with_reducible apply fr_ite
         | split))

theorem State.forgetDropped_fr (s : State) (p : Port) (f : CanFrame) (hF : within 4194304 F = true) (h : Fr F v s) :
    Fr F v (State.forgetDropped s p f) := by
  unfold State.forgetDropped
  repeat' (first
    | with_reducible assumption
    | exact within_trans hF rfl
    | exact bit_within hF rfl
    | with_reducible intro _
    | with_reducible apply fr_ite
    | split
    | dsimp only
    | (with_reducible apply fr_field; exact bit_within hF rfl
       first
         | with_reducible assumption
         | with_reducible apply fr_ite
         | split))

theorem State.forwardFrame_fr (s : State) (p : Port) (f : CanFrame) (hF : within 62914566 F = true) (h : Fr F v s) :
    Fr F v (State.forwardFrame s p f) := by
  unfold State.forwardFrame
  repeat' (first
    | with_reducible assumption
    | exact within_trans hF rfl
    | exact bit_within hF rfl
    | with_reducible intro _
    | with_reducible apply fr_ite
    | with_reducible apply State.bump_fr
    | with_reducible apply State.arm_fr
    | with_reducible apply State.post_fr
    | with_reducible apply State.txExpired_fr
    | with_reducible apply State.flag_fr
    | with_reducible apply State.faultRow_fr
    | with_reducible apply State.refuse_fr
    | with_reducible apply State.countDrop_fr
    | with_reducible apply State.unreachable_fr
    | with_reducible apply State.dropForwarded_fr
    | with_reducible apply State.forgetDropped_fr
    | split
    | dsimp only)

theorem State.exceptIntegrate_fr (s : State) (p : Port) (hF : within 4194326 F = true) (h : Fr F v s) :
    Fr F v (State.exceptIntegrate s p) := by
  unfold State.exceptIntegrate
  repeat' (first
    | with_reducible assumption
    | exact within_trans hF rfl
    | exact bit_within hF rfl
    | with_reducible intro _
    | with_reducible apply fr_ite
    | with_reducible apply State.joinPort_fr
    | split
    | dsimp only)

theorem State.receiveFrame_fr (s : State) (p : Port) (f : CanFrame) (hF : within 562945926885374 F = true) (h : Fr F v s) :
    Fr F v (State.receiveFrame s p f) := by
  unfold State.receiveFrame
  repeat' (first
    | with_reducible assumption
    | exact within_trans hF rfl
    | exact bit_within hF rfl
    | with_reducible intro _
    | with_reducible apply fr_ite
    | with_reducible apply State.bump_fr
    | with_reducible apply State.flag_fr
    | with_reducible apply State.rxDiscard_fr
    | with_reducible apply State.addressConflict_fr
    | with_reducible apply State.localFrame_fr
    | with_reducible apply State.forwardFrame_fr
    | with_reducible apply State.exceptIntegrate_fr
    | split
    | dsimp only)

theorem State.receiveAll_fr (s : State) (p : Port) (fs : List CanFrame) (hF : within 562945926885374 F = true) (h : Fr F v s) :
    Fr F v (State.receiveAll s p fs) := by
  unfold State.receiveAll
  repeat' (first
    | with_reducible assumption
    | exact within_trans hF rfl
    | exact bit_within hF rfl
    | with_reducible intro _
    | with_reducible apply fr_ite
    | with_reducible apply State.receiveFrame_fr
    | with_reducible apply fr_foldl
    | split
    | dsimp only)

theorem State.arrive_fr (s : State) (r : ReqCtx) (svc aux : Nat) (body : Bytes) (hF : within 562945926885374 F = true) (h : Fr F v s) :
    Fr F v (State.arrive s r svc aux body) := by
  unfold State.arrive
  repeat' (first
    | with_reducible assumption
    | exact within_trans hF rfl
    | exact bit_within hF rfl
    | with_reducible intro _
    | with_reducible apply fr_ite
    | with_reducible apply State.abort_fr
    | with_reducible apply State.hostRequest_fr
    | with_reducible apply State.receiveAll_fr
    | split
    | dsimp only)

theorem execObvarFrameReceive_fr (p : Port) (f : CanFrame) (s : State) (hF : within 562945926885374 F = true) (h : Fr F v s) :
    FrOut F v (execObvarFrameReceive p f s) := by
  unfold execObvarFrameReceive
  repeat' (first
    | with_reducible assumption
    | exact within_trans hF rfl
    | exact bit_within hF rfl
    | with_reducible apply frOut_next
    | with_reducible intro _
    | with_reducible apply fr_ite
    | with_reducible apply State.receiveFrame_fr
    | split
    | dsimp only)

theorem execReassemblyTimeout_fr (p : Port) (src : BitVec 9) (s : State) (hF : within 62988295 F = true) (h : Fr F v s) :
    FrOut F v (execReassemblyTimeout p src s) := by
  unfold execReassemblyTimeout
  repeat' (first
    | with_reducible assumption
    | exact within_trans hF rfl
    | exact bit_within hF rfl
    | with_reducible apply frOut_next
    | with_reducible intro _
    | with_reducible apply fr_ite
    | with_reducible apply State.onTimer_fr
    | with_reducible apply State.flag_fr
    | with_reducible apply State.dropGroup_fr
    | with_reducible apply State.groupAbort_fr
    | split
    | dsimp only)

theorem State.rearmTx_fr (s : State) (p : Port) (q : Nat) (hF : within 2 F = true) (h : Fr F v s) :
    Fr F v (State.rearmTx s p q) := by
  unfold State.rearmTx
  repeat' (first
    | with_reducible assumption
    | exact within_trans hF rfl
    | exact bit_within hF rfl
    | with_reducible intro _
    | with_reducible apply fr_ite
    | with_reducible apply State.disarm_fr
    | with_reducible apply State.arm_fr
    | split
    | dsimp only)

theorem State.rearmRefusal_fr (s : State) (p : Port) (hF : within 2 F = true) (h : Fr F v s) :
    Fr F v (State.rearmRefusal s p) := by
  unfold State.rearmRefusal
  repeat' (first
    | with_reducible assumption
    | exact within_trans hF rfl
    | exact bit_within hF rfl
    | with_reducible intro _
    | with_reducible apply fr_ite
    | with_reducible apply State.disarm_fr
    | with_reducible apply State.arm_fr
    | split
    | dsimp only)

theorem State.errorActive_fr (s : State) (p : Port) (hF : within 2 F = true) (h : Fr F v s) :
    Fr F v (State.errorActive s p) := by
  unfold State.errorActive
  repeat' (first
    | with_reducible assumption
    | exact within_trans hF rfl
    | exact bit_within hF rfl
    | with_reducible intro _
    | with_reducible apply fr_ite
    | with_reducible apply State.arm_fr
    | split
    | dsimp only)

theorem State.setTec_fr (s : State) (p : Port) (tec : Nat) (hF : within 4194308 F = true) (h : Fr F v s) :
    Fr F v (State.setTec s p tec) := by
  unfold State.setTec
  repeat' (first
    | with_reducible assumption
    | exact within_trans hF rfl
    | exact bit_within hF rfl
    | with_reducible intro _
    | with_reducible apply fr_ite
    | with_reducible apply State.set_fr
    | with_reducible apply State.setPortEng_fr
    | split
    | dsimp only)

theorem State.sentOne_fr (s : State) (p : Port) (hF : within 4194310 F = true) (h : Fr F v s) :
    Fr F v (State.sentOne s p) := by
  unfold State.sentOne
  repeat' (first
    | with_reducible assumption
    | exact within_trans hF rfl
    | exact bit_within hF rfl
    | with_reducible intro _
    | with_reducible apply fr_ite
    | with_reducible apply State.set_fr
    | with_reducible apply State.bump_fr
    | with_reducible apply State.errorActive_fr
    | with_reducible apply State.setTec_fr
    | split
    | dsimp only)

theorem State.countForwarded_fr (s : State) (p : Port) (q : Nat) (hF : within 4 F = true) (h : Fr F v s) :
    Fr F v (State.countForwarded s p q) := by
  unfold State.countForwarded
  repeat' (first
    | with_reducible assumption
    | exact within_trans hF rfl
    | exact bit_within hF rfl
    | with_reducible intro _
    | with_reducible apply fr_ite
    | with_reducible apply State.bump_fr
    | split
    | dsimp only)

theorem State.sendQueued_fr (s : State) (p : Port) (x : Nat × CanFrame) (hF : within 562945926885374 F = true) (h : Fr F v s) :
    Fr F v (State.sendQueued s p x) := by
  unfold State.sendQueued
  repeat' (first
    | with_reducible assumption
    | exact within_trans hF rfl
    | exact bit_within hF rfl
    | with_reducible intro _
    | with_reducible apply fr_ite
    | with_reducible apply State.take_fr
    | with_reducible apply State.serveHeld_fr
    | with_reducible apply State.noteSent_fr
    | with_reducible apply State.rearmTx_fr
    | with_reducible apply State.sentOne_fr
    | with_reducible apply State.countForwarded_fr
    | split
    | dsimp only)

theorem State.sendRefusal_fr (s : State) (p : Port) (r : RefusalFrame) (rest : List RefusalFrame) (hF : within 4194310 F = true) (h : Fr F v s) :
    Fr F v (State.sendRefusal s p r rest) := by
  unfold State.sendRefusal
  repeat' (first
    | with_reducible assumption
    | exact within_trans hF rfl
    | exact bit_within hF rfl
    | with_reducible intro _
    | with_reducible apply fr_ite
    | with_reducible apply State.setPortEng_fr
    | with_reducible apply State.noteSent_fr
    | with_reducible apply State.rearmRefusal_fr
    | with_reducible apply State.sentOne_fr
    | split
    | dsimp only)

theorem State.transmit_fr (s : State) (p : Port) (hF : within 562945926885374 F = true) (h : Fr F v s) :
    Fr F v (State.transmit s p) := by
  unfold State.transmit
  repeat' (first
    | with_reducible assumption
    | exact within_trans hF rfl
    | exact bit_within hF rfl
    | with_reducible intro _
    | with_reducible apply fr_ite
    | with_reducible apply State.sendQueued_fr
    | with_reducible apply State.sendRefusal_fr
    | split
    | dsimp only)

theorem State.afterSend_fr (s : State) (p : Port) (hF : within 4194326 F = true) (h : Fr F v s) :
    Fr F v (State.afterSend s p) := by
  unfold State.afterSend
  repeat' (first
    | with_reducible assumption
    | exact within_trans hF rfl
    | exact bit_within hF rfl
    | with_reducible intro _
    | with_reducible apply fr_ite
    | with_reducible apply State.portStandby_fr
    | with_reducible apply State.settleJoin_fr
    | split
    | dsimp only)

theorem execFrameTransmit_fr (p : Port) (s : State) (hF : within 562945926885374 F = true) (h : Fr F v s) :
    FrOut F v (execFrameTransmit p s) := by
  unfold execFrameTransmit
  repeat' (first
    | with_reducible assumption
    | exact within_trans hF rfl
    | exact bit_within hF rfl
    | with_reducible apply frOut_next
    | with_reducible intro _
    | with_reducible apply fr_ite
    | with_reducible apply State.when_fr
    | with_reducible apply State.transmit_fr
    | with_reducible apply State.afterSend_fr
    | split
    | dsimp only)

theorem State.txTimeout_fr (s : State) (p : Port) (q : Nat) (hF : within 562945926885374 F = true) (h : Fr F v s) :
    Fr F v (State.txTimeout s p q) := by
  unfold State.txTimeout
  repeat' (first
    | with_reducible assumption
    | exact within_trans hF rfl
    | exact bit_within hF rfl
    | with_reducible intro _
    | with_reducible apply fr_ite
    | with_reducible apply State.take_fr
    | with_reducible apply State.txExpired_fr
    | with_reducible apply State.noteSummary_fr
    | with_reducible apply State.serveHeld_fr
    | with_reducible apply State.rearmTx_fr
    | split
    | dsimp only)

theorem execTxLifetimeExpiry_fr (p : Port) (queue : Byte) (s : State) (hF : within 562945926885375 F = true) (h : Fr F v s) :
    FrOut F v (execTxLifetimeExpiry p queue s) := by
  unfold execTxLifetimeExpiry
  repeat' (first
    | with_reducible assumption
    | exact within_trans hF rfl
    | exact bit_within hF rfl
    | with_reducible apply frOut_next
    | with_reducible intro _
    | with_reducible apply fr_ite
    | with_reducible apply State.onTimer_fr
    | with_reducible apply State.settleJoin_fr
    | with_reducible apply State.txTimeout_fr
    | split
    | dsimp only)

theorem State.flushPort_fr (s : State) (p : Port) (hF : within 562945926885374 F = true) (h : Fr F v s) :
    Fr F v (State.flushPort s p) := by
  unfold State.flushPort
  repeat' (first
    | with_reducible assumption
    | exact within_trans hF rfl
    | exact bit_within hF rfl
    | with_reducible intro _
    | with_reducible apply fr_ite
    | with_reducible apply State.disarm_fr
    | with_reducible apply State.txExpired_fr
    | with_reducible apply State.noteSummary_fr
    | with_reducible apply State.serveHeld_fr
    | with_reducible apply fr_foldl
    | split
    | dsimp only
    | (with_reducible apply fr_q; exact bit_within hF rfl
       first
         | with_reducible assumption
         | with_reducible apply fr_ite
         | with_reducible apply State.disarm_fr
         | with_reducible apply State.txExpired_fr
         | with_reducible apply State.noteSummary_fr
         | with_reducible apply State.serveHeld_fr
         | with_reducible apply fr_foldl
         | split))

theorem execHeartbeat_fr (p : Port) (s : State) (hF : within 50331655 F = true) (h : Fr F v s) :
    FrOut F v (execHeartbeat p s) := by
  unfold execHeartbeat
  repeat' (first
    | with_reducible assumption
    | exact within_trans hF rfl
    | exact bit_within hF rfl
    | with_reducible apply frOut_next
    | with_reducible intro _
    | with_reducible apply fr_ite
    | with_reducible apply State.arm_fr
    | with_reducible apply State.onTimer_fr
    | with_reducible apply State.sendFrames_fr
    | split
    | dsimp only)

theorem execHeartbeatReceive_fr (p : Port) (src : BitVec 9) (s : State) (hF : within 562945926885374 F = true) (h : Fr F v s) :
    FrOut F v (execHeartbeatReceive p src s) := by
  unfold execHeartbeatReceive
  repeat' (first
    | with_reducible assumption
    | exact within_trans hF rfl
    | exact bit_within hF rfl
    | with_reducible apply frOut_next
    | with_reducible intro _
    | with_reducible apply fr_ite
    | with_reducible apply fr_ite_snd
    | with_reducible apply State.draw_fr
    | with_reducible apply State.receiveAll_fr
    | split
    | dsimp only)

theorem execNodeOffline_fr (node : BitVec 9) (s : State) (hF : within 50331655 F = true) (h : Fr F v s) :
    FrOut F v (execNodeOffline node s) := by
  unfold execNodeOffline
  repeat' (first
    | with_reducible assumption
    | exact within_trans hF rfl
    | exact bit_within hF rfl
    | with_reducible apply frOut_next
    | with_reducible intro _
    | with_reducible apply fr_ite
    | with_reducible apply State.set_fr
    | with_reducible apply State.onTimer_fr
    | with_reducible apply State.notify_fr
    | split
    | dsimp only)

theorem execTimeSet_fr (r : ReqCtx) (broadcast : Bool) (utcSeconds : BitVec 64) (micros : BitVec 32) (source : Byte) (s : State) (hF : within 562945926885374 F = true) (h : Fr F v s) :
    FrOut F v (execTimeSet r broadcast utcSeconds micros source s) := by
  unfold execTimeSet
  repeat' (first
    | with_reducible assumption
    | exact within_trans hF rfl
    | exact bit_within hF rfl
    | with_reducible apply frOut_next
    | with_reducible intro _
    | with_reducible apply fr_ite
    | with_reducible apply State.receiveAll_fr
    | with_reducible apply State.arrive_fr
    | split
    | dsimp only)

theorem execLocateQuery_fr (p : Port) (q : LocateQ) (s : State) (hF : within 562945926885374 F = true) (h : Fr F v s) :
    FrOut F v (execLocateQuery p q s) := by
  unfold execLocateQuery
  repeat' (first
    | with_reducible assumption
    | exact within_trans hF rfl
    | exact bit_within hF rfl
    | with_reducible apply frOut_next
    | with_reducible intro _
    | with_reducible apply fr_ite
    | with_reducible apply State.receiveAll_fr
    | split
    | dsimp only)

theorem execLocateReply_fr (acked : Bool) (s : State) (hF : within 281475031236615 F = true) (h : Fr F v s) :
    FrOut F v (execLocateReply acked s) := by
  unfold execLocateReply
  repeat' (first
    | with_reducible assumption
    | exact within_trans hF rfl
    | exact bit_within hF rfl
    | with_reducible apply frOut_next
    | with_reducible intro _
    | with_reducible apply fr_ite
    | with_reducible apply State.onTimer_fr
    | with_reducible apply State.locateDue_fr
    | split
    | dsimp only)

theorem execBusOff_fr (p : Port) (s : State) (hF : within 562945926885374 F = true) (h : Fr F v s) :
    FrOut F v (execBusOff p s) := by
  unfold execBusOff
  repeat' (first
    | with_reducible assumption
    | exact within_trans hF rfl
    | exact bit_within hF rfl
    | with_reducible apply frOut_next
    | with_reducible intro _
    | with_reducible apply fr_ite
    | with_reducible apply State.set_fr
    | with_reducible apply State.bump_fr
    | with_reducible apply State.disarm_fr
    | with_reducible apply State.arm_fr
    | with_reducible apply State.when_fr
    | with_reducible apply State.faultRow_fr
    | with_reducible apply State.setPortEng_fr
    | with_reducible apply State.setTec_fr
    | with_reducible apply State.flushPort_fr
    | split
    | dsimp only)

theorem execBusOffHoldoffExpiry_fr (p : Port) (s : State) (hF : within 4194327 F = true) (h : Fr F v s) :
    FrOut F v (execBusOffHoldoffExpiry p s) := by
  unfold execBusOffHoldoffExpiry
  repeat' (first
    | with_reducible assumption
    | exact within_trans hF rfl
    | exact bit_within hF rfl
    | with_reducible apply frOut_next
    | with_reducible intro _
    | with_reducible apply fr_ite
    | with_reducible apply State.set_fr
    | with_reducible apply State.onTimer_fr
    | with_reducible apply State.joinPort_fr
    | with_reducible apply State.setPortEng_fr
    | with_reducible apply State.setTec_fr
    | split
    | dsimp only)

theorem execBusOffWaitReset_fr (p : Port) (s : State) (hF : within 4194311 F = true) (h : Fr F v s) :
    FrOut F v (execBusOffWaitReset p s) := by
  unfold execBusOffWaitReset
  repeat' (first
    | with_reducible assumption
    | exact within_trans hF rfl
    | exact bit_within hF rfl
    | with_reducible apply frOut_next
    | with_reducible intro _
    | with_reducible apply fr_ite
    | with_reducible apply State.onTimer_fr
    | with_reducible apply State.setPortEng_fr
    | split
    | dsimp only)

theorem execErrorPassive_fr (p : Port) (s : State) (hF : within 62914566 F = true) (h : Fr F v s) :
    FrOut F v (execErrorPassive p s) := by
  unfold execErrorPassive
  repeat' (first
    | with_reducible assumption
    | exact within_trans hF rfl
    | exact bit_within hF rfl
    | with_reducible apply frOut_next
    | with_reducible intro _
    | with_reducible apply fr_ite
    | with_reducible apply State.set_fr
    | with_reducible apply State.disarm_fr
    | with_reducible apply State.when_fr
    | with_reducible apply State.log_fr
    | with_reducible apply State.flagFirst_fr
    | with_reducible apply State.setTec_fr
    | split
    | dsimp only)

theorem execStuckDominant_fr (p : Port) (s : State) (hF : within 562945926885374 F = true) (h : Fr F v s) :
    FrOut F v (execStuckDominant p s) := by
  unfold execStuckDominant
  repeat' (first
    | with_reducible assumption
    | exact within_trans hF rfl
    | exact bit_within hF rfl
    | with_reducible apply frOut_next
    | with_reducible intro _
    | with_reducible apply fr_ite
    | with_reducible apply State.set_fr
    | with_reducible apply State.disarm_fr
    | with_reducible apply State.arm_fr
    | with_reducible apply State.when_fr
    | with_reducible apply State.faultRow_fr
    | with_reducible apply State.setStb_fr
    | with_reducible apply State.flushPort_fr
    | split
    | dsimp only)

theorem execStuckDominantRejoin_fr (p : Port) (s : State) (hF : within 4194327 F = true) (h : Fr F v s) :
    FrOut F v (execStuckDominantRejoin p s) := by
  unfold execStuckDominantRejoin
  repeat' (first
    | with_reducible assumption
    | exact within_trans hF rfl
    | exact bit_within hF rfl
    | with_reducible apply frOut_next
    | with_reducible intro _
    | with_reducible apply fr_ite
    | with_reducible apply State.onTimer_fr
    | with_reducible apply State.joinPort_fr
    | split
    | dsimp only)

theorem execRestrictedLong_fr (s : State) (hF : within 562945926885375 F = true) (h : Fr F v s) :
    FrOut F v (execRestrictedLong s) := by
  unfold execRestrictedLong
  repeat' (first
    | with_reducible assumption
    | exact within_trans hF rfl
    | exact bit_within hF rfl
    | with_reducible apply frOut_next
    | with_reducible intro _
    | with_reducible apply fr_ite
    | with_reducible apply State.onTimer_fr
    | with_reducible apply State.flag_fr
    | with_reducible apply State.flushPort_fr
    | split
    | dsimp only)

theorem execBusIntegration_fr (p : Port) (s : State) (hF : within 4194310 F = true) (h : Fr F v s) :
    FrOut F v (execBusIntegration p s) := by
  unfold execBusIntegration
  repeat' (first
    | with_reducible assumption
    | exact within_trans hF rfl
    | exact bit_within hF rfl
    | with_reducible apply frOut_next
    | with_reducible intro _
    | with_reducible apply fr_ite
    | with_reducible apply State.set_fr
    | with_reducible apply State.arm_fr
    | with_reducible apply State.when_fr
    | with_reducible apply State.setPortEng_fr
    | with_reducible apply State.errorActive_fr
    | split
    | dsimp only)

end Sys2Proof.Machine
end

