-- ==== Sys2Proof/Laws/FrameRequests.lean ====
section
/-!
SUPPORT. The frames of the functions of Sys2Proof/Machine/Requests.lean, one lemma for each of them (Laws/Frame.lean).
-/

namespace Sys2Proof.Machine

set_option linter.unusedTactic false
set_option linter.unreachableTactic false
set_option linter.unusedVariables false

open Sys2Proof

variable {F : Nat} {v : State}

theorem State.requestWrite_fr (s : State) (r : ReqCtx) (k v' : Nat) (hF : within 562945926885374 F = true) (h : Fr F v s) :
    Fr F v (State.requestWrite s r k v') := by
  unfold State.requestWrite
  repeat' (first
    | with_reducible assumption
    | exact within_trans hF rfl
    | exact bit_within hF rfl
    | with_reducible intro _
    | with_reducible apply fr_ite
    | with_reducible apply State.arrive_fr
    | split
    | dsimp only)

theorem execRequestDormant_fr (r : ReqCtx) (s : State) (hF : within 562945926885374 F = true) (h : Fr F v s) :
    FrOut F v (execRequestDormant r s) := by
  unfold execRequestDormant
  repeat' (first
    | with_reducible assumption
    | exact within_trans hF rfl
    | exact bit_within hF rfl
    | with_reducible apply frOut_next
    | with_reducible intro _
    | with_reducible apply fr_ite
    | with_reducible apply State.requestWrite_fr
    | split
    | dsimp only)

theorem execRequestStandby_fr (r : ReqCtx) (s : State) (hF : within 562945926885374 F = true) (h : Fr F v s) :
    FrOut F v (execRequestStandby r s) := by
  unfold execRequestStandby
  repeat' (first
    | with_reducible assumption
    | exact within_trans hF rfl
    | exact bit_within hF rfl
    | with_reducible apply frOut_next
    | with_reducible intro _
    | with_reducible apply fr_ite
    | with_reducible apply State.requestWrite_fr
    | split
    | dsimp only)

theorem execRequestActive_fr (r : ReqCtx) (s : State) (hF : within 562945926885374 F = true) (h : Fr F v s) :
    FrOut F v (execRequestActive r s) := by
  unfold execRequestActive
  repeat' (first
    | with_reducible assumption
    | exact within_trans hF rfl
    | exact bit_within hF rfl
    | with_reducible apply frOut_next
    | with_reducible intro _
    | with_reducible apply fr_ite
    | with_reducible apply State.requestWrite_fr
    | split
    | dsimp only)

theorem execRequestService_fr (r : ReqCtx) (s : State) (hF : within 562945926885374 F = true) (h : Fr F v s) :
    FrOut F v (execRequestService r s) := by
  unfold execRequestService
  repeat' (first
    | with_reducible assumption
    | exact within_trans hF rfl
    | exact bit_within hF rfl
    | with_reducible apply frOut_next
    | with_reducible intro _
    | with_reducible apply fr_ite
    | with_reducible apply State.requestWrite_fr
    | split
    | dsimp only)

theorem execRequestRestart_fr (r : ReqCtx) (s : State) (hF : within 562945926885374 F = true) (h : Fr F v s) :
    FrOut F v (execRequestRestart r s) := by
  unfold execRequestRestart
  repeat' (first
    | with_reducible assumption
    | exact within_trans hF rfl
    | exact bit_within hF rfl
    | with_reducible apply frOut_next
    | with_reducible intro _
    | with_reducible apply fr_ite
    | with_reducible apply State.requestWrite_fr
    | split
    | dsimp only)

theorem execRevokeSlot0_fr (r : ReqCtx) (s : State) (hF : within 562945926885374 F = true) (h : Fr F v s) :
    FrOut F v (execRevokeSlot0 r s) := by
  unfold execRevokeSlot0
  repeat' (first
    | with_reducible assumption
    | exact within_trans hF rfl
    | exact bit_within hF rfl
    | with_reducible apply frOut_next
    | with_reducible intro _
    | with_reducible apply fr_ite
    | with_reducible apply State.requestWrite_fr
    | split
    | dsimp only)

theorem execLifecycleConfirm_fr (r : ReqCtx) (value : BitVec 16) (s : State) (hF : within 562945926885374 F = true) (h : Fr F v s) :
    FrOut F v (execLifecycleConfirm r value s) := by
  unfold execLifecycleConfirm
  repeat' (first
    | with_reducible assumption
    | exact within_trans hF rfl
    | exact bit_within hF rfl
    | with_reducible apply frOut_next
    | with_reducible intro _
    | with_reducible apply fr_ite
    | with_reducible apply State.requestWrite_fr
    | split
    | dsimp only)

theorem execLifecycleRequest_fr (r : ReqCtx) (target : Byte) (s : State) (hF : within 562945926885374 F = true) (h : Fr F v s) :
    FrOut F v (execLifecycleRequest r target s) := by
  unfold execLifecycleRequest
  repeat' (first
    | with_reducible assumption
    | exact within_trans hF rfl
    | exact bit_within hF rfl
    | with_reducible apply frOut_next
    | with_reducible intro _
    | with_reducible apply fr_ite
    | with_reducible apply State.requestWrite_fr
    | split
    | dsimp only)

theorem execRoleKeyWrite_fr (r : ReqCtx) (which : Fin 5) (key : Bytes) (s : State) (hF : within 562945926885374 F = true) (h : Fr F v s) :
    FrOut F v (execRoleKeyWrite r which key s) := by
  unfold execRoleKeyWrite
  repeat' (first
    | with_reducible assumption
    | exact within_trans hF rfl
    | exact bit_within hF rfl
    | with_reducible apply frOut_next
    | with_reducible intro _
    | with_reducible apply fr_ite
    | with_reducible apply State.arrive_fr
    | split
    | dsimp only)

theorem execSessionOpen_fr (r : ReqCtx) (role version : Byte) (peer : BitVec 16) (nc : BitVec 128) (s : State) (hF : within 562945926885374 F = true) (h : Fr F v s) :
    FrOut F v (execSessionOpen r role version peer nc s) := by
  unfold execSessionOpen
  repeat' (first
    | with_reducible assumption
    | exact within_trans hF rfl
    | exact bit_within hF rfl
    | with_reducible apply frOut_next
    | with_reducible intro _
    | with_reducible apply fr_ite
    | with_reducible apply State.arrive_fr
    | split
    | dsimp only)

theorem execSessionConfirm_fr (r : ReqCtx) (sid : BitVec 16) (tagC : BitVec 128) (s : State) (hF : within 562945926885374 F = true) (h : Fr F v s) :
    FrOut F v (execSessionConfirm r sid tagC s) := by
  unfold execSessionConfirm
  repeat' (first
    | with_reducible assumption
    | exact within_trans hF rfl
    | exact bit_within hF rfl
    | with_reducible apply frOut_next
    | with_reducible intro _
    | with_reducible apply fr_ite
    | with_reducible apply State.arrive_fr
    | split
    | dsimp only)

theorem execDebugRequest_fr (r : ReqCtx) (level : Byte) (s : State) (hF : within 562945926885374 F = true) (h : Fr F v s) :
    FrOut F v (execDebugRequest r level s) := by
  unfold execDebugRequest
  repeat' (first
    | with_reducible assumption
    | exact within_trans hF rfl
    | exact bit_within hF rfl
    | with_reducible apply frOut_next
    | with_reducible intro _
    | with_reducible apply fr_ite
    | with_reducible apply State.requestWrite_fr
    | split
    | dsimp only)

theorem execDebugToken_fr (r : ReqCtx) (token : Bytes) (s : State) (hF : within 562945926885374 F = true) (h : Fr F v s) :
    FrOut F v (execDebugToken r token s) := by
  unfold execDebugToken
  repeat' (first
    | with_reducible assumption
    | exact within_trans hF rfl
    | exact bit_within hF rfl
    | with_reducible apply frOut_next
    | with_reducible intro _
    | with_reducible apply fr_ite
    | with_reducible apply State.arrive_fr
    | split
    | dsimp only)

theorem execDebugChallengeRead_fr (r : ReqCtx) (s : State) (hF : within 562945926885374 F = true) (h : Fr F v s) :
    FrOut F v (execDebugChallengeRead r s) := by
  unfold execDebugChallengeRead
  repeat' (first
    | with_reducible assumption
    | exact within_trans hF rfl
    | exact bit_within hF rfl
    | with_reducible apply frOut_next
    | with_reducible intro _
    | with_reducible apply fr_ite
    | with_reducible apply State.arrive_fr
    | split
    | dsimp only)

theorem execRead_fr (r : ReqCtx) (index : BitVec 16) (sub : Byte) (s : State) (hF : within 562945926885374 F = true) (h : Fr F v s) :
    FrOut F v (execRead r index sub s) := by
  unfold execRead
  repeat' (first
    | with_reducible assumption
    | exact within_trans hF rfl
    | exact bit_within hF rfl
    | with_reducible apply frOut_next
    | with_reducible intro _
    | with_reducible apply fr_ite
    | with_reducible apply State.arrive_fr
    | split
    | dsimp only)

theorem execWrite_fr (r : ReqCtx) (index : BitVec 16) (sub type : Byte) (value : Bytes) (s : State) (hF : within 562945926885374 F = true) (h : Fr F v s) :
    FrOut F v (execWrite r index sub type value s) := by
  unfold execWrite
  repeat' (first
    | with_reducible assumption
    | exact within_trans hF rfl
    | exact bit_within hF rfl
    | with_reducible apply frOut_next
    | with_reducible intro _
    | with_reducible apply fr_ite
    | with_reducible apply State.arrive_fr
    | split
    | dsimp only)

theorem execStagedWrite_fr (r : ReqCtx) (index : BitVec 16) (sub type : Byte) (value : Bytes) (s : State) (hF : within 562945926885374 F = true) (h : Fr F v s) :
    FrOut F v (execStagedWrite r index sub type value s) := by
  unfold execStagedWrite
  repeat' (first
    | with_reducible assumption
    | exact within_trans hF rfl
    | exact bit_within hF rfl
    | with_reducible apply frOut_next
    | with_reducible intro _
    | with_reducible apply fr_ite
    | with_reducible apply State.arrive_fr
    | split
    | dsimp only)

theorem execCommit_fr (r : ReqCtx) (s : State) (hF : within 562945926885374 F = true) (h : Fr F v s) :
    FrOut F v (execCommit r s) := by
  unfold execCommit
  repeat' (first
    | with_reducible assumption
    | exact within_trans hF rfl
    | exact bit_within hF rfl
    | with_reducible apply frOut_next
    | with_reducible intro _
    | with_reducible apply fr_ite
    | with_reducible apply State.arrive_fr
    | split
    | dsimp only)

theorem execDiscard_fr (r : ReqCtx) (s : State) (hF : within 562945926885374 F = true) (h : Fr F v s) :
    FrOut F v (execDiscard r s) := by
  unfold execDiscard
  repeat' (first
    | with_reducible assumption
    | exact within_trans hF rfl
    | exact bit_within hF rfl
    | with_reducible apply frOut_next
    | with_reducible intro _
    | with_reducible apply fr_ite
    | with_reducible apply State.arrive_fr
    | split
    | dsimp only)

theorem execStageTimeout_fr (who : StageId) (s : State) (hF : within 262151 F = true) (h : Fr F v s) :
    FrOut F v (execStageTimeout who s) := by
  unfold execStageTimeout
  repeat' (first
    | with_reducible assumption
    | exact within_trans hF rfl
    | exact bit_within hF rfl
    | with_reducible apply frOut_next
    | with_reducible intro _
    | with_reducible apply fr_ite
    | with_reducible apply State.onTimer_fr
    | with_reducible apply State.setStage_fr
    | split
    | dsimp only)

theorem execConfigWriteDone_fr (verified : Bool) (s : State) (hF : within 562945926885374 F = true) (h : Fr F v s) :
    FrOut F v (execConfigWriteDone verified s) := by
  unfold execConfigWriteDone
  repeat' (first
    | with_reducible assumption
    | exact within_trans hF rfl
    | exact bit_within hF rfl
    | with_reducible apply frOut_next
    | with_reducible intro _
    | with_reducible apply fr_ite
    | with_reducible apply State.configWritten_fr
    | with_reducible apply State.serveWaiting_fr
    | split
    | dsimp only)

theorem execCommitDefer_fr (s : State) (hF : within 65347591 F = true) (h : Fr F v s) :
    FrOut F v (execCommitDefer s) := by
  unfold execCommitDefer
  repeat' (first
    | with_reducible assumption
    | exact within_trans hF rfl
    | exact bit_within hF rfl
    | with_reducible apply frOut_next
    | with_reducible intro _
    | with_reducible apply fr_ite
    | with_reducible apply State.onTimer_fr
    | with_reducible apply State.abort_fr
    | with_reducible apply State.endSpent_fr
    | split
    | dsimp only
    | (with_reducible apply fr_eng; exact bit_within hF rfl
       first
         | with_reducible assumption
         | with_reducible apply fr_ite
         | with_reducible apply State.onTimer_fr
         | with_reducible apply State.abort_fr
         | with_reducible apply State.endSpent_fr
         | split))

theorem execStickyClear_fr (r : ReqCtx) (index : BitVec 16) (sub : Byte) (mask : BitVec 32) (s : State) (hF : within 562945926885374 F = true) (h : Fr F v s) :
    FrOut F v (execStickyClear r index sub mask s) := by
  unfold execStickyClear
  repeat' (first
    | with_reducible assumption
    | exact within_trans hF rfl
    | exact bit_within hF rfl
    | with_reducible apply frOut_next
    | with_reducible intro _
    | with_reducible apply fr_ite
    | with_reducible apply State.requestWrite_fr
    | split
    | dsimp only)

theorem execStickyClearAll_fr (r : ReqCtx) (s : State) (hF : within 562945926885374 F = true) (h : Fr F v s) :
    FrOut F v (execStickyClearAll r s) := by
  unfold execStickyClearAll
  repeat' (first
    | with_reducible assumption
    | exact within_trans hF rfl
    | exact bit_within hF rfl
    | with_reducible apply frOut_next
    | with_reducible intro _
    | with_reducible apply fr_ite
    | with_reducible apply State.requestWrite_fr
    | split
    | dsimp only)

theorem execRestoreDefaults_fr (r : ReqCtx) (s : State) (hF : within 562945926885374 F = true) (h : Fr F v s) :
    FrOut F v (execRestoreDefaults r s) := by
  unfold execRestoreDefaults
  repeat' (first
    | with_reducible assumption
    | exact within_trans hF rfl
    | exact bit_within hF rfl
    | with_reducible apply frOut_next
    | with_reducible intro _
    | with_reducible apply fr_ite
    | with_reducible apply State.requestWrite_fr
    | split
    | dsimp only)

theorem execUpdateBegin_fr (r : ReqCtx) (length : BitVec 32) (s : State) (hF : within 562945926885374 F = true) (h : Fr F v s) :
    FrOut F v (execUpdateBegin r length s) := by
  unfold execUpdateBegin
  repeat' (first
    | with_reducible assumption
    | exact within_trans hF rfl
    | exact bit_within hF rfl
    | with_reducible apply frOut_next
    | with_reducible intro _
    | with_reducible apply fr_ite
    | with_reducible apply State.requestWrite_fr
    | split
    | dsimp only)

theorem execUpdateData_fr (r : ReqCtx) (offset total : BitVec 32) (data : Bytes) (s : State) (hF : within 562945926885374 F = true) (h : Fr F v s) :
    FrOut F v (execUpdateData r offset total data s) := by
  unfold execUpdateData
  repeat' (first
    | with_reducible assumption
    | exact within_trans hF rfl
    | exact bit_within hF rfl
    | with_reducible apply frOut_next
    | with_reducible intro _
    | with_reducible apply fr_ite
    | with_reducible apply State.arrive_fr
    | split
    | dsimp only)

theorem State.programSegment_fr (s : State) (hF : within 12950249478 F = true) (h : Fr F v s) :
    Fr F v (State.programSegment s) := by
  unfold State.programSegment
  repeat' (first
    | with_reducible assumption
    | exact within_trans hF rfl
    | exact bit_within hF rfl
    | with_reducible intro _
    | with_reducible apply fr_ite
    | with_reducible apply State.disarm_fr
    | with_reducible apply State.done_fr
    | with_reducible apply State.endSpent_fr
    | with_reducible apply State.setBank_fr
    | split
    | dsimp only
    | (with_reducible apply fr_upd; exact bit_within hF rfl
       first
         | with_reducible assumption
         | with_reducible apply fr_ite
         | with_reducible apply State.disarm_fr
         | with_reducible apply State.done_fr
         | with_reducible apply State.endSpent_fr
         | with_reducible apply State.setBank_fr
         | split))

theorem execImageSegmentDone_fr (s : State) (hF : within 562945926885374 F = true) (h : Fr F v s) :
    FrOut F v (execImageSegmentDone s) := by
  unfold execImageSegmentDone
  repeat' (first
    | with_reducible assumption
    | exact within_trans hF rfl
    | exact bit_within hF rfl
    | with_reducible apply frOut_next
    | with_reducible intro _
    | with_reducible apply fr_ite
    | with_reducible apply State.when_fr
    | with_reducible apply State.take_fr
    | with_reducible apply State.serveHeld_fr
    | with_reducible apply State.programSegment_fr
    | split
    | dsimp only)

theorem execUpdateVerify_fr (r : ReqCtx) (s : State) (hF : within 562945926885374 F = true) (h : Fr F v s) :
    FrOut F v (execUpdateVerify r s) := by
  unfold execUpdateVerify
  repeat' (first
    | with_reducible assumption
    | exact within_trans hF rfl
    | exact bit_within hF rfl
    | with_reducible apply frOut_next
    | with_reducible intro _
    | with_reducible apply fr_ite
    | with_reducible apply State.requestWrite_fr
    | split
    | dsimp only)

theorem execUpdateVerifyDone_fr (micros : BitVec 32) (s : State) (hF : within 58720263 F = true) (h : Fr F v s) :
    FrOut F v (execUpdateVerifyDone micros s) := by
  unfold execUpdateVerifyDone
  repeat' (first
    | with_reducible assumption
    | exact within_trans hF rfl
    | exact bit_within hF rfl
    | with_reducible apply frOut_next
    | with_reducible intro _
    | with_reducible apply fr_ite
    | with_reducible apply State.elapse_fr
    | with_reducible apply State.when_fr
    | with_reducible apply State.updateVerified_fr
    | split
    | dsimp only)

theorem execUpdateActivate_fr (r : ReqCtx) (s : State) (hF : within 562945926885374 F = true) (h : Fr F v s) :
    FrOut F v (execUpdateActivate r s) := by
  unfold execUpdateActivate
  repeat' (first
    | with_reducible assumption
    | exact within_trans hF rfl
    | exact bit_within hF rfl
    | with_reducible apply frOut_next
    | with_reducible intro _
    | with_reducible apply fr_ite
    | with_reducible apply State.requestWrite_fr
    | split
    | dsimp only)

theorem execUpdateAbort_fr (r : ReqCtx) (s : State) (hF : within 562945926885374 F = true) (h : Fr F v s) :
    FrOut F v (execUpdateAbort r s) := by
  unfold execUpdateAbort
  repeat' (first
    | with_reducible assumption
    | exact within_trans hF rfl
    | exact bit_within hF rfl
    | with_reducible apply frOut_next
    | with_reducible intro _
    | with_reducible apply fr_ite
    | with_reducible apply State.requestWrite_fr
    | split
    | dsimp only)

theorem execBlockRead_fr (r : ReqCtx) (index : BitVec 16) (sub : Byte) (whole : Bool) (offset : BitVec 32) (maxLen : BitVec 16) (s : State) (hF : within 562945926885374 F = true) (h : Fr F v s) :
    FrOut F v (execBlockRead r index sub whole offset maxLen s) := by
  unfold execBlockRead
  repeat' (first
    | with_reducible assumption
    | exact within_trans hF rfl
    | exact bit_within hF rfl
    | with_reducible apply frOut_next
    | with_reducible intro _
    | with_reducible apply fr_ite
    | with_reducible apply State.arrive_fr
    | split
    | dsimp only)

theorem execBlockWrite_fr (r : ReqCtx) (index : BitVec 16) (sub : Byte) (final : Bool) (offset total : BitVec 32) (data : Bytes) (s : State) (hF : within 562945926885374 F = true) (h : Fr F v s) :
    FrOut F v (execBlockWrite r index sub final offset total data s) := by
  unfold execBlockWrite
  repeat' (first
    | with_reducible assumption
    | exact within_trans hF rfl
    | exact bit_within hF rfl
    | with_reducible apply frOut_next
    | with_reducible intro _
    | with_reducible apply fr_ite
    | with_reducible apply State.arrive_fr
    | split
    | dsimp only)

theorem execBlockTimeout_fr (src : BitVec 16) (ofWrite : Bool) (s : State) (hF : within 1572871 F = true) (h : Fr F v s) :
    FrOut F v (execBlockTimeout src ofWrite s) := by
  unfold execBlockTimeout
  repeat' (first
    | with_reducible assumption
    | exact within_trans hF rfl
    | exact bit_within hF rfl
    | with_reducible apply frOut_next
    | with_reducible intro _
    | with_reducible apply fr_ite
    | with_reducible apply State.onTimer_fr
    | split
    | dsimp only
    | (with_reducible apply fr_blockReads; exact bit_within hF rfl; with_reducible apply fr_blockWrites; exact bit_within hF rfl
       first
         | with_reducible assumption
         | with_reducible apply fr_ite
         | with_reducible apply State.onTimer_fr
         | split))

theorem execAssign_fr (r : ReqCtx) (newAddress : BitVec 16) (serial : BitVec 64) (segA segB : Byte) (s : State) (hF : within 562945926885374 F = true) (h : Fr F v s) :
    FrOut F v (execAssign r newAddress serial segA segB s) := by
  unfold execAssign
  repeat' (first
    | with_reducible assumption
    | exact within_trans hF rfl
    | exact bit_within hF rfl
    | with_reducible apply frOut_next
    | with_reducible intro _
    | with_reducible apply fr_ite
    | with_reducible apply State.arrive_fr
    | split
    | dsimp only)

theorem execGetStatus_fr (r : ReqCtx) (s : State) (hF : within 562945926885374 F = true) (h : Fr F v s) :
    FrOut F v (execGetStatus r s) := by
  unfold execGetStatus
  repeat' (first
    | with_reducible assumption
    | exact within_trans hF rfl
    | exact bit_within hF rfl
    | with_reducible apply frOut_next
    | with_reducible intro _
    | with_reducible apply fr_ite
    | with_reducible apply State.arrive_fr
    | split
    | dsimp only)

theorem execSetRoutes_fr (r : ReqCtx) (start count : BitVec 16) (codes : Bytes) (s : State) (hF : within 562945926885374 F = true) (h : Fr F v s) :
    FrOut F v (execSetRoutes r start count codes s) := by
  unfold execSetRoutes
  repeat' (first
    | with_reducible assumption
    | exact within_trans hF rfl
    | exact bit_within hF rfl
    | with_reducible apply frOut_next
    | with_reducible intro _
    | with_reducible apply fr_ite
    | with_reducible apply State.arrive_fr
    | split
    | dsimp only)

theorem execSetForwarding_fr (r : ReqCtx) (enable : Byte) (s : State) (hF : within 562945926885374 F = true) (h : Fr F v s) :
    FrOut F v (execSetForwarding r enable s) := by
  unfold execSetForwarding
  repeat' (first
    | with_reducible assumption
    | exact within_trans hF rfl
    | exact bit_within hF rfl
    | with_reducible apply frOut_next
    | with_reducible intro _
    | with_reducible apply fr_ite
    | with_reducible apply State.arrive_fr
    | split
    | dsimp only)

theorem execPing_fr (r : ReqCtx) (hopCount : Byte) (s : State) (hF : within 562945926885374 F = true) (h : Fr F v s) :
    FrOut F v (execPing r hopCount s) := by
  unfold execPing
  repeat' (first
    | with_reducible assumption
    | exact within_trans hF rfl
    | exact bit_within hF rfl
    | with_reducible apply frOut_next
    | with_reducible intro _
    | with_reducible apply fr_ite
    | with_reducible apply State.arrive_fr
    | split
    | dsimp only)

theorem execClearHighWater_fr (r : ReqCtx) (s : State) (hF : within 562945926885374 F = true) (h : Fr F v s) :
    FrOut F v (execClearHighWater r s) := by
  unfold execClearHighWater
  repeat' (first
    | with_reducible assumption
    | exact within_trans hF rfl
    | exact bit_within hF rfl
    | with_reducible apply frOut_next
    | with_reducible intro _
    | with_reducible apply fr_ite
    | with_reducible apply State.requestWrite_fr
    | split
    | dsimp only)

theorem execSyncNow_fr (r : ReqCtx) (s : State) (hF : within 562945926885374 F = true) (h : Fr F v s) :
    FrOut F v (execSyncNow r s) := by
  unfold execSyncNow
  repeat' (first
    | with_reducible assumption
    | exact within_trans hF rfl
    | exact bit_within hF rfl
    | with_reducible apply frOut_next
    | with_reducible intro _
    | with_reducible apply fr_ite
    | with_reducible apply State.requestWrite_fr
    | split
    | dsimp only)

theorem execRunInit_fr (r : ReqCtx) (s : State) (hF : within 562945926885374 F = true) (h : Fr F v s) :
    FrOut F v (execRunInit r s) := by
  unfold execRunInit
  repeat' (first
    | with_reducible assumption
    | exact within_trans hF rfl
    | exact bit_within hF rfl
    | with_reducible apply frOut_next
    | with_reducible intro _
    | with_reducible apply fr_ite
    | with_reducible apply State.requestWrite_fr
    | split
    | dsimp only)

theorem execCommandedShutdown_fr (r : ReqCtx) (s : State) (hF : within 562945926885374 F = true) (h : Fr F v s) :
    FrOut F v (execCommandedShutdown r s) := by
  unfold execCommandedShutdown
  repeat' (first
    | with_reducible assumption
    | exact within_trans hF rfl
    | exact bit_within hF rfl
    | with_reducible apply frOut_next
    | with_reducible intro _
    | with_reducible apply fr_ite
    | with_reducible apply State.requestWrite_fr
    | split
    | dsimp only)

theorem execClearLockout_fr (r : ReqCtx) (s : State) (hF : within 562945926885374 F = true) (h : Fr F v s) :
    FrOut F v (execClearLockout r s) := by
  unfold execClearLockout
  repeat' (first
    | with_reducible assumption
    | exact within_trans hF rfl
    | exact bit_within hF rfl
    | with_reducible apply frOut_next
    | with_reducible intro _
    | with_reducible apply fr_ite
    | with_reducible apply State.requestWrite_fr
    | split
    | dsimp only)

theorem execSealClear_fr (r : ReqCtx) (s : State) (hF : within 562945926885374 F = true) (h : Fr F v s) :
    FrOut F v (execSealClear r s) := by
  unfold execSealClear
  repeat' (first
    | with_reducible assumption
    | exact within_trans hF rfl
    | exact bit_within hF rfl
    | with_reducible apply frOut_next
    | with_reducible intro _
    | with_reducible apply fr_ite
    | with_reducible apply State.requestWrite_fr
    | split
    | dsimp only)

theorem execClearLatch_fr (r : ReqCtx) (s : State) (hF : within 562945926885374 F = true) (h : Fr F v s) :
    FrOut F v (execClearLatch r s) := by
  unfold execClearLatch
  repeat' (first
    | with_reducible assumption
    | exact within_trans hF rfl
    | exact bit_within hF rfl
    | with_reducible apply frOut_next
    | with_reducible intro _
    | with_reducible apply fr_ite
    | with_reducible apply State.requestWrite_fr
    | split
    | dsimp only)

theorem execMarginHigh_fr (r : ReqCtx) (ch : Fin 4) (s : State) (hF : within 562945926885374 F = true) (h : Fr F v s) :
    FrOut F v (execMarginHigh r ch s) := by
  unfold execMarginHigh
  repeat' (first
    | with_reducible assumption
    | exact within_trans hF rfl
    | exact bit_within hF rfl
    | with_reducible apply frOut_next
    | with_reducible intro _
    | with_reducible apply fr_ite
    | with_reducible apply State.requestWrite_fr
    | split
    | dsimp only)

theorem execMarginLow_fr (r : ReqCtx) (ch : Fin 4) (s : State) (hF : within 562945926885374 F = true) (h : Fr F v s) :
    FrOut F v (execMarginLow r ch s) := by
  unfold execMarginLow
  repeat' (first
    | with_reducible assumption
    | exact within_trans hF rfl
    | exact bit_within hF rfl
    | with_reducible apply frOut_next
    | with_reducible intro _
    | with_reducible apply fr_ite
    | with_reducible apply State.requestWrite_fr
    | split
    | dsimp only)

theorem execMarginNominal_fr (r : ReqCtx) (ch : Fin 4) (s : State) (hF : within 562945926885374 F = true) (h : Fr F v s) :
    FrOut F v (execMarginNominal r ch s) := by
  unfold execMarginNominal
  repeat' (first
    | with_reducible assumption
    | exact within_trans hF rfl
    | exact bit_within hF rfl
    | with_reducible apply frOut_next
    | with_reducible intro _
    | with_reducible apply fr_ite
    | with_reducible apply State.requestWrite_fr
    | split
    | dsimp only)

theorem execTiuArm_fr (r : ReqCtx) (s : State) (hF : within 562945926885374 F = true) (h : Fr F v s) :
    FrOut F v (execTiuArm r s) := by
  unfold execTiuArm
  repeat' (first
    | with_reducible assumption
    | exact within_trans hF rfl
    | exact bit_within hF rfl
    | with_reducible apply frOut_next
    | with_reducible intro _
    | with_reducible apply fr_ite
    | with_reducible apply State.requestWrite_fr
    | split
    | dsimp only)

theorem execTiuCancel_fr (r : ReqCtx) (s : State) (hF : within 562945926885374 F = true) (h : Fr F v s) :
    FrOut F v (execTiuCancel r s) := by
  unfold execTiuCancel
  repeat' (first
    | with_reducible assumption
    | exact within_trans hF rfl
    | exact bit_within hF rfl
    | with_reducible apply frOut_next
    | with_reducible intro _
    | with_reducible apply fr_ite
    | with_reducible apply State.requestWrite_fr
    | split
    | dsimp only)

theorem execLidRebaseline_fr (r : ReqCtx) (s : State) (hF : within 562945926885374 F = true) (h : Fr F v s) :
    FrOut F v (execLidRebaseline r s) := by
  unfold execLidRebaseline
  repeat' (first
    | with_reducible assumption
    | exact within_trans hF rfl
    | exact bit_within hF rfl
    | with_reducible apply frOut_next
    | with_reducible intro _
    | with_reducible apply fr_ite
    | with_reducible apply State.requestWrite_fr
    | split
    | dsimp only)

theorem execCaskClear_fr (r : ReqCtx) (s : State) (hF : within 562945926885374 F = true) (h : Fr F v s) :
    FrOut F v (execCaskClear r s) := by
  unfold execCaskClear
  repeat' (first
    | with_reducible assumption
    | exact within_trans hF rfl
    | exact bit_within hF rfl
    | with_reducible apply frOut_next
    | with_reducible intro _
    | with_reducible apply fr_ite
    | with_reducible apply State.requestWrite_fr
    | split
    | dsimp only)

theorem execHandover_fr (r : ReqCtx) (s : State) (hF : within 562945926885374 F = true) (h : Fr F v s) :
    FrOut F v (execHandover r s) := by
  unfold execHandover
  repeat' (first
    | with_reducible assumption
    | exact within_trans hF rfl
    | exact bit_within hF rfl
    | with_reducible apply frOut_next
    | with_reducible intro _
    | with_reducible apply fr_ite
    | with_reducible apply State.requestWrite_fr
    | split
    | dsimp only)

end Sys2Proof.Machine
end

