-- ==== Sys2Proof/Laws/FrameHost.lean ====
section
/-!
SUPPORT. The frames of the functions of Sys2Proof/Machine/Host.lean, one lemma for each of them (Laws/Frame.lean).
-/

namespace Sys2Proof.Machine

set_option linter.unusedTactic false
set_option linter.unreachableTactic false
set_option linter.unusedVariables false

open Sys2Proof

variable {F : Nat} {v : State}

theorem State.setLatch_fr (s : State) (w : WidePair) (v' : Option (BitVec 32)) (hF : within 8388608 F = true) (h : Fr F v s) :
    Fr F v (State.setLatch s w v') := by
  unfold State.setLatch
  repeat' (first
    | with_reducible assumption
    | exact within_trans hF rfl
    | exact bit_within hF rfl
    | with_reducible intro _
    | with_reducible apply fr_ite
    | split
    | dsimp only
    | (with_reducible apply fr_hp; exact bit_within hF rfl
       first
         | with_reducible assumption
         | with_reducible apply fr_ite
         | split))

theorem State.readLo_fr (s : State) (w : WidePair) (hF : within 8388608 F = true) (h : Fr F v s) :
    Fr F v (State.readLo s w).2 := by
  unfold State.readLo
  repeat' (first
    | with_reducible assumption
    | exact within_trans hF rfl
    | exact bit_within hF rfl
    | with_reducible intro _
    | with_reducible apply fr_ite
    | with_reducible apply fr_ite_snd
    | with_reducible apply State.setLatch_fr
    | split
    | dsimp only)

theorem State.readHi_fr (s : State) (w : WidePair) (hF : within 58720262 F = true) (h : Fr F v s) :
    Fr F v (State.readHi s w).2 := by
  unfold State.readHi
  repeat' (first
    | with_reducible assumption
    | exact within_trans hF rfl
    | exact bit_within hF rfl
    | with_reducible intro _
    | with_reducible apply fr_ite
    | with_reducible apply fr_ite_snd
    | with_reducible apply State.bump_fr
    | with_reducible apply State.hostFlag_fr
    | with_reducible apply State.setLatch_fr
    | split
    | dsimp only)

theorem State.readReg_fr (s : State) (a : Nat) (hF : within 58720262 F = true) (h : Fr F v s) :
    Fr F v (State.readReg s a).2 := by
  unfold State.readReg
  repeat' (first
    | with_reducible assumption
    | exact within_trans hF rfl
    | exact bit_within hF rfl
    | with_reducible intro _
    | with_reducible apply fr_ite
    | with_reducible apply fr_ite_snd
    | with_reducible apply State.readLo_fr
    | with_reducible apply State.readHi_fr
    | split
    | dsimp only)

theorem State.readRegs_fr (k a : Nat) (s : State) (hF : within 58720262 F = true) (h : Fr F v s) : Fr F v (State.readRegs k a s).2 := by
  induction k generalizing a s with
  | zero => exact h
  | succ k ih => exact ih _ _ (State.readReg_fr _ _ (within_trans hF rfl) h)

theorem State.readWindow_fr (s : State) (a n : Nat) (hF : within 58720262 F = true) (h : Fr F v s) :
    Fr F v (State.readWindow s a n).2 := by
  unfold State.readWindow
  repeat' (first
    | with_reducible assumption
    | exact within_trans hF rfl
    | exact bit_within hF rfl
    | with_reducible intro _
    | with_reducible apply fr_ite
    | with_reducible apply fr_ite_snd
    | with_reducible apply State.hostFlag_fr
    | with_reducible apply State.readRegs_fr
    | split
    | dsimp only)

theorem State.shiftOut_fr (s : State) (status : Byte) (data : Bytes) (hF : within 8388608 F = true) (h : Fr F v s) :
    Fr F v (State.shiftOut s status data) := by
  unfold State.shiftOut
  repeat' (first
    | with_reducible assumption
    | exact within_trans hF rfl
    | exact bit_within hF rfl
    | with_reducible intro _
    | with_reducible apply fr_ite
    | split
    | dsimp only
    | (with_reducible apply fr_hp; exact bit_within hF rfl
       first
         | with_reducible assumption
         | with_reducible apply fr_ite
         | split))

theorem execHostRead_fr (addr : BitVec 16) (len : Nat) (s : State) (hF : within 58720262 F = true) (h : Fr F v s) :
    FrOut F v (execHostRead addr len s) := by
  unfold execHostRead
  repeat' (first
    | with_reducible assumption
    | exact within_trans hF rfl
    | exact bit_within hF rfl
    | with_reducible apply frOut_next
    | with_reducible intro _
    | with_reducible apply fr_ite
    | with_reducible apply fr_ite_snd
    | with_reducible apply State.when_fr
    | with_reducible apply State.readWindow_fr
    | with_reducible apply State.shiftOut_fr
    | split
    | dsimp only)

theorem State.takeMailbox_fr (s : State) (hF : within 562945926885374 F = true) (h : Fr F v s) :
    Fr F v (State.takeMailbox s) := by
  unfold State.takeMailbox
  repeat' (first
    | with_reducible assumption
    | exact within_trans hF rfl
    | exact bit_within hF rfl
    | with_reducible intro _
    | with_reducible apply fr_ite
    | with_reducible apply State.abort_fr
    | with_reducible apply State.hostRequest_fr
    | split
    | dsimp only
    | (with_reducible apply fr_hp; exact bit_within hF rfl
       first
         | with_reducible assumption
         | with_reducible apply fr_ite
         | with_reducible apply State.abort_fr
         | with_reducible apply State.hostRequest_fr
         | split))

theorem State.takeNext_fr (s : State) (hF : within 562945926885374 F = true) (h : Fr F v s) :
    Fr F v (State.takeNext s) := by
  unfold State.takeNext
  repeat' (first
    | with_reducible assumption
    | exact within_trans hF rfl
    | exact bit_within hF rfl
    | with_reducible intro _
    | with_reducible apply fr_ite
    | with_reducible apply State.takeMailbox_fr
    | split
    | dsimp only)

theorem State.go_fr (s : State) (n : Nat) (hF : within 562945926885374 F = true) (h : Fr F v s) :
    Fr F v (State.go s n) := by
  unfold State.go
  repeat' (first
    | with_reducible assumption
    | exact within_trans hF rfl
    | exact bit_within hF rfl
    | with_reducible intro _
    | with_reducible apply fr_ite
    | with_reducible apply State.bump_fr
    | with_reducible apply State.hostFlag_fr
    | with_reducible apply State.takeNext_fr
    | split
    | dsimp only
    | (with_reducible apply fr_hp; exact bit_within hF rfl
       first
         | with_reducible assumption
         | with_reducible apply fr_ite
         | with_reducible apply State.bump_fr
         | with_reducible apply State.hostFlag_fr
         | with_reducible apply State.takeNext_fr
         | split))

theorem State.ackReply_fr (s : State) (hF : within 562945926885374 F = true) (h : Fr F v s) :
    Fr F v (State.ackReply s) := by
  unfold State.ackReply
  repeat' (first
    | with_reducible assumption
    | exact within_trans hF rfl
    | exact bit_within hF rfl
    | with_reducible intro _
    | with_reducible apply fr_ite
    | with_reducible apply State.takeNext_fr
    | split
    | dsimp only
    | (with_reducible apply fr_hp; exact bit_within hF rfl
       first
         | with_reducible assumption
         | with_reducible apply fr_ite
         | with_reducible apply State.takeNext_fr
         | split))

theorem execMailboxGo_fr (length : BitVec 11) (s : State) (hF : within 562945926885374 F = true) (h : Fr F v s) :
    FrOut F v (execMailboxGo length s) := by
  unfold execMailboxGo
  repeat' (first
    | with_reducible assumption
    | exact within_trans hF rfl
    | exact bit_within hF rfl
    | with_reducible apply frOut_next
    | with_reducible intro _
    | with_reducible apply fr_ite
    | with_reducible apply State.when_fr
    | with_reducible apply State.go_fr
    | split
    | dsimp only)

theorem State.placeReply_fr (s : State) (hF : within 562947000627198 F = true) (h : Fr F v s) :
    Fr F v (State.placeReply s) := by
  unfold State.placeReply
  repeat' (first
    | with_reducible assumption
    | exact within_trans hF rfl
    | exact bit_within hF rfl
    | with_reducible intro _
    | with_reducible apply fr_ite
    | with_reducible apply State.take_fr
    | with_reducible apply State.raiseIrq_fr
    | with_reducible apply State.serveHeld_fr
    | split
    | dsimp only
    | (with_reducible apply fr_hp; exact bit_within hF rfl; with_reducible apply fr_mems_mbRsp; exact bit_within hF rfl
       first
         | with_reducible assumption
         | with_reducible apply fr_ite
         | with_reducible apply State.take_fr
         | with_reducible apply State.raiseIrq_fr
         | with_reducible apply State.serveHeld_fr
         | split))

theorem execMailboxReply_fr (s : State) (hF : within 562947000627198 F = true) (h : Fr F v s) :
    FrOut F v (execMailboxReply s) := by
  unfold execMailboxReply
  repeat' (first
    | with_reducible assumption
    | exact within_trans hF rfl
    | exact bit_within hF rfl
    | with_reducible apply frOut_next
    | with_reducible intro _
    | with_reducible apply fr_ite
    | with_reducible apply State.when_fr
    | with_reducible apply State.placeReply_fr
    | split
    | dsimp only)

theorem execMailboxAck_fr (s : State) (hF : within 562945926885374 F = true) (h : Fr F v s) :
    FrOut F v (execMailboxAck s) := by
  unfold execMailboxAck
  repeat' (first
    | with_reducible assumption
    | exact within_trans hF rfl
    | exact bit_within hF rfl
    | with_reducible apply frOut_next
    | with_reducible intro _
    | with_reducible apply fr_ite
    | with_reducible apply State.when_fr
    | with_reducible apply State.serveHeld_fr
    | with_reducible apply State.ackReply_fr
    | split
    | dsimp only)

theorem State.clearIrq_fr (s : State) (mask : Nat) (hF : within 8388608 F = true) (h : Fr F v s) :
    Fr F v (State.clearIrq s mask) := by
  unfold State.clearIrq
  repeat' (first
    | with_reducible assumption
    | exact within_trans hF rfl
    | exact bit_within hF rfl
    | with_reducible intro _
    | with_reducible apply fr_ite
    | split
    | dsimp only
    | (with_reducible apply fr_hp; exact bit_within hF rfl
       first
         | with_reducible assumption
         | with_reducible apply fr_ite
         | split))

theorem State.clearHostSticky_fr (s : State) (mask : Nat) (hF : within 58720262 F = true) (h : Fr F v s) :
    Fr F v (State.clearHostSticky s mask) := by
  unfold State.clearHostSticky
  repeat' (first
    | with_reducible assumption
    | exact within_trans hF rfl
    | exact bit_within hF rfl
    | with_reducible intro _
    | with_reducible apply fr_ite
    | with_reducible apply State.stickyClear_fr
    | split
    | dsimp only)

theorem State.programChunk_fr (s : State) (hF : within 12893421568 F = true) (h : Fr F v s) :
    Fr F v (State.programChunk s) := by
  unfold State.programChunk
  repeat' (first
    | with_reducible assumption
    | exact within_trans hF rfl
    | exact bit_within hF rfl
    | with_reducible intro _
    | with_reducible apply fr_ite
    | with_reducible apply State.raiseIrq_fr
    | with_reducible apply State.setBank_fr
    | split
    | dsimp only
    | (with_reducible apply fr_boot; exact bit_within hF rfl; with_reducible apply fr_hp; exact bit_within hF rfl
       first
         | with_reducible assumption
         | with_reducible apply fr_ite
         | with_reducible apply State.raiseIrq_fr
         | with_reducible apply State.setBank_fr
         | split))

theorem State.rcvVerify_fr (s : State) (hF : within 562933041852406 F = true) (h : Fr F v s) :
    Fr F v (State.rcvVerify s) := by
  unfold State.rcvVerify
  repeat' (first
    | with_reducible assumption
    | exact within_trans hF rfl
    | exact bit_within hF rfl
    | with_reducible intro _
    | with_reducible apply fr_ite
    | with_reducible apply State.set_fr
    | with_reducible apply State.raiseIrq_fr
    | with_reducible apply State.restart_fr
    | with_reducible apply State.hostFlag_fr
    | split
    | dsimp only
    | (with_reducible apply fr_hp; exact bit_within hF rfl
       first
         | with_reducible assumption
         | with_reducible apply fr_ite
         | with_reducible apply State.set_fr
         | with_reducible apply State.raiseIrq_fr
         | with_reducible apply State.restart_fr
         | with_reducible apply State.hostFlag_fr
         | split))

theorem State.writeRcvCtrl_fr (s : State) (v' : Nat) (hF : within 562945926885366 F = true) (h : Fr F v s) :
    Fr F v (State.writeRcvCtrl s v') := by
  unfold State.writeRcvCtrl
  repeat' (first
    | with_reducible assumption
    | exact within_trans hF rfl
    | exact bit_within hF rfl
    | with_reducible intro _
    | with_reducible apply fr_ite
    | with_reducible apply State.programChunk_fr
    | with_reducible apply State.rcvVerify_fr
    | split
    | dsimp only
    | (with_reducible apply fr_hp; exact bit_within hF rfl
       first
         | with_reducible assumption
         | with_reducible apply fr_ite
         | with_reducible apply State.programChunk_fr
         | with_reducible apply State.rcvVerify_fr
         | split))

theorem State.writeReg_fr (s : State) (a v' : Nat) (hF : within 562945926885374 F = true) (h : Fr F v s) :
    Fr F v (State.writeReg s a v') := by
  unfold State.writeReg
  repeat' (first
    | with_reducible assumption
    | exact within_trans hF rfl
    | exact bit_within hF rfl
    | with_reducible intro _
    | with_reducible apply fr_ite
    | with_reducible apply State.set_fr
    | with_reducible apply State.go_fr
    | with_reducible apply State.ackReply_fr
    | with_reducible apply State.clearIrq_fr
    | with_reducible apply State.clearHostSticky_fr
    | with_reducible apply State.writeRcvCtrl_fr
    | split
    | dsimp only
    | (with_reducible apply fr_hp; exact bit_within hF rfl
       first
         | with_reducible assumption
         | with_reducible apply fr_ite
         | with_reducible apply State.set_fr
         | with_reducible apply State.go_fr
         | with_reducible apply State.ackReply_fr
         | with_reducible apply State.clearIrq_fr
         | with_reducible apply State.clearHostSticky_fr
         | with_reducible apply State.writeRcvCtrl_fr
         | split))

theorem State.writeBufferByte_fr (s : State) (a : Nat) (b : Byte) (hF : within 2684354560 F = true) (h : Fr F v s) :
    Fr F v (State.writeBufferByte s a b) := by
  unfold State.writeBufferByte
  repeat' (first
    | with_reducible assumption
    | exact within_trans hF rfl
    | exact bit_within hF rfl
    | with_reducible intro _
    | with_reducible apply fr_ite
    | split
    | dsimp only
    | (with_reducible apply fr_mems_mbReq; exact bit_within hF rfl; with_reducible apply fr_mems_rcv; exact bit_within hF rfl
       first
         | with_reducible assumption
         | with_reducible apply fr_ite
         | split))

theorem State.writeBuffer_fr (s : State) (a : Nat) (bs : Bytes) (hF : within 2684354560 F = true) (h : Fr F v s) :
    Fr F v (State.writeBuffer s a bs) := by
  induction bs generalizing a s with
  | nil => exact h
  | cons x vs ih => exact ih _ _ (State.writeBufferByte_fr _ _ _ (within_trans hF rfl) h)

theorem State.writeRegs_fr (s : State) (a : Nat) (vs : List Nat) (hF : within 562945926885374 F = true) (h : Fr F v s) :
    Fr F v (State.writeRegs s a vs) := by
  induction vs generalizing a s with
  | nil => exact h
  | cons x vs ih => exact ih _ _ (State.writeReg_fr _ _ _ (within_trans hF rfl) h)

theorem State.writeWindow_fr (s : State) (a : Nat) (data : Bytes) (hF : within 562948611239934 F = true) (h : Fr F v s) :
    Fr F v (State.writeWindow s a data) := by
  unfold State.writeWindow
  repeat' (first
    | with_reducible assumption
    | exact within_trans hF rfl
    | exact bit_within hF rfl
    | with_reducible intro _
    | with_reducible apply fr_ite
    | with_reducible apply State.hostFlag_fr
    | with_reducible apply State.writeBuffer_fr
    | with_reducible apply State.writeRegs_fr
    | split
    | dsimp only)

theorem execHostWrite_fr (addr : BitVec 16) (data : Bytes) (s : State) (hF : within 562948611239934 F = true) (h : Fr F v s) :
    FrOut F v (execHostWrite addr data s) := by
  unfold execHostWrite
  repeat' (first
    | with_reducible assumption
    | exact within_trans hF rfl
    | exact bit_within hF rfl
    | with_reducible apply frOut_next
    | with_reducible intro _
    | with_reducible apply fr_ite
    | with_reducible apply State.when_fr
    | with_reducible apply State.serveHeld_fr
    | with_reducible apply State.shiftOut_fr
    | with_reducible apply State.writeWindow_fr
    | split
    | dsimp only)

theorem execBadCommand_fr (code : Byte) (s : State) (hF : within 58720262 F = true) (h : Fr F v s) :
    FrOut F v (execBadCommand code s) := by
  unfold execBadCommand
  repeat' (first
    | with_reducible assumption
    | exact within_trans hF rfl
    | exact bit_within hF rfl
    | with_reducible apply frOut_next
    | with_reducible intro _
    | with_reducible apply fr_ite
    | with_reducible apply State.when_fr
    | with_reducible apply State.hostFlag_fr
    | with_reducible apply State.shiftOut_fr
    | split
    | dsimp only)

theorem execHpIrqStatusClear_fr (mask : BitVec 32) (s : State) (hF : within 8388608 F = true) (h : Fr F v s) :
    FrOut F v (execHpIrqStatusClear mask s) := by
  unfold execHpIrqStatusClear
  repeat' (first
    | with_reducible assumption
    | exact within_trans hF rfl
    | exact bit_within hF rfl
    | with_reducible apply frOut_next
    | with_reducible intro _
    | with_reducible apply fr_ite
    | with_reducible apply State.when_fr
    | with_reducible apply State.clearIrq_fr
    | split
    | dsimp only)

theorem execHpStickyClear_fr (mask : BitVec 32) (s : State) (hF : within 58720262 F = true) (h : Fr F v s) :
    FrOut F v (execHpStickyClear mask s) := by
  unfold execHpStickyClear
  repeat' (first
    | with_reducible assumption
    | exact within_trans hF rfl
    | exact bit_within hF rfl
    | with_reducible apply frOut_next
    | with_reducible intro _
    | with_reducible apply fr_ite
    | with_reducible apply State.when_fr
    | with_reducible apply State.clearHostSticky_fr
    | split
    | dsimp only)

theorem execLoReadLatch_fr (pair : WidePair) (s : State) (hF : within 8388608 F = true) (h : Fr F v s) :
    FrOut F v (execLoReadLatch pair s) := by
  unfold execLoReadLatch
  repeat' (first
    | with_reducible assumption
    | exact within_trans hF rfl
    | exact bit_within hF rfl
    | with_reducible apply frOut_next
    | with_reducible intro _
    | with_reducible apply fr_ite
    | with_reducible apply fr_ite_snd
    | with_reducible apply State.when_fr
    | with_reducible apply State.readLo_fr
    | with_reducible apply State.shiftOut_fr
    | split
    | dsimp only)

theorem execHiRead_fr (pair : WidePair) (s : State) (hF : within 58720262 F = true) (h : Fr F v s) :
    FrOut F v (execHiRead pair s) := by
  unfold execHiRead
  repeat' (first
    | with_reducible assumption
    | exact within_trans hF rfl
    | exact bit_within hF rfl
    | with_reducible apply frOut_next
    | with_reducible intro _
    | with_reducible apply fr_ite
    | with_reducible apply fr_ite_snd
    | with_reducible apply State.when_fr
    | with_reducible apply State.readHi_fr
    | with_reducible apply State.shiftOut_fr
    | split
    | dsimp only)

theorem execForensicRead_fr (addr : BitVec 24) (len : Nat) (s : State) (hF : within 8388608 F = true) (h : Fr F v s) :
    FrOut F v (execForensicRead addr len s) := by
  unfold execForensicRead
  repeat' (first
    | with_reducible assumption
    | exact within_trans hF rfl
    | exact bit_within hF rfl
    | with_reducible apply frOut_next
    | with_reducible intro _
    | with_reducible apply fr_ite
    | with_reducible apply State.when_fr
    | with_reducible apply State.shiftOut_fr
    | split
    | dsimp only)

theorem execWake_fr (body : Bytes) (s : State) (hF : within 17188258822 F = true) (h : Fr F v s) :
    FrOut F v (execWake body s) := by
  unfold execWake
  repeat' (first
    | with_reducible assumption
    | exact within_trans hF rfl
    | exact bit_within hF rfl
    | with_reducible apply frOut_next
    | with_reducible intro _
    | with_reducible apply fr_ite
    | with_reducible apply State.when_fr
    | with_reducible apply State.wakeStart_fr
    | with_reducible apply State.endLockout_fr
    | with_reducible apply State.shiftOut_fr
    | split
    | dsimp only
    | (with_reducible apply fr_power; exact bit_within hF rfl
       first
         | with_reducible assumption
         | with_reducible apply fr_ite
         | with_reducible apply State.when_fr
         | with_reducible apply State.wakeStart_fr
         | with_reducible apply State.endLockout_fr
         | with_reducible apply State.shiftOut_fr
         | split))

theorem execRcvCommit_fr (offset : BitVec 21) (s : State) (hF : within 562945926885366 F = true) (h : Fr F v s) :
    FrOut F v (execRcvCommit offset s) := by
  unfold execRcvCommit
  repeat' (first
    | with_reducible assumption
    | exact within_trans hF rfl
    | exact bit_within hF rfl
    | with_reducible apply frOut_next
    | with_reducible intro _
    | with_reducible apply fr_ite
    | with_reducible apply State.when_fr
    | with_reducible apply State.writeRcvCtrl_fr
    | split
    | dsimp only)

theorem execRcvVerify_fr (offset : BitVec 21) (s : State) (hF : within 562945926885366 F = true) (h : Fr F v s) :
    FrOut F v (execRcvVerify offset s) := by
  unfold execRcvVerify
  repeat' (first
    | with_reducible assumption
    | exact within_trans hF rfl
    | exact bit_within hF rfl
    | with_reducible apply frOut_next
    | with_reducible intro _
    | with_reducible apply fr_ite
    | with_reducible apply State.when_fr
    | with_reducible apply State.writeRcvCtrl_fr
    | split
    | dsimp only)

end Sys2Proof.Machine
end

