-- ==== Sys2Proof/Laws/FrameLoop.lean ====
section
/-!
SUPPORT. The frames of the functions of Sys2Proof/Machine/Loop.lean, one lemma for each of them (Laws/Frame.lean).
-/

namespace Sys2Proof.Machine

set_option linter.unusedTactic false
set_option linter.unreachableTactic false
set_option linter.unusedVariables false

open Sys2Proof

variable {F : Nat} {v : State}

theorem execLoopFrame_fr (d : Dir) (meas : List PathMeas) (s : State) (hF : within 562945926885375 F = true) (h : Fr F v s) :
    FrOut F v (execLoopFrame d meas s) := by
  unfold execLoopFrame
  repeat' (first
    | with_reducible assumption
    | exact within_trans hF rfl
    | exact bit_within hF rfl
    | with_reducible apply frOut_next
    | with_reducible intro _
    | with_reducible apply fr_ite
    | with_reducible apply State.when_fr
    | with_reducible apply State.loopFrame_fr
    | with_reducible apply State.serveWaiting_fr
    | split
    | dsimp only)

theorem execProbeEnd_fr (path : Fin 16) (own partner : PathMeas) (s : State) (hF : within 217273870917719 F = true) (h : Fr F v s) :
    FrOut F v (execProbeEnd path own partner s) := by
  unfold execProbeEnd
  repeat' (first
    | with_reducible assumption
    | exact within_trans hF rfl
    | exact bit_within hF rfl
    | with_reducible apply frOut_next
    | with_reducible intro _
    | with_reducible apply fr_ite
    | with_reducible apply State.onTimer_fr
    | with_reducible apply State.when_fr
    | with_reducible apply State.probeEnd_fr
    | split
    | dsimp only)

theorem execProbeRetry_fr (path : Fin 16) (s : State) (hF : within 7 F = true) (h : Fr F v s) :
    FrOut F v (execProbeRetry path s) := by
  unfold execProbeRetry
  repeat' (first
    | with_reducible assumption
    | exact within_trans hF rfl
    | exact bit_within hF rfl
    | with_reducible apply frOut_next
    | with_reducible intro _
    | with_reducible apply fr_ite
    | with_reducible apply State.disarm_fr
    | with_reducible apply State.onTimer_fr
    | split
    | dsimp only)

theorem execRecheckTimeout_fr (d : Dir) (s : State) (hF : within 76673821515863 F = true) (h : Fr F v s) :
    FrOut F v (execRecheckTimeout d s) := by
  unfold execRecheckTimeout
  repeat' (first
    | with_reducible assumption
    | exact within_trans hF rfl
    | exact bit_within hF rfl
    | with_reducible apply frOut_next
    | with_reducible intro _
    | with_reducible apply fr_ite
    | with_reducible apply State.onTimer_fr
    | with_reducible apply State.faultRow_fr
    | with_reducible apply State.setHeld_fr
    | with_reducible apply State.raiseDir_fr
    | with_reducible apply State.settleGains_fr
    | split
    | dsimp only)

theorem execOscBlockEnd_fr (path : Fin 16) (rho envelope : BitVec 16) (s : State) (hF : within 360210583858390 F = true) (h : Fr F v s) :
    FrOut F v (execOscBlockEnd path rho envelope s) := by
  unfold execOscBlockEnd
  repeat' (first
    | with_reducible assumption
    | exact within_trans hF rfl
    | exact bit_within hF rfl
    | with_reducible apply frOut_next
    | with_reducible intro _
    | with_reducible apply fr_ite
    | with_reducible apply State.set_fr
    | with_reducible apply State.when_fr
    | with_reducible apply State.setPath_fr
    | with_reducible apply State.fabEvent_fr
    | with_reducible apply State.netTrigger_fr
    | split
    | dsimp only)

theorem execNoiseHoldExpiry_fr (path : Fin 16) (s : State) (hF : within 360210583858391 F = true) (h : Fr F v s) :
    FrOut F v (execNoiseHoldExpiry path s) := by
  unfold execNoiseHoldExpiry
  repeat' (first
    | with_reducible assumption
    | exact within_trans hF rfl
    | exact bit_within hF rfl
    | with_reducible apply frOut_next
    | with_reducible intro _
    | with_reducible apply fr_ite
    | with_reducible apply State.onTimer_fr
    | with_reducible apply State.netTrigger_fr
    | split
    | dsimp only)

theorem execLockoutExpiry_fr (s : State) (hF : within 549819067399 F = true) (h : Fr F v s) :
    FrOut F v (execLockoutExpiry s) := by
  unfold execLockoutExpiry
  repeat' (first
    | with_reducible assumption
    | exact within_trans hF rfl
    | exact bit_within hF rfl
    | with_reducible apply frOut_next
    | with_reducible intro _
    | with_reducible apply fr_ite
    | with_reducible apply State.onTimer_fr
    | with_reducible apply State.endTimedLockout_fr
    | split
    | dsimp only)

end Sys2Proof.Machine
end

