-- ==== Sys2Proof/Laws/FrameQueues.lean ====
section
/-!
SUPPORT. The frames of the functions of Sys2Proof/Machine/Queues.lean, one lemma for each of them (Laws/Frame.lean).
-/

namespace Sys2Proof.Machine

set_option linter.unusedTactic false
set_option linter.unreachableTactic false
set_option linter.unusedVariables false

open Sys2Proof

variable {F : Nat} {v : State}

theorem execQueuePost_fr (queue : Byte) (body : Bytes) (derived : Bool) (s : State) (hF : within 58720262 F = true) (h : Fr F v s) :
    FrOut F v (execQueuePost queue body derived s) := by
  unfold execQueuePost
  repeat' (first
    | with_reducible assumption
    | exact within_trans hF rfl
    | exact bit_within hF rfl
    | with_reducible apply frOut_next
    | with_reducible intro _
    | with_reducible apply fr_ite
    | with_reducible apply State.when_fr
    | with_reducible apply State.post_fr
    | with_reducible apply State.noteSummary_fr
    | with_reducible apply State.rearmTx_fr
    | split
    | dsimp only)

theorem State.takeSafety_fr (s : State) (q : Nat) (hF : within 258505691181022 F = true) (h : Fr F v s) :
    Fr F v (State.takeSafety s q) := by
  unfold State.takeSafety
  repeat' (first
    | with_reducible assumption
    | exact within_trans hF rfl
    | exact bit_within hF rfl
    | with_reducible intro _
    | with_reducible apply fr_ite
    | with_reducible apply State.arm_fr
    | with_reducible apply State.take_fr
    | with_reducible apply State.collapseReported_fr
    | split
    | dsimp only)

theorem State.takeLog_fr (s : State) (q : Nat) (hF : within 281475236757510 F = true) (h : Fr F v s) :
    Fr F v (State.takeLog s q) := by
  unfold State.takeLog
  repeat' (first
    | with_reducible assumption
    | exact within_trans hF rfl
    | exact bit_within hF rfl
    | with_reducible intro _
    | with_reducible apply fr_ite
    | with_reducible apply State.take_fr
    | with_reducible apply State.commitMsg_fr
    | split
    | dsimp only)

theorem State.takeLink_fr (s : State) (q : Nat) (hF : within 140737505132550 F = true) (h : Fr F v s) :
    Fr F v (State.takeLink s q) := by
  unfold State.takeLink
  repeat' (first
    | with_reducible assumption
    | exact within_trans hF rfl
    | exact bit_within hF rfl
    | with_reducible intro _
    | with_reducible apply fr_ite
    | with_reducible apply State.take_fr
    | with_reducible apply State.linkStat_fr
    | split
    | dsimp only
    | (with_reducible apply fr_twin; exact bit_within hF rfl
       first
         | with_reducible assumption
         | with_reducible apply fr_ite
         | with_reducible apply State.take_fr
         | with_reducible apply State.linkStat_fr
         | split))

theorem State.takeNotify_fr (s : State) (q : Nat) (hF : within 50331654 F = true) (h : Fr F v s) :
    Fr F v (State.takeNotify s q) := by
  unfold State.takeNotify
  repeat' (first
    | with_reducible assumption
    | exact within_trans hF rfl
    | exact bit_within hF rfl
    | with_reducible intro _
    | with_reducible apply fr_ite
    | with_reducible apply State.take_fr
    | with_reducible apply State.notify_fr
    | split
    | dsimp only)

theorem State.consume_fr (s : State) (q : Nat) (hF : within 562533608271838 F = true) (h : Fr F v s) :
    Fr F v (State.consume s q) := by
  unfold State.consume
  repeat' (first
    | with_reducible assumption
    | exact within_trans hF rfl
    | exact bit_within hF rfl
    | with_reducible intro _
    | with_reducible apply fr_ite
    | with_reducible apply State.take_fr
    | with_reducible apply State.programSegment_fr
    | with_reducible apply State.takeSafety_fr
    | with_reducible apply State.takeLog_fr
    | with_reducible apply State.takeLink_fr
    | with_reducible apply State.takeNotify_fr
    | with_reducible apply State.releaseHkb_fr
    | split
    | dsimp only)

theorem execQueueTake_fr (queue : Byte) (s : State) (hF : within 562947000627198 F = true) (h : Fr F v s) :
    FrOut F v (execQueueTake queue s) := by
  unfold execQueueTake
  repeat' (first
    | with_reducible assumption
    | exact within_trans hF rfl
    | exact bit_within hF rfl
    | with_reducible apply frOut_next
    | with_reducible intro _
    | with_reducible apply fr_ite
    | with_reducible apply State.when_fr
    | with_reducible apply State.handle_fr
    | with_reducible apply State.noteSummary_fr
    | with_reducible apply State.noteServed_fr
    | with_reducible apply State.serveHeld_fr
    | with_reducible apply State.transmit_fr
    | with_reducible apply State.placeReply_fr
    | with_reducible apply State.consume_fr
    | split
    | dsimp only)

theorem State.deferHeld_fr (s : State) (h' : Held) (hF : within 63250438 F = true) (h : Fr F v s) :
    Fr F v (State.deferHeld s h') := by
  unfold State.deferHeld
  repeat' (first
    | with_reducible assumption
    | exact within_trans hF rfl
    | exact bit_within hF rfl
    | with_reducible intro _
    | with_reducible apply fr_ite
    | with_reducible apply State.arm_fr
    | with_reducible apply State.abort_fr
    | split
    | dsimp only
    | (with_reducible apply fr_eng; exact bit_within hF rfl
       first
         | with_reducible assumption
         | with_reducible apply fr_ite
         | with_reducible apply State.arm_fr
         | with_reducible apply State.abort_fr
         | split))

theorem State.deferSegment_fr (s : State) (g : Seg) (c : Caller) (hF : within 65347590 F = true) (h : Fr F v s) :
    Fr F v (State.deferSegment s g c) := by
  unfold State.deferSegment
  repeat' (first
    | with_reducible assumption
    | exact within_trans hF rfl
    | exact bit_within hF rfl
    | with_reducible intro _
    | with_reducible apply fr_ite
    | with_reducible apply State.abort_fr
    | with_reducible apply State.endSpent_fr
    | split
    | dsimp only
    | (with_reducible apply fr_upd; exact bit_within hF rfl
       first
         | with_reducible assumption
         | with_reducible apply fr_ite
         | with_reducible apply State.abort_fr
         | with_reducible apply State.endSpent_fr
         | split))

theorem execDeferTimeout_fr (src : BitVec 16) (tid : Byte) (s : State) (hF : within 65347591 F = true) (h : Fr F v s) :
    FrOut F v (execDeferTimeout src tid s) := by
  unfold execDeferTimeout
  repeat' (first
    | with_reducible assumption
    | exact within_trans hF rfl
    | exact bit_within hF rfl
    | with_reducible apply frOut_next
    | with_reducible intro _
    | with_reducible apply fr_ite
    | with_reducible apply State.onTimer_fr
    | with_reducible apply State.deferHeld_fr
    | with_reducible apply State.deferSegment_fr
    | split
    | dsimp only)

theorem execDeferLimitExpiry_fr (src : BitVec 16) (tid : Byte) (s : State) (hF : within 562945926885375 F = true) (h : Fr F v s) :
    FrOut F v (execDeferLimitExpiry src tid s) := by
  unfold execDeferLimitExpiry
  repeat' (first
    | with_reducible assumption
    | exact within_trans hF rfl
    | exact bit_within hF rfl
    | with_reducible apply frOut_next
    | with_reducible intro _
    | with_reducible apply fr_ite
    | with_reducible apply State.bump_fr
    | with_reducible apply State.onTimer_fr
    | with_reducible apply State.faultRow_fr
    | with_reducible apply State.abort_fr
    | with_reducible apply State.unqueue_fr
    | with_reducible apply State.serveHeld_fr
    | with_reducible apply State.noteRefusal_fr
    | with_reducible apply State.countDrop_fr
    | split
    | dsimp only
    | (with_reducible apply fr_eng; exact bit_within hF rfl
       first
         | with_reducible assumption
         | with_reducible apply fr_ite
         | with_reducible apply State.bump_fr
         | with_reducible apply State.onTimer_fr
         | with_reducible apply State.faultRow_fr
         | with_reducible apply State.abort_fr
         | with_reducible apply State.unqueue_fr
         | with_reducible apply State.serveHeld_fr
         | with_reducible apply State.noteRefusal_fr
         | with_reducible apply State.countDrop_fr
         | split))

theorem execRefusalExpiry_fr (p : Port) (s : State) (hF : within 62914567 F = true) (h : Fr F v s) :
    FrOut F v (execRefusalExpiry p s) := by
  unfold execRefusalExpiry
  repeat' (first
    | with_reducible assumption
    | exact within_trans hF rfl
    | exact bit_within hF rfl
    | with_reducible apply frOut_next
    | with_reducible intro _
    | with_reducible apply fr_ite
    | with_reducible apply State.onTimer_fr
    | with_reducible apply State.setPortEng_fr
    | with_reducible apply State.refusalGone_fr
    | with_reducible apply State.rearmRefusal_fr
    | split
    | dsimp only)

theorem State.discardQueue_fr (s : State) (q : Nat) (hF : within 23330822 F = true) (h : Fr F v s) :
    Fr F v (State.discardQueue s q) := by
  unfold State.discardQueue
  repeat' (first
    | with_reducible assumption
    | exact within_trans hF rfl
    | exact bit_within hF rfl
    | with_reducible intro _
    | with_reducible apply fr_ite
    | with_reducible apply State.set_fr
    | with_reducible apply State.disarm_fr
    | with_reducible apply State.escapeWaiting_fr
    | split
    | dsimp only
    | (with_reducible apply fr_eng; exact bit_within hF rfl; with_reducible apply fr_upd; exact bit_within hF rfl; with_reducible apply fr_field; exact bit_within hF rfl; with_reducible apply fr_q; exact bit_within hF rfl
       first
         | with_reducible assumption
         | with_reducible apply fr_ite
         | with_reducible apply State.set_fr
         | with_reducible apply State.disarm_fr
         | with_reducible apply State.escapeWaiting_fr
         | split))

theorem execCreditAudit_fr (queue : Byte) (found : Nat) (s : State) (hF : within 562945926885374 F = true) (h : Fr F v s) :
    FrOut F v (execCreditAudit queue found s) := by
  unfold execCreditAudit
  repeat' (first
    | with_reducible assumption
    | exact within_trans hF rfl
    | exact bit_within hF rfl
    | with_reducible apply frOut_next
    | with_reducible intro _
    | with_reducible apply fr_ite
    | with_reducible apply State.when_fr
    | with_reducible apply State.placeWaiting_fr
    | with_reducible apply State.faultRow_fr
    | with_reducible apply State.serveHeld_fr
    | with_reducible apply State.discardQueue_fr
    | split
    | dsimp only)

theorem execEscapeHeld_fr (cls : Fin 8) (s : State) (hF : within 58720263 F = true) (h : Fr F v s) :
    FrOut F v (execEscapeHeld cls s) := by
  unfold execEscapeHeld
  repeat' (first
    | with_reducible assumption
    | exact within_trans hF rfl
    | exact bit_within hF rfl
    | with_reducible apply frOut_next
    | with_reducible intro _
    | with_reducible apply fr_ite
    | with_reducible apply State.onTimer_fr
    | with_reducible apply State.faultRow_fr
    | split
    | dsimp only)

end Sys2Proof.Machine
end

