-- ==== Sys2Proof/Machine/Samples.lean ====
section
/-!
DEFINITION. What the converters, the band paths and the DACs do with one period of the sample clock (ch. 09: R312 to
R326, R336 to R341; R367, R394). No command carries a sample, so that no command calls `State.carry`: what it finds, a
tasting block, a saturated element, a window's results, a clipped sum, is what the datapath commands report (log entry
130). The fixed delays of R314 and R327 are not in it.
-/

namespace Sys2Proof.Machine

open Sys2Proof

/-- A number held to a signed width (R325). -/
def clampTo (bits : Nat) (x : Int) : Int := max (-(2 : Int) ^ (bits - 1)) (min ((2 : Int) ^ (bits - 1) - 1) x)

/-- An element's width: 18 bits at the input mixer (Table 9-2). -/
def elementWidth (e : Nat) : Nat := if e = 0 then 18 else Config.elementBits e

/-- An element's output: the exact result held to its width, and the element's bit once more for a sample that
saturated (R325). -/
def emit (e : Nat) (x : Iq) (sats : List Nat) : Iq × List Nat :=
  let y : Iq := ⟨clampTo (elementWidth e) x.i, clampTo (elementWidth e) x.q⟩
  (y, if y = x then sats else e :: sats)

/-- An exact complex result rounded to the grid. -/
def roundIq (x : Iq) (shift : Nat) : Iq := ⟨Config.roundShift x.i shift, Config.roundShift x.q shift⟩

/-- Σ tap × sample over a delay line, latest first; what has not come yet is zero. -/
def dot (tap : Nat → Int) (n : Nat) (line : List Iq) : Iq :=
  (List.range n).foldl (fun acc k =>
    let x := line.getD k ⟨0, 0⟩
    ⟨acc.i + tap k * x.i, acc.q + tap k * x.q⟩) ⟨0, 0⟩

/-! ## Converters -/

/-- One sample through a DC blocker (R317, R318): y = x − m, and m moves by (x − m) × 2^−k unless it is frozen. Both in
2^−24 LSB. -/
def dcBlock (shift : Nat) (frozen : Bool) (m x : Int) : Int × Int :=
  let y := x * 2 ^ 24 - m
  (y, if frozen then m else m + Config.roundShift y shift)

/-- The four converters' samples through their blockers. -/
def State.blocked (s : State) (xs : List Int) : List (Int × Int) :=
  (List.range 4).map (fun c =>
    dcBlock (s.get (Obj.adcDcShift c)) (s.get (Obj.adcDcFrozen c) == 1) (s.conv.means.getD c 0) (xs.getD c 0))

/-- A path's stream over one period of the sample clock (Table 9-1): in Interleaved A's sample, then B's. -/
def State.streamOf (s : State) (p : Nat) (ys : List Int) : List Int :=
  let pair := 2 * dirNum (s.dirOf p)
  if s.pairMode (s.dirOf p) = 1 then [ys.getD pair 0, ys.getD (pair + 1) 0] else [ys.getD (s.converterOf p) 0]

/-- A tasting block (R316): how many of its sample pairs differ by more than Converter.TasteWindow, and the largest
difference: what TASTE_BLOCK_END brings. -/
def State.tasteBlock (s : State) (xs : List (Int × Int)) : Nat × Nat :=
  let ds := xs.map (fun x => (x.1 - x.2).natAbs)
  ((ds.filter (fun d => decide (s.get Obj.converterTasteWindow < d))).length, ds.foldl max 0)

/-! ## A band path's settings -/

/-- What a path's elements read of the dictionary and of the gain in force. -/
structure PathSet where
  path : Nat
  first : Nat
  depth : Nat
  inWord : Nat
  outWord : Nat
  fir : List Int
  gain : Option Int
  pilot : Option Int
  silent : Bool
  afterGain : Bool
  attack : Nat
  decay : Nat
deriving DecidableEq, Repr

/-- Tap k of the channel FIR, in 2^−15 parts: h[k], and the same backwards (R367). -/
def firTap (h : List Int) (k : Nat) : Int := h.getD (if k < 32 then k else 63 - k) 0

/-- The level of a path's pilot in 0.01 dBFS (R394, R395, R410, R413): ProbeLevel in a probe, and unmuted the output noise
floor plus Stab.PilotOffset, held between −110 and −40 dBFS; none muted or behind a closed gate. -/
def State.pilotLevel (s : State) (p : Nat) : Option Int :=
  if s.get (Obj.stabState p) = 1 then some (s.getI Obj.stabProbeLevel)
  else if s.inService p then
    (s.noiseFloor p).map (fun n => max (-11000) (min (-4000) (n + s.getI Obj.stabPilotOffset)))
  else none

/-- A path contributes zero while it is muted, suppressed or behind a closed gate (R320, R328, R380); a probe sends its
pilot (R410). -/
def State.silentPath (s : State) (p : Nat) : Bool :=
  !s.bandOn p || s.get (Obj.stabState p) == 0 || s.get (Obj.stabState p) == 6 || s.get (Obj.stabState p) == 5
    || s.get (Obj.bandPathSettling p) == 1

/-- A path's settings as they stand: the gain stage is off unless the path is unmuted (R326, R410). -/
def State.pathSet (s : State) (p : Nat) : PathSet where
  path := p
  first := if s.pairMode (s.dirOf p) = 1 then 1 else 2
  depth := s.get (Obj.bandDepth p)
  inWord := s.get (Obj.bandInNcoWord p)
  outWord := s.get (Obj.bandOutNcoWord p)
  fir := (List.range 32).map (fun k => toSigned 2 (fieldAt (s.bytesOf (Obj.bandFir p)) (2 * k) 2))
  gain := if s.unmuted p then some (s.stageGain p) else none
  pilot := s.pilotLevel p
  silent := s.silentPath p
  afterGain := (s.path p).window % 2 == 1
  attack := s.get (Obj.bandPathEnvAttack p)
  decay := s.get (Obj.bandPathEnvDecay p)

/-! ## The elements (Table 9-2) -/

/-- An NCO phase moved on by its word; a new word changes the step alone, so that the phase stays continuous (R322). -/
def nextPhase (phase word : Nat) : Nat := (phase + word) % 2 ^ 32

/-- The input mixer (element 1): the stream's sample times 2 and the conjugate carrier. A converter's full scale 2^13 is
2^15 of the I and Q scale, hence the factor 4. -/
def mixIn (t : PathSet) (c : Chain) (y : Int) (sats : List Nat) : Chain × Iq × List Nat :=
  let w := Config.carrier c.inPhase
  let z := roundIq ⟨8 * y * w.1 * 2 ^ Config.iqFraction, -(8 * y * w.2 * 2 ^ Config.iqFraction)⟩ 41
  let r := emit 0 z sats
  ({ c with inPhase := nextPhase c.inPhase t.inWord }, r.1, r.2)

/-- Stage k's coefficients: sharp at stage D, short below it (R323). -/
def stageTap (depth k : Nat) : Nat → Int := if k = depth then Config.sharpTap else Config.shortTap

/-- How many they are (Table 9-3). -/
def stageTaps (depth k : Nat) : Nat := if k = depth then 43 else 11

/-- Decimation stages k to D (element 2), `n` of them: each gives every second of its inputs' filtered values on. -/
def decimate (depth : Nat) : Nat → Nat → Chain → Iq → List Nat → Chain × Option Iq × List Nat
  | 0, _, c, x, sats => (c, some x, sats)
  | n + 1, k, c, x, sats =>
    let d := c.decim.getD (k - 1) (0, [])
    let line := (x :: d.2).take (stageTaps depth k)
    let c := { c with decim := c.decim.set (k - 1) ((d.1 + 1) % 2, line) }
    if d.1 = 0 then (c, none, sats)
    else
      let r := emit k (roundIq (dot (stageTap depth k) (stageTaps depth k) line) 17) sats
      decimate depth n (k + 1) c r.1 r.2

/-- The channel FIR (element 3, R367, R368): 64 taps. -/
def channelFir (t : PathSet) (c : Chain) (x : Iq) (sats : List Nat) : Chain × Iq × List Nat :=
  let line := (x :: c.fir).take 64
  let r := emit 10 (roundIq (dot (firTap t.fir) 64 line) 15) sats
  ({ c with fir := line }, r.1, r.2)

/-- The gain stage (element 4, R326): off gives zero. -/
def gainStage (t : PathSet) (x : Iq) (sats : List Nat) : Iq × List Nat :=
  match t.gain with
  | none => (⟨0, 0⟩, sats)
  | some g => emit 11 (roundIq ⟨Config.amplitude g * x.i, Config.amplitude g * x.q⟩ 24) sats

/-- The pilot added after the gain stage: BPSK on I and Q, the path's own sequence of 2^17 − 1 chips (R394). -/
def addPilot (t : PathSet) (c : Chain) (x : Iq) : Chain × Iq :=
  match t.pilot with
  | none => (c, x)
  | some l =>
    let a := Config.roundShift (Config.amplitude l * 2 ^ (15 + Config.iqFraction)) 24
    let a := if Config.pilotChip t.path c.chip then -a else a
    ({ c with chip := (c.chip + 1) % (2 ^ 17 - 1) }, ⟨x.i + a, x.q + a⟩)

/-- One interpolation stage over a run of its inputs (element 5): two outputs for each, the even and the odd taps, times
2 for the zeros between. -/
def interpolateStage (depth k : Nat) : List Iq → List Iq → List Nat → List Iq × List Iq × List Nat
  | line, [], sats => (line, [], sats)
  | line, x :: xs, sats =>
    let line := (x :: line).take ((stageTaps depth k + 1) / 2)
    let half := fun (odd : Nat) =>
      roundIq (dot (fun j => if 2 * j + odd < stageTaps depth k then 2 * stageTap depth k (2 * j + odd) else 0)
        ((stageTaps depth k + 1) / 2) line) 17
    let a := emit (11 + k) (half 0) sats
    let b := emit (11 + k) (half 1) a.2
    let rest := interpolateStage depth k line xs b.2
    (rest.1, a.1 :: b.1 :: rest.2.1, rest.2.2)

/-- Interpolation stages k to 1: 2^k samples of 491.52 MHz from one of the final rate. -/
def interpolateAll (depth : Nat) : Nat → Chain → List Iq → List Nat → Chain × List Iq × List Nat
  | 0, c, xs, sats => (c, xs, sats)
  | k + 1, c, xs, sats =>
    let r := interpolateStage depth (k + 1) (c.interp.getD k []) xs sats
    interpolateAll depth k { c with interp := c.interp.set k r.1 } r.2.1 r.2.2

/-- The output mixer (element 6): the real part of the up-mixed signal, 0 dBFS being the DAC's full scale. -/
def mixOut (t : PathSet) : Chain → List Iq → List Nat → Chain × List Int × List Nat
  | c, [], sats => (c, [], sats)
  | c, x :: xs, sats =>
    let w := Config.carrier c.outPhase
    let z := Config.roundShift (x.i * w.1 - x.q * w.2) (19 + Config.iqFraction)
    let y := clampTo (elementWidth 21) z
    let rest := mixOut t { c with outPhase := nextPhase c.outPhase t.outWord } xs (if y = z then sats else 21 :: sats)
    (rest.1, y :: rest.2.1, rest.2.2)

/-! ## Detectors -/

/-- The RMS accumulator of 48 bits (R338, R339): an addition that would carry out of it leaves it full for the rest of
the window. -/
def addPower (full : Bool) (sum p : Nat) : Bool × Nat :=
  if full || decide (2 ^ 48 ≤ sum + p) then (true, 2 ^ 48 - 1) else (false, sum + p)

/-- One sample at the detection point (R336 to R341): I and Q rounded to 16 bits, p = I² + Q². -/
def Detect.see (d : Detect) (attack decay : Nat) (sat : Bool) (x : Iq) : Detect :=
  let r := roundIq x Config.iqFraction
  let i := clampTo 16 r.i
  let q := clampTo 16 r.q
  let p := (i * i + q * q).toNat
  let a := addPower d.full d.sum p
  let m := Config.cordic p
  let env := if d.env < m then d.env + Config.roundShift (m - d.env) attack else d.env + Config.roundShift (m - d.env) decay
  ⟨d.count + 1, max d.pmax p, a.2, a.1, d.clipped || sat, env⟩

/-- Whether a saturation lies at or before the detection point (R340). -/
def clippedBy (afterGain : Bool) (sats : List Nat) : Bool :=
  sats.any (fun e => decide (e ≤ if afterGain then 11 else 10))

/-! ## A path, and the DACs -/

/-- One sample of its stream through a band path (R321): at the final rate the FIR, the gain stage, the pilot, the
interpolation and the output mixer follow, and 2^D outputs wait for the DAC. -/
def Chain.sample (t : PathSet) (c : Chain) (y : Int) (sats : List Nat) : Chain × List Nat :=
  let a := mixIn t c y sats
  let b := decimate t.depth (t.depth + 1 - t.first) t.first a.1 a.2.1 a.2.2
  match b.2.1 with
  | none => (b.1, b.2.2)
  | some x =>
    let f := channelFir t b.1 x b.2.2
    let g := gainStage t f.2.1 f.2.2
    let seen := f.1.detect.see t.attack t.decay (clippedBy t.afterGain g.2) (if t.afterGain then g.1 else f.2.1)
    let w := addPilot t { f.1 with detect := seen } g.1
    let h := interpolateAll t.depth t.depth w.1 [w.2] g.2
    let o := mixOut t h.1 h.2.1 h.2.2
    ({ o.1 with out := o.1.out ++ o.2.1 }, o.2.2)

/-- The samples of one period of the sample clock through a path: its chain, the elements that saturated, and its two
outputs, zero while it contributes none (R320). -/
def Chain.period (t : PathSet) (c : Chain) (ys : List Int) : Chain × List Nat × List Int :=
  let r := ys.foldl (fun (a : Chain × List Nat) y => a.1.sample t y a.2) (c, [])
  ({ r.1 with out := r.1.out.drop 2 }, r.2, if t.silent then [0, 0] else [r.1.out.getD 0 0, r.1.out.getD 1 0])

/-- A DAC's code (R319, R320): the sum held to 14 bits, and whether it was clipped; 0 is mid-scale. -/
def dacCode (xs : List Int) : Int × Bool :=
  let sum := xs.foldl (· + ·) 0
  (clampTo 14 sum, clampTo 14 sum != sum)

/-- What one period of the sample clock gives: per direction, uplink first, the two codes of its DAC with their clip
marks, and per path the elements that saturated. -/
structure Carried where
  ul : List (Int × Bool)
  dl : List (Int × Bool)
  sats : List (List Nat)
deriving DecidableEq, Repr

/-- The codes of one direction's DAC. -/
def State.dacOf (s : State) (d : Dir) (outs : List (List Int)) : List (Int × Bool) :=
  [0, 1].map (fun n => dacCode ((s.pathsOf d).map (fun p => (outs.getD p []).getD n 0)))

/-- One period of the 245.76 MHz sample clock: the four converters' trimmed samples through the blockers, the sixteen
band paths and both DACs. -/
def State.carry (s : State) (xs : List Int) : State × Carried :=
  let b := s.blocked xs
  let runs := pathNums.map (fun p => (s.path p).chain.period (s.pathSet p) (s.streamOf p (b.map Prod.fst)))
  let t : State := { s with conv.means := b.map Prod.snd }
  let t := pathNums.foldl (fun (t : State) p => t.setPath p { t.path p with chain := (runs.getD p (Chain.idle, [], [])).1 }) t
  let outs := runs.map (fun r => r.2.2)
  (t, ⟨s.dacOf .ul outs, s.dacOf .dl outs, runs.map (fun r => r.2.1)⟩)

/-- Whether a path's detector window is full: N = 2^WindowLog2 samples (R336); its Pmax and sum are what
DETECTOR_WINDOW_END brings. -/
def State.windowFull (s : State) (p : Nat) : Bool := decide (2 ^ ((s.path p).window / 2) ≤ (s.path p).chain.detect.count)

end Sys2Proof.Machine
end

