-- ==== Sys2Proof/Laws/FrameSamples.lean ====
section
/-!
SUPPORT. The frames of the functions of Sys2Proof/Machine/Samples.lean, one lemma for each of them (Laws/Frame.lean).
-/

namespace Sys2Proof.Machine

set_option linter.unusedTactic false
set_option linter.unreachableTactic false
set_option linter.unusedVariables false

open Sys2Proof

variable {F : Nat} {v : State}

theorem State.carry_fr (s : State) (xs : List Int) (hF : within 343597383680 F = true) (h : Fr F v s) :
    Fr F v (State.carry s xs).1 := by
  unfold State.carry
  repeat' (first
    | with_reducible assumption
    | exact within_trans hF rfl
    | exact bit_within hF rfl
    | with_reducible intro _
    | with_reducible apply fr_ite
    | with_reducible apply fr_ite_fst
    | with_reducible apply State.setPath_fr
    | with_reducible apply fr_foldl
    | split
    | dsimp only
    | (with_reducible apply fr_conv; exact bit_within hF rfl
       first
         | with_reducible assumption
         | with_reducible apply fr_ite
         | with_reducible apply fr_ite_fst
         | with_reducible apply State.setPath_fr
         | with_reducible apply fr_foldl
         | split))

end Sys2Proof.Machine
end

