-- ==== Sys2Proof/Laws/FrameStep.lean ====
section
/-!
SUPPORT. The frames of the functions of Sys2Proof/Machine/Step.lean, one lemma for each of them (Laws/Frame.lean).
-/

namespace Sys2Proof.Machine

set_option linter.unusedTactic false
set_option linter.unreachableTactic false
set_option linter.unusedVariables false

open Sys2Proof

variable {F : Nat} {v : State}

theorem State.tick_fr (s : State) (hF : within 562945926885375 F = true) (h : Fr F v s) :
    Fr F v (State.tick s) := by
  unfold State.tick
  repeat' (first
    | with_reducible assumption
    | exact within_trans hF rfl
    | exact bit_within hF rfl
    | with_reducible intro _
    | with_reducible apply fr_ite
    | with_reducible apply State.elapse_fr
    | with_reducible apply State.noteSummary_fr
    | with_reducible apply State.settleJoin_fr
    | with_reducible apply State.followCommit_fr
    | with_reducible apply State.serveWaiting_fr
    | with_reducible apply State.takeNext_fr
    | with_reducible apply State.heldTouchActs_fr
    | split
    | dsimp only)

end Sys2Proof.Machine
end

