-- ==== Sys2Proof/Laws/KeptOps.lean ====
section
/-!
SUPPORT. What the functions of Sys2Proof/Machine/Ops.lean keep, one lemma for each of them (Laws/Kept.lean says what).
-/

namespace Sys2Proof.Machine

set_option linter.unusedTactic false
set_option linter.unreachableTactic false
set_option linter.unusedVariables false

open Sys2Proof

variable {q : List Instr} {n : Floor}

theorem State.set_kept (s : State) (k v : Nat) (h : Kept q n s) :
    Kept q n (State.set s k v) := by
  unfold State.set
  repeat' (first
    | with_reducible assumption
    | with_reducible intro _
    | with_reducible apply kept_ite
    | split
    | dsimp only)

theorem State.setI_kept (s : State) (k : Nat) (i : Int) (h : Kept q n s) :
    Kept q n (State.setI s k i) := by
  unfold State.setI
  repeat' (first
    | with_reducible assumption
    | with_reducible intro _
    | with_reducible apply kept_ite
    | with_reducible apply State.set_kept
    | split
    | dsimp only)

theorem State.bump_kept (s : State) (k n' : Nat) (h : Kept q n s) :
    Kept q n (State.bump s k n') := by
  unfold State.bump
  repeat' (first
    | with_reducible assumption
    | with_reducible intro _
    | with_reducible apply kept_ite
    | with_reducible apply State.set_kept
    | split
    | dsimp only)

theorem State.elapse_kept (s : State) (k : Nat) (h : Kept q n s) : Kept q n (s.elapse k) := by
  have ht : Kept q n { s with time.nowUs := s.time.nowUs + k } := kept_later (Nat.le_add_right _ _) h
  unfold State.elapse
  dsimp only
  repeat' (first
    | with_reducible assumption
    | with_reducible apply kept_ite
    | with_reducible apply State.bump_kept)

theorem State.disarm_kept (s : State) (t : TimerId) (h : Kept q n s) :
    Kept q n (State.disarm s t) := by
  unfold State.disarm
  repeat' (first
    | with_reducible assumption
    | with_reducible intro _
    | with_reducible apply kept_ite
    | split
    | dsimp only)

theorem State.arm_kept (s : State) (t : TimerId) (us : Nat) (h : Kept q n s) :
    Kept q n (State.arm s t us) := by
  unfold State.arm
  repeat' (first
    | with_reducible assumption
    | with_reducible intro _
    | with_reducible apply kept_ite
    | split
    | dsimp only)

theorem State.onTimer_kept (s : State) (t : TimerId) (f : State → State) (hf : ∀ u, Kept q n u → Kept q n (f u)) (h : Kept q n s) :
    Kept q n (State.onTimer s t f) := by
  unfold State.onTimer
  repeat' (first
    | with_reducible assumption
    | with_reducible intro _
    | with_reducible apply kept_ite
    | with_reducible apply hf
    | with_reducible apply State.elapse_kept
    | with_reducible apply State.disarm_kept
    | split
    | dsimp only)

theorem State.when_kept (s : State) (c : Bool) (f : State → State) (hf : ∀ u, Kept q n u → Kept q n (f u)) (h : Kept q n s) :
    Kept q n (State.when s c f) := by
  unfold State.when
  repeat' (first
    | with_reducible assumption
    | with_reducible intro _
    | with_reducible apply kept_ite
    | with_reducible apply hf
    | split
    | dsimp only)

theorem State.draw_kept (s : State) (h : Kept q n s) :
    Kept q n (State.draw s).2 := by
  unfold State.draw
  repeat' (first
    | with_reducible assumption
    | with_reducible intro _
    | with_reducible apply kept_ite
    | with_reducible apply kept_ite_snd
    | split
    | dsimp only)

theorem State.drawRandom_kept (s : State) (bits : Nat) (h : Kept q n s) :
    Kept q n (State.drawRandom s bits).2 := by
  unfold State.drawRandom
  repeat' (first
    | with_reducible assumption
    | with_reducible intro _
    | with_reducible apply kept_ite
    | with_reducible apply kept_ite_snd
    | split
    | dsimp only)

theorem State.each_kept (s : State) (l : List Nat) (f : State → Nat → State) (hf : ∀ u a, Kept q n u → Kept q n (f u a)) (h : Kept q n s) :
    Kept q n (State.each s l f) := by
  unfold State.each
  repeat' (first
    | with_reducible assumption
    | with_reducible intro _
    | with_reducible apply kept_ite
    | with_reducible apply hf
    | with_reducible apply kept_foldl
    | split
    | dsimp only)

theorem State.supervised_kept (s : State) (f : State → State) (hf : ∀ u, Kept q n u → Kept q n (f u)) (h : Kept q n s) :
    Kept q n (State.supervised s f) := by
  unfold State.supervised
  repeat' (first
    | with_reducible assumption
    | with_reducible intro _
    | with_reducible apply kept_ite
    | with_reducible apply hf
    | split
    | dsimp only)

theorem State.sealKey_kept (s : State) (index key : Nat) (h : Kept q n s) :
    Kept q n (State.sealKey s index key) := by
  unfold State.sealKey
  repeat' (first
    | with_reducible assumption
    | with_reducible intro _
    | with_reducible apply kept_ite
    | split
    | dsimp only)

end Sys2Proof.Machine
end

