-- ==== Sys2Proof/Laws/KeptQueueOps.lean ====
section
/-!
SUPPORT. What the functions of Sys2Proof/Machine/QueueOps.lean keep, one lemma for each of them (Laws/Kept.lean says what).
-/

namespace Sys2Proof.Machine

set_option linter.unusedTactic false
set_option linter.unreachableTactic false
set_option linter.unusedVariables false

open Sys2Proof

variable {q : List Instr} {n : Floor}

theorem State.noteHigh_kept (s : State) (q' : Nat) (h : Kept q n s) :
    Kept q n (State.noteHigh s q') := by
  unfold State.noteHigh
  repeat' (first
    | with_reducible assumption
    | with_reducible intro _
    | with_reducible apply kept_ite
    | split
    | dsimp only)

theorem State.place_kept (s : State) (m : QMsg) (h : Kept q n s) :
    Kept q n (State.place s m) := by
  unfold State.place
  repeat' (first
    | with_reducible assumption
    | with_reducible intro _
    | with_reducible apply kept_ite
    | with_reducible apply State.noteHigh_kept
    | split
    | dsimp only)

theorem State.placeEscape_kept (s : State) (m : QMsg) (h : Kept q n s) :
    Kept q n (State.placeEscape s m) := by
  unfold State.placeEscape
  repeat' (first
    | with_reducible assumption
    | with_reducible intro _
    | with_reducible apply kept_ite
    | with_reducible apply State.bump_kept
    | with_reducible apply State.arm_kept
    | with_reducible apply State.place_kept
    | split
    | dsimp only)

theorem State.post_kept (s : State) (k : PostKind) (q' slots : Nat) (body : Msg) (h : Kept q n s) :
    Kept q n (State.post s k q' slots body) := by
  unfold State.post
  repeat' (first
    | with_reducible assumption
    | with_reducible intro _
    | with_reducible apply kept_ite
    | with_reducible apply State.set_kept
    | with_reducible apply State.place_kept
    | with_reducible apply State.placeEscape_kept
    | split
    | dsimp only)

theorem State.placeNext_kept (s t : State) (qn : Nat) (e : s.placeNext qn = some t) (h : Kept q n s) : Kept q n t := by
  unfold State.placeNext at e
  repeat' split at e
  all_goals first | (cases e; exact State.place_kept _ _ h) | cases e

theorem State.placeWaitingN_kept (k qn : Nat) (s : State) (h : Kept q n s) : Kept q n (State.placeWaitingN k qn s) := by
  induction k generalizing s with
  | zero => exact h
  | succ k ih =>
    unfold State.placeWaitingN
    split
    · next e => exact ih _ (State.placeNext_kept _ _ _ e h)
    · exact h

theorem State.placeWaiting_kept (s : State) (q' : Nat) (h : Kept q n s) :
    Kept q n (State.placeWaiting s q') := by
  unfold State.placeWaiting
  repeat' (first
    | with_reducible assumption
    | with_reducible intro _
    | with_reducible apply kept_ite
    | with_reducible apply State.placeWaitingN_kept
    | split
    | dsimp only)

theorem State.escapeWaiting_kept (s : State) (cls : Nat) (h : Kept q n s) :
    Kept q n (State.escapeWaiting s cls) := by
  unfold State.escapeWaiting
  repeat' (first
    | with_reducible assumption
    | with_reducible intro _
    | with_reducible apply kept_ite
    | with_reducible apply State.placeEscape_kept
    | split
    | dsimp only)

theorem State.handle_kept (s : State) (f : State → State) (hf : ∀ u, Kept q n u → Kept q n (f u)) (h : Kept q n s) :
    Kept q n (State.handle s f) := by
  unfold State.handle
  repeat' (first
    | with_reducible assumption
    | with_reducible intro _
    | with_reducible apply kept_ite
    | with_reducible apply hf
    | split
    | dsimp only)

theorem State.pass_kept (s : State) (q' slots : Nat) (h : Kept q n s) :
    Kept q n (State.pass s q' slots) := by
  unfold State.pass
  repeat' (first
    | with_reducible assumption
    | with_reducible intro _
    | with_reducible apply kept_ite
    | split
    | dsimp only)

theorem State.take_kept (s : State) (q' : Nat) (h : Kept q n s) :
    Kept q n (State.take s q') := by
  unfold State.take
  repeat' (first
    | with_reducible assumption
    | with_reducible intro _
    | with_reducible apply kept_ite
    | with_reducible apply State.disarm_kept
    | with_reducible apply State.placeWaiting_kept
    | with_reducible apply State.escapeWaiting_kept
    | split
    | dsimp only)

end Sys2Proof.Machine
end

