-- ==== Sys2Proof/Laws/KeptLogOps.lean ====
section
/-!
SUPPORT. What the functions of Sys2Proof/Machine/LogOps.lean keep, one lemma for each of them (Laws/Kept.lean says what).
-/

namespace Sys2Proof.Machine

set_option linter.unusedTactic false
set_option linter.unreachableTactic false
set_option linter.unusedVariables false

open Sys2Proof

variable {q : List Instr} {n : Floor}

theorem State.postLog_kept (s : State) (p : Prod) (code sev inst : Nat) (snapshot vint : Bool) (payload : Bytes) (h : Kept q n s) :
    Kept q n (State.postLog s p code sev inst snapshot vint payload) := by
  unfold State.postLog
  repeat' (first
    | with_reducible assumption
    | with_reducible intro _
    | with_reducible apply kept_ite
    | with_reducible apply State.post_kept
    | split
    | dsimp only)

theorem State.log_kept (s : State) (p : Prod) (code sev inst : Nat) (payload : Bytes) (h : Kept q n s) :
    Kept q n (State.log s p code sev inst payload) := by
  unfold State.log
  repeat' (first
    | with_reducible assumption
    | with_reducible intro _
    | with_reducible apply kept_ite
    | with_reducible apply State.postLog_kept
    | split
    | dsimp only)

theorem State.txExpired_kept (s : State) (n' : Nat) (h : Kept q n s) :
    Kept q n (State.txExpired s n') := by
  unfold State.txExpired
  repeat' (first
    | with_reducible assumption
    | with_reducible intro _
    | with_reducible apply kept_ite
    | with_reducible apply State.set_kept
    | with_reducible apply State.bump_kept
    | split
    | dsimp only)

theorem State.sendFrames_kept (s : State) (k : PostKind) (p : Port) (queueA : Nat) (fs : List CanFrame) (h : Kept q n s) :
    Kept q n (State.sendFrames s k p queueA fs) := by
  unfold State.sendFrames
  repeat' (first
    | with_reducible assumption
    | with_reducible intro _
    | with_reducible apply kept_ite
    | with_reducible apply State.arm_kept
    | with_reducible apply State.post_kept
    | with_reducible apply State.txExpired_kept
    | with_reducible apply kept_foldl
    | split
    | dsimp only)

theorem State.sendAll_kept (s : State) (k : PostKind) (queueA : Nat) (ident : BitVec 29) (body : Bytes) (h : Kept q n s) :
    Kept q n (State.sendAll s k queueA ident body) := by
  unfold State.sendAll
  repeat' (first
    | with_reducible assumption
    | with_reducible intro _
    | with_reducible apply kept_ite
    | with_reducible apply State.sendFrames_kept
    | with_reducible apply kept_foldl
    | split
    | dsimp only)

theorem State.notify_kept (s : State) (event slot : Nat) (data : Bytes) (h : Kept q n s) :
    Kept q n (State.notify s event slot data) := by
  unfold State.notify
  repeat' (first
    | with_reducible assumption
    | with_reducible intro _
    | with_reducible apply kept_ite
    | with_reducible apply State.set_kept
    | with_reducible apply State.sendAll_kept
    | split
    | dsimp only)

theorem State.raiseNotify_kept (s : State) (p : Prod) (event slot code : Nat) (data : Bytes) (h : Kept q n s) :
    Kept q n (State.raiseNotify s p event slot code data) := by
  unfold State.raiseNotify
  repeat' (first
    | with_reducible assumption
    | with_reducible intro _
    | with_reducible apply kept_ite
    | with_reducible apply State.post_kept
    | split
    | dsimp only)

theorem State.raiseIrq_kept (s : State) (bit : Nat) (h : Kept q n s) :
    Kept q n (State.raiseIrq s bit) := by
  unfold State.raiseIrq
  repeat' (first
    | with_reducible assumption
    | with_reducible intro _
    | with_reducible apply kept_ite
    | split
    | dsimp only)

theorem State.noteSummary_kept (s : State) (h : Kept q n s) :
    Kept q n (State.noteSummary s) := by
  unfold State.noteSummary
  repeat' (first
    | with_reducible assumption
    | with_reducible intro _
    | with_reducible apply kept_ite
    | with_reducible apply State.notify_kept
    | with_reducible apply State.raiseIrq_kept
    | split
    | dsimp only)

theorem State.flag_kept (s : State) (k bit : Nat) (h : Kept q n s) :
    Kept q n (State.flag s k bit) := by
  unfold State.flag
  repeat' (first
    | with_reducible assumption
    | with_reducible intro _
    | with_reducible apply kept_ite
    | with_reducible apply State.set_kept
    | with_reducible apply State.noteSummary_kept
    | split
    | dsimp only)

theorem State.flagFirst_kept (s : State) (k bit : Nat) (f : State → State) (hf : ∀ u, Kept q n u → Kept q n (f u)) (h : Kept q n s) :
    Kept q n (State.flagFirst s k bit f) := by
  unfold State.flagFirst
  repeat' (first
    | with_reducible assumption
    | with_reducible intro _
    | with_reducible apply kept_ite
    | with_reducible apply hf
    | with_reducible apply State.flag_kept
    | split
    | dsimp only)

theorem State.faultRow_kept (s : State) (k bit : Nat) (p : Prod) (code sev inst : Nat) (payload : Bytes) (h : Kept q n s) :
    Kept q n (State.faultRow s k bit p code sev inst payload) := by
  unfold State.faultRow
  repeat' (first
    | with_reducible assumption
    | with_reducible intro _
    | with_reducible apply kept_ite
    | with_reducible apply State.log_kept
    | with_reducible apply State.flag_kept
    | split
    | dsimp only)

end Sys2Proof.Machine
end

