-- ==== Sys2Proof/Laws/KeptCask.lean ====
section
/-!
SUPPORT. What the functions of Sys2Proof/Machine/Cask.lean keep, one lemma for each of them (Laws/Kept.lean says what).
-/

namespace Sys2Proof.Machine

set_option linter.unusedTactic false
set_option linter.unreachableTactic false
set_option linter.unusedVariables false

open Sys2Proof

variable {q : List Instr} {n : Floor}

theorem State.setCtl_kept (s : State) (off k v : Nat) (h : Kept q n s) : Kept q n (s.setCtl off k v) :=
  ⟨h.1, State.setCtl_wf off k v h.2.1, h.2.2⟩

theorem State.bumpCtl_kept (s : State) (off n' by_ : Nat) (h : Kept q n s) :
    Kept q n (State.bumpCtl s off n' by_) := by
  unfold State.bumpCtl
  repeat' (first
    | with_reducible assumption
    | with_reducible intro _
    | with_reducible apply kept_ite
    | with_reducible apply State.setCtl_kept
    | split
    | dsimp only)

theorem State.setWriteIndex_kept (s : State) (i : Nat) (h : Kept q n s) :
    Kept q n (State.setWriteIndex s i) := by
  unfold State.setWriteIndex
  repeat' (first
    | with_reducible assumption
    | with_reducible intro _
    | with_reducible apply kept_ite
    | with_reducible apply State.setCtl_kept
    | split
    | dsimp only)

theorem State.setCask_kept (s : State) (a : Nat) (bs : Bytes) (h : Kept q n s) : Kept q n (s.setCask a bs) :=
  ⟨h.1, State.setCask_wf a bs h.2.1, h.2.2⟩

theorem State.rewriteRepeat_kept (s : State) (slot count : Nat) (h : Kept q n s) :
    Kept q n (State.rewriteRepeat s slot count) := by
  unfold State.rewriteRepeat
  repeat' (first
    | with_reducible assumption
    | with_reducible intro _
    | with_reducible apply kept_ite
    | with_reducible apply State.setCtl_kept
    | with_reducible apply State.setCask_kept
    | split
    | dsimp only)

theorem State.queueVintage_kept (s : State) (entry : Nat) (bs : Bytes) (h : Kept q n s) :
    Kept q n (State.queueVintage s entry bs) := by
  unfold State.queueVintage
  repeat' (first
    | with_reducible assumption
    | with_reducible intro _
    | with_reducible apply kept_ite
    | with_reducible apply State.arm_kept
    | with_reducible apply State.setCtl_kept
    | split
    | dsimp only)

theorem State.ownLog_kept (s : State) (code sev : Nat) (payload : Bytes) (h : Kept q n s) :
    Kept q n (State.ownLog s code sev payload) := by
  unfold State.ownLog
  repeat' (first
    | with_reducible assumption
    | with_reducible intro _
    | with_reducible apply kept_ite
    | split
    | dsimp only)

theorem State.takeEvent_kept (s : State) (bs : Nat → Bytes) (h : Kept q n s) :
    Kept q n (State.takeEvent s bs) := by
  unfold State.takeEvent
  repeat' (first
    | with_reducible assumption
    | with_reducible intro _
    | with_reducible apply kept_ite
    | with_reducible apply State.bump_kept
    | with_reducible apply State.flagFirst_kept
    | with_reducible apply State.queueVintage_kept
    | with_reducible apply State.ownLog_kept
    | split
    | dsimp only)

theorem State.vintFor_kept (s : State) (m : LogMsg) (u : VintUse) (slot : Nat) (h : Kept q n s) :
    Kept q n (State.vintFor s m u slot) := by
  unfold State.vintFor
  repeat' (first
    | with_reducible assumption
    | with_reducible intro _
    | with_reducible apply kept_ite
    | with_reducible apply State.queueVintage_kept
    | with_reducible apply State.takeEvent_kept
    | split
    | dsimp only)

theorem State.dropRecord_kept (s : State) (m : LogMsg) (h : Kept q n s) :
    Kept q n (State.dropRecord s m) := by
  unfold State.dropRecord
  repeat' (first
    | with_reducible assumption
    | with_reducible intro _
    | with_reducible apply kept_ite
    | with_reducible apply State.flag_kept
    | with_reducible apply State.bumpCtl_kept
    | split
    | dsimp only)

theorem State.sealCask_kept (s : State) (h : Kept q n s) :
    Kept q n (State.sealCask s) := by
  unfold State.sealCask
  repeat' (first
    | with_reducible assumption
    | with_reducible intro _
    | with_reducible apply kept_ite
    | with_reducible apply State.flag_kept
    | with_reducible apply State.setCtl_kept
    | with_reducible apply State.vintFor_kept
    | split
    | dsimp only)

theorem State.raiseIndex_kept (s : State) (i : Nat) (h : Kept q n s) :
    Kept q n (State.raiseIndex s i) := by
  unfold State.raiseIndex
  repeat' (first
    | with_reducible assumption
    | with_reducible intro _
    | with_reducible apply kept_ite
    | with_reducible apply State.flag_kept
    | with_reducible apply State.setCtl_kept
    | with_reducible apply State.setWriteIndex_kept
    | split
    | dsimp only)

theorem State.passRecord_kept (s : State) (slot n' c : Nat) (h : Kept q n s) :
    Kept q n (State.passRecord s slot n' c) := by
  unfold State.passRecord
  repeat' (first
    | with_reducible assumption
    | with_reducible intro _
    | with_reducible apply kept_ite
    | with_reducible apply State.raiseNotify_kept
    | with_reducible apply State.setCtl_kept
    | with_reducible apply State.raiseIndex_kept
    | split
    | dsimp only)

theorem State.writeRecord_kept (s : State) (m : LogMsg) (u : VintUse) (snapshot truncated ok1 ok2 : Bool) (h : Kept q n s) :
    Kept q n (State.writeRecord s m u snapshot truncated ok1 ok2) := by
  unfold State.writeRecord
  repeat' (first
    | with_reducible assumption
    | with_reducible intro _
    | with_reducible apply kept_ite
    | with_reducible apply kept_ite_snd
    | with_reducible apply State.draw_kept
    | with_reducible apply State.setCask_kept
    | with_reducible apply State.vintFor_kept
    | with_reducible apply State.sealCask_kept
    | with_reducible apply State.passRecord_kept
    | split
    | dsimp only)

theorem State.commitMsg_kept (s : State) (m : LogMsg) (ok1 ok2 : Bool) (h : Kept q n s) :
    Kept q n (State.commitMsg s m ok1 ok2) := by
  unfold State.commitMsg
  repeat' (first
    | with_reducible assumption
    | with_reducible intro _
    | with_reducible apply kept_ite
    | with_reducible apply State.arm_kept
    | with_reducible apply State.bumpCtl_kept
    | with_reducible apply State.rewriteRepeat_kept
    | with_reducible apply State.vintFor_kept
    | with_reducible apply State.dropRecord_kept
    | with_reducible apply State.writeRecord_kept
    | split
    | dsimp only)

theorem State.nextLog_kept (s t : State) (m : LogMsg) (e : s.nextLog = some (m, t)) (h : Kept q n s) : Kept q n t := by
  unfold State.nextLog at e
  repeat' split at e
  all_goals first | (cases e; with_reducible exact h) | (cases e; with_reducible exact State.take_kept _ _ h) | cases e

theorem execCaskRecordCommit_kept (firstOk secondOk : Bool) (s : State) (h : Kept q n s) :
    KeptOut q n (execCaskRecordCommit firstOk secondOk s) := by
  unfold execCaskRecordCommit
  refine keptOut_next (State.when_kept _ _ _ (fun u hu => ?_) h)
  split
  · exact hu
  · next e => exact State.commitMsg_kept _ _ _ _ (State.nextLog_kept _ _ _ e hu)

theorem execFloodTokenRefill_kept (code : BitVec 16) (s : State) (h : Kept q n s) :
    KeptOut q n (execFloodTokenRefill code s) := by
  unfold execFloodTokenRefill
  repeat' (first
    | with_reducible assumption
    | with_reducible apply keptOut_next
    | with_reducible intro _
    | with_reducible apply kept_ite
    | with_reducible apply State.arm_kept
    | with_reducible apply State.onTimer_kept
    | split
    | dsimp only)

theorem State.applyShadow_kept (s : State) (h : Kept q n s) :
    Kept q n (State.applyShadow s) := by
  unfold State.applyShadow
  repeat' (first
    | with_reducible assumption
    | with_reducible intro _
    | with_reducible apply kept_ite
    | with_reducible apply State.rewriteRepeat_kept
    | split
    | dsimp only)

theorem State.clearCask_kept (s : State) (h : Kept q n s) : Kept q n s.clearCask := by
  unfold State.clearCask
  apply State.setCtl_kept
  apply State.setCtl_kept
  apply State.setCtl_kept
  refine kept_mems (fun hm => ?_) h
  simp only [Mems.wf, Bool.and_eq_true] at hm ⊢
  exact ⟨⟨⟨⟨⟨⟨⟨rfl, memWf_filter _ hm.1.1.1.1.1.1.2⟩, hm.1.1.1.1.1.2⟩, hm.1.1.1.1.2⟩, hm.1.1.1.2⟩, hm.1.1.2⟩, hm.1.2⟩, hm.2⟩

theorem State.endClear_kept (s : State) (h : Kept q n s) :
    Kept q n (State.endClear s) := by
  unfold State.endClear
  repeat' (first
    | with_reducible assumption
    | with_reducible intro _
    | with_reducible apply kept_ite
    | with_reducible apply State.disarm_kept
    | with_reducible apply State.setCtl_kept
    | with_reducible apply State.setWriteIndex_kept
    | with_reducible apply State.writeRecord_kept
    | with_reducible apply State.clearCask_kept
    | split
    | dsimp only)

theorem State.checkIndex_kept (s : State) (h : Kept q n s) :
    Kept q n (State.checkIndex s) := by
  unfold State.checkIndex
  repeat' (first
    | with_reducible assumption
    | with_reducible intro _
    | with_reducible apply kept_ite
    | with_reducible apply State.flag_kept
    | with_reducible apply State.ownLog_kept
    | with_reducible apply State.raiseIndex_kept
    | split
    | dsimp only)

theorem State.checkRetention_kept (s : State) (h : Kept q n s) :
    Kept q n (State.checkRetention s) := by
  unfold State.checkRetention
  repeat' (first
    | with_reducible assumption
    | with_reducible intro _
    | with_reducible apply kept_ite
    | with_reducible apply State.flagFirst_kept
    | with_reducible apply State.bumpCtl_kept
    | with_reducible apply State.ownLog_kept
    | with_reducible apply kept_foldl
    | split
    | dsimp only)

theorem State.checkTorn_kept (s : State) (h : Kept q n s) :
    Kept q n (State.checkTorn s) := by
  unfold State.checkTorn
  repeat' (first
    | with_reducible assumption
    | with_reducible intro _
    | with_reducible apply kept_ite
    | with_reducible apply State.flag_kept
    | with_reducible apply State.bumpCtl_kept
    | with_reducible apply State.setCask_kept
    | with_reducible apply State.ownLog_kept
    | with_reducible apply State.passRecord_kept
    | with_reducible apply kept_foldl
    | split
    | dsimp only)

theorem State.checkStamps_kept (s : State) (h : Kept q n s) :
    Kept q n (State.checkStamps s) := by
  unfold State.checkStamps
  repeat' (first
    | with_reducible assumption
    | with_reducible intro _
    | with_reducible apply kept_ite
    | with_reducible apply State.set_kept
    | with_reducible apply State.flag_kept
    | with_reducible apply State.ownLog_kept
    | split
    | dsimp only)

theorem State.clearPending_kept (s : State) (e : Nat) (h : Kept q n s) :
    Kept q n (State.clearPending s e) := by
  unfold State.clearPending
  repeat' (first
    | with_reducible assumption
    | with_reducible intro _
    | with_reducible apply kept_ite
    | with_reducible apply State.setCtl_kept
    | split
    | dsimp only)

theorem State.voidEntry_kept (s : State) (e : Nat) (content : Bytes) (h : Kept q n s) :
    Kept q n (State.voidEntry s e content) := by
  unfold State.voidEntry
  repeat' (first
    | with_reducible assumption
    | with_reducible exact fun hm => memWriteAll_wf _ _ hm
    | with_reducible exact fun hm => memWrite_wf _ _ hm
    | with_reducible exact fun _ => memWf_nil _
    | with_reducible intro _
    | with_reducible apply kept_ite
    | with_reducible apply State.flag_kept
    | with_reducible apply State.ownLog_kept
    | with_reducible apply State.takeEvent_kept
    | with_reducible apply State.clearPending_kept
    | with_reducible apply kept_mems_vint
    | split
    | dsimp only)

theorem State.checkVintage_kept (s : State) (h : Kept q n s) :
    Kept q n (State.checkVintage s) := by
  unfold State.checkVintage
  repeat' (first
    | with_reducible assumption
    | with_reducible intro _
    | with_reducible apply kept_ite
    | with_reducible apply State.flagFirst_kept
    | with_reducible apply State.ownLog_kept
    | with_reducible apply State.clearPending_kept
    | with_reducible apply State.voidEntry_kept
    | with_reducible apply kept_foldl
    | split
    | dsimp only)

theorem State.resumePending_kept (s : State) (h : Kept q n s) :
    Kept q n (State.resumePending s) := by
  unfold State.resumePending
  repeat' (first
    | with_reducible assumption
    | with_reducible intro _
    | with_reducible apply kept_ite
    | with_reducible apply State.flag_kept
    | with_reducible apply State.queueVintage_kept
    | with_reducible apply kept_foldl
    | split
    | dsimp only)

theorem State.resumeBound_kept (s : State) (h : Kept q n s) :
    Kept q n (State.resumeBound s) := by
  unfold State.resumeBound
  repeat' (first
    | with_reducible assumption
    | with_reducible intro _
    | with_reducible apply kept_ite
    | with_reducible apply State.queueVintage_kept
    | with_reducible apply State.takeEvent_kept
    | with_reducible apply kept_foldl
    | split
    | dsimp only)

theorem State.caskScan_kept (s : State) (h : Kept q n s) :
    Kept q n (State.caskScan s) := by
  unfold State.caskScan
  repeat' (first
    | with_reducible assumption
    | with_reducible intro _
    | with_reducible apply kept_ite
    | with_reducible apply State.applyShadow_kept
    | with_reducible apply State.endClear_kept
    | with_reducible apply State.checkIndex_kept
    | with_reducible apply State.checkRetention_kept
    | with_reducible apply State.checkTorn_kept
    | with_reducible apply State.checkStamps_kept
    | with_reducible apply State.checkVintage_kept
    | with_reducible apply State.resumePending_kept
    | with_reducible apply State.resumeBound_kept
    | split
    | dsimp only)

theorem execCaskStartScan_kept (s : State) (h : Kept q n s) :
    KeptOut q n (execCaskStartScan s) := by
  unfold execCaskStartScan
  repeat' (first
    | with_reducible assumption
    | with_reducible apply keptOut_next
    | with_reducible intro _
    | with_reducible apply kept_ite
    | with_reducible apply State.when_kept
    | with_reducible apply State.caskScan_kept
    | split
    | dsimp only)

theorem execVintageProgramDone_kept (ok : Bool) (s : State) (h : Kept q n s) : KeptOut q n (execVintageProgramDone ok s) := by
  unfold execVintageProgramDone
  refine keptOut_next (State.onTimer_kept _ _ _ (fun u hu => ?_) h)
  repeat' (first
    | with_reducible assumption
    | with_reducible apply kept_ite
    | with_reducible apply State.arm_kept
    | with_reducible apply State.voidEntry_kept
    | with_reducible apply State.clearPending_kept
    | with_reducible refine kept_mems_vint (fun hm => memWriteAll_wf _ _ hm) ?_
    | with_reducible apply State.draw_kept
    | split
    | dsimp only)

theorem State.beginClear_kept (s : State) (h : Kept q n s) :
    Kept q n (State.beginClear s) := by
  unfold State.beginClear
  repeat' (first
    | with_reducible assumption
    | with_reducible exact fun hm => memWriteAll_wf _ _ hm
    | with_reducible exact fun hm => memWrite_wf _ _ hm
    | with_reducible exact fun _ => memWf_nil _
    | with_reducible intro _
    | with_reducible apply kept_ite
    | with_reducible apply State.arm_kept
    | with_reducible apply State.setCtl_kept
    | with_reducible apply kept_mems_cask
    | split
    | dsimp only)

theorem execCaskClearDone_kept (s : State) (h : Kept q n s) :
    KeptOut q n (execCaskClearDone s) := by
  unfold execCaskClearDone
  repeat' (first
    | with_reducible assumption
    | with_reducible apply keptOut_next
    | with_reducible intro _
    | with_reducible apply kept_ite
    | with_reducible apply State.onTimer_kept
    | with_reducible apply State.endClear_kept
    | split
    | dsimp only)

theorem State.cutRecord_kept (s : State) (h : Kept q n s) :
    Kept q n (State.cutRecord s) := by
  unfold State.cutRecord
  repeat' (first
    | with_reducible assumption
    | with_reducible intro _
    | with_reducible apply kept_ite
    | with_reducible apply kept_ite_snd
    | with_reducible apply State.draw_kept
    | with_reducible apply State.setCtl_kept
    | with_reducible apply State.setCask_kept
    | refine State.nextLog_kept _ _ _ (by assumption) ?_
    | split
    | dsimp only)

theorem State.cutEntry_kept (s : State) (h : Kept q n s) : Kept q n s.cutEntry := by
  have hw : ∀ (l : List Nat) (f : List Host.Cell → Nat → List Host.Cell) (m : List Host.Cell),
      (∀ m i, memWf zeroByte m = true → memWf zeroByte (f m i) = true) → memWf zeroByte m = true →
      memWf zeroByte (l.foldl f m) = true := by
    intro l f m hf
    induction l generalizing m with
    | nil => exact id
    | cons i l ih => exact fun hm => ih _ (hf _ _ hm)
  unfold State.cutEntry
  split
  · exact h
  · refine kept_ite ?_ h
    exact kept_mems_vint (fun hm => hw _ _ _ (fun _ _ => memWrite_wf _ _) hm) (State.draw_kept _ h)

end Sys2Proof.Machine
end

