-- ==== Sys2Proof/Laws/KeptPathOps.lean ====
section
/-!
SUPPORT. What the functions of Sys2Proof/Machine/PathOps.lean keep, one lemma for each of them (Laws/Kept.lean says what).
-/

namespace Sys2Proof.Machine

set_option linter.unusedTactic false
set_option linter.unreachableTactic false
set_option linter.unusedVariables false

open Sys2Proof

variable {q : List Instr} {n : Floor}

theorem State.setPath_kept (s : State) (p : Nat) (r : PathRun) (h : Kept q n s) :
    Kept q n (State.setPath s p r) := by
  unfold State.setPath
  repeat' (first
    | with_reducible assumption
    | with_reducible intro _
    | with_reducible apply kept_ite
    | split
    | dsimp only)

theorem State.fabEvent_kept (s : State) (p input : Nat) (h : Kept q n s) :
    Kept q n (State.fabEvent s p input) := by
  unfold State.fabEvent
  repeat' (first
    | with_reducible assumption
    | with_reducible intro _
    | with_reducible apply kept_ite
    | with_reducible apply State.set_kept
    | with_reducible apply State.bump_kept
    | with_reducible apply State.log_kept
    | with_reducible apply State.flagFirst_kept
    | with_reducible apply State.setPath_kept
    | split
    | dsimp only)

theorem State.moveGain_kept (s : State) (p : Nat) (h : Kept q n s) :
    Kept q n (State.moveGain s p) := by
  unfold State.moveGain
  repeat' (first
    | with_reducible assumption
    | with_reducible intro _
    | with_reducible apply kept_ite
    | with_reducible apply State.set_kept
    | with_reducible apply State.setI_kept
    | with_reducible apply State.setPath_kept
    | split
    | dsimp only)

theorem State.moveGains_kept (s : State) (h : Kept q n s) :
    Kept q n (State.moveGains s) := by
  unfold State.moveGains
  repeat' (first
    | with_reducible assumption
    | with_reducible intro _
    | with_reducible apply kept_ite
    | with_reducible apply State.moveGain_kept
    | with_reducible apply kept_foldl
    | split
    | dsimp only)

theorem State.muteOne_kept (s : State) (p : Nat) (h : Kept q n s) :
    Kept q n (State.muteOne s p) := by
  unfold State.muteOne
  repeat' (first
    | with_reducible assumption
    | with_reducible intro _
    | with_reducible apply kept_ite
    | with_reducible apply State.set_kept
    | with_reducible apply State.disarm_kept
    | with_reducible apply State.setPath_kept
    | with_reducible apply State.moveGain_kept
    | split
    | dsimp only)

theorem State.closeGates_kept (s : State) (h : Kept q n s) :
    Kept q n (State.closeGates s) := by
  unfold State.closeGates
  repeat' (first
    | with_reducible assumption
    | with_reducible intro _
    | with_reducible apply kept_ite
    | with_reducible apply State.set_kept
    | with_reducible apply State.disarm_kept
    | with_reducible apply State.moveGain_kept
    | with_reducible apply kept_foldl
    | split
    | dsimp only)

theorem State.endHold_kept (s : State) (h : Kept q n s) :
    Kept q n (State.endHold s) := by
  unfold State.endHold
  repeat' (first
    | with_reducible assumption
    | with_reducible intro _
    | with_reducible apply kept_ite
    | with_reducible apply State.closeGates_kept
    | split
    | dsimp only)

theorem State.mutePath_kept (s : State) (p : Nat) (h : Kept q n s) :
    Kept q n (State.mutePath s p) := by
  unfold State.mutePath
  repeat' (first
    | with_reducible assumption
    | with_reducible intro _
    | with_reducible apply kept_ite
    | with_reducible apply State.muteOne_kept
    | with_reducible apply State.endHold_kept
    | split
    | dsimp only)

theorem State.mutePaths_kept (s : State) (ps : List Nat) (h : Kept q n s) :
    Kept q n (State.mutePaths s ps) := by
  unfold State.mutePaths
  repeat' (first
    | with_reducible assumption
    | with_reducible intro _
    | with_reducible apply kept_ite
    | with_reducible apply State.mutePath_kept
    | with_reducible apply kept_foldl
    | split
    | dsimp only)

theorem State.hardMute_kept (s : State) (h : Kept q n s) :
    Kept q n (State.hardMute s) := by
  unfold State.hardMute
  repeat' (first
    | with_reducible assumption
    | with_reducible intro _
    | with_reducible apply kept_ite
    | with_reducible apply State.mutePath_kept
    | with_reducible apply kept_foldl
    | split
    | dsimp only)

theorem State.startSettle_kept (s : State) (p : Nat) (h : Kept q n s) :
    Kept q n (State.startSettle s p) := by
  unfold State.startSettle
  repeat' (first
    | with_reducible assumption
    | with_reducible intro _
    | with_reducible apply kept_ite
    | with_reducible apply State.set_kept
    | with_reducible apply State.bump_kept
    | with_reducible apply State.arm_kept
    | with_reducible apply State.setPath_kept
    | with_reducible apply State.endHold_kept
    | split
    | dsimp only)

theorem State.settleAll_kept (s : State) (ps : List Nat) (h : Kept q n s) :
    Kept q n (State.settleAll s ps) := by
  unfold State.settleAll
  repeat' (first
    | with_reducible assumption
    | with_reducible intro _
    | with_reducible apply kept_ite
    | with_reducible apply State.startSettle_kept
    | with_reducible apply kept_foldl
    | split
    | dsimp only)

end Sys2Proof.Machine
end

