-- ==== Sys2Proof/Laws/KeptRfOps.lean ====
section
/-!
SUPPORT. What the functions of Sys2Proof/Machine/RfOps.lean keep, one lemma for each of them (Laws/Kept.lean says what).
-/

namespace Sys2Proof.Machine

set_option linter.unusedTactic false
set_option linter.unreachableTactic false
set_option linter.unusedVariables false

open Sys2Proof

variable {q : List Instr} {n : Floor}

theorem State.paOff_kept (s : State) (h : Kept q n s) :
    Kept q n (State.paOff s) := by
  unfold State.paOff
  repeat' (first
    | with_reducible assumption
    | with_reducible intro _
    | with_reducible apply kept_ite
    | with_reducible apply State.set_kept
    | with_reducible apply kept_foldl
    | split
    | dsimp only)

theorem State.returnMargin_kept (s : State) (m : Nat) (h : Kept q n s) :
    Kept q n (State.returnMargin s m) := by
  unfold State.returnMargin
  repeat' (first
    | with_reducible assumption
    | with_reducible intro _
    | with_reducible apply kept_ite
    | with_reducible apply State.set_kept
    | with_reducible apply State.arm_kept
    | with_reducible apply State.flag_kept
    | split
    | dsimp only)

theorem State.returnMargins_kept (s : State) (h : Kept q n s) :
    Kept q n (State.returnMargins s) := by
  unfold State.returnMargins
  repeat' (first
    | with_reducible assumption
    | with_reducible intro _
    | with_reducible apply kept_ite
    | with_reducible apply State.returnMargin_kept
    | with_reducible apply kept_foldl
    | split
    | dsimp only)

theorem State.lastHeartbeat_kept (s : State) (h : Kept q n s) :
    Kept q n (State.lastHeartbeat s) := by
  unfold State.lastHeartbeat
  repeat' (first
    | with_reducible assumption
    | with_reducible intro _
    | with_reducible apply kept_ite
    | with_reducible apply kept_foldl
    | split
    | dsimp only)

end Sys2Proof.Machine
end

