-- ==== Sys2Proof/Laws/KeptReply.lean ====
section
/-!
SUPPORT. What the functions of Sys2Proof/Machine/Reply.lean keep, one lemma for each of them (Laws/Kept.lean says what).
-/

namespace Sys2Proof.Machine

set_option linter.unusedTactic false
set_option linter.unreachableTactic false
set_option linter.unusedVariables false

open Sys2Proof

variable {q : List Instr} {n : Floor}

theorem State.setSession_kept (s : State) (x : Session) (h : Kept q n s) :
    Kept q n (State.setSession s x) := by
  unfold State.setSession
  repeat' (first
    | with_reducible assumption
    | with_reducible intro _
    | with_reducible apply kept_ite
    | split
    | dsimp only)

theorem State.protect_kept (s : State) (d : ReplyTo) (own : Nat) (body : Bytes) (h : Kept q n s) :
    Kept q n (State.protect s d own body).2.2 := by
  unfold State.protect
  repeat' (first
    | with_reducible assumption
    | with_reducible intro _
    | with_reducible apply kept_ite
    | with_reducible apply State.setSession_kept
    | split
    | dsimp only)

theorem State.remember_kept (s : State) (peer tid : Nat) (fs : List (Nat × CanFrame)) (h : Kept q n s) :
    Kept q n (State.remember s peer tid fs) := by
  unfold State.remember
  repeat' (first
    | with_reducible assumption
    | with_reducible intro _
    | with_reducible apply kept_ite
    | split
    | dsimp only)

theorem State.reply_kept (s : State) (d : ReplyTo) (deferred : Bool) (body : Bytes) (h : Kept q n s) :
    Kept q n (State.reply s d deferred body) := by
  unfold State.reply
  repeat' (first
    | with_reducible assumption
    | with_reducible intro _
    | with_reducible apply kept_ite
    | with_reducible apply State.post_kept
    | with_reducible apply State.sendFrames_kept
    | with_reducible apply State.protect_kept
    | with_reducible apply State.remember_kept
    | split
    | dsimp only)

theorem State.noteConflict_kept (s : State) (detail peer svc : Nat) (req : Bytes) (h : Kept q n s) :
    Kept q n (State.noteConflict s detail peer svc req) := by
  unfold State.noteConflict
  repeat' (first
    | with_reducible assumption
    | with_reducible intro _
    | with_reducible apply kept_ite
    | with_reducible apply State.set_kept
    | with_reducible apply State.bump_kept
    | with_reducible apply State.flag_kept
    | split
    | dsimp only)

theorem State.abort_kept (s : State) (c : Caller) (req : Bytes) (a : Abort) (h : Kept q n s) :
    Kept q n (State.abort s c req a) := by
  unfold State.abort
  repeat' (first
    | with_reducible assumption
    | with_reducible intro _
    | with_reducible apply kept_ite
    | with_reducible apply State.bump_kept
    | with_reducible apply State.reply_kept
    | with_reducible apply State.noteConflict_kept
    | split
    | dsimp only)

theorem State.answer_kept (s : State) (c : Caller) (body : Bytes) (h : Kept q n s) :
    Kept q n (State.answer s c body) := by
  unfold State.answer
  repeat' (first
    | with_reducible assumption
    | with_reducible intro _
    | with_reducible apply kept_ite
    | with_reducible apply State.reply_kept
    | split
    | dsimp only)

theorem State.done_kept (s : State) (c : Caller) (index sub : Nat) (h : Kept q n s) :
    Kept q n (State.done s c index sub) := by
  unfold State.done
  repeat' (first
    | with_reducible assumption
    | with_reducible intro _
    | with_reducible apply kept_ite
    | with_reducible apply State.answer_kept
    | split
    | dsimp only)

end Sys2Proof.Machine
end

