-- ==== Sys2Proof/Laws/KeptAccess.lean ====
section
/-!
SUPPORT. What the functions of Sys2Proof/Machine/Access.lean keep, one lemma for each of them (Laws/Kept.lean says what).
-/

namespace Sys2Proof.Machine

set_option linter.unusedTactic false
set_option linter.unreachableTactic false
set_option linter.unusedVariables false

open Sys2Proof

variable {q : List Instr} {n : Floor}

theorem State.setStage_kept (s : State) (who : StageId) (entries : List (Nat × Nat)) (h : Kept q n s) :
    Kept q n (State.setStage s who entries) := by
  unfold State.setStage
  repeat' (first
    | with_reducible assumption
    | with_reducible intro _
    | with_reducible apply kept_ite
    | split
    | dsimp only)

end Sys2Proof.Machine
end

