-- ==== Sys2Proof/Laws/KeptGainOps.lean ====
section
/-!
SUPPORT. What the functions of Sys2Proof/Machine/GainOps.lean keep, one lemma for each of them (Laws/Kept.lean says what).
-/

namespace Sys2Proof.Machine

set_option linter.unusedTactic false
set_option linter.unreachableTactic false
set_option linter.unusedVariables false

open Sys2Proof

variable {q : List Instr} {n : Floor}

theorem State.setLane_kept (s : State) (n' : Nat) (r : LaneRun) (h : Kept q n s) :
    Kept q n (State.setLane s n' r) := by
  unfold State.setLane
  repeat' (first
    | with_reducible assumption
    | with_reducible intro _
    | with_reducible apply kept_ite
    | split
    | dsimp only)

theorem State.noteGrant_kept (s : State) (g : Grant) (h : Kept q n s) :
    Kept q n (State.noteGrant s g) := by
  unfold State.noteGrant
  repeat' (first
    | with_reducible assumption
    | with_reducible intro _
    | with_reducible apply kept_ite
    | with_reducible apply State.log_kept
    | with_reducible apply State.flag_kept
    | with_reducible apply State.flagFirst_kept
    | with_reducible apply State.setPath_kept
    | with_reducible apply kept_foldl
    | split
    | dsimp only)

theorem State.arbitrate_kept (s : State) (h : Kept q n s) :
    Kept q n (State.arbitrate s) := by
  unfold State.arbitrate
  repeat' (first
    | with_reducible assumption
    | with_reducible intro _
    | with_reducible apply kept_ite
    | with_reducible apply State.set_kept
    | with_reducible apply State.noteGrant_kept
    | with_reducible apply kept_foldl
    | split
    | dsimp only)

theorem State.noteComputed_kept (s : State) (p : Nat) (pa : Option Int) (g : Int) (h : Kept q n s) :
    Kept q n (State.noteComputed s p pa g) := by
  unfold State.noteComputed
  repeat' (first
    | with_reducible assumption
    | with_reducible intro _
    | with_reducible apply kept_ite
    | with_reducible apply State.set_kept
    | with_reducible apply State.flag_kept
    | with_reducible apply State.setPath_kept
    | with_reducible apply State.fabEvent_kept
    | split
    | dsimp only)

theorem State.waitProbe_kept (s : State) (p : Nat) (h : Kept q n s) :
    Kept q n (State.waitProbe s p) := by
  unfold State.waitProbe
  repeat' (first
    | with_reducible assumption
    | with_reducible intro _
    | with_reducible apply kept_ite
    | with_reducible apply State.arm_kept
    | split
    | dsimp only)

theorem State.computeBand_kept (s : State) (b : Nat × Nat) (h : Kept q n s) :
    Kept q n (State.computeBand s b) := by
  unfold State.computeBand
  repeat' (first
    | with_reducible assumption
    | with_reducible intro _
    | with_reducible apply kept_ite
    | with_reducible apply State.mutePath_kept
    | with_reducible apply State.noteComputed_kept
    | with_reducible apply State.waitProbe_kept
    | split
    | dsimp only)

theorem State.rebalance_kept (s : State) (h : Kept q n s) :
    Kept q n (State.rebalance s) := by
  unfold State.rebalance
  repeat' (first
    | with_reducible assumption
    | with_reducible intro _
    | with_reducible apply kept_ite
    | with_reducible apply State.moveGains_kept
    | with_reducible apply State.arbitrate_kept
    | with_reducible apply State.computeBand_kept
    | with_reducible apply kept_foldl
    | split
    | dsimp only)

end Sys2Proof.Machine
end

