-- ==== Sys2Proof/Laws/KeptTiu.lean ====
section
/-!
SUPPORT. What the functions of Sys2Proof/Machine/Tiu.lean keep, one lemma for each of them (Laws/Kept.lean says what).
-/

namespace Sys2Proof.Machine

set_option linter.unusedTactic false
set_option linter.unreachableTactic false
set_option linter.unusedVariables false

open Sys2Proof

variable {q : List Instr} {n : Floor}

theorem State.scheduleBurst_kept (s : State) (us : Nat) (h : Kept q n s) :
    Kept q n (State.scheduleBurst s us) := by
  unfold State.scheduleBurst
  repeat' (first
    | with_reducible assumption
    | with_reducible intro _
    | with_reducible apply kept_ite
    | with_reducible apply State.arm_kept
    | split
    | dsimp only)

theorem State.setRefWarm_kept (s : State) (h : Kept q n s) :
    Kept q n (State.setRefWarm s) := by
  unfold State.setRefWarm
  repeat' (first
    | with_reducible assumption
    | with_reducible intro _
    | with_reducible apply kept_ite
    | with_reducible apply State.set_kept
    | with_reducible apply State.mutePaths_kept
    | with_reducible apply State.hardMute_kept
    | split
    | dsimp only)

theorem State.clearRefWarm_kept (s : State) (h : Kept q n s) :
    Kept q n (State.clearRefWarm s) := by
  unfold State.clearRefWarm
  repeat' (first
    | with_reducible assumption
    | with_reducible intro _
    | with_reducible apply kept_ite
    | with_reducible apply State.set_kept
    | with_reducible apply State.scheduleBurst_kept
    | split
    | dsimp only)

theorem State.startWarm_kept (s : State) (h : Kept q n s) :
    Kept q n (State.startWarm s) := by
  unfold State.startWarm
  repeat' (first
    | with_reducible assumption
    | with_reducible intro _
    | with_reducible apply kept_ite
    | with_reducible apply State.arm_kept
    | split
    | dsimp only)

theorem State.warmRefLost_kept (s : State) (h : Kept q n s) :
    Kept q n (State.warmRefLost s) := by
  unfold State.warmRefLost
  repeat' (first
    | with_reducible assumption
    | with_reducible intro _
    | with_reducible apply kept_ite
    | with_reducible apply State.disarm_kept
    | with_reducible apply State.setRefWarm_kept
    | split
    | dsimp only)

theorem State.warmRefBack_kept (s : State) (h : Kept q n s) :
    Kept q n (State.warmRefBack s) := by
  unfold State.warmRefBack
  repeat' (first
    | with_reducible assumption
    | with_reducible intro _
    | with_reducible apply kept_ite
    | with_reducible apply State.startWarm_kept
    | split
    | dsimp only)

theorem execOvenOkHigh_kept (s : State) (h : Kept q n s) :
    KeptOut q n (execOvenOkHigh s) := by
  unfold execOvenOkHigh
  repeat' (first
    | with_reducible assumption
    | with_reducible apply keptOut_next
    | with_reducible intro _
    | with_reducible apply kept_ite
    | with_reducible apply State.set_kept
    | with_reducible apply State.when_kept
    | with_reducible apply State.clearRefWarm_kept
    | with_reducible apply State.startWarm_kept
    | split
    | dsimp only)

theorem execOvenOkLow_kept (s : State) (h : Kept q n s) :
    KeptOut q n (execOvenOkLow s) := by
  unfold execOvenOkLow
  repeat' (first
    | with_reducible assumption
    | with_reducible apply keptOut_next
    | with_reducible intro _
    | with_reducible apply kept_ite
    | with_reducible apply State.set_kept
    | with_reducible apply State.disarm_kept
    | with_reducible apply State.when_kept
    | with_reducible apply State.faultRow_kept
    | with_reducible apply State.setRefWarm_kept
    | split
    | dsimp only)

theorem execWarmTimerExpiry_kept (s : State) (h : Kept q n s) :
    KeptOut q n (execWarmTimerExpiry s) := by
  unfold execWarmTimerExpiry
  repeat' (first
    | with_reducible assumption
    | with_reducible apply keptOut_next
    | with_reducible intro _
    | with_reducible apply kept_ite
    | with_reducible apply State.onTimer_kept
    | with_reducible apply State.clearRefWarm_kept
    | split
    | dsimp only)

theorem State.publishTiu_kept (s : State) (interval cause : Nat) (h : Kept q n s) :
    Kept q n (State.publishTiu s interval cause) := by
  unfold State.publishTiu
  repeat' (first
    | with_reducible assumption
    | with_reducible intro _
    | with_reducible apply kept_ite
    | with_reducible apply State.set_kept
    | with_reducible apply State.bump_kept
    | split
    | dsimp only)

theorem State.beginBurst_kept (s : State) (h : Kept q n s) :
    Kept q n (State.beginBurst s) := by
  unfold State.beginBurst
  repeat' (first
    | with_reducible assumption
    | with_reducible intro _
    | with_reducible apply kept_ite
    | with_reducible apply State.set_kept
    | with_reducible apply State.arm_kept
    | split
    | dsimp only)

theorem State.channelFree_kept (s : State) (rearm : Bool) (h : Kept q n s) :
    Kept q n (State.channelFree s rearm) := by
  unfold State.channelFree
  repeat' (first
    | with_reducible assumption
    | with_reducible intro _
    | with_reducible apply kept_ite
    | with_reducible apply State.set_kept
    | with_reducible apply State.beginBurst_kept
    | split
    | dsimp only)

theorem State.endMeasurement_kept (s : State) (interval cause : Nat) (h : Kept q n s) :
    Kept q n (State.endMeasurement s interval cause) := by
  unfold State.endMeasurement
  repeat' (first
    | with_reducible assumption
    | with_reducible intro _
    | with_reducible apply kept_ite
    | with_reducible apply State.disarm_kept
    | with_reducible apply State.publishTiu_kept
    | with_reducible apply State.channelFree_kept
    | split
    | dsimp only)

theorem State.armTiu_kept (s : State) (h : Kept q n s) :
    Kept q n (State.armTiu s) := by
  unfold State.armTiu
  repeat' (first
    | with_reducible assumption
    | with_reducible intro _
    | with_reducible apply kept_ite
    | with_reducible apply State.set_kept
    | split
    | dsimp only)

theorem State.cancelTiu_kept (s : State) (h : Kept q n s) :
    Kept q n (State.cancelTiu s) := by
  unfold State.cancelTiu
  repeat' (first
    | with_reducible assumption
    | with_reducible intro _
    | with_reducible apply kept_ite
    | with_reducible apply State.set_kept
    | with_reducible apply State.disarm_kept
    | with_reducible apply State.channelFree_kept
    | split
    | dsimp only)

theorem execTiuStartEdge_kept (fineStart : BitVec 10) (s : State) (h : Kept q n s) :
    KeptOut q n (execTiuStartEdge fineStart s) := by
  unfold execTiuStartEdge
  repeat' (first
    | with_reducible assumption
    | with_reducible apply keptOut_next
    | with_reducible intro _
    | with_reducible apply kept_ite
    | with_reducible apply State.set_kept
    | with_reducible apply State.arm_kept
    | with_reducible apply State.when_kept
    | split
    | dsimp only)

theorem execTiuStopEdge_kept (coarse : BitVec 32) (fineStop : BitVec 10) (s : State) (h : Kept q n s) :
    KeptOut q n (execTiuStopEdge coarse fineStop s) := by
  unfold execTiuStopEdge
  repeat' (first
    | with_reducible assumption
    | with_reducible apply keptOut_next
    | with_reducible intro _
    | with_reducible apply kept_ite
    | with_reducible apply State.endMeasurement_kept
    | split
    | dsimp only)

theorem execTiuTimeout_kept (s : State) (h : Kept q n s) :
    KeptOut q n (execTiuTimeout s) := by
  unfold execTiuTimeout
  repeat' (first
    | with_reducible assumption
    | with_reducible apply keptOut_next
    | with_reducible intro _
    | with_reducible apply kept_ite
    | with_reducible apply kept_ite_snd
    | with_reducible apply State.onTimer_kept
    | with_reducible apply State.draw_kept
    | with_reducible apply State.flag_kept
    | with_reducible apply State.endMeasurement_kept
    | split
    | dsimp only)

theorem execTiuOverflow_kept (s : State) (h : Kept q n s) :
    KeptOut q n (execTiuOverflow s) := by
  unfold execTiuOverflow
  repeat' (first
    | with_reducible assumption
    | with_reducible apply keptOut_next
    | with_reducible intro _
    | with_reducible apply kept_ite
    | with_reducible apply kept_ite_snd
    | with_reducible apply State.onTimer_kept
    | with_reducible apply State.draw_kept
    | with_reducible apply State.flag_kept
    | with_reducible apply State.endMeasurement_kept
    | split
    | dsimp only)

theorem State.abandonBurst_kept (s : State) (h : Kept q n s) :
    Kept q n (State.abandonBurst s) := by
  unfold State.abandonBurst
  repeat' (first
    | with_reducible assumption
    | with_reducible intro _
    | with_reducible apply kept_ite
    | with_reducible apply State.set_kept
    | with_reducible apply State.bump_kept
    | with_reducible apply State.disarm_kept
    | with_reducible apply State.flag_kept
    | split
    | dsimp only)

theorem execTdrBurstStart_kept (s : State) (h : Kept q n s) :
    KeptOut q n (execTdrBurstStart s) := by
  unfold execTdrBurstStart
  repeat' (first
    | with_reducible assumption
    | with_reducible apply keptOut_next
    | with_reducible intro _
    | with_reducible apply kept_ite
    | with_reducible apply State.onTimer_kept
    | with_reducible apply State.scheduleBurst_kept
    | with_reducible apply State.beginBurst_kept
    | split
    | dsimp only)

theorem execTdrLaunch_kept (s : State) (h : Kept q n s) :
    KeptOut q n (execTdrLaunch s) := by
  unfold execTdrLaunch
  repeat' (first
    | with_reducible assumption
    | with_reducible apply keptOut_next
    | with_reducible intro _
    | with_reducible apply kept_ite
    | with_reducible apply State.arm_kept
    | with_reducible apply State.onTimer_kept
    | split
    | dsimp only)

theorem execTdrComparatorEnable_kept (pastThreshold : Bool) (s : State) (h : Kept q n s) :
    KeptOut q n (execTdrComparatorEnable pastThreshold s) := by
  unfold execTdrComparatorEnable
  repeat' (first
    | with_reducible assumption
    | with_reducible apply keptOut_next
    | with_reducible intro _
    | with_reducible apply kept_ite
    | with_reducible apply State.when_kept
    | split
    | dsimp only)

theorem execTdrReflection_kept (counts : BitVec 32) (s : State) (h : Kept q n s) :
    KeptOut q n (execTdrReflection counts s) := by
  unfold execTdrReflection
  repeat' (first
    | with_reducible assumption
    | with_reducible apply keptOut_next
    | with_reducible intro _
    | with_reducible apply kept_ite
    | with_reducible apply State.when_kept
    | split
    | dsimp only)

theorem execTdrStopWindowEnd_kept (s : State) (h : Kept q n s) :
    KeptOut q n (execTdrStopWindowEnd s) := by
  unfold execTdrStopWindowEnd
  repeat' (first
    | with_reducible assumption
    | with_reducible apply keptOut_next
    | with_reducible intro _
    | with_reducible apply kept_ite
    | with_reducible apply State.onTimer_kept
    | split
    | dsimp only)

theorem State.publishWater_kept (s : State) (bs : Bytes) (ageUs : Nat) (h : Kept q n s) :
    Kept q n (State.publishWater s bs ageUs) := by
  unfold State.publishWater
  repeat' (first
    | with_reducible assumption
    | with_reducible intro _
    | with_reducible apply kept_ite
    | with_reducible apply State.set_kept
    | with_reducible apply State.arm_kept
    | split
    | dsimp only)

theorem State.invalidBurst_kept (s : State) (h : Kept q n s) :
    Kept q n (State.invalidBurst s) := by
  unfold State.invalidBurst
  repeat' (first
    | with_reducible assumption
    | with_reducible intro _
    | with_reducible apply kept_ite
    | with_reducible apply State.log_kept
    | with_reducible apply State.flagFirst_kept
    | split
    | dsimp only)

theorem State.validBurst_kept (s : State) (c : BurstClass) (h : Kept q n s) :
    Kept q n (State.validBurst s c) := by
  unfold State.validBurst
  repeat' (first
    | with_reducible assumption
    | with_reducible intro _
    | with_reducible apply kept_ite
    | with_reducible apply State.log_kept
    | with_reducible apply State.flagFirst_kept
    | with_reducible apply State.faultRow_kept
    | with_reducible apply State.publishWater_kept
    | with_reducible apply State.invalidBurst_kept
    | split
    | dsimp only)

theorem State.endBurst_kept (s : State) (h : Kept q n s) :
    Kept q n (State.endBurst s) := by
  unfold State.endBurst
  repeat' (first
    | with_reducible assumption
    | with_reducible intro _
    | with_reducible apply kept_ite
    | with_reducible apply State.set_kept
    | with_reducible apply State.disarm_kept
    | split
    | dsimp only)

theorem execTdrBurstEnd_kept (s : State) (h : Kept q n s) :
    KeptOut q n (execTdrBurstEnd s) := by
  unfold execTdrBurstEnd
  repeat' (first
    | with_reducible assumption
    | with_reducible apply keptOut_next
    | with_reducible intro _
    | with_reducible apply kept_ite
    | with_reducible apply State.bump_kept
    | with_reducible apply State.when_kept
    | with_reducible apply State.invalidBurst_kept
    | with_reducible apply State.validBurst_kept
    | with_reducible apply State.endBurst_kept
    | split
    | dsimp only)

theorem execWaterlineStale_kept (s : State) (h : Kept q n s) :
    KeptOut q n (execWaterlineStale s) := by
  unfold execWaterlineStale
  repeat' (first
    | with_reducible assumption
    | with_reducible apply keptOut_next
    | with_reducible intro _
    | with_reducible apply kept_ite
    | with_reducible apply State.set_kept
    | with_reducible apply State.onTimer_kept
    | with_reducible apply State.faultRow_kept
    | split
    | dsimp only)

theorem State.tiuOff_kept (s : State) (h : Kept q n s) :
    Kept q n (State.tiuOff s) := by
  unfold State.tiuOff
  repeat' (first
    | with_reducible assumption
    | with_reducible intro _
    | with_reducible apply kept_ite
    | with_reducible apply State.set_kept
    | with_reducible apply State.disarm_kept
    | split
    | dsimp only)

theorem State.tiuRefLost_kept (s : State) (h : Kept q n s) :
    Kept q n (State.tiuRefLost s) := by
  unfold State.tiuRefLost
  repeat' (first
    | with_reducible assumption
    | with_reducible intro _
    | with_reducible apply kept_ite
    | with_reducible apply kept_ite_snd
    | with_reducible apply State.bump_kept
    | with_reducible apply State.draw_kept
    | with_reducible apply State.flag_kept
    | with_reducible apply State.endMeasurement_kept
    | with_reducible apply State.invalidBurst_kept
    | with_reducible apply State.endBurst_kept
    | split
    | dsimp only)

end Sys2Proof.Machine
end

