-- ==== Sys2Proof/Laws/KeptBandOps.lean ====
section
/-!
SUPPORT. What the functions of Sys2Proof/Machine/BandOps.lean keep, one lemma for each of them (Laws/Kept.lean says what).
-/

namespace Sys2Proof.Machine

set_option linter.unusedTactic false
set_option linter.unreachableTactic false
set_option linter.unusedVariables false

open Sys2Proof

variable {q : List Instr} {n : Floor}

theorem State.setRetune_kept (s : State) (d : Dir) (b : Bool) (h : Kept q n s) :
    Kept q n (State.setRetune s d b) := by
  unfold State.setRetune
  repeat' (first
    | with_reducible assumption
    | with_reducible intro _
    | with_reducible apply kept_ite
    | split
    | dsimp only)

theorem State.setFail_kept (s : State) (d : Dir) (b : Bool) (h : Kept q n s) :
    Kept q n (State.setFail s d b) := by
  unfold State.setFail
  repeat' (first
    | with_reducible assumption
    | with_reducible intro _
    | with_reducible apply kept_ite
    | split
    | dsimp only)

theorem State.driveGpio_kept (s : State) (mask levels : Nat) (h : Kept q n s) :
    Kept q n (State.driveGpio s mask levels) := by
  unfold State.driveGpio
  repeat' (first
    | with_reducible assumption
    | with_reducible intro _
    | with_reducible apply kept_ite
    | split
    | dsimp only)

theorem State.sendAtten_kept (s : State) (d : Dir) (h : Kept q n s) :
    Kept q n (State.sendAtten s d) := by
  unfold State.sendAtten
  repeat' (first
    | with_reducible assumption
    | with_reducible intro _
    | with_reducible apply kept_ite
    | with_reducible apply State.driveGpio_kept
    | split
    | dsimp only)

theorem State.startSeq_kept (s : State) (k : Nat) (replayed : Bool) (h : Kept q n s) :
    Kept q n (State.startSeq s k replayed) := by
  unfold State.startSeq
  repeat' (first
    | with_reducible assumption
    | with_reducible intro _
    | with_reducible apply kept_ite
    | with_reducible apply State.set_kept
    | split
    | dsimp only)

theorem State.seqIdle_kept (s : State) (h : Kept q n s) :
    Kept q n (State.seqIdle s) := by
  unfold State.seqIdle
  repeat' (first
    | with_reducible assumption
    | with_reducible intro _
    | with_reducible apply kept_ite
    | with_reducible apply State.set_kept
    | split
    | dsimp only)

theorem State.seqPlayed_kept (s : State) (k : Nat) (replayed : Bool) (h : Kept q n s) :
    Kept q n (State.seqPlayed s k replayed) := by
  unfold State.seqPlayed
  repeat' (first
    | with_reducible assumption
    | with_reducible intro _
    | with_reducible apply kept_ite
    | with_reducible apply State.arm_kept
    | with_reducible apply State.sendAtten_kept
    | with_reducible apply State.seqIdle_kept
    | split
    | dsimp only)

theorem State.playSeq_kept (s : State) (k : Nat) (h : Kept q n s) :
    Kept q n (State.playSeq s k) := by
  unfold State.playSeq
  repeat' (first
    | with_reducible assumption
    | with_reducible intro _
    | with_reducible apply kept_ite
    | with_reducible apply State.startSeq_kept
    | with_reducible apply State.seqPlayed_kept
    | split
    | dsimp only)

theorem State.nextSeq_kept (s : State) (h : Kept q n s) :
    Kept q n (State.nextSeq s) := by
  unfold State.nextSeq
  repeat' (first
    | with_reducible assumption
    | with_reducible intro _
    | with_reducible apply kept_ite
    | with_reducible apply State.playSeq_kept
    | split
    | dsimp only)

theorem State.failSeq_kept (s : State) (k bit code : Nat) (replayed : Bool) (payload : Bytes) (h : Kept q n s) :
    Kept q n (State.failSeq s k bit code replayed payload) := by
  unfold State.failSeq
  repeat' (first
    | with_reducible assumption
    | with_reducible intro _
    | with_reducible apply kept_ite
    | with_reducible apply State.disarm_kept
    | with_reducible apply State.arm_kept
    | with_reducible apply State.log_kept
    | with_reducible apply State.flag_kept
    | with_reducible apply State.setRetune_kept
    | with_reducible apply State.setFail_kept
    | with_reducible apply State.seqIdle_kept
    | with_reducible apply kept_foldl
    | split
    | dsimp only)

theorem State.startRetune_kept (s : State) (d : Dir) (h : Kept q n s) :
    Kept q n (State.startRetune s d) := by
  unfold State.startRetune
  repeat' (first
    | with_reducible assumption
    | with_reducible intro _
    | with_reducible apply kept_ite
    | with_reducible apply State.mutePaths_kept
    | with_reducible apply State.setRetune_kept
    | with_reducible apply State.setFail_kept
    | with_reducible apply State.playSeq_kept
    | split
    | dsimp only)

theorem State.retuneLocked_kept (s : State) (d : Dir) (h : Kept q n s) :
    Kept q n (State.retuneLocked s d) := by
  unfold State.retuneLocked
  repeat' (first
    | with_reducible assumption
    | with_reducible intro _
    | with_reducible apply kept_ite
    | with_reducible apply State.disarm_kept
    | with_reducible apply State.settleAll_kept
    | with_reducible apply State.setRetune_kept
    | with_reducible apply State.seqIdle_kept
    | split
    | dsimp only)

theorem State.stopSeq_kept (s : State) (h : Kept q n s) :
    Kept q n (State.stopSeq s) := by
  unfold State.stopSeq
  repeat' (first
    | with_reducible assumption
    | with_reducible intro _
    | with_reducible apply kept_ite
    | split
    | dsimp only)

theorem State.resumeSeq_kept (s : State) (h : Kept q n s) :
    Kept q n (State.resumeSeq s) := by
  unfold State.resumeSeq
  repeat' (first
    | with_reducible assumption
    | with_reducible intro _
    | with_reducible apply kept_ite
    | split
    | dsimp only)

theorem State.runInit_kept (s : State) (h : Kept q n s) :
    Kept q n (State.runInit s) := by
  unfold State.runInit
  repeat' (first
    | with_reducible assumption
    | with_reducible intro _
    | with_reducible apply kept_ite
    | with_reducible apply State.playSeq_kept
    | split
    | dsimp only)

theorem State.openGate_kept (s : State) (d : Dir) (h : Kept q n s) :
    Kept q n (State.openGate s d) := by
  unfold State.openGate
  repeat' (first
    | with_reducible assumption
    | with_reducible intro _
    | with_reducible apply kept_ite
    | with_reducible apply State.set_kept
    | with_reducible apply State.bump_kept
    | with_reducible apply State.arm_kept
    | with_reducible apply State.setPath_kept
    | with_reducible apply State.fabEvent_kept
    | with_reducible apply State.moveGain_kept
    | split
    | dsimp only)

theorem State.enterGuard_kept (s : State) (h : Kept q n s) :
    Kept q n (State.enterGuard s) := by
  unfold State.enterGuard
  repeat' (first
    | with_reducible assumption
    | with_reducible intro _
    | with_reducible apply kept_ite
    | with_reducible apply State.set_kept
    | with_reducible apply State.arm_kept
    | with_reducible apply State.fabEvent_kept
    | with_reducible apply State.closeGates_kept
    | split
    | dsimp only)

theorem State.endStreak_kept (s : State) (d : Dir) (h : Kept q n s) :
    Kept q n (State.endStreak s d) := by
  unfold State.endStreak
  repeat' (first
    | with_reducible assumption
    | with_reducible intro _
    | with_reducible apply kept_ite
    | split
    | dsimp only)

theorem State.leCommit_kept (s : State) (h : Kept q n s) :
    Kept q n (State.leCommit s) := by
  unfold State.leCommit
  repeat' (first
    | with_reducible assumption
    | with_reducible intro _
    | with_reducible apply kept_ite
    | with_reducible apply State.enterGuard_kept
    | with_reducible apply State.endStreak_kept
    | split
    | dsimp only)

theorem State.startProbe_kept (s : State) (b : Nat × Nat) (h : Kept q n s) :
    Kept q n (State.startProbe s b) := by
  unfold State.startProbe
  repeat' (first
    | with_reducible assumption
    | with_reducible intro _
    | with_reducible apply kept_ite
    | with_reducible apply State.set_kept
    | with_reducible apply State.bump_kept
    | with_reducible apply State.arm_kept
    | with_reducible apply State.abandonBurst_kept
    | with_reducible apply kept_foldl
    | split
    | dsimp only)

theorem State.startProbes_kept (s : State) (h : Kept q n s) :
    Kept q n (State.startProbes s) := by
  unfold State.startProbes
  repeat' (first
    | with_reducible assumption
    | with_reducible intro _
    | with_reducible apply kept_ite
    | with_reducible apply State.startProbe_kept
    | with_reducible apply kept_foldl
    | split
    | dsimp only)

theorem State.unmute_kept (s : State) (p : Nat) (g : Int) (h : Kept q n s) :
    Kept q n (State.unmute s p g) := by
  unfold State.unmute
  repeat' (first
    | with_reducible assumption
    | with_reducible intro _
    | with_reducible apply kept_ite
    | with_reducible apply State.set_kept
    | with_reducible apply State.setI_kept
    | with_reducible apply State.setPath_kept
    | split
    | dsimp only)

theorem State.noteProbe_kept (s : State) (p : Nat) (m : PathMeas) (h : Kept q n s) :
    Kept q n (State.noteProbe s p m) := by
  unfold State.noteProbe
  repeat' (first
    | with_reducible assumption
    | with_reducible intro _
    | with_reducible apply kept_ite
    | with_reducible apply State.set_kept
    | with_reducible apply State.setPath_kept
    | split
    | dsimp only)

end Sys2Proof.Machine
end

