-- ==== Sys2Proof/Laws/KeptLaneOps.lean ====
section
/-!
SUPPORT. What the functions of Sys2Proof/Machine/LaneOps.lean keep, one lemma for each of them (Laws/Kept.lean says what).
-/

namespace Sys2Proof.Machine

set_option linter.unusedTactic false
set_option linter.unreachableTactic false
set_option linter.unusedVariables false

open Sys2Proof

variable {q : List Instr} {n : Floor}

theorem State.refreeze_kept (s : State) (c : Nat) (h : Kept q n s) :
    Kept q n (State.refreeze s c) := by
  unfold State.refreeze
  repeat' (first
    | with_reducible assumption
    | with_reducible intro _
    | with_reducible apply kept_ite
    | with_reducible apply State.set_kept
    | with_reducible apply State.fabEvent_kept
    | with_reducible apply kept_foldl
    | split
    | dsimp only)

theorem State.setBias_kept (s : State) (n' goal : Nat) (h : Kept q n s) :
    Kept q n (State.setBias s n' goal) := by
  unfold State.setBias
  repeat' (first
    | with_reducible assumption
    | with_reducible intro _
    | with_reducible apply kept_ite
    | with_reducible apply State.setLane_kept
    | split
    | dsimp only)

theorem State.retargetBias_kept (s : State) (h : Kept q n s) :
    Kept q n (State.retargetBias s) := by
  unfold State.retargetBias
  repeat' (first
    | with_reducible assumption
    | with_reducible intro _
    | with_reducible apply kept_ite
    | with_reducible apply State.setBias_kept
    | with_reducible apply kept_foldl
    | split
    | dsimp only)

theorem State.sendPmb_kept (s : State) (n' : Nat) (codes : List Nat) (h : Kept q n s) :
    Kept q n (State.sendPmb s n' codes) := by
  unfold State.sendPmb
  repeat' (first
    | with_reducible assumption
    | with_reducible intro _
    | with_reducible apply kept_ite
    | split
    | dsimp only)

theorem State.stopLane_kept (s : State) (n' : Nat) (h : Kept q n s) :
    Kept q n (State.stopLane s n') := by
  unfold State.stopLane
  repeat' (first
    | with_reducible assumption
    | with_reducible intro _
    | with_reducible apply kept_ite
    | with_reducible apply State.set_kept
    | with_reducible apply State.disarm_kept
    | with_reducible apply State.mutePaths_kept
    | with_reducible apply State.setLane_kept
    | with_reducible apply State.sendPmb_kept
    | split
    | dsimp only)

theorem State.stopLanes_kept (s : State) (h : Kept q n s) :
    Kept q n (State.stopLanes s) := by
  unfold State.stopLanes
  repeat' (first
    | with_reducible assumption
    | with_reducible intro _
    | with_reducible apply kept_ite
    | with_reducible apply State.stopLane_kept
    | with_reducible apply kept_foldl
    | split
    | dsimp only)

theorem State.startLane_kept (s : State) (n' : Nat) (h : Kept q n s) :
    Kept q n (State.startLane s n') := by
  unfold State.startLane
  repeat' (first
    | with_reducible assumption
    | with_reducible intro _
    | with_reducible apply kept_ite
    | with_reducible apply State.set_kept
    | with_reducible apply State.setLane_kept
    | with_reducible apply State.sendPmb_kept
    | split
    | dsimp only)

theorem State.laneEnableWritten_kept (s : State) (n' : Nat) (h : Kept q n s) :
    Kept q n (State.laneEnableWritten s n') := by
  unfold State.laneEnableWritten
  repeat' (first
    | with_reducible assumption
    | with_reducible intro _
    | with_reducible apply kept_ite
    | with_reducible apply State.set_kept
    | with_reducible apply State.disarm_kept
    | with_reducible apply State.setLane_kept
    | with_reducible apply State.stopLane_kept
    | split
    | dsimp only)

theorem State.judgeHint_kept (s : State) (h' : HintId) (h : Kept q n s) :
    Kept q n (State.judgeHint s h') := by
  unfold State.judgeHint
  repeat' (first
    | with_reducible assumption
    | with_reducible intro _
    | with_reducible apply kept_ite
    | with_reducible apply State.set_kept
    | with_reducible apply State.disarm_kept
    | with_reducible apply State.arm_kept
    | split
    | dsimp only)

theorem State.cancelHint_kept (s : State) (h' : HintId) (h : Kept q n s) :
    Kept q n (State.cancelHint s h') := by
  unfold State.cancelHint
  repeat' (first
    | with_reducible assumption
    | with_reducible intro _
    | with_reducible apply kept_ite
    | with_reducible apply State.set_kept
    | with_reducible apply State.arm_kept
    | split
    | dsimp only)

theorem State.nextHint_kept (s : State) (h' : HintId) (h : Kept q n s) :
    Kept q n (State.nextHint s h') := by
  unfold State.nextHint
  repeat' (first
    | with_reducible assumption
    | with_reducible intro _
    | with_reducible apply kept_ite
    | with_reducible apply State.set_kept
    | with_reducible apply State.arm_kept
    | split
    | dsimp only)

theorem State.resumeHint_kept (s : State) (h' : HintId) (h : Kept q n s) :
    Kept q n (State.resumeHint s h') := by
  unfold State.resumeHint
  repeat' (first
    | with_reducible assumption
    | with_reducible intro _
    | with_reducible apply kept_ite
    | with_reducible apply State.set_kept
    | with_reducible apply State.judgeHint_kept
    | split
    | dsimp only)

theorem State.lidEnter_kept (s : State) (st : Nat) (h : Kept q n s) :
    Kept q n (State.lidEnter s st) := by
  unfold State.lidEnter
  repeat' (first
    | with_reducible assumption
    | with_reducible intro _
    | with_reducible apply kept_ite
    | with_reducible apply State.set_kept
    | with_reducible apply State.disarm_kept
    | split
    | dsimp only)

theorem State.lidRetakeNow_kept (s : State) (h : Kept q n s) :
    Kept q n (State.lidRetakeNow s) := by
  unfold State.lidRetakeNow
  repeat' (first
    | with_reducible assumption
    | with_reducible intro _
    | with_reducible apply kept_ite
    | with_reducible apply State.lidEnter_kept
    | split
    | dsimp only)

theorem State.lidHoldup_kept (s : State) (h : Kept q n s) :
    Kept q n (State.lidHoldup s) := by
  unfold State.lidHoldup
  repeat' (first
    | with_reducible assumption
    | with_reducible intro _
    | with_reducible apply kept_ite
    | with_reducible apply State.set_kept
    | with_reducible apply State.disarm_kept
    | with_reducible apply State.lidEnter_kept
    | split
    | dsimp only)

theorem State.lidEnabled_kept (s : State) (h : Kept q n s) :
    Kept q n (State.lidEnabled s) := by
  unfold State.lidEnabled
  repeat' (first
    | with_reducible assumption
    | with_reducible intro _
    | with_reducible apply kept_ite
    | with_reducible apply State.disarm_kept
    | with_reducible apply State.lidEnter_kept
    | with_reducible apply State.lidRetakeNow_kept
    | split
    | dsimp only)

end Sys2Proof.Machine
end

