-- ==== Sys2Proof/Laws/KeptHooks.lean ====
section
/-!
SUPPORT. What the functions of Sys2Proof/Machine/Hooks.lean keep, one lemma for each of them (Laws/Kept.lean says what).
-/

namespace Sys2Proof.Machine

set_option linter.unusedTactic false
set_option linter.unreachableTactic false
set_option linter.unusedVariables false

open Sys2Proof

variable {q : List Instr} {n : Floor}

theorem State.startMargin_kept (s : State) (m cmd : Nat) (h : Kept q n s) :
    Kept q n (State.startMargin s m cmd) := by
  unfold State.startMargin
  repeat' (first
    | with_reducible assumption
    | with_reducible intro _
    | with_reducible apply kept_ite
    | with_reducible apply State.set_kept
    | with_reducible apply State.arm_kept
    | split
    | dsimp only)

theorem State.enterRestricted_kept (s : State) (h : Kept q n s) :
    Kept q n (State.enterRestricted s) := by
  unfold State.enterRestricted
  repeat' (first
    | with_reducible assumption
    | with_reducible intro _
    | with_reducible apply kept_ite
    | with_reducible apply State.bump_kept
    | with_reducible apply State.disarm_kept
    | with_reducible apply State.arm_kept
    | split
    | dsimp only)

theorem State.setStb_kept (s : State) (p : Port) (b : Bool) (h : Kept q n s) :
    Kept q n (State.setStb s p b) := by
  unfold State.setStb
  repeat' (first
    | with_reducible assumption
    | with_reducible intro _
    | with_reducible apply kept_ite
    | split
    | dsimp only)

theorem State.joinPort_kept (s : State) (p : Port) (h : Kept q n s) :
    Kept q n (State.joinPort s p) := by
  unfold State.joinPort
  repeat' (first
    | with_reducible assumption
    | with_reducible intro _
    | with_reducible apply kept_ite
    | with_reducible apply State.set_kept
    | with_reducible apply State.disarm_kept
    | with_reducible apply State.enterRestricted_kept
    | with_reducible apply State.setStb_kept
    | split
    | dsimp only)

theorem State.portStandby_kept (s : State) (p : Port) (h : Kept q n s) :
    Kept q n (State.portStandby s p) := by
  unfold State.portStandby
  repeat' (first
    | with_reducible assumption
    | with_reducible intro _
    | with_reducible apply kept_ite
    | with_reducible apply State.set_kept
    | with_reducible apply State.disarm_kept
    | with_reducible apply State.setStb_kept
    | split
    | dsimp only)

theorem State.noteRestricted_kept (s : State) (h : Kept q n s) :
    Kept q n (State.noteRestricted s) := by
  unfold State.noteRestricted
  repeat' (first
    | with_reducible assumption
    | with_reducible intro _
    | with_reducible apply kept_ite
    | with_reducible apply State.disarm_kept
    | with_reducible apply State.log_kept
    | split
    | dsimp only)

theorem State.leaveRestricted_kept (s : State) (h : Kept q n s) :
    Kept q n (State.leaveRestricted s) := by
  unfold State.leaveRestricted
  repeat' (first
    | with_reducible assumption
    | with_reducible intro _
    | with_reducible apply kept_ite
    | with_reducible apply State.joinPort_kept
    | with_reducible apply State.noteRestricted_kept
    | with_reducible apply kept_foldl
    | split
    | dsimp only)

theorem State.heartbeatSoon_kept (s : State) (h : Kept q n s) :
    Kept q n (State.heartbeatSoon s) := by
  unfold State.heartbeatSoon
  repeat' (first
    | with_reducible assumption
    | with_reducible intro _
    | with_reducible apply kept_ite
    | with_reducible apply State.arm_kept
    | with_reducible apply kept_foldl
    | split
    | dsimp only)

theorem State.putApplied_kept (s : State) (p : Nat) (g : Int) (h : Kept q n s) :
    Kept q n (State.putApplied s p g) := by
  unfold State.putApplied
  repeat' (first
    | with_reducible assumption
    | with_reducible intro _
    | with_reducible apply kept_ite
    | with_reducible apply State.setI_kept
    | split
    | dsimp only)

theorem State.shiftPilot_kept (s : State) (p : Nat) (by_ : Int) (h : Kept q n s) :
    Kept q n (State.shiftPilot s p by_) := by
  unfold State.shiftPilot
  repeat' (first
    | with_reducible assumption
    | with_reducible intro _
    | with_reducible apply kept_ite
    | with_reducible apply State.setPath_kept
    | split
    | dsimp only)

theorem State.chainChanged_kept (s : State) (d : Dir) (by_ : Int) (h : Kept q n s) :
    Kept q n (State.chainChanged s d by_) := by
  unfold State.chainChanged
  repeat' (first
    | with_reducible assumption
    | with_reducible intro _
    | with_reducible apply kept_ite
    | with_reducible apply State.putApplied_kept
    | with_reducible apply State.shiftPilot_kept
    | with_reducible apply kept_foldl
    | split
    | dsimp only)

theorem State.attenChanged_kept (s : State) (d : Dir) (by_ : Int) (h : Kept q n s) :
    Kept q n (State.attenChanged s d by_) := by
  unfold State.attenChanged
  repeat' (first
    | with_reducible assumption
    | with_reducible intro _
    | with_reducible apply kept_ite
    | with_reducible apply State.settleAll_kept
    | with_reducible apply State.sendAtten_kept
    | with_reducible apply State.putApplied_kept
    | with_reducible apply kept_foldl
    | split
    | dsimp only)

theorem State.pathEffect_kept (s : State) (p k old new : Nat) (h : Kept q n s) :
    Kept q n (State.pathEffect s p k old new) := by
  unfold State.pathEffect
  repeat' (first
    | with_reducible assumption
    | with_reducible intro _
    | with_reducible apply kept_ite
    | with_reducible apply State.setPath_kept
    | with_reducible apply State.mutePath_kept
    | with_reducible apply State.startSettle_kept
    | with_reducible apply State.shiftPilot_kept
    | split
    | dsimp only)

theorem State.rfEffect_kept (s : State) (k old new : Nat) (h : Kept q n s) :
    Kept q n (State.rfEffect s k old new) := by
  unfold State.rfEffect
  repeat' (first
    | with_reducible assumption
    | with_reducible intro _
    | with_reducible apply kept_ite
    | with_reducible apply State.disarm_kept
    | with_reducible apply State.endHold_kept
    | with_reducible apply State.settleAll_kept
    | with_reducible apply State.scheduleBurst_kept
    | with_reducible apply State.refreeze_kept
    | with_reducible apply State.retargetBias_kept
    | with_reducible apply State.laneEnableWritten_kept
    | with_reducible apply State.judgeHint_kept
    | with_reducible apply State.lidEnabled_kept
    | with_reducible apply State.chainChanged_kept
    | with_reducible apply State.attenChanged_kept
    | split
    | dsimp only)

theorem State.setRejoin_kept (s : State) (p : Port) (b : Bool) (h : Kept q n s) :
    Kept q n (State.setRejoin s p b) := by
  unfold State.setRejoin
  repeat' (first
    | with_reducible assumption
    | with_reducible intro _
    | with_reducible apply kept_ite
    | split
    | dsimp only)

theorem State.settleJoin_kept (s : State) (p : Port) (h : Kept q n s) :
    Kept q n (State.settleJoin s p) := by
  unfold State.settleJoin
  repeat' (first
    | with_reducible assumption
    | with_reducible intro _
    | with_reducible apply kept_ite
    | with_reducible apply State.joinPort_kept
    | with_reducible apply State.setRejoin_kept
    | split
    | dsimp only)

theorem State.entryEffect_kept (s : State) (k old new : Nat) (h : Kept q n s) :
    Kept q n (State.entryEffect s k old new) := by
  unfold State.entryEffect
  repeat' (first
    | with_reducible assumption
    | with_reducible intro _
    | with_reducible apply kept_ite
    | with_reducible apply State.set_kept
    | with_reducible apply State.startMargin_kept
    | with_reducible apply State.heartbeatSoon_kept
    | with_reducible apply State.pathEffect_kept
    | with_reducible apply State.rfEffect_kept
    | with_reducible apply State.setRejoin_kept
    | with_reducible apply kept_foldl
    | split
    | dsimp only)

theorem State.onStandby_kept (s : State) (h : Kept q n s) :
    Kept q n (State.onStandby s) := by
  unfold State.onStandby
  repeat' (first
    | with_reducible assumption
    | with_reducible intro _
    | with_reducible apply kept_ite
    | with_reducible apply State.runInit_kept
    | with_reducible apply State.resumeHint_kept
    | split
    | dsimp only)

end Sys2Proof.Machine
end

