-- ==== Sys2Proof/Laws/KeptCommitOps.lean ====
section
/-!
SUPPORT. What the functions of Sys2Proof/Machine/CommitOps.lean keep, one lemma for each of them (Laws/Kept.lean says what).
-/

namespace Sys2Proof.Machine

set_option linter.unusedTactic false
set_option linter.unreachableTactic false
set_option linter.unusedVariables false

open Sys2Proof

variable {q : List Instr} {n : Floor}

theorem State.writeBack_kept (s : State) (h : Kept q n s) :
    Kept q n (State.writeBack s) := by
  unfold State.writeBack
  repeat' (first
    | with_reducible assumption
    | with_reducible intro _
    | with_reducible apply kept_ite
    | split
    | dsimp only)

theorem State.unqueue_kept (s : State) (h' : Held) (h : Kept q n s) :
    Kept q n (State.unqueue s h') := by
  unfold State.unqueue
  repeat' (first
    | with_reducible assumption
    | with_reducible intro _
    | with_reducible apply kept_ite
    | with_reducible apply State.placeWaiting_kept
    | split
    | dsimp only)

theorem State.muteSegments_kept (s : State) (own : Caller → Bool) (h : Kept q n s) :
    Kept q n (State.muteSegments s own).2 := by
  unfold State.muteSegments
  repeat' (first
    | with_reducible assumption
    | with_reducible intro _
    | with_reducible apply kept_ite
    | with_reducible apply kept_ite_snd
    | split
    | dsimp only)

theorem State.muteCommit_kept (s : State) (own : Caller → Bool) (h : Kept q n s) :
    Kept q n (State.muteCommit s own).2 := by
  unfold State.muteCommit
  repeat' (first
    | with_reducible assumption
    | with_reducible intro _
    | with_reducible apply kept_ite
    | with_reducible apply kept_ite_snd
    | split
    | dsimp only)

theorem State.discardRequests_kept (s : State) (own : Caller → Bool) (mine : Held → Bool) (h : Kept q n s) :
    Kept q n (State.discardRequests s own mine) := by
  unfold State.discardRequests
  repeat' (first
    | with_reducible assumption
    | with_reducible intro _
    | with_reducible apply kept_ite
    | with_reducible apply kept_ite_snd
    | with_reducible apply State.bump_kept
    | with_reducible apply State.unqueue_kept
    | with_reducible apply State.muteSegments_kept
    | with_reducible apply State.muteCommit_kept
    | with_reducible apply kept_foldl
    | split
    | dsimp only)

theorem State.discardWaiting_kept (s : State) (h : Kept q n s) :
    Kept q n (State.discardWaiting s) := by
  unfold State.discardWaiting
  repeat' (first
    | with_reducible assumption
    | with_reducible intro _
    | with_reducible apply kept_ite
    | with_reducible apply State.discardRequests_kept
    | split
    | dsimp only)

theorem State.endDebug_kept (s : State) (hold : Bool) (h : Kept q n s) :
    Kept q n (State.endDebug s hold) := by
  unfold State.endDebug
  repeat' (first
    | with_reducible assumption
    | with_reducible intro _
    | with_reducible apply kept_ite
    | with_reducible apply State.set_kept
    | with_reducible apply State.disarm_kept
    | with_reducible apply State.arm_kept
    | with_reducible apply kept_foldl
    | split
    | dsimp only)

theorem State.endSession_kept (s : State) (slot : Nat) (h : Kept q n s) :
    Kept q n (State.endSession s slot) := by
  unfold State.endSession
  repeat' (first
    | with_reducible assumption
    | with_reducible intro _
    | with_reducible apply kept_ite
    | with_reducible apply State.disarm_kept
    | with_reducible apply State.setStage_kept
    | with_reducible apply State.discardRequests_kept
    | with_reducible apply State.endDebug_kept
    | split
    | dsimp only)

theorem State.endSpent_kept (s : State) (h : Kept q n s) :
    Kept q n (State.endSpent s) := by
  unfold State.endSpent
  repeat' (first
    | with_reducible assumption
    | with_reducible intro _
    | with_reducible apply kept_ite
    | with_reducible apply State.endSession_kept
    | with_reducible apply kept_foldl
    | split
    | dsimp only)

theorem State.endSessions_kept (s : State) (h : Kept q n s) :
    Kept q n (State.endSessions s) := by
  unfold State.endSessions
  repeat' (first
    | with_reducible assumption
    | with_reducible intro _
    | with_reducible apply kept_ite
    | with_reducible apply State.endSession_kept
    | with_reducible apply kept_foldl
    | split
    | dsimp only)

theorem State.applyEntry_kept (s : State) (e : CEntry) (h : Kept q n s) :
    Kept q n (State.applyEntry s e) := by
  unfold State.applyEntry
  repeat' (first
    | with_reducible assumption
    | with_reducible intro _
    | with_reducible apply kept_ite
    | with_reducible apply State.set_kept
    | with_reducible apply State.entryEffect_kept
    | split
    | dsimp only)

theorem State.applyWhere_kept (s : State) (r : CommitRun) (p : CEntry → Bool) (h : Kept q n s) :
    Kept q n (State.applyWhere s r p).1 := by
  unfold State.applyWhere
  repeat' (first
    | with_reducible assumption
    | with_reducible intro _
    | with_reducible apply kept_ite
    | with_reducible apply kept_ite_fst
    | with_reducible apply State.applyEntry_kept
    | with_reducible apply kept_foldl
    | split
    | dsimp only)

theorem State.commitReply_kept (s : State) (r : CommitRun) (h : Kept q n s) :
    Kept q n (State.commitReply s r) := by
  unfold State.commitReply
  repeat' (first
    | with_reducible assumption
    | with_reducible intro _
    | with_reducible apply kept_ite
    | with_reducible apply State.answer_kept
    | with_reducible apply State.done_kept
    | split
    | dsimp only)

theorem State.clearStage_kept (s : State) (r : CommitRun) (h : Kept q n s) :
    Kept q n (State.clearStage s r) := by
  unfold State.clearStage
  repeat' (first
    | with_reducible assumption
    | with_reducible intro _
    | with_reducible apply kept_ite
    | with_reducible apply State.disarm_kept
    | with_reducible apply State.setStage_kept
    | split
    | dsimp only)

theorem State.finishCommit_kept (s : State) (r : CommitRun) (h : Kept q n s) :
    Kept q n (State.finishCommit s r) := by
  unfold State.finishCommit
  repeat' (first
    | with_reducible assumption
    | with_reducible intro _
    | with_reducible apply kept_ite
    | with_reducible apply State.set_kept
    | with_reducible apply State.bump_kept
    | with_reducible apply State.disarm_kept
    | with_reducible apply State.settleJoin_kept
    | with_reducible apply State.endSpent_kept
    | with_reducible apply State.commitReply_kept
    | with_reducible apply State.clearStage_kept
    | split
    | dsimp only)

theorem State.tryFinish_kept (s : State) (h : Kept q n s) :
    Kept q n (State.tryFinish s) := by
  unfold State.tryFinish
  repeat' (first
    | with_reducible assumption
    | with_reducible intro _
    | with_reducible apply kept_ite
    | with_reducible apply State.set_kept
    | with_reducible apply State.finishCommit_kept
    | split
    | dsimp only)

theorem State.applyAll_kept (s : State) (r : CommitRun) (h : Kept q n s) :
    Kept q n (State.applyAll s r) := by
  unfold State.applyAll
  repeat' (first
    | with_reducible assumption
    | with_reducible intro _
    | with_reducible apply kept_ite
    | with_reducible apply kept_ite_fst
    | with_reducible apply State.applyWhere_kept
    | with_reducible apply State.finishCommit_kept
    | split
    | dsimp only)

theorem State.advanceCommit_kept (s : State) (arb : Bool) (h : Kept q n s) :
    Kept q n (State.advanceCommit s arb) := by
  unfold State.advanceCommit
  repeat' (first
    | with_reducible assumption
    | with_reducible intro _
    | with_reducible apply kept_ite
    | with_reducible apply kept_ite_fst
    | with_reducible apply State.applyWhere_kept
    | with_reducible apply State.tryFinish_kept
    | with_reducible apply State.applyAll_kept
    | split
    | dsimp only)

theorem State.setHeld_kept (s : State) (d : Dir) (b : Bool) (h : Kept q n s) :
    Kept q n (State.setHeld s d b) := by
  unfold State.setHeld
  repeat' (first
    | with_reducible assumption
    | with_reducible intro _
    | with_reducible apply kept_ite
    | split
    | dsimp only)

theorem State.raiseDir_kept (s : State) (d : Dir) (held : Bool) (h : Kept q n s) :
    Kept q n (State.raiseDir s d held) := by
  unfold State.raiseDir
  repeat' (first
    | with_reducible assumption
    | with_reducible intro _
    | with_reducible apply kept_ite
    | with_reducible apply kept_ite_fst
    | with_reducible apply State.disarm_kept
    | with_reducible apply State.applyWhere_kept
    | split
    | dsimp only)

theorem State.moveDir_kept (s : State) (d : Dir) (h : Kept q n s) :
    Kept q n (State.moveDir s d) := by
  unfold State.moveDir
  repeat' (first
    | with_reducible assumption
    | with_reducible intro _
    | with_reducible apply kept_ite
    | with_reducible apply kept_ite_fst
    | with_reducible apply State.arm_kept
    | with_reducible apply State.applyWhere_kept
    | split
    | dsimp only)

theorem State.capSchedule_kept (s : State) (e : CEntry) (h : Kept q n s) :
    Kept q n (State.capSchedule s e) := by
  unfold State.capSchedule
  repeat' (first
    | with_reducible assumption
    | with_reducible intro _
    | with_reducible apply kept_ite
    | with_reducible apply State.setPath_kept
    | split
    | dsimp only)

theorem State.reduceDir_kept (s : State) (d : Dir) (r : CommitRun) (h : Kept q n s) :
    Kept q n (State.reduceDir s d r) := by
  unfold State.reduceDir
  repeat' (first
    | with_reducible assumption
    | with_reducible intro _
    | with_reducible apply kept_ite
    | with_reducible apply kept_ite_fst
    | with_reducible apply State.rebalance_kept
    | with_reducible apply State.applyWhere_kept
    | with_reducible apply State.capSchedule_kept
    | with_reducible apply kept_foldl
    | split
    | dsimp only)

theorem State.followDir_kept (s : State) (d : Dir) (h : Kept q n s) :
    Kept q n (State.followDir s d) := by
  unfold State.followDir
  repeat' (first
    | with_reducible assumption
    | with_reducible intro _
    | with_reducible apply kept_ite
    | with_reducible apply State.moveDir_kept
    | split
    | dsimp only)

theorem State.followCommit_kept (s : State) (h : Kept q n s) :
    Kept q n (State.followCommit s) := by
  unfold State.followCommit
  repeat' (first
    | with_reducible assumption
    | with_reducible intro _
    | with_reducible apply kept_ite
    | with_reducible apply State.moveGains_kept
    | with_reducible apply State.advanceCommit_kept
    | with_reducible apply State.followDir_kept
    | split
    | dsimp only)

theorem State.boundaryCommit_kept (s : State) (d : Dir) (counted : Bool) (h : Kept q n s) :
    Kept q n (State.boundaryCommit s d counted) := by
  unfold State.boundaryCommit
  repeat' (first
    | with_reducible assumption
    | with_reducible intro _
    | with_reducible apply kept_ite
    | with_reducible apply State.startRetune_kept
    | with_reducible apply State.leCommit_kept
    | with_reducible apply State.raiseDir_kept
    | with_reducible apply State.reduceDir_kept
    | with_reducible apply State.followDir_kept
    | split
    | dsimp only)

theorem State.startCommit_kept (s : State) (c : Caller) (form : ReplyForm) (fromStage : Option StageId) (es : List (Nat × Nat)) (req : Bytes) (h : Kept q n s) :
    Kept q n (State.startCommit s c form fromStage es req) := by
  unfold State.startCommit
  repeat' (first
    | with_reducible assumption
    | with_reducible intro _
    | with_reducible apply kept_ite
    | with_reducible apply State.set_kept
    | with_reducible apply State.arm_kept
    | with_reducible apply State.abort_kept
    | with_reducible apply State.advanceCommit_kept
    | split
    | dsimp only)

theorem State.rejectCommit_kept (s : State) (c : Caller) (req : Bytes) (es : List (Nat × Nat)) (pos code : Nat) (h : Kept q n s) :
    Kept q n (State.rejectCommit s c req es pos code) := by
  unfold State.rejectCommit
  repeat' (first
    | with_reducible assumption
    | with_reducible intro _
    | with_reducible apply kept_ite
    | with_reducible apply State.set_kept
    | with_reducible apply State.bump_kept
    | with_reducible apply State.flag_kept
    | with_reducible apply State.abort_kept
    | split
    | dsimp only)

theorem State.tryCommit_kept (s : State) (c : Caller) (form : ReplyForm) (fromStage : Option StageId) (es : List (Nat × Nat)) (req : Bytes) (h : Kept q n s) :
    Kept q n (State.tryCommit s c form fromStage es req) := by
  unfold State.tryCommit
  repeat' (first
    | with_reducible assumption
    | with_reducible intro _
    | with_reducible apply kept_ite
    | with_reducible apply State.abort_kept
    | with_reducible apply State.commitReply_kept
    | with_reducible apply State.startCommit_kept
    | with_reducible apply State.rejectCommit_kept
    | split
    | dsimp only)

theorem State.configWritten_kept (s : State) (verified : Bool) (h : Kept q n s) :
    Kept q n (State.configWritten s verified) := by
  unfold State.configWritten
  repeat' (first
    | with_reducible assumption
    | with_reducible intro _
    | with_reducible apply kept_ite
    | with_reducible apply State.set_kept
    | with_reducible apply State.bump_kept
    | with_reducible apply State.disarm_kept
    | with_reducible apply State.faultRow_kept
    | with_reducible apply State.abort_kept
    | with_reducible apply State.advanceCommit_kept
    | split
    | dsimp only)

theorem State.notePreempted_kept (s : State) (r : CommitRun) (h : Kept q n s) :
    Kept q n (State.notePreempted s r) := by
  unfold State.notePreempted
  repeat' (first
    | with_reducible assumption
    | with_reducible intro _
    | with_reducible apply kept_ite
    | with_reducible apply State.faultRow_kept
    | split
    | dsimp only)

theorem State.preemptCommit_kept (s : State) (h : Kept q n s) :
    Kept q n (State.preemptCommit s) := by
  unfold State.preemptCommit
  repeat' (first
    | with_reducible assumption
    | with_reducible intro _
    | with_reducible apply kept_ite
    | with_reducible apply State.applyAll_kept
    | with_reducible apply State.notePreempted_kept
    | split
    | dsimp only)

theorem State.endWaiting_kept (s : State) (target : PState) (h : Kept q n s) :
    Kept q n (State.endWaiting s target) := by
  unfold State.endWaiting
  repeat' (first
    | with_reducible assumption
    | with_reducible intro _
    | with_reducible apply kept_ite
    | with_reducible apply State.abort_kept
    | split
    | dsimp only)

end Sys2Proof.Machine
end

