-- ==== Sys2Proof/Laws/KeptTwinOps.lean ====
section
/-!
SUPPORT. What the functions of Sys2Proof/Machine/TwinOps.lean keep, one lemma for each of them (Laws/Kept.lean says what).
-/

namespace Sys2Proof.Machine

set_option linter.unusedTactic false
set_option linter.unreachableTactic false
set_option linter.unusedVariables false

open Sys2Proof

variable {q : List Instr} {n : Floor}

theorem State.sendLink_kept (s : State) (type : Nat) (payload : Bytes) (h : Kept q n s) :
    Kept q n (State.sendLink s type payload) := by
  unfold State.sendLink
  repeat' (first
    | with_reducible assumption
    | with_reducible intro _
    | with_reducible apply kept_ite
    | with_reducible apply State.post_kept
    | split
    | dsimp only)

theorem State.linkStat_kept (s : State) (i : Nat) (h : Kept q n s) :
    Kept q n (State.linkStat s i) := by
  unfold State.linkStat
  repeat' (first
    | with_reducible assumption
    | with_reducible intro _
    | with_reducible apply kept_ite
    | with_reducible apply State.set_kept
    | split
    | dsimp only)

theorem State.depart_kept (s : State) (cause : Nat) (h : Kept q n s) :
    Kept q n (State.depart s cause) := by
  unfold State.depart
  repeat' (first
    | with_reducible assumption
    | with_reducible intro _
    | with_reducible apply kept_ite
    | with_reducible apply State.set_kept
    | with_reducible apply State.disarm_kept
    | with_reducible apply State.abandonBurst_kept
    | with_reducible apply State.sendLink_kept
    | split
    | dsimp only)

theorem State.leaveUnsigned_kept (s : State) (seq reason : Nat) (h : Kept q n s) :
    Kept q n (State.leaveUnsigned s seq reason) := by
  unfold State.leaveUnsigned
  repeat' (first
    | with_reducible assumption
    | with_reducible intro _
    | with_reducible apply kept_ite
    | with_reducible apply State.faultRow_kept
    | split
    | dsimp only)

theorem State.dropSigning_kept (s : State) (reason : Nat) (h : Kept q n s) :
    Kept q n (State.dropSigning s reason) := by
  unfold State.dropSigning
  repeat' (first
    | with_reducible assumption
    | with_reducible intro _
    | with_reducible apply kept_ite
    | with_reducible apply State.disarm_kept
    | with_reducible apply State.leaveUnsigned_kept
    | with_reducible apply kept_foldl
    | split
    | dsimp only)

end Sys2Proof.Machine
end

