-- ==== Sys2Proof/Laws/KeptPowerOps.lean ====
section
/-!
SUPPORT. What the functions of Sys2Proof/Machine/PowerOps.lean keep, one lemma for each of them (Laws/Kept.lean says what).
-/

namespace Sys2Proof.Machine

set_option linter.unusedTactic false
set_option linter.unreachableTactic false
set_option linter.unusedVariables false

open Sys2Proof

variable {q : List Instr} {n : Floor}

theorem State.makeRsk_kept (s : State) (h : Kept q n s) :
    Kept q n (State.makeRsk s) := by
  unfold State.makeRsk
  repeat' (first
    | with_reducible assumption
    | with_reducible intro _
    | with_reducible apply kept_ite
    | with_reducible apply kept_ite_snd
    | with_reducible apply State.drawRandom_kept
    | with_reducible apply State.sealKey_kept
    | split
    | dsimp only)

theorem State.lifecycleRecord_kept (s : State) (old new origin : Nat) (h : Kept q n s) :
    Kept q n (State.lifecycleRecord s old new origin) := by
  unfold State.lifecycleRecord
  repeat' (first
    | with_reducible assumption
    | with_reducible intro _
    | with_reducible apply kept_ite
    | with_reducible apply State.postLog_kept
    | split
    | dsimp only)

theorem State.blowLifecycle_kept (s : State) (h : Kept q n s) :
    Kept q n (State.blowLifecycle s) := by
  unfold State.blowLifecycle
  repeat' (first
    | with_reducible assumption
    | with_reducible intro _
    | with_reducible apply kept_ite
    | with_reducible apply State.disarm_kept
    | with_reducible apply State.raiseNotify_kept
    | with_reducible apply State.endDebug_kept
    | with_reducible apply State.endSessions_kept
    | with_reducible apply State.makeRsk_kept
    | with_reducible apply State.lifecycleRecord_kept
    | with_reducible apply kept_fuses
    | split
    | dsimp only)

theorem State.enterState_kept (s : State) (new : PState) (reason : Nat) (h : Kept q n s) :
    Kept q n (State.enterState s new reason) := by
  unfold State.enterState
  repeat' (first
    | with_reducible assumption
    | with_reducible intro _
    | with_reducible apply kept_ite
    | with_reducible apply State.set_kept
    | with_reducible apply State.raiseNotify_kept
    | with_reducible apply State.raiseIrq_kept
    | split
    | dsimp only)

theorem State.unitsDown_kept (s : State) (h : Kept q n s) :
    Kept q n (State.unitsDown s) := by
  unfold State.unitsDown
  repeat' (first
    | with_reducible assumption
    | with_reducible intro _
    | with_reducible apply kept_ite
    | split
    | dsimp only)

theorem State.coreDown_kept (s : State) (h : Kept q n s) :
    Kept q n (State.coreDown s) := by
  unfold State.coreDown
  repeat' (first
    | with_reducible assumption
    | with_reducible intro _
    | with_reducible apply kept_ite
    | with_reducible apply State.set_kept
    | with_reducible apply State.discardWaiting_kept
    | with_reducible apply State.endDebug_kept
    | with_reducible apply State.endSessions_kept
    | with_reducible apply State.dropSigning_kept
    | with_reducible apply State.unitsDown_kept
    | split
    | dsimp only)

theorem State.drainLogs_kept (k : Nat) (s : State) (h : Kept q n s) : Kept q n (State.drainLogs k s) := by
  induction k generalizing s with
  | zero => exact h
  | succ k ih =>
    unfold State.drainLogs
    split
    · exact h
    · next e => exact ih _ (State.commitMsg_kept _ _ _ _ (State.nextLog_kept _ _ _ e h))

theorem State.closeRefLoss_kept (s : State) (h : Kept q n s) :
    Kept q n (State.closeRefLoss s) := by
  unfold State.closeRefLoss
  repeat' (first
    | with_reducible assumption
    | with_reducible intro _
    | with_reducible apply kept_ite
    | with_reducible apply State.log_kept
    | split
    | dsimp only)

theorem State.startDelays_kept (s : State) (h : Kept q n s) :
    Kept q n (State.startDelays s) := by
  unfold State.startDelays
  repeat' (first
    | with_reducible assumption
    | with_reducible intro _
    | with_reducible apply kept_ite
    | with_reducible apply State.set_kept
    | with_reducible apply State.arm_kept
    | with_reducible apply kept_foldl
    | split
    | dsimp only)

theorem State.forgetReadings_kept (s : State) (h : Kept q n s) :
    Kept q n (State.forgetReadings s) := by
  unfold State.forgetReadings
  repeat' (first
    | with_reducible assumption
    | with_reducible intro _
    | with_reducible apply kept_ite
    | with_reducible apply State.set_kept
    | with_reducible apply kept_foldl
    | split
    | dsimp only)

theorem State.beginStart_kept (s : State) (reason : Nat) (touch limited : Bool) (h : Kept q n s) :
    Kept q n (State.beginStart s reason touch limited) := by
  unfold State.beginStart
  repeat' (first
    | with_reducible assumption
    | with_reducible intro _
    | with_reducible apply kept_ite
    | with_reducible apply State.set_kept
    | with_reducible apply State.disarm_kept
    | with_reducible apply State.startDelays_kept
    | with_reducible apply State.forgetReadings_kept
    | with_reducible apply kept_foldl
    | split
    | dsimp only)

theorem State.wakeStart_kept (s : State) (reason : Nat) (touch : Bool) (h : Kept q n s) :
    Kept q n (State.wakeStart s reason touch) := by
  unfold State.wakeStart
  repeat' (first
    | with_reducible assumption
    | with_reducible intro _
    | with_reducible apply kept_ite
    | with_reducible apply State.beginStart_kept
    | split
    | dsimp only)

theorem State.endLockout_kept (s : State) (h : Kept q n s) :
    Kept q n (State.endLockout s) := by
  unfold State.endLockout
  repeat' (first
    | with_reducible assumption
    | with_reducible intro _
    | with_reducible apply kept_ite
    | with_reducible apply State.set_kept
    | split
    | dsimp only)

theorem State.driveRail_kept (s : State) (n' : Nat) (b : Bool) (h : Kept q n s) :
    Kept q n (State.driveRail s n' b) := by
  unfold State.driveRail
  repeat' (first
    | with_reducible assumption
    | with_reducible intro _
    | with_reducible apply kept_ite
    | split
    | dsimp only)

theorem State.releaseRail_kept (s : State) (n' : Nat) (h : Kept q n s) :
    Kept q n (State.releaseRail s n') := by
  unfold State.releaseRail
  repeat' (first
    | with_reducible assumption
    | with_reducible intro _
    | with_reducible apply kept_ite
    | with_reducible apply State.set_kept
    | with_reducible apply State.disarm_kept
    | with_reducible apply State.arm_kept
    | with_reducible apply State.endClear_kept
    | with_reducible apply State.noteRestricted_kept
    | with_reducible apply State.coreDown_kept
    | with_reducible apply State.drainLogs_kept
    | with_reducible apply State.closeRefLoss_kept
    | with_reducible apply State.driveRail_kept
    | split
    | dsimp only)

theorem State.releaseReady_kept (s : State) (h : Kept q n s) :
    Kept q n (State.releaseReady s) := by
  unfold State.releaseReady
  repeat' (first
    | with_reducible assumption
    | with_reducible intro _
    | with_reducible apply kept_ite
    | with_reducible apply State.releaseRail_kept
    | with_reducible apply kept_foldl
    | split
    | dsimp only)

theorem State.cancelEnables_kept (s : State) (h : Kept q n s) :
    Kept q n (State.cancelEnables s) := by
  unfold State.cancelEnables
  repeat' (first
    | with_reducible assumption
    | with_reducible intro _
    | with_reducible apply kept_ite
    | with_reducible apply State.set_kept
    | with_reducible apply State.disarm_kept
    | with_reducible apply kept_foldl
    | split
    | dsimp only)

theorem State.markShutdown_kept (s : State) (h : Kept q n s) :
    Kept q n (State.markShutdown s) := by
  unfold State.markShutdown
  repeat' (first
    | with_reducible assumption
    | with_reducible intro _
    | with_reducible apply kept_ite
    | with_reducible apply State.setCtl_kept
    | split
    | dsimp only)

theorem State.stepReleased_kept (s : State) (h : Kept q n s) :
    Kept q n (State.stepReleased s) := by
  unfold State.stepReleased
  repeat' (first
    | with_reducible assumption
    | with_reducible intro _
    | with_reducible apply kept_ite
    | with_reducible apply State.disarm_kept
    | with_reducible apply State.arm_kept
    | with_reducible apply kept_foldl
    | split
    | dsimp only)

theorem State.beginReleases_kept (s : State) (h : Kept q n s) :
    Kept q n (State.beginReleases s) := by
  unfold State.beginReleases
  repeat' (first
    | with_reducible assumption
    | with_reducible intro _
    | with_reducible apply kept_ite
    | with_reducible apply State.set_kept
    | with_reducible apply State.releaseReady_kept
    | with_reducible apply State.cancelEnables_kept
    | with_reducible apply State.stepReleased_kept
    | split
    | dsimp only)

theorem State.latchSlot_kept (s : State) (n' : Nat) (exhausted : Bool) (h : Kept q n s) :
    Kept q n (State.latchSlot s n' exhausted) := by
  unfold State.latchSlot
  repeat' (first
    | with_reducible assumption
    | with_reducible intro _
    | with_reducible apply kept_ite
    | with_reducible apply State.set_kept
    | with_reducible apply State.postLog_kept
    | with_reducible apply State.flag_kept
    | split
    | dsimp only)

theorem State.applyReaction_kept (s : State) (faults : List Nat) (h : Kept q n s) :
    Kept q n (State.applyReaction s faults) := by
  unfold State.applyReaction
  repeat' (first
    | with_reducible assumption
    | with_reducible intro _
    | with_reducible apply kept_ite
    | with_reducible apply State.set_kept
    | with_reducible apply State.arm_kept
    | with_reducible apply State.latchSlot_kept
    | split
    | dsimp only)

theorem State.enterDormant_kept (s : State) (reason : Nat) (h : Kept q n s) :
    Kept q n (State.enterDormant s reason) := by
  unfold State.enterDormant
  repeat' (first
    | with_reducible assumption
    | with_reducible intro _
    | with_reducible apply kept_ite
    | with_reducible apply State.arm_kept
    | with_reducible apply State.hardMute_kept
    | with_reducible apply State.paOff_kept
    | with_reducible apply State.depart_kept
    | with_reducible apply State.enterState_kept
    | with_reducible apply State.coreDown_kept
    | with_reducible apply State.closeRefLoss_kept
    | split
    | dsimp only)

theorem State.rstInDormant_kept (s : State) (h : Kept q n s) :
    Kept q n (State.rstInDormant s) := by
  unfold State.rstInDormant
  repeat' (first
    | with_reducible assumption
    | with_reducible intro _
    | with_reducible apply kept_ite
    | with_reducible apply State.wakeStart_kept
    | with_reducible apply State.endLockout_kept
    | split
    | dsimp only)

theorem State.actHeldRst_kept (s : State) (h : Kept q n s) :
    Kept q n (State.actHeldRst s) := by
  unfold State.actHeldRst
  repeat' (first
    | with_reducible assumption
    | with_reducible intro _
    | with_reducible apply kept_ite
    | with_reducible apply State.rstInDormant_kept
    | split
    | dsimp only)

theorem State.afterShutdown_kept (s : State) (d : Shutdown) (h : Kept q n s) :
    Kept q n (State.afterShutdown s d) := by
  unfold State.afterShutdown
  repeat' (first
    | with_reducible assumption
    | with_reducible intro _
    | with_reducible apply kept_ite
    | with_reducible apply State.set_kept
    | with_reducible apply State.arm_kept
    | with_reducible apply State.applyReaction_kept
    | split
    | dsimp only)

theorem State.completeShutdown_kept (s : State) (h : Kept q n s) :
    Kept q n (State.completeShutdown s) := by
  unfold State.completeShutdown
  repeat' (first
    | with_reducible assumption
    | with_reducible intro _
    | with_reducible apply kept_ite
    | with_reducible apply State.set_kept
    | with_reducible apply State.setCtl_kept
    | with_reducible apply State.enterDormant_kept
    | with_reducible apply State.actHeldRst_kept
    | with_reducible apply State.afterShutdown_kept
    | split
    | dsimp only)

theorem State.slotOff_kept (s : State) (n' : Nat) (h : Kept q n s) :
    Kept q n (State.slotOff s n') := by
  unfold State.slotOff
  repeat' (first
    | with_reducible assumption
    | with_reducible intro _
    | with_reducible apply kept_ite
    | with_reducible apply State.set_kept
    | with_reducible apply State.disarm_kept
    | with_reducible apply State.releaseReady_kept
    | with_reducible apply State.completeShutdown_kept
    | split
    | dsimp only)

theorem State.goDown_kept (s : State) (h : Kept q n s) :
    Kept q n (State.goDown s) := by
  unfold State.goDown
  repeat' (first
    | with_reducible assumption
    | with_reducible intro _
    | with_reducible apply kept_ite
    | with_reducible apply State.paOff_kept
    | with_reducible apply State.beginReleases_kept
    | with_reducible apply State.completeShutdown_kept
    | split
    | dsimp only)

theorem State.beginShutdown_kept (s : State) (cause : ShutCause) (reason : Nat) (restart : Bool) (leadUs : Nat) (faults : List Nat) (h : Kept q n s) :
    Kept q n (State.beginShutdown s cause reason restart leadUs faults) := by
  unfold State.beginShutdown
  repeat' (first
    | with_reducible assumption
    | with_reducible intro _
    | with_reducible apply kept_ite
    | with_reducible apply State.set_kept
    | with_reducible apply State.arm_kept
    | with_reducible apply State.hardMute_kept
    | with_reducible apply State.returnMargins_kept
    | with_reducible apply State.endDebug_kept
    | with_reducible apply State.preemptCommit_kept
    | with_reducible apply State.endWaiting_kept
    | with_reducible apply State.blowLifecycle_kept
    | with_reducible apply State.cancelEnables_kept
    | with_reducible apply State.markShutdown_kept
    | with_reducible apply State.goDown_kept
    | split
    | dsimp only)

theorem State.restart_kept (s : State) (reason : Nat) (h : Kept q n s) :
    Kept q n (State.restart s reason) := by
  unfold State.restart
  repeat' (first
    | with_reducible assumption
    | with_reducible intro _
    | with_reducible apply kept_ite
    | with_reducible apply State.depart_kept
    | with_reducible apply State.beginShutdown_kept
    | split
    | dsimp only)

theorem State.cutLead_kept (s : State) (h : Kept q n s) :
    Kept q n (State.cutLead s) := by
  unfold State.cutLead
  repeat' (first
    | with_reducible assumption
    | with_reducible intro _
    | with_reducible apply kept_ite
    | with_reducible apply State.disarm_kept
    | with_reducible apply State.faultRow_kept
    | split
    | dsimp only)

theorem State.commitAtHoldup_kept (s : State) (h : Kept q n s) :
    Kept q n (State.commitAtHoldup s) := by
  unfold State.commitAtHoldup
  repeat' (first
    | with_reducible assumption
    | with_reducible intro _
    | with_reducible apply kept_ite
    | with_reducible apply State.set_kept
    | with_reducible apply State.bump_kept
    | with_reducible apply State.notePreempted_kept
    | split
    | dsimp only)

theorem State.updateAtHoldup_kept (s : State) (h : Kept q n s) :
    Kept q n (State.updateAtHoldup s) := by
  unfold State.updateAtHoldup
  repeat' (first
    | with_reducible assumption
    | with_reducible intro _
    | with_reducible apply kept_ite
    | with_reducible apply State.set_kept
    | with_reducible apply State.faultRow_kept
    | split
    | dsimp only)

theorem State.portsAtHoldup_kept (s : State) (h : Kept q n s) :
    Kept q n (State.portsAtHoldup s) := by
  unfold State.portsAtHoldup
  repeat' (first
    | with_reducible assumption
    | with_reducible intro _
    | with_reducible apply kept_ite
    | split
    | dsimp only)

theorem State.fieldAtHoldup_kept (s : State) (h : Kept q n s) :
    Kept q n (State.fieldAtHoldup s) := by
  unfold State.fieldAtHoldup
  repeat' (first
    | with_reducible assumption
    | with_reducible intro _
    | with_reducible apply kept_ite
    | with_reducible apply State.disarm_kept
    | with_reducible apply State.lastHeartbeat_kept
    | with_reducible apply State.portStandby_kept
    | with_reducible apply State.noteRestricted_kept
    | with_reducible apply kept_foldl
    | split
    | dsimp only)

theorem State.enterHoldup_kept (s : State) (h : Kept q n s) :
    Kept q n (State.enterHoldup s) := by
  unfold State.enterHoldup
  repeat' (first
    | with_reducible assumption
    | with_reducible intro _
    | with_reducible apply kept_ite
    | with_reducible apply State.set_kept
    | with_reducible apply State.disarm_kept
    | with_reducible apply State.arm_kept
    | with_reducible apply State.hardMute_kept
    | with_reducible apply State.paOff_kept
    | with_reducible apply State.returnMargins_kept
    | with_reducible apply State.tiuOff_kept
    | with_reducible apply State.lidHoldup_kept
    | with_reducible apply State.writeBack_kept
    | with_reducible apply State.discardWaiting_kept
    | with_reducible apply State.endDebug_kept
    | with_reducible apply State.endSessions_kept
    | with_reducible apply State.depart_kept
    | with_reducible apply State.dropSigning_kept
    | with_reducible apply State.enterState_kept
    | with_reducible apply State.closeRefLoss_kept
    | with_reducible apply State.cancelEnables_kept
    | with_reducible apply State.markShutdown_kept
    | with_reducible apply State.cutLead_kept
    | with_reducible apply State.commitAtHoldup_kept
    | with_reducible apply State.updateAtHoldup_kept
    | with_reducible apply State.portsAtHoldup_kept
    | with_reducible apply State.fieldAtHoldup_kept
    | split
    | dsimp only)

theorem State.toInt48_kept (s : State) (h : Kept q n s) :
    Kept q n (State.toInt48 s) := by
  unfold State.toInt48
  repeat' (first
    | with_reducible assumption
    | with_reducible intro _
    | with_reducible apply kept_ite
    | with_reducible apply State.set_kept
    | with_reducible apply State.disarm_kept
    | with_reducible apply State.stopSeq_kept
    | with_reducible apply State.enterRestricted_kept
    | with_reducible apply kept_foldl
    | split
    | dsimp only)

theorem State.beginRelock_kept (s : State) (target : Nat) (h : Kept q n s) :
    Kept q n (State.beginRelock s target) := by
  unfold State.beginRelock
  repeat' (first
    | with_reducible assumption
    | with_reducible intro _
    | with_reducible apply kept_ite
    | with_reducible apply State.set_kept
    | with_reducible apply State.arm_kept
    | with_reducible apply State.toInt48_kept
    | split
    | dsimp only)

theorem State.endRelock_kept (s : State) (h : Kept q n s) :
    Kept q n (State.endRelock s) := by
  unfold State.endRelock
  repeat' (first
    | with_reducible assumption
    | with_reducible intro _
    | with_reducible apply kept_ite
    | with_reducible apply State.disarm_kept
    | split
    | dsimp only)

theorem State.endServiceSessions_kept (s : State) (h : Kept q n s) :
    Kept q n (State.endServiceSessions s) := by
  unfold State.endServiceSessions
  repeat' (first
    | with_reducible assumption
    | with_reducible intro _
    | with_reducible apply kept_ite
    | with_reducible apply State.endSession_kept
    | with_reducible apply kept_foldl
    | split
    | dsimp only)

theorem State.fallToStandby_kept (s : State) (reason : Nat) (h : Kept q n s) :
    Kept q n (State.fallToStandby s reason) := by
  unfold State.fallToStandby
  repeat' (first
    | with_reducible assumption
    | with_reducible intro _
    | with_reducible apply kept_ite
    | with_reducible apply State.disarm_kept
    | with_reducible apply State.hardMute_kept
    | with_reducible apply State.preemptCommit_kept
    | with_reducible apply State.endWaiting_kept
    | with_reducible apply State.enterState_kept
    | with_reducible apply State.beginRelock_kept
    | with_reducible apply State.endServiceSessions_kept
    | split
    | dsimp only)

end Sys2Proof.Machine
end

