-- ==== Sys2Proof/Laws/KeptPowerReq.lean ====
section
/-!
SUPPORT. What the functions of Sys2Proof/Machine/PowerReq.lean keep, one lemma for each of them (Laws/Kept.lean says what).
-/

namespace Sys2Proof.Machine

set_option linter.unusedTactic false
set_option linter.unreachableTactic false
set_option linter.unusedVariables false

open Sys2Proof

variable {q : List Instr} {n : Floor}

theorem State.hostFlag_kept (s : State) (bit : Nat) (h : Kept q n s) :
    Kept q n (State.hostFlag s bit) := by
  unfold State.hostFlag
  repeat' (first
    | with_reducible assumption
    | with_reducible intro _
    | with_reducible apply kept_ite
    | with_reducible apply State.flag_kept
    | split
    | dsimp only)

theorem State.towardsActive_kept (s : State) (reason : Nat) (h : Kept q n s) :
    Kept q n (State.towardsActive s reason) := by
  unfold State.towardsActive
  repeat' (first
    | with_reducible assumption
    | with_reducible intro _
    | with_reducible apply kept_ite
    | with_reducible apply State.endWaiting_kept
    | with_reducible apply State.enterState_kept
    | with_reducible apply State.beginRelock_kept
    | split
    | dsimp only)

theorem State.towardsService_kept (s : State) (reason : Nat) (touch : Bool) (h : Kept q n s) :
    Kept q n (State.towardsService s reason touch) := by
  unfold State.towardsService
  repeat' (first
    | with_reducible assumption
    | with_reducible intro _
    | with_reducible apply kept_ite
    | with_reducible apply State.arm_kept
    | with_reducible apply State.hardMute_kept
    | with_reducible apply State.endWaiting_kept
    | with_reducible apply State.enterState_kept
    | split
    | dsimp only)

theorem State.leaveService_kept (s : State) (h : Kept q n s) :
    Kept q n (State.leaveService s) := by
  unfold State.leaveService
  repeat' (first
    | with_reducible assumption
    | with_reducible intro _
    | with_reducible apply kept_ite
    | with_reducible apply State.disarm_kept
    | with_reducible apply State.endServiceSessions_kept
    | split
    | dsimp only)

theorem State.doPower_kept (s : State) (v : Nat) (h : Kept q n s) :
    Kept q n (State.doPower s v) := by
  unfold State.doPower
  repeat' (first
    | with_reducible assumption
    | with_reducible intro _
    | with_reducible apply kept_ite
    | with_reducible apply State.set_kept
    | with_reducible apply State.beginShutdown_kept
    | with_reducible apply State.restart_kept
    | with_reducible apply State.fallToStandby_kept
    | with_reducible apply State.towardsActive_kept
    | with_reducible apply State.towardsService_kept
    | with_reducible apply State.leaveService_kept
    | split
    | dsimp only)

theorem State.deferPower_kept (s : State) (c : Caller) (req : Bytes) (h : Kept q n s) :
    Kept q n (State.deferPower s c req) := by
  unfold State.deferPower
  repeat' (first
    | with_reducible assumption
    | with_reducible intro _
    | with_reducible apply kept_ite
    | with_reducible apply State.abort_kept
    | split
    | dsimp only)

theorem State.powerRequest_kept (s : State) (c : Caller) (req : Bytes) (v : Nat) (h : Kept q n s) :
    Kept q n (State.powerRequest s c req v) := by
  unfold State.powerRequest
  repeat' (first
    | with_reducible assumption
    | with_reducible intro _
    | with_reducible apply kept_ite
    | with_reducible apply State.abort_kept
    | with_reducible apply State.done_kept
    | with_reducible apply State.doPower_kept
    | with_reducible apply State.deferPower_kept
    | split
    | dsimp only)

theorem State.serviceOver_kept (s : State) (h : Kept q n s) :
    Kept q n (State.serviceOver s) := by
  unfold State.serviceOver
  repeat' (first
    | with_reducible assumption
    | with_reducible intro _
    | with_reducible apply kept_ite
    | with_reducible apply State.beginShutdown_kept
    | with_reducible apply State.fallToStandby_kept
    | with_reducible apply State.towardsActive_kept
    | with_reducible apply State.leaveService_kept
    | split
    | dsimp only)

theorem State.releaseCore_kept (s : State) (h : Kept q n s) :
    Kept q n (State.releaseCore s) := by
  unfold State.releaseCore
  repeat' (first
    | with_reducible assumption
    | with_reducible intro _
    | with_reducible apply kept_ite
    | with_reducible apply State.set_kept
    | split
    | dsimp only)

theorem State.afterStandby_kept (s : State) (touch limited : Bool) (h : Kept q n s) :
    Kept q n (State.afterStandby s touch limited) := by
  unfold State.afterStandby
  repeat' (first
    | with_reducible assumption
    | with_reducible intro _
    | with_reducible apply kept_ite
    | with_reducible apply State.towardsActive_kept
    | with_reducible apply State.towardsService_kept
    | split
    | dsimp only)

theorem State.claimAddress_kept (s : State) (h : Kept q n s) :
    Kept q n (State.claimAddress s) := by
  unfold State.claimAddress
  repeat' (first
    | with_reducible assumption
    | with_reducible intro _
    | with_reducible apply kept_ite
    | split
    | dsimp only)

theorem State.trellisComplete_kept (s : State) (h : Kept q n s) :
    Kept q n (State.trellisComplete s) := by
  unfold State.trellisComplete
  repeat' (first
    | with_reducible assumption
    | with_reducible intro _
    | with_reducible apply kept_ite
    | with_reducible apply State.set_kept
    | with_reducible apply State.arm_kept
    | with_reducible apply State.joinPort_kept
    | with_reducible apply State.onStandby_kept
    | with_reducible apply State.enterState_kept
    | with_reducible apply State.afterStandby_kept
    | with_reducible apply State.claimAddress_kept
    | split
    | dsimp only)

end Sys2Proof.Machine
end

