-- ==== Sys2Proof/Laws/KeptNetOps.lean ====
section
/-!
SUPPORT. What the functions of Sys2Proof/Machine/NetOps.lean keep, one lemma for each of them (Laws/Kept.lean says what).
-/

namespace Sys2Proof.Machine

set_option linter.unusedTactic false
set_option linter.unreachableTactic false
set_option linter.unusedVariables false

open Sys2Proof

variable {q : List Instr} {n : Floor}

theorem State.storeReceipt_kept (s : State) (seq : Nat) (body sig : Bytes) (h : Kept q n s) :
    Kept q n (State.storeReceipt s seq body sig) := by
  unfold State.storeReceipt
  repeat' (first
    | with_reducible assumption
    | with_reducible intro _
    | with_reducible apply kept_ite
    | with_reducible apply State.set_kept
    | split
    | dsimp only)

theorem State.commitShutdownRecord_kept (s : State) (payload : Bytes) (h : Kept q n s) :
    Kept q n (State.commitShutdownRecord s payload).2 := by
  unfold State.commitShutdownRecord
  repeat' (first
    | with_reducible assumption
    | with_reducible intro _
    | with_reducible apply kept_ite
    | with_reducible apply kept_ite_snd
    | with_reducible apply State.postLog_kept
    | with_reducible apply State.drainLogs_kept
    | split
    | dsimp only)

theorem State.askSignature_kept (s : State) (seq : Nat) (h : Kept q n s) :
    Kept q n (State.askSignature s seq) := by
  unfold State.askSignature
  repeat' (first
    | with_reducible assumption
    | with_reducible intro _
    | with_reducible apply kept_ite
    | with_reducible apply State.arm_kept
    | with_reducible apply State.leaveUnsigned_kept
    | split
    | dsimp only)

theorem State.latchLockout_kept (s : State) (h : Kept q n s) :
    Kept q n (State.latchLockout s) := by
  unfold State.latchLockout
  repeat' (first
    | with_reducible assumption
    | with_reducible intro _
    | with_reducible apply kept_ite
    | with_reducible apply State.set_kept
    | with_reducible apply State.disarm_kept
    | with_reducible apply State.postLog_kept
    | with_reducible apply State.flag_kept
    | split
    | dsimp only)

theorem State.timedLockout_kept (s : State) (h : Kept q n s) :
    Kept q n (State.timedLockout s) := by
  unfold State.timedLockout
  repeat' (first
    | with_reducible assumption
    | with_reducible intro _
    | with_reducible apply kept_ite
    | with_reducible apply State.set_kept
    | with_reducible apply State.arm_kept
    | with_reducible apply State.latchLockout_kept
    | split
    | dsimp only)

theorem State.beginLockout_kept (s : State) (code : Nat) (h : Kept q n s) :
    Kept q n (State.beginLockout s code) := by
  unfold State.beginLockout
  repeat' (first
    | with_reducible assumption
    | with_reducible intro _
    | with_reducible apply kept_ite
    | with_reducible apply State.latchLockout_kept
    | with_reducible apply State.timedLockout_kept
    | split
    | dsimp only)

theorem State.shutLanes_kept (s : State) (h : Kept q n s) :
    Kept q n (State.shutLanes s) := by
  unfold State.shutLanes
  repeat' (first
    | with_reducible assumption
    | with_reducible intro _
    | with_reducible apply kept_ite
    | with_reducible apply State.retargetBias_kept
    | with_reducible apply State.stopLanes_kept
    | with_reducible apply State.cancelHint_kept
    | split
    | dsimp only)

theorem State.shutPower_kept (s : State) (code : Nat) (h : Kept q n s) :
    Kept q n (State.shutPower s code) := by
  unfold State.shutPower
  repeat' (first
    | with_reducible assumption
    | with_reducible intro _
    | with_reducible apply kept_ite
    | with_reducible apply State.preemptCommit_kept
    | with_reducible apply State.beginRelock_kept
    | with_reducible apply State.fallToStandby_kept
    | split
    | dsimp only)

theorem State.shutNetwork_kept (s : State) (code : Nat) (paths : List Nat) (h : Kept q n s) :
    Kept q n (State.shutNetwork s code paths) := by
  unfold State.shutNetwork
  repeat' (first
    | with_reducible assumption
    | with_reducible intro _
    | with_reducible apply kept_ite
    | with_reducible apply kept_ite_snd
    | with_reducible apply State.set_kept
    | with_reducible apply State.bump_kept
    | with_reducible apply State.raiseNotify_kept
    | with_reducible apply State.raiseIrq_kept
    | with_reducible apply State.flag_kept
    | with_reducible apply State.faultRow_kept
    | with_reducible apply State.moveGains_kept
    | with_reducible apply State.hardMute_kept
    | with_reducible apply State.storeReceipt_kept
    | with_reducible apply State.commitShutdownRecord_kept
    | with_reducible apply State.askSignature_kept
    | with_reducible apply State.beginLockout_kept
    | with_reducible apply State.shutLanes_kept
    | with_reducible apply State.shutPower_kept
    | split
    | dsimp only)

theorem State.netTrigger_kept (s : State) (code : Nat) (paths : List Nat) (h : Kept q n s) :
    Kept q n (State.netTrigger s code paths) := by
  unfold State.netTrigger
  repeat' (first
    | with_reducible assumption
    | with_reducible intro _
    | with_reducible apply kept_ite
    | with_reducible apply State.faultRow_kept
    | with_reducible apply State.shutNetwork_kept
    | split
    | dsimp only)

theorem State.signReceipt_kept (s : State) (seq : Nat) (late : Bool) (h : Kept q n s) :
    Kept q n (State.signReceipt s seq late) := by
  unfold State.signReceipt
  repeat' (first
    | with_reducible assumption
    | with_reducible intro _
    | with_reducible apply kept_ite
    | with_reducible apply kept_ite_snd
    | with_reducible apply State.drawRandom_kept
    | with_reducible apply State.storeReceipt_kept
    | split
    | dsimp only)

theorem State.signLate_kept (s : State) (h : Kept q n s) :
    Kept q n (State.signLate s) := by
  unfold State.signLate
  repeat' (first
    | with_reducible assumption
    | with_reducible intro _
    | with_reducible apply kept_ite
    | with_reducible apply State.signReceipt_kept
    | with_reducible apply kept_foldl
    | split
    | dsimp only)

theorem State.endTimedLockout_kept (s : State) (h : Kept q n s) :
    Kept q n (State.endTimedLockout s) := by
  unfold State.endTimedLockout
  repeat' (first
    | with_reducible assumption
    | with_reducible intro _
    | with_reducible apply kept_ite
    | with_reducible apply State.set_kept
    | with_reducible apply State.towardsActive_kept
    | split
    | dsimp only)

end Sys2Proof.Machine
end

