-- ==== Sys2Proof/Laws/KeptLoopOps.lean ====
section
/-!
SUPPORT. What the functions of Sys2Proof/Machine/LoopOps.lean keep, one lemma for each of them (Laws/Kept.lean says what).
-/

namespace Sys2Proof.Machine

set_option linter.unusedTactic false
set_option linter.unreachableTactic false
set_option linter.unusedVariables false

open Sys2Proof

variable {q : List Instr} {n : Floor}

theorem State.noteFrame_kept (s : State) (p : Nat) (m : PathMeas) (bits : Nat) (h : Kept q n s) :
    Kept q n (State.noteFrame s p m bits) := by
  unfold State.noteFrame
  repeat' (first
    | with_reducible assumption
    | with_reducible intro _
    | with_reducible apply kept_ite
    | with_reducible apply State.set_kept
    | with_reducible apply State.setPath_kept
    | split
    | dsimp only)

theorem State.missFrame_kept (s : State) (p : Nat) (m : PathMeas) (bits : Nat) (h : Kept q n s) :
    Kept q n (State.missFrame s p m bits) := by
  unfold State.missFrame
  repeat' (first
    | with_reducible assumption
    | with_reducible intro _
    | with_reducible apply kept_ite
    | with_reducible apply State.set_kept
    | with_reducible apply State.log_kept
    | with_reducible apply State.flagFirst_kept
    | with_reducible apply State.setPath_kept
    | split
    | dsimp only)

theorem State.framePath_kept (s : State) (p : Nat) (m : PathMeas) (h : Kept q n s) :
    Kept q n (State.framePath s p m) := by
  unfold State.framePath
  repeat' (first
    | with_reducible assumption
    | with_reducible intro _
    | with_reducible apply kept_ite
    | with_reducible apply State.fabEvent_kept
    | with_reducible apply State.noteFrame_kept
    | with_reducible apply State.missFrame_kept
    | split
    | dsimp only)

theorem State.lowerPoint_kept (s : State) (p i : Nat) (old new : Nat) (h : Kept q n s) :
    Kept q n (State.lowerPoint s p i old new) := by
  unfold State.lowerPoint
  repeat' (first
    | with_reducible assumption
    | with_reducible intro _
    | with_reducible apply kept_ite
    | with_reducible apply State.set_kept
    | with_reducible apply State.faultRow_kept
    | split
    | dsimp only)

theorem State.learn_kept (s : State) (p : Nat) (m : PathMeas) (h : Kept q n s) :
    Kept q n (State.learn s p m) := by
  unfold State.learn
  repeat' (first
    | with_reducible assumption
    | with_reducible intro _
    | with_reducible apply kept_ite
    | with_reducible apply State.lowerPoint_kept
    | split
    | dsimp only)

theorem State.ageGated_kept (s : State) (p : Nat) (h : Kept q n s) :
    Kept q n (State.ageGated s p) := by
  unfold State.ageGated
  repeat' (first
    | with_reducible assumption
    | with_reducible intro _
    | with_reducible apply kept_ite
    | with_reducible apply State.setI_kept
    | split
    | dsimp only)

theorem State.noteWater_kept (s : State) (h : Kept q n s) :
    Kept q n (State.noteWater s) := by
  unfold State.noteWater
  repeat' (first
    | with_reducible assumption
    | with_reducible intro _
    | with_reducible apply kept_ite
    | with_reducible apply State.faultRow_kept
    | split
    | dsimp only)

theorem State.toBoundary_kept (s : State) (d : Dir) (h : Kept q n s) :
    Kept q n (State.toBoundary s d) := by
  unfold State.toBoundary
  repeat' (first
    | with_reducible assumption
    | with_reducible intro _
    | with_reducible apply kept_ite
    | with_reducible apply State.elapse_kept
    | split
    | dsimp only)

theorem State.stepOverrun_kept (s : State) (h : Kept q n s) :
    Kept q n (State.stepOverrun s) := by
  unfold State.stepOverrun
  repeat' (first
    | with_reducible assumption
    | with_reducible intro _
    | with_reducible apply kept_ite
    | split
    | dsimp only)

theorem State.beginProbes_kept (s : State) (h : Kept q n s) :
    Kept q n (State.beginProbes s) := by
  unfold State.beginProbes
  repeat' (first
    | with_reducible assumption
    | with_reducible intro _
    | with_reducible apply kept_ite
    | with_reducible apply State.startProbes_kept
    | split
    | dsimp only)

theorem State.settleGains_kept (s : State) (h : Kept q n s) :
    Kept q n (State.settleGains s) := by
  unfold State.settleGains
  repeat' (first
    | with_reducible assumption
    | with_reducible intro _
    | with_reducible apply kept_ite
    | with_reducible apply State.rebalance_kept
    | with_reducible apply State.tryFinish_kept
    | with_reducible apply State.advanceCommit_kept
    | split
    | dsimp only)

theorem State.loopFrame_kept (s : State) (d : Dir) (meas : List PathMeas) (h : Kept q n s) :
    Kept q n (State.loopFrame s d meas) := by
  unfold State.loopFrame
  repeat' (first
    | with_reducible assumption
    | with_reducible intro _
    | with_reducible apply kept_ite
    | with_reducible apply State.moveGains_kept
    | with_reducible apply State.setHeld_kept
    | with_reducible apply State.boundaryCommit_kept
    | with_reducible apply State.netTrigger_kept
    | with_reducible apply State.framePath_kept
    | with_reducible apply State.learn_kept
    | with_reducible apply State.ageGated_kept
    | with_reducible apply State.noteWater_kept
    | with_reducible apply State.toBoundary_kept
    | with_reducible apply State.stepOverrun_kept
    | with_reducible apply State.beginProbes_kept
    | with_reducible apply State.settleGains_kept
    | with_reducible apply kept_foldl
    | split
    | dsimp only)

theorem State.takeoverDone_kept (s : State) (h : Kept q n s) :
    Kept q n (State.takeoverDone s) := by
  unfold State.takeoverDone
  repeat' (first
    | with_reducible assumption
    | with_reducible intro _
    | with_reducible apply kept_ite
    | with_reducible apply State.set_kept
    | with_reducible apply State.faultRow_kept
    | split
    | dsimp only)

theorem State.rackStale_kept (s : State) (h : Kept q n s) :
    Kept q n (State.rackStale s) := by
  unfold State.rackStale
  repeat' (first
    | with_reducible assumption
    | with_reducible intro _
    | with_reducible apply kept_ite
    | with_reducible apply State.log_kept
    | with_reducible apply State.flagFirst_kept
    | split
    | dsimp only)

theorem State.seedPath_kept (s : State) (p : Nat) (h : Kept q n s) :
    Kept q n (State.seedPath s p) := by
  unfold State.seedPath
  repeat' (first
    | with_reducible assumption
    | with_reducible intro _
    | with_reducible apply kept_ite
    | with_reducible apply State.setPath_kept
    | split
    | dsimp only)

theorem State.dropRacked_kept (s : State) (p : Nat) (h : Kept q n s) :
    Kept q n (State.dropRacked s p) := by
  unfold State.dropRacked
  repeat' (first
    | with_reducible assumption
    | with_reducible intro _
    | with_reducible apply kept_ite
    | with_reducible apply State.setPath_kept
    | split
    | dsimp only)

theorem State.returnRacked_kept (s : State) (p : Nat) (applied : Int) (h : Kept q n s) :
    Kept q n (State.returnRacked s p applied) := by
  unfold State.returnRacked
  repeat' (first
    | with_reducible assumption
    | with_reducible intro _
    | with_reducible apply kept_ite
    | with_reducible apply State.unmute_kept
    | split
    | dsimp only)

theorem State.returnBand_kept (s : State) (p q' : Nat) (h : Kept q n s) :
    Kept q n (State.returnBand s p q') := by
  unfold State.returnBand
  repeat' (first
    | with_reducible assumption
    | with_reducible intro _
    | with_reducible apply kept_ite
    | with_reducible apply State.rebalance_kept
    | with_reducible apply State.unmute_kept
    | with_reducible apply State.takeoverDone_kept
    | with_reducible apply State.seedPath_kept
    | with_reducible apply State.dropRacked_kept
    | with_reducible apply State.returnRacked_kept
    | split
    | dsimp only)

theorem State.noteDisagreed_kept (s : State) (p q' : Nat) (h : Kept q n s) :
    Kept q n (State.noteDisagreed s p q') := by
  unfold State.noteDisagreed
  repeat' (first
    | with_reducible assumption
    | with_reducible intro _
    | with_reducible apply kept_ite
    | with_reducible apply State.faultRow_kept
    | with_reducible apply State.rackStale_kept
    | split
    | dsimp only)

theorem State.failProbe_kept (s : State) (p q' : Nat) (h : Kept q n s) :
    Kept q n (State.failProbe s p q') := by
  unfold State.failProbe
  repeat' (first
    | with_reducible assumption
    | with_reducible intro _
    | with_reducible apply kept_ite
    | with_reducible apply State.set_kept
    | with_reducible apply State.faultRow_kept
    | with_reducible apply State.waitProbe_kept
    | with_reducible apply State.dropRacked_kept
    | split
    | dsimp only)

theorem State.burstAfterProbes_kept (s : State) (h : Kept q n s) :
    Kept q n (State.burstAfterProbes s) := by
  unfold State.burstAfterProbes
  repeat' (first
    | with_reducible assumption
    | with_reducible intro _
    | with_reducible apply kept_ite
    | with_reducible apply State.scheduleBurst_kept
    | split
    | dsimp only)

theorem State.passProbe_kept (s : State) (p q' : Nat) (h : Kept q n s) :
    Kept q n (State.passProbe s p q') := by
  unfold State.passProbe
  repeat' (first
    | with_reducible assumption
    | with_reducible intro _
    | with_reducible apply kept_ite
    | with_reducible apply State.set_kept
    | with_reducible apply State.returnBand_kept
    | split
    | dsimp only)

theorem State.probeEnd_kept (s : State) (p q' : Nat) (own partner : PathMeas) (h : Kept q n s) :
    Kept q n (State.probeEnd s p q' own partner) := by
  unfold State.probeEnd
  repeat' (first
    | with_reducible assumption
    | with_reducible intro _
    | with_reducible apply kept_ite
    | with_reducible apply State.disarm_kept
    | with_reducible apply State.fabEvent_kept
    | with_reducible apply State.noteProbe_kept
    | with_reducible apply State.settleGains_kept
    | with_reducible apply State.noteDisagreed_kept
    | with_reducible apply State.failProbe_kept
    | with_reducible apply State.burstAfterProbes_kept
    | with_reducible apply State.passProbe_kept
    | split
    | dsimp only)

theorem State.demote_kept (s : State) (h : Kept q n s) :
    Kept q n (State.demote s) := by
  unfold State.demote
  repeat' (first
    | with_reducible assumption
    | with_reducible intro _
    | with_reducible apply kept_ite
    | with_reducible apply State.depart_kept
    | with_reducible apply State.fallToStandby_kept
    | split
    | dsimp only)

theorem State.demoteIfDue_kept (s : State) (h : Kept q n s) :
    Kept q n (State.demoteIfDue s) := by
  unfold State.demoteIfDue
  repeat' (first
    | with_reducible assumption
    | with_reducible intro _
    | with_reducible apply kept_ite
    | with_reducible apply State.demote_kept
    | split
    | dsimp only)

end Sys2Proof.Machine
end

