-- ==== Sys2Proof/Laws/KeptPmbus.lean ====
section
/-!
SUPPORT. What the functions of Sys2Proof/Machine/Pmbus.lean keep, one lemma for each of them (Laws/Kept.lean says what).
-/

namespace Sys2Proof.Machine

set_option linter.unusedTactic false
set_option linter.unreachableTactic false
set_option linter.unusedVariables false

open Sys2Proof

variable {q : List Instr} {n : Floor}

theorem State.setTelemetry_kept (s : State) (n' off v : Nat) (h : Kept q n s) :
    Kept q n (State.setTelemetry s n' off v) := by
  unfold State.setTelemetry
  repeat' (first
    | with_reducible assumption
    | with_reducible intro _
    | with_reducible apply kept_ite
    | with_reducible apply State.set_kept
    | split
    | dsimp only)

theorem State.laneReleased_kept (s : State) (n' : Nat) (h : Kept q n s) :
    Kept q n (State.laneReleased s n') := by
  unfold State.laneReleased
  repeat' (first
    | with_reducible assumption
    | with_reducible intro _
    | with_reducible apply kept_ite
    | with_reducible apply State.set_kept
    | split
    | dsimp only)

theorem State.regulatorFault_kept (s : State) (n' : Nat) (h : Kept q n s) :
    Kept q n (State.regulatorFault s n') := by
  unfold State.regulatorFault
  repeat' (first
    | with_reducible assumption
    | with_reducible intro _
    | with_reducible apply kept_ite
    | with_reducible apply State.disarm_kept
    | with_reducible apply State.arm_kept
    | with_reducible apply State.flag_kept
    | with_reducible apply State.setLane_kept
    | with_reducible apply State.sendPmb_kept
    | with_reducible apply State.stopLane_kept
    | split
    | dsimp only)

theorem State.regulatorSnapshot_kept (s : State) (n' iout : Nat) (h : Kept q n s) :
    Kept q n (State.regulatorSnapshot s n' iout) := by
  unfold State.regulatorSnapshot
  repeat' (first
    | with_reducible assumption
    | with_reducible intro _
    | with_reducible apply kept_ite
    | with_reducible apply State.postLog_kept
    | with_reducible apply State.setLane_kept
    | split
    | dsimp only)

theorem State.checkStart_kept (s : State) (n' : Nat) (h : Kept q n s) :
    Kept q n (State.checkStart s n') := by
  unfold State.checkStart
  repeat' (first
    | with_reducible assumption
    | with_reducible intro _
    | with_reducible apply kept_ite
    | with_reducible apply State.set_kept
    | with_reducible apply State.disarm_kept
    | with_reducible apply State.arm_kept
    | with_reducible apply State.setLane_kept
    | with_reducible apply State.setBias_kept
    | split
    | dsimp only)

theorem State.measurePower_kept (s : State) (h : Kept q n s) :
    Kept q n (State.measurePower s) := by
  unfold State.measurePower
  repeat' (first
    | with_reducible assumption
    | with_reducible intro _
    | with_reducible apply kept_ite
    | with_reducible apply State.set_kept
    | with_reducible apply State.disarm_kept
    | with_reducible apply State.arm_kept
    | with_reducible apply kept_foldl
    | split
    | dsimp only)

theorem State.noteK_kept (s : State) (n' k dt : Nat) (h : Kept q n s) :
    Kept q n (State.noteK s n' k dt) := by
  unfold State.noteK
  repeat' (first
    | with_reducible assumption
    | with_reducible intro _
    | with_reducible apply kept_ite
    | with_reducible apply State.set_kept
    | with_reducible apply State.setLane_kept
    | split
    | dsimp only)

theorem State.notePout_kept (s : State) (n' pout : Nat) (h : Kept q n s) :
    Kept q n (State.notePout s n' pout) := by
  unfold State.notePout
  repeat' (first
    | with_reducible assumption
    | with_reducible intro _
    | with_reducible apply kept_ite
    | with_reducible apply State.disarm_kept
    | with_reducible apply State.measurePower_kept
    | with_reducible apply State.noteK_kept
    | split
    | dsimp only)

theorem State.poutRead_kept (s : State) (n' data : Nat) (h : Kept q n s) :
    Kept q n (State.poutRead s n' data) := by
  unfold State.poutRead
  repeat' (first
    | with_reducible assumption
    | with_reducible intro _
    | with_reducible apply kept_ite
    | with_reducible apply State.setTelemetry_kept
    | with_reducible apply State.notePout_kept
    | split
    | dsimp only)

theorem State.statusRead_kept (s : State) (n' data : Nat) (h : Kept q n s) :
    Kept q n (State.statusRead s n' data) := by
  unfold State.statusRead
  repeat' (first
    | with_reducible assumption
    | with_reducible intro _
    | with_reducible apply kept_ite
    | with_reducible apply State.setLane_kept
    | with_reducible apply State.settleGains_kept
    | with_reducible apply State.setTelemetry_kept
    | with_reducible apply State.regulatorFault_kept
    | with_reducible apply State.checkStart_kept
    | split
    | dsimp only)

theorem State.voutRead_kept (s : State) (n' data : Nat) (h : Kept q n s) :
    Kept q n (State.voutRead s n' data) := by
  unfold State.voutRead
  repeat' (first
    | with_reducible assumption
    | with_reducible intro _
    | with_reducible apply kept_ite
    | with_reducible apply State.setLane_kept
    | with_reducible apply State.setTelemetry_kept
    | with_reducible apply State.checkStart_kept
    | split
    | dsimp only)

theorem State.operationDone_kept (s : State) (n' : Nat) (h : Kept q n s) :
    Kept q n (State.operationDone s n') := by
  unfold State.operationDone
  repeat' (first
    | with_reducible assumption
    | with_reducible intro _
    | with_reducible apply kept_ite
    | with_reducible apply State.set_kept
    | with_reducible apply State.arm_kept
    | split
    | dsimp only)

theorem State.pmbAnswers_kept (s : State) (n' : Nat) (h : Kept q n s) :
    Kept q n (State.pmbAnswers s n') := by
  unfold State.pmbAnswers
  repeat' (first
    | with_reducible assumption
    | with_reducible intro _
    | with_reducible apply kept_ite
    | with_reducible apply State.setLane_kept
    | with_reducible apply State.laneReleased_kept
    | split
    | dsimp only)

theorem State.laneData_kept (s : State) (n' code data : Nat) (h : Kept q n s) :
    Kept q n (State.laneData s n' code data) := by
  unfold State.laneData
  repeat' (first
    | with_reducible assumption
    | with_reducible intro _
    | with_reducible apply kept_ite
    | with_reducible apply State.setLane_kept
    | with_reducible apply State.setTelemetry_kept
    | with_reducible apply State.regulatorSnapshot_kept
    | with_reducible apply State.poutRead_kept
    | with_reducible apply State.statusRead_kept
    | with_reducible apply State.voutRead_kept
    | with_reducible apply State.operationDone_kept
    | with_reducible apply State.pmbAnswers_kept
    | split
    | dsimp only)

theorem State.laneFail_kept (s : State) (n' code cause : Nat) (h : Kept q n s) :
    Kept q n (State.laneFail s n' code cause) := by
  unfold State.laneFail
  repeat' (first
    | with_reducible assumption
    | with_reducible intro _
    | with_reducible apply kept_ite
    | with_reducible apply State.bump_kept
    | with_reducible apply State.arm_kept
    | with_reducible apply State.faultRow_kept
    | with_reducible apply State.setLane_kept
    | with_reducible apply State.regulatorSnapshot_kept
    | with_reducible apply State.operationDone_kept
    | split
    | dsimp only)

theorem State.laneTx_kept (s : State) (t : PmbTx) (result : PmbEnd) (h : Kept q n s) :
    Kept q n (State.laneTx s t result) := by
  unfold State.laneTx
  repeat' (first
    | with_reducible assumption
    | with_reducible intro _
    | with_reducible apply kept_ite
    | with_reducible apply State.laneData_kept
    | with_reducible apply State.laneFail_kept
    | split
    | dsimp only)

theorem State.marginFail_kept (s : State) (r : MarginRun) (cause : Nat) (h : Kept q n s) :
    Kept q n (State.marginFail s r cause) := by
  unfold State.marginFail
  repeat' (first
    | with_reducible assumption
    | with_reducible intro _
    | with_reducible apply kept_ite
    | with_reducible apply State.set_kept
    | with_reducible apply State.bump_kept
    | with_reducible apply State.faultRow_kept
    | split
    | dsimp only)

theorem State.marginTx_kept (s : State) (r : MarginRun) (result : PmbEnd) (h : Kept q n s) :
    Kept q n (State.marginTx s r result) := by
  unfold State.marginTx
  repeat' (first
    | with_reducible assumption
    | with_reducible intro _
    | with_reducible apply kept_ite
    | with_reducible apply State.marginFail_kept
    | split
    | dsimp only)

theorem execPmbusTransactionDone_kept (agent : PmbAgent) (code : Byte) (outcome : PmbEnd) (s : State) (h : Kept q n s) :
    KeptOut q n (execPmbusTransactionDone agent code outcome s) := by
  unfold execPmbusTransactionDone
  repeat' (first
    | with_reducible assumption
    | with_reducible apply keptOut_next
    | with_reducible intro _
    | with_reducible apply kept_ite
    | with_reducible apply State.when_kept
    | with_reducible apply State.laneTx_kept
    | with_reducible apply State.marginTx_kept
    | split
    | dsimp only)

theorem execPmbusPoll_kept (lane : Fin 4) (kind : PollKind) (s : State) (h : Kept q n s) :
    KeptOut q n (execPmbusPoll lane kind s) := by
  unfold execPmbusPoll
  repeat' (first
    | with_reducible assumption
    | with_reducible apply keptOut_next
    | with_reducible intro _
    | with_reducible apply kept_ite
    | with_reducible apply State.when_kept
    | with_reducible apply State.sendPmb_kept
    | split
    | dsimp only)

theorem execPmbAlert_kept (s : State) (h : Kept q n s) :
    KeptOut q n (execPmbAlert s) := by
  unfold execPmbAlert
  repeat' (first
    | with_reducible assumption
    | with_reducible apply keptOut_next
    | with_reducible intro _
    | with_reducible apply kept_ite
    | with_reducible apply State.when_kept
    | with_reducible apply State.sendPmb_kept
    | with_reducible apply kept_foldl
    | split
    | dsimp only)

theorem execLaneStart_kept (lane : Fin 4) (s : State) (h : Kept q n s) :
    KeptOut q n (execLaneStart lane s) := by
  unfold execLaneStart
  repeat' (first
    | with_reducible assumption
    | with_reducible apply keptOut_next
    | with_reducible intro _
    | with_reducible apply kept_ite
    | with_reducible apply State.when_kept
    | with_reducible apply State.startLane_kept
    | split
    | dsimp only)

theorem execLaneRegulatorTimeout_kept (lane : Fin 4) (s : State) (h : Kept q n s) :
    KeptOut q n (execLaneRegulatorTimeout lane s) := by
  unfold execLaneRegulatorTimeout
  repeat' (first
    | with_reducible assumption
    | with_reducible apply keptOut_next
    | with_reducible intro _
    | with_reducible apply kept_ite
    | with_reducible apply State.onTimer_kept
    | with_reducible apply State.regulatorFault_kept
    | split
    | dsimp only)

theorem execLaneReady_kept (lane : Fin 4) (s : State) (h : Kept q n s) :
    KeptOut q n (execLaneReady lane s) := by
  unfold execLaneReady
  repeat' (first
    | with_reducible assumption
    | with_reducible apply keptOut_next
    | with_reducible intro _
    | with_reducible apply kept_ite
    | with_reducible apply State.set_kept
    | with_reducible apply State.arm_kept
    | with_reducible apply State.onTimer_kept
    | with_reducible apply State.settleGains_kept
    | split
    | dsimp only)

theorem execLaneStop_kept (lane : Fin 4) (s : State) (h : Kept q n s) :
    KeptOut q n (execLaneStop lane s) := by
  unfold execLaneStop
  repeat' (first
    | with_reducible assumption
    | with_reducible apply keptOut_next
    | with_reducible intro _
    | with_reducible apply kept_ite
    | with_reducible apply State.when_kept
    | with_reducible apply State.stopLane_kept
    | with_reducible apply State.settleGains_kept
    | split
    | dsimp only)

theorem execRegulatorRestart_kept (lane : Fin 4) (s : State) (h : Kept q n s) :
    KeptOut q n (execRegulatorRestart lane s) := by
  unfold execRegulatorRestart
  repeat' (first
    | with_reducible assumption
    | with_reducible apply keptOut_next
    | with_reducible intro _
    | with_reducible apply kept_ite
    | with_reducible apply State.onTimer_kept
    | with_reducible apply State.setLane_kept
    | with_reducible apply State.laneReleased_kept
    | split
    | dsimp only)

theorem execPmbFaultStop_kept (lane : Fin 4) (s : State) (h : Kept q n s) :
    KeptOut q n (execPmbFaultStop lane s) := by
  unfold execPmbFaultStop
  repeat' (first
    | with_reducible assumption
    | with_reducible apply keptOut_next
    | with_reducible intro _
    | with_reducible apply kept_ite
    | with_reducible apply State.onTimer_kept
    | with_reducible apply State.setLane_kept
    | with_reducible apply State.stopLane_kept
    | with_reducible apply State.settleGains_kept
    | split
    | dsimp only)

theorem execPaOverrun_kept (s : State) (h : Kept q n s) :
    KeptOut q n (execPaOverrun s) := by
  unfold execPaOverrun
  repeat' (first
    | with_reducible assumption
    | with_reducible apply keptOut_next
    | with_reducible intro _
    | with_reducible apply kept_ite
    | with_reducible apply State.onTimer_kept
    | with_reducible apply State.faultRow_kept
    | split
    | dsimp only)

theorem execHintPhase_kept (w : HintId) (s : State) (h : Kept q n s) :
    KeptOut q n (execHintPhase w s) := by
  unfold execHintPhase
  repeat' (first
    | with_reducible assumption
    | with_reducible apply keptOut_next
    | with_reducible intro _
    | with_reducible apply kept_ite
    | with_reducible apply State.onTimer_kept
    | with_reducible apply State.retargetBias_kept
    | with_reducible apply State.nextHint_kept
    | with_reducible apply State.settleGains_kept
    | split
    | dsimp only)

end Sys2Proof.Machine
end

