-- ==== Sys2Proof/Laws/KeptRails.lean ====
section
/-!
SUPPORT. What the functions of Sys2Proof/Machine/Rails.lean keep, one lemma for each of them (Laws/Kept.lean says what).
-/

namespace Sys2Proof.Machine

set_option linter.unusedTactic false
set_option linter.unreachableTactic false
set_option linter.unusedVariables false

open Sys2Proof

variable {q : List Instr} {n : Floor}

theorem State.releaseNow_kept (s : State) (n' : Nat) (h : Kept q n s) :
    Kept q n (State.releaseNow s n') := by
  unfold State.releaseNow
  repeat' (first
    | with_reducible assumption
    | with_reducible intro _
    | with_reducible apply kept_ite
    | with_reducible apply State.releaseRail_kept
    | with_reducible apply kept_foldl
    | split
    | dsimp only)

theorem State.railFaultRecord_kept (s : State) (n' bit source : Nat) (h : Kept q n s) :
    Kept q n (State.railFaultRecord s n' bit source) := by
  unfold State.railFaultRecord
  repeat' (first
    | with_reducible assumption
    | with_reducible intro _
    | with_reducible apply kept_ite
    | with_reducible apply State.bump_kept
    | with_reducible apply State.postLog_kept
    | with_reducible apply State.flag_kept
    | with_reducible apply State.returnMargins_kept
    | split
    | dsimp only)

theorem State.railFaultShutdown_kept (s : State) (n' : Nat) (h : Kept q n s) :
    Kept q n (State.railFaultShutdown s n') := by
  unfold State.railFaultShutdown
  repeat' (first
    | with_reducible assumption
    | with_reducible intro _
    | with_reducible apply kept_ite
    | with_reducible apply State.set_kept
    | with_reducible apply State.beginShutdown_kept
    | split
    | dsimp only)

theorem State.releaseMissed_kept (s : State) (n' : Nat) (h : Kept q n s) :
    Kept q n (State.releaseMissed s n') := by
  unfold State.releaseMissed
  repeat' (first
    | with_reducible assumption
    | with_reducible intro _
    | with_reducible apply kept_ite
    | with_reducible apply State.disarm_kept
    | with_reducible apply State.driveRail_kept
    | split
    | dsimp only)

theorem State.railFault_kept (s : State) (n' bit source : Nat) (h : Kept q n s) :
    Kept q n (State.railFault s n' bit source) := by
  unfold State.railFault
  repeat' (first
    | with_reducible assumption
    | with_reducible intro _
    | with_reducible apply kept_ite
    | with_reducible apply State.set_kept
    | with_reducible apply State.flag_kept
    | with_reducible apply State.hardMute_kept
    | with_reducible apply State.stopLanes_kept
    | with_reducible apply State.enterHoldup_kept
    | with_reducible apply State.releaseNow_kept
    | with_reducible apply State.railFaultRecord_kept
    | with_reducible apply State.railFaultShutdown_kept
    | with_reducible apply State.releaseMissed_kept
    | split
    | dsimp only)

theorem State.advanceStart_kept (s : State) (h : Kept q n s) :
    Kept q n (State.advanceStart s) := by
  unfold State.advanceStart
  repeat' (first
    | with_reducible assumption
    | with_reducible intro _
    | with_reducible apply kept_ite
    | with_reducible apply State.startDelays_kept
    | with_reducible apply State.releaseCore_kept
    | with_reducible apply State.trellisComplete_kept
    | split
    | dsimp only)

theorem State.marginReading_kept (s : State) (n' r : Nat) (h : Kept q n s) :
    Kept q n (State.marginReading s n' r) := by
  unfold State.marginReading
  repeat' (first
    | with_reducible assumption
    | with_reducible intro _
    | with_reducible apply kept_ite
    | with_reducible apply State.set_kept
    | with_reducible apply State.faultRow_kept
    | with_reducible apply State.startMargin_kept
    | split
    | dsimp only)

theorem State.railReading_kept (s : State) (n' r begin_ : Nat) (h : Kept q n s) :
    Kept q n (State.railReading s n' r begin_) := by
  unfold State.railReading
  repeat' (first
    | with_reducible assumption
    | with_reducible intro _
    | with_reducible apply kept_ite
    | with_reducible apply State.set_kept
    | with_reducible apply State.disarm_kept
    | with_reducible apply State.postLog_kept
    | with_reducible apply State.log_kept
    | with_reducible apply State.flag_kept
    | with_reducible apply State.flagFirst_kept
    | with_reducible apply State.slotOff_kept
    | with_reducible apply State.railFault_kept
    | with_reducible apply State.advanceStart_kept
    | with_reducible apply State.marginReading_kept
    | split
    | dsimp only)

theorem State.sequenceStart_kept (s : State) (h : Kept q n s) :
    Kept q n (State.sequenceStart s) := by
  unfold State.sequenceStart
  repeat' (first
    | with_reducible assumption
    | with_reducible intro _
    | with_reducible apply kept_ite
    | with_reducible apply State.startDelays_kept
    | split
    | dsimp only)

theorem execHkaStart_kept (s : State) (h : Kept q n s) :
    KeptOut q n (execHkaStart s) := by
  unfold execHkaStart
  repeat' (first
    | with_reducible assumption
    | with_reducible apply keptOut_next
    | with_reducible intro _
    | with_reducible apply kept_ite
    | with_reducible apply State.when_kept
    | with_reducible apply State.sequenceStart_kept
    | split
    | dsimp only)

theorem execRailEnable_kept (slot : Fin 16) (s : State) (h : Kept q n s) :
    KeptOut q n (execRailEnable slot s) := by
  unfold execRailEnable
  repeat' (first
    | with_reducible assumption
    | with_reducible apply keptOut_next
    | with_reducible intro _
    | with_reducible apply kept_ite
    | with_reducible apply State.set_kept
    | with_reducible apply State.onTimer_kept
    | with_reducible apply State.supervised_kept
    | with_reducible apply State.driveRail_kept
    | split
    | dsimp only)

theorem execWarnLeadExpiry_kept (s : State) (h : Kept q n s) :
    KeptOut q n (execWarnLeadExpiry s) := by
  unfold execWarnLeadExpiry
  repeat' (first
    | with_reducible assumption
    | with_reducible apply keptOut_next
    | with_reducible intro _
    | with_reducible apply kept_ite
    | with_reducible apply State.onTimer_kept
    | with_reducible apply State.supervised_kept
    | with_reducible apply State.goDown_kept
    | split
    | dsimp only)

theorem execHoldupLeadExpiry_kept (s : State) (h : Kept q n s) :
    KeptOut q n (execHoldupLeadExpiry s) := by
  unfold execHoldupLeadExpiry
  repeat' (first
    | with_reducible assumption
    | with_reducible apply keptOut_next
    | with_reducible intro _
    | with_reducible apply kept_ite
    | with_reducible apply State.onTimer_kept
    | with_reducible apply State.supervised_kept
    | with_reducible apply State.goDown_kept
    | split
    | dsimp only)

theorem execHoldupStepExpiry_kept (slot : Fin 16) (s : State) (h : Kept q n s) :
    KeptOut q n (execHoldupStepExpiry slot s) := by
  unfold execHoldupStepExpiry
  repeat' (first
    | with_reducible assumption
    | with_reducible apply keptOut_next
    | with_reducible intro _
    | with_reducible apply kept_ite
    | with_reducible apply State.onTimer_kept
    | with_reducible apply State.supervised_kept
    | with_reducible apply State.slotOff_kept
    | split
    | dsimp only)

theorem execRailOff_kept (slot : Fin 16) (s : State) (h : Kept q n s) :
    KeptOut q n (execRailOff slot s) := by
  unfold execRailOff
  repeat' (first
    | with_reducible assumption
    | with_reducible apply keptOut_next
    | with_reducible intro _
    | with_reducible apply kept_ite
    | with_reducible apply State.when_kept
    | with_reducible apply State.supervised_kept
    | with_reducible apply State.slotOff_kept
    | split
    | dsimp only)

theorem execRailOffTimeExpiry_kept (slot : Fin 16) (s : State) (h : Kept q n s) :
    KeptOut q n (execRailOffTimeExpiry slot s) := by
  unfold execRailOffTimeExpiry
  repeat' (first
    | with_reducible assumption
    | with_reducible apply keptOut_next
    | with_reducible intro _
    | with_reducible apply kept_ite
    | with_reducible apply State.onTimer_kept
    | with_reducible apply State.supervised_kept
    | with_reducible apply State.log_kept
    | with_reducible apply State.flagFirst_kept
    | with_reducible apply State.slotOff_kept
    | split
    | dsimp only)

theorem execRetryBackoffExpiry_kept (s : State) (h : Kept q n s) :
    KeptOut q n (execRetryBackoffExpiry s) := by
  unfold execRetryBackoffExpiry
  repeat' (first
    | with_reducible assumption
    | with_reducible apply keptOut_next
    | with_reducible intro _
    | with_reducible apply kept_ite
    | with_reducible apply State.onTimer_kept
    | with_reducible apply State.supervised_kept
    | with_reducible apply State.beginStart_kept
    | split
    | dsimp only)

theorem execAttemptReset_kept (s : State) (h : Kept q n s) :
    KeptOut q n (execAttemptReset s) := by
  unfold execAttemptReset
  repeat' (first
    | with_reducible assumption
    | with_reducible apply keptOut_next
    | with_reducible intro _
    | with_reducible apply kept_ite
    | with_reducible apply State.set_kept
    | with_reducible apply State.onTimer_kept
    | split
    | dsimp only)

theorem execMarginDacStep_kept (ch : Fin 4) (s : State) (h : Kept q n s) :
    KeptOut q n (execMarginDacStep ch s) := by
  unfold execMarginDacStep
  repeat' (first
    | with_reducible assumption
    | with_reducible apply keptOut_next
    | with_reducible intro _
    | with_reducible apply kept_ite
    | with_reducible apply State.arm_kept
    | with_reducible apply State.onTimer_kept
    | split
    | dsimp only)

theorem State.hkaLost_kept (s : State) (h : Kept q n s) :
    Kept q n (State.hkaLost s) := by
  unfold State.hkaLost
  repeat' (first
    | with_reducible assumption
    | with_reducible intro _
    | with_reducible apply kept_ite
    | with_reducible apply State.bump_kept
    | with_reducible apply State.faultRow_kept
    | split
    | dsimp only)

theorem State.hkaResult_kept (s : State) (n' : Nat) (input : Int) (h : Kept q n s) :
    Kept q n (State.hkaResult s n' input) := by
  unfold State.hkaResult
  repeat' (first
    | with_reducible assumption
    | with_reducible intro _
    | with_reducible apply kept_ite
    | with_reducible apply State.set_kept
    | with_reducible apply State.elapse_kept
    | with_reducible apply State.railReading_kept
    | with_reducible apply State.hkaLost_kept
    | split
    | dsimp only)

theorem execHkaReading_kept (slot : Fin 16) (input : Int) (s : State) (h : Kept q n s) :
    KeptOut q n (execHkaReading slot input s) := by
  unfold execHkaReading
  repeat' (first
    | with_reducible assumption
    | with_reducible apply keptOut_next
    | with_reducible intro _
    | with_reducible apply kept_ite
    | with_reducible apply State.when_kept
    | with_reducible apply State.hkaResult_kept
    | split
    | dsimp only)

theorem State.countPg_kept (s : State) (n' : Nat) (h : Kept q n s) :
    Kept q n (State.countPg s n') := by
  unfold State.countPg
  repeat' (first
    | with_reducible assumption
    | with_reducible intro _
    | with_reducible apply kept_ite
    | with_reducible apply State.railFault_kept
    | split
    | dsimp only)

theorem execPgChange_kept (slot : Fin 16) (high : Bool) (s : State) (h : Kept q n s) :
    KeptOut q n (execPgChange slot high s) := by
  unfold execPgChange
  repeat' (first
    | with_reducible assumption
    | with_reducible apply keptOut_next
    | with_reducible intro _
    | with_reducible apply kept_ite
    | with_reducible apply State.when_kept
    | with_reducible apply State.supervised_kept
    | with_reducible apply State.countPg_kept
    | split
    | dsimp only)

end Sys2Proof.Machine
end

