-- ==== Sys2Proof/Laws/KeptDatapath.lean ====
section
/-!
SUPPORT. What the functions of Sys2Proof/Machine/Datapath.lean keep, one lemma for each of them (Laws/Kept.lean says what).
-/

namespace Sys2Proof.Machine

set_option linter.unusedTactic false
set_option linter.unreachableTactic false
set_option linter.unusedVariables false

open Sys2Proof

variable {q : List Instr} {n : Floor}

theorem execAdcCalibrationDone_kept (conv : Fin 4) (ok : Bool) (stage : Byte) (s : State) (h : Kept q n s) :
    KeptOut q n (execAdcCalibrationDone conv ok stage s) := by
  unfold execAdcCalibrationDone
  repeat' (first
    | with_reducible assumption
    | with_reducible apply keptOut_next
    | with_reducible intro _
    | with_reducible apply kept_ite
    | with_reducible apply State.set_kept
    | with_reducible apply State.when_kept
    | with_reducible apply State.faultRow_kept
    | split
    | dsimp only)

theorem State.setTaste_kept (s : State) (d : Dir) (t : Taste) (h : Kept q n s) :
    Kept q n (State.setTaste s d t) := by
  unfold State.setTaste
  repeat' (first
    | with_reducible assumption
    | with_reducible intro _
    | with_reducible apply kept_ite
    | split
    | dsimp only)

theorem State.setDivergent_kept (s : State) (d : Dir) (b : Bool) (h : Kept q n s) :
    Kept q n (State.setDivergent s d b) := by
  unfold State.setDivergent
  repeat' (first
    | with_reducible assumption
    | with_reducible intro _
    | with_reducible apply kept_ite
    | with_reducible apply State.set_kept
    | with_reducible apply State.fabEvent_kept
    | with_reducible apply kept_foldl
    | split
    | dsimp only)

theorem State.divergentBlock_kept (s : State) (d : Dir) (largest : Nat) (h : Kept q n s) :
    Kept q n (State.divergentBlock s d largest) := by
  unfold State.divergentBlock
  repeat' (first
    | with_reducible assumption
    | with_reducible intro _
    | with_reducible apply kept_ite
    | with_reducible apply State.bump_kept
    | with_reducible apply State.faultRow_kept
    | with_reducible apply State.mutePaths_kept
    | with_reducible apply State.setTaste_kept
    | with_reducible apply State.setDivergent_kept
    | split
    | dsimp only)

theorem State.cleanBlock_kept (s : State) (d : Dir) (h : Kept q n s) :
    Kept q n (State.cleanBlock s d) := by
  unfold State.cleanBlock
  repeat' (first
    | with_reducible assumption
    | with_reducible intro _
    | with_reducible apply kept_ite
    | with_reducible apply State.setTaste_kept
    | with_reducible apply State.setDivergent_kept
    | split
    | dsimp only)

theorem execTasteBlockEnd_kept (pair : Dir) (differing : Nat) (largest : BitVec 16) (s : State) (h : Kept q n s) :
    KeptOut q n (execTasteBlockEnd pair differing largest s) := by
  unfold execTasteBlockEnd
  repeat' (first
    | with_reducible assumption
    | with_reducible apply keptOut_next
    | with_reducible intro _
    | with_reducible apply kept_ite
    | with_reducible apply State.when_kept
    | with_reducible apply State.divergentBlock_kept
    | with_reducible apply State.cleanBlock_kept
    | split
    | dsimp only)

theorem execAdcOverrange_kept (conv : Fin 4) (s : State) (h : Kept q n s) :
    KeptOut q n (execAdcOverrange conv s) := by
  unfold execAdcOverrange
  repeat' (first
    | with_reducible assumption
    | with_reducible apply keptOut_next
    | with_reducible intro _
    | with_reducible apply kept_ite
    | with_reducible apply State.bump_kept
    | with_reducible apply State.arm_kept
    | with_reducible apply State.when_kept
    | with_reducible apply State.log_kept
    | with_reducible apply State.flagFirst_kept
    | with_reducible apply State.fabEvent_kept
    | with_reducible apply State.refreeze_kept
    | with_reducible apply kept_foldl
    | split
    | dsimp only)

theorem execDcFreezeEnd_kept (conv : Fin 4) (s : State) (h : Kept q n s) :
    KeptOut q n (execDcFreezeEnd conv s) := by
  unfold execDcFreezeEnd
  repeat' (first
    | with_reducible assumption
    | with_reducible apply keptOut_next
    | with_reducible intro _
    | with_reducible apply kept_ite
    | with_reducible apply State.onTimer_kept
    | with_reducible apply State.refreeze_kept
    | split
    | dsimp only)

theorem execElementSaturation_kept (path : Fin 16) (element : Fin 22) (samples : Nat) (s : State) (h : Kept q n s) :
    KeptOut q n (execElementSaturation path element samples s) := by
  unfold execElementSaturation
  repeat' (first
    | with_reducible assumption
    | with_reducible apply keptOut_next
    | with_reducible intro _
    | with_reducible apply kept_ite
    | with_reducible apply State.bump_kept
    | with_reducible apply State.when_kept
    | with_reducible apply State.flag_kept
    | with_reducible apply State.fabEvent_kept
    | split
    | dsimp only)

theorem execDacClip_kept (d : Dir) (s : State) (h : Kept q n s) :
    KeptOut q n (execDacClip d s) := by
  unfold execDacClip
  repeat' (first
    | with_reducible assumption
    | with_reducible apply keptOut_next
    | with_reducible intro _
    | with_reducible apply kept_ite
    | with_reducible apply State.bump_kept
    | with_reducible apply State.when_kept
    | with_reducible apply State.log_kept
    | with_reducible apply State.flagFirst_kept
    | split
    | dsimp only)

theorem State.freshWindow_kept (s : State) (p : Nat) (h : Kept q n s) :
    Kept q n (State.freshWindow s p) := by
  unfold State.freshWindow
  repeat' (first
    | with_reducible assumption
    | with_reducible intro _
    | with_reducible apply kept_ite
    | with_reducible apply State.setPath_kept
    | split
    | dsimp only)

theorem execSettleEnd_kept (path : Fin 16) (s : State) (h : Kept q n s) :
    KeptOut q n (execSettleEnd path s) := by
  unfold execSettleEnd
  repeat' (first
    | with_reducible assumption
    | with_reducible apply keptOut_next
    | with_reducible intro _
    | with_reducible apply kept_ite
    | with_reducible apply State.set_kept
    | with_reducible apply State.onTimer_kept
    | with_reducible apply State.fabEvent_kept
    | with_reducible apply State.freshWindow_kept
    | split
    | dsimp only)

theorem State.newWindows_kept (s : State) (h : Kept q n s) :
    Kept q n (State.newWindows s) := by
  unfold State.newWindows
  repeat' (first
    | with_reducible assumption
    | with_reducible intro _
    | with_reducible apply kept_ite
    | with_reducible apply State.setPath_kept
    | with_reducible apply kept_foldl
    | split
    | dsimp only)

theorem State.doSync_kept (s : State) (h : Kept q n s) :
    Kept q n (State.doSync s) := by
  unfold State.doSync
  repeat' (first
    | with_reducible assumption
    | with_reducible intro _
    | with_reducible apply kept_ite
    | with_reducible apply State.bump_kept
    | with_reducible apply State.settleAll_kept
    | with_reducible apply State.newWindows_kept
    | split
    | dsimp only)

theorem execSyncEdge_kept (s : State) (h : Kept q n s) :
    KeptOut q n (execSyncEdge s) := by
  unfold execSyncEdge
  repeat' (first
    | with_reducible assumption
    | with_reducible apply keptOut_next
    | with_reducible intro _
    | with_reducible apply kept_ite
    | with_reducible apply State.when_kept
    | with_reducible apply State.doSync_kept
    | split
    | dsimp only)

theorem State.latchWindow_kept (s : State) (p pmax sum : Nat) (clipped : Bool) (h : Kept q n s) :
    Kept q n (State.latchWindow s p pmax sum clipped) := by
  unfold State.latchWindow
  repeat' (first
    | with_reducible assumption
    | with_reducible intro _
    | with_reducible apply kept_ite
    | with_reducible apply State.set_kept
    | with_reducible apply State.flag_kept
    | with_reducible apply State.fabEvent_kept
    | with_reducible apply State.freshWindow_kept
    | split
    | dsimp only)

theorem State.watchNoise_kept (s : State) (p : Nat) (h : Kept q n s) :
    Kept q n (State.watchNoise s p) := by
  unfold State.watchNoise
  repeat' (first
    | with_reducible assumption
    | with_reducible intro _
    | with_reducible apply kept_ite
    | with_reducible apply State.setI_kept
    | with_reducible apply State.disarm_kept
    | with_reducible apply State.arm_kept
    | split
    | dsimp only)

theorem State.noteLevel_kept (s : State) (p : Nat) (afterGain : Bool) (level : Int) (h : Kept q n s) :
    Kept q n (State.noteLevel s p afterGain level) := by
  unfold State.noteLevel
  repeat' (first
    | with_reducible assumption
    | with_reducible intro _
    | with_reducible apply kept_ite
    | with_reducible apply State.setI_kept
    | with_reducible apply State.setPath_kept
    | with_reducible apply State.watchNoise_kept
    | split
    | dsimp only)

theorem State.watchPower_kept (s : State) (p : Nat) (h : Kept q n s) :
    Kept q n (State.watchPower s p).1 := by
  unfold State.watchPower
  repeat' (first
    | with_reducible assumption
    | with_reducible intro _
    | with_reducible apply kept_ite
    | with_reducible apply kept_ite_fst
    | with_reducible apply State.setPath_kept
    | split
    | dsimp only)

theorem execDetectorWindowEnd_kept (path : Fin 16) (pmax : BitVec 32) (sum : Nat) (clipped : Bool) (s : State) (h : Kept q n s) :
    KeptOut q n (execDetectorWindowEnd path pmax sum clipped s) := by
  unfold execDetectorWindowEnd
  repeat' (first
    | with_reducible assumption
    | with_reducible apply keptOut_next
    | with_reducible intro _
    | with_reducible apply kept_ite
    | with_reducible apply kept_ite_fst
    | with_reducible apply State.when_kept
    | with_reducible apply State.fabEvent_kept
    | with_reducible apply State.moveGains_kept
    | with_reducible apply State.netTrigger_kept
    | with_reducible apply State.settleGains_kept
    | with_reducible apply State.latchWindow_kept
    | with_reducible apply State.noteLevel_kept
    | with_reducible apply State.watchPower_kept
    | split
    | dsimp only)

theorem execEnvelopeHigh_kept (path : Fin 16) (level : BitVec 16) (s : State) (h : Kept q n s) :
    KeptOut q n (execEnvelopeHigh path level s) := by
  unfold execEnvelopeHigh
  repeat' (first
    | with_reducible assumption
    | with_reducible apply keptOut_next
    | with_reducible intro _
    | with_reducible apply kept_ite
    | with_reducible apply State.set_kept
    | with_reducible apply State.when_kept
    | with_reducible apply State.setPath_kept
    | with_reducible apply State.fabEvent_kept
    | split
    | dsimp only)

theorem execEnvelopeLow_kept (path : Fin 16) (level : BitVec 16) (s : State) (h : Kept q n s) :
    KeptOut q n (execEnvelopeLow path level s) := by
  unfold execEnvelopeLow
  repeat' (first
    | with_reducible assumption
    | with_reducible apply keptOut_next
    | with_reducible intro _
    | with_reducible apply kept_ite
    | with_reducible apply State.set_kept
    | with_reducible apply State.when_kept
    | with_reducible apply State.setPath_kept
    | with_reducible apply State.fabEvent_kept
    | split
    | dsimp only)

theorem execFabricPost_kept (path : Fin 16) (s : State) (h : Kept q n s) :
    KeptOut q n (execFabricPost path s) := by
  unfold execFabricPost
  repeat' (first
    | with_reducible assumption
    | with_reducible apply keptOut_next
    | with_reducible intro _
    | with_reducible apply kept_ite
    | with_reducible apply State.set_kept
    | with_reducible apply State.post_kept
    | with_reducible apply State.setPath_kept
    | split
    | dsimp only)

end Sys2Proof.Machine
end

