-- ==== Sys2Proof/Laws/KeptRefCmds.lean ====
section
/-!
SUPPORT. What the functions of Sys2Proof/Machine/RefCmds.lean keep, one lemma for each of them (Laws/Kept.lean says what).
-/

namespace Sys2Proof.Machine

set_option linter.unusedTactic false
set_option linter.unreachableTactic false
set_option linter.unusedVariables false

open Sys2Proof

variable {q : List Instr} {n : Floor}

theorem State.cutWindow_kept (s : State) (p : Nat) (h : Kept q n s) :
    Kept q n (State.cutWindow s p) := by
  unfold State.cutWindow
  repeat' (first
    | with_reducible assumption
    | with_reducible intro _
    | with_reducible apply kept_ite
    | with_reducible apply kept_ite_snd
    | with_reducible apply State.set_kept
    | with_reducible apply State.draw_kept
    | with_reducible apply State.fabEvent_kept
    | with_reducible apply State.freshWindow_kept
    | split
    | dsimp only)

theorem State.pllDown_kept (s : State) (h : Kept q n s) :
    Kept q n (State.pllDown s) := by
  unfold State.pllDown
  repeat' (first
    | with_reducible assumption
    | with_reducible intro _
    | with_reducible apply kept_ite
    | with_reducible apply State.set_kept
    | with_reducible apply State.refreeze_kept
    | with_reducible apply State.cutWindow_kept
    | with_reducible apply kept_foldl
    | split
    | dsimp only)

theorem State.refReaction_kept (s : State) (h : Kept q n s) :
    Kept q n (State.refReaction s) := by
  unfold State.refReaction
  repeat' (first
    | with_reducible assumption
    | with_reducible intro _
    | with_reducible apply kept_ite
    | with_reducible apply State.hardMute_kept
    | with_reducible apply State.fallToStandby_kept
    | with_reducible apply State.netTrigger_kept
    | split
    | dsimp only)

theorem execRefInLoss_kept (s : State) (h : Kept q n s) :
    KeptOut q n (execRefInLoss s) := by
  unfold execRefInLoss
  repeat' (first
    | with_reducible assumption
    | with_reducible apply keptOut_next
    | with_reducible intro _
    | with_reducible apply kept_ite
    | with_reducible apply State.set_kept
    | with_reducible apply State.arm_kept
    | with_reducible apply State.when_kept
    | with_reducible apply State.flag_kept
    | with_reducible apply State.warmRefLost_kept
    | with_reducible apply State.tiuRefLost_kept
    | with_reducible apply State.toInt48_kept
    | with_reducible apply State.endRelock_kept
    | with_reducible apply State.demoteIfDue_kept
    | with_reducible apply State.pllDown_kept
    | with_reducible apply State.refReaction_kept
    | split
    | dsimp only)

theorem execLinkHoldoverExpiry_kept (s : State) (h : Kept q n s) :
    KeptOut q n (execLinkHoldoverExpiry s) := by
  unfold execLinkHoldoverExpiry
  repeat' (first
    | with_reducible assumption
    | with_reducible apply keptOut_next
    | with_reducible intro _
    | with_reducible apply kept_ite
    | with_reducible apply State.onTimer_kept
    | split
    | dsimp only)

theorem execSamplePllUnlock_kept (status : BitVec 32) (s : State) (h : Kept q n s) :
    KeptOut q n (execSamplePllUnlock status s) := by
  unfold execSamplePllUnlock
  repeat' (first
    | with_reducible assumption
    | with_reducible apply keptOut_next
    | with_reducible intro _
    | with_reducible apply kept_ite
    | with_reducible apply State.when_kept
    | with_reducible apply State.faultRow_kept
    | with_reducible apply State.pllDown_kept
    | with_reducible apply State.refReaction_kept
    | split
    | dsimp only)

theorem State.hkbPass_kept (s : State) (h : Kept q n s) :
    Kept q n (State.hkbPass s) := by
  unfold State.hkbPass
  repeat' (first
    | with_reducible assumption
    | with_reducible intro _
    | with_reducible apply kept_ite
    | split
    | dsimp only)

theorem execSamplePllRelock_kept (s : State) (h : Kept q n s) :
    KeptOut q n (execSamplePllRelock s) := by
  unfold execSamplePllRelock
  repeat' (first
    | with_reducible assumption
    | with_reducible apply keptOut_next
    | with_reducible intro _
    | with_reducible apply kept_ite
    | with_reducible apply State.set_kept
    | with_reducible apply State.when_kept
    | with_reducible apply State.settleAll_kept
    | with_reducible apply State.refreeze_kept
    | with_reducible apply State.hkbPass_kept
    | with_reducible apply kept_foldl
    | split
    | dsimp only)

theorem execSamplePllLock_kept (s : State) (h : Kept q n s) :
    KeptOut q n (execSamplePllLock s) := by
  unfold execSamplePllLock
  repeat' (first
    | with_reducible assumption
    | with_reducible apply keptOut_next
    | with_reducible intro _
    | with_reducible apply kept_ite
    | with_reducible apply State.set_kept
    | with_reducible apply State.when_kept
    | with_reducible apply State.refreeze_kept
    | with_reducible apply kept_foldl
    | split
    | dsimp only)

theorem State.collapseReported_kept (s : State) (h : Kept q n s) :
    Kept q n (State.collapseReported s) := by
  unfold State.collapseReported
  repeat' (first
    | with_reducible assumption
    | with_reducible intro _
    | with_reducible apply kept_ite
    | with_reducible apply State.enterHoldup_kept
    | split
    | dsimp only)

theorem execFeedCollapseReport_kept (s : State) (h : Kept q n s) :
    KeptOut q n (execFeedCollapseReport s) := by
  unfold execFeedCollapseReport
  repeat' (first
    | with_reducible assumption
    | with_reducible apply keptOut_next
    | with_reducible intro _
    | with_reducible apply kept_ite
    | with_reducible apply State.when_kept
    | with_reducible apply State.supervised_kept
    | with_reducible apply State.take_kept
    | with_reducible apply State.collapseReported_kept
    | split
    | dsimp only)

end Sys2Proof.Machine
end

