-- ==== Sys2Proof/Laws/KeptPa.lean ====
section
/-!
SUPPORT. What the functions of Sys2Proof/Machine/Pa.lean keep, one lemma for each of them (Laws/Kept.lean says what).
-/

namespace Sys2Proof.Machine

set_option linter.unusedTactic false
set_option linter.unreachableTactic false
set_option linter.unusedVariables false

open Sys2Proof

variable {q : List Instr} {n : Floor}

theorem State.droopCaps_kept (s : State) (h : Kept q n s) :
    Kept q n (State.droopCaps s) := by
  unfold State.droopCaps
  repeat' (first
    | with_reducible assumption
    | with_reducible intro _
    | with_reducible apply kept_ite
    | with_reducible apply State.setPath_kept
    | with_reducible apply kept_foldl
    | split
    | dsimp only)

theorem State.startDroop_kept (s : State) (v : Nat) (h : Kept q n s) :
    Kept q n (State.startDroop s v) := by
  unfold State.startDroop
  repeat' (first
    | with_reducible assumption
    | with_reducible intro _
    | with_reducible apply kept_ite
    | with_reducible apply State.set_kept
    | with_reducible apply State.bump_kept
    | with_reducible apply State.flag_kept
    | with_reducible apply State.moveGains_kept
    | with_reducible apply State.droopCaps_kept
    | split
    | dsimp only)

theorem State.endDroop_kept (s : State) (h : Kept q n s) :
    Kept q n (State.endDroop s) := by
  unfold State.endDroop
  repeat' (first
    | with_reducible assumption
    | with_reducible intro _
    | with_reducible apply kept_ite
    | with_reducible apply State.set_kept
    | with_reducible apply State.log_kept
    | with_reducible apply State.setPath_kept
    | with_reducible apply State.moveGains_kept
    | with_reducible apply kept_foldl
    | split
    | dsimp only)

theorem State.judgeDroop_kept (s : State) (v : Nat) (h : Kept q n s) :
    Kept q n (State.judgeDroop s v) := by
  unfold State.judgeDroop
  repeat' (first
    | with_reducible assumption
    | with_reducible intro _
    | with_reducible apply kept_ite
    | with_reducible apply State.disarm_kept
    | with_reducible apply State.arm_kept
    | with_reducible apply State.startDroop_kept
    | split
    | dsimp only)

theorem State.reportCollapse_kept (s : State) (h : Kept q n s) :
    Kept q n (State.reportCollapse s) := by
  unfold State.reportCollapse
  repeat' (first
    | with_reducible assumption
    | with_reducible intro _
    | with_reducible apply kept_ite
    | with_reducible apply State.set_kept
    | with_reducible apply State.post_kept
    | with_reducible apply State.postLog_kept
    | with_reducible apply State.flag_kept
    | split
    | dsimp only)

theorem State.feedVolts_kept (s : State) (code gain : Nat) (h : Kept q n s) :
    Kept q n (State.feedVolts s code gain) := by
  unfold State.feedVolts
  repeat' (first
    | with_reducible assumption
    | with_reducible intro _
    | with_reducible apply kept_ite
    | with_reducible apply State.set_kept
    | with_reducible apply State.arm_kept
    | with_reducible apply State.settleGains_kept
    | with_reducible apply State.judgeDroop_kept
    | with_reducible apply State.reportCollapse_kept
    | split
    | dsimp only)

theorem State.feedAmps_kept (s : State) (code : Int) (gain : Nat) (h : Kept q n s) :
    Kept q n (State.feedAmps s code gain) := by
  unfold State.feedAmps
  repeat' (first
    | with_reducible assumption
    | with_reducible intro _
    | with_reducible apply kept_ite
    | with_reducible apply State.set_kept
    | with_reducible apply State.setI_kept
    | with_reducible apply State.bump_kept
    | split
    | dsimp only)

theorem State.ntcOut_kept (s : State) (n' : Nat) (h : Kept q n s) :
    Kept q n (State.ntcOut s n') := by
  unfold State.ntcOut
  repeat' (first
    | with_reducible assumption
    | with_reducible intro _
    | with_reducible apply kept_ite
    | with_reducible apply State.faultRow_kept
    | with_reducible apply State.setLane_kept
    | split
    | dsimp only)

theorem State.laneTemp_kept (s : State) (n' : Nat) (t : Int) (h : Kept q n s) :
    Kept q n (State.laneTemp s n' t) := by
  unfold State.laneTemp
  repeat' (first
    | with_reducible assumption
    | with_reducible intro _
    | with_reducible apply kept_ite
    | with_reducible apply State.disarm_kept
    | with_reducible apply State.arm_kept
    | with_reducible apply State.flag_kept
    | with_reducible apply State.faultRow_kept
    | with_reducible apply State.setLane_kept
    | with_reducible apply State.stopLane_kept
    | split
    | dsimp only)

theorem State.ntcRead_kept (s : State) (n' code gain : Nat) (h : Kept q n s) :
    Kept q n (State.ntcRead s n' code gain) := by
  unfold State.ntcRead
  repeat' (first
    | with_reducible assumption
    | with_reducible intro _
    | with_reducible apply kept_ite
    | with_reducible apply State.set_kept
    | with_reducible apply State.settleGains_kept
    | with_reducible apply State.setTelemetry_kept
    | with_reducible apply State.ntcOut_kept
    | with_reducible apply State.laneTemp_kept
    | split
    | dsimp only)

theorem State.useHkb_kept (s : State) (inp gain : Nat) (code : Int) (h : Kept q n s) :
    Kept q n (State.useHkb s inp gain code) := by
  unfold State.useHkb
  repeat' (first
    | with_reducible assumption
    | with_reducible intro _
    | with_reducible apply kept_ite
    | with_reducible apply State.set_kept
    | with_reducible apply State.setI_kept
    | with_reducible apply State.feedVolts_kept
    | with_reducible apply State.feedAmps_kept
    | with_reducible apply State.ntcRead_kept
    | split
    | dsimp only)

theorem State.noteHighBy_kept (s : State) (q' : Nat) (h : Kept q n s) :
    Kept q n (State.noteHighBy s q') := by
  unfold State.noteHighBy
  repeat' (first
    | with_reducible assumption
    | with_reducible intro _
    | with_reducible apply kept_ite
    | split
    | dsimp only)

theorem State.takeHkb_kept (s : State) (entry raw : Nat) (h : Kept q n s) :
    Kept q n (State.takeHkb s entry raw) := by
  unfold State.takeHkb
  repeat' (first
    | with_reducible assumption
    | with_reducible intro _
    | with_reducible apply kept_ite
    | with_reducible apply State.set_kept
    | with_reducible apply State.useHkb_kept
    | with_reducible apply State.noteHighBy_kept
    | split
    | dsimp only)

theorem State.releaseHkb_kept (s : State) (h : Kept q n s) :
    Kept q n (State.releaseHkb s) := by
  unfold State.releaseHkb
  repeat' (first
    | with_reducible assumption
    | with_reducible intro _
    | with_reducible apply kept_ite
    | with_reducible apply State.takeHkb_kept
    | split
    | dsimp only)

theorem State.registerHkb_kept (s : State) (entry raw : Nat) (h : Kept q n s) :
    Kept q n (State.registerHkb s entry raw) := by
  unfold State.registerHkb
  repeat' (first
    | with_reducible assumption
    | with_reducible intro _
    | with_reducible apply kept_ite
    | with_reducible apply State.bump_kept
    | with_reducible apply State.log_kept
    | with_reducible apply State.flagFirst_kept
    | with_reducible apply State.releaseHkb_kept
    | split
    | dsimp only)

theorem State.selfCheckFails_kept (s : State) (entry inp : Nat) (code : Int) (h : Kept q n s) :
    Kept q n (State.selfCheckFails s entry inp code) := by
  unfold State.selfCheckFails
  repeat' (first
    | with_reducible assumption
    | with_reducible intro _
    | with_reducible apply kept_ite
    | with_reducible apply State.set_kept
    | with_reducible apply State.log_kept
    | with_reducible apply State.flag_kept
    | with_reducible apply kept_foldl
    | split
    | dsimp only)

theorem State.hkbFlags_kept (s : State) (entry inp : Nat) (code : Int) (cold clipped : Bool) (h : Kept q n s) :
    Kept q n (State.hkbFlags s entry inp code cold clipped) := by
  unfold State.hkbFlags
  repeat' (first
    | with_reducible assumption
    | with_reducible intro _
    | with_reducible apply kept_ite
    | with_reducible apply State.flag_kept
    | with_reducible apply State.selfCheckFails_kept
    | split
    | dsimp only)

theorem execHkbStart_kept (s : State) (h : Kept q n s) :
    KeptOut q n (execHkbStart s) := by
  unfold execHkbStart
  repeat' (first
    | with_reducible assumption
    | with_reducible apply keptOut_next
    | with_reducible intro _
    | with_reducible apply kept_ite
    | with_reducible apply State.elapse_kept
    | with_reducible apply State.hkbPass_kept
    | split
    | dsimp only)

theorem State.hkbAdvance_kept (s : State) (entry : Nat) (h : Kept q n s) :
    Kept q n (State.hkbAdvance s entry) := by
  unfold State.hkbAdvance
  repeat' (first
    | with_reducible assumption
    | with_reducible intro _
    | with_reducible apply kept_ite
    | split
    | dsimp only)

theorem State.hkbResult_kept (s : State) (entry : Nat) (input : Int) (refAt : Nat) (h : Kept q n s) :
    Kept q n (State.hkbResult s entry input refAt) := by
  unfold State.hkbResult
  repeat' (first
    | with_reducible assumption
    | with_reducible intro _
    | with_reducible apply kept_ite
    | with_reducible apply State.elapse_kept
    | with_reducible apply State.registerHkb_kept
    | with_reducible apply State.hkbFlags_kept
    | with_reducible apply State.hkbAdvance_kept
    | split
    | dsimp only)

theorem execHkbResult_kept (entry : Fin 16) (input : Int) (s : State) (h : Kept q n s) :
    KeptOut q n (execHkbResult entry input s) := by
  unfold execHkbResult
  repeat' (first
    | with_reducible assumption
    | with_reducible apply keptOut_next
    | with_reducible intro _
    | with_reducible apply kept_ite
    | with_reducible apply State.when_kept
    | with_reducible apply State.hkbResult_kept
    | split
    | dsimp only)

theorem execDroopClear_kept (s : State) (h : Kept q n s) :
    KeptOut q n (execDroopClear s) := by
  unfold execDroopClear
  repeat' (first
    | with_reducible assumption
    | with_reducible apply keptOut_next
    | with_reducible intro _
    | with_reducible apply kept_ite
    | with_reducible apply State.onTimer_kept
    | with_reducible apply State.settleGains_kept
    | with_reducible apply State.endDroop_kept
    | split
    | dsimp only)

theorem execFeedStale_kept (s : State) (h : Kept q n s) :
    KeptOut q n (execFeedStale s) := by
  unfold execFeedStale
  repeat' (first
    | with_reducible assumption
    | with_reducible apply keptOut_next
    | with_reducible intro _
    | with_reducible apply kept_ite
    | with_reducible apply State.disarm_kept
    | with_reducible apply State.onTimer_kept
    | with_reducible apply State.faultRow_kept
    | with_reducible apply State.settleGains_kept
    | with_reducible apply State.startDroop_kept
    | split
    | dsimp only)

theorem execLaneThermalRestart_kept (lane : Fin 4) (s : State) (h : Kept q n s) :
    KeptOut q n (execLaneThermalRestart lane s) := by
  unfold execLaneThermalRestart
  repeat' (first
    | with_reducible assumption
    | with_reducible apply keptOut_next
    | with_reducible intro _
    | with_reducible apply kept_ite
    | with_reducible apply State.onTimer_kept
    | with_reducible apply State.setLane_kept
    | with_reducible apply State.laneReleased_kept
    | split
    | dsimp only)

theorem execDieTrip_kept (s : State) (h : Kept q n s) :
    KeptOut q n (execDieTrip s) := by
  unfold execDieTrip
  repeat' (first
    | with_reducible assumption
    | with_reducible apply keptOut_next
    | with_reducible intro _
    | with_reducible apply kept_ite
    | with_reducible apply State.when_kept
    | with_reducible apply State.faultRow_kept
    | with_reducible apply State.hardMute_kept
    | with_reducible apply State.setLane_kept
    | with_reducible apply State.stopLane_kept
    | with_reducible apply State.settleGains_kept
    | with_reducible apply kept_foldl
    | split
    | dsimp only)

theorem execDieTripClear_kept (s : State) (h : Kept q n s) :
    KeptOut q n (execDieTripClear s) := by
  unfold execDieTripClear
  repeat' (first
    | with_reducible assumption
    | with_reducible apply keptOut_next
    | with_reducible intro _
    | with_reducible apply kept_ite
    | with_reducible apply State.when_kept
    | with_reducible apply State.setLane_kept
    | with_reducible apply State.laneReleased_kept
    | with_reducible apply kept_foldl
    | split
    | dsimp only)

theorem execSealNLow_kept (s : State) (h : Kept q n s) :
    KeptOut q n (execSealNLow s) := by
  unfold execSealNLow
  repeat' (first
    | with_reducible assumption
    | with_reducible apply keptOut_next
    | with_reducible intro _
    | with_reducible apply kept_ite
    | with_reducible apply State.disarm_kept
    | with_reducible apply State.arm_kept
    | with_reducible apply State.when_kept
    | with_reducible apply State.flag_kept
    | split
    | dsimp only)

theorem execSealLanesSealed_kept (s : State) (h : Kept q n s) :
    KeptOut q n (execSealLanesSealed s) := by
  unfold execSealLanesSealed
  repeat' (first
    | with_reducible assumption
    | with_reducible apply keptOut_next
    | with_reducible intro _
    | with_reducible apply kept_ite
    | with_reducible apply State.when_kept
    | with_reducible apply State.postLog_kept
    | with_reducible apply State.mutePaths_kept
    | with_reducible apply State.stopLane_kept
    | with_reducible apply State.settleGains_kept
    | with_reducible apply State.demoteIfDue_kept
    | with_reducible apply kept_foldl
    | split
    | dsimp only)

theorem State.unseal_kept (s : State) (h : Kept q n s) :
    Kept q n (State.unseal s) := by
  unfold State.unseal
  repeat' (first
    | with_reducible assumption
    | with_reducible intro _
    | with_reducible apply kept_ite
    | with_reducible apply State.set_kept
    | with_reducible apply kept_foldl
    | split
    | dsimp only)

theorem execSealClearTimer_kept (s : State) (h : Kept q n s) :
    KeptOut q n (execSealClearTimer s) := by
  unfold execSealClearTimer
  repeat' (first
    | with_reducible assumption
    | with_reducible apply keptOut_next
    | with_reducible intro _
    | with_reducible apply kept_ite
    | with_reducible apply State.onTimer_kept
    | with_reducible apply State.unseal_kept
    | split
    | dsimp only)

end Sys2Proof.Machine
end

