-- ==== Sys2Proof/Laws/KeptLid.lean ====
section
/-!
SUPPORT. What the functions of Sys2Proof/Machine/Lid.lean keep, one lemma for each of them (Laws/Kept.lean says what).
-/

namespace Sys2Proof.Machine

set_option linter.unusedTactic false
set_option linter.unreachableTactic false
set_option linter.unusedVariables false

open Sys2Proof

variable {q : List Instr} {n : Floor}

theorem State.touchRecord_kept (s : State) (dur state effect : Nat) (h : Kept q n s) :
    Kept q n (State.touchRecord s dur state effect) := by
  unfold State.touchRecord
  repeat' (first
    | with_reducible assumption
    | with_reducible intro _
    | with_reducible apply kept_ite
    | with_reducible apply State.log_kept
    | split
    | dsimp only)

theorem State.actTouch_kept (s : State) (dur state held : Nat) (h : Kept q n s) :
    Kept q n (State.actTouch s dur state held) := by
  unfold State.actTouch
  repeat' (first
    | with_reducible assumption
    | with_reducible intro _
    | with_reducible apply kept_ite
    | with_reducible apply State.arm_kept
    | with_reducible apply State.log_kept
    | with_reducible apply State.flag_kept
    | with_reducible apply State.wakeStart_kept
    | with_reducible apply State.endLockout_kept
    | with_reducible apply State.towardsService_kept
    | with_reducible apply State.touchRecord_kept
    | split
    | dsimp only)

theorem State.validTouch_kept (s : State) (dur : Nat) (h : Kept q n s) :
    Kept q n (State.validTouch s dur) := by
  unfold State.validTouch
  repeat' (first
    | with_reducible assumption
    | with_reducible intro _
    | with_reducible apply kept_ite
    | with_reducible apply State.bump_kept
    | with_reducible apply State.actTouch_kept
    | split
    | dsimp only)

theorem State.heldTouchActs_kept (s : State) (h : Kept q n s) :
    Kept q n (State.heldTouchActs s) := by
  unfold State.heldTouchActs
  repeat' (first
    | with_reducible assumption
    | with_reducible intro _
    | with_reducible apply kept_ite
    | with_reducible apply State.actTouch_kept
    | split
    | dsimp only)

theorem State.lidTimers_kept (s : State) (h : Kept q n s) :
    Kept q n (State.lidTimers s) := by
  unfold State.lidTimers
  repeat' (first
    | with_reducible assumption
    | with_reducible intro _
    | with_reducible apply kept_ite
    | with_reducible apply State.arm_kept
    | split
    | dsimp only)

theorem State.lidIdle_kept (s : State) (h : Kept q n s) :
    Kept q n (State.lidIdle s) := by
  unfold State.lidIdle
  repeat' (first
    | with_reducible assumption
    | with_reducible intro _
    | with_reducible apply kept_ite
    | with_reducible apply State.lidEnter_kept
    | with_reducible apply State.lidTimers_kept
    | split
    | dsimp only)

theorem State.lidCovered_kept (s : State) (h : Kept q n s) :
    Kept q n (State.lidCovered s) := by
  unfold State.lidCovered
  repeat' (first
    | with_reducible assumption
    | with_reducible intro _
    | with_reducible apply kept_ite
    | with_reducible apply State.faultRow_kept
    | with_reducible apply State.lidEnter_kept
    | with_reducible apply State.lidTimers_kept
    | split
    | dsimp only)

theorem State.countCovered_kept (s : State) (h : Kept q n s) :
    Kept q n (State.countCovered s) := by
  unfold State.countCovered
  repeat' (first
    | with_reducible assumption
    | with_reducible intro _
    | with_reducible apply kept_ite
    | with_reducible apply State.bump_kept
    | split
    | dsimp only)

theorem State.lidUncovered_kept (s : State) (h : Kept q n s) :
    Kept q n (State.lidUncovered s) := by
  unfold State.lidUncovered
  repeat' (first
    | with_reducible assumption
    | with_reducible intro _
    | with_reducible apply kept_ite
    | with_reducible apply State.log_kept
    | with_reducible apply State.lidRetakeNow_kept
    | with_reducible apply State.countCovered_kept
    | split
    | dsimp only)

theorem State.lidSum_kept (s : State) (r : Nat) (h : Kept q n s) :
    Kept q n (State.lidSum s r) := by
  unfold State.lidSum
  repeat' (first
    | with_reducible assumption
    | with_reducible intro _
    | with_reducible apply kept_ite
    | split
    | dsimp only)

theorem State.lidHeldDown_kept (s : State) (h : Kept q n s) :
    Kept q n (State.lidHeldDown s) := by
  unfold State.lidHeldDown
  repeat' (first
    | with_reducible assumption
    | with_reducible intro _
    | with_reducible apply kept_ite
    | with_reducible apply State.lidCovered_kept
    | split
    | dsimp only)

theorem State.lidReleased_kept (s : State) (h : Kept q n s) :
    Kept q n (State.lidReleased s) := by
  unfold State.lidReleased
  repeat' (first
    | with_reducible assumption
    | with_reducible intro _
    | with_reducible apply kept_ite
    | with_reducible apply State.validTouch_kept
    | with_reducible apply State.lidIdle_kept
    | with_reducible apply State.lidUncovered_kept
    | split
    | dsimp only)

theorem State.lidPresent_kept (s : State) (delta : Int) (h : Kept q n s) :
    Kept q n (State.lidPresent s delta) := by
  unfold State.lidPresent
  repeat' (first
    | with_reducible assumption
    | with_reducible intro _
    | with_reducible apply kept_ite
    | with_reducible apply State.lidHeldDown_kept
    | with_reducible apply State.lidReleased_kept
    | split
    | dsimp only)

theorem State.lidIdleSample_kept (s : State) (r : Nat) (delta : Int) (h : Kept q n s) :
    Kept q n (State.lidIdleSample s r delta) := by
  unfold State.lidIdleSample
  repeat' (first
    | with_reducible assumption
    | with_reducible intro _
    | with_reducible apply kept_ite
    | with_reducible apply State.arm_kept
    | with_reducible apply State.lidEnter_kept
    | with_reducible apply State.lidRetakeNow_kept
    | with_reducible apply State.lidSum_kept
    | split
    | dsimp only)

theorem State.lidJudge_kept (s : State) (r : Nat) (h : Kept q n s) :
    Kept q n (State.lidJudge s r) := by
  unfold State.lidJudge
  repeat' (first
    | with_reducible assumption
    | with_reducible intro _
    | with_reducible apply kept_ite
    | with_reducible apply State.countCovered_kept
    | with_reducible apply State.lidSum_kept
    | with_reducible apply State.lidPresent_kept
    | with_reducible apply State.lidIdleSample_kept
    | split
    | dsimp only)

theorem State.lidRange_kept (s : State) (r : Nat) (h : Kept q n s) :
    Kept q n (State.lidRange s r) := by
  unfold State.lidRange
  repeat' (first
    | with_reducible assumption
    | with_reducible intro _
    | with_reducible apply kept_ite
    | with_reducible apply State.disarm_kept
    | with_reducible apply State.arm_kept
    | split
    | dsimp only)

theorem execLidSample_kept (reading : BitVec 32) (s : State) (h : Kept q n s) :
    KeptOut q n (execLidSample reading s) := by
  unfold execLidSample
  repeat' (first
    | with_reducible assumption
    | with_reducible apply keptOut_next
    | with_reducible intro _
    | with_reducible apply kept_ite
    | with_reducible apply State.set_kept
    | with_reducible apply State.elapse_kept
    | with_reducible apply State.when_kept
    | with_reducible apply State.heldTouchActs_kept
    | with_reducible apply State.lidTimers_kept
    | with_reducible apply State.lidJudge_kept
    | with_reducible apply State.lidRange_kept
    | split
    | dsimp only)

theorem execLidCover_kept (s : State) (h : Kept q n s) :
    KeptOut q n (execLidCover s) := by
  unfold execLidCover
  repeat' (first
    | with_reducible assumption
    | with_reducible apply keptOut_next
    | with_reducible intro _
    | with_reducible apply kept_ite
    | with_reducible apply State.onTimer_kept
    | with_reducible apply State.lidCovered_kept
    | split
    | dsimp only)

theorem execLidTrack_kept (s : State) (h : Kept q n s) :
    KeptOut q n (execLidTrack s) := by
  unfold execLidTrack
  repeat' (first
    | with_reducible assumption
    | with_reducible apply keptOut_next
    | with_reducible intro _
    | with_reducible apply kept_ite
    | with_reducible apply State.set_kept
    | with_reducible apply State.onTimer_kept
    | with_reducible apply State.lidTimers_kept
    | split
    | dsimp only)

theorem execLidRetakeDone_kept (s : State) (h : Kept q n s) :
    KeptOut q n (execLidRetakeDone s) := by
  unfold execLidRetakeDone
  repeat' (first
    | with_reducible assumption
    | with_reducible apply keptOut_next
    | with_reducible intro _
    | with_reducible apply kept_ite
    | with_reducible apply State.set_kept
    | with_reducible apply State.when_kept
    | with_reducible apply State.lidIdle_kept
    | split
    | dsimp only)

theorem execLidBaselineStore_kept (s : State) (h : Kept q n s) :
    KeptOut q n (execLidBaselineStore s) := by
  unfold execLidBaselineStore
  repeat' (first
    | with_reducible assumption
    | with_reducible apply keptOut_next
    | with_reducible intro _
    | with_reducible apply kept_ite
    | with_reducible apply State.set_kept
    | with_reducible apply State.onTimer_kept
    | with_reducible apply State.lidTimers_kept
    | split
    | dsimp only)

theorem execLidStartCheck_kept (s : State) (h : Kept q n s) :
    KeptOut q n (execLidStartCheck s) := by
  unfold execLidStartCheck
  repeat' (first
    | with_reducible assumption
    | with_reducible apply keptOut_next
    | with_reducible intro _
    | with_reducible apply kept_ite
    | with_reducible apply State.set_kept
    | with_reducible apply State.when_kept
    | with_reducible apply State.faultRow_kept
    | with_reducible apply State.lidRetakeNow_kept
    | with_reducible apply State.lidIdle_kept
    | with_reducible apply State.lidCovered_kept
    | split
    | dsimp only)

theorem execLidFault_kept (s : State) (h : Kept q n s) :
    KeptOut q n (execLidFault s) := by
  unfold execLidFault
  repeat' (first
    | with_reducible assumption
    | with_reducible apply keptOut_next
    | with_reducible intro _
    | with_reducible apply kept_ite
    | with_reducible apply State.when_kept
    | with_reducible apply State.faultRow_kept
    | with_reducible apply State.lidEnter_kept
    | split
    | dsimp only)

theorem execLidFaultResume_kept (s : State) (h : Kept q n s) :
    KeptOut q n (execLidFaultResume s) := by
  unfold execLidFaultResume
  repeat' (first
    | with_reducible assumption
    | with_reducible apply keptOut_next
    | with_reducible intro _
    | with_reducible apply kept_ite
    | with_reducible apply State.onTimer_kept
    | with_reducible apply State.lidRetakeNow_kept
    | split
    | dsimp only)

end Sys2Proof.Machine
end

