-- ==== Sys2Proof/Laws/KeptPower.lean ====
section
/-!
SUPPORT. What the functions of Sys2Proof/Machine/Power.lean keep, one lemma for each of them (Laws/Kept.lean says what).
-/

namespace Sys2Proof.Machine

set_option linter.unusedTactic false
set_option linter.unreachableTactic false
set_option linter.unusedVariables false

open Sys2Proof

variable {q : List Instr} {n : Floor}

theorem State.powerLoss_kept (s : State) (h : Kept q n s) : Kept q n s.powerLoss := by
  unfold State.powerLoss
  refine kept_mems (fun hm => ?_) (State.draw_kept _ (State.cutEntry_kept _ (State.cutRecord_kept _ h)))
  simp only [Mems.wf, Bool.and_eq_true] at hm ⊢
  exact ⟨⟨⟨⟨⟨⟨⟨hm.1.1.1.1.1.1.1, hm.1.1.1.1.1.1.2⟩, hm.1.1.1.1.1.2⟩, rfl⟩, rfl⟩, rfl⟩, hm.1.2⟩, hm.2⟩

theorem execBrownOut_kept (s : State) (h : Kept q n s) :
    KeptOut q n (execBrownOut s) := by
  unfold execBrownOut
  repeat' (first
    | with_reducible assumption
    | with_reducible apply keptOut_next
    | with_reducible intro _
    | with_reducible apply kept_ite
    | with_reducible apply State.when_kept
    | with_reducible apply State.powerLoss_kept
    | split
    | dsimp only)

theorem State.powerOnChecks_kept (s : State) (h : Kept q n s) :
    Kept q n (State.powerOnChecks s) := by
  unfold State.powerOnChecks
  repeat' (first
    | with_reducible assumption
    | with_reducible intro _
    | with_reducible apply kept_ite
    | with_reducible apply State.set_kept
    | with_reducible apply State.faultRow_kept
    | split
    | dsimp only)

theorem State.powerOnTimers_kept (s : State) (h : Kept q n s) :
    Kept q n (State.powerOnTimers s) := by
  unfold State.powerOnTimers
  repeat' (first
    | with_reducible assumption
    | with_reducible intro _
    | with_reducible apply kept_ite
    | with_reducible apply State.set_kept
    | with_reducible apply State.arm_kept
    | split
    | dsimp only)

theorem State.sampleTmode_kept (s : State) (h : Kept q n s) :
    Kept q n (State.sampleTmode s) := by
  unfold State.sampleTmode
  repeat' (first
    | with_reducible assumption
    | with_reducible intro _
    | with_reducible apply kept_ite
    | with_reducible apply kept_ite_snd
    | with_reducible apply State.draw_kept
    | split
    | dsimp only)

theorem execVddAonRise_kept (s : State) (h : Kept q n s) :
    KeptOut q n (execVddAonRise s) := by
  unfold execVddAonRise
  repeat' (first
    | with_reducible assumption
    | with_reducible apply keptOut_next
    | with_reducible intro _
    | with_reducible apply kept_ite
    | with_reducible apply State.set_kept
    | with_reducible apply State.when_kept
    | with_reducible apply State.enterState_kept
    | with_reducible apply State.powerOnChecks_kept
    | with_reducible apply State.powerOnTimers_kept
    | with_reducible apply State.sampleTmode_kept
    | split
    | dsimp only)

theorem execVddioALevelSelect_kept (above25 : Bool) (s : State) (h : Kept q n s) :
    KeptOut q n (execVddioALevelSelect above25 s) := by
  unfold execVddioALevelSelect
  repeat' (first
    | with_reducible assumption
    | with_reducible apply keptOut_next
    | with_reducible intro _
    | with_reducible apply kept_ite
    | with_reducible apply State.when_kept
    | split
    | dsimp only)

theorem State.cutTransaction_kept (s : State) (h : Kept q n s) :
    Kept q n (State.cutTransaction s) := by
  unfold State.cutTransaction
  repeat' (first
    | with_reducible assumption
    | with_reducible intro _
    | with_reducible apply kept_ite
    | with_reducible apply State.hostFlag_kept
    | split
    | dsimp only)

theorem execHostCellSupplySwitch_kept (w : CellSwitch) (s : State) (h : Kept q n s) :
    KeptOut q n (execHostCellSupplySwitch w s) := by
  unfold execHostCellSupplySwitch
  repeat' (first
    | with_reducible assumption
    | with_reducible apply keptOut_next
    | with_reducible intro _
    | with_reducible apply kept_ite
    | with_reducible apply State.when_kept
    | with_reducible apply State.cutTransaction_kept
    | split
    | dsimp only)

theorem execRstNLow_kept (s : State) (h : Kept q n s) :
    KeptOut q n (execRstNLow s) := by
  unfold execRstNLow
  repeat' (first
    | with_reducible assumption
    | with_reducible apply keptOut_next
    | with_reducible intro _
    | with_reducible apply kept_ite
    | with_reducible apply State.when_kept
    | with_reducible apply State.rstInDormant_kept
    | with_reducible apply State.restart_kept
    | split
    | dsimp only)

theorem execPowerOnAutostart_kept (s : State) (h : Kept q n s) :
    KeptOut q n (execPowerOnAutostart s) := by
  unfold execPowerOnAutostart
  repeat' (first
    | with_reducible assumption
    | with_reducible apply keptOut_next
    | with_reducible intro _
    | with_reducible apply kept_ite
    | with_reducible apply State.when_kept
    | with_reducible apply State.beginStart_kept
    | split
    | dsimp only)

theorem execHoldupRestartDelayExpiry_kept (s : State) (h : Kept q n s) :
    KeptOut q n (execHoldupRestartDelayExpiry s) := by
  unfold execHoldupRestartDelayExpiry
  repeat' (first
    | with_reducible assumption
    | with_reducible apply keptOut_next
    | with_reducible intro _
    | with_reducible apply kept_ite
    | with_reducible apply State.onTimer_kept
    | with_reducible apply State.beginStart_kept
    | split
    | dsimp only)

theorem execRestartDelayExpiry_kept (s : State) (h : Kept q n s) :
    KeptOut q n (execRestartDelayExpiry s) := by
  unfold execRestartDelayExpiry
  repeat' (first
    | with_reducible assumption
    | with_reducible apply keptOut_next
    | with_reducible intro _
    | with_reducible apply kept_ite
    | with_reducible apply State.onTimer_kept
    | with_reducible apply State.wakeStart_kept
    | split
    | dsimp only)

theorem execWakeTimerExpiry_kept (s : State) (h : Kept q n s) :
    KeptOut q n (execWakeTimerExpiry s) := by
  unfold execWakeTimerExpiry
  repeat' (first
    | with_reducible assumption
    | with_reducible apply keptOut_next
    | with_reducible intro _
    | with_reducible apply kept_ite
    | with_reducible apply State.onTimer_kept
    | with_reducible apply State.beginStart_kept
    | split
    | dsimp only)

theorem execFieldPortWake_kept (p : Port) (s : State) (h : Kept q n s) :
    KeptOut q n (execFieldPortWake p s) := by
  unfold execFieldPortWake
  repeat' (first
    | with_reducible assumption
    | with_reducible apply keptOut_next
    | with_reducible intro _
    | with_reducible apply kept_ite
    | with_reducible apply State.when_kept
    | with_reducible apply State.beginStart_kept
    | split
    | dsimp only)

theorem execServiceTimeout_kept (s : State) (h : Kept q n s) :
    KeptOut q n (execServiceTimeout s) := by
  unfold execServiceTimeout
  repeat' (first
    | with_reducible assumption
    | with_reducible apply keptOut_next
    | with_reducible intro _
    | with_reducible apply kept_ite
    | with_reducible apply State.onTimer_kept
    | with_reducible apply State.when_kept
    | with_reducible apply State.serviceOver_kept
    | split
    | dsimp only)

theorem execHoldupComplete_kept (s : State) (h : Kept q n s) :
    KeptOut q n (execHoldupComplete s) := by
  unfold execHoldupComplete
  repeat' (first
    | with_reducible assumption
    | with_reducible apply keptOut_next
    | with_reducible intro _
    | with_reducible apply kept_ite
    | with_reducible apply State.set_kept
    | with_reducible apply State.arm_kept
    | with_reducible apply State.when_kept
    | with_reducible apply State.enterDormant_kept
    | with_reducible apply State.actHeldRst_kept
    | split
    | dsimp only)

theorem execRefInFirstPresent_kept (s : State) (h : Kept q n s) :
    KeptOut q n (execRefInFirstPresent s) := by
  unfold execRefInFirstPresent
  repeat' (first
    | with_reducible assumption
    | with_reducible apply keptOut_next
    | with_reducible intro _
    | with_reducible apply kept_ite
    | with_reducible apply State.set_kept
    | with_reducible apply State.when_kept
    | with_reducible apply State.warmRefBack_kept
    | with_reducible apply State.beginRelock_kept
    | split
    | dsimp only)

theorem execRefInReturn_kept (s : State) (h : Kept q n s) :
    KeptOut q n (execRefInReturn s) := by
  unfold execRefInReturn
  repeat' (first
    | with_reducible assumption
    | with_reducible apply keptOut_next
    | with_reducible intro _
    | with_reducible apply kept_ite
    | with_reducible apply State.set_kept
    | with_reducible apply State.disarm_kept
    | with_reducible apply State.when_kept
    | with_reducible apply State.log_kept
    | with_reducible apply State.warmRefBack_kept
    | with_reducible apply State.beginRelock_kept
    | split
    | dsimp only)

theorem execLockDeclared_kept (window1 window2 : Nat) (s : State) (h : Kept q n s) :
    KeptOut q n (execLockDeclared window1 window2 s) := by
  unfold execLockDeclared
  repeat' (first
    | with_reducible assumption
    | with_reducible apply keptOut_next
    | with_reducible intro _
    | with_reducible apply kept_ite
    | with_reducible apply State.disarm_kept
    | with_reducible apply State.when_kept
    | split
    | dsimp only)

theorem execClockMuxToPll_kept (s : State) (h : Kept q n s) :
    KeptOut q n (execClockMuxToPll s) := by
  unfold execClockMuxToPll
  repeat' (first
    | with_reducible assumption
    | with_reducible apply keptOut_next
    | with_reducible intro _
    | with_reducible apply kept_ite
    | with_reducible apply State.set_kept
    | with_reducible apply State.bump_kept
    | with_reducible apply State.when_kept
    | with_reducible apply State.resumeSeq_kept
    | with_reducible apply State.leaveRestricted_kept
    | with_reducible apply State.enterState_kept
    | with_reducible apply State.endServiceSessions_kept
    | split
    | dsimp only)

theorem State.relockFailed_kept (s : State) (h : Kept q n s) :
    Kept q n (State.relockFailed s) := by
  unfold State.relockFailed
  repeat' (first
    | with_reducible assumption
    | with_reducible intro _
    | with_reducible apply kept_ite
    | with_reducible apply State.set_kept
    | with_reducible apply State.arm_kept
    | with_reducible apply State.restart_kept
    | with_reducible apply State.endRelock_kept
    | with_reducible apply State.fallToStandby_kept
    | split
    | dsimp only)

theorem execRelockTimeout_kept (lastCount : Nat) (s : State) (h : Kept q n s) :
    KeptOut q n (execRelockTimeout lastCount s) := by
  unfold execRelockTimeout
  repeat' (first
    | with_reducible assumption
    | with_reducible apply keptOut_next
    | with_reducible intro _
    | with_reducible apply kept_ite
    | with_reducible apply State.onTimer_kept
    | with_reducible apply State.faultRow_kept
    | with_reducible apply State.relockFailed_kept
    | split
    | dsimp only)

theorem execRelockRetry_kept (s : State) (h : Kept q n s) :
    KeptOut q n (execRelockRetry s) := by
  unfold execRelockRetry
  repeat' (first
    | with_reducible assumption
    | with_reducible apply keptOut_next
    | with_reducible intro _
    | with_reducible apply kept_ite
    | with_reducible apply State.onTimer_kept
    | with_reducible apply State.beginRelock_kept
    | split
    | dsimp only)

theorem execDroopStretch_kept (s : State) (h : Kept q n s) :
    KeptOut q n (execDroopStretch s) := by
  unfold execDroopStretch
  repeat' (first
    | with_reducible assumption
    | with_reducible apply keptOut_next
    | with_reducible intro _
    | with_reducible apply kept_ite
    | with_reducible apply State.bump_kept
    | with_reducible apply State.arm_kept
    | with_reducible apply State.when_kept
    | with_reducible apply State.flag_kept
    | split
    | dsimp only)

theorem execStretchRelease_kept (s : State) (h : Kept q n s) :
    KeptOut q n (execStretchRelease s) := by
  unfold execStretchRelease
  repeat' (first
    | with_reducible assumption
    | with_reducible apply keptOut_next
    | with_reducible intro _
    | with_reducible apply kept_ite
    | with_reducible apply State.set_kept
    | with_reducible apply State.disarm_kept
    | split
    | dsimp only)

theorem execStretchLong_kept (s00mV : BitVec 16) (s : State) (h : Kept q n s) :
    KeptOut q n (execStretchLong s00mV s) := by
  unfold execStretchLong
  repeat' (first
    | with_reducible assumption
    | with_reducible apply keptOut_next
    | with_reducible intro _
    | with_reducible apply kept_ite
    | with_reducible apply State.set_kept
    | with_reducible apply State.onTimer_kept
    | with_reducible apply State.faultRow_kept
    | with_reducible apply State.hardMute_kept
    | split
    | dsimp only)

theorem State.trimLane_kept (s : State) (n' : Nat) (h : Kept q n s) :
    Kept q n (State.trimLane s n') := by
  unfold State.trimLane
  repeat' (first
    | with_reducible assumption
    | with_reducible intro _
    | with_reducible apply kept_ite
    | with_reducible apply State.set_kept
    | with_reducible apply State.setI_kept
    | with_reducible apply State.log_kept
    | with_reducible apply State.faultRow_kept
    | with_reducible apply State.setLane_kept
    | split
    | dsimp only)

theorem execAgingTrim_kept (growth : BitVec 16) (s : State) (h : Kept q n s) :
    KeptOut q n (execAgingTrim growth s) := by
  unfold execAgingTrim
  repeat' (first
    | with_reducible assumption
    | with_reducible apply keptOut_next
    | with_reducible intro _
    | with_reducible apply kept_ite
    | with_reducible apply State.set_kept
    | with_reducible apply State.when_kept
    | with_reducible apply State.log_kept
    | with_reducible apply State.faultRow_kept
    | with_reducible apply State.trimLane_kept
    | with_reducible apply kept_foldl
    | split
    | dsimp only)

theorem State.rollBack_kept (s : State) (h : Kept q n s) :
    Kept q n (State.rollBack s) := by
  unfold State.rollBack
  repeat' (first
    | with_reducible assumption
    | with_reducible intro _
    | with_reducible apply kept_ite
    | with_reducible apply State.set_kept
    | with_reducible apply State.bump_kept
    | with_reducible apply State.faultRow_kept
    | split
    | dsimp only)

theorem State.escalate_kept (s : State) (c : CoreId) (h : Kept q n s) :
    Kept q n (State.escalate s c) := by
  unfold State.escalate
  repeat' (first
    | with_reducible assumption
    | with_reducible intro _
    | with_reducible apply kept_ite
    | with_reducible apply State.set_kept
    | with_reducible apply State.beginShutdown_kept
    | with_reducible apply State.restart_kept
    | with_reducible apply State.rollBack_kept
    | split
    | dsimp only)

theorem State.noteExpiry_kept (s : State) (c : CoreId) (counter : Nat) (h : Kept q n s) :
    Kept q n (State.noteExpiry s c counter).1 := by
  unfold State.noteExpiry
  repeat' (first
    | with_reducible assumption
    | with_reducible intro _
    | with_reducible apply kept_ite
    | with_reducible apply kept_ite_fst
    | with_reducible apply State.bump_kept
    | with_reducible apply State.arm_kept
    | with_reducible apply State.log_kept
    | split
    | dsimp only)

theorem execPressWatchdogExpiry_kept (s : State) (h : Kept q n s) :
    KeptOut q n (execPressWatchdogExpiry s) := by
  unfold execPressWatchdogExpiry
  repeat' (first
    | with_reducible assumption
    | with_reducible apply keptOut_next
    | with_reducible intro _
    | with_reducible apply kept_ite
    | with_reducible apply kept_ite_fst
    | with_reducible apply State.onTimer_kept
    | with_reducible apply State.supervised_kept
    | with_reducible apply State.hardMute_kept
    | with_reducible apply State.paOff_kept
    | with_reducible apply State.depart_kept
    | with_reducible apply State.escalate_kept
    | with_reducible apply State.noteExpiry_kept
    | split
    | dsimp only)

theorem State.vintnerReset_kept (s : State) (h : Kept q n s) :
    Kept q n (State.vintnerReset s) := by
  unfold State.vintnerReset
  repeat' (first
    | with_reducible assumption
    | with_reducible intro _
    | with_reducible apply kept_ite
    | split
    | dsimp only)

theorem State.corkReset_kept (s : State) (h : Kept q n s) :
    Kept q n (State.corkReset s) := by
  unfold State.corkReset
  repeat' (first
    | with_reducible assumption
    | with_reducible intro _
    | with_reducible apply kept_ite
    | with_reducible apply State.endSessions_kept
    | with_reducible apply State.dropSigning_kept
    | split
    | dsimp only)

theorem execCoreWatchdogExpiry_kept (c : SideCore) (s : State) (h : Kept q n s) :
    KeptOut q n (execCoreWatchdogExpiry c s) := by
  unfold execCoreWatchdogExpiry
  repeat' (first
    | with_reducible assumption
    | with_reducible apply keptOut_next
    | with_reducible intro _
    | with_reducible apply kept_ite
    | with_reducible apply kept_ite_fst
    | with_reducible apply State.onTimer_kept
    | with_reducible apply State.supervised_kept
    | with_reducible apply State.escalate_kept
    | with_reducible apply State.noteExpiry_kept
    | with_reducible apply State.vintnerReset_kept
    | with_reducible apply State.corkReset_kept
    | split
    | dsimp only)

theorem execLockstepMismatch_kept (cycle signals : BitVec 32) (s : State) (h : Kept q n s) :
    KeptOut q n (execLockstepMismatch cycle signals s) := by
  unfold execLockstepMismatch
  repeat' (first
    | with_reducible assumption
    | with_reducible apply keptOut_next
    | with_reducible intro _
    | with_reducible apply kept_ite
    | with_reducible apply State.arm_kept
    | with_reducible apply State.when_kept
    | with_reducible apply State.hardMute_kept
    | with_reducible apply State.paOff_kept
    | split
    | dsimp only)

theorem State.resumeSupervision_kept (s : State) (h : Kept q n s) :
    Kept q n (State.resumeSupervision s) := by
  unfold State.resumeSupervision
  repeat' (first
    | with_reducible assumption
    | with_reducible intro _
    | with_reducible apply kept_ite
    | with_reducible apply State.actHeldRst_kept
    | with_reducible apply State.goDown_kept
    | with_reducible apply State.restart_kept
    | with_reducible apply State.countPg_kept
    | with_reducible apply kept_foldl
    | split
    | dsimp only)

theorem execLockstepRecovery_kept (s : State) (h : Kept q n s) :
    KeptOut q n (execLockstepRecovery s) := by
  unfold execLockstepRecovery
  repeat' (first
    | with_reducible assumption
    | with_reducible apply keptOut_next
    | with_reducible intro _
    | with_reducible apply kept_ite
    | with_reducible apply State.onTimer_kept
    | with_reducible apply State.faultRow_kept
    | with_reducible apply State.resumeSupervision_kept
    | split
    | dsimp only)

end Sys2Proof.Machine
end

