-- ==== Sys2Proof/Laws/KeptTwin.lean ====
section
/-!
SUPPORT. What the functions of Sys2Proof/Machine/Twin.lean keep, one lemma for each of them (Laws/Kept.lean says what).
-/

namespace Sys2Proof.Machine

set_option linter.unusedTactic false
set_option linter.unreachableTactic false
set_option linter.unusedVariables false

open Sys2Proof

variable {q : List Instr} {n : Floor}

theorem State.onFrame_kept (s : State) (seq : Nat) (f : State → State) (hf : ∀ u, Kept q n u → Kept q n (f u)) (h : Kept q n s) :
    Kept q n (State.onFrame s seq f) := by
  unfold State.onFrame
  repeat' (first
    | with_reducible assumption
    | with_reducible intro _
    | with_reducible apply kept_ite
    | with_reducible apply hf
    | with_reducible apply State.linkStat_kept
    | split
    | dsimp only)

theorem execJensiacBadFrame_kept (why : BadFrame) (s : State) (h : Kept q n s) :
    KeptOut q n (execJensiacBadFrame why s) := by
  unfold execJensiacBadFrame
  repeat' (first
    | with_reducible assumption
    | with_reducible apply keptOut_next
    | with_reducible intro _
    | with_reducible apply kept_ite
    | with_reducible apply State.when_kept
    | with_reducible apply State.linkStat_kept
    | split
    | dsimp only)

theorem State.beginHandshake_kept (s : State) (h : Kept q n s) :
    Kept q n (State.beginHandshake s) := by
  unfold State.beginHandshake
  repeat' (first
    | with_reducible assumption
    | with_reducible intro _
    | with_reducible apply kept_ite
    | with_reducible apply kept_ite_snd
    | with_reducible apply State.set_kept
    | with_reducible apply State.arm_kept
    | with_reducible apply State.drawRandom_kept
    | split
    | dsimp only)

theorem execLinkCharactersAppear_kept (s : State) (h : Kept q n s) :
    KeptOut q n (execLinkCharactersAppear s) := by
  unfold execLinkCharactersAppear
  repeat' (first
    | with_reducible assumption
    | with_reducible apply keptOut_next
    | with_reducible intro _
    | with_reducible apply kept_ite
    | with_reducible apply State.when_kept
    | with_reducible apply State.beginHandshake_kept
    | split
    | dsimp only)

theorem execHello_kept (s : State) (h : Kept q n s) :
    KeptOut q n (execHello s) := by
  unfold execHello
  repeat' (first
    | with_reducible assumption
    | with_reducible apply keptOut_next
    | with_reducible intro _
    | with_reducible apply kept_ite
    | with_reducible apply State.arm_kept
    | with_reducible apply State.onTimer_kept
    | with_reducible apply State.sendLink_kept
    | split
    | dsimp only)

theorem State.takeoverRequest_kept (s : State) (h : Kept q n s) :
    Kept q n (State.takeoverRequest s) := by
  unfold State.takeoverRequest
  repeat' (first
    | with_reducible assumption
    | with_reducible intro _
    | with_reducible apply kept_ite
    | with_reducible apply State.towardsActive_kept
    | with_reducible apply State.leaveService_kept
    | split
    | dsimp only)

theorem State.adoptNet_kept (s : State) (i : ImageSlot) (h : Kept q n s) :
    Kept q n (State.adoptNet s i) := by
  unfold State.adoptNet
  repeat' (first
    | with_reducible assumption
    | with_reducible intro _
    | with_reducible apply kept_ite
    | with_reducible apply State.set_kept
    | with_reducible apply State.disarm_kept
    | with_reducible apply State.arm_kept
    | with_reducible apply State.beginRelock_kept
    | with_reducible apply State.fallToStandby_kept
    | split
    | dsimp only)

theorem State.adoptPaths_kept (s : State) (i : ImageSlot) (h : Kept q n s) :
    Kept q n (State.adoptPaths s i) := by
  unfold State.adoptPaths
  repeat' (first
    | with_reducible assumption
    | with_reducible intro _
    | with_reducible apply kept_ite
    | with_reducible apply State.setPath_kept
    | with_reducible apply kept_foldl
    | split
    | dsimp only)

theorem State.adoptHints_kept (s : State) (i : ImageSlot) (h : Kept q n s) :
    Kept q n (State.adoptHints s i) := by
  unfold State.adoptHints
  repeat' (first
    | with_reducible assumption
    | with_reducible intro _
    | with_reducible apply kept_ite
    | with_reducible apply State.startCommit_kept
    | split
    | dsimp only)

theorem State.adoptBursts_kept (s : State) (i : ImageSlot) (h : Kept q n s) :
    Kept q n (State.adoptBursts s i) := by
  unfold State.adoptBursts
  repeat' (first
    | with_reducible assumption
    | with_reducible intro _
    | with_reducible apply kept_ite
    | split
    | dsimp only)

theorem State.adoptImage_kept (s : State) (h : Kept q n s) :
    Kept q n (State.adoptImage s) := by
  unfold State.adoptImage
  repeat' (first
    | with_reducible assumption
    | with_reducible intro _
    | with_reducible apply kept_ite
    | with_reducible apply State.pass_kept
    | with_reducible apply State.rackStale_kept
    | with_reducible apply State.adoptNet_kept
    | with_reducible apply State.adoptPaths_kept
    | with_reducible apply State.adoptHints_kept
    | with_reducible apply State.adoptBursts_kept
    | split
    | dsimp only)

theorem State.becomeActive_kept (s : State) (h : Kept q n s) :
    Kept q n (State.becomeActive s) := by
  unfold State.becomeActive
  repeat' (first
    | with_reducible assumption
    | with_reducible intro _
    | with_reducible apply kept_ite
    | with_reducible apply State.set_kept
    | with_reducible apply State.bump_kept
    | with_reducible apply State.disarm_kept
    | with_reducible apply State.arm_kept
    | with_reducible apply State.notify_kept
    | with_reducible apply State.takeoverRequest_kept
    | with_reducible apply State.adoptImage_kept
    | split
    | dsimp only)

theorem State.claim_kept (s : State) (h : Kept q n s) :
    Kept q n (State.claim s) := by
  unfold State.claim
  repeat' (first
    | with_reducible assumption
    | with_reducible intro _
    | with_reducible apply kept_ite
    | with_reducible apply State.arm_kept
    | with_reducible apply State.becomeActive_kept
    | split
    | dsimp only)

theorem State.refuseClaim_kept (s : State) (h : Kept q n s) :
    Kept q n (State.refuseClaim s) := by
  unfold State.refuseClaim
  repeat' (first
    | with_reducible assumption
    | with_reducible intro _
    | with_reducible apply kept_ite
    | with_reducible apply State.set_kept
    | with_reducible apply State.arm_kept
    | with_reducible apply State.faultRow_kept
    | with_reducible apply State.abandonBurst_kept
    | with_reducible apply State.beginRelock_kept
    | with_reducible apply State.fallToStandby_kept
    | split
    | dsimp only)

theorem State.linkUp_kept (s : State) (h : Kept q n s) :
    Kept q n (State.linkUp s) := by
  unfold State.linkUp
  repeat' (first
    | with_reducible assumption
    | with_reducible intro _
    | with_reducible apply kept_ite
    | with_reducible apply State.set_kept
    | with_reducible apply State.disarm_kept
    | with_reducible apply State.arm_kept
    | with_reducible apply State.claim_kept
    | split
    | dsimp only)

theorem State.dropLink_kept (s : State) (h : Kept q n s) :
    Kept q n (State.dropLink s) := by
  unfold State.dropLink
  repeat' (first
    | with_reducible assumption
    | with_reducible intro _
    | with_reducible apply kept_ite
    | with_reducible apply State.set_kept
    | with_reducible apply State.disarm_kept
    | with_reducible apply State.arm_kept
    | with_reducible apply State.faultRow_kept
    | split
    | dsimp only)

theorem State.tagFail_kept (s : State) (h : Kept q n s) :
    Kept q n (State.tagFail s) := by
  unfold State.tagFail
  repeat' (first
    | with_reducible assumption
    | with_reducible intro _
    | with_reducible apply kept_ite
    | with_reducible apply State.set_kept
    | with_reducible apply State.disarm_kept
    | with_reducible apply State.arm_kept
    | with_reducible apply State.faultRow_kept
    | with_reducible apply State.linkStat_kept
    | with_reducible apply State.dropLink_kept
    | split
    | dsimp only)

theorem execAuthFailRestart_kept (s : State) (h : Kept q n s) :
    KeptOut q n (execAuthFailRestart s) := by
  unfold execAuthFailRestart
  repeat' (first
    | with_reducible assumption
    | with_reducible apply keptOut_next
    | with_reducible intro _
    | with_reducible apply kept_ite
    | with_reducible apply State.onTimer_kept
    | with_reducible apply State.beginHandshake_kept
    | split
    | dsimp only)

theorem State.takeHello_kept (s : State) (nonce : Nat) (preferred sel : Bool) (h : Kept q n s) :
    Kept q n (State.takeHello s nonce preferred sel) := by
  unfold State.takeHello
  repeat' (first
    | with_reducible assumption
    | with_reducible intro _
    | with_reducible apply kept_ite
    | with_reducible apply State.sendLink_kept
    | split
    | dsimp only)

theorem execHelloReceive_kept (seq : BitVec 16) (serial expected : BitVec 64) (nonce : BitVec 128) (preferred sel : Bool) (s : State) (h : Kept q n s) :
    KeptOut q n (execHelloReceive seq serial expected nonce preferred sel s) := by
  unfold execHelloReceive
  repeat' (first
    | with_reducible assumption
    | with_reducible apply keptOut_next
    | with_reducible intro _
    | with_reducible apply kept_ite
    | with_reducible apply State.faultRow_kept
    | with_reducible apply State.onFrame_kept
    | with_reducible apply State.takeHello_kept
    | split
    | dsimp only)

theorem execConfirmReceive_kept (seq : BitVec 16) (tag : BitVec 128) (s : State) (h : Kept q n s) :
    KeptOut q n (execConfirmReceive seq tag s) := by
  unfold execConfirmReceive
  repeat' (first
    | with_reducible assumption
    | with_reducible apply keptOut_next
    | with_reducible intro _
    | with_reducible apply kept_ite
    | with_reducible apply State.onFrame_kept
    | with_reducible apply State.linkUp_kept
    | with_reducible apply State.tagFail_kept
    | split
    | dsimp only)

theorem State.noteReady_kept (s : State) (h : Kept q n s) :
    Kept q n (State.noteReady s) := by
  unfold State.noteReady
  repeat' (first
    | with_reducible assumption
    | with_reducible intro _
    | with_reducible apply kept_ite
    | with_reducible apply State.set_kept
    | with_reducible apply State.faultRow_kept
    | with_reducible apply State.rackStale_kept
    | split
    | dsimp only)

theorem execTwinHeartbeat_kept (s : State) (h : Kept q n s) :
    KeptOut q n (execTwinHeartbeat s) := by
  unfold execTwinHeartbeat
  repeat' (first
    | with_reducible assumption
    | with_reducible apply keptOut_next
    | with_reducible intro _
    | with_reducible apply kept_ite
    | with_reducible apply State.arm_kept
    | with_reducible apply State.onTimer_kept
    | with_reducible apply State.sendLink_kept
    | with_reducible apply State.noteReady_kept
    | split
    | dsimp only)

theorem State.validHeartbeat_kept (s : State) (b : Bytes) (h : Kept q n s) :
    Kept q n (State.validHeartbeat s b) := by
  unfold State.validHeartbeat
  repeat' (first
    | with_reducible assumption
    | with_reducible intro _
    | with_reducible apply kept_ite
    | with_reducible apply State.set_kept
    | with_reducible apply State.arm_kept
    | with_reducible apply State.demoteIfDue_kept
    | with_reducible apply State.noteReady_kept
    | split
    | dsimp only)

theorem execTwinHeartbeatReceive_kept (seq : BitVec 16) (payload : Bytes) (s : State) (h : Kept q n s) :
    KeptOut q n (execTwinHeartbeatReceive seq payload s) := by
  unfold execTwinHeartbeatReceive
  repeat' (first
    | with_reducible assumption
    | with_reducible apply keptOut_next
    | with_reducible intro _
    | with_reducible apply kept_ite
    | with_reducible apply State.onFrame_kept
    | with_reducible apply State.tagFail_kept
    | with_reducible apply State.validHeartbeat_kept
    | split
    | dsimp only)

theorem State.takeOver_kept (s : State) (cause : Nat) (h : Kept q n s) :
    Kept q n (State.takeOver s cause) := by
  unfold State.takeOver
  repeat' (first
    | with_reducible assumption
    | with_reducible intro _
    | with_reducible apply kept_ite
    | with_reducible apply State.endDebug_kept
    | with_reducible apply State.preemptCommit_kept
    | with_reducible apply State.takeoverRequest_kept
    | with_reducible apply State.claim_kept
    | split
    | dsimp only)

theorem execTwinLinkDown_kept (s : State) (h : Kept q n s) :
    KeptOut q n (execTwinLinkDown s) := by
  unfold execTwinLinkDown
  repeat' (first
    | with_reducible assumption
    | with_reducible apply keptOut_next
    | with_reducible intro _
    | with_reducible apply kept_ite
    | with_reducible apply State.onTimer_kept
    | with_reducible apply State.beginHandshake_kept
    | with_reducible apply State.dropLink_kept
    | with_reducible apply State.takeOver_kept
    | split
    | dsimp only)

theorem execDepartingReceive_kept (seq : BitVec 16) (cause : DepartCause) (generation : BitVec 32) (s : State) (h : Kept q n s) :
    KeptOut q n (execDepartingReceive seq cause generation s) := by
  unfold execDepartingReceive
  repeat' (first
    | with_reducible assumption
    | with_reducible apply keptOut_next
    | with_reducible intro _
    | with_reducible apply kept_ite
    | with_reducible apply State.onFrame_kept
    | with_reducible apply State.takeOver_kept
    | split
    | dsimp only)

theorem execTwinSelChange_kept (high : Bool) (s : State) (h : Kept q n s) :
    KeptOut q n (execTwinSelChange high s) := by
  unfold execTwinSelChange
  repeat' (first
    | with_reducible assumption
    | with_reducible apply keptOut_next
    | with_reducible intro _
    | with_reducible apply kept_ite
    | with_reducible apply State.set_kept
    | with_reducible apply State.disarm_kept
    | with_reducible apply State.arm_kept
    | with_reducible apply State.when_kept
    | with_reducible apply State.faultRow_kept
    | with_reducible apply State.hardMute_kept
    | with_reducible apply State.becomeActive_kept
    | split
    | dsimp only)

theorem execRelayLostDemotion_kept (s : State) (h : Kept q n s) :
    KeptOut q n (execRelayLostDemotion s) := by
  unfold execRelayLostDemotion
  repeat' (first
    | with_reducible assumption
    | with_reducible apply keptOut_next
    | with_reducible intro _
    | with_reducible apply kept_ite
    | with_reducible apply State.onTimer_kept
    | with_reducible apply State.demoteIfDue_kept
    | split
    | dsimp only)

theorem execStartWaitExpiry_kept (s : State) (h : Kept q n s) :
    KeptOut q n (execStartWaitExpiry s) := by
  unfold execStartWaitExpiry
  repeat' (first
    | with_reducible assumption
    | with_reducible apply keptOut_next
    | with_reducible intro _
    | with_reducible apply kept_ite
    | with_reducible apply State.onTimer_kept
    | with_reducible apply State.claim_kept
    | split
    | dsimp only)

theorem execClaimIntervalExpiry_kept (s : State) (h : Kept q n s) :
    KeptOut q n (execClaimIntervalExpiry s) := by
  unfold execClaimIntervalExpiry
  repeat' (first
    | with_reducible assumption
    | with_reducible apply keptOut_next
    | with_reducible intro _
    | with_reducible apply kept_ite
    | with_reducible apply State.onTimer_kept
    | with_reducible apply State.claim_kept
    | split
    | dsimp only)

theorem execRelayTimeExpiry_kept (s : State) (h : Kept q n s) :
    KeptOut q n (execRelayTimeExpiry s) := by
  unfold execRelayTimeExpiry
  repeat' (first
    | with_reducible assumption
    | with_reducible apply keptOut_next
    | with_reducible intro _
    | with_reducible apply kept_ite
    | with_reducible apply State.onTimer_kept
    | with_reducible apply State.refuseClaim_kept
    | split
    | dsimp only)

theorem State.captureImage_kept (s : State) (h : Kept q n s) :
    Kept q n (State.captureImage s) := by
  unfold State.captureImage
  repeat' (first
    | with_reducible assumption
    | with_reducible intro _
    | with_reducible apply kept_ite
    | with_reducible apply State.set_kept
    | with_reducible apply State.pass_kept
    | with_reducible apply State.sendLink_kept
    | with_reducible apply kept_foldl
    | split
    | dsimp only)

theorem execRackCapture_kept (s : State) (h : Kept q n s) :
    KeptOut q n (execRackCapture s) := by
  unfold execRackCapture
  repeat' (first
    | with_reducible assumption
    | with_reducible apply keptOut_next
    | with_reducible intro _
    | with_reducible apply kept_ite
    | with_reducible apply State.arm_kept
    | with_reducible apply State.onTimer_kept
    | with_reducible apply State.captureImage_kept
    | split
    | dsimp only)

theorem State.setImage_kept (s : State) (i : ImageSlot) (h : Kept q n s) :
    Kept q n (State.setImage s i) := by
  unfold State.setImage
  repeat' (first
    | with_reducible assumption
    | with_reducible intro _
    | with_reducible apply kept_ite
    | split
    | dsimp only)

theorem execImageChunkReceive_kept (seq : BitVec 16) (generation : BitVec 32) (offset : BitVec 16) (data : Bytes) (s : State) (h : Kept q n s) :
    KeptOut q n (execImageChunkReceive seq generation offset data s) := by
  unfold execImageChunkReceive
  repeat' (first
    | with_reducible assumption
    | with_reducible apply keptOut_next
    | with_reducible intro _
    | with_reducible apply kept_ite
    | with_reducible apply State.onFrame_kept
    | with_reducible apply State.setImage_kept
    | split
    | dsimp only)

theorem State.rackWaterline_kept (s : State) (i : ImageSlot) (h : Kept q n s) :
    Kept q n (State.rackWaterline s i) := by
  unfold State.rackWaterline
  repeat' (first
    | with_reducible assumption
    | with_reducible intro _
    | with_reducible apply kept_ite
    | with_reducible apply State.publishWater_kept
    | split
    | dsimp only)

theorem State.rackSchedule_kept (s : State) (i : ImageSlot) (p : Nat) (h : Kept q n s) :
    Kept q n (State.rackSchedule s i p) := by
  unfold State.rackSchedule
  repeat' (first
    | with_reducible assumption
    | with_reducible intro _
    | with_reducible apply kept_ite
    | with_reducible apply State.lowerPoint_kept
    | with_reducible apply kept_foldl
    | split
    | dsimp only)

theorem State.answerHandover_kept (s : State) (h : Kept q n s) :
    Kept q n (State.answerHandover s) := by
  unfold State.answerHandover
  repeat' (first
    | with_reducible assumption
    | with_reducible intro _
    | with_reducible apply kept_ite
    | with_reducible apply State.sendLink_kept
    | split
    | dsimp only)

theorem State.commitImage_kept (s : State) (i : ImageSlot) (h : Kept q n s) :
    Kept q n (State.commitImage s i) := by
  unfold State.commitImage
  repeat' (first
    | with_reducible assumption
    | with_reducible intro _
    | with_reducible apply kept_ite
    | with_reducible apply State.set_kept
    | with_reducible apply State.noteReady_kept
    | with_reducible apply State.setImage_kept
    | with_reducible apply State.rackWaterline_kept
    | with_reducible apply State.rackSchedule_kept
    | with_reducible apply State.answerHandover_kept
    | with_reducible apply kept_foldl
    | split
    | dsimp only)

theorem execImageEndReceive_kept (seq : BitVec 16) (generation : BitVec 32) (length : BitVec 16) (s : State) (h : Kept q n s) :
    KeptOut q n (execImageEndReceive seq generation length s) := by
  unfold execImageEndReceive
  repeat' (first
    | with_reducible assumption
    | with_reducible apply keptOut_next
    | with_reducible intro _
    | with_reducible apply kept_ite
    | with_reducible apply State.onFrame_kept
    | with_reducible apply State.setImage_kept
    | with_reducible apply State.commitImage_kept
    | split
    | dsimp only)

theorem State.startHandover_kept (s : State) (h : Kept q n s) :
    Kept q n (State.startHandover s) := by
  unfold State.startHandover
  repeat' (first
    | with_reducible assumption
    | with_reducible intro _
    | with_reducible apply kept_ite
    | with_reducible apply State.arm_kept
    | with_reducible apply State.sendLink_kept
    | split
    | dsimp only)

theorem execHandoverRequestReceive_kept (seq : BitVec 16) (generation : BitVec 32) (s : State) (h : Kept q n s) :
    KeptOut q n (execHandoverRequestReceive seq generation s) := by
  unfold execHandoverRequestReceive
  repeat' (first
    | with_reducible assumption
    | with_reducible apply keptOut_next
    | with_reducible intro _
    | with_reducible apply kept_ite
    | with_reducible apply State.onFrame_kept
    | with_reducible apply State.answerHandover_kept
    | split
    | dsimp only)

theorem execHandoverAcceptReceive_kept (seq : BitVec 16) (generation : BitVec 32) (s : State) (h : Kept q n s) :
    KeptOut q n (execHandoverAcceptReceive seq generation s) := by
  unfold execHandoverAcceptReceive
  repeat' (first
    | with_reducible assumption
    | with_reducible apply keptOut_next
    | with_reducible intro _
    | with_reducible apply kept_ite
    | with_reducible apply State.disarm_kept
    | with_reducible apply State.hardMute_kept
    | with_reducible apply State.demote_kept
    | with_reducible apply State.onFrame_kept
    | with_reducible apply State.captureImage_kept
    | split
    | dsimp only)

theorem execHandoverTimeout_kept (s : State) (h : Kept q n s) :
    KeptOut q n (execHandoverTimeout s) := by
  unfold execHandoverTimeout
  repeat' (first
    | with_reducible assumption
    | with_reducible apply keptOut_next
    | with_reducible intro _
    | with_reducible apply kept_ite
    | with_reducible apply State.onTimer_kept
    | split
    | dsimp only)

theorem State.twinStart_kept (s : State) (h : Kept q n s) :
    Kept q n (State.twinStart s) := by
  unfold State.twinStart
  repeat' (first
    | with_reducible assumption
    | with_reducible intro _
    | with_reducible apply kept_ite
    | with_reducible apply State.set_kept
    | with_reducible apply State.arm_kept
    | split
    | dsimp only)

end Sys2Proof.Machine
end

