-- ==== Sys2Proof/Laws/KeptBoot.lean ====
section
/-!
SUPPORT. What the functions of Sys2Proof/Machine/Boot.lean keep, one lemma for each of them (Laws/Kept.lean says what).
-/

namespace Sys2Proof.Machine

set_option linter.unusedTactic false
set_option linter.unreachableTactic false
set_option linter.unusedVariables false

open Sys2Proof

variable {q : List Instr} {n : Floor}

theorem State.loadImage_kept (s : State) (h : Kept q n s) :
    Kept q n (State.loadImage s) := by
  unfold State.loadImage
  repeat' (first
    | with_reducible assumption
    | with_reducible intro _
    | with_reducible apply kept_ite
    | split
    | dsimp only)

theorem State.replayJournal_kept (s : State) (h : Kept q n s) :
    Kept q n (State.replayJournal s) := by
  unfold State.replayJournal
  repeat' (first
    | with_reducible assumption
    | with_reducible intro _
    | with_reducible apply kept_ite
    | with_reducible apply State.bump_kept
    | split
    | dsimp only)

theorem execConfigBootLoad_kept (crcA crcB : Bool) (s : State) (h : Kept q n s) :
    KeptOut q n (execConfigBootLoad crcA crcB s) := by
  unfold execConfigBootLoad
  repeat' (first
    | with_reducible assumption
    | with_reducible apply keptOut_next
    | with_reducible intro _
    | with_reducible apply kept_ite
    | with_reducible apply State.when_kept
    | with_reducible apply State.postLog_kept
    | with_reducible apply State.flag_kept
    | with_reducible apply State.faultRow_kept
    | with_reducible apply State.loadImage_kept
    | with_reducible apply State.replayJournal_kept
    | split
    | dsimp only)

theorem State.bankFailed_kept (s : State) (bank core check : Nat) (h : Kept q n s) :
    Kept q n (State.bankFailed s bank core check) := by
  unfold State.bankFailed
  repeat' (first
    | with_reducible assumption
    | with_reducible intro _
    | with_reducible apply kept_ite
    | with_reducible apply State.faultRow_kept
    | split
    | dsimp only)

theorem State.completeLifecycle_kept (s : State) (h : Kept q n s) :
    Kept q n (State.completeLifecycle s) := by
  unfold State.completeLifecycle
  repeat' (first
    | with_reducible assumption
    | with_reducible intro _
    | with_reducible apply kept_ite
    | with_reducible apply State.flag_kept
    | with_reducible apply State.vintFor_kept
    | with_reducible apply State.makeRsk_kept
    | with_reducible apply State.lifecycleRecord_kept
    | with_reducible apply kept_fuses
    | split
    | dsimp only)

theorem State.startBank_kept (s : State) (bank : Nat) (h : Kept q n s) :
    Kept q n (State.startBank s bank) := by
  unfold State.startBank
  repeat' (first
    | with_reducible assumption
    | with_reducible intro _
    | with_reducible apply kept_ite
    | with_reducible apply State.set_kept
    | with_reducible apply State.arm_kept
    | with_reducible apply State.signLate_kept
    | split
    | dsimp only)

theorem State.openRecovery_kept (s : State) (h : Kept q n s) :
    Kept q n (State.openRecovery s) := by
  unfold State.openRecovery
  repeat' (first
    | with_reducible assumption
    | with_reducible intro _
    | with_reducible apply kept_ite
    | with_reducible apply State.postLog_kept
    | with_reducible apply State.flag_kept
    | split
    | dsimp only)

theorem State.cutUpdate_kept (s : State) (h : Kept q n s) :
    Kept q n (State.cutUpdate s) := by
  unfold State.cutUpdate
  repeat' (first
    | with_reducible assumption
    | with_reducible intro _
    | with_reducible apply kept_ite
    | with_reducible apply State.set_kept
    | with_reducible apply State.faultRow_kept
    | split
    | dsimp only)

theorem State.deriveKeys_kept (s : State) (h : Kept q n s) :
    Kept q n (State.deriveKeys s) := by
  unfold State.deriveKeys
  repeat' (first
    | with_reducible assumption
    | with_reducible intro _
    | with_reducible apply kept_ite
    | split
    | dsimp only)

theorem State.checkKeys_kept (s : State) (tagFails : BitVec 6) (h : Kept q n s) :
    Kept q n (State.checkKeys s tagFails) := by
  unfold State.checkKeys
  repeat' (first
    | with_reducible assumption
    | with_reducible intro _
    | with_reducible apply kept_ite
    | with_reducible apply State.postLog_kept
    | with_reducible apply State.flag_kept
    | with_reducible apply kept_foldl
    | split
    | dsimp only)

theorem State.bootBanks_kept (s : State) (h : Kept q n s) :
    Kept q n (State.bootBanks s) := by
  unfold State.bootBanks
  repeat' (first
    | with_reducible assumption
    | with_reducible intro _
    | with_reducible apply kept_ite
    | with_reducible apply State.set_kept
    | with_reducible apply State.bump_kept
    | with_reducible apply State.bankFailed_kept
    | with_reducible apply State.startBank_kept
    | with_reducible apply State.openRecovery_kept
    | split
    | dsimp only)

theorem execSecureBoot_kept (roleTagFails : BitVec 4) (otherTagFails : BitVec 2) (s : State) (h : Kept q n s) :
    KeptOut q n (execSecureBoot roleTagFails otherTagFails s) := by
  unfold execSecureBoot
  repeat' (first
    | with_reducible assumption
    | with_reducible apply keptOut_next
    | with_reducible intro _
    | with_reducible apply kept_ite
    | with_reducible apply State.when_kept
    | with_reducible apply State.dropSigning_kept
    | with_reducible apply State.completeLifecycle_kept
    | with_reducible apply State.cutUpdate_kept
    | with_reducible apply State.deriveKeys_kept
    | with_reducible apply State.checkKeys_kept
    | with_reducible apply State.bootBanks_kept
    | split
    | dsimp only)

theorem State.pressBegins_kept (s : State) (tiuTableOk : Bool) (h : Kept q n s) :
    Kept q n (State.pressBegins s tiuTableOk) := by
  unfold State.pressBegins
  repeat' (first
    | with_reducible assumption
    | with_reducible intro _
    | with_reducible apply kept_ite
    | with_reducible apply State.set_kept
    | with_reducible apply State.arm_kept
    | with_reducible apply State.postLog_kept
    | with_reducible apply State.flag_kept
    | with_reducible apply State.newWindows_kept
    | with_reducible apply kept_foldl
    | split
    | dsimp only)

theorem State.vintnerBegins_kept (s : State) (h : Kept q n s) :
    Kept q n (State.vintnerBegins s) := by
  unfold State.vintnerBegins
  repeat' (first
    | with_reducible assumption
    | with_reducible intro _
    | with_reducible apply kept_ite
    | with_reducible apply State.arm_kept
    | split
    | dsimp only)

theorem execCoresReady_kept (tiuTableOk : Bool) (s : State) (h : Kept q n s) :
    KeptOut q n (execCoresReady tiuTableOk s) := by
  unfold execCoresReady
  repeat' (first
    | with_reducible assumption
    | with_reducible apply keptOut_next
    | with_reducible intro _
    | with_reducible apply kept_ite
    | with_reducible apply State.set_kept
    | with_reducible apply State.when_kept
    | with_reducible apply State.startDelays_kept
    | with_reducible apply State.twinStart_kept
    | with_reducible apply State.pressBegins_kept
    | with_reducible apply State.vintnerBegins_kept
    | with_reducible apply State.advanceStart_kept
    | split
    | dsimp only)

theorem execBundleConfirm_kept (s : State) (h : Kept q n s) : KeptOut q n (execBundleConfirm s) := by
  unfold execBundleConfirm
  refine keptOut_next (State.onTimer_kept _ _ _ (fun u hu => ?_) h)
  dsimp only
  apply kept_ite <;> repeat apply State.set_kept
  all_goals exact kept_counter (le_max_left _ _) hu

theorem execCounterWriteback_kept (s : State) (h : Kept q n s) :
    KeptOut q n (execCounterWriteback s) := by
  unfold execCounterWriteback
  repeat' (first
    | with_reducible assumption
    | with_reducible apply keptOut_next
    | with_reducible intro _
    | with_reducible apply kept_ite
    | with_reducible apply State.arm_kept
    | with_reducible apply State.onTimer_kept
    | with_reducible apply State.writeBack_kept
    | split
    | dsimp only)

end Sys2Proof.Machine
end

