-- ==== Sys2Proof/Laws/KeptSecurity.lean ====
section
/-!
SUPPORT. What the functions of Sys2Proof/Machine/Security.lean keep, one lemma for each of them (Laws/Kept.lean says what).
-/

namespace Sys2Proof.Machine

set_option linter.unusedTactic false
set_option linter.unreachableTactic false
set_option linter.unusedVariables false

open Sys2Proof

variable {q : List Instr} {n : Floor}

theorem State.eraseKeys_kept (s : State) (ok : Bool) (h : Kept q n s) :
    Kept q n (State.eraseKeys s ok) := by
  unfold State.eraseKeys
  repeat' (first
    | with_reducible assumption
    | with_reducible intro _
    | with_reducible apply kept_ite
    | with_reducible apply State.endSessions_kept
    | split
    | dsimp only)

theorem State.beginLifecycle_kept (s : State) (target origin : Nat) (h : Kept q n s) :
    Kept q n (State.beginLifecycle s target origin) := by
  unfold State.beginLifecycle
  repeat' (first
    | with_reducible assumption
    | with_reducible intro _
    | with_reducible apply kept_ite
    | with_reducible apply State.arm_kept
    | with_reducible apply State.endDebug_kept
    | split
    | dsimp only)

theorem State.lifecycleWrite_kept (s : State) (c : Caller) (req : Bytes) (target : Nat) (h : Kept q n s) :
    Kept q n (State.lifecycleWrite s c req target) := by
  unfold State.lifecycleWrite
  repeat' (first
    | with_reducible assumption
    | with_reducible intro _
    | with_reducible apply kept_ite
    | with_reducible apply State.abort_kept
    | with_reducible apply State.done_kept
    | with_reducible apply State.eraseKeys_kept
    | with_reducible apply State.beginLifecycle_kept
    | split
    | dsimp only)

theorem execLifecycleTransition_kept (s : State) (h : Kept q n s) :
    KeptOut q n (execLifecycleTransition s) := by
  unfold execLifecycleTransition
  repeat' (first
    | with_reducible assumption
    | with_reducible apply keptOut_next
    | with_reducible intro _
    | with_reducible apply kept_ite
    | with_reducible apply State.onTimer_kept
    | with_reducible apply State.blowLifecycle_kept
    | with_reducible apply State.restart_kept
    | split
    | dsimp only)

theorem State.keyWrite_kept (s : State) (c : Caller) (req : Bytes) (which index sub : Nat) (value : Bytes) (h : Kept q n s) :
    Kept q n (State.keyWrite s c req which index sub value) := by
  unfold State.keyWrite
  repeat' (first
    | with_reducible assumption
    | with_reducible intro _
    | with_reducible apply kept_ite
    | with_reducible apply State.sealKey_kept
    | with_reducible apply State.abort_kept
    | with_reducible apply State.done_kept
    | split
    | dsimp only)

theorem State.activity_kept (s : State) (h : Kept q n s) :
    Kept q n (State.activity s) := by
  unfold State.activity
  repeat' (first
    | with_reducible assumption
    | with_reducible intro _
    | with_reducible apply kept_ite
    | with_reducible apply State.arm_kept
    | split
    | dsimp only)

theorem State.sessionOpen_kept (s : State) (c : Caller) (req : Bytes) (role version peer nc : Nat) (h : Kept q n s) :
    Kept q n (State.sessionOpen s c req role version peer nc) := by
  unfold State.sessionOpen
  repeat' (first
    | with_reducible assumption
    | with_reducible intro _
    | with_reducible apply kept_ite
    | with_reducible apply kept_ite_snd
    | with_reducible apply State.arm_kept
    | with_reducible apply State.draw_kept
    | with_reducible apply State.drawRandom_kept
    | with_reducible apply State.abort_kept
    | with_reducible apply State.answer_kept
    | with_reducible apply State.activity_kept
    | split
    | dsimp only)

theorem State.handshakeFailed_kept (s : State) (role : Nat) (h : Kept q n s) :
    Kept q n (State.handshakeFailed s role) := by
  unfold State.handshakeFailed
  repeat' (first
    | with_reducible assumption
    | with_reducible intro _
    | with_reducible apply kept_ite
    | with_reducible apply State.set_kept
    | with_reducible apply State.arm_kept
    | with_reducible apply State.faultRow_kept
    | split
    | dsimp only)

theorem State.dropHalf_kept (s : State) (slot : Nat) (h : Kept q n s) :
    Kept q n (State.dropHalf s slot) := by
  unfold State.dropHalf
  repeat' (first
    | with_reducible assumption
    | with_reducible intro _
    | with_reducible apply kept_ite
    | with_reducible apply State.disarm_kept
    | split
    | dsimp only)

theorem State.acceptSession_kept (s : State) (x : Session) (h : Kept q n s) :
    Kept q n (State.acceptSession s x) := by
  unfold State.acceptSession
  repeat' (first
    | with_reducible assumption
    | with_reducible intro _
    | with_reducible apply kept_ite
    | with_reducible apply State.disarm_kept
    | with_reducible apply State.arm_kept
    | split
    | dsimp only)

theorem State.sessionConfirm_kept (s : State) (c : Caller) (sid tagC : Nat) (h : Kept q n s) :
    Kept q n (State.sessionConfirm s c sid tagC) := by
  unfold State.sessionConfirm
  repeat' (first
    | with_reducible assumption
    | with_reducible intro _
    | with_reducible apply kept_ite
    | with_reducible apply State.answer_kept
    | with_reducible apply State.activity_kept
    | with_reducible apply State.handshakeFailed_kept
    | with_reducible apply State.dropHalf_kept
    | with_reducible apply State.acceptSession_kept
    | split
    | dsimp only)

theorem execHandshakeTimeout_kept (slot : Fin 8) (s : State) (h : Kept q n s) :
    KeptOut q n (execHandshakeTimeout slot s) := by
  unfold execHandshakeTimeout
  repeat' (first
    | with_reducible assumption
    | with_reducible apply keptOut_next
    | with_reducible intro _
    | with_reducible apply kept_ite
    | with_reducible apply State.onTimer_kept
    | with_reducible apply State.handshakeFailed_kept
    | with_reducible apply State.dropHalf_kept
    | split
    | dsimp only)

theorem execRoleLockoutExpiry_kept (role : Fin 4) (s : State) (h : Kept q n s) :
    KeptOut q n (execRoleLockoutExpiry role s) := by
  unfold execRoleLockoutExpiry
  repeat' (first
    | with_reducible assumption
    | with_reducible apply keptOut_next
    | with_reducible intro _
    | with_reducible apply kept_ite
    | with_reducible apply State.set_kept
    | with_reducible apply State.onTimer_kept
    | split
    | dsimp only)

theorem execSessionIdleTimeout_kept (slot : Fin 8) (s : State) (h : Kept q n s) :
    KeptOut q n (execSessionIdleTimeout slot s) := by
  unfold execSessionIdleTimeout
  repeat' (first
    | with_reducible assumption
    | with_reducible apply keptOut_next
    | with_reducible intro _
    | with_reducible apply kept_ite
    | with_reducible apply State.onTimer_kept
    | with_reducible apply State.endSession_kept
    | split
    | dsimp only)

theorem execSessionLifetimeExpiry_kept (slot : Fin 8) (s : State) (h : Kept q n s) :
    KeptOut q n (execSessionLifetimeExpiry slot s) := by
  unfold execSessionLifetimeExpiry
  repeat' (first
    | with_reducible assumption
    | with_reducible apply keptOut_next
    | with_reducible intro _
    | with_reducible apply kept_ite
    | with_reducible apply State.onTimer_kept
    | with_reducible apply State.endSession_kept
    | split
    | dsimp only)

theorem State.setDebug_kept (s : State) (level : Nat) (owner : Option Nat) (h : Kept q n s) :
    Kept q n (State.setDebug s level owner) := by
  unfold State.setDebug
  repeat' (first
    | with_reducible assumption
    | with_reducible intro _
    | with_reducible apply kept_ite
    | with_reducible apply State.set_kept
    | with_reducible apply State.arm_kept
    | with_reducible apply State.endDebug_kept
    | split
    | dsimp only)

theorem State.debugWrite_kept (s : State) (c : Caller) (level : Nat) (h : Kept q n s) :
    Kept q n (State.debugWrite s c level) := by
  unfold State.debugWrite
  repeat' (first
    | with_reducible assumption
    | with_reducible intro _
    | with_reducible apply kept_ite
    | with_reducible apply State.done_kept
    | with_reducible apply State.setDebug_kept
    | split
    | dsimp only)

theorem State.tokenWrite_kept (s : State) (c : Caller) (req : Bytes) (t : Bytes) (h : Kept q n s) :
    Kept q n (State.tokenWrite s c req t) := by
  unfold State.tokenWrite
  repeat' (first
    | with_reducible assumption
    | with_reducible intro _
    | with_reducible apply kept_ite
    | with_reducible apply State.abort_kept
    | with_reducible apply State.done_kept
    | with_reducible apply State.eraseKeys_kept
    | with_reducible apply State.beginLifecycle_kept
    | with_reducible apply State.setDebug_kept
    | split
    | dsimp only)

theorem State.newChallenge_kept (s : State) (h : Kept q n s) :
    Kept q n (State.newChallenge s).2 := by
  unfold State.newChallenge
  repeat' (first
    | with_reducible assumption
    | with_reducible intro _
    | with_reducible apply kept_ite
    | with_reducible apply kept_ite_snd
    | with_reducible apply State.drawRandom_kept
    | split
    | dsimp only)

theorem execDebugTimeout_kept (s : State) (h : Kept q n s) :
    KeptOut q n (execDebugTimeout s) := by
  unfold execDebugTimeout
  repeat' (first
    | with_reducible assumption
    | with_reducible apply keptOut_next
    | with_reducible intro _
    | with_reducible apply kept_ite
    | with_reducible apply State.onTimer_kept
    | with_reducible apply State.endDebug_kept
    | split
    | dsimp only)

theorem execDebugHalt_kept (c : CoreId) (s : State) (h : Kept q n s) :
    KeptOut q n (execDebugHalt c s) := by
  unfold execDebugHalt
  repeat' (first
    | with_reducible assumption
    | with_reducible apply keptOut_next
    | with_reducible intro _
    | with_reducible apply kept_ite
    | with_reducible apply State.disarm_kept
    | with_reducible apply State.when_kept
    | with_reducible apply State.hardMute_kept
    | with_reducible apply State.paOff_kept
    | split
    | dsimp only)

theorem execDebugResume_kept (c : CoreId) (s : State) (h : Kept q n s) :
    KeptOut q n (execDebugResume c s) := by
  unfold execDebugResume
  repeat' (first
    | with_reducible assumption
    | with_reducible apply keptOut_next
    | with_reducible intro _
    | with_reducible apply kept_ite
    | with_reducible apply State.arm_kept
    | with_reducible apply State.when_kept
    | split
    | dsimp only)

theorem execIdcode_kept (s : State) (h : Kept q n s) :
    KeptOut q n (execIdcode s) := by
  unfold execIdcode
  repeat' (first
    | with_reducible assumption
    | with_reducible apply keptOut_next
    | with_reducible intro _
    | with_reducible apply kept_ite
    | with_reducible apply State.when_kept
    | split
    | dsimp only)

theorem execBypass_kept (tdi : Bool) (s : State) (h : Kept q n s) :
    KeptOut q n (execBypass tdi s) := by
  unfold execBypass
  repeat' (first
    | with_reducible assumption
    | with_reducible apply keptOut_next
    | with_reducible intro _
    | with_reducible apply kept_ite
    | with_reducible apply State.when_kept
    | split
    | dsimp only)

theorem execSamplePreload_kept (s : State) (h : Kept q n s) :
    KeptOut q n (execSamplePreload s) := by
  unfold execSamplePreload
  repeat' (first
    | with_reducible assumption
    | with_reducible apply keptOut_next
    | with_reducible intro _
    | with_reducible apply kept_ite
    | with_reducible apply State.when_kept
    | split
    | dsimp only)

theorem execExtest_kept (cells : BitVec 64) (s : State) (h : Kept q n s) :
    KeptOut q n (execExtest cells s) := by
  unfold execExtest
  repeat' (first
    | with_reducible assumption
    | with_reducible apply keptOut_next
    | with_reducible intro _
    | with_reducible apply kept_ite
    | with_reducible apply State.when_kept
    | split
    | dsimp only)

theorem execEntropyFail_kept (s : State) (h : Kept q n s) :
    KeptOut q n (execEntropyFail s) := by
  unfold execEntropyFail
  repeat' (first
    | with_reducible assumption
    | with_reducible apply keptOut_next
    | with_reducible intro _
    | with_reducible apply kept_ite
    | with_reducible apply State.arm_kept
    | with_reducible apply State.when_kept
    | with_reducible apply State.faultRow_kept
    | split
    | dsimp only)

theorem execEntropyRetest_kept (pass : Bool) (s : State) (h : Kept q n s) :
    KeptOut q n (execEntropyRetest pass s) := by
  unfold execEntropyRetest
  repeat' (first
    | with_reducible assumption
    | with_reducible apply keptOut_next
    | with_reducible intro _
    | with_reducible apply kept_ite
    | with_reducible apply State.arm_kept
    | with_reducible apply State.onTimer_kept
    | with_reducible apply State.signLate_kept
    | split
    | dsimp only)

theorem State.nextSignature_kept (s : State) (h : Kept q n s) :
    Kept q n (State.nextSignature s) := by
  unfold State.nextSignature
  repeat' (first
    | with_reducible assumption
    | with_reducible intro _
    | with_reducible apply kept_ite
    | with_reducible apply State.askSignature_kept
    | split
    | dsimp only)

theorem execReceiptSigned_kept (inTime : Bool) (s : State) (h : Kept q n s) :
    KeptOut q n (execReceiptSigned inTime s) := by
  unfold execReceiptSigned
  repeat' (first
    | with_reducible assumption
    | with_reducible apply keptOut_next
    | with_reducible intro _
    | with_reducible apply kept_ite
    | with_reducible apply State.disarm_kept
    | with_reducible apply State.onTimer_kept
    | with_reducible apply State.when_kept
    | with_reducible apply State.leaveUnsigned_kept
    | with_reducible apply State.signReceipt_kept
    | with_reducible apply State.nextSignature_kept
    | split
    | dsimp only)

end Sys2Proof.Machine
end

