-- ==== Sys2Proof/Laws/KeptSticky.lean ====
section
/-!
SUPPORT. What the functions of Sys2Proof/Machine/Sticky.lean keep, one lemma for each of them (Laws/Kept.lean says what).
-/

namespace Sys2Proof.Machine

set_option linter.unusedTactic false
set_option linter.unreachableTactic false
set_option linter.unusedVariables false

open Sys2Proof

variable {q : List Instr} {n : Floor}

theorem State.clearFlags_kept (s : State) (k mask : Nat) (h : Kept q n s) :
    Kept q n (State.clearFlags s k mask).2 := by
  unfold State.clearFlags
  repeat' (first
    | with_reducible assumption
    | with_reducible intro _
    | with_reducible apply kept_ite
    | with_reducible apply kept_ite_snd
    | with_reducible apply State.set_kept
    | split
    | dsimp only)

theorem State.stickyClear_kept (s : State) (role : Option Nat) (peer k mask : Nat) (h : Kept q n s) :
    Kept q n (State.stickyClear s role peer k mask) := by
  unfold State.stickyClear
  repeat' (first
    | with_reducible assumption
    | with_reducible intro _
    | with_reducible apply kept_ite
    | with_reducible apply kept_ite_snd
    | with_reducible apply State.log_kept
    | with_reducible apply State.noteSummary_kept
    | with_reducible apply State.clearFlags_kept
    | split
    | dsimp only)

theorem State.stickyClearAll_kept (s : State) (role : Option Nat) (peer : Nat) (h : Kept q n s) :
    Kept q n (s.stickyClearAll role peer) := by
  unfold State.stickyClearAll
  dsimp only
  refine kept_ite h (State.noteSummary_kept _ (State.log_kept _ _ _ _ _ _ (kept_foldl_snd (fun a k ha => ?_) h)))
  try dsimp only
  split
  · exact ha
  · exact State.clearFlags_kept _ _ _ ha

end Sys2Proof.Machine
end

