-- ==== Sys2Proof/Laws/KeptActions.lean ====
section
/-!
SUPPORT. What the functions of Sys2Proof/Machine/Actions.lean keep, one lemma for each of them (Laws/Kept.lean says what).
-/

namespace Sys2Proof.Machine

set_option linter.unusedTactic false
set_option linter.unreachableTactic false
set_option linter.unusedVariables false

open Sys2Proof

variable {q : List Instr} {n : Floor}

theorem State.setBank_kept (s : State) (bank : Nat) (m : List Host.Cell)
    (hm : s.mems.wf = true → memWf zeroByte m = true) (h : Kept q n s) : Kept q n (s.setBank bank m) := by
  have hm := hm h.2.1
  unfold State.setBank
  apply kept_ite <;> refine kept_mems (fun hw => ?_) h <;> simp only [Mems.wf, Bool.and_eq_true] at hw ⊢ <;> tauto

theorem State.setBank_nil_kept (s : State) (bank : Nat) (h : Kept q n s) : Kept q n (s.setBank bank []) :=
  State.setBank_kept _ _ _ (fun _ => rfl) h

theorem State.setBank_write_kept (s : State) (bank other a : Nat) (bs : Bytes) (h : Kept q n s) :
    Kept q n (s.setBank bank (memWriteAll zeroByte (s.bankMem other) a bs)) := by
  refine State.setBank_kept _ _ _ (fun hw => memWriteAll_wf _ _ ?_) h
  simp only [Mems.wf, Bool.and_eq_true] at hw
  unfold State.bankMem
  split
  · exact hw.1.2
  · exact hw.2

theorem State.beginUpdate_kept (s : State) (length : Nat) (h : Kept q n s) :
    Kept q n (State.beginUpdate s length) := by
  unfold State.beginUpdate
  repeat' (first
    | with_reducible assumption
    | with_reducible intro _
    | with_reducible apply kept_ite
    | with_reducible apply State.set_kept
    | with_reducible apply State.setBank_nil_kept
    | with_reducible apply State.setBank_write_kept
    | split
    | dsimp only)

theorem State.activateUpdate_kept (s : State) (h : Kept q n s) :
    Kept q n (State.activateUpdate s) := by
  unfold State.activateUpdate
  repeat' (first
    | with_reducible assumption
    | with_reducible intro _
    | with_reducible apply kept_ite
    | with_reducible apply State.set_kept
    | with_reducible apply State.restart_kept
    | split
    | dsimp only)

theorem State.updateVerified_kept (s : State) (h : Kept q n s) :
    Kept q n (State.updateVerified s) := by
  unfold State.updateVerified
  repeat' (first
    | with_reducible assumption
    | with_reducible intro _
    | with_reducible apply kept_ite
    | with_reducible apply State.set_kept
    | with_reducible apply State.faultRow_kept
    | split
    | dsimp only)

theorem State.clearRailStats_kept (s : State) (h : Kept q n s) :
    Kept q n (State.clearRailStats s) := by
  unfold State.clearRailStats
  repeat' (first
    | with_reducible assumption
    | with_reducible intro _
    | with_reducible apply kept_ite
    | with_reducible apply State.set_kept
    | with_reducible apply kept_foldl
    | split
    | dsimp only)

theorem State.clearLatch_kept (s : State) (h : Kept q n s) :
    Kept q n (State.clearLatch s) := by
  unfold State.clearLatch
  repeat' (first
    | with_reducible assumption
    | with_reducible intro _
    | with_reducible apply kept_ite
    | with_reducible apply State.set_kept
    | with_reducible apply State.restart_kept
    | split
    | dsimp only)

theorem State.rebaseline_kept (s : State) (h : Kept q n s) :
    Kept q n (State.rebaseline s) := by
  unfold State.rebaseline
  repeat' (first
    | with_reducible assumption
    | with_reducible intro _
    | with_reducible apply kept_ite
    | with_reducible apply State.lidRetakeNow_kept
    | split
    | dsimp only)

theorem State.commandedShutdown_kept (s : State) (h : Kept q n s) :
    Kept q n (State.commandedShutdown s) := by
  unfold State.commandedShutdown
  repeat' (first
    | with_reducible assumption
    | with_reducible intro _
    | with_reducible apply kept_ite
    | with_reducible apply State.netTrigger_kept
    | split
    | dsimp only)

theorem State.sampleSeal_kept (s : State) (h : Kept q n s) :
    Kept q n (State.sampleSeal s) := by
  unfold State.sampleSeal
  repeat' (first
    | with_reducible assumption
    | with_reducible intro _
    | with_reducible apply kept_ite
    | with_reducible apply kept_ite_snd
    | with_reducible apply State.draw_kept
    | split
    | dsimp only)

theorem State.actUnit_kept (s : State) (k : Nat) (h : Kept q n s) :
    Kept q n (State.actUnit s k) := by
  unfold State.actUnit
  repeat' (first
    | with_reducible assumption
    | with_reducible intro _
    | with_reducible apply kept_ite
    | with_reducible apply State.set_kept
    | with_reducible apply State.beginClear_kept
    | with_reducible apply State.armTiu_kept
    | with_reducible apply State.cancelTiu_kept
    | with_reducible apply State.runInit_kept
    | with_reducible apply State.doSync_kept
    | with_reducible apply State.startHandover_kept
    | with_reducible apply State.clearRailStats_kept
    | with_reducible apply State.clearLatch_kept
    | with_reducible apply State.rebaseline_kept
    | with_reducible apply State.commandedShutdown_kept
    | with_reducible apply State.unseal_kept
    | split
    | dsimp only)

theorem State.actCommand_kept (s : State) (c : Caller) (k v : Nat) (h : Kept q n s) :
    Kept q n (State.actCommand s c k v) := by
  unfold State.actCommand
  repeat' (first
    | with_reducible assumption
    | with_reducible intro _
    | with_reducible apply kept_ite
    | with_reducible apply State.set_kept
    | with_reducible apply State.stickyClearAll_kept
    | with_reducible apply State.beginUpdate_kept
    | with_reducible apply State.activateUpdate_kept
    | with_reducible apply State.actUnit_kept
    | with_reducible apply kept_revoked
    | split
    | dsimp only)

theorem State.actWo_kept (s : State) (c : Caller) (req : Bytes) (k v : Nat) (value : Bytes) (h : Kept q n s) :
    Kept q n (State.actWo s c req k v value) := by
  unfold State.actWo
  repeat' (first
    | with_reducible assumption
    | with_reducible intro _
    | with_reducible apply kept_ite
    | with_reducible apply State.done_kept
    | with_reducible apply State.deferPower_kept
    | with_reducible apply State.lifecycleWrite_kept
    | with_reducible apply State.keyWrite_kept
    | with_reducible apply State.debugWrite_kept
    | with_reducible apply State.tokenWrite_kept
    | with_reducible apply State.actCommand_kept
    | split
    | dsimp only)

end Sys2Proof.Machine
end

