-- ==== Sys2Proof/Laws/KeptRead.lean ====
section
/-!
SUPPORT. What the functions of Sys2Proof/Machine/Read.lean keep, one lemma for each of them (Laws/Kept.lean says what).
-/

namespace Sys2Proof.Machine

set_option linter.unusedTactic false
set_option linter.unreachableTactic false
set_option linter.unusedVariables false

open Sys2Proof

variable {q : List Instr} {n : Floor}

theorem State.readEffect_kept (s : State) (k : Nat) (h : Kept q n s) :
    Kept q n (State.readEffect s k) := by
  unfold State.readEffect
  repeat' (first
    | with_reducible assumption
    | with_reducible intro _
    | with_reducible apply kept_ite
    | with_reducible apply kept_ite_snd
    | with_reducible apply State.set_kept
    | with_reducible apply State.draw_kept
    | with_reducible apply State.moveGains_kept
    | with_reducible apply State.newChallenge_kept
    | split
    | dsimp only)

theorem State.readIndexEffect_kept (s : State) (index : Nat) (h : Kept q n s) :
    Kept q n (State.readIndexEffect s index) := by
  unfold State.readIndexEffect
  repeat' (first
    | with_reducible assumption
    | with_reducible intro _
    | with_reducible apply kept_ite
    | with_reducible apply State.readEffect_kept
    | with_reducible apply kept_foldl
    | split
    | dsimp only)

end Sys2Proof.Machine
end

