-- ==== Sys2Proof/Laws/KeptServe.lean ====
section
/-!
SUPPORT. What the functions of Sys2Proof/Machine/Serve.lean keep, one lemma for each of them (Laws/Kept.lean says what).
-/

namespace Sys2Proof.Machine

set_option linter.unusedTactic false
set_option linter.unreachableTactic false
set_option linter.unusedVariables false

open Sys2Proof

variable {q : List Instr} {n : Floor}

theorem State.gated_kept (s : State) (c : Caller) (req : Bytes) (upTo6 later : List (Option Abort)) (f : State → State) (hf : ∀ u, Kept q n u → Kept q n (f u)) (h : Kept q n s) :
    Kept q n (State.gated s c req upTo6 later f) := by
  unfold State.gated
  repeat' (first
    | with_reducible assumption
    | with_reducible intro _
    | with_reducible apply kept_ite
    | with_reducible apply hf
    | with_reducible apply State.abort_kept
    | with_reducible apply State.activity_kept
    | split
    | dsimp only)

theorem State.serveRead_kept (s : State) (c : Caller) (b : Bytes) (h : Kept q n s) :
    Kept q n (State.serveRead s c b) := by
  unfold State.serveRead
  repeat' (first
    | with_reducible assumption
    | with_reducible intro _
    | with_reducible apply kept_ite
    | with_reducible apply State.answer_kept
    | with_reducible apply State.readEffect_kept
    | with_reducible apply State.gated_kept
    | split
    | dsimp only)

theorem State.commitOrWait_kept (s : State) (c : Caller) (form : ReplyForm) (fromStage : Option StageId) (es : List (Nat × Nat)) (req : Bytes) (h : Kept q n s) :
    Kept q n (State.commitOrWait s c form fromStage es req) := by
  unfold State.commitOrWait
  repeat' (first
    | with_reducible assumption
    | with_reducible intro _
    | with_reducible apply kept_ite
    | with_reducible apply State.abort_kept
    | with_reducible apply State.tryCommit_kept
    | split
    | dsimp only)

theorem State.writeObject_kept (s : State) (c : Caller) (req : Bytes) (d : ObjDef) (k v : Nat) (value : Bytes) (h : Kept q n s) :
    Kept q n (State.writeObject s c req d k v value) := by
  unfold State.writeObject
  repeat' (first
    | with_reducible assumption
    | with_reducible intro _
    | with_reducible apply kept_ite
    | with_reducible apply State.abort_kept
    | with_reducible apply State.done_kept
    | with_reducible apply State.powerRequest_kept
    | with_reducible apply State.stickyClear_kept
    | with_reducible apply State.sampleSeal_kept
    | with_reducible apply State.actWo_kept
    | with_reducible apply State.commitOrWait_kept
    | split
    | dsimp only)

theorem State.serveWrite_kept (s : State) (c : Caller) (b : Bytes) (h : Kept q n s) :
    Kept q n (State.serveWrite s c b) := by
  unfold State.serveWrite
  repeat' (first
    | with_reducible assumption
    | with_reducible intro _
    | with_reducible apply kept_ite
    | with_reducible apply State.abort_kept
    | with_reducible apply State.gated_kept
    | with_reducible apply State.writeObject_kept
    | split
    | dsimp only)

theorem State.stageEntry_kept (s : State) (c : Caller) (b : Bytes) (w : StageId) (k v : Nat) (h : Kept q n s) :
    Kept q n (State.stageEntry s c b w k v) := by
  unfold State.stageEntry
  repeat' (first
    | with_reducible assumption
    | with_reducible intro _
    | with_reducible apply kept_ite
    | with_reducible apply State.arm_kept
    | with_reducible apply State.flag_kept
    | with_reducible apply State.abort_kept
    | with_reducible apply State.answer_kept
    | with_reducible apply State.setStage_kept
    | split
    | dsimp only)

theorem State.serveStaged_kept (s : State) (c : Caller) (b : Bytes) (h : Kept q n s) :
    Kept q n (State.serveStaged s c b) := by
  unfold State.serveStaged
  repeat' (first
    | with_reducible assumption
    | with_reducible intro _
    | with_reducible apply kept_ite
    | with_reducible apply State.abort_kept
    | with_reducible apply State.gated_kept
    | with_reducible apply State.stageEntry_kept
    | split
    | dsimp only)

theorem State.serveCommit_kept (s : State) (c : Caller) (b : Bytes) (h : Kept q n s) :
    Kept q n (State.serveCommit s c b) := by
  unfold State.serveCommit
  repeat' (first
    | with_reducible assumption
    | with_reducible intro _
    | with_reducible apply kept_ite
    | with_reducible apply State.arm_kept
    | with_reducible apply State.abort_kept
    | with_reducible apply State.gated_kept
    | with_reducible apply State.commitOrWait_kept
    | split
    | dsimp only)

theorem State.serveDiscard_kept (s : State) (c : Caller) (b : Bytes) (h : Kept q n s) :
    Kept q n (State.serveDiscard s c b) := by
  unfold State.serveDiscard
  repeat' (first
    | with_reducible assumption
    | with_reducible intro _
    | with_reducible apply kept_ite
    | with_reducible apply State.disarm_kept
    | with_reducible apply State.abort_kept
    | with_reducible apply State.answer_kept
    | with_reducible apply State.setStage_kept
    | with_reducible apply State.gated_kept
    | split
    | dsimp only)

theorem State.setBlock_kept (s : State) (w : Bool) (peer : Nat) (r : Option BlockRun) (h : Kept q n s) :
    Kept q n (State.setBlock s w peer r) := by
  unfold State.setBlock
  repeat' (first
    | with_reducible assumption
    | with_reducible intro _
    | with_reducible apply kept_ite
    | with_reducible apply State.disarm_kept
    | with_reducible apply State.arm_kept
    | split
    | dsimp only)

theorem State.sendBlock_kept (s : State) (c : Caller) (r : BlockRun) (max : Nat) (h : Kept q n s) :
    Kept q n (State.sendBlock s c r max) := by
  unfold State.sendBlock
  repeat' (first
    | with_reducible assumption
    | with_reducible intro _
    | with_reducible apply kept_ite
    | with_reducible apply State.answer_kept
    | with_reducible apply State.setBlock_kept
    | split
    | dsimp only)

theorem State.blockReadStep_kept (s : State) (c : Caller) (b : Bytes) (h : Kept q n s) :
    Kept q n (State.blockReadStep s c b) := by
  unfold State.blockReadStep
  repeat' (first
    | with_reducible assumption
    | with_reducible intro _
    | with_reducible apply kept_ite
    | with_reducible apply State.abort_kept
    | with_reducible apply State.readEffect_kept
    | with_reducible apply State.readIndexEffect_kept
    | with_reducible apply State.setBlock_kept
    | with_reducible apply State.sendBlock_kept
    | split
    | dsimp only)

theorem State.serveBlockRead_kept (s : State) (c : Caller) (b : Bytes) (h : Kept q n s) :
    Kept q n (State.serveBlockRead s c b) := by
  unfold State.serveBlockRead
  repeat' (first
    | with_reducible assumption
    | with_reducible intro _
    | with_reducible apply kept_ite
    | with_reducible apply State.gated_kept
    | with_reducible apply State.blockReadStep_kept
    | split
    | dsimp only)

theorem State.updateSegment_kept (s : State) (c : Caller) (b : Bytes) (h : Kept q n s) :
    Kept q n (State.updateSegment s c b) := by
  unfold State.updateSegment
  repeat' (first
    | with_reducible assumption
    | with_reducible intro _
    | with_reducible apply kept_ite
    | with_reducible apply State.set_kept
    | with_reducible apply State.arm_kept
    | with_reducible apply State.post_kept
    | with_reducible apply State.abort_kept
    | split
    | dsimp only)

theorem State.blockHold_kept (s : State) (c : Caller) (b : Bytes) (held : Bytes) (h : Kept q n s) :
    Kept q n (State.blockHold s c b held) := by
  unfold State.blockHold
  repeat' (first
    | with_reducible assumption
    | with_reducible intro _
    | with_reducible apply kept_ite
    | with_reducible apply State.abort_kept
    | with_reducible apply State.answer_kept
    | with_reducible apply State.serveWrite_kept
    | with_reducible apply State.setBlock_kept
    | split
    | dsimp only)

theorem State.blockWriteStep_kept (s : State) (c : Caller) (b : Bytes) (h : Kept q n s) :
    Kept q n (State.blockWriteStep s c b) := by
  unfold State.blockWriteStep
  repeat' (first
    | with_reducible assumption
    | with_reducible intro _
    | with_reducible apply kept_ite
    | with_reducible apply State.abort_kept
    | with_reducible apply State.setBlock_kept
    | with_reducible apply State.blockHold_kept
    | split
    | dsimp only)

theorem State.serveBlockWrite_kept (s : State) (c : Caller) (b : Bytes) (h : Kept q n s) :
    Kept q n (State.serveBlockWrite s c b) := by
  unfold State.serveBlockWrite
  repeat' (first
    | with_reducible assumption
    | with_reducible intro _
    | with_reducible apply kept_ite
    | with_reducible apply State.gated_kept
    | with_reducible apply State.updateSegment_kept
    | with_reducible apply State.blockWriteStep_kept
    | split
    | dsimp only)

theorem State.setAnchor_kept (s : State) (c : Caller) (b : Bytes) (h : Kept q n s) :
    Kept q n (State.setAnchor s c b) := by
  unfold State.setAnchor
  repeat' (first
    | with_reducible assumption
    | with_reducible intro _
    | with_reducible apply kept_ite
    | with_reducible apply State.set_kept
    | with_reducible apply State.log_kept
    | split
    | dsimp only)

theorem State.serveTimeSet_kept (s : State) (c : Caller) (b : Bytes) (h : Kept q n s) :
    Kept q n (State.serveTimeSet s c b) := by
  unfold State.serveTimeSet
  repeat' (first
    | with_reducible assumption
    | with_reducible intro _
    | with_reducible apply kept_ite
    | with_reducible apply State.answer_kept
    | with_reducible apply State.gated_kept
    | with_reducible apply State.setAnchor_kept
    | split
    | dsimp only)

theorem State.takeTimeSet_kept (s : State) (c : Caller) (b : Bytes) (h : Kept q n s) :
    Kept q n (State.takeTimeSet s c b) := by
  unfold State.takeTimeSet
  repeat' (first
    | with_reducible assumption
    | with_reducible intro _
    | with_reducible apply kept_ite
    | with_reducible apply State.activity_kept
    | with_reducible apply State.setAnchor_kept
    | split
    | dsimp only)

theorem State.serveAssign_kept (s : State) (c : Caller) (b : Bytes) (h : Kept q n s) :
    Kept q n (State.serveAssign s c b) := by
  unfold State.serveAssign
  repeat' (first
    | with_reducible assumption
    | with_reducible intro _
    | with_reducible apply kept_ite
    | with_reducible apply State.gated_kept
    | with_reducible apply State.commitOrWait_kept
    | split
    | dsimp only)

theorem State.serveBridge_kept (s : State) (c : Caller) (b : Bytes) (h : Kept q n s) :
    Kept q n (State.serveBridge s c b) := by
  unfold State.serveBridge
  repeat' (first
    | with_reducible assumption
    | with_reducible intro _
    | with_reducible apply kept_ite
    | with_reducible apply State.answer_kept
    | with_reducible apply State.gated_kept
    | with_reducible apply State.commitOrWait_kept
    | split
    | dsimp only)

theorem State.serveSession_kept (s : State) (c : Caller) (b : Bytes) (h : Kept q n s) :
    Kept q n (State.serveSession s c b) := by
  unfold State.serveSession
  repeat' (first
    | with_reducible assumption
    | with_reducible intro _
    | with_reducible apply kept_ite
    | with_reducible apply State.abort_kept
    | with_reducible apply State.sessionOpen_kept
    | with_reducible apply State.sessionConfirm_kept
    | split
    | dsimp only)

theorem State.act_kept (s : State) (c : Caller) (b : Bytes) (h : Kept q n s) :
    Kept q n (State.act s c b) := by
  unfold State.act
  repeat' (first
    | with_reducible assumption
    | with_reducible intro _
    | with_reducible apply kept_ite
    | with_reducible apply State.serveRead_kept
    | with_reducible apply State.serveWrite_kept
    | with_reducible apply State.serveStaged_kept
    | with_reducible apply State.serveCommit_kept
    | with_reducible apply State.serveDiscard_kept
    | with_reducible apply State.serveBlockRead_kept
    | with_reducible apply State.serveBlockWrite_kept
    | with_reducible apply State.serveTimeSet_kept
    | with_reducible apply State.serveAssign_kept
    | with_reducible apply State.serveBridge_kept
    | with_reducible apply State.serveSession_kept
    | split
    | dsimp only)

theorem State.serveLater_kept (s : State) (h' : Held) (h : Kept q n s) :
    Kept q n (State.serveLater s h') := by
  unfold State.serveLater
  repeat' (first
    | with_reducible assumption
    | with_reducible intro _
    | with_reducible apply kept_ite
    | with_reducible apply State.handle_kept
    | with_reducible apply State.endSpent_kept
    | with_reducible apply State.serveWrite_kept
    | with_reducible apply State.act_kept
    | split
    | dsimp only)

theorem State.serveDeferredPower_kept (s : State) (h : Kept q n s) :
    Kept q n (State.serveDeferredPower s) := by
  unfold State.serveDeferredPower
  repeat' (first
    | with_reducible assumption
    | with_reducible intro _
    | with_reducible apply kept_ite
    | with_reducible apply State.serveLater_kept
    | with_reducible apply kept_foldl
    | split
    | dsimp only)

theorem State.serviceDue_kept (s : State) (h : Kept q n s) :
    Kept q n (State.serviceDue s) := by
  unfold State.serviceDue
  repeat' (first
    | with_reducible assumption
    | with_reducible intro _
    | with_reducible apply kept_ite
    | with_reducible apply State.disarm_kept
    | with_reducible apply State.serviceOver_kept
    | split
    | dsimp only)

theorem State.serveWaiting_kept (s : State) (h : Kept q n s) :
    Kept q n (State.serveWaiting s) := by
  unfold State.serveWaiting
  repeat' (first
    | with_reducible assumption
    | with_reducible intro _
    | with_reducible apply kept_ite
    | with_reducible apply State.serveLater_kept
    | with_reducible apply State.serveDeferredPower_kept
    | with_reducible apply State.serviceDue_kept
    | split
    | dsimp only)

end Sys2Proof.Machine
end

