-- ==== Sys2Proof/Laws/KeptArrive.lean ====
section
/-!
SUPPORT. What the functions of Sys2Proof/Machine/Arrive.lean keep, one lemma for each of them (Laws/Kept.lean says what).
-/

namespace Sys2Proof.Machine

set_option linter.unusedTactic false
set_option linter.unreachableTactic false
set_option linter.unusedVariables false

open Sys2Proof

variable {q : List Instr} {n : Floor}

theorem State.groupFails_kept (s : State) (x : Session) (h : Kept q n s) :
    Kept q n (State.groupFails s x) := by
  unfold State.groupFails
  repeat' (first
    | with_reducible assumption
    | with_reducible intro _
    | with_reducible apply kept_ite
    | with_reducible apply State.faultRow_kept
    | with_reducible apply State.setSession_kept
    | with_reducible apply State.endSession_kept
    | split
    | dsimp only)

theorem State.authenticate_kept (s : State) (c : Caller) (sid : Nat) (msg body : Bytes) (h : Kept q n s) :
    Kept q n (State.authenticate s c sid msg body) := by
  unfold State.authenticate
  repeat' (first
    | with_reducible assumption
    | with_reducible intro _
    | with_reducible apply kept_ite
    | with_reducible apply State.arm_kept
    | with_reducible apply State.setSession_kept
    | with_reducible apply State.abort_kept
    | with_reducible apply State.act_kept
    | with_reducible apply State.groupFails_kept
    | split
    | dsimp only)

theorem State.serve_kept (s : State) (c : Caller) (claimed : Option Nat) (msg : Bytes) (h : Kept q n s) :
    Kept q n (State.serve s c claimed msg) := by
  unfold State.serve
  repeat' (first
    | with_reducible assumption
    | with_reducible intro _
    | with_reducible apply kept_ite
    | with_reducible apply State.abort_kept
    | with_reducible apply State.endSpent_kept
    | with_reducible apply State.act_kept
    | with_reducible apply State.authenticate_kept
    | split
    | dsimp only)

theorem State.tryServe_kept (s t : State) (c : Caller) (claimed : Option Nat) (msg : Bytes)
    (e : s.tryServe c claimed msg = .ok t) (h : Kept q n s) : Kept q n t := by
  unfold State.tryServe at e
  dsimp only at e
  repeat' split at e
  all_goals first
    | (cases e
       exact State.handle_kept _ _ (fun _ hu => State.serve_kept _ _ _ _ hu) (kept_foldl (fun _ _ hu => State.pass_kept _ _ _ hu) h))
    | cases e

theorem State.hold_kept (s : State) (c : Caller) (claimed : Option Nat) (msg : Bytes) (lacks : Nat) (h : Kept q n s) :
    Kept q n (State.hold s c claimed msg lacks) := by
  unfold State.hold
  repeat' (first
    | with_reducible assumption
    | with_reducible intro _
    | with_reducible apply kept_ite
    | with_reducible apply State.arm_kept
    | with_reducible apply State.place_kept
    | split
    | dsimp only)

theorem State.noteServed_kept (s : State) (c q' : Nat) (h : Kept q n s) :
    Kept q n (State.noteServed s c q') := by
  unfold State.noteServed
  repeat' (first
    | with_reducible assumption
    | with_reducible intro _
    | with_reducible apply kept_ite
    | with_reducible apply kept_foldl
    | split
    | dsimp only)

theorem State.serveOne_kept (s t : State) (e : s.serveOne = some t) (h : Kept q n s) : Kept q n t := by
  unfold State.serveOne at e
  obtain ⟨x, -, hx⟩ := List.exists_of_findSome?_eq_some e
  dsimp only at hx
  split at hx
  · cases hx
  · split at hx
    · next hu =>
      cases hx
      refine State.tryServe_kept _ _ _ _ _ hu ?_
      apply State.disarm_kept
      apply State.disarm_kept
      exact State.unqueue_kept _ _ (State.noteServed_kept _ _ _ h)
    · cases hx

theorem State.serveHeldN_kept (k : Nat) (s : State) (h : Kept q n s) : Kept q n (State.serveHeldN k s) := by
  induction k generalizing s with
  | zero => exact h
  | succ k ih =>
    unfold State.serveHeldN
    split
    · next e => exact ih _ (State.serveOne_kept _ _ e h)
    · exact h

theorem State.serveHeld_kept (s : State) (h : Kept q n s) :
    Kept q n (State.serveHeld s) := by
  unfold State.serveHeld
  repeat' (first
    | with_reducible assumption
    | with_reducible intro _
    | with_reducible apply kept_ite
    | with_reducible apply State.serveHeldN_kept
    | split
    | dsimp only)

theorem State.setPortEng_kept (s : State) (p : Port) (e : PortEngine) (h : Kept q n s) :
    Kept q n (State.setPortEng s p e) := by
  unfold State.setPortEng
  repeat' (first
    | with_reducible assumption
    | with_reducible intro _
    | with_reducible apply kept_ite
    | split
    | dsimp only)

theorem State.refusalGone_kept (s : State) (h : Kept q n s) :
    Kept q n (State.refusalGone s) := by
  unfold State.refusalGone
  repeat' (first
    | with_reducible assumption
    | with_reducible intro _
    | with_reducible apply kept_ite
    | with_reducible apply State.bump_kept
    | with_reducible apply State.flag_kept
    | split
    | dsimp only)

theorem State.pushRefusal_kept (s : State) (p : Port) (f : CanFrame) (h : Kept q n s) :
    Kept q n (State.pushRefusal s p f) := by
  unfold State.pushRefusal
  repeat' (first
    | with_reducible assumption
    | with_reducible intro _
    | with_reducible apply kept_ite
    | with_reducible apply State.arm_kept
    | with_reducible apply State.setPortEng_kept
    | with_reducible apply State.refusalGone_kept
    | split
    | dsimp only)

theorem State.noteRefusal_kept (s : State) (q' : Nat) (late : Bool) (peer : Nat) (h : Kept q n s) :
    Kept q n (State.noteRefusal s q' late peer) := by
  unfold State.noteRefusal
  repeat' (first
    | with_reducible assumption
    | with_reducible intro _
    | with_reducible apply kept_ite
    | with_reducible apply State.set_kept
    | split
    | dsimp only)

theorem State.countRefusal_kept (s : State) (q' peer : Nat) (h : Kept q n s) :
    Kept q n (State.countRefusal s q' peer) := by
  unfold State.countRefusal
  repeat' (first
    | with_reducible assumption
    | with_reducible intro _
    | with_reducible apply kept_ite
    | with_reducible apply State.bump_kept
    | with_reducible apply State.log_kept
    | with_reducible apply State.flagFirst_kept
    | with_reducible apply State.noteRefusal_kept
    | split
    | dsimp only)

theorem State.refuse_kept (s : State) (p : Port) (prio svc own peer tid q' : Nat) (req : Bytes) (h : Kept q n s) :
    Kept q n (State.refuse s p prio svc own peer tid q' req) := by
  unfold State.refuse
  repeat' (first
    | with_reducible assumption
    | with_reducible intro _
    | with_reducible apply kept_ite
    | with_reducible apply State.pushRefusal_kept
    | with_reducible apply State.countRefusal_kept
    | with_reducible apply kept_foldl
    | split
    | dsimp only)

theorem State.rememberGroup_kept (s : State) (src tid : Nat) (raw : Bytes) (h : Kept q n s) :
    Kept q n (State.rememberGroup s src tid raw) := by
  unfold State.rememberGroup
  repeat' (first
    | with_reducible assumption
    | with_reducible intro _
    | with_reducible apply kept_ite
    | split
    | dsimp only)

theorem State.repeatReply_kept (s : State) (p : Port) (r : Retx) (h : Kept q n s) :
    Kept q n (State.repeatReply s p r) := by
  unfold State.repeatReply
  repeat' (first
    | with_reducible assumption
    | with_reducible intro _
    | with_reducible apply kept_ite
    | with_reducible apply State.sendFrames_kept
    | split
    | dsimp only)

theorem State.takeIn_kept (s : State) (c : Caller) (claimed : Option Nat) (msg : Bytes) (h : Kept q n s) :
    Kept q n (State.takeIn s c claimed msg) := by
  unfold State.takeIn
  repeat' (first
    | with_reducible assumption
    | with_reducible intro _
    | with_reducible apply kept_ite
    | with_reducible apply State.pass_kept
    | refine State.tryServe_kept _ _ _ _ _ (by assumption) ?_
    | with_reducible apply State.hold_kept
    | with_reducible apply State.noteServed_kept
    | split
    | dsimp only)

theorem State.portRequest_kept (s : State) (c : Caller) (claimed : Option Nat) (msg raw : Bytes) (h : Kept q n s) :
    Kept q n (State.portRequest s c claimed msg raw) := by
  unfold State.portRequest
  repeat' (first
    | with_reducible assumption
    | with_reducible intro _
    | with_reducible apply kept_ite
    | with_reducible apply State.abort_kept
    | with_reducible apply State.refuse_kept
    | with_reducible apply State.rememberGroup_kept
    | with_reducible apply State.repeatReply_kept
    | with_reducible apply State.takeIn_kept
    | split
    | dsimp only)

theorem State.hostRequest_kept (s : State) (c : Caller) (claimed : Option Nat) (msg : Bytes) (h : Kept q n s) :
    Kept q n (State.hostRequest s c claimed msg) := by
  unfold State.hostRequest
  repeat' (first
    | with_reducible assumption
    | with_reducible intro _
    | with_reducible apply kept_ite
    | with_reducible apply State.abort_kept
    | with_reducible apply State.takeIn_kept
    | split
    | dsimp only)

end Sys2Proof.Machine
end

