-- ==== Sys2Proof/Laws/KeptBand.lean ====
section
/-!
SUPPORT. What the functions of Sys2Proof/Machine/Band.lean keep, one lemma for each of them (Laws/Kept.lean says what).
-/

namespace Sys2Proof.Machine

set_option linter.unusedTactic false
set_option linter.unreachableTactic false
set_option linter.unusedVariables false

open Sys2Proof

variable {q : List Instr} {n : Floor}

theorem State.afterRetune_kept (s : State) (d : Dir) (h : Kept q n s) :
    Kept q n (State.afterRetune s d) := by
  unfold State.afterRetune
  repeat' (first
    | with_reducible assumption
    | with_reducible intro _
    | with_reducible apply kept_ite
    | with_reducible apply State.nextSeq_kept
    | with_reducible apply State.tryFinish_kept
    | with_reducible apply State.advanceCommit_kept
    | with_reducible apply State.moveDir_kept
    | split
    | dsimp only)

theorem State.lockSeen_kept (s : State) (d : Dir) (h : Kept q n s) :
    Kept q n (State.lockSeen s d) := by
  unfold State.lockSeen
  repeat' (first
    | with_reducible assumption
    | with_reducible intro _
    | with_reducible apply kept_ite
    | with_reducible apply State.retuneLocked_kept
    | with_reducible apply State.afterRetune_kept
    | split
    | dsimp only)

theorem State.seqFailed_kept (s : State) (r : FeRun) (bit code : Nat) (payload : Bytes) (h : Kept q n s) :
    Kept q n (State.seqFailed s r bit code payload) := by
  unfold State.seqFailed
  repeat' (first
    | with_reducible assumption
    | with_reducible intro _
    | with_reducible apply kept_ite
    | with_reducible apply State.nextSeq_kept
    | with_reducible apply State.failSeq_kept
    | with_reducible apply State.afterRetune_kept
    | split
    | dsimp only)

theorem State.nextEntry_kept (s : State) (r : FeRun) (h : Kept q n s) :
    Kept q n (State.nextEntry s r) := by
  unfold State.nextEntry
  repeat' (first
    | with_reducible assumption
    | with_reducible intro _
    | with_reducible apply kept_ite
    | with_reducible apply State.seqPlayed_kept
    | with_reducible apply State.nextSeq_kept
    | split
    | dsimp only)

theorem State.playEntry_kept (s : State) (r : FeRun) (received : Nat) (h : Kept q n s) :
    Kept q n (State.playEntry s r received) := by
  unfold State.playEntry
  repeat' (first
    | with_reducible assumption
    | with_reducible intro _
    | with_reducible apply kept_ite
    | with_reducible apply State.driveGpio_kept
    | with_reducible apply State.seqFailed_kept
    | with_reducible apply State.nextEntry_kept
    | split
    | dsimp only)

theorem State.entryWait_kept (s : State) (r : FeRun) (h : Kept q n s) :
    Kept q n (State.entryWait s r) := by
  unfold State.entryWait
  repeat' (first
    | with_reducible assumption
    | with_reducible intro _
    | with_reducible apply kept_ite
    | with_reducible apply State.elapse_kept
    | split
    | dsimp only)

theorem execFeEntryDone_kept (received : BitVec 32) (s : State) (h : Kept q n s) :
    KeptOut q n (execFeEntryDone received s) := by
  unfold execFeEntryDone
  repeat' (first
    | with_reducible assumption
    | with_reducible apply keptOut_next
    | with_reducible intro _
    | with_reducible apply kept_ite
    | with_reducible apply State.playEntry_kept
    | with_reducible apply State.entryWait_kept
    | split
    | dsimp only)

theorem execLockPoll_kept (d : Dir) (level : Bool) (s : State) (h : Kept q n s) :
    KeptOut q n (execLockPoll d level s) := by
  unfold execLockPoll
  repeat' (first
    | with_reducible assumption
    | with_reducible apply keptOut_next
    | with_reducible intro _
    | with_reducible apply kept_ite
    | with_reducible apply State.when_kept
    | with_reducible apply State.lockSeen_kept
    | split
    | dsimp only)

theorem execLockTimeout_kept (d : Dir) (s : State) (h : Kept q n s) :
    KeptOut q n (execLockTimeout d s) := by
  unfold execLockTimeout
  repeat' (first
    | with_reducible assumption
    | with_reducible apply keptOut_next
    | with_reducible intro _
    | with_reducible apply kept_ite
    | with_reducible apply State.onTimer_kept
    | with_reducible apply State.lockSeen_kept
    | with_reducible apply State.seqFailed_kept
    | split
    | dsimp only)

theorem execFeSequenceReplay_kept (s : State) (h : Kept q n s) :
    KeptOut q n (execFeSequenceReplay s) := by
  unfold execFeSequenceReplay
  repeat' (first
    | with_reducible assumption
    | with_reducible apply keptOut_next
    | with_reducible intro _
    | with_reducible apply kept_ite
    | with_reducible apply State.onTimer_kept
    | with_reducible apply State.startSeq_kept
    | with_reducible apply State.seqPlayed_kept
    | split
    | dsimp only)

theorem execLeDetect_kept (d : Dir) (both : Bool) (s : State) (h : Kept q n s) :
    KeptOut q n (execLeDetect d both s) := by
  unfold execLeDetect
  repeat' (first
    | with_reducible assumption
    | with_reducible apply keptOut_next
    | with_reducible intro _
    | with_reducible apply kept_ite
    | with_reducible apply State.bump_kept
    | with_reducible apply State.when_kept
    | with_reducible apply State.openGate_kept
    | split
    | dsimp only)

theorem execLeRelease_kept (s : State) (h : Kept q n s) :
    KeptOut q n (execLeRelease s) := by
  unfold execLeRelease
  repeat' (first
    | with_reducible assumption
    | with_reducible apply keptOut_next
    | with_reducible intro _
    | with_reducible apply kept_ite
    | with_reducible apply State.enterGuard_kept
    | with_reducible apply State.endStreak_kept
    | split
    | dsimp only)

theorem State.countMaxHold_kept (s : State) (d : Dir) (h : Kept q n s) :
    Kept q n (State.countMaxHold s d) := by
  unfold State.countMaxHold
  repeat' (first
    | with_reducible assumption
    | with_reducible intro _
    | with_reducible apply kept_ite
    | with_reducible apply State.set_kept
    | with_reducible apply State.arm_kept
    | with_reducible apply State.faultRow_kept
    | split
    | dsimp only)

theorem execLeMaxHold_kept (s : State) (h : Kept q n s) :
    KeptOut q n (execLeMaxHold s) := by
  unfold execLeMaxHold
  repeat' (first
    | with_reducible assumption
    | with_reducible apply keptOut_next
    | with_reducible intro _
    | with_reducible apply kept_ite
    | with_reducible apply State.onTimer_kept
    | with_reducible apply State.log_kept
    | with_reducible apply State.flagFirst_kept
    | with_reducible apply State.enterGuard_kept
    | with_reducible apply State.countMaxHold_kept
    | split
    | dsimp only)

theorem execLeGuardEnd_kept (s : State) (h : Kept q n s) :
    KeptOut q n (execLeGuardEnd s) := by
  unfold execLeGuardEnd
  repeat' (first
    | with_reducible assumption
    | with_reducible apply keptOut_next
    | with_reducible intro _
    | with_reducible apply kept_ite
    | with_reducible apply State.set_kept
    | with_reducible apply State.onTimer_kept
    | split
    | dsimp only)

theorem execLeBarEnd_kept (d : Dir) (s : State) (h : Kept q n s) :
    KeptOut q n (execLeBarEnd d s) := by
  unfold execLeBarEnd
  repeat' (first
    | with_reducible assumption
    | with_reducible apply keptOut_next
    | with_reducible intro _
    | with_reducible apply kept_ite
    | with_reducible apply State.set_kept
    | with_reducible apply State.onTimer_kept
    | split
    | dsimp only)

end Sys2Proof.Machine
end

