-- ==== Sys2Proof/Laws/KeptField.lean ====
section
/-!
SUPPORT. What the functions of Sys2Proof/Machine/Field.lean keep, one lemma for each of them (Laws/Kept.lean says what).
-/

namespace Sys2Proof.Machine

set_option linter.unusedTactic false
set_option linter.unreachableTactic false
set_option linter.unusedVariables false

open Sys2Proof

variable {q : List Instr} {n : Floor}

theorem State.rxDiscard_kept (s : State) (p : Port) (h : Kept q n s) :
    Kept q n (State.rxDiscard s p) := by
  unfold State.rxDiscard
  repeat' (first
    | with_reducible assumption
    | with_reducible intro _
    | with_reducible apply kept_ite
    | with_reducible apply State.bump_kept
    | split
    | dsimp only)

theorem State.countDrop_kept (s : State) (q' : Nat) (h : Kept q n s) :
    Kept q n (State.countDrop s q') := by
  unfold State.countDrop
  repeat' (first
    | with_reducible assumption
    | with_reducible intro _
    | with_reducible apply kept_ite
    | split
    | dsimp only)

theorem State.heard_kept (s : State) (src : Nat) (h : Kept q n s) :
    Kept q n (State.heard s src) := by
  unfold State.heard
  repeat' (first
    | with_reducible assumption
    | with_reducible intro _
    | with_reducible apply kept_ite
    | with_reducible apply State.set_kept
    | with_reducible apply State.arm_kept
    | split
    | dsimp only)

theorem State.addressConflict_kept (s : State) (h : Kept q n s) :
    Kept q n (State.addressConflict s) := by
  unfold State.addressConflict
  repeat' (first
    | with_reducible assumption
    | with_reducible intro _
    | with_reducible apply kept_ite
    | with_reducible apply State.disarm_kept
    | with_reducible apply State.notify_kept
    | with_reducible apply State.faultRow_kept
    | with_reducible apply State.drainLogs_kept
    | split
    | dsimp only)

theorem State.armLocate_kept (s : State) (h : Kept q n s) :
    Kept q n (State.armLocate s) := by
  unfold State.armLocate
  repeat' (first
    | with_reducible assumption
    | with_reducible intro _
    | with_reducible apply kept_ite
    | with_reducible apply State.disarm_kept
    | with_reducible apply State.arm_kept
    | split
    | dsimp only)

theorem State.drawLocate_kept (s : State) (r : LocateRun) (h : Kept q n s) :
    Kept q n (State.drawLocate s r) := by
  unfold State.drawLocate
  repeat' (first
    | with_reducible assumption
    | with_reducible intro _
    | with_reducible apply kept_ite
    | with_reducible apply kept_ite_snd
    | with_reducible apply State.draw_kept
    | with_reducible apply State.armLocate_kept
    | split
    | dsimp only)

theorem State.takeQuery_kept (s : State) (p : Port) (requester tid : Nat) (b : Bytes) (h : Kept q n s) :
    Kept q n (State.takeQuery s p requester tid b) := by
  unfold State.takeQuery
  repeat' (first
    | with_reducible assumption
    | with_reducible intro _
    | with_reducible apply kept_ite
    | with_reducible apply State.drawLocate_kept
    | split
    | dsimp only)

theorem State.noteSent_kept (s : State) (p : Port) (f : CanFrame) (h : Kept q n s) :
    Kept q n (State.noteSent s p f) := by
  unfold State.noteSent
  repeat' (first
    | with_reducible assumption
    | with_reducible intro _
    | with_reducible apply kept_ite
    | with_reducible apply State.setPortEng_kept
    | split
    | dsimp only)

theorem State.locateDue_kept (s : State) (acked : Bool) (h : Kept q n s) :
    Kept q n (State.locateDue s acked) := by
  unfold State.locateDue
  repeat' (first
    | with_reducible assumption
    | with_reducible intro _
    | with_reducible apply kept_ite
    | with_reducible apply State.bump_kept
    | with_reducible apply State.sendFrames_kept
    | with_reducible apply State.remember_kept
    | with_reducible apply State.armLocate_kept
    | with_reducible apply State.drawLocate_kept
    | with_reducible apply State.noteSent_kept
    | with_reducible apply kept_foldl
    | split
    | dsimp only)

theorem State.authBroadcast_kept (s : State) (c : Caller) (sid scope : Nat) (msg body : Bytes) (h : Kept q n s) :
    Kept q n (State.authBroadcast s c sid scope msg body).2 := by
  unfold State.authBroadcast
  repeat' (first
    | with_reducible assumption
    | with_reducible intro _
    | with_reducible apply kept_ite
    | with_reducible apply kept_ite_snd
    | with_reducible apply State.arm_kept
    | with_reducible apply State.setSession_kept
    | with_reducible apply State.groupFails_kept
    | split
    | dsimp only)

theorem State.broadcastTime_kept (s : State) (c : Caller) (claimed : Option Nat) (scope : Nat) (msg : Bytes) (h : Kept q n s) :
    Kept q n (State.broadcastTime s c claimed scope msg) := by
  unfold State.broadcastTime
  repeat' (first
    | with_reducible assumption
    | with_reducible intro _
    | with_reducible apply kept_ite
    | with_reducible apply kept_ite_snd
    | with_reducible apply State.endSpent_kept
    | with_reducible apply State.takeTimeSet_kept
    | with_reducible apply State.authBroadcast_kept
    | split
    | dsimp only)

theorem State.takeGroup_kept (s : State) (p : Port) (i : BitVec 29) (tid hop : Nat) (prot : Bool) (msg raw : Bytes) (h : Kept q n s) :
    Kept q n (State.takeGroup s p i tid hop prot msg raw) := by
  unfold State.takeGroup
  repeat' (first
    | with_reducible assumption
    | with_reducible intro _
    | with_reducible apply kept_ite
    | with_reducible apply State.handle_kept
    | with_reducible apply State.rememberGroup_kept
    | with_reducible apply State.repeatReply_kept
    | with_reducible apply State.portRequest_kept
    | with_reducible apply State.takeQuery_kept
    | with_reducible apply State.broadcastTime_kept
    | split
    | dsimp only)

theorem State.dropGroup_kept (s : State) (g : Reasm) (h : Kept q n s) :
    Kept q n (State.dropGroup s g) := by
  unfold State.dropGroup
  repeat' (first
    | with_reducible assumption
    | with_reducible intro _
    | with_reducible apply kept_ite
    | with_reducible apply State.disarm_kept
    | split
    | dsimp only)

theorem State.groupAbort_kept (s : State) (p : Port) (i : BitVec 29) (tid : Nat) (body : Bytes) (a : Abort) (h : Kept q n s) :
    Kept q n (State.groupAbort s p i tid body a) := by
  unfold State.groupAbort
  repeat' (first
    | with_reducible assumption
    | with_reducible intro _
    | with_reducible apply kept_ite
    | with_reducible apply State.abort_kept
    | split
    | dsimp only)

theorem State.groupFull_kept (s : State) (p : Port) (i : BitVec 29) (tid q' : Nat) (body : Bytes) (h : Kept q n s) :
    Kept q n (State.groupFull s p i tid q' body) := by
  unfold State.groupFull
  repeat' (first
    | with_reducible assumption
    | with_reducible intro _
    | with_reducible apply kept_ite
    | with_reducible apply State.refuse_kept
    | with_reducible apply State.countDrop_kept
    | split
    | dsimp only)

theorem State.firstFrame_kept (s : State) (p : Port) (f : CanFrame) (h : Kept q n s) :
    Kept q n (State.firstFrame s p f) := by
  unfold State.firstFrame
  repeat' (first
    | with_reducible assumption
    | with_reducible intro _
    | with_reducible apply kept_ite
    | with_reducible apply State.arm_kept
    | with_reducible apply State.takeGroup_kept
    | with_reducible apply State.groupAbort_kept
    | with_reducible apply State.groupFull_kept
    | split
    | dsimp only)

theorem State.nextFrame_kept (s : State) (g : Reasm) (f : CanFrame) (h : Kept q n s) :
    Kept q n (State.nextFrame s g f) := by
  unfold State.nextFrame
  repeat' (first
    | with_reducible assumption
    | with_reducible intro _
    | with_reducible apply kept_ite
    | with_reducible apply State.takeGroup_kept
    | with_reducible apply State.dropGroup_kept
    | with_reducible apply State.groupAbort_kept
    | with_reducible apply State.groupFull_kept
    | split
    | dsimp only)

theorem State.assemble_kept (s : State) (p : Port) (f : CanFrame) (h : Kept q n s) :
    Kept q n (State.assemble s p f) := by
  unfold State.assemble
  repeat' (first
    | with_reducible assumption
    | with_reducible intro _
    | with_reducible apply kept_ite
    | with_reducible apply State.dropGroup_kept
    | with_reducible apply State.groupAbort_kept
    | with_reducible apply State.firstFrame_kept
    | with_reducible apply State.nextFrame_kept
    | split
    | dsimp only)

theorem State.interruptGroup_kept (s : State) (f : CanFrame) (h : Kept q n s) :
    Kept q n (State.interruptGroup s f) := by
  unfold State.interruptGroup
  repeat' (first
    | with_reducible assumption
    | with_reducible intro _
    | with_reducible apply kept_ite
    | with_reducible apply State.dropGroup_kept
    | with_reducible apply State.groupAbort_kept
    | split
    | dsimp only)

theorem State.localFrame_kept (s : State) (p : Port) (f : CanFrame) (h : Kept q n s) :
    Kept q n (State.localFrame s p f) := by
  unfold State.localFrame
  repeat' (first
    | with_reducible assumption
    | with_reducible intro _
    | with_reducible apply kept_ite
    | with_reducible apply State.countDrop_kept
    | with_reducible apply State.heard_kept
    | with_reducible apply State.assemble_kept
    | with_reducible apply State.interruptGroup_kept
    | split
    | dsimp only)

theorem State.unreachable_kept (s : State) (p : Port) (f : CanFrame) (h : Kept q n s) :
    Kept q n (State.unreachable s p f) := by
  unfold State.unreachable
  repeat' (first
    | with_reducible assumption
    | with_reducible intro _
    | with_reducible apply kept_ite
    | with_reducible apply State.sendFrames_kept
    | split
    | dsimp only)

theorem State.dropForwarded_kept (s : State) (p : Port) (f : CanFrame) (i : BitVec 29) (q' : Nat) (h : Kept q n s) :
    Kept q n (State.dropForwarded s p f i q') := by
  unfold State.dropForwarded
  repeat' (first
    | with_reducible assumption
    | with_reducible intro _
    | with_reducible apply kept_ite
    | split
    | dsimp only)

theorem State.forgetDropped_kept (s : State) (p : Port) (f : CanFrame) (h : Kept q n s) :
    Kept q n (State.forgetDropped s p f) := by
  unfold State.forgetDropped
  repeat' (first
    | with_reducible assumption
    | with_reducible intro _
    | with_reducible apply kept_ite
    | split
    | dsimp only)

theorem State.forwardFrame_kept (s : State) (p : Port) (f : CanFrame) (h : Kept q n s) :
    Kept q n (State.forwardFrame s p f) := by
  unfold State.forwardFrame
  repeat' (first
    | with_reducible assumption
    | with_reducible intro _
    | with_reducible apply kept_ite
    | with_reducible apply State.bump_kept
    | with_reducible apply State.arm_kept
    | with_reducible apply State.post_kept
    | with_reducible apply State.txExpired_kept
    | with_reducible apply State.flag_kept
    | with_reducible apply State.faultRow_kept
    | with_reducible apply State.refuse_kept
    | with_reducible apply State.countDrop_kept
    | with_reducible apply State.unreachable_kept
    | with_reducible apply State.dropForwarded_kept
    | with_reducible apply State.forgetDropped_kept
    | split
    | dsimp only)

theorem State.exceptIntegrate_kept (s : State) (p : Port) (h : Kept q n s) :
    Kept q n (State.exceptIntegrate s p) := by
  unfold State.exceptIntegrate
  repeat' (first
    | with_reducible assumption
    | with_reducible intro _
    | with_reducible apply kept_ite
    | with_reducible apply State.joinPort_kept
    | split
    | dsimp only)

theorem State.receiveFrame_kept (s : State) (p : Port) (f : CanFrame) (h : Kept q n s) :
    Kept q n (State.receiveFrame s p f) := by
  unfold State.receiveFrame
  repeat' (first
    | with_reducible assumption
    | with_reducible intro _
    | with_reducible apply kept_ite
    | with_reducible apply State.bump_kept
    | with_reducible apply State.flag_kept
    | with_reducible apply State.rxDiscard_kept
    | with_reducible apply State.addressConflict_kept
    | with_reducible apply State.localFrame_kept
    | with_reducible apply State.forwardFrame_kept
    | with_reducible apply State.exceptIntegrate_kept
    | split
    | dsimp only)

theorem State.receiveAll_kept (s : State) (p : Port) (fs : List CanFrame) (h : Kept q n s) :
    Kept q n (State.receiveAll s p fs) := by
  unfold State.receiveAll
  repeat' (first
    | with_reducible assumption
    | with_reducible intro _
    | with_reducible apply kept_ite
    | with_reducible apply State.receiveFrame_kept
    | with_reducible apply kept_foldl
    | split
    | dsimp only)

theorem State.arrive_kept (s : State) (r : ReqCtx) (svc aux : Nat) (body : Bytes) (h : Kept q n s) :
    Kept q n (State.arrive s r svc aux body) := by
  unfold State.arrive
  repeat' (first
    | with_reducible assumption
    | with_reducible intro _
    | with_reducible apply kept_ite
    | with_reducible apply State.abort_kept
    | with_reducible apply State.hostRequest_kept
    | with_reducible apply State.receiveAll_kept
    | split
    | dsimp only)

theorem execObvarFrameReceive_kept (p : Port) (f : CanFrame) (s : State) (h : Kept q n s) :
    KeptOut q n (execObvarFrameReceive p f s) := by
  unfold execObvarFrameReceive
  repeat' (first
    | with_reducible assumption
    | with_reducible apply keptOut_next
    | with_reducible intro _
    | with_reducible apply kept_ite
    | with_reducible apply State.receiveFrame_kept
    | split
    | dsimp only)

theorem execReassemblyTimeout_kept (p : Port) (src : BitVec 9) (s : State) (h : Kept q n s) :
    KeptOut q n (execReassemblyTimeout p src s) := by
  unfold execReassemblyTimeout
  repeat' (first
    | with_reducible assumption
    | with_reducible apply keptOut_next
    | with_reducible intro _
    | with_reducible apply kept_ite
    | with_reducible apply State.onTimer_kept
    | with_reducible apply State.flag_kept
    | with_reducible apply State.dropGroup_kept
    | with_reducible apply State.groupAbort_kept
    | split
    | dsimp only)

theorem State.rearmTx_kept (s : State) (p : Port) (q' : Nat) (h : Kept q n s) :
    Kept q n (State.rearmTx s p q') := by
  unfold State.rearmTx
  repeat' (first
    | with_reducible assumption
    | with_reducible intro _
    | with_reducible apply kept_ite
    | with_reducible apply State.disarm_kept
    | with_reducible apply State.arm_kept
    | split
    | dsimp only)

theorem State.rearmRefusal_kept (s : State) (p : Port) (h : Kept q n s) :
    Kept q n (State.rearmRefusal s p) := by
  unfold State.rearmRefusal
  repeat' (first
    | with_reducible assumption
    | with_reducible intro _
    | with_reducible apply kept_ite
    | with_reducible apply State.disarm_kept
    | with_reducible apply State.arm_kept
    | split
    | dsimp only)

theorem State.errorActive_kept (s : State) (p : Port) (h : Kept q n s) :
    Kept q n (State.errorActive s p) := by
  unfold State.errorActive
  repeat' (first
    | with_reducible assumption
    | with_reducible intro _
    | with_reducible apply kept_ite
    | with_reducible apply State.arm_kept
    | split
    | dsimp only)

theorem State.setTec_kept (s : State) (p : Port) (tec : Nat) (h : Kept q n s) :
    Kept q n (State.setTec s p tec) := by
  unfold State.setTec
  repeat' (first
    | with_reducible assumption
    | with_reducible intro _
    | with_reducible apply kept_ite
    | with_reducible apply State.set_kept
    | with_reducible apply State.setPortEng_kept
    | split
    | dsimp only)

theorem State.sentOne_kept (s : State) (p : Port) (h : Kept q n s) :
    Kept q n (State.sentOne s p) := by
  unfold State.sentOne
  repeat' (first
    | with_reducible assumption
    | with_reducible intro _
    | with_reducible apply kept_ite
    | with_reducible apply State.set_kept
    | with_reducible apply State.bump_kept
    | with_reducible apply State.errorActive_kept
    | with_reducible apply State.setTec_kept
    | split
    | dsimp only)

theorem State.countForwarded_kept (s : State) (p : Port) (q' : Nat) (h : Kept q n s) :
    Kept q n (State.countForwarded s p q') := by
  unfold State.countForwarded
  repeat' (first
    | with_reducible assumption
    | with_reducible intro _
    | with_reducible apply kept_ite
    | with_reducible apply State.bump_kept
    | split
    | dsimp only)

theorem State.sendQueued_kept (s : State) (p : Port) (x : Nat × CanFrame) (h : Kept q n s) :
    Kept q n (State.sendQueued s p x) := by
  unfold State.sendQueued
  repeat' (first
    | with_reducible assumption
    | with_reducible intro _
    | with_reducible apply kept_ite
    | with_reducible apply State.take_kept
    | with_reducible apply State.serveHeld_kept
    | with_reducible apply State.noteSent_kept
    | with_reducible apply State.rearmTx_kept
    | with_reducible apply State.sentOne_kept
    | with_reducible apply State.countForwarded_kept
    | split
    | dsimp only)

theorem State.sendRefusal_kept (s : State) (p : Port) (r : RefusalFrame) (rest : List RefusalFrame) (h : Kept q n s) :
    Kept q n (State.sendRefusal s p r rest) := by
  unfold State.sendRefusal
  repeat' (first
    | with_reducible assumption
    | with_reducible intro _
    | with_reducible apply kept_ite
    | with_reducible apply State.setPortEng_kept
    | with_reducible apply State.noteSent_kept
    | with_reducible apply State.rearmRefusal_kept
    | with_reducible apply State.sentOne_kept
    | split
    | dsimp only)

theorem State.transmit_kept (s : State) (p : Port) (h : Kept q n s) :
    Kept q n (State.transmit s p) := by
  unfold State.transmit
  repeat' (first
    | with_reducible assumption
    | with_reducible intro _
    | with_reducible apply kept_ite
    | with_reducible apply State.sendQueued_kept
    | with_reducible apply State.sendRefusal_kept
    | split
    | dsimp only)

theorem State.afterSend_kept (s : State) (p : Port) (h : Kept q n s) :
    Kept q n (State.afterSend s p) := by
  unfold State.afterSend
  repeat' (first
    | with_reducible assumption
    | with_reducible intro _
    | with_reducible apply kept_ite
    | with_reducible apply State.portStandby_kept
    | with_reducible apply State.settleJoin_kept
    | split
    | dsimp only)

theorem execFrameTransmit_kept (p : Port) (s : State) (h : Kept q n s) :
    KeptOut q n (execFrameTransmit p s) := by
  unfold execFrameTransmit
  repeat' (first
    | with_reducible assumption
    | with_reducible apply keptOut_next
    | with_reducible intro _
    | with_reducible apply kept_ite
    | with_reducible apply State.when_kept
    | with_reducible apply State.transmit_kept
    | with_reducible apply State.afterSend_kept
    | split
    | dsimp only)

theorem State.txTimeout_kept (s : State) (p : Port) (q' : Nat) (h : Kept q n s) :
    Kept q n (State.txTimeout s p q') := by
  unfold State.txTimeout
  repeat' (first
    | with_reducible assumption
    | with_reducible intro _
    | with_reducible apply kept_ite
    | with_reducible apply State.take_kept
    | with_reducible apply State.txExpired_kept
    | with_reducible apply State.noteSummary_kept
    | with_reducible apply State.serveHeld_kept
    | with_reducible apply State.rearmTx_kept
    | split
    | dsimp only)

theorem execTxLifetimeExpiry_kept (p : Port) (queue : Byte) (s : State) (h : Kept q n s) :
    KeptOut q n (execTxLifetimeExpiry p queue s) := by
  unfold execTxLifetimeExpiry
  repeat' (first
    | with_reducible assumption
    | with_reducible apply keptOut_next
    | with_reducible intro _
    | with_reducible apply kept_ite
    | with_reducible apply State.onTimer_kept
    | with_reducible apply State.settleJoin_kept
    | with_reducible apply State.txTimeout_kept
    | split
    | dsimp only)

theorem State.flushPort_kept (s : State) (p : Port) (h : Kept q n s) :
    Kept q n (State.flushPort s p) := by
  unfold State.flushPort
  repeat' (first
    | with_reducible assumption
    | with_reducible intro _
    | with_reducible apply kept_ite
    | with_reducible apply State.disarm_kept
    | with_reducible apply State.txExpired_kept
    | with_reducible apply State.noteSummary_kept
    | with_reducible apply State.serveHeld_kept
    | with_reducible apply kept_foldl
    | split
    | dsimp only)

theorem execHeartbeat_kept (p : Port) (s : State) (h : Kept q n s) :
    KeptOut q n (execHeartbeat p s) := by
  unfold execHeartbeat
  repeat' (first
    | with_reducible assumption
    | with_reducible apply keptOut_next
    | with_reducible intro _
    | with_reducible apply kept_ite
    | with_reducible apply State.arm_kept
    | with_reducible apply State.onTimer_kept
    | with_reducible apply State.sendFrames_kept
    | split
    | dsimp only)

theorem execHeartbeatReceive_kept (p : Port) (src : BitVec 9) (s : State) (h : Kept q n s) :
    KeptOut q n (execHeartbeatReceive p src s) := by
  unfold execHeartbeatReceive
  repeat' (first
    | with_reducible assumption
    | with_reducible apply keptOut_next
    | with_reducible intro _
    | with_reducible apply kept_ite
    | with_reducible apply kept_ite_snd
    | with_reducible apply State.draw_kept
    | with_reducible apply State.receiveAll_kept
    | split
    | dsimp only)

theorem execNodeOffline_kept (node : BitVec 9) (s : State) (h : Kept q n s) :
    KeptOut q n (execNodeOffline node s) := by
  unfold execNodeOffline
  repeat' (first
    | with_reducible assumption
    | with_reducible apply keptOut_next
    | with_reducible intro _
    | with_reducible apply kept_ite
    | with_reducible apply State.set_kept
    | with_reducible apply State.onTimer_kept
    | with_reducible apply State.notify_kept
    | split
    | dsimp only)

theorem execTimeSet_kept (r : ReqCtx) (broadcast : Bool) (utcSeconds : BitVec 64) (micros : BitVec 32) (source : Byte) (s : State) (h : Kept q n s) :
    KeptOut q n (execTimeSet r broadcast utcSeconds micros source s) := by
  unfold execTimeSet
  repeat' (first
    | with_reducible assumption
    | with_reducible apply keptOut_next
    | with_reducible intro _
    | with_reducible apply kept_ite
    | with_reducible apply State.receiveAll_kept
    | with_reducible apply State.arrive_kept
    | split
    | dsimp only)

theorem execLocateQuery_kept (p : Port) (q' : LocateQ) (s : State) (h : Kept q n s) :
    KeptOut q n (execLocateQuery p q' s) := by
  unfold execLocateQuery
  repeat' (first
    | with_reducible assumption
    | with_reducible apply keptOut_next
    | with_reducible intro _
    | with_reducible apply kept_ite
    | with_reducible apply State.receiveAll_kept
    | split
    | dsimp only)

theorem execLocateReply_kept (acked : Bool) (s : State) (h : Kept q n s) :
    KeptOut q n (execLocateReply acked s) := by
  unfold execLocateReply
  repeat' (first
    | with_reducible assumption
    | with_reducible apply keptOut_next
    | with_reducible intro _
    | with_reducible apply kept_ite
    | with_reducible apply State.onTimer_kept
    | with_reducible apply State.locateDue_kept
    | split
    | dsimp only)

theorem execBusOff_kept (p : Port) (s : State) (h : Kept q n s) :
    KeptOut q n (execBusOff p s) := by
  unfold execBusOff
  repeat' (first
    | with_reducible assumption
    | with_reducible apply keptOut_next
    | with_reducible intro _
    | with_reducible apply kept_ite
    | with_reducible apply State.set_kept
    | with_reducible apply State.bump_kept
    | with_reducible apply State.disarm_kept
    | with_reducible apply State.arm_kept
    | with_reducible apply State.when_kept
    | with_reducible apply State.faultRow_kept
    | with_reducible apply State.setPortEng_kept
    | with_reducible apply State.setTec_kept
    | with_reducible apply State.flushPort_kept
    | split
    | dsimp only)

theorem execBusOffHoldoffExpiry_kept (p : Port) (s : State) (h : Kept q n s) :
    KeptOut q n (execBusOffHoldoffExpiry p s) := by
  unfold execBusOffHoldoffExpiry
  repeat' (first
    | with_reducible assumption
    | with_reducible apply keptOut_next
    | with_reducible intro _
    | with_reducible apply kept_ite
    | with_reducible apply State.set_kept
    | with_reducible apply State.onTimer_kept
    | with_reducible apply State.joinPort_kept
    | with_reducible apply State.setPortEng_kept
    | with_reducible apply State.setTec_kept
    | split
    | dsimp only)

theorem execBusOffWaitReset_kept (p : Port) (s : State) (h : Kept q n s) :
    KeptOut q n (execBusOffWaitReset p s) := by
  unfold execBusOffWaitReset
  repeat' (first
    | with_reducible assumption
    | with_reducible apply keptOut_next
    | with_reducible intro _
    | with_reducible apply kept_ite
    | with_reducible apply State.onTimer_kept
    | with_reducible apply State.setPortEng_kept
    | split
    | dsimp only)

theorem execErrorPassive_kept (p : Port) (s : State) (h : Kept q n s) :
    KeptOut q n (execErrorPassive p s) := by
  unfold execErrorPassive
  repeat' (first
    | with_reducible assumption
    | with_reducible apply keptOut_next
    | with_reducible intro _
    | with_reducible apply kept_ite
    | with_reducible apply State.set_kept
    | with_reducible apply State.disarm_kept
    | with_reducible apply State.when_kept
    | with_reducible apply State.log_kept
    | with_reducible apply State.flagFirst_kept
    | with_reducible apply State.setTec_kept
    | split
    | dsimp only)

theorem execStuckDominant_kept (p : Port) (s : State) (h : Kept q n s) :
    KeptOut q n (execStuckDominant p s) := by
  unfold execStuckDominant
  repeat' (first
    | with_reducible assumption
    | with_reducible apply keptOut_next
    | with_reducible intro _
    | with_reducible apply kept_ite
    | with_reducible apply State.set_kept
    | with_reducible apply State.disarm_kept
    | with_reducible apply State.arm_kept
    | with_reducible apply State.when_kept
    | with_reducible apply State.faultRow_kept
    | with_reducible apply State.setStb_kept
    | with_reducible apply State.flushPort_kept
    | split
    | dsimp only)

theorem execStuckDominantRejoin_kept (p : Port) (s : State) (h : Kept q n s) :
    KeptOut q n (execStuckDominantRejoin p s) := by
  unfold execStuckDominantRejoin
  repeat' (first
    | with_reducible assumption
    | with_reducible apply keptOut_next
    | with_reducible intro _
    | with_reducible apply kept_ite
    | with_reducible apply State.onTimer_kept
    | with_reducible apply State.joinPort_kept
    | split
    | dsimp only)

theorem execRestrictedLong_kept (s : State) (h : Kept q n s) :
    KeptOut q n (execRestrictedLong s) := by
  unfold execRestrictedLong
  repeat' (first
    | with_reducible assumption
    | with_reducible apply keptOut_next
    | with_reducible intro _
    | with_reducible apply kept_ite
    | with_reducible apply State.onTimer_kept
    | with_reducible apply State.flag_kept
    | with_reducible apply State.flushPort_kept
    | split
    | dsimp only)

theorem execBusIntegration_kept (p : Port) (s : State) (h : Kept q n s) :
    KeptOut q n (execBusIntegration p s) := by
  unfold execBusIntegration
  repeat' (first
    | with_reducible assumption
    | with_reducible apply keptOut_next
    | with_reducible intro _
    | with_reducible apply kept_ite
    | with_reducible apply State.set_kept
    | with_reducible apply State.arm_kept
    | with_reducible apply State.when_kept
    | with_reducible apply State.setPortEng_kept
    | with_reducible apply State.errorActive_kept
    | split
    | dsimp only)

end Sys2Proof.Machine
end

