-- ==== Sys2Proof/Laws/KeptRequests.lean ====
section
/-!
SUPPORT. What the functions of Sys2Proof/Machine/Requests.lean keep, one lemma for each of them (Laws/Kept.lean says what).
-/

namespace Sys2Proof.Machine

set_option linter.unusedTactic false
set_option linter.unreachableTactic false
set_option linter.unusedVariables false

open Sys2Proof

variable {q : List Instr} {n : Floor}

theorem State.requestWrite_kept (s : State) (r : ReqCtx) (k v : Nat) (h : Kept q n s) :
    Kept q n (State.requestWrite s r k v) := by
  unfold State.requestWrite
  repeat' (first
    | with_reducible assumption
    | with_reducible intro _
    | with_reducible apply kept_ite
    | with_reducible apply State.arrive_kept
    | split
    | dsimp only)

theorem execRequestDormant_kept (r : ReqCtx) (s : State) (h : Kept q n s) :
    KeptOut q n (execRequestDormant r s) := by
  unfold execRequestDormant
  repeat' (first
    | with_reducible assumption
    | with_reducible apply keptOut_next
    | with_reducible intro _
    | with_reducible apply kept_ite
    | with_reducible apply State.requestWrite_kept
    | split
    | dsimp only)

theorem execRequestStandby_kept (r : ReqCtx) (s : State) (h : Kept q n s) :
    KeptOut q n (execRequestStandby r s) := by
  unfold execRequestStandby
  repeat' (first
    | with_reducible assumption
    | with_reducible apply keptOut_next
    | with_reducible intro _
    | with_reducible apply kept_ite
    | with_reducible apply State.requestWrite_kept
    | split
    | dsimp only)

theorem execRequestActive_kept (r : ReqCtx) (s : State) (h : Kept q n s) :
    KeptOut q n (execRequestActive r s) := by
  unfold execRequestActive
  repeat' (first
    | with_reducible assumption
    | with_reducible apply keptOut_next
    | with_reducible intro _
    | with_reducible apply kept_ite
    | with_reducible apply State.requestWrite_kept
    | split
    | dsimp only)

theorem execRequestService_kept (r : ReqCtx) (s : State) (h : Kept q n s) :
    KeptOut q n (execRequestService r s) := by
  unfold execRequestService
  repeat' (first
    | with_reducible assumption
    | with_reducible apply keptOut_next
    | with_reducible intro _
    | with_reducible apply kept_ite
    | with_reducible apply State.requestWrite_kept
    | split
    | dsimp only)

theorem execRequestRestart_kept (r : ReqCtx) (s : State) (h : Kept q n s) :
    KeptOut q n (execRequestRestart r s) := by
  unfold execRequestRestart
  repeat' (first
    | with_reducible assumption
    | with_reducible apply keptOut_next
    | with_reducible intro _
    | with_reducible apply kept_ite
    | with_reducible apply State.requestWrite_kept
    | split
    | dsimp only)

theorem execRevokeSlot0_kept (r : ReqCtx) (s : State) (h : Kept q n s) :
    KeptOut q n (execRevokeSlot0 r s) := by
  unfold execRevokeSlot0
  repeat' (first
    | with_reducible assumption
    | with_reducible apply keptOut_next
    | with_reducible intro _
    | with_reducible apply kept_ite
    | with_reducible apply State.requestWrite_kept
    | split
    | dsimp only)

theorem execLifecycleConfirm_kept (r : ReqCtx) (value : BitVec 16) (s : State) (h : Kept q n s) :
    KeptOut q n (execLifecycleConfirm r value s) := by
  unfold execLifecycleConfirm
  repeat' (first
    | with_reducible assumption
    | with_reducible apply keptOut_next
    | with_reducible intro _
    | with_reducible apply kept_ite
    | with_reducible apply State.requestWrite_kept
    | split
    | dsimp only)

theorem execLifecycleRequest_kept (r : ReqCtx) (target : Byte) (s : State) (h : Kept q n s) :
    KeptOut q n (execLifecycleRequest r target s) := by
  unfold execLifecycleRequest
  repeat' (first
    | with_reducible assumption
    | with_reducible apply keptOut_next
    | with_reducible intro _
    | with_reducible apply kept_ite
    | with_reducible apply State.requestWrite_kept
    | split
    | dsimp only)

theorem execRoleKeyWrite_kept (r : ReqCtx) (which : Fin 5) (key : Bytes) (s : State) (h : Kept q n s) :
    KeptOut q n (execRoleKeyWrite r which key s) := by
  unfold execRoleKeyWrite
  repeat' (first
    | with_reducible assumption
    | with_reducible apply keptOut_next
    | with_reducible intro _
    | with_reducible apply kept_ite
    | with_reducible apply State.arrive_kept
    | split
    | dsimp only)

theorem execSessionOpen_kept (r : ReqCtx) (role version : Byte) (peer : BitVec 16) (nc : BitVec 128) (s : State) (h : Kept q n s) :
    KeptOut q n (execSessionOpen r role version peer nc s) := by
  unfold execSessionOpen
  repeat' (first
    | with_reducible assumption
    | with_reducible apply keptOut_next
    | with_reducible intro _
    | with_reducible apply kept_ite
    | with_reducible apply State.arrive_kept
    | split
    | dsimp only)

theorem execSessionConfirm_kept (r : ReqCtx) (sid : BitVec 16) (tagC : BitVec 128) (s : State) (h : Kept q n s) :
    KeptOut q n (execSessionConfirm r sid tagC s) := by
  unfold execSessionConfirm
  repeat' (first
    | with_reducible assumption
    | with_reducible apply keptOut_next
    | with_reducible intro _
    | with_reducible apply kept_ite
    | with_reducible apply State.arrive_kept
    | split
    | dsimp only)

theorem execDebugRequest_kept (r : ReqCtx) (level : Byte) (s : State) (h : Kept q n s) :
    KeptOut q n (execDebugRequest r level s) := by
  unfold execDebugRequest
  repeat' (first
    | with_reducible assumption
    | with_reducible apply keptOut_next
    | with_reducible intro _
    | with_reducible apply kept_ite
    | with_reducible apply State.requestWrite_kept
    | split
    | dsimp only)

theorem execDebugToken_kept (r : ReqCtx) (token : Bytes) (s : State) (h : Kept q n s) :
    KeptOut q n (execDebugToken r token s) := by
  unfold execDebugToken
  repeat' (first
    | with_reducible assumption
    | with_reducible apply keptOut_next
    | with_reducible intro _
    | with_reducible apply kept_ite
    | with_reducible apply State.arrive_kept
    | split
    | dsimp only)

theorem execDebugChallengeRead_kept (r : ReqCtx) (s : State) (h : Kept q n s) :
    KeptOut q n (execDebugChallengeRead r s) := by
  unfold execDebugChallengeRead
  repeat' (first
    | with_reducible assumption
    | with_reducible apply keptOut_next
    | with_reducible intro _
    | with_reducible apply kept_ite
    | with_reducible apply State.arrive_kept
    | split
    | dsimp only)

theorem execRead_kept (r : ReqCtx) (index : BitVec 16) (sub : Byte) (s : State) (h : Kept q n s) :
    KeptOut q n (execRead r index sub s) := by
  unfold execRead
  repeat' (first
    | with_reducible assumption
    | with_reducible apply keptOut_next
    | with_reducible intro _
    | with_reducible apply kept_ite
    | with_reducible apply State.arrive_kept
    | split
    | dsimp only)

theorem execWrite_kept (r : ReqCtx) (index : BitVec 16) (sub type : Byte) (value : Bytes) (s : State) (h : Kept q n s) :
    KeptOut q n (execWrite r index sub type value s) := by
  unfold execWrite
  repeat' (first
    | with_reducible assumption
    | with_reducible apply keptOut_next
    | with_reducible intro _
    | with_reducible apply kept_ite
    | with_reducible apply State.arrive_kept
    | split
    | dsimp only)

theorem execStagedWrite_kept (r : ReqCtx) (index : BitVec 16) (sub type : Byte) (value : Bytes) (s : State) (h : Kept q n s) :
    KeptOut q n (execStagedWrite r index sub type value s) := by
  unfold execStagedWrite
  repeat' (first
    | with_reducible assumption
    | with_reducible apply keptOut_next
    | with_reducible intro _
    | with_reducible apply kept_ite
    | with_reducible apply State.arrive_kept
    | split
    | dsimp only)

theorem execCommit_kept (r : ReqCtx) (s : State) (h : Kept q n s) :
    KeptOut q n (execCommit r s) := by
  unfold execCommit
  repeat' (first
    | with_reducible assumption
    | with_reducible apply keptOut_next
    | with_reducible intro _
    | with_reducible apply kept_ite
    | with_reducible apply State.arrive_kept
    | split
    | dsimp only)

theorem execDiscard_kept (r : ReqCtx) (s : State) (h : Kept q n s) :
    KeptOut q n (execDiscard r s) := by
  unfold execDiscard
  repeat' (first
    | with_reducible assumption
    | with_reducible apply keptOut_next
    | with_reducible intro _
    | with_reducible apply kept_ite
    | with_reducible apply State.arrive_kept
    | split
    | dsimp only)

theorem execStageTimeout_kept (who : StageId) (s : State) (h : Kept q n s) :
    KeptOut q n (execStageTimeout who s) := by
  unfold execStageTimeout
  repeat' (first
    | with_reducible assumption
    | with_reducible apply keptOut_next
    | with_reducible intro _
    | with_reducible apply kept_ite
    | with_reducible apply State.onTimer_kept
    | with_reducible apply State.setStage_kept
    | split
    | dsimp only)

theorem execConfigWriteDone_kept (verified : Bool) (s : State) (h : Kept q n s) :
    KeptOut q n (execConfigWriteDone verified s) := by
  unfold execConfigWriteDone
  repeat' (first
    | with_reducible assumption
    | with_reducible apply keptOut_next
    | with_reducible intro _
    | with_reducible apply kept_ite
    | with_reducible apply State.configWritten_kept
    | with_reducible apply State.serveWaiting_kept
    | split
    | dsimp only)

theorem execCommitDefer_kept (s : State) (h : Kept q n s) :
    KeptOut q n (execCommitDefer s) := by
  unfold execCommitDefer
  repeat' (first
    | with_reducible assumption
    | with_reducible apply keptOut_next
    | with_reducible intro _
    | with_reducible apply kept_ite
    | with_reducible apply State.onTimer_kept
    | with_reducible apply State.abort_kept
    | with_reducible apply State.endSpent_kept
    | split
    | dsimp only)

theorem execStickyClear_kept (r : ReqCtx) (index : BitVec 16) (sub : Byte) (mask : BitVec 32) (s : State) (h : Kept q n s) :
    KeptOut q n (execStickyClear r index sub mask s) := by
  unfold execStickyClear
  repeat' (first
    | with_reducible assumption
    | with_reducible apply keptOut_next
    | with_reducible intro _
    | with_reducible apply kept_ite
    | with_reducible apply State.requestWrite_kept
    | split
    | dsimp only)

theorem execStickyClearAll_kept (r : ReqCtx) (s : State) (h : Kept q n s) :
    KeptOut q n (execStickyClearAll r s) := by
  unfold execStickyClearAll
  repeat' (first
    | with_reducible assumption
    | with_reducible apply keptOut_next
    | with_reducible intro _
    | with_reducible apply kept_ite
    | with_reducible apply State.requestWrite_kept
    | split
    | dsimp only)

theorem execRestoreDefaults_kept (r : ReqCtx) (s : State) (h : Kept q n s) :
    KeptOut q n (execRestoreDefaults r s) := by
  unfold execRestoreDefaults
  repeat' (first
    | with_reducible assumption
    | with_reducible apply keptOut_next
    | with_reducible intro _
    | with_reducible apply kept_ite
    | with_reducible apply State.requestWrite_kept
    | split
    | dsimp only)

theorem execUpdateBegin_kept (r : ReqCtx) (length : BitVec 32) (s : State) (h : Kept q n s) :
    KeptOut q n (execUpdateBegin r length s) := by
  unfold execUpdateBegin
  repeat' (first
    | with_reducible assumption
    | with_reducible apply keptOut_next
    | with_reducible intro _
    | with_reducible apply kept_ite
    | with_reducible apply State.requestWrite_kept
    | split
    | dsimp only)

theorem execUpdateData_kept (r : ReqCtx) (offset total : BitVec 32) (data : Bytes) (s : State) (h : Kept q n s) :
    KeptOut q n (execUpdateData r offset total data s) := by
  unfold execUpdateData
  repeat' (first
    | with_reducible assumption
    | with_reducible apply keptOut_next
    | with_reducible intro _
    | with_reducible apply kept_ite
    | with_reducible apply State.arrive_kept
    | split
    | dsimp only)

theorem State.programSegment_kept (s : State) (h : Kept q n s) :
    Kept q n (State.programSegment s) := by
  unfold State.programSegment
  repeat' (first
    | with_reducible assumption
    | with_reducible intro _
    | with_reducible apply kept_ite
    | with_reducible apply State.disarm_kept
    | with_reducible apply State.done_kept
    | with_reducible apply State.endSpent_kept
    | with_reducible apply State.setBank_nil_kept
    | with_reducible apply State.setBank_write_kept
    | split
    | dsimp only)

theorem execImageSegmentDone_kept (s : State) (h : Kept q n s) :
    KeptOut q n (execImageSegmentDone s) := by
  unfold execImageSegmentDone
  repeat' (first
    | with_reducible assumption
    | with_reducible apply keptOut_next
    | with_reducible intro _
    | with_reducible apply kept_ite
    | with_reducible apply State.when_kept
    | with_reducible apply State.take_kept
    | with_reducible apply State.serveHeld_kept
    | with_reducible apply State.programSegment_kept
    | split
    | dsimp only)

theorem execUpdateVerify_kept (r : ReqCtx) (s : State) (h : Kept q n s) :
    KeptOut q n (execUpdateVerify r s) := by
  unfold execUpdateVerify
  repeat' (first
    | with_reducible assumption
    | with_reducible apply keptOut_next
    | with_reducible intro _
    | with_reducible apply kept_ite
    | with_reducible apply State.requestWrite_kept
    | split
    | dsimp only)

theorem execUpdateVerifyDone_kept (micros : BitVec 32) (s : State) (h : Kept q n s) :
    KeptOut q n (execUpdateVerifyDone micros s) := by
  unfold execUpdateVerifyDone
  repeat' (first
    | with_reducible assumption
    | with_reducible apply keptOut_next
    | with_reducible intro _
    | with_reducible apply kept_ite
    | with_reducible apply State.elapse_kept
    | with_reducible apply State.when_kept
    | with_reducible apply State.updateVerified_kept
    | split
    | dsimp only)

theorem execUpdateActivate_kept (r : ReqCtx) (s : State) (h : Kept q n s) :
    KeptOut q n (execUpdateActivate r s) := by
  unfold execUpdateActivate
  repeat' (first
    | with_reducible assumption
    | with_reducible apply keptOut_next
    | with_reducible intro _
    | with_reducible apply kept_ite
    | with_reducible apply State.requestWrite_kept
    | split
    | dsimp only)

theorem execUpdateAbort_kept (r : ReqCtx) (s : State) (h : Kept q n s) :
    KeptOut q n (execUpdateAbort r s) := by
  unfold execUpdateAbort
  repeat' (first
    | with_reducible assumption
    | with_reducible apply keptOut_next
    | with_reducible intro _
    | with_reducible apply kept_ite
    | with_reducible apply State.requestWrite_kept
    | split
    | dsimp only)

theorem execBlockRead_kept (r : ReqCtx) (index : BitVec 16) (sub : Byte) (whole : Bool) (offset : BitVec 32) (maxLen : BitVec 16) (s : State) (h : Kept q n s) :
    KeptOut q n (execBlockRead r index sub whole offset maxLen s) := by
  unfold execBlockRead
  repeat' (first
    | with_reducible assumption
    | with_reducible apply keptOut_next
    | with_reducible intro _
    | with_reducible apply kept_ite
    | with_reducible apply State.arrive_kept
    | split
    | dsimp only)

theorem execBlockWrite_kept (r : ReqCtx) (index : BitVec 16) (sub : Byte) (final : Bool) (offset total : BitVec 32) (data : Bytes) (s : State) (h : Kept q n s) :
    KeptOut q n (execBlockWrite r index sub final offset total data s) := by
  unfold execBlockWrite
  repeat' (first
    | with_reducible assumption
    | with_reducible apply keptOut_next
    | with_reducible intro _
    | with_reducible apply kept_ite
    | with_reducible apply State.arrive_kept
    | split
    | dsimp only)

theorem execBlockTimeout_kept (src : BitVec 16) (ofWrite : Bool) (s : State) (h : Kept q n s) :
    KeptOut q n (execBlockTimeout src ofWrite s) := by
  unfold execBlockTimeout
  repeat' (first
    | with_reducible assumption
    | with_reducible apply keptOut_next
    | with_reducible intro _
    | with_reducible apply kept_ite
    | with_reducible apply State.onTimer_kept
    | split
    | dsimp only)

theorem execAssign_kept (r : ReqCtx) (newAddress : BitVec 16) (serial : BitVec 64) (segA segB : Byte) (s : State) (h : Kept q n s) :
    KeptOut q n (execAssign r newAddress serial segA segB s) := by
  unfold execAssign
  repeat' (first
    | with_reducible assumption
    | with_reducible apply keptOut_next
    | with_reducible intro _
    | with_reducible apply kept_ite
    | with_reducible apply State.arrive_kept
    | split
    | dsimp only)

theorem execGetStatus_kept (r : ReqCtx) (s : State) (h : Kept q n s) :
    KeptOut q n (execGetStatus r s) := by
  unfold execGetStatus
  repeat' (first
    | with_reducible assumption
    | with_reducible apply keptOut_next
    | with_reducible intro _
    | with_reducible apply kept_ite
    | with_reducible apply State.arrive_kept
    | split
    | dsimp only)

theorem execSetRoutes_kept (r : ReqCtx) (start count : BitVec 16) (codes : Bytes) (s : State) (h : Kept q n s) :
    KeptOut q n (execSetRoutes r start count codes s) := by
  unfold execSetRoutes
  repeat' (first
    | with_reducible assumption
    | with_reducible apply keptOut_next
    | with_reducible intro _
    | with_reducible apply kept_ite
    | with_reducible apply State.arrive_kept
    | split
    | dsimp only)

theorem execSetForwarding_kept (r : ReqCtx) (enable : Byte) (s : State) (h : Kept q n s) :
    KeptOut q n (execSetForwarding r enable s) := by
  unfold execSetForwarding
  repeat' (first
    | with_reducible assumption
    | with_reducible apply keptOut_next
    | with_reducible intro _
    | with_reducible apply kept_ite
    | with_reducible apply State.arrive_kept
    | split
    | dsimp only)

theorem execPing_kept (r : ReqCtx) (hopCount : Byte) (s : State) (h : Kept q n s) :
    KeptOut q n (execPing r hopCount s) := by
  unfold execPing
  repeat' (first
    | with_reducible assumption
    | with_reducible apply keptOut_next
    | with_reducible intro _
    | with_reducible apply kept_ite
    | with_reducible apply State.arrive_kept
    | split
    | dsimp only)

theorem execClearHighWater_kept (r : ReqCtx) (s : State) (h : Kept q n s) :
    KeptOut q n (execClearHighWater r s) := by
  unfold execClearHighWater
  repeat' (first
    | with_reducible assumption
    | with_reducible apply keptOut_next
    | with_reducible intro _
    | with_reducible apply kept_ite
    | with_reducible apply State.requestWrite_kept
    | split
    | dsimp only)

theorem execSyncNow_kept (r : ReqCtx) (s : State) (h : Kept q n s) :
    KeptOut q n (execSyncNow r s) := by
  unfold execSyncNow
  repeat' (first
    | with_reducible assumption
    | with_reducible apply keptOut_next
    | with_reducible intro _
    | with_reducible apply kept_ite
    | with_reducible apply State.requestWrite_kept
    | split
    | dsimp only)

theorem execRunInit_kept (r : ReqCtx) (s : State) (h : Kept q n s) :
    KeptOut q n (execRunInit r s) := by
  unfold execRunInit
  repeat' (first
    | with_reducible assumption
    | with_reducible apply keptOut_next
    | with_reducible intro _
    | with_reducible apply kept_ite
    | with_reducible apply State.requestWrite_kept
    | split
    | dsimp only)

theorem execCommandedShutdown_kept (r : ReqCtx) (s : State) (h : Kept q n s) :
    KeptOut q n (execCommandedShutdown r s) := by
  unfold execCommandedShutdown
  repeat' (first
    | with_reducible assumption
    | with_reducible apply keptOut_next
    | with_reducible intro _
    | with_reducible apply kept_ite
    | with_reducible apply State.requestWrite_kept
    | split
    | dsimp only)

theorem execClearLockout_kept (r : ReqCtx) (s : State) (h : Kept q n s) :
    KeptOut q n (execClearLockout r s) := by
  unfold execClearLockout
  repeat' (first
    | with_reducible assumption
    | with_reducible apply keptOut_next
    | with_reducible intro _
    | with_reducible apply kept_ite
    | with_reducible apply State.requestWrite_kept
    | split
    | dsimp only)

theorem execSealClear_kept (r : ReqCtx) (s : State) (h : Kept q n s) :
    KeptOut q n (execSealClear r s) := by
  unfold execSealClear
  repeat' (first
    | with_reducible assumption
    | with_reducible apply keptOut_next
    | with_reducible intro _
    | with_reducible apply kept_ite
    | with_reducible apply State.requestWrite_kept
    | split
    | dsimp only)

theorem execClearLatch_kept (r : ReqCtx) (s : State) (h : Kept q n s) :
    KeptOut q n (execClearLatch r s) := by
  unfold execClearLatch
  repeat' (first
    | with_reducible assumption
    | with_reducible apply keptOut_next
    | with_reducible intro _
    | with_reducible apply kept_ite
    | with_reducible apply State.requestWrite_kept
    | split
    | dsimp only)

theorem execMarginHigh_kept (r : ReqCtx) (ch : Fin 4) (s : State) (h : Kept q n s) :
    KeptOut q n (execMarginHigh r ch s) := by
  unfold execMarginHigh
  repeat' (first
    | with_reducible assumption
    | with_reducible apply keptOut_next
    | with_reducible intro _
    | with_reducible apply kept_ite
    | with_reducible apply State.requestWrite_kept
    | split
    | dsimp only)

theorem execMarginLow_kept (r : ReqCtx) (ch : Fin 4) (s : State) (h : Kept q n s) :
    KeptOut q n (execMarginLow r ch s) := by
  unfold execMarginLow
  repeat' (first
    | with_reducible assumption
    | with_reducible apply keptOut_next
    | with_reducible intro _
    | with_reducible apply kept_ite
    | with_reducible apply State.requestWrite_kept
    | split
    | dsimp only)

theorem execMarginNominal_kept (r : ReqCtx) (ch : Fin 4) (s : State) (h : Kept q n s) :
    KeptOut q n (execMarginNominal r ch s) := by
  unfold execMarginNominal
  repeat' (first
    | with_reducible assumption
    | with_reducible apply keptOut_next
    | with_reducible intro _
    | with_reducible apply kept_ite
    | with_reducible apply State.requestWrite_kept
    | split
    | dsimp only)

theorem execTiuArm_kept (r : ReqCtx) (s : State) (h : Kept q n s) :
    KeptOut q n (execTiuArm r s) := by
  unfold execTiuArm
  repeat' (first
    | with_reducible assumption
    | with_reducible apply keptOut_next
    | with_reducible intro _
    | with_reducible apply kept_ite
    | with_reducible apply State.requestWrite_kept
    | split
    | dsimp only)

theorem execTiuCancel_kept (r : ReqCtx) (s : State) (h : Kept q n s) :
    KeptOut q n (execTiuCancel r s) := by
  unfold execTiuCancel
  repeat' (first
    | with_reducible assumption
    | with_reducible apply keptOut_next
    | with_reducible intro _
    | with_reducible apply kept_ite
    | with_reducible apply State.requestWrite_kept
    | split
    | dsimp only)

theorem execLidRebaseline_kept (r : ReqCtx) (s : State) (h : Kept q n s) :
    KeptOut q n (execLidRebaseline r s) := by
  unfold execLidRebaseline
  repeat' (first
    | with_reducible assumption
    | with_reducible apply keptOut_next
    | with_reducible intro _
    | with_reducible apply kept_ite
    | with_reducible apply State.requestWrite_kept
    | split
    | dsimp only)

theorem execCaskClear_kept (r : ReqCtx) (s : State) (h : Kept q n s) :
    KeptOut q n (execCaskClear r s) := by
  unfold execCaskClear
  repeat' (first
    | with_reducible assumption
    | with_reducible apply keptOut_next
    | with_reducible intro _
    | with_reducible apply kept_ite
    | with_reducible apply State.requestWrite_kept
    | split
    | dsimp only)

theorem execHandover_kept (r : ReqCtx) (s : State) (h : Kept q n s) :
    KeptOut q n (execHandover r s) := by
  unfold execHandover
  repeat' (first
    | with_reducible assumption
    | with_reducible apply keptOut_next
    | with_reducible intro _
    | with_reducible apply kept_ite
    | with_reducible apply State.requestWrite_kept
    | split
    | dsimp only)

end Sys2Proof.Machine
end

