-- ==== Sys2Proof/Laws/KeptHost.lean ====
section
/-!
SUPPORT. What the functions of Sys2Proof/Machine/Host.lean keep, one lemma for each of them (Laws/Kept.lean says what).
-/

namespace Sys2Proof.Machine

set_option linter.unusedTactic false
set_option linter.unreachableTactic false
set_option linter.unusedVariables false

open Sys2Proof

variable {q : List Instr} {n : Floor}

theorem State.setLatch_kept (s : State) (w : WidePair) (v : Option (BitVec 32)) (h : Kept q n s) :
    Kept q n (State.setLatch s w v) := by
  unfold State.setLatch
  repeat' (first
    | with_reducible assumption
    | with_reducible intro _
    | with_reducible apply kept_ite
    | split
    | dsimp only)

theorem State.readLo_kept (s : State) (w : WidePair) (h : Kept q n s) :
    Kept q n (State.readLo s w).2 := by
  unfold State.readLo
  repeat' (first
    | with_reducible assumption
    | with_reducible intro _
    | with_reducible apply kept_ite
    | with_reducible apply kept_ite_snd
    | with_reducible apply State.setLatch_kept
    | split
    | dsimp only)

theorem State.readHi_kept (s : State) (w : WidePair) (h : Kept q n s) :
    Kept q n (State.readHi s w).2 := by
  unfold State.readHi
  repeat' (first
    | with_reducible assumption
    | with_reducible intro _
    | with_reducible apply kept_ite
    | with_reducible apply kept_ite_snd
    | with_reducible apply State.bump_kept
    | with_reducible apply State.hostFlag_kept
    | with_reducible apply State.setLatch_kept
    | split
    | dsimp only)

theorem State.readReg_kept (s : State) (a : Nat) (h : Kept q n s) :
    Kept q n (State.readReg s a).2 := by
  unfold State.readReg
  repeat' (first
    | with_reducible assumption
    | with_reducible intro _
    | with_reducible apply kept_ite
    | with_reducible apply kept_ite_snd
    | with_reducible apply State.readLo_kept
    | with_reducible apply State.readHi_kept
    | split
    | dsimp only)

theorem State.readRegs_kept (k a : Nat) (s : State) (h : Kept q n s) : Kept q n (State.readRegs k a s).2 := by
  induction k generalizing a s with
  | zero => exact h
  | succ k ih => exact ih _ _ (State.readReg_kept _ _ h)

theorem State.readWindow_kept (s : State) (a n' : Nat) (h : Kept q n s) :
    Kept q n (State.readWindow s a n').2 := by
  unfold State.readWindow
  repeat' (first
    | with_reducible assumption
    | with_reducible intro _
    | with_reducible apply kept_ite
    | with_reducible apply kept_ite_snd
    | with_reducible apply State.hostFlag_kept
    | with_reducible apply State.readRegs_kept
    | split
    | dsimp only)

theorem State.shiftOut_kept (s : State) (status : Byte) (data : Bytes) (h : Kept q n s) :
    Kept q n (State.shiftOut s status data) := by
  unfold State.shiftOut
  repeat' (first
    | with_reducible assumption
    | with_reducible intro _
    | with_reducible apply kept_ite
    | split
    | dsimp only)

theorem execHostRead_kept (addr : BitVec 16) (len : Nat) (s : State) (h : Kept q n s) :
    KeptOut q n (execHostRead addr len s) := by
  unfold execHostRead
  repeat' (first
    | with_reducible assumption
    | with_reducible apply keptOut_next
    | with_reducible intro _
    | with_reducible apply kept_ite
    | with_reducible apply kept_ite_snd
    | with_reducible apply State.when_kept
    | with_reducible apply State.readWindow_kept
    | with_reducible apply State.shiftOut_kept
    | split
    | dsimp only)

theorem State.takeMailbox_kept (s : State) (h : Kept q n s) :
    Kept q n (State.takeMailbox s) := by
  unfold State.takeMailbox
  repeat' (first
    | with_reducible assumption
    | with_reducible intro _
    | with_reducible apply kept_ite
    | with_reducible apply State.abort_kept
    | with_reducible apply State.hostRequest_kept
    | split
    | dsimp only)

theorem State.takeNext_kept (s : State) (h : Kept q n s) :
    Kept q n (State.takeNext s) := by
  unfold State.takeNext
  repeat' (first
    | with_reducible assumption
    | with_reducible intro _
    | with_reducible apply kept_ite
    | with_reducible apply State.takeMailbox_kept
    | split
    | dsimp only)

theorem State.go_kept (s : State) (n' : Nat) (h : Kept q n s) :
    Kept q n (State.go s n') := by
  unfold State.go
  repeat' (first
    | with_reducible assumption
    | with_reducible intro _
    | with_reducible apply kept_ite
    | with_reducible apply State.bump_kept
    | with_reducible apply State.hostFlag_kept
    | with_reducible apply State.takeNext_kept
    | split
    | dsimp only)

theorem State.ackReply_kept (s : State) (h : Kept q n s) :
    Kept q n (State.ackReply s) := by
  unfold State.ackReply
  repeat' (first
    | with_reducible assumption
    | with_reducible intro _
    | with_reducible apply kept_ite
    | with_reducible apply State.takeNext_kept
    | split
    | dsimp only)

theorem execMailboxGo_kept (length : BitVec 11) (s : State) (h : Kept q n s) :
    KeptOut q n (execMailboxGo length s) := by
  unfold execMailboxGo
  repeat' (first
    | with_reducible assumption
    | with_reducible apply keptOut_next
    | with_reducible intro _
    | with_reducible apply kept_ite
    | with_reducible apply State.when_kept
    | with_reducible apply State.go_kept
    | split
    | dsimp only)

theorem State.placeReply_kept (s : State) (h : Kept q n s) : Kept q n s.placeReply := by
  unfold State.placeReply
  split
  · exact h
  · split
    · apply State.serveHeld_kept
      apply State.take_kept
      apply State.raiseIrq_kept
      refine kept_mems (fun hm => ?_) h
      simp only [Mems.wf, Bool.and_eq_true] at hm ⊢
      exact ⟨⟨⟨⟨hm.1.1.1.1, memWriteAll_wf _ _ hm.1.1.1.2⟩, hm.1.1.2⟩, hm.1.2⟩, hm.2⟩
    · exact State.serveHeld_kept _ (State.take_kept _ _ h)

theorem execMailboxReply_kept (s : State) (h : Kept q n s) :
    KeptOut q n (execMailboxReply s) := by
  unfold execMailboxReply
  repeat' (first
    | with_reducible assumption
    | with_reducible apply keptOut_next
    | with_reducible intro _
    | with_reducible apply kept_ite
    | with_reducible apply State.when_kept
    | with_reducible apply State.placeReply_kept
    | split
    | dsimp only)

theorem execMailboxAck_kept (s : State) (h : Kept q n s) :
    KeptOut q n (execMailboxAck s) := by
  unfold execMailboxAck
  repeat' (first
    | with_reducible assumption
    | with_reducible apply keptOut_next
    | with_reducible intro _
    | with_reducible apply kept_ite
    | with_reducible apply State.when_kept
    | with_reducible apply State.serveHeld_kept
    | with_reducible apply State.ackReply_kept
    | split
    | dsimp only)

theorem State.clearIrq_kept (s : State) (mask : Nat) (h : Kept q n s) :
    Kept q n (State.clearIrq s mask) := by
  unfold State.clearIrq
  repeat' (first
    | with_reducible assumption
    | with_reducible intro _
    | with_reducible apply kept_ite
    | split
    | dsimp only)

theorem State.clearHostSticky_kept (s : State) (mask : Nat) (h : Kept q n s) :
    Kept q n (State.clearHostSticky s mask) := by
  unfold State.clearHostSticky
  repeat' (first
    | with_reducible assumption
    | with_reducible intro _
    | with_reducible apply kept_ite
    | with_reducible apply State.stickyClear_kept
    | split
    | dsimp only)

theorem State.programChunk_kept (s : State) (h : Kept q n s) :
    Kept q n (State.programChunk s) := by
  unfold State.programChunk
  repeat' (first
    | with_reducible assumption
    | with_reducible intro _
    | with_reducible apply kept_ite
    | with_reducible apply State.raiseIrq_kept
    | with_reducible apply State.setBank_nil_kept
    | with_reducible apply State.setBank_write_kept
    | split
    | dsimp only)

theorem State.rcvVerify_kept (s : State) (h : Kept q n s) :
    Kept q n (State.rcvVerify s) := by
  unfold State.rcvVerify
  repeat' (first
    | with_reducible assumption
    | with_reducible intro _
    | with_reducible apply kept_ite
    | with_reducible apply State.set_kept
    | with_reducible apply State.raiseIrq_kept
    | with_reducible apply State.restart_kept
    | with_reducible apply State.hostFlag_kept
    | split
    | dsimp only)

theorem State.writeRcvCtrl_kept (s : State) (v : Nat) (h : Kept q n s) :
    Kept q n (State.writeRcvCtrl s v) := by
  unfold State.writeRcvCtrl
  repeat' (first
    | with_reducible assumption
    | with_reducible intro _
    | with_reducible apply kept_ite
    | with_reducible apply State.programChunk_kept
    | with_reducible apply State.rcvVerify_kept
    | split
    | dsimp only)

theorem State.writeReg_kept (s : State) (a v : Nat) (h : Kept q n s) :
    Kept q n (State.writeReg s a v) := by
  unfold State.writeReg
  repeat' (first
    | with_reducible assumption
    | with_reducible intro _
    | with_reducible apply kept_ite
    | with_reducible apply State.set_kept
    | with_reducible apply State.go_kept
    | with_reducible apply State.ackReply_kept
    | with_reducible apply State.clearIrq_kept
    | with_reducible apply State.clearHostSticky_kept
    | with_reducible apply State.writeRcvCtrl_kept
    | split
    | dsimp only)

theorem State.writeBufferByte_kept (s : State) (a : Nat) (v : Byte) (h : Kept q n s) :
    Kept q n (s.writeBufferByte a v) := by
  unfold State.writeBufferByte
  repeat' apply kept_ite
  all_goals first
    | exact h
    | (refine kept_mems (fun hw => ?_) h
       simp only [Mems.wf, Bool.and_eq_true] at hw ⊢
       have := fun m (x : memWf zeroByte m = true) a b => memWrite_wf a b x
       simp_all)

theorem State.writeBuffer_kept (s : State) (a : Nat) (bs : Bytes) (h : Kept q n s) :
    Kept q n (State.writeBuffer s a bs) := by
  induction bs generalizing a s with
  | nil => exact h
  | cons v vs ih => exact ih _ _ (State.writeBufferByte_kept _ _ _ h)

theorem State.writeRegs_kept (s : State) (a : Nat) (vs : List Nat) (h : Kept q n s) :
    Kept q n (State.writeRegs s a vs) := by
  induction vs generalizing a s with
  | nil => exact h
  | cons v vs ih => exact ih _ _ (State.writeReg_kept _ _ _ h)

theorem State.writeWindow_kept (s : State) (a : Nat) (data : Bytes) (h : Kept q n s) :
    Kept q n (State.writeWindow s a data) := by
  unfold State.writeWindow
  repeat' (first
    | with_reducible assumption
    | with_reducible intro _
    | with_reducible apply kept_ite
    | with_reducible apply State.hostFlag_kept
    | with_reducible apply State.writeBuffer_kept
    | with_reducible apply State.writeRegs_kept
    | split
    | dsimp only)

theorem execHostWrite_kept (addr : BitVec 16) (data : Bytes) (s : State) (h : Kept q n s) :
    KeptOut q n (execHostWrite addr data s) := by
  unfold execHostWrite
  repeat' (first
    | with_reducible assumption
    | with_reducible apply keptOut_next
    | with_reducible intro _
    | with_reducible apply kept_ite
    | with_reducible apply State.when_kept
    | with_reducible apply State.serveHeld_kept
    | with_reducible apply State.shiftOut_kept
    | with_reducible apply State.writeWindow_kept
    | split
    | dsimp only)

theorem execBadCommand_kept (code : Byte) (s : State) (h : Kept q n s) :
    KeptOut q n (execBadCommand code s) := by
  unfold execBadCommand
  repeat' (first
    | with_reducible assumption
    | with_reducible apply keptOut_next
    | with_reducible intro _
    | with_reducible apply kept_ite
    | with_reducible apply State.when_kept
    | with_reducible apply State.hostFlag_kept
    | with_reducible apply State.shiftOut_kept
    | split
    | dsimp only)

theorem execHpIrqStatusClear_kept (mask : BitVec 32) (s : State) (h : Kept q n s) :
    KeptOut q n (execHpIrqStatusClear mask s) := by
  unfold execHpIrqStatusClear
  repeat' (first
    | with_reducible assumption
    | with_reducible apply keptOut_next
    | with_reducible intro _
    | with_reducible apply kept_ite
    | with_reducible apply State.when_kept
    | with_reducible apply State.clearIrq_kept
    | split
    | dsimp only)

theorem execHpStickyClear_kept (mask : BitVec 32) (s : State) (h : Kept q n s) :
    KeptOut q n (execHpStickyClear mask s) := by
  unfold execHpStickyClear
  repeat' (first
    | with_reducible assumption
    | with_reducible apply keptOut_next
    | with_reducible intro _
    | with_reducible apply kept_ite
    | with_reducible apply State.when_kept
    | with_reducible apply State.clearHostSticky_kept
    | split
    | dsimp only)

theorem execLoReadLatch_kept (pair : WidePair) (s : State) (h : Kept q n s) :
    KeptOut q n (execLoReadLatch pair s) := by
  unfold execLoReadLatch
  repeat' (first
    | with_reducible assumption
    | with_reducible apply keptOut_next
    | with_reducible intro _
    | with_reducible apply kept_ite
    | with_reducible apply kept_ite_snd
    | with_reducible apply State.when_kept
    | with_reducible apply State.readLo_kept
    | with_reducible apply State.shiftOut_kept
    | split
    | dsimp only)

theorem execHiRead_kept (pair : WidePair) (s : State) (h : Kept q n s) :
    KeptOut q n (execHiRead pair s) := by
  unfold execHiRead
  repeat' (first
    | with_reducible assumption
    | with_reducible apply keptOut_next
    | with_reducible intro _
    | with_reducible apply kept_ite
    | with_reducible apply kept_ite_snd
    | with_reducible apply State.when_kept
    | with_reducible apply State.readHi_kept
    | with_reducible apply State.shiftOut_kept
    | split
    | dsimp only)

theorem execForensicRead_kept (addr : BitVec 24) (len : Nat) (s : State) (h : Kept q n s) :
    KeptOut q n (execForensicRead addr len s) := by
  unfold execForensicRead
  repeat' (first
    | with_reducible assumption
    | with_reducible apply keptOut_next
    | with_reducible intro _
    | with_reducible apply kept_ite
    | with_reducible apply State.when_kept
    | with_reducible apply State.shiftOut_kept
    | split
    | dsimp only)

theorem execWake_kept (body : Bytes) (s : State) (h : Kept q n s) :
    KeptOut q n (execWake body s) := by
  unfold execWake
  repeat' (first
    | with_reducible assumption
    | with_reducible apply keptOut_next
    | with_reducible intro _
    | with_reducible apply kept_ite
    | with_reducible apply State.when_kept
    | with_reducible apply State.wakeStart_kept
    | with_reducible apply State.endLockout_kept
    | with_reducible apply State.shiftOut_kept
    | split
    | dsimp only)

theorem execRcvCommit_kept (offset : BitVec 21) (s : State) (h : Kept q n s) :
    KeptOut q n (execRcvCommit offset s) := by
  unfold execRcvCommit
  repeat' (first
    | with_reducible assumption
    | with_reducible apply keptOut_next
    | with_reducible intro _
    | with_reducible apply kept_ite
    | with_reducible apply State.when_kept
    | with_reducible apply State.writeRcvCtrl_kept
    | split
    | dsimp only)

theorem execRcvVerify_kept (offset : BitVec 21) (s : State) (h : Kept q n s) :
    KeptOut q n (execRcvVerify offset s) := by
  unfold execRcvVerify
  repeat' (first
    | with_reducible assumption
    | with_reducible apply keptOut_next
    | with_reducible intro _
    | with_reducible apply kept_ite
    | with_reducible apply State.when_kept
    | with_reducible apply State.writeRcvCtrl_kept
    | split
    | dsimp only)

end Sys2Proof.Machine
end

