-- ==== Sys2Proof/Laws/KeptLoop.lean ====
section
/-!
SUPPORT. What the functions of Sys2Proof/Machine/Loop.lean keep, one lemma for each of them (Laws/Kept.lean says what).
-/

namespace Sys2Proof.Machine

set_option linter.unusedTactic false
set_option linter.unreachableTactic false
set_option linter.unusedVariables false

open Sys2Proof

variable {q : List Instr} {n : Floor}

theorem execLoopFrame_kept (d : Dir) (meas : List PathMeas) (s : State) (h : Kept q n s) :
    KeptOut q n (execLoopFrame d meas s) := by
  unfold execLoopFrame
  repeat' (first
    | with_reducible assumption
    | with_reducible apply keptOut_next
    | with_reducible intro _
    | with_reducible apply kept_ite
    | with_reducible apply State.when_kept
    | with_reducible apply State.loopFrame_kept
    | with_reducible apply State.serveWaiting_kept
    | split
    | dsimp only)

theorem execProbeEnd_kept (path : Fin 16) (own partner : PathMeas) (s : State) (h : Kept q n s) :
    KeptOut q n (execProbeEnd path own partner s) := by
  unfold execProbeEnd
  repeat' (first
    | with_reducible assumption
    | with_reducible apply keptOut_next
    | with_reducible intro _
    | with_reducible apply kept_ite
    | with_reducible apply State.onTimer_kept
    | with_reducible apply State.when_kept
    | with_reducible apply State.probeEnd_kept
    | split
    | dsimp only)

theorem execProbeRetry_kept (path : Fin 16) (s : State) (h : Kept q n s) :
    KeptOut q n (execProbeRetry path s) := by
  unfold execProbeRetry
  repeat' (first
    | with_reducible assumption
    | with_reducible apply keptOut_next
    | with_reducible intro _
    | with_reducible apply kept_ite
    | with_reducible apply State.disarm_kept
    | with_reducible apply State.onTimer_kept
    | split
    | dsimp only)

theorem execRecheckTimeout_kept (d : Dir) (s : State) (h : Kept q n s) :
    KeptOut q n (execRecheckTimeout d s) := by
  unfold execRecheckTimeout
  repeat' (first
    | with_reducible assumption
    | with_reducible apply keptOut_next
    | with_reducible intro _
    | with_reducible apply kept_ite
    | with_reducible apply State.onTimer_kept
    | with_reducible apply State.faultRow_kept
    | with_reducible apply State.setHeld_kept
    | with_reducible apply State.raiseDir_kept
    | with_reducible apply State.settleGains_kept
    | split
    | dsimp only)

theorem execOscBlockEnd_kept (path : Fin 16) (rho envelope : BitVec 16) (s : State) (h : Kept q n s) :
    KeptOut q n (execOscBlockEnd path rho envelope s) := by
  unfold execOscBlockEnd
  repeat' (first
    | with_reducible assumption
    | with_reducible apply keptOut_next
    | with_reducible intro _
    | with_reducible apply kept_ite
    | with_reducible apply State.set_kept
    | with_reducible apply State.when_kept
    | with_reducible apply State.setPath_kept
    | with_reducible apply State.fabEvent_kept
    | with_reducible apply State.netTrigger_kept
    | split
    | dsimp only)

theorem execNoiseHoldExpiry_kept (path : Fin 16) (s : State) (h : Kept q n s) :
    KeptOut q n (execNoiseHoldExpiry path s) := by
  unfold execNoiseHoldExpiry
  repeat' (first
    | with_reducible assumption
    | with_reducible apply keptOut_next
    | with_reducible intro _
    | with_reducible apply kept_ite
    | with_reducible apply State.onTimer_kept
    | with_reducible apply State.netTrigger_kept
    | split
    | dsimp only)

theorem execLockoutExpiry_kept (s : State) (h : Kept q n s) :
    KeptOut q n (execLockoutExpiry s) := by
  unfold execLockoutExpiry
  repeat' (first
    | with_reducible assumption
    | with_reducible apply keptOut_next
    | with_reducible intro _
    | with_reducible apply kept_ite
    | with_reducible apply State.onTimer_kept
    | with_reducible apply State.endTimedLockout_kept
    | split
    | dsimp only)

end Sys2Proof.Machine
end

