-- ==== Sys2Proof/Laws/KeptQueues.lean ====
section
/-!
SUPPORT. What the functions of Sys2Proof/Machine/Queues.lean keep, one lemma for each of them (Laws/Kept.lean says what).
-/

namespace Sys2Proof.Machine

set_option linter.unusedTactic false
set_option linter.unreachableTactic false
set_option linter.unusedVariables false

open Sys2Proof

variable {q : List Instr} {n : Floor}

theorem execQueuePost_kept (queue : Byte) (body : Bytes) (derived : Bool) (s : State) (h : Kept q n s) :
    KeptOut q n (execQueuePost queue body derived s) := by
  unfold execQueuePost
  repeat' (first
    | with_reducible assumption
    | with_reducible apply keptOut_next
    | with_reducible intro _
    | with_reducible apply kept_ite
    | with_reducible apply State.when_kept
    | with_reducible apply State.post_kept
    | with_reducible apply State.noteSummary_kept
    | with_reducible apply State.rearmTx_kept
    | split
    | dsimp only)

theorem State.takeSafety_kept (s : State) (q' : Nat) (h : Kept q n s) :
    Kept q n (State.takeSafety s q') := by
  unfold State.takeSafety
  repeat' (first
    | with_reducible assumption
    | with_reducible intro _
    | with_reducible apply kept_ite
    | with_reducible apply State.arm_kept
    | with_reducible apply State.take_kept
    | with_reducible apply State.collapseReported_kept
    | split
    | dsimp only)

theorem State.takeLog_kept (s : State) (q' : Nat) (h : Kept q n s) :
    Kept q n (State.takeLog s q') := by
  unfold State.takeLog
  repeat' (first
    | with_reducible assumption
    | with_reducible intro _
    | with_reducible apply kept_ite
    | with_reducible apply State.take_kept
    | with_reducible apply State.commitMsg_kept
    | split
    | dsimp only)

theorem State.takeLink_kept (s : State) (q' : Nat) (h : Kept q n s) :
    Kept q n (State.takeLink s q') := by
  unfold State.takeLink
  repeat' (first
    | with_reducible assumption
    | with_reducible intro _
    | with_reducible apply kept_ite
    | with_reducible apply State.take_kept
    | with_reducible apply State.linkStat_kept
    | split
    | dsimp only)

theorem State.takeNotify_kept (s : State) (q' : Nat) (h : Kept q n s) :
    Kept q n (State.takeNotify s q') := by
  unfold State.takeNotify
  repeat' (first
    | with_reducible assumption
    | with_reducible intro _
    | with_reducible apply kept_ite
    | with_reducible apply State.take_kept
    | with_reducible apply State.notify_kept
    | split
    | dsimp only)

theorem State.consume_kept (s : State) (q' : Nat) (h : Kept q n s) :
    Kept q n (State.consume s q') := by
  unfold State.consume
  repeat' (first
    | with_reducible assumption
    | with_reducible intro _
    | with_reducible apply kept_ite
    | with_reducible apply State.take_kept
    | with_reducible apply State.programSegment_kept
    | with_reducible apply State.takeSafety_kept
    | with_reducible apply State.takeLog_kept
    | with_reducible apply State.takeLink_kept
    | with_reducible apply State.takeNotify_kept
    | with_reducible apply State.releaseHkb_kept
    | split
    | dsimp only)

theorem execQueueTake_kept (queue : Byte) (s : State) (h : Kept q n s) :
    KeptOut q n (execQueueTake queue s) := by
  unfold execQueueTake
  repeat' (first
    | with_reducible assumption
    | with_reducible apply keptOut_next
    | with_reducible intro _
    | with_reducible apply kept_ite
    | with_reducible apply State.when_kept
    | with_reducible apply State.handle_kept
    | with_reducible apply State.noteSummary_kept
    | with_reducible apply State.noteServed_kept
    | with_reducible apply State.serveHeld_kept
    | with_reducible apply State.transmit_kept
    | with_reducible apply State.placeReply_kept
    | with_reducible apply State.consume_kept
    | split
    | dsimp only)

theorem State.deferHeld_kept (s : State) (h' : Held) (h : Kept q n s) :
    Kept q n (State.deferHeld s h') := by
  unfold State.deferHeld
  repeat' (first
    | with_reducible assumption
    | with_reducible intro _
    | with_reducible apply kept_ite
    | with_reducible apply State.arm_kept
    | with_reducible apply State.abort_kept
    | split
    | dsimp only)

theorem State.deferSegment_kept (s : State) (g : Seg) (c : Caller) (h : Kept q n s) :
    Kept q n (State.deferSegment s g c) := by
  unfold State.deferSegment
  repeat' (first
    | with_reducible assumption
    | with_reducible intro _
    | with_reducible apply kept_ite
    | with_reducible apply State.abort_kept
    | with_reducible apply State.endSpent_kept
    | split
    | dsimp only)

theorem execDeferTimeout_kept (src : BitVec 16) (tid : Byte) (s : State) (h : Kept q n s) :
    KeptOut q n (execDeferTimeout src tid s) := by
  unfold execDeferTimeout
  repeat' (first
    | with_reducible assumption
    | with_reducible apply keptOut_next
    | with_reducible intro _
    | with_reducible apply kept_ite
    | with_reducible apply State.onTimer_kept
    | with_reducible apply State.deferHeld_kept
    | with_reducible apply State.deferSegment_kept
    | split
    | dsimp only)

theorem execDeferLimitExpiry_kept (src : BitVec 16) (tid : Byte) (s : State) (h : Kept q n s) :
    KeptOut q n (execDeferLimitExpiry src tid s) := by
  unfold execDeferLimitExpiry
  repeat' (first
    | with_reducible assumption
    | with_reducible apply keptOut_next
    | with_reducible intro _
    | with_reducible apply kept_ite
    | with_reducible apply State.bump_kept
    | with_reducible apply State.onTimer_kept
    | with_reducible apply State.faultRow_kept
    | with_reducible apply State.abort_kept
    | with_reducible apply State.unqueue_kept
    | with_reducible apply State.serveHeld_kept
    | with_reducible apply State.noteRefusal_kept
    | with_reducible apply State.countDrop_kept
    | split
    | dsimp only)

theorem execRefusalExpiry_kept (p : Port) (s : State) (h : Kept q n s) :
    KeptOut q n (execRefusalExpiry p s) := by
  unfold execRefusalExpiry
  repeat' (first
    | with_reducible assumption
    | with_reducible apply keptOut_next
    | with_reducible intro _
    | with_reducible apply kept_ite
    | with_reducible apply State.onTimer_kept
    | with_reducible apply State.setPortEng_kept
    | with_reducible apply State.refusalGone_kept
    | with_reducible apply State.rearmRefusal_kept
    | split
    | dsimp only)

theorem State.discardQueue_kept (s : State) (q' : Nat) (h : Kept q n s) :
    Kept q n (State.discardQueue s q') := by
  unfold State.discardQueue
  repeat' (first
    | with_reducible assumption
    | with_reducible intro _
    | with_reducible apply kept_ite
    | with_reducible apply State.set_kept
    | with_reducible apply State.disarm_kept
    | with_reducible apply State.escapeWaiting_kept
    | split
    | dsimp only)

theorem execCreditAudit_kept (queue : Byte) (found : Nat) (s : State) (h : Kept q n s) :
    KeptOut q n (execCreditAudit queue found s) := by
  unfold execCreditAudit
  repeat' (first
    | with_reducible assumption
    | with_reducible apply keptOut_next
    | with_reducible intro _
    | with_reducible apply kept_ite
    | with_reducible apply State.when_kept
    | with_reducible apply State.placeWaiting_kept
    | with_reducible apply State.faultRow_kept
    | with_reducible apply State.serveHeld_kept
    | with_reducible apply State.discardQueue_kept
    | split
    | dsimp only)

theorem execEscapeHeld_kept (cls : Fin 8) (s : State) (h : Kept q n s) :
    KeptOut q n (execEscapeHeld cls s) := by
  unfold execEscapeHeld
  repeat' (first
    | with_reducible assumption
    | with_reducible apply keptOut_next
    | with_reducible intro _
    | with_reducible apply kept_ite
    | with_reducible apply State.onTimer_kept
    | with_reducible apply State.faultRow_kept
    | split
    | dsimp only)

end Sys2Proof.Machine
end

