-- ==== Sys2Proof/Laws/KeptSamples.lean ====
section
/-!
SUPPORT. What the functions of Sys2Proof/Machine/Samples.lean keep, one lemma for each of them (Laws/Kept.lean says what).
-/

namespace Sys2Proof.Machine

set_option linter.unusedTactic false
set_option linter.unreachableTactic false
set_option linter.unusedVariables false

open Sys2Proof

variable {q : List Instr} {n : Floor}

theorem State.carry_kept (s : State) (xs : List Int) (h : Kept q n s) :
    Kept q n (State.carry s xs).1 := by
  unfold State.carry
  repeat' (first
    | with_reducible assumption
    | with_reducible intro _
    | with_reducible apply kept_ite
    | with_reducible apply kept_ite_fst
    | with_reducible apply State.setPath_kept
    | with_reducible apply kept_foldl
    | split
    | dsimp only)

end Sys2Proof.Machine
end

