-- ==== Sys2Proof/Laws/KeptStep.lean ====
section
/-!
SUPPORT. What the functions of Sys2Proof/Machine/Step.lean keep, one lemma for each of them (Laws/Kept.lean says what).
-/

namespace Sys2Proof.Machine

set_option linter.unusedTactic false
set_option linter.unreachableTactic false
set_option linter.unusedVariables false

open Sys2Proof

variable {q : List Instr} {n : Floor}

theorem State.tick_kept (s : State) (h : Kept q n s) :
    Kept q n (State.tick s) := by
  unfold State.tick
  repeat' (first
    | with_reducible assumption
    | with_reducible intro _
    | with_reducible apply kept_ite
    | with_reducible apply State.elapse_kept
    | with_reducible apply State.noteSummary_kept
    | with_reducible apply State.settleJoin_kept
    | with_reducible apply State.followCommit_kept
    | with_reducible apply State.serveWaiting_kept
    | with_reducible apply State.takeNext_kept
    | with_reducible apply State.heldTouchActs_kept
    | split
    | dsimp only)

end Sys2Proof.Machine
end

