-- ==== Sys2Proof/Laws/Report.lean ====
section
/-!
SUPPORT. What reporting leaves alone: a post, a record, a Notify, a sticky flag and a change of Sticky.Summary change the
queue engine, the host port's interrupt bits, the records in hand, their own timers and their own registers, and nothing
else.
-/

namespace Sys2Proof.Machine

open Sys2Proof

/-- The registers that reporting itself writes. -/
def reportKey (k : Nat) : Bool :=
  k == Obj.queueEscapeUseCount || k == Obj.queueSticky || k == Obj.queueTxExpiredCount || k == Obj.fieldNotifySequence

/-- The timers that reporting itself starts: a transmit queue's lifetime and an escape slot's. -/
def reportTimer : TimerId → Bool
  | .txLife _ _ | .escape _ => true
  | _ => false

/-- Two states that differ by reporting alone. -/
structure Reported (s t : State) : Prop where
  pending : t.pending = s.pending
  time : t.time = s.time
  cfg : t.cfg = s.cfg
  pins : t.pins = s.pins
  power : t.power = s.power
  wd : t.wd = s.wd
  sec : t.sec = s.sec
  boot : t.boot = s.boot
  eng : t.eng = s.eng
  blockReads : t.blockReads = s.blockReads
  blockWrites : t.blockWrites = s.blockWrites
  upd : t.upd = s.upd
  field : t.field = s.field
  mems : t.mems = s.mems
  rail : t.rail = s.rail
  margin : t.margin = s.margin
  paths : t.paths = s.paths
  loops : t.loops = s.loops
  conv : t.conv = s.conv
  fe : t.fe = s.fe
  le : t.le = s.le
  net : t.net = s.net
  pa : t.pa = s.pa
  feed : t.feed = s.feed
  hkb : t.hkb = s.hkb
  tiu : t.tiu = s.tiu
  lid : t.lid = s.lid
  twin : t.twin = s.twin
  free : t.free = s.free
  get : ∀ k, reportKey k = false → t.get k = s.get k
  deadline : ∀ T, reportTimer T = false → t.deadline T = s.deadline T

theorem Reported.refl (s : State) : Reported s s := by constructor <;> intros <;> rfl

theorem Reported.trans {s t u : State} (h : Reported s t) (g : Reported t u) : Reported s u where
  pending := g.pending.trans h.pending
  time := g.time.trans h.time
  cfg := g.cfg.trans h.cfg
  pins := g.pins.trans h.pins
  power := g.power.trans h.power
  wd := g.wd.trans h.wd
  sec := g.sec.trans h.sec
  boot := g.boot.trans h.boot
  eng := g.eng.trans h.eng
  blockReads := g.blockReads.trans h.blockReads
  blockWrites := g.blockWrites.trans h.blockWrites
  upd := g.upd.trans h.upd
  field := g.field.trans h.field
  mems := g.mems.trans h.mems
  rail := g.rail.trans h.rail
  margin := g.margin.trans h.margin
  paths := g.paths.trans h.paths
  loops := g.loops.trans h.loops
  conv := g.conv.trans h.conv
  fe := g.fe.trans h.fe
  le := g.le.trans h.le
  net := g.net.trans h.net
  pa := g.pa.trans h.pa
  feed := g.feed.trans h.feed
  hkb := g.hkb.trans h.hkb
  tiu := g.tiu.trans h.tiu
  lid := g.lid.trans h.lid
  twin := g.twin.trans h.twin
  free := g.free.trans h.free
  get := fun k hk => (g.get k hk).trans (h.get k hk)
  deadline := fun T hT => (g.deadline T hT).trans (h.deadline T hT)

/-- A deadline survives another timer's start. -/
theorem State.deadline_arm_ne (s : State) (t u : TimerId) (us : Nat) (h : u ≠ t) :
    (s.arm t us).deadline u = s.deadline u := by
  have hf : (s.timers.filter (fun p => !(p.1 == t))).find? (fun p => p.1 == u) = s.timers.find? (fun p => p.1 == u) := by
    rw [List.find?_filter]
    congr 1
    funext p
    by_cases hp : p.1 = u
    · simp [hp, h]
    · simp [hp]
  have ht : (t == u) = false := by simp [Ne.symm h]
  simp only [State.deadline, State.arm, List.find?_append, hf, List.find?_cons, ht, List.find?_nil]
  cases s.timers.find? (fun p => p.1 == u) <;> rfl

/-- A deadline survives another timer's stop. -/
theorem State.deadline_disarm_ne (s : State) (t u : TimerId) (h : u ≠ t) : (s.disarm t).deadline u = s.deadline u := by
  have hf : (s.timers.filter (fun p => !(p.1 == t))).find? (fun p => p.1 == u) = s.timers.find? (fun p => p.1 == u) := by
    rw [List.find?_filter]
    congr 1
    funext p
    by_cases hp : p.1 = u
    · simp [hp, h]
    · simp [hp]
  simp only [State.deadline, State.disarm, hf]

theorem reported_queue (s : State) (q : Queues) : Reported s { s with q := q } := by constructor <;> intros <;> rfl

theorem reported_own (s : State) (l : List LogMsg) : Reported s { s with cask.own := l } := by
  constructor <;> intros <;> rfl

theorem reported_hp (s : State) (h : HostPort) : Reported s { s with hp := h } := by constructor <;> intros <;> rfl

theorem reported_set (s : State) (k v : Nat) (hk : reportKey k = true) : Reported s (s.set k v) := by
  constructor
  case get =>
    intro j hj
    exact s.get_set_ne k j v (fun e => by subst e; simp [hk] at hj)
  all_goals intros; rfl

theorem reported_arm (s : State) (t : TimerId) (us : Nat) (ht : reportTimer t = true) : Reported s (s.arm t us) := by
  constructor
  case deadline =>
    intro u hu
    exact s.deadline_arm_ne t u us (fun e => by subst e; simp [ht] at hu)
  all_goals intros; rfl

theorem reported_ite {c : Prop} [Decidable c] {s a b : State} (ha : Reported s a) (hb : Reported s b) :
    Reported s (if c then a else b) := by
  split
  · exact ha
  · exact hb

theorem reported_foldl {α : Type} {f : State → α → State} (hf : ∀ u a, Reported u (f u a)) (l : List α) (s : State) :
    Reported s (l.foldl f s) := by
  induction l generalizing s with
  | nil => exact Reported.refl s
  | cons a l ih => exact (hf s a).trans (ih (f s a))

theorem State.noteHigh_reported (s : State) (q : Nat) : Reported s (s.noteHigh q) := by
  unfold State.noteHigh
  exact reported_ite (reported_queue s _) (Reported.refl s)

theorem State.place_reported (s : State) (m : QMsg) : Reported s (s.place m) :=
  (reported_queue s _).trans (State.noteHigh_reported _ _)

theorem State.bump_reported (s : State) (k n : Nat) (hk : reportKey k = true) : Reported s (s.bump k n) :=
  reported_set s k _ hk

theorem State.placeEscape_reported (s : State) (m : QMsg) : Reported s (s.placeEscape m) := by
  unfold State.placeEscape
  exact (State.place_reported _ _).trans ((State.bump_reported _ _ _ rfl).trans (reported_arm _ _ _ rfl))

theorem State.post_reported (s : State) (k : PostKind) (q n : Nat) (b : Msg) : Reported s (s.post k q n b) := by
  unfold State.post
  dsimp only
  refine reported_ite (State.place_reported _ _) (reported_ite (Reported.refl _) ?_)
  split
  · exact reported_ite (State.placeEscape_reported _ _) (reported_queue s _)
  · exact reported_queue s _
  · exact reported_queue s _
  · refine reported_ite ?_ (reported_queue s _)
    refine reported_ite ?_ (reported_queue s _)
    exact (reported_queue s _).trans ((reported_set _ _ _ rfl).trans (reported_own _ _))

/-- A message that passes a queue within one step raises its high-water mark alone. -/
theorem State.pass_reported (s : State) (q n : Nat) : Reported s (s.pass q n) := by
  unfold State.pass
  exact reported_ite (reported_queue s _) (Reported.refl s)

theorem State.raiseNotify_reported (s : State) (p : Prod) (e slot code : Nat) (b : Bytes) :
    Reported s (s.raiseNotify p e slot code b) := by
  unfold State.raiseNotify
  exact reported_ite (State.post_reported _ _ _ _ _) (Reported.refl s)

theorem State.postLog_reported (s : State) (p : Prod) (code sev inst : Nat) (a b : Bool) (bs : Bytes) :
    Reported s (s.postLog p code sev inst a b bs) := by
  unfold State.postLog
  cases p
  · exact reported_own s _
  all_goals exact State.post_reported _ _ _ _ _

theorem State.log_reported (s : State) (p : Prod) (code sev inst : Nat) (bs : Bytes) :
    Reported s (s.log p code sev inst bs) := State.postLog_reported _ _ _ _ _ _ _ _

theorem State.txExpired_reported (s : State) (n : Nat) : Reported s (s.txExpired n) := by
  unfold State.txExpired
  exact reported_ite (Reported.refl s) ((State.bump_reported _ _ _ rfl).trans (reported_set _ _ _ rfl))

theorem State.sendFrames_reported (s : State) (k : PostKind) (p : Port) (q : Nat) (fs : List CanFrame) :
    Reported s (s.sendFrames k p q fs) := by
  unfold State.sendFrames
  dsimp only
  refine reported_ite (State.txExpired_reported _ _) ?_
  have h : Reported s (fs.foldl (fun s f => s.post k (q + portNum p) 1 (.frame f)) s) :=
    reported_foldl (fun u f => State.post_reported u _ _ _ _) fs s
  exact reported_ite h (h.trans (reported_arm _ _ _ rfl))

theorem State.sendAll_reported (s : State) (k : PostKind) (q : Nat) (i : BitVec 29) (b : Bytes) :
    Reported s (s.sendAll k q i b) := by
  unfold State.sendAll
  exact reported_foldl (fun u p => reported_ite (State.sendFrames_reported u _ _ _ _) (Reported.refl u)) _ s

theorem State.notify_reported (s : State) (e slot : Nat) (b : Bytes) : Reported s (s.notify e slot b) := by
  unfold State.notify
  dsimp only
  exact reported_ite ((reported_set _ _ _ rfl).trans (State.sendAll_reported _ _ _ _ _)) (Reported.refl s)

theorem State.raiseIrq_reported (s : State) (b : Nat) : Reported s (s.raiseIrq b) := reported_hp s _

theorem State.noteSummary_reported (s : State) : Reported s s.noteSummary := by
  unfold State.noteSummary
  dsimp only
  refine reported_ite (Reported.refl s) ?_
  exact (reported_hp s _).trans ((State.raiseIrq_reported _ _).trans (State.notify_reported _ _ _ _))

/-! ## Parts that reporting keeps -/

variable (s : State)

@[simp] theorem State.post_pending (k : PostKind) (q n : Nat) (b : Msg) : (s.post k q n b).pending = s.pending := (s.post_reported k q n b).pending
@[simp] theorem State.post_time (k : PostKind) (q n : Nat) (b : Msg) : (s.post k q n b).time = s.time := (s.post_reported k q n b).time
@[simp] theorem State.post_cfg (k : PostKind) (q n : Nat) (b : Msg) : (s.post k q n b).cfg = s.cfg := (s.post_reported k q n b).cfg
@[simp] theorem State.post_pins (k : PostKind) (q n : Nat) (b : Msg) : (s.post k q n b).pins = s.pins := (s.post_reported k q n b).pins
@[simp] theorem State.post_power (k : PostKind) (q n : Nat) (b : Msg) : (s.post k q n b).power = s.power := (s.post_reported k q n b).power
@[simp] theorem State.post_wd (k : PostKind) (q n : Nat) (b : Msg) : (s.post k q n b).wd = s.wd := (s.post_reported k q n b).wd
@[simp] theorem State.post_sec (k : PostKind) (q n : Nat) (b : Msg) : (s.post k q n b).sec = s.sec := (s.post_reported k q n b).sec
@[simp] theorem State.post_boot (k : PostKind) (q n : Nat) (b : Msg) : (s.post k q n b).boot = s.boot := (s.post_reported k q n b).boot
@[simp] theorem State.post_eng (k : PostKind) (q n : Nat) (b : Msg) : (s.post k q n b).eng = s.eng := (s.post_reported k q n b).eng
@[simp] theorem State.post_blockReads (k : PostKind) (q n : Nat) (b : Msg) : (s.post k q n b).blockReads = s.blockReads := (s.post_reported k q n b).blockReads
@[simp] theorem State.post_blockWrites (k : PostKind) (q n : Nat) (b : Msg) : (s.post k q n b).blockWrites = s.blockWrites := (s.post_reported k q n b).blockWrites
@[simp] theorem State.post_upd (k : PostKind) (q n : Nat) (b : Msg) : (s.post k q n b).upd = s.upd := (s.post_reported k q n b).upd
@[simp] theorem State.post_field (k : PostKind) (q n : Nat) (b : Msg) : (s.post k q n b).field = s.field := (s.post_reported k q n b).field
@[simp] theorem State.post_mems (k : PostKind) (q n : Nat) (b : Msg) : (s.post k q n b).mems = s.mems := (s.post_reported k q n b).mems
@[simp] theorem State.post_rail (k : PostKind) (q n : Nat) (b : Msg) : (s.post k q n b).rail = s.rail := (s.post_reported k q n b).rail
@[simp] theorem State.post_margin (k : PostKind) (q n : Nat) (b : Msg) : (s.post k q n b).margin = s.margin := (s.post_reported k q n b).margin
@[simp] theorem State.post_paths (k : PostKind) (q n : Nat) (b : Msg) : (s.post k q n b).paths = s.paths := (s.post_reported k q n b).paths
@[simp] theorem State.post_loops (k : PostKind) (q n : Nat) (b : Msg) : (s.post k q n b).loops = s.loops := (s.post_reported k q n b).loops
@[simp] theorem State.post_conv (k : PostKind) (q n : Nat) (b : Msg) : (s.post k q n b).conv = s.conv := (s.post_reported k q n b).conv
@[simp] theorem State.post_fe (k : PostKind) (q n : Nat) (b : Msg) : (s.post k q n b).fe = s.fe := (s.post_reported k q n b).fe
@[simp] theorem State.post_le (k : PostKind) (q n : Nat) (b : Msg) : (s.post k q n b).le = s.le := (s.post_reported k q n b).le
@[simp] theorem State.post_net (k : PostKind) (q n : Nat) (b : Msg) : (s.post k q n b).net = s.net := (s.post_reported k q n b).net
@[simp] theorem State.post_pa (k : PostKind) (q n : Nat) (b : Msg) : (s.post k q n b).pa = s.pa := (s.post_reported k q n b).pa
@[simp] theorem State.post_feed (k : PostKind) (q n : Nat) (b : Msg) : (s.post k q n b).feed = s.feed := (s.post_reported k q n b).feed
@[simp] theorem State.post_hkb (k : PostKind) (q n : Nat) (b : Msg) : (s.post k q n b).hkb = s.hkb := (s.post_reported k q n b).hkb
@[simp] theorem State.post_tiu (k : PostKind) (q n : Nat) (b : Msg) : (s.post k q n b).tiu = s.tiu := (s.post_reported k q n b).tiu
@[simp] theorem State.post_lid (k : PostKind) (q n : Nat) (b : Msg) : (s.post k q n b).lid = s.lid := (s.post_reported k q n b).lid
@[simp] theorem State.post_twin (k : PostKind) (q n : Nat) (b : Msg) : (s.post k q n b).twin = s.twin := (s.post_reported k q n b).twin
@[simp] theorem State.post_free (k : PostKind) (q n : Nat) (b : Msg) : (s.post k q n b).free = s.free := (s.post_reported k q n b).free
@[simp] theorem State.get_post (k : PostKind) (q n : Nat) (b : Msg) (j : Nat) (h : reportKey j = false) : (s.post k q n b).get j = s.get j :=
  (s.post_reported k q n b).get j h
@[simp] theorem State.deadline_post (k : PostKind) (q n : Nat) (b : Msg) (T : TimerId) (h : reportTimer T = false) :
    (s.post k q n b).deadline T = s.deadline T := (s.post_reported k q n b).deadline T h

@[simp] theorem State.postLog_pending (p : Prod) (code sev inst : Nat) (a b : Bool) (bs : Bytes) : (s.postLog p code sev inst a b bs).pending = s.pending := (s.postLog_reported p code sev inst a b bs).pending
@[simp] theorem State.postLog_time (p : Prod) (code sev inst : Nat) (a b : Bool) (bs : Bytes) : (s.postLog p code sev inst a b bs).time = s.time := (s.postLog_reported p code sev inst a b bs).time
@[simp] theorem State.postLog_cfg (p : Prod) (code sev inst : Nat) (a b : Bool) (bs : Bytes) : (s.postLog p code sev inst a b bs).cfg = s.cfg := (s.postLog_reported p code sev inst a b bs).cfg
@[simp] theorem State.postLog_pins (p : Prod) (code sev inst : Nat) (a b : Bool) (bs : Bytes) : (s.postLog p code sev inst a b bs).pins = s.pins := (s.postLog_reported p code sev inst a b bs).pins
@[simp] theorem State.postLog_power (p : Prod) (code sev inst : Nat) (a b : Bool) (bs : Bytes) : (s.postLog p code sev inst a b bs).power = s.power := (s.postLog_reported p code sev inst a b bs).power
@[simp] theorem State.postLog_wd (p : Prod) (code sev inst : Nat) (a b : Bool) (bs : Bytes) : (s.postLog p code sev inst a b bs).wd = s.wd := (s.postLog_reported p code sev inst a b bs).wd
@[simp] theorem State.postLog_sec (p : Prod) (code sev inst : Nat) (a b : Bool) (bs : Bytes) : (s.postLog p code sev inst a b bs).sec = s.sec := (s.postLog_reported p code sev inst a b bs).sec
@[simp] theorem State.postLog_boot (p : Prod) (code sev inst : Nat) (a b : Bool) (bs : Bytes) : (s.postLog p code sev inst a b bs).boot = s.boot := (s.postLog_reported p code sev inst a b bs).boot
@[simp] theorem State.postLog_eng (p : Prod) (code sev inst : Nat) (a b : Bool) (bs : Bytes) : (s.postLog p code sev inst a b bs).eng = s.eng := (s.postLog_reported p code sev inst a b bs).eng
@[simp] theorem State.postLog_blockReads (p : Prod) (code sev inst : Nat) (a b : Bool) (bs : Bytes) : (s.postLog p code sev inst a b bs).blockReads = s.blockReads := (s.postLog_reported p code sev inst a b bs).blockReads
@[simp] theorem State.postLog_blockWrites (p : Prod) (code sev inst : Nat) (a b : Bool) (bs : Bytes) : (s.postLog p code sev inst a b bs).blockWrites = s.blockWrites := (s.postLog_reported p code sev inst a b bs).blockWrites
@[simp] theorem State.postLog_upd (p : Prod) (code sev inst : Nat) (a b : Bool) (bs : Bytes) : (s.postLog p code sev inst a b bs).upd = s.upd := (s.postLog_reported p code sev inst a b bs).upd
@[simp] theorem State.postLog_field (p : Prod) (code sev inst : Nat) (a b : Bool) (bs : Bytes) : (s.postLog p code sev inst a b bs).field = s.field := (s.postLog_reported p code sev inst a b bs).field
@[simp] theorem State.postLog_mems (p : Prod) (code sev inst : Nat) (a b : Bool) (bs : Bytes) : (s.postLog p code sev inst a b bs).mems = s.mems := (s.postLog_reported p code sev inst a b bs).mems
@[simp] theorem State.postLog_rail (p : Prod) (code sev inst : Nat) (a b : Bool) (bs : Bytes) : (s.postLog p code sev inst a b bs).rail = s.rail := (s.postLog_reported p code sev inst a b bs).rail
@[simp] theorem State.postLog_margin (p : Prod) (code sev inst : Nat) (a b : Bool) (bs : Bytes) : (s.postLog p code sev inst a b bs).margin = s.margin := (s.postLog_reported p code sev inst a b bs).margin
@[simp] theorem State.postLog_paths (p : Prod) (code sev inst : Nat) (a b : Bool) (bs : Bytes) : (s.postLog p code sev inst a b bs).paths = s.paths := (s.postLog_reported p code sev inst a b bs).paths
@[simp] theorem State.postLog_loops (p : Prod) (code sev inst : Nat) (a b : Bool) (bs : Bytes) : (s.postLog p code sev inst a b bs).loops = s.loops := (s.postLog_reported p code sev inst a b bs).loops
@[simp] theorem State.postLog_conv (p : Prod) (code sev inst : Nat) (a b : Bool) (bs : Bytes) : (s.postLog p code sev inst a b bs).conv = s.conv := (s.postLog_reported p code sev inst a b bs).conv
@[simp] theorem State.postLog_fe (p : Prod) (code sev inst : Nat) (a b : Bool) (bs : Bytes) : (s.postLog p code sev inst a b bs).fe = s.fe := (s.postLog_reported p code sev inst a b bs).fe
@[simp] theorem State.postLog_le (p : Prod) (code sev inst : Nat) (a b : Bool) (bs : Bytes) : (s.postLog p code sev inst a b bs).le = s.le := (s.postLog_reported p code sev inst a b bs).le
@[simp] theorem State.postLog_net (p : Prod) (code sev inst : Nat) (a b : Bool) (bs : Bytes) : (s.postLog p code sev inst a b bs).net = s.net := (s.postLog_reported p code sev inst a b bs).net
@[simp] theorem State.postLog_pa (p : Prod) (code sev inst : Nat) (a b : Bool) (bs : Bytes) : (s.postLog p code sev inst a b bs).pa = s.pa := (s.postLog_reported p code sev inst a b bs).pa
@[simp] theorem State.postLog_feed (p : Prod) (code sev inst : Nat) (a b : Bool) (bs : Bytes) : (s.postLog p code sev inst a b bs).feed = s.feed := (s.postLog_reported p code sev inst a b bs).feed
@[simp] theorem State.postLog_hkb (p : Prod) (code sev inst : Nat) (a b : Bool) (bs : Bytes) : (s.postLog p code sev inst a b bs).hkb = s.hkb := (s.postLog_reported p code sev inst a b bs).hkb
@[simp] theorem State.postLog_tiu (p : Prod) (code sev inst : Nat) (a b : Bool) (bs : Bytes) : (s.postLog p code sev inst a b bs).tiu = s.tiu := (s.postLog_reported p code sev inst a b bs).tiu
@[simp] theorem State.postLog_lid (p : Prod) (code sev inst : Nat) (a b : Bool) (bs : Bytes) : (s.postLog p code sev inst a b bs).lid = s.lid := (s.postLog_reported p code sev inst a b bs).lid
@[simp] theorem State.postLog_twin (p : Prod) (code sev inst : Nat) (a b : Bool) (bs : Bytes) : (s.postLog p code sev inst a b bs).twin = s.twin := (s.postLog_reported p code sev inst a b bs).twin
@[simp] theorem State.postLog_free (p : Prod) (code sev inst : Nat) (a b : Bool) (bs : Bytes) : (s.postLog p code sev inst a b bs).free = s.free := (s.postLog_reported p code sev inst a b bs).free
@[simp] theorem State.get_postLog (p : Prod) (code sev inst : Nat) (a b : Bool) (bs : Bytes) (j : Nat) (h : reportKey j = false) : (s.postLog p code sev inst a b bs).get j = s.get j :=
  (s.postLog_reported p code sev inst a b bs).get j h
@[simp] theorem State.deadline_postLog (p : Prod) (code sev inst : Nat) (a b : Bool) (bs : Bytes) (T : TimerId) (h : reportTimer T = false) :
    (s.postLog p code sev inst a b bs).deadline T = s.deadline T := (s.postLog_reported p code sev inst a b bs).deadline T h

@[simp] theorem State.log_pending (p : Prod) (code sev inst : Nat) (bs : Bytes) : (s.log p code sev inst bs).pending = s.pending := (s.log_reported p code sev inst bs).pending
@[simp] theorem State.log_time (p : Prod) (code sev inst : Nat) (bs : Bytes) : (s.log p code sev inst bs).time = s.time := (s.log_reported p code sev inst bs).time
@[simp] theorem State.log_cfg (p : Prod) (code sev inst : Nat) (bs : Bytes) : (s.log p code sev inst bs).cfg = s.cfg := (s.log_reported p code sev inst bs).cfg
@[simp] theorem State.log_pins (p : Prod) (code sev inst : Nat) (bs : Bytes) : (s.log p code sev inst bs).pins = s.pins := (s.log_reported p code sev inst bs).pins
@[simp] theorem State.log_power (p : Prod) (code sev inst : Nat) (bs : Bytes) : (s.log p code sev inst bs).power = s.power := (s.log_reported p code sev inst bs).power
@[simp] theorem State.log_wd (p : Prod) (code sev inst : Nat) (bs : Bytes) : (s.log p code sev inst bs).wd = s.wd := (s.log_reported p code sev inst bs).wd
@[simp] theorem State.log_sec (p : Prod) (code sev inst : Nat) (bs : Bytes) : (s.log p code sev inst bs).sec = s.sec := (s.log_reported p code sev inst bs).sec
@[simp] theorem State.log_boot (p : Prod) (code sev inst : Nat) (bs : Bytes) : (s.log p code sev inst bs).boot = s.boot := (s.log_reported p code sev inst bs).boot
@[simp] theorem State.log_eng (p : Prod) (code sev inst : Nat) (bs : Bytes) : (s.log p code sev inst bs).eng = s.eng := (s.log_reported p code sev inst bs).eng
@[simp] theorem State.log_blockReads (p : Prod) (code sev inst : Nat) (bs : Bytes) : (s.log p code sev inst bs).blockReads = s.blockReads := (s.log_reported p code sev inst bs).blockReads
@[simp] theorem State.log_blockWrites (p : Prod) (code sev inst : Nat) (bs : Bytes) : (s.log p code sev inst bs).blockWrites = s.blockWrites := (s.log_reported p code sev inst bs).blockWrites
@[simp] theorem State.log_upd (p : Prod) (code sev inst : Nat) (bs : Bytes) : (s.log p code sev inst bs).upd = s.upd := (s.log_reported p code sev inst bs).upd
@[simp] theorem State.log_field (p : Prod) (code sev inst : Nat) (bs : Bytes) : (s.log p code sev inst bs).field = s.field := (s.log_reported p code sev inst bs).field
@[simp] theorem State.log_mems (p : Prod) (code sev inst : Nat) (bs : Bytes) : (s.log p code sev inst bs).mems = s.mems := (s.log_reported p code sev inst bs).mems
@[simp] theorem State.log_rail (p : Prod) (code sev inst : Nat) (bs : Bytes) : (s.log p code sev inst bs).rail = s.rail := (s.log_reported p code sev inst bs).rail
@[simp] theorem State.log_margin (p : Prod) (code sev inst : Nat) (bs : Bytes) : (s.log p code sev inst bs).margin = s.margin := (s.log_reported p code sev inst bs).margin
@[simp] theorem State.log_paths (p : Prod) (code sev inst : Nat) (bs : Bytes) : (s.log p code sev inst bs).paths = s.paths := (s.log_reported p code sev inst bs).paths
@[simp] theorem State.log_loops (p : Prod) (code sev inst : Nat) (bs : Bytes) : (s.log p code sev inst bs).loops = s.loops := (s.log_reported p code sev inst bs).loops
@[simp] theorem State.log_conv (p : Prod) (code sev inst : Nat) (bs : Bytes) : (s.log p code sev inst bs).conv = s.conv := (s.log_reported p code sev inst bs).conv
@[simp] theorem State.log_fe (p : Prod) (code sev inst : Nat) (bs : Bytes) : (s.log p code sev inst bs).fe = s.fe := (s.log_reported p code sev inst bs).fe
@[simp] theorem State.log_le (p : Prod) (code sev inst : Nat) (bs : Bytes) : (s.log p code sev inst bs).le = s.le := (s.log_reported p code sev inst bs).le
@[simp] theorem State.log_net (p : Prod) (code sev inst : Nat) (bs : Bytes) : (s.log p code sev inst bs).net = s.net := (s.log_reported p code sev inst bs).net
@[simp] theorem State.log_pa (p : Prod) (code sev inst : Nat) (bs : Bytes) : (s.log p code sev inst bs).pa = s.pa := (s.log_reported p code sev inst bs).pa
@[simp] theorem State.log_feed (p : Prod) (code sev inst : Nat) (bs : Bytes) : (s.log p code sev inst bs).feed = s.feed := (s.log_reported p code sev inst bs).feed
@[simp] theorem State.log_hkb (p : Prod) (code sev inst : Nat) (bs : Bytes) : (s.log p code sev inst bs).hkb = s.hkb := (s.log_reported p code sev inst bs).hkb
@[simp] theorem State.log_tiu (p : Prod) (code sev inst : Nat) (bs : Bytes) : (s.log p code sev inst bs).tiu = s.tiu := (s.log_reported p code sev inst bs).tiu
@[simp] theorem State.log_lid (p : Prod) (code sev inst : Nat) (bs : Bytes) : (s.log p code sev inst bs).lid = s.lid := (s.log_reported p code sev inst bs).lid
@[simp] theorem State.log_twin (p : Prod) (code sev inst : Nat) (bs : Bytes) : (s.log p code sev inst bs).twin = s.twin := (s.log_reported p code sev inst bs).twin
@[simp] theorem State.log_free (p : Prod) (code sev inst : Nat) (bs : Bytes) : (s.log p code sev inst bs).free = s.free := (s.log_reported p code sev inst bs).free
@[simp] theorem State.get_log (p : Prod) (code sev inst : Nat) (bs : Bytes) (j : Nat) (h : reportKey j = false) : (s.log p code sev inst bs).get j = s.get j :=
  (s.log_reported p code sev inst bs).get j h
@[simp] theorem State.deadline_log (p : Prod) (code sev inst : Nat) (bs : Bytes) (T : TimerId) (h : reportTimer T = false) :
    (s.log p code sev inst bs).deadline T = s.deadline T := (s.log_reported p code sev inst bs).deadline T h

@[simp] theorem State.sendFrames_pending (k : PostKind) (p : Port) (q : Nat) (fs : List CanFrame) : (s.sendFrames k p q fs).pending = s.pending := (s.sendFrames_reported k p q fs).pending
@[simp] theorem State.sendFrames_time (k : PostKind) (p : Port) (q : Nat) (fs : List CanFrame) : (s.sendFrames k p q fs).time = s.time := (s.sendFrames_reported k p q fs).time
@[simp] theorem State.sendFrames_cfg (k : PostKind) (p : Port) (q : Nat) (fs : List CanFrame) : (s.sendFrames k p q fs).cfg = s.cfg := (s.sendFrames_reported k p q fs).cfg
@[simp] theorem State.sendFrames_pins (k : PostKind) (p : Port) (q : Nat) (fs : List CanFrame) : (s.sendFrames k p q fs).pins = s.pins := (s.sendFrames_reported k p q fs).pins
@[simp] theorem State.sendFrames_power (k : PostKind) (p : Port) (q : Nat) (fs : List CanFrame) : (s.sendFrames k p q fs).power = s.power := (s.sendFrames_reported k p q fs).power
@[simp] theorem State.sendFrames_wd (k : PostKind) (p : Port) (q : Nat) (fs : List CanFrame) : (s.sendFrames k p q fs).wd = s.wd := (s.sendFrames_reported k p q fs).wd
@[simp] theorem State.sendFrames_sec (k : PostKind) (p : Port) (q : Nat) (fs : List CanFrame) : (s.sendFrames k p q fs).sec = s.sec := (s.sendFrames_reported k p q fs).sec
@[simp] theorem State.sendFrames_boot (k : PostKind) (p : Port) (q : Nat) (fs : List CanFrame) : (s.sendFrames k p q fs).boot = s.boot := (s.sendFrames_reported k p q fs).boot
@[simp] theorem State.sendFrames_eng (k : PostKind) (p : Port) (q : Nat) (fs : List CanFrame) : (s.sendFrames k p q fs).eng = s.eng := (s.sendFrames_reported k p q fs).eng
@[simp] theorem State.sendFrames_blockReads (k : PostKind) (p : Port) (q : Nat) (fs : List CanFrame) : (s.sendFrames k p q fs).blockReads = s.blockReads := (s.sendFrames_reported k p q fs).blockReads
@[simp] theorem State.sendFrames_blockWrites (k : PostKind) (p : Port) (q : Nat) (fs : List CanFrame) : (s.sendFrames k p q fs).blockWrites = s.blockWrites := (s.sendFrames_reported k p q fs).blockWrites
@[simp] theorem State.sendFrames_upd (k : PostKind) (p : Port) (q : Nat) (fs : List CanFrame) : (s.sendFrames k p q fs).upd = s.upd := (s.sendFrames_reported k p q fs).upd
@[simp] theorem State.sendFrames_field (k : PostKind) (p : Port) (q : Nat) (fs : List CanFrame) : (s.sendFrames k p q fs).field = s.field := (s.sendFrames_reported k p q fs).field
@[simp] theorem State.sendFrames_mems (k : PostKind) (p : Port) (q : Nat) (fs : List CanFrame) : (s.sendFrames k p q fs).mems = s.mems := (s.sendFrames_reported k p q fs).mems
@[simp] theorem State.sendFrames_rail (k : PostKind) (p : Port) (q : Nat) (fs : List CanFrame) : (s.sendFrames k p q fs).rail = s.rail := (s.sendFrames_reported k p q fs).rail
@[simp] theorem State.sendFrames_margin (k : PostKind) (p : Port) (q : Nat) (fs : List CanFrame) : (s.sendFrames k p q fs).margin = s.margin := (s.sendFrames_reported k p q fs).margin
@[simp] theorem State.sendFrames_paths (k : PostKind) (p : Port) (q : Nat) (fs : List CanFrame) : (s.sendFrames k p q fs).paths = s.paths := (s.sendFrames_reported k p q fs).paths
@[simp] theorem State.sendFrames_loops (k : PostKind) (p : Port) (q : Nat) (fs : List CanFrame) : (s.sendFrames k p q fs).loops = s.loops := (s.sendFrames_reported k p q fs).loops
@[simp] theorem State.sendFrames_conv (k : PostKind) (p : Port) (q : Nat) (fs : List CanFrame) : (s.sendFrames k p q fs).conv = s.conv := (s.sendFrames_reported k p q fs).conv
@[simp] theorem State.sendFrames_fe (k : PostKind) (p : Port) (q : Nat) (fs : List CanFrame) : (s.sendFrames k p q fs).fe = s.fe := (s.sendFrames_reported k p q fs).fe
@[simp] theorem State.sendFrames_le (k : PostKind) (p : Port) (q : Nat) (fs : List CanFrame) : (s.sendFrames k p q fs).le = s.le := (s.sendFrames_reported k p q fs).le
@[simp] theorem State.sendFrames_net (k : PostKind) (p : Port) (q : Nat) (fs : List CanFrame) : (s.sendFrames k p q fs).net = s.net := (s.sendFrames_reported k p q fs).net
@[simp] theorem State.sendFrames_pa (k : PostKind) (p : Port) (q : Nat) (fs : List CanFrame) : (s.sendFrames k p q fs).pa = s.pa := (s.sendFrames_reported k p q fs).pa
@[simp] theorem State.sendFrames_feed (k : PostKind) (p : Port) (q : Nat) (fs : List CanFrame) : (s.sendFrames k p q fs).feed = s.feed := (s.sendFrames_reported k p q fs).feed
@[simp] theorem State.sendFrames_hkb (k : PostKind) (p : Port) (q : Nat) (fs : List CanFrame) : (s.sendFrames k p q fs).hkb = s.hkb := (s.sendFrames_reported k p q fs).hkb
@[simp] theorem State.sendFrames_tiu (k : PostKind) (p : Port) (q : Nat) (fs : List CanFrame) : (s.sendFrames k p q fs).tiu = s.tiu := (s.sendFrames_reported k p q fs).tiu
@[simp] theorem State.sendFrames_lid (k : PostKind) (p : Port) (q : Nat) (fs : List CanFrame) : (s.sendFrames k p q fs).lid = s.lid := (s.sendFrames_reported k p q fs).lid
@[simp] theorem State.sendFrames_twin (k : PostKind) (p : Port) (q : Nat) (fs : List CanFrame) : (s.sendFrames k p q fs).twin = s.twin := (s.sendFrames_reported k p q fs).twin
@[simp] theorem State.sendFrames_free (k : PostKind) (p : Port) (q : Nat) (fs : List CanFrame) : (s.sendFrames k p q fs).free = s.free := (s.sendFrames_reported k p q fs).free
@[simp] theorem State.get_sendFrames (k : PostKind) (p : Port) (q : Nat) (fs : List CanFrame) (j : Nat) (h : reportKey j = false) : (s.sendFrames k p q fs).get j = s.get j :=
  (s.sendFrames_reported k p q fs).get j h
@[simp] theorem State.deadline_sendFrames (k : PostKind) (p : Port) (q : Nat) (fs : List CanFrame) (T : TimerId) (h : reportTimer T = false) :
    (s.sendFrames k p q fs).deadline T = s.deadline T := (s.sendFrames_reported k p q fs).deadline T h

@[simp] theorem State.sendAll_pending (k : PostKind) (q : Nat) (i : BitVec 29) (b : Bytes) : (s.sendAll k q i b).pending = s.pending := (s.sendAll_reported k q i b).pending
@[simp] theorem State.sendAll_time (k : PostKind) (q : Nat) (i : BitVec 29) (b : Bytes) : (s.sendAll k q i b).time = s.time := (s.sendAll_reported k q i b).time
@[simp] theorem State.sendAll_cfg (k : PostKind) (q : Nat) (i : BitVec 29) (b : Bytes) : (s.sendAll k q i b).cfg = s.cfg := (s.sendAll_reported k q i b).cfg
@[simp] theorem State.sendAll_pins (k : PostKind) (q : Nat) (i : BitVec 29) (b : Bytes) : (s.sendAll k q i b).pins = s.pins := (s.sendAll_reported k q i b).pins
@[simp] theorem State.sendAll_power (k : PostKind) (q : Nat) (i : BitVec 29) (b : Bytes) : (s.sendAll k q i b).power = s.power := (s.sendAll_reported k q i b).power
@[simp] theorem State.sendAll_wd (k : PostKind) (q : Nat) (i : BitVec 29) (b : Bytes) : (s.sendAll k q i b).wd = s.wd := (s.sendAll_reported k q i b).wd
@[simp] theorem State.sendAll_sec (k : PostKind) (q : Nat) (i : BitVec 29) (b : Bytes) : (s.sendAll k q i b).sec = s.sec := (s.sendAll_reported k q i b).sec
@[simp] theorem State.sendAll_boot (k : PostKind) (q : Nat) (i : BitVec 29) (b : Bytes) : (s.sendAll k q i b).boot = s.boot := (s.sendAll_reported k q i b).boot
@[simp] theorem State.sendAll_eng (k : PostKind) (q : Nat) (i : BitVec 29) (b : Bytes) : (s.sendAll k q i b).eng = s.eng := (s.sendAll_reported k q i b).eng
@[simp] theorem State.sendAll_blockReads (k : PostKind) (q : Nat) (i : BitVec 29) (b : Bytes) : (s.sendAll k q i b).blockReads = s.blockReads := (s.sendAll_reported k q i b).blockReads
@[simp] theorem State.sendAll_blockWrites (k : PostKind) (q : Nat) (i : BitVec 29) (b : Bytes) : (s.sendAll k q i b).blockWrites = s.blockWrites := (s.sendAll_reported k q i b).blockWrites
@[simp] theorem State.sendAll_upd (k : PostKind) (q : Nat) (i : BitVec 29) (b : Bytes) : (s.sendAll k q i b).upd = s.upd := (s.sendAll_reported k q i b).upd
@[simp] theorem State.sendAll_field (k : PostKind) (q : Nat) (i : BitVec 29) (b : Bytes) : (s.sendAll k q i b).field = s.field := (s.sendAll_reported k q i b).field
@[simp] theorem State.sendAll_mems (k : PostKind) (q : Nat) (i : BitVec 29) (b : Bytes) : (s.sendAll k q i b).mems = s.mems := (s.sendAll_reported k q i b).mems
@[simp] theorem State.sendAll_rail (k : PostKind) (q : Nat) (i : BitVec 29) (b : Bytes) : (s.sendAll k q i b).rail = s.rail := (s.sendAll_reported k q i b).rail
@[simp] theorem State.sendAll_margin (k : PostKind) (q : Nat) (i : BitVec 29) (b : Bytes) : (s.sendAll k q i b).margin = s.margin := (s.sendAll_reported k q i b).margin
@[simp] theorem State.sendAll_paths (k : PostKind) (q : Nat) (i : BitVec 29) (b : Bytes) : (s.sendAll k q i b).paths = s.paths := (s.sendAll_reported k q i b).paths
@[simp] theorem State.sendAll_loops (k : PostKind) (q : Nat) (i : BitVec 29) (b : Bytes) : (s.sendAll k q i b).loops = s.loops := (s.sendAll_reported k q i b).loops
@[simp] theorem State.sendAll_conv (k : PostKind) (q : Nat) (i : BitVec 29) (b : Bytes) : (s.sendAll k q i b).conv = s.conv := (s.sendAll_reported k q i b).conv
@[simp] theorem State.sendAll_fe (k : PostKind) (q : Nat) (i : BitVec 29) (b : Bytes) : (s.sendAll k q i b).fe = s.fe := (s.sendAll_reported k q i b).fe
@[simp] theorem State.sendAll_le (k : PostKind) (q : Nat) (i : BitVec 29) (b : Bytes) : (s.sendAll k q i b).le = s.le := (s.sendAll_reported k q i b).le
@[simp] theorem State.sendAll_net (k : PostKind) (q : Nat) (i : BitVec 29) (b : Bytes) : (s.sendAll k q i b).net = s.net := (s.sendAll_reported k q i b).net
@[simp] theorem State.sendAll_pa (k : PostKind) (q : Nat) (i : BitVec 29) (b : Bytes) : (s.sendAll k q i b).pa = s.pa := (s.sendAll_reported k q i b).pa
@[simp] theorem State.sendAll_feed (k : PostKind) (q : Nat) (i : BitVec 29) (b : Bytes) : (s.sendAll k q i b).feed = s.feed := (s.sendAll_reported k q i b).feed
@[simp] theorem State.sendAll_hkb (k : PostKind) (q : Nat) (i : BitVec 29) (b : Bytes) : (s.sendAll k q i b).hkb = s.hkb := (s.sendAll_reported k q i b).hkb
@[simp] theorem State.sendAll_tiu (k : PostKind) (q : Nat) (i : BitVec 29) (b : Bytes) : (s.sendAll k q i b).tiu = s.tiu := (s.sendAll_reported k q i b).tiu
@[simp] theorem State.sendAll_lid (k : PostKind) (q : Nat) (i : BitVec 29) (b : Bytes) : (s.sendAll k q i b).lid = s.lid := (s.sendAll_reported k q i b).lid
@[simp] theorem State.sendAll_twin (k : PostKind) (q : Nat) (i : BitVec 29) (b : Bytes) : (s.sendAll k q i b).twin = s.twin := (s.sendAll_reported k q i b).twin
@[simp] theorem State.sendAll_free (k : PostKind) (q : Nat) (i : BitVec 29) (b : Bytes) : (s.sendAll k q i b).free = s.free := (s.sendAll_reported k q i b).free
@[simp] theorem State.get_sendAll (k : PostKind) (q : Nat) (i : BitVec 29) (b : Bytes) (j : Nat) (h : reportKey j = false) : (s.sendAll k q i b).get j = s.get j :=
  (s.sendAll_reported k q i b).get j h
@[simp] theorem State.deadline_sendAll (k : PostKind) (q : Nat) (i : BitVec 29) (b : Bytes) (T : TimerId) (h : reportTimer T = false) :
    (s.sendAll k q i b).deadline T = s.deadline T := (s.sendAll_reported k q i b).deadline T h

@[simp] theorem State.notify_pending (e slot : Nat) (b : Bytes) : (s.notify e slot b).pending = s.pending := (s.notify_reported e slot b).pending
@[simp] theorem State.notify_time (e slot : Nat) (b : Bytes) : (s.notify e slot b).time = s.time := (s.notify_reported e slot b).time
@[simp] theorem State.notify_cfg (e slot : Nat) (b : Bytes) : (s.notify e slot b).cfg = s.cfg := (s.notify_reported e slot b).cfg
@[simp] theorem State.notify_pins (e slot : Nat) (b : Bytes) : (s.notify e slot b).pins = s.pins := (s.notify_reported e slot b).pins
@[simp] theorem State.notify_power (e slot : Nat) (b : Bytes) : (s.notify e slot b).power = s.power := (s.notify_reported e slot b).power
@[simp] theorem State.notify_wd (e slot : Nat) (b : Bytes) : (s.notify e slot b).wd = s.wd := (s.notify_reported e slot b).wd
@[simp] theorem State.notify_sec (e slot : Nat) (b : Bytes) : (s.notify e slot b).sec = s.sec := (s.notify_reported e slot b).sec
@[simp] theorem State.notify_boot (e slot : Nat) (b : Bytes) : (s.notify e slot b).boot = s.boot := (s.notify_reported e slot b).boot
@[simp] theorem State.notify_eng (e slot : Nat) (b : Bytes) : (s.notify e slot b).eng = s.eng := (s.notify_reported e slot b).eng
@[simp] theorem State.notify_blockReads (e slot : Nat) (b : Bytes) : (s.notify e slot b).blockReads = s.blockReads := (s.notify_reported e slot b).blockReads
@[simp] theorem State.notify_blockWrites (e slot : Nat) (b : Bytes) : (s.notify e slot b).blockWrites = s.blockWrites := (s.notify_reported e slot b).blockWrites
@[simp] theorem State.notify_upd (e slot : Nat) (b : Bytes) : (s.notify e slot b).upd = s.upd := (s.notify_reported e slot b).upd
@[simp] theorem State.notify_field (e slot : Nat) (b : Bytes) : (s.notify e slot b).field = s.field := (s.notify_reported e slot b).field
@[simp] theorem State.notify_mems (e slot : Nat) (b : Bytes) : (s.notify e slot b).mems = s.mems := (s.notify_reported e slot b).mems
@[simp] theorem State.notify_rail (e slot : Nat) (b : Bytes) : (s.notify e slot b).rail = s.rail := (s.notify_reported e slot b).rail
@[simp] theorem State.notify_margin (e slot : Nat) (b : Bytes) : (s.notify e slot b).margin = s.margin := (s.notify_reported e slot b).margin
@[simp] theorem State.notify_paths (e slot : Nat) (b : Bytes) : (s.notify e slot b).paths = s.paths := (s.notify_reported e slot b).paths
@[simp] theorem State.notify_loops (e slot : Nat) (b : Bytes) : (s.notify e slot b).loops = s.loops := (s.notify_reported e slot b).loops
@[simp] theorem State.notify_conv (e slot : Nat) (b : Bytes) : (s.notify e slot b).conv = s.conv := (s.notify_reported e slot b).conv
@[simp] theorem State.notify_fe (e slot : Nat) (b : Bytes) : (s.notify e slot b).fe = s.fe := (s.notify_reported e slot b).fe
@[simp] theorem State.notify_le (e slot : Nat) (b : Bytes) : (s.notify e slot b).le = s.le := (s.notify_reported e slot b).le
@[simp] theorem State.notify_net (e slot : Nat) (b : Bytes) : (s.notify e slot b).net = s.net := (s.notify_reported e slot b).net
@[simp] theorem State.notify_pa (e slot : Nat) (b : Bytes) : (s.notify e slot b).pa = s.pa := (s.notify_reported e slot b).pa
@[simp] theorem State.notify_feed (e slot : Nat) (b : Bytes) : (s.notify e slot b).feed = s.feed := (s.notify_reported e slot b).feed
@[simp] theorem State.notify_hkb (e slot : Nat) (b : Bytes) : (s.notify e slot b).hkb = s.hkb := (s.notify_reported e slot b).hkb
@[simp] theorem State.notify_tiu (e slot : Nat) (b : Bytes) : (s.notify e slot b).tiu = s.tiu := (s.notify_reported e slot b).tiu
@[simp] theorem State.notify_lid (e slot : Nat) (b : Bytes) : (s.notify e slot b).lid = s.lid := (s.notify_reported e slot b).lid
@[simp] theorem State.notify_twin (e slot : Nat) (b : Bytes) : (s.notify e slot b).twin = s.twin := (s.notify_reported e slot b).twin
@[simp] theorem State.notify_free (e slot : Nat) (b : Bytes) : (s.notify e slot b).free = s.free := (s.notify_reported e slot b).free
@[simp] theorem State.get_notify (e slot : Nat) (b : Bytes) (j : Nat) (h : reportKey j = false) : (s.notify e slot b).get j = s.get j :=
  (s.notify_reported e slot b).get j h
@[simp] theorem State.deadline_notify (e slot : Nat) (b : Bytes) (T : TimerId) (h : reportTimer T = false) :
    (s.notify e slot b).deadline T = s.deadline T := (s.notify_reported e slot b).deadline T h

@[simp] theorem State.noteSummary_pending : (s.noteSummary).pending = s.pending := (s.noteSummary_reported).pending
@[simp] theorem State.noteSummary_time : (s.noteSummary).time = s.time := (s.noteSummary_reported).time
@[simp] theorem State.noteSummary_cfg : (s.noteSummary).cfg = s.cfg := (s.noteSummary_reported).cfg
@[simp] theorem State.noteSummary_pins : (s.noteSummary).pins = s.pins := (s.noteSummary_reported).pins
@[simp] theorem State.noteSummary_power : (s.noteSummary).power = s.power := (s.noteSummary_reported).power
@[simp] theorem State.noteSummary_wd : (s.noteSummary).wd = s.wd := (s.noteSummary_reported).wd
@[simp] theorem State.noteSummary_sec : (s.noteSummary).sec = s.sec := (s.noteSummary_reported).sec
@[simp] theorem State.noteSummary_boot : (s.noteSummary).boot = s.boot := (s.noteSummary_reported).boot
@[simp] theorem State.noteSummary_eng : (s.noteSummary).eng = s.eng := (s.noteSummary_reported).eng
@[simp] theorem State.noteSummary_blockReads : (s.noteSummary).blockReads = s.blockReads := (s.noteSummary_reported).blockReads
@[simp] theorem State.noteSummary_blockWrites : (s.noteSummary).blockWrites = s.blockWrites := (s.noteSummary_reported).blockWrites
@[simp] theorem State.noteSummary_upd : (s.noteSummary).upd = s.upd := (s.noteSummary_reported).upd
@[simp] theorem State.noteSummary_field : (s.noteSummary).field = s.field := (s.noteSummary_reported).field
@[simp] theorem State.noteSummary_mems : (s.noteSummary).mems = s.mems := (s.noteSummary_reported).mems
@[simp] theorem State.noteSummary_rail : (s.noteSummary).rail = s.rail := (s.noteSummary_reported).rail
@[simp] theorem State.noteSummary_margin : (s.noteSummary).margin = s.margin := (s.noteSummary_reported).margin
@[simp] theorem State.noteSummary_paths : (s.noteSummary).paths = s.paths := (s.noteSummary_reported).paths
@[simp] theorem State.noteSummary_loops : (s.noteSummary).loops = s.loops := (s.noteSummary_reported).loops
@[simp] theorem State.noteSummary_conv : (s.noteSummary).conv = s.conv := (s.noteSummary_reported).conv
@[simp] theorem State.noteSummary_fe : (s.noteSummary).fe = s.fe := (s.noteSummary_reported).fe
@[simp] theorem State.noteSummary_le : (s.noteSummary).le = s.le := (s.noteSummary_reported).le
@[simp] theorem State.noteSummary_net : (s.noteSummary).net = s.net := (s.noteSummary_reported).net
@[simp] theorem State.noteSummary_pa : (s.noteSummary).pa = s.pa := (s.noteSummary_reported).pa
@[simp] theorem State.noteSummary_feed : (s.noteSummary).feed = s.feed := (s.noteSummary_reported).feed
@[simp] theorem State.noteSummary_hkb : (s.noteSummary).hkb = s.hkb := (s.noteSummary_reported).hkb
@[simp] theorem State.noteSummary_tiu : (s.noteSummary).tiu = s.tiu := (s.noteSummary_reported).tiu
@[simp] theorem State.noteSummary_lid : (s.noteSummary).lid = s.lid := (s.noteSummary_reported).lid
@[simp] theorem State.noteSummary_twin : (s.noteSummary).twin = s.twin := (s.noteSummary_reported).twin
@[simp] theorem State.noteSummary_free : (s.noteSummary).free = s.free := (s.noteSummary_reported).free
@[simp] theorem State.get_noteSummary (j : Nat) (h : reportKey j = false) : (s.noteSummary).get j = s.get j :=
  (s.noteSummary_reported).get j h
@[simp] theorem State.deadline_noteSummary (T : TimerId) (h : reportTimer T = false) :
    (s.noteSummary).deadline T = s.deadline T := (s.noteSummary_reported).deadline T h

/-! ## Parts that an event keeps -/

@[simp] theorem State.raiseNotify_pending (p : Prod) (e slot code : Nat) (b : Bytes) :
    (s.raiseNotify p e slot code b).pending = s.pending := (s.raiseNotify_reported p e slot code b).pending
@[simp] theorem State.raiseNotify_time (p : Prod) (e slot code : Nat) (b : Bytes) :
    (s.raiseNotify p e slot code b).time = s.time := (s.raiseNotify_reported p e slot code b).time
@[simp] theorem State.raiseNotify_cfg (p : Prod) (e slot code : Nat) (b : Bytes) :
    (s.raiseNotify p e slot code b).cfg = s.cfg := (s.raiseNotify_reported p e slot code b).cfg
@[simp] theorem State.raiseNotify_pins (p : Prod) (e slot code : Nat) (b : Bytes) :
    (s.raiseNotify p e slot code b).pins = s.pins := (s.raiseNotify_reported p e slot code b).pins
@[simp] theorem State.raiseNotify_power (p : Prod) (e slot code : Nat) (b : Bytes) :
    (s.raiseNotify p e slot code b).power = s.power := (s.raiseNotify_reported p e slot code b).power
@[simp] theorem State.raiseNotify_wd (p : Prod) (e slot code : Nat) (b : Bytes) :
    (s.raiseNotify p e slot code b).wd = s.wd := (s.raiseNotify_reported p e slot code b).wd
@[simp] theorem State.raiseNotify_sec (p : Prod) (e slot code : Nat) (b : Bytes) :
    (s.raiseNotify p e slot code b).sec = s.sec := (s.raiseNotify_reported p e slot code b).sec
@[simp] theorem State.raiseNotify_boot (p : Prod) (e slot code : Nat) (b : Bytes) :
    (s.raiseNotify p e slot code b).boot = s.boot := (s.raiseNotify_reported p e slot code b).boot
@[simp] theorem State.raiseNotify_eng (p : Prod) (e slot code : Nat) (b : Bytes) :
    (s.raiseNotify p e slot code b).eng = s.eng := (s.raiseNotify_reported p e slot code b).eng
@[simp] theorem State.raiseNotify_blockReads (p : Prod) (e slot code : Nat) (b : Bytes) :
    (s.raiseNotify p e slot code b).blockReads = s.blockReads := (s.raiseNotify_reported p e slot code b).blockReads
@[simp] theorem State.raiseNotify_blockWrites (p : Prod) (e slot code : Nat) (b : Bytes) :
    (s.raiseNotify p e slot code b).blockWrites = s.blockWrites := (s.raiseNotify_reported p e slot code b).blockWrites
@[simp] theorem State.raiseNotify_upd (p : Prod) (e slot code : Nat) (b : Bytes) :
    (s.raiseNotify p e slot code b).upd = s.upd := (s.raiseNotify_reported p e slot code b).upd
@[simp] theorem State.raiseNotify_field (p : Prod) (e slot code : Nat) (b : Bytes) :
    (s.raiseNotify p e slot code b).field = s.field := (s.raiseNotify_reported p e slot code b).field
@[simp] theorem State.raiseNotify_mems (p : Prod) (e slot code : Nat) (b : Bytes) :
    (s.raiseNotify p e slot code b).mems = s.mems := (s.raiseNotify_reported p e slot code b).mems
@[simp] theorem State.raiseNotify_rail (p : Prod) (e slot code : Nat) (b : Bytes) :
    (s.raiseNotify p e slot code b).rail = s.rail := (s.raiseNotify_reported p e slot code b).rail
@[simp] theorem State.raiseNotify_margin (p : Prod) (e slot code : Nat) (b : Bytes) :
    (s.raiseNotify p e slot code b).margin = s.margin := (s.raiseNotify_reported p e slot code b).margin
@[simp] theorem State.raiseNotify_paths (p : Prod) (e slot code : Nat) (b : Bytes) :
    (s.raiseNotify p e slot code b).paths = s.paths := (s.raiseNotify_reported p e slot code b).paths
@[simp] theorem State.raiseNotify_loops (p : Prod) (e slot code : Nat) (b : Bytes) :
    (s.raiseNotify p e slot code b).loops = s.loops := (s.raiseNotify_reported p e slot code b).loops
@[simp] theorem State.raiseNotify_conv (p : Prod) (e slot code : Nat) (b : Bytes) :
    (s.raiseNotify p e slot code b).conv = s.conv := (s.raiseNotify_reported p e slot code b).conv
@[simp] theorem State.raiseNotify_fe (p : Prod) (e slot code : Nat) (b : Bytes) :
    (s.raiseNotify p e slot code b).fe = s.fe := (s.raiseNotify_reported p e slot code b).fe
@[simp] theorem State.raiseNotify_le (p : Prod) (e slot code : Nat) (b : Bytes) :
    (s.raiseNotify p e slot code b).le = s.le := (s.raiseNotify_reported p e slot code b).le
@[simp] theorem State.raiseNotify_net (p : Prod) (e slot code : Nat) (b : Bytes) :
    (s.raiseNotify p e slot code b).net = s.net := (s.raiseNotify_reported p e slot code b).net
@[simp] theorem State.raiseNotify_pa (p : Prod) (e slot code : Nat) (b : Bytes) :
    (s.raiseNotify p e slot code b).pa = s.pa := (s.raiseNotify_reported p e slot code b).pa
@[simp] theorem State.raiseNotify_feed (p : Prod) (e slot code : Nat) (b : Bytes) :
    (s.raiseNotify p e slot code b).feed = s.feed := (s.raiseNotify_reported p e slot code b).feed
@[simp] theorem State.raiseNotify_hkb (p : Prod) (e slot code : Nat) (b : Bytes) :
    (s.raiseNotify p e slot code b).hkb = s.hkb := (s.raiseNotify_reported p e slot code b).hkb
@[simp] theorem State.raiseNotify_tiu (p : Prod) (e slot code : Nat) (b : Bytes) :
    (s.raiseNotify p e slot code b).tiu = s.tiu := (s.raiseNotify_reported p e slot code b).tiu
@[simp] theorem State.raiseNotify_lid (p : Prod) (e slot code : Nat) (b : Bytes) :
    (s.raiseNotify p e slot code b).lid = s.lid := (s.raiseNotify_reported p e slot code b).lid
@[simp] theorem State.raiseNotify_twin (p : Prod) (e slot code : Nat) (b : Bytes) :
    (s.raiseNotify p e slot code b).twin = s.twin := (s.raiseNotify_reported p e slot code b).twin
@[simp] theorem State.raiseNotify_free (p : Prod) (e slot code : Nat) (b : Bytes) :
    (s.raiseNotify p e slot code b).free = s.free := (s.raiseNotify_reported p e slot code b).free
@[simp] theorem State.get_raiseNotify (p : Prod) (e slot code : Nat) (b : Bytes) (j : Nat) (h : reportKey j = false) :
    (s.raiseNotify p e slot code b).get j = s.get j := (s.raiseNotify_reported p e slot code b).get j h
@[simp] theorem State.deadline_raiseNotify (p : Prod) (e slot code : Nat) (b : Bytes) (T : TimerId)
    (h : reportTimer T = false) : (s.raiseNotify p e slot code b).deadline T = s.deadline T :=
  (s.raiseNotify_reported p e slot code b).deadline T h

/-! ## A sticky flag -/

/-- A flag set is set, whatever is reported with it. -/
theorem State.get_flag_self (k b : Nat) (h : reportKey k = false) : (s.flag k b).get k = setBit (s.get k) b := by
  unfold State.flag
  rw [State.get_noteSummary _ _ h, State.get_set_self]

/-- Every other register keeps its value. -/
theorem State.get_flag_ne (k b j : Nat) (hj : j ≠ k) (h : reportKey j = false) : (s.flag k b).get j = s.get j := by
  unfold State.flag
  rw [State.get_noteSummary _ _ h, State.get_set_ne _ _ _ _ hj]

theorem State.deadline_flag (k b : Nat) (T : TimerId) (h : reportTimer T = false) :
    (s.flag k b).deadline T = s.deadline T := by
  unfold State.flag
  rw [State.deadline_noteSummary _ _ h]
  rfl

theorem State.get_faultRow_self (k b : Nat) (p : Prod) (code sev inst : Nat) (bs : Bytes) (h : reportKey k = false) :
    (s.faultRow k b p code sev inst bs).get k = setBit (s.get k) b := by
  unfold State.faultRow
  rw [State.get_log _ _ _ _ _ _ _ h, State.get_flag_self _ _ _ h]

theorem State.get_faultRow_ne (k b : Nat) (p : Prod) (code sev inst : Nat) (bs : Bytes) (j : Nat) (hj : j ≠ k)
    (h : reportKey j = false) : (s.faultRow k b p code sev inst bs).get j = s.get j := by
  unfold State.faultRow
  rw [State.get_log _ _ _ _ _ _ _ h, State.get_flag_ne _ _ _ _ hj h]

theorem State.deadline_faultRow (k b : Nat) (p : Prod) (code sev inst : Nat) (bs : Bytes) (T : TimerId)
    (h : reportTimer T = false) : (s.faultRow k b p code sev inst bs).deadline T = s.deadline T := by
  unfold State.faultRow
  rw [State.deadline_log _ _ _ _ _ _ _ h, State.deadline_flag _ _ _ _ h]

@[simp] theorem State.flag_pending (k b : Nat) : (s.flag k b).pending = s.pending := by
  unfold State.flag
  simp
@[simp] theorem State.faultRow_pending (k b : Nat) (p : Prod) (code sev inst : Nat) (bs : Bytes) :
    (s.faultRow k b p code sev inst bs).pending = s.pending := by
  unfold State.faultRow
  simp
@[simp] theorem State.flag_time (k b : Nat) : (s.flag k b).time = s.time := by
  unfold State.flag
  simp
@[simp] theorem State.faultRow_time (k b : Nat) (p : Prod) (code sev inst : Nat) (bs : Bytes) :
    (s.faultRow k b p code sev inst bs).time = s.time := by
  unfold State.faultRow
  simp
@[simp] theorem State.flag_cfg (k b : Nat) : (s.flag k b).cfg = s.cfg := by
  unfold State.flag
  simp
@[simp] theorem State.faultRow_cfg (k b : Nat) (p : Prod) (code sev inst : Nat) (bs : Bytes) :
    (s.faultRow k b p code sev inst bs).cfg = s.cfg := by
  unfold State.faultRow
  simp
@[simp] theorem State.flag_pins (k b : Nat) : (s.flag k b).pins = s.pins := by
  unfold State.flag
  simp
@[simp] theorem State.faultRow_pins (k b : Nat) (p : Prod) (code sev inst : Nat) (bs : Bytes) :
    (s.faultRow k b p code sev inst bs).pins = s.pins := by
  unfold State.faultRow
  simp
@[simp] theorem State.flag_power (k b : Nat) : (s.flag k b).power = s.power := by
  unfold State.flag
  simp
@[simp] theorem State.faultRow_power (k b : Nat) (p : Prod) (code sev inst : Nat) (bs : Bytes) :
    (s.faultRow k b p code sev inst bs).power = s.power := by
  unfold State.faultRow
  simp
@[simp] theorem State.flag_wd (k b : Nat) : (s.flag k b).wd = s.wd := by
  unfold State.flag
  simp
@[simp] theorem State.faultRow_wd (k b : Nat) (p : Prod) (code sev inst : Nat) (bs : Bytes) :
    (s.faultRow k b p code sev inst bs).wd = s.wd := by
  unfold State.faultRow
  simp
@[simp] theorem State.flag_sec (k b : Nat) : (s.flag k b).sec = s.sec := by
  unfold State.flag
  simp
@[simp] theorem State.faultRow_sec (k b : Nat) (p : Prod) (code sev inst : Nat) (bs : Bytes) :
    (s.faultRow k b p code sev inst bs).sec = s.sec := by
  unfold State.faultRow
  simp
@[simp] theorem State.flag_boot (k b : Nat) : (s.flag k b).boot = s.boot := by
  unfold State.flag
  simp
@[simp] theorem State.faultRow_boot (k b : Nat) (p : Prod) (code sev inst : Nat) (bs : Bytes) :
    (s.faultRow k b p code sev inst bs).boot = s.boot := by
  unfold State.faultRow
  simp
@[simp] theorem State.flag_eng (k b : Nat) : (s.flag k b).eng = s.eng := by
  unfold State.flag
  simp
@[simp] theorem State.faultRow_eng (k b : Nat) (p : Prod) (code sev inst : Nat) (bs : Bytes) :
    (s.faultRow k b p code sev inst bs).eng = s.eng := by
  unfold State.faultRow
  simp
@[simp] theorem State.flag_blockReads (k b : Nat) : (s.flag k b).blockReads = s.blockReads := by
  unfold State.flag
  simp
@[simp] theorem State.faultRow_blockReads (k b : Nat) (p : Prod) (code sev inst : Nat) (bs : Bytes) :
    (s.faultRow k b p code sev inst bs).blockReads = s.blockReads := by
  unfold State.faultRow
  simp
@[simp] theorem State.flag_blockWrites (k b : Nat) : (s.flag k b).blockWrites = s.blockWrites := by
  unfold State.flag
  simp
@[simp] theorem State.faultRow_blockWrites (k b : Nat) (p : Prod) (code sev inst : Nat) (bs : Bytes) :
    (s.faultRow k b p code sev inst bs).blockWrites = s.blockWrites := by
  unfold State.faultRow
  simp
@[simp] theorem State.flag_upd (k b : Nat) : (s.flag k b).upd = s.upd := by
  unfold State.flag
  simp
@[simp] theorem State.faultRow_upd (k b : Nat) (p : Prod) (code sev inst : Nat) (bs : Bytes) :
    (s.faultRow k b p code sev inst bs).upd = s.upd := by
  unfold State.faultRow
  simp
@[simp] theorem State.flag_field (k b : Nat) : (s.flag k b).field = s.field := by
  unfold State.flag
  simp
@[simp] theorem State.faultRow_field (k b : Nat) (p : Prod) (code sev inst : Nat) (bs : Bytes) :
    (s.faultRow k b p code sev inst bs).field = s.field := by
  unfold State.faultRow
  simp
@[simp] theorem State.flag_mems (k b : Nat) : (s.flag k b).mems = s.mems := by
  unfold State.flag
  simp
@[simp] theorem State.faultRow_mems (k b : Nat) (p : Prod) (code sev inst : Nat) (bs : Bytes) :
    (s.faultRow k b p code sev inst bs).mems = s.mems := by
  unfold State.faultRow
  simp
@[simp] theorem State.flag_rail (k b : Nat) : (s.flag k b).rail = s.rail := by
  unfold State.flag
  simp
@[simp] theorem State.faultRow_rail (k b : Nat) (p : Prod) (code sev inst : Nat) (bs : Bytes) :
    (s.faultRow k b p code sev inst bs).rail = s.rail := by
  unfold State.faultRow
  simp
@[simp] theorem State.flag_margin (k b : Nat) : (s.flag k b).margin = s.margin := by
  unfold State.flag
  simp
@[simp] theorem State.faultRow_margin (k b : Nat) (p : Prod) (code sev inst : Nat) (bs : Bytes) :
    (s.faultRow k b p code sev inst bs).margin = s.margin := by
  unfold State.faultRow
  simp
@[simp] theorem State.flag_paths (k b : Nat) : (s.flag k b).paths = s.paths := by
  unfold State.flag
  simp
@[simp] theorem State.faultRow_paths (k b : Nat) (p : Prod) (code sev inst : Nat) (bs : Bytes) :
    (s.faultRow k b p code sev inst bs).paths = s.paths := by
  unfold State.faultRow
  simp
@[simp] theorem State.flag_loops (k b : Nat) : (s.flag k b).loops = s.loops := by
  unfold State.flag
  simp
@[simp] theorem State.faultRow_loops (k b : Nat) (p : Prod) (code sev inst : Nat) (bs : Bytes) :
    (s.faultRow k b p code sev inst bs).loops = s.loops := by
  unfold State.faultRow
  simp
@[simp] theorem State.flag_conv (k b : Nat) : (s.flag k b).conv = s.conv := by
  unfold State.flag
  simp
@[simp] theorem State.faultRow_conv (k b : Nat) (p : Prod) (code sev inst : Nat) (bs : Bytes) :
    (s.faultRow k b p code sev inst bs).conv = s.conv := by
  unfold State.faultRow
  simp
@[simp] theorem State.flag_fe (k b : Nat) : (s.flag k b).fe = s.fe := by
  unfold State.flag
  simp
@[simp] theorem State.faultRow_fe (k b : Nat) (p : Prod) (code sev inst : Nat) (bs : Bytes) :
    (s.faultRow k b p code sev inst bs).fe = s.fe := by
  unfold State.faultRow
  simp
@[simp] theorem State.flag_le (k b : Nat) : (s.flag k b).le = s.le := by
  unfold State.flag
  simp
@[simp] theorem State.faultRow_le (k b : Nat) (p : Prod) (code sev inst : Nat) (bs : Bytes) :
    (s.faultRow k b p code sev inst bs).le = s.le := by
  unfold State.faultRow
  simp
@[simp] theorem State.flag_net (k b : Nat) : (s.flag k b).net = s.net := by
  unfold State.flag
  simp
@[simp] theorem State.faultRow_net (k b : Nat) (p : Prod) (code sev inst : Nat) (bs : Bytes) :
    (s.faultRow k b p code sev inst bs).net = s.net := by
  unfold State.faultRow
  simp
@[simp] theorem State.flag_pa (k b : Nat) : (s.flag k b).pa = s.pa := by
  unfold State.flag
  simp
@[simp] theorem State.faultRow_pa (k b : Nat) (p : Prod) (code sev inst : Nat) (bs : Bytes) :
    (s.faultRow k b p code sev inst bs).pa = s.pa := by
  unfold State.faultRow
  simp
@[simp] theorem State.flag_feed (k b : Nat) : (s.flag k b).feed = s.feed := by
  unfold State.flag
  simp
@[simp] theorem State.faultRow_feed (k b : Nat) (p : Prod) (code sev inst : Nat) (bs : Bytes) :
    (s.faultRow k b p code sev inst bs).feed = s.feed := by
  unfold State.faultRow
  simp
@[simp] theorem State.flag_hkb (k b : Nat) : (s.flag k b).hkb = s.hkb := by
  unfold State.flag
  simp
@[simp] theorem State.faultRow_hkb (k b : Nat) (p : Prod) (code sev inst : Nat) (bs : Bytes) :
    (s.faultRow k b p code sev inst bs).hkb = s.hkb := by
  unfold State.faultRow
  simp
@[simp] theorem State.flag_tiu (k b : Nat) : (s.flag k b).tiu = s.tiu := by
  unfold State.flag
  simp
@[simp] theorem State.faultRow_tiu (k b : Nat) (p : Prod) (code sev inst : Nat) (bs : Bytes) :
    (s.faultRow k b p code sev inst bs).tiu = s.tiu := by
  unfold State.faultRow
  simp
@[simp] theorem State.flag_lid (k b : Nat) : (s.flag k b).lid = s.lid := by
  unfold State.flag
  simp
@[simp] theorem State.faultRow_lid (k b : Nat) (p : Prod) (code sev inst : Nat) (bs : Bytes) :
    (s.faultRow k b p code sev inst bs).lid = s.lid := by
  unfold State.faultRow
  simp
@[simp] theorem State.flag_twin (k b : Nat) : (s.flag k b).twin = s.twin := by
  unfold State.flag
  simp
@[simp] theorem State.faultRow_twin (k b : Nat) (p : Prod) (code sev inst : Nat) (bs : Bytes) :
    (s.faultRow k b p code sev inst bs).twin = s.twin := by
  unfold State.faultRow
  simp
@[simp] theorem State.flag_free (k b : Nat) : (s.flag k b).free = s.free := by
  unfold State.flag
  simp
@[simp] theorem State.faultRow_free (k b : Nat) (p : Prod) (code sev inst : Nat) (bs : Bytes) :
    (s.faultRow k b p code sev inst bs).free = s.free := by
  unfold State.faultRow
  simp

end Sys2Proof.Machine
end

