-- ==== Sys2Proof/Machine/PinView.lean ====
section
/-!
DEFINITION. What each ball shows in each supply condition (ch. 02: R35, R38, R39, R46, R50; Table 2-6).
-/

namespace Sys2Proof.Machine

open Sys2Proof

/-- What a ball shows between two commands: a driven level, high impedance (with the pull of Table 2-7, if any), a DAC's
code, or a signal that is driven and moves by itself. -/
inductive Level where
  | low | high | z
  | code (n : Nat)
  | driven
deriving DecidableEq, Repr

/-- The outputs of Table 2-6. -/
inductive Ball where
  | railEn (slot : Fin 16)
  | paEn (lane : Fin 4)
  | twinAct | rfMuteN | pfwN
  | mrg (channel : Fin 4)
  | lidGuard
  | canTx (p : Port) | canStb (p : Port)
  | tdo | hostMiso | hostIrqN
  | feSck (ctrl : Fin 2) | feMosi (ctrl : Fin 2) | feCs (ctrl : Fin 2) (n : Fin 4) | feGpio (n : Fin 16)
  | paBias (lane : Fin 4)
  | tdrLaunch | jlTx
deriving DecidableEq, Repr

/-- A level of a push-pull output. -/
def levelOfBool (b : Bool) : Level := if b then .high else .low

/-- Whether one of the Milush's own supplies is present: its slot of the default assignment is enabled (R36). -/
def State.ownSupply (s : State) (slot : Nat) : Bool := s.pins.railEn.toNat.testBit slot

/-- Whether the core domain is released (the last column of Table 2-6). -/
def State.released (s : State) : Bool := s.awake && s.power.coreReleased

/-- What a ball shows (R38). Below the brown-out threshold every output is released (R39); bank A is high-impedance
without VDDIO_A and until its level is selected (R35); the other banks without their supply (R42). An open-drain output
only pulls low. Bank A's TDO and HOST_MISO drive inside a shift and a transaction alone, which are within a command. -/
def State.ball (s : State) (b : Ball) : Level :=
  if !s.awake then .z
  else
    match b with
    | .railEn n => levelOfBool (s.pins.railEn.toNat.testBit n.val)
    | .paEn n => levelOfBool (s.released && s.pins.paEn.toNat.testBit n.val)
    | .twinAct => levelOfBool (s.released && s.pins.twinAct)
    | .rfMuteN => if s.released && s.pins.rfMuteN then .z else .low
    | .pfwN => if s.pins.pfwN then .z else .low
    | .mrg n =>
      match s.pins.mrg.find? (fun m => m.1 == n.val) with
      | some m => if s.released then .code (m.2 - 1) else .z
      | none => .z
    | .lidGuard => .driven
    | .canTx _ => if s.bankA then .high else .z
    | .canStb .a => if s.bankA then levelOfBool (!s.released || s.pins.canStbA) else .z
    | .canStb .b => if s.bankA then levelOfBool (!s.released || s.pins.canStbB) else .z
    | .tdo => .z
    | .hostMiso => .z
    | .hostIrqN => if s.bankA && s.irqAsserted then .low else .z
    | .feSck _ => if s.ownSupply 2 then .low else .z
    | .feMosi _ => if s.ownSupply 2 then .low else .z
    | .feCs _ _ => if s.ownSupply 2 then .high else .z
    | .feGpio n =>
      if s.ownSupply 2 && s.released && (s.get Obj.frontEndGpioOut).testBit n.val then
        levelOfBool (s.pins.feGpio.toNat.testBit n.val)
      else .z
    | .paBias n =>
      if !s.ownSupply 1 then .z
      else if s.released then .code (lookupD s.pins.paBias n.val 0) else .code 0
    | .tdrLaunch => if s.ownSupply 1 then levelOfBool (s.released && s.pins.tdrLaunch) else .z
    | .jlTx => if s.released && s.ownSupply 3 && s.twin.enabled then .driven else .z

end Sys2Proof.Machine
end

