-- ==== Sys2Proof/Tests/Slice0.lean ====
section
/-!
SUPPORT. Tests: an ill-formed term for each check of `Instr.wf`, worked examples of the spec, and one theorem per statement
whose states and operands meet the hypotheses of its clauses. Four kinds of clause turn on functions that are free in the
model and have no such term here: a Strelbor token whose ECDSA signature verifies, a wrapped key that unwraps and one that
does not, an erasure of the keys that succeeds and one that does not, and a window whose level lies above the overpower
limit (for each token, key, erasure or window, one of the two cases of its clauses holds).
-/

namespace Sys2Proof.Tests

open Sys2Proof Sys2Proof.Machine

set_option Elab.async false

/-! ## Ill-formed terms -/

theorem test_wf_host_source : (Instr.wf (.read ⟨.host, 5, 0, 9, none⟩ 0x1000 1)) = false := by decide +kernel
theorem test_wf_port_source : (Instr.wf (.read ⟨.portA, 512, 4, 9, none⟩ 0x1000 1)) = false := by decide +kernel
theorem test_wf_write_length : (Instr.wf (.write ⟨.host, 0xFFFF, 0, 9, none⟩ 0x1100 3 2 (List.replicate 961 0#8))) = false := by decide +kernel
theorem test_wf_staged_length : (Instr.wf (.stagedWrite ⟨.host, 0xFFFF, 0, 9, none⟩ 0x1100 3 2 (List.replicate 961 0#8))) = false := by decide +kernel
theorem test_wf_key_length : (Instr.wf (.roleKeyWrite ⟨.host, 0xFFFF, 0, 9, none⟩ 2 (List.replicate 961 0#8))) = false := by decide +kernel
theorem test_wf_token_length : (Instr.wf (.debugToken ⟨.host, 0xFFFF, 0, 9, none⟩ (List.replicate 961 0#8))) = false := by decide +kernel
theorem test_wf_segment_length : (Instr.wf (.blockWrite ⟨.host, 0xFFFF, 0, 9, none⟩ 0x1120 2 true 0 961 (List.replicate 961 0#8))) = false := by decide +kernel
theorem test_wf_routes_length : (Instr.wf (.setRoutes ⟨.portA, 300, 5, 9, none⟩ 0 516 (List.replicate 961 0#8))) = false := by decide +kernel
theorem test_wf_frame_length : (Instr.wf (.obvarFrameReceive .a ⟨0, true, true, false, true, false, false, List.replicate 65 0#8⟩)) = false := by decide +kernel
theorem test_wf_post_length : (Instr.wf (.queuePost 0x80 (List.replicate 65 0#8) false)) = false := by decide +kernel
theorem test_wf_chunk_length : (Instr.wf (.imageChunkReceive 0 0 0 (List.replicate 257 0#8))) = false := by decide +kernel
theorem test_wf_heartbeat_length : (Instr.wf (.twinHeartbeatReceive 0 (List.replicate 65 0#8))) = false := by decide +kernel
theorem test_wf_mask_bits : (Instr.wf (.locateQuery .a ⟨300, 65, false, 0, 500⟩)) = false := by decide +kernel
theorem test_wf_completes (s : State) : ∃ t, exec (.queuePost 0x80 (List.replicate 65 0#8) false) s = .next t := ⟨_, rfl⟩
theorem test_no_word : decodeTableWord 16 0x1234 = none := rfl
theorem test_no_placing : State.reset.withFetchWord 16 0x1234 = State.reset := rfl

/-! ## States of the witnesses -/

/-- The unit in STANDBY with its cores ready, REF_IN present and port A on its bus. -/
def up : State :=
  let s := { State.reset with
    power := { State.reset.power with state := .standby, coreReleased := true, pressReady := true, vintReady := true,
                                      corkReady := true, refPresent := true, refSeen := true, pllLocked := true },
    pins := { State.reset.pins with vddioA := true, vddioSel := true }
    field.effective := 5, cask.scanned := true }
  ((s.set (Obj.portState 0) 3).set Obj.clockSamplePllLocked 1).set Obj.lidBaseline 3000

/-- The unit in DORMANT, ready for a start. -/
def down : State := { State.reset with power.state := .dormant, cask.scanned := true }

/-- The unit in ACTIVE. -/
def act : State := { up with power.state := .active }

/-- The unit in the lifecycle RETURNED, where the host port needs no session. -/
def returned : State := { up with sec.fuses := 7 }

/-- A state with a property. -/
def holds (s : State) (p : State → Bool) : Bool := p s
/-- The request of the host port. -/
def host : ReqCtx := ⟨.host, 0xFFFF, 0, 9, none⟩

/-- A request at port A, unprotected, with this priority. -/
def atPort (p : BitVec 3) : ReqCtx := ⟨.portA, 300, p, 9, none⟩

/-- An update that has received so many of its 1000 bytes. -/
def receiving (n : Nat) : State := { (returned.set Obj.updateState 1).set Obj.updateReceived n with upd := ⟨1000, []⟩ }

/-- A commit in application. -/
def committing (s : State) : State :=
  { s with eng.commit := some ⟨callerOf host 1 0, .none, none, 0, [], [], false, false, 0, [], [], [], [], [], false⟩ }

/-- The caller and the state at which the service of a command acts, its command's operands, and whether its reply has room
(`Claims.Served`), with the tag of a protected request taken as right. -/
def entered (s : State) (r : ReqCtx) (svc aux : Nat) (b : Bytes) : Option (Caller × State) :=
  match Claims.opened s r svc aux b with
  | none => none
  | some u =>
    let c := callerOf r svc aux
    match r.trailer with
    | none => some (c, u)
    | some t =>
      match u.sec.sessions.find? (fun x => x.isOpen && x.sid == t.sid.toNat && x.peer == reqPeer r && x.via == r.via) with
      | none => none
      | some x =>
        if x.ctrIn < t.counter.toNat then
          some ({ c with role := some x.role, slot := some (Fin.ofNat 8 x.slot),
                         dest := { c.dest with session := some t.sid.toNat } },
            (u.setSession { x with ctrIn := t.counter.toNat, fails := 0 }).arm (.sessionIdle x.slot)
              (1000000 * u.get Obj.sessionIdleTimeout))
        else none

def served (i : Instr) (s : State) (p : ReqCtx → Bytes → Caller → State → Bool) : Bool :=
  match Claims.message i with
  | none => false
  | some (r, svc, aux, b) =>
    match entered s r svc aux b with
    | none => false
    | some (c, u) =>
      decide (isUpdateSegment svc (reqMessage r b) = true → u.get Obj.updateState = 1 →
          framesOf (reqMessage r b).length ≤ u.credits 0x08)
        && decide ((Claims.finished s r (u.act c b)).derivedWaits ≤ u.derivedWaits) && p r b c u

/-- `served`, with the checks of a Write passed. -/
def writes (i : Instr) (s : State) (k v : Nat) (p : ReqCtx → Bytes → Caller → State → Bool) : Bool :=
  served i s (fun r b c u => (Claims.writeFault c u k v (objSize k)).isNone && p r b c u)
def t4 : ReqCtx → Bytes → Caller → State → Bool := fun _ _ _ _ => true
def slot1 : BundleFacts := ⟨⟨true, 1, true, true, 0, 1⟩, ⟨true, 1, true, true, 0, 1⟩, ⟨true, 1, true, true, 0, 1⟩⟩
def admin : State := { up with sec.fuses := 1, sec.sessions := [⟨2, 77, 3, 300, .portA, true, 12345, 1, 2, 5, 9, 0⟩], boot.bankA := some slot1, sec.confirm := some (5, 0) }
/-- A protected request of the Administrator session of `admin`. -/
def secure (p : BitVec 3) (b : Bytes) : ReqCtx :=
  ⟨.portA, 300, p, 9, some ⟨77, 6, groupTag 12345 (tagInput 0 77 6 300 (admin.ownAddress .portA) b)⟩⟩
def num := Claims.numberBody

/-! ## Worked examples of the spec -/

/-- A command answers a next state with a property. -/
def after (i : Instr) (s : State) (p : State → Bool) : Bool := match exec i s with | .next t => p t | _ => false

/-- Chapter 00: the CRC-32 of "123456789", and its bytes as stored. -/
theorem test_crc : crc32 [0x31#8, 0x32#8, 0x33#8, 0x34#8, 0x35#8, 0x36#8, 0x37#8, 0x38#8, 0x39#8] = 0xCBF43926 ∧
    leBytes 4 0xCBF43926 = [0x26#8, 0x39#8, 0xF4#8, 0xCB#8] := by decide +kernel

/-- Chapter 03: a growth of 1.10 % lifts a guard band of 1.00 % to 1.25 %, and 1.05 % leaves that. -/
theorem test_trim : (after (.agingTrim 110) (up.set Obj.clockGuardBand 4) (fun t => t.get Obj.clockGuardBand == 5) &&
    after (.agingTrim 105) (up.set Obj.clockGuardBand 5) (fun t => t.get Obj.clockGuardBand == 5)) = true := by decide +kernel

/-- Chapter 05: SERVICE requested during the change to ACTIVE ends with abort 0x06, detail 0x24, and leaves its trace. -/
theorem test_conflict : conflict 1 4 = (6, 0x24) ∧ (up.noteConflict 0x24 300 1 [0x00#8, 0x18#8, 0x02#8]).bytesOf
    Obj.dictLastStateConflict = [0x00#8, 0x18#8, 0x02#8, 0x24#8, 0x2C#8, 0x01#8, 0x01#8, 0x00#8] := by decide +kernel

/-- Chapter 06: head-end 300 reads Identity.DeviceCode from unit 17; both identifiers and both payloads. -/
theorem test_read_frame :
    mkIdent 4 false 0 300 17 = 0x10096044#29 ∧
    (groupFrames (mkIdent 4 false 0 300 17) 5 false false [0x00#8, 0x10#8, 0x03#8, 0#8]).map (fun f => f.data) =
      [[0x05#8, 0xC0#8, 0x00#8, 0x04#8, 0x00#8, 0x10#8, 0x03#8, 0x00#8]] := by decide +kernel

theorem test_read_reply : after (.read ⟨.portA, 300, 4, 5, none⟩ 0x1000 3) { up with field.effective := 17 } (fun t =>
    match t.q.msgs with
    | [⟨0x84, _, _, _, _, .frame f⟩] => f.ident == 0x11008CB0#29 && f.data == [0x05#8, 0xC0#8, 0x00#8, 0x08#8, 0x00#8, 0x00#8,
        0x00#8, 0x10#8, 0x03#8, 0x03#8, 0x16#8, 0x42#8]
    | _ => false) = true := by decide +kernel

/-- Chapter 07: the low half of HP_ENERGY latches the high half; the high half alone sets TornRead. -/
theorem test_energy :
    let s := up.set Obj.energyTotal 0x1FFFFFFF8
    (after (.hostRead 0x20 4) s (fun t => t.hp.miso.drop 1 == [0xF8#8, 0xFF#8, 0xFF#8, 0xFF#8] &&
      after (.hostRead 0x24 4) (t.set Obj.energyTotal 0x200000005) (fun u => u.hp.miso.drop 1 == [1#8, 0#8, 0#8, 0#8] &&
        !u.bit Obj.hostPortSticky 0)) &&
      after (.hostRead 0x24 4) s (fun t => t.hp.miso.drop 1 == [1#8, 0#8, 0#8, 0#8] && t.bit Obj.hostPortSticky 0)) = true := by
  decide +kernel

/-- Chapters 09 and 10: the group delay of path 5 (D = 8) in Dual and Interleaved, and of path 2 (D = 7). -/
theorem test_delay : groupDelay false 8 = 14705 ∧ groupDelay true 8 + 108 = 14818 ∧ groupDelay false 7 = 7345 := by decide +kernel

/-- Chapter 09: S of path 5 is 29,538 periods, 60.10 µs: suppression ends within the next µs. -/
theorem test_settle : (let s := up.set (Obj.bandDepth 5) 8
    s.settlePeriods 5 == 29538 && (s.startSettle 5).deadline (.settle 5) == some (s.now + 61)) = true := by decide +kernel

/-- Chapter 06: 0xAA in bytes 8 to 15 of Bridge.Route places addresses 32 to 63 behind port B; 0b01 in byte 75 places 300
behind port A. -/
theorem test_routes : (let s := up.set Obj.bridgeRoute (0xAAAAAAAAAAAAAAAA * 256 ^ 8 + 1 * 256 ^ 75)
    (List.range 32).all (fun i => s.routeCode (32 + i) == 2) && s.routeCode 300 == 1 && s.routeCode 31 == 0 &&
      s.routeCode 64 == 0) = true := by decide +kernel

/-! ## The machine -/

/-- The hypotheses of the statements about every step: canonical memories, a step that answers a next state, with and
without a command. -/
theorem witness_machine : up.mems.wf = true ∧ (Instr.wf .brownOut) = true ∧ (Instr.wf (.queuePost 0x80 (List.replicate 65 0#8) false)) = false ∧
    up.pending = [] ∧ (match step { up with pending := [.brownOut] } with
      | .next t => decide (t.power.state = .off) | _ => false) = true := by decide +kernel

/-! ## Conditions on values that a free function gives -/

theorem leBytes_length (k n : Nat) : (leBytes k n).length = k := by
  induction k generalizing n with
  | zero => rfl
  | succ k ih => simp [leBytes, ih]

theorem leNat_leBytes (k n : Nat) : leNat (leBytes k n) = n % 256 ^ k := by
  induction k generalizing n with
  | zero => simp [leBytes, leNat, Nat.mod_one]
  | succ k ih =>
    have h : (byteOf (n % 256)).toNat = n % 256 := Nat.mod_eq_of_lt (Nat.mod_lt _ (by decide))
    rw [leBytes, leNat, ih, h, pow_succ, Nat.mul_comm (256 ^ k) 256, Nat.mod_mul]

/-- A slice that a string holds whole. -/
theorem sliceBytes_middle (a b c : Bytes) : sliceBytes (a ++ b ++ c) a.length b.length = b := by
  simp [sliceBytes, List.append_assoc]

/-- LinkFrames: a Heartbeat with the right tag, and one with a wrong tag. -/
theorem witness_heartbeat_tags (s : State) :
    (∃ p : Bytes, p.length ≤ 64 ∧ fieldAt (sliceBytes p 0 64) 56 8 = s.linkTag ((sliceBytes p 0 64).take 56) ∧
      fieldAt (sliceBytes p 0 64) 0 4 = 9) ∧
    (∃ p : Bytes, p.length ≤ 64 ∧ fieldAt (sliceBytes p 0 64) 56 8 ≠ s.linkTag ((sliceBytes p 0 64).take 56)) := by
  have key : ∀ v : Nat, let p := (9#8 :: List.replicate 55 0#8) ++ leBytes 8 v
      p.length ≤ 64 ∧ fieldAt (sliceBytes p 0 64) 56 8 = v % 256 ^ 8 ∧
        (sliceBytes p 0 64).take 56 = 9#8 :: List.replicate 55 0#8 ∧ fieldAt (sliceBytes p 0 64) 0 4 = 9 := by
    intro v
    refine ⟨by simp [leBytes_length], ?_, rfl, rfl⟩
    rw [← leNat_leBytes]
    rfl
  refine ⟨⟨_, (key (s.linkTag (9#8 :: List.replicate 55 0#8))).1, ?_, (key _).2.2.2⟩, ?_⟩
  · rw [(key _).2.1, (key _).2.2.1]
    exact Nat.mod_eq_of_lt (Nat.mod_lt _ (by decide))
  · by_cases h : s.linkTag (9#8 :: List.replicate 55 0#8) = 0
    · exact ⟨_, (key 1).1, by rw [(key 1).2.1, (key 1).2.2.1, h]; decide⟩
    · exact ⟨_, (key 0).1, by rw [(key 0).2.1, (key 0).2.2.1]; exact fun e => h (e.symm.trans (by decide))⟩

/-- LinkFrames: a Confirm with the right tag, and one with a wrong tag. -/
theorem witness_confirm_tags (s : State) (a b : Bytes) (x y : Nat) :
    (∃ tag : BitVec 128, tag.toNat = s.confirmTag a b x y) ∧ ∃ tag : BitVec 128, tag.toNat ≠ s.confirmTag a b x y := by
  refine ⟨⟨_, rfl⟩, ?_⟩
  by_cases h : s.confirmTag a b x y = 0
  · exact ⟨1, by rw [h]; decide⟩
  · exact ⟨0, fun e => h e.symm⟩

/-- RackingAndHandovers: an image whose CMAC verifies. -/
theorem witness_image (s : State) : ∃ d : Bytes, s.imageOk ⟨3, 0, d, false⟩ 2120 = true := by
  let h : Bytes := List.replicate 16 0#8 ++ leBytes 4 3 ++ List.replicate 36 0#8
  let z : Bytes := List.replicate 2048 0#8
  let m := leBytes 16 (Config.cmac s.twin.linkKey (h ++ z)).toNat
  have hm : m.length = 16 := leBytes_length _ _
  have hh : h.length = 56 := rfl
  have hz : z.length = 2048 := List.length_replicate
  have h56 : sliceBytes (h ++ m ++ z) 56 16 = m := by
    have := sliceBytes_middle h m z
    rwa [hh, hm] at this
  have h0 : sliceBytes (h ++ m ++ z) 0 56 = h := by
    have := sliceBytes_middle [] h (m ++ z)
    rwa [hh, List.nil_append, ← List.append_assoc] at this
  have h72 : (h ++ m ++ z).drop 72 = z := by
    have := List.drop_left (l₁ := h ++ m) (l₂ := z)
    rwa [List.length_append, hh, hm] at this
  have h16 : sliceBytes (h ++ m ++ z) 16 4 = leBytes 4 3 := by
    have := sliceBytes_middle (List.replicate 16 0#8) (leBytes 4 3) (List.replicate 36 0#8 ++ m ++ z)
    rwa [List.length_replicate, leBytes_length, ← List.append_assoc, ← List.append_assoc] at this
  refine ⟨h ++ m ++ z, ?_⟩
  simp only [State.imageOk, ImageSlot.field, fieldAt, h56, h16, h0, h72, leNat_leBytes]
  simp only [List.length_append, hh, hm, hz, Bool.not_false, beq_self_eq_true, Bool.true_and, Bool.and_eq_true, beq_iff_eq]
  exact ⟨rfl, (leNat_leBytes _ _).trans (Nat.mod_eq_of_lt (BitVec.isLt _))⟩


theorem configDigest_slot1 (s : State) (i : ImageSlot) : { s with twin.slot1 := i }.configDigest = s.configDigest := rfl

theorem sliceBytes_length (b : Bytes) (i k : Nat) : (sliceBytes b i k).length = k := by
  simp [sliceBytes]

/-- RackingAndHandovers: a standby with all its ready flags, whose image of generation 3 carries its own digest. -/
def ready : State :=
  let s : State := { (((((up.set Obj.tiuRefWarm 0).set Obj.railSeqState 4).set Obj.railSeqLatchedSlot 0xFF).set
    Obj.twinLinkState 2).set Obj.twinRole 2) with
    twin := { up.twin with enabled := true, characters := true, rxRef := some 6 }, sec.fuses := 1, pins.sealN := true }
  { s with twin.slot1 := ⟨3, 0, List.replicate 24 0#8 ++ s.configDigest, true⟩ }

theorem witness_ready : ready.readyFlags = 0xFF := by
  have hd : ready.digestAgrees = true := by
    have h : ready.bestImage = some ⟨3, 0, List.replicate 24 0#8 ++ ready.configDigest, true⟩ := rfl
    rw [State.digestAgrees, h]
    have := sliceBytes_middle (List.replicate 24 0#8) ready.configDigest []
    rw [List.append_nil, List.length_replicate, show ready.configDigest.length = 32 from sliceBytes_length _ _ _] at this
    simp only [this, beq_self_eq_true, Bool.or_true]
  rw [State.readyFlags, hd]
  decide +kernel

/-- A half-open session of the host. -/
def halfOpen : State := { up with sec.fuses := 1, sec.sessions := [⟨2, 77, 3, 0xFFFF, .host, false, 12345, 1, 2, 0, 0, 0⟩] }
def confirmBody (tag : BitVec 128) : Bytes := [3#8, 0#8, 0#8, 0#8] ++ leBytes 2 77 ++ [0#8, 0#8] ++ leBytes 16 tag.toNat

theorem opened_host (s : State) (b c : Bytes) (hl : b.length = c.length) (hb : earlyAbort 12 b = earlyAbort 12 c) :
    Claims.opened s host 12 0 b = Claims.opened s host 12 0 c := by
  have hr : requestChain 12 b = requestChain 12 c := by simp only [requestChain, hb, if_true]
  have hv : ∀ v : State, v.blocker 12 b = v.blocker 12 c := fun v => by simp only [State.blocker, hr]
  simp only [Claims.opened, Claims.arrived, reqMessage, show host.trailer = none from rfl, show host.via = .host from rfl,
    if_true, hl, hb, hr, hv]

/-- The state at which the confirm of `halfOpen` acts. -/
def confirming : State := (Claims.opened halfOpen host 12 0 (confirmBody 0)).getD up

theorem confirmBody_fields (tag : BitVec 128) : (confirmBody tag).length = 24 ∧ fieldAt (confirmBody tag) 0 1 = 3 ∧
    fieldAt (confirmBody tag) 4 2 = 77 := ⟨rfl, rfl, rfl⟩

/-- PowerKeysSessionsAndDebug: a SessionConfirm of the host with any tag meets the conditions of its clauses. -/
theorem witness_confirm (tag : BitVec 128) :
    Claims.Served (.sessionConfirm host 77 tag) halfOpen host (confirmBody tag) (callerOf host 12 0) confirming := by
  have ha : Claims.opened halfOpen host 12 0 (confirmBody tag) = some confirming := by
    have h : (Claims.opened halfOpen host 12 0 (confirmBody 0)).isSome = true := by decide +kernel
    rw [opened_host halfOpen (confirmBody tag) (confirmBody 0) rfl rfl, confirming]
    cases ha : Claims.opened halfOpen host 12 0 (confirmBody 0) with
    | none => rw [ha] at h; exact absurd h (by decide)
    | some u => rfl
  refine ⟨12, 0, rfl, ?_, fun h => absurd h (by simp [isUpdateSegment]), ?_⟩
  · rw [Claims.entry, ha]
    rfl
  · have hr : confirming.running = true ∧ confirming.power.corkReady = true ∧
        (!confirming.sec.halted.contains CoreId.cork) = true := by decide +kernel
    have hf : confirming.sec.sessions.find? (fun x => !x.isOpen && x.sid == 77 && x.peer == (callerOf host 12 0).dest.peer
        && x.via == (callerOf host 12 0).dest.via) = some ⟨2, 77, 3, 0xFFFF, .host, false, 12345, 1, 2, 0, 0, 0⟩ := by decide +kernel
    have hact : confirming.act (callerOf host 12 0) (confirmBody tag) =
        confirming.sessionConfirm (callerOf host 12 0) 77 (fieldAt (confirmBody tag) 8 16) := by
      show State.serveSession confirming (callerOf host 12 0) (confirmBody tag) = _
      rw [State.serveSession, (confirmBody_fields tag).2.1, (confirmBody_fields tag).2.2, if_neg (by decide), if_pos rfl, if_pos hr]
    rw [hact, Claims.finished, if_neg (by decide), State.sessionConfirm, hf]
    dsimp only
    split
    · decide +kernel
    · split <;> decide +kernel

/-- `entered` is `Claims.entry` for a request whose tag is that of a session key. -/
theorem entered_entry (s : State) (r : ReqCtx) (svc aux : Nat) (b : Bytes) (t : Trailer) (K : Nat) (hr : r.trailer = some t)
    (ht : t.tag = groupTag K (tagInput 0 t.sid.toNat t.counter.toNat (reqPeer r) (s.ownAddress r.via) b))
    (h : (Claims.opened s r svc aux b).all (fun u => u.ownAddress r.via == s.ownAddress r.via &&
      u.sec.sessions.all (fun x => x.key == K)) = true) : Claims.entry s r svc aux b = entered s r svc aux b := by
  unfold Claims.entry entered
  cases ha : Claims.opened s r svc aux b with
  | none => rfl
  | some u =>
    simp only [ha, Option.all_some, Bool.and_eq_true, beq_iff_eq, List.all_eq_true] at h
    simp only [hr]
    cases hf : u.sec.sessions.find? (fun x => x.isOpen && x.sid == t.sid.toNat && x.peer == reqPeer r && x.via == r.via) with
    | none => rfl
    | some x => simp only [h.2 x (List.mem_of_find?_eq_some hf), h.1, ← ht, true_and]

/-- `entered` is `Claims.entry` for a request that is not protected. -/
theorem entered_plain (s : State) (r : ReqCtx) (svc aux : Nat) (b : Bytes) (hr : r.trailer = none) :
    Claims.entry s r svc aux b = entered s r svc aux b := by
  unfold Claims.entry entered
  cases Claims.opened s r svc aux b with
  | none => rfl
  | some u => simp only [hr]

/-- CommandWrites and PowerKeysSessionsAndDebug: the protected requests of the witnesses below are genuine. -/
theorem witness_protected :
    (let b := num Obj.bootRevokeSlot0 1; Claims.entry admin (secure 5 b) 1 0 b = entered admin (secure 5 b) 1 0 b) ∧
    (let b := num Obj.powerStateRequest 4; Claims.entry admin (secure 5 b) 1 0 b = entered admin (secure 5 b) 1 0 b) ∧
    (let b := num Obj.debugRequest 1; let s : State := { admin with power.state := .service }
     Claims.entry s (secure 5 b) 1 0 b = entered s (secure 5 b) 1 0 b) := by
  refine ⟨entered_entry _ _ _ _ _ _ 12345 rfl rfl ?_, entered_entry _ _ _ _ _ _ 12345 rfl rfl ?_,
    entered_entry _ _ _ _ _ _ 12345 rfl rfl ?_⟩ <;> decide +kernel

/-! ## One theorem per statement -/

theorem witness_SupplyCommands :
    ((holds (State.reset) (fun s => decide (s.power.state = .off))) &&
    (holds (({act with sec.sessions := [⟨0,1,1,3,.host,true,1,1,1,1,1,0⟩], pins.railEn := 3, pins.paEn := 1}).arm .warm 3) (fun s => decide (s.power.state ≠ .off ∧ s.nextLog = none ∧ s.cask.vintWork = []))) &&
    (holds (up) (fun s => decide (s.power.state ≠ .off ∧ s.pins.cellsOnAon ≠ true))) &&
    (holds ({ up with pins.cellsOnAon := true, pins.vddioA := false }) (fun s => decide (s.power.state ≠ .off ∧ s.pins.cellsOnAon ≠ false)))) = true := by
  decide +kernel

theorem witness_StartsFromDormant :
    ((holds ((down.set Obj.powerStateLastReason 1).set Obj.powerStateAutoStart 1) (fun s => decide (s.trellisOk = true ∧ s.power.state = .dormant ∧ s.power.trans = none ∧ s.cask.scanned = true ∧ s.get Obj.powerStateLastReason = 1 ∧ s.get Obj.powerStateAutoStart = 1 ∧ s.power.recovery = false ∧ s.get Obj.railSeqLatchedSlot = 0xFF))) &&
    (holds (down.arm .holdupRestart 5) (fun s => decide (s.trellisOk = true ∧ s.power.state = .dormant ∧ s.power.trans = none ∧ s.deadline .holdupRestart = some 5 ∧ s.autoHeld = false))) &&
    (holds (({down with power.startReason := 9}).arm .restartDelay 5) (fun s => decide (s.trellisOk = true ∧ s.power.state = .dormant ∧ s.power.trans = none ∧ s.deadline .restartDelay = some 5))) &&
    (holds ((down.set Obj.powerStateWakeSources 16).arm .wakeTimer 5) (fun s => decide (s.trellisOk = true ∧ s.power.state = .dormant ∧ s.power.trans = none ∧ s.deadline .wakeTimer = some 5 ∧ s.bit Obj.powerStateWakeSources 4 = true ∧ s.autoHeld = false ∧ s.power.recovery = false))) &&
    (holds ({ down.set Obj.powerStateWakeSources 4 with pins.vddioA := true }) (fun s => decide (s.trellisOk = true ∧ s.power.state = .dormant ∧ s.power.trans = none ∧ s.bit Obj.powerStateWakeSources 2 = true ∧ s.pins.vddioA = true ∧ s.pins.canStbA = true ∧ s.pins.canStbB = true ∧ s.autoHeld = false ∧ s.power.recovery = false))) &&
    (holds (down.set Obj.powerStateWakeSources 2) (fun s => decide (s.trellisOk = true ∧ s.power.state = .dormant ∧ s.power.trans = none ∧ s.bit Obj.powerStateWakeSources 1 = true ∧ s.power.recovery = false ∧ s.rail.shutdown = none ∧ s.wd.lockstepBusy = false))) &&
    (holds ((down.set Obj.watchdogLockout 1).set Obj.powerStateWakeSources 0) (fun s => decide (s.trellisOk = true ∧ s.power.state = .dormant ∧ s.power.trans = none ∧ s.bit Obj.powerStateWakeSources 1 = false ∧ s.power.recovery = false ∧ s.rail.shutdown = none ∧ s.wd.lockstepBusy = false)))) = true := by
  decide +kernel

theorem witness_RestartsAndReturns :
    ((holds (up) (fun s => decide (s.running = true ∧ s.power.recovery = false ∧ s.rail.shutdown = none ∧ s.wd.lockstepBusy = false))) &&
    (holds ({ up with rail.shutdown := some ⟨.request, 3, false, false, []⟩ }) (fun s => decide (s.running = true ∧ s.power.recovery = false ∧ s.rail.shutdown.isSome))) &&
    (holds (({ up with power.state := .service, power.touchStart := true }).arm .serviceTimeout 5) (fun s => decide (s.deadline .serviceTimeout = some 5 ∧ s.power.state = .service ∧ s.transition = none ∧ s.eng.commit = none))) &&
    (holds (({ returned with power.state := .service, power.cameFrom := .active }).arm .serviceTimeout 5) (fun s => decide (s.deadline .serviceTimeout = some 5 ∧ s.power.state = .service ∧ s.transition = none ∧ s.eng.commit = none))) &&
    (holds (({ up with power.state := .service, power.cameFrom := .active, sec.fuses := 1 }).arm .serviceTimeout 5) (fun s => decide (s.deadline .serviceTimeout = some 5 ∧ s.power.state = .service ∧ s.transition = none ∧ s.eng.commit = none))) &&
    (holds (committing ({ up with power.state := .service }.arm .serviceTimeout 5)) (fun s => decide (s.eng.commit.isSome = true))) &&
    (holds ({ up with feed.report := true, pins.railEn := 3 }) (fun s => decide (s.feed.report = true ∧ s.wd.lockstepBusy = false ∧ s.pins.railEn ≠ 0 ∧ s.power.state ≠ .holdup))) &&
    (holds ({ up with power.state := .holdup }) (fun s => decide (s.power.state = .holdup ∧ (∀ n ∈ slots, s.railLive n = false) ∧ s.cask.own = [] ∧ s.power.restartPending = false)))) = true := by
  decide +kernel

theorem witness_ReferenceAndRelock :
    ((holds ({ up with power.refSeen := false, power.refPresent := false }) (fun s => decide (s.power.coreReleased = true ∧ s.power.refSeen = false))) &&
    (holds ({ act with power.refPresent := false }) (fun s => decide (s.power.coreReleased = true ∧ s.power.refSeen = true ∧ s.power.refPresent = false))) &&
    (holds (up) (fun s => decide (s.power.coreReleased = true ∧ s.power.refSeen = true ∧ s.power.refPresent = true))) &&
    (holds (act) (fun s => decide (s.power.coreReleased = true ∧ s.power.refSeen = true ∧ s.power.refPresent = true))) &&
    (holds (up.arm .linkHoldover 5) (fun s => decide (s.deadline .linkHoldover = some 5))) &&
    (holds (act) (fun s => decide (s.power.coreReleased = true ∧ s.power.refPresent = true ∧ s.get Obj.clockSamplePllLocked = 1))) &&
    (holds ({ up with power.pllLocked := false }) (fun s => decide (s.power.pressReady = true ∧ s.power.refPresent = true ∧ s.power.pllLocked = false))) &&
    (holds ({ (up.set Obj.clockSamplePllLocked 0).set (Obj.bandEnable 2) 1 with conv.noWindow := [1,2] }) (fun s => decide (s.power.pressReady = true ∧ s.power.pllLocked = true ∧ s.power.refPresent = true ∧ s.get Obj.clockSamplePllLocked = 0))) &&
    (holds (({ up with power.relockTarget := 240 }).arm .relock 1000) (fun s => decide (s.armed .relock = true ∧ lockWindow s.power.relockTarget 4776 ∧ lockWindow s.power.relockTarget 4824))) &&
    (holds ({ up with power.relockLocked := true }) (fun s => decide (s.power.relockLocked = true ∧ s.power.trans ≠ some ⟨.relock, .active⟩))) &&
    (holds ({ up with power.relockLocked := true, power.trans := some ⟨.relock, .active⟩ }) (fun s => decide (s.power.relockLocked = true ∧ s.power.trans = some ⟨.relock, .active⟩))) &&
    (holds (act.arm .relock 5) (fun s => decide (s.deadline .relock = some 5 ∧ s.rail.shutdown = none ∧ s.power.relockRetry = false ∧ s.eng.commit = none))) &&
    (holds (up.arm .relock 5) (fun s => decide (s.deadline .relock = some 5 ∧ s.rail.shutdown = none ∧ s.power.relockRetry = false ∧ s.eng.commit = none))) &&
    (holds (({ act with power.trans := some ⟨.relock, .active⟩ }).arm .relock 5) (fun s => decide (s.deadline .relock = some 5 ∧ s.rail.shutdown = none ∧ s.power.relockRetry = false ∧ s.eng.commit = none))) &&
    (holds (({ act with power.relockRetry := true }).arm .relock 5) (fun s => decide (s.deadline .relock = some 5 ∧ s.rail.shutdown = none ∧ s.power.relockRetry = true))) &&
    (holds (({ act with rail.shutdown := some ⟨.request, 3, false, false, []⟩ }).arm .relock 5) (fun s => decide (s.deadline .relock = some 5 ∧ s.rail.shutdown = some ⟨.request, 3, false, false, []⟩))) &&
    (holds (up.arm .relockRetry 5) (fun s => decide (s.deadline .relockRetry = some 5 ∧ s.rail.shutdown = none)))) = true := by
  decide +kernel

theorem witness_StretchWatchdogsAndLockstep :
    ((holds (up) (fun s => decide (s.power.coreReleased = true ∧ s.power.stretchAt = none))) &&
    (holds ({ up with power.stretchAt := some 0, time.nowUs := 70 }) (fun s => decide (s.power.stretchAt = some 0))) &&
    (holds (({ act with power.stretchAt := some 0 }).arm .stretchLong 1000) (fun s => decide (s.deadline .stretchLong = some 1000 ∧ s.power.stretchAt = some 0))) &&
    (holds (up) (fun s => decide (s.power.state ≠ .off ∧ s.power.coreReleased = true ∧ s.get Obj.clockNextTrim ≤ s.get Obj.powerStateCoreSeconds))) &&
    (holds (act.arm (.watchdog .press) 5) (fun s => decide (s.wd.lockstepBusy = false ∧ s.deadline (.watchdog .press) = some 5))) &&
    (holds (({ up with wd.expiries := [] }).arm (.watchdog .cork) 5) (fun s => decide (s.wd.lockstepBusy = false ∧ s.deadline (.watchdog .cork) = some 5))) &&
    (holds (({ up with wd.expiries := [(.press,0),(.press,1)] }).arm (.watchdog .cork) 5) (fun s => decide (s.wd.lockstepBusy = false ∧ s.deadline (.watchdog .cork) = some 5))) &&
    (holds (({ up with wd.expiries := [(.cork,0),(.cork,1)] }).arm (.watchdog .cork) 5) (fun s => decide (s.wd.lockstepBusy = false ∧ s.deadline (.watchdog .cork) = some 5))) &&
    (holds (up.arm (.watchdog .vintner) 5) (fun s => decide (s.wd.lockstepBusy = false ∧ s.deadline (.watchdog .vintner) = some 5))) &&
    (holds ({ act with pins.railEn := 7 }) (fun s => decide (s.power.state ≠ .off ∧ s.wd.lockstepBusy = false))) &&
    (holds (({ up with wd.lockstepBusy := true, wd.lockstepInfo := some (1,2) }).arm .lockstepRecovery 5) (fun s => decide (s.deadline .lockstepRecovery = some 5 ∧ s.wd.lockstepBusy = true)))) = true := by
  decide +kernel

theorem witness_BootCommands :
    ((holds ({ up with power.corkReady := false }) (fun s => decide (s.power.coreReleased = true ∧ s.power.corkReady = false ∧ s.power.recovery = false))) &&
    (holds ({ down with power.coreReleased := true }) (fun s => decide (s.power.coreReleased = true ∧ s.power.corkReady = false ∧ s.power.recovery = false ∧ (s.bundleFault (s.bankFacts 0)).isSome ∧ (s.bundleFault (s.bankFacts 1)).isSome ∧ s.power.state = .dormant))) &&
    (holds (down) (fun s => decide (s.power.state = .dormant ∧ s.power.trans = none ∧ s.power.recovery = false))) &&
    (holds ({ down with cfg.journal := [(Obj.fieldSegmentA, 3)], cfg.marker := true }) (fun s => decide (s.power.state = .dormant ∧ s.power.trans = none ∧ s.power.recovery = false))) &&
    (holds ({ up with power.pressReady := false, power.vintReady := false }) (fun s => decide (s.power.coreReleased = true ∧ s.power.corkReady = true ∧ s.power.pressReady = false ∧ s.power.vintReady = false ∧ s.power.trans = none))) &&
    (holds ({ down with power := { up.power with state := .dormant, pressReady := false, vintReady := false, trans := some ⟨.start, .standby⟩ } }) (fun s => decide (s.power.coreReleased = true ∧ s.power.corkReady = true ∧ s.power.pressReady = false ∧ s.power.vintReady = false ∧ s.starting = true ∧ s.rail.coresReadyAt = none))) &&
    (holds (({ up with boot.bankA := some ⟨⟨true, 0, true, true, 0, 1⟩, ⟨true, 0, true, true, 0, 1⟩, ⟨true, 0, true, true, 0, 1⟩⟩ }).arm .bundleConfirm 5) (fun s => decide (s.deadline .bundleConfirm = some 5 ∧ s.boot.bank s.boot.running = some ⟨⟨true, 0, true, true, 0, 1⟩, ⟨true, 0, true, true, 0, 1⟩, ⟨true, 0, true, true, 0, 1⟩⟩))) &&
    (holds (up.arm .counterWriteback 5) (fun s => decide (s.deadline .counterWriteback = some 5)))) = true := by
  decide +kernel

theorem witness_LifecycleTransitionBlowsFuses :
    ((holds (({ up with sec.lcTrans := some ⟨0, 1, 0⟩, power.trans := some ⟨.lifecycle, .dormant⟩ }).arm .lifecycleDone 5) (fun s => decide (s.deadline .lifecycleDone = some 5 ∧ s.sec.lcTrans = some ⟨0, 1, 0⟩)))) = true := by
  decide +kernel

theorem witness_SessionTimersEntropyAndReceipts :
    ((holds (({ up with sec.sessions := [⟨3, 77, 2, 300, .portA, false, 5, 1, 2, 5, 9, 0⟩] }).arm (.handshake 3) 5) (fun s => decide (s.deadline (.handshake 3) = some 5 ∧ s.sec.sessions.find? (fun y => y.slot == 3 && !y.isOpen) = some ⟨3, 77, 2, 300, .portA, false, 5, 1, 2, 5, 9, 0⟩))) &&
    (holds (({ up with sec.sessions := [⟨3, 77, 2, 300, .portA, true, 5, 1, 2, 5, 9, 0⟩] }).arm (.sessionIdle 3) 5) (fun s => decide (s.deadline (.sessionIdle 3) = some 5))) &&
    (holds (({ up with sec.sessions := [⟨3, 77, 2, 300, .portA, true, 5, 1, 2, 5, 9, 0⟩] }).arm (.sessionLife 3) 5) (fun s => decide (s.deadline (.sessionLife 3) = some 5))) &&
    (holds ((up.set Obj.sessionRoleLockout 4).arm (.roleLockout 2) 5) (fun s => decide (s.deadline (.roleLockout 2) = some 5))) &&
    (holds (up) (fun s => decide (s.power.corkReady = true ∧ s.sec.entropyFailed = false))) &&
    (holds (({ up with sec.entropyFailed := true }).arm .entropyRetest 5) (fun s => decide (s.deadline .entropyRetest = some 5))) &&
    (holds (({ up with sec.entropyFailed := true, net.unsigned := [3], sec.kwk := some 5, sec.keyStore := [⟨rskEntry, 1, rskEntry, 5, 4, true⟩] }).arm .entropyRetest 5) (fun s => decide (s.deadline .entropyRetest = some 5))) &&
    (holds (({ up with net.signing := some 3, sec.kwk := some 5, sec.keyStore := [⟨rskEntry, 1, rskEntry, 5, 4, true⟩], net.unsigned := [4] }).arm .receiptSign 5) (fun s => decide (s.armed .receiptSign = true ∧ s.net.signing = some 3))) &&
    (holds (({ up with net.signing := some 3, sec.kwk := some 5, sec.keyStore := [⟨rskEntry, 1, rskEntry, 5, 4, true⟩] }).arm .receiptSign 5) (fun s => decide (s.deadline .receiptSign = some 5 ∧ s.net.signing = some 3)))) = true := by
  decide +kernel

theorem witness_IdcodeReads :
    ((holds (up.set Obj.identityDieRevision 11) (fun s => decide (s.tapUp = true)))) = true := by
  decide +kernel

theorem witness_TestAccessPort :
    ((holds (up) (fun s => decide (s.tapUp = true ∧ s.get Obj.debugLevel = 0))) &&
    (holds (up.set Obj.debugLevel 1) (fun s => decide (s.tapUp = true ∧ s.get Obj.debugLevel ≠ 0))) &&
    (holds (returned.set Obj.debugLevel 2) (fun s => decide (s.tapUp = true ∧ 2 ≤ s.get Obj.debugLevel ∧ s.lifecycle = 3))) &&
    (holds ((up.set Obj.debugLevel 2)) (fun s => decide (s.tapUp = true ∧ 2 ≤ s.get Obj.debugLevel ∧ s.lifecycle = 0))) &&
    (holds ({ up with sec.fuses := 1 }) (fun s => decide (s.tapUp = true ∧ ¬ (2 ≤ s.get Obj.debugLevel ∧ (s.lifecycle = 0 ∨ s.lifecycle = 3)))))) = true := by
  decide +kernel

theorem witness_DebugHalts :
    ((holds (act.set Obj.debugLevel 2) (fun s => decide (s.mayHalt .press = true))) &&
    (holds ((act.set Obj.debugLevel 2).arm (.watchdog .vintner) 3) (fun s => decide (s.mayHalt .vintner = true))) &&
    (holds ({ up.set Obj.debugLevel 2 with sec.halted := [.cork, .press] }) (fun s => decide (CoreId.cork ∈ s.sec.halted ∧ s.get Obj.debugLevel = 2))) &&
    (holds (({ up.set Obj.debugLevel 2 with sec.halted := [.cork, .press] }).arm .debugEnd 5) (fun s => decide (s.deadline .debugEnd = some 5 ∧ s.get Obj.debugLevel ≠ 0)))) = true := by
  decide +kernel

theorem witness_StoreAndUpdateEvents :
    ((holds (({ up with eng.stages := [⟨.host, [(Obj.fieldSegmentA, 3)]⟩] }).arm (.stage .host) 5) (fun s => decide (s.deadline (.stage .host) = some 5))) &&
    (holds (up) (fun s => decide (s.eng.commit = none))) &&
    (holds (({ up with eng.commit := some (⟨(⟨none, none, 0, false, ⟨.host, 0xFFFF, 0xFFFF, 0, 9, 1, none⟩⟩ : Caller), (.write 0x1100 3), none, 1, [(Obj.fieldSegmentA, 3)], [], true, false, 0, [], [], [], [], [], false⟩ : CommitRun) }).arm .commitDefer 5) (fun s => decide (s.deadline .commitDefer = some 5 ∧ s.eng.commit = some (⟨(⟨none, none, 0, false, ⟨.host, 0xFFFF, 0xFFFF, 0, 9, 1, none⟩⟩ : Caller), (.write 0x1100 3), none, 1, [(Obj.fieldSegmentA, 3)], [], true, false, 0, [], [], [], [], [], false⟩ : CommitRun) ∧ ((⟨(⟨none, none, 0, false, ⟨.host, 0xFFFF, 0xFFFF, 0, 9, 1, none⟩⟩ : Caller), (.write 0x1100 3), none, 1, [(Obj.fieldSegmentA, 3)], [], true, false, 0, [], [], [], [], [], false⟩ : CommitRun)).answered = false ∧ ((⟨(⟨none, none, 0, false, ⟨.host, 0xFFFF, 0xFFFF, 0, 9, 1, none⟩⟩ : Caller), (.write 0x1100 3), none, 1, [(Obj.fieldSegmentA, 3)], [], true, false, 0, [], [], [], [], [], false⟩ : CommitRun)).form ≠ .none))) &&
    (holds ({ up with q.msgs := [⟨8, 1, false, 1, 0, .raw []⟩], upd := ⟨100, [⟨some (⟨none, none, 0, false, ⟨.host, 0xFFFF, 0xFFFF, 0, 9, 1, none⟩⟩ : Caller), 0, [1#8, 2#8], false⟩]⟩ }) (fun s => decide (s.headOf 0x08 = some ⟨8, 1, false, 1, 0, .raw []⟩))) &&
    (holds (up.set Obj.updateState 2) (fun s => decide (s.running = true ∧ s.get Obj.updateState = 2))) &&
    (holds (up.set Obj.updateState 2) (fun s => decide (s.running = true ∧ s.get Obj.updateState = 2 ∧ (s.bundleFault (s.bankFacts s.targetBank)).isSome))) &&
    (holds (({ up with blockWrites := [⟨300, 0x1000, 1, false, 5, 20, [1#8]⟩, ⟨301, 0x1000, 1, false, 5, 20, [1#8]⟩] }).arm (.block 300 true) 5) (fun s => decide (s.deadline (.block 300 true) = some 5))) &&
    (holds (({ up with blockReads := [⟨300, 0x1000, 1, false, 5, 20, [1#8]⟩, ⟨301, 0x1000, 1, false, 5, 20, [1#8]⟩] }).arm (.block 300 false) 5) (fun s => decide (s.deadline (.block 300 false) = some 5)))) = true := by
  decide +kernel

theorem witness_VerifiedWriteAppliesCommit :
    ((holds ({ down with eng.commit := some (⟨(⟨none, none, 0, false, ⟨.host, 0xFFFF, 0xFFFF, 0, 9, 1, none⟩⟩ : Caller), (.write 0x1100 3), none, 1, [(Obj.fieldSegmentA, 3)], [], false, false, 0, [], [], [], [], [], false⟩ : CommitRun) }) (fun s => decide (s.cfg.writeFailed = false ∧ s.eng.commit.isSome ∧ s.running = false))) &&
    (holds ({ up with eng.commit := some (⟨(⟨none, none, 0, false, ⟨.host, 0xFFFF, 0xFFFF, 0, 9, 1, none⟩⟩ : Caller), .none, none, 1, [(Obj.fieldSegmentA, 3)], [], false, false, 0, [], [], [], [], [], false⟩ : CommitRun) }) (fun s => decide (s.cfg.writeFailed = false ∧ s.eng.commit.isSome)))) = true := by
  decide +kernel

theorem witness_FramesReceived :
    ((holds (up) (fun s => decide (s.portUp .a = true ∧ s.vintServes = true))) &&
    (holds (up) (fun s => decide (s.portUp .a = true ∧ s.vintServes = true ∧ ((⟨(mkIdent 4 false 0 300 5), true, true, false, true, false, false, [9#8, 0xC0#8, 0#8, 4#8, 0#8, 0x10#8, 1#8, 0#8]⟩ : CanFrame)).ident.toNat % 4 = 0 ∧ frameSrc ((⟨(mkIdent 4 false 0 300 5), true, true, false, true, false, false, [9#8, 0xC0#8, 0#8, 4#8, 0#8, 0x10#8, 1#8, 0#8]⟩ : CanFrame)).ident ≠ s.field.effective ∧ frameBcast ((⟨(mkIdent 4 false 0 300 5), true, true, false, true, false, false, [9#8, 0xC0#8, 0#8, 4#8, 0#8, 0x10#8, 1#8, 0#8]⟩ : CanFrame)).ident = false ∧ frameSvc ((⟨(mkIdent 4 false 0 300 5), true, true, false, true, false, false, [9#8, 0xC0#8, 0#8, 4#8, 0#8, 0x10#8, 1#8, 0#8]⟩ : CanFrame)).ident < 13 ∧ prioOk (frameSvc ((⟨(mkIdent 4 false 0 300 5), true, true, false, true, false, false, [9#8, 0xC0#8, 0#8, 4#8, 0#8, 0x10#8, 1#8, 0#8]⟩ : CanFrame)).ident) (framePrio ((⟨(mkIdent 4 false 0 300 5), true, true, false, true, false, false, [9#8, 0xC0#8, 0#8, 4#8, 0#8, 0x10#8, 1#8, 0#8]⟩ : CanFrame)).ident) = true ∧ (s.bump (Obj.portRxFrames 0) 1).forwards .a (⟨(mkIdent 4 false 0 300 5), true, true, false, true, false, false, [9#8, 0xC0#8, 0#8, 4#8, 0#8, 0x10#8, 1#8, 0#8]⟩ : CanFrame) = false ∧ (s.bump (Obj.portRxFrames 0) 1).isLocal (⟨(mkIdent 4 false 0 300 5), true, true, false, true, false, false, [9#8, 0xC0#8, 0#8, 4#8, 0#8, 0x10#8, 1#8, 0#8]⟩ : CanFrame) = true))) &&
    (holds (({ up with field.reasm := [(⟨.a, (mkIdent 4 false 0 300 5), 9, 1, false, 0, [0#8], [], 0x48, 1⟩ : Reasm)] }).arm (.reassembly .a 300) 5) (fun s => decide (s.deadline (.reassembly .a 300) = some 5 ∧ (Claims.expired s (.reassembly .a 300) 5).groupFrom 300 = some (⟨.a, (mkIdent 4 false 0 300 5), 9, 1, false, 0, [0#8], [], 0x48, 1⟩ : Reasm)))) &&
    (holds up (fun _ => decide (((⟨.portA, 300, 2, 9, none⟩ : ReqCtx)).wf = true ∧ ((⟨.portA, 300, 2, 9, none⟩ : ReqCtx)).via ≠ .host))) &&
    (holds (up) (fun s => decide (s.vintServes = true)))) = true := by
  decide +kernel

theorem witness_PresenceFollowsHeartbeats :
    ((holds (up) (fun s => decide (s.portUp .a = true ∧ s.vintServes = true ∧ s.unassigned = false ∧ 511 ≠ s.field.effective))) &&
    (holds ((up.set Obj.fieldNodePresent 7).arm (.offline 1) 5) (fun s => decide (s.deadline (.offline 1) = some 5)))) = true := by
  decide +kernel

theorem witness_BusOffWait :
    ((holds ({ up with field.portA.joinedAt := 0, field.portA.waitFactor := 48, time.nowUs := 5 }) (fun s => decide (s.portUp .a = true))) &&
    (holds ({ up with field.portA.joinedAt := 10, field.portA.waitFactor := 48, time.nowUs := 60000010 }) (fun s => decide (s.portUp .a = true))) &&
    (holds ({ up with field.portA.joinedAt := 10, field.portA.waitFactor := 48, time.nowUs := 60000011 }) (fun s => decide (s.portUp .a = true))) &&
    (holds (((up.set (Obj.portState 0) 5).set Obj.clockCoreSource 1).arm (.busOffHoldoff .a) 5) (fun s => decide (s.deadline (.busOffHoldoff .a) = some 5 ∧ s.portOn .a = true ∧ s.armed (.stuckRejoin .a) = false ∧ s.get Obj.clockCoreSource ≠ 0))) &&
    (holds ({ up.set (Obj.portState 0) 2 with field.portA.rejoining := true, time.nowUs := 9, field.portA.waitFactor := 4 }) (fun s => decide (s.portState .a = 2 ∧ (s.portEng .a).rejoining = true ∧ s.now ≠ 0))) &&
    (holds (({ up with field.portB.waitFactor := 8 }).arm (.busOffWait .b) 5) (fun s => decide (s.deadline (.busOffWait .b) = some 5)))) = true := by
  decide +kernel

theorem witness_PortsSend :
    ((holds ({ up with q.msgs := [(⟨0x84, 1, false, 1, 0, .frame (⟨(mkIdent 4 false 16 5 300), true, true, false, true, false, false, [1#8]⟩ : CanFrame)⟩ : QMsg)] }) (fun s => decide (s.portUp .a = true ∧ lowestFrame (s.txHeads .a) = some (0x84, (⟨(mkIdent 4 false 16 5 300), true, true, false, true, false, false, [1#8]⟩ : CanFrame)) ∧ (s.portEng .a).refusals = []))) &&
    (holds ({ up with q.msgs := [(⟨0x84, 1, false, 1, 0, .frame (⟨(mkIdent 4 false 16 5 300), true, true, false, true, false, false, [1#8]⟩ : CanFrame)⟩ : QMsg)], field.portA.refusals := [⟨(⟨(mkIdent 4 false 16 5 300), true, true, false, true, false, false, [1#8]⟩ : CanFrame), 0⟩] }) (fun s => decide (s.portUp .a = true ∧ lowestFrame (s.txHeads .a) = some (0x84, (⟨(mkIdent 4 false 16 5 300), true, true, false, true, false, false, [1#8]⟩ : CanFrame)) ∧ (s.portEng .a).refusals = [⟨(⟨(mkIdent 4 false 16 5 300), true, true, false, true, false, false, [1#8]⟩ : CanFrame), 0⟩]))) &&
    (holds ((({ up with q.msgs := [(⟨0x84, 1, false, 1, 0, .frame (⟨(mkIdent 4 false 16 5 300), true, true, false, true, false, false, [1#8]⟩ : CanFrame)⟩ : QMsg)] }).set Obj.queueTxLifetime 20).arm (.txLife .a 0x84) 20000) (fun s => decide (s.deadline (.txLife .a 0x84) = some 20000 ∧ (s.headOf 0x84).any (fun m => decide (m.at_ + 1000 * s.get Obj.queueTxLifetime ≤ max s.now 20000))))) &&
    (holds (up.arm (.heartbeat .a) 5) (fun s => decide (s.deadline (.heartbeat .a) = some 5 ∧ s.portUp .a = true ∧ s.unassigned = false ∧ s.vintServes = true))) &&
    (holds (({ up with field.locate := [⟨5, .a, 300, 9, 100, 0⟩] }).arm .locateReply 5) (fun s => decide (s.deadline .locateReply = some 5)))) = true := by
  decide +kernel

theorem witness_PortFaults :
    ((holds (up.arm (.busOffWait .a) 5) (fun s => decide (s.portState .a = 3))) &&
    (holds (up.set (Obj.portState 1) 2) (fun s => decide (s.portUp .b = true ∨ s.portState .b = 2))) &&
    (holds (((up.set (Obj.portState 0) 1).set Obj.clockCoreSource 1).arm (.stuckRejoin .a) 5) (fun s => decide (s.deadline (.stuckRejoin .a) = some 5 ∧ s.portOn .a = true ∧ s.armed (.busOffHoldoff .a) = false ∧ s.get Obj.clockCoreSource ≠ 0))) &&
    (holds (up.arm .restricted 5) (fun s => decide (s.deadline .restricted = some 5))) &&
    (holds (up.set (Obj.portState 0) 2) (fun s => decide (s.portState .a = 2 ∧ s.unassigned = false ∧ (s.portEng .a).rejoining = false)))) = true := by
  decide +kernel

theorem witness_WidePairsReadTogether :
    ((holds (up) (fun s => decide (s.vintServes = true))) &&
    (holds ({ up with hp.latchUtc := some 9 }) (fun s => decide (s.vintServes = true ∧ s.latch .utc = some 9))) &&
    (holds (up) (fun s => decide (s.vintServes = true ∧ s.latch .utc = none)))) = true := by
  decide +kernel

theorem witness_HostReadsAndWrites :
    ((holds (up) (fun s => decide (s.power.state ≠ .off))) &&
    (holds (up) (fun s => decide (s.power.state ≠ .off ∧ s.vintServes = true ∧ s.power.recovery = false))) &&
    (holds (up) (fun s => decide (s.power.state ≠ .off ∧ (5#8 : Byte) ∉ [0x03#8, 0x02#8, 0x0B#8, 0xAB#8]))) &&
    (holds ({ up with hp.irqStatus := 7 }) (fun s => decide (s.power.state ≠ .off ∧ s.vintServes = true))) &&
    (holds (up.set Obj.hostPortSticky 7) (fun s => decide (s.power.state ≠ .off ∧ s.vintServes = true)))) = true := by
  decide +kernel

theorem witness_MailboxExchanges :
    ((holds (up) (fun s => decide (s.vintServes = true ∧ s.hp.busy = false ∧ s.hp.outstanding = false ∧ s.hp.ready = false))) &&
    (holds ({ up with hp.busy := true }) (fun s => decide (s.vintServes = true ∧ s.hp.busy = true))) &&
    (holds (up) (fun s => decide (s.vintServes = true ∧ s.hp.busy = false ∧ s.hp.outstanding = false))) &&
    (holds ({ up with q.msgs := [(⟨0x86, 1, false, 1, 0, .mail [0x10#8, 9#8, 0#8, 0#8, 0#8, 0#8, 0#8, 0#8]⟩ : QMsg)] }) (fun s => decide (s.vintServes = true ∧ s.hp.ready = false ∧ s.nextReply = some (⟨0x86, 1, false, 1, 0, .mail [0x10#8, 9#8, 0#8, 0#8, 0#8, 0#8, 0#8, 0#8]⟩ : QMsg)))) &&
    (holds ({ up with hp.ready := true, hp.rspFinal := true, hp.outstanding := true }) (fun s => decide (s.vintServes = true ∧ s.hp.ready = true ∧ s.hp.rspFinal = true ∧ s.hp.busy = false)))) = true := by
  decide +kernel

theorem witness_WakeAndRecovery :
    ((holds ((down.set Obj.powerStateWakeSources 8).set Obj.watchdogLockout 1) (fun s => decide (s.trellisOk = true ∧ s.power.state = .dormant ∧ s.power.trans = none ∧ s.power.recovery = false ∧ s.bit Obj.powerStateWakeSources 3 = true))) &&
    (holds ({ down with power.recovery := true, mems.rcv := [(0, 7#8), (4095, 9#8)] }) (fun s => decide (s.power.recovery = true)))) = true := by
  decide +kernel

theorem witness_PostsNeedCredits :
    ((holds ({ up with q.msgs := [⟨0x84, 15, false, 1, 0, .raw []⟩] }) (fun s => decide (0 < qDepth 0x84 ∧ 1 ≤ s.credits 0x84))) &&
    (holds ({ up with q.msgs := [⟨0x84, 16, false, 1, 0, .raw []⟩] }) (fun s => decide (s.credits 0x84 < 1 ∧ s.escapeTaken (qClass 0x84) = false))) &&
    (holds ({ up with q.msgs := [⟨0x84, 16, false, 1, 0, .raw []⟩, ⟨0x84, 1, true, 1, 0, .raw []⟩] }) (fun s => decide (s.credits 0x84 < 1 ∧ s.escapeTaken (qClass 0x84) = true))) &&
    (holds ({ up with q.msgs := [⟨0x84, 16, false, 1, 0, .raw []⟩] }) (fun s => decide (s.credits 0x84 < 1))) &&
    (holds ({ up with q.handling := true }) (fun s => decide (s.q.handling = true ∧ s.postAs .fresh = .derived))) &&
    (holds ({ up with q.msgs := [⟨0x20, 8, false, 1, 0, .raw []⟩], q.waits := [⟨.latch 1, ⟨0x20, 1, false, 1, 0, .raw []⟩⟩] }) (fun s => decide (s.credits 0x20 < 1 ∧ ∃ w ∈ s.q.waits, w.isLatch 0x20 = true)))) = true := by
  decide +kernel

theorem witness_ConsumersServeInOrder :
    ((holds ({ up with q.msgs := [⟨0x48, 1, false, 1, 0, .raw []⟩, ⟨0xF0, 1, false, 1, 0, .raw []⟩, ⟨0x18, 1, false, 1, 0, .raw []⟩], q.passed := [], q.turns := [] }) (fun s => decide ((s.nextServed (consumerOf 0x48)).isSome ∨ (s.nextServed (consumerOf 0xF0)).isSome))) &&
    (holds ({ up with q.msgs := [⟨0x48, 1, false, 1, 0, .raw []⟩, ⟨0x18, 1, false, 1, 0, .raw []⟩], q.passed := [(0x18, 256)], q.turns := [] }) (fun s => decide (s.nextServed (consumerOf 0x48) = some 0x18))) &&
    (holds ({ up with q.msgs := [⟨0x48, 1, false, 1, 0, .raw []⟩, ⟨0x49, 1, false, 1, 0, .raw []⟩], q.passed := [], q.turns := [] }) (fun s => decide (s.nextServed (consumerOf 0x48) = some 0x48))) &&
    (holds ({ up with q.msgs := [⟨0x48, 1, false, 1, 0, .raw []⟩, ⟨0x49, 1, false, 1, 0, .raw []⟩], q.turns := [(8 * consumerOf 0x48 + qClass 0x48, 0x48)] }) (fun s => decide (s.nextServed (consumerOf 0x48) = some 0x49 ∧ s.lastServed (consumerOf 0x48) (qClass 0x49) = some 0x48))) &&
    (holds ({ up with q.msgs := [⟨0x48, 1, false, 1, 0, .raw []⟩, ⟨0x49, 1, false, 1, 0, .raw []⟩], q.turns := [(8 * consumerOf 0x48 + qClass 0x48, 0x49)] }) (fun s => decide (s.nextServed (consumerOf 0x48) = some 0x48 ∧ s.lastServed (consumerOf 0x48) (qClass 0x48) = some 0x49 ∧ ∀ x ∈ s.served (consumerOf 0x48), qClass x = qClass 0x48 → x ≤ 0x49)))) = true := by
  decide +kernel

theorem witness_QueueCommands :
    ((holds ({ up with q.msgs := [⟨0x08, 15, false, 1, 0, .raw []⟩] }) (fun s => decide (s.power.state ≠ .off ∧ 0 < qDepth 8 ∧ 1 ≤ s.credits 8 ∧ s.standsBehind (s.postAs (postKind 8 false)) 8 = false ∧ isTxQueue 8 = false))) &&
    (holds ({ up with q.msgs := [⟨0x50, 1, false, 1, 0, .raw []⟩, ⟨0xC0, 1, false, 1, 0, .raw [0#8]⟩] }) (fun s => decide (s.power.state ≠ .off ∧ (s.headOf 0xC0).isSome = true ∧ isTxQueue 0xC0 = false ∧ consumerOf 0xC0 ≠ 6 ∧ s.nextServed (consumerOf 0xC0) = some 0xC0))) &&
    (holds (({ up with eng.held := [(⟨(⟨none, none, 0, false, ⟨.portA, 300, 0xFFFF, 4, 9, 0, none⟩⟩ : Caller), none, [0#8, 0x10#8, 1#8, 0#8], 0x4B, 0, false⟩ : Held)] }).arm (.defer 300 9) 5) (fun s => decide (s.deadline (.defer 300 9) = some 5 ∧ (s.eng.held.find? (fun h => (h.caller.dest.peer == 300 && h.caller.dest.tid == 9) && !h.answered)).isSome))) &&
    (holds (({ up with eng.held := [(⟨(⟨none, none, 0, false, ⟨.portA, 300, 0xFFFF, 4, 9, 0, none⟩⟩ : Caller), none, [0#8, 0x10#8, 1#8, 0#8], 0x4B, 0, true⟩ : Held)] }).arm (.deferLimit 300 9) 5) (fun s => decide (s.deadline (.deferLimit 300 9) = some 5 ∧ (s.eng.held.find? (fun h => h.answered && h.caller.dest.peer == 300 && h.caller.dest.tid == 9)).isSome))) &&
    (holds (({ up with field.portA.refusals := [⟨(⟨(mkIdent 4 false 16 5 300), true, true, false, true, false, false, [1#8]⟩ : CanFrame), 0⟩, ⟨(⟨(mkIdent 4 false 16 5 300), true, true, false, true, false, false, [1#8]⟩ : CanFrame), 7⟩] }).arm (.refusal .a) 5) (fun s => decide (s.deadline (.refusal .a) = some 5 ∧ (s.portEng .a).refusals.length = 2))) &&
    (holds ({ up with q.msgs := [⟨0x08, 3, false, 1, 0, .raw []⟩] }) (fun s => decide (s.power.state ≠ .off ∧ 7 ≠ qDepth 8))) &&
    (holds (({ up with q.msgs := [⟨0x84, 1, true, 1, 0, .raw []⟩] }).arm (.escape 4) 5) (fun s => decide (s.deadline (.escape 4) = some 5 ∧ (s.q.msgs.find? (fun m => m.escape && qClass m.queue == 4)).isSome))) &&
    (holds ({ (up.set Obj.fieldNotifyMask 255).set Obj.fieldNotifyDest 300 with q.msgs := [⟨0x1E, 1, false, 1, 0, .raw [2#8]⟩, ⟨0x1A, 16, false, 1, 0, .raw []⟩, ⟨0x1B, 1, true, 1, 0, .raw []⟩] }) (fun s => decide (s.power.state ≠ .off ∧ s.nextServed (consumerOf 0x1E) = some 0x1E ∧ consumerOf 0x1E ≠ 0 ∧ consumerOf 0x1E ≠ 6 ∧ s.derivedWaits < ((s.noteServed (consumerOf 0x1E) 0x1E).handle (fun u => u.consume 0x1E)).derivedWaits)))) = true := by
  decide +kernel

theorem witness_ConvertersAndBlocks :
    ((holds (up.set (Obj.adcCalStatus 3) 1) (fun s => decide (s.paths.length = 16 ∧ s.get (Obj.adcCalStatus 3) = 1))) &&
    (holds ({ (((act.set Obj.converterPairModeUL 2).set (Obj.bandEnable 0) 1).set (Obj.stabState 0) 3).set Obj.converterTasteBlocks 4 with conv.tasteUL := ⟨3, 0⟩ }) (fun s => decide (s.running = true ∧ s.pairMode .ul = 2 ∧ s.get Obj.converterTasteCount ≤ 500 ∧ (s.taste .ul).run + 1 = s.get Obj.converterTasteBlocks ∧ (s.get Obj.converterTasteState).testBit 0 = false))) &&
    (holds ({ (((act.set Obj.converterPairModeUL 2).set (Obj.bandEnable 0) 1).set (Obj.stabState 0) 3).set Obj.converterTasteBlocks 4 with conv.tasteUL := ⟨2, 0⟩ }) (fun s => decide (s.running = true ∧ s.pairMode .ul = 2 ∧ s.get Obj.converterTasteCount ≤ 500 ∧ (s.taste .ul).run + 1 < s.get Obj.converterTasteBlocks))) &&
    (holds (({ (((act.set Obj.converterPairModeUL 2).set (Obj.bandEnable 0) 1).set (Obj.stabState 0) 3).set Obj.converterTasteBlocks 4 with conv.tasteUL := ⟨0, 59999⟩ }).set Obj.converterTasteState 3) (fun s => decide (s.running = true ∧ s.pairMode .ul = 2 ∧ 0 < s.get Obj.converterTasteCount))) &&
    (holds (up) (fun s => decide (s.running = true))) &&
    (holds ((up.set (Obj.adcDcFrozen 3) 1).arm (.dcFreeze 3) 5) (fun s => decide (s.deadline (.dcFreeze 3) = some 5 ∧ s.get (Obj.adcDcFreeze 3) = 0 ∧ s.get Obj.clockSamplePllLocked = 1))) &&
    (holds (({ up.set (Obj.bandPathSettling 15) 1 with conv.noWindow := [15] }).arm (.settle 15) 5) (fun s => decide (s.paths.length = 16 ∧ 15 ∈ s.conv.noWindow ∧ s.deadline (.settle 15) = some 5))) &&
    (holds (up.set Obj.converterSyncPinEnable 1) (fun s => decide (s.running = true ∧ s.get Obj.converterSyncPinEnable = 1))) &&
    (holds (up) (fun s => decide (s.get Obj.converterSyncPinEnable ≠ 1)))) = true := by
  decide +kernel

theorem witness_SuppressedWindowsAreInvalid :
    ((holds (up.startSettle 15) (fun s => decide (s.running = true ∧ s.power.pressReady = true ∧ s.get Obj.clockSamplePllLocked = 1 ∧ 15 ∉ s.conv.noWindow ∧ (s.path 15).suppressed = true))) &&
    (holds (up) (fun s => decide ((s.path 15).suppressed = false)))) = true := by
  decide +kernel

theorem witness_DetectorWindows :
    ((holds (up.set Obj.clockSamplePllLocked 0) (fun s => decide (s.paths.length = 16 ∧ s.running = true ∧ s.power.pressReady = true ∧ s.get Obj.clockSamplePllLocked ≠ 1))) &&
    (holds (up) (fun s => decide (s.paths.length = 16 ∧ s.running = true ∧ s.power.pressReady = true ∧ s.get Obj.clockSamplePllLocked = 1 ∧ 15 ∉ s.conv.noWindow ∧ (s.path 15).suppressed = false ∧ s.unmuted 15 = false))) &&
    (holds (act.set (Obj.stabState 15) 3) (fun s => decide (s.unmuted 15 = true ∧ s.running = true ∧ s.power.pressReady = true ∧ s.get Obj.clockSamplePllLocked = 1 ∧ 15 ∉ s.conv.noWindow ∧ (s.path 15).suppressed = false))) &&
    (holds ((((act.set (Obj.stabState 15) 3).setPath 15 { act.path 15 with overpower := 2 }).setI (Obj.netMaxOutput 0) (-10000)).setI (Obj.netMaxOutput 1) (-10000)) (fun s => decide (s.unmuted 15 = true ∧ s.running = true ∧ s.power.pressReady = true ∧ s.get Obj.clockSamplePllLocked = 1 ∧ 15 ∉ s.conv.noWindow ∧ (s.path 15).suppressed = false ∧ (s.path 15).overpower = 2)))) = true := by
  decide +kernel

theorem witness_EnvelopeEventsAlternate :
    ((holds (((up.setI (Obj.bandPathEnvHigh 15) (-500)).setI (Obj.bandPathEnvLow 15) (-900))) (fun s => decide (s.running = true ∧ (s.path 15).envHigh = false ∧ s.getI (Obj.bandPathEnvHigh 15) < -499))) &&
    (holds (((up.setI (Obj.bandPathEnvHigh 15) (-500)).setI (Obj.bandPathEnvLow 15) (-900))) (fun s => decide (s.running = true ∧ (-500 : Int) ≤ s.getI (Obj.bandPathEnvHigh 15)))) &&
    (holds ((((up.setI (Obj.bandPathEnvHigh 15) (-500)).setI (Obj.bandPathEnvLow 15) (-900))).setPath 15 { (((up.setI (Obj.bandPathEnvHigh 15) (-500)).setI (Obj.bandPathEnvLow 15) (-900))).path 15 with envHigh := true }) (fun s => decide (s.running = true ∧ (s.path 15).envHigh = true ∧ -901 < s.getI (Obj.bandPathEnvLow 15)))) &&
    (holds (((up.setI (Obj.bandPathEnvHigh 15) (-500)).setI (Obj.bandPathEnvLow 15) (-900))) (fun s => decide ((s.path 15).envHigh = false ∧ s.running = true)))) = true := by
  decide +kernel

theorem witness_FabricAndFrontEnd :
    ((holds (up.setPath 15 { up.path 15 with inputs := [⟨5, 0, 0, 0, false⟩, ⟨3, 0, 0, 0, false⟩] }) (fun s => decide (s.paths.length = 16 ∧ lowestInput (s.path 15).inputs = some ⟨3, 0, 0, 0, false⟩ ∧ s.credits (0xC0 + 15) ≠ 0))) &&
    (holds ({ (up.set Obj.frontEndSeqInit 0x200).set (Obj.frontEndEntry 0) (leNat [0#8, 4#8, 0#8, 0#8, 3#8, 0#8, 0xFF#8, 0#8, 0x0F#8, 0#8, 0#8, 0#8]) with fe.run := some ⟨1, 0, .entries, false, 0⟩ }) (fun s => decide (s.fe.run = some ⟨1, 0, .entries, false, 0⟩ ∧ s.running = true ∧ s.power.pressReady = true ∧ 0 + 1 < s.seqCount 1 ∧ (fieldAt (s.feEntry (s.seqWord 1 % 256 + 0)) 1 1).testBit 2 = true))) &&
    (holds ({ (up.set Obj.frontEndSeqInit 0x200).set (Obj.frontEndEntry 0) (leNat [0#8, 9#8, 0xE8#8, 0xFF#8, 3#8, 0#8, 0xFF#8, 0#8, 0x0F#8, 0#8, 0#8, 0#8]) with fe.run := some ⟨1, 0, .entries, false, 0⟩ }) (fun s => decide (s.fe.run = some ⟨1, 0, .entries, false, 0⟩ ∧ s.running = true ∧ s.power.pressReady = true ∧ 0 + 1 < s.seqCount 1 ∧ (fieldAt (s.feEntry (s.seqWord 1 % 256 + 0)) 1 1).testBit 2 = false ∧ ((fieldAt (s.feEntry (s.seqWord 1 % 256 + 0)) 1 1).testBit 3 = false ∨ (0x5000F &&& 65535) = fieldAt (s.feEntry (s.seqWord 1 % 256 + 0)) 8 4 &&& 65535)))) &&
    (holds ({ (up.set Obj.frontEndSeqInit 0x200).set (Obj.frontEndEntry 0) (leNat [0#8, 9#8, 0xE8#8, 0xFF#8, 3#8, 0#8, 0xFF#8, 0#8, 0x0F#8, 0#8, 0#8, 0#8]) with fe.run := some ⟨1, 0, .entries, false, 0⟩ }) (fun s => decide (s.fe.run = some ⟨1, 0, .entries, false, 0⟩ ∧ s.running = true ∧ s.power.pressReady = true ∧ 0 + 1 < s.seqCount 1 ∧ (fieldAt (s.feEntry (s.seqWord 1 % 256 + 0)) 1 1).testBit 2 = false ∧ (fieldAt (s.feEntry (s.seqWord 1 % 256 + 0)) 1 1).testBit 3 = true ∧ (0x0E &&& 65535) ≠ fieldAt (s.feEntry (s.seqWord 1 % 256 + 0)) 8 4 &&& 65535))) &&
    (holds ({ up.set Obj.frontEndLockGpioDL 3 with fe.run := some ⟨3, 0, .lock, false, 0⟩ }) (fun s => decide (s.awaitsLock .dl = true ∧ s.lockLine .dl ≠ 0xFF))) &&
    (holds (({ up.set Obj.frontEndLockGpioDL 255 with fe.run := some ⟨3, 0, .lock, false, 0⟩ }).arm (.lockTimeout .dl) 5) (fun s => decide (s.deadline (.lockTimeout .dl) = some 5 ∧ s.awaitsLock .dl = true ∧ s.lockLine .dl = 0xFF))) &&
    (holds (({ up.set Obj.frontEndLockGpioDL 3 with fe.run := some ⟨3, 0, .lock, false, 0⟩ }).arm (.lockTimeout .dl) 5) (fun s => decide (s.deadline (.lockTimeout .dl) = some 5 ∧ s.awaitsLock .dl = true ∧ s.lockLine .dl ≠ 0xFF))) &&
    (holds (({ up.set Obj.frontEndSeqInit 0x200 with fe.run := some ⟨1, 0, .replay, true, 0⟩ }).arm .feReplay 5) (fun s => decide (s.deadline .feReplay = some 5 ∧ s.fe.run = some ⟨1, 0, .replay, true, 0⟩ ∧ s.seqCount 1 ≠ 0)))) = true := by
  decide +kernel

theorem witness_DirectionSwitch :
    ((holds (((((((((act.set (Obj.bandEnable 0) 1).set (Obj.bandEnable 1) 1).set (Obj.bandKind 0) 1).set (Obj.bandKind 1) 1).set (Obj.bandDirection 1) 1).set (Obj.stabState 0) 5).set (Obj.stabState 1) 5).set Obj.leEnable 1)) (fun s => decide (s.running = true ∧ s.leOpen = none ∧ s.get Obj.leDirection ≠ 3 ∧ s.leReady = true ∧ s.leBarredSide .ul = false ∧ s.lePath .ul = some 0))) &&
    (holds (((((((((act.set (Obj.bandEnable 0) 1).set (Obj.bandEnable 1) 1).set (Obj.bandKind 0) 1).set (Obj.bandKind 1) 1).set (Obj.bandDirection 1) 1).set (Obj.stabState 0) 5).set (Obj.stabState 1) 5).set Obj.leEnable 1)) (fun s => decide (s.running = true ∧ s.leOpen = none ∧ s.get Obj.leDirection ≠ 3 ∧ s.leReady = true ∧ s.leBarredSide .dl = false ∧ s.lePath .dl = some 1))) &&
    (holds (((((((((act.set (Obj.bandEnable 0) 1).set (Obj.bandEnable 1) 1).set (Obj.bandKind 0) 1).set (Obj.bandKind 1) 1).set (Obj.bandDirection 1) 1).set (Obj.stabState 0) 5).set (Obj.stabState 1) 5).set Obj.leEnable 1).set Obj.leTieDirection 1) (fun s => decide (s.running = true ∧ s.leOpen = none ∧ s.get Obj.leDirection ≠ 3 ∧ s.leReady = true ∧ s.leBarredSide .ul = false ∧ s.leBarredSide .dl = false))) &&
    (holds (((((((((act.set (Obj.bandEnable 0) 1).set (Obj.bandEnable 1) 1).set (Obj.bandKind 0) 1).set (Obj.bandKind 1) 1).set (Obj.bandDirection 1) 1).set (Obj.stabState 0) 5).set (Obj.stabState 1) 5).set Obj.leEnable 1).set Obj.leDirection 2) (fun s => decide (s.running = true ∧ s.leOpen = some (otherDir .ul)))) &&
    (holds ({ ((((((((act.set (Obj.bandEnable 0) 1).set (Obj.bandEnable 1) 1).set (Obj.bandKind 0) 1).set (Obj.bandKind 1) 1).set (Obj.bandDirection 1) 1).set (Obj.stabState 0) 5).set (Obj.stabState 1) 5).set Obj.leEnable 1).set Obj.leDirection 1 with le.streak := [(.ul, 1), (.dl, 2)] }) (fun s => decide (s.leOpen = some .ul))) &&
    (holds (({ ((((((((act.set (Obj.bandEnable 0) 1).set (Obj.bandEnable 1) 1).set (Obj.bandKind 0) 1).set (Obj.bandKind 1) 1).set (Obj.bandDirection 1) 1).set (Obj.stabState 0) 5).set (Obj.stabState 1) 5).set Obj.leEnable 1).set Obj.leDirection 1 with le.streak := [(.ul, 1), (.dl, 2), (.ul, 3)], time.nowUs := 10000001 }).arm .leMaxHold 0) (fun s => decide (s.deadline .leMaxHold = some 10000001 ∧ s.leOpen = some .ul))) &&
    (holds (({ ((((((((act.set (Obj.bandEnable 0) 1).set (Obj.bandEnable 1) 1).set (Obj.bandKind 0) 1).set (Obj.bandKind 1) 1).set (Obj.bandDirection 1) 1).set (Obj.stabState 0) 5).set (Obj.stabState 1) 5).set Obj.leEnable 1).set Obj.leDirection 1 with le.streak := [(.ul, 1)], time.nowUs := 10000001 }).arm .leMaxHold 0) (fun s => decide (s.deadline .leMaxHold = some 10000001 ∧ s.leOpen = some .ul))) &&
    (holds (({ ((((((((act.set (Obj.bandEnable 0) 1).set (Obj.bandEnable 1) 1).set (Obj.bandKind 0) 1).set (Obj.bandKind 1) 1).set (Obj.bandDirection 1) 1).set (Obj.stabState 0) 5).set (Obj.stabState 1) 5).set Obj.leEnable 1).set Obj.leDirection 1 with le.streak := [], time.nowUs := 10000001 }).arm .leMaxHold 0) (fun s => decide (s.deadline .leMaxHold = some 10000001 ∧ s.leOpen = some .ul))) &&
    (holds ((((((((((act.set (Obj.bandEnable 0) 1).set (Obj.bandEnable 1) 1).set (Obj.bandKind 0) 1).set (Obj.bandKind 1) 1).set (Obj.bandDirection 1) 1).set (Obj.stabState 0) 5).set (Obj.stabState 1) 5).set Obj.leEnable 1).set Obj.leDirection 3).arm .leGuard 5) (fun s => decide (s.deadline .leGuard = some 5 ∧ s.get Obj.leDirection = 3))) &&
    (holds (((((((((act.set (Obj.bandEnable 0) 1).set (Obj.bandEnable 1) 1).set (Obj.bandKind 0) 1).set (Obj.bandKind 1) 1).set (Obj.bandDirection 1) 1).set (Obj.stabState 0) 5).set (Obj.stabState 1) 5).set Obj.leEnable 1).set Obj.leBarred 1) (fun s => decide (s.running = true ∧ s.leOpen = none ∧ s.leBarredSide .ul = true))) &&
    (holds ((((((((((act.set (Obj.bandEnable 0) 1).set (Obj.bandEnable 1) 1).set (Obj.bandKind 0) 1).set (Obj.bandKind 1) 1).set (Obj.bandDirection 1) 1).set (Obj.stabState 0) 5).set (Obj.stabState 1) 5).set Obj.leEnable 1).set Obj.leBarred 3).arm (.leBar .dl) 5) (fun s => decide (s.deadline (.leBar .dl) = some 5)))) = true := by
  decide +kernel

theorem witness_FrameBoundaries :
    ((holds ((((((act.set (Obj.bandEnable 15) 1).set (Obj.stabState 15) 3).set (Obj.bandEnable 14) 1).set (Obj.bandDirection 14) 1).set (Obj.stabState 14) 3)) (fun s => decide (s.running = true ∧ s.power.pressReady = true ∧ CoreId.press ∉ s.sec.halted))) &&
    (holds ({ (((((act.set (Obj.bandEnable 15) 1).set (Obj.stabState 15) 3).set (Obj.bandEnable 14) 1).set (Obj.bandDirection 14) 1).set (Obj.stabState 14) 3) with loops.ulFrame := some 7 }) (fun s => decide (s.lastFrame .ul = some 7))) &&
    (holds ((((((act.set (Obj.bandEnable 15) 1).set (Obj.stabState 15) 3).set (Obj.bandEnable 14) 1).set (Obj.bandDirection 14) 1).set (Obj.stabState 14) 3)) (fun s => decide (s.paths.length = 16 ∧ s.frameCounts 15 (⟨true, 500, -4000, true, true, 700⟩ : PathMeas) = true))) &&
    (holds (((((((act.set (Obj.bandEnable 15) 1).set (Obj.stabState 15) 3).set (Obj.bandEnable 14) 1).set (Obj.bandDirection 14) 1).set (Obj.stabState 14) 3)).setPath 15 { ((((((act.set (Obj.bandEnable 15) 1).set (Obj.stabState 15) 3).set (Obj.bandEnable 14) 1).set (Obj.bandDirection 14) 1).set (Obj.stabState 14) 3)).path 15 with pilotLimit := some 700 }) (fun s => decide (s.paths.length = 16 ∧ s.frameCounts 15 noMeas = false ∧ s.inService 15 = true ∧ countFrames ((s.path 15).frameBits * 2 % 2 ^ 64) (s.get Obj.stabPilotFrames) = 0))) &&
    (holds (((((((act.set (Obj.bandEnable 15) 1).set (Obj.stabState 15) 3).set (Obj.bandEnable 14) 1).set (Obj.bandDirection 14) 1).set (Obj.stabState 14) 3)).setPath 15 { ((((((act.set (Obj.bandEnable 15) 1).set (Obj.stabState 15) 3).set (Obj.bandEnable 14) 1).set (Obj.bandDirection 14) 1).set (Obj.stabState 14) 3)).path 15 with pilotLimit := some 700, frameBits := 3 }) (fun s => decide (s.frameCounts 15 noMeas = false ∧ countFrames ((s.path 15).frameBits * 2 % 2 ^ 64) (s.get Obj.stabPilotFrames) ≠ 0))) &&
    (holds ((((((act.set (Obj.bandEnable 15) 1).set (Obj.stabState 15) 3).set (Obj.bandEnable 14) 1).set (Obj.bandDirection 14) 1).set (Obj.stabState 14) 3)) (fun s => decide (((s.toBoundary .ul).moveGains).collapsed 15 (⟨true, 500, -4000, true, true, 700⟩ : PathMeas) = true ∧ 15 ∈ ((s.toBoundary .ul).moveGains).liveOf .ul)))) = true := by
  decide +kernel

theorem witness_ProbesAndRechecks :
    ((holds (((((((act.set (Obj.bandEnable 15) 1).set (Obj.stabState 15) 1).set (Obj.bandEnable 14) 1).set (Obj.stabState 14) 1).set (Obj.bandPartner 15) 14).set (Obj.bandPartner 14) 15).arm (.probe 15) 5) (fun s => decide (s.deadline (.probe 15) = some 5 ∧ s.get (Obj.stabState 15) = 1 ∧ s.partnerOf 15 = 14 ∧ s.get (Obj.stabState 14) = 1))) &&
    (holds ((((((act.set (Obj.bandEnable 15) 1).set (Obj.stabState 15) 1).set (Obj.bandEnable 14) 1).set (Obj.stabState 14) 1).set (Obj.bandPartner 15) 14).set (Obj.bandPartner 14) 15) (fun s => decide (s.paths.length = 16))) &&
    (holds (((((((act.set (Obj.bandEnable 15) 1).set (Obj.stabState 15) 1).set (Obj.bandEnable 14) 1).set (Obj.stabState 14) 1).set (Obj.bandPartner 15) 14).set (Obj.bandPartner 14) 15).setPath 15 { ((((((act.set (Obj.bandEnable 15) 1).set (Obj.stabState 15) 1).set (Obj.bandEnable 14) 1).set (Obj.stabState 14) 1).set (Obj.bandPartner 15) 14).set (Obj.bandPartner 14) 15).path 15 with pilotLimit := some ((up.getI (Obj.stabMinGain 15))) }) (fun s => decide (s.paths.length = 16))) &&
    (holds (((((((act.set (Obj.bandEnable 15) 1).set (Obj.stabState 15) 1).set (Obj.bandEnable 14) 1).set (Obj.stabState 14) 1).set (Obj.bandPartner 15) 14).set (Obj.bandPartner 14) 15).set (Obj.bandKind 15) 1) (fun s => decide (s.isLe 15 = true ∧ s.isLe 14 = false))) &&
    (holds (act.arm (.probeRetry 15) 5) (fun s => decide (s.deadline (.probeRetry 15) = some 5))) &&
    (holds (act.arm (.recheck .dl) 5) (fun s => decide (s.deadline (.recheck .dl) = some 5 ∧ s.eng.commit = none)))) = true := by
  decide +kernel

theorem witness_NetworkShutdowns :
    ((holds ((((((((((act.set (Obj.bandEnable 15) 1).set (Obj.stabState 15) 3).set (Obj.bandEnable 14) 1).set (Obj.bandDirection 14) 1).set (Obj.stabState 14) 3)).set (Obj.paLaneState 2) 3).arm (.noiseHold 15) 5))) (fun s => decide (s.paths.length = 16 ∧ s.eng.commit = none ∧ s.deadline (.noiseHold 15) = some 5 ∧ s.inService 15 = true ∧ s.get Obj.netState < 2))) &&
    (holds (((((((((act.set (Obj.bandEnable 15) 1).set (Obj.stabState 15) 3).set (Obj.bandEnable 14) 1).set (Obj.bandDirection 14) 1).set (Obj.stabState 14) 3)).set Obj.netState 2).arm (.noiseHold 15) 5)) (fun s => decide (s.deadline (.noiseHold 15) = some 5 ∧ s.inService 15 = true ∧ 2 ≤ s.get Obj.netState))) &&
    (holds (((((((((act.set (Obj.bandEnable 15) 1).set (Obj.stabState 15) 3).set (Obj.bandEnable 14) 1).set (Obj.bandDirection 14) 1).set (Obj.stabState 14) 3)).set Obj.oscBlocks 4).setPath 15 { ((((((act.set (Obj.bandEnable 15) 1).set (Obj.stabState 15) 3).set (Obj.bandEnable 14) 1).set (Obj.bandDirection 14) 1).set (Obj.stabState 14) 3)).path 15 with osc := 3 })) (fun s => decide (s.power.pressReady = true ∧ s.unmuted 15 = true ∧ s.get Obj.oscRho ≤ 65535 ∧ s.getI Obj.oscLevel ≤ 32767 ∧ s.get Obj.oscBlocks ≤ (s.path 15).osc + 1 ∧ s.get Obj.netState < 2))) &&
    (holds (((((((((act.set (Obj.bandEnable 15) 1).set (Obj.stabState 15) 3).set (Obj.bandEnable 14) 1).set (Obj.bandDirection 14) 1).set (Obj.stabState 14) 3)).set Obj.oscBlocks 4).setPath 15 { ((((((act.set (Obj.bandEnable 15) 1).set (Obj.stabState 15) 3).set (Obj.bandEnable 14) 1).set (Obj.bandDirection 14) 1).set (Obj.stabState 14) 3)).path 15 with osc := 2 })) (fun s => decide (s.power.pressReady = true ∧ s.unmuted 15 = true ∧ (s.path 15).osc + 1 < s.get Obj.oscBlocks))) &&
    (holds (((((((((act.set (Obj.bandEnable 15) 1).set (Obj.stabState 15) 3).set (Obj.bandEnable 14) 1).set (Obj.bandDirection 14) 1).set (Obj.stabState 14) 3)).set Obj.oscBlocks 4).setPath 15 { ((((((act.set (Obj.bandEnable 15) 1).set (Obj.stabState 15) 3).set (Obj.bandEnable 14) 1).set (Obj.bandDirection 14) 1).set (Obj.stabState 14) 3)).path 15 with osc := 2 })) (fun s => decide (s.power.pressReady = true ∧ s.unmuted 15 = true ∧ 0 < s.get Obj.oscRho ∧ s.get Obj.oscBlocks ≠ 0))) &&
    (holds ({ up with net.history := [0] }) (fun s => decide ((s.net.history.filter (fun t => decide (s.opSeconds ≤ t + s.get Obj.netRepeatWindow))).length < 2))) &&
    (holds ({ up with net.history := [0, 0] }) (fun s => decide (2 ≤ (s.net.history.filter (fun t => decide (s.opSeconds ≤ t + s.get Obj.netRepeatWindow))).length))) &&
    (holds ((up.set Obj.netState 2).arm .lockout 5) (fun s => decide (s.deadline .lockout = some 5 ∧ s.get Obj.netState = 2 ∧ (s.get Obj.netAutoResume ≠ 1 ∨ s.net.before ≠ 4)))) &&
    (holds (({ (up.set Obj.netState 2).set Obj.netAutoResume 1 with net.before := 4, sec.fuses := 1 }).arm .lockout 5) (fun s => decide (s.deadline .lockout = some 5 ∧ s.get Obj.netState = 2 ∧ s.get Obj.netAutoResume = 1 ∧ s.net.before = 4 ∧ s.power.state = .standby ∧ s.power.trans = none ∧ ((Claims.expired s .lockout 5).set Obj.netState 0).activeRefusal = none))) &&
    (holds ((up.set Obj.netState 3).arm .lockout 5) (fun s => decide (s.deadline .lockout = some 5 ∧ s.get Obj.netState = 3)))) = true := by
  decide +kernel

theorem witness_LanesStartAndStop :
    ((holds (act.set (Obj.paLaneEnable 3) 1) (fun s => decide (s.pa.lanes.length = 4 ∧ s.laneMayRun 3 = true ∧ s.get (Obj.paLaneState 3) = 0))) &&
    (holds (((act.set (Obj.paLaneEnable 3) 1).set (Obj.paLaneState 3) 1).setLane 3 { (act.set (Obj.paLaneEnable 3) 1).lane 3 with voutOk := true, statusOk := true }) (fun s => decide (s.get (Obj.paLaneState 3) = 1 ∧ s.sealOpen = true ∧ (s.lane 3).voutOk = true ∧ (s.lane 3).statusOk = true))) &&
    (holds (((act.set (Obj.paLaneEnable 3) 1).set (Obj.paLaneState 3) 2).arm (.laneReady 3) 5) (fun s => decide (s.deadline (.laneReady 3) = some 5 ∧ s.get (Obj.paLaneState 3) = 2 ∧ s.eng.commit = none ∧ (Claims.expired s (.laneReady 3) 5).biasNow 3 = (s.lane 3).biasGoal))) &&
    (holds ((((act.set (Obj.paLaneEnable 3) 1).set (Obj.paLaneState 3) 2).setLane 3 { (act.set (Obj.paLaneEnable 3) 1).lane 3 with biasGoal := 900 }).arm (.laneReady 3) 5) (fun s => decide (s.deadline (.laneReady 3) = some 5 ∧ s.get (Obj.paLaneState 3) = 2 ∧ s.eng.commit = none ∧ (Claims.expired s (.laneReady 3) 5).biasNow 3 ≠ (s.lane 3).biasGoal))) &&
    (holds ({ ((((up.set (Obj.paLaneState 3) 3).set (Obj.paLanePathMask 3) 0x8000).set (Obj.bandEnable 15) 1).set (Obj.stabState 15) 3) with pins.paEn := 15 }) (fun s => decide (s.laneRuns 3 = true ∧ s.laneMayRun 3 = false ∧ s.eng.commit = none))) &&
    (holds (((act.set (Obj.paLaneEnable 3) 1).set (Obj.paLaneState 3) 1).arm (.laneRegulator 3) 5) (fun s => decide (s.deadline (.laneRegulator 3) = some 5 ∧ s.get (Obj.paLaneState 3) = 1 ∧ (s.lane 3).faultAt = none))) &&
    (holds ((((act.set (Obj.paLaneEnable 3) 1).set (Obj.paLaneState 3) 1).setLane 3 { (act.set (Obj.paLaneEnable 3) 1).lane 3 with faultAt := some 0 }).arm (.laneRegulator 3) 3600000000) (fun s => decide (s.deadline (.laneRegulator 3) = some 3600000000 ∧ s.get (Obj.paLaneState 3) = 1 ∧ (s.lane 3).faultAt = some 0))) &&
    (holds ((((act.set (Obj.paLaneEnable 3) 1).set (Obj.paLaneState 3) 5).setLane 3 { (act.set (Obj.paLaneEnable 3) 1).lane 3 with hold := ⟨true, false, false, false⟩ }).arm (.regulatorRestart 3) 5) (fun s => decide (s.deadline (.regulatorRestart 3) = some 5 ∧ s.get (Obj.paLaneState 3) = 5 ∧ ({ (s.lane 3).hold with regulator := false } : LaneHold).any = false))) &&
    (holds (((act.set (Obj.paLaneEnable 3) 1).set (Obj.paLaneState 3) 3).arm (.laneMonitor 3) 5) (fun s => decide (s.deadline (.laneMonitor 3) = some 5 ∧ s.laneRuns 3 = true ∧ s.eng.commit = none)))) = true := by
  decide +kernel

theorem witness_PmbusWork :
    ((holds ({ act with pa.pmb := [⟨3, 0x8B, false⟩, ⟨3, 0x79, false⟩] }) (fun s => decide (s.power.pressReady = true ∧ s.bankA = true ∧ s.pa.pmb = [⟨3, 0x8B, false⟩, ⟨3, 0x79, false⟩]))) &&
    (holds ({ act with pa.pmb := [⟨3, 0x8B, true⟩, ⟨3, 0x79, false⟩] }) (fun s => decide (s.power.pressReady = true ∧ s.pa.pmb = [⟨3, 0x8B, true⟩, ⟨3, 0x79, false⟩]))) &&
    (holds ({ act with margin := [⟨3, 1, 0, [0x25, 0xA8], 0⟩] }) (fun s => decide (s.power.pressReady = true ∧ s.bankA = true ∧ s.marginMove 3 = some ⟨3, 1, 0, [0x25, 0xA8], 0⟩ ∧ s.marginTurn ⟨3, 1, 0, [0x25, 0xA8], 0⟩ = true ∧ marginCode 0x25 = 0x25))) &&
    (holds ((((act.set (Obj.paLaneEnable 3) 1).set (Obj.paLaneState 3) 3).set (Obj.paLanePmbPage 3) 0xFF)) (fun s => decide (s.running = true ∧ s.power.pressReady = true ∧ s.get (Obj.paLaneEnable 3) = 1 ∧ s.get (Obj.paLanePmbPage 3) = 0xFF))) &&
    (holds ((((act.set (Obj.paLaneEnable 3) 1).set (Obj.paLaneState 3) 1).set (Obj.paLanePmbPage 3) 0xFF)) (fun s => decide (s.running = true ∧ s.power.pressReady = true ∧ s.get (Obj.paLaneEnable 3) = 1 ∧ s.get (Obj.paLanePmbPage 3) = 0xFF))) &&
    (holds (((up.set (Obj.paLaneEnable 3) 1).set (Obj.paLanePmbPage 3) 0xFF)) (fun s => decide (s.running = true ∧ s.power.pressReady = true ∧ s.get (Obj.paLaneState 3) = 0 ∧ s.power.state = .standby))) &&
    (holds ({ (act.set (Obj.paLaneEnable 3) 1).set (Obj.paLaneEnable 0) 1 with pa.pmb := [⟨3, 0x01, false⟩] }) (fun s => decide (s.running = true ∧ s.power.pressReady = true ∧ s.bankA = true)))) = true := by
  decide +kernel

theorem witness_BudgetAndFeed :
    ((holds (act.arm .overrun 5) (fun s => decide (s.deadline .overrun = some 5))) &&
    (holds ({ act with pa.overrun := true, pa.cut := 2 }) (fun s => decide (s.pa.overrun = true ∧ s.get Obj.paBudgetMeasured ≤ s.effectiveCap))) &&
    (holds ({ act.set Obj.paBudgetMeasured 60000 with pa.overrun := true, pa.cut := 2 }) (fun s => decide (s.pa.overrun = true ∧ s.effectiveCap < s.get Obj.paBudgetMeasured))) &&
    (holds ((act.set (Obj.hintState 1) 1).arm (.hint .push) 5) (fun s => decide (s.deadline (.hint .push) = some 5 ∧ s.eng.commit = none ∧ hintNum .push = 1 ∧ s.get (Obj.hintState 1) = 1))) &&
    (holds ((act.set (Obj.hintState 1) 2).arm (.hint .push) 5) (fun s => decide (s.deadline (.hint .push) = some 5 ∧ s.eng.commit = none ∧ hintNum .push = 1 ∧ s.get (Obj.hintState 1) = 2))) &&
    (holds ((act.set (Obj.hintState 1) 3).arm (.hint .push) 5) (fun s => decide (s.deadline (.hint .push) = some 5 ∧ s.eng.commit = none ∧ hintNum .push = 1 ∧ s.get (Obj.hintState 1) = 3))) &&
    (holds ((act.set (Obj.hintState 1) 4).arm (.hint .push) 5) (fun s => decide (s.deadline (.hint .push) = some 5 ∧ s.eng.commit = none ∧ hintNum .push = 1 ∧ s.get (Obj.hintState 1) = 4))) &&
    (holds ({ act.set Obj.hkBEntryCount 2 with hkb.refAt := some 7 }) (fun s => decide (s.hkb.refAt = some 7 ∧ s.hkb.converting = false ∧ s.get Obj.clockSamplePllLocked = 1 ∧ s.power.pressReady = true))) &&
    (holds ({ act with hkb.refAt := some 7, hkb.converting := true, hkb.seq := [0, 0] }) (fun s => decide (s.hkb.refAt = some 7 ∧ s.hkb.converting = true ∧ s.power.pressReady = true ∧ 1 < s.hkb.seq.length))) &&
    (holds (act) (fun s => decide (5 / 65536 % 2 = 0 ∧ s.power.pressReady = true))) &&
    (holds ({ act with hkb.held := some (3, 4), q.msgs := [⟨0xD5, 4, false, 1, 0, .raw []⟩] }) (fun s => decide (s.credits 0xD5 = 0 ∧ s.hkb.held ≠ none))) &&
    (holds (act) (fun s => decide (s.eng.commit = none ∧ s.get Obj.droopState = 0 ∧ satBytes 2 (roundDiv (1 * 6000 : Nat) (32768 * 1 : Nat)).toNat < 10 * s.get Obj.droopOnset))) &&
    (holds (((act.set Obj.droopState 1).setPath 15 { act.path 15 with droopCap := some 4 }).arm .droopClear 5) (fun s => decide (s.deadline .droopClear = some 5 ∧ s.eng.commit = none))) &&
    (holds (act.arm .feedStale 5) (fun s => decide (s.deadline .feedStale = some 5 ∧ s.eng.commit = none)))) = true := by
  decide +kernel

theorem witness_HeatAndSeal :
    ((holds ((((act.set (Obj.paLaneEnable 3) 1).set (Obj.paLaneState 3) 5).setLane 3 { (act.set (Obj.paLaneEnable 3) 1).lane 3 with hold := ⟨false, false, true, false⟩ }).arm (.laneCool 3) 5) (fun s => decide (s.pa.lanes.length = 4 ∧ s.deadline (.laneCool 3) = some 5 ∧ s.get (Obj.paLaneState 3) = 5 ∧ ({ (s.lane 3).hold with heat := false } : LaneHold).any = false))) &&
    (holds ({ (((act.set (Obj.paLaneState 3) 3).set (Obj.paLaneState 0) 1).set (Obj.stabState 15) 3).set (Obj.bandEnable 15) 1 with pins.paEn := 9, pins.rfMuteN := true }) (fun s => decide (s.power.coreReleased = true ∧ s.eng.commit = none))) &&
    (holds ({ act with pa.die := true, pa.lanes := List.replicate 4 { LaneRun.idle with hold := ⟨false, false, false, true⟩ } }.set (Obj.paLaneState 2) 5) (fun s => decide (s.pa.die = true))) &&
    (holds (({ (((act.set (Obj.paLaneState 3) 3).set (Obj.paLaneState 0) 1).set (Obj.stabState 15) 3).set (Obj.bandEnable 15) 1 with pins.paEn := 9, pins.rfMuteN := true }).set Obj.sealMode 0) (fun s => decide (s.power.state ≠ .off ∧ s.get Obj.sealMode = 0))) &&
    (holds (({ (((act.set (Obj.paLaneState 3) 3).set (Obj.paLaneState 0) 1).set (Obj.stabState 15) 3).set (Obj.bandEnable 15) 1 with pins.paEn := 9, pins.rfMuteN := true }).set Obj.sealMode 1) (fun s => decide (s.power.state ≠ .off ∧ s.get Obj.sealMode ≠ 0))) &&
    (holds ({ { (((act.set (Obj.paLaneState 3) 3).set (Obj.paLaneState 0) 1).set (Obj.stabState 15) 3).set (Obj.bandEnable 15) 1 with pins.paEn := 9, pins.rfMuteN := true } with pa.breach := true, pins.sealN := false }) (fun s => decide (s.pa.breach = true ∧ s.power.pressReady = true ∧ (∃ n ∈ laneNums, s.get (Obj.paLaneState n) ≠ 6) ∧ s.twin.enabled = false ∧ s.eng.commit = none))) &&
    (holds ((({ ((act.set (Obj.paLaneState 0) 6).set (Obj.paLaneState 3) 6) with pa.breach := true, pins.sealN := false }).set Obj.sealMode 0).arm .sealClear 5) (fun s => decide (s.deadline .sealClear = some 5 ∧ s.get Obj.sealMode = 0))) &&
    (holds ((({ ((act.set (Obj.paLaneState 0) 6).set (Obj.paLaneState 3) 6) with pa.breach := true, pins.sealN := false }).set Obj.sealMode 1).arm .sealClear 5) (fun s => decide (s.deadline .sealClear = some 5 ∧ s.get Obj.sealMode ≠ 0)))) = true := by
  decide +kernel

theorem witness_RailReadings :
    ((holds (up) (fun s => decide (s.power.state ≠ .off ∧ s.rail.adcOn = false ∧ s.starting = false))) &&
    (holds ({ (((up.set (Obj.railSlotState 15) 2).set Obj.railSeqCoreSet 0x800F).set (Obj.railSlotDependMask 15) 0) with power.trans := some ⟨.start, .standby⟩ }) (fun s => decide (s.power.state ≠ .off ∧ s.rail.adcOn = false ∧ s.starting = true ∧ s.get (Obj.railSlotState 15) = 2 ∧ (s.trellis Obj.railSeqCoreSet).testBit 15 = true ∧ s.trellis (Obj.railSlotDependMask 15) = 0))) &&
    (holds ({ (((up.set (Obj.railSlotState 15) 5).set (Obj.railSlotUvThreshold 15) 0).set (Obj.railSlotOvThreshold 15) 60000) with rail.adcOn := true, rail.slot := 15 }) (fun s => decide (s.power.state ≠ .off ∧ s.rail.adcOn = true ∧ s.rail.slot = 15 ∧ s.wd.lockstepBusy = false ∧ s.get (Obj.railSlotState 15) = 5 ∧ s.get (Obj.railSlotUvThreshold 15) ≤ s.railMilli 15 (convert (s.hkaGain 15) 700).1 ∧ s.railMilli 15 (convert (s.hkaGain 15) 700).1 ≤ s.get (Obj.railSlotOvThreshold 15)))) &&
    (holds (({ (((up.set (Obj.railSlotState 15) 5).set (Obj.railSlotUvThreshold 15) 0).set (Obj.railSlotOvThreshold 15) 60000) with rail.adcOn := true, rail.slot := 15 }).set (Obj.railSlotState 15) 4) (fun s => decide (s.power.state ≠ .off ∧ s.rail.adcOn = true ∧ s.rail.slot = 15 ∧ s.wd.lockstepBusy = false ∧ s.get (Obj.railSlotState 15) = 4 ∧ s.starting = false ∧ s.findsGood 15 (s.railMilli 15 (convert (s.hkaGain 15) 700).1) = true))) &&
    (holds ({ ((up.set (Obj.railSlotState 15) 6).set (Obj.railSlotNominal 15) 60000) with rail.adcOn := true, rail.slot := 15, pins.railEn := 1 }) (fun s => decide (s.power.state ≠ .off ∧ s.rail.adcOn = true ∧ s.rail.slot = 15 ∧ s.wd.lockstepBusy = false ∧ s.get (Obj.railSlotState 15) = 6 ∧ 10 * s.railMilli 15 (convert (s.hkaGain 15) 1).1 < s.get (Obj.railSlotNominal 15) ∧ slots.any (fun m => m != 15 && s.railLive m) = true))) &&
    (holds ({ ((up.set (Obj.railSlotState 0) 5).set (Obj.railSlotUvThreshold 0) 800) with rail.adcOn := true }) (fun s => decide (s.power.state ≠ .off ∧ s.rail.adcOn = true ∧ s.rail.slot = 0 ∧ s.wd.lockstepBusy = false ∧ s.get (Obj.railSlotState 0) = 5 ∧ s.railMilli 0 (convert (s.hkaGain 0) 1).1 < s.get (Obj.railSlotUvThreshold 0) ∧ s.power.state ≠ .holdup))) &&
    (holds (((up.set (Obj.railSlotState 15) 3).arm (.railDelay 15) 5)) (fun s => decide (s.wd.lockstepBusy = false ∧ s.deadline (.railDelay 15) = some 5 ∧ s.get (Obj.railSlotState 15) = 3))) &&
    (holds ({ (((act.set (Obj.railSlotState 15) 5).set (Obj.railSlotPgMode 15) 1).set (Obj.stabState 15) 3).set (Obj.bandEnable 15) 1 with pins.railEn := 0x8001, pins.pfwN := true, pins.rfMuteN := true, rail.pgCounted := 0x8000 }) (fun s => decide (s.power.state ≠ .off ∧ s.power.state ≠ .holdup ∧ s.wd.lockstepBusy = false ∧ s.rail.pgCounted.getLsbD 15 = true ∧ s.get (Obj.railSlotState 15) = 5 ∧ s.trellis (Obj.railSlotPgMode 15) = 1 ∧ s.rail.shutdown = none ∧ s.eng.commit = none ∧ s.get Obj.railSeqWarnLead ≠ 0))) &&
    (holds (up) (fun s => decide (s.power.state ≠ .off))) &&
    (holds ({ up with wd.lockstepBusy := true }) (fun s => decide (s.wd.lockstepBusy = true)))) = true := by
  decide +kernel

theorem witness_TrellisFalls :
    ((holds (({ (up.set (Obj.railSlotState 15) 5).set (Obj.railSlotEnable 15) 1 with rail.shutdown := some ⟨.request, 3, false, true, []⟩, power.trans := some ⟨.shutdown, .dormant⟩, pins.railEn := 0x8001 }).arm .warnLead 5) (fun s => decide (s.wd.lockstepBusy = false ∧ s.deadline .warnLead = some 5))) &&
    (holds (({ (up.set (Obj.railSlotState 15) 5).set (Obj.railSlotEnable 15) 1 with rail.shutdown := some ⟨.request, 3, false, true, []⟩, power.trans := some ⟨.shutdown, .dormant⟩, pins.railEn := 0 }).arm .warnLead 5) (fun s => decide (s.wd.lockstepBusy = false ∧ s.deadline .warnLead = some 5))) &&
    (holds (({ up with power.state := .holdup, rail.shutdown := some ⟨.holdup, 5, false, false, []⟩, pins.railEn := 3 }).arm .holdupLead 5) (fun s => decide (s.wd.lockstepBusy = false ∧ s.deadline .holdupLead = some 5))) &&
    (holds ({ ((up.set (Obj.railSlotEnable 1) 1).set (Obj.railSlotDependMask 1) 1).set (Obj.railSlotState 1) 5 with pins.railEn := 3 }) (fun s => decide (s.railOn 0 = true ∧ (∃ m ∈ s.dependents 0, s.railLive m = true)))) &&
    (holds ({ up with rail.shutdown := some ⟨.request, 3, false, true, []⟩, power.trans := some ⟨.shutdown, .dormant⟩ }) (fun s => decide (s.rail.shutdown.any (fun d => d.cause != .holdup)))) &&
    (holds ({ up with power.state := .holdup, rail.shutdown := some ⟨.holdup, 5, false, false, []⟩ }) (fun s => decide (s.rail.shutdown.any (fun d => d.cause == .holdup)))) &&
    (holds ({ (up.set (Obj.railSlotState 15) 6).set (Obj.railSlotReading 15) 60000 with rail.shutdown := some ⟨.request, 3, false, true, []⟩, power.trans := some ⟨.shutdown, .dormant⟩, pins.railEn := 1 }) (fun s => decide (s.wd.lockstepBusy = false ∧ s.railOn 15 = false ∧ (∃ m ∈ slots, m ≠ 15 ∧ s.railLive m = true) ∧ s.get (Obj.railSlotState 15) = 6))) &&
    (holds (({ (up.set (Obj.railSlotState 15) 6).set (Obj.railSlotReading 15) 60000 with rail.shutdown := some ⟨.request, 3, false, true, []⟩, power.trans := some ⟨.shutdown, .dormant⟩, pins.railEn := 1 }).arm (.holdupStep 15) 5) (fun s => decide (s.wd.lockstepBusy = false ∧ s.railOn 15 = false ∧ (∃ m ∈ slots, m ≠ 15 ∧ s.railLive m = true) ∧ s.deadline (.holdupStep 15) = some 5))) &&
    (holds (({ (up.set (Obj.railSlotState 15) 6).set (Obj.railSlotReading 15) 60000 with rail.shutdown := some ⟨.request, 3, false, true, []⟩, power.trans := some ⟨.shutdown, .dormant⟩, pins.railEn := 1 }).arm (.railOffTime 15) 5) (fun s => decide (s.wd.lockstepBusy = false ∧ s.railOn 15 = false ∧ (∃ m ∈ slots, m ≠ 15 ∧ s.railLive m = true) ∧ s.deadline (.railOffTime 15) = some 5 ∧ s.get (Obj.railSlotNominal 15) ≤ 10 * s.get (Obj.railSlotReading 15)))) &&
    (holds (up.set (Obj.railSlotReaction 15) 0) (fun s => decide (s.get (Obj.railSlotReaction 15) = 0))) &&
    (holds (((up.set (Obj.railSlotReaction 15) 1).set (Obj.railSlotRetries 15) 3).set Obj.railSeqAttempt 3) (fun s => decide (s.get (Obj.railSlotReaction 15) ≠ 0 ∧ s.get Obj.railSeqAttempt ≤ s.get (Obj.railSlotRetries 15)))) &&
    (holds (((up.set (Obj.railSlotReaction 15) 1).set (Obj.railSlotRetries 15) 3).set Obj.railSeqAttempt 4) (fun s => decide (s.get (Obj.railSlotReaction 15) ≠ 0 ∧ s.get (Obj.railSlotRetries 15) < s.get Obj.railSeqAttempt))) &&
    (holds (down.arm .retryBackoff 5) (fun s => decide (s.trellisOk = true ∧ s.power.state = .dormant ∧ s.power.trans = none ∧ s.wd.lockstepBusy = false ∧ s.deadline .retryBackoff = some 5))) &&
    (holds ((up.set Obj.railSeqAttempt 3).arm .attemptReset 5) (fun s => decide (s.deadline .attemptReset = some 5))) &&
    (holds (({ (up.set (Obj.marginMethod 3) 1).set (Obj.marginDacHigh 3) 100 with margin := [⟨3, 1, 99, [], 0⟩] }).arm (.marginStep 3) 5) (fun s => decide (s.deadline (.marginStep 3) = some 5 ∧ s.marginGoal 3 1 = 100))) &&
    (holds (({ (up.set (Obj.marginMethod 3) 1).set (Obj.marginDacHigh 3) 100 with margin := [⟨3, 0, 512, [], 0⟩] }).arm (.marginStep 3) 5) (fun s => decide (s.deadline (.marginStep 3) = some 5 ∧ s.marginGoal 3 0 = 512))) &&
    (holds (({ (up.set (Obj.marginMethod 3) 1).set (Obj.marginDacHigh 3) 100 with margin := [⟨3, 0, 512, [9], 0⟩] }).arm (.marginStep 3) 5) (fun s => decide (s.deadline (.marginStep 3) = some 5 ∧ s.marginGoal 3 0 = 512)))) = true := by
  decide +kernel

theorem witness_IntervalsAreCoarseAndFine :
    ((holds ({ up.set Obj.tiuState 3 with tiu.startFine := some 1023 }) (fun s => decide (s.get Obj.tiuState = 3 ∧ s.tiu.startFine = some 1023))) &&
    (holds ({ up.set Obj.tiuState 3 with tiu.startFine := some 655 }) (fun s => decide (s.get Obj.tiuState = 3 ∧ s.tiu.startFine = some 655))) &&
    (holds ({ up.set Obj.tiuState 3 with tiu.startFine := some 656 }) (fun s => decide (s.get Obj.tiuState = 3 ∧ s.tiu.startFine = some 656 ∧ 2048000 ≤ 656 * 3125)))) = true := by
  decide +kernel

theorem witness_MeasurementsAndBursts :
    ((holds ((up.set Obj.tiuState 2).set Obj.tiuTimeout 7) (fun s => decide (s.power.coreReleased = true ∧ s.get Obj.tiuState = 2 ∧ s.get Obj.tiuTimeout ≠ 0))) &&
    (holds (up) (fun s => decide (s.get Obj.tiuState ≠ 2))) &&
    (holds (({ (up.set Obj.tiuState 3).set Obj.tiuMode 1 with tiu.unread := true, tiu.startFine := some 3 }).arm .tiuTimeout 5) (fun s => decide (s.deadline .tiuTimeout = some 5 ∧ s.get Obj.tiuState = 3 ∧ s.tiu.due = false ∧ s.tiu.unread = true))) &&
    (holds (({ (up.set Obj.tiuState 3).set Obj.tiuMode 1 with tiu.unread := true, tiu.startFine := some 3 }).arm .tiuOverflow 5) (fun s => decide (s.deadline .tiuOverflow = some 5 ∧ s.get Obj.tiuState = 3 ∧ s.tiu.due = false ∧ s.tiu.unread = true))) &&
    (holds (((up.set Obj.tdrEnable 1).set Obj.tiuRefWarm 0).arm .tdrPeriod 5) (fun s => decide (s.deadline .tdrPeriod = some 5 ∧ s.burstAllowed = true ∧ s.get Obj.tiuState = 0))) &&
    (holds ((((up.set Obj.tdrEnable 1).set Obj.tiuRefWarm 0).set Obj.tiuState 3).arm .tdrPeriod 5) (fun s => decide (s.deadline .tdrPeriod = some 5 ∧ s.burstAllowed = true ∧ s.get Obj.tiuState = 3 ∧ s.tiu.burst = false))) &&
    (holds (({ ((up.set Obj.tdrEnable 1).set Obj.tiuRefWarm 0).set Obj.tiuState 4 with tiu.burst := true, tiu.held := up.burstSettings }).arm .tdrGap 5) (fun s => decide (s.deadline .tdrGap = some 5 ∧ s.tiu.burst = true ∧ s.tiu.launched < s.burstGet Obj.tdrLaunches))) &&
    (holds ({ ((up.set Obj.tdrEnable 1).set Obj.tiuRefWarm 0) with tiu.burst := true, tiu.held := up.burstSettings, tiu.launched := 1 }) (fun s => decide (s.tiu.burst = true ∧ 0 < s.tiu.launched ∧ s.tiu.enabled = false ∧ s.tiu.early = false))) &&
    (holds ({ ((up.set Obj.tdrEnable 1).set Obj.tiuRefWarm 0) with tiu.burst := true, tiu.held := up.burstSettings, tiu.launched := 1 }) (fun s => decide (s.tiu.burst = true))) &&
    (holds ({ ((up.set Obj.tdrEnable 1).set Obj.tiuRefWarm 0) with tiu.burst := true, tiu.held := up.burstSettings, tiu.launched := 1, tiu.enabled := true }) (fun s => decide (s.tiu.burst = true ∧ s.tiu.enabled = true ∧ 100 * 3125 ≤ s.stopWindow))) &&
    (holds ({ ((up.set Obj.tdrEnable 1).set Obj.tiuRefWarm 0) with tiu.burst := true, tiu.held := up.burstSettings, tiu.launched := 1, tiu.enabled := true }) (fun s => decide (s.tiu.burst = true ∧ s.tiu.enabled = true ∧ s.stopWindow < 0xFFFFFFFF * 3125))) &&
    (holds (({ ((up.set Obj.tdrEnable 1).set Obj.tiuRefWarm 0) with tiu.burst := true, tiu.held := up.burstSettings, tiu.enabled := true }).arm .tdrStop 5) (fun s => decide (s.deadline .tdrStop = some 5))) &&
    (holds ({ ((up.set Obj.tdrEnable 1).set Obj.tiuRefWarm 0).set Obj.tiuState 4 with tiu.burst := true, tiu.held := up.burstSettings, tiu.launched := 100 }) (fun s => decide (s.tiu.burst = true ∧ s.burstGet Obj.tdrLaunches ≤ s.tiu.launched ∧ s.tiu.stops = []))) &&
    (holds ((up.set Obj.tdrWaterline (leNat (List.replicate 16 1#8))).arm .waterlineAge 5) (fun s => decide (s.deadline .waterlineAge = some 5)))) = true := by
  decide +kernel

theorem witness_RefWarmFollowsOvenAndTimer :
    ((holds ({ (((act.set Obj.tiuOvenOk 1).set Obj.tiuRefWarm 0).set (Obj.stabState 15) 3).set (Obj.bandEnable 15) 1 with pins.rfMuteN := true }) (fun s => decide (s.power.coreReleased = true ∧ s.get Obj.tiuOvenOk = 1 ∧ s.get Obj.tiuRefWarm = 0 ∧ ∃ p ∈ pathNums, s.unmuted p = true))) &&
    (holds ({ act.set Obj.tiuRefWarm 1 with tiu.ovenLow := true }) (fun s => decide (s.power.coreReleased = true ∧ s.get Obj.tiuOvenOk = 0 ∧ s.tiu.ovenLow = true ∧ s.power.refPresent = true))) &&
    (holds ({ act.set Obj.tiuRefWarm 1 with tiu.warmDone := true }) (fun s => decide (s.get Obj.tiuOvenOk = 0 ∧ s.tiu.ovenLow = false ∧ s.tiu.warmDone = true))) &&
    (holds (((act.set Obj.tiuRefWarm 1).set Obj.tiuOvenOk 1).arm .warm 5) (fun s => decide (s.deadline .warm = some 5 ∧ s.get Obj.tiuOvenOk = 1))) &&
    (holds ((act.set Obj.tiuRefWarm 1).arm .warm 5) (fun s => decide (s.deadline .warm = some 5 ∧ s.get Obj.tiuOvenOk ≠ 1))) &&
    (holds (((act.set Obj.tiuOvenOk 1).set Obj.tiuRefWarm 0).set (Obj.stabState 15) 1) (fun s => decide (s.power.coreReleased = true ∧ s.get Obj.tiuOvenOk = 1 ∧ s.get Obj.tiuRefWarm = 0 ∧ s.get (Obj.stabState 15) = 1)))) = true := by
  decide +kernel

theorem witness_TouchesAreTimed :
    ((holds ({ (up.set Obj.lidState 3).set Obj.lidBaseline 100000 with lid.releases := 2, lid.releaseAt := 300000 }) (fun s => decide (s.lidRuns = true ∧ s.lid.heldTouch = none ∧ s.get Obj.lidState = 3 ∧ (2000 : Int) - s.get Obj.lidBaseline < s.get Obj.lidReleaseDelta))) &&
    (holds ({ (up.set Obj.lidState 3).set Obj.lidBaseline 100000 with lid.releases := 2, lid.releaseAt := 1000000 }) (fun s => decide (s.lidRuns = true ∧ s.lid.heldTouch = none ∧ s.get Obj.lidState = 3 ∧ (2000 : Int) - s.get Obj.lidBaseline < s.get Obj.lidReleaseDelta))) &&
    (holds ({ (up.set Obj.lidState 3).set Obj.lidBaseline 100000 with lid.releases := 1 }) (fun s => decide (s.lidRuns = true ∧ s.get Obj.lidState = 3 ∧ s.lid.releases < 2))) &&
    (holds (({ (up.set Obj.lidState 3).set Obj.lidBaseline 100000 with lid.releases := 1 }).arm .lidCover 900000) (fun s => decide (s.lidRuns = true ∧ s.get Obj.lidState = 3 ∧ (s.get Obj.lidReleaseDelta : Int) ≤ 150000 - s.get Obj.lidBaseline ∧ s.armed .lidCover = true))) &&
    (holds ({ (up.set Obj.lidState 4).set Obj.lidBaseline 100000 with lid.releases := 2 }) (fun s => decide (s.lidRuns = true ∧ s.get Obj.lidState = 4 ∧ s.lid.releases = 2)))) = true := by
  decide +kernel

theorem witness_LidStatesAndBaseline :
    ((holds ({ (up.set Obj.lidState 2).set Obj.lidBaseline 100000 with lid.sampleAt := some 3 }) (fun s => decide (s.lidRuns = true ∧ s.lid.heldTouch = none ∧ s.get Obj.lidState = 2 ∧ (s.get Obj.lidTouchDelta : Int) ≤ 150000 - s.get Obj.lidBaseline))) &&
    (holds (({ (up.set Obj.lidState 3).set Obj.lidBaseline 100000 with lid.releases := 0 }).arm .lidCover 5) (fun s => decide (s.deadline .lidCover = some 5 ∧ s.get Obj.lidState = 3))) &&
    (holds (({ (up.set Obj.lidState 3).set Obj.lidBaseline 100000 with lid.releases := 1 }).arm .lidCover 5) (fun s => decide (s.deadline .lidCover = some 5 ∧ s.get Obj.lidState = 3))) &&
    (holds (({ (up.set Obj.lidState 2).set Obj.lidBaseline 100000 with lid.count := 2, lid.sum := 240000 }).arm .lidTrack 5) (fun s => decide (s.deadline .lidTrack = some 5 ∧ s.get Obj.lidState = 2))) &&
    (holds (({ (up.set Obj.lidState 3).set Obj.lidBaseline 100000 with lid.count := 2, lid.sum := 240000 }).arm .lidTrack 5) (fun s => decide (s.deadline .lidTrack = some 5 ∧ s.get Obj.lidState = 3))) &&
    (holds ({ (up.set Obj.lidState 1).set Obj.lidBaseline 100000 with lid.count := 100, lid.sum := 12000000 }) (fun s => decide (s.lidRuns = true ∧ s.get Obj.lidState = 1 ∧ s.lid.checking = false ∧ s.lid.count = 100))) &&
    (holds (({ (up.set Obj.lidState 2).set Obj.lidBaseline 100000 with lid.count := 2 }).arm .lidStore 5) (fun s => decide (s.deadline .lidStore = some 5 ∧ s.get Obj.lidState = 2))) &&
    (holds (({ (up.set Obj.lidState 3).set Obj.lidBaseline 100000 with lid.count := 2 }).arm .lidStore 5) (fun s => decide (s.deadline .lidStore = some 5 ∧ s.get Obj.lidState ≠ 2))) &&
    (holds (({ (up.set Obj.lidState 1).set Obj.lidBaseline 100000 with lid.checking := true, lid.count := 10, lid.sum := 1200000 }).set Obj.lidStoredBaseline 0xFFFFFFFF) (fun s => decide (s.lidRuns = true ∧ s.lid.checking = true ∧ s.lid.count = 10))) &&
    (holds (({ (up.set Obj.lidState 1).set Obj.lidBaseline 100000 with lid.checking := true, lid.count := 10, lid.sum := 1200000 }).set Obj.lidStoredBaseline 80000) (fun s => decide (s.lidRuns = true ∧ s.lid.checking = true ∧ s.lid.count = 10))) &&
    (holds (({ (up.set Obj.lidState 1).set Obj.lidBaseline 100000 with lid.checking := true, lid.count := 10, lid.sum := 1200000 }).set Obj.lidStoredBaseline 150000) (fun s => decide (s.lidRuns = true ∧ s.lid.checking = true ∧ s.lid.count = 10))) &&
    (holds (({ (up.set Obj.lidState 1).set Obj.lidBaseline 100000 with lid.checking := true, lid.count := 10, lid.sum := 1200000 }).set Obj.lidStoredBaseline 119900) (fun s => decide (s.lidRuns = true ∧ s.lid.checking = true ∧ s.lid.count = 10))) &&
    (holds ({ (up.set Obj.lidState 2).set Obj.lidBaseline 100000 with lid.badRun := 100 }) (fun s => decide (s.lidRuns = true ∧ 100 ≤ s.lid.badRun ∧ s.get Obj.lidState ≠ 5 ∧ s.get Obj.lidState ≠ 0))) &&
    (holds (({ (up.set Obj.lidState 5).set Obj.lidBaseline 100000 with lid.badRun := 0 }).arm .lidResume 5) (fun s => decide (s.deadline .lidResume = some 5 ∧ s.get Obj.lidState = 5)))) = true := by
  decide +kernel

theorem witness_CaskAndVintageWork :
    ((holds (((up.postLog .press 0x2601 1 3 false false [1#8,2#8]).setCtl 0x05 1 0)) (fun s => decide (s.power.state ≠ .off ∧ s.cask.scanned = true ∧ s.cask.clearing = false ∧ s.safetyWaits = false ∧ (match s.nextLog with | some (m, u) => decide (s.caskState ≠ 2 ∧ m.snapshot = false ∧ u.vintUse m ≠ .none ∧ s.writeIndex < 2048) | none => false) = true))) &&
    (holds (((up.log .press 0x8002 1 3 [1#8,2#8]).setCtl 0x05 1 2)) (fun s => decide (s.power.state ≠ .off ∧ s.cask.scanned = true ∧ s.cask.clearing = false ∧ s.safetyWaits = false ∧ s.caskState = 2 ∧ s.nextLog.isSome))) &&
    (holds (up) (fun s => decide (s.nextLog.isNone))) &&
    (holds (({ up with cask.buckets := [(0x0F01, 0)] }).arm (.floodRefill 0x0F01) 5) (fun s => decide (s.deadline (.floodRefill 0x0F01) = some 5))) &&
    (holds ({ up with cask.scanned := false }) (fun s => decide (s.power.state ≠ .off ∧ s.cask.scanned = false))) &&
    (holds (up) (fun s => decide (s.cask.scanned = true))) &&
    (holds (({ up with cask.vintWork := [(48, List.replicate 32 3#8), (49, List.replicate 32 4#8)] }).arm .vintage 5) (fun s => decide (s.deadline .vintage = some 5 ∧ s.cask.vintWork = [(48, List.replicate 32 3#8), (49, List.replicate 32 4#8)]))) &&
    (holds (({ up with cask.vintWork := [(48, List.replicate 32 3#8), (49, List.replicate 32 4#8)] }).arm .vintage 5) (fun s => decide (s.deadline .vintage = some 5))) &&
    (holds (({ (up.setCtl 0x05 1 3) with cask.clearing := true }).arm .caskClear 5) (fun s => decide (s.deadline .caskClear = some 5 ∧ s.caskState = 3))) &&
    (holds ({ up with q.msgs := [⟨0xF0, 1, false, 1, 0, .raw []⟩] }) (fun s => decide (s.safetyWaits = true)))) = true := by
  decide +kernel

theorem witness_LinkFrames :
    ((holds (({ up with twin.enabled := true, twin.characters := true, twin.rxRef := some 6 })) (fun s => decide (s.linkOn = true ∧ s.twin.rxRef = some 6 ∧ (9 : Nat) ≠ (6 + 1) % 65536))) &&
    (holds (({ up with twin.enabled := true, twin.characters := true, twin.rxRef := some 6 })) (fun s => decide (s.linkOn = true))) &&
    (holds ({ up with twin.enabled := true }) (fun s => decide (s.twin.enabled = true ∧ s.power.vintReady = true ∧ s.get Obj.twinLinkState = 0 ∧ s.armed .authRestart = false))) &&
    (holds (((({ up with twin.enabled := true, twin.characters := true, twin.rxRef := some 6 })).set Obj.twinLinkState 1).arm .twinHello 5) (fun s => decide (s.deadline .twinHello = some 5 ∧ s.linkOn = true ∧ s.get Obj.twinLinkState = 1 ∧ s.credits 0xB8 ≠ 0))) &&
    (holds ((((({ up with twin.enabled := true, twin.characters := true, twin.rxRef := some 6 })).set Obj.twinLinkState 1).set Obj.twinPartnerSerial 77)) (fun s => decide (s.linkOn = true ∧ s.twin.rxRef = some 6 ∧ s.get Obj.twinLinkState = 1 ∧ leNat s.peerSerial = 77 ∧ leNat s.ownSerial = 0 ∧ s.credits 0xB8 ≠ 0))) &&
    (holds ((((({ up with twin.enabled := true, twin.characters := true, twin.rxRef := some 6 })).set Obj.twinLinkState 1).set Obj.twinPartnerSerial 77)) (fun s => decide (s.linkOn = true ∧ s.twin.rxRef = some 6 ∧ s.get Obj.twinLinkState = 1 ∧ 78 ≠ leNat s.peerSerial))) &&
    (holds ({ (((({ up with twin.enabled := true, twin.characters := true, twin.rxRef := some 6 })).set Obj.twinLinkState 1).set Obj.twinPartnerSerial 77) with twin.helloSeen := true }) (fun s => decide (s.linkOn = true ∧ s.twin.rxRef = some 6 ∧ s.get Obj.twinLinkState = 1 ∧ s.twin.helloSeen = true ∧ s.twin.takeover = none))) &&
    (holds ({ { (((({ up with twin.enabled := true, twin.characters := true, twin.rxRef := some 6 })).set Obj.twinLinkState 1).set Obj.twinPartnerSerial 77) with twin.helloSeen := true } with twin.authFails := [0,0] }) (fun s => decide (s.linkOn = true ∧ s.twin.rxRef = some 6 ∧ s.get Obj.twinLinkState = 1 ∧ s.twin.helloSeen = true ∧ s.twin.takeover = none))) &&
    (holds ((({ up with twin.enabled := true, twin.characters := true, twin.rxRef := some 6 })).arm .authRestart 5) (fun s => decide (s.deadline .authRestart = some 5 ∧ s.linkOn = true))) &&
    (holds (((((({ up with twin.enabled := true, twin.characters := true, twin.rxRef := some 6 })).set Obj.twinLinkState 2).set Obj.twinRole 2)).arm .twinHeartbeat 5) (fun s => decide (s.deadline .twinHeartbeat = some 5 ∧ s.get Obj.twinLinkState = 2))) &&
    (holds ((((({ up with twin.enabled := true, twin.characters := true, twin.rxRef := some 6 })).set Obj.twinLinkState 2).set Obj.twinRole 2)) (fun s => decide (s.linkOn = true ∧ s.twin.rxRef = some 6 ∧ s.get Obj.twinLinkState = 2 ∧ s.pins.twinAct = false ∧ s.twin.counterIn < 9))) &&
    (holds ({ (((({ up with twin.enabled := true, twin.characters := true, twin.rxRef := some 6 })).set Obj.twinLinkState 2).set Obj.twinRole 2) with twin.counterIn := 10 }) (fun s => decide (s.linkOn = true ∧ s.twin.rxRef = some 6 ∧ s.get Obj.twinLinkState = 2 ∧ s.pins.twinAct = false ∧ 9 ≤ s.twin.counterIn))) &&
    (holds ((((({ up with twin.enabled := true, twin.characters := true, twin.rxRef := some 6 })).set Obj.twinLinkState 2).set Obj.twinRole 2)) (fun s => decide (s.linkOn = true ∧ s.twin.rxRef = some 6 ∧ s.get Obj.twinLinkState = 2 ∧ s.pins.twinAct = false)))) = true := by
  decide +kernel

theorem witness_RolesFollowTheRelay :
    ((holds (({ act with twin.enabled := true, twin.claiming := true, pins.twinAct := true }).arm .relayTime 9) (fun s => decide (s.twin.enabled = true ∧ s.eng.commit = none ∧ s.power.state ≠ .off ∧ s.twin.selCounted = false ∧ s.twin.claiming = true ∧ s.twin.takeover = none))) &&
    (holds (({ act with twin.enabled := true, twin.relayLost := true, pins.twinAct := true }).arm .relayLost 9) (fun s => decide (s.twin.enabled = true ∧ s.eng.commit = none ∧ s.power.state ≠ .off ∧ s.twin.selCounted = false ∧ s.twin.claiming = false ∧ s.pins.twinAct = true ∧ s.twin.relayLost = true))) &&
    (holds ({ act with twin.enabled := true }) (fun s => decide (s.twin.enabled = true ∧ s.eng.commit = none ∧ s.power.state ≠ .off ∧ s.twin.selCounted = false ∧ s.twin.claiming = false ∧ s.pins.twinAct = false))) &&
    (holds (({ act with twin.enabled := true, twin.selCounted := true, pins.twinAct := true, pins.rfMuteN := true }).set Obj.twinRole 1) (fun s => decide (s.twin.enabled = true ∧ s.eng.commit = none ∧ s.power.state ≠ .off ∧ s.twin.selCounted = true ∧ s.pins.twinAct = true ∧ s.get Obj.twinRole = 1))) &&
    (holds ((({ act with twin.enabled := true, twin.characters := true, twin.rxRef := some 6 })).arm .startWait 5) (fun s => decide (s.twin.enabled = true ∧ s.eng.commit = none ∧ s.pins.twinAct = false ∧ s.twin.selCounted = false ∧ s.deadline .startWait = some 5 ∧ s.get Obj.twinLinkState ≠ 2))) &&
    (holds ((({ act with twin.enabled := true, twin.characters := true, twin.rxRef := some 6 })).arm .claimInterval 5) (fun s => decide (s.twin.enabled = true ∧ s.eng.commit = none ∧ s.pins.twinAct = false ∧ s.twin.selCounted = false ∧ s.deadline .claimInterval = some 5 ∧ s.get Obj.twinLinkState ≠ 2))) &&
    (holds (({ (((({ act with twin.enabled := true, twin.characters := true, twin.rxRef := some 6 })).set Obj.twinLinkState 2).set Obj.twinRole 2) with twin.lastHeartbeatRole := 1 }).arm .twinLinkDown 5) (fun s => decide (s.twin.enabled = true ∧ s.eng.commit = none ∧ s.pins.twinAct = false ∧ s.twin.selCounted = false ∧ s.deadline .twinLinkDown = some 5 ∧ s.get Obj.twinLinkState = 2 ∧ s.get Obj.twinRole = 2 ∧ s.twin.lastHeartbeatRole = 1 ∧ CoreId.press ∉ s.sec.halted))) &&
    (holds ((((({ act with twin.enabled := true, twin.characters := true, twin.rxRef := some 6 })).set Obj.twinLinkState 2).set Obj.twinRole 2)) (fun s => decide (s.twin.enabled = true ∧ s.eng.commit = none ∧ s.pins.twinAct = false ∧ s.twin.selCounted = false ∧ s.linkOn = true ∧ s.twin.rxRef = some 6 ∧ s.get Obj.twinLinkState = 2 ∧ s.get Obj.twinRole = 2 ∧ CoreId.press ∉ s.sec.halted))) &&
    (holds ((((({ act with twin.enabled := true, twin.characters := true, twin.rxRef := some 6 })).set Obj.twinLinkState 2).set Obj.twinRole 1).arm .twinLinkDown 5) (fun s => decide (s.twin.enabled = true ∧ s.eng.commit = none ∧ s.deadline .twinLinkDown = some 5 ∧ s.get Obj.twinLinkState = 2 ∧ s.get Obj.twinRole = 1))) &&
    (holds (({ ({ act with twin.enabled := true, twin.characters := true, twin.rxRef := some 6 }) with twin.claiming := true, pins.twinAct := true }).arm .relayTime 5) (fun s => decide (s.twin.enabled = true ∧ s.eng.commit = none ∧ s.deadline .relayTime = some 5 ∧ s.twin.claiming = true ∧ s.power.state = .active ∧ s.get Obj.twinLinkState ≠ 2))) &&
    (holds (({ (((({ act with twin.enabled := true, twin.characters := true, twin.rxRef := some 6 })).set Obj.twinLinkState 2).set Obj.twinRole 2) with twin.relayLost := true, pins.twinAct := true, twin.peerReady := 0xFF }).arm .relayLost 5) (fun s => decide (s.twin.enabled = true ∧ s.eng.commit = none ∧ s.deadline .relayLost = some 5 ∧ (Claims.expired s .relayLost 5).demoteDue = true ∧ s.power.state = .active))) &&
    (holds (({ (((({ act with twin.enabled := true, twin.characters := true, twin.rxRef := some 6 })).set Obj.twinLinkState 2).set Obj.twinRole 2) with twin.relayLost := true, pins.twinAct := true, twin.peerReady := 0xFE }).arm .relayLost 5) (fun s => decide (s.twin.enabled = true ∧ s.eng.commit = none ∧ s.deadline .relayLost = some 5 ∧ (Claims.expired s .relayLost 5).demoteDue = false)))) = true := by
  decide +kernel

theorem witness_RackingAndHandovers :
    ((holds ((((({ up with twin.enabled := true, twin.characters := true, twin.rxRef := some 6 })).set Obj.twinLinkState 2).set Obj.twinRole 1).arm .rack 5) (fun s => decide (s.deadline .rack = some 5 ∧ s.get Obj.twinRole = 1 ∧ s.get Obj.twinLinkState = 2))) &&
    (holds ((((({ up with twin.enabled := true, twin.characters := true, twin.rxRef := some 6 })).set Obj.twinLinkState 2).set Obj.twinRole 2)) (fun s => decide (s.linkOn = true ∧ s.twin.rxRef = some 6 ∧ s.get Obj.twinLinkState = 2 ∧ s.get Obj.twinRole = 2 ∧ (s.imageSlot 3).gen ≠ 3))) &&
    (holds ({ (((({ up with twin.enabled := true, twin.characters := true, twin.rxRef := some 6 })).set Obj.twinLinkState 2).set Obj.twinRole 2) with twin.slot1 := ⟨3, 1, [1#8, 2#8], false⟩ }) (fun s => decide (s.linkOn = true ∧ s.twin.rxRef = some 6 ∧ s.get Obj.twinLinkState = 2 ∧ s.get Obj.twinRole = 2 ∧ (s.imageSlot 3).gen = 3 ∧ (s.imageSlot 3).committed = false ∧ (s.imageSlot 3).data ≠ []))) &&
    (holds ({ (((({ up with twin.enabled := true, twin.characters := true, twin.rxRef := some 6 })).set Obj.twinLinkState 2).set Obj.twinRole 2) with twin.slot1 := ⟨3, 1, ((((({ up with twin.enabled := true, twin.characters := true, twin.rxRef := some 6 })).set Obj.twinLinkState 2).set Obj.twinRole 2)).rackImage 3, false⟩ }) (fun s => decide (s.linkOn = true ∧ s.twin.rxRef = some 6 ∧ s.get Obj.twinLinkState = 2 ∧ s.get Obj.twinRole = 2 ∧ (s.imageSlot 3).gen = 3))) &&
    (holds ({ (((({ up with twin.enabled := true, twin.characters := true, twin.rxRef := some 6 })).set Obj.twinLinkState 2).set Obj.twinRole 2) with twin.slot1 := ⟨3, 1, [1#8, 2#8], false⟩ }) (fun s => decide (s.linkOn = true ∧ s.twin.rxRef = some 6 ∧ s.get Obj.twinLinkState = 2 ∧ s.get Obj.twinRole = 2 ∧ (s.imageSlot 3).gen = 3 ∧ s.imageOk (s.imageSlot 3) 2120 = false ∧ (s.imageSlot 3).committed = false))) &&
    (holds ready (fun s => decide (s.linkOn = true ∧ s.twin.rxRef = some 6 ∧ s.get Obj.twinLinkState = 2 ∧ s.get Obj.twinRole = 2 ∧ (s.imageSlot 3).gen = 3 ∧ (s.imageSlot 3).committed = true ∧ s.credits 0xB8 ≠ 0))) &&
    (holds ready (fun s => decide (s.linkOn = true ∧ s.twin.rxRef = some 6 ∧ s.get Obj.twinLinkState = 2 ∧ s.get Obj.twinRole = 2 ∧ ¬ ((s.imageSlot 4).gen = 4 ∧ (s.imageSlot 4).committed = true)))) &&
    (holds ((((({ up with twin.enabled := true, twin.characters := true, twin.rxRef := some 6 })).set Obj.twinLinkState 2).set Obj.twinRole 2)) (fun s => decide (s.linkOn = true ∧ s.twin.rxRef = some 6 ∧ s.get Obj.twinLinkState = 2 ∧ s.get Obj.twinRole = 2 ∧ s.readyFlags ≠ 0xFF))) &&
    (holds (({ (({ up with twin.enabled := true, twin.characters := true, twin.rxRef := some 6 })).set Obj.twinRole 1 with power.state := .active, pins.twinAct := true, twin.handoverGen := some 3 }).arm .handover 5) (fun s => decide (s.linkOn = true ∧ s.twin.rxRef = some 6 ∧ s.armed .handover = true ∧ s.twin.handoverGen = some 3 ∧ s.pins.twinAct = true ∧ s.eng.commit = none ∧ s.power.state = .active))) &&
    (holds (({ (((({ up with twin.enabled := true, twin.characters := true, twin.rxRef := some 6 })).set Obj.twinLinkState 2).set Obj.twinRole 2) with twin.handoverGen := some 3 }).arm .handover 5) (fun s => decide (s.deadline .handover = some 5)))) = true := by
  decide +kernel

theorem witness_CommandWrites :
    ((writes (.revokeSlot0 (secure 5 (num Obj.bootRevokeSlot0 1))) (admin) (Obj.bootRevokeSlot0) (1) t4) &&
    (writes (.clearHighWater host) (returned) (Obj.queueClearHighWater) (1) t4) &&
    (writes (.stickyClear host 0x7200 3 3) (returned.set Obj.dictSticky 3) (Obj.dictSticky) (3) (fun _ _ _ _ => isRw1c Obj.dictSticky)) &&
    (writes (.stickyClearAll host) (returned) (Obj.stickyClearAll) (0xC1EA) t4) &&
    (writes (.updateBegin host 1000) (returned) (Obj.updateBegin) (1000) t4) &&
    (writes (.updateVerify host) (receiving 1000) (Obj.updateVerify) (1) t4) &&
    (writes (.updateActivate host) (returned.set Obj.updateState 3) (Obj.updateActivate) (1) t4) &&
    (writes (.updateAbort host) (receiving 0) (Obj.updateAbort) (1) t4) &&
    (writes (.syncNow host) (returned) (Obj.converterSyncNow) (1) t4) &&
    (writes (.runInit host) (returned) (Obj.frontEndRunInit) (1) t4) &&
    (writes (.commandedShutdown host) (returned) (Obj.netShutdown) (0x5D0F) t4) &&
    (writes (.clearLockout host) (returned.set Obj.netState 3) (Obj.netClearLockout) (1) t4) &&
    (writes (.sealClear host) ({ returned.set Obj.sealMode 1 with pa.breach := true, pins.sealN := true }) (Obj.sealClear) (1) t4) &&
    (writes (.clearLatch host) (returned.set Obj.railSeqLatchedSlot 2) (Obj.railSeqClearLatch) (1) t4) &&
    (writes (.tiuArm host) (returned) (Obj.tiuArm) (1) t4) &&
    (writes (.tiuCancel host) (returned.set Obj.tiuState 2) (Obj.tiuCancel) (1) t4) &&
    (writes (.lidRebaseline host) (returned.set Obj.lidState 2) (Obj.lidRebaseline) (1) t4) &&
    (writes (.caskClear host) (up) (Obj.caskClear) (0xCA5C) t4) &&
    (writes (.handover host) ({ ((returned.set Obj.twinEnable 1).set Obj.twinRole 1).set Obj.twinLinkState 2 with twin.enabled := true, pins.twinAct := true, twin.peerReady := 0xFF }) (Obj.twinHandover) (1) t4)) = true := by
  decide +kernel

theorem witness_PowerKeysSessionsAndDebug :
    ((writes (.requestDormant host) (returned) (Obj.powerStateRequest) (2) (fun _ _ _ u => (u.activity.powerRefusal 2).isNone && u.eng.commit.isNone)) &&
    (writes (.requestDormant host) (committing returned) (Obj.powerStateRequest) (2) (fun _ _ _ u => (u.activity.powerRefusal 2).isNone && u.eng.commit.isSome)) &&
    (writes (.requestStandby host) (returned) (Obj.powerStateRequest) (3) (fun _ _ _ u => (u.activity.powerRefusal 3).isNone && u.eng.commit.isNone)) &&
    (writes (.requestStandby host) (committing returned) (Obj.powerStateRequest) (3) (fun _ _ _ u => (u.activity.powerRefusal 3).isNone && u.eng.commit.isSome)) &&
    (writes (.requestActive (secure 5 (num Obj.powerStateRequest 4))) (admin) (Obj.powerStateRequest) (4) (fun _ _ _ u => (u.activity.powerRefusal 4).isNone && u.eng.commit.isNone)) &&
    (writes (.requestActive (secure 5 (num Obj.powerStateRequest 4))) (committing admin) (Obj.powerStateRequest) (4) (fun _ _ _ u => (u.activity.powerRefusal 4).isNone && u.eng.commit.isSome)) &&
    (writes (.requestService host) (returned) (Obj.powerStateRequest) (5) (fun _ _ _ u => (u.activity.powerRefusal 5).isNone && u.eng.commit.isNone)) &&
    (writes (.requestService host) (committing returned) (Obj.powerStateRequest) (5) (fun _ _ _ u => (u.activity.powerRefusal 5).isNone && u.eng.commit.isSome)) &&
    (writes (.requestRestart host) (returned) (Obj.powerStateRequest) (6) (fun _ _ _ u => (u.activity.powerRefusal 6).isNone && u.eng.commit.isNone)) &&
    (writes (.requestRestart host) (committing returned) (Obj.powerStateRequest) (6) (fun _ _ _ u => (u.activity.powerRefusal 6).isNone && u.eng.commit.isSome)) &&
    (writes (.lifecycleConfirm host 5) (up) (Obj.lifecycleConfirm) (5) t4) &&
    (writes (.lifecycleRequest host 1) ({ up with sec.confirm := some (up.serialLow ^^^ 0xA5A5, up.now), sec.kwk := some 5, sec.keyStore := [⟨0, 1, 0, 5, 1, true⟩, ⟨1, 1, 1, 5, 2, true⟩, ⟨2, 1, 2, 5, 3, true⟩, ⟨3, 1, 3, 5, 4, true⟩] }) (Obj.lifecycleRequest) (1) (fun _ _ _ u => u.confirmed && (u.lifecycleUnmet 1).isNone && u.eng.commit.isNone)) &&
    (writes (.lifecycleRequest host 1) (up) (Obj.lifecycleRequest) (1) (fun _ _ _ u => !u.confirmed && u.eng.commit.isNone)) &&
    (served (.roleKeyWrite host 2 (List.replicate 32 7#8)) up (fun _ _ c u => u.lifecycle == 0 && (Claims.writeFault c u (Obj.keysRoleKey 2) (leNat (List.replicate 32 7#8)) 32).isNone)) &&
    (served (.sessionOpen host 2 1 0xFFFF 99) ({ up with sec.fuses := 1, sec.kwk := some 5, sec.keyStore := [⟨2, 1, 2, 5, 3, true⟩] }) (fun r _ _ u => (u.sessionRefusal (reqPeer r) 2 1 0xFFFF).isNone && r.trailer.isNone)) &&
    (writes (.debugRequest (secure 5 (num Obj.debugRequest 1)) 1) ({ admin with power.state := .service }) (Obj.debugRequest) (1) t4)) = true := by
  decide +kernel

/-- PowerKeysSessionsAndDebug: the request for RETURNED of a confirmed Administrator. Whether its answer finds a credit turns
on how the erasure ends, which is free. -/
theorem witness_erasure :
    (let b := num Obj.lifecycleRequest 3
     let s : State := { admin with power.state := .service, sec.confirm := some (admin.serialLow ^^^ 0xA5A5, admin.now) }
     (entered s (secure 5 b) 1 0 b).any (fun (c, u) => (Claims.writeFault c u Obj.lifecycleRequest 3 1).isNone &&
       u.confirmed && (u.lifecycleUnmet 3).isNone && u.eng.commit.isNone)) = true := by
  decide +kernel

theorem witness_DictionaryServices :
    ((served (.read host 0x1000 1) returned (fun r _ c u => (firstAbort [u.lifecycleCheck r.via false 0x1000 1 0 0, u.roleCheck c.role false 0x1000 1 0, u.powerCheck, u.readyCheck false 0x1000, u.readFault (objKey 0x1000 1)]).isNone)) &&
    (served (.debugChallengeRead host) returned (fun r _ c u => (firstAbort [u.lifecycleCheck r.via false 0x1a30 4 0 0, u.roleCheck c.role false 0x1a30 4 0, u.powerCheck, u.readyCheck false 0x1a30, u.readFault (objKey 0x1a30 4)]).isNone)) &&
    (writes (.write host 0x1100 3 2 [7#8]) (returned) (0x110003) (7) (fun _ _ _ u => (findObj 0x1100 3).any (fun d => d.acc == .rw && d.ty.code == 2) && u.eng.commit.isNone)) &&
    (writes (.write host 0x1100 3 2 [7#8]) (committing returned) (0x110003) (7) (fun _ _ _ u => (findObj 0x1100 3).any (fun d => d.acc == .rw && d.ty.code == 2) && u.eng.commit.isSome && u.eng.waiting.isNone)) &&
    (writes (.write host 0x1100 3 2 [7#8]) ({ committing returned with eng.waiting := some ⟨callerOf host 1 0, none, [], 0, 0, true⟩ }) (0x110003) (7) (fun _ _ _ u => (findObj 0x1100 3).any (fun d => d.acc == .rw && d.ty.code == 2) && u.eng.commit.isSome && u.eng.waiting.isSome)) &&
    (served (.stagedWrite host 0x1100 3 2 [7#8]) returned (fun r _ c u => (findObj 0x1100 3).any (fun d => d.ty.code == 2 && stageable d 0x110003 && (u.stageId c).any (fun who => decide ((putEntry (u.stageOf who) 0x110003 (storedValue d 7)).length ≤ 64 ∧ stageBytes (putEntry (u.stageOf who) 0x110003 (storedValue d 7)) ≤ 2048))) && (firstAbort [u.lifecycleCheck r.via true 0x1100 3 7 1, u.roleCheck c.role true 0x1100 3 7, u.powerCheck, u.readyCheck true 0x1100, u.writeValueCheck 0x1100 3 2 1 7, u.activity.precondition 0x110003 7, u.activity.heldCheck c [(0x110003, 7)]]).isNone)) &&
    (served (.discard host) ({ returned with eng.stages := [⟨.host, [(0x110003, 4)]⟩] }) (fun _ _ c u => (u.stageId c).isSome && u.invalidCheck.isNone && (u.needRole c.role 0).isNone && u.powerCheck.isNone && (u.readyCheck true 0x7210).isNone && u.transCheck.isNone && u.eng.commit.isNone)) &&
    (served (.commit host) ({ returned with eng.stages := [⟨.host, [(0x110003, 4)]⟩] }) (fun _ _ c u => (u.stageId c).isSome && u.invalidCheck.isNone && (u.needRole c.role 0).isNone && u.powerCheck.isNone && (u.readyCheck true 0x7210).isNone && u.transCheck.isNone && u.eng.commit.isNone)) &&
    (writes (.restoreDefaults host) (returned) (Obj.configRestoreDefaults) (0xDEF0) (fun _ _ c u => (u.activity.heldCheck c u.activity.restoreEntries).isNone && u.eng.commit.isNone)) &&
    (writes (.marginHigh host 2) (returned.set Obj.railSeqState 4) (Obj.marginCommand 2) (1) (fun _ _ _ u => u.eng.commit.isNone)) &&
    (writes (.marginLow host 2) (returned.set Obj.railSeqState 4) (Obj.marginCommand 2) (2) (fun _ _ _ u => u.eng.commit.isNone)) &&
    (writes (.marginNominal host 2) (returned.set Obj.railSeqState 4) (Obj.marginCommand 2) (0) (fun _ _ _ u => u.eng.commit.isNone)) &&
    (served (.blockRead host 0x1000 1 false 0 100) returned (fun r _ c u => (firstAbort [u.lifecycleCheck r.via false 0x1000 1 0 0, u.roleCheck c.role false 0x1000 1 0, u.powerCheck, u.readyCheck false 0x1000]).isNone)) &&
    (served (.blockRead host 0x1000 1 false 5 100) ({ returned with blockReads := [⟨0xFFFF, 0x1000, 1, false, 5, 20, List.replicate 20 3#8⟩] }) (fun r _ c u => (firstAbort [u.lifecycleCheck r.via false 0x1000 1 0 0, u.roleCheck c.role false 0x1000 1 0, u.powerCheck, u.readyCheck false 0x1000]).isNone && (u.blockOf false r.src.toNat).any (fun x => x.total != 0 && x.index == 0x1000 && x.sub == 1 && !x.whole && x.next == 5))) &&
    (served (.blockWrite host 0x1120 2 false 0 128 (List.replicate 64 0#8)) returned (fun r _ c u => (firstAbort [u.lifecycleCheck r.via true 0x1120 2 (leNat (List.replicate 64 0#8)) 128, u.roleCheck c.role true 0x1120 2 (leNat (List.replicate 64 0#8)), u.powerCheck, u.transCheck, u.readyCheck true 0x1120]).isNone && (u.blockOf true r.src.toNat).isNone && (u.segmentCheck c 0x1120 2 128).isNone)) &&
    (served (.blockWrite host 0x1120 2 true 0 128 (List.replicate 128 0#8)) returned (fun r _ c u => (firstAbort [u.lifecycleCheck r.via true 0x1120 2 (leNat (List.replicate 128 0#8)) 128, u.roleCheck c.role true 0x1120 2 (leNat (List.replicate 128 0#8)), u.powerCheck, u.transCheck, u.readyCheck true 0x1120]).isNone && (u.blockOf true r.src.toNat).isNone && (u.segmentCheck c 0x1120 2 128).isNone)) &&
    (served (.updateData host 0 1000 (List.replicate 100 1#8)) (receiving 0) (fun r _ c u => (firstAbort [u.lifecycleCheck r.via true 0x9000 4 (leNat (List.replicate 100 1#8)) 1000, u.roleCheck c.role true 0x9000 4 (leNat (List.replicate 100 1#8)), u.powerCheck, u.transCheck, u.readyCheck true 0x9000]).isNone && decide (u.get Obj.updateState = 1 ∧ 0 = u.get Obj.updateReceived ∧ 100 ≤ u.upd.length))) &&
    ((let w := returned; let es := [(0x110003, 7), (0x311000, 5)]; decide (w.transition = none ∧ w.powerCheck = none ∧ w.cfg.writeFailed = false ∧ firstFailure es (w.allChecks es) = none ∧ es.filter (fun e => isPersistentRw e.1) ≠ []) && es.all (fun e => (w.readyCheck true (e.1 / 256)).isNone && (w.precondition e.1 e.2).isNone)))) = true := by
  decide +kernel

theorem witness_BridgeAddressAndTime :
    ((served (.timeSet (atPort 2) false 100 5 1) returned (fun r _ _ u => decide (256 ≤ reqPeer r) && u.invalidCheck.isNone && u.powerCheck.isNone)) &&
    ((let s := returned; let r := atPort 2; decide (r.wf = true ∧ r.via ≠ .host ∧ r.trailer = none ∧ r.prio = 2 ∧ s.portUp (viaPort r.via) = true ∧ s.vintServes = true ∧ s.field.effective ≠ 0xFFFF ∧ s.field.effective ≠ r.src.toNat ∧ 256 ≤ r.src.toNat ∧ s.bridges = false ∧ s.groupFrom r.src.toNat = none ∧ (∀ x ∈ s.field.retx, x.src = r.src.toNat → x.tid ≠ r.tid.toNat) ∧ 1 ≤ s.credits (intakeQueue r.via 9) ∧ s.lifecycle ≠ 4 ∧ s.running = true))) &&
    (served (.assign (atPort 2) 9 (BitVec.ofNat 64 (leNat returned.serial)) 1 2) returned (fun _ _ c u => decide (leBytes 8 (leNat returned.serial) = u.serial) && u.invalidCheck.isNone && (u.needRole c.role 2).isNone && u.powerCheck.isNone && u.transCheck.isNone && (u.readyCheck true 0x1100).isNone && (u.assignFault c [(Obj.fieldNodeAddress, 9), (Obj.fieldSegmentA, 1), (Obj.fieldSegmentB, 2)]).isNone && u.eng.commit.isNone)) &&
    ((Claims.message (.assign (atPort 2) 9 5 1 2)).any (fun x => decide (x.1 = atPort 2 ∧ x.2.1 = 10 ∧ x.2.2.1 = 0) && (Claims.received returned x.1 10 0 x.2.2.2).isSome) && decide (leBytes 8 5 ≠ returned.serial)) &&
    (served (.getStatus (atPort 5)) returned (fun _ _ c u => u.invalidCheck.isNone && (u.needRole c.role 2).isNone && (u.needRole c.role 0).isNone && u.powerCheck.isNone && u.transCheck.isNone && (u.readyCheck true 0x1120).isNone && (u.readyCheck false 0x1120).isNone && u.eng.commit.isNone)) &&
    (served (.ping (atPort 5) 3) returned (fun _ _ c u => u.invalidCheck.isNone && (u.needRole c.role 2).isNone && (u.needRole c.role 0).isNone && u.powerCheck.isNone && u.transCheck.isNone && (u.readyCheck true 0x1120).isNone && (u.readyCheck false 0x1120).isNone && u.eng.commit.isNone)) &&
    (served (.setRoutes (atPort 5) 0 8 [1#8, 2#8]) returned (fun _ _ c u => u.invalidCheck.isNone && (u.needRole c.role 2).isNone && (u.needRole c.role 0).isNone && u.powerCheck.isNone && u.transCheck.isNone && (u.readyCheck true 0x1120).isNone && (u.readyCheck false 0x1120).isNone && u.eng.commit.isNone && (routesFault 0 8 [1#8, 2#8]).isNone && (u.heldCheck c [(Obj.bridgeRoute, u.routesWith 0 [1#8, 2#8])]).isNone)) &&
    (served (.setForwarding (atPort 5) 1) returned (fun _ _ c u => u.invalidCheck.isNone && (u.needRole c.role 2).isNone && (u.needRole c.role 0).isNone && u.powerCheck.isNone && u.transCheck.isNone && (u.readyCheck true 0x1120).isNone && (u.readyCheck false 0x1120).isNone && u.eng.commit.isNone && (u.heldCheck c [(Obj.bridgeEnable, 1)]).isNone)) &&
    ((let s := returned; [Instr.timeSet host false 1 2 1, .assign host 9 5 1 2, .getStatus host, .setRoutes host 0 8 [1#8, 2#8], .setForwarding host 1, .ping host 3].all (fun i => (Claims.message i).any (fun x => x.1.via == .host && decide (9 ≤ x.2.1 ∧ x.2.1 ≤ 11) && s.vintServes))))) = true := by
  decide +kernel

theorem witness_RequestsReachTheirService :
    ((served (.read host 0x1000 1) returned t4) &&
    (served (.ping (atPort 5) 3) returned t4) &&
    (served (.revokeSlot0 (secure 5 (num Obj.bootRevokeSlot0 1))) admin t4) &&
    ((let s : State := { returned with q.msgs := [⟨0x84, qDepth 0x84, false, 1, 0, .raw []⟩, ⟨0x84, 1, true, 1, 0, .raw []⟩] }; let i := Instr.ping (atPort 5) 3; (Claims.message i).any (fun (r, svc, aux, b) => !isUpdateSegment svc (reqMessage r b) && (Claims.entry s r svc aux b).any (fun x => decide (x.2.derivedWaits < (Claims.finished s r (x.2.act x.1 b)).derivedWaits)))))) = true := by
  decide +kernel

end Sys2Proof.Tests
end

namespace Sys2Proof.Machine

open Sys2Proof

/-! ## The queue of waiting commands under the engines of a tick

Nothing that a tick does writes the queue `pending`: its commands come from outside the block (log entry 7). Kept
(Laws/Kept.lean) says so of canonical memories alone; here it is an equation for every state, one for each function
that a tick may reach, called functions first. -/

@[simp] theorem pending_ite {c : Prop} [Decidable c] (s t : State) :
    (if c then s else t).pending = if c then s.pending else t.pending := apply_ite State.pending c s t

theorem pending_eq_of_ite {c : Prop} [Decidable c] {s t : State} {q : List Instr} (hs : s.pending = q)
    (ht : t.pending = q) : (if c then s else t).pending = q := by
  split
  · exact hs
  · exact ht

theorem foldl_pending {α : Type} {f : State → α → State} (hf : ∀ u a, (f u a).pending = u.pending) (l : List α)
    (s : State) : (l.foldl f s).pending = s.pending := by
  induction l generalizing s with
  | nil => rfl
  | cons a l ih => exact (ih (f s a)).trans (hf s a)

theorem foldl_snd_pending {α β : Type} {f : β × State → α → β × State}
    (hf : ∀ a x, (f a x).2.pending = a.2.pending) (l : List α) (a : β × State) : (l.foldl f a).2.pending = a.2.pending := by
  induction l generalizing a with
  | nil => rfl
  | cons x l ih => exact (ih (f a x)).trans (hf a x)

section

variable (s : State)

/-! ### Time and random draws -/

@[simp] theorem State.elapse_pending (k : Nat) : (s.elapse k).pending = s.pending := by
  simp [State.elapse]

@[simp] theorem State.draw_pending : s.draw.2.pending = s.pending := rfl

@[simp] theorem State.drawRandom_pending (bits : Nat) : (s.drawRandom bits).2.pending = s.pending := rfl

@[simp] theorem State.sealKey_pending (index key : Nat) : (s.sealKey index key).pending = s.pending := rfl

/-! ### Queues -/

@[simp] theorem State.noteHigh_pending (q : Nat) : (s.noteHigh q).pending = s.pending := by
  simp [State.noteHigh]

@[simp] theorem State.place_pending (m : QMsg) : (s.place m).pending = s.pending := by
  simp [State.place]

@[simp] theorem State.placeEscape_pending (m : QMsg) : (s.placeEscape m).pending = s.pending := by
  simp [State.placeEscape]

theorem State.pending_of_placeNext {s t : State} {q : Nat} (h : s.placeNext q = some t) : t.pending = s.pending := by
  unfold State.placeNext at h
  split at h
  · cases h
  · split at h
    · cases h
      simp
    · cases h

@[simp] theorem State.placeWaitingN_pending (k qn : Nat) (s : State) :
    (State.placeWaitingN k qn s).pending = s.pending := by
  induction k generalizing s with
  | zero => rfl
  | succ k ih =>
    unfold State.placeWaitingN
    split
    · next h => exact (ih _).trans (State.pending_of_placeNext h)
    · rfl

@[simp] theorem State.placeWaiting_pending (q : Nat) : (s.placeWaiting q).pending = s.pending := by
  simp [State.placeWaiting]

@[simp] theorem State.escapeWaiting_pending (cls : Nat) : (s.escapeWaiting cls).pending = s.pending := by
  unfold State.escapeWaiting
  split <;> simp

@[simp] theorem State.handle_pending (f : State → State) (hf : ∀ u, (f u).pending = u.pending) :
    (s.handle f).pending = s.pending := by
  simp [State.handle, hf]

@[simp] theorem State.pass_pending (q slots : Nat) : (s.pass q slots).pending = s.pending := by
  simp [State.pass]

@[simp] theorem State.take_pending (q : Nat) : (s.take q).pending = s.pending := by
  unfold State.take
  split <;> simp

/-! ### Records and sticky flags -/

@[simp] theorem State.txExpired_pending (n : Nat) : (s.txExpired n).pending = s.pending := by
  simp [State.txExpired]

@[simp] theorem State.flagFirst_pending (k bit : Nat) (f : State → State) (hf : ∀ u, (f u).pending = u.pending) :
    (s.flagFirst k bit f).pending = s.pending := by
  simp [State.flagFirst, hf]

/-! ### The Cask and the Vintage -/

@[simp] theorem State.bumpCtl_pending (off n by_ : Nat) : (s.bumpCtl off n by_).pending = s.pending := rfl

@[simp] theorem State.setWriteIndex_pending (i : Nat) : (s.setWriteIndex i).pending = s.pending := rfl

@[simp] theorem State.rewriteRepeat_pending (slot count : Nat) :
    (s.rewriteRepeat slot count).pending = s.pending := by
  unfold State.rewriteRepeat
  dsimp only
  rw [State.setCtl_pending, State.setCask_pending, State.setCask_pending, State.setCtl_pending]

@[simp] theorem State.queueVintage_pending (entry : Nat) (bs : Bytes) :
    (s.queueVintage entry bs).pending = s.pending := by
  unfold State.queueVintage
  refine pending_eq_of_ite ?_ ?_
  · exact pending_eq_of_ite rfl (pending_eq_of_ite rfl rfl)
  · rw [State.arm_pending]
    exact pending_eq_of_ite rfl (pending_eq_of_ite rfl rfl)

@[simp] theorem State.ownLog_pending (code sev : Nat) (payload : Bytes) :
    (s.ownLog code sev payload).pending = s.pending := rfl

@[simp] theorem State.takeEvent_pending (bs : Nat → Bytes) : (s.takeEvent bs).pending = s.pending := by
  unfold State.takeEvent
  split
  · simp
  · exact (State.flagFirst_pending _ _ _ _ fun u => u.ownLog_pending 0x8405 0 []).trans (s.bump_pending _ _)

@[simp] theorem State.vintFor_pending (m : LogMsg) (u : VintUse) (slot : Nat) :
    (s.vintFor m u slot).pending = s.pending := by
  unfold State.vintFor
  cases u with
  | lifecycle =>
    dsimp only
    split <;> simp
  | _ => simp

@[simp] theorem State.dropRecord_pending (m : LogMsg) : (s.dropRecord m).pending = s.pending := by
  simp [State.dropRecord]

@[simp] theorem State.sealCask_pending : s.sealCask.pending = s.pending := by
  simp [State.sealCask]

@[simp] theorem State.raiseIndex_pending (i : Nat) : (s.raiseIndex i).pending = s.pending := by
  simp [State.raiseIndex]

@[simp] theorem State.passRecord_pending (slot n c : Nat) : (s.passRecord slot n c).pending = s.pending := by
  simp [State.passRecord]

@[simp] theorem State.writeRecord_pending (m : LogMsg) (u : VintUse) (snapshot truncated ok1 ok2 : Bool) :
    (s.writeRecord m u snapshot truncated ok1 ok2).pending = s.pending := by
  simp [State.writeRecord]

@[simp] theorem State.commitMsg_pending (m : LogMsg) (ok1 ok2 : Bool) :
    (s.commitMsg m ok1 ok2).pending = s.pending := by
  unfold State.commitMsg
  dsimp only
  repeat' split
  all_goals simp

theorem State.pending_of_nextLog {s t : State} {m : LogMsg} (h : s.nextLog = some (m, t)) : t.pending = s.pending := by
  unfold State.nextLog at h
  split at h
  · cases h
    rfl
  · split at h
    · cases h
    · split at h
      · cases h
        simp
      · cases h
        simp
      · cases h

@[simp] theorem State.clearCask_pending : (s.clearCask).pending = s.pending := rfl

@[simp] theorem State.endClear_pending : s.endClear.pending = s.pending := by
  simp [State.endClear]

@[simp] theorem State.beginClear_pending : s.beginClear.pending = s.pending := rfl

/-! ### Paths -/

@[simp] theorem State.fabEvent_pending (p input : Nat) : (s.fabEvent p input).pending = s.pending := by
  unfold State.fabEvent
  dsimp only
  split <;> simp

@[simp] theorem State.moveGain_pending (p : Nat) : (s.moveGain p).pending = s.pending := by
  simp [State.moveGain]

@[simp] theorem State.moveGains_pending : s.moveGains.pending = s.pending := by
  simp [State.moveGains, foldl_pending]

@[simp] theorem State.muteOne_pending (p : Nat) : (s.muteOne p).pending = s.pending := by
  simp [State.muteOne]

@[simp] theorem State.closeGates_pending : s.closeGates.pending = s.pending := by
  simp [State.closeGates, foldl_pending]

@[simp] theorem State.endHold_pending : s.endHold.pending = s.pending := by
  simp [State.endHold]

@[simp] theorem State.mutePath_pending (p : Nat) : (s.mutePath p).pending = s.pending := by
  simp [State.mutePath]

@[simp] theorem State.mutePaths_pending (ps : List Nat) : (s.mutePaths ps).pending = s.pending := by
  simp [State.mutePaths, foldl_pending]

@[simp] theorem State.hardMute_pending : s.hardMute.pending = s.pending := by
  simp [State.hardMute, foldl_pending]

@[simp] theorem State.startSettle_pending (p : Nat) : (s.startSettle p).pending = s.pending := by
  simp [State.startSettle]

@[simp] theorem State.settleAll_pending (ps : List Nat) : (s.settleAll ps).pending = s.pending := by
  simp [State.settleAll, foldl_pending]

/-! ### Amplifiers and margins -/

@[simp] theorem State.paOff_pending : s.paOff.pending = s.pending := by
  simp [State.paOff, foldl_pending]

@[simp] theorem State.returnMargin_pending (m : Nat) : (s.returnMargin m).pending = s.pending := by
  unfold State.returnMargin
  dsimp only
  refine pending_eq_of_ite rfl (pending_eq_of_ite ?_ ?_)
  · simp
  · simp

@[simp] theorem State.returnMargins_pending : s.returnMargins.pending = s.pending := by
  simp [State.returnMargins, foldl_pending]

/-! ### Replies -/

@[simp] theorem State.protect_pending (d : ReplyTo) (own : Nat) (body : Bytes) :
    (s.protect d own body).2.2.pending = s.pending := by
  unfold State.protect
  split
  · rfl
  · split
    · rfl
    · split <;> rfl

@[simp] theorem State.remember_pending (peer tid : Nat) (fs : List (Nat × CanFrame)) :
    (s.remember peer tid fs).pending = s.pending := rfl

@[simp] theorem State.reply_pending (d : ReplyTo) (deferred : Bool) (body : Bytes) :
    (s.reply d deferred body).pending = s.pending := by
  unfold State.reply
  split <;> simp

@[simp] theorem State.noteConflict_pending (detail peer svc : Nat) (req : Bytes) :
    (s.noteConflict detail peer svc req).pending = s.pending := by
  simp [State.noteConflict]

@[simp] theorem State.abort_pending (c : Caller) (req : Bytes) (a : Abort) :
    (s.abort c req a).pending = s.pending := by
  simp [State.abort]

@[simp] theorem State.answer_pending (c : Caller) (body : Bytes) : (s.answer c body).pending = s.pending := by
  simp [State.answer]

@[simp] theorem State.done_pending (c : Caller) (index sub : Nat) : (s.done c index sub).pending = s.pending := by
  simp [State.done]

/-! ### The time interval unit -/

@[simp] theorem State.scheduleBurst_pending (us : Nat) : (s.scheduleBurst us).pending = s.pending := by
  simp [State.scheduleBurst]

@[simp] theorem State.beginBurst_pending : s.beginBurst.pending = s.pending := rfl

@[simp] theorem State.channelFree_pending (rearm : Bool) : (s.channelFree rearm).pending = s.pending := by
  simp [State.channelFree]

@[simp] theorem State.armTiu_pending : s.armTiu.pending = s.pending := rfl

@[simp] theorem State.cancelTiu_pending : s.cancelTiu.pending = s.pending := by
  unfold State.cancelTiu
  dsimp only
  split <;> simp

@[simp] theorem State.abandonBurst_pending : s.abandonBurst.pending = s.pending := by
  simp [State.abandonBurst]

/-! ### The front end -/

@[simp] theorem State.driveGpio_pending (mask levels : Nat) : (s.driveGpio mask levels).pending = s.pending := rfl

@[simp] theorem State.sendAtten_pending (d : Dir) : (s.sendAtten d).pending = s.pending := by
  simp [State.sendAtten]

@[simp] theorem State.startSeq_pending (k : Nat) (replayed : Bool) :
    (s.startSeq k replayed).pending = s.pending := rfl

@[simp] theorem State.seqIdle_pending : s.seqIdle.pending = s.pending := rfl

@[simp] theorem State.seqPlayed_pending (k : Nat) (replayed : Bool) :
    (s.seqPlayed k replayed).pending = s.pending := by
  simp [State.seqPlayed]

@[simp] theorem State.playSeq_pending (k : Nat) : (s.playSeq k).pending = s.pending := by
  simp [State.playSeq]

@[simp] theorem State.stopSeq_pending : s.stopSeq.pending = s.pending := by
  unfold State.stopSeq
  split <;> simp

@[simp] theorem State.runInit_pending : s.runInit.pending = s.pending := by
  simp [State.runInit]

/-! ### Lanes and hints -/

@[simp] theorem State.refreeze_pending (c : Nat) : (s.refreeze c).pending = s.pending := by
  simp [State.refreeze, foldl_pending]

@[simp] theorem State.setBias_pending (n goal : Nat) : (s.setBias n goal).pending = s.pending := rfl

@[simp] theorem State.retargetBias_pending : s.retargetBias.pending = s.pending := by
  simp [State.retargetBias, foldl_pending]

@[simp] theorem State.sendPmb_pending (n : Nat) (codes : List Nat) : (s.sendPmb n codes).pending = s.pending := rfl

@[simp] theorem State.stopLane_pending (n : Nat) : (s.stopLane n).pending = s.pending := by
  simp [State.stopLane]

@[simp] theorem State.stopLanes_pending : s.stopLanes.pending = s.pending := by
  simp [State.stopLanes, foldl_pending]

@[simp] theorem State.laneEnableWritten_pending (n : Nat) : (s.laneEnableWritten n).pending = s.pending := by
  simp [State.laneEnableWritten]

@[simp] theorem State.judgeHint_pending (h : HintId) : (s.judgeHint h).pending = s.pending := by
  unfold State.judgeHint
  dsimp only
  repeat' split
  all_goals simp

@[simp] theorem State.cancelHint_pending (h : HintId) : (s.cancelHint h).pending = s.pending := by
  simp [State.cancelHint]

@[simp] theorem State.lidEnter_pending (st : Nat) : (s.lidEnter st).pending = s.pending := rfl

@[simp] theorem State.lidRetakeNow_pending : s.lidRetakeNow.pending = s.pending := rfl

@[simp] theorem State.lidEnabled_pending : s.lidEnabled.pending = s.pending := by
  simp [State.lidEnabled]

/-! ### Effects of entries -/

@[simp] theorem State.startMargin_pending (m cmd : Nat) : (s.startMargin m cmd).pending = s.pending := by
  simp [State.startMargin]

@[simp] theorem State.enterRestricted_pending : s.enterRestricted.pending = s.pending := by
  simp [State.enterRestricted]

@[simp] theorem State.setStb_pending (p : Port) (b : Bool) : (s.setStb p b).pending = s.pending := by
  unfold State.setStb
  split <;> simp

@[simp] theorem State.joinPort_pending (p : Port) : (s.joinPort p).pending = s.pending := by
  simp [State.joinPort]

@[simp] theorem State.noteRestricted_pending : s.noteRestricted.pending = s.pending := by
  unfold State.noteRestricted
  dsimp only
  split <;> simp

@[simp] theorem State.heartbeatSoon_pending : s.heartbeatSoon.pending = s.pending := by
  simp [State.heartbeatSoon]

@[simp] theorem State.putApplied_pending (p : Nat) (g : Int) : (s.putApplied p g).pending = s.pending := rfl

@[simp] theorem State.shiftPilot_pending (p : Nat) (by_ : Int) : (s.shiftPilot p by_).pending = s.pending := rfl

@[simp] theorem State.chainChanged_pending (d : Dir) (by_ : Int) : (s.chainChanged d by_).pending = s.pending := by
  unfold State.chainChanged
  dsimp only
  exact (foldl_pending (fun _ _ => by simp) _ _).trans (foldl_pending (fun _ _ => by simp) _ _)

@[simp] theorem State.attenChanged_pending (d : Dir) (by_ : Int) : (s.attenChanged d by_).pending = s.pending := by
  unfold State.attenChanged
  dsimp only
  rw [State.settleAll_pending, State.sendAtten_pending]
  exact foldl_pending (fun _ _ => by simp) _ _

@[simp] theorem State.pathEffect_pending (p k old new : Nat) : (s.pathEffect p k old new).pending = s.pending := by
  simp [State.pathEffect]

@[simp] theorem State.rfEffect_pending (k old new : Nat) : (s.rfEffect k old new).pending = s.pending := by
  simp [State.rfEffect]

@[simp] theorem State.setRejoin_pending (p : Port) (b : Bool) : (s.setRejoin p b).pending = s.pending := by
  unfold State.setRejoin
  split <;> simp

@[simp] theorem State.settleJoin_pending (p : Port) : (s.settleJoin p).pending = s.pending := by
  simp [State.settleJoin]

@[simp] theorem State.entryEffect_pending (k old new : Nat) : (s.entryEffect k old new).pending = s.pending := by
  unfold State.entryEffect
  dsimp only
  repeat' split
  all_goals simp

/-! ### Commits -/

@[simp] theorem State.unqueue_pending (h : Held) : (s.unqueue h).pending = s.pending := by
  unfold State.unqueue
  dsimp only
  split <;> simp

@[simp] theorem State.muteSegments_pending (own : Caller → Bool) : (s.muteSegments own).2.pending = s.pending := rfl

@[simp] theorem State.muteCommit_pending (own : Caller → Bool) : (s.muteCommit own).2.pending = s.pending := by
  unfold State.muteCommit
  dsimp only
  repeat' split
  all_goals simp

@[simp] theorem State.discardRequests_pending (own : Caller → Bool) (mine : Held → Bool) :
    (s.discardRequests own mine).pending = s.pending := by
  simp [State.discardRequests, foldl_pending]

@[simp] theorem State.discardWaiting_pending : s.discardWaiting.pending = s.pending := by
  simp [State.discardWaiting]

@[simp] theorem State.endDebug_pending (hold : Bool) : (s.endDebug hold).pending = s.pending := by
  unfold State.endDebug
  dsimp only
  refine pending_eq_of_ite rfl (pending_eq_of_ite rfl ?_)
  exact foldl_pending (f := fun s c => s.arm (.watchdog c) (s.watchdogTime c)) (fun _ _ => by simp) _ _

@[simp] theorem State.endSession_pending (slot : Nat) : (s.endSession slot).pending = s.pending := by
  simp [State.endSession]

@[simp] theorem State.endSpent_pending : s.endSpent.pending = s.pending := by
  simp [State.endSpent, foldl_pending]

@[simp] theorem State.endSessions_pending : s.endSessions.pending = s.pending := by
  simp [State.endSessions, foldl_pending]

@[simp] theorem State.applyEntry_pending (e : CEntry) : (s.applyEntry e).pending = s.pending := by
  simp [State.applyEntry]

@[simp] theorem State.applyWhere_pending (r : CommitRun) (p : CEntry → Bool) :
    (s.applyWhere r p).1.pending = s.pending := by
  simp [State.applyWhere, foldl_pending]

@[simp] theorem State.commitReply_pending (r : CommitRun) : (s.commitReply r).pending = s.pending := by
  unfold State.commitReply
  split <;> simp

@[simp] theorem State.clearStage_pending (r : CommitRun) : (s.clearStage r).pending = s.pending := by
  unfold State.clearStage
  split <;> simp

@[simp] theorem State.finishCommit_pending (r : CommitRun) : (s.finishCommit r).pending = s.pending := by
  simp [State.finishCommit]

@[simp] theorem State.tryFinish_pending : s.tryFinish.pending = s.pending := by
  unfold State.tryFinish
  split <;> simp

@[simp] theorem State.applyAll_pending (r : CommitRun) : (s.applyAll r).pending = s.pending := by
  simp [State.applyAll]

@[simp] theorem State.advanceCommit_pending (arb : Bool) : (s.advanceCommit arb).pending = s.pending := by
  unfold State.advanceCommit
  split
  · rfl
  · refine pending_eq_of_ite rfl (pending_eq_of_ite (by simp) ?_)
    dsimp only
    rw [State.tryFinish_pending]
    repeat' split
    all_goals simp

@[simp] theorem State.moveDir_pending (d : Dir) : (s.moveDir d).pending = s.pending := by
  unfold State.moveDir
  split <;> simp

@[simp] theorem State.followDir_pending (d : Dir) : (s.followDir d).pending = s.pending := by
  unfold State.followDir
  split <;> simp

@[simp] theorem State.followCommit_pending : s.followCommit.pending = s.pending := by
  simp [State.followCommit]

@[simp] theorem State.startCommit_pending (c : Caller) (form : ReplyForm) (fromStage : Option StageId)
    (es : List (Nat × Nat)) (req : Bytes) :
    (s.startCommit c form fromStage es req).pending = s.pending := by
  simp [State.startCommit]

@[simp] theorem State.rejectCommit_pending (c : Caller) (req : Bytes) (es : List (Nat × Nat)) (pos code : Nat) :
    (s.rejectCommit c req es pos code).pending = s.pending := by
  simp [State.rejectCommit]

@[simp] theorem State.tryCommit_pending (c : Caller) (form : ReplyForm) (fromStage : Option StageId)
    (es : List (Nat × Nat)) (req : Bytes) :
    (s.tryCommit c form fromStage es req).pending = s.pending := by
  unfold State.tryCommit
  dsimp only
  repeat' split
  all_goals simp

@[simp] theorem State.notePreempted_pending (r : CommitRun) : (s.notePreempted r).pending = s.pending := by
  simp [State.notePreempted]

@[simp] theorem State.preemptCommit_pending : s.preemptCommit.pending = s.pending := by
  unfold State.preemptCommit
  split <;> simp

@[simp] theorem State.endWaiting_pending (target : PState) : (s.endWaiting target).pending = s.pending := by
  unfold State.endWaiting
  split <;> simp

/-! ### The twin link -/

@[simp] theorem State.sendLink_pending (type : Nat) (payload : Bytes) :
    (s.sendLink type payload).pending = s.pending := by
  simp [State.sendLink]

@[simp] theorem State.depart_pending (cause : Nat) : (s.depart cause).pending = s.pending := by
  simp [State.depart]

@[simp] theorem State.leaveUnsigned_pending (seq reason : Nat) :
    (s.leaveUnsigned seq reason).pending = s.pending := by
  simp [State.leaveUnsigned]

@[simp] theorem State.dropSigning_pending (reason : Nat) : (s.dropSigning reason).pending = s.pending := by
  simp [State.dropSigning, foldl_pending]

/-! ### Power transitions -/

@[simp] theorem State.makeRsk_pending : s.makeRsk.pending = s.pending := rfl

@[simp] theorem State.lifecycleRecord_pending (old new origin : Nat) :
    (s.lifecycleRecord old new origin).pending = s.pending := by
  simp [State.lifecycleRecord]

@[simp] theorem State.blowLifecycle_pending : s.blowLifecycle.pending = s.pending := by
  unfold State.blowLifecycle
  split <;> simp

@[simp] theorem State.enterState_pending (new : PState) (reason : Nat) :
    (s.enterState new reason).pending = s.pending := by
  simp [State.enterState]

@[simp] theorem State.unitsDown_pending : s.unitsDown.pending = s.pending := rfl

@[simp] theorem State.coreDown_pending : s.coreDown.pending = s.pending := by
  simp [State.coreDown]

@[simp] theorem State.drainLogs_pending (k : Nat) (s : State) : (State.drainLogs k s).pending = s.pending := by
  induction k generalizing s with
  | zero => rfl
  | succ k ih =>
    unfold State.drainLogs
    split
    · rfl
    · next h => exact (ih _).trans ((State.commitMsg_pending _ _ _ _).trans (State.pending_of_nextLog h))

@[simp] theorem State.closeRefLoss_pending : s.closeRefLoss.pending = s.pending := by
  unfold State.closeRefLoss
  split <;> simp

@[simp] theorem State.startDelays_pending : s.startDelays.pending = s.pending := by
  simp [State.startDelays, foldl_pending]

@[simp] theorem State.forgetReadings_pending : s.forgetReadings.pending = s.pending := by
  unfold State.forgetReadings
  exact foldl_pending (fun _ _ => by simp) _ _

@[simp] theorem State.beginStart_pending (reason : Nat) (touch limited : Bool) :
    (s.beginStart reason touch limited).pending = s.pending := by
  unfold State.beginStart
  dsimp only
  refine pending_eq_of_ite rfl ?_
  rw [State.startDelays_pending, State.forgetReadings_pending]
  exact foldl_pending (fun _ _ => by simp) _ _

@[simp] theorem State.wakeStart_pending (reason : Nat) (touch : Bool) :
    (s.wakeStart reason touch).pending = s.pending := by
  simp [State.wakeStart]

@[simp] theorem State.endLockout_pending : s.endLockout.pending = s.pending := rfl

@[simp] theorem State.releaseRail_pending (n : Nat) : (s.releaseRail n).pending = s.pending := by
  simp [State.releaseRail]

@[simp] theorem State.releaseReady_pending : s.releaseReady.pending = s.pending :=
  foldl_pending State.releaseRail_pending _ _

@[simp] theorem State.cancelEnables_pending : s.cancelEnables.pending = s.pending := by
  simp [State.cancelEnables, foldl_pending]

@[simp] theorem State.markShutdown_pending : s.markShutdown.pending = s.pending := rfl

@[simp] theorem State.stepReleased_pending : s.stepReleased.pending = s.pending := by
  simp [State.stepReleased, foldl_pending]

@[simp] theorem State.beginReleases_pending : s.beginReleases.pending = s.pending := by
  unfold State.beginReleases
  split <;> simp

@[simp] theorem State.latchSlot_pending (n : Nat) (exhausted : Bool) :
    (s.latchSlot n exhausted).pending = s.pending := by
  simp [State.latchSlot]

@[simp] theorem State.applyReaction_pending (faults : List Nat) : (s.applyReaction faults).pending = s.pending := by
  unfold State.applyReaction
  split <;> simp

@[simp] theorem State.enterDormant_pending (reason : Nat) : (s.enterDormant reason).pending = s.pending := by
  simp [State.enterDormant]

@[simp] theorem State.rstInDormant_pending : s.rstInDormant.pending = s.pending := by
  simp [State.rstInDormant]

@[simp] theorem State.actHeldRst_pending : s.actHeldRst.pending = s.pending := by
  simp [State.actHeldRst]

@[simp] theorem State.afterShutdown_pending (d : Shutdown) : (s.afterShutdown d).pending = s.pending := by
  simp [State.afterShutdown]

@[simp] theorem State.completeShutdown_pending : s.completeShutdown.pending = s.pending := by
  unfold State.completeShutdown
  split <;> simp

@[simp] theorem State.goDown_pending : s.goDown.pending = s.pending := by
  simp [State.goDown]

@[simp] theorem State.beginShutdown_pending (cause : ShutCause) (reason : Nat) (restart : Bool) (leadUs : Nat)
    (faults : List Nat) :
    (s.beginShutdown cause reason restart leadUs faults).pending = s.pending := by
  simp [State.beginShutdown]

@[simp] theorem State.restart_pending (reason : Nat) : (s.restart reason).pending = s.pending := by
  simp [State.restart]

@[simp] theorem State.toInt48_pending : s.toInt48.pending = s.pending := by
  simp [State.toInt48]

@[simp] theorem State.beginRelock_pending (target : Nat) : (s.beginRelock target).pending = s.pending := by
  simp [State.beginRelock]

@[simp] theorem State.endServiceSessions_pending : s.endServiceSessions.pending = s.pending := by
  simp [State.endServiceSessions, foldl_pending]

@[simp] theorem State.fallToStandby_pending (reason : Nat) : (s.fallToStandby reason).pending = s.pending := by
  simp [State.fallToStandby]

/-! ### Requests for a power state -/

@[simp] theorem State.towardsActive_pending (reason : Nat) : (s.towardsActive reason).pending = s.pending := by
  simp [State.towardsActive]

@[simp] theorem State.towardsService_pending (reason : Nat) (touch : Bool) :
    (s.towardsService reason touch).pending = s.pending := by
  simp [State.towardsService]

@[simp] theorem State.leaveService_pending : s.leaveService.pending = s.pending := by
  simp [State.leaveService]

@[simp] theorem State.doPower_pending (v : Nat) : (s.doPower v).pending = s.pending := by
  unfold State.doPower
  dsimp only
  repeat' split
  all_goals simp

@[simp] theorem State.deferPower_pending (c : Caller) (req : Bytes) : (s.deferPower c req).pending = s.pending := by
  simp [State.deferPower]

@[simp] theorem State.powerRequest_pending (c : Caller) (req : Bytes) (v : Nat) :
    (s.powerRequest c req v).pending = s.pending := by
  unfold State.powerRequest
  split <;> simp

@[simp] theorem State.serviceOver_pending : s.serviceOver.pending = s.pending := by
  simp [State.serviceOver]

/-! ### Network protection -/

@[simp] theorem State.storeReceipt_pending (seq : Nat) (body sig : Bytes) :
    (s.storeReceipt seq body sig).pending = s.pending := rfl

@[simp] theorem State.commitShutdownRecord_pending (payload : Bytes) :
    (s.commitShutdownRecord payload).2.pending = s.pending := by
  simp [State.commitShutdownRecord]

@[simp] theorem State.askSignature_pending (seq : Nat) : (s.askSignature seq).pending = s.pending := by
  simp [State.askSignature]

@[simp] theorem State.latchLockout_pending : s.latchLockout.pending = s.pending := by
  simp [State.latchLockout]

@[simp] theorem State.timedLockout_pending : s.timedLockout.pending = s.pending := by
  simp [State.timedLockout]

@[simp] theorem State.beginLockout_pending (code : Nat) : (s.beginLockout code).pending = s.pending := by
  simp [State.beginLockout]

@[simp] theorem State.shutLanes_pending : s.shutLanes.pending = s.pending := by
  simp [State.shutLanes]

@[simp] theorem State.shutPower_pending (code : Nat) : (s.shutPower code).pending = s.pending := by
  unfold State.shutPower
  refine pending_eq_of_ite (by simp) ?_
  split <;> simp

@[simp] theorem State.shutNetwork_pending (code : Nat) (paths : List Nat) :
    (s.shutNetwork code paths).pending = s.pending := by
  simp [State.shutNetwork]

@[simp] theorem State.netTrigger_pending (code : Nat) (paths : List Nat) :
    (s.netTrigger code paths).pending = s.pending := by
  simp [State.netTrigger]

/-! ### The datapath -/

@[simp] theorem State.newWindows_pending : s.newWindows.pending = s.pending := by
  unfold State.newWindows
  exact foldl_pending (fun _ _ => by simp) _ _

@[simp] theorem State.doSync_pending : s.doSync.pending = s.pending := by
  simp [State.doSync]

/-! ### The seal -/

@[simp] theorem State.unseal_pending : s.unseal.pending = s.pending := by
  simp [State.unseal, foldl_pending]

/-! ### The lid -/

@[simp] theorem State.touchRecord_pending (dur state effect : Nat) :
    (s.touchRecord dur state effect).pending = s.pending := rfl

@[simp] theorem State.actTouch_pending (dur state held : Nat) :
    (s.actTouch dur state held).pending = s.pending := by
  simp [State.actTouch]

@[simp] theorem State.heldTouchActs_pending : s.heldTouchActs.pending = s.pending := by
  unfold State.heldTouchActs
  split <;> simp

/-! ### The handover -/

@[simp] theorem State.startHandover_pending : s.startHandover.pending = s.pending := by
  simp [State.startHandover]

/-! ### Lifecycle, keys, sessions and debug -/

@[simp] theorem State.eraseKeys_pending (ok : Bool) : (s.eraseKeys ok).pending = s.pending := by
  simp [State.eraseKeys]

@[simp] theorem State.beginLifecycle_pending (target origin : Nat) :
    (s.beginLifecycle target origin).pending = s.pending := by
  simp [State.beginLifecycle]

@[simp] theorem State.lifecycleWrite_pending (c : Caller) (req : Bytes) (target : Nat) :
    (s.lifecycleWrite c req target).pending = s.pending := by
  unfold State.lifecycleWrite
  refine pending_eq_of_ite (by simp) ?_
  split
  · simp
  · refine pending_eq_of_ite (by simp) (pending_eq_of_ite ?_ ?_)
    · simp
    · simp

@[simp] theorem State.keyWrite_pending (c : Caller) (req : Bytes) (which index sub : Nat) (value : Bytes) :
    (s.keyWrite c req which index sub value).pending = s.pending := by
  unfold State.keyWrite
  split <;> simp

@[simp] theorem State.activity_pending : s.activity.pending = s.pending := by
  simp [State.activity]

@[simp] theorem State.sessionOpen_pending (c : Caller) (req : Bytes) (role version peer nc : Nat) :
    (s.sessionOpen c req role version peer nc).pending = s.pending := by
  unfold State.sessionOpen
  split <;> simp

@[simp] theorem State.handshakeFailed_pending (role : Nat) : (s.handshakeFailed role).pending = s.pending := by
  simp [State.handshakeFailed]

@[simp] theorem State.dropHalf_pending (slot : Nat) : (s.dropHalf slot).pending = s.pending := rfl

@[simp] theorem State.acceptSession_pending (x : Session) : (s.acceptSession x).pending = s.pending := rfl

@[simp] theorem State.sessionConfirm_pending (c : Caller) (sid tagC : Nat) :
    (s.sessionConfirm c sid tagC).pending = s.pending := by
  unfold State.sessionConfirm
  split <;> simp

@[simp] theorem State.setDebug_pending (level : Nat) (owner : Option Nat) :
    (s.setDebug level owner).pending = s.pending := by
  simp [State.setDebug]

@[simp] theorem State.debugWrite_pending (c : Caller) (level : Nat) :
    (s.debugWrite c level).pending = s.pending := by
  simp [State.debugWrite]

@[simp] theorem State.tokenWrite_pending (c : Caller) (req : Bytes) (t : Bytes) :
    (s.tokenWrite c req t).pending = s.pending := by
  simp [State.tokenWrite]

@[simp] theorem State.newChallenge_pending : s.newChallenge.2.pending = s.pending := rfl

/-! ### Sticky clears -/

@[simp] theorem State.clearFlags_pending (k mask : Nat) : (s.clearFlags k mask).2.pending = s.pending := rfl

@[simp] theorem State.stickyClear_pending (role : Option Nat) (peer k mask : Nat) :
    (s.stickyClear role peer k mask).pending = s.pending := by
  simp [State.stickyClear]

@[simp] theorem State.stickyClearAll_pending (role : Option Nat) (peer : Nat) :
    (s.stickyClearAll role peer).pending = s.pending := by
  unfold State.stickyClearAll
  refine pending_eq_of_ite rfl ?_
  rw [State.noteSummary_pending, State.log_pending]
  refine foldl_snd_pending (fun a k => ?_) _ _
  dsimp only
  split
  · rfl
  · simp

/-! ### Command objects -/

@[simp] theorem State.setBank_pending (bank : Nat) (m : List Host.Cell) :
    (s.setBank bank m).pending = s.pending := by
  simp [State.setBank]

@[simp] theorem State.beginUpdate_pending (length : Nat) : (s.beginUpdate length).pending = s.pending := by
  simp [State.beginUpdate]

@[simp] theorem State.activateUpdate_pending : s.activateUpdate.pending = s.pending := by
  simp [State.activateUpdate]

@[simp] theorem State.clearRailStats_pending : s.clearRailStats.pending = s.pending := by
  unfold State.clearRailStats
  exact foldl_pending (fun _ _ => by simp) _ _

@[simp] theorem State.clearLatch_pending : s.clearLatch.pending = s.pending := by
  simp [State.clearLatch]

@[simp] theorem State.rebaseline_pending : s.rebaseline.pending = s.pending := by
  simp [State.rebaseline]

@[simp] theorem State.commandedShutdown_pending : s.commandedShutdown.pending = s.pending := by
  simp [State.commandedShutdown]

@[simp] theorem State.sampleSeal_pending : s.sampleSeal.pending = s.pending := by
  simp [State.sampleSeal]

@[simp] theorem State.actUnit_pending (k : Nat) : (s.actUnit k).pending = s.pending := by
  simp [State.actUnit]

@[simp] theorem State.actCommand_pending (c : Caller) (k v : Nat) : (s.actCommand c k v).pending = s.pending := by
  simp [State.actCommand]

@[simp] theorem State.actWo_pending (c : Caller) (req : Bytes) (k v : Nat) (value : Bytes) :
    (s.actWo c req k v value).pending = s.pending := by
  unfold State.actWo
  split <;> simp

/-! ### Effects of reads -/

@[simp] theorem State.readEffect_pending (k : Nat) : (s.readEffect k).pending = s.pending := by
  simp [State.readEffect]

@[simp] theorem State.readIndexEffect_pending (index : Nat) : (s.readIndexEffect index).pending = s.pending := by
  simp [State.readIndexEffect, foldl_pending]

/-! ### Services -/

@[simp] theorem State.gated_pending (c : Caller) (req : Bytes) (upTo6 later : List (Option Abort))
    (f : State → State) (hf : ∀ u, (f u).pending = u.pending) :
    (s.gated c req upTo6 later f).pending = s.pending := by
  unfold State.gated
  split
  · simp
  · dsimp only
    split
    · simp
    · simp [hf]

@[simp] theorem State.serveRead_pending (c : Caller) (b : Bytes) : (s.serveRead c b).pending = s.pending := by
  simp [State.serveRead]

@[simp] theorem State.commitOrWait_pending (c : Caller) (form : ReplyForm) (fromStage : Option StageId)
    (es : List (Nat × Nat)) (req : Bytes) :
    (s.commitOrWait c form fromStage es req).pending = s.pending := by
  simp [State.commitOrWait]

@[simp] theorem State.writeObject_pending (c : Caller) (req : Bytes) (d : ObjDef) (k v : Nat) (value : Bytes) :
    (s.writeObject c req d k v value).pending = s.pending := by
  unfold State.writeObject
  refine pending_eq_of_ite (by simp) ?_
  dsimp only
  split
  · simp
  · refine pending_eq_of_ite ?_ ?_
    · split <;> simp
    · split <;> simp

@[simp] theorem State.serveWrite_pending (c : Caller) (b : Bytes) : (s.serveWrite c b).pending = s.pending := by
  unfold State.serveWrite
  dsimp only
  split <;> simp

@[simp] theorem State.stageEntry_pending (c : Caller) (b : Bytes) (w : StageId) (k v : Nat) :
    (s.stageEntry c b w k v).pending = s.pending := by
  simp [State.stageEntry]

@[simp] theorem State.serveStaged_pending (c : Caller) (b : Bytes) : (s.serveStaged c b).pending = s.pending := by
  refine State.gated_pending _ _ _ _ _ _ fun u => ?_
  split
  · split <;> simp
  · simp

@[simp] theorem State.serveCommit_pending (c : Caller) (b : Bytes) : (s.serveCommit c b).pending = s.pending := by
  refine State.gated_pending _ _ _ _ _ _ fun u => ?_
  dsimp only
  split <;> simp

@[simp] theorem State.serveDiscard_pending (c : Caller) (b : Bytes) : (s.serveDiscard c b).pending = s.pending := by
  refine State.gated_pending _ _ _ _ _ _ fun u => ?_
  dsimp only
  split <;> simp

@[simp] theorem State.setBlock_pending (w : Bool) (peer : Nat) (r : Option BlockRun) :
    (s.setBlock w peer r).pending = s.pending := by
  simp [State.setBlock]

@[simp] theorem State.sendBlock_pending (c : Caller) (r : BlockRun) (max : Nat) :
    (s.sendBlock c r max).pending = s.pending := by
  simp [State.sendBlock]

@[simp] theorem State.blockReadStep_pending (c : Caller) (b : Bytes) :
    (s.blockReadStep c b).pending = s.pending := by
  unfold State.blockReadStep
  dsimp only
  repeat' split
  all_goals simp

@[simp] theorem State.serveBlockRead_pending (c : Caller) (b : Bytes) :
    (s.serveBlockRead c b).pending = s.pending := by
  simp [State.serveBlockRead]

@[simp] theorem State.updateSegment_pending (c : Caller) (b : Bytes) :
    (s.updateSegment c b).pending = s.pending := by
  simp [State.updateSegment]

@[simp] theorem State.blockHold_pending (c : Caller) (b : Bytes) (held : Bytes) :
    (s.blockHold c b held).pending = s.pending := by
  simp [State.blockHold]

@[simp] theorem State.blockWriteStep_pending (c : Caller) (b : Bytes) :
    (s.blockWriteStep c b).pending = s.pending := by
  unfold State.blockWriteStep
  dsimp only
  split <;> simp

@[simp] theorem State.serveBlockWrite_pending (c : Caller) (b : Bytes) :
    (s.serveBlockWrite c b).pending = s.pending := by
  simp [State.serveBlockWrite]

@[simp] theorem State.setAnchor_pending (c : Caller) (b : Bytes) : (s.setAnchor c b).pending = s.pending := by
  simp [State.setAnchor]

@[simp] theorem State.serveTimeSet_pending (c : Caller) (b : Bytes) : (s.serveTimeSet c b).pending = s.pending := by
  simp [State.serveTimeSet]

@[simp] theorem State.serveAssign_pending (c : Caller) (b : Bytes) : (s.serveAssign c b).pending = s.pending := by
  simp [State.serveAssign]

@[simp] theorem State.serveBridge_pending (c : Caller) (b : Bytes) : (s.serveBridge c b).pending = s.pending := by
  simp [State.serveBridge]

@[simp] theorem State.serveSession_pending (c : Caller) (b : Bytes) : (s.serveSession c b).pending = s.pending := by
  simp [State.serveSession]

@[simp] theorem State.act_pending (c : Caller) (b : Bytes) : (s.act c b).pending = s.pending := by
  unfold State.act
  split <;> simp

@[simp] theorem State.serveLater_pending (h : Held) : (s.serveLater h).pending = s.pending := by
  simp [State.serveLater]

@[simp] theorem State.serveDeferredPower_pending : s.serveDeferredPower.pending = s.pending := by
  simp [State.serveDeferredPower, foldl_pending]

@[simp] theorem State.serviceDue_pending : s.serviceDue.pending = s.pending := by
  unfold State.serviceDue
  split <;> simp

@[simp] theorem State.serveWaiting_pending : s.serveWaiting.pending = s.pending := by
  unfold State.serveWaiting
  dsimp only
  repeat' split
  all_goals simp

/-! ### Requests that arrive -/

@[simp] theorem State.groupFails_pending (x : Session) : (s.groupFails x).pending = s.pending := by
  simp [State.groupFails]

@[simp] theorem State.authenticate_pending (c : Caller) (sid : Nat) (msg body : Bytes) :
    (s.authenticate c sid msg body).pending = s.pending := by
  unfold State.authenticate
  split <;> simp

@[simp] theorem State.serve_pending (c : Caller) (claimed : Option Nat) (msg : Bytes) :
    (s.serve c claimed msg).pending = s.pending := by
  unfold State.serve
  split
  · split <;> simp
  · refine pending_eq_of_ite (by simp) ?_
    split <;> simp

theorem State.pending_of_tryServe {s t : State} {c : Caller} {claimed : Option Nat} {msg : Bytes}
    (h : s.tryServe c claimed msg = .ok t) : t.pending = s.pending := by
  unfold State.tryServe at h
  dsimp only at h
  generalize (if claimed.isSome = true then msg.take (msg.length - 14) else msg) = body at h
  split at h
  · cases h
  · split at h
    · cases h
    · split at h
      · cases h
      · cases h
        rw [State.handle_pending _ _ fun u => State.serve_pending u c claimed msg]
        exact foldl_pending (fun u a => State.pass_pending u a 1) _ _

@[simp] theorem State.hold_pending (c : Caller) (claimed : Option Nat) (msg : Bytes) (lacks : Nat) :
    (s.hold c claimed msg lacks).pending = s.pending := by
  simp [State.hold]

@[simp] theorem State.noteServed_pending (c q : Nat) : (s.noteServed c q).pending = s.pending := rfl

@[simp] theorem State.takeIn_pending (c : Caller) (claimed : Option Nat) (msg : Bytes) :
    (s.takeIn c claimed msg).pending = s.pending := by
  unfold State.takeIn
  dsimp only
  split
  · simp
  · refine pending_eq_of_ite (by simp) ?_
    split
    · next h => simp [State.pending_of_tryServe h]
    · simp

@[simp] theorem State.hostRequest_pending (c : Caller) (claimed : Option Nat) (msg : Bytes) :
    (s.hostRequest c claimed msg).pending = s.pending := by
  simp [State.hostRequest]

/-! ### The mailbox -/

@[simp] theorem State.takeMailbox_pending : s.takeMailbox.pending = s.pending := by
  simp [State.takeMailbox]

@[simp] theorem State.takeNext_pending : s.takeNext.pending = s.pending := by
  simp [State.takeNext]

/-! ### The tick -/

@[simp] theorem State.tick_pending : s.tick.pending = s.pending := by
  simp [State.tick]

/-! ## The clock of a tick -/

theorem State.elapse_now (n : Nat) : (s.elapse n).now = s.now + n := by
  unfold State.elapse
  dsimp only
  repeat' split
  all_goals rfl

/-- The mask `2 ^ 49 - 2` names every part of the state but the clocks, so what follows the microsecond of a tick keeps
them. -/
theorem State.tick_time : s.tick.time = (s.elapse 1).time := by
  have start := Fr.refl (2 ^ 49 - 2) (s.elapse 1)
  have gains := State.followCommit_fr _ rfl start
  have served := State.serveWaiting_fr _ rfl gains
  have touched := State.heldTouchActs_fr _ rfl served
  have joinedA := State.settleJoin_fr _ .a rfl touched
  have joinedB := State.settleJoin_fr _ .b rfl joinedA
  have taken := State.takeNext_fr _ rfl joinedB
  have followed := State.noteSummary_fr _ rfl taken
  exact followed.time rfl

theorem State.tick_now : s.tick.now = s.now + 1 := by
  rw [← s.elapse_now 1, State.now, State.now, s.tick_time]

/-! ## The step -/

theorem step_cons (c : Instr) (rest : List Instr) :
    step { s with pending := c :: rest } = exec c { s with pending := rest } := rfl

theorem step_of_pending_nil (h : s.pending = []) : step s = .next s.tick := by
  simp [step, h]

end

/-- Settles O1: a step of an empty queue is the tick, which leaves the queue empty and carries the clock 1 µs on. -/
theorem stepRunsFrontCommand : Obligations.StepRunsFrontCommand := by
  refine ⟨fun c rest s => step_cons s c rest, fun s hs => ⟨s.tick, step_of_pending_nil s hs, rfl, ?_, ?_⟩⟩
  · rw [State.tick_pending, hs]
  · exact (State.tick_now s).ge

end Sys2Proof.Machine

namespace Sys2Proof.Machine

open Sys2Proof

/-! ## A loss of REF_IN under a lockout

A trigger met while a lockout holds is suppressed (R420): it is flagged and recorded, and nothing is muted. The statement
of the reference takes every state, one with a path in service under a lockout among them. -/

/-- ACTIVE with REF_IN present, path 0 in service, REF_WARM set and a timed lockout in force. -/
def lockedOutInService : State :=
  let s : State := { State.reset with
    power := { State.reset.power with state := .active, coreReleased := true, refSeen := true, refPresent := true } }
  ((s.set Obj.netState 2).set Obj.tiuRefWarm 1).set (Obj.stabState 0) 3

/-- The level of RF_MUTE_N in the state that a command answers. -/
def rfMuteNAfter (i : Instr) (s : State) : Option Bool :=
  match exec i s with
  | .next t => some t.pins.rfMuteN
  | _ => none

theorem rfMuteNAfter_of_next {i : Instr} {s t : State} (h : exec i s = .next t) :
    rfMuteNAfter i s = some t.pins.rfMuteN := by
  unfold rfMuteNAfter
  rw [h]

theorem rfMuteNAfter_refInLoss_lockedOutInService : rfMuteNAfter .refInLoss lockedOutInService = some true := by
  decide +kernel

/-- Refutes O10: REF_IN is lost in `lockedOutInService`; the lockout suppresses the trigger, and RF_MUTE_N stays high
where the statement has it asserted. -/
theorem not_referenceAndRelock : ¬ Obligations.ReferenceAndRelock := by
  unfold Obligations.ReferenceAndRelock
  intro h
  obtain ⟨-, -, loss, -⟩ := h lockedOutInService
  obtain ⟨t, ht, -, muted, -⟩ := loss rfl rfl rfl
  have level := (rfMuteNAfter_of_next ht).symm.trans rfMuteNAfter_refInLoss_lockedOutInService
  simp [muted] at level

end Sys2Proof.Machine

namespace Sys2Proof.Machine

open Sys2Proof

/-! ## What work on the band paths keeps

Mutes, applied gains and arbitrations write registers of chapters 09 to 11 and of the PA budget alone, and they give a
muted path no state but muted. A property that such writes keep is kept by every one of these functions: one lemma for
each of them, used below for the registers of other units and for the path states themselves. -/

/-- The registers that work on the band paths writes, the path states apart. -/
def bandWorkKey (k : Nat) : Prop := 0x220000 ≤ k ∧ k < 0x400010 ∧ ∀ p < 16, k ≠ Obj.stabState p

/-- A property of the dictionary registers that reports and band-path work keep: a path's state changes to muted, or
while it is unmuted. -/
structure PathKeeps (P : State → Prop) : Prop where
  congr : ∀ {s t : State}, P s → t.dict = s.dict → P t
  reported : ∀ {s t : State}, P s → Reported s t → P t
  set : ∀ {s : State} (k v : Nat), P s → bandWorkKey k → P (s.set k v)
  state : ∀ {s : State} (p v : Nat), P s → p < 16 → (v = 0 ∨ s.unmuted p = true) → P (s.set (Obj.stabState p) v)

/-- A register outside the band paths and the reports keeps its value. -/
theorem pathKeeps_get {k c : Nat} (hk : k < 0x220000 ∨ 0x400010 ≤ k) (hr : reportKey k = false) :
    PathKeeps (fun s => s.get k = c) where
  congr hs h := (State.get_congr h k).trans hs
  reported hs h := (h.get k hr).trans hs
  set _ v hs hb := by
    obtain ⟨low, high, -⟩ := hb
    exact (State.get_set_ne _ _ _ v (by omega)).trans hs
  state _ v hs hp _ := (State.get_set_ne _ _ _ v (by unfold Obj.stabState; omega)).trans hs

theorem State.unmuted_iff (s : State) (p : Nat) :
    s.unmuted p = true ↔ 2 ≤ s.get (Obj.stabState p) ∧ s.get (Obj.stabState p) ≤ 5 := by
  simp [State.unmuted]

theorem stabState_inj {p q : Nat} (h : Obj.stabState p = Obj.stabState q) : p = q := by
  unfold Obj.stabState at h
  omega

/-- The registers of reports lie below those of the band paths and the lanes. -/
theorem reportKey_of_le {k : Nat} (h : 0x220000 ≤ k) : reportKey k = false := by
  simp only [reportKey, Obj.queueEscapeUseCount, Obj.queueSticky, Obj.queueTxExpiredCount, Obj.fieldNotifySequence,
    Bool.or_eq_false_iff, beq_eq_false_iff_ne]
  omega

theorem reportKey_stabState (p : Nat) : reportKey (Obj.stabState p) = false :=
  reportKey_of_le (by unfold Obj.stabState; omega)

/-- A muted path stays muted. -/
theorem pathKeeps_muted {p : Nat} (hp : p < 16) : PathKeeps (fun s => s.get (Obj.stabState p) = 0) where
  congr hs h := (State.get_congr h _).trans hs
  reported hs h := (h.get _ (reportKey_stabState p)).trans hs
  set _ v hs hb := (State.get_set_ne _ _ _ v (fun e => hb.2.2 p hp e.symm)).trans hs
  state {s} q v hs _ hv := by
    by_cases e : p = q
    · subst e
      rcases hv with rfl | hu
      · exact State.get_set_self _ _ _
      · have := (s.unmuted_iff p).mp hu
        omega
    · exact (State.get_set_ne _ _ _ v (fun h => e (stabState_inj h))).trans hs

theorem State.unmuted_congr {s t : State} {p : Nat} (h : t.get (Obj.stabState p) = s.get (Obj.stabState p)) :
    t.unmuted p = s.unmuted p := by
  simp [State.unmuted, h]

theorem bandWorkKey_of_ne {k : Nat} (low : 0x220000 ≤ k) (high : k < 0x400010) (h : k % 256 ≠ 6) : bandWorkKey k :=
  ⟨low, high, fun p _ e => h (by subst e; unfold Obj.stabState; omega)⟩

/-- A register that each path has of its own, other than its state. -/
theorem bandWorkKey_path {b p : Nat} (hp : p < 16) (hb : 0x220000 ≤ b ∧ b < 0x3F0000 ∧ b % 256 ≠ 6) :
    bandWorkKey (b + 256 * p) := bandWorkKey_of_ne (by omega) (by omega) (by omega)

theorem pathNums_lt {p : Nat} (h : p ∈ pathNums) : p < 16 := List.mem_range.mp h

theorem laneNums_lt {n : Nat} (h : n ∈ laneNums) : n < 4 := List.mem_range.mp h

theorem State.lanePaths_lt {s : State} {n p : Nat} (h : p ∈ s.lanePaths n) : p < 16 :=
  pathNums_lt (List.mem_filter.mp h).1

theorem State.bands_lt {s : State} {b : Nat × Nat} (h : b ∈ s.bands) : b.1 < 16 ∧ b.2 < 16 := by
  unfold State.bands at h
  obtain ⟨u, hu, hb⟩ := List.mem_filterMap.mp h
  have live : u ∈ s.pathsOf .ul := (List.mem_filter.mp hu).1
  have hu16 : u < 16 := pathNums_lt (List.mem_filter.mp live).1
  dsimp only at hb
  split at hb
  · next hd =>
    cases hb
    exact ⟨hu16, hd.1⟩
  · cases hb

/-- The state of an unmuted path as its gain moves is one of an unmuted path. -/
theorem State.unmuted_set_gainState (s : State) (p : Nat) (a goal : Int) :
    (s.set (Obj.stabState p) (gainState a goal)).unmuted p = true := by
  rw [State.unmuted_iff, State.get_set_self]
  unfold gainState
  split
  · decide
  · split <;> decide

theorem State.unmuted_moveGain {s : State} {p : Nat} (h : s.unmuted p = true) : (s.moveGain p).unmuted p = true := by
  unfold State.moveGain
  rw [if_pos h]
  dsimp only
  split
  · next h5 => exact (State.unmuted_iff _ _).mpr (by omega)
  · exact State.unmuted_set_gainState _ _ _ _

section

variable {P : State → Prop} {s : State}

theorem prop_ite {c : Prop} [Decidable c] {t : State} (hs : P s) (ht : P t) : P (if c then s else t) := by
  split
  · exact hs
  · exact ht

/-- A further step that is taken under a condition. -/
theorem prop_branch {c : Prop} [Decidable c] (f : State → State) (hf : P s → P (f s)) (hs : P s) :
    P (if c then f s else s) := prop_ite (hf hs) hs

theorem prop_foldl {α : Type} {f : State → α → State} {l : List α} (hs : P s)
    (hf : ∀ u, ∀ a ∈ l, P u → P (f u a)) : P (l.foldl f s) := by
  induction l generalizing s with
  | nil => exact hs
  | cons a l ih =>
    exact ih (hf s a List.mem_cons_self hs) (fun u b hb => hf u b (List.mem_cons_of_mem a hb))

variable (hP : PathKeeps P)

include hP

/-! ### Reports -/

theorem PathKeeps.flag {k : Nat} (bit : Nat) (hs : P s) (hk : bandWorkKey k) : P (s.flag k bit) :=
  hP.reported (hP.set k _ hs hk) (State.noteSummary_reported _)

theorem PathKeeps.log (p : Prod) (code sev inst : Nat) (bs : Bytes) (hs : P s) : P (s.log p code sev inst bs) :=
  hP.reported hs (State.log_reported s p code sev inst bs)

theorem PathKeeps.flagFirst {k : Nat} (bit : Nat) (f : State → State) (hf : ∀ u, P u → P (f u)) (hs : P s)
    (hk : bandWorkKey k) : P (s.flagFirst k bit f) := prop_ite hs (hf _ (hP.flag bit hs hk))

theorem PathKeeps.fabEvent {p : Nat} (input : Nat) (hs : P s) (hp : p < 16) : P (s.fabEvent p input) := by
  have moved (r : PathRun) : P (s.setPath p r) := hP.congr hs rfl
  unfold State.fabEvent
  dsimp only
  split
  · exact hP.set _ _ (moved _) (bandWorkKey_path hp (by decide))
  · refine prop_ite (moved _) (hP.flagFirst 1 _ (fun u hu => hP.log _ _ _ _ _ hu) ?_ (bandWorkKey_path hp (by decide)))
    exact hP.set _ _ (moved _) (bandWorkKey_path hp (by decide))

/-! ### Gains and mutes -/

theorem PathKeeps.moveGain {p : Nat} (hs : P s) (hp : p < 16) : P (s.moveGain p) := by
  unfold State.moveGain
  split
  · next hu =>
    dsimp only
    have applied : P (s.setI (Obj.stabApplied p) (s.gainNow p).1) :=
      hP.set _ _ hs (bandWorkKey_path hp (by decide))
    have moved (r : PathRun) : P ((s.setI (Obj.stabApplied p) (s.gainNow p).1).setPath p r) := hP.congr applied rfl
    have still (r : PathRun) : ((s.setI (Obj.stabApplied p) (s.gainNow p).1).setPath p r).unmuted p = true :=
      (State.unmuted_congr (State.get_setI_ne s _ _ _ (by unfold Obj.stabState Obj.stabApplied; omega))).trans hu
    exact prop_ite (moved _) (hP.state p _ (moved _) hp (.inr (still _)))
  · exact hs

theorem PathKeeps.moveGains (hs : P s) : P s.moveGains :=
  prop_foldl hs (fun _ _ hp hu => hP.moveGain hu (pathNums_lt hp))

theorem PathKeeps.muteOne {p : Nat} (hs : P s) (hp : p < 16) : P (s.muteOne p) := by
  have moved (r : PathRun) : P ((s.moveGain p).setPath p r) := hP.congr (hP.moveGain hs hp) rfl
  exact hP.congr (hP.state p 0 (moved _) hp (.inl rfl)) rfl

theorem PathKeeps.closeGates (hs : P s) : P s.closeGates := by
  unfold State.closeGates
  refine prop_ite ?_ hs
  dsimp only
  have closed : P ((s.set Obj.leDirection 0).disarm .leMaxHold) :=
    hP.congr (hP.set Obj.leDirection 0 hs (bandWorkKey_of_ne (by decide) (by decide) (by decide))) rfl
  refine prop_foldl closed (fun u p hp hu => ?_)
  split
  · next h => exact hP.state p 5 (hP.moveGain hu (pathNums_lt hp)) (pathNums_lt hp) (.inr (State.unmuted_moveGain h.2))
  · exact hu

theorem PathKeeps.endHold (hs : P s) : P s.endHold := hP.closeGates (hP.congr hs rfl)

/-- The partner of a path on which a probe of the band runs, muted with it. -/
theorem PathKeeps.mutePartner {p : Nat} (hs : P s) :
    P (if s.bandOn p && decide (s.partnerOf p < 16) && s.get (Obj.stabState (s.partnerOf p)) == 1 then
      s.muteOne (s.partnerOf p) else s) := by
  split
  · next h =>
    simp only [Bool.and_eq_true, decide_eq_true_eq] at h
    exact hP.muteOne hs h.1.2
  · exact hs

theorem PathKeeps.mutePath {p : Nat} (hs : P s) (hp : p < 16) : P (s.mutePath p) :=
  prop_branch State.endHold hP.endHold (hP.mutePartner (hP.muteOne hs hp))

theorem PathKeeps.mutePaths {ps : List Nat} (hs : P s) (hps : ∀ p ∈ ps, p < 16) : P (s.mutePaths ps) :=
  prop_foldl hs (fun _ p hp hu => hP.mutePath hu (hps p hp))

theorem PathKeeps.hardMute (hs : P s) : P s.hardMute :=
  prop_foldl (hP.congr hs rfl) (fun _ _ hp hu => hP.mutePath hu (pathNums_lt hp))

/-! ### The arbitration and the gains of a band -/

theorem PathKeeps.grantFlags (capped muted : Bool) (hs : P s) :
    P (let t := if capped && !muted then s.flag Obj.paBudgetSticky 0 else s
       if muted then t.flagFirst Obj.paBudgetSticky 1 (fun s => s.log .press 0x1A07 2 31 []) else t) := by
  have budget : bandWorkKey Obj.paBudgetSticky := bandWorkKey_of_ne (by decide) (by decide) (by decide)
  have flagged : P (if capped && !muted then s.flag Obj.paBudgetSticky 0 else s) :=
    prop_branch (fun u => u.flag Obj.paBudgetSticky 0) (hP.flag 0 · budget) hs
  exact prop_ite (hP.flagFirst 1 _ (fun u hu => hP.log _ _ _ _ _ hu) flagged budget) flagged

theorem PathKeeps.noteGrant (g : Grant) (hs : P s) : P (s.noteGrant g) :=
  hP.grantFlags _ g.muted (prop_foldl hs (fun _ _ _ hu => hP.congr hu rfl))

theorem PathKeeps.arbitrate (hs : P s) : P s.arbitrate := by
  have budget {k : Nat} (low : 0x320000 ≤ k) (high : k < 0x400010) : bandWorkKey k :=
    ⟨by omega, high, fun p _ e => by subst e; unfold Obj.stabState at low; omega⟩
  unfold State.arbitrate
  dsimp only
  refine hP.set _ _ (hP.set _ _ (hP.set _ _ (hP.set _ _ ?_ ?_) ?_) ?_) ?_
  · exact prop_foldl hs (fun _ g _ hu => hP.noteGrant g hu)
  all_goals exact budget (by decide) (by decide)

theorem PathKeeps.noteComputed {p : Nat} (pa : Option Int) (g : Int) (hs : P s) (hp : p < 16) :
    P (s.noteComputed p pa g) := by
  have sticky : bandWorkKey Obj.stabSticky := bandWorkKey_of_ne (by decide) (by decide) (by decide)
  have limits (v : Nat) (r : PathRun) : P ((s.set (Obj.stabLimits p) v).setPath p r) :=
    hP.congr (hP.set _ v hs (bandWorkKey_path hp (by decide))) rfl
  unfold State.noteComputed
  dsimp only
  refine prop_branch (fun u => u.flag Obj.stabSticky 5) (hP.flag 5 · sticky) ?_
  refine prop_branch (fun u => u.flag Obj.stabSticky 4) (hP.flag 4 · sticky) ?_
  refine prop_branch (fun u => u.fabEvent p 12) (hP.fabEvent 12 · hp) ?_
  split
  · next served =>
    exact hP.state p _ (limits _ _) hp (.inr (Bool.and_eq_true_iff.mp served).1)
  · exact limits _ _

theorem PathKeeps.waitProbe (p : Nat) (hs : P s) : P (s.waitProbe p) := hP.congr hs rfl

theorem PathKeeps.computeBand {b : Nat × Nat} (hs : P s) (hb : b.1 < 16 ∧ b.2 < 16) : P (s.computeBand b) := by
  unfold State.computeBand
  dsimp only
  have computed := fun pu gu pd gd => hP.noteComputed (p := b.2) pd gd (hP.noteComputed (p := b.1) pu gu hs hb.1) hb.2
  refine prop_ite ?_ (computed _ _ _ _)
  exact hP.waitProbe _ (hP.waitProbe _ (hP.mutePath (hP.mutePath (computed _ _ _ _) hb.1) hb.2))

theorem PathKeeps.rebalance (hs : P s) : P s.rebalance :=
  prop_foldl (hP.arbitrate (hP.moveGains hs)) (fun _ _ hb hu => hP.computeBand hu (State.bands_lt hb))

end

end Sys2Proof.Machine

namespace Sys2Proof.Machine

open Sys2Proof

/-! ## Time and expiries -/

/-- The counters of time apart, the passing of time leaves every register alone. -/
theorem State.get_elapse (s : State) (n k : Nat) (hop : k ≠ Obj.powerStateOperatingSeconds)
    (hcore : k ≠ Obj.powerStateCoreSeconds) (hun : k ≠ Obj.energyUncountedSeconds) : (s.elapse n).get k = s.get k := by
  have counted (u : State) (c : Prop) [Decidable c] (j v : Nat) (f : Clocks → Clocks) (hk : k ≠ j)
      (hu : u.get k = s.get k) : (if c then { (u.bump j v) with time := f (u.bump j v).time } else u).get k = s.get k := by
    split
    · exact (State.get_bump_ne u j k v hk).trans hu
    · exact hu
  unfold State.elapse
  dsimp only
  refine counted _ _ _ _ (fun t => { t with uncountedFrac := _ }) hun ?_
  refine counted _ _ _ _ (fun t => { t with coreFrac := _ }) hcore ?_
  exact counted _ _ _ _ (fun t => { t with opFrac := _ }) hop rfl

theorem State.onTimer_of_deadline {s : State} {T : TimerId} {d : Nat} (f : State → State) (h : s.deadline T = some d) :
    s.onTimer T f = f (Claims.expired s T d) := by
  unfold State.onTimer
  rw [h]
  rfl

/-- The parts outside time, the timers and the registers are at an expiry as they were. -/
theorem expired_fr (s : State) (T : TimerId) (d : Nat) : Fr 7 s (Claims.expired s T d) :=
  State.disarm_fr _ T rfl (State.elapse_fr s _ rfl (Fr.refl 7 s))

theorem State.get_expired (s : State) (T : TimerId) (d k : Nat) (hop : k ≠ Obj.powerStateOperatingSeconds)
    (hcore : k ≠ Obj.powerStateCoreSeconds) (hun : k ≠ Obj.energyUncountedSeconds) :
    (Claims.expired s T d).get k = s.get k := s.get_elapse _ k hop hcore hun

/-! ## Lanes -/

theorem reportKey_paLaneState (n : Nat) : reportKey (Obj.paLaneState n) = false :=
  reportKey_of_le (by unfold Obj.paLaneState; omega)

/-- Band-path work leaves the state of every lane alone. -/
theorem pathKeeps_laneState (n c : Nat) : PathKeeps (fun s => s.get (Obj.paLaneState n) = c) :=
  pathKeeps_get (by unfold Obj.paLaneState; omega) (reportKey_paLaneState n)

theorem paLaneState_inj {m n : Nat} (h : Obj.paLaneState m = Obj.paLaneState n) : m = n := by
  unfold Obj.paLaneState at h
  omega

theorem paLaneState_ne_stabState (n p : Nat) : Obj.stabState p ≠ Obj.paLaneState n := by
  unfold Obj.stabState Obj.paLaneState
  omega

theorem State.get_expired_laneState (s : State) (T : TimerId) (d n : Nat) :
    (Claims.expired s T d).get (Obj.paLaneState n) = s.get (Obj.paLaneState n) := by
  refine s.get_expired T d _ ?_ ?_ ?_ <;>
    simp only [Obj.paLaneState, Obj.powerStateOperatingSeconds, Obj.powerStateCoreSeconds,
      Obj.energyUncountedSeconds] <;> omega

theorem State.lane_congr {s t : State} (h : t.pa = s.pa) (n : Nat) : t.lane n = s.lane n := by
  simp [State.lane, h]

theorem State.lane_setLane_self {s : State} {n : Nat} (r : LaneRun) (h : n < s.pa.lanes.length) :
    (s.setLane n r).lane n = r := by
  simp [State.lane, State.setLane, h]

theorem State.lane_setLane_ne {s : State} {m n : Nat} (r : LaneRun) (h : m ≠ n) :
    (s.setLane n r).lane m = s.lane m := by
  simp [State.lane, State.setLane, List.getElem?_set_ne h.symm]

@[simp] theorem State.setLane_length (s : State) (n : Nat) (r : LaneRun) :
    (s.setLane n r).pa.lanes.length = s.pa.lanes.length := by
  simp [State.setLane]

/-- A lane whose stops are kept by its replacement keeps them, whether or not the lane exists. -/
theorem State.hold_setLane (s : State) (m n : Nat) (r : LaneRun) (h : r.hold = (s.lane n).hold) :
    ((s.setLane n r).lane m).hold = (s.lane m).hold := by
  by_cases e : m = n
  · subst e
    by_cases hl : m < s.pa.lanes.length
    · rw [State.lane_setLane_self r hl, h]
    · simp [State.lane, State.setLane, hl]
  · rw [State.lane_setLane_ne r e]

/-! ### A lane that no stop holds -/

theorem State.laneReleased_pa (s : State) (n : Nat) : (s.laneReleased n).pa = s.pa :=
  (State.laneReleased_fr s n (F := 4) rfl (Fr.refl 4 s)).pa rfl

theorem State.laneReleased_pins (s : State) (n : Nat) : (s.laneReleased n).pins = s.pins :=
  (State.laneReleased_fr s n (F := 4) rfl (Fr.refl 4 s)).pins rfl

theorem State.laneReleased_off {s : State} {n : Nat}
    (h : s.get (Obj.paLaneState n) = 5 ∧ (s.lane n).hold.any = false ∨ s.get (Obj.paLaneState n) = 0) :
    (s.laneReleased n).get (Obj.paLaneState n) = 0 := by
  unfold State.laneReleased
  rcases h with ⟨stopped, free⟩ | off
  · simp [stopped, free]
  · simp [off]

theorem State.laneReleased_get_ne {s : State} {m n : Nat} (h : m ≠ n) :
    (s.laneReleased n).get (Obj.paLaneState m) = s.get (Obj.paLaneState m) := by
  unfold State.laneReleased
  split
  · exact s.get_set_ne _ _ _ (fun e => h (paLaneState_inj e))
  · rfl

/-! ### A lane stopped -/

theorem State.mutePaths_pa (s : State) (ps : List Nat) : (s.mutePaths ps).pa = s.pa :=
  (State.mutePaths_fr s ps (F := 1168231104518) rfl (Fr.refl _ s)).pa rfl

theorem State.mutePaths_pins (s : State) (ps : List Nat) : (s.mutePaths ps).pins = s.pins :=
  (State.mutePaths_fr s ps (F := 1168231104518) rfl (Fr.refl _ s)).pins rfl

/-- A lane without power: its paths muted, its pins, its ramp and its checks at 0, its timers stopped. -/
def State.laneDown (s : State) (n : Nat) : State :=
  let s := s.mutePaths (s.lanePaths n)
  let s : State := { s with
    pins.paEn := s.pins.paEn &&& ~~~ BitVec.ofNat 4 (2 ^ n)
    pins.paBias := dropKey s.pins.paBias n
    pa.pmb := s.pa.pmb.filter (fun t => !(t.lane == n)) }
  let s := s.setLane n { s.lane n with biasFrom := 0, biasAt := s.now, biasGoal := 0, voutOk := false, statusOk := false }
  ((s.disarm (.laneRegulator n)).disarm (.laneReady n)).disarm (.laneMonitor n)

section

variable (s : State) (n : Nat)

/-- A lane's stop: the lane without power takes its state, and OPERATION 0x00 is owed to it. -/
theorem State.stopLane_eq : s.stopLane n =
    ((s.laneDown n).set (Obj.paLaneState n) ((s.laneDown n).stoppedState n)).sendPmb n [0x01] := rfl

/-- The unit of the lanes as a lane has lost its power. -/
theorem State.laneDown_pa : (s.laneDown n).pa = { s.pa with
    pmb := s.pa.pmb.filter (fun t => !(t.lane == n))
    lanes := s.pa.lanes.set n { s.lane n with
      biasFrom := 0, biasAt := (s.mutePaths (s.lanePaths n)).now, biasGoal := 0, voutOk := false, statusOk := false } } := by
  have kept := s.mutePaths_pa (s.lanePaths n)
  rw [← State.lane_congr kept n, ← kept]
  rfl

theorem State.laneDown_hold (m : Nat) : ((s.laneDown n).lane m).hold = (s.lane m).hold := by
  have lanes : (s.laneDown n).lane m = (s.setLane n { s.lane n with
      biasFrom := 0, biasAt := (s.mutePaths (s.lanePaths n)).now, biasGoal := 0, voutOk := false,
      statusOk := false }).lane m := congrArg (fun u => u.lanes.getD m LaneRun.idle) (s.laneDown_pa n)
  rw [lanes]
  exact s.hold_setLane m n _ rfl

theorem State.laneDown_get (k : Nat) : (s.laneDown n).get k = (s.mutePaths (s.lanePaths n)).get k := rfl

/-- What a lane's stop leaves of the unit's stops: a breach and a die trip stand, and so do the causes that hold a lane. -/
theorem State.stopLane_breach : (s.stopLane n).pa.breach = s.pa.breach := by
  have kept := congrArg PaUnit.breach (s.laneDown_pa n)
  exact kept

theorem State.stopLane_die : (s.stopLane n).pa.die = s.pa.die := by
  have kept := congrArg PaUnit.die (s.laneDown_pa n)
  exact kept

theorem State.stopLane_length : (s.stopLane n).pa.lanes.length = s.pa.lanes.length :=
  (congrArg (fun u => u.lanes.length) (s.laneDown_pa n)).trans (List.length_set ..)

theorem State.stopLane_hold (m : Nat) : ((s.stopLane n).lane m).hold = (s.lane m).hold := s.laneDown_hold n m

theorem State.stopLane_paEn : (s.stopLane n).pins.paEn = s.pins.paEn &&& ~~~ BitVec.ofNat 4 (2 ^ n) :=
  congrArg (fun u : Pins => u.paEn &&& ~~~ BitVec.ofNat 4 (2 ^ n)) (s.mutePaths_pins (s.lanePaths n))

/-- The transactions of the lane give way to those of its stop, OPERATION 0x00 the last. -/
theorem State.stopLane_pmb : ∃ page, (s.stopLane n).pa.pmb =
    s.pa.pmb.filter (fun t => !(t.lane == n)) ++ (page ++ [⟨n, 0x01, false⟩]) := by
  rw [State.stopLane_eq]
  unfold State.sendPmb
  simp only [State.set_pa, s.laneDown_pa n, List.flatMap_singleton]
  split
  · exact ⟨[⟨n, 0, false⟩], rfl⟩
  · exact ⟨[], rfl⟩

theorem State.mem_pmb_stopLane_self : (⟨n, 0x01, false⟩ : PmbTx) ∈ (s.stopLane n).pa.pmb := by
  obtain ⟨page, h⟩ := s.stopLane_pmb n
  simp [h]

theorem State.mem_pmb_stopLane_of_ne {t : PmbTx} (h : t ∈ s.pa.pmb) (ne : t.lane ≠ n) : t ∈ (s.stopLane n).pa.pmb := by
  obtain ⟨page, hp⟩ := s.stopLane_pmb n
  simp [hp, h, ne]

theorem State.stoppedState_laneDown : (s.laneDown n).stoppedState n = s.stoppedState n := by
  have breach : (s.laneDown n).pa.breach = s.pa.breach := s.stopLane_breach n
  simp only [State.stoppedState, breach, s.laneDown_hold n n]

/-- A stopped lane takes its state, and outside the band paths no other register is written. -/
theorem State.stopLane_get (k : Nat) : (s.stopLane n).get k =
    ((s.laneDown n).set (Obj.paLaneState n) (s.stoppedState n)).get k := by
  rw [← s.stoppedState_laneDown n]
  rfl

theorem State.stopLane_laneState_self : (s.stopLane n).get (Obj.paLaneState n) = s.stoppedState n := by
  rw [s.stopLane_get n, State.get_set_self]

theorem State.stopLane_laneState_ne {m : Nat} (h : m ≠ n) :
    (s.stopLane n).get (Obj.paLaneState m) = s.get (Obj.paLaneState m) := by
  rw [s.stopLane_get n, State.get_set_ne _ _ _ _ (fun e => h (paLaneState_inj e)), s.laneDown_get n]
  exact (pathKeeps_laneState m _).mutePaths rfl (fun _ => State.lanePaths_lt)

/-- A muted path stays muted as a lane stops. -/
theorem State.stopLane_muted {p : Nat} (hp : p < 16) (h : s.get (Obj.stabState p) = 0) :
    (s.stopLane n).get (Obj.stabState p) = 0 := by
  rw [s.stopLane_get n, State.get_set_ne _ _ _ _ (paLaneState_ne_stabState n p), s.laneDown_get n]
  exact (pathKeeps_muted hp).mutePaths h (fun _ => State.lanePaths_lt)

/-- The state of a stopped lane is none in which it runs. -/
theorem State.stoppedState_cases : s.stoppedState n = 4 ∨ s.stoppedState n = 5 ∨ s.stoppedState n = 6 := by
  unfold State.stoppedState
  split
  · exact .inr (.inr rfl)
  · split
    · exact .inr (.inl rfl)
    · exact .inl rfl

end

theorem State.laneRuns_iff (s : State) (n : Nat) : s.laneRuns n = true ↔
    s.get (Obj.paLaneState n) = 1 ∨ s.get (Obj.paLaneState n) = 2 ∨ s.get (Obj.paLaneState n) = 3 := by
  simp [State.laneRuns, State.laneOn]

theorem State.laneRuns_congr {s t : State} {n : Nat} (h : t.get (Obj.paLaneState n) = s.get (Obj.paLaneState n)) :
    t.laneRuns n = s.laneRuns n := by
  simp [State.laneRuns, State.laneOn, h]

theorem State.laneRuns_stopLane_self (s : State) (n : Nat) : (s.stopLane n).laneRuns n = false := by
  rw [Bool.eq_false_iff, Ne, State.laneRuns_iff, s.stopLane_laneState_self n]
  have := s.stoppedState_cases n
  omega

/-! ### Every path muted -/

theorem State.muteOne_muted (s : State) (p : Nat) : (s.muteOne p).get (Obj.stabState p) = 0 := State.get_set_self _ _ _

theorem State.mutePath_muted (s : State) {p : Nat} (hp : p < 16) : (s.mutePath p).get (Obj.stabState p) = 0 :=
  prop_branch (P := fun t => t.get (Obj.stabState p) = 0) State.endHold (pathKeeps_muted hp).endHold
    ((pathKeeps_muted hp).mutePartner (s.muteOne_muted p))

/-- What each step of a fold brings about and every step keeps holds at its end. -/
theorem foldl_brings {α : Type} {f : State → α → State} {I : State → Prop} {Q : α → State → Prop} {l : List α} {s : State}
    (hs : I s) (inv : ∀ u, ∀ a ∈ l, I u → I (f u a)) (brings : ∀ u, ∀ a ∈ l, I u → Q a (f u a))
    (keeps : ∀ u, ∀ a ∈ l, ∀ b ∈ l, I u → Q b u → Q b (f u a)) : I (l.foldl f s) ∧ ∀ a ∈ l, Q a (l.foldl f s) := by
  refine ⟨prop_foldl hs inv, ?_⟩
  induction l generalizing s with
  | nil => exact fun _ h => absurd h List.not_mem_nil
  | cons a l ih =>
    have sub {b : α} : b ∈ l → b ∈ a :: l := List.mem_cons_of_mem a
    have next := inv s a List.mem_cons_self hs
    have own := prop_foldl (P := fun u => I u ∧ Q a u) ⟨next, brings s a List.mem_cons_self hs⟩
      (fun u b hb hu => ⟨inv u b (sub hb) hu.1, keeps u b (sub hb) a List.mem_cons_self hu.1 hu.2⟩)
    exact List.forall_mem_cons.mpr ⟨own.2, ih next (fun u b hb => inv u b (sub hb)) (fun u b hb => brings u b (sub hb))
      (fun u b hb c hc => keeps u b (sub hb) c (sub hc))⟩

theorem State.mutePaths_muted (s : State) : ∀ p ∈ pathNums, (s.mutePaths pathNums).get (Obj.stabState p) = 0 :=
  (foldl_brings (I := fun _ => True) (Q := fun p u => u.get (Obj.stabState p) = 0) trivial (fun _ _ _ _ => trivial)
    (fun u _ hp _ => u.mutePath_muted (pathNums_lt hp))
    (fun _ _ hp _ hq _ hu => (pathKeeps_muted (pathNums_lt hq)).mutePath hu (pathNums_lt hp))).2

theorem State.hardMute_muted (s : State) : ∀ p ∈ pathNums, s.hardMute.get (Obj.stabState p) = 0 :=
  State.mutePaths_muted { s with pins.rfMuteN := false }

end Sys2Proof.Machine

namespace Sys2Proof.Machine

open Sys2Proof

/-! ## Gains settled with no commit in application -/

theorem State.rebalance_eng (s : State) : s.rebalance.eng = s.eng :=
  (State.rebalance_fr s (F := 1168289824774) rfl (Fr.refl _ s)).eng rfl

theorem State.rebalance_pins (s : State) : s.rebalance.pins = s.pins :=
  (State.rebalance_fr s (F := 1168289824774) rfl (Fr.refl _ s)).pins rfl

theorem State.rebalance_power (s : State) : s.rebalance.power = s.power :=
  (State.rebalance_fr s (F := 1168289824774) rfl (Fr.refl _ s)).power rfl

theorem State.rebalance_pa (s : State) : s.rebalance.pa = s.pa :=
  (State.rebalance_fr s (F := 1168289824774) rfl (Fr.refl _ s)).pa rfl

theorem State.settleGains_of_no_commit {s : State} (h : s.eng.commit = none) : s.settleGains = s.rebalance := by
  have idle : s.rebalance.eng.commit = none := by rw [s.rebalance_eng, h]
  unfold State.settleGains State.advanceCommit
  rw [idle]
  dsimp only
  unfold State.tryFinish
  rw [idle]

theorem State.rebalance_laneState (s : State) (n : Nat) :
    s.rebalance.get (Obj.paLaneState n) = s.get (Obj.paLaneState n) := (pathKeeps_laneState n _).rebalance rfl

/-! ## LANE_THERMAL_RESTART (R462) -/

/-- The 60 s of a lane at or below LaneRestart: it is held for heat no longer, and off where nothing else holds it. -/
theorem laneThermalRestart_off {s : State} (len : s.pa.lanes.length = 4) (n : Fin 4) {d : Nat}
    (due : s.deadline (.laneCool n.val) = some d) (stopped : s.get (Obj.paLaneState n.val) = 5)
    (free : ({ (s.lane n.val).hold with heat := false } : LaneHold).any = false) :
    Claims.Answers (.laneThermalRestart n) s (fun t => t.get (Obj.paLaneState n.val) = 0 ∧
      (t.lane n.val).hold.heat = false ∧ t.pins = s.pins) := by
  refine ⟨_, congrArg Host.Outcome.next (State.onTimer_of_deadline _ due), ?_⟩
  have frame := expired_fr s (.laneCool n.val) d
  have state := s.get_expired_laneState (.laneCool n.val) d n.val
  generalize Claims.expired s (.laneCool n.val) d = u at frame state ⊢
  have pa : u.pa = s.pa := frame.pa rfl
  have lane := State.lane_congr pa n.val
  have cooled : (u.setLane n.val { u.lane n.val with hold := { (u.lane n.val).hold with heat := false } }).lane n.val =
      { u.lane n.val with hold := { (u.lane n.val).hold with heat := false } } :=
    State.lane_setLane_self _ (by rw [pa, len]; exact n.isLt)
  refine ⟨State.laneReleased_off (.inl ⟨state.trans stopped, ?_⟩), ?_, ?_⟩
  · rw [cooled, lane]
    exact free
  · dsimp only
    rw [State.lane_congr (State.laneReleased_pa _ _) n.val, cooled]
  · exact (State.laneReleased_pins _ _).trans (frame.pins rfl)

/-! ## DIE_TRIP and DIE_TRIP_CLEAR (R463) -/

/-- What a die trip does to one lane. -/
def State.dieStop (s : State) (n : Nat) : State :=
  let r := s.lane n
  let s := s.setLane n { r with hold := { r.hold with die := true } }
  if s.laneRuns n then s.stopLane n else s

/-- The pins' and the unit's part of a die trip. -/
def State.dieLatch (s : State) : State := { s with pins.paEn := 0, pa.die := true }

theorem execDieTrip_eq (s : State) : execDieTrip s = .next (s.when s.power.coreReleased (fun s =>
    ((laneNums.foldl State.dieStop s.hardMute.dieLatch).faultRow Obj.droopSticky 3 .monitors 0x190C 2 31 []).settleGains)) := rfl

/-- What holds from the pins' part of a die trip on: no PA is enabled, and every path is muted. -/
structure DieTripped (s : State) : Prop where
  lanes : s.pa.lanes.length = 4
  die : s.pa.die = true
  paEn : s.pins.paEn = 0
  muted : ∀ p ∈ pathNums, s.get (Obj.stabState p) = 0

theorem DieTripped.setLane {s : State} (h : DieTripped s) (n : Nat) (r : LaneRun) : DieTripped (s.setLane n r) where
  lanes := (s.setLane_length n r).trans h.lanes
  die := h.die
  paEn := h.paEn
  muted := h.muted

theorem DieTripped.stopLane {s : State} (h : DieTripped s) (n : Nat) : DieTripped (s.stopLane n) where
  lanes := (s.stopLane_length n).trans h.lanes
  die := (s.stopLane_die n).trans h.die
  paEn := by
    rw [s.stopLane_paEn, h.paEn]
    exact BitVec.zero_and
  muted p hp := s.stopLane_muted n (pathNums_lt hp) (h.muted p hp)

theorem DieTripped.dieStop {s : State} (h : DieTripped s) (n : Nat) : DieTripped (s.dieStop n) :=
  prop_ite ((h.setLane n _).stopLane n) (h.setLane n _)

/-- A lane that a die trip has stopped. -/
def State.heldByDie (n : Nat) (s : State) : Prop := (s.lane n).hold.die = true ∧ s.laneRuns n = false

theorem State.heldByDie_dieStop_self {s : State} {n : Nat} (len : s.pa.lanes.length = 4) (hn : n < 4) :
    State.heldByDie n (s.dieStop n) := by
  have held : ((s.setLane n { s.lane n with hold := { (s.lane n).hold with die := true } }).lane n).hold.die = true := by
    rw [State.lane_setLane_self _ (by omega)]
  unfold State.dieStop
  dsimp only
  split
  · exact ⟨by rw [State.stopLane_hold, held], State.laneRuns_stopLane_self _ n⟩
  · next h => exact ⟨held, Bool.eq_false_iff.mpr h⟩

theorem State.heldByDie_dieStop {s : State} {m n : Nat} (len : s.pa.lanes.length = 4) (hn : n < 4)
    (h : State.heldByDie m s) : State.heldByDie m (s.dieStop n) := by
  by_cases e : m = n
  · subst e
    exact State.heldByDie_dieStop_self len hn
  · have held : State.heldByDie m (s.setLane n { s.lane n with hold := { (s.lane n).hold with die := true } }) :=
      ⟨by rw [State.lane_setLane_ne _ e]; exact h.1, h.2⟩
    unfold State.dieStop
    dsimp only
    split
    · exact ⟨by rw [State.stopLane_hold]; exact held.1,
        (State.laneRuns_congr (State.stopLane_laneState_ne _ n e)).trans held.2⟩
    · exact held

theorem State.dieStop_fr {v : State} (s : State) (n : Nat) (h : Fr 5566277615702 v s) :
    Fr 5566277615702 v (s.dieStop n) := by
  have held := State.setLane_fr s n { s.lane n with hold := { (s.lane n).hold with die := true } } rfl h
  exact fr_ite (State.stopLane_fr _ n rfl held) held

theorem DieTripped.of_dieLatch {s : State} (len : s.pa.lanes.length = 4)
    (muted : ∀ p ∈ pathNums, s.get (Obj.stabState p) = 0) : DieTripped s.dieLatch := ⟨len, rfl, rfl, muted⟩

theorem State.hardMute_eq (s : State) : s.hardMute = ({ s with pins.rfMuteN := false } : State).mutePaths pathNums := rfl

theorem State.hardMute_rfMuteN (s : State) : s.hardMute.pins.rfMuteN = false := by
  rw [State.hardMute_eq, State.mutePaths_pins]

theorem State.hardMute_pa (s : State) : s.hardMute.pa = s.pa := by
  rw [State.hardMute_eq, State.mutePaths_pa]

theorem State.hardMute_power (s : State) : s.hardMute.power = s.power :=
  (State.hardMute_fr s (F := 1168231104662) rfl (Fr.refl _ s)).power rfl

theorem State.hardMute_eng (s : State) : s.hardMute.eng = s.eng :=
  (State.hardMute_fr s (F := 1168231104662) rfl (Fr.refl _ s)).eng rfl

theorem State.dieLatch_rfMuteN (s : State) : s.dieLatch.pins.rfMuteN = s.pins.rfMuteN := rfl

theorem State.dieLatch_power (s : State) : s.dieLatch.power = s.power := rfl

theorem State.dieLatch_eng (s : State) : s.dieLatch.eng = s.eng := rfl

/-- The lanes stopped one after another leave the mute, the power state and the commit engine alone. -/
theorem State.dieStops_fr (s : State) : Fr 5566277615702 s (laneNums.foldl State.dieStop s) :=
  fr_foldl (fun u n hu => State.dieStop_fr u n hu) (Fr.refl _ s)

/-- Gains settled with no commit in application leave the lanes and every muted path as they are. -/
theorem State.settled_of_no_commit {s : State} (idle : s.eng.commit = none) : s.settleGains.pins = s.pins ∧
    s.settleGains.pa = s.pa ∧ s.settleGains.power = s.power ∧
    (∀ n, s.settleGains.get (Obj.paLaneState n) = s.get (Obj.paLaneState n)) ∧
    ∀ p ∈ pathNums, s.get (Obj.stabState p) = 0 → s.settleGains.get (Obj.stabState p) = 0 := by
  rw [State.settleGains_of_no_commit idle]
  exact ⟨s.rebalance_pins, s.rebalance_pa, s.rebalance_power, s.rebalance_laneState,
    fun p hp h => (pathKeeps_muted (pathNums_lt hp)).rebalance h⟩

theorem dieTrip_stops {s : State} (len : s.pa.lanes.length = 4) (core : s.power.coreReleased = true)
    (idle : s.eng.commit = none) : Claims.Answers .dieTrip s (fun t =>
      t.pins.rfMuteN = false ∧ t.pins.paEn = 0 ∧ t.pa.die = true ∧ t.power = s.power ∧
        (∀ n ∈ laneNums, (t.lane n).hold.die = true ∧ t.laneRuns n = false) ∧
        ∀ p ∈ pathNums, t.get (Obj.stabState p) = 0) := by
  have mute : DieTripped s.hardMute.dieLatch := .of_dieLatch (by rw [s.hardMute_pa, len]) s.hardMute_muted
  obtain ⟨tripped, held⟩ := foldl_brings (I := DieTripped) (Q := State.heldByDie) (f := State.dieStop) (l := laneNums)
    mute (fun _ n _ hu => hu.dieStop n) (fun _ _ hn hu => State.heldByDie_dieStop_self hu.lanes (laneNums_lt hn))
    (fun _ _ hn _ _ hu hm => State.heldByDie_dieStop hu.lanes (laneNums_lt hn) hm)
  have stops := s.hardMute.dieLatch.dieStops_fr
  have rfMute : (laneNums.foldl State.dieStop s.hardMute.dieLatch).pins.rfMuteN = false := by
    rw [stops.pins_rfMuteN rfl, State.dieLatch_rfMuteN, State.hardMute_rfMuteN]
  have power : (laneNums.foldl State.dieStop s.hardMute.dieLatch).power = s.power := by
    rw [stops.power rfl, State.dieLatch_power, State.hardMute_power]
  have idle' : (laneNums.foldl State.dieStop s.hardMute.dieLatch).eng.commit = none := by
    rw [stops.eng rfl, State.dieLatch_eng, State.hardMute_eng, idle]
  have answer := execDieTrip_eq s
  rw [core, State.when_true] at answer
  generalize laneNums.foldl State.dieStop s.hardMute.dieLatch = u at answer tripped held rfMute power idle'
  have recorded : (u.faultRow Obj.droopSticky 3 .monitors 0x190C 2 31 []).eng.commit = none := by
    rw [State.faultRow_eng, idle']
  have row {k : Nat} (hk : k ≠ Obj.droopSticky) (hr : reportKey k = false) :
      (u.faultRow Obj.droopSticky 3 .monitors 0x190C 2 31 []).get k = u.get k := u.get_faultRow_ne _ _ _ _ _ _ _ _ hk hr
  obtain ⟨pins, pa, power', lanes, paths⟩ := State.settled_of_no_commit recorded
  rw [State.faultRow_pins] at pins
  rw [State.faultRow_pa] at pa
  refine ⟨_, answer, ?_, ?_, ?_, ?_, fun n hn => ⟨?_, ?_⟩, fun p hp => paths p hp ?_⟩
  · rw [pins, rfMute]
  · rw [pins, tripped.paEn]
  · rw [pa, tripped.die]
  · rw [power', State.faultRow_power, power]
  · rw [State.lane_congr pa]
    exact (held n hn).1
  · rw [State.laneRuns_congr ((lanes n).trans (row (by unfold Obj.paLaneState Obj.droopSticky; omega)
      (reportKey_paLaneState n)))]
    exact (held n hn).2
  · rw [row (by unfold Obj.stabState Obj.droopSticky; omega) (reportKey_stabState p)]
    exact tripped.muted p hp

/-- What the end of a die trip does to one lane. -/
def State.dieRelease (s : State) (n : Nat) : State :=
  let r := s.lane n
  (s.setLane n { r with hold := { r.hold with die := false } }).laneReleased n

/-- The unit's part of the end of a die trip. -/
def State.dieUnlatch (s : State) : State := { s with pa.die := false }

theorem execDieTripClear_eq (s : State) :
    execDieTripClear s = .next (s.when s.pa.die (fun s => laneNums.foldl State.dieRelease s.dieUnlatch)) := rfl

/-- The causes other than a die trip that hold a lane. -/
def State.otherHold (s : State) (n : Nat) : LaneHold := { (s.lane n).hold with die := false }

/-- A lane that only a die trip stops. -/
def State.onlyDie (s : State) (n : Nat) : Prop := s.get (Obj.paLaneState n) = 5 ∧ (s.otherHold n).any = false

theorem State.lane_dieRelease_self {s : State} {n : Nat} (h : n < s.pa.lanes.length) :
    (s.dieRelease n).lane n = { s.lane n with hold := s.otherHold n } :=
  (State.lane_congr (State.laneReleased_pa _ n) n).trans (State.lane_setLane_self _ h)

theorem State.lane_dieRelease_ne (s : State) {m n : Nat} (h : m ≠ n) : (s.dieRelease n).lane m = s.lane m :=
  (State.lane_congr (State.laneReleased_pa _ n) m).trans (State.lane_setLane_ne _ h)

theorem State.otherHold_dieRelease {s : State} {n : Nat} (h : n < s.pa.lanes.length) (m : Nat) :
    (s.dieRelease n).otherHold m = s.otherHold m := by
  by_cases e : m = n
  · subst e
    simp [State.otherHold, State.lane_dieRelease_self h]
  · simp [State.otherHold, s.lane_dieRelease_ne e]

/-- What holds of the lanes one after another as a die trip ends. -/
structure DieReleasing (s u : State) : Prop where
  lanes : u.pa.lanes.length = 4
  die : u.pa.die = false
  pins : u.pins = s.pins
  hold : ∀ n, u.otherHold n = s.otherHold n
  state : ∀ n, s.onlyDie n → u.get (Obj.paLaneState n) = 5 ∨ u.get (Obj.paLaneState n) = 0

theorem DieReleasing.off {s u : State} (h : DieReleasing s u) {n : Nat} (hn : n < 4) (only : s.onlyDie n) :
    (u.dieRelease n).get (Obj.paLaneState n) = 0 := by
  refine State.laneReleased_off ((h.state n only).imp_left fun stopped => ⟨stopped, ?_⟩)
  rw [State.lane_setLane_self _ (by rw [h.lanes]; exact hn)]
  exact (congrArg LaneHold.any (h.hold n)).trans only.2

theorem State.get_dieRelease_ne (s : State) {m n : Nat} (h : m ≠ n) :
    (s.dieRelease n).get (Obj.paLaneState m) = s.get (Obj.paLaneState m) := State.laneReleased_get_ne h

theorem DieReleasing.dieRelease {s u : State} (h : DieReleasing s u) {n : Nat} (hn : n < 4) :
    DieReleasing s (u.dieRelease n) where
  lanes := (congrArg (fun p => p.lanes.length) (State.laneReleased_pa _ n)).trans ((u.setLane_length n _).trans h.lanes)
  die := (congrArg PaUnit.die (State.laneReleased_pa _ n)).trans h.die
  pins := (State.laneReleased_pins _ n).trans h.pins
  hold m := (State.otherHold_dieRelease (by rw [h.lanes]; exact hn) m).trans (h.hold m)
  state m only := by
    by_cases e : m = n
    · subst e
      exact .inr (h.off hn only)
    · rw [u.get_dieRelease_ne e]
      exact h.state m only

/-- A lane that the end of a die trip has released. -/
def State.freedOfDie (s : State) (n : Nat) (u : State) : Prop :=
  (u.lane n).hold.die = false ∧ (s.onlyDie n → u.get (Obj.paLaneState n) = 0)

theorem DieReleasing.freed_self {s u : State} (h : DieReleasing s u) {n : Nat} (hn : n < 4) :
    s.freedOfDie n (u.dieRelease n) :=
  ⟨by rw [State.lane_dieRelease_self (by rw [h.lanes]; exact hn)]; rfl, h.off hn⟩

theorem DieReleasing.freed {s u : State} (h : DieReleasing s u) {m n : Nat} (hn : n < 4) (hm : s.freedOfDie m u) :
    s.freedOfDie m (u.dieRelease n) := by
  by_cases e : m = n
  · subst e
    exact h.freed_self hn
  · unfold State.freedOfDie
    rw [u.lane_dieRelease_ne e, u.get_dieRelease_ne e]
    exact hm

theorem DieReleasing.of_dieUnlatch {s : State} (len : s.pa.lanes.length = 4) : DieReleasing s s.dieUnlatch :=
  ⟨len, rfl, rfl, fun _ => rfl, fun _ only => .inl only.1⟩

theorem dieTripClear_releases {s : State} (len : s.pa.lanes.length = 4) (die : s.pa.die = true) :
    Claims.Answers .dieTripClear s (fun t => t.pa.die = false ∧ t.pins = s.pins ∧
      (∀ n ∈ laneNums, (t.lane n).hold.die = false) ∧ ∀ n ∈ laneNums, s.get (Obj.paLaneState n) = 5 →
        ({ (s.lane n).hold with die := false } : LaneHold).any = false → t.get (Obj.paLaneState n) = 0) := by
  obtain ⟨released, freed⟩ := foldl_brings (I := DieReleasing s) (Q := s.freedOfDie) (f := State.dieRelease)
    (l := laneNums) (.of_dieUnlatch len) (fun _ _ hn hu => hu.dieRelease (laneNums_lt hn))
    (fun _ _ hn hu => hu.freed_self (laneNums_lt hn)) (fun _ _ hn _ _ hu hm => hu.freed (laneNums_lt hn) hm)
  have answer := execDieTripClear_eq s
  rw [die, State.when_true] at answer
  generalize laneNums.foldl State.dieRelease s.dieUnlatch = t at answer released freed
  exact ⟨t, answer, released.die, released.pins, fun n hn => (freed n hn).1,
    fun n hn stopped free => (freed n hn).2 ⟨stopped, free⟩⟩

/-! ## SEAL_N_LOW and SEAL_CLEAR_TIMER (R464, R465) -/

/-- The hardware path of the seal. -/
def State.sealBroken (s : State) : State := { s with
  pins := { s.pins with sealN := false, paEn := 0, paBias := [], rfMuteN := false }
  pa := { s.pa with breach := true } }

/-- The breach flagged while the core domain runs. -/
def State.flagBreach (s : State) : State := if s.running then s.flag Obj.droopSticky 4 else s

theorem execSealNLow_eq (s : State) : execSealNLow s = .next (s.when s.awake (fun s =>
    let s := s.sealBroken.flagBreach
    if s.get Obj.sealMode = 0 then s.arm .sealClear (1000000 * s.get Obj.sealClearTime) else s.disarm .sealClear)) := rfl

theorem State.flagBreach_reported (s : State) : s.flagBreach.pins = s.pins ∧ s.flagBreach.pa = s.pa ∧
    s.flagBreach.power = s.power ∧ s.flagBreach.time = s.time ∧
    ∀ k, k ≠ Obj.droopSticky → reportKey k = false → s.flagBreach.get k = s.get k := by
  unfold State.flagBreach
  split
  · exact ⟨s.flag_pins _ _, s.flag_pa _ _, s.flag_power _ _, s.flag_time _ _, fun k hk hr => s.get_flag_ne _ _ k hk hr⟩
  · exact ⟨rfl, rfl, rfl, rfl, fun _ _ _ => rfl⟩

theorem sealNLow_stops {s : State} (on : s.power.state ≠ .off) : Claims.Answers .sealNLow s (fun t =>
    t.pins.sealN = false ∧ t.pins.paEn = 0 ∧ t.pins.paBias = [] ∧ t.pins.rfMuteN = false ∧ t.pa.breach = true ∧
      t.power = s.power ∧
      (s.get Obj.sealMode = 0 → t.deadline .sealClear = some (s.now + 1000000 * s.get Obj.sealClearTime)) ∧
      (s.get Obj.sealMode ≠ 0 → t.armed .sealClear = false)) := by
  have awake : s.awake = true := by simp [State.awake, on]
  have answer := execSealNLow_eq s
  rw [awake, State.when_true] at answer
  obtain ⟨pins, pa, power, time, get⟩ := s.sealBroken.flagBreach_reported
  have mode : s.sealBroken.flagBreach.get Obj.sealMode = s.get Obj.sealMode := get _ (by decide) rfl
  have wait : s.sealBroken.flagBreach.get Obj.sealClearTime = s.get Obj.sealClearTime := get _ (by decide) rfl
  have now : s.sealBroken.flagBreach.now = s.now := congrArg Clocks.nowUs time
  generalize s.sealBroken.flagBreach = u at answer pins pa power mode wait now
  dsimp only at answer
  rw [mode, wait] at answer
  refine ⟨_, answer, ?_⟩
  split
  · next auto =>
    exact ⟨congrArg Pins.sealN pins, congrArg Pins.paEn pins, congrArg Pins.paBias pins, congrArg Pins.rfMuteN pins,
      congrArg PaUnit.breach pa, power, fun _ => (State.deadline_arm_self ..).trans (by rw [now]), fun h => absurd auto h⟩
  · next manual =>
    exact ⟨congrArg Pins.sealN pins, congrArg Pins.paEn pins, congrArg Pins.paBias pins, congrArg Pins.rfMuteN pins,
      congrArg PaUnit.breach pa, power, fun h => absurd h manual, fun _ => State.armed_disarm_self ..⟩

/-- A lane that the Press has placed in Sealed, OPERATION 0x00 owed to it. -/
def State.sealedLane (n : Nat) (s : State) : Prop :=
  s.get (Obj.paLaneState n) = 6 ∧ (⟨n, 0x01, false⟩ : PmbTx) ∈ s.pa.pmb

theorem State.stoppedState_of_breach {s : State} (breach : s.pa.breach = true) (n : Nat) : s.stoppedState n = 6 := by
  unfold State.stoppedState
  rw [breach]
  rfl

theorem State.sealedLane_stopLane_self {s : State} (breach : s.pa.breach = true) (n : Nat) :
    State.sealedLane n (s.stopLane n) :=
  ⟨(s.stopLane_laneState_self n).trans (State.stoppedState_of_breach breach n), s.mem_pmb_stopLane_self n⟩

theorem State.sealedLane_stopLane {s : State} {m : Nat} (breach : s.pa.breach = true) (n : Nat)
    (h : State.sealedLane m s) : State.sealedLane m (s.stopLane n) := by
  by_cases e : m = n
  · subst e
    exact State.sealedLane_stopLane_self breach m
  · exact ⟨(s.stopLane_laneState_ne n e).trans h.1, s.mem_pmb_stopLane_of_ne n h.2 e⟩

theorem State.stopLanes_sealed {s : State} (breach : s.pa.breach = true) :
    ∀ n ∈ laneNums, State.sealedLane n (laneNums.foldl State.stopLane s) :=
  (foldl_brings (I := fun u => u.pa.breach = true) (Q := State.sealedLane) breach
    (fun u n _ hu => (u.stopLane_breach n).trans hu) (fun _ n _ hu => State.sealedLane_stopLane_self hu n)
    (fun _ n _ _ _ hu hm => State.sealedLane_stopLane hu n hm)).2

theorem State.demoteIfDue_of_disabled {s : State} (h : s.twin.enabled = false) : s.demoteIfDue = s := by
  simp [State.demoteIfDue, State.demoteDue, h]

/-- The lanes and the paths as the Press takes the breach. -/
def State.sealLanes (s : State) : State := (laneNums.foldl State.stopLane s).mutePaths pathNums

theorem execSealLanesSealed_eq (s : State) : execSealLanesSealed s =
    .next (s.when (s.pa.breach && s.power.pressReady && laneNums.any (fun n => s.get (Obj.paLaneState n) != 6))
      (fun s => ((s.sealLanes.postLog .press 0x1C0D 2 31 true false s.sealSnapshot).demoteIfDue).settleGains)) := rfl

theorem State.sealLanes_fr (s : State) : Fr 5566277615702 s s.sealLanes := by
  have stopped : Fr 5566277615702 s (laneNums.foldl State.stopLane s) :=
    fr_foldl (fun u n hu => State.stopLane_fr u n rfl hu) (Fr.refl _ s)
  unfold State.sealLanes
  generalize laneNums.foldl State.stopLane s = u at stopped ⊢
  exact State.mutePaths_fr u pathNums rfl stopped

theorem State.sealLanes_sealed {s : State} (breach : s.pa.breach = true) :
    ∀ n ∈ laneNums, State.sealedLane n s.sealLanes := by
  intro n hn
  have lane := State.stopLanes_sealed breach n hn
  refine ⟨(pathKeeps_laneState n 6).mutePaths lane.1 (fun _ => pathNums_lt), ?_⟩
  rw [State.sealLanes, State.mutePaths_pa]
  exact lane.2

theorem sealLanesSealed_seals {s : State} (breach : s.pa.breach = true) (ready : s.power.pressReady = true)
    (unsealed : ∃ n ∈ laneNums, s.get (Obj.paLaneState n) ≠ 6) (alone : s.twin.enabled = false)
    (idle : s.eng.commit = none) : Claims.Answers .sealLanesSealed s (fun t =>
      (∀ n ∈ laneNums, t.get (Obj.paLaneState n) = 6 ∧ (⟨n, 0x01, false⟩ : PmbTx) ∈ t.pa.pmb) ∧
        (∀ p ∈ pathNums, t.get (Obj.stabState p) = 0) ∧ t.power = s.power) := by
  have due : (s.pa.breach && s.power.pressReady && laneNums.any (fun n => s.get (Obj.paLaneState n) != 6)) = true := by
    simpa [breach, ready] using unsealed
  have answer := execSealLanesSealed_eq s
  rw [due, State.when_true] at answer
  have closed := State.sealLanes_sealed breach
  have muted := (laneNums.foldl State.stopLane s).mutePaths_muted
  have frame := s.sealLanes_fr
  have twin : s.sealLanes.twin.enabled = false := by rw [frame.twin rfl, alone]
  have idle' : s.sealLanes.eng.commit = none := by rw [frame.eng rfl, idle]
  have power : s.sealLanes.power = s.power := frame.power rfl
  change ∀ p ∈ pathNums, s.sealLanes.get (Obj.stabState p) = 0 at muted
  generalize s.sealLanes = u at answer closed muted twin idle' power
  have stays : (u.postLog .press 0x1C0D 2 31 true false s.sealSnapshot).demoteIfDue =
      u.postLog .press 0x1C0D 2 31 true false s.sealSnapshot :=
    State.demoteIfDue_of_disabled (by rw [State.postLog_twin, twin])
  rw [stays] at answer
  obtain ⟨-, pa, power', lanes, paths⟩ := State.settled_of_no_commit
    (s := u.postLog .press 0x1C0D 2 31 true false s.sealSnapshot) (by rw [State.postLog_eng, idle'])
  refine ⟨_, answer, fun n hn => ⟨?_, ?_⟩, fun p hp => paths p hp ?_, ?_⟩
  · rw [lanes, State.get_postLog _ _ _ _ _ _ _ _ _ (reportKey_paLaneState n)]
    exact (closed n hn).1
  · rw [pa, State.postLog_pa]
    exact (closed n hn).2
  · rw [State.get_postLog _ _ _ _ _ _ _ _ _ (reportKey_stabState p)]
    exact muted p hp
  · rw [power', State.postLog_power, power]

/-- A lane leaves Sealed: stopped where another cause holds it, else off. -/
def State.unsealLane (s : State) (n : Nat) : State :=
  if s.get (Obj.paLaneState n) = 6 then s.set (Obj.paLaneState n) (if (s.lane n).hold.any then 5 else 0) else s

/-- The unit's part of the end of a breach. -/
def State.mend (s : State) : State := { s with pa.breach := false }

theorem State.unseal_eq (s : State) : s.unseal = laneNums.foldl State.unsealLane s.mend := rfl

theorem State.unsealLane_open (s : State) (n : Nat) : (s.unsealLane n).get (Obj.paLaneState n) ≠ 6 := by
  unfold State.unsealLane
  split
  · rw [State.get_set_self]
    split <;> decide
  · next h => exact h

theorem State.unsealLane_keeps (s : State) {m : Nat} (n : Nat) (h : s.get (Obj.paLaneState m) ≠ 6) :
    (s.unsealLane n).get (Obj.paLaneState m) ≠ 6 := by
  by_cases e : m = n
  · subst e
    exact s.unsealLane_open m
  · unfold State.unsealLane
    split
    · rwa [State.get_set_ne _ _ _ _ (fun k => e (paLaneState_inj k))]
    · exact h

/-- The end of the seal's stop: no lane is Sealed, and the pins are as they were. -/
theorem State.unseal_opens (s : State) : (s.unseal.pins = s.pins ∧ s.unseal.pa.breach = false) ∧
    ∀ n ∈ laneNums, s.unseal.get (Obj.paLaneState n) ≠ 6 := by
  rw [State.unseal_eq]
  exact foldl_brings (I := fun u => u.pins = s.pins ∧ u.pa.breach = false)
    (Q := fun n u => u.get (Obj.paLaneState n) ≠ 6) (f := State.unsealLane) ⟨rfl, rfl⟩
    (fun _ _ _ hu => prop_ite (P := fun u => u.pins = s.pins ∧ u.pa.breach = false) hu hu)
    (fun u n _ _ => u.unsealLane_open n) (fun u n _ _ _ _ hm => u.unsealLane_keeps n hm)

/-- SEAL_N high. -/
def State.sealHigh (s : State) : State := { s with pins.sealN := true }

theorem execSealClearTimer_eq (s : State) : execSealClearTimer s = .next (s.onTimer .sealClear (fun s =>
    if s.sealHigh.get Obj.sealMode = 0 then s.sealHigh.unseal else s.sealHigh)) := rfl

theorem sealClearTimer_answer {s : State} {d : Nat} (due : s.deadline .sealClear = some d) :
    exec .sealClearTimer s = .next (if s.get Obj.sealMode = 0 then (Claims.expired s .sealClear d).sealHigh.unseal
      else (Claims.expired s .sealClear d).sealHigh) := by
  have mode : (Claims.expired s .sealClear d).sealHigh.get Obj.sealMode = s.get Obj.sealMode :=
    s.get_expired .sealClear d _ (by decide) (by decide) (by decide)
  have answer := execSealClearTimer_eq s
  rw [State.onTimer_of_deadline _ due, mode] at answer
  exact answer

theorem sealClearTimer_auto {s : State} {d : Nat} (due : s.deadline .sealClear = some d)
    (auto : s.get Obj.sealMode = 0) : Claims.Answers .sealClearTimer s (fun t => t.pins.sealN = true ∧
      t.pa.breach = false ∧ ∀ n ∈ laneNums, t.get (Obj.paLaneState n) ≠ 6) := by
  have answer := sealClearTimer_answer due
  rw [if_pos auto] at answer
  obtain ⟨⟨pins, breach⟩, lanes⟩ := (Claims.expired s .sealClear d).sealHigh.unseal_opens
  exact ⟨_, answer, by rw [pins]; rfl, breach, lanes⟩

theorem sealClearTimer_manual {s : State} {d : Nat} (due : s.deadline .sealClear = some d)
    (manual : s.get Obj.sealMode ≠ 0) : Claims.Answers .sealClearTimer s (fun t => t.pins.sealN = true ∧
      t.pa.breach = s.pa.breach ∧ ∀ n ∈ laneNums, t.get (Obj.paLaneState n) = s.get (Obj.paLaneState n)) := by
  have answer := sealClearTimer_answer due
  rw [if_neg manual] at answer
  have pa : (Claims.expired s .sealClear d).pa = s.pa := (expired_fr s .sealClear d).pa rfl
  exact ⟨_, answer, rfl, congrArg PaUnit.breach pa, fun n _ => s.get_expired_laneState .sealClear d n⟩

/-- Settles O44: a clause per command, each read off the lanes stopped, released, sealed or unsealed one after another. -/
theorem heatAndSeal : Obligations.HeatAndSeal := by
  intro s len
  exact ⟨fun n _ due stopped free => laneThermalRestart_off len n due stopped free, dieTrip_stops len,
    dieTripClear_releases len, sealNLow_stops, sealLanesSealed_seals,
    fun _ due => ⟨sealClearTimer_auto due, sealClearTimer_manual due⟩⟩

end Sys2Proof.Machine

namespace Sys2Proof.Machine

open Sys2Proof

/-! ## What SECURE_BOOT rests on

The bank that the Cork starts follows from what it found in the banks, the selected bank, the key slot's revocation and
the security counter. Every step before the start of a bank keeps these, with the power state and the wrapping key. -/

/-- The parts that decide which bank starts, and those that the start of a bank then changes. -/
structure BootView where
  boot : Boot
  power : Power
  bankA : List Host.Cell
  bankB : List Host.Cell
  kwk : Option Nat
  slot0Revoked : Bool
  securityCounter : Nat
  selected : Nat

def State.bootView (s : State) : BootView where
  boot := s.boot
  power := s.power
  bankA := s.mems.bankA
  bankB := s.mems.bankB
  kwk := s.sec.kwk
  slot0Revoked := s.sec.slot0Revoked
  securityCounter := s.sec.securityCounter
  selected := s.get Obj.bootSelectedBank

theorem State.bankFacts_congr {s t : State} (h : t.bootView = s.bootView) : t.bankFacts = s.bankFacts := by
  have bankA : t.mems.bankA = s.mems.bankA := congrArg BootView.bankA h
  have bankB : t.mems.bankB = s.mems.bankB := congrArg BootView.bankB h
  funext bank
  simp only [State.bankFacts, State.bankMem, bankA, bankB]

theorem State.bundleFault_congr {s t : State} (h : t.bootView = s.bootView) : t.bundleFault = s.bundleFault := by
  have revoked : t.sec.slot0Revoked = s.sec.slot0Revoked := congrArg BootView.slot0Revoked h
  have counter : t.sec.securityCounter = s.sec.securityCounter := congrArg BootView.securityCounter h
  funext bundle
  simp only [State.bundleFault, State.imageFault, revoked, counter]

theorem State.bootView_reported {s t : State} (h : Reported s t) : t.bootView = s.bootView := by
  simp only [State.bootView, h.boot, h.power, h.mems, h.sec, h.get Obj.bootSelectedBank rfl]

section

variable {s : State} {b : BootView}

theorem State.bootView_ite {c : Prop} [Decidable c] {t : State} (hs : s.bootView = b) (ht : t.bootView = b) :
    (if c then s else t).bootView = b := prop_ite (P := fun u => u.bootView = b) hs ht

theorem State.bootView_set (k v : Nat) (hk : Obj.bootSelectedBank ≠ k) (h : s.bootView = b) :
    (s.set k v).bootView = b := by
  rw [← h]
  simp only [State.bootView, s.get_set_ne _ _ v hk]
  rfl

theorem State.bootView_postLog (p : Prod) (code sev inst : Nat) (x y : Bool) (bs : Bytes) (h : s.bootView = b) :
    (s.postLog p code sev inst x y bs).bootView = b := (State.bootView_reported (s.postLog_reported ..)).trans h

theorem State.bootView_flag (k i : Nat) (hk : Obj.bootSelectedBank ≠ k) (h : s.bootView = b) : (s.flag k i).bootView = b :=
  (State.bootView_reported (State.noteSummary_reported _)).trans (State.bootView_set k _ hk h)

theorem State.bootView_faultRow (k i : Nat) (p : Prod) (code sev inst : Nat) (bs : Bytes) (hk : Obj.bootSelectedBank ≠ k)
    (h : s.bootView = b) : (s.faultRow k i p code sev inst bs).bootView = b :=
  State.bootView_postLog _ _ _ _ _ _ _ (State.bootView_flag k i hk h)

/-! ### Vintage entries -/

theorem State.bootView_queueVintage (entry : Nat) (bs : Bytes) (h : s.bootView = b) :
    (s.queueVintage entry bs).bootView = b := by
  unfold State.queueVintage
  refine State.bootView_ite ?_ ?_ <;>
  · exact State.bootView_ite h (State.bootView_ite h h)

theorem State.bootView_takeEvent (bs : Nat → Bytes) (h : s.bootView = b) : (s.takeEvent bs).bootView = b := by
  have dropped : (s.bump Obj.vintageEventDropped 1).bootView = b := State.bootView_set _ _ (by decide) h
  unfold State.takeEvent
  split
  · exact State.bootView_queueVintage _ _ h
  · exact State.bootView_ite dropped (State.bootView_flag _ _ (by decide) dropped)

theorem State.bootView_vintFor (m : LogMsg) (u : VintUse) (slot : Nat) (h : s.bootView = b) :
    (s.vintFor m u slot).bootView = b := by
  unfold State.vintFor
  cases u with
  | none => exact h
  | cls c => exact State.bootView_queueVintage _ _ h
  | event => exact State.bootView_takeEvent _ h
  | lifecycle =>
    dsimp only
    split
    · exact State.bootView_queueVintage _ _ h
    · exact State.bootView_takeEvent _ h
  | failure k => exact State.bootView_queueVintage _ _ h

/-! ### The steps of the boot before a bank starts -/

theorem State.bootView_checkKeys (tagFails : BitVec 6) (h : s.bootView = b) : (s.checkKeys tagFails).bootView = b :=
  prop_foldl (P := fun u => u.bootView = b) h
    (fun _ _ _ hu => State.bootView_postLog _ _ _ _ _ _ _ (State.bootView_flag _ _ (by decide) hu))

theorem State.bootView_dropSigning (reason : Nat) (h : s.bootView = b) : (s.dropSigning reason).bootView = b :=
  prop_foldl (P := fun u => u.bootView = b) h
    (fun _ _ _ hu => State.bootView_faultRow _ _ _ _ _ _ _ (by decide) hu)

theorem State.bootView_makeRsk (h : s.bootView = b) : s.makeRsk.bootView = b := h

theorem State.bootView_lifecycleRecord (old new origin : Nat) (h : s.bootView = b) :
    (s.lifecycleRecord old new origin).bootView = b := State.bootView_postLog _ _ _ _ _ _ _ h

theorem State.bootView_completeLifecycle (h : s.bootView = b) : s.completeLifecycle.bootView = b := by
  have invalid := State.bootView_flag Obj.securitySticky 6 (by decide) h
  unfold State.completeLifecycle
  dsimp only
  split
  · exact State.bootView_lifecycleRecord _ _ _ h
  split
  · exact State.bootView_ite invalid (State.bootView_vintFor _ _ _ invalid)
  · have entered := State.bootView_ite (c := s.lifecycle = 0 ∨ s.lifecycleCodes.contains (0x8500 + s.lifecycle)) h
      (State.bootView_lifecycleRecord (s.stateBefore s.lifecycle) s.lifecycle 2 h)
    exact State.bootView_ite (State.bootView_makeRsk entered) entered

theorem State.bootView_cutUpdate (h : s.bootView = b) : s.cutUpdate.bootView = b :=
  State.bootView_ite
    (State.bootView_faultRow _ _ _ _ _ _ _ (by decide) (State.bootView_set Obj.updateState 4 (by decide) h)) h

theorem State.bootView_bankFailed (bank core check : Nat) (h : s.bootView = b) :
    (s.bankFailed bank core check).bootView = b := State.bootView_faultRow _ _ _ _ _ _ _ (by decide) h

end

end Sys2Proof.Machine

namespace Sys2Proof.Machine

open Sys2Proof

/-! ## SECURE_BOOT (R18, R104, R105) -/

/-- The Cork runs from a bank: what it found in the banks and its keys are as before. -/
structure BankStarted (s : State) (bank : Nat) (t : State) : Prop where
  bankA : t.boot.bankA = s.boot.bankA
  bankB : t.boot.bankB = s.boot.bankB
  sec : t.sec = s.sec
  running : t.boot.running = bank
  ready : t.power.corkReady = true

theorem BankStarted.signLate {s t : State} {bank : Nat} (h : BankStarted s bank t) : BankStarted s bank t.signLate := by
  have frame := State.signLate_fr t (F := 283673999966212) rfl (Fr.refl _ t)
  have boot : t.signLate.boot = t.boot := frame.boot rfl
  have power : t.signLate.power = t.power := frame.power rfl
  exact ⟨by rw [boot, h.bankA], by rw [boot, h.bankB], (frame.sec rfl).trans h.sec, by rw [boot, h.running],
    by rw [power, h.ready]⟩

/-- The bank that runs from now on: another than before, or one programmed anew, is unconfirmed. -/
def State.chooseBank (s : State) (bank : Nat) : State :=
  if bank = s.boot.running ∧ !s.boot.rewritten then s
  else { (s.set Obj.bootConfirmed 0) with
    boot := { s.boot with running := bank, rewritten := false,
                          confirmedAfter := s.get Obj.powerStateCoreSeconds + 3600 } }

/-- The Cork out of reset, its watchdog started. -/
def State.releaseCork (s : State) : State :=
  let s : State := { s with power.corkReady := true }
  s.arm (.watchdog .cork) (s.watchdogTime .cork)

/-- The rest of an unconfirmed bank's time, and the retest of a failed entropy source, started. -/
def State.armBankTimers (s : State) : State :=
  let left := s.boot.confirmedAfter - s.get Obj.powerStateCoreSeconds
  let s := if s.get Obj.bootConfirmed = 1 then s else s.arm .bundleConfirm (1000000 * left - s.time.coreFrac)
  if s.sec.entropyFailed then s.arm .entropyRetest 10000000 else s

theorem State.startBank_eq (s : State) (bank : Nat) : s.startBank bank =
    ((((s.chooseBank bank).set Obj.bootRunningBank bank).set Obj.bootRunningVersion (match s.boot.bank bank with
      | some b => b.press.version
      | none => 0)).releaseCork.armBankTimers).signLate := rfl

/-- A bank chosen runs, with what the Cork found in the banks and its keys as before. -/
theorem State.chooseBank_boot (s : State) (bank : Nat) : (s.chooseBank bank).boot.bankA = s.boot.bankA ∧
    (s.chooseBank bank).boot.bankB = s.boot.bankB ∧ (s.chooseBank bank).sec = s.sec ∧
    (s.chooseBank bank).boot.running = bank := by
  unfold State.chooseBank
  split
  · next same => exact ⟨rfl, rfl, rfl, same.1.symm⟩
  · exact ⟨rfl, rfl, rfl, rfl⟩

theorem BankStarted.armBankTimers {s t : State} {bank : Nat} (h : BankStarted s bank t) :
    BankStarted s bank t.armBankTimers := by
  have confirm (us : Nat) : BankStarted s bank (if t.get Obj.bootConfirmed = 1 then t else t.arm .bundleConfirm us) :=
    prop_ite h ⟨h.bankA, h.bankB, h.sec, h.running, h.ready⟩
  unfold State.armBankTimers
  dsimp only
  have rest := confirm (1000000 * (t.boot.confirmedAfter - t.get Obj.powerStateCoreSeconds) - t.time.coreFrac)
  generalize ite (t.get Obj.bootConfirmed = 1) _ _ = u at rest ⊢
  exact prop_ite ⟨rest.bankA, rest.bankB, rest.sec, rest.running, rest.ready⟩ rest

theorem State.startBank_started (s : State) (bank : Nat) : BankStarted s bank (s.startBank bank) := by
  obtain ⟨bankA, bankB, sec, running⟩ := s.chooseBank_boot bank
  rw [State.startBank_eq]
  generalize s.chooseBank bank = u at bankA bankB sec running
  refine BankStarted.signLate (BankStarted.armBankTimers ?_)
  exact ⟨bankA, bankB, sec, running, rfl⟩

/-- Both banks failed in DORMANT: the recovery window opens, and the Cork is as ready as before. -/
theorem State.openRecovery_dormant {s : State} (dormant : s.power.state = .dormant) :
    s.openRecovery.power.corkReady = s.power.corkReady ∧ s.openRecovery.power.recovery = true ∧
      s.openRecovery.power.trans = none := by
  simp [State.openRecovery, dormant]

theorem State.openRecovery_parts (s : State) : s.openRecovery.boot = s.boot ∧ s.openRecovery.sec = s.sec := by
  have frame := State.openRecovery_fr s (F := 58721286) rfl (Fr.refl _ s)
  exact ⟨frame.boot rfl, frame.sec rfl⟩

/-- What the two banks lead to. -/
structure BanksBooted (s t : State) : Prop where
  bankA : t.boot.bankA = s.boot.bankA
  bankB : t.boot.bankB = s.boot.bankB
  kwk : t.sec.kwk = s.sec.kwk
  own : s.bundleFault (s.bankFacts (s.get Obj.bootSelectedBank)) = none →
    t.power.corkReady = true ∧ t.boot.running = s.get Obj.bootSelectedBank
  other : (s.bundleFault (s.bankFacts (s.get Obj.bootSelectedBank))).isSome = true →
    s.bundleFault (s.bankFacts (1 - s.get Obj.bootSelectedBank)) = none →
      t.power.corkReady = true ∧ t.boot.running = 1 - s.get Obj.bootSelectedBank
  neither : (s.bundleFault (s.bankFacts (s.get Obj.bootSelectedBank))).isSome = true →
    (s.bundleFault (s.bankFacts (1 - s.get Obj.bootSelectedBank))).isSome = true → s.power.state = .dormant →
      t.power.corkReady = s.power.corkReady ∧ t.power.recovery = true ∧ t.power.trans = none

/-- The versions of the two banks shown. -/
def State.showBanks (s : State) : State :=
  (s.set Obj.identityBankAVersion (s.bankVersion 0)).set Obj.identityBankBVersion (s.bankVersion 1)

theorem State.showBanks_eq (s : State) : s.showBanks =
    (s.set Obj.identityBankAVersion (s.bankVersion 0)).set Obj.identityBankBVersion (s.bankVersion 1) := rfl

theorem State.bootView_showBanks (s : State) : s.showBanks.bootView = s.bootView :=
  State.bootView_set _ _ (by decide) (State.bootView_set _ _ (by decide) rfl)

theorem BankStarted.found_of_view {s u t : State} {bank : Nat} (h : BankStarted u bank t)
    (view : u.bootView = s.bootView) :
    t.boot.bankA = s.boot.bankA ∧ t.boot.bankB = s.boot.bankB ∧ t.sec.kwk = s.sec.kwk := by
  have boot : u.boot = s.boot := congrArg BootView.boot view
  have kwk : u.sec.kwk = s.sec.kwk := congrArg BootView.kwk view
  exact ⟨by rw [h.bankA, boot], by rw [h.bankB, boot], by rw [h.sec, kwk]⟩

theorem State.bootBanks_booted (s : State) : BanksBooted s s.bootBanks := by
  have view := s.bootView_showBanks
  have selected : s.showBanks.get Obj.bootSelectedBank = s.get Obj.bootSelectedBank := congrArg BootView.selected view
  unfold State.bootBanks
  dsimp only
  rw [← State.showBanks_eq, State.bundleFault_congr view, State.bankFacts_congr view, selected]
  generalize s.showBanks = u at view
  cases hown : s.bundleFault (s.bankFacts (s.get Obj.bootSelectedBank)) with
  | none =>
    have started := u.startBank_started (s.get Obj.bootSelectedBank)
    obtain ⟨bankA, bankB, kwk⟩ := started.found_of_view view
    exact ⟨bankA, bankB, kwk, fun _ => ⟨started.ready, started.running⟩, by simp [hown], by simp [hown]⟩
  | some f =>
    dsimp only
    have view' := State.bootView_bankFailed (s.get Obj.bootSelectedBank) f.1 f.2 view
    rw [State.bundleFault_congr view', State.bankFacts_congr view']
    generalize u.bankFailed (s.get Obj.bootSelectedBank) f.1 f.2 = w at view'
    cases hother : s.bundleFault (s.bankFacts (1 - s.get Obj.bootSelectedBank)) with
    | none =>
      have started := (w.bump Obj.bootFallbackCount 1).startBank_started (1 - s.get Obj.bootSelectedBank)
      obtain ⟨bankA, bankB, kwk⟩ := started.found_of_view (State.bootView_set _ _ (by decide) view')
      exact ⟨bankA, bankB, kwk, by simp [hown], fun _ _ => ⟨started.ready, started.running⟩, by simp [hother]⟩
    | some g =>
      dsimp only
      have failed := State.bootView_bankFailed (1 - s.get Obj.bootSelectedBank) g.1 g.2 view'
      generalize w.bankFailed (1 - s.get Obj.bootSelectedBank) g.1 g.2 = x at failed
      obtain ⟨boot, sec⟩ := x.openRecovery_parts
      have boot' : x.boot = s.boot := congrArg BootView.boot failed
      have power : x.power = s.power := congrArg BootView.power failed
      have kwk : x.sec.kwk = s.sec.kwk := congrArg BootView.kwk failed
      exact ⟨by rw [boot, boot'], by rw [boot, boot'], by rw [sec, kwk], by simp [hown], by simp [hother],
        fun _ _ dormant => power ▸ State.openRecovery_dormant (by rw [power, dormant])⟩

/-- The banks read, and the keys of the device derived. -/
def State.readBanks (s : State) : State :=
  ({ s with boot.bankA := some (s.bankFacts 0), boot.bankB := some (s.bankFacts 1) } : State).deriveKeys

/-- The boot up to the banks' verification. -/
def State.prepareBoot (s : State) (tagFails : BitVec 6) : State :=
  (((s.readBanks.checkKeys tagFails).dropSigning 4).completeLifecycle).cutUpdate

theorem execSecureBoot_eq (k : BitVec 4) (n : BitVec 2) (s : State) : execSecureBoot k n s =
    .next (s.when (s.power.coreReleased && !s.power.corkReady && !s.power.recovery)
      (fun s => (s.prepareBoot (n ++ k)).bootBanks)) := rfl

theorem State.bootView_prepareBoot (s : State) (tagFails : BitVec 6) :
    (s.prepareBoot tagFails).bootView = s.readBanks.bootView :=
  State.bootView_cutUpdate (State.bootView_completeLifecycle (State.bootView_dropSigning 4
    (State.bootView_checkKeys tagFails rfl)))

theorem State.readBanks_congr (s : State) : s.readBanks.bundleFault = s.bundleFault ∧
    s.readBanks.bankFacts = s.bankFacts := ⟨rfl, rfl⟩

theorem secureBoot_starts {s : State} (k : BitVec 4) (n : BitVec 2) (core : s.power.coreReleased = true)
    (reset : s.power.corkReady = false) (closed : s.power.recovery = false) :
    Claims.Answers (.secureBoot k n) s (fun t =>
      let own := s.bundleFault (s.bankFacts (s.get Obj.bootSelectedBank))
      let other := s.bundleFault (s.bankFacts (1 - s.get Obj.bootSelectedBank))
      t.boot.bankA = some (s.bankFacts 0) ∧ t.boot.bankB = some (s.bankFacts 1) ∧
        t.sec.kwk = some (Config.deriveKwk Config.duk) ∧
        (own = none → t.power.corkReady = true ∧ t.boot.running = s.get Obj.bootSelectedBank) ∧
        (own.isSome = true → other = none →
          t.power.corkReady = true ∧ t.boot.running = 1 - s.get Obj.bootSelectedBank) ∧
        (own.isSome = true → other.isSome = true → s.power.state = .dormant →
          t.power.corkReady = false ∧ t.power.recovery = true ∧ t.power.trans = none)) := by
  have answer := execSecureBoot_eq k n s
  have due : (s.power.coreReleased && !s.power.corkReady && !s.power.recovery) = true := by simp [core, reset, closed]
  rw [due, State.when_true] at answer
  have view := s.bootView_prepareBoot (n ++ k)
  generalize s.prepareBoot (n ++ k) = u at answer view
  obtain ⟨fault, facts⟩ := s.readBanks_congr
  have boot : u.boot = s.readBanks.boot := congrArg BootView.boot view
  have power : u.power = s.power := congrArg BootView.power view
  have kwk : u.sec.kwk = s.readBanks.sec.kwk := congrArg BootView.kwk view
  have selected : u.get Obj.bootSelectedBank = s.get Obj.bootSelectedBank := congrArg BootView.selected view
  obtain ⟨bankA, bankB, key, own, other, neither⟩ := u.bootBanks_booted
  rw [State.bundleFault_congr view, State.bankFacts_congr view, fault, facts, selected] at own other neither
  rw [power, reset] at neither
  rw [boot] at bankA bankB
  exact ⟨_, answer, bankA, bankB, key.trans kwk, own, other, neither⟩

end Sys2Proof.Machine

namespace Sys2Proof.Machine

open Sys2Proof

/-! ## CONFIG_BOOT_LOAD (R154, R157, R158) -/

/-- The copy in use is valid where one of the two is. -/
theorem Cfg.current_valid {c : Cfg} (h : (c.copyA.valid || c.copyB.valid) = true) : c.current.valid = true := by
  unfold Cfg.current
  split
  · next first => exact (Bool.and_eq_true_iff.mp first).1
  · next second =>
    cases valid : c.copyA.valid
    · simpa [valid] using h
    · simp [valid] at second
      exact second.1

theorem Cfg.writeOlder_valid (c : Cfg) (image : List (Nat × Nat)) :
    ((c.writeOlder image).copyA.valid || (c.writeOlder image).copyB.valid) = true := by
  unfold Cfg.writeOlder
  dsimp only
  split
  · exact Bool.or_true _
  · exact Bool.true_or _

/-- The store made whole: a valid copy, no marker, no journal. -/
structure StoreWhole (s : State) : Prop where
  trellis : s.trellisOk = true
  marker : s.cfg.marker = false
  journal : s.cfg.journal = []

theorem StoreWhole.loadImage {s : State} (h : StoreWhole s) : StoreWhole s.loadImage := ⟨h.trellis, h.marker, h.journal⟩

theorem State.replayJournal_whole {s : State} (ok : s.trellisOk = true) : StoreWhole s.replayJournal := by
  unfold State.replayJournal
  split
  · exact ⟨s.cfg.writeOlder_valid _, rfl, rfl⟩
  · next idle => exact ⟨ok, Bool.eq_false_iff.mpr idle, rfl⟩

theorem State.replayJournal_power (s : State) : s.replayJournal.power = s.power :=
  (State.replayJournal_fr s (F := 12) rfl (Fr.refl _ s)).power rfl

/-- The CRCs of the two copies noted. -/
def State.checkCopies (s : State) (a b : Bool) : State := { s with cfg.copyA.valid := a, cfg.copyB.valid := b }

/-- The good copy written over the failed one. -/
def State.mendCopies (s : State) : State := { s with cfg.copyA := s.cfg.current, cfg.copyB := s.cfg.current }

/-- A store whose two copies failed holds nothing to replay. -/
def State.loseStore (s : State) : State := { s with cfg.journal := [], cfg.marker := false }

/-- The configuration store read at boot. -/
def State.readStore (s : State) (a b : Bool) : State :=
  if !a && !b then
    ((s.checkCopies a b).loseStore.flag Obj.dictSticky 5).postLog .cellar 0x0806 2 31 false true []
  else
    (if a && b then s.checkCopies a b
      else (s.checkCopies a b).mendCopies.faultRow Obj.dictSticky 4 .cellar 0x0805 1 31 []).replayJournal.loadImage

theorem execConfigBootLoad_eq (a b : Bool) (s : State) : execConfigBootLoad a b s =
    .next (s.when (s.power.state == .dormant && s.power.trans.isNone && !s.power.recovery) (fun s => s.readStore a b)) :=
  rfl

theorem State.readStore_lost (s : State) : s.readStore false false =
    ((s.checkCopies false false).loseStore.flag Obj.dictSticky 5).postLog .cellar 0x0806 2 31 false true [] := rfl

theorem configBootLoad_answer {s : State} (a b : Bool) (dormant : s.power.state = .dormant)
    (settled : s.power.trans = none) (closed : s.power.recovery = false) :
    exec (.configBootLoad a b) s = .next (s.readStore a b) := by
  have answer := execConfigBootLoad_eq a b s
  have due : (s.power.state == .dormant && s.power.trans.isNone && !s.power.recovery) = true := by
    simp [dormant, settled, closed]
  rw [due, State.when_true] at answer
  exact answer

theorem testBit_setBit_self (v i : Nat) : (setBit v i).testBit i = true := by
  simp [setBit]

/-- Both copies lost: no trellis, and the fault is flagged. -/
theorem configBootLoad_lost {s : State} (dormant : s.power.state = .dormant) (settled : s.power.trans = none)
    (closed : s.power.recovery = false) : Claims.Answers (.configBootLoad false false) s (fun t =>
      t.trellisOk = false ∧ t.bit Obj.dictSticky 5 = true ∧ t.power = s.power) := by
  refine ⟨_, configBootLoad_answer false false dormant settled closed, ?_, ?_, ?_⟩
  · rw [State.readStore_lost, State.trellisOk, State.postLog_cfg, State.flag_cfg]
    rfl
  · rw [State.readStore_lost, State.bit, State.get_postLog _ _ _ _ _ _ _ _ _ rfl, State.get_flag_self _ _ _ rfl]
    exact testBit_setBit_self _ _
  · rw [State.readStore_lost, State.postLog_power, State.flag_power]
    rfl

/-- The copies noted, the failed one written anew: a good copy is in use. -/
theorem State.mendCopies_trellis {s : State} (h : s.trellisOk = true) : s.mendCopies.trellisOk = true := by
  have valid : s.cfg.current.valid = true := Cfg.current_valid h
  simp only [State.trellisOk, State.mendCopies, valid, Bool.or_self]

/-- With a good copy the store read is whole, and the power control is left alone. -/
theorem State.readStore_whole {s : State} {a b : Bool} (good : (a || b) = true) :
    StoreWhole (s.readStore a b) ∧ (s.readStore a b).power = s.power := by
  have found : ¬ (!a && !b) = true := by
    rw [← Bool.not_or, good]
    decide
  have checked : (s.checkCopies a b).trellisOk = true := good
  have mended : ((s.checkCopies a b).mendCopies.faultRow Obj.dictSticky 4 .cellar 0x0805 1 31 []).trellisOk = true := by
    rw [State.trellisOk, State.faultRow_cfg]
    exact State.mendCopies_trellis checked
  have power : ((s.checkCopies a b).mendCopies.faultRow Obj.dictSticky 4 .cellar 0x0805 1 31 []).power = s.power :=
    State.faultRow_power _ _ _ _ _ _ _ _
  obtain ⟨trellis, power'⟩ := prop_ite (P := fun u => u.trellisOk = true ∧ u.power = s.power) (c := (a && b) = true)
    ⟨checked, rfl⟩ ⟨mended, power⟩
  unfold State.readStore
  rw [if_neg found]
  generalize ite ((a && b) = true) _ _ = u at trellis power' ⊢
  exact ⟨(State.replayJournal_whole trellis).loadImage, (State.replayJournal_power u).trans power'⟩

theorem configBootLoad_whole {s : State} (a b : Bool) (dormant : s.power.state = .dormant)
    (settled : s.power.trans = none) (closed : s.power.recovery = false) (good : (a || b) = true) :
    Claims.Answers (.configBootLoad a b) s (fun t =>
      t.trellisOk = true ∧ t.cfg.marker = false ∧ t.cfg.journal = [] ∧ t.power = s.power) := by
  obtain ⟨whole, power⟩ := s.readStore_whole good
  exact ⟨_, configBootLoad_answer a b dormant settled closed, whole.trellis, whole.marker, whole.journal, power⟩

/-! ## CORES_READY -/

/-- The Press reports ready. -/
def State.reportPress (s : State) (ok : Bool) : State :=
  { s with power.pressReady := true, tiu.calFault := !ok, hkb.refAt := some s.now }

/-- The Press at work: its windows begun, its timers started. -/
def State.startPress (s : State) : State :=
  let s := (s.newWindows).arm (.watchdog .press) (s.watchdogTime .press)
  s.arm .feedStale 4000

/-- The lanes that a breach holds. -/
def State.holdSealed (s : State) : State :=
  if s.pa.breach then laneNums.foldl (fun (s : State) n => s.set (Obj.paLaneState n) 6) s else s

theorem State.pressBegins_eq (s : State) (ok : Bool) : s.pressBegins ok =
    if ok then (s.reportPress ok).startPress.holdSealed
    else ((s.reportPress ok).startPress.holdSealed.flag Obj.tiuSticky 2).postLog .press 0x2203 1 31 false true [] := rfl

theorem State.startPress_power (s : State) : s.startPress.power = s.power ∧ s.startPress.rail = s.rail := by
  have frame := State.newWindows_fr s (F := 68719476736) rfl (Fr.refl _ s)
  unfold State.startPress
  generalize s.newWindows = u at frame ⊢
  exact ⟨frame.power rfl, frame.rail rfl⟩

theorem State.holdSealed_power (s : State) : s.holdSealed.power = s.power ∧ s.holdSealed.rail = s.rail :=
  prop_ite (P := fun u => u.power = s.power ∧ u.rail = s.rail)
    (prop_foldl (P := fun u => u.power = s.power ∧ u.rail = s.rail) ⟨rfl, rfl⟩ (fun _ _ _ hu => hu)) ⟨rfl, rfl⟩

/-- As the Press begins, the power control notes it alone, and the rails are left alone. -/
theorem State.pressBegins_power (s : State) (ok : Bool) :
    (s.pressBegins ok).power = { s.power with pressReady := true } ∧ (s.pressBegins ok).rail = s.rail := by
  obtain ⟨power, rail⟩ := (s.reportPress ok).startPress_power
  obtain ⟨power', rail'⟩ := (s.reportPress ok).startPress.holdSealed_power
  rw [State.pressBegins_eq]
  generalize (s.reportPress ok).startPress.holdSealed = u at power' rail'
  have kept : u.power = { s.power with pressReady := true } ∧ u.rail = s.rail := ⟨power'.trans power, rail'.trans rail⟩
  refine prop_ite (P := fun u => u.power = { s.power with pressReady := true } ∧ u.rail = s.rail) kept ?_
  rw [State.postLog_power, State.postLog_rail, State.flag_power, State.flag_rail]
  exact kept

theorem State.vintnerBegins_power (s : State) :
    s.vintnerBegins.power = { s.power with vintReady := true } ∧ s.vintnerBegins.rail = s.rail :=
  prop_ite (P := fun u => u.power = { s.power with vintReady := true } ∧ u.rail = s.rail) ⟨rfl, rfl⟩ ⟨rfl, rfl⟩

/-- The cores' reports go on a start that waits for them. -/
def State.coresReported (s : State) : State :=
  if s.starting && s.rail.coresReadyAt.isNone then
    let s : State := { (s.set Obj.railSeqState 3) with rail.coresReadyAt := some s.now }
    ((s.twinStart).startDelays).advanceStart
  else s

theorem execCoresReady_eq (ok : Bool) (s : State) : execCoresReady ok s =
    .next (s.when (s.power.coreReleased && s.power.corkReady && (!s.power.pressReady || !s.power.vintReady)) (fun s =>
      let s := if s.power.pressReady then s else s.pressBegins ok
      (if s.power.vintReady then s else s.vintnerBegins).coresReported)) := rfl

theorem coresReady_answer {s : State} (ok : Bool) (core : s.power.coreReleased = true) (cork : s.power.corkReady = true)
    (press : s.power.pressReady = false) (vint : s.power.vintReady = false) :
    exec (.coresReady ok) s = .next ((s.pressBegins ok).vintnerBegins).coresReported := by
  have answer := execCoresReady_eq ok s
  have due : (s.power.coreReleased && s.power.corkReady && (!s.power.pressReady || !s.power.vintReady)) = true := by
    simp [core, cork, press]
  have waits : (s.pressBegins ok).power.vintReady = false := by rw [(s.pressBegins_power ok).1, vint]
  rw [due, State.when_true] at answer
  dsimp only at answer
  rw [press, if_neg Bool.false_ne_true, waits, if_neg Bool.false_ne_true] at answer
  exact answer

/-- The reports of the cores themselves leave the start and its account of them alone. -/
theorem State.coresBegun_start (s : State) (ok : Bool) : ((s.pressBegins ok).vintnerBegins).starting = s.starting ∧
    ((s.pressBegins ok).vintnerBegins).rail = s.rail := by
  obtain ⟨power, rail⟩ := s.pressBegins_power ok
  obtain ⟨power', rail'⟩ := (s.pressBegins ok).vintnerBegins_power
  refine ⟨?_, rail'.trans rail⟩
  unfold State.starting
  rw [power', power]

theorem coresReady_unstarted {s : State} (ok : Bool) (core : s.power.coreReleased = true)
    (cork : s.power.corkReady = true) (press : s.power.pressReady = false) (vint : s.power.vintReady = false)
    (settled : s.power.trans = none) :
    exec (.coresReady ok) s = .next ((s.pressBegins ok).vintnerBegins) := by
  have idle : ((s.pressBegins ok).vintnerBegins).starting = false := by
    rw [(s.coresBegun_start ok).1, State.starting, settled]
  rw [coresReady_answer ok core cork press vint]
  generalize (s.pressBegins ok).vintnerBegins = u at idle
  rw [State.coresReported, idle, Bool.false_and, if_neg Bool.false_ne_true]

theorem coresReady_starting {s : State} (ok : Bool) (core : s.power.coreReleased = true)
    (cork : s.power.corkReady = true) (press : s.power.pressReady = false) (vint : s.power.vintReady = false)
    (start : s.starting = true) (first : s.rail.coresReadyAt = none) :
    exec (.coresReady ok) s = .next (
      let u := (((s.pressBegins ok).vintnerBegins).set Obj.railSeqState 3)
      (({ u with rail.coresReadyAt := some u.now }).twinStart.startDelays).advanceStart) := by
  obtain ⟨starting, rail⟩ := s.coresBegun_start ok
  rw [coresReady_answer ok core cork press vint]
  generalize (s.pressBegins ok).vintnerBegins = u at starting rail
  rw [State.coresReported, starting, start, rail, first]
  rfl

/-! ## BUNDLE_CONFIRM (R106, R190) and COUNTER_WRITEBACK (R156) -/

/-- The bundle that runs confirmed, the security counter at `n`; a Trial ends. -/
def State.confirmBundle (s : State) (n : Nat) : State :=
  let s : State := { s with sec.securityCounter := n }
  let s := (s.set Obj.bootSecurityCounter n).set Obj.bootConfirmed 1
  if s.get Obj.updateState = 5 then s.set Obj.updateState 0 else s

theorem execBundleConfirm_eq (s : State) : execBundleConfirm s = .next (s.onTimer .bundleConfirm (fun s =>
    s.confirmBundle (max s.sec.securityCounter (min 31 (match s.boot.bank s.boot.running with
      | some b => bundleSvn b
      | none => 0))))) := rfl

theorem State.confirmBundle_confirmed (s : State) (n : Nat) : (s.confirmBundle n).sec.securityCounter = n ∧
    (s.confirmBundle n).get Obj.bootConfirmed = 1 ∧ (s.confirmBundle n).get Obj.bootSecurityCounter = n ∧
    (s.confirmBundle n).boot = s.boot ∧ (s.confirmBundle n).power = s.power := by
  have counter (u : State) (j v : Nat) (h : Obj.bootSecurityCounter ≠ j) (hu : u.get Obj.bootSecurityCounter = n) :
      (u.set j v).get Obj.bootSecurityCounter = n := (u.get_set_ne _ _ v h).trans hu
  have count := counter _ Obj.bootConfirmed 1 (by decide)
    (({ s with sec.securityCounter := n } : State).get_set_self Obj.bootSecurityCounter n)
  unfold State.confirmBundle
  dsimp only
  split
  · exact ⟨rfl, (State.get_set_ne _ _ _ _ (by decide)).trans (State.get_set_self _ _ _),
      counter _ _ _ (by decide) count, rfl, rfl⟩
  · exact ⟨rfl, State.get_set_self _ _ _, count, rfl, rfl⟩

theorem bundleConfirm_confirms {s : State} {d : Nat} {b : BundleFacts} (due : s.deadline .bundleConfirm = some d)
    (found : s.boot.bank s.boot.running = some b) : Claims.Answers .bundleConfirm s (fun t =>
      t.sec.securityCounter = max s.sec.securityCounter (min 31 (bundleSvn b)) ∧ t.get Obj.bootConfirmed = 1 ∧
        t.get Obj.bootSecurityCounter = t.sec.securityCounter ∧ t.boot = s.boot ∧ t.power = s.power) := by
  have answer := execBundleConfirm_eq s
  rw [State.onTimer_of_deadline _ due] at answer
  have frame := expired_fr s .bundleConfirm d
  generalize Claims.expired s .bundleConfirm d = u at answer frame
  have boot : u.boot = s.boot := frame.boot rfl
  have sec : u.sec = s.sec := frame.sec rfl
  rw [boot, found, sec] at answer
  obtain ⟨counter, confirmed, shown, boot', power⟩ :=
    u.confirmBundle_confirmed (max s.sec.securityCounter (min 31 (bundleSvn b)))
  exact ⟨_, answer, counter, confirmed, shown.trans counter.symm, boot'.trans boot, power.trans (frame.power rfl)⟩

theorem counterWriteback_answer {s : State} {d : Nat} (due : s.deadline .counterWriteback = some d) :
    exec .counterWriteback s = .next (((Claims.expired s .counterWriteback d).writeBack).arm .counterWriteback 60000000) :=
  congrArg Host.Outcome.next (State.onTimer_of_deadline _ due)

/-- Settles O12: a clause per command, SECURE_BOOT's by what every step before the start of a bank keeps. -/
theorem bootCommands : Obligations.BootCommands := by
  intro s
  exact ⟨secureBoot_starts, configBootLoad_lost, configBootLoad_whole, coresReady_unstarted, coresReady_starting,
    fun _ _ due found => bundleConfirm_confirms due found, fun _ due => counterWriteback_answer due⟩

end Sys2Proof.Machine

namespace Sys2Proof.Machine

open Sys2Proof

/-! ## A power state entered (R94) -/

section

variable (s : State) (new : PState) (reason : Nat)

@[simp] theorem State.enterState_power : (s.enterState new reason).power = { s.power with state := new } := by
  simp [State.enterState]

@[simp] theorem State.enterState_pins : (s.enterState new reason).pins = s.pins := by
  simp [State.enterState]

@[simp] theorem State.enterState_rail : (s.enterState new reason).rail = s.rail := by
  simp [State.enterState]

theorem State.get_enterState_reason : (s.enterState new reason).get Obj.powerStateLastReason = reason := by
  unfold State.enterState
  rw [State.get_raiseNotify _ _ _ _ _ _ _ rfl]
  exact State.get_set_self _ _ _

theorem State.get_enterState_ne {k : Nat} (hk : k ≠ Obj.powerStateLastReason) (unreported : reportKey k = false) :
    (s.enterState new reason).get k = s.get k := by
  unfold State.enterState
  rw [State.get_raiseNotify _ _ _ _ _ _ _ unreported]
  exact State.get_set_ne _ _ _ _ hk

end

theorem State.awake_iff (s : State) : s.awake = true ↔ s.power.state ≠ .off := by
  simp [State.awake]

/-! ## VDD_AON_RISE (R38, R64) -/

/-- A register that a further step keeps is kept where that step is taken under a condition. -/
theorem State.get_branch {c : Prop} [Decidable c] {s : State} {k : Nat} (f : State → State)
    (kept : (f s).get k = s.get k) : (if c then f s else s).get k = s.get k :=
  prop_branch (P := fun u => u.get k = s.get k) f (fun _ => kept) rfl

/-- The checks of power-on count no power cycle. -/
theorem State.powerOnChecks_cycles (s : State) :
    s.powerOnChecks.get Obj.powerStatePowerCycleCount = s.get Obj.powerStatePowerCycleCount := by
  have row (u : State) (k b : Nat) (p : Prod) (code sev inst : Nat) (bs : Bytes)
      (hk : Obj.powerStatePowerCycleCount ≠ k) := u.get_faultRow_ne k b p code sev inst bs _ hk rfl
  unfold State.powerOnChecks
  refine (State.get_set_ne _ Obj.watchdogLockout _ 0 (by decide)).trans ?_
  refine (State.get_branch (fun u => (u.set Obj.updateState 4).faultRow Obj.updateSticky 2 .vintner 0x090A 1 31 [])
    ((row _ _ _ _ _ _ _ _ (by decide)).trans (State.get_set_ne _ _ _ _ (by decide)))).trans ?_
  refine (State.get_branch (fun u => u.faultRow Obj.railSeqSticky 5 .cellar 0x200C 1 31 (leBytes 4 (u.ctl 0x18 4)))
    (row _ _ _ _ _ _ _ _ (by decide))).trans ?_
  exact State.get_branch (fun u => u.faultRow Obj.securitySticky 7 .cellar 0x0608 1 31 []) (row _ _ _ _ _ _ _ _ (by decide))

/-- Nor do the timers that start then. -/
theorem State.powerOnTimers_cycles (s : State) :
    s.powerOnTimers.get Obj.powerStatePowerCycleCount = s.get Obj.powerStatePowerCycleCount := by
  unfold State.powerOnTimers
  refine (State.get_branch (fun u => { u.set Obj.lidState 1 with lid.checking := true })
    (State.get_set_ne _ Obj.lidState _ 1 (by decide))).trans ?_
  refine (State.get_branch (fun u => u.arm .sealClear (1000000 * u.get Obj.sealClearTime)) rfl).trans ?_
  refine (State.get_branch (fun u => u.arm .lockout (u.untilSecond u.net.lockoutEnd)) rfl).trans ?_
  exact prop_ite (P := fun u => u.get Obj.powerStatePowerCycleCount = s.get Obj.powerStatePowerCycleCount) rfl rfl

/-- The pins as VDD_AON rises: the level of TMODE is taken, PFW_N is released, RF_MUTE_N is asserted. -/
def State.drivePins (s : State) : State :=
  let s := s.sampleTmode
  { s with pins.pfwN := true, pins.rfMuteN := false, pins.vddioSel := s.pins.vddioA, cask.scanned := false }

theorem execVddAonRise_eq (s : State) : execVddAonRise s = .next (s.when (!s.awake) (fun s =>
    ((s.drivePins.set Obj.powerStatePowerCycleCount
      (min 16777215 (s.get Obj.powerStatePowerCycleCount + 1))).powerOnChecks.powerOnTimers).enterState .dormant 1)) := rfl

theorem State.powerOnChecks_pins (s : State) : s.powerOnChecks.powerOnTimers.pins = s.pins :=
  (State.powerOnTimers_fr _ (F := 70368803168262) rfl (State.powerOnChecks_fr s rfl (Fr.refl _ s))).pins rfl

theorem vddAonRise_dormant {s : State} (off : s.power.state = .off) : Claims.Answers .vddAonRise s (fun t =>
    t.power.state = .dormant ∧ t.get Obj.powerStateLastReason = 1 ∧
      t.get Obj.powerStatePowerCycleCount = min 16777215 (s.get Obj.powerStatePowerCycleCount + 1) ∧
      t.pins.pfwN = true ∧ t.pins.rfMuteN = false) := by
  have answer := execVddAonRise_eq s
  have asleep : (!s.awake) = true := by simp [State.awake, off]
  rw [asleep, State.when_true] at answer
  refine ⟨_, answer, ?_, State.get_enterState_reason _ _ _, ?_, ?_⟩
  · rw [State.enterState_power]
  · rw [State.get_enterState_ne _ _ _ (by decide) rfl, State.powerOnTimers_cycles, State.powerOnChecks_cycles,
      State.get_set_self]
  · rw [State.enterState_pins, State.powerOnChecks_pins]
    exact ⟨rfl, rfl⟩

/-! ## BROWN_OUT (R39, R64, R154) -/

/-- A Cask write cut short leaves the Cask's work in hand and the queue of commands alone. -/
theorem State.cutRecord_cask (s : State) : s.cutRecord.cask = s.cask ∧ s.cutRecord.pending = s.pending := by
  unfold State.cutRecord
  split
  · exact ⟨rfl, rfl⟩
  · refine prop_ite (P := fun u => u.cask = s.cask ∧ u.pending = s.pending) ⟨rfl, rfl⟩ ?_
    extract_lets
    split
    · exact ⟨State.setCtl_cask .., State.setCtl_pending ..⟩
    · exact ⟨State.setCask_cask .., State.setCask_pending ..⟩

theorem State.cutRecord_idle {s : State} (idle : s.nextLog = none) : s.cutRecord = s := by
  unfold State.cutRecord
  rw [idle]

theorem State.cutEntry_pending (s : State) : s.cutEntry.pending = s.pending := by
  unfold State.cutEntry
  repeat' split
  all_goals rfl

theorem State.cutEntry_idle {s : State} (idle : s.cask.vintWork = []) : s.cutEntry = s := by
  unfold State.cutEntry
  rw [idle]

/-- The state as the supply is lost, the writes in hand cut short. -/
def State.cutWrites (s : State) : State := s.cutRecord.cutEntry

theorem State.cutWrites_sec (s : State) : s.cutWrites.sec = s.sec :=
  (State.cutEntry_fr _ (F := 281475496804358) rfl (State.cutRecord_fr s rfl (Fr.refl _ s))).sec rfl

theorem State.cutWrites_pending (s : State) : s.cutWrites.pending = s.pending :=
  (State.cutEntry_pending _).trans s.cutRecord_cask.2

/-- With no record to write the Cask and its control block are as before. -/
theorem State.cutWrites_cask {s : State} (idle : s.nextLog = none) :
    s.cutWrites.mems.cask = s.mems.cask ∧ s.cutWrites.mems.ctl = s.mems.ctl := by
  have frame := State.cutEntry_fr s (F := 281475245146112) rfl (Fr.refl _ s)
  rw [State.cutWrites, State.cutRecord_idle idle]
  exact ⟨frame.mems_cask rfl, frame.mems_ctl rfl⟩

/-- With no entry in programming the Vintage is as before. -/
theorem State.cutWrites_vint {s : State} (idle : s.cask.vintWork = []) : s.cutWrites.mems.vint = s.mems.vint := by
  have cask := s.cutRecord_cask.1
  rw [State.cutWrites, State.cutEntry_idle (by rw [cask, idle])]
  exact (State.cutRecord_fr s (F := 281475228368902) rfl (Fr.refl _ s)).mems_vint rfl

theorem brownOut_answer {s : State} (on : s.power.state ≠ .off) : exec .brownOut s = .next s.powerLoss := by
  show Host.Outcome.next (s.when s.awake State.powerLoss) = _
  rw [s.awake_iff.mpr on, State.when_true]

/-- What power loss keeps is kept from the state whose writes in hand were cut short. -/
theorem State.powerLoss_of_cutWrites (s : State) : s.powerLoss.sec.fuses = s.cutWrites.sec.fuses ∧
    s.powerLoss.sec.keyStore = s.cutWrites.sec.keyStore ∧ s.powerLoss.mems.cask = s.cutWrites.mems.cask ∧
    s.powerLoss.mems.ctl = s.cutWrites.mems.ctl ∧ s.powerLoss.mems.vint = s.cutWrites.mems.vint ∧
    s.powerLoss.pending = s.cutWrites.pending := ⟨rfl, rfl, rfl, rfl, rfl, rfl⟩

theorem brownOut_off {s : State} (on : s.power.state ≠ .off) : Claims.Answers .brownOut s (fun t =>
    t.power.state = .off ∧ t.pins.railEn = 0 ∧ t.pins.paEn = 0 ∧ t.pins.twinAct = false ∧ t.pins.paBias = [] ∧
      t.pins.rfMuteN = true ∧ t.pins.pfwN = true ∧ t.timers = [] ∧ t.sec.sessions = [] ∧
      t.sec.fuses = s.sec.fuses ∧ t.sec.keyStore = s.sec.keyStore ∧ t.sec.kwk = none ∧
      (s.nextLog = none → t.mems.cask = s.mems.cask ∧ t.mems.ctl = s.mems.ctl) ∧
      (s.cask.vintWork = [] → t.mems.vint = s.mems.vint) ∧ t.pending = s.pending) := by
  obtain ⟨fuses, keys, cask, ctl, vint, pending⟩ := s.powerLoss_of_cutWrites
  rw [s.cutWrites_sec] at fuses keys
  refine ⟨_, brownOut_answer on, rfl, rfl, rfl, rfl, rfl, rfl, rfl, rfl, rfl, fuses, keys, rfl, fun idle => ?_,
    fun idle => vint.trans (State.cutWrites_vint idle), pending.trans s.cutWrites_pending⟩
  obtain ⟨cask', ctl'⟩ := State.cutWrites_cask idle
  exact ⟨cask.trans cask', ctl.trans ctl'⟩

/-! ## VDDIO_A and the host-port cells (R35, R46, R49) -/

theorem vddioALevelSelect_answer {s : State} (b : Bool) (on : s.power.state ≠ .off) :
    exec (.vddioALevelSelect b) s =
      .next { s with pins := { s.pins with vddioA := true, vddioSel := true, vddioAbove25 := b } } := by
  show Host.Outcome.next (s.when s.awake _) = _
  rw [s.awake_iff.mpr on, State.when_true]

/-- The cells on the other supply (log entry 128: VDDIO_A follows them). -/
def State.switchCells (s : State) (toAon : Bool) : State :=
  { s with pins.cellsOnAon := toAon, pins.vddioA := !toAon, pins.vddioSel := s.pins.vddioSel && !toAon }

theorem hostCellSupplySwitch_answer {s : State} (b c : Bool) (on : s.power.state ≠ .off) (other : s.pins.cellsOnAon ≠ b) :
    exec (.hostCellSupplySwitch ⟨b, c⟩) s =
      .next (if c then (s.switchCells b).cutTransaction else s.switchCells b) := by
  have due : (s.awake && s.pins.cellsOnAon != b) = true := by simp [State.awake, on, other]
  show Host.Outcome.next (s.when (s.awake && s.pins.cellsOnAon != b) _) = _
  rw [due, State.when_true]
  rfl

theorem State.readSystem_cellSupply (s : State) (c : Caller) :
    s.readSystem c Obj.hostPortCellSupply = some (boolNat s.pins.cellsOnAon) := by
  unfold State.readSystem
  rw [if_neg (by decide), if_pos rfl]

/-- A transaction cut leaves the pins, the power control, the memories and the security unit alone. -/
theorem State.cutTransaction_frame (s : State) : s.cutTransaction.pins = s.pins ∧ s.cutTransaction.power = s.power ∧
    s.cutTransaction.mems = s.mems ∧ s.cutTransaction.sec = s.sec := by
  simp only [State.cutTransaction, State.hostFlag]
  split <;> simp

theorem State.cutTransaction_cut (s : State) : s.cutTransaction.hp.cut = true ∧ s.cutTransaction.hp.miso = [] := ⟨rfl, rfl⟩

theorem hostCellSupplySwitch_switches {s : State} (b c : Bool) (on : s.power.state ≠ .off)
    (other : s.pins.cellsOnAon ≠ b) : Claims.Answers (.hostCellSupplySwitch ⟨b, c⟩) s (fun t =>
      t.pins.cellsOnAon = b ∧ t.pins.vddioA = !b ∧ (b = true → t.bankA = false) ∧
        (∀ c', t.readSystem c' Obj.hostPortCellSupply = some (if b then 1 else 0)) ∧
        (c = true → t.hp.cut = true ∧ t.hp.miso = []) ∧ (c = false → t.hp = s.hp) ∧
        t.power = s.power ∧ t.mems = s.mems ∧ t.sec = s.sec) := by
  have switched (t : State) (pins : t.pins = (s.switchCells b).pins) : t.pins.cellsOnAon = b ∧ t.pins.vddioA = !b ∧
      (b = true → t.bankA = false) ∧ ∀ c', t.readSystem c' Obj.hostPortCellSupply = some (if b then 1 else 0) := by
    refine ⟨by rw [pins]; rfl, by rw [pins]; rfl, ?_, fun c' => ?_⟩
    · rintro rfl
      rw [State.bankA, pins]
      rfl
    · rw [State.readSystem_cellSupply, pins]
      rfl
  refine ⟨_, hostCellSupplySwitch_answer b c on other, ?_⟩
  cases c with
  | false =>
    obtain ⟨cells, vddio, bank, read⟩ := switched _ rfl
    exact ⟨cells, vddio, bank, read, nofun, fun _ => rfl, rfl, rfl, rfl⟩
  | true =>
    obtain ⟨pins, power, mems, sec⟩ := (s.switchCells b).cutTransaction_frame
    obtain ⟨cells, vddio, bank, read⟩ := switched _ pins
    exact ⟨cells, vddio, bank, read, fun _ => State.cutTransaction_cut _, nofun, power, mems, sec⟩

/-- Settles O7: a clause per command of the supplies. -/
theorem supplyCommands : Obligations.SupplyCommands := fun _ =>
  ⟨vddAonRise_dormant, brownOut_off, vddioALevelSelect_answer, hostCellSupplySwitch_switches⟩

end Sys2Proof.Machine

namespace Sys2Proof.Machine

open Sys2Proof

/-! ## RST_N_LOW (R44, R90) -/

theorem State.running_state {s : State} (h : s.running = true) :
    s.power.state ≠ .off ∧ s.power.state ≠ .holdup ∧ s.power.state ≠ .dormant := by
  simp only [State.running, Bool.or_eq_true, beq_iff_eq] at h
  rcases h with (standby | active) | service
  · simp [standby]
  · simp [active]
  · simp [service]

theorem rstNLow_running {s : State} (run : s.running = true) (closed : s.power.recovery = false) :
    exec .rstNLow s = .next (if s.rail.shutdown.isSome || s.wd.lockstepBusy then { s with power.restartPending := true }
      else s.restart 2) := by
  obtain ⟨on, notHoldup, notDormant⟩ := State.running_state run
  have due : (s.awake && s.power.state != .holdup && !s.power.recovery) = true := by
    simp [State.awake, on, notHoldup, closed]
  show Host.Outcome.next (s.when (s.awake && s.power.state != .holdup && !s.power.recovery) _) = _
  have started : (s.power.state == .dormant && !s.starting) = false := by simp [notDormant]
  rw [due, State.when_true, started, if_neg Bool.false_ne_true]

theorem rstNLow_restarts {s : State} (run : s.running = true) (closed : s.power.recovery = false)
    (idle : s.rail.shutdown = none) (pair : s.wd.lockstepBusy = false) : exec .rstNLow s = .next (s.restart 2) := by
  rw [rstNLow_running run closed, idle, pair, if_neg (by decide)]

theorem rstNLow_held {s : State} (x : Shutdown) (run : s.running = true) (closed : s.power.recovery = false)
    (down : s.rail.shutdown = some x) : exec .rstNLow s = .next { s with power.restartPending := true } := by
  rw [rstNLow_running run closed, down]
  rfl

/-! ## SERVICE_TIMEOUT (R70, R117, R192) -/

theorem serviceTimeout_waits {s : State} (applied : s.eng.commit.isSome = true) : exec .serviceTimeout s = .next s := by
  show Host.Outcome.next (s.when s.eng.commit.isNone _) = _
  rw [Option.isNone_eq_false_iff.mpr applied, State.when_false]

theorem State.serviceOver_of_service {s : State} (service : s.power.state = .service) (settled : s.transition = none) :
    s.serviceOver = if s.power.touchStart then s.leaveService.beginShutdown .request 0x0D false 0 []
      else if s.power.cameFrom = .active ∧ s.leaveService.activeRefusal = none then s.leaveService.towardsActive 0x0D
      else s.leaveService.fallToStandby 0x0D := by
  unfold State.serviceOver
  rw [service, settled]
  have back : (s.power.cameFrom == .active && s.leaveService.activeRefusal.isNone) = true ↔
      s.power.cameFrom = .active ∧ s.leaveService.activeRefusal = none := by
    rw [Bool.and_eq_true, beq_iff_eq, Option.isNone_iff_eq_none]
  rw [if_neg (by decide)]
  simp only [back]

theorem serviceTimeout_ends {s : State} (d : Nat) (due : s.deadline .serviceTimeout = some d)
    (service : s.power.state = .service) (settled : s.transition = none) (idle : s.eng.commit = none) :
    exec .serviceTimeout s = .next (
      let u := (Claims.expired s .serviceTimeout d).leaveService
      if s.power.touchStart then u.beginShutdown .request 0x0D false 0 []
      else if s.power.cameFrom = .active ∧ u.activeRefusal = none then u.towardsActive 0x0D
      else u.fallToStandby 0x0D) := by
  have frame := expired_fr s .serviceTimeout d
  have power : (Claims.expired s .serviceTimeout d).power = s.power := frame.power rfl
  have sec : (Claims.expired s .serviceTimeout d).sec = s.sec := frame.sec rfl
  have settled' : (Claims.expired s .serviceTimeout d).transition = none := by
    rw [State.transition, sec, power]
    exact settled
  show Host.Outcome.next (s.when s.eng.commit.isNone _) = _
  rw [idle, Option.isNone_none, State.when_true, State.onTimer_of_deadline _ due,
    State.serviceOver_of_service (by rw [power, service]) settled', power]

/-! ## HOLDUP entered (R112, R507) -/

/-- The mask of every part that Laws/Frame.lean numbers but those of the list. -/
def maskBut (parts : List Nat) : Nat := parts.foldl (fun mask i => mask - 2 ^ i) (2 ^ 49 - 1)

/-- Every part but RF_MUTE_N, PFW_N and the power state. -/
def holdupWork : Nat := maskBut [7, 8, 11]

/-- What the Cellarmaster begins with: PFW_N asserted, and of a lifecycle transition what the fuses show (R112). -/
def State.warnHoldup (s : State) : State := { s with pins.pfwN := false, sec.lcTrans := none }

/-- What the Cellarmaster ends before the unit mutes. -/
def State.endAtHoldup (s : State) : State :=
  ((((((((((s.disarm .lifecycleDone).disarm .serviceTimeout).disarm .relockRetry).cutLead).dropSigning
    4).returnMargins).endDebug true).endSessions).discardWaiting).depart 0).closeRefLoss

/-- What stops or is kept once the unit has muted. -/
def State.stopAtHoldup (s : State) : State :=
  (((((((s.paOff).tiuOff).commitAtHoldup).updateAtHoldup).writeBack).cancelEnables).lidHoldup).portsAtHoldup

/-- The shutdown of HOLDUP, which begins at the end of HoldupLead. -/
def State.awaitHoldupLead (s : State) : State :=
  let s := { s with power.trans := none, rail.shutdown := some ⟨.holdup, 5, false, false, []⟩ }
  let s := (s.markShutdown).set Obj.railSeqState 5
  s.arm .holdupLead (1000 * s.get Obj.railSeqHoldupLead)

theorem State.awaitHoldupLead_state (s : State) : s.awaitHoldupLead.power.state = s.power.state := rfl

theorem State.awaitHoldupLead_pins (s : State) : s.awaitHoldupLead.pins = s.pins := rfl

theorem State.enterHoldup_eq (s : State) : s.enterHoldup =
    (((s.warnHoldup.endAtHoldup.hardMute.stopAtHoldup).enterState .holdup 5).fieldAtHoldup).awaitHoldupLead := by
  unfold State.stopAtHoldup State.endAtHoldup State.warnHoldup
  rfl

theorem State.endAtHoldup_fr (s : State) : Fr holdupWork s s.endAtHoldup := by
  unfold State.endAtHoldup
  refine State.closeRefLoss_fr _ rfl (State.depart_fr _ _ rfl (State.discardWaiting_fr _ rfl (State.endSessions_fr _ rfl
    (State.endDebug_fr _ _ rfl (State.returnMargins_fr _ rfl (State.dropSigning_fr _ _ rfl (State.cutLead_fr _ rfl ?_)))))))
  exact State.disarm_fr _ _ rfl (State.disarm_fr _ _ rfl (State.disarm_fr _ _ rfl (Fr.refl _ s)))

theorem State.stopAtHoldup_fr (s : State) : Fr holdupWork s s.stopAtHoldup := by
  unfold State.stopAtHoldup
  exact State.portsAtHoldup_fr _ rfl (State.lidHoldup_fr _ rfl (State.cancelEnables_fr _ rfl (State.writeBack_fr _ rfl
    (State.updateAtHoldup_fr _ rfl (State.commitAtHoldup_fr _ rfl (State.tiuOff_fr _ rfl (State.paOff_fr _ rfl
      (Fr.refl _ s))))))))

theorem State.hardMute_pfwN (s : State) : s.hardMute.pins.pfwN = s.pins.pfwN :=
  (State.hardMute_fr s (F := 1168231104662) rfl (Fr.refl _ s)).pins_pfwN rfl

/-- HOLDUP entered: its state, its outputs and its lead. -/
structure HoldupEntered (t : State) : Prop where
  state : t.power.state = .holdup
  pfwN : t.pins.pfwN = false
  rfMuteN : t.pins.rfMuteN = false
  lead : t.armed .holdupLead = true

theorem State.enterHoldup_entered (s : State) : HoldupEntered s.enterHoldup := by
  have ends := s.warnHoldup.endAtHoldup_fr
  have stops := s.warnHoldup.endAtHoldup.hardMute.stopAtHoldup_fr
  rw [State.enterHoldup_eq]
  generalize s.warnHoldup.endAtHoldup.hardMute.stopAtHoldup = u at stops ⊢
  have field : Fr holdupWork (u.enterState .holdup 5) (u.enterState .holdup 5).fieldAtHoldup :=
    State.fieldAtHoldup_fr _ rfl (Fr.refl _ _)
  refine ⟨?_, ?_, ?_, State.armed_arm_self _ _ _⟩
  · rw [State.awaitHoldupLead_state, field.power_state rfl, State.enterState_power]
  · rw [State.awaitHoldupLead_pins, field.pins_pfwN rfl, State.enterState_pins, stops.pins_pfwN rfl,
      State.hardMute_pfwN, ends.pins_pfwN rfl]
    rfl
  · rw [State.awaitHoldupLead_pins, field.pins_rfMuteN rfl, State.enterState_pins, stops.pins_rfMuteN rfl,
      State.hardMute_rfMuteN]

theorem State.enterHoldup_keeps (s : State) : s.enterHoldup.feed = s.feed ∧ s.enterHoldup.sec.fuses = s.sec.fuses := by
  have frame := State.enterHoldup_fr s (F := maskBut [14, 43]) rfl (Fr.refl _ s)
  exact ⟨frame.feed rfl, frame.sec_fuses rfl⟩

/-! ## FEED_COLLAPSE_REPORT (R22, R64, R92) -/

theorem feedCollapseReport_answer {s : State} (report : s.feed.report = true) (pair : s.wd.lockstepBusy = false) :
    exec .feedCollapseReport s = .next (s.take 0xF2).collapseReported := by
  show Host.Outcome.next (s.when s.feed.report _) = _
  rw [report, State.when_true, State.supervised, if_neg (by rw [pair]; decide)]

theorem State.collapseReported_holdup {s : State} (rails : s.pins.railEn ≠ 0) (state : s.power.state ≠ .holdup) :
    s.collapseReported = ({ s with feed.report := false } : State).enterHoldup := if_pos ⟨rails, state⟩

theorem feedCollapseReport_holdup {s : State} (report : s.feed.report = true) (pair : s.wd.lockstepBusy = false)
    (rails : s.pins.railEn ≠ 0) (state : s.power.state ≠ .holdup) : Claims.Answers .feedCollapseReport s (fun t =>
      t.power.state = .holdup ∧ t.pins.pfwN = false ∧ t.pins.rfMuteN = false ∧ t.feed.report = false ∧
        t.armed .holdupLead = true ∧ t.sec.fuses = s.sec.fuses) := by
  have answer := feedCollapseReport_answer report pair
  have taken := State.take_fr s 0xF2 (F := 16777222) rfl (Fr.refl _ s)
  generalize s.take 0xF2 = u at answer taken
  have rails' : u.pins.railEn ≠ 0 := by rwa [taken.pins rfl]
  have state' : u.power.state ≠ .holdup := by rwa [taken.power rfl]
  rw [State.collapseReported_holdup rails' state'] at answer
  obtain ⟨holdup, pfwN, rfMuteN, lead⟩ := State.enterHoldup_entered { u with feed.report := false }
  obtain ⟨feed, fuses⟩ := State.enterHoldup_keeps { u with feed.report := false }
  exact ⟨_, answer, holdup, pfwN, rfMuteN, congrArg FeedUnit.report feed, lead,
    fuses.trans (congrArg Security.fuses (taken.sec rfl))⟩

/-! ## DORMANT entered (R64, R69) -/

/-- What ends as the core domain falls, before its parts return to their defaults. -/
def State.haltCore (s : State) : State :=
  ((((s.dropSigning 5).endDebug true).endSessions).discardWaiting).unitsDown

theorem State.haltCore_power (s : State) : s.haltCore.power = s.power := by
  have frame : Fr (maskBut [10]) s s.haltCore := by
    unfold State.haltCore
    exact State.unitsDown_fr _ rfl (State.discardWaiting_fr _ rfl (State.endSessions_fr _ rfl (State.endDebug_fr _ _ rfl
      (State.dropSigning_fr _ _ rfl (Fr.refl _ s)))))
  exact frame.power rfl

theorem State.coreDown_coreReleased (s : State) : s.coreDown.power.coreReleased = false := rfl

/-- An RST_N held through the shutdown stays held as the core domain falls. -/
theorem State.coreDown_restartPending (s : State) :
    s.coreDown.power.restartPending = s.power.restartPending := by
  have halted : s.coreDown.power.restartPending = s.haltCore.power.restartPending := by
    unfold State.coreDown
    simp only [State.set_power]
    rfl
  rw [halted, s.haltCore_power]

theorem State.closeRefLoss_restartPending (s : State) :
    s.closeRefLoss.power.restartPending = s.power.restartPending := by
  unfold State.closeRefLoss
  split
  · rfl
  · rw [State.log_power]

/-- The unit quiet before DORMANT: TWIN_ACT released, a loss of REF_IN noted, RF and lanes off. -/
def State.quietDown (s : State) : State := ((((s.depart 1).closeRefLoss).hardMute).paOff).coreDown

/-- The account of transitions closed as DORMANT comes. -/
def State.closeTransitions (s : State) : State :=
  { s with power.trans := none, power.cameFrom := .standby, power.touchStart := false, power.limitedStart := false,
           pins.twinAct := false }

theorem State.enterDormant_eq (s : State) (reason : Nat) : s.enterDormant reason =
    let t := s.quietDown.closeTransitions.enterState .dormant reason
    if t.get Obj.powerStateWakeTimer = 0 then t else t.arm .wakeTimer (1000000 * t.get Obj.powerStateWakeTimer) := by
  unfold State.quietDown State.closeTransitions
  rfl

/-- DORMANT entered from `s` for reason `reason`. -/
structure DormantEntered (s : State) (reason : Nat) (t : State) : Prop where
  state : t.power.state = .dormant
  reason : t.get Obj.powerStateLastReason = reason
  rfMuteN : t.pins.rfMuteN = false
  pfwN : t.pins.pfwN = s.pins.pfwN
  twinAct : t.pins.twinAct = false
  coreReleased : t.power.coreReleased = false
  restartPending : t.power.restartPending = s.power.restartPending
  rail : t.rail = s.rail

theorem DormantEntered.arm {s t : State} {reason : Nat} (h : DormantEntered s reason t) (T : TimerId) (us : Nat) :
    DormantEntered s reason (t.arm T us) := { h with }

theorem State.quietDown_rfMuteN (s : State) : s.quietDown.pins.rfMuteN = false := by
  have down := State.coreDown_fr _ (F := 211037579977814) rfl (State.paOff_fr _ rfl
    (Fr.refl _ ((s.depart 1).closeRefLoss).hardMute))
  exact (down.pins_rfMuteN rfl).trans (State.hardMute_rfMuteN _)

theorem State.quietDown_fr (s : State) : Fr (maskBut [8, 34]) s s.quietDown := by
  unfold State.quietDown
  exact State.coreDown_fr _ rfl (State.paOff_fr _ rfl (State.hardMute_fr _ rfl (State.closeRefLoss_fr _ rfl
    (State.depart_fr _ _ rfl (Fr.refl _ s)))))

theorem State.quietDown_restartPending (s : State) : s.quietDown.power.restartPending = s.power.restartPending := by
  have off := State.paOff_fr _ (F := 84) rfl (Fr.refl _ ((s.depart 1).closeRefLoss).hardMute)
  have departed := State.depart_fr s 1 (F := maskBut [10]) rfl (Fr.refl _ s)
  rw [State.quietDown, State.coreDown_restartPending, off.power rfl, State.hardMute_power,
    State.closeRefLoss_restartPending, departed.power rfl]

theorem State.enterDormant_entered (s : State) (reason : Nat) : DormantEntered s reason (s.enterDormant reason) := by
  have entered : DormantEntered s reason (s.quietDown.closeTransitions.enterState .dormant reason) := by
    have core : s.quietDown.power.coreReleased = false := State.coreDown_coreReleased _
    have held := s.quietDown_restartPending
    have muted := s.quietDown_rfMuteN
    have kept := s.quietDown_fr
    have pfwN := kept.pins_pfwN rfl
    have rail := kept.rail rfl
    generalize s.quietDown = u at core held muted pfwN rail
    constructor
    case reason => exact State.get_enterState_reason _ _ _
    case rail => exact (State.enterState_rail _ _ _).trans rail
    all_goals simp only [State.enterState_power, State.enterState_pins]
    case rfMuteN => exact muted
    case pfwN => exact pfwN
    case twinAct => rfl
    case coreReleased => exact core
    case restartPending => exact held
  rw [State.enterDormant_eq]
  exact prop_ite (P := DormantEntered s reason) entered (entered.arm _ _)

/-! ## HOLDUP_COMPLETE (R64, R67, R501) -/

/-- The rails off: the shutdown of HOLDUP is over, and the Vintage work it did not start goes on (R614). -/
def State.endHoldup (s : State) : State :=
  let s : State := { s with rail.shutdown := none }
  if s.cask.vintWork.isEmpty || s.armed .vintage then s else s.arm .vintage 4000

theorem State.endHoldup_parts (s : State) : s.endHoldup.pins = s.pins ∧ s.endHoldup.power = s.power ∧
    s.endHoldup.rail.shutdown = none :=
  prop_ite (P := fun u => u.pins = s.pins ∧ u.power = s.power ∧ u.rail.shutdown = none) ⟨rfl, rfl, rfl⟩ ⟨rfl, rfl, rfl⟩

theorem execHoldupComplete_eq (s : State) : execHoldupComplete s =
    .next (s.when (s.power.state == .holdup && !slots.any s.railLive && s.cask.own.isEmpty) (fun s =>
      (((s.endHoldup.set Obj.railSeqState 0).enterDormant 5).arm .holdupRestart
        (1000 * s.endHoldup.get Obj.powerStateHoldupRestartDelay)).actHeldRst)) := rfl

theorem State.actHeldRst_idle {s : State} (idle : s.power.restartPending = false) : s.actHeldRst = s := by
  rw [State.actHeldRst, if_neg (by rw [idle]; decide)]

theorem holdupComplete_dormant {s : State} (holdup : s.power.state = .holdup) (off : ∀ n ∈ slots, s.railLive n = false)
    (own : s.cask.own = []) (idle : s.power.restartPending = false) : Claims.Answers .holdupComplete s (fun t =>
      t.power.state = .dormant ∧ t.get Obj.powerStateLastReason = 5 ∧ t.pins.rfMuteN = false ∧
        t.pins.pfwN = s.pins.pfwN ∧ t.pins.twinAct = false ∧ t.power.coreReleased = false ∧
        t.rail.shutdown = none ∧ t.armed .holdupRestart = true) := by
  have live : slots.any s.railLive = false := List.any_eq_false.mpr fun n hn => Bool.eq_false_iff.mp (off n hn)
  have due : (s.power.state == .holdup && !slots.any s.railLive && s.cask.own.isEmpty) = true := by
    simp only [holdup, live, own, beq_self_eq_true, Bool.not_false, Bool.true_and, List.isEmpty_nil]
  have answer := execHoldupComplete_eq s
  rw [due, State.when_true] at answer
  obtain ⟨pins, power, ended⟩ := s.endHoldup_parts
  generalize s.endHoldup = u at answer pins power ended
  have entered := ((u.set Obj.railSeqState 0).enterDormant_entered 5).arm .holdupRestart
    (1000 * u.get Obj.powerStateHoldupRestartDelay)
  rw [State.actHeldRst_idle (entered.restartPending.trans ((congrArg Power.restartPending power).trans idle))] at answer
  exact ⟨_, answer, entered.state, entered.reason, entered.rfMuteN, entered.pfwN.trans (congrArg Pins.pfwN pins),
    entered.twinAct, entered.coreReleased, (congrArg RailUnit.shutdown entered.rail).trans ended,
    State.armed_arm_self _ _ _⟩

/-- Settles O9: a clause per command; HOLDUP and DORMANT by what each step after the mute leaves of the outputs. -/
theorem restartsAndReturns : Obligations.RestartsAndReturns := fun _ =>
  ⟨rstNLow_restarts, rstNLow_held, serviceTimeout_ends, serviceTimeout_waits, feedCollapseReport_holdup,
    holdupComplete_dormant⟩

end Sys2Proof.Machine

namespace Sys2Proof.Machine

open Sys2Proof

/-! ## A start from DORMANT (R64, R483, R504) -/

/-- The start in the unit's own account: its transition, its reason, the trellis not yet begun. -/
def State.declareStart (s : State) (reason : Nat) (touch limited : Bool) : State :=
  { s with
    power := { s.power with trans := some ⟨.start, .standby⟩, startReason := reason,
                            touchStart := touch, limitedStart := limited, recovery := false }
    rail := { s.rail with seqStart := (if s.rail.adcOn then s.nextScan else s.now), held := [], enabledAt := [],
                          goodAt := [], coresReadyAt := none,
                          abandoned := 0 } }

/-- The timers that would start the unit stop as a start begins. -/
def State.stopStartTimers (s : State) : State :=
  (((s.disarm .wakeTimer).disarm .holdupRestart).disarm .restartDelay).disarm .retryBackoff

/-- A slot as a start begins: waiting where it is enabled, outside CoreSet only in a full start. -/
def State.slotAtStart (limited : Bool) (s : State) (n : Nat) : State :=
  s.set (Obj.railSlotState n) (if s.get (Obj.railSlotEnable n) = 1 then
    (if limited ∧ !(s.get Obj.railSeqCoreSet).testBit n then 1 else 2) else 0)

/-- The trellis as a start begins, before its readings are forgotten. -/
def State.openStart (s : State) (reason : Nat) (touch limited : Bool) : State :=
  slots.foldl (State.slotAtStart limited)
    ((((s.declareStart reason touch limited).stopStartTimers).set Obj.railSeqPendingStart 0).set Obj.railSeqState 1)

theorem State.beginStart_eq {s : State} (may : Claims.MayStart s) (reason : Nat) (touch limited : Bool) :
    s.beginStart reason touch limited = (s.openStart reason touch limited).forgetReadings.startDelays := by
  obtain ⟨trellis, dormant, settled⟩ := may
  exact if_neg (by simp [trellis, dormant, settled])

theorem State.openStart_power (s : State) (reason : Nat) (touch limited : Bool) :
    (s.openStart reason touch limited).power = (s.declareStart reason touch limited).power :=
  prop_foldl (P := fun u => u.power = (s.declareStart reason touch limited).power) rfl (fun _ _ _ kept => kept)

/-- A register that is none of the states and readings of the slots. -/
def outsideSlots (k : Nat) : Prop := ∀ n < 16, k ≠ Obj.railSlotState n ∧ k ≠ Obj.railSlotReading n ∧ k ≠ Obj.hkAResult n

theorem outsideSlots_railSeqState : outsideSlots Obj.railSeqState := by
  intro n slot
  unfold Obj.railSeqState Obj.railSlotState Obj.railSlotReading Obj.hkAResult
  omega

theorem State.openStart_railSeqState (s : State) (reason : Nat) (touch limited : Bool) :
    (s.openStart reason touch limited).get Obj.railSeqState = 1 :=
  prop_foldl (P := fun u => u.get Obj.railSeqState = 1) (State.get_set_self _ _ _) (fun _ n hn kept =>
    (State.get_set_ne _ _ _ _ (outsideSlots_railSeqState n (List.mem_range.mp hn)).1).trans kept)

section

variable {k : Nat} (out : outsideSlots k)

include out

theorem State.get_openStart (s : State) (reason : Nat) (touch limited : Bool) (waiting : k ≠ Obj.railSeqPendingStart)
    (sequence : k ≠ Obj.railSeqState) : (s.openStart reason touch limited).get k = s.get k := by
  refine prop_foldl (P := fun u => u.get k = s.get k) ?_ (fun _ n hn kept =>
    (State.get_set_ne _ _ _ _ (out n (List.mem_range.mp hn)).1).trans kept)
  rw [State.get_set_ne _ _ _ _ sequence, State.get_set_ne _ _ _ _ waiting]
  rfl

theorem State.get_forgetReadings (s : State) : s.forgetReadings.get k = s.get k := by
  refine prop_foldl (P := fun u => u.get k = s.get k) rfl (fun _ n hn kept => ?_)
  obtain ⟨-, reading, result⟩ := out n (List.mem_range.mp hn)
  rw [State.get_set_ne _ _ _ _ reading, State.get_set_ne _ _ _ _ result, kept]

theorem State.get_startDelays (s : State) : s.startDelays.get k = s.get k := by
  unfold State.startDelays
  refine prop_ite (P := fun u => u.get k = s.get k) rfl
    (prop_foldl (P := fun u => u.get k = s.get k) rfl (fun _ n hn kept => ?_))
  exact prop_ite (P := fun u => u.get k = s.get k)
    ((State.get_set_ne _ _ _ _ (out n (List.mem_range.mp hn)).1).trans kept) kept

theorem State.get_beginStart {s : State} (may : Claims.MayStart s) (reason : Nat) (touch limited : Bool)
    (waiting : k ≠ Obj.railSeqPendingStart) (sequence : k ≠ Obj.railSeqState) :
    (s.beginStart reason touch limited).get k = s.get k := by
  rw [State.beginStart_eq may, State.get_startDelays out, State.get_forgetReadings out,
    State.get_openStart out _ _ _ _ waiting sequence]

end

theorem State.beginStart_power {s : State} (may : Claims.MayStart s) (reason : Nat) (touch limited : Bool) :
    (s.beginStart reason touch limited).power = (s.declareStart reason touch limited).power := by
  have frame : Fr 6 (s.openStart reason touch limited) (s.beginStart reason touch limited) := by
    rw [State.beginStart_eq may]
    exact State.startDelays_fr _ rfl (State.forgetReadings_fr _ rfl (Fr.refl _ _))
  exact (frame.power rfl).trans (s.openStart_power reason touch limited)

/-- A start that may begin has begun, whoever asks for it. -/
theorem State.beginStart_starting {s : State} (may : Claims.MayStart s) (reason : Nat) (touch limited : Bool) :
    Claims.Starting (s.beginStart reason touch limited) reason := by
  have power := State.beginStart_power may reason touch limited
  refine ⟨?_, ?_, ?_, ?_⟩
  · rw [power]
    exact may.2.1
  · rw [power]
    rfl
  · rw [power]
    rfl
  · rw [State.beginStart_eq may, State.get_startDelays outsideSlots_railSeqState,
      State.get_forgetReadings outsideSlots_railSeqState, State.openStart_railSeqState]

theorem State.wakeStart_starting {s : State} (may : Claims.MayStart s) (reason : Nat) (touch : Bool) :
    Claims.Starting (s.wakeStart reason touch) reason := State.beginStart_starting may reason touch _

/-- Whether a start may begin rests on the stored trellis and the power state. -/
theorem mayStart_congr {s t : State} (may : Claims.MayStart s) (cfg : t.cfg = s.cfg)
    (state : t.power.state = s.power.state) (trans : t.power.trans = s.power.trans) : Claims.MayStart t := by
  obtain ⟨trellis, dormant, settled⟩ := may
  refine ⟨?_, state.trans dormant, trans.trans settled⟩
  rw [State.trellisOk, cfg]
  exact trellis

theorem mayStart_expired {s : State} (may : Claims.MayStart s) (T : TimerId) (d : Nat) :
    Claims.MayStart (Claims.expired s T d) := by
  have power := (expired_fr s T d).power rfl
  exact mayStart_congr may ((expired_fr s T d).cfg rfl) (congrArg _ power) (congrArg _ power)

theorem autoHeld_expired (s : State) (T : TimerId) (d : Nat) : (Claims.expired s T d).autoHeld = s.autoHeld := by
  unfold State.autoHeld
  rw [State.get_expired s T d Obj.watchdogLockout (by decide) (by decide) (by decide),
    State.get_expired s T d Obj.railSeqLatchedSlot (by decide) (by decide) (by decide)]

/-! ## POWER_ON_AUTOSTART (R64, R504, R505) -/

theorem powerOnAutostart_starts {s : State} (may : Claims.MayStart s) (scanned : s.cask.scanned = true)
    (reason : s.get Obj.powerStateLastReason = 1) (auto : s.get Obj.powerStateAutoStart = 1)
    (closed : s.power.recovery = false) (unlatched : s.get Obj.railSeqLatchedSlot = 0xFF) :
    Claims.Answers .powerOnAutostart s (Claims.Starting · 1) := by
  have due : (s.power.state == .dormant && s.power.trans.isNone && s.cask.scanned
      && s.get Obj.powerStateLastReason == 1 && s.get Obj.powerStateAutoStart == 1 && !s.power.recovery) = true := by
    simp [may.2.1, may.2.2, scanned, reason, auto, closed]
  refine ⟨s.beginStart 1 false false, ?_, State.beginStart_starting may _ _ _⟩
  show Host.Outcome.next (s.when (s.power.state == .dormant && s.power.trans.isNone && s.cask.scanned
      && s.get Obj.powerStateLastReason == 1 && s.get Obj.powerStateAutoStart == 1 && !s.power.recovery) _) = _
  rw [due, State.when_true, unlatched]
  rfl

/-! ## Starts at the end of a wait (R65, R69, R71) -/

theorem holdupRestartDelayExpiry_starts {s : State} (may : Claims.MayStart s) (d : Nat)
    (due : s.deadline .holdupRestart = some d) (free : s.autoHeld = false) :
    Claims.Answers .holdupRestartDelayExpiry s (Claims.Starting · 0x10) := by
  have free' : (Claims.expired s .holdupRestart d).autoHeld = false := (autoHeld_expired s _ d).trans free
  refine ⟨(Claims.expired s .holdupRestart d).beginStart 0x10 false false, ?_,
    State.beginStart_starting (mayStart_expired may _ d) _ _ _⟩
  show Host.Outcome.next (s.onTimer .holdupRestart _) = _
  rw [State.onTimer_of_deadline _ due, free', if_neg Bool.false_ne_true]

theorem restartDelayExpiry_starts {s : State} (may : Claims.MayStart s) (d : Nat)
    (due : s.deadline .restartDelay = some d) :
    Claims.Answers .restartDelayExpiry s (Claims.Starting · s.power.startReason) := by
  have reason : (Claims.expired s .restartDelay d).power.startReason = s.power.startReason :=
    congrArg Power.startReason ((expired_fr s _ d).power rfl)
  refine ⟨(Claims.expired s .restartDelay d).wakeStart s.power.startReason false, ?_,
    State.wakeStart_starting (mayStart_expired may _ d) _ _⟩
  show Host.Outcome.next (s.onTimer .restartDelay _) = _
  rw [State.onTimer_of_deadline _ due, reason]

theorem wakeTimerExpiry_starts {s : State} (may : Claims.MayStart s) (d : Nat) (due : s.deadline .wakeTimer = some d)
    (source : s.bit Obj.powerStateWakeSources 4 = true) (free : s.autoHeld = false)
    (closed : s.power.recovery = false) : Claims.Answers .wakeTimerExpiry s (Claims.Starting · 0x0A) := by
  have source' : (Claims.expired s .wakeTimer d).bit Obj.powerStateWakeSources 4 = true := by
    rw [State.bit, State.get_expired s _ d _ (by decide) (by decide) (by decide)]
    exact source
  have free' : (Claims.expired s .wakeTimer d).autoHeld = false := (autoHeld_expired s _ d).trans free
  have closed' : (Claims.expired s .wakeTimer d).power.recovery = false :=
    (congrArg Power.recovery ((expired_fr s _ d).power rfl)).trans closed
  refine ⟨(Claims.expired s .wakeTimer d).beginStart 0x0A false false, ?_,
    State.beginStart_starting (mayStart_expired may _ d) _ _ _⟩
  show Host.Outcome.next (s.onTimer .wakeTimer _) = _
  rw [State.onTimer_of_deadline _ due, source', free', closed', if_pos (by decide)]

/-! ## FIELD_PORT_WAKE (R69, R86, R504) -/

theorem fieldPortWake_starts {s : State} (may : Claims.MayStart s) (p : Port)
    (source : s.bit Obj.powerStateWakeSources 2 = true) (supply : s.pins.vddioA = true)
    (standby : (match p with | .a => s.pins.canStbA | .b => s.pins.canStbB) = true) (free : s.autoHeld = false)
    (closed : s.power.recovery = false) : Claims.Answers (.fieldPortWake p) s (Claims.Starting · 0x0B) := by
  refine ⟨s.beginStart 0x0B false false, ?_, State.beginStart_starting may _ _ _⟩
  have due (stb : Bool) (low : stb = true) : (s.power.state == .dormant && s.bit Obj.powerStateWakeSources 2
      && s.pins.vddioA && stb && !s.autoHeld && !s.power.recovery) = true := by
    simp [may.2.1, source, supply, low, free, closed]
  cases p with
  | a =>
    show Host.Outcome.next (s.when (s.power.state == .dormant && s.bit Obj.powerStateWakeSources 2
      && s.pins.vddioA && s.pins.canStbA && !s.autoHeld && !s.power.recovery) _) = _
    rw [due _ standby, State.when_true]
  | b =>
    show Host.Outcome.next (s.when (s.power.state == .dormant && s.bit Obj.powerStateWakeSources 2
      && s.pins.vddioA && s.pins.canStbB && !s.autoHeld && !s.power.recovery) _) = _
    rw [due _ standby, State.when_true]

/-! ## RST_N_LOW in DORMANT (R69, R72, R86) -/

theorem State.starting_of_settled {s : State} (settled : s.power.trans = none) : s.starting = false := by
  rw [State.starting, settled]

theorem rstNLow_dormant {s : State} (may : Claims.MayStart s) (closed : s.power.recovery = false)
    (idle : s.rail.shutdown = none) (pair : s.wd.lockstepBusy = false) : exec .rstNLow s = .next s.rstInDormant := by
  obtain ⟨-, dormant, settled⟩ := may
  have due : (s.awake && s.power.state != .holdup && !s.power.recovery) = true := by
    simp [State.awake, dormant, closed]
  show Host.Outcome.next (s.when (s.awake && s.power.state != .holdup && !s.power.recovery) _) = _
  rw [due, State.when_true, idle, pair, if_neg (by decide), State.starting_of_settled settled, dormant, if_pos (by decide)]

theorem State.wakeSources_endLockout (s : State) (i : Nat) :
    s.endLockout.bit Obj.powerStateWakeSources i = s.bit Obj.powerStateWakeSources i :=
  congrArg (Nat.testBit · i) (State.get_set_ne _ Obj.watchdogLockout Obj.powerStateWakeSources 0 (by decide))

/-- The end of the lockout leaves the choice of wake sources alone. -/
theorem State.rstInDormant_eq (s : State) : s.rstInDormant =
    if s.bit Obj.powerStateWakeSources 1 = true then s.endLockout.wakeStart 2 false else s.endLockout := by
  rw [← s.wakeSources_endLockout 1]
  rfl

theorem State.rstInDormant_starts {s : State} (may : Claims.MayStart s)
    (source : s.bit Obj.powerStateWakeSources 1 = true) : Claims.Starting s.rstInDormant 2 := by
  have may' : Claims.MayStart s.endLockout := mayStart_congr may rfl rfl rfl
  rw [State.rstInDormant_eq, if_pos source]
  exact State.wakeStart_starting may' 2 false

theorem State.rstInDormant_unsourced {s : State} (deaf : s.bit Obj.powerStateWakeSources 1 = false) :
    s.rstInDormant = s.set Obj.watchdogLockout 0 := by
  rw [State.rstInDormant_eq, deaf, if_neg Bool.false_ne_true, State.endLockout]

/-- Settles O8: each wake reaches `State.beginStart`, which begins wherever the statement's conditions hold. -/
theorem startsFromDormant : Obligations.StartsFromDormant := fun _ may =>
  ⟨powerOnAutostart_starts may, holdupRestartDelayExpiry_starts may, restartDelayExpiry_starts may,
    wakeTimerExpiry_starts may, fieldPortWake_starts may, fun closed idle pair =>
    ⟨fun source => ⟨_, rstNLow_dormant may closed idle pair, State.rstInDormant_starts may source⟩,
      fun deaf => (rstNLow_dormant may closed idle pair).trans (by rw [State.rstInDormant_unsourced deaf])⟩⟩

end Sys2Proof.Machine

namespace Sys2Proof.Machine

open Sys2Proof

/-! ## WAKE (R86, R272, R504) -/

/-- The Wake key taken in: the status byte shifted out, the lockout ended. -/
def State.takeKey (s : State) : State := (s.shiftOut s.statusByte []).endLockout

/-- The wake noted for the host (R272). -/
def State.heedWake (s : State) : State := { s.takeKey with power.wakePending := true }

theorem execWake_key_eq (s : State) : exec (.wake [0x57#8]) s = .next (s.when s.awake (fun s =>
    if [0x57#8] ≠ [0x57#8] ∨ s.power.recovery = true then s.shiftOut s.statusByte []
    else if s.power.state = .dormant ∧ s.takeKey.bit Obj.powerStateWakeSources 3 = true ∧ s.trellisOk = true ∧
      s.power.trans.isNone = true then s.heedWake.wakeStart 0x0C false
    else s.takeKey)) := rfl

theorem wake_answer {s : State} (may : Claims.MayStart s) (closed : s.power.recovery = false)
    (source : s.bit Obj.powerStateWakeSources 3 = true) :
    exec (.wake [0x57#8]) s = .next (s.heedWake.wakeStart 0x0C false) := by
  obtain ⟨trellis, dormant, settled⟩ := may
  have awake : s.awake = true := (State.awake_iff s).mpr (by rw [dormant]; decide)
  have key : ¬ ([0x57#8] ≠ [0x57#8] ∨ s.power.recovery = true) := by simp [closed]
  have source' : s.takeKey.bit Obj.powerStateWakeSources 3 = true :=
    ((s.shiftOut s.statusByte []).wakeSources_endLockout 3).trans source
  rw [execWake_key_eq, awake, State.when_true, if_neg key,
    if_pos ⟨dormant, source', trellis, Option.isNone_iff_eq_none.mpr settled⟩]

theorem outsideSlots_watchdogLockout : outsideSlots Obj.watchdogLockout := by
  intro n slot
  unfold Obj.watchdogLockout Obj.railSlotState Obj.railSlotReading Obj.hkAResult
  omega

theorem wake_starts {s : State} (may : Claims.MayStart s) (closed : s.power.recovery = false)
    (source : s.bit Obj.powerStateWakeSources 3 = true) : Claims.Answers (.wake [0x57#8]) s (fun t =>
      Claims.Starting t 0x0C ∧ t.power.wakePending = true ∧ t.get Obj.watchdogLockout = 0) := by
  have may' : Claims.MayStart s.heedWake := mayStart_congr may rfl rfl rfl
  refine ⟨_, wake_answer may closed source, State.wakeStart_starting may' 0x0C false, ?_, ?_⟩
  · rw [State.wakeStart, State.beginStart_power may']
    rfl
  · rw [State.wakeStart, State.get_beginStart outsideSlots_watchdogLockout may' _ _ _ (by decide) (by decide)]
    exact State.get_set_self _ Obj.watchdogLockout 0

/-! ## RCV_COMMIT (R273) -/

/-- RCV_CTRL's control bits above an Offset: the Offset that it carries, and the bits. -/
theorem rcvCtrl_commit (n : BitVec 21) : BitVec.ofNat 21 (2 ^ 31 + n.toNat) = n ∧
    (2 ^ 31 + n.toNat).testBit 31 = true ∧ (2 ^ 31 + n.toNat).testBit 30 = false := by
  have small : n.toNat < 2 ^ 30 := by omega
  refine ⟨BitVec.eq_of_toNat_eq (by rw [BitVec.toNat_ofNat]; omega), ?_, ?_⟩
  · rw [Nat.testBit_two_pow_add_eq, Nat.testBit_lt_two_pow (by omega)]
    rfl
  · rw [Nat.testBit_two_pow_add_gt (by decide), Nat.testBit_lt_two_pow small]

theorem rcvCtrl_verify (n : BitVec 21) : BitVec.ofNat 21 (2 ^ 30 + n.toNat) = n ∧
    (2 ^ 30 + n.toNat).testBit 31 = false ∧ (2 ^ 30 + n.toNat).testBit 30 = true := by
  have small : n.toNat < 2 ^ 30 := by omega
  refine ⟨BitVec.eq_of_toNat_eq (by rw [BitVec.toNat_ofNat]; omega), Nat.testBit_lt_two_pow (by omega), ?_⟩
  rw [Nat.testBit_two_pow_add_eq, Nat.testBit_lt_two_pow small]
  rfl

theorem State.bankMem_setBank_self (s : State) (bank : Nat) (m : List Host.Cell) :
    (s.setBank bank m).bankMem bank = m := by
  unfold State.setBank State.bankMem
  by_cases first : bank = 0
  · simp only [if_pos first]
  · simp only [if_neg first]

theorem State.setBank_parts (s : State) (bank : Nat) (m : List Host.Cell) : (s.setBank bank m).hp = s.hp ∧
    (s.setBank bank m).dict = s.dict ∧ (s.setBank bank m).mems.rcv = s.mems.rcv :=
  prop_ite (P := fun u => u.hp = s.hp ∧ u.dict = s.dict ∧ u.mems.rcv = s.mems.rcv) ⟨rfl, rfl, rfl⟩ ⟨rfl, rfl, rfl⟩

/-- The selected bank as a chunk of it is to be programmed from RCV_BUF. -/
def State.withChunk (s : State) : List Host.Cell :=
  memWriteAll zeroByte (s.bankMem (s.get Obj.bootSelectedBank)) (4096 * s.hp.rcvOffset.toNat)
    (memSlice zeroByte s.mems.rcv 0 4096)

/-- What programming a chunk leaves, but for the note that the running bank has been written over. -/
structure ChunkProgrammed (s t : State) : Prop where
  offset : t.hp.rcvOffset = s.hp.rcvOffset
  result : t.hp.rcvResult = 1
  bank : t.bankMem (s.get Obj.bootSelectedBank) = s.withChunk
  dict : t.dict = s.dict
  rcv : t.mems.rcv = s.mems.rcv

theorem State.programChunk_programmed (s : State) : ChunkProgrammed s s.programChunk := by
  obtain ⟨hp, dict, rcv⟩ := s.setBank_parts (s.get Obj.bootSelectedBank) s.withChunk
  have bank := s.bankMem_setBank_self (s.get Obj.bootSelectedBank) s.withChunk
  have programmed (u : State) (kept : u.hp = s.hp ∧ u.dict = s.dict ∧ u.mems.rcv = s.mems.rcv ∧
      u.bankMem (s.get Obj.bootSelectedBank) = s.withChunk) :
      ChunkProgrammed s (({ u with hp.rcvResult := 1 } : State).raiseIrq 4) := by
    obtain ⟨hp', dict', rcv', bank'⟩ := kept
    have offset : u.hp.rcvOffset = s.hp.rcvOffset := congrArg HostPort.rcvOffset hp'
    exact ⟨offset, rfl, bank', dict', rcv'⟩
  exact programmed _ (prop_ite (P := fun u => u.hp = s.hp ∧ u.dict = s.dict ∧ u.mems.rcv = s.mems.rcv ∧
    u.bankMem (s.get Obj.bootSelectedBank) = s.withChunk) ⟨hp, dict, rcv, bank⟩ ⟨hp, dict, rcv, bank⟩)

theorem rcvCommit_answer {s : State} (n : BitVec 21) (opened : s.power.recovery = true) (fits : n.toNat ≤ 383) :
    exec (.rcvCommit n) s = .next (State.programChunk { s with hp.rcvOffset := n }) := by
  obtain ⟨offset, commit, noVerify⟩ := rcvCtrl_commit n
  show Host.Outcome.next (s.when s.power.recovery _) = _
  rw [opened, State.when_true, State.writeRcvCtrl, offset, commit, noVerify, if_neg (by simp),
    if_pos ⟨rfl, opened, fits⟩]

theorem memSlice_length (d : Nat → Byte) (m : List Host.Cell) (a n : Nat) : (memSlice d m a n).length = n := by
  simp [memSlice]

theorem rcvCommit_programs {s : State} (n : BitVec 21) (opened : s.power.recovery = true) (fits : n.toNat ≤ 383) :
    Claims.Answers (.rcvCommit n) s (fun t =>
      t.hp.rcvOffset = n ∧ t.hp.rcvResult = 1 ∧
        (∀ i < 4096, memRead zeroByte (t.bankMem (s.get Obj.bootSelectedBank)) (4096 * n.toNat + i) =
          memRead zeroByte s.mems.rcv i) ∧
        (∀ x, x < 4096 * n.toNat ∨ 4096 * n.toNat + 4096 ≤ x →
          memRead zeroByte (t.bankMem (s.get Obj.bootSelectedBank)) x =
            memRead zeroByte (s.bankMem (s.get Obj.bootSelectedBank)) x) ∧
        t.dict = s.dict ∧ t.mems.rcv = s.mems.rcv) := by
  have chunk := memSlice_length zeroByte s.mems.rcv 0 4096
  obtain ⟨offset, result, bank, dict, rcv⟩ := State.programChunk_programmed { s with hp.rcvOffset := n }
  refine ⟨_, rcvCommit_answer n opened fits, offset, result, fun i hi => ?_, fun x hx => ?_, dict, rcv⟩
  · refine (congrArg (memRead zeroByte · _) bank).trans
      ((memRead_memWriteAll_inside _ _ _ _ i (by rwa [chunk])).trans ?_)
    simp [memSlice]
  · exact (congrArg (memRead zeroByte · _) bank).trans
      (memRead_memWriteAll_outside _ _ _ _ x (by rwa [chunk]))

/-! ## RCV_VERIFY (R103, R273, R283) -/

theorem rcvVerify_answer {s : State} (o : BitVec 21) (opened : s.power.recovery = true) :
    exec (.rcvVerify o) s = .next (State.rcvVerify { s with hp.rcvOffset := o }) := by
  obtain ⟨offset, noCommit, verify⟩ := rcvCtrl_verify o
  have programs (fits : Prop) : ¬ (false = true ∧ s.power.recovery = true ∧ fits) := fun h => Bool.false_ne_true h.1
  show Host.Outcome.next (s.when s.power.recovery _) = _
  rw [opened, State.when_true, State.writeRcvCtrl, offset, noCommit, verify, if_neg (programs _), if_pos ⟨rfl, opened⟩]

theorem State.rcvVerify_passed {s : State}
    (passes : s.bundleFault (s.bankFacts (s.get Obj.bootSelectedBank)) = none) : s.rcvVerify =
      ((({ s with hp.rcvResult := 2, hp.rcvFailed := 0 } : State).raiseIrq 4).set Obj.updateFailedCheck 0).restart 3 := by
  unfold State.rcvVerify
  generalize s.bundleFault (s.bankFacts (s.get Obj.bootSelectedBank)) = verdict at passes
  subst passes
  rfl

theorem State.rcvVerify_failed {s : State} {f : Nat × Nat}
    (fails : s.bundleFault (s.bankFacts (s.get Obj.bootSelectedBank)) = some f) : s.rcvVerify =
      (({ s with hp.rcvResult := 3, hp.rcvFailed := BitVec.ofNat 4 f.2 } : State).raiseIrq 4).hostFlag 4 := by
  unfold State.rcvVerify
  generalize s.bundleFault (s.bankFacts (s.get Obj.bootSelectedBank)) = verdict at fails
  subst fails
  rfl

/-- A change of Sticky.Summary leaves what RCV_STATUS shows alone. -/
theorem State.noteSummary_rcv (s : State) :
    s.noteSummary.hp.rcvResult = s.hp.rcvResult ∧ s.noteSummary.hp.rcvFailed = s.hp.rcvFailed := by
  unfold State.noteSummary
  refine prop_ite (P := fun u => u.hp.rcvResult = s.hp.rcvResult ∧ u.hp.rcvFailed = s.hp.rcvFailed) ⟨rfl, rfl⟩ ?_
  have hp (u : State) (bs : Bytes) : (u.notify 3 0xFFFF bs).hp = u.hp :=
    (State.notify_fr u 3 0xFFFF bs (F := 50331654) rfl (Fr.refl _ u)).hp rfl
  rw [hp]
  exact ⟨rfl, rfl⟩

theorem State.hostFlag_rcv (s : State) (bit : Nat) : (s.hostFlag bit).hp.rcvResult = s.hp.rcvResult ∧
    (s.hostFlag bit).hp.rcvFailed = s.hp.rcvFailed :=
  prop_ite (P := fun u => u.hp.rcvResult = s.hp.rcvResult ∧ u.hp.rcvFailed = s.hp.rcvFailed)
    (State.noteSummary_rcv _) ⟨rfl, rfl⟩

theorem State.hostFlag_frame (s : State) (bit : Nat) : (s.hostFlag bit).power = s.power ∧
    (s.hostFlag bit).mems = s.mems :=
  prop_ite (P := fun u => u.power = s.power ∧ u.mems = s.mems) ⟨State.flag_power s _ _, State.flag_mems s _ _⟩
    ⟨rfl, rfl⟩

theorem rcvVerify_verifies {s : State} (o : BitVec 21) (opened : s.power.recovery = true) :
    Claims.Answers (.rcvVerify o) s (fun t =>
      (s.bundleFault (s.bankFacts (s.get Obj.bootSelectedBank)) = none →
        t = (((({ s with hp.rcvOffset := o, hp.rcvResult := 2, hp.rcvFailed := 0 }).raiseIrq 4).set
          Obj.updateFailedCheck 0).restart 3)) ∧
      (∀ f, s.bundleFault (s.bankFacts (s.get Obj.bootSelectedBank)) = some f →
        t.hp.rcvResult = 3 ∧ t.hp.rcvFailed = BitVec.ofNat 4 f.2 ∧ t.power = s.power ∧ t.mems = s.mems)) := by
  have found : State.bundleFault { s with hp.rcvOffset := o } = s.bundleFault := State.bundleFault_congr rfl
  refine ⟨_, rcvVerify_answer o opened, fun passes => ?_, fun f fails => ?_⟩
  · exact State.rcvVerify_passed ((congrFun found _).trans passes)
  · rw [State.rcvVerify_failed ((congrFun found _).trans fails)]
    obtain ⟨power, mems⟩ := State.hostFlag_frame _ 4
    obtain ⟨result, failed⟩ := State.hostFlag_rcv _ 4
    exact ⟨result, failed, power, mems⟩

/-- Settles O28: the start by `State.beginStart`, the chunk byte by byte, and Verify by what `bundleFault` answers. -/
theorem wakeAndRecovery : Obligations.WakeAndRecovery := fun _ =>
  ⟨wake_starts, rcvCommit_programs, rcvVerify_verifies⟩

end Sys2Proof.Machine

namespace Sys2Proof.Machine

open Sys2Proof

/-! ## Droop stretching (R79, R81) -/

/-- The core clock is stretched from now on. -/
def State.beginStretch (s : State) : State := { s with power.stretchAt := some s.now }

theorem State.bit_flag_self (s : State) (k b : Nat) (unreported : reportKey k = false) : (s.flag k b).bit k b = true := by
  rw [State.bit, State.get_flag_self _ _ _ unreported, testBit_setBit_self]

theorem State.bit_faultRow_self (s : State) (k b : Nat) (p : Prod) (code sev inst : Nat) (bs : Bytes)
    (unreported : reportKey k = false) : (s.faultRow k b p code sev inst bs).bit k b = true := by
  rw [State.bit, State.get_faultRow_self _ _ _ _ _ _ _ _ unreported, testBit_setBit_self]

theorem droopStretch_stretches {s : State} (core : s.power.coreReleased = true) (even : s.power.stretchAt = none) :
    Claims.Answers .droopStretch s (fun t =>
      t.power.stretchAt = some s.now ∧ t.bit Obj.clockSticky 3 = true ∧ t.deadline .stretchLong = some (s.now + 1000) ∧
        t.mems = s.mems ∧ t.pins = s.pins) := by
  have due : (s.power.coreReleased && s.power.stretchAt.isNone) = true := by rw [core, even]; rfl
  refine ⟨((s.beginStretch.bump Obj.clockStretchCount 1).flag Obj.clockSticky 3).arm .stretchLong 1000, ?_, ?_, ?_, ?_,
    ?_, ?_⟩
  · show Host.Outcome.next (s.when (s.power.coreReleased && s.power.stretchAt.isNone) _) = _
    rw [due]
    rfl
  · rw [State.arm_power, State.flag_power]
    rfl
  · exact State.bit_flag_self _ _ _ rfl
  · rw [State.deadline_arm_self, State.now, State.flag_time]
    rfl
  · rw [State.arm_mems, State.flag_mems]
    rfl
  · rw [State.arm_pins, State.flag_pins]
    rfl

theorem stretchRelease_answer {s : State} (at_ : Nat) (stretched : s.power.stretchAt = some at_) :
    exec .stretchRelease s = .next
      (({ s with power.stretchAt := none }).set Obj.clockStretchLongest
        (max (s.get Obj.clockStretchLongest) (satBytes 2 (s.now - at_)))|>.disarm .stretchLong) := by
  show execStretchRelease s = _
  unfold execStretchRelease
  rw [stretched]
  rfl

/-- What follows a stretch that has lasted since `at_`, S00 reading `mv`. -/
def State.stretchedLong (s : State) (at_ : Nat) (mv : BitVec 16) : State :=
  let u := (s.hardMute).set (Obj.railSlotReading 0) mv.toNat
  u.faultRow Obj.clockSticky 4 .monitors 0x0104 2 31 (leBytes 4 (u.now - at_) ++ leBytes 2 mv.toNat)

theorem stretchLong_answer {s : State} (d at_ : Nat) (mv : BitVec 16) (due : s.deadline .stretchLong = some d)
    (stretched : s.power.stretchAt = some at_) :
    exec (.stretchLong mv) s = .next ((Claims.expired s .stretchLong d).stretchedLong at_ mv) := by
  have stretched' : (Claims.expired s .stretchLong d).power.stretchAt = some at_ := by
    rw [(expired_fr s .stretchLong d).power rfl, stretched]
  show Host.Outcome.next (s.onTimer .stretchLong _) = _
  rw [State.onTimer_of_deadline _ due, stretched']
  rfl

theorem stretchLong_mutes {s : State} (d at_ : Nat) (mv : BitVec 16) (due : s.deadline .stretchLong = some d)
    (stretched : s.power.stretchAt = some at_) : Claims.Answers (.stretchLong mv) s (fun t =>
      t.pins.rfMuteN = false ∧ t.get (Obj.railSlotReading 0) = mv.toNat ∧ t.bit Obj.clockSticky 4 = true ∧
        t.power = s.power) := by
  refine ⟨_, stretchLong_answer d at_ mv due stretched, ?_, ?_, ?_, ?_⟩
  · rw [State.stretchedLong, State.faultRow_pins, State.set_pins, State.hardMute_rfMuteN]
  · rw [State.stretchedLong, State.get_faultRow_ne _ _ _ _ _ _ _ _ _ (by decide) rfl, State.get_set_self]
  · exact State.bit_faultRow_self _ _ _ _ _ _ _ _ rfl
  · rw [State.stretchedLong, State.faultRow_power, State.set_power, State.hardMute_power,
      (expired_fr s .stretchLong d).power rfl]

/-! ## AGING_TRIM (R82 to R84) -/

theorem agingTrim_answer {s : State} (g : BitVec 16) (on : s.power.state ≠ .off) (core : s.power.coreReleased = true)
    (due : s.get Obj.clockNextTrim ≤ s.get Obj.powerStateCoreSeconds) : exec (.agingTrim g) s = .next (
      let new := max (s.get Obj.clockGuardBand) (min 16 ((g.toNat + 24) / 25))
      let u := (s.set Obj.clockAgingGrowth g.toNat).set Obj.clockGuardBand new
      let u := u.set Obj.clockNextTrim (satBytes 4 (s.get Obj.powerStateCoreSeconds + 3600000))
      let u := u.log .cellar 0x8101 0 31 ([byteOf (s.get Obj.clockGuardBand), byteOf new] ++ leBytes 2 g.toNat)
      let u := laneNums.foldl State.trimLane u
      if 400 < g.toNat then u.faultRow Obj.clockSticky 5 .cellar 0x0105 1 31 (leBytes 2 g.toNat) else u) := by
  have seconds : ((s.set Obj.clockAgingGrowth g.toNat).set Obj.clockGuardBand
      (max (s.get Obj.clockGuardBand) (min 16 ((g.toNat + 24) / 25)))).get Obj.powerStateCoreSeconds =
      s.get Obj.powerStateCoreSeconds := by
    rw [State.get_set_ne _ _ _ _ (by decide), State.get_set_ne _ _ _ _ (by decide)]
  have occurs : (s.awake && s.power.coreReleased &&
      decide (s.get Obj.clockNextTrim ≤ s.get Obj.powerStateCoreSeconds)) = true := by
    rw [(State.awake_iff s).mpr on, core, decide_eq_true due]
    rfl
  show Host.Outcome.next (s.when (s.awake && s.power.coreReleased &&
    decide (s.get Obj.clockNextTrim ≤ s.get Obj.powerStateCoreSeconds)) _) = _
  rw [occurs, State.when_true]
  dsimp only
  rw [seconds]

/-! ## PRESS_WATCHDOG_EXPIRY and CORE_WATCHDOG_EXPIRY (R24, R25, R85) -/

theorem State.supervised_free {s : State} (pair : s.wd.lockstepBusy = false) (f : State → State) :
    s.supervised f = f s := if_neg (by rw [pair]; decide)

theorem State.supervised_busy {s : State} (pair : s.wd.lockstepBusy = true) (f : State → State) :
    s.supervised f = s := if_pos pair

theorem pressWatchdogExpiry_answer {s : State} (pair : s.wd.lockstepBusy = false) (d : Nat)
    (due : s.deadline (.watchdog .press) = some d) : exec .pressWatchdogExpiry s = .next (
      let r := ((Claims.expired s (.watchdog .press) d).hardMute.paOff).noteExpiry .press Obj.watchdogPressExpiryCount
      let u := { r.1.depart 3 with power.pressReady := false }
      if r.2 then u.escalate .press else u) := by
  show Host.Outcome.next (s.supervised _) = _
  rw [State.supervised_free pair, State.onTimer_of_deadline _ due]

theorem vintnerWatchdogExpiry_answer {s : State} (pair : s.wd.lockstepBusy = false) (d : Nat)
    (due : s.deadline (.watchdog .vintner) = some d) : exec (.coreWatchdogExpiry .vintner) s = .next (
      let r := (Claims.expired s (.watchdog .vintner) d).noteExpiry .vintner Obj.watchdogVintnerExpiryCount
      let u := { r.1 with power.vintReady := false, blockReads := [], blockWrites := [] }
      if r.2 then u.escalate .vintner else u) := by
  show Host.Outcome.next (s.supervised _) = _
  rw [State.supervised_free pair, State.onTimer_of_deadline _ due]
  rfl

theorem corkWatchdogExpiry_answer {s : State} (pair : s.wd.lockstepBusy = false) (d : Nat)
    (due : s.deadline (.watchdog .cork) = some d) : exec (.coreWatchdogExpiry .cork) s = .next (
      let r := (Claims.expired s (.watchdog .cork) d).noteExpiry .cork Obj.watchdogCorkExpiryCount
      if r.2 then r.1.corkReset.escalate .cork else r.1.corkReset) := by
  show Host.Outcome.next (s.supervised _) = _
  rw [State.supervised_free pair, State.onTimer_of_deadline _ due]

/-! ## LOCKSTEP_MISMATCH and LOCKSTEP_RECOVERY (R92, R93) -/

/-- The pair in reset after a mismatch, with what the comparator saw of it. -/
def State.holdPair (s : State) (c n : BitVec 32) : State :=
  { s with wd.lockstepBusy := true, wd.lockstepInfo := some (c, n) }

theorem lockstepMismatch_answer {s : State} (pair : s.wd.lockstepBusy = false) (c n : BitVec 32)
    (on : s.power.state ≠ .off) : exec (.lockstepMismatch c n) s =
      .next (((s.hardMute.paOff).holdPair c n).arm .lockstepRecovery 1000) := by
  have occurs : (s.awake && !s.wd.lockstepBusy) = true := by
    rw [(State.awake_iff s).mpr on, pair]
    rfl
  show Host.Outcome.next (s.when (s.awake && !s.wd.lockstepBusy) _) = _
  rw [occurs]
  rfl

theorem State.paOff_paEn (s : State) : s.paOff.pins.paEn = 0 :=
  prop_foldl (P := fun u => u.pins.paEn = 0) rfl (fun _ _ _ kept => prop_ite (P := fun u => u.pins.paEn = 0) kept kept)

theorem State.holdPair_pins (s : State) (c n : BitVec 32) : (s.holdPair c n).pins = s.pins := rfl

theorem State.holdPair_now (s : State) (c n : BitVec 32) : (s.holdPair c n).now = s.now := rfl

theorem lockstepMismatch_stops {s : State} (pair : s.wd.lockstepBusy = false) (c n : BitVec 32)
    (on : s.power.state ≠ .off) : Claims.Answers (.lockstepMismatch c n) s (fun t =>
      t.pins.rfMuteN = false ∧ t.pins.paEn = 0 ∧ t.wd.lockstepBusy = true ∧ t.wd.lockstepInfo = some (c, n) ∧
        t.pins.railEn = s.pins.railEn ∧ t.pins.pfwN = s.pins.pfwN ∧
        t.deadline .lockstepRecovery = some (s.now + 1000)) := by
  have muted : Fr 1168231104662 s s.hardMute := State.hardMute_fr s rfl (Fr.refl _ s)
  have off : Fr 84 s.hardMute s.hardMute.paOff := State.paOff_fr _ rfl (Fr.refl _ _)
  have now : s.hardMute.paOff.now = s.now := by rw [State.now, State.now, off.time rfl, muted.time rfl]
  refine ⟨_, lockstepMismatch_answer pair c n on, ?_, ?_, rfl, rfl, ?_, ?_, ?_⟩
  · rw [State.arm_pins, State.holdPair_pins, off.pins_rfMuteN rfl, State.hardMute_rfMuteN]
  · rw [State.arm_pins, State.holdPair_pins, State.paOff_paEn]
  · rw [State.arm_pins, State.holdPair_pins, off.pins_railEn rfl, muted.pins_railEn rfl]
  · rw [State.arm_pins, State.holdPair_pins, off.pins_pfwN rfl, State.hardMute_pfwN]
  · rw [State.deadline_arm_self, State.holdPair_now, now]

/-- The bytes that the record of a lockstep mismatch carries. -/
def lockstepPayload (info : Option (BitVec 32 × BitVec 32)) : Bytes :=
  match info with
  | some i => leBytes 4 i.1.toNat ++ leBytes 4 i.2.toNat
  | none => []

theorem lockstepRecovery_answer {s : State} (d : Nat) (due : s.deadline .lockstepRecovery = some d) :
    exec .lockstepRecovery s = .next
      (let u : State := { Claims.expired s .lockstepRecovery d with wd.lockstepBusy := false, wd.lockstepInfo := none }
       (u.faultRow Obj.clockSticky 6 .cellar 0x0307 2 31 (lockstepPayload s.wd.lockstepInfo)).resumeSupervision) := by
  have info : (Claims.expired s .lockstepRecovery d).wd = s.wd := (expired_fr s .lockstepRecovery d).wd rfl
  show Host.Outcome.next (s.onTimer .lockstepRecovery _) = _
  rw [State.onTimer_of_deadline _ due, ← info]
  rfl

theorem State.resumeSupervision_wd (s : State) : s.resumeSupervision.wd = s.wd :=
  (State.resumeSupervision_fr s (F := maskBut [12]) rfl (Fr.refl _ s)).wd rfl

theorem lockstepRecovery_resumes {s : State} (d : Nat) (due : s.deadline .lockstepRecovery = some d) :
    Claims.Answers .lockstepRecovery s (fun t =>
      t.wd.lockstepBusy = false ∧ t.wd.lockstepInfo = none ∧
        t = (let u : State := { Claims.expired s .lockstepRecovery d with
               wd.lockstepBusy := false, wd.lockstepInfo := none }
             (u.faultRow Obj.clockSticky 6 .cellar 0x0307 2 31 (match s.wd.lockstepInfo with
               | some i => leBytes 4 i.1.toNat ++ leBytes 4 i.2.toNat
               | none => [])).resumeSupervision)) := by
  refine ⟨_, lockstepRecovery_answer d due, ?_, ?_, rfl⟩
  · rw [State.resumeSupervision_wd, State.faultRow_wd]
  · rw [State.resumeSupervision_wd, State.faultRow_wd]

theorem feedCollapseReport_waits {s : State} (pair : s.wd.lockstepBusy = true) :
    exec .feedCollapseReport s = .next s := by
  show Host.Outcome.next (s.when s.feed.report (fun s => s.supervised _)) = _
  cases s.feed.report with
  | true => rw [State.when_true, State.supervised_busy pair]
  | false => rw [State.when_false]

theorem supervision_waits {s : State} (pair : s.wd.lockstepBusy = true) :
    exec .pressWatchdogExpiry s = .next s ∧ (∀ c, exec (.coreWatchdogExpiry c) s = .next s) ∧
      exec .feedCollapseReport s = .next s ∧ ∀ n, exec (.railEnable n) s = .next s := by
  refine ⟨congrArg _ (State.supervised_busy pair _), fun c => ?_, feedCollapseReport_waits pair,
    fun n => congrArg _ (State.supervised_busy pair _)⟩
  cases c with
  | vintner => exact congrArg _ (State.supervised_busy pair _)
  | cork => exact congrArg _ (State.supervised_busy pair _)

end Sys2Proof.Machine

namespace Sys2Proof.Machine

open Sys2Proof

/-! ## A Cork that stays down through what follows its reset (R25, R26, R85, R141)

The third expiry within 600 s is followed by a restart or a shutdown. None of its steps starts the Cork, opens a session,
derives a key or takes up a receipt: one lemma for each step that may write one of these parts, and a frame for every
other. -/

/-- A Cork that is in reset, by the parts that say so: not ready, no session, no wrapping key, no receipt in hand. -/
def CorkDownF (corkReady : Bool) (sessions : List Session) (kwk signing : Option Nat) (queued : List Nat) : Prop :=
  corkReady = false ∧ sessions = [] ∧ kwk = none ∧ signing = none ∧ queued = []

/-- A state whose Cork is in reset. -/
abbrev CorkDown (s : State) : Prop :=
  CorkDownF s.power.corkReady s.sec.sessions s.sec.kwk s.net.signing s.net.queued

/-- Every part but those that hold what the Cork had. -/
def corkWork : Nat := maskBut [10, 13, 41]

section

variable {s t : State}

theorem CorkDown.frame (fr : Fr corkWork s t) (h : CorkDown s) : CorkDown t := by
  rw [CorkDown, fr.power rfl, fr.sec rfl, fr.net rfl]
  exact h

theorem CorkDown.reported (r : Reported s t) (h : CorkDown s) : CorkDown t := by
  rw [CorkDown, r.power, r.sec, r.net]
  exact h

theorem CorkDownF.filter {ready : Bool} {l : List Session} {kwk signing : Option Nat} {queued : List Nat}
    (p : Session → Bool) (h : CorkDownF ready l kwk signing queued) :
    CorkDownF ready (l.filter p) kwk signing queued := by
  obtain ⟨ready, rfl, rest⟩ := h
  exact ⟨ready, rfl, rest⟩

/-! ### Replies, commits and sessions -/

theorem CorkDown.protect (h : CorkDown s) (d : ReplyTo) (own : Nat) (body : Bytes) :
    CorkDown (s.protect d own body).2.2 := by
  have unknown (sid : Nat) : s.sessionOf sid = none := by rw [State.sessionOf, h.2.1, List.find?_nil]
  unfold State.protect
  split
  · exact h
  · next sid _ =>
    rw [unknown sid]
    dsimp only
    split
    · exact h
    · exact h

theorem CorkDown.reply (h : CorkDown s) (d : ReplyTo) (deferred : Bool) (body : Bytes) :
    CorkDown (s.reply d deferred body) := by
  unfold State.reply
  split
  · exact CorkDown.reported (State.post_reported _ _ _ _ _) (h.protect _ _ _)
  · exact CorkDown.frame (State.remember_fr _ _ _ _ rfl (Fr.refl _ _))
      (CorkDown.reported (State.sendFrames_reported _ _ _ _ _) (h.protect _ _ _))
  · exact CorkDown.frame (State.remember_fr _ _ _ _ rfl (Fr.refl _ _))
      (CorkDown.reported (State.sendFrames_reported _ _ _ _ _) (h.protect _ _ _))

theorem CorkDown.abort (h : CorkDown s) (c : Caller) (req : Bytes) (a : Abort) : CorkDown (s.abort c req a) := by
  unfold State.abort
  refine CorkDown.reply (prop_branch (P := CorkDown) (fun u => { u with hp.outstanding := true }) id
    (prop_branch (P := CorkDown) (fun u => u.bump Obj.queueDeferredCount 1) id
      (prop_branch (P := CorkDown) (fun u => u.noteConflict a.2 c.dest.peer c.dest.svc req) ?_ h))) _ _ _
  exact CorkDown.frame (State.noteConflict_fr _ _ _ _ _ rfl (Fr.refl _ _))

theorem CorkDown.endDebug (h : CorkDown s) (hold : Bool) : CorkDown (s.endDebug hold) := by
  unfold State.endDebug
  refine prop_ite (P := CorkDown) h ?_
  cases hold with
  | true => exact h
  | false =>
    have ended : CorkDown ((s.set Obj.debugLevel 0).disarm .debugEnd) := h
    have resumed (cores : List CoreId) : CorkDown (cores.foldl (fun (s : State) c => s.arm (.watchdog c) (s.watchdogTime c))
        ((s.set Obj.debugLevel 0).disarm .debugEnd)) := prop_foldl (P := CorkDown) ended (fun _ _ _ g => g)
    exact resumed _

/-- A session taken from the table, its key kept for the replies it still owes. -/
def State.strikeSession (s : State) (slot : Nat) (gone : List Session) : State :=
  { s with sec := { s.sec with
    sessions := s.sec.sessions.filter (fun (x : Session) => !(x.slot == slot))
    ended := s.sec.ended ++ gone.map (fun (x : Session) => x.sid)
    closing := s.sec.closing ++ gone.map (fun (x : Session) => (x.sid, x.key, x.ctrOut)) } }

/-- The requests and the stage of a session discarded. -/
def State.dropRequests (s : State) (slot : Nat) (gone : List Session) : State :=
  ((s.setStage (.session (Fin.ofNat 8 slot)) []).disarm (.stage (.session (Fin.ofNat 8 slot)))).discardRequests
    (fun c => c.slot == some (Fin.ofNat 8 slot))
    (fun h => h.answered && gone.any (fun (x : Session) => h.claimed == some x.sid))

/-- The timers of a session stopped. -/
def State.stopSessionTimers (s : State) (slot : Nat) : State :=
  ((s.disarm (.sessionIdle slot)).disarm (.sessionLife slot)).disarm (.handshake slot)

theorem State.endSession_eq (s : State) (slot : Nat) : s.endSession slot =
    let gone : List Session := s.sec.sessions.filter (fun x => x.slot == slot && x.isOpen)
    let t := ((s.dropRequests slot gone).strikeSession slot gone).stopSessionTimers slot
    if t.sec.debugOwner = some slot then t.endDebug false else t := rfl

theorem CorkDown.strikeSession (h : CorkDown s) (slot : Nat) (gone : List Session) :
    CorkDown (s.strikeSession slot gone) := CorkDownF.filter _ h

theorem CorkDown.endSession (h : CorkDown s) (slot : Nat) : CorkDown (s.endSession slot) := by
  have dropped (gone : List Session) : CorkDown (s.dropRequests slot gone) :=
    CorkDown.frame (State.discardRequests_fr _ _ _ rfl (State.disarm_fr _ _ rfl (State.setStage_fr _ _ _ rfl
      (Fr.refl _ _)))) h
  rw [State.endSession_eq]
  exact prop_branch (P := CorkDown) (fun u => u.endDebug false) (fun g => g.endDebug _)
    (CorkDown.frame (State.disarm_fr _ _ rfl (State.disarm_fr _ _ rfl (State.disarm_fr _ _ rfl (Fr.refl _ _))))
      ((dropped _).strikeSession _ _))

theorem CorkDown.endSessions (h : CorkDown s) : CorkDown s.endSessions := by
  unfold State.endSessions
  exact prop_foldl (P := CorkDown) h (fun _ _ _ g => g.endSession _)

theorem CorkDown.endSpent (h : CorkDown s) : CorkDown s.endSpent := by
  unfold State.endSpent
  exact prop_foldl (P := CorkDown) h (fun _ _ _ g => g.endSession _)

theorem CorkDown.endWaiting (h : CorkDown s) (target : PState) : CorkDown (s.endWaiting target) := by
  unfold State.endWaiting
  split
  · exact h
  · refine CorkDown.abort ?_ _ _ _
    exact h

theorem CorkDown.commitReply (h : CorkDown s) (r : CommitRun) : CorkDown (s.commitReply r) := by
  unfold State.commitReply
  split
  case h_5 => exact h
  all_goals exact h.reply _ _ _

theorem CorkDown.finishCommit (h : CorkDown s) (r : CommitRun) : CorkDown (s.finishCommit r) := by
  unfold State.finishCommit
  refine CorkDown.frame (State.settleJoin_fr _ _ rfl (State.settleJoin_fr _ _ rfl (Fr.refl _ _)))
    (CorkDown.endSpent (CorkDown.commitReply (CorkDown.frame (State.disarm_fr _ _ rfl (State.disarm_fr _ _ rfl
      (State.disarm_fr _ _ rfl (State.clearStage_fr _ _ rfl (Fr.refl _ _))))) ?_) _))
  exact h

theorem CorkDown.applyWhere (h : CorkDown s) (r : CommitRun) (p : CEntry → Bool) : CorkDown (s.applyWhere r p).1 :=
  CorkDown.frame (State.applyWhere_fr _ _ _ rfl (Fr.refl _ _)) h

theorem CorkDown.preemptCommit (h : CorkDown s) : CorkDown s.preemptCommit := by
  unfold State.preemptCommit
  split
  · exact h
  · next r _ =>
    have noted : CorkDown (s.notePreempted r) := CorkDown.frame (State.notePreempted_fr _ _ rfl (Fr.refl _ _)) h
    refine prop_ite (P := CorkDown) ?_ noted
    unfold State.applyAll
    exact (((noted.applyWhere _ _).applyWhere _ _).applyWhere _ _).finishCommit _

/-! ### The transitions of the lifecycle -/

theorem CorkDown.blowLifecycle (h : CorkDown s) : CorkDown s.blowLifecycle := by
  unfold State.blowLifecycle
  split
  · exact h
  · refine CorkDown.reported (State.raiseNotify_reported _ _ _ _ _ _) (CorkDown.frame (State.disarm_fr _ _ rfl
      (State.lifecycleRecord_fr _ _ _ _ rfl (Fr.refl _ _))) (CorkDown.endSessions (CorkDown.endDebug ?_ true)))
    exact prop_branch (P := CorkDown) State.makeRsk id h

/-! ### The core domain and the trellis falling -/

theorem CorkDown.leaveUnsigned (h : CorkDown s) (seq reason : Nat) : CorkDown (s.leaveUnsigned seq reason) := by
  unfold State.leaveUnsigned
  exact CorkDown.frame (State.faultRow_fr _ _ _ _ _ _ _ _ rfl (Fr.refl _ _)) h

theorem CorkDown.dropSigning (h : CorkDown s) (reason : Nat) : CorkDown (s.dropSigning reason) := by
  obtain ⟨ready, sessions, kwk, -, -⟩ := h
  unfold State.dropSigning
  exact prop_foldl (P := CorkDown) ⟨ready, sessions, kwk, rfl, rfl⟩ (fun _ _ _ g => g.leaveUnsigned _ _)

theorem CorkDown.closeRefLoss (h : CorkDown s) : CorkDown s.closeRefLoss := by
  unfold State.closeRefLoss
  split
  · exact h
  · exact CorkDown.reported (State.log_reported _ _ _ _ _ _) h

theorem CorkDown.haltCore (h : CorkDown s) : CorkDown s.haltCore := by
  unfold State.haltCore
  exact CorkDown.frame (State.unitsDown_fr _ rfl (State.discardWaiting_fr _ rfl (Fr.refl _ _)))
    (CorkDown.endSessions (CorkDown.endDebug (h.dropSigning _) _))

theorem CorkDown.coreDown (h : CorkDown s) : CorkDown s.coreDown := by
  obtain ⟨-, sessions, -, signing, queued⟩ := h.haltCore
  unfold State.haltCore at sessions signing queued
  unfold State.coreDown
  refine CorkDown.frame (State.set_fr _ _ _ rfl (State.set_fr _ _ _ rfl (State.set_fr _ _ _ rfl (State.set_fr _ _ _ rfl
    (State.set_fr _ _ _ rfl (Fr.refl _ _)))))) ?_
  exact ⟨rfl, sessions, rfl, signing, queued⟩

theorem CorkDown.enterState (h : CorkDown s) (new : PState) (reason : Nat) : CorkDown (s.enterState new reason) := by
  unfold State.enterState
  exact CorkDown.reported (State.raiseNotify_reported _ _ _ _ _ _) h

theorem CorkDown.closeTransitions (h : CorkDown s) : CorkDown s.closeTransitions := h

theorem CorkDown.enterDormant (h : CorkDown s) (reason : Nat) : CorkDown (s.enterDormant reason) := by
  have muted : CorkDown (((s.depart 1).closeRefLoss).hardMute).paOff :=
    CorkDown.frame (State.paOff_fr _ rfl (State.hardMute_fr _ rfl (Fr.refl _ _)))
      (CorkDown.closeRefLoss (CorkDown.frame (State.depart_fr _ _ rfl (Fr.refl _ _)) h))
  have quiet : CorkDown s.quietDown := by
    unfold State.quietDown
    exact muted.coreDown
  have closed : CorkDown s.quietDown.closeTransitions := quiet.closeTransitions
  have entered := closed.enterState .dormant reason
  rw [State.enterDormant_eq]
  exact prop_ite (P := CorkDown) entered entered

/-- The safety and log classes emptied (R308). -/
def State.emptyLogQueues (s : State) : State :=
  { s with q.msgs := s.q.msgs.filter (fun m => decide (1 < qClass m.queue)) }

/-- What S00's release waits for: the records and the log class drained (Table 3-7, R308). -/
def State.drainLast (s : State) : State :=
  let s := ((s.closeRefLoss).noteRestricted).endClear
  (State.drainLogs s.logCount s).emptyLogQueues

/-- A slot's enable low, and the slot on its way down. -/
def State.dropEnable (s : State) (n : Nat) : State :=
  let s := ((s.driveRail n false).set (Obj.railSlotState n) 6).disarm (.railRamp n)
  { s with rail.releasedAt := putKey s.rail.releasedAt n (s.now + 1) 0 }

/-- The wait for a slot to be off. -/
def State.awaitOff (s : State) (n : Nat) : State :=
  if s.power.state = .holdup then s.arm (.holdupStep n) (s.get Obj.railSeqHoldupStep)
  else s.arm (.railOffTime n) (10 * s.get (Obj.railSlotOffTime n))

theorem State.releaseRail_eq (s : State) (n : Nat) : s.releaseRail n =
    let t := (if n = 0 then s.drainLast else s).dropEnable n
    (if n = 0 then t.coreDown else t).awaitOff n := rfl

theorem CorkDown.emptyLogQueues (h : CorkDown s) : CorkDown s.emptyLogQueues := h

theorem CorkDown.drainLast (h : CorkDown s) : CorkDown s.drainLast := by
  unfold State.drainLast
  refine CorkDown.emptyLogQueues (CorkDown.frame (State.drainLogs_fr _ _ rfl (State.endClear_fr _ rfl (State.noteRestricted_fr _ rfl (Fr.refl _ _)))) ?_)
  exact h.closeRefLoss

theorem CorkDown.dropEnable (h : CorkDown s) (n : Nat) : CorkDown (s.dropEnable n) := h

theorem CorkDown.awaitOff (h : CorkDown s) (n : Nat) : CorkDown (s.awaitOff n) := prop_ite (P := CorkDown) h h

theorem CorkDown.releaseRail (h : CorkDown s) (n : Nat) : CorkDown (s.releaseRail n) := by
  rw [State.releaseRail_eq]
  exact CorkDown.awaitOff (prop_branch (P := CorkDown) State.coreDown CorkDown.coreDown
    (CorkDown.dropEnable (prop_branch (P := CorkDown) State.drainLast CorkDown.drainLast h) n)) n

theorem CorkDown.releaseReady (h : CorkDown s) : CorkDown s.releaseReady := by
  unfold State.releaseReady
  exact prop_foldl (P := CorkDown) h (fun _ _ _ g => g.releaseRail _)

theorem CorkDown.beginReleases (h : CorkDown s) : CorkDown s.beginReleases := by
  unfold State.beginReleases
  split
  · exact h
  · refine CorkDown.releaseReady (CorkDown.frame (State.stepReleased_fr _ rfl (State.cancelEnables_fr _ rfl
      (Fr.refl _ _))) ?_)
    exact h

/-! ### What a shutdown is followed by -/

theorem CorkDown.beginStart (h : CorkDown s) (reason : Nat) (touch limited : Bool) :
    CorkDown (s.beginStart reason touch limited) := by
  unfold State.beginStart
  refine prop_ite (P := CorkDown) h ?_
  refine CorkDown.frame (State.startDelays_fr _ rfl (State.forgetReadings_fr _ rfl (Fr.refl _ _))) ?_
  exact prop_foldl (P := CorkDown) h (fun _ _ _ g => g)

theorem CorkDown.actHeldRst (h : CorkDown s) : CorkDown s.actHeldRst := by
  unfold State.actHeldRst
  refine prop_ite (P := CorkDown) ?_ h
  rw [State.rstInDormant_eq]
  refine prop_ite (P := CorkDown) (CorkDown.beginStart ?_ _ _ _) ?_
  · exact h
  · exact h

theorem CorkDown.afterShutdown (h : CorkDown s) (d : Shutdown) : CorkDown (s.afterShutdown d) := by
  unfold State.afterShutdown
  refine prop_ite (P := CorkDown) (CorkDown.frame (State.applyReaction_fr _ _ rfl (Fr.refl _ _)) h) ?_
  have marked : CorkDown (if s.get Obj.railSeqLatchedSlot ≠ 0xFF then s.set Obj.railSeqState 8 else s) :=
    prop_ite (P := CorkDown) h h
  exact prop_ite (P := CorkDown) marked marked

theorem CorkDown.completeShutdown (h : CorkDown s) : CorkDown s.completeShutdown := by
  unfold State.completeShutdown
  split
  · exact h
  · refine prop_ite (P := CorkDown) h (CorkDown.actHeldRst (CorkDown.afterShutdown (CorkDown.enterDormant ?_ _) _))
    exact h

theorem CorkDown.goDown (h : CorkDown s) : CorkDown s.goDown := by
  have down := CorkDown.beginReleases (CorkDown.frame (State.paOff_fr s rfl (Fr.refl _ _)) h)
  unfold State.goDown
  exact prop_ite (P := CorkDown) h (prop_ite (P := CorkDown) down down.completeShutdown)

/-- The unit quiet as a timed shutdown begins: what was in hand taken effect or ended, margins back, RF off. -/
def State.quietUnit (s : State) : State :=
  (((((s.blowLifecycle).preemptCommit).endWaiting .dormant).returnMargins).endDebug true).hardMute

/-- A timed shutdown in the unit's own account. -/
def State.declareShutdown (s : State) (d : Shutdown) : State :=
  { s with rail.shutdown := some d, power.trans := some ⟨.shutdown, .dormant⟩ }

theorem State.beginShutdown_eq (s : State) (cause : ShutCause) (reason : Nat) (restart : Bool) (leadUs : Nat)
    (faults : List Nat) : s.beginShutdown cause reason restart leadUs faults =
      let lc := s.sec.lcTrans.isSome && faults.isEmpty
      let t := s.quietUnit.markShutdown.declareShutdown ⟨cause, if lc then 0x13 else reason, restart || lc, false, faults⟩
      if leadUs = 0 then t.goDown
      else ((t.cancelEnables).set Obj.railSeqState 5).arm .warnLead leadUs := by
  unfold State.beginShutdown State.declareShutdown State.quietUnit
  rfl

theorem CorkDown.quietUnit (h : CorkDown s) : CorkDown s.quietUnit := by
  unfold State.quietUnit
  exact CorkDown.frame (State.hardMute_fr _ rfl (Fr.refl _ _)) (CorkDown.endDebug (CorkDown.frame
    (State.returnMargins_fr _ rfl (Fr.refl _ _)) ((h.blowLifecycle.preemptCommit).endWaiting _)) _)

theorem CorkDown.markShutdown (h : CorkDown s) : CorkDown s.markShutdown := h

theorem CorkDown.declareShutdown (h : CorkDown s) (d : Shutdown) : CorkDown (s.declareShutdown d) := h

theorem CorkDown.beginShutdown (h : CorkDown s) (cause : ShutCause) (reason : Nat) (restart : Bool) (leadUs : Nat)
    (faults : List Nat) : CorkDown (s.beginShutdown cause reason restart leadUs faults) := by
  rw [State.beginShutdown_eq]
  refine prop_ite (P := CorkDown) (CorkDown.goDown (h.quietUnit.markShutdown.declareShutdown _)) ?_
  exact CorkDown.frame (State.arm_fr _ _ _ rfl (State.set_fr _ _ _ rfl (State.cancelEnables_fr _ rfl (Fr.refl _ _))))
    (h.quietUnit.markShutdown.declareShutdown _)

theorem CorkDown.restart (h : CorkDown s) (reason : Nat) : CorkDown (s.restart reason) := by
  unfold State.restart
  exact CorkDown.beginShutdown (CorkDown.frame (State.depart_fr _ _ rfl (Fr.refl _ _)) h) _ _ _ _ _

/-- The watchdog restarts of the last 3,600 s before this one. -/
def State.recentRestarts (s : State) : List Nat := s.wd.restarts.filter (fun t => decide (s.now ≤ t + 3600000000))

/-- A third expiry counted as a restart, before it acts. -/
def State.countRestart (s : State) (c : CoreId) : State :=
  { s with wd.restarts := s.recentRestarts ++ [s.now], wd.expiries := s.wd.expiries.filter (fun e => e.1 != c) }

theorem State.escalate_eq (s : State) (c : CoreId) : s.escalate c =
    if 2 ≤ s.recentRestarts.length then ((s.countRestart c).rollBack.set Obj.watchdogLockout 1).beginShutdown
      .lockout 0x0E false 0 []
    else (s.countRestart c).rollBack.restart 4 := rfl

theorem CorkDown.escalate (h : CorkDown s) (c : CoreId) : CorkDown (s.escalate c) := by
  have counted : CorkDown (s.countRestart c) := h
  have rolled : CorkDown (s.countRestart c).rollBack := CorkDown.frame (State.rollBack_fr _ rfl (Fr.refl _ _)) counted
  rw [State.escalate_eq]
  refine prop_ite (P := CorkDown) (CorkDown.beginShutdown ?_ _ _ _ _ _) (rolled.restart _)
  exact CorkDown.frame (State.set_fr _ _ _ rfl (Fr.refl _ _)) rolled

end

/-! ## CORE_WATCHDOG_EXPIRY of the Cork (R25, R26, R141) -/

theorem State.endDebug_sessions (s : State) (hold : Bool) : (s.endDebug hold).sec.sessions = s.sec.sessions :=
  (State.endDebug_fr s hold (F := 8198) rfl (Fr.refl _ s)).sec_sessions rfl

theorem State.dropRequests_sec (s : State) (slot : Nat) (gone : List Session) :
    (s.dropRequests slot gone).sec = s.sec :=
  (State.discardRequests_fr _ _ _ (F := maskBut [13]) rfl (State.disarm_fr _ _ rfl (State.setStage_fr _ _ _ rfl
    (Fr.refl _ s)))).sec rfl

/-- The end of a session takes that session out of the table and no other. -/
theorem State.endSession_sessions (s : State) (slot : Nat) :
    (s.endSession slot).sec.sessions = s.sec.sessions.filter (fun x => !(x.slot == slot)) := by
  have struck (gone : List Session) : (((s.dropRequests slot gone).strikeSession slot gone).stopSessionTimers
      slot).sec.sessions = s.sec.sessions.filter (fun x => !(x.slot == slot)) := by
    rw [← s.dropRequests_sec slot gone]
    rfl
  rw [State.endSession_eq]
  exact prop_branch (P := fun u => u.sec.sessions = s.sec.sessions.filter (fun x => !(x.slot == slot)))
    (fun u => u.endDebug false) (fun kept => (State.endDebug_sessions _ _).trans kept) (struck _)

/-- The sessions that stand after several slots have been ended stood before, in other slots. -/
theorem State.mem_sessions_of_ended (slots : List Nat) (s : State) {x : Session}
    (left : x ∈ (slots.foldl State.endSession s).sec.sessions) : x ∈ s.sec.sessions ∧ x.slot ∉ slots := by
  induction slots generalizing s with
  | nil => exact ⟨left, List.not_mem_nil⟩
  | cons slot slots ih =>
    obtain ⟨stood, other⟩ := ih (s.endSession slot) left
    rw [State.endSession_sessions, List.mem_filter] at stood
    obtain ⟨member, apart⟩ := stood
    refine ⟨member, fun among => ?_⟩
    rcases List.mem_cons.mp among with same | among
    · simp [same] at apart
    · exact other among

theorem State.endSessions_sessions (s : State) : s.endSessions.sec.sessions = [] := by
  refine List.eq_nil_iff_forall_not_mem.mpr fun x left => ?_
  obtain ⟨stood, apart⟩ := State.mem_sessions_of_ended _ s left
  exact apart (List.mem_map_of_mem stood)

theorem State.endSessions_net (s : State) : s.endSessions.net = s.net :=
  (State.endSessions_fr s (F := 27598854) rfl (Fr.refl _ s)).net rfl

/-- The Cork's work dropped: no receipt is in signature and none waits. -/
theorem State.dropSigning_net (s : State) (reason : Nat) :
    (s.dropSigning reason).net.signing = none ∧ (s.dropSigning reason).net.queued = [] := by
  unfold State.dropSigning
  refine prop_foldl (P := fun u => u.net.signing = none ∧ u.net.queued = []) ⟨rfl, rfl⟩ (fun u seq _ kept => ?_)
  unfold State.leaveUnsigned
  rw [State.faultRow_net]
  exact kept

theorem State.corkReset_down (s : State) : CorkDown s.corkReset := by
  obtain ⟨signing, queued⟩ := s.dropSigning_net 5
  have net := (s.dropSigning 5).endSessions_net
  exact ⟨rfl, (s.dropSigning 5).endSessions_sessions, rfl, (congrArg NetUnit.signing net).trans signing,
    (congrArg NetUnit.queued net).trans queued⟩

theorem corkWatchdogExpiry_resets {s : State} (pair : s.wd.lockstepBusy = false) (d : Nat)
    (due : s.deadline (.watchdog .cork) = some d) : Claims.Answers (.coreWatchdogExpiry .cork) s (fun t =>
      t.power.corkReady = false ∧ t.sec.sessions = [] ∧ t.sec.kwk = none ∧ t.net.signing = none ∧ t.net.queued = [] ∧
        t = (let r := (Claims.expired s (.watchdog .cork) d).noteExpiry .cork Obj.watchdogCorkExpiryCount
             if r.2 then r.1.corkReset.escalate .cork else r.1.corkReset)) := by
  have answer := corkWatchdogExpiry_answer pair d due
  generalize (Claims.expired s (.watchdog .cork) d).noteExpiry .cork Obj.watchdogCorkExpiryCount = r at answer ⊢
  obtain ⟨corkReady, sessions, kwk, signing, queued⟩ : CorkDown (if r.2 = true then r.1.corkReset.escalate .cork
    else r.1.corkReset) := prop_ite (P := CorkDown) (r.1.corkReset_down.escalate _) r.1.corkReset_down
  exact ⟨_, answer, corkReady, sessions, kwk, signing, queued, rfl⟩

/-- Settles O11: a clause per command; what a Cork reset ends stays ended through the restart that may follow it. -/
theorem stretchWatchdogsAndLockstep : Obligations.StretchWatchdogsAndLockstep :=
  ⟨fun _ => ⟨droopStretch_stretches, stretchRelease_answer, stretchLong_mutes, agingTrim_answer⟩,
    fun _ pair => ⟨pressWatchdogExpiry_answer pair, vintnerWatchdogExpiry_answer pair, corkWatchdogExpiry_resets pair,
      lockstepMismatch_stops pair⟩,
    fun _ => ⟨lockstepRecovery_resumes, supervision_waits⟩⟩

end Sys2Proof.Machine

namespace Sys2Proof.Machine

open Sys2Proof

/-! ## The fields of a byte string -/

@[simp] theorem leBytes_length (k n : Nat) : (leBytes k n).length = k := by
  induction k generalizing n with
  | zero => rfl
  | succ k ih => rw [leBytes, List.length_cons, ih]

/-- Bytes spell the number that they are given, cut to their size (R5). -/
theorem leNat_leBytes (k n : Nat) : leNat (leBytes k n) = n % 256 ^ k := by
  induction k generalizing n with
  | zero => exact (Nat.mod_one n).symm
  | succ k ih =>
    have hlow : (byteOf (n % 256)).toNat = n % 256 := Nat.mod_eq_of_lt (Nat.mod_lt n (by decide))
    calc leNat (leBytes (k + 1) n) = n % 256 + 256 * (n / 256 % 256 ^ k) := by rw [leBytes, leNat, hlow, ih]
      _ = n % 256 ^ (k + 1) := by rw [Nat.pow_succ', Nat.mod_mul]

/-- A slice that stands whole in its string. -/
theorem sliceBytes_middle (a b c : Bytes) : sliceBytes (a ++ b ++ c) a.length b.length = b := by
  have hpart : ((a ++ b ++ c).drop a.length).take b.length = b := by
    rw [List.append_assoc, List.drop_left, List.take_left]
  rw [sliceBytes, hpart, Nat.sub_self]
  exact List.append_nil b

theorem fieldAt_zero_one (b : Byte) (bs : Bytes) : fieldAt (b :: bs) 0 1 = b.toNat := by
  simp [fieldAt, sliceBytes, leNat]

theorem fieldAt_succ (b : Byte) (bs : Bytes) (i k : Nat) : fieldAt (b :: bs) (i + 1) k = fieldAt bs i k := rfl

theorem byteOf_toNat {n : Nat} (h : n < 256) : (byteOf n).toNat = n := Nat.mod_eq_of_lt h

/-- The number that a field holds within a longer string. -/
theorem fieldAt_leBytes (a c : Bytes) (k v : Nat) (h : v < 256 ^ k) : fieldAt (a ++ leBytes k v ++ c) a.length k = v := by
  have hs := sliceBytes_middle a (leBytes k v) c
  rw [leBytes_length] at hs
  rw [fieldAt, hs, leNat_leBytes, Nat.mod_eq_of_lt h]

/-! ## The identifier and the control byte of a request's frames (Tables 6-3 and 6-6) -/

section

variable {prio svc src dst : Nat}

theorem mkIdent_toNat (hp : prio < 8) (hs : svc < 16) (hsrc : src < 512) (hd : dst < 512) :
    (mkIdent prio false svc src dst).toNat = prio * 2 ^ 26 + svc * 2 ^ 20 + src * 2 ^ 11 + dst * 4 := by
  rw [mkIdent, BitVec.toNat_ofNat, if_neg (by decide), Nat.mod_eq_of_lt] <;> omega

theorem framePrio_mkIdent (hp : prio < 8) (hs : svc < 16) (hsrc : src < 512) (hd : dst < 512) :
    framePrio (mkIdent prio false svc src dst) = prio := by
  rw [framePrio, mkIdent_toNat hp hs hsrc hd]
  omega

theorem frameFunc_mkIdent (hp : prio < 8) (hs : svc < 16) (hsrc : src < 512) (hd : dst < 512) :
    frameFunc (mkIdent prio false svc src dst) = svc := by
  rw [frameFunc, mkIdent_toNat hp hs hsrc hd]
  omega

theorem frameSvc_mkIdent (hp : prio < 8) (hs : svc < 16) (hsrc : src < 512) (hd : dst < 512) :
    frameSvc (mkIdent prio false svc src dst) = svc := by
  rw [frameSvc, frameFunc_mkIdent hp hs hsrc hd]
  omega

theorem frameSrc_mkIdent (hp : prio < 8) (hs : svc < 16) (hsrc : src < 512) (hd : dst < 512) :
    frameSrc (mkIdent prio false svc src dst) = src := by
  rw [frameSrc, mkIdent_toNat hp hs hsrc hd]
  omega

theorem frameDst_mkIdent (hp : prio < 8) (hs : svc < 16) (hsrc : src < 512) (hd : dst < 512) :
    frameDst (mkIdent prio false svc src dst) = dst := by
  rw [frameDst, mkIdent_toNat hp hs hsrc hd]
  omega

theorem mkIdent_low (hp : prio < 8) (hs : svc < 16) (hsrc : src < 512) (hd : dst < 512) :
    (mkIdent prio false svc src dst).toNat % 4 = 0 := by
  rw [mkIdent_toNat hp hs hsrc hd]
  omega

theorem frameBcast_mkIdent (hp : prio < 8) (hs : svc < 16) (hsrc : src < 512) (hd : dst < 512) :
    frameBcast (mkIdent prio false svc src dst) = false := by
  rw [frameBcast, mkIdent_toNat hp hs hsrc hd, Nat.testBit_eq_decide_div_mod_eq, decide_eq_false_iff_not]
  omega

end

/-- The control byte of frame `i` of `n` (Table 6-6). -/
def requestControl (n i : Nat) (prot : Bool) : Nat :=
  (if i = 0 then 0x80 else 0) + (if i + 1 = n then 0x40 else 0) + (if prot then 0x20 else 0) + i

theorem requestControl_fields (n i : Nat) (prot : Bool) (h : i < 16) :
    requestControl n i prot < 256 ∧ requestControl n i prot % 16 = i ∧
    (requestControl n i prot).testBit 7 = decide (i = 0) ∧ (requestControl n i prot).testBit 6 = decide (i + 1 = n) ∧
    (requestControl n i prot).testBit 5 = prot := by
  have key : ∀ (last prot : Bool) (i : Fin 16), (fun c : Nat => c < 256 ∧ c % 16 = i.val ∧
      c.testBit 7 = decide (i.val = 0) ∧ c.testBit 6 = last ∧ c.testBit 5 = prot)
      ((if i.val = 0 then 0x80 else 0) + (if last then 0x40 else 0) + (if prot then 0x20 else 0) + i.val) := by decide
  have hk := key (decide (i + 1 = n)) prot ⟨i, h⟩
  simp only [decide_eq_true_eq] at hk
  exact hk

/-! ## The frames of a request (R211 to R213) -/

/-- The service bytes of frame `i` of a message. -/
def messagePart (msg : Bytes) (i : Nat) : Bytes := (msg.drop (60 * i)).take 60

theorem messagePart_length_le (msg : Bytes) (i : Nat) : (messagePart msg i).length ≤ 60 := List.length_take_le ..

theorem take_append_messagePart (msg : Bytes) (i : Nat) :
    msg.take (60 * i) ++ messagePart msg i = msg.take (60 * (i + 1)) := by
  rw [messagePart, Nat.mul_succ, List.take_add]

/-- Frame `i` of the `n` of a request as a port receives it, HopCount `aux` in its header. -/
def requestFrame (ident : BitVec 29) (tid : Nat) (prot : Bool) (aux : Nat) (msg : Bytes) (n i : Nat) : CanFrame :=
  let part := messagePart msg i
  ⟨ident, true, true, false, true, false, false,
    byteOf tid :: byteOf (requestControl n i prot) :: byteOf aux :: byteOf part.length :: (part
      ++ List.replicate (dlcLength (part.length + 4) - (part.length + 4)) 0x00#8)⟩

theorem groupFrames_eq (ident : BitVec 29) (tid : Nat) (prot : Bool) (aux : Nat) (msg : Bytes) (h : msg.length ≤ 960) :
    (groupFrames ident tid prot false msg).map (fun f => { f with data := f.data.set 2 (byteOf aux) }) =
      (List.range (framesOf msg.length)).map (requestFrame ident tid prot aux msg (framesOf msg.length)) := by
  have hn : max 1 (min 16 ((msg.length + 59) / 60)) = framesOf msg.length := by
    rw [framesOf, min_eq_right (by omega)]
  rw [groupFrames]
  simp only [hn, List.map_map]
  exact List.map_congr_left fun i _ => rfl

theorem framesOf_le {n : Nat} (h : n ≤ 960) : framesOf n ≤ 16 := by
  rw [framesOf]
  omega

theorem framesOf_pos (n : Nat) : 0 < framesOf n := by
  rw [framesOf]
  omega

theorem length_le_framesOf (n : Nat) : n ≤ 60 * framesOf n := by
  rw [framesOf]
  omega

section

variable (ident : BitVec 29) (tid : Nat) (prot : Bool) (aux : Nat) (msg : Bytes) (n i : Nat)

theorem frameByte_tid (ht : tid < 256) : frameByte (requestFrame ident tid prot aux msg n i) 0 = tid :=
  (fieldAt_zero_one _ _).trans (byteOf_toNat ht)

theorem frameByte_control (hi : i < 16) :
    frameByte (requestFrame ident tid prot aux msg n i) 1 = requestControl n i prot :=
  (fieldAt_zero_one _ _).trans (byteOf_toNat (requestControl_fields n i prot hi).1)

theorem frameByte_hop (ha : aux < 256) : frameByte (requestFrame ident tid prot aux msg n i) 2 = aux :=
  (fieldAt_zero_one _ _).trans (byteOf_toNat ha)

theorem frameByte_length : frameByte (requestFrame ident tid prot aux msg n i) 3 = (messagePart msg i).length :=
  (fieldAt_zero_one _ _).trans (byteOf_toNat (Nat.lt_of_le_of_lt (messagePart_length_le msg i) (by decide)))

theorem frameBytes_request : frameBytes (requestFrame ident tid prot aux msg n i) = messagePart msg i := by
  rw [frameBytes, frameByte_length]
  exact sliceBytes_middle [_, _, _, _] (messagePart msg i) _

theorem frameLengthOk_request : frameLengthOk (requestFrame ident tid prot aux msg n i) = true := by
  rw [frameLengthOk, frameByte_length, decide_eq_true_eq]
  refine ⟨messagePart_length_le msg i, ?_⟩
  simp only [requestFrame, List.length_cons, List.length_append]
  omega

theorem frameFirst_request (hi : i < 16) :
    frameFirst (requestFrame ident tid prot aux msg n i) = decide (i = 0) := by
  rw [frameFirst, frameByte_control ident tid prot aux msg n i hi, (requestControl_fields n i prot hi).2.2.1]

theorem four_le_length_request : ¬ (requestFrame ident tid prot aux msg n i).data.length < 4 := by
  simp only [requestFrame, List.length_cons]
  omega

end

end Sys2Proof.Machine

namespace Sys2Proof.Machine

open Sys2Proof

/-! ## A counter raised twice (R151) -/

theorem dropKey_insertKey (l : List (Nat × Nat)) (k v : Nat) : dropKey (insertKey l k v) k = dropKey l k := by
  induction l with
  | nil => simp [insertKey, dropKey]
  | cons x xs ih =>
    rw [insertKey]
    split
    · simp [dropKey]
    · by_cases hx : x.1 = k
      · simpa [dropKey, hx] using ih
      · simpa [dropKey, hx] using ih

theorem dropKey_putKey (l : List (Nat × Nat)) (k v d : Nat) : dropKey (putKey l k v d) k = dropKey l k := by
  have hd : dropKey (dropKey l k) k = dropKey l k := by simp [dropKey, List.filter_filter]
  rw [putKey]
  split
  · exact hd
  · rw [dropKey_insertKey, hd]

theorem putKey_putKey (l : List (Nat × Nat)) (k v w d : Nat) : putKey (putKey l k v d) k w d = putKey l k w d := by
  show (if w = d then dropKey (putKey l k v d) k else insertKey (dropKey (putKey l k v d) k) k w) = _
  rw [dropKey_putKey]
  rfl

theorem State.set_set (s : State) (k v w : Nat) : (s.set k v).set k w = s.set k w := by
  simp only [State.set, putKey_putKey]

theorem State.bump_bump (s : State) (k m n : Nat) : (s.bump k m).bump k n = s.bump k (m + n) := by
  have hv : satBytes (objSize k) (satBytes (objSize k) (s.get k + m) + n) = satBytes (objSize k) (s.get k + (m + n)) := by
    simp only [satBytes]
    omega
  rw [State.bump, State.get_bump_self, hv, State.bump, State.set_set, State.bump]

/-! ## A port that takes the frames of a unicast request (R211, R234, R238, R239) -/

/-- A frame that carries part of a unicast request. -/
structure CarriesRequest (f : CanFrame) : Prop where
  fd : f.res = false ∧ f.extended = true ∧ f.fd = true ∧ f.remote = false
  low : f.ident.toNat % 4 = 0
  unicast : frameBcast f.ident = false
  service : frameFunc f.ident < 7 ∨ frameFunc f.ident = 12
  prio : prioOk (frameSvc f.ident) (framePrio f.ident) = true
  long : ¬ f.data.length < 4

/-- A state in which a port takes a frame as one for this unit alone. -/
structure State.Admits (s : State) (p : Port) (f : CanFrame) : Prop where
  up : s.portUp p = true
  serves : s.vintServes = true
  assigned : s.unassigned = false
  foreign : frameSrc f.ident ≠ s.field.effective
  own : frameDst f.ident = s.field.effective
  stays : s.forwards p f = false

theorem State.portUp_bump (s : State) (p : Port) (n : Nat) : (s.bump (Obj.portRxFrames (portNum p)) n).portUp p = s.portUp p := by
  have h : (s.bump (Obj.portRxFrames (portNum p)) n).portState p = s.portState p :=
    s.get_bump_ne _ _ _ (by cases p <;> decide)
  simp only [State.portUp, h]
  rfl

theorem State.bridges_bump (s : State) (p : Port) (n : Nat) : (s.bump (Obj.portRxFrames (portNum p)) n).bridges = s.bridges := by
  simp only [State.bridges, State.get_bump_ne s (Obj.portRxFrames (portNum p)) Obj.bridgeEnable n (by cases p <;> decide),
    State.get_bump_ne s (Obj.portRxFrames (portNum p)) Obj.bridgeFollowTwin n (by cases p <;> decide),
    State.get_bump_ne s (Obj.portRxFrames (portNum p)) Obj.twinRole n (by cases p <;> decide), State.bump_power, State.bump_twin]

theorem State.forwards_bump (s : State) (p : Port) (n : Nat) (f : CanFrame) :
    (s.bump (Obj.portRxFrames (portNum p)) n).forwards p f = s.forwards p f := by
  simp only [State.forwards, State.bridges_bump, State.routeCode, State.bump_field,
    State.get_bump_ne s (Obj.portRxFrames (portNum p)) Obj.bridgeRoute n (by cases p <;> decide),
    State.get_bump_ne s (Obj.portRxFrames (portNum p)) Obj.bridgeBroadcastForward n (by cases p <;> decide)]

section

variable {s : State} {p : Port} {f : CanFrame}

theorem State.Admits.bump (h : s.Admits p f) (n : Nat) : (s.bump (Obj.portRxFrames (portNum p)) n).Admits p f :=
  ⟨(s.portUp_bump p n).trans h.up, h.serves, h.assigned, h.foreign, h.own, (s.forwards_bump p n f).trans h.stays⟩

theorem frameRequest_of (hf : CarriesRequest f) : frameRequest f.ident = true := by
  have := hf.service
  simp only [frameRequest, Bool.and_eq_true, decide_eq_true_eq, bne_iff_ne, ne_eq]
  omega

/-- Such a frame is counted and assembled. -/
theorem State.receiveFrame_of_request (hf : CarriesRequest f) (h : s.Admits p f) :
    s.receiveFrame p f = (s.bump (Obj.portRxFrames (portNum p)) 1).assemble p f := by
  obtain ⟨hres, hext, hfd, hrem⟩ := hf.fd
  have hb := h.bump 1
  have hsvc := hf.service
  have h13 : ¬ 13 ≤ frameSvc f.ident := by rw [frameSvc]; omega
  have hlocal : (s.bump (Obj.portRxFrames (portNum p)) 1).isLocal f = true := by
    simp only [State.isLocal, hb.assigned, hb.own, beq_self_eq_true, Bool.not_false, Bool.true_and, Bool.or_true, Bool.true_or]
  have hto : (s.bump (Obj.portRxFrames (portNum p)) 1).localFrame p f =
      (s.bump (Obj.portRxFrames (portNum p)) 1).assemble p f := by
    rw [State.localFrame, if_neg (by omega), hb.assigned, if_neg (by simp)]
  simp only [State.receiveFrame, h.up, h.serves, hres, hext, hfd, hrem, hf.low, hb.assigned, hb.stays, hlocal, hf.unicast,
    h13, hf.long, hf.prio, frameRequest_of hf]
  simpa [h.foreign] using hto

end

/-! ## A group in reassembly (R215, R216, R286, R710) -/

/-- A state in which a group is in reassembly besides, its timer running. -/
def State.gathering (s : State) (g : Reasm) (us : Nat) : State :=
  ({ s with field.reasm := s.field.reasm ++ [g] }).arm (.reassembly g.port (frameSrc g.ident)) us

section

variable {s : State} {g : Reasm}

theorem State.groupFrom_ne (hn : s.groupFrom (frameSrc g.ident) = none) {x : Reasm} (hx : x ∈ s.field.reasm) :
    frameSrc x.ident ≠ frameSrc g.ident := fun e =>
  absurd (beq_iff_eq.mpr e) (List.find?_eq_none.mp hn x hx)

theorem State.groupFrom_gathering (us : Nat) (hn : s.groupFrom (frameSrc g.ident) = none) :
    (s.gathering g us).groupFrom (frameSrc g.ident) = some g := by
  show List.find? _ (s.field.reasm ++ [g]) = _
  rw [List.find?_append, show s.field.reasm.find? _ = none from hn]
  simp

theorem State.dropGroup_gathering (us : Nat) (hn : s.groupFrom (frameSrc g.ident) = none)
    (ht : s.deadline (.reassembly g.port (frameSrc g.ident)) = none) : (s.gathering g us).dropGroup g = s := by
  have hr : (s.field.reasm ++ [g]).filter (fun x => frameSrc x.ident != frameSrc g.ident) = s.field.reasm := by
    rw [List.filter_append, List.filter_eq_self.mpr fun x hx => bne_iff_ne.mpr (State.groupFrom_ne hn hx)]
    simp
  have hold : s.timers.filter (fun t => !(t.1 == TimerId.reassembly g.port (frameSrc g.ident))) = s.timers := by
    refine List.filter_eq_self.mpr fun t hm => ?_
    have hf : s.timers.find? (fun t => t.1 == TimerId.reassembly g.port (frameSrc g.ident)) = none := by
      rw [State.deadline] at ht
      split at ht
      · cases ht
      · assumption
    simpa using List.find?_eq_none.mp hf t hm
  have htm : (s.timers.filter (fun t => !(t.1 == TimerId.reassembly g.port (frameSrc g.ident)))
      ++ [(TimerId.reassembly g.port (frameSrc g.ident), s.now + us)]).filter
        (fun t => !(t.1 == TimerId.reassembly g.port (frameSrc g.ident))) = s.timers := by
    rw [hold, List.filter_append, hold]
    simp
  show ({ s with
    field := { s.field with reasm := (s.field.reasm ++ [g]).filter (fun x => frameSrc x.ident != frameSrc g.ident) }
    timers := (s.timers.filter (fun t => !(t.1 == TimerId.reassembly g.port (frameSrc g.ident)))
      ++ [(TimerId.reassembly g.port (frameSrc g.ident), s.now + us)]).filter
        (fun t => !(t.1 == TimerId.reassembly g.port (frameSrc g.ident))) } : State) = s
  rw [hr, htm]

theorem State.credits_gathering (us : Nat) : (s.gathering g us).credits g.queue = s.credits g.queue - g.credits := by
  have h : (s.gathering g us).occupied g.queue = s.occupied g.queue + g.credits := by
    simp only [State.occupied, State.gathering, State.arm, List.foldl_append, List.foldl_cons, List.foldl_nil, if_true]
    omega
  rw [State.credits, h, State.credits]
  omega

/-- The group itself replaced. -/
theorem State.gathering_replace (us : Nat) (h : Reasm) (hp : h.port = g.port) (hi : h.ident = g.ident)
    (hn : s.groupFrom (frameSrc g.ident) = none) :
    { s.gathering g us with field.reasm := (s.gathering g us).field.reasm.map (fun x => if x == g then h else x) } =
      s.gathering h us := by
  have hr : (s.field.reasm ++ [g]).map (fun x => if x == g then h else x) = s.field.reasm ++ [h] := by
    rw [List.map_append]
    congr 1
    · refine (List.map_congr_left fun x hx => if_neg ?_).trans (List.map_id _)
      exact fun e => State.groupFrom_ne hn hx (congrArg (fun y => frameSrc y.ident) (beq_iff_eq.mp e))
    · simp
  show { s.gathering g us with field.reasm := (s.field.reasm ++ [g]).map (fun x => if x == g then h else x) } = _
  rw [hr, State.gathering, State.gathering, hp, hi]
  rfl

end

end Sys2Proof.Machine

namespace Sys2Proof.Machine

open Sys2Proof

/-! ## A request received whole (R211 to R218, R286, R287) -/

/-- The group of a request when `j` of its frames have come. -/
def requestGroup (p : Port) (ident : BitVec 29) (tid : Nat) (prot : Bool) (aux : Nat) (msg : Bytes) (n q j : Nat) : Reasm :=
  ⟨p, ident, tid, j, prot, aux, msg.take (60 * j),
    ((List.range j).map (requestFrame ident tid prot aux msg n)).flatMap rawOf, q, j⟩

section

variable {s : State} {p : Port} {ident : BitVec 29} {tid : Nat} {prot : Bool} {aux : Nat} {msg : Bytes} {n i : Nat}

/-- The frame after the bytes that a group holds. -/
theorem requestGroup_append (q : Nat) : (requestGroup p ident tid prot aux msg n q i).body
      ++ frameBytes (requestFrame ident tid prot aux msg n i) = msg.take (60 * (i + 1)) ∧
    (requestGroup p ident tid prot aux msg n q i).raw ++ rawOf (requestFrame ident tid prot aux msg n i) =
      ((List.range (i + 1)).map (requestFrame ident tid prot aux msg n)).flatMap rawOf := by
  refine ⟨?_, ?_⟩
  · rw [frameBytes_request]
    exact take_append_messagePart msg i
  · simp [requestGroup, List.range_succ]

section

variable (htid : tid < 256)
include htid

/-- The first frame, when it is the last as well. -/
theorem State.firstFrame_whole (haux : aux < 256) (hc : 0 < s.credits (intakeQueue (portVia p) (frameSvc ident))) :
    s.firstFrame p (requestFrame ident tid prot aux msg 1 0) =
      s.takeGroup p ident tid aux prot (msg.take 60) (rawOf (requestFrame ident tid prot aux msg 1 0)) := by
  obtain ⟨-, hseq, -, hlast, hprot⟩ := requestControl_fields 1 0 prot (by decide)
  have hid : (requestFrame ident tid prot aux msg 1 0).ident = ident := rfl
  have hb : frameBytes (requestFrame ident tid prot aux msg 1 0) = msg.take 60 := frameBytes_request ..
  simp only [State.firstFrame, frameByte_control _ _ _ _ _ _ _ (by decide : 0 < 16), hseq, frameLengthOk_request, hlast,
    hprot, frameByte_tid _ _ _ _ _ _ _ htid, frameByte_hop _ _ _ _ _ _ _ haux, hid, hb]
  simp [Nat.not_lt.mpr hc]

/-- The first frame of several. -/
theorem State.firstFrame_part (haux : aux < 256) (hn : 1 < n) (hc : 0 < s.credits (intakeQueue (portVia p) (frameSvc ident))) :
    s.firstFrame p (requestFrame ident tid prot aux msg n 0) =
      s.gathering (requestGroup p ident tid prot aux msg n (intakeQueue (portVia p) (frameSvc ident)) 1)
        (1000 * s.get Obj.fieldReassemblyTimeout) := by
  obtain ⟨-, hseq, -, hlast, hprot⟩ := requestControl_fields n 0 prot (by decide)
  have hl : decide (0 + 1 = n) = false := by simp; omega
  have hid : (requestFrame ident tid prot aux msg n 0).ident = ident := rfl
  have hb : frameBytes (requestFrame ident tid prot aux msg n 0) = msg.take 60 := frameBytes_request ..
  simp only [State.firstFrame, frameByte_control _ _ _ _ _ _ _ (by decide : 0 < 16), hseq, frameLengthOk_request, hlast,
    hl, hprot, frameByte_tid _ _ _ _ _ _ _ htid, frameByte_hop _ _ _ _ _ _ _ haux, hid, hb]
  simp [Nat.not_lt.mpr hc, requestGroup, State.gathering]

/-- What a frame after the first meets: the group goes on, or is whole. -/
theorem State.nextFrame_request (q us : Nat) (hi : i < 16) (hn : s.groupFrom (frameSrc ident) = none)
    (ht : s.deadline (.reassembly p (frameSrc ident)) = none) (hc : i < s.credits q) :
    (s.gathering (requestGroup p ident tid prot aux msg n q i) us).nextFrame (requestGroup p ident tid prot aux msg n q i)
        (requestFrame ident tid prot aux msg n i) =
      if i + 1 = n then s.takeGroup p ident tid aux prot (msg.take (60 * n))
        (((List.range n).map (requestFrame ident tid prot aux msg n)).flatMap rawOf)
      else s.gathering (requestGroup p ident tid prot aux msg n q (i + 1)) us := by
  obtain ⟨-, hseq, -, hlast, -⟩ := requestControl_fields n i prot hi
  obtain ⟨hbody, hraw⟩ := requestGroup_append (p := p) (ident := ident) (tid := tid) (prot := prot) (aux := aux) (msg := msg)
    (n := n) (i := i) q
  have hcr := State.credits_gathering (s := s) (g := requestGroup p ident tid prot aux msg n q i) us
  have hdrop := State.dropGroup_gathering (s := s) (g := requestGroup p ident tid prot aux msg n q i) us hn ht
  have hrep := State.gathering_replace (s := s) (g := requestGroup p ident tid prot aux msg n q i) us
    (requestGroup p ident tid prot aux msg n q (i + 1)) rfl rfl hn
  have hfree : ¬ (s.gathering (requestGroup p ident tid prot aux msg n q i) us).credits
      (requestGroup p ident tid prot aux msg n q i).queue < 1 := by
    rw [hcr]
    simp only [requestGroup]
    omega
  have hnext : ¬ ((requestFrame ident tid prot aux msg n i).ident ≠ (requestGroup p ident tid prot aux msg n q i).ident ∨
      frameByte (requestFrame ident tid prot aux msg n i) 0 ≠ (requestGroup p ident tid prot aux msg n q i).tid ∨
      frameByte (requestFrame ident tid prot aux msg n i) 1 % 16 ≠ (requestGroup p ident tid prot aux msg n q i).next) := by
    rw [frameByte_tid _ _ _ _ _ _ _ htid, frameByte_control _ _ _ _ _ _ _ hi, hseq]
    simp [requestGroup, requestFrame]
  rw [State.nextFrame, if_neg hnext, if_neg (by simp [frameLengthOk_request]), if_neg hfree,
    frameByte_control _ _ _ _ _ _ _ hi, hlast, hbody, hraw, hdrop]
  by_cases he : i + 1 = n
  · rw [if_pos he, if_pos (decide_eq_true he), he]
    rfl
  · rw [if_neg he, if_neg (by simpa using he)]
    exact hrep

end

/-- A frame of the group that is in reassembly, as its port receives it. -/
theorem State.receiveFrame_gathering (q us j : Nat) (htid : tid < 256) (hi : i < 16) (hi0 : i ≠ 0)
    (hf : CarriesRequest (requestFrame ident tid prot aux msg n i)) (ha : s.Admits p (requestFrame ident tid prot aux msg n i))
    (hn : s.groupFrom (frameSrc ident) = none) (ht : s.deadline (.reassembly p (frameSrc ident)) = none) (hc : i < s.credits q) :
    ((s.bump (Obj.portRxFrames (portNum p)) j).gathering (requestGroup p ident tid prot aux msg n q i) us).receiveFrame p
        (requestFrame ident tid prot aux msg n i) =
      if i + 1 = n then (s.bump (Obj.portRxFrames (portNum p)) (j + 1)).takeGroup p ident tid aux prot (msg.take (60 * n))
        (((List.range n).map (requestFrame ident tid prot aux msg n)).flatMap rawOf)
      else (s.bump (Obj.portRxFrames (portNum p)) (j + 1)).gathering (requestGroup p ident tid prot aux msg n q (i + 1)) us := by
  have hb := ha.bump j
  have hg : ((s.bump (Obj.portRxFrames (portNum p)) j).gathering (requestGroup p ident tid prot aux msg n q i) us).Admits p
      (requestFrame ident tid prot aux msg n i) := ⟨hb.up, hb.serves, hb.assigned, hb.foreign, hb.own, hb.stays⟩
  have hcount : ((s.bump (Obj.portRxFrames (portNum p)) j).gathering (requestGroup p ident tid prot aux msg n q i) us).bump
      (Obj.portRxFrames (portNum p)) 1 = ((s.bump (Obj.portRxFrames (portNum p)) j).bump (Obj.portRxFrames (portNum p)) 1).gathering
        (requestGroup p ident tid prot aux msg n q i) us := rfl
  have hfound := State.groupFrom_gathering (s := s.bump (Obj.portRxFrames (portNum p)) (j + 1))
    (g := requestGroup p ident tid prot aux msg n q i) us hn
  have hlater : frameFirst (requestFrame ident tid prot aux msg n i) = false := by
    rw [frameFirst_request _ _ _ _ _ _ _ hi]
    exact decide_eq_false hi0
  rw [State.receiveFrame_of_request hf hg, hcount, State.bump_bump, State.assemble,
    show frameSrc (requestFrame ident tid prot aux msg n i).ident = frameSrc ident from rfl, hlater]
  rw [show ((s.bump (Obj.portRxFrames (portNum p)) (j + 1)).gathering (requestGroup p ident tid prot aux msg n q i) us).groupFrom
    (frameSrc ident) = some (requestGroup p ident tid prot aux msg n q i) from hfound]
  exact State.nextFrame_request htid q us hi hn ht hc

/-- The first frame, as its port receives it. -/
theorem State.receiveFrame_first (hn : s.groupFrom (frameSrc ident) = none)
    (hf : CarriesRequest (requestFrame ident tid prot aux msg n 0)) (ha : s.Admits p (requestFrame ident tid prot aux msg n 0)) :
    s.receiveFrame p (requestFrame ident tid prot aux msg n 0) =
      (s.bump (Obj.portRxFrames (portNum p)) 1).firstFrame p (requestFrame ident tid prot aux msg n 0) := by
  have hfirst : frameFirst (requestFrame ident tid prot aux msg n 0) = true := frameFirst_request _ _ _ _ _ _ _ (by decide)
  rw [State.receiveFrame_of_request hf ha, State.assemble,
    show frameSrc (requestFrame ident tid prot aux msg n 0).ident = frameSrc ident from rfl, hfirst]
  rw [show (s.bump (Obj.portRxFrames (portNum p)) 1).groupFrom (frameSrc ident) = none from hn]

theorem State.receiveAll_range_succ (s : State) (p : Port) (frame : Nat → CanFrame) (j : Nat) :
    s.receiveAll p ((List.range (j + 1)).map frame) = (s.receiveAll p ((List.range j).map frame)).receiveFrame p (frame j) := by
  rw [State.receiveAll, List.range_succ, List.map_append, List.foldl_append]
  rfl

/-- A message of at most 960 bytes whose frames a port takes one after another is taken as a whole group. -/
theorem State.receiveAll_request (htid : tid < 256) (haux : aux < 256) (hlen : msg.length ≤ 960)
    (hf : ∀ i, CarriesRequest (requestFrame ident tid prot aux msg (framesOf msg.length) i))
    (ha : ∀ i < framesOf msg.length, s.Admits p (requestFrame ident tid prot aux msg (framesOf msg.length) i))
    (hn : s.groupFrom (frameSrc ident) = none) (ht : s.deadline (.reassembly p (frameSrc ident)) = none)
    (hc : framesOf msg.length ≤ s.credits (intakeQueue (portVia p) (frameSvc ident))) :
    s.receiveAll p ((List.range (framesOf msg.length)).map (requestFrame ident tid prot aux msg (framesOf msg.length))) =
      (s.bump (Obj.portRxFrames (portNum p)) (framesOf msg.length)).takeGroup p ident tid aux prot msg
        (((List.range (framesOf msg.length)).map (requestFrame ident tid prot aux msg (framesOf msg.length))).flatMap rawOf) := by
  have hwhole : msg.take (60 * framesOf msg.length) = msg := List.take_of_length_le (length_le_framesOf _)
  have h16 := framesOf_le hlen
  have h0 := framesOf_pos msg.length
  generalize hm : framesOf msg.length = m at *
  have key : ∀ j, 1 ≤ j → j < m →
      s.receiveAll p ((List.range j).map (requestFrame ident tid prot aux msg m)) =
        (s.bump (Obj.portRxFrames (portNum p)) j).gathering
          (requestGroup p ident tid prot aux msg m (intakeQueue (portVia p) (frameSvc ident)) j)
          (1000 * (s.bump (Obj.portRxFrames (portNum p)) 1).get Obj.fieldReassemblyTimeout) := by
    intro j hj hjm
    induction j, hj using Nat.le_induction with
    | base =>
      exact (State.receiveFrame_first hn (hf 0) (ha 0 h0)).trans
        (State.firstFrame_part (s := s.bump (Obj.portRxFrames (portNum p)) 1) htid haux hjm (Nat.lt_of_lt_of_le h0 hc))
    | succ j hj ih =>
      rw [State.receiveAll_range_succ, ih (by omega)]
      exact (State.receiveFrame_gathering _ _ j htid (by omega) (by omega) (hf j) (ha j (by omega)) hn ht (by omega)).trans
        (if_neg (by omega))
  by_cases h1 : m = 1
  · subst h1
    rw [← hwhole]
    have hw := (State.receiveFrame_first hn (hf 0) (ha 0 h0)).trans
      (State.firstFrame_whole (s := s.bump (Obj.portRxFrames (portNum p)) 1) htid haux hc)
    simpa [State.receiveAll, hwhole] using hw
  · obtain ⟨j, hj, rfl⟩ : ∃ j, 1 ≤ j ∧ m = j + 1 := ⟨m - 1, by omega, by omega⟩
    have hlast := (State.receiveFrame_gathering (intakeQueue (portVia p) (frameSvc ident))
      (1000 * (s.bump (Obj.portRxFrames (portNum p)) 1).get Obj.fieldReassemblyTimeout) j htid (by omega) (by omega)
      (hf j) (ha j (by omega)) hn ht (by omega)).trans (if_pos rfl)
    rw [hwhole] at hlast
    rw [State.receiveAll_range_succ, key j hj (by omega)]
    exact hlast

end

end Sys2Proof.Machine

namespace Sys2Proof.Machine

open Sys2Proof

/-! ## The trailer of a protected request (Table 4-7) -/

section

variable {r : ReqCtx} {t : Trailer} (body : Bytes) (h : r.trailer = some t)
include h

theorem reqMessage_eq : reqMessage r body = body ++ leBytes 2 t.sid.toNat ++ leBytes 4 t.counter.toNat ++ leBytes 8 t.tag.toNat := by
  rw [reqMessage, h]

theorem reqMessage_length : (reqMessage r body).length = body.length + 14 := by
  rw [reqMessage_eq body h]
  simp

theorem take_reqMessage : (reqMessage r body).take ((reqMessage r body).length - 14) = body := by
  rw [reqMessage_length body h, Nat.add_sub_cancel, reqMessage_eq body h, List.append_assoc, List.append_assoc]
  exact List.take_left

theorem fieldAt_reqMessage_sid : fieldAt (reqMessage r body) body.length 2 = t.sid.toNat := by
  rw [reqMessage_eq body h, List.append_assoc _ (leBytes 4 _)]
  exact fieldAt_leBytes body _ 2 _ t.sid.isLt

theorem fieldAt_reqMessage_counter : fieldAt (reqMessage r body) (body.length + 2) 4 = t.counter.toNat := by
  rw [reqMessage_eq body h]
  have hc := fieldAt_leBytes (body ++ leBytes 2 t.sid.toNat) (leBytes 8 t.tag.toNat) 4 _ t.counter.isLt
  rwa [List.length_append, leBytes_length] at hc

theorem fieldAt_reqMessage_tag : fieldAt (reqMessage r body) (body.length + 6) 8 = t.tag.toNat := by
  rw [reqMessage_eq body h]
  have hc := fieldAt_leBytes (body ++ leBytes 2 t.sid.toNat ++ leBytes 4 t.counter.toNat) [] 8 _ t.tag.isLt
  rwa [List.length_append, List.length_append, leBytes_length, leBytes_length, List.append_nil] at hc

end

/-- The SessionId that a whole group claims is that of its trailer. -/
theorem reqClaimed_eq (r : ReqCtx) (body : Bytes) : reqClaimed r =
    if r.trailer.isSome then some (fieldAt (reqMessage r body) ((reqMessage r body).length - 14) 2) else none := by
  cases h : r.trailer with
  | none => simp [reqClaimed, h]
  | some t =>
    rw [reqMessage_length body h, Nat.add_sub_cancel, fieldAt_reqMessage_sid body h]
    simp [reqClaimed, h]

/-! ## A request on its way to its service (R218, R234, R263, R287, R292) -/

/-- A service of the dictionary, or that of sessions: one whose requests a field port and the host port both take. -/
def commonService (svc : Nat) : Prop := svc ≤ 6 ∨ svc = 12

theorem portVia_viaPort {v : Via} (h : v ≠ .host) : portVia (viaPort v) = v := by
  cases v
  · exact absurd rfl h
  · rfl
  · rfl

theorem reqPeer_lt {r : ReqCtx} (h : r.via ≠ .host) : reqPeer r < 512 := by
  rw [reqPeer]
  split
  · exact absurd ‹_› h
  · exact Nat.mod_lt _ (by decide)

theorem State.ownAddress_of_assigned {s : State} {via : Via} (hv : via ≠ .host) (ha : s.unassigned = false) :
    s.ownAddress via = s.field.effective := by
  have he : s.field.effective ≠ 0xFFFF := by simpa [State.unassigned] using ha
  rw [State.ownAddress, if_neg hv, if_neg he]

theorem State.vintnerDown_of_serves {s : State} (h : s.vintServes = true) : s.vintnerDown = false := by
  have hr : s.power.vintReady = true := by
    simp only [State.vintServes, Bool.and_eq_true] at h
    exact h.1.1
  simp [State.vintnerDown, hr]

section

variable {s u : State} {r : ReqCtx} {svc aux : Nat} {b raw : Bytes}

/-- A whole group that is a unicast request for a common service goes on as one. -/
theorem State.takeGroup_request (hsvc : commonService svc) (hvia : r.via ≠ .host) (hown : s.ownAddress r.via < 512) (w : State) :
    w.takeGroup (viaPort r.via) (mkIdent r.prio.toNat false svc (reqPeer r) (s.ownAddress r.via)) r.tid.toNat aux
        r.trailer.isSome (reqMessage r b) raw =
      w.portRequest (callerOf r svc aux) (reqClaimed r) (reqMessage r b) raw := by
  have hs : svc < 16 := by rcases hsvc with h | h <;> omega
  have h10 : svc ≠ 10 := by rcases hsvc with h | h <;> omega
  have hp : r.prio.toNat < 8 := r.prio.isLt
  have hsrc := reqPeer_lt hvia
  simp only [State.takeGroup, frameBcast_mkIdent hp hs hsrc hown, frameSvc_mkIdent hp hs hsrc hown,
    frameSrc_mkIdent hp hs hsrc hown, framePrio_mkIdent hp hs hsrc hown, portVia_viaPort hvia, ← reqClaimed_eq]
  rw [if_neg (by simp), if_neg (by simp), if_neg (by simp [h10])]
  rfl

/-- The frames of a request for a common service. -/
theorem carriesRequest_requestFrame (hsvc : commonService svc) (hvia : r.via ≠ .host) (hown : s.ownAddress r.via < 512)
    (hprio : prioOk svc r.prio.toNat = true) (prot : Bool) (msg : Bytes) (n i : Nat) :
    CarriesRequest (requestFrame (mkIdent r.prio.toNat false svc (reqPeer r) (s.ownAddress r.via)) r.tid.toNat prot aux msg n i) := by
  have hs : svc < 16 := by rcases hsvc with h | h <;> omega
  have hp : r.prio.toNat < 8 := r.prio.isLt
  have hsrc := reqPeer_lt hvia
  refine ⟨⟨rfl, rfl, rfl, rfl⟩, mkIdent_low hp hs hsrc hown, frameBcast_mkIdent hp hs hsrc hown, ?_, ?_,
    four_le_length_request _ _ _ _ _ _ _⟩
  · show frameFunc (mkIdent _ _ _ _ _) < 7 ∨ frameFunc (mkIdent _ _ _ _ _) = 12
    rw [frameFunc_mkIdent hp hs hsrc hown]
    exact hsvc.imp_left (by omega)
  · show prioOk (frameSvc (mkIdent _ _ _ _ _)) (framePrio (mkIdent _ _ _ _ _)) = true
    rwa [frameSvc_mkIdent hp hs hsrc hown, framePrio_mkIdent hp hs hsrc hown]

/-- A request that a field port receives whole reaches the Vintner. -/
theorem State.arrive_received (hsvc : commonService svc) (haux : aux < 256)
    (h : Claims.received s r svc aux b = some (u, raw)) :
    s.vintServes = true ∧ s.unassigned = false ∧
    framesOf (reqMessage r b).length ≤ s.credits (intakeQueue r.via svc) ∧
    u = s.bump (Obj.portRxFrames (portNum (viaPort r.via))) (framesOf (reqMessage r b).length) ∧
    s.arrive r svc aux b = u.portRequest (callerOf r svc aux) (reqClaimed r) (reqMessage r b) raw := by
  rw [Claims.received] at h
  split at h
  next hc =>
    obtain ⟨hvia, hup, hserves, hprio, hlen, hown, hself, hassigned, hstay, hfree, htimer, hcredits⟩ := hc
    have hs : svc < 16 := by rcases hsvc with h | h <;> omega
    have hp : r.prio.toNat < 8 := r.prio.isLt
    have hsrc := reqPeer_lt hvia
    have ha : s.unassigned = false := hassigned.resolve_right (by rcases hsvc with h | h <;> omega)
    have hfrom := frameSrc_mkIdent hp hs hsrc hown
    rw [groupFrames_eq _ _ _ _ _ hlen, List.all_map, List.all_eq_true] at hstay
    rw [groupFrames_eq _ _ _ _ _ hlen] at h
    cases h
    have hadmits : ∀ i < framesOf (reqMessage r b).length, s.Admits (viaPort r.via)
        (requestFrame (mkIdent r.prio.toNat false svc (reqPeer r) (s.ownAddress r.via)) r.tid.toNat r.trailer.isSome aux
          (reqMessage r b) (framesOf (reqMessage r b).length) i) := fun i hi =>
      ⟨hup, hserves, ha, fun e => hself.resolve_left (by simp [ha]) (hfrom.symm.trans e),
        (frameDst_mkIdent hp hs hsrc hown).trans (State.ownAddress_of_assigned hvia ha),
        by simpa using hstay i (List.mem_range.mpr hi)⟩
    have hall := State.receiveAll_request r.tid.isLt haux hlen
      (carriesRequest_requestFrame hsvc hvia hown hprio r.trailer.isSome (reqMessage r b) _) hadmits
      (by rwa [hfrom]) (by rwa [hfrom]) (by rwa [portVia_viaPort hvia, frameSvc_mkIdent hp hs hsrc hown])
    rw [State.takeGroup_request hsvc hvia hown] at hall
    refine ⟨hserves, ha, hcredits, rfl, ?_⟩
    rw [← hall, ← groupFrames_eq _ _ _ _ _ hlen, State.arrive]
    split
    next hv => exact absurd hv hvia
    next => exact if_neg (Nat.not_lt.mpr hlen)
  next => cases h

/-- A request that is no retransmission and finds its credits goes into its intake queue. -/
theorem State.portRequest_eq {c : Caller} {claimed : Option Nat} {msg : Bytes} (hserves : s.vintServes = true)
    (ha : s.unassigned = false) (hrep : s.repeated c.dest.peer c.dest.tid raw = none)
    (hcr : framesOf msg.length ≤ s.credits (intakeQueue c.dest.via c.dest.svc)) :
    s.portRequest c claimed msg raw = (s.rememberGroup c.dest.peer c.dest.tid raw).takeIn c claimed msg := by
  have hne : s.field.effective ≠ 0xFFFF := by simpa [State.unassigned] using ha
  simp only [State.portRequest, State.vintnerDown_of_serves hserves, hserves, hrep]
  simp [hne, Nat.not_lt.mpr hcr]

/-- A request that finds nothing before it in its queue, and can be served, is served. -/
theorem State.takeIn_eq {t : State} {c : Caller} {claimed : Option Nat} {msg : Bytes} {q : Nat}
    (hq : intakeQueue c.dest.via c.dest.svc = q)
    (hheld : (s.pass q (framesOf msg.length)).eng.held.any (fun h => h.queue == q || h.caller.dest.peer == c.dest.peer) = false)
    (hclass : (s.pass q (framesOf msg.length)).earlierClass q = false)
    (ht : ((s.pass q (framesOf msg.length)).noteServed 2 q).tryServe c claimed msg = .ok t) : s.takeIn c claimed msg = t := by
  have hf : (s.pass q (framesOf msg.length)).eng.held.find? (fun h => h.queue == q || h.caller.dest.peer == c.dest.peer) = none := by
    simpa [List.find?_eq_none] using hheld
  subst hq
  simp only [State.takeIn, hf, hclass, ht, Bool.false_eq_true, if_false]

end

/-- A request taken out of its intake queue at once (R292): the state in which its service is noted; `none` when it is held. -/
def State.intake (s : State) (r : ReqCtx) (svc : Nat) (b : Bytes) : Option State :=
  let q := intakeQueue r.via svc
  let u := s.pass q (framesOf (reqMessage r b).length)
  if u.eng.held.any (fun h => h.queue == q || h.caller.dest.peer == reqPeer r) || u.earlierClass q then none
  else some (u.noteServed 2 q)

section

variable {s v t : State} {r : ReqCtx} {svc aux : Nat} {b : Bytes}

/-- The two ways in which a request arrives. -/
theorem State.arrived_cases (h : Claims.arrived s r svc aux b = some v) :
    (r.via = .host ∧ s.vintServes = true ∧ (svc ≤ 6 ∨ svc = 12) ∧ s.intake r svc b = some v) ∨
    ∃ u raw, Claims.received s r svc aux b = some (u, raw) ∧ u.repeated (reqPeer r) r.tid.toNat raw = none ∧
      (u.rememberGroup (reqPeer r) r.tid.toNat raw).intake r svc b = some v := by
  rw [Claims.arrived] at h
  split at h
  next hvia =>
    split at h
    next hc => exact .inl ⟨hvia, hc.1, hc.2, h⟩
    next => cases h
  next =>
    split at h
    next => cases h
    next u raw hr =>
      split at h
      next hc => exact .inr ⟨u, raw, hr, Option.isNone_iff_eq_none.mp hc.2, h⟩
      next => cases h

theorem State.takeIn_of_intake (h : s.intake r svc b = some v)
    (ht : v.tryServe (callerOf r svc aux) (reqClaimed r) (reqMessage r b) = .ok t) :
    s.takeIn (callerOf r svc aux) (reqClaimed r) (reqMessage r b) = t := by
  rw [State.intake] at h
  split at h
  next => cases h
  next hn =>
    obtain ⟨hheld, hclass⟩ := Bool.or_eq_false_iff.mp (eq_false_of_ne_true hn)
    cases h
    exact State.takeIn_eq rfl hheld hclass ht

/-- A request that has arrived and can be served is served. -/
theorem State.arrive_of_tryServe (hsvc : commonService svc) (haux : aux < 256) (h : Claims.arrived s r svc aux b = some v)
    (ht : v.tryServe (callerOf r svc aux) (reqClaimed r) (reqMessage r b) = .ok t) : s.arrive r svc aux b = t := by
  rcases State.arrived_cases h with ⟨hvia, hserves, -, hin⟩ | ⟨u, raw, hr, hrep, hin⟩
  · have hown : ¬ (7 ≤ svc ∧ svc ≤ 11 ∨ 13 ≤ svc) := by rcases hsvc with h | h <;> omega
    have hhost : s.hostRequest (callerOf r svc aux) (reqClaimed r) (reqMessage r b) =
        s.takeIn (callerOf r svc aux) (reqClaimed r) (reqMessage r b) := if_neg hown
    rw [State.arrive]
    split
    next => rw [if_pos hserves, hhost, State.takeIn_of_intake hin ht]
    next hv => exact absurd hvia hv
  · obtain ⟨hserves, ha, hcredits, rfl, harrive⟩ := State.arrive_received hsvc haux hr
    rw [harrive, ← State.takeIn_of_intake hin ht]
    exact State.portRequest_eq (c := callerOf r svc aux) hserves ha hrep hcredits

end

end Sys2Proof.Machine

namespace Sys2Proof.Machine

open Sys2Proof

/-! ## What taking a request in leaves of the state (R12, R292) -/

theorem State.pass_eq (s : State) (q n : Nat) : ∃ h, s.pass q n = { s with q.highWater := h } := by
  rw [State.pass]
  split
  · exact ⟨_, rfl⟩
  · exact ⟨s.q.highWater, rfl⟩

theorem State.passes_eq (l : List Nat) (s : State) :
    ∃ h, l.foldl (fun (s : State) q => s.pass q 1) s = { s with q.highWater := h } := by
  induction l generalizing s with
  | nil => exact ⟨s.q.highWater, rfl⟩
  | cons q l ih =>
    obtain ⟨h, hh⟩ := s.pass_eq q 1
    obtain ⟨h', hh'⟩ := ih { s with q.highWater := h }
    exact ⟨h', by rw [List.foldl_cons, hh, hh']⟩

section

variable {s u v : State} {r : ReqCtx} {svc aux : Nat} {b : Bytes} {c : Caller}

theorem State.intake_kept (h : s.intake r svc b = some v) : v.q.handling = s.q.handling ∧ v.now = s.now := by
  obtain ⟨x, hx⟩ := s.pass_eq (intakeQueue r.via svc) (framesOf (reqMessage r b).length)
  rw [State.intake, hx] at h
  split at h
  · cases h
  · cases h
    exact ⟨rfl, rfl⟩

/-- A request that has arrived: its posts are not derived yet, and no time has passed. -/
theorem State.arrived_kept (h : Claims.arrived s r svc aux b = some v) : v.q.handling = s.q.handling ∧ v.now = s.now := by
  rcases State.arrived_cases h with ⟨-, -, -, hin⟩ | ⟨w, raw, hr, -, hin⟩
  · exact State.intake_kept hin
  · have hw : w.q = s.q ∧ w.now = s.now := by
      rw [Claims.received] at hr
      split at hr
      · cases hr
        exact ⟨State.bump_q .., congrArg Clocks.nowUs (State.bump_time ..)⟩
      · cases hr
    obtain ⟨hq, hnow⟩ := hw
    obtain ⟨hhandling, hin⟩ := State.intake_kept hin
    exact ⟨hhandling.trans (congrArg Queues.handling hq), hin.trans hnow⟩

/-- What an opened request has passed. -/
theorem State.opened_cases (h : Claims.opened s r svc aux b = some u) :
    ∃ v, Claims.arrived s r svc aux b = some v ∧ earlyAbort svc b = none ∧ v.blocker svc b = none ∧
      u = { (requestChain svc b).foldl (fun (s : State) q => s.pass q 1) v with q.handling := true } := by
  rw [Claims.opened] at h
  split at h
  · cases h
  next v hv =>
    split at h
    · cases h
    next hn =>
      cases h
      obtain ⟨he, hb⟩ := Bool.or_eq_false_iff.mp (eq_false_of_ne_true hn)
      exact ⟨v, hv, Option.isNone_iff_eq_none.mp (by simpa using he), Option.isNone_iff_eq_none.mp (by simpa using hb), rfl⟩

/-! ## The checks of a request's trailer (R123 to R125, R289) -/

/-- The caller of a request that an open session protects. -/
def Claims.member (r : ReqCtx) (svc aux : Nat) (t : Trailer) (x : Session) : Caller :=
  { callerOf r svc aux with role := some x.role, slot := some (Fin.ofNat 8 x.slot)
                            dest := { (callerOf r svc aux).dest with session := some t.sid.toNat } }

/-- The state in which its session has taken its counter. -/
def State.counted (s : State) (t : Trailer) (x : Session) : State :=
  (s.setSession { x with ctrIn := t.counter.toNat, fails := 0 }).arm (.sessionIdle x.slot)
    (1000000 * s.get Obj.sessionIdleTimeout)

/-- The two ways in which a request passes the checks of its trailer. -/
theorem State.entry_cases (h : Claims.entry s r svc aux b = some (c, u)) :
    ∃ w, Claims.opened s r svc aux b = some w ∧
      ((r.trailer = none ∧ c = callerOf r svc aux ∧ u = w) ∨
       ∃ t x, r.trailer = some t ∧
        w.sec.sessions.find? (fun x => x.isOpen && x.sid == t.sid.toNat && x.peer == reqPeer r && x.via == r.via) = some x ∧
        groupTag x.key (tagInput 0 t.sid.toNat t.counter.toNat (reqPeer r) (w.ownAddress r.via) b) = t.tag ∧
        x.ctrIn < t.counter.toNat ∧ c = Claims.member r svc aux t x ∧ u = w.counted t x) := by
  rw [Claims.entry] at h
  split at h
  · cases h
  next w hw =>
    refine ⟨w, hw, ?_⟩
    split at h
    next ht =>
      cases h
      exact .inl ⟨ht, rfl, rfl⟩
    next t ht =>
      split at h
      · cases h
      next x hx =>
        split at h
        next hok =>
          cases h
          exact .inr ⟨t, x, ht, hx, hok.1, hok.2, rfl, rfl⟩
        · cases h

/-- The service of a request that passes its checks acts, and its session ends when its counter is spent. -/
theorem State.serve_entry {w : State} (hearly : earlyAbort svc b = none)
    (h : (r.trailer = none ∧ c = callerOf r svc aux ∧ u = w) ∨
       ∃ t x, r.trailer = some t ∧
        w.sec.sessions.find? (fun x => x.isOpen && x.sid == t.sid.toNat && x.peer == reqPeer r && x.via == r.via) = some x ∧
        groupTag x.key (tagInput 0 t.sid.toNat t.counter.toNat (reqPeer r) (w.ownAddress r.via) b) = t.tag ∧
        x.ctrIn < t.counter.toNat ∧ c = Claims.member r svc aux t x ∧ u = w.counted t x) :
    w.serve (callerOf r svc aux) (reqClaimed r) (reqMessage r b) =
      if r.trailer.isSome then (u.act c b).endSpent else u.act c b := by
  rcases h with ⟨ht, rfl, rfl⟩ | ⟨t, x, ht, hx, htag, hctr, rfl, rfl⟩
  · have hc : reqClaimed r = none := by simp [reqClaimed, ht]
    have hm : reqMessage r b = b := by simp [reqMessage, ht]
    rw [hc, hm, State.serve, show (callerOf r svc aux).dest.svc = svc from rfl, hearly, ht]
    rfl
  · have hc : reqClaimed r = some t.sid.toNat := by simp [reqClaimed, ht]
    have hlen := reqMessage_length b ht
    have hfound : w.sec.sessions.find? (fun x => x.isOpen && x.sid == t.sid.toNat && x.peer == (callerOf r svc aux).dest.peer
        && x.via == (callerOf r svc aux).dest.via) = some x := hx
    have hauth : w.authenticate (callerOf r svc aux) t.sid.toNat (reqMessage r b) b =
        (w.counted t x).act (Claims.member r svc aux t x) b := by
      rw [State.authenticate, hfound]
      simp only [fieldAt_reqMessage_counter b ht, fieldAt_reqMessage_tag b ht]
      rw [if_neg (by rw [← htag]; simp [callerOf]), if_neg (by omega)]
      rfl
    rw [hc, State.serve, ht]
    simp only [take_reqMessage b ht]
    rw [if_neg (by omega), show (callerOf r svc aux).dest.svc = svc from rfl, hearly, hauth]
    rfl

/-- A request that finds its checks and its credits in order is served: what its service does at `u`. -/
theorem State.arrive_of_entry (hsvc : commonService svc) (haux : aux < 256) (h : Claims.entry s r svc aux b = some (c, u))
    (hseg : isUpdateSegment svc (reqMessage r b) = true → u.get Obj.updateState = 1 →
      framesOf (reqMessage r b).length ≤ u.credits 0x08)
    (hpost : (Claims.finished s r (u.act c b)).derivedWaits ≤ u.derivedWaits) :
    s.arrive r svc aux b = Claims.finished s r (u.act c b) := by
  obtain ⟨w, hw, hentry⟩ := State.entry_cases h
  obtain ⟨v, hv, hearly, hblock, rfl⟩ := State.opened_cases hw
  obtain ⟨hhandling, -⟩ := State.arrived_kept hv
  have hserve := State.serve_entry hearly hentry
  obtain ⟨x, hx⟩ := State.passes_eq (requestChain svc b) v
  rw [hx] at hserve hentry
  have hsame : u.get Obj.updateState = v.get Obj.updateState ∧ u.credits 0x08 = v.credits 0x08 ∧
      u.derivedWaits = v.derivedWaits := by
    rcases hentry with ⟨-, -, rfl⟩ | ⟨t, y, -, -, -, -, -, rfl⟩
    · exact ⟨rfl, rfl, rfl⟩
    · exact ⟨rfl, rfl, rfl⟩
  obtain ⟨hstate, hcredits, hwaits⟩ := hsame
  have hbody : (if (reqClaimed r).isSome then (reqMessage r b).take ((reqMessage r b).length - 14) else reqMessage r b) = b := by
    cases ht : r.trailer with
    | none => simp [reqClaimed, reqMessage, ht]
    | some t => simpa [reqClaimed, ht] using take_reqMessage b ht
  refine State.arrive_of_tryServe hsvc haux hv ?_
  have hroom : ¬ (isUpdateSegment svc (reqMessage r b) = true ∧ v.get Obj.updateState = 1 ∧
      v.credits 0x08 < framesOf (reqMessage r b).length) := fun ⟨h1, h2, h3⟩ =>
    absurd (hcredits ▸ hseg h1 (hstate.trans h2)) (Nat.not_le.mpr h3)
  have hend : State.handle { v with q.highWater := x } (fun s => s.serve (callerOf r svc aux) (reqClaimed r) (reqMessage r b)) =
      Claims.finished s r (u.act c b) := by
    rw [State.handle, hserve, Claims.finished, show v.q.handling = s.q.handling from hhandling]
  rw [State.tryServe, show (callerOf r svc aux).dest.svc = svc from rfl, if_neg hroom, hbody, hblock, hx]
  dsimp only
  rw [hend]
  have hnone : ¬ v.derivedWaits < (Claims.finished s r (u.act c b)).derivedWaits := Nat.not_lt.mpr (hwaits ▸ hpost)
  exact if_neg hnone

/-- Who calls, and when: the sender as its message names it, at the instant of its arrival. -/
theorem State.entry_caller (h : Claims.entry s r svc aux b = some (c, u)) :
    c.dest.svc = svc ∧ c.dest.peer = reqPeer r ∧ c.dest.via = r.via ∧ c.deferred = false ∧ u.now = s.now ∧
      (r.trailer = none → c.dest.session = none) := by
  obtain ⟨w, hw, hentry⟩ := State.entry_cases h
  obtain ⟨v, hv, -, -, rfl⟩ := State.opened_cases hw
  obtain ⟨-, hnow⟩ := State.arrived_kept hv
  obtain ⟨x, hx⟩ := State.passes_eq (requestChain svc b) v
  rw [hx] at hentry
  rcases hentry with ⟨-, rfl, rfl⟩ | ⟨t, y, ht, -, -, -, rfl, rfl⟩
  · exact ⟨rfl, rfl, rfl, rfl, hnow, fun _ => rfl⟩
  · exact ⟨rfl, rfl, rfl, rfl, hnow, fun hn => absurd (ht.symm.trans hn) (by simp)⟩

/-- A served command has one message, and its request its entry and its credits. -/
theorem Claims.served_entry {i : Instr} {r' : ReqCtx} {b' : Bytes} (h : Claims.Served i s r b c u)
    (hi : Claims.message i = some (r', svc, aux, b')) :
    r = r' ∧ b = b' ∧ Claims.entry s r svc aux b = some (c, u) ∧
    (isUpdateSegment svc (reqMessage r b) = true → u.get Obj.updateState = 1 →
      framesOf (reqMessage r b).length ≤ u.credits 0x08) ∧
    (Claims.finished s r (u.act c b)).derivedWaits ≤ u.derivedWaits := by
  obtain ⟨svc', aux', hm, hentry, hseg, hpost⟩ := h
  have he := hm.symm.trans hi
  simp only [Option.some.injEq, Prod.mk.injEq] at he
  obtain ⟨hr, rfl, rfl, hb⟩ := he
  exact ⟨hr, hb, hentry, hseg, hpost⟩

/-- A command whose request is served does what its service does. -/
theorem Claims.exec_served {i : Instr} (h : Claims.Served i s r b c u) (hi : Claims.message i = some (r, svc, aux, b))
    (hsvc : commonService svc) (haux : aux < 256) (he : exec i s = .next (s.arrive r svc aux b)) :
    exec i s = .next (Claims.finished s r (u.act c b)) := by
  obtain ⟨-, -, hentry, hseg, hpost⟩ := Claims.served_entry h hi
  rw [he, State.arrive_of_entry hsvc haux hentry hseg hpost]

/-- The caller of a served request. -/
theorem Claims.served_caller {i : Instr} {r' : ReqCtx} {b' : Bytes} (h : Claims.Served i s r b c u)
    (hi : Claims.message i = some (r', svc, aux, b')) :
    c.dest.svc = svc ∧ c.dest.peer = reqPeer r ∧ c.dest.via = r.via ∧ c.deferred = false ∧ u.now = s.now ∧
      (r.trailer = none → c.dest.session = none) := by
  obtain ⟨-, -, hentry, -⟩ := Claims.served_entry h hi
  exact State.entry_caller hentry

end

end Sys2Proof.Machine

namespace Sys2Proof.Machine

open Sys2Proof

/-! ## The message of a plain Write (Table 6-9) -/

theorem typeCodeOf_lt (index sub : Nat) : typeCodeOf index sub < 256 := by
  have hc : ∀ t : Ty, t.code < 256 := fun t => by cases t <;> decide
  rw [typeCodeOf]
  split
  · exact hc _
  · decide

theorem writeBody_fields {index sub : Nat} (value : Bytes) (hi : index < 65536) (hs : sub < 256) :
    fieldAt (writeBody index sub value) 0 2 = index ∧ fieldAt (writeBody index sub value) 2 1 = sub ∧
    fieldAt (writeBody index sub value) 3 1 = typeCodeOf index sub ∧ (writeBody index sub value).drop 4 = value := by
  refine ⟨fieldAt_leBytes [] _ 2 index hi, ?_, ?_, rfl⟩
  · exact (fieldAt_zero_one _ _).trans (byteOf_toNat hs)
  · exact (fieldAt_zero_one _ _).trans (byteOf_toNat (typeCodeOf_lt index sub))

theorem leNat_numberBytes {k v : Nat} (h : v < 256 ^ objSize k) : leNat (leBytes (objSize k) v) = v := by
  rw [leNat_leBytes, Nat.mod_eq_of_lt h]

/-! ## The checks of a plain Write (Table 5-4) -/

theorem firstAbort_none {l : List (Option Abort)} (h : ∀ a ∈ l, a = none) : firstAbort l = none :=
  List.findSome?_eq_none_iff.mpr h

theorem eq_none_of_firstAbort {l : List (Option Abort)} (h : firstAbort l = none) : ∀ a ∈ l, a = none :=
  List.findSome?_eq_none_iff.mp h

theorem State.gated_of_none (s : State) (c : Caller) (req : Bytes) (upTo6 later : List (Option Abort)) (f : State → State)
    (h6 : firstAbort upTo6 = none) (h : firstAbort later = none) : s.gated c req upTo6 later f = f s.activity := by
  simp only [State.gated, h6, h]

/-- Service activity starts a timer at most (R718). -/
theorem State.activity_eq (s : State) : ∃ l, s.activity = { s with timers := l } := by
  rw [State.activity]
  split
  · exact ⟨_, rfl⟩
  · exact ⟨s.timers, rfl⟩

section

variable {u : State} {c : Caller} {k : Nat} {value : Bytes}

/-- A Write that passes every check of Table 5-4 from step 4 on passes each of them. -/
theorem Claims.writeFault_cases {v len : Nat} (h : Claims.writeFault c u k v len = none) :
    firstAbort [u.lifecycleCheck c.dest.via true (k / 256) (k % 256) v len, u.roleCheck c.role true (k / 256) (k % 256) v,
      u.powerCheck, u.transCheck] = none ∧
    firstAbort [u.readyCheck true (k / 256), u.writeValueCheck (k / 256) (k % 256) (typeCodeOf (k / 256) (k % 256)) len v] = none ∧
    firstAbort [(Claims.writeState u k).precondition k v, (Claims.writeState u k).heldCheck c [(k, v)]] = none := by
  have hall := eq_none_of_firstAbort h
  simp only [List.forall_mem_cons] at hall
  obtain ⟨h1, h2, h3, h4, h5, h6, h7, h8, -⟩ := hall
  exact ⟨firstAbort_none (by simp [h1, h2, h3, h4]), firstAbort_none (by simp [h5, h6]), firstAbort_none (by simp [h7, h8])⟩

/-- A Write that passes steps 4 to 10 reaches its object. -/
theorem State.act_write {d : ObjDef} (hsvc : c.dest.svc = 1) (hk : k < 256 * 65536) (hd : objOf k = some d)
    (h : Claims.writeFault c u k (leNat value) value.length = none) :
    u.act c (writeBody (k / 256) (k % 256) value) =
      u.activity.writeObject c (writeBody (k / 256) (k % 256) value) d k (leNat value) value := by
  obtain ⟨hindex, hsub, htype, hvalue⟩ := writeBody_fields (index := k / 256) (sub := k % 256) value (by omega) (by omega)
  obtain ⟨h6, hlater, -⟩ := Claims.writeFault_cases h
  have hkey : objKey (k / 256) (k % 256) = k := Nat.div_add_mod' k 256
  rw [State.act, hsvc]
  simp only [State.serveWrite, hindex, hsub, htype, hvalue, hkey]
  rw [State.gated_of_none _ _ _ _ _ _ h6 hlater]
  rw [show findObj (k / 256) (k % 256) = some d from hd]

/-- A Write to a WO object that passes every check acts. -/
theorem State.writeObject_wo {d : ObjDef} {req : Bytes} {v : Nat} (hp : k ≠ Obj.powerStateRequest)
    (hr : k ≠ Obj.configRestoreDefaults) (hw : d.acc = .wo)
    (h : firstAbort [(Claims.writeState u k).precondition k v, (Claims.writeState u k).heldCheck c [(k, v)]] = none) :
    u.activity.writeObject c req d k v value = (Claims.writeState u k).actWo c req k v value := by
  rw [State.writeObject, if_neg hp]
  show (match firstAbort [(Claims.writeState u k).precondition k v, (Claims.writeState u k).heldCheck c [(k, v)]] with
    | some a => (Claims.writeState u k).abort c req a
    | none => _) = _
  rw [h]
  dsimp only
  rw [if_neg hr, hw]
  rfl

end

end Sys2Proof.Machine

namespace Sys2Proof.Machine

open Sys2Proof

/-! ## Commands that write one object (R163) -/

/-- A write-only object that a plain Write may act on (Table 5-2). -/
def isCommand (k : Nat) : Bool :=
  (objOf k).any (fun d => d.acc == .wo) && decide (k < 256 * 65536) && k != Obj.powerStateRequest
    && k != Obj.configRestoreDefaults

section

variable {i : Instr} {s u : State} {r r' : ReqCtx} {k : Nat} {value b : Bytes} {c : Caller}

/-- A command that sends a plain Write has it served. -/
theorem Claims.exec_write {d : ObjDef} (hi : Claims.message i = some (r, 1, 0, writeBody (k / 256) (k % 256) value))
    (he : exec i s = .next (s.arrive r 1 0 (writeBody (k / 256) (k % 256) value))) (hk : k < 256 * 65536)
    (hd : objOf k = some d) (h : Claims.Served i s r' b c u)
    (hf : Claims.writeFault c u k (leNat value) value.length = none) :
    exec i s = .next (Claims.finished s r' (u.activity.writeObject c b d k (leNat value) value)) := by
  obtain ⟨rfl, rfl, -⟩ := Claims.served_entry h hi
  obtain ⟨hsvc, -⟩ := Claims.served_caller h hi
  rw [Claims.exec_served h hi (.inl (by decide)) (by decide) he, State.act_write hsvc hk hd hf]

/-- A command that writes a write-only object acts. -/
theorem Claims.exec_command (hi : Claims.message i = some (r, 1, 0, writeBody (k / 256) (k % 256) value))
    (he : exec i s = .next (s.arrive r 1 0 (writeBody (k / 256) (k % 256) value))) (hk : isCommand k = true)
    (h : Claims.Served i s r' b c u) (hf : Claims.writeFault c u k (leNat value) value.length = none) :
    exec i s = .next (Claims.finished s r' ((Claims.writeState u k).actWo c b k (leNat value) value)) := by
  simp only [isCommand, Bool.and_eq_true, decide_eq_true_eq, bne_iff_ne, ne_eq] at hk
  obtain ⟨⟨⟨hwo, hlt⟩, hpower⟩, hrestore⟩ := hk
  obtain ⟨d, hd, hacc⟩ := (Option.any_eq_true _ _).mp hwo
  rw [Claims.exec_write hi he hlt hd h hf, State.writeObject_wo hpower hrestore (by simpa using hacc) (Claims.writeFault_cases hf).2.2]

variable {v : Nat}

/-- A command that writes a number acts. -/
theorem Claims.exec_number (hi : Claims.message i = some (r, 1, 0, Claims.numberBody k v))
    (he : exec i s = .next (s.arrive r 1 0 (Claims.numberBody k v))) (hk : isCommand k = true) (hv : v < 256 ^ objSize k)
    (h : Claims.Served i s r' b c u) (hf : Claims.writeFault c u k v (objSize k) = none) :
    exec i s = .next (Claims.finished s r' ((Claims.writeState u k).actWo c b k v (leBytes (objSize k) v))) := by
  have hn := leNat_numberBytes hv
  have hf' : Claims.writeFault c u k (leNat (leBytes (objSize k) v)) (leBytes (objSize k) v).length = none := by
    rwa [hn, leBytes_length]
  rw [Claims.exec_command hi he hk h hf', hn]

/-- A write-only object that only answers with success and acts. -/
theorem State.actWo_command (w : State) (req : Bytes) (hkey : keyWhich k = none)
    (hk : k ∉ [Obj.lifecycleRequest, Obj.debugRequest, Obj.debugToken])
    (hfree : w.eng.commit = none ∨ k ∉ [Obj.lifecycleRequest, Obj.updateActivate, Obj.railSeqClearLatch]) :
    w.actWo c req k v value = (w.done c (k / 256) (k % 256)).actCommand c k v := by
  have hd : (w.eng.commit.isSome && [Obj.lifecycleRequest, Obj.updateActivate, Obj.railSeqClearLatch].contains k) = false := by
    rcases hfree with h | h
    · rw [h]
      rfl
    · rw [Bool.eq_false_iff.mpr (fun e => h (List.contains_iff_mem.mp e)), Bool.and_false]
  simp only [List.mem_cons, List.not_mem_nil, or_false, not_or] at hk
  obtain ⟨h1, h2, h3⟩ := hk
  rw [State.actWo, hkey]
  simp only [hd, Bool.false_eq_true, if_false, if_neg h1, if_neg h2, if_neg h3]

end

/-! ## Power states (R70, R71, R87, R192, R717) -/

/-- Service activity changes no part but its timer, so that what a request meets is what it met before. -/
theorem State.activity_same (s : State) : s.activity.eng = s.eng ∧ s.activity.now = s.now ∧
    s.activity.confirmed = s.confirmed ∧ s.activity.erases = s.erases ∧
    (∀ n, s.activity.lifecycleUnmet n = s.lifecycleUnmet n) ∧ (∀ c key, s.activity.keyFrom c key = s.keyFrom c key) ∧
    (∀ t, s.activity.tokenGood t = s.tokenGood t) := by
  obtain ⟨l, h⟩ := s.activity_eq
  rw [h]
  exact ⟨rfl, rfl, rfl, rfl, fun _ => rfl, fun _ _ => rfl, fun _ => rfl⟩

/-- A power state carried out (Table 3-2). -/
theorem State.doPower_eq (s : State) {v : Nat} (hv : v = 2 ∨ v = 3 ∨ v = 4 ∨ v = 5 ∨ v = 6) :
    s.doPower v =
      let w := s.set Obj.powerStateRequest v
      let x := if w.power.state = .service then w.leaveService else w
      if v = w.power.state.code then w else if v = 2 then w.beginShutdown .request 3 false 0 []
      else if v = 3 then x.fallToStandby 3 else if v = 4 then x.towardsActive 3
      else if v = 5 then w.towardsService 3 false else w.restart 3 := by
  rw [State.doPower]
  generalize s.set Obj.powerStateRequest v = w
  rcases hv with rfl | rfl | rfl | rfl | rfl <;> simp only [Nat.reduceEqDiff, if_true, if_false]

section

variable {u : State} {c : Caller} {req : Bytes} {v : Nat}

/-- An accepted request for a power state while no commit is applied. -/
theorem State.powerRequest_free (ha : u.activity.powerRefusal v = none) (hc : u.eng.commit = none) :
    u.activity.powerRequest c req v = (u.activity.done c 0x1800 2).doPower v := by
  have he : u.activity.eng.commit.isSome = false := by rw [u.activity_same.1, hc]; rfl
  simp only [State.powerRequest, ha, he, Bool.false_eq_true, if_false]

/-- One that waits for the commit in application (R192). -/
theorem State.powerRequest_wait (ha : u.activity.powerRefusal v = none) (hc : u.eng.commit.isSome = true)
    (hd : c.deferred = false) : u.activity.powerRequest c req v =
      { u.activity with eng.deferredPower := u.eng.deferredPower ++
        [(⟨{ c with deferred := true }, none, req, 0, u.now, true⟩ : Held)] }.abort c req (0x0A, 0) := by
  obtain ⟨heng, hnow, -⟩ := u.activity_same
  simp only [State.powerRequest, ha, hc, if_true, State.deferPower, hd, Bool.false_eq_true, if_false, hnow, heng]

end

end Sys2Proof.Machine

namespace Sys2Proof.Machine

open Sys2Proof

/-! ## Lifecycles, keys and debug levels past their checks (R109, R111, R114, R132, R714) -/

section

variable {u : State} {c : Caller} {req value : Bytes} {v : Nat}

theorem State.actWo_lifecycleRequest (w : State) (hc : w.eng.commit = none) :
    w.actWo c req Obj.lifecycleRequest v value = w.lifecycleWrite c req v := by
  rw [State.actWo, show keyWhich Obj.lifecycleRequest = none by decide]
  simp only [hc, Option.isSome_none, Bool.false_and, Bool.false_eq_true, if_false, if_true]

theorem State.actWo_debugRequest (w : State) : w.actWo c req Obj.debugRequest v value = w.debugWrite c v := by
  rw [State.actWo, show keyWhich Obj.debugRequest = none by decide]
  simp only [show List.contains [Obj.lifecycleRequest, Obj.updateActivate, Obj.railSeqClearLatch] Obj.debugRequest = false by decide,
    Bool.and_false, Bool.false_eq_true, if_false, show ¬ Obj.debugRequest = Obj.lifecycleRequest by decide, if_true]

theorem State.actWo_debugToken (w : State) : w.actWo c req Obj.debugToken v value = w.tokenWrite c req value := by
  rw [State.actWo, show keyWhich Obj.debugToken = none by decide]
  simp only [show List.contains [Obj.lifecycleRequest, Obj.updateActivate, Obj.railSeqClearLatch] Obj.debugToken = false by decide,
    Bool.and_false, Bool.false_eq_true, if_false, show ¬ Obj.debugToken = Obj.lifecycleRequest by decide,
    show ¬ Obj.debugToken = Obj.debugRequest by decide, if_true]

/-- The object of a key (Tables 4-2 and 19-9). -/
def keyObject (n : Fin 5) : Nat := if n.val = 4 then Obj.twinPairKey else Obj.keysRoleKey n.val

theorem keyWhich_keyObject (n : Fin 5) : keyWhich (keyObject n) = some n.val := by
  revert n
  decide

theorem isCommand_keyObject (n : Fin 5) : isCommand (keyObject n) = true := by
  revert n
  decide

theorem writeState_keyObject (n : Fin 5) : Claims.writeState u (keyObject n) = u.activity := by
  have h : ∀ n : Fin 5, keyObject n ≠ Obj.sealClear := by decide
  exact if_neg (h n)

theorem State.actWo_key (w : State) (n : Fin 5) : w.actWo c req (keyObject n) v value =
    w.keyWrite c req n.val (keyObject n / 256) (keyObject n % 256) value := by
  rw [State.actWo, keyWhich_keyObject]

/-- The outcomes of a Lifecycle.Request. -/
theorem State.lifecycleWrite_cases :
    (u.confirmed = true → u.lifecycleUnmet v = none → v ≠ 3 →
      u.activity.lifecycleWrite c req v = (u.activity.done c 0x1A00 2).beginLifecycle v 0) ∧
    (u.confirmed = true → u.lifecycleUnmet v = none → v = 3 → u.erases = true →
      u.activity.lifecycleWrite c req v = ((u.activity.done c 0x1A00 2).eraseKeys true).beginLifecycle 3 0) ∧
    (u.confirmed = true → u.lifecycleUnmet v = none → v = 3 → u.erases = false →
      u.activity.lifecycleWrite c req v = (u.activity.abort c req (0x0C, 4)).eraseKeys false) ∧
    (u.confirmed = false → u.activity.lifecycleWrite c req v = u.activity.abort c req (0x0C, 0)) := by
  obtain ⟨-, -, hconf, herase, hunmet, -, -⟩ := u.activity_same
  have hyes : u.confirmed = true → u.lifecycleUnmet v = none → u.activity.lifecycleWrite c req v =
      if v ≠ 3 then (u.activity.done c 0x1A00 2).beginLifecycle v 0
      else if u.erases then ((u.activity.done c 0x1A00 2).eraseKeys true).beginLifecycle 3 0
      else (u.activity.abort c req (0x0C, 4)).eraseKeys false := fun h1 h2 => by
    simp only [State.lifecycleWrite, hconf, h1, hunmet, h2, herase, Bool.not_true, Bool.false_eq_true, if_false]
  refine ⟨fun h1 h2 h3 => ?_, fun h1 h2 h3 h4 => ?_, fun h1 h2 h3 h4 => ?_, fun h1 => ?_⟩
  · rw [hyes h1 h2, if_pos h3]
  · rw [hyes h1 h2, if_neg (not_not_intro h3), if_pos h4]
  · rw [hyes h1 h2, if_neg (not_not_intro h3), if_neg (by simp [h4])]
  · rw [State.lifecycleWrite, hconf, h1]
    rfl

/-- The outcomes of a key write. -/
theorem State.keyWrite_cases {which index sub : Nat} :
    (∀ key, u.keyFrom c value = some key →
      u.activity.keyWrite c req which index sub value = (u.activity.sealKey which key).done c index sub) ∧
    (u.keyFrom c value = none → u.activity.keyWrite c req which index sub value = u.activity.abort c req (0x0B, 0)) := by
  obtain ⟨-, -, -, -, -, hkey, -⟩ := u.activity_same
  refine ⟨fun key h => ?_, fun h => ?_⟩
  · rw [State.keyWrite, hkey, h]
  · rw [State.keyWrite, hkey, h]

/-- The outcomes of a good token. -/
theorem State.tokenWrite_cases {t : Bytes} (hgood : u.tokenGood t = true) :
    (fieldAt t 24 1 = 0x80 → u.erases = true → u.activity.tokenWrite c req t =
      ((u.activity.done c 0x1A30 5).eraseKeys true).beginLifecycle 3 1) ∧
    (fieldAt t 24 1 = 0x80 → u.erases = false → u.activity.tokenWrite c req t =
      (u.activity.abort c req (0x0C, 4)).eraseKeys false) ∧
    (fieldAt t 24 1 = 1 ∨ fieldAt t 24 1 = 2 → u.activity.tokenWrite c req t =
      (u.activity.done c 0x1A30 5).setDebug (fieldAt t 24 1) none) := by
  obtain ⟨-, -, -, herase, -, -, htoken⟩ := u.activity_same
  have hgood' := (htoken t).trans hgood
  refine ⟨fun hk he => ?_, fun hk he => ?_, fun hk => ?_⟩
  · simp only [State.tokenWrite, hk, hgood', herase, he]
    simp
  · simp only [State.tokenWrite, hk, hgood', herase, he]
    simp
  · rcases hk with hk | hk <;> · simp only [State.tokenWrite, hk, hgood']; simp

end

/-- A key sealed (R97). -/
theorem State.sealKey_same {w : State} {n : Nat} {key : Nat} (h : w.sec.kwk.isSome = true) :
    (w.sealKey n key).storedKey n = some key := by
  obtain ⟨k, hk⟩ := Option.isSome_iff_exists.mp h
  have hold : (w.sec.keyStore.filter (fun x => x.index != n)).find? (fun e => e.index == n) = none := by
    simp [List.find?_eq_none]
  simp [State.sealKey, State.storedKey, List.find?_append, hold, hk]

theorem State.sealKey_other (w : State) {n m : Nat} (key : Nat) (h : m ≠ n) : (w.sealKey n key).storedKey m = w.storedKey m := by
  have hold : (w.sec.keyStore.filter (fun x => x.index != n)).find? (fun e => e.index == m) =
      w.sec.keyStore.find? (fun e => e.index == m) := by
    rw [List.find?_filter]
    refine congrArg (fun p => List.find? p w.sec.keyStore) (funext fun e => ?_)
    by_cases he : e.index = m
    · simp [he, h]
    · simp [he]
  simp [State.sealKey, State.storedKey, List.find?_append, hold, Ne.symm h]

theorem State.sealKey_keyWrites (w : State) (n key : Nat) :
    lookupD (w.sealKey n key).sec.keyWrites n 0 = lookupD w.sec.keyWrites n 0 + 1 := by
  simp [State.sealKey]

theorem State.eraseKeys_sec (w : State) (ok : Bool) : (w.eraseKeys ok).sec.keyStore = [] ∧
    (w.eraseKeys ok).sec.sessions = [] ∧ (w.eraseKeys ok).sec.erased = ok ∧ (w.eraseKeys ok).sec.fuses = w.sec.fuses :=
  ⟨rfl, w.endSessions_sessions, rfl, (State.endSessions_fr (F := maskBut [14]) w rfl (Fr.refl _ w)).sec_fuses rfl⟩

/-- A debug level opened or changed (R132, R134). -/
theorem State.setDebug_open (w : State) {level : Nat} (owner : Option Nat) (h : 0 < level) :
    (w.setDebug level owner).get Obj.debugLevel = level ∧ (w.setDebug level owner).sec.debugOwner = owner ∧
      (w.setDebug level owner).armed .debugEnd = true := by
  rw [State.setDebug, if_neg (by omega)]
  generalize (if level = 2 then w else w.endDebug false) = x
  exact ⟨x.get_set_self _ _, rfl, State.armed_arm_self ..⟩

end Sys2Proof.Machine

namespace Sys2Proof.Machine

open Sys2Proof

/-! ## Sessions opened (R117, R120, R121, R139, R144) -/

/-- A reply without a session leaves every session and every handshake's timer (R219, R265). -/
theorem State.answer_unprotected {s : State} {c : Caller} (reply : Bytes) (h : c.dest.session = none) :
    (s.answer c reply).sec = s.sec ∧ ∀ n, (s.answer c reply).deadline (.handshake n) = s.deadline (.handshake n) := by
  have hp : ∀ own, s.protect c.dest own reply = (reply, false, s) := fun own => by rw [State.protect, h]
  have hport : ∀ (p : Port) (q : Nat) (fs : List CanFrame) (rs : List (Nat × CanFrame)),
      ((s.sendFrames .derived p q fs).remember c.dest.peer c.dest.tid rs).sec = s.sec ∧
      ∀ n, ((s.sendFrames .derived p q fs).remember c.dest.peer c.dest.tid rs).deadline (.handshake n) =
        s.deadline (.handshake n) := fun p q fs rs =>
    have hr := s.sendFrames_reported .derived p q fs
    ⟨hr.sec, fun n => hr.deadline _ rfl⟩
  simp only [State.answer, State.reply, hp]
  split
  · exact ⟨State.post_sec .., fun n => State.deadline_post _ _ _ _ _ _ rfl⟩
  · exact hport _ _ _ _
  · exact hport _ _ _ _

/-- A half-open session entered in the table. -/
def State.enroll (s : State) (x : Session) : State := { s with sec.sessions := s.sec.sessions ++ [x] }

/-- The state in which a SessionOpen has drawn its SessionId and its nonce (R99, R120). -/
def State.drawnOpen (s : State) : State := (s.activity.draw.2.drawRandom 128).2

/-- The half-open session of an accepted SessionOpen: the lowest free slot, the role's key, and the nonces of both. -/
def State.halfOpened (s : State) (via : Via) (role peer nc : Nat) : Session :=
  { slot := s.freeSlot, sid := s.activity.draw.2.freshSid s.activity.draw.1, role := role, peer := peer, via := via,
    isOpen := false, key := (s.storedKey role).getD 0, nc := nc, nd := (s.activity.draw.2.drawRandom 128).1,
    ctrIn := 0, ctrOut := 0, fails := 0 }

/-- The challenge to its peer (Table 4-6). -/
def State.challengeReply (s : State) (x : Session) : Bytes :=
  [0#8, 0#8, 0x02#8, 0#8] ++ leBytes 2 x.sid ++ [0#8, 0#8] ++ leBytes 16 x.nd
    ++ leBytes 16 (Config.cmac x.key (handshakeInput 0x44 x.role x.peer x.nc x.nd x.sid s.serial)).toNat

/-- An accepted SessionOpen: the half-open session, and 2 s to confirm it. -/
theorem State.sessionOpen_eq {s : State} {c : Caller} {req : Bytes} {role version peer nc : Nat}
    (h : s.sessionRefusal c.dest.peer role version peer = none) :
    s.sessionOpen c req role version peer nc =
      ((s.drawnOpen.enroll (s.halfOpened c.dest.via role peer nc)).arm (.handshake s.freeSlot) 2000000).answer c
        (s.challengeReply (s.halfOpened c.dest.via role peer nc)) := by
  obtain ⟨l, hl⟩ := s.activity_eq
  simp only [State.sessionOpen, h, State.drawnOpen, State.halfOpened, State.challengeReply, hl]
  rfl

/-- What a SessionOpen outside a session leaves. -/
theorem State.sessionOpen_plain {s : State} {c : Caller} {req : Bytes} {role version peer nc : Nat}
    (h : s.sessionRefusal c.dest.peer role version peer = none) (hs : c.dest.session = none) :
    ∃ x ∈ (s.sessionOpen c req role version peer nc).sec.sessions, x.slot = s.freeSlot ∧ x.role = role ∧ x.peer = peer ∧
      x.via = c.dest.via ∧ x.isOpen = false ∧ x.nc = nc ∧ (∀ k, s.storedKey role = some k → x.key = k) ∧
      (s.sessionOpen c req role version peer nc).deadline (.handshake s.freeSlot) = some (s.now + 2000000) := by
  obtain ⟨l, hl⟩ := s.activity_eq
  have hnow : s.drawnOpen.now = s.now := by
    rw [State.drawnOpen, hl]
    rfl
  generalize hx : s.halfOpened c.dest.via role peer nc = x
  have he := State.sessionOpen_eq (req := req) (nc := nc) h
  rw [hx] at he
  generalize s.drawnOpen = w at he hnow
  obtain ⟨hsec, htimer⟩ := State.answer_unprotected (s := (w.enroll x).arm (.handshake s.freeSlot) 2000000)
    (s.challengeReply x) hs
  have hmem : x ∈ ((w.enroll x).arm (.handshake s.freeSlot) 2000000).sec.sessions :=
    List.mem_append_right _ (List.mem_singleton_self x)
  have hdue : ((w.enroll x).arm (.handshake s.freeSlot) 2000000).deadline (.handshake s.freeSlot) = some (s.now + 2000000) :=
    (State.deadline_arm_self ..).trans (congrArg (fun n => some (n + 2000000)) hnow)
  rw [he]
  refine ⟨x, by rw [hsec]; exact hmem, ?_⟩
  subst hx
  exact ⟨rfl, rfl, rfl, rfl, rfl, rfl, fun k hk => by rw [State.halfOpened, hk]; rfl, (htimer _).trans hdue⟩

/-- A half-open session accepted (R120, R121, R139). -/
theorem State.acceptSession_open (w : State) (x : Session) :
    (w.acceptSession x).deadline (.sessionLife x.slot) = some (w.now + 60000000 * w.get Obj.sessionLifetime) ∧
    (w.acceptSession x).armed (.sessionIdle x.slot) = true ∧
    ∀ y ∈ (w.acceptSession x).sec.sessions, y.slot = x.slot → y.isOpen = true ∧ y.role = x.role ∧
      y.key = sessionKey x.key x.nc x.nd x.sid := by
  refine ⟨State.deadline_arm_self .., ?_, fun y hy hslot => ?_⟩
  · rw [State.armed_iff]
    exact ⟨_, (State.deadline_arm_ne _ _ _ _ (by simp)).trans (State.deadline_arm_self ..)⟩
  · obtain ⟨z, -, rfl⟩ := List.mem_map.mp (show y ∈ w.sec.sessions.map (fun y => if y.slot = x.slot then
      { x with isOpen := true, key := sessionKey x.key x.nc x.nd x.sid } else y) from hy)
    split at hslot
    next hz =>
      rw [if_pos hz]
      exact ⟨rfl, rfl, rfl⟩
    next hz => exact absurd hslot hz

/-! ## The messages of a handshake (Table 4-6) -/

/-- The message of a SessionOpen. -/
def openBody (role version : Byte) (peer : BitVec 16) (nc : BitVec 128) : Bytes :=
  [1#8, 0#8, 0#8, 0#8, role, version] ++ leBytes 2 peer.toNat ++ leBytes 16 nc.toNat ++ [0#8, 0#8, 0#8, 0#8]

theorem openBody_fields (role version : Byte) (peer : BitVec 16) (nc : BitVec 128) :
    fieldAt (openBody role version peer nc) 0 1 = 1 ∧ fieldAt (openBody role version peer nc) 4 1 = role.toNat ∧
    fieldAt (openBody role version peer nc) 5 1 = version.toNat ∧ fieldAt (openBody role version peer nc) 6 2 = peer.toNat ∧
    fieldAt (openBody role version peer nc) 8 16 = nc.toNat := by
  refine ⟨fieldAt_zero_one _ _, fieldAt_zero_one _ _, fieldAt_zero_one _ _, ?_, ?_⟩
  · rw [openBody, List.append_assoc _ (leBytes 16 _)]
    exact fieldAt_leBytes [1#8, 0#8, 0#8, 0#8, role, version] _ 2 _ peer.isLt
  · have h := fieldAt_leBytes ([1#8, 0#8, 0#8, 0#8, role, version] ++ leBytes 2 peer.toNat) [0#8, 0#8, 0#8, 0#8] 16 _ nc.isLt
    rwa [List.length_append, leBytes_length] at h

/-- The message of a SessionConfirm. -/
def acceptBody (sid : BitVec 16) (tag : BitVec 128) : Bytes :=
  [3#8, 0#8, 0#8, 0#8] ++ leBytes 2 sid.toNat ++ [0#8, 0#8] ++ leBytes 16 tag.toNat

theorem acceptBody_fields (sid : BitVec 16) (tag : BitVec 128) :
    fieldAt (acceptBody sid tag) 0 1 = 3 ∧ fieldAt (acceptBody sid tag) 4 2 = sid.toNat ∧
    fieldAt (acceptBody sid tag) 8 16 = tag.toNat := by
  refine ⟨fieldAt_zero_one _ _, ?_, ?_⟩
  · rw [acceptBody, List.append_assoc _ [0#8, 0#8]]
    exact fieldAt_leBytes [3#8, 0#8, 0#8, 0#8] _ 2 _ sid.isLt
  · have h := fieldAt_leBytes ([3#8, 0#8, 0#8, 0#8] ++ leBytes 2 sid.toNat ++ [0#8, 0#8]) [] 16 _ tag.isLt
    rwa [List.length_append, List.length_append, leBytes_length, List.append_nil] at h

section

variable {s u : State} {r : ReqCtx} {b : Bytes} {c : Caller}

/-- A SessionOpen served. -/
theorem Claims.exec_sessionOpen {r' : ReqCtx} {role version : Byte} {peer : BitVec 16} {nc : BitVec 128}
    (h : Claims.Served (.sessionOpen r role version peer nc) s r' b c u) :
    exec (.sessionOpen r role version peer nc) s = .next (Claims.finished s r'
      (u.sessionOpen c b role.toNat version.toNat peer.toNat nc.toNat)) := by
  have hi : Claims.message (.sessionOpen r role version peer nc) = some (r, 12, 0, openBody role version peer nc) := rfl
  obtain ⟨rfl, rfl, -⟩ := Claims.served_entry h hi
  obtain ⟨hsvc, -⟩ := Claims.served_caller h hi
  obtain ⟨hkind, hrole, hversion, hpeer, hnc⟩ := openBody_fields role version peer nc
  have hact : u.act c (openBody role version peer nc) =
      u.sessionOpen c (openBody role version peer nc) role.toNat version.toNat peer.toNat nc.toNat := by
    rw [State.act, hsvc]
    simp only [State.serveSession, hkind, hrole, hversion, hpeer, hnc, if_true]
  rw [Claims.exec_served h hi (.inr rfl) (by decide) rfl, hact]

/-- A SessionConfirm served while the Cork works. -/
theorem Claims.exec_sessionConfirm {r' : ReqCtx} {sid : BitVec 16} {tag : BitVec 128}
    (h : Claims.Served (.sessionConfirm r sid tag) s r' b c u) (hrun : u.running = true) (hready : u.power.corkReady = true)
    (hhalt : CoreId.cork ∉ u.sec.halted) :
    exec (.sessionConfirm r sid tag) s = .next (Claims.finished s r' (u.sessionConfirm c sid.toNat tag.toNat)) := by
  have hi : Claims.message (.sessionConfirm r sid tag) = some (r, 12, 0, acceptBody sid tag) := rfl
  obtain ⟨rfl, rfl, -⟩ := Claims.served_entry h hi
  obtain ⟨hsvc, -⟩ := Claims.served_caller h hi
  obtain ⟨hkind, hsid, htag⟩ := acceptBody_fields sid tag
  have hfree : (!u.sec.halted.contains CoreId.cork) = true := by simpa using hhalt
  have hact : u.act c (acceptBody sid tag) = u.sessionConfirm c sid.toNat tag.toNat := by
    rw [State.act, hsvc]
    simp only [State.serveSession, hkind, hsid, htag]
    rw [if_neg (by decide), if_pos trivial, if_pos ⟨hrun, hready, hfree⟩]
  rw [Claims.exec_served h hi (.inr rfl) (by decide) rfl, hact]

/-- The outcomes of a SessionConfirm for a half-open session (R121, R144). -/
theorem State.sessionConfirm_cases {x : Session} {sid : Nat} {tag : BitVec 128}
    (hx : u.sec.sessions.find? (fun x => !x.isOpen && x.sid == sid && x.peer == c.dest.peer && x.via == c.dest.via) = some x) :
    (Config.cmac x.key (handshakeInput 0x43 x.role x.peer x.nd x.nc x.sid u.serial) = tag → u.sec.entropyFailed = false →
      u.sessionConfirm c sid tag.toNat = (u.activity.acceptSession x).answer c
        ([0#8, 0#8, 4#8, 0#8] ++ leBytes 2 x.sid ++ leBytes 2 (u.get Obj.sessionIdleTimeout))) ∧
    (Config.cmac x.key (handshakeInput 0x43 x.role x.peer x.nd x.nc x.sid u.serial) ≠ tag →
      u.sessionConfirm c sid tag.toNat = (u.dropHalf x.slot).handshakeFailed x.role) := by
  refine ⟨fun ht he => ?_, fun ht => ?_⟩
  · rw [State.sessionConfirm, hx]
    dsimp only
    rw [ht, if_neg (by simp), he, if_neg (by simp)]
  · rw [State.sessionConfirm, hx]
    exact if_pos fun e => ht (BitVec.eq_of_toNat_eq e)

end

end Sys2Proof.Machine

namespace Sys2Proof.Machine

open Sys2Proof

/-! ## The requests of power states, lifecycles, keys, sessions and debug levels -/

section

variable {s u : State} {r r' : ReqCtx} {b : Bytes} {c : Caller}

/-- A request for a power state past its checks (R87, R192, R717). -/
theorem Claims.exec_powerState {i : Instr} {v : Nat} (hv : v = 2 ∨ v = 3 ∨ v = 4 ∨ v = 5 ∨ v = 6)
    (hi : Claims.message i = some (r', 1, 0, Claims.numberBody Obj.powerStateRequest v))
    (he : exec i s = .next (s.arrive r' 1 0 (Claims.numberBody Obj.powerStateRequest v))) (h : Claims.Served i s r b c u)
    (hf : Claims.writeFault c u Obj.powerStateRequest v (objSize Obj.powerStateRequest) = none) :
    exec i s = .next (Claims.finished s r (u.activity.powerRequest c b v)) := by
  have hlt : v < 256 ^ objSize Obj.powerStateRequest := Nat.lt_of_lt_of_le (by omega : v < 256) (by decide)
  have hn := leNat_numberBytes hlt
  obtain ⟨d, hd⟩ : ∃ d, objOf Obj.powerStateRequest = some d := Option.isSome_iff_exists.mp (by decide)
  rw [Claims.exec_write hi he (by decide) hd h (by rwa [hn, leBytes_length]), hn, State.writeObject, if_pos rfl]

theorem Claims.exec_lifecycleRequest {v : Byte} (h : Claims.Served (.lifecycleRequest r' v) s r b c u)
    (hf : Claims.writeFault c u Obj.lifecycleRequest v.toNat (objSize Obj.lifecycleRequest) = none) (hc : u.eng.commit = none) :
    exec (.lifecycleRequest r' v) s = .next (Claims.finished s r (u.activity.lifecycleWrite c b v.toNat)) := by
  have hfree : u.activity.eng.commit = none := by rw [u.activity_same.1, hc]
  rw [Claims.exec_number (k := Obj.lifecycleRequest) rfl rfl (by decide)
    (Nat.lt_of_lt_of_le v.isLt (by decide)) h hf, Claims.writeState, if_neg (by decide), State.actWo_lifecycleRequest _ hfree]

theorem Claims.exec_roleKeyWrite {n : Fin 5} {key : Bytes} (h : Claims.Served (.roleKeyWrite r' n key) s r b c u)
    (hf : Claims.writeFault c u (keyObject n) (leNat key) key.length = none) :
    exec (.roleKeyWrite r' n key) s = .next (Claims.finished s r
      (u.activity.keyWrite c b n.val (keyObject n / 256) (keyObject n % 256) key)) := by
  rw [Claims.exec_command (k := keyObject n) rfl rfl (isCommand_keyObject n) h hf, writeState_keyObject, State.actWo_key]

theorem Claims.exec_debugRequest {level : Byte} (h : Claims.Served (.debugRequest r' level) s r b c u)
    (hf : Claims.writeFault c u Obj.debugRequest level.toNat (objSize Obj.debugRequest) = none) :
    exec (.debugRequest r' level) s = .next (Claims.finished s r (u.activity.debugWrite c level.toNat)) := by
  rw [Claims.exec_number (k := Obj.debugRequest) rfl rfl (by decide)
    (Nat.lt_of_lt_of_le level.isLt (by decide)) h hf, Claims.writeState, if_neg (by decide), State.actWo_debugRequest]

theorem Claims.exec_debugToken {t : Bytes} (h : Claims.Served (.debugToken r' t) s r b c u)
    (hf : Claims.writeFault c u Obj.debugToken (leNat t) t.length = none) :
    exec (.debugToken r' t) s = .next (Claims.finished s r (u.activity.tokenWrite c b t)) := by
  rw [Claims.exec_command (k := Obj.debugToken) rfl rfl (by decide) h hf, Claims.writeState, if_neg (by decide),
    State.actWo_debugToken]

/-- Lifecycle.Confirm is held with its instant (R109). -/
theorem Claims.does_lifecycleConfirm (r' : ReqCtx) (v : BitVec 16) :
    Claims.Does (.lifecycleConfirm r' v) Obj.lifecycleConfirm v.toNat (fun _ w =>
      { w with sec.confirm := some (v.toNat, w.now) }) := by
  intro s r b c u h hf hfree
  have hcommand : ∀ w : State, w.actCommand c Obj.lifecycleConfirm v.toNat = { w with sec.confirm := some (v.toNat, w.now) } :=
    fun w => by rw [State.actCommand, if_neg (by decide), if_pos rfl]
  rw [Claims.exec_number (k := Obj.lifecycleConfirm) rfl rfl (by decide) (Nat.lt_of_lt_of_le v.isLt (by decide)) h hf,
    State.actWo_command _ _ (by decide) (by decide) (.inr (by decide)), hcommand]

end

/-- A requested power state that has passed its checks: carried out, or held behind the commit in application. -/
theorem exec_powerState_cases (i : Instr) (v : Nat) (r : ReqCtx) (hiv : (i, v) ∈ [(Instr.requestDormant r, 2),
      (Instr.requestStandby r, 3), (Instr.requestActive r, 4), (Instr.requestService r, 5), (Instr.requestRestart r, 6)])
    (s : State) (b : Bytes) (c : Caller) (u : State) (h : Claims.Served i s r b c u)
    (hf : Claims.writeFault c u Obj.powerStateRequest v (objSize Obj.powerStateRequest) = none)
    (ha : u.activity.powerRefusal v = none) :
    (u.eng.commit = none → exec i s = .next (Claims.finished s r (
      let w := (u.activity.done c 0x1800 2).set Obj.powerStateRequest v
      let x := if w.power.state = .service then w.leaveService else w
      if v = w.power.state.code then w else if v = 2 then w.beginShutdown .request 3 false 0 []
      else if v = 3 then x.fallToStandby 3 else if v = 4 then x.towardsActive 3
      else if v = 5 then w.towardsService 3 false else w.restart 3))) ∧
    (u.eng.commit.isSome → exec i s = .next (Claims.finished s r
      ({ u.activity with eng.deferredPower := u.eng.deferredPower ++
        [(⟨{ c with deferred := true }, none, b, 0, u.now, true⟩ : Held)] }.abort c b (0x0A, 0)))) := by
  simp only [List.mem_cons, Prod.mk.injEq, List.not_mem_nil, or_false] at hiv
  have hv : v = 2 ∨ v = 3 ∨ v = 4 ∨ v = 5 ∨ v = 6 := by omega
  have hi : Claims.message i = some (r, 1, 0, Claims.numberBody Obj.powerStateRequest v) := by
    rcases hiv with ⟨rfl, rfl⟩ | ⟨rfl, rfl⟩ | ⟨rfl, rfl⟩ | ⟨rfl, rfl⟩ | ⟨rfl, rfl⟩ <;> rfl
  have he : exec i s = .next (s.arrive r 1 0 (Claims.numberBody Obj.powerStateRequest v)) := by
    rcases hiv with ⟨rfl, rfl⟩ | ⟨rfl, rfl⟩ | ⟨rfl, rfl⟩ | ⟨rfl, rfl⟩ | ⟨rfl, rfl⟩ <;> rfl
  obtain ⟨-, -, -, hdeferred, -, -⟩ := Claims.served_caller h hi
  have hx := Claims.exec_powerState hv hi he h hf
  refine ⟨fun hc => ?_, fun hc => ?_⟩
  · rw [hx, State.powerRequest_free ha hc, State.doPower_eq _ hv]
  · rw [hx, State.powerRequest_wait ha hc hdeferred]

/-- A key written: plain in BLANK, unwrapped elsewhere, or refused (R114). -/
theorem exec_roleKeyWrite_cases (r : ReqCtx) (n : Fin 5) (key : Bytes) (s : State) (b : Bytes) (c : Caller) (u : State)
    (h : Claims.Served (.roleKeyWrite r n key) s r b c u)
    (hf : Claims.writeFault c u (keyObject n) (leNat key) key.length = none) :
    (u.lifecycle = 0 → exec (.roleKeyWrite r n key) s = .next (Claims.finished s r
      ((u.activity.sealKey n.val (leNat key)).done c (keyObject n / 256) (keyObject n % 256)))) ∧
    (∀ v, u.keyFrom c key = some v → exec (.roleKeyWrite r n key) s = .next (Claims.finished s r
      ((u.activity.sealKey n.val v).done c (keyObject n / 256) (keyObject n % 256)))) ∧
    (u.keyFrom c key = none → exec (.roleKeyWrite r n key) s = .next (Claims.finished s r
      (u.activity.abort c b (0x0B, 0)))) := by
  obtain ⟨hsome, hnone⟩ := State.keyWrite_cases (u := u) (c := c) (req := b) (value := key) (which := n.val)
    (index := keyObject n / 256) (sub := keyObject n % 256)
  have hx := Claims.exec_roleKeyWrite h hf
  refine ⟨fun hl => ?_, fun v hv => ?_, fun hv => ?_⟩
  · rw [hx, hsome _ (if_pos hl)]
  · rw [hx, hsome v hv]
  · rw [hx, hnone hv]

/-- A Lifecycle.Request past its checks (R109, R111, R714). -/
theorem exec_lifecycleRequest_cases (r : ReqCtx) (v : Byte) (s : State) (b : Bytes) (c : Caller) (u : State)
    (h : Claims.Served (.lifecycleRequest r v) s r b c u)
    (hf : Claims.writeFault c u Obj.lifecycleRequest v.toNat (objSize Obj.lifecycleRequest) = none)
    (hc : u.eng.commit = none) :
    (u.confirmed = true → u.lifecycleUnmet v.toNat = none → v ≠ 3#8 →
      exec (.lifecycleRequest r v) s = .next (Claims.finished s r
        ((u.activity.done c 0x1A00 2).beginLifecycle v.toNat 0))) ∧
    (u.confirmed = true → u.lifecycleUnmet v.toNat = none → v = 3#8 →
      (Config.eraseOk u.free = true → exec (.lifecycleRequest r v) s = .next (Claims.finished s r
        (((u.activity.done c 0x1A00 2).eraseKeys true).beginLifecycle 3 0))) ∧
      (Config.eraseOk u.free = false → exec (.lifecycleRequest r v) s = .next (Claims.finished s r
        ((u.activity.abort c b (0x0C, 4)).eraseKeys false)))) ∧
    (u.confirmed = false → exec (.lifecycleRequest r v) s = .next (Claims.finished s r
      (u.activity.abort c b (0x0C, 0)))) := by
  obtain ⟨hbegin, herase, hstands, hunconfirmed⟩ := State.lifecycleWrite_cases (u := u) (c := c) (req := b) (v := v.toNat)
  have hx := Claims.exec_lifecycleRequest h hf hc
  refine ⟨fun h1 h2 h3 => ?_, fun h1 h2 h3 => ⟨fun h4 => ?_, fun h4 => ?_⟩, fun h1 => ?_⟩
  · rw [hx, hbegin h1 h2 fun e => h3 (BitVec.eq_of_toNat_eq e)]
  · rw [hx, herase h1 h2 (congrArg BitVec.toNat h3) h4]
  · rw [hx, hstands h1 h2 (congrArg BitVec.toNat h3) h4]
  · rw [hx, hunconfirmed h1]

/-- A SessionOpen that is not refused (R117, R120, R144). -/
theorem answers_sessionOpen (r : ReqCtx) (role version : Byte) (peer : BitVec 16) (nc : BitVec 128) (s : State) (b : Bytes)
    (c : Caller) (u : State) (h : Claims.Served (.sessionOpen r role version peer nc) s r b c u)
    (ha : u.sessionRefusal (reqPeer r) role.toNat version.toNat peer.toNat = none) (ht : r.trailer = none) :
    Claims.Answers (.sessionOpen r role version peer nc) s (fun t => ∃ x ∈ t.sec.sessions,
      x.slot = u.freeSlot ∧ x.role = role.toNat ∧ x.peer = peer.toNat ∧ x.via = r.via ∧ x.isOpen = false ∧
        x.nc = nc.toNat ∧ (∀ k, u.storedKey role.toNat = some k → x.key = k) ∧
        t.deadline (.handshake u.freeSlot) = some (s.now + 2000000)) := by
  have hi : Claims.message (.sessionOpen r role version peer nc) = some (r, 12, 0, openBody role version peer nc) := rfl
  obtain ⟨-, hpeer, hvia, -, hnow, hsession⟩ := Claims.served_caller h hi
  obtain ⟨x, hx⟩ := State.sessionOpen_plain (req := b) (nc := nc.toNat) (hpeer.symm ▸ ha) (hsession ht)
  rw [hvia, hnow] at hx
  refine ⟨_, Claims.exec_sessionOpen h, x, ?_⟩
  rw [Claims.finished, ht]
  exact hx

/-- Settles O58: every request that passes its checks is its service at the state of its entry. -/
theorem powerKeysSessionsAndDebug : Obligations.PowerKeysSessionsAndDebug := by
  unfold Obligations.PowerKeysSessionsAndDebug
  refine ⟨exec_powerState_cases, Claims.does_lifecycleConfirm, exec_lifecycleRequest_cases, exec_roleKeyWrite_cases,
    fun w n key => ⟨State.sealKey_same, fun m hm => w.sealKey_other key hm, w.sealKey_keyWrites n.val key, rfl⟩,
    State.eraseKeys_sec, fun r role version peer nc s b c u h ha => ⟨Claims.exec_sessionOpen h,
      answers_sessionOpen r role version peer nc s b c u h ha⟩, ?_, State.acceptSession_open, ?_, ?_,
    fun w level owner h => w.setDebug_open owner h⟩
  · intro r sid tag s b c u x h hrun hready hhalt hx
    have hi : Claims.message (.sessionConfirm r sid tag) = some (r, 12, 0, acceptBody sid tag) := rfl
    obtain ⟨-, hpeer, hvia, -⟩ := Claims.served_caller h hi
    obtain ⟨hgood, hbad⟩ := State.sessionConfirm_cases (c := c) (tag := tag) (sid := sid.toNat) (by rwa [hpeer, hvia])
    have hexec := Claims.exec_sessionConfirm h hrun hready hhalt
    exact ⟨fun ht he => by rw [hexec, hgood ht he], fun ht => by rw [hexec, hbad ht]⟩
  · intro r level s b c u h hf
    exact Claims.exec_debugRequest h hf
  · intro r t s b c u h hf hg
    obtain ⟨herase, hstands, hlevel⟩ := State.tokenWrite_cases (c := c) (req := b) hg
    have hexec := Claims.exec_debugToken h hf
    exact ⟨fun hk he => by rw [hexec, herase hk he], fun hk he => by rw [hexec, hstands hk he],
      fun hk => by rw [hexec, hlevel hk]⟩

end Sys2Proof.Machine

namespace Sys2Proof.Machine

open Sys2Proof

/-! ## The test access port (R127, R129 to R131) -/

/-- The word that IDCODE captures of a die revision (R131). -/
def idcodeWord (revision : Nat) : BitVec 64 := BitVec.ofNat 64 (revision * 2 ^ 28 + 0x4216 * 2 ^ 12 + 0x3A7 * 2 + 1)

theorem idcodeWord_fields (r : Fin 16) : (idcodeWord r).extractLsb' 28 4 = BitVec.ofNat 4 r ∧
    (idcodeWord r).extractLsb' 12 16 = 0x4216#16 ∧ (idcodeWord r).extractLsb' 1 11 = 0x3A7#11 ∧
    (idcodeWord r).extractLsb' 0 1 = 1#1 ∧ (idcodeWord r).extractLsb' 32 32 = 0#32 := by
  revert r
  decide

/-- Settles O15: the four low bits of the die revision are all that the word holds of it. -/
theorem idcodeReads : Obligations.IdcodeReads := by
  intro s up
  obtain ⟨revision, part, maker, one, high⟩ := idcodeWord_fields (Fin.ofNat 16 (s.get Obj.identityDieRevision))
  refine ⟨idcodeWord (s.get Obj.identityDieRevision % 16), ?_, ?_, part, maker, one, high⟩
  · show Host.Outcome.next (s.when s.tapUp _) = _
    rw [up]
    rfl
  · refine revision.trans (BitVec.eq_of_toNat_eq ?_)
    rw [BitVec.toNat_ofNat, BitVec.toNat_ofNat]
    exact Nat.mod_mod _ _

theorem State.debugReach_samplePreload (s : State) : s.debugReach .samplePreload = true ↔ s.get Obj.debugLevel ≠ 0 := by
  rw [State.debugReach, debugReaches, decide_eq_true_iff, Nat.one_le_iff_ne_zero]

theorem State.debugReach_extest (s : State) :
    s.debugReach .extest = true ↔ 2 ≤ s.get Obj.debugLevel ∧ (s.lifecycle = 0 ∨ s.lifecycle = 3) := by
  simp only [State.debugReach, debugReaches, Bool.and_eq_true, decide_eq_true_iff, Bool.or_eq_true, beq_iff_eq]

/-- SAMPLE/PRELOAD while the test access port works. -/
theorem exec_samplePreload {s : State} (up : s.tapUp = true) : exec .samplePreload s = .next
    (if s.debugReach .samplePreload then
      { s with sec.jtagInstr := 2, sec.captured := s.ballCells, sec.boundary := s.ballCells }
    else { s with sec.jtagInstr := 0 }) := by
  show Host.Outcome.next (s.when s.tapUp _) = _
  rw [up, State.when_true]

/-- The balls that EXTEST drives from the cells (R129, log entry 38). -/
def State.driveBalls (s : State) (cells : BitVec 64) : State :=
  { s with pins := { s.pins with
    twinAct := cells.getLsbD 22, canStbA := cells.getLsbD 23, canStbB := cells.getLsbD 24,
    feGpio := BitVec.ofNat 16 (cells.toNat / 2 ^ 32) } }

/-- EXTEST while the test access port works. -/
theorem exec_extest {s : State} (cells : BitVec 64) (up : s.tapUp = true) : exec (.extest cells) s = .next
    (if s.debugReach .extest then
      { s.driveBalls cells with sec := { s.sec with jtagInstr := 3, captured := s.ballCells, boundary := cells } }
    else { s with sec.jtagInstr := 0 }) := by
  show Host.Outcome.next (s.when s.tapUp _) = _
  rw [up, State.when_true]
  rfl

/-- Settles O16: each instruction is the branch that its debug level and lifecycle name. -/
theorem testAccessPort : Obligations.TestAccessPort := by
  intro s up
  refine ⟨fun b => ?_, fun closed => ?_, fun above => ?_, fun c full life => ?_, fun c other => ?_⟩
  · show Host.Outcome.next (s.when s.tapUp _) = _
    rw [up, State.when_true]
  · rw [exec_samplePreload up, if_neg (mt s.debugReach_samplePreload.mp (not_not_intro closed))]
  · rw [exec_samplePreload up, if_pos (s.debugReach_samplePreload.mpr above)]
  · refine ⟨_, exec_extest c up, ?_⟩
    rw [if_pos (s.debugReach_extest.mpr ⟨full, life⟩)]
    exact ⟨rfl, rfl, rfl, rfl, rfl, rfl, rfl, rfl⟩
  · rw [exec_extest c up, if_neg (mt s.debugReach_extest.mp other)]

end Sys2Proof.Machine

namespace Sys2Proof.Machine

open Sys2Proof

/-! ## Debug sessions and halts (R127, R134, R135, R630) -/

/-- A timer stays armed when another stops. -/
theorem State.armed_disarm_ne (s : State) {t u : TimerId} (h : u ≠ t) : (s.disarm t).armed u = s.armed u := by
  rw [Bool.eq_iff_iff, State.armed_iff, State.armed_iff, s.deadline_disarm_ne t u h]

/-- A timer's state survives another's start. -/
theorem State.armed_arm_ne (s : State) {t u : TimerId} (us : Nat) (h : u ≠ t) : (s.arm t us).armed u = s.armed u := by
  rw [Bool.eq_iff_iff, State.armed_iff, State.armed_iff, s.deadline_arm_ne t u us h]

/-- Cores put back under their watchdogs. -/
def State.resumeCores (s : State) (cores : List CoreId) : State :=
  cores.foldl (fun (s : State) c => s.arm (.watchdog c) (s.watchdogTime c)) s

/-- A debug session whose end is not held: its level closed, its timer stopped, its halted cores back. -/
def State.closeDebug (s : State) : State :=
  { ((s.set Obj.debugLevel 0).disarm .debugEnd).resumeCores s.sec.halted with sec.debugOwner := none, sec.halted := [] }

theorem State.resumeCores_fr (s : State) (cores : List CoreId) : Fr 2 s (s.resumeCores cores) :=
  prop_foldl (P := Fr 2 s) (Fr.refl 2 s) (fun _ _ _ kept => State.arm_fr _ _ _ rfl kept)

theorem State.endDebug_open {s : State} (h : s.get Obj.debugLevel ≠ 0) : s.endDebug false = s.closeDebug :=
  if_neg fun idle => h idle.1

theorem State.resumeCores_watched (s : State) (cores : List CoreId) :
    ∀ c ∈ cores, (s.resumeCores cores).armed (.watchdog c) = true := by
  have arms (l : List CoreId) (u : State) (c : CoreId) (h : c ∈ l ∨ u.armed (.watchdog c) = true) :
      (u.resumeCores l).armed (.watchdog c) = true := by
    induction l generalizing u with
    | nil => exact h.resolve_left List.not_mem_nil
    | cons k l ih =>
      refine ih _ ?_
      by_cases hk : c = k
      · exact .inr (hk ▸ State.armed_arm_self _ _ _)
      · refine h.imp (fun hc => (List.mem_cons.mp hc).resolve_left hk) fun hc => ?_
        rwa [State.armed_arm_ne _ _ fun e => hk (TimerId.watchdog.inj e)]
  exact fun c hc => arms cores s c (.inl hc)

theorem State.resumeCores_armed_ne (s : State) (cores : List CoreId) {t : TimerId} (h : ∀ c, t ≠ .watchdog c) :
    (s.resumeCores cores).armed t = s.armed t :=
  prop_foldl (P := fun u => u.armed t = s.armed t) rfl (fun _ _ _ kept => (State.armed_arm_ne _ _ (h _)).trans kept)

theorem debugTimeout_closes {s : State} (d : Nat) (due : s.deadline .debugEnd = some d)
    (open_ : s.get Obj.debugLevel ≠ 0) : Claims.Answers .debugTimeout s (fun t =>
      t.get Obj.debugLevel = 0 ∧ t.sec.debugOwner = none ∧ t.sec.halted = [] ∧ t.armed .debugEnd = false ∧
        ∀ k ∈ s.sec.halted, t.armed (.watchdog k) = true) := by
  have level : (Claims.expired s .debugEnd d).get Obj.debugLevel ≠ 0 := by
    rwa [State.get_expired _ _ _ _ (by decide) (by decide) (by decide)]
  have halted : (Claims.expired s .debugEnd d).sec.halted = s.sec.halted :=
    congrArg Security.halted ((expired_fr s .debugEnd d).sec rfl)
  refine ⟨(Claims.expired s .debugEnd d).closeDebug, ?_, ?_, rfl, rfl, ?_, ?_⟩
  · show Host.Outcome.next (s.onTimer .debugEnd _) = _
    rw [State.onTimer_of_deadline _ due, State.endDebug_open level]
  · exact (State.get_congr ((State.resumeCores_fr _ _).dict rfl) _).trans
      ((State.get_disarm _ _ _).trans (State.get_set_self _ _ _))
  · exact (State.resumeCores_armed_ne _ _ (by simp)).trans (State.armed_disarm_self _ _)
  · rw [← halted]
    exact State.resumeCores_watched _ _

/-- The core stopped, its watchdog suspended. -/
def State.haltOne (s : State) (c : CoreId) : State := ({ s with sec.halted := s.sec.halted ++ [c] }).disarm (.watchdog c)

theorem exec_debugHalt {s : State} {c : CoreId} (may : s.mayHalt c = true) : exec (.debugHalt c) s = .next
    ((match c with | .press => (s.hardMute).paOff | _ => s).haltOne c) := by
  show Host.Outcome.next (s.when (s.mayHalt c) _) = _
  rw [may, State.when_true]
  rfl

theorem State.haltOne_parts (s : State) (c : CoreId) : (s.haltOne c).sec.halted = s.sec.halted ++ [c] ∧
    (s.haltOne c).armed (.watchdog c) = false ∧ (s.haltOne c).power = s.power ∧ (s.haltOne c).pins = s.pins :=
  ⟨rfl, State.armed_disarm_self _ _, rfl, rfl⟩

theorem debugHalt_halts {s : State} {c : CoreId} (may : s.mayHalt c = true) : Claims.Answers (.debugHalt c) s (fun t =>
    t.sec.halted = s.sec.halted ++ [c] ∧ t.armed (.watchdog c) = false ∧ t.power = s.power ∧
      (c = .press → t.pins.rfMuteN = false ∧ t.pins.paEn = 0) ∧ (c ≠ .press → t.pins = s.pins)) := by
  cases c with
  | press =>
    have muted : Fr 1168231104662 s s.hardMute := State.hardMute_fr s rfl (Fr.refl _ s)
    have off : Fr 84 s.hardMute s.hardMute.paOff := State.paOff_fr _ rfl (Fr.refl _ _)
    obtain ⟨halted, suspended, power, pins⟩ := s.hardMute.paOff.haltOne_parts .press
    refine ⟨_, exec_debugHalt may, ?_, suspended, ?_, fun _ => ⟨?_, ?_⟩, fun other => absurd rfl other⟩
    · rw [halted, off.sec rfl, muted.sec rfl]
    · rw [power, off.power rfl, muted.power rfl]
    · rw [pins, off.pins_rfMuteN rfl, State.hardMute_rfMuteN]
    · rw [pins, State.paOff_paEn]
  | vintner | cork =>
    obtain ⟨halted, suspended, power, pins⟩ := s.haltOne_parts _
    exact ⟨_, exec_debugHalt may, halted, suspended, power, nofun, fun _ => pins⟩

theorem exec_debugResume {s : State} {c : CoreId} (halted : c ∈ s.sec.halted) (full : s.get Obj.debugLevel = 2) :
    exec (.debugResume c) s = .next
      (({ s with sec.halted := s.sec.halted.filter (fun x => x != c) }).arm (.watchdog c) (s.watchdogTime c)) := by
  have may : (s.sec.halted.contains c && s.get Obj.debugLevel == 2) = true := by simp [halted, full]
  show Host.Outcome.next (s.when (s.sec.halted.contains c && s.get Obj.debugLevel == 2) _) = _
  rw [may, State.when_true]

/-- FULL halts the Cork in BLANK and RETURNED alone (Table 4-8). -/
theorem State.lifecycle_of_mayHalt_cork {s : State} (may : s.mayHalt .cork = true) : s.lifecycle = 0 ∨ s.lifecycle = 3 := by
  simp only [State.mayHalt, State.debugReach, debugReaches, Bool.and_eq_true, Bool.or_eq_true, beq_iff_eq] at may
  obtain ⟨⟨⟨-, life⟩, -⟩, -⟩ := may
  exact life

/-- Below FULL no core is halted and no memory written (Table 4-8). -/
theorem debugReaches_below_full {level : Nat} (life : Nat) (c : CoreId) (below : level < 2) :
    debugReaches level life (.halt c) = false ∧ debugReaches level life (.memory c true) = false := by
  have closed : decide (2 ≤ level) = false := decide_eq_false (Nat.not_le.mpr below)
  cases c with
  | press | vintner => exact ⟨closed, closed⟩
  | cork => exact ⟨by rw [debugReaches, closed, Bool.false_and], closed⟩

/-- Settles O17: a clause per command, and Table 4-8 row by row. -/
theorem debugHalts : Obligations.DebugHalts :=
  ⟨fun _ _ => ⟨debugHalt_halts, exec_debugResume, debugTimeout_closes, State.lifecycle_of_mayHalt_cork⟩,
    fun _ life c below => debugReaches_below_full life c below, fun _ _ _ => ⟨rfl, rfl⟩⟩

end Sys2Proof.Machine

namespace Sys2Proof.Machine

open Sys2Proof

/-! ## Bits taken out of a number -/

theorem mod_two_le_of_and_eq {a b : Nat} (h : a &&& b = a) : a % 2 ≤ b % 2 := by
  have low : a % 2 = 1 → b % 2 = 1 := fun odd => (Nat.and_mod_two_eq_one.mp (h.symm ▸ odd)).2
  omega

/-- A number less one whose bits it all has keeps the bits that the other has not. -/
theorem testBit_sub_of_and_eq {a b : Nat} (h : a &&& b = a) (n : Nat) :
    (b - a).testBit n = (b.testBit n && !a.testBit n) := by
  have le : a ≤ b := h ▸ Nat.and_le_right
  have low := mod_two_le_of_and_eq h
  induction n generalizing a b with
  | zero =>
    rw [Nat.testBit_zero, Nat.testBit_zero, Nat.testBit_zero, ← decide_not, ← Bool.decide_and, decide_eq_decide]
    omega
  | succ n ih =>
    have half : a / 2 &&& b / 2 = a / 2 := by rw [← Nat.and_div_two, h]
    have diff : (b - a) / 2 = b / 2 - a / 2 := by omega
    rw [Nat.testBit_succ, Nat.testBit_succ, Nat.testBit_succ, diff]
    exact ih half (half ▸ Nat.and_le_right) (mod_two_le_of_and_eq half)

theorem testBit_clearBit_self (v i : Nat) : (clearBit v i).testBit i = false := by
  unfold clearBit
  split
  · next set =>
    have part : 2 ^ i &&& v = 2 ^ i := by
      rw [Nat.and_comm, Nat.and_two_pow, set, Bool.toNat_true, Nat.one_mul]
    rw [testBit_sub_of_and_eq part, Nat.testBit_two_pow_self, Bool.not_true, Bool.and_false]
  · next clear => exact Bool.eq_false_iff.mpr clear

/-! ## Sessions that end by time (R121, R134, R139, R140, R144) -/

/-- Every part but the memories. -/
def memWork : Nat := maskBut [26, 27, 28, 29, 30, 31, 32, 33]

theorem Fr.mems {v s : State} (h : Fr memWork v s) : s.mems = v.mems := by
  have parts : s.mems = ⟨s.mems.cask, s.mems.ctl, s.mems.vint, s.mems.mbReq, s.mems.mbRsp, s.mems.rcv, s.mems.bankA,
    s.mems.bankB⟩ := rfl
  rw [parts, h.mems_cask rfl, h.mems_ctl rfl, h.mems_vint rfl, h.mems_mbReq rfl, h.mems_mbRsp rfl, h.mems_rcv rfl,
    h.mems_bankA rfl, h.mems_bankB rfl]

theorem expired_mems (s : State) (T : TimerId) (d : Nat) : (Claims.expired s T d).mems = s.mems :=
  (State.disarm_fr _ T rfl (State.elapse_fr s _ rfl (Fr.refl memWork s))).mems

theorem handshakeTimeout_drops {s : State} {n : Fin 8} {d : Nat} {x : Session}
    (due : s.deadline (.handshake n.val) = some d)
    (half : s.sec.sessions.find? (fun y => y.slot == n.val && !y.isOpen) = some x) : exec (.handshakeTimeout n) s =
      .next (((Claims.expired s (.handshake n.val) d).dropHalf n.val).handshakeFailed x.role) := by
  show Host.Outcome.next (s.onTimer (.handshake n.val) _) = _
  rw [State.onTimer_of_deadline _ due, (expired_fr s (.handshake n.val) d).sec rfl, half]

/-- The debug level closed, the cores that it had halted left halted. -/
def State.holdDebug (s : State) : State := { (s.set Obj.debugLevel 0).disarm .debugEnd with sec.debugOwner := none }

theorem State.endDebug_eq (s : State) (hold : Bool) : s.endDebug hold =
    if s.get Obj.debugLevel = 0 ∧ s.sec.debugOwner.isNone ∧ s.sec.halted.isEmpty then s
    else if hold then s.holdDebug else s.closeDebug := rfl

/-- What holds of a state and of both ways to end its debug holds once debug has ended. -/
theorem State.endDebug_cases {P : State → Prop} (s : State) (hold : Bool) (idle : P s) (held : P s.holdDebug)
    (closed : P s.closeDebug) : P (s.endDebug hold) := by
  rw [State.endDebug_eq]
  exact prop_ite idle (prop_ite held closed)

theorem State.closeDebug_sec (s : State) : s.closeDebug.sec = { s.sec with debugOwner := none, halted := [] } := by
  have resumed := (State.resumeCores_fr ((s.set Obj.debugLevel 0).disarm .debugEnd) s.sec.halted).sec rfl
  rw [State.closeDebug, resumed]
  rfl

theorem State.endDebug_ended (s : State) (hold : Bool) : (s.endDebug hold).sec.ended = s.sec.ended :=
  s.endDebug_cases (P := fun u => u.sec.ended = s.sec.ended) hold rfl rfl (by rw [s.closeDebug_sec])

/-- The end of debug stops no timer but its own and starts none but watchdogs. -/
theorem State.armed_endDebug (s : State) (hold : Bool) {t : TimerId} (own : t ≠ .debugEnd) (core : ∀ c, t ≠ .watchdog c) :
    (s.endDebug hold).armed t = s.armed t :=
  s.endDebug_cases (P := fun u => u.armed t = s.armed t) hold rfl (State.armed_disarm_ne _ own)
    ((State.resumeCores_armed_ne _ _ core).trans (State.armed_disarm_ne _ own))

/-- The end of the session in a slot: it is out of the table, its timers stop, and its identifier is kept. -/
structure SessionEnded (s : State) (slot : Nat) (t : State) : Prop where
  sessions : t.sec.sessions = s.sec.sessions.filter (fun x => !(x.slot == slot))
  idle : t.armed (.sessionIdle slot) = false
  life : t.armed (.sessionLife slot) = false
  keyStore : t.sec.keyStore = s.sec.keyStore
  power : t.power = s.power
  ended : ∀ x ∈ s.sec.sessions, x.slot = slot → x.isOpen = true → x.sid ∈ t.sec.ended

/-- What the end of a session brings, and the end of debug keeps, holds once the session has ended. -/
theorem State.endSession_cases {P : State → Prop} (s : State) (slot : Nat) (debug : ∀ u, P u → P (u.endDebug false))
    (struck : ∀ gone, gone = s.sec.sessions.filter (fun x => x.slot == slot && x.isOpen) →
      P (((s.dropRequests slot gone).strikeSession slot gone).stopSessionTimers slot)) : P (s.endSession slot) := by
  rw [State.endSession_eq]
  exact prop_branch (fun u => u.endDebug false) (debug _) (struck _ rfl)

theorem State.endSession_ended (s : State) (slot : Nat) : SessionEnded s slot (s.endSession slot) := by
  have fr := State.endSession_fr s slot (F := maskBut [10, 15]) rfl (Fr.refl _ s)
  refine ⟨s.endSession_sessions slot, ?_, ?_, fr.sec_keyStore rfl, fr.power rfl, fun x member here whole => ?_⟩
  · refine s.endSession_cases (P := fun u => u.armed (.sessionIdle slot) = false) slot (fun u stopped => ?_) fun _ _ => ?_
    · exact (u.armed_endDebug _ (by simp) (by simp)).trans stopped
    · rw [State.stopSessionTimers, State.armed_disarm_ne _ (by simp), State.armed_disarm_ne _ (by simp),
        State.armed_disarm_self]
  · refine s.endSession_cases (P := fun u => u.armed (.sessionLife slot) = false) slot (fun u stopped => ?_) fun _ _ => ?_
    · exact (u.armed_endDebug _ (by simp) (by simp)).trans stopped
    · rw [State.stopSessionTimers, State.armed_disarm_ne _ (by simp), State.armed_disarm_self]
  · refine s.endSession_cases (P := fun u => x.sid ∈ u.sec.ended) slot (fun u kept => ?_) fun gone all => ?_
    · rwa [u.endDebug_ended]
    · refine List.mem_append_right _ (List.mem_map_of_mem ?_)
      rw [all]
      exact List.mem_filter.mpr ⟨member, by simp [here, whole]⟩

/-- The end of a session at the expiry of one of its timers. -/
theorem SessionEnded.of_expired {s t : State} {slot d : Nat} {T : TimerId}
    (h : SessionEnded (Claims.expired s T d) slot t) : SessionEnded s slot t := by
  have fr := expired_fr s T d
  have sec := fr.sec rfl
  obtain ⟨sessions, idle, life, keyStore, power, ended⟩ := h
  rw [sec] at sessions keyStore ended
  exact ⟨sessions, idle, life, keyStore, power.trans (fr.power rfl), ended⟩

theorem sessionIdleTimeout_ends {s : State} {n : Fin 8} {d : Nat} (due : s.deadline (.sessionIdle n.val) = some d) :
    Claims.Answers (.sessionIdleTimeout n) s (SessionEnded s n.val) :=
  ⟨_, congrArg Host.Outcome.next (State.onTimer_of_deadline (fun u => u.endSession n.val) due),
    (State.endSession_ended _ _).of_expired⟩

theorem sessionLifetimeExpiry_ends {s : State} {n : Fin 8} {d : Nat} (due : s.deadline (.sessionLife n.val) = some d) :
    Claims.Answers (.sessionLifetimeExpiry n) s (SessionEnded s n.val) :=
  ⟨_, congrArg Host.Outcome.next (State.onTimer_of_deadline (fun u => u.endSession n.val) due),
    (State.endSession_ended _ _).of_expired⟩

/-- The lockout of a role lifted (R144). -/
def State.liftLockout (s : State) (role : Nat) : State :=
  s.set Obj.sessionRoleLockout (clearBit (s.get Obj.sessionRoleLockout) role)

theorem roleLockoutExpiry_ends {s : State} {r : Fin 4} {d : Nat} (due : s.deadline (.roleLockout r.val) = some d) :
    Claims.Answers (.roleLockoutExpiry r) s (fun t =>
      t.bit Obj.sessionRoleLockout r.val = false ∧ t.sec = s.sec ∧ t.mems = s.mems) := by
  refine ⟨(Claims.expired s (.roleLockout r.val) d).liftLockout r.val,
    congrArg Host.Outcome.next (State.onTimer_of_deadline (fun u => u.liftLockout r.val) due), ?_,
    (expired_fr s (.roleLockout r.val) d).sec rfl, expired_mems s (.roleLockout r.val) d⟩
  rw [State.bit, State.liftLockout, State.get_set_self]
  exact testBit_clearBit_self _ _

/-! ## Entropy and receipts (R26, R99, R101, R426, R716) -/

theorem entropyFail_flags {s : State} (ready : s.power.corkReady = true) (good : s.sec.entropyFailed = false) :
    Claims.Answers .entropyFail s (fun t => t.sec.entropyFailed = true ∧ t.bit Obj.securitySticky 3 = true ∧
      t.deadline .entropyRetest = some (s.now + 10000000) ∧ t.sec.sessions = s.sec.sessions ∧ t.mems = s.mems) := by
  have due : (s.power.corkReady && !s.sec.entropyFailed) = true := by rw [ready, good]; rfl
  refine ⟨(({ s with sec.entropyFailed := true } : State).faultRow Obj.securitySticky 3 .cork 0x0504 1 31 []).arm
    .entropyRetest 10000000, ?_, ?_, ?_, ?_, ?_, ?_⟩
  · show Host.Outcome.next (s.when (s.power.corkReady && !s.sec.entropyFailed) _) = _
    rw [due, State.when_true]
  · rw [State.arm_sec, State.faultRow_sec]
  · exact State.bit_faultRow_self _ _ _ _ _ _ _ _ rfl
  · rw [State.deadline_arm_self, State.now, State.faultRow_time]
    rfl
  · rw [State.arm_sec, State.faultRow_sec]
  · rw [State.arm_mems, State.faultRow_mems]

theorem entropyRetest_repeats {s : State} (d : Nat) (due : s.deadline .entropyRetest = some d) :
    exec (.entropyRetest false) s = .next ((Claims.expired s .entropyRetest d).arm .entropyRetest 10000000) := by
  show Host.Outcome.next (s.onTimer .entropyRetest _) = _
  rw [State.onTimer_of_deadline _ due]
  rfl

theorem entropyRetest_passes {s : State} (d : Nat) (due : s.deadline .entropyRetest = some d) :
    Claims.Answers (.entropyRetest true) s (fun t =>
      t.sec.entropyFailed = false ∧ t.sec.sessions = s.sec.sessions ∧ t.mems = s.mems) := by
  have sec : (Claims.expired s .entropyRetest d).sec = s.sec := (expired_fr s .entropyRetest d).sec rfl
  have mems := expired_mems s .entropyRetest d
  generalize held : Claims.expired s .entropyRetest d = u at sec mems
  have signed := State.signLate_fr { u with sec.entropyFailed := false } (F := maskBut [13]) rfl (Fr.refl _ _)
  refine ⟨({ u with sec.entropyFailed := false } : State).signLate, ?_, ?_, ?_, ?_⟩
  · show Host.Outcome.next (s.onTimer .entropyRetest _) = _
    rw [State.onTimer_of_deadline _ due, held]
    rfl
  · rw [signed.sec rfl]
  · rw [signed.sec rfl, sec]
  · exact (State.signLate_fr { u with sec.entropyFailed := false } rfl (Fr.refl memWork _)).mems.trans mems

theorem receiptSigned_signs {s : State} {seq : Nat} (armed : s.armed .receiptSign = true)
    (at_ : s.net.signing = some seq) : exec (.receiptSigned true) s = .next
      ({ (s.disarm .receiptSign).signReceipt seq false with net.signing := none }).nextSignature := by
  show Host.Outcome.next (s.when (s.armed .receiptSign) _) = _
  rw [armed, State.when_true]
  simp only [if_true, State.disarm_net, at_]

theorem receiptSigned_late {s : State} {d seq : Nat} (due : s.deadline .receiptSign = some d)
    (at_ : s.net.signing = some seq) : exec (.receiptSigned false) s = .next
      ({ (Claims.expired s .receiptSign d).leaveUnsigned seq 6 with net.signing := none }).nextSignature := by
  have armed : s.armed .receiptSign = true := (s.armed_iff _).mpr ⟨d, due⟩
  have net : (Claims.expired s .receiptSign d).net = s.net := (expired_fr s .receiptSign d).net rfl
  show Host.Outcome.next (s.when (s.armed .receiptSign) _) = _
  rw [armed, State.when_true]
  simp only [Bool.false_eq_true, if_false, State.onTimer_of_deadline _ due, net, at_]

/-- Settles O14: a clause per command. -/
theorem sessionTimersEntropyAndReceipts : Obligations.SessionTimersEntropyAndReceipts := by
  refine ⟨fun s n r d => ⟨fun x due half => handshakeTimeout_drops due half, fun due => ?_, fun due => ?_,
    roleLockoutExpiry_ends⟩, fun s => ⟨entropyFail_flags, entropyRetest_repeats, entropyRetest_passes,
      fun _ => receiptSigned_signs, fun _ _ => receiptSigned_late⟩⟩
  · obtain ⟨t, answer, sessions, idle, life, keyStore, power, ended⟩ := sessionIdleTimeout_ends due
    exact ⟨t, answer, sessions, life, keyStore, power, ended⟩
  · obtain ⟨t, answer, sessions, idle, life, keyStore, power, ended⟩ := sessionLifetimeExpiry_ends due
    exact ⟨t, answer, sessions, idle, keyStore, power, ended⟩

end Sys2Proof.Machine

namespace Sys2Proof.Machine

open Sys2Proof

/-! ## Requests for every service that a field port takes, assigned or not (R211 to R218, R234, R237, R247) -/

/-- A service whose unicast requests a field port takes: the dictionary's, TimeSet, Assign, the bridge's and the sessions'. -/
def portService (svc : Nat) : Prop := svc ≤ 6 ∨ 9 ≤ svc ∧ svc ≤ 12

/-- A frame that carries part of a unicast request. -/
structure CarriesService (f : CanFrame) : Prop where
  fd : f.res = false ∧ f.extended = true ∧ f.fd = true ∧ f.remote = false
  low : f.ident.toNat % 4 = 0
  unicast : frameBcast f.ident = false
  service : portService (frameFunc f.ident)
  prio : prioOk (frameSvc f.ident) (framePrio f.ident) = true
  long : ¬ f.data.length < 4

/-- A state in which a port takes a frame for this unit alone; an unassigned unit takes Assigns and bridge requests. -/
structure State.Expects (s : State) (p : Port) (f : CanFrame) : Prop where
  up : s.portUp p = true
  serves : s.vintServes = true
  foreign : s.unassigned = true ∨ frameSrc f.ident ≠ s.field.effective
  known : s.unassigned = false ∨ frameFunc f.ident = 10 ∨ frameFunc f.ident = 11
  here : s.isLocal f = true
  stays : s.forwards p f = false

section

variable {s : State} {p : Port} {f : CanFrame}

theorem State.Expects.bump (h : s.Expects p f) (n : Nat) : (s.bump (Obj.portRxFrames (portNum p)) n).Expects p f :=
  ⟨(s.portUp_bump p n).trans h.up, h.serves, h.foreign, h.known, h.here, (s.forwards_bump p n f).trans h.stays⟩

theorem State.Expects.gathering (h : s.Expects p f) (g : Reasm) (us : Nat) : (s.gathering g us).Expects p f :=
  ⟨h.up, h.serves, h.foreign, h.known, h.here, h.stays⟩

theorem frameRequest_of_service (hf : CarriesService f) : frameRequest f.ident = true := by
  have h := hf.service
  rw [portService] at h
  simp only [frameRequest, Bool.and_eq_true, decide_eq_true_eq, bne_iff_ne, ne_eq]
  omega

/-- Such a frame is counted and assembled. -/
theorem State.receiveFrame_of_service (hf : CarriesService f) (h : s.Expects p f) :
    s.receiveFrame p f = (s.bump (Obj.portRxFrames (portNum p)) 1).assemble p f := by
  obtain ⟨hres, hext, hfd, hrem⟩ := hf.fd
  have hb := h.bump 1
  have hsvc := hf.service
  rw [portService] at hsvc
  have h13 : ¬ 13 ≤ frameSvc f.ident := by rw [frameSvc]; omega
  have hforeign : ¬ ((s.bump (Obj.portRxFrames (portNum p)) 1).unassigned = false ∧
      frameSrc f.ident = s.field.effective) := fun ⟨hu, he⟩ =>
    hb.foreign.elim (fun e => by simp [e] at hu) (fun e => e he)
  have hto : (s.bump (Obj.portRxFrames (portNum p)) 1).localFrame p f =
      (s.bump (Obj.portRxFrames (portNum p)) 1).assemble p f := by
    rw [State.localFrame, if_neg (by omega), if_neg]
    rintro ⟨hu, h10, h11⟩
    exact (hb.known.resolve_left (by simp [hu])).elim h10 h11
  simp only [State.receiveFrame, h.up, h.serves, hres, hext, hfd, hrem, hf.low, hb.stays, hb.here,
    hf.unicast, h13, hf.long, hf.prio, frameRequest_of_service hf]
  simpa [hforeign] using hto

end

/-- A port takes a frame of a request, before the group's first frame has come and after it. -/
def State.Takes (s : State) (p : Port) (f : CanFrame) : Prop :=
  s.receiveFrame p f = (s.bump (Obj.portRxFrames (portNum p)) 1).assemble p f ∧
  ∀ g us j, ((s.bump (Obj.portRxFrames (portNum p)) j).gathering g us).receiveFrame p f =
    ((s.bump (Obj.portRxFrames (portNum p)) (j + 1)).gathering g us).assemble p f

theorem State.takes_of_service {s : State} {p : Port} {f : CanFrame} (hf : CarriesService f) (h : s.Expects p f) :
    s.Takes p f :=
  ⟨State.receiveFrame_of_service hf h, fun g us j => by
    rw [State.receiveFrame_of_service hf ((h.bump j).gathering g us), ← State.bump_bump s _ j 1]
    rfl⟩

section

variable {s : State} {p : Port} {ident : BitVec 29} {tid : Nat} {prot : Bool} {aux : Nat} {msg : Bytes} {n i : Nat}

/-- The first frame of a group finds none of its source. -/
theorem State.takes_first (hn : s.groupFrom (frameSrc ident) = none) (ha : s.Takes p (requestFrame ident tid prot aux msg n 0)) :
    s.receiveFrame p (requestFrame ident tid prot aux msg n 0) =
      (s.bump (Obj.portRxFrames (portNum p)) 1).firstFrame p (requestFrame ident tid prot aux msg n 0) := by
  have hfirst : frameFirst (requestFrame ident tid prot aux msg n 0) = true := frameFirst_request _ _ _ _ _ _ _ (by decide)
  rw [ha.1, State.assemble, show frameSrc (requestFrame ident tid prot aux msg n 0).ident = frameSrc ident from rfl, hfirst]
  rw [show (s.bump (Obj.portRxFrames (portNum p)) 1).groupFrom (frameSrc ident) = none from hn]

/-- A later frame finds its group. -/
theorem State.takes_next {g : Reasm} (us j : Nat) (hi : i < 16) (hi0 : i ≠ 0) (hg : g.ident = ident)
    (hn : s.groupFrom (frameSrc ident) = none) (ha : s.Takes p (requestFrame ident tid prot aux msg n i)) :
    ((s.bump (Obj.portRxFrames (portNum p)) j).gathering g us).receiveFrame p (requestFrame ident tid prot aux msg n i) =
      ((s.bump (Obj.portRxFrames (portNum p)) (j + 1)).gathering g us).nextFrame g (requestFrame ident tid prot aux msg n i) := by
  subst hg
  have hlater : frameFirst (requestFrame g.ident tid prot aux msg n i) = false :=
    (frameFirst_request _ _ _ _ _ _ _ hi).trans (decide_eq_false hi0)
  rw [ha.2, State.assemble, show frameSrc (requestFrame g.ident tid prot aux msg n i).ident = frameSrc g.ident from rfl,
    hlater]
  rw [show ((s.bump (Obj.portRxFrames (portNum p)) (j + 1)).gathering g us).groupFrom (frameSrc g.ident) = some g from
    State.groupFrom_gathering us hn]

/-- A message of at most 960 bytes whose frames a port takes one after another is taken as a whole group. -/
theorem State.receiveAll_of_takes (htid : tid < 256) (haux : aux < 256) (hlen : msg.length ≤ 960)
    (ha : ∀ i < framesOf msg.length, s.Takes p (requestFrame ident tid prot aux msg (framesOf msg.length) i))
    (hn : s.groupFrom (frameSrc ident) = none) (ht : s.deadline (.reassembly p (frameSrc ident)) = none)
    (hc : framesOf msg.length ≤ s.credits (intakeQueue (portVia p) (frameSvc ident))) :
    s.receiveAll p ((List.range (framesOf msg.length)).map (requestFrame ident tid prot aux msg (framesOf msg.length))) =
      (s.bump (Obj.portRxFrames (portNum p)) (framesOf msg.length)).takeGroup p ident tid aux prot msg
        (((List.range (framesOf msg.length)).map (requestFrame ident tid prot aux msg (framesOf msg.length))).flatMap rawOf) := by
  have hwhole : msg.take (60 * framesOf msg.length) = msg := List.take_of_length_le (length_le_framesOf _)
  have h16 := framesOf_le hlen
  have h0 := framesOf_pos msg.length
  generalize framesOf msg.length = m at *
  have hstep (us j : Nat) (hj : 1 ≤ j) (hjm : j < m) := (State.takes_next (ident := ident)
    (g := requestGroup p ident tid prot aux msg m (intakeQueue (portVia p) (frameSvc ident)) j)
    us j (by omega) (by omega) rfl hn (ha j hjm)).trans
    (State.nextFrame_request (s := s.bump (Obj.portRxFrames (portNum p)) (j + 1)) htid
      (intakeQueue (portVia p) (frameSvc ident)) us (by omega) hn ht (Nat.lt_of_lt_of_le hjm hc))
  have hpart : ∀ j, 1 ≤ j → j < m →
      s.receiveAll p ((List.range j).map (requestFrame ident tid prot aux msg m)) =
        (s.bump (Obj.portRxFrames (portNum p)) j).gathering
          (requestGroup p ident tid prot aux msg m (intakeQueue (portVia p) (frameSvc ident)) j)
          (1000 * (s.bump (Obj.portRxFrames (portNum p)) 1).get Obj.fieldReassemblyTimeout) := by
    intro j hj hjm
    induction j, hj using Nat.le_induction with
    | base =>
      exact (State.takes_first hn (ha 0 h0)).trans
        (State.firstFrame_part (s := s.bump (Obj.portRxFrames (portNum p)) 1) htid haux hjm (Nat.lt_of_lt_of_le h0 hc))
    | succ j hj ih => rw [State.receiveAll_range_succ, ih (by omega), hstep _ j hj (by omega), if_neg (by omega)]
  by_cases h1 : m = 1
  · subst h1
    rw [← hwhole]
    have hw := (State.takes_first hn (ha 0 h0)).trans
      (State.firstFrame_whole (s := s.bump (Obj.portRxFrames (portNum p)) 1) htid haux hc)
    simpa [State.receiveAll, hwhole] using hw
  · obtain ⟨j, hj, rfl⟩ : ∃ j, 1 ≤ j ∧ m = j + 1 := ⟨m - 1, by omega, by omega⟩
    rw [State.receiveAll_range_succ, hpart j hj (by omega), hstep _ j hj (by omega), if_pos rfl, hwhole]

end

/-! ## A whole request on its way to its service -/

/-- What a request for service 10 must be for its port to take it: an Assign with a whole serial number (R237). -/
def assigns (svc : Nat) (b : Bytes) : Prop := svc = 10 → 12 ≤ b.length ∧ fieldAt b 0 1 = 2

theorem reqMessage_prefix (r : ReqCtx) (b : Bytes) : ∃ t, reqMessage r b = b ++ t := by
  rw [reqMessage]
  split
  · exact ⟨[], (List.append_nil b).symm⟩
  · exact ⟨_, by rw [List.append_assoc, List.append_assoc]⟩

theorem sliceBytes_append (a b : Bytes) {i k : Nat} (h : i + k ≤ a.length) : sliceBytes (a ++ b) i k = sliceBytes a i k := by
  have hd : ((a ++ b).drop i).take k = (a.drop i).take k := by
    rw [List.drop_append_of_le_length (by omega), List.take_append_of_le_length (by rw [List.length_drop]; omega)]
  rw [sliceBytes, sliceBytes, hd]

theorem fieldAt_append (a b : Bytes) {i k : Nat} (h : i + k ≤ a.length) : fieldAt (a ++ b) i k = fieldAt a i k := by
  rw [fieldAt, fieldAt, sliceBytes_append a b h]

section

variable {s u : State} {r : ReqCtx} {svc aux : Nat} {b raw : Bytes}

theorem State.serial_bump (s : State) (p : Port) (n : Nat) : (s.bump (Obj.portRxFrames (portNum p)) n).serial = s.serial := by
  rw [State.serial, State.bytesOf, State.get_bump_ne _ _ _ _ (by cases p <;> decide)]
  rfl

/-- A whole group that is a unicast request goes on as one, an Assign if it bears the unit's serial number. -/
theorem State.takeGroup_service (hsvc : portService svc) (hten : assigns svc b) (hvia : r.via ≠ .host)
    (hown : s.ownAddress r.via < 512) (w : State) (hmine : svc ≠ 10 ∨ sliceBytes b 4 8 = w.serial) :
    w.takeGroup (viaPort r.via) (mkIdent r.prio.toNat false svc (reqPeer r) (s.ownAddress r.via)) r.tid.toNat aux
        r.trailer.isSome (reqMessage r b) raw =
      w.portRequest (callerOf r svc aux) (reqClaimed r) (reqMessage r b) raw := by
  have hs : svc < 16 := by rw [portService] at hsvc; omega
  have hp : r.prio.toNat < 8 := r.prio.isLt
  have hsrc := reqPeer_lt hvia
  have hpass : ¬ (svc = 10 ∧ ((!(sliceBytes (reqMessage r b) 4 8 == w.serial)) = true ∨ fieldAt (reqMessage r b) 0 1 ≠ 2)) := by
    rintro ⟨h10, hbad⟩
    obtain ⟨hlen, hcode⟩ := hten h10
    obtain ⟨t, ht⟩ := reqMessage_prefix r b
    rw [ht, sliceBytes_append b t hlen, fieldAt_append b t (by omega), hmine.resolve_left (fun h => h h10), hcode] at hbad
    simp at hbad
  simp only [State.takeGroup, frameBcast_mkIdent hp hs hsrc hown, frameSvc_mkIdent hp hs hsrc hown,
    frameSrc_mkIdent hp hs hsrc hown, framePrio_mkIdent hp hs hsrc hown, portVia_viaPort hvia, ← reqClaimed_eq]
  rw [if_neg (by simp), if_neg (by simp), if_neg hpass]
  rfl

/-- The frames of a request. -/
theorem carriesService_requestFrame (hsvc : portService svc) (hvia : r.via ≠ .host) (hown : s.ownAddress r.via < 512)
    (hprio : prioOk svc r.prio.toNat = true) (prot : Bool) (msg : Bytes) (n i : Nat) :
    CarriesService (requestFrame (mkIdent r.prio.toNat false svc (reqPeer r) (s.ownAddress r.via)) r.tid.toNat prot aux msg n i) := by
  have hs : svc < 16 := by rw [portService] at hsvc; omega
  have hp : r.prio.toNat < 8 := r.prio.isLt
  have hsrc := reqPeer_lt hvia
  refine ⟨⟨rfl, rfl, rfl, rfl⟩, mkIdent_low hp hs hsrc hown, frameBcast_mkIdent hp hs hsrc hown, ?_, ?_,
    four_le_length_request _ _ _ _ _ _ _⟩
  · show portService (frameFunc (mkIdent _ _ _ _ _))
    rwa [frameFunc_mkIdent hp hs hsrc hown]
  · show prioOk (frameSvc (mkIdent _ _ _ _ _)) (framePrio (mkIdent _ _ _ _ _)) = true
    rwa [frameSvc_mkIdent hp hs hsrc hown, framePrio_mkIdent hp hs hsrc hown]

/-- A frame to the address at which the unit is reached is for this unit. -/
theorem State.isLocal_of_dst {f : CanFrame} (hvia : r.via ≠ .host)
    (hd : frameDst f.ident = s.ownAddress r.via) : s.isLocal f = true := by
  by_cases he : s.field.effective = 0xFFFF
  · simp [State.isLocal, State.unassigned, hd, State.ownAddress, hvia, he]
  · simp [State.isLocal, State.unassigned, hd, State.ownAddress, hvia, he]

/-- A request that finds its conditions is taken as a whole group. -/
theorem State.arrive_of_received (hsvc : portService svc) (hten : assigns svc b) (haux : aux < 256)
    (hmine : svc ≠ 10 ∨ sliceBytes b 4 8 = s.serial) (h : Claims.received s r svc aux b = some (u, raw)) :
    s.vintServes = true ∧ (s.unassigned = false ∨ svc = 10 ∨ svc = 11) ∧
    framesOf (reqMessage r b).length ≤ s.credits (intakeQueue r.via svc) ∧
    u = s.bump (Obj.portRxFrames (portNum (viaPort r.via))) (framesOf (reqMessage r b).length) ∧
    s.arrive r svc aux b = u.portRequest (callerOf r svc aux) (reqClaimed r) (reqMessage r b) raw := by
  rw [Claims.received] at h
  split at h
  next hc =>
    obtain ⟨hvia, hup, hserves, hprio, hlen, hown, hself, hassigned, hstay, hfree, htimer, hcredits⟩ := hc
    have hs : svc < 16 := by rw [portService] at hsvc; omega
    have hp : r.prio.toNat < 8 := r.prio.isLt
    have hsrc := reqPeer_lt hvia
    have hfrom := frameSrc_mkIdent hp hs hsrc hown
    rw [groupFrames_eq _ _ _ _ _ hlen, List.all_map, List.all_eq_true] at hstay
    rw [groupFrames_eq _ _ _ _ _ hlen] at h
    cases h
    have hexpects : ∀ i < framesOf (reqMessage r b).length, s.Expects (viaPort r.via)
        (requestFrame (mkIdent r.prio.toNat false svc (reqPeer r) (s.ownAddress r.via)) r.tid.toNat r.trailer.isSome aux
          (reqMessage r b) (framesOf (reqMessage r b).length) i) := fun i hi =>
      ⟨hup, hserves, hself.imp_right (fun e he => e (hfrom.symm.trans he)),
        hassigned.imp_right (Or.imp (frameFunc_mkIdent hp hs hsrc hown).trans (frameFunc_mkIdent hp hs hsrc hown).trans),
        State.isLocal_of_dst hvia (frameDst_mkIdent hp hs hsrc hown),
        by simpa using hstay i (List.mem_range.mpr hi)⟩
    have hall := State.receiveAll_of_takes r.tid.isLt haux hlen (fun i hi => State.takes_of_service
      (carriesService_requestFrame hsvc hvia hown hprio r.trailer.isSome (reqMessage r b) _ i) (hexpects i hi))
      (by rwa [hfrom]) (by rwa [hfrom]) (by rwa [portVia_viaPort hvia, frameSvc_mkIdent hp hs hsrc hown])
    rw [State.takeGroup_service hsvc hten hvia hown _ (hmine.imp_right (·.trans (s.serial_bump _ _).symm))] at hall
    refine ⟨hserves, hassigned, hcredits, rfl, ?_⟩
    rw [← hall, ← groupFrames_eq _ _ _ _ _ hlen, State.arrive]
    split
    next hv => exact absurd hv hvia
    next => exact if_neg (Nat.not_lt.mpr hlen)
  next => cases h

end

end Sys2Proof.Machine

namespace Sys2Proof.Machine

open Sys2Proof

/-! ## A request served, or held for its reply's credits (R289, R303, R304) -/

/-- A request tried in state `v`: served, or held in `w` for what it lacks. -/
def State.tried (v w : State) (c : Caller) (claimed : Option Nat) (msg : Bytes) : State :=
  match v.tryServe c claimed msg with
  | .ok t => t
  | .error n => w.hold c claimed msg n

section

variable {s v w : State} {c : Caller} {claimed : Option Nat} {msg raw : Bytes} {r : ReqCtx} {svc aux : Nat} {b : Bytes}

/-- A request that finds nothing before it in its queue is served, or held as `tryServe` finds. -/
theorem State.takeIn_tried {q : Nat} (hq : intakeQueue c.dest.via c.dest.svc = q)
    (hheld : (s.pass q (framesOf msg.length)).eng.held.any (fun h => h.queue == q || h.caller.dest.peer == c.dest.peer) = false)
    (hclass : (s.pass q (framesOf msg.length)).earlierClass q = false) :
    s.takeIn c claimed msg = ((s.pass q (framesOf msg.length)).noteServed 2 q).tried (s.pass q (framesOf msg.length)) c
      claimed msg := by
  have hf : (s.pass q (framesOf msg.length)).eng.held.find? (fun h => h.queue == q || h.caller.dest.peer == c.dest.peer) = none := by
    simpa [List.find?_eq_none] using hheld
  subst hq
  simp only [State.takeIn, State.tried, hf, hclass, Bool.false_eq_true, if_false] <;> rfl

theorem State.takeIn_of_opened (h : s.intake r svc b = some v) :
    s.takeIn (callerOf r svc aux) (reqClaimed r) (reqMessage r b) =
      v.tried (s.pass (intakeQueue r.via svc) (framesOf (reqMessage r b).length)) (callerOf r svc aux) (reqClaimed r)
        (reqMessage r b) := by
  rw [State.intake] at h
  split at h
  next => cases h
  next hn =>
    obtain ⟨hheld, hclass⟩ := Bool.or_eq_false_iff.mp (eq_false_of_ne_true hn)
    cases h
    exact State.takeIn_tried rfl hheld hclass

/-- A request of a service that the unit's state of assignment admits, with its credits and no retransmission, goes into
its intake queue. -/
theorem State.portRequest_taken (hserves : s.vintServes = true)
    (ha : s.unassigned = false ∨ c.dest.svc = 10 ∨ c.dest.svc = 11)
    (hrep : s.repeated c.dest.peer c.dest.tid raw = none)
    (hcr : framesOf msg.length ≤ s.credits (intakeQueue c.dest.via c.dest.svc)) :
    s.portRequest c claimed msg raw = (s.rememberGroup c.dest.peer c.dest.tid raw).takeIn c claimed msg := by
  have hne : ¬ (s.field.effective = 0xFFFF ∧ c.dest.svc ≠ 10 ∧ c.dest.svc ≠ 11) := fun ⟨he, h10, h11⟩ =>
    absurd (ha.resolve_right (fun h => h.elim h10 h11)) (by simp [State.unassigned, he])
  rw [State.portRequest]
  simp only [State.vintnerDown_of_serves hserves, hserves, hrep]
  rw [if_neg (by simp), if_neg (by simp), if_neg hne, if_neg (Nat.not_lt.mpr hcr)]

/-- A state that differs at most in its counters, its queues and the memory of received groups. -/
def State.Meets (s w : State) : Prop := w.eng = s.eng ∧ w.now = s.now ∧ w.power = s.power ∧ w.pins = s.pins

theorem State.Meets.pass (h : s.Meets w) (q n : Nat) : s.Meets (w.pass q n) := by
  obtain ⟨x, hx⟩ := w.pass_eq q n
  rw [hx]
  exact h

/-- A request that arrives is served, or held where it arrived. -/
theorem State.arrive_of_arrived (hsvc : portService svc) (hten : assigns svc b) (haux : aux < 256)
    (h : Claims.arrived s r svc aux b = some v) :
    ∃ w, s.Meets w ∧ s.arrive r svc aux b = v.tried w (callerOf r svc aux) (reqClaimed r) (reqMessage r b) := by
  rw [Claims.arrived] at h
  split at h
  next hvia =>
    split at h
    next hc =>
      have hown : ¬ (7 ≤ svc ∧ svc ≤ 11 ∨ 13 ≤ svc) := by have := hc.2; omega
      refine ⟨s.pass (intakeQueue r.via svc) (framesOf (reqMessage r b).length),
        State.Meets.pass ⟨rfl, rfl, rfl, rfl⟩ _ _, ?_⟩
      rw [← State.takeIn_of_opened (aux := aux) (show s.intake r svc b = some v from h), State.arrive]
      split
      next => exact (if_pos hc.1).trans (if_neg hown)
      next hv => exact absurd hvia hv
    next => cases h
  next hvia =>
    split at h
    next => cases h
    next u raw hr =>
      split at h
      next hc =>
        obtain ⟨hmine, hrep⟩ := hc
        obtain ⟨hserves, ha, hcredits, rfl, harrive⟩ := State.arrive_of_received hsvc hten haux hmine hr
        refine ⟨((s.bump (Obj.portRxFrames (portNum (viaPort r.via))) (framesOf (reqMessage r b).length)).rememberGroup
          (reqPeer r) r.tid.toNat raw).pass (intakeQueue r.via svc) (framesOf (reqMessage r b).length),
          State.Meets.pass ⟨rfl, rfl, rfl, rfl⟩ _ _, ?_⟩
        rw [harrive, ← State.takeIn_of_opened (aux := aux) (show State.intake _ r svc b = some v from h)]
        exact State.portRequest_taken (c := callerOf r svc aux) hserves ha (Option.isNone_iff_eq_none.mp hrep) hcredits
      next => cases h

/-- What `tryServe` finds of a request that has come in whole and genuine. -/
theorem State.tryServe_of_entry {u : State} (h : Claims.entry s r svc aux b = some (c, u))
    (hseg : isUpdateSegment svc (reqMessage r b) = true → u.get Obj.updateState = 1 →
      framesOf (reqMessage r b).length ≤ u.credits 0x08) :
    ∃ v, Claims.arrived s r svc aux b = some v ∧ v.tryServe (callerOf r svc aux) (reqClaimed r) (reqMessage r b) =
      if u.derivedWaits < (Claims.finished s r (u.act c b)).derivedWaits then .error 0x4B
      else .ok (Claims.finished s r (u.act c b)) := by
  obtain ⟨w, hw, hentry⟩ := State.entry_cases h
  obtain ⟨v, hv, hearly, hblock, rfl⟩ := State.opened_cases hw
  obtain ⟨hhandling, -⟩ := State.arrived_kept hv
  have hserve := State.serve_entry hearly hentry
  obtain ⟨x, hx⟩ := State.passes_eq (requestChain svc b) v
  rw [hx] at hserve hentry
  obtain ⟨hstate, hcredits, hwaits⟩ : u.get Obj.updateState = v.get Obj.updateState ∧ u.credits 0x08 = v.credits 0x08 ∧
      u.derivedWaits = v.derivedWaits := by
    rcases hentry with ⟨-, -, rfl⟩ | ⟨t, y, -, -, -, -, -, rfl⟩
    · exact ⟨rfl, rfl, rfl⟩
    · exact ⟨rfl, rfl, rfl⟩
  have hbody : (if (reqClaimed r).isSome then (reqMessage r b).take ((reqMessage r b).length - 14) else reqMessage r b) = b := by
    cases ht : r.trailer with
    | none => simp [reqClaimed, reqMessage, ht]
    | some t => simpa [reqClaimed, ht] using take_reqMessage b ht
  have hroom : ¬ (isUpdateSegment svc (reqMessage r b) = true ∧ v.get Obj.updateState = 1 ∧
      v.credits 0x08 < framesOf (reqMessage r b).length) := fun ⟨h1, h2, h3⟩ =>
    absurd (hcredits ▸ hseg h1 (hstate.trans h2)) (Nat.not_le.mpr h3)
  have hend : State.handle { v with q.highWater := x } (fun s => s.serve (callerOf r svc aux) (reqClaimed r) (reqMessage r b)) =
      Claims.finished s r (u.act c b) := by
    rw [State.handle, hserve, Claims.finished, show v.q.handling = s.q.handling from hhandling]
  refine ⟨v, hv, ?_⟩
  rw [State.tryServe, show (callerOf r svc aux).dest.svc = svc from rfl, if_neg hroom, hbody, hblock, hx, hwaits]
  dsimp only
  rw [hend]
  rfl

end

/-! ## What each command of a request sends -/

theorem byteOf_byte (b : Byte) : byteOf b.toNat = b := BitVec.ofNat_toNat 8 b

/-- A command that is a request sends its message: a service that the port takes, Assign with a serial number, and a
HopCount of one byte. -/
theorem Claims.exec_message {i : Instr} {s : State} {r : ReqCtx} {svc aux : Nat} {b : Bytes}
    (h : Claims.message i = some (r, svc, aux, b)) :
    exec i s = .next (s.arrive r svc aux b) ∧ portService svc ∧ assigns svc b ∧ aux < 256 := by
  unfold Claims.message at h
  split at h
  case h_30 => -- TimeSet, to this unit or through the mailbox
    split at h
    next => cases h
    next hb =>
      cases h
      exact ⟨congrArg Host.Outcome.next (if_neg hb), .inr (by decide), fun h => absurd h (by decide), by decide⟩
  case h_31 => -- Assign
    cases h
    exact ⟨rfl, .inr (by decide), fun _ => ⟨by simp, rfl⟩, by decide⟩
  case h_35 => -- Ping
    cases h
    exact ⟨rfl, .inr (by decide), fun h => absurd h (by decide), BitVec.isLt _⟩
  case h_51 => cases h
  case h_15 _ _ index sub => -- Read
    cases h
    exact ⟨congrArg (fun d : Byte => Host.Outcome.next (s.arrive r 0 0 (leBytes 2 index.toNat ++ [d, 0#8])))
      (byteOf_byte sub), by simp [portService], fun h => absurd h (by decide), by decide⟩
  case h_29 _ _ index sub final offset total data => -- BlockWrite
    cases h
    exact ⟨congrArg (fun d : Byte => Host.Outcome.next (s.arrive r 6 0 (leBytes 2 index.toNat
      ++ [d, if final then 1#8 else 0#8] ++ leBytes 4 offset.toNat ++ leBytes 4 total.toNat ++ data)))
      (byteOf_byte sub), by simp [portService], fun h => absurd h (by decide), by decide⟩
  all_goals
    cases h
    exact ⟨rfl, by simp [portService], fun h => absurd h (by decide), by decide⟩

section

variable {i : Instr} {s u : State} {c : Caller} {r : ReqCtx} {svc aux : Nat} {b : Bytes}

/-- The role of a caller is that of the session of its request. -/
theorem Claims.entry_role (h : Claims.entry s r svc aux b = some (c, u)) : c.role.isSome ↔ r.trailer.isSome := by
  obtain ⟨w, -, ⟨ht, rfl, -⟩ | ⟨t, x, ht, -, -, -, rfl, -⟩⟩ := State.entry_cases h
  · simp [ht, callerOf]
  · simp [ht, Claims.member]

theorem State.hold_held (w : State) (c : Caller) (claimed : Option Nat) (msg : Bytes) (lacks : Nat) :
    (w.hold c claimed msg lacks).eng.held = w.eng.held ++ [⟨c, claimed, msg, lacks, w.now, false⟩] ∧
    (w.hold c claimed msg lacks).deadline (.defer c.dest.peer c.dest.tid) = some (w.now + 10000) := by
  have hplace (m : QMsg) : Fr 16777216 w (w.place m) := State.place_fr w m rfl (Fr.refl _ w)
  refine ⟨congrArg (fun e => Engine.held e ++ _) ((hplace _).eng rfl), ?_⟩
  rw [← show (w.place _).now = w.now from congrArg Clocks.nowUs ((hplace _).time rfl)]
  exact State.deadline_arm_self ..

/-- A request whose reply and credits are in order is served. -/
theorem Claims.exec_serves (h : Claims.Served i s r b c u) :
    exec i s = .next (Claims.finished s r (u.act c b)) := by
  obtain ⟨svc, aux, hm, hentry, hseg, hpost⟩ := h
  obtain ⟨he, hsvc, hten, haux⟩ := Claims.exec_message (s := s) hm
  obtain ⟨v, hv, htry⟩ := State.tryServe_of_entry hentry hseg
  obtain ⟨w, -, harrive⟩ := State.arrive_of_arrived hsvc hten haux hv
  rw [if_neg (Nat.not_lt.mpr hpost)] at htry
  rw [he, harrive, State.tried, htry]

/-- A request whose reply finds no credit is held. -/
theorem Claims.exec_holds (hm : Claims.message i = some (r, svc, aux, b)) (hentry : Claims.entry s r svc aux b = some (c, u))
    (hseg : isUpdateSegment svc (reqMessage r b) = false)
    (hpost : u.derivedWaits < (Claims.finished s r (u.act c b)).derivedWaits) :
    ∃ w, s.Meets w ∧ exec i s = .next (w.hold (callerOf r svc aux) (reqClaimed r) (reqMessage r b) 0x4B) := by
  obtain ⟨he, hsvc, hten, haux⟩ := Claims.exec_message (s := s) hm
  obtain ⟨v, hv, htry⟩ := State.tryServe_of_entry hentry (fun h => absurd h (by simp [hseg]))
  obtain ⟨w, hw, harrive⟩ := State.arrive_of_arrived hsvc hten haux hv
  rw [if_pos hpost] at htry
  exact ⟨w, hw, by rw [he, harrive, State.tried, htry]⟩

end

/-- Settles O56: a request that comes in whole and genuine passes its port or the mailbox as one group, and is then served,
or held where its reply finds no credit. -/
theorem requestsReachTheirService : Obligations.RequestsReachTheirService := by
  unfold Obligations.RequestsReachTheirService
  intro i s r b c u
  refine ⟨fun svc aux hm h => ?_, fun svc aux hm hentry hseg hpost => ?_⟩
  · obtain ⟨hsvc, hpeer, -⟩ := Claims.served_caller h hm
    obtain ⟨-, -, hentry, -⟩ := Claims.served_entry h hm
    exact ⟨Claims.exec_serves h, hsvc, hpeer, Claims.entry_role hentry⟩
  · obtain ⟨w, ⟨heng, hnow, hpower, hpins⟩, he⟩ := Claims.exec_holds hm hentry hseg hpost
    obtain ⟨hheld, hdefer⟩ := w.hold_held (callerOf r svc aux) (reqClaimed r) (reqMessage r b) 0x4B
    have hframe := State.hold_fr w (callerOf r svc aux) (reqClaimed r) (reqMessage r b) 0x4B (F := 17039362) rfl (Fr.refl _ w)
    rw [heng, hnow] at hheld
    rw [hnow] at hdefer
    exact ⟨_, he, hheld, hdefer, (hframe.power rfl).trans hpower, (hframe.pins rfl).trans hpins⟩

end Sys2Proof.Machine

namespace Sys2Proof.Machine

open Sys2Proof

/-! ## What the ends of sessions, debug, commits and power states leave of the security unit (R108 to R112, R134, R140)

A shutdown, a restart and HOLDUP bring to its end what the security unit has in hand and start nothing there. One lemma
for each step that may write the unit, and a frame for every other. -/

/-- The security unit may go on from `x` to `y` as what it has in hand is brought to its end. -/
structure Settles (x y : Security) : Prop where
  counter : y.securityCounter = x.securityCounter
  revoked : y.slot0Revoked = x.slot0Revoked
  fuses : x.fuses &&& y.fuses = x.fuses
  idle : x.lcTrans = none → y.fuses = x.fuses ∧ y.lcTrans = none
  confirm : x.confirm = none → y.confirm = none
  sessions : x.sessions = [] → y.sessions = []
  debug : x.debugOwner = none → y.debugOwner = none

theorem Settles.refl (x : Security) : Settles x x :=
  ⟨rfl, rfl, BitVec.and_self, fun h => ⟨rfl, h⟩, id, id, id⟩

theorem and_eq_left_trans {a b c : BitVec 3} (hab : a &&& b = a) (hbc : b &&& c = b) : a &&& c = a := by
  rw [← hab, BitVec.and_assoc, hbc]

theorem Settles.trans {x y z : Security} (h : Settles x y) (g : Settles y z) : Settles x z :=
  ⟨g.counter.trans h.counter, g.revoked.trans h.revoked, and_eq_left_trans h.fuses g.fuses, fun e => by
    obtain ⟨fuses, lcTrans⟩ := h.idle e
    obtain ⟨fuses', lcTrans'⟩ := g.idle lcTrans
    exact ⟨fuses'.trans fuses, lcTrans'⟩,
    fun e => g.confirm (h.confirm e), fun e => g.sessions (h.sessions e), fun e => g.debug (h.debug e)⟩

/-- A security unit that has gone on from that of `v` so, at the same instant. -/
def SettledF (v : State) (sec : Security) (time : Clocks) : Prop := Settles v.sec sec ∧ time = v.time

/-- A state whose security unit has gone on from that of `v` so, at the same instant. -/
abbrev Settled (v s : State) : Prop := SettledF v s.sec s.time

/-- Every part but the clock and the security unit. -/
def unitWork : Nat := maskBut [0, 13]

section

variable {v s t : State} {l : LcTrans}

theorem Settled.refl (s : State) : Settled s s := ⟨Settles.refl _, rfl⟩

theorem Settled.trans (h : Settled v s) (g : Settled s t) : Settled v t := ⟨h.1.trans g.1, g.2.trans h.2⟩

theorem Settled.frame (fr : Fr unitWork s t) (h : Settled v s) : Settled v t := by
  rw [Settled, fr.sec rfl, fr.time rfl]
  exact h

theorem Settled.reported (r : Reported s t) (h : Settled v s) : Settled v t := by
  rw [Settled, r.sec, r.time]
  exact h

/-- A step in which the unit alone goes on. -/
theorem Settled.of_sec (h : Settled v s) (g : Settles s.sec t.sec) (time : t.time = s.time) : Settled v t :=
  h.trans ⟨g, time⟩

/-! ### Replies -/

theorem Settled.setSession (h : Settled v s) (x : Session) : Settled v (s.setSession x) :=
  h.of_sec { Settles.refl s.sec with sessions := fun e => by rw [State.setSession, e, List.map_nil] } rfl

theorem Settled.protect (h : Settled v s) (d : ReplyTo) (own : Nat) (body : Bytes) : Settled v (s.protect d own body).2.2 := by
  unfold State.protect
  split
  · exact h
  · split
    · exact h.setSession _
    · split
      · exact h.of_sec { Settles.refl s.sec with } rfl
      · exact h

theorem Settled.reply (h : Settled v s) (d : ReplyTo) (deferred : Bool) (body : Bytes) : Settled v (s.reply d deferred body) := by
  unfold State.reply
  split
  · exact Settled.reported (State.post_reported _ _ _ _ _) (h.protect _ _ _)
  · exact Settled.frame (State.remember_fr _ _ _ _ rfl (Fr.refl _ _))
      (Settled.reported (State.sendFrames_reported _ _ _ _ _) (h.protect _ _ _))
  · exact Settled.frame (State.remember_fr _ _ _ _ rfl (Fr.refl _ _))
      (Settled.reported (State.sendFrames_reported _ _ _ _ _) (h.protect _ _ _))

theorem Settled.abort (h : Settled v s) (c : Caller) (req : Bytes) (a : Abort) : Settled v (s.abort c req a) := by
  unfold State.abort
  refine Settled.reply (prop_branch (P := Settled v) (fun u => { u with hp.outstanding := true }) id
    (prop_branch (P := Settled v) (fun u => u.bump Obj.queueDeferredCount 1) id
      (prop_branch (P := Settled v) (fun u => u.noteConflict a.2 c.dest.peer c.dest.svc req) ?_ h))) _ _ _
  exact Settled.frame (State.noteConflict_fr _ _ _ _ _ rfl (Fr.refl _ _))

/-! ### Debug and sessions ended -/

theorem Settled.endDebug (h : Settled v s) (hold : Bool) : Settled v (s.endDebug hold) := by
  refine State.endDebug_cases (P := Settled v) s hold h (h.of_sec { Settles.refl s.sec with debug := fun _ => rfl } rfl)
    (h.of_sec ?_ ((State.resumeCores_fr _ _).time rfl))
  rw [s.closeDebug_sec]
  exact { Settles.refl s.sec with debug := fun _ => rfl }

theorem Settled.strikeSession (h : Settled v s) (slot : Nat) (gone : List Session) : Settled v (s.strikeSession slot gone) :=
  h.of_sec { Settles.refl s.sec with sessions := fun e => by rw [State.strikeSession, e, List.filter_nil] } rfl

theorem Settled.endSession (h : Settled v s) (slot : Nat) : Settled v (s.endSession slot) := by
  refine s.endSession_cases (P := Settled v) slot (fun _ g => g.endDebug _) (fun gone _ => ?_)
  have dropped : Settled v (s.dropRequests slot gone) := Settled.frame (State.discardRequests_fr _ _ _ rfl
    (State.disarm_fr _ _ rfl (State.setStage_fr _ _ _ rfl (Fr.refl _ _)))) h
  exact Settled.frame (State.disarm_fr _ _ rfl (State.disarm_fr _ _ rfl (State.disarm_fr _ _ rfl (Fr.refl _ _))))
    (dropped.strikeSession _ _)

theorem Settled.endSessions (h : Settled v s) : Settled v s.endSessions :=
  (prop_foldl (P := Settled v) h (fun _ _ _ g => g.endSession _)).of_sec { Settles.refl _ with } rfl

theorem Settled.endSpent (h : Settled v s) : Settled v s.endSpent := by
  unfold State.endSpent
  exact prop_foldl (P := Settled v) h (fun _ _ _ g => g.endSession _)

/-! ### The commit in hand and the transition that waits -/

theorem Settled.endWaiting (h : Settled v s) (target : PState) : Settled v (s.endWaiting target) := by
  unfold State.endWaiting
  split
  · exact h
  · exact Settled.abort (s := { s with eng.waiting := none }) h _ _ _

theorem Settled.commitReply (h : Settled v s) (r : CommitRun) : Settled v (s.commitReply r) := by
  unfold State.commitReply
  split
  case h_5 => exact h
  all_goals exact h.reply _ _ _

theorem Settled.finishCommit (h : Settled v s) (r : CommitRun) : Settled v (s.finishCommit r) := by
  unfold State.finishCommit
  refine Settled.frame (State.settleJoin_fr _ _ rfl (State.settleJoin_fr _ _ rfl (Fr.refl _ _)))
    (Settled.endSpent (Settled.commitReply (Settled.frame (State.disarm_fr _ _ rfl (State.disarm_fr _ _ rfl
      (State.disarm_fr _ _ rfl (State.clearStage_fr _ _ rfl (Fr.refl _ _))))) ?_) _))
  exact h

theorem Settled.applyWhere (h : Settled v s) (r : CommitRun) (p : CEntry → Bool) : Settled v (s.applyWhere r p).1 :=
  Settled.frame (State.applyWhere_fr _ _ _ rfl (Fr.refl _ _)) h

theorem Settled.applyAll (h : Settled v s) (r : CommitRun) : Settled v (s.applyAll r) := by
  unfold State.applyAll
  exact (((h.applyWhere _ _).applyWhere _ _).applyWhere _ _).finishCommit _

theorem Settled.preemptCommit (h : Settled v s) : Settled v s.preemptCommit := by
  unfold State.preemptCommit
  split
  · exact h
  · next r _ =>
    have noted : Settled v (s.notePreempted r) := Settled.frame (State.notePreempted_fr _ _ rfl (Fr.refl _ _)) h
    exact prop_ite (P := Settled v) (noted.applyAll _) noted

/-! ### The lifecycle transition in hand -/

theorem Settled.makeRsk (h : Settled v s) : Settled v s.makeRsk := h.of_sec { Settles.refl s.sec with } rfl

/-- The fuses of the transition in hand blown, and the transition and its confirmation spent. -/
def State.spendTransition (s : State) (l : LcTrans) : State :=
  { s with sec := { s.sec with fuses := s.sec.fuses ||| fusePattern l.target, lcTrans := none, confirm := none } }

theorem Settled.spendTransition (h : Settled v s) {l : LcTrans} (hl : s.sec.lcTrans = some l) :
    Settled v (s.spendTransition l) :=
  h.of_sec { Settles.refl s.sec with
    fuses := by
      show s.sec.fuses &&& (s.sec.fuses ||| fusePattern l.target) = s.sec.fuses
      ext i hi
      simp +contextual
    idle := fun e => absurd (hl.symm.trans e) (by simp)
    confirm := fun _ => rfl } rfl

/-- The transition spent, the RSK made on entering PROVISIONED, and debug and sessions ended. -/
def State.leaveLifecycle (s : State) (l : LcTrans) : State :=
  ((if l.target = 1 then (s.spendTransition l).makeRsk else s.spendTransition l).endDebug true).endSessions

theorem State.blowLifecycle_eq {l : LcTrans} (hl : s.sec.lcTrans = some l) : s.blowLifecycle =
    (((s.leaveLifecycle l).lifecycleRecord l.old l.target l.origin).disarm .lifecycleDone).raiseNotify .cork 4 0xFFFF
      (0x8500 + l.target) [byteOf l.old, byteOf l.target] := by
  rw [State.blowLifecycle, hl]
  rfl

theorem State.blowLifecycle_idle (h : s.sec.lcTrans = none) : s.blowLifecycle = s := by rw [State.blowLifecycle, h]

theorem State.leaveLifecycle_blow {l : LcTrans} (hl : s.sec.lcTrans = some l) : Fr unitWork (s.leaveLifecycle l) s.blowLifecycle := by
  rw [State.blowLifecycle_eq hl]
  exact State.raiseNotify_fr _ _ _ _ _ _ rfl (State.disarm_fr _ _ rfl (State.lifecycleRecord_fr _ _ _ _ rfl (Fr.refl _ _)))

theorem Settled.leaveLifecycle (h : Settled v (s.spendTransition l)) : Settled v (s.leaveLifecycle l) :=
  (Settled.endDebug (prop_branch (P := Settled v) State.makeRsk Settled.makeRsk h) _).endSessions

theorem Settled.blowLifecycle (h : Settled v s) : Settled v s.blowLifecycle := by
  cases hl : s.sec.lcTrans with
  | none => rwa [State.blowLifecycle_idle hl]
  | some l => exact Settled.frame (State.leaveLifecycle_blow hl) (h.spendTransition hl).leaveLifecycle

/-! ### The core domain and the trellis falling -/

theorem Settled.haltCore (h : Settled v s) : Settled v s.haltCore := by
  have dropped : Settled v (s.dropSigning 5) := Settled.frame (State.dropSigning_fr _ _ rfl (Fr.refl _ _)) h
  unfold State.haltCore
  exact Settled.frame (State.unitsDown_fr _ rfl (State.discardWaiting_fr _ rfl (Fr.refl _ _)))
    (dropped.endDebug _).endSessions

theorem State.coreDown_sec (s : State) : s.coreDown.sec =
    { s.haltCore.sec with halted := [], challenge := none, confirm := none, kwk := none, dik := none } := by
  unfold State.coreDown State.haltCore
  exact (State.set_fr _ _ _ (F := unitWork) rfl (State.set_fr _ _ _ rfl (State.set_fr _ _ _ rfl (State.set_fr _ _ _ rfl
    (State.set_fr _ _ _ rfl (Fr.refl _ _)))))).sec rfl

theorem Settled.coreDown (h : Settled v s) : Settled v s.coreDown := by
  refine ⟨?_, ((State.coreDown_fr s (F := maskBut [0]) rfl (Fr.refl _ s)).time rfl).trans h.2⟩
  rw [State.coreDown_sec]
  exact h.haltCore.1.trans { Settles.refl s.haltCore.sec with confirm := fun _ => rfl }

theorem Settled.closeTransitions (h : Settled v s) : Settled v s.closeTransitions := h

theorem Settled.markShutdown (h : Settled v s) : Settled v s.markShutdown := h

theorem Settled.declareShutdown (h : Settled v s) (d : Shutdown) : Settled v (s.declareShutdown d) := h

theorem Settled.enterDormant (h : Settled v s) (reason : Nat) : Settled v (s.enterDormant reason) := by
  have quiet : Settled v s.quietDown := by
    unfold State.quietDown
    exact Settled.coreDown (Settled.frame (State.paOff_fr _ rfl (State.hardMute_fr _ rfl (State.closeRefLoss_fr _ rfl
      (State.depart_fr _ _ rfl (Fr.refl _ _))))) h)
  have entered := Settled.frame (State.enterState_fr _ .dormant reason rfl (Fr.refl _ _)) quiet.closeTransitions
  rw [State.enterDormant_eq]
  exact prop_ite (P := Settled v) entered entered

theorem Settled.emptyLogQueues (h : Settled v s) : Settled v s.emptyLogQueues := h

theorem Settled.drainLast (h : Settled v s) : Settled v s.drainLast := by
  unfold State.drainLast
  exact Settled.emptyLogQueues (Settled.frame (State.drainLogs_fr _ _ rfl (State.endClear_fr _ rfl
    (State.noteRestricted_fr _ rfl (State.closeRefLoss_fr _ rfl (Fr.refl _ _))))) h)

theorem Settled.releaseRail (h : Settled v s) (n : Nat) : Settled v (s.releaseRail n) := by
  have dropped : Settled v ((if n = 0 then s.drainLast else s).dropEnable n) :=
    prop_branch (P := Settled v) State.drainLast Settled.drainLast h
  rw [State.releaseRail_eq]
  exact prop_ite (P := Settled v) (prop_branch (P := Settled v) State.coreDown Settled.coreDown dropped)
    (prop_branch (P := Settled v) State.coreDown Settled.coreDown dropped)

theorem Settled.releaseReady (h : Settled v s) : Settled v s.releaseReady := by
  unfold State.releaseReady
  exact prop_foldl (P := Settled v) h (fun _ _ _ g => g.releaseRail _)

theorem Settled.beginReleases (h : Settled v s) : Settled v s.beginReleases := by
  unfold State.beginReleases
  split
  · exact h
  · refine Settled.releaseReady (Settled.frame (State.stepReleased_fr _ rfl (State.cancelEnables_fr _ rfl
      (Fr.refl _ _))) ?_)
    exact h

theorem Settled.completeShutdown (h : Settled v s) : Settled v s.completeShutdown := by
  unfold State.completeShutdown
  split
  · exact h
  · refine prop_ite (P := Settled v) h (Settled.frame (State.actHeldRst_fr _ rfl (State.afterShutdown_fr _ _ rfl
      (Fr.refl _ _))) (Settled.enterDormant ?_ _))
    exact h

theorem Settled.goDown (h : Settled v s) : Settled v s.goDown := by
  have down := Settled.beginReleases (Settled.frame (State.paOff_fr s rfl (Fr.refl _ _)) h)
  unfold State.goDown
  exact prop_ite (P := Settled v) h (prop_ite (P := Settled v) down down.completeShutdown)

/-! ### Shutdowns, restarts and HOLDUP -/

/-- A timed shutdown after the lifecycle transition in hand has taken effect. -/
theorem Settled.quietUnit (h : Settled v s.blowLifecycle) : Settled v s.quietUnit := by
  unfold State.quietUnit
  exact Settled.frame (State.hardMute_fr _ rfl (Fr.refl _ _)) (Settled.endDebug (Settled.frame
    (State.returnMargins_fr _ rfl (Fr.refl _ _)) (h.preemptCommit.endWaiting _)) _)

theorem Settled.shutdown (h : Settled v s.blowLifecycle) (cause : ShutCause) (reason : Nat) (restart : Bool) (leadUs : Nat)
    (faults : List Nat) : Settled v (s.beginShutdown cause reason restart leadUs faults) := by
  have declared (d : Shutdown) : Settled v (s.quietUnit.markShutdown.declareShutdown d) :=
    h.quietUnit.markShutdown.declareShutdown d
  rw [State.beginShutdown_eq]
  refine prop_ite (P := Settled v) (declared _).goDown ?_
  exact Settled.frame (State.arm_fr _ _ _ rfl (State.set_fr _ _ _ rfl (State.cancelEnables_fr _ rfl (Fr.refl _ _))))
    (declared _)

theorem Settled.beginShutdown (h : Settled v s) (cause : ShutCause) (reason : Nat) (restart : Bool) (leadUs : Nat)
    (faults : List Nat) : Settled v (s.beginShutdown cause reason restart leadUs faults) := h.blowLifecycle.shutdown ..

theorem Settled.restart (h : Settled v s) (reason : Nat) : Settled v (s.restart reason) := by
  unfold State.restart
  exact Settled.beginShutdown (Settled.frame (State.depart_fr _ _ rfl (Fr.refl _ _)) h) _ _ _ _ _

end

end Sys2Proof.Machine

namespace Sys2Proof.Machine

open Sys2Proof

/-! ## A lifecycle transition at its end, before a shutdown, and at HOLDUP (R110 to R113, R134) -/

section

variable {s : State} {l : LcTrans}

theorem State.endDebug_debugOwner (s : State) : (s.endDebug true).sec.debugOwner = none := by
  rw [State.endDebug_eq]
  split
  next idle => simpa using idle.2.1
  next => rfl

/-- What the taking effect of a transition leaves in the security unit. -/
structure LifecycleLeft (s : State) (l : LcTrans) (t : State) : Prop where
  fuses : t.sec.fuses = s.sec.fuses ||| fusePattern l.target
  lcTrans : t.sec.lcTrans = none
  confirm : t.sec.confirm = none
  sessions : t.sec.sessions = []
  debugOwner : t.sec.debugOwner = none

theorem LifecycleLeft.settled {t u : State} (h : LifecycleLeft s l t) (g : Settled t u) : LifecycleLeft s l u := by
  obtain ⟨fuses, lcTrans⟩ := g.1.idle h.lcTrans
  exact ⟨fuses.trans h.fuses, lcTrans, g.1.confirm h.confirm, g.1.sessions h.sessions, g.1.debug h.debugOwner⟩

theorem State.leaveLifecycle_left (s : State) (l : LcTrans) : LifecycleLeft s l (s.leaveLifecycle l) := by
  have left : Settled (s.spendTransition l) (s.leaveLifecycle l) := Settled.leaveLifecycle (Settled.refl _)
  obtain ⟨fuses, lcTrans⟩ := left.1.idle rfl
  exact ⟨fuses, lcTrans, left.1.confirm rfl, State.endSessions_sessions _,
    (Settled.endSessions (Settled.refl _)).1.debug (State.endDebug_debugOwner _)⟩

theorem State.blowLifecycle_left (hl : s.sec.lcTrans = some l) : LifecycleLeft s l s.blowLifecycle :=
  (s.leaveLifecycle_left l).settled (Settled.frame (State.leaveLifecycle_blow hl) (Settled.refl _))

theorem LifecycleLeft.of_expired {t : State} {T : TimerId} {d : Nat} (h : LifecycleLeft (Claims.expired s T d) l t) :
    LifecycleLeft s l t :=
  { h with fuses := h.fuses.trans (by rw [(expired_fr s T d).sec rfl]) }

theorem lifecycleTransition_restarts {d : Nat} (hl : s.sec.lcTrans = some l) (due : s.deadline .lifecycleDone = some d) :
    exec .lifecycleTransition s = .next (((Claims.expired s .lifecycleDone d).blowLifecycle).restart 0x13) ∧
    LifecycleLeft s l (((Claims.expired s .lifecycleDone d).blowLifecycle).restart 0x13) := by
  have waits : (Claims.expired s .lifecycleDone d).sec.lcTrans = some l := by rw [(expired_fr s .lifecycleDone d).sec rfl, hl]
  refine ⟨?_, ((State.blowLifecycle_left waits).settled (Settled.restart (Settled.refl _) 0x13)).of_expired⟩
  show Host.Outcome.next (s.onTimer .lifecycleDone _) = _
  rw [State.onTimer_of_deadline _ due]
  simp only [waits]

theorem beginShutdown_fuses (hl : s.sec.lcTrans = some l) (cause : ShutCause) (reason : Nat) (restart : Bool) (lead : Nat)
    (faults : List Nat) : (s.beginShutdown cause reason restart lead faults).sec.fuses = s.sec.fuses ||| fusePattern l.target :=
  ((State.blowLifecycle_left hl).settled (Settled.shutdown (Settled.refl _) cause reason restart lead faults)).fuses

theorem Settled.endAtHoldup {v : State} (h : Settled v s) : Settled v s.endAtHoldup := by
  have dropped := Settled.frame (State.dropSigning_fr _ 4 rfl (State.cutLead_fr _ rfl (State.disarm_fr _ .relockRetry rfl
    (State.disarm_fr _ .serviceTimeout rfl (State.disarm_fr s .lifecycleDone rfl (Fr.refl _ _)))))) h
  have returned := Settled.frame (State.returnMargins_fr _ rfl (Fr.refl _ _)) dropped
  unfold State.endAtHoldup
  exact Settled.frame (State.closeRefLoss_fr _ rfl (State.depart_fr _ _ rfl (State.discardWaiting_fr _ rfl (Fr.refl _ _))))
    (returned.endDebug true).endSessions

theorem Settled.stopAtHoldup {v : State} (h : Settled v s) : Settled v s.stopAtHoldup := by
  unfold State.stopAtHoldup
  exact Settled.frame (State.portsAtHoldup_fr _ rfl (State.lidHoldup_fr _ rfl (State.cancelEnables_fr _ rfl
    (State.writeBack_fr _ rfl (State.updateAtHoldup_fr _ rfl (State.commitAtHoldup_fr _ rfl (State.tiuOff_fr _ rfl
      (State.paOff_fr _ rfl (Fr.refl _ _))))))))) h

theorem Settled.awaitHoldupLead {v : State} (h : Settled v s) : Settled v s.awaitHoldupLead := h

/-- What HOLDUP does once the transition in hand is dropped. -/
theorem Settled.enterHoldup (s : State) : Settled s.warnHoldup s.enterHoldup := by
  have ended : Settled s.warnHoldup s.warnHoldup.endAtHoldup := Settled.endAtHoldup (Settled.refl _)
  have stopped := (Settled.frame (State.hardMute_fr _ rfl (Fr.refl _ _)) ended).stopAtHoldup
  have entered := Settled.frame (State.fieldAtHoldup_fr _ rfl (State.enterState_fr _ .holdup 5 rfl (Fr.refl _ _))) stopped
  rw [State.enterHoldup_eq]
  exact entered.awaitHoldupLead

/-- HOLDUP leaves no transition in hand (R112). -/
theorem enterHoldup_lcTrans (s : State) : s.enterHoldup.sec.lcTrans = none := ((Settled.enterHoldup s).1.idle rfl).2

end

/-- Settles O13: the end of the transition blows its fuses and restarts; a shutdown that comes first blows them too. -/
theorem lifecycleTransitionBlowsFuses : Obligations.LifecycleTransitionBlowsFuses := by
  unfold Obligations.LifecycleTransitionBlowsFuses
  intro s l hl
  refine ⟨fun d due => ?_, fun _ _ _ _ => beginShutdown_fuses hl _ _ _ _ _, s.enterHoldup_keeps.2, enterHoldup_lcTrans s⟩
  obtain ⟨answer, fuses, lcTrans, confirm, sessions, debugOwner⟩ := lifecycleTransition_restarts hl due
  exact ⟨_, answer, fuses, lcTrans, confirm, sessions, debugOwner, rfl⟩

end Sys2Proof.Machine

namespace Sys2Proof.Machine

open Sys2Proof

/-! ## Command objects (R163, R188, R192) -/

/-- The sampling of SEAL_N and Service activity leave the commit engine. -/
theorem Claims.writeState_eng (u : State) (k : Nat) : (Claims.writeState u k).eng = u.eng := by
  have hs : ∀ w : State, w.sampleSeal.eng = w.eng := fun w => by
    rw [State.sampleSeal]
    split
    · rfl
    · rfl
  rw [Claims.writeState]
  split
  · rw [hs, u.activity_same.1]
  · exact u.activity_same.1

/-- A command that writes a number to a write-only object that is answered at once does what the object's command does. -/
theorem Claims.does_command {i : Instr} {r : ReqCtx} {k v : Nat} {f : Caller → State → State}
    (hi : Claims.message i = some (r, 1, 0, Claims.numberBody k v))
    (he : ∀ s, exec i s = .next (s.arrive r 1 0 (Claims.numberBody k v))) (hk : isCommand k = true)
    (hkey : keyWhich k = none) (hl : k ∉ [Obj.lifecycleRequest, Obj.debugRequest, Obj.debugToken])
    (hv : v < 256 ^ objSize k) (hact : ∀ c w, State.actCommand w c k v = f c w) : Claims.Does i k v f := by
  intro s r' b c u h hf hfree
  rw [Claims.exec_number hi (he s) hk hv h hf,
    State.actWo_command _ _ hkey hl (hfree.imp_left ((congrArg Engine.commit (Claims.writeState_eng u k)).trans)), hact]

theorem State.actCommand_updateActivate (c : Caller) (w : State) : w.actCommand c Obj.updateActivate 1 = w.activateUpdate := by
  rw [State.actCommand, if_neg (by decide), if_neg (by decide), if_neg (by decide), if_neg (by decide), if_neg (by decide),
    if_neg (by decide), if_pos rfl]

theorem State.actCommand_clearLatch (c : Caller) (w : State) : w.actCommand c Obj.railSeqClearLatch 1 = w.clearLatch := by
  rw [State.actCommand, if_neg (by decide), if_neg (by decide), if_neg (by decide), if_neg (by decide), if_neg (by decide),
    if_neg (by decide), if_neg (by decide), if_neg (by decide), State.actUnit, if_neg (by decide), if_pos rfl]

/-! ## Sticky registers (R116, R180, R181) -/

theorem objKey_div_mod (index : BitVec 16) (sub : Byte) : objKey index.toNat sub.toNat / 256 = index.toNat ∧
    objKey index.toNat sub.toNat % 256 = sub.toNat ∧ objKey index.toNat sub.toNat < 256 * 65536 := by
  have hi := index.isLt
  have hs := sub.isLt
  rw [objKey]
  omega

/-- A Write of a mask that passes its checks clears flags and is answered. -/
theorem State.writeObject_rw1c {u : State} {c : Caller} {req value : Bytes} {d : ObjDef} {k v : Nat} (hd : objOf k = some d)
    (hacc : d.acc = .rw1c)
    (h : firstAbort [(Claims.writeState u k).precondition k v, (Claims.writeState u k).heldCheck c [(k, v)]] = none) :
    u.activity.writeObject c req d k v value =
      ((Claims.writeState u k).done c (k / 256) (k % 256)).stickyClear c.role c.dest.peer k v := by
  have hother : ∀ j, isRw1c j = false → k ≠ j := fun j hj e => by
    rw [← e, isRw1c, hd] at hj
    simp [hacc] at hj
  rw [State.writeObject, if_neg (hother _ (by decide))]
  show (match firstAbort [(Claims.writeState u k).precondition k v, (Claims.writeState u k).heldCheck c [(k, v)]] with
    | some a => (Claims.writeState u k).abort c req a
    | none => _) = _
  rw [h]
  dsimp only
  rw [if_neg (hother _ (by decide)), hacc]
  rfl

theorem does_stickyClear (r : ReqCtx) (index : BitVec 16) (sub : Byte) (mask : BitVec 32)
    (hk : isRw1c (objKey index.toNat sub.toNat) = true) :
    Claims.Does (.stickyClear r index sub mask) (objKey index.toNat sub.toNat)
      (leNat (leBytes (objSize (objKey index.toNat sub.toNat)) mask.toNat)) (fun c w =>
        w.stickyClear c.role c.dest.peer (objKey index.toNat sub.toNat)
          (leNat (leBytes (objSize (objKey index.toNat sub.toNat)) mask.toNat))) := by
  intro s r' b c u h hf _
  obtain ⟨-, -, hlt⟩ := objKey_div_mod index sub
  generalize hkey : objKey index.toNat sub.toNat = k at *
  obtain ⟨d, hd, hacc⟩ : ∃ d, objOf k = some d ∧ d.acc = .rw1c := by
    rw [isRw1c] at hk
    split at hk
    next d hd => exact ⟨d, hd, by simpa using hk⟩
    next => cases hk
  have hi : Claims.message (.stickyClear r index sub mask) = some (r, 1, 0, writeBody (k / 256) (k % 256)
      (leBytes (objSize k) mask.toNat)) := by
    subst hkey
    rfl
  have he : exec (.stickyClear r index sub mask) s = .next (s.arrive r 1 0 (writeBody (k / 256) (k % 256)
      (leBytes (objSize k) mask.toNat))) := by
    subst hkey
    rfl
  rw [Claims.exec_write hi he hlt hd h (by rwa [leBytes_length]),
    State.writeObject_rw1c hd hacc (Claims.writeFault_cases hf).2.2]

/-- The flags that a mask clears: those it names whose conditions are no longer present. -/
theorem State.clearFlags_bit (w : State) (k mask n : Nat) : (w.clearFlags k mask).2.bit k n =
    (w.bit k n && (!mask.testBit n || (w.present k).testBit n)) := by
  have hgone : ∀ m, ((w.get k &&& mask) - ((w.get k &&& mask) &&& w.present k)).testBit m =
      ((w.get k &&& mask).testBit m && !((w.get k &&& mask) &&& w.present k).testBit m) :=
    testBit_sub_of_and_eq (by rw [Nat.and_comm, ← Nat.and_assoc, Nat.and_self])
  have hsub : ((w.get k &&& mask) - ((w.get k &&& mask) &&& w.present k)) &&& w.get k =
      (w.get k &&& mask) - ((w.get k &&& mask) &&& w.present k) := by
    refine Nat.eq_of_testBit_eq fun m => ?_
    rw [Nat.testBit_and, hgone, Nat.testBit_and]
    cases (w.get k).testBit m
    · rfl
    · simp
  show ((w.set k _).get k).testBit n = _
  rw [State.get_set_self, testBit_sub_of_and_eq hsub, hgone, State.bit, Nat.testBit_and, Nat.testBit_and, Nat.testBit_and]
  cases (w.get k).testBit n
  · rfl
  · cases mask.testBit n
    · rfl
    · cases (w.present k).testBit n
      · rfl
      · rfl

/-- Settles O57: a served Write of a command object, past its checks, is that object's command. -/
theorem commandWrites : Obligations.CommandWrites := by
  unfold Obligations.CommandWrites
  refine ⟨fun r => ?_, fun r => ?_, fun r index sub mask hk => ?_, State.clearFlags_bit, fun r => ?_, fun r n => ?_, fun r => ?_,
    fun r => ?_, fun r => ?_, fun r => ?_, fun r => ?_, fun r => ?_, fun r => ?_, fun r => ?_, fun w => ?_, fun r => ?_,
    fun r => ?_, fun r => ?_, fun r => ?_, fun r => ?_, fun r => ?_⟩
  case refine_3 =>
    obtain ⟨hindex, hsub, -⟩ := objKey_div_mod index sub
    have hlow : byteOf (objKey index.toNat sub.toNat) = sub :=
      BitVec.eq_of_toNat_eq ((BitVec.toNat_ofNat ..).trans hsub)
    have h := does_stickyClear r index sub mask hk
    simp only [State.stickyClear, State.clearFlags, hindex, hlow] at h
    exact h
  case refine_5 => exact Claims.does_command rfl (fun _ => rfl) (by decide) (by decide) (by decide) n.isLt fun _ _ => rfl
  case refine_7 =>
    exact Claims.does_command (f := fun _ w => w.activateUpdate) rfl (fun _ => rfl) (by decide) (by decide) (by decide)
      (by decide) State.actCommand_updateActivate
  case refine_15 =>
    exact Claims.does_command (f := fun _ w => w.clearLatch) rfl (fun _ => rfl) (by decide) (by decide) (by decide)
      (by decide) State.actCommand_clearLatch
  case refine_14 =>
    obtain ⟨⟨-, hbreach⟩, hlanes⟩ := w.unseal_opens
    exact ⟨hbreach, hlanes⟩
  all_goals
    exact Claims.does_command rfl (fun _ => rfl) (by decide) (by decide) (by decide) (by decide) fun _ _ => rfl

end Sys2Proof.Machine

namespace Sys2Proof.Machine

open Sys2Proof

/-! ## The caller and the message of a served request -/

/-- The caller of a request as its service sees it, and the message as its size check left it. -/
structure Claims.Called (r : ReqCtx) (n : Nat) (b : Bytes) (c : Caller) : Prop where
  svc : c.dest.svc = n
  peer : c.dest.peer = reqPeer r
  via : c.dest.via = r.via
  tid : c.dest.tid = r.tid.toNat
  fresh : c.deferred = false
  size : earlyAbort n b = none

section

variable {i : Instr} {s u : State} {r r' : ReqCtx} {svc aux : Nat} {b b' : Bytes} {c : Caller}

theorem Claims.entry_called (h : Claims.entry s r svc aux b = some (c, u)) : Claims.Called r svc b c := by
  obtain ⟨w, hw, hentry⟩ := State.entry_cases h
  obtain ⟨v, -, hearly, -, -⟩ := State.opened_cases hw
  rcases hentry with ⟨-, rfl, -⟩ | ⟨t, x, -, -, -, -, rfl, -⟩
  · exact ⟨rfl, rfl, rfl, rfl, rfl, hearly⟩
  · exact ⟨rfl, rfl, rfl, rfl, rfl, hearly⟩

/-- A served command's service acts for its caller. -/
theorem Claims.exec_acts (h : Claims.Served i s r b c u) (hi : Claims.message i = some (r', svc, aux, b')) :
    r = r' ∧ b = b' ∧ Claims.Called r svc b c ∧ exec i s = .next (Claims.finished s r (u.act c b)) := by
  obtain ⟨hr, hb, hentry, -⟩ := Claims.served_entry h hi
  exact ⟨hr, hb, Claims.entry_called hentry, Claims.exec_serves h⟩

end

/-- The fields of a message that begins with an index, a sub-index and a fourth byte. -/
theorem typedBody_fields (index : BitVec 16) (sub type : Byte) (rest : Bytes) :
    fieldAt (typedBody index sub type rest) 0 2 = index.toNat ∧ fieldAt (typedBody index sub type rest) 2 1 = sub.toNat ∧
    fieldAt (typedBody index sub type rest) 3 1 = type.toNat ∧ (typedBody index sub type rest).drop 4 = rest := by
  refine ⟨?_, fieldAt_zero_one _ _, fieldAt_zero_one _ _, rfl⟩
  rw [typedBody, List.append_assoc]
  exact fieldAt_leBytes [] _ 2 index.toNat index.isLt

/-! ## Reads (R162, R166, R185) -/

section

variable {s u : State} {r : ReqCtx} {b : Bytes} {c : Caller}

theorem State.serveRead_eq {index : BitVec 16} {sub : Byte}
    (hf : firstAbort [u.lifecycleCheck c.dest.via false index.toNat sub.toNat 0 0, u.roleCheck c.role false index.toNat sub.toNat 0,
      u.powerCheck, u.readyCheck false index.toNat, u.readFault (objKey index.toNat sub.toNat)] = none) :
    u.serveRead c (typedBody index sub 0#8 []) = (u.activity.readEffect (objKey index.toNat sub.toNat)).answer c
      ([0#8, 0#8] ++ leBytes 2 index.toNat ++ [sub, byteOf (typeCodeOf index.toNat sub.toNat)]
        ++ (u.activity.readEffect (objKey index.toNat sub.toNat)).viewBytes c index.toNat sub.toNat) := by
  obtain ⟨hindex, hsub, -, -⟩ := typedBody_fields index sub 0#8 []
  have hall := eq_none_of_firstAbort hf
  simp only [List.forall_mem_cons] at hall
  obtain ⟨h1, h2, h3, h4, h5, -⟩ := hall
  simp only [State.serveRead, hindex, hsub]
  rw [State.gated_of_none _ _ _ _ _ _ (firstAbort_none (by simp [h1, h2, h3])) (firstAbort_none (by simp [h4, h5])), byteOf_byte]

theorem exec_read {i : Instr} {index : BitVec 16} {sub : Byte}
    (hi : Claims.message i = some (r, 0, 0, typedBody index sub 0#8 [])) (h : Claims.Served i s r b c u)
    (hf : firstAbort [u.lifecycleCheck r.via false index.toNat sub.toNat 0 0, u.roleCheck c.role false index.toNat sub.toNat 0,
      u.powerCheck, u.readyCheck false index.toNat, u.readFault (objKey index.toNat sub.toNat)] = none) :
    exec i s = .next (Claims.finished s r ((u.activity.readEffect (objKey index.toNat sub.toNat)).answer c
      ([0#8, 0#8] ++ leBytes 2 index.toNat ++ [sub, byteOf (typeCodeOf index.toNat sub.toNat)]
        ++ (u.activity.readEffect (objKey index.toNat sub.toNat)).viewBytes c index.toNat sub.toNat))) := by
  obtain ⟨-, rfl, called, hexec⟩ := Claims.exec_acts h hi
  rw [hexec, State.act, called.svc]
  exact congrArg (fun t => Host.Outcome.next (Claims.finished s r t)) (State.serveRead_eq (called.via ▸ hf))

/-- A read of Debug.Challenge draws a fresh one (R133). -/
theorem State.readEffect_challenge (w : State) : ∃ v, (w.readEffect Obj.debugChallenge).sec.challenge = some (v, w.now) ∧
    (w.readEffect Obj.debugChallenge).get Obj.debugChallenge = v := by
  refine ⟨w.newChallenge.1, ?_, ?_⟩
  · rw [State.readEffect, if_pos rfl]
    rfl
  · rw [State.readEffect, if_pos rfl]
    exact State.get_set_self ..

end

/-! ## Plain writes of RW objects (R162, R169, R171) -/

section

variable {s u : State} {r : ReqCtx} {b : Bytes} {c : Caller}

/-- What a write of RW objects comes to: the commit, the place behind the one in application, or a refusal (R171). -/
theorem State.commitOrWait_cases (form : ReplyForm) (st : Option StageId) (es : List (Nat × Nat)) (req : Bytes) :
    (u.eng.commit = none → u.commitOrWait c form st es req = u.tryCommit c form st es req) ∧
    (u.eng.commit.isSome → u.eng.waiting = none → u.commitOrWait c form st es req =
      ({ u with eng.waiting := some ⟨{ c with deferred := true }, none, req, 0, u.now, true⟩ } : State).abort c req (0x0A, 0)) ∧
    (u.eng.commit.isSome → u.eng.waiting.isSome → u.commitOrWait c form st es req = u.abort c req (9, 0xFB)) := by
  refine ⟨fun h => ?_, fun h g => ?_, fun h g => ?_⟩
  · rw [State.commitOrWait, h]
    rfl
  · rw [State.commitOrWait, if_neg (by simp [Option.isNone_iff_eq_none, Option.isSome_iff_ne_none.mp h]), g]
    rfl
  · rw [State.commitOrWait, if_neg (by simp [Option.isNone_iff_eq_none, Option.isSome_iff_ne_none.mp h]), if_pos g]

/-- A Write to an RW object that passes every check is committed. -/
theorem State.writeObject_rw {d : ObjDef} {k v : Nat} {req value : Bytes} (hd : objOf k = some d) (hacc : d.acc = .rw)
    (hp : k ≠ Obj.powerStateRequest)
    (h : firstAbort [(Claims.writeState u k).precondition k v, (Claims.writeState u k).heldCheck c [(k, v)]] = none) :
    u.activity.writeObject c req d k v value =
      u.activity.commitOrWait c (.write (k / 256) (k % 256)) none [(k, storedValue d v)] req := by
  have hother : ∀ j, (objOf j).any (fun d => d.acc == .wo) = true → k ≠ j := fun j hj e => by
    rw [← e, hd, Option.any_some, hacc] at hj
    exact absurd hj (by decide)
  have hstate : Claims.writeState u k = u.activity := if_neg (hother _ (by decide))
  rw [hstate] at h
  rw [State.writeObject, if_neg hp, if_neg (hother _ (by decide))]
  dsimp only
  rw [h]
  dsimp only
  rw [if_neg (hother _ (by decide)), hacc]

theorem findObj_objKey (index : BitVec 16) (sub : Byte) :
    objOf (objKey index.toNat sub.toNat) = findObj index.toNat sub.toNat := by
  obtain ⟨hindex, hsub, -⟩ := objKey_div_mod index sub
  rw [objOf, hindex, hsub]

/-- A Write with the type code of its object is a plain one. -/
theorem typedBody_eq_writeBody {index : BitVec 16} {sub : Byte} {d : ObjDef} (hd : findObj index.toNat sub.toNat = some d)
    (value : Bytes) : typedBody index sub (byteOf d.ty.code) value =
      writeBody (objKey index.toNat sub.toNat / 256) (objKey index.toNat sub.toNat % 256) value := by
  obtain ⟨hindex, hsub, -⟩ := objKey_div_mod index sub
  rw [hindex, hsub, writeBody, byteOf_byte, typeCodeOf, hd]
  rfl

/-- A served Write of an RW object goes to the commit engine. -/
theorem exec_write_rw {index : BitVec 16} {sub : Byte} {value : Bytes} {d : ObjDef}
    (h : Claims.Served (.write r index sub (byteOf d.ty.code) value) s r b c u)
    (hd : findObj index.toNat sub.toNat = some d) (hacc : d.acc = .rw)
    (hp : objKey index.toNat sub.toNat ≠ Obj.powerStateRequest)
    (hf : Claims.writeFault c u (objKey index.toNat sub.toNat) (leNat value) value.length = none) :
    exec (.write r index sub (byteOf d.ty.code) value) s = .next (Claims.finished s r
      (u.activity.commitOrWait c (.write index.toNat sub.toNat) none
        [(objKey index.toNat sub.toNat, storedValue d (leNat value))] b)) := by
  obtain ⟨hindex, hsub, hlt⟩ := objKey_div_mod index sub
  have hobj := (findObj_objKey index sub).trans hd
  have hbody := typedBody_eq_writeBody hd value
  have hi : Claims.message (.write r index sub (byteOf d.ty.code) value) = some (r, 1, 0,
      typedBody index sub (byteOf d.ty.code) value) := rfl
  have he : exec (.write r index sub (byteOf d.ty.code) value) s = .next (s.arrive r 1 0
      (typedBody index sub (byteOf d.ty.code) value)) := rfl
  rw [hbody] at hi he
  rw [Claims.exec_write hi he hlt hobj h hf, State.writeObject_rw hobj hacc hp (Claims.writeFault_cases hf).2.2, hindex, hsub]

theorem exec_write_cases (r : ReqCtx) (index : BitVec 16) (sub type : Byte) (value : Bytes) (d : ObjDef) (s : State) (b : Bytes)
    (c : Caller) (u : State) (h : Claims.Served (.write r index sub type value) s r b c u)
    (hd : findObj index.toNat sub.toNat = some d) (hacc : d.acc = .rw) (htype : type = byteOf d.ty.code)
    (hp : objKey index.toNat sub.toNat ≠ Obj.powerStateRequest)
    (hf : Claims.writeFault c u (objKey index.toNat sub.toNat) (leNat value) value.length = none) :
    (u.eng.commit = none → exec (.write r index sub type value) s = .next (Claims.finished s r
      (u.activity.tryCommit c (.write index.toNat sub.toNat) none
        [(objKey index.toNat sub.toNat, storedValue d (leNat value))] b))) ∧
    (u.eng.commit.isSome → u.eng.waiting = none → exec (.write r index sub type value) s = .next (Claims.finished s r
      ({ u.activity with eng.waiting := some ⟨{ c with deferred := true }, none, b, 0, u.now, true⟩ }.abort c b
        (0x0A, 0)))) ∧
    (u.eng.commit.isSome → u.eng.waiting.isSome → exec (.write r index sub type value) s = .next (Claims.finished s r
      (u.activity.abort c b (9, 0xFB)))) := by
  subst htype
  obtain ⟨heng, hnow, -⟩ := u.activity_same
  obtain ⟨hfree, hwait, hfull⟩ := State.commitOrWait_cases (u := u.activity) (c := c) (.write index.toNat sub.toNat) none
    [(objKey index.toNat sub.toNat, storedValue d (leNat value))] b
  rw [hnow] at hwait
  rw [exec_write_rw h hd hacc hp hf]
  exact ⟨fun hc => by rw [hfree (by rwa [heng])], fun hc hw => by rw [hwait (by rwa [heng]) (by rwa [heng])],
    fun hc hw => by rw [hfull (by rwa [heng]) (by rwa [heng])]⟩

/-- A command that commits one value to an RW object. -/
theorem Claims.commits_number {i : Instr} {k v : Nat} {d : ObjDef}
    (hi : Claims.message i = some (r, 1, 0, Claims.numberBody k v))
    (he : ∀ s, exec i s = .next (s.arrive r 1 0 (Claims.numberBody k v))) (hk : k < 256 * 65536) (hd : objOf k = some d)
    (hacc : d.acc = .rw) (hp : k ≠ Obj.powerStateRequest) (hv : v < 256 ^ objSize k) (hs : storedValue d v = v) :
    Claims.Commits i k v := by
  intro s r' b c u h hf hc
  have hn := leNat_numberBytes hv
  have heng : u.activity.eng.commit = none := by rw [u.activity_same.1, hc]
  rw [Claims.exec_write hi (he s) hk hd h (by rwa [hn, leBytes_length]), hn,
    State.writeObject_rw hd hacc hp (Claims.writeFault_cases hf).2.2, (State.commitOrWait_cases _ _ _ _).1 heng, hs]

/-- The command object of a margin channel is an RW byte. -/
theorem marginCommand_object (ch : Fin 4) : Obj.marginCommand ch.val < 256 * 65536 ∧
    Obj.marginCommand ch.val ≠ Obj.powerStateRequest ∧ objSize (Obj.marginCommand ch.val) = 1 ∧
    ∃ d, objOf (Obj.marginCommand ch.val) = some d ∧ d.acc = .rw ∧ ∀ v < 3, storedValue d v = v := by
  have hall : ∀ ch : Fin 4, (Obj.marginCommand ch.val < 256 * 65536 ∧ Obj.marginCommand ch.val ≠ Obj.powerStateRequest ∧
      objSize (Obj.marginCommand ch.val) = 1) ∧ (objOf (Obj.marginCommand ch.val)).any (fun d => d.acc == .rw &&
        (List.range 3).all (fun v => storedValue d v == v)) = true := by decide
  obtain ⟨⟨hlt, hp, hsize⟩, hobj⟩ := hall ch
  obtain ⟨d, hd, hgood⟩ := (Option.any_eq_true _ _).mp hobj
  simp only [Bool.and_eq_true, List.all_eq_true, List.mem_range, beq_iff_eq] at hgood
  exact ⟨hlt, hp, hsize, d, hd, hgood⟩

theorem commits_margin (ch : Fin 4) : Claims.Commits (.marginHigh r ch) (Obj.marginCommand ch.val) 1 ∧
    Claims.Commits (.marginLow r ch) (Obj.marginCommand ch.val) 2 ∧
    Claims.Commits (.marginNominal r ch) (Obj.marginCommand ch.val) 0 := by
  obtain ⟨hlt, hp, hsize, d, hd, hacc, hs⟩ := marginCommand_object ch
  have hv : ∀ v < 3, v < 256 ^ objSize (Obj.marginCommand ch.val) := fun v h => by rw [hsize]; omega
  exact ⟨Claims.commits_number (r := r) rfl (fun _ => rfl) hlt hd hacc hp (hv 1 (by decide)) (hs 1 (by decide)),
    Claims.commits_number (r := r) rfl (fun _ => rfl) hlt hd hacc hp (hv 2 (by decide)) (hs 2 (by decide)),
    Claims.commits_number (r := r) rfl (fun _ => rfl) hlt hd hacc hp (hv 0 (by decide)) (hs 0 (by decide))⟩

/-- Config.RestoreDefaults commits the defaults (R199). -/
theorem exec_restoreDefaults (h : Claims.Served (.restoreDefaults r) s r b c u)
    (hf : Claims.writeFault c u Obj.configRestoreDefaults 0xDEF0 (objSize Obj.configRestoreDefaults) = none)
    (hheld : u.activity.heldCheck c u.activity.restoreEntries = none) (hc : u.eng.commit = none) :
    exec (.restoreDefaults r) s = .next (Claims.finished s r (u.activity.tryCommit c
      (.write (Obj.configRestoreDefaults / 256) (Obj.configRestoreDefaults % 256)) none u.activity.restoreEntries b)) := by
  obtain ⟨d, hd⟩ : ∃ d, objOf Obj.configRestoreDefaults = some d := Option.isSome_iff_exists.mp (by decide)
  have hn : leNat (leBytes (objSize Obj.configRestoreDefaults) 0xDEF0) = 0xDEF0 := leNat_numberBytes (by decide)
  have heng : u.activity.eng.commit = none := by rw [u.activity_same.1, hc]
  have hchecks : firstAbort [u.activity.precondition Obj.configRestoreDefaults 0xDEF0,
      u.activity.heldCheck c [(Obj.configRestoreDefaults, 0xDEF0)]] = none := (Claims.writeFault_cases hf).2.2
  have hobject : u.activity.writeObject c b d Obj.configRestoreDefaults 0xDEF0
      (leBytes (objSize Obj.configRestoreDefaults) 0xDEF0) = u.activity.commitOrWait c
        (.write (Obj.configRestoreDefaults / 256) (Obj.configRestoreDefaults % 256)) none u.activity.restoreEntries b := by
    rw [State.writeObject, if_neg (by decide), if_neg (by decide)]
    dsimp only
    rw [hchecks]
    dsimp only
    rw [if_pos rfl, hheld]
  rw [Claims.exec_write (k := Obj.configRestoreDefaults) (value := leBytes (objSize Obj.configRestoreDefaults) 0xDEF0) rfl rfl
    (by decide) hd h (by rwa [hn, leBytes_length]), hn, hobject, (State.commitOrWait_cases _ _ _ _).1 heng]

/-! ## The journal before a commit is applied (R157, R169) -/

/-- A commit of entries that pass their checks again begins. -/
theorem State.tryCommit_starts {w : State} {form : ReplyForm} {st : Option StageId} {es : List (Nat × Nat)} {req : Bytes}
    (htrans : w.transition = none) (hpower : w.powerCheck = none) (hstore : w.cfg.writeFailed = false)
    (hsafe : firstFailure es (w.allChecks es) = none)
    (hready : ∀ e ∈ es, w.readyCheck true (e.1 / 256) = none ∧ w.precondition e.1 e.2 = none) (hes : es ≠ []) :
    w.tryCommit c form st es req = w.startCommit c form st es req := by
  rw [State.tryCommit, htrans]
  dsimp only
  split
  next a ha =>
    obtain ⟨e, he, hfails⟩ := List.exists_of_findSome?_eq_some ha
    obtain ⟨h1, h2⟩ := hready e he
    simp [hpower, h1, h2] at hfails
  next =>
    rw [if_neg (by simp [hstore]), hsafe]
    exact if_neg (by simpa using hes)

/-- Persistent entries go to the journal before any takes effect. -/
theorem State.startCommit_journals {w : State} {form : ReplyForm} {st : Option StageId} {es : List (Nat × Nat)} {req : Bytes}
    (hstored : es.filter (fun e => isPersistentRw e.1) ≠ []) :
    (w.startCommit c form st es req).cfg.journal = es.filter (fun e => isPersistentRw e.1) ∧
    (w.startCommit c form st es req).cfg.marker = false ∧
    (w.startCommit c form st es req).get Obj.dictCommitState = 1 ∧
    (w.startCommit c form st es req).eng.commit.any (fun x => !x.journalled && x.total == es.length
      && x.persistent == es.filter (fun e => isPersistentRw e.1)) = true := by
  have hempty : (es.filter (fun e => isPersistentRw e.1)).isEmpty = false := by simpa using hstored
  simp only [State.startCommit, hempty, Bool.false_eq_true, if_false]
  refine ⟨rfl, rfl, State.get_set_self .., ?_⟩
  rw [State.set_eng]
  refine prop_ite (P := fun t : State => t.eng.commit.any _ = true) ?_ (prop_ite
    (P := fun t : State => t.eng.commit.any _ = true) ?_ ?_)
  · simp
  · rw [(State.abort_fr _ c req (0x0A, 0) (F := maskBut [18]) rfl (Fr.refl _ _)).eng rfl]
    simp
  · simp [State.arm]

end

end Sys2Proof.Machine

namespace Sys2Proof.Machine

open Sys2Proof

/-! ## Stages (R163 to R168) -/

section

variable {s u : State} {r : ReqCtx} {b : Bytes} {c : Caller}

/-- A stage holds what was put into it last. -/
theorem State.stageOf_setStage (w : State) (who : StageId) (es : List (Nat × Nat)) : (w.setStage who es).stageOf who = es := by
  have hrest : (w.eng.stages.filter (fun st => st.who != who)).find? (fun st => st.who == who) = none := by
    simp [List.find?_eq_none]
  unfold State.stageOf State.setStage
  cases es with
  | nil =>
    simp only [List.isEmpty_nil, if_true]
    rw [hrest]
  | cons e es =>
    simp only [List.isEmpty_cons, Bool.false_eq_true, if_false]
    rw [List.find?_append, hrest]
    simp

/-- Service activity leaves the stages and whose they are. -/
theorem State.activity_stages (s : State) : (∀ c, s.activity.stageId c = s.stageId c) ∧
    (∀ who, s.activity.stageOf who = s.stageOf who) ∧ (∀ k, s.activity.get k = s.get k) ∧
    (∀ peer w, s.activity.blockOf w peer = s.blockOf w peer) ∧ s.activity.upd = s.upd := by
  obtain ⟨l, h⟩ := s.activity_eq
  rw [h]
  exact ⟨fun _ => rfl, fun _ => rfl, fun _ => rfl, fun _ _ => rfl, rfl⟩

theorem State.stageEntry_fits {w : State} {who : StageId} {k v : Nat} (hlen : (putEntry (w.stageOf who) k v).length ≤ 64)
    (hbytes : stageBytes (putEntry (w.stageOf who) k v) ≤ 2048) : w.stageEntry c b who k v =
      ((w.setStage who (putEntry (w.stageOf who) k v)).arm (.stage who) (1000000 * w.get Obj.configStageTimeout)).answer c
        (writeReply (k / 256) (k % 256)) := by
  rw [State.stageEntry]
  exact if_neg (by omega)

theorem exec_stagedWrite (r : ReqCtx) (index : BitVec 16) (sub type : Byte) (value : Bytes) (d : ObjDef) (who : StageId)
    (s : State) (b : Bytes) (c : Caller) (u : State) (h : Claims.Served (.stagedWrite r index sub type value) s r b c u)
    (hd : findObj index.toNat sub.toNat = some d) (htype : type = byteOf d.ty.code)
    (hstage : stageable d (objKey index.toNat sub.toNat) = true) (hwho : u.stageId c = some who)
    (hf : firstAbort [u.lifecycleCheck r.via true index.toNat sub.toNat (leNat value) value.length,
      u.roleCheck c.role true index.toNat sub.toNat (leNat value), u.powerCheck, u.readyCheck true index.toNat,
      u.writeValueCheck index.toNat sub.toNat d.ty.code value.length (leNat value),
      u.activity.precondition (objKey index.toNat sub.toNat) (leNat value),
      u.activity.heldCheck c [(objKey index.toNat sub.toNat, leNat value)]] = none)
    (hlen : (putEntry (u.stageOf who) (objKey index.toNat sub.toNat) (storedValue d (leNat value))).length ≤ 64)
    (hbytes : stageBytes (putEntry (u.stageOf who) (objKey index.toNat sub.toNat) (storedValue d (leNat value))) ≤ 2048) :
    exec (.stagedWrite r index sub type value) s = .next (Claims.finished s r
      (((u.activity.setStage who (putEntry (u.stageOf who) (objKey index.toNat sub.toNat) (storedValue d (leNat value)))).arm
        (.stage who) (1000000 * u.get Obj.configStageTimeout)).answer c (writeReply index.toNat sub.toNat))) := by
  obtain ⟨-, rfl, called, hexec⟩ := Claims.exec_acts h
    (show Claims.message (.stagedWrite r index sub type value) = some (r, 2, 0, typedBody index sub type value) from rfl)
  obtain ⟨hindex, hsub, -⟩ := objKey_div_mod index sub
  obtain ⟨hi, hs, ht, hvalue⟩ := typedBody_fields index sub type value
  obtain ⟨hid, hof, hget, -⟩ := u.activity_stages
  have hcode : type.toNat = d.ty.code := by
    have := typeCodeOf_lt index.toNat sub.toNat
    rw [typeCodeOf, hd] at this
    rw [htype, byteOf_toNat this]
  have hall := eq_none_of_firstAbort hf
  simp only [List.forall_mem_cons] at hall
  obtain ⟨h1, h2, h3, h4, h5, h6, h7, -⟩ := hall
  have hown : u.stageCheck c = none := by rw [State.stageCheck, hwho]; rfl
  rw [← hof] at hlen hbytes ⊢
  rw [hexec, State.act, called.svc]
  simp only [State.serveStaged, hi, hs, ht, hvalue, hcode, called.via]
  rw [State.gated_of_none _ _ _ _ _ _ (firstAbort_none (by simp [h1, h2, hown, h3])) (firstAbort_none (by simp [h4, h5])),
    hd, hid, hwho]
  dsimp only
  rw [firstAbort_none (by simp [hstage, h6, h7])]
  dsimp only
  rw [State.stageEntry_fits hlen hbytes, hindex, hsub, hget]

theorem exec_discard {who : StageId} (h : Claims.Served (.discard r) s r b c u) (hwho : u.stageId c = some who)
    (hinvalid : u.invalidCheck = none) (hrole : u.needRole c.role 0 = none) (hpower : u.powerCheck = none)
    (hready : u.readyCheck true 0x7210 = none) : exec (.discard r) s = .next (Claims.finished s r
      (((u.activity.setStage who []).disarm (.stage who)).answer c [0#8, 0#8, byteOf (u.stageOf who).length, 0#8])) := by
  obtain ⟨-, rfl, called, hexec⟩ := Claims.exec_acts h (show Claims.message (.discard r) = some (r, 4, 0, []) from rfl)
  obtain ⟨hid, hof, -⟩ := u.activity_stages
  have hown : u.stageCheck c = none := by rw [State.stageCheck, hwho]; rfl
  rw [hexec, State.act, called.svc]
  simp only [State.serveDiscard]
  rw [State.gated_of_none _ _ _ _ _ _ (firstAbort_none (by simp [hinvalid, hrole, hown, hpower]))
    (firstAbort_none (by simp [hready])), hid, hwho]
  dsimp only
  rw [hof]

theorem exec_commit {who : StageId} (h : Claims.Served (.commit r) s r b c u) (hwho : u.stageId c = some who)
    (hinvalid : u.invalidCheck = none) (hrole : u.needRole c.role 0 = none) (hpower : u.powerCheck = none)
    (hready : u.readyCheck true 0x7210 = none) (htrans : u.transCheck = none) (hc : u.eng.commit = none) :
    exec (.commit r) s = .next (Claims.finished s r (
      let w := if (u.stageOf who).isEmpty then u.activity
        else u.activity.arm (.stage who) (1000000 * u.get Obj.configStageTimeout)
      w.tryCommit c .commit (some who) (u.stageOf who) b)) := by
  obtain ⟨-, rfl, called, hexec⟩ := Claims.exec_acts h (show Claims.message (.commit r) = some (r, 3, 0, []) from rfl)
  obtain ⟨hid, hof, hget, -⟩ := u.activity_stages
  have hown : u.stageCheck c = none := by rw [State.stageCheck, hwho]; rfl
  have heng : u.activity.eng.commit = none := by rw [u.activity_same.1, hc]
  have hfree : (if (u.stageOf who).isEmpty then u.activity
      else u.activity.arm (.stage who) (1000000 * u.get Obj.configStageTimeout)).eng.commit = none :=
    prop_ite (P := fun t : State => t.eng.commit = none) heng heng
  rw [hexec, State.act, called.svc]
  simp only [State.serveCommit]
  rw [State.gated_of_none _ _ _ _ _ _ (firstAbort_none (by simp [hinvalid, hrole, hown, hpower, htrans]))
    (firstAbort_none (by simp [hready])), hid, hwho]
  dsimp only
  rw [hof, hget, (State.commitOrWait_cases _ _ _ _).1 hfree]

end

/-! ## Block transfers and firmware segments (R186, R188, R226 to R228) -/

/-- A BlockRead's message. -/
def blockReadBody (index : BitVec 16) (sub : Byte) (whole : Bool) (offset : BitVec 32) (n : BitVec 16) : Bytes :=
  typedBody index sub (if whole then 1#8 else 0#8) (leBytes 4 offset.toNat ++ leBytes 2 n.toNat ++ [0#8, 0#8])

/-- A BlockWrite's message. -/
def segmentBody (index : BitVec 16) (sub : Byte) (final : Bool) (offset total : BitVec 32) (data : Bytes) : Bytes :=
  typedBody index sub (if final then 1#8 else 0#8) (leBytes 4 offset.toNat ++ leBytes 4 total.toNat ++ data)

theorem blockFlag_bit (f : Bool) : (if f then 1#8 else 0#8 : Byte).toNat.testBit 0 = f := by
  cases f
  · rfl
  · rfl

theorem typedBody_length (index : BitVec 16) (sub type : Byte) (rest : Bytes) :
    (typedBody index sub type rest).length = 4 + rest.length := by
  simp [typedBody]
  omega

/-- A field behind the first four bytes. -/
theorem fieldAt_typedBody (index : BitVec 16) (sub type : Byte) (a rest : Bytes) (k v : Nat) (h : v < 256 ^ k) :
    fieldAt (typedBody index sub type (a ++ leBytes k v ++ rest)) (4 + a.length) k = v := by
  have hb : typedBody index sub type (a ++ leBytes k v ++ rest) = (typedBody index sub type a) ++ leBytes k v ++ rest := by
    simp only [typedBody, List.append_assoc]
  rw [hb, ← typedBody_length index sub type a]
  exact fieldAt_leBytes _ _ k v h

theorem blockReadBody_fields (index : BitVec 16) (sub : Byte) (whole : Bool) (offset : BitVec 32) (n : BitVec 16) :
    fieldAt (blockReadBody index sub whole offset n) 0 2 = index.toNat ∧
    fieldAt (blockReadBody index sub whole offset n) 2 1 = sub.toNat ∧
    (fieldAt (blockReadBody index sub whole offset n) 3 1).testBit 0 = whole ∧
    fieldAt (blockReadBody index sub whole offset n) 4 4 = offset.toNat ∧
    fieldAt (blockReadBody index sub whole offset n) 8 2 = n.toNat := by
  obtain ⟨hindex, hsub, htype, -⟩ := typedBody_fields index sub (if whole then 1#8 else 0#8)
    (leBytes 4 offset.toNat ++ leBytes 2 n.toNat ++ [0#8, 0#8])
  refine ⟨hindex, hsub, ?_, ?_, ?_⟩
  · rw [blockReadBody, htype, blockFlag_bit]
  · have h := fieldAt_typedBody index sub (if whole then 1#8 else 0#8) [] (leBytes 2 n.toNat ++ [0#8, 0#8]) 4 _ offset.isLt
    rwa [List.nil_append, ← List.append_assoc] at h
  · have h := fieldAt_typedBody index sub (if whole then 1#8 else 0#8) (leBytes 4 offset.toNat) [0#8, 0#8] 2 _ n.isLt
    rwa [leBytes_length] at h

theorem segmentBody_fields (index : BitVec 16) (sub : Byte) (final : Bool) (offset total : BitVec 32) (data : Bytes) :
    fieldAt (segmentBody index sub final offset total data) 0 2 = index.toNat ∧
    fieldAt (segmentBody index sub final offset total data) 2 1 = sub.toNat ∧
    (fieldAt (segmentBody index sub final offset total data) 3 1).testBit 0 = final ∧
    fieldAt (segmentBody index sub final offset total data) 4 4 = offset.toNat ∧
    fieldAt (segmentBody index sub final offset total data) 8 4 = total.toNat ∧
    (segmentBody index sub final offset total data).drop 12 = data ∧
    (segmentBody index sub final offset total data).length = 12 + data.length := by
  obtain ⟨hindex, hsub, htype, hrest⟩ := typedBody_fields index sub (if final then 1#8 else 0#8)
    (leBytes 4 offset.toNat ++ leBytes 4 total.toNat ++ data)
  refine ⟨hindex, hsub, ?_, ?_, ?_, ?_, ?_⟩
  · rw [segmentBody, htype, blockFlag_bit]
  · have h := fieldAt_typedBody index sub (if final then 1#8 else 0#8) [] (leBytes 4 total.toNat ++ data) 4 _ offset.isLt
    rwa [List.nil_append, ← List.append_assoc] at h
  · have h := fieldAt_typedBody index sub (if final then 1#8 else 0#8) (leBytes 4 offset.toNat) data 4 _ total.isLt
    rwa [leBytes_length] at h
  · rw [segmentBody, show 12 = 4 + 8 from rfl, ← List.drop_drop, hrest]
    exact List.drop_left' (by simp)
  · rw [segmentBody, typedBody_length]
    simp
    omega

end Sys2Proof.Machine

namespace Sys2Proof.Machine

open Sys2Proof

/-- What the reading of a BlockRead's snapshot does. -/
def State.blockEffect (w : State) (whole : Bool) (index sub : Nat) : State :=
  if whole then w.readIndexEffect index else w.readEffect (objKey index sub)

/-- The snapshot of a BlockRead (R226, R227). -/
def State.blockData (w : State) (c : Caller) (whole : Bool) (index sub : Nat) : Bytes :=
  if whole then w.wholeIndex c index else w.blockBytes c index sub

section

variable {s u : State} {r : ReqCtx} {b : Bytes} {c : Caller} {index : BitVec 16} {sub : Byte} {offset : BitVec 32}

/-- The first segment of a BlockRead: its snapshot is taken. -/
theorem State.blockReadStep_first (w : State) {whole : Bool} {n : BitVec 16} (h0 : offset = 0) :
    w.blockReadStep c (blockReadBody index sub whole offset n) =
      let x := w.blockEffect whole index.toNat sub.toNat
      let data := x.blockData c whole index.toNat sub.toNat
      x.sendBlock c ⟨c.dest.peer, index.toNat, sub.toNat, whole, 0, data.length, data⟩ n.toNat := by
  obtain ⟨hindex, hsub, hwhole, hoffset, hn⟩ := blockReadBody_fields index sub whole offset n
  have h0' : offset.toNat = 0 := congrArg BitVec.toNat h0
  simp only [State.blockReadStep, hindex, hsub, hwhole, hoffset, hn, if_pos h0', State.blockEffect, State.blockData]

/-- A later segment of the transfer that is open. -/
theorem State.blockReadStep_next {w : State} {whole : Bool} {n : BitVec 16} {x : BlockRun} (h0 : offset ≠ 0)
    (hx : w.blockOf false c.dest.peer = some x) (ht : x.total ≠ 0) (hindex' : x.index = index.toNat) (hsub' : x.sub = sub.toNat)
    (hwhole' : x.whole = whole) (hnext : x.next = offset.toNat) :
    w.blockReadStep c (blockReadBody index sub whole offset n) = w.sendBlock c x n.toNat := by
  obtain ⟨hindex, hsub, hwhole, hoffset, hn⟩ := blockReadBody_fields index sub whole offset n
  have h0' : offset.toNat ≠ 0 := fun e => h0 (BitVec.eq_of_toNat_eq e)
  have hlive : x.expired = false := beq_eq_false_iff_ne.mpr ht
  simp only [State.blockReadStep, hindex, hsub, hwhole, hoffset, hn, if_neg h0', hx, hlive]
  rw [if_neg (by simp)]
  exact if_pos (by simp [hindex', hsub', hwhole', hnext])

theorem exec_blockRead {whole : Bool} {n : BitVec 16} (h : Claims.Served (.blockRead r index sub whole offset n) s r b c u)
    (hf : firstAbort [u.lifecycleCheck r.via false index.toNat
        (if whole ∧ index.toNat ≠ 0x1800 then 0 else if whole then 2 else sub.toNat) 0 0,
      u.roleCheck c.role false index.toNat (if whole ∧ index.toNat ≠ 0x1800 then 0 else if whole then 2 else sub.toNat) 0,
      u.powerCheck, u.readyCheck false index.toNat] = none)
    (hentropy : objKey index.toNat (if whole then 0 else sub.toNat) = Obj.debugChallenge ∨
      (whole = true ∧ index.toNat = Obj.debugChallenge / 256) → u.sec.entropyFailed = false)
    (hmin : 1 ≤ n.toNat) (hmax : n.toNat ≤ 896) : Claims.Called r 5 b c ∧
    exec (.blockRead r index sub whole offset n) s = .next (Claims.finished s r
      (u.activity.blockReadStep c (blockReadBody index sub whole offset n))) := by
  obtain ⟨-, rfl, called, hexec⟩ := Claims.exec_acts h (show Claims.message (.blockRead r index sub whole offset n) =
    some (r, 5, 0, blockReadBody index sub whole offset n) by
      rw [blockReadBody, typedBody, ← List.append_assoc, ← List.append_assoc]
      rfl)
  obtain ⟨hindex, hsub, hwhole, -, hn⟩ := blockReadBody_fields index sub whole offset n
  have hall := eq_none_of_firstAbort hf
  simp only [List.forall_mem_cons] at hall
  obtain ⟨h1, h2, h3, h4, -⟩ := hall
  refine ⟨called, ?_⟩
  rw [hexec, State.act, called.svc]
  simp only [State.serveBlockRead, hindex, hsub, hwhole, hn, called.via]
  rw [State.gated_of_none _ _ _ _ _ _ (firstAbort_none (by simp [h1, h2, h3])) (firstAbort_none ?_)]
  intro a ha
  simp only [List.mem_cons, List.not_mem_nil, or_false] at ha
  rcases ha with rfl | rfl | rfl
  · exact h4
  · refine if_neg ?_
    rintro ⟨hchallenge, hfailed⟩
    rw [hentropy hchallenge] at hfailed
    cases hfailed
  · rw [if_neg (by omega), if_neg (by omega)]

end

section

variable {s u : State} {r : ReqCtx} {b : Bytes} {c : Caller}

/-- A segment of a value past its checks (Table 6-10): its data are at most 896 bytes, as its size check left it. -/
theorem State.serveBlockWrite_eq {index : BitVec 16} {sub : Byte} {final : Bool} {offset total : BitVec 32} {data : Bytes}
    (called : Claims.Called r 6 (segmentBody index sub final offset total data) c)
    (hf : firstAbort [u.lifecycleCheck r.via true index.toNat sub.toNat (leNat data) total.toNat,
      u.roleCheck c.role true index.toNat sub.toNat (leNat data), u.powerCheck, u.transCheck, u.readyCheck true index.toNat] = none)
    (hseg : objKey index.toNat sub.toNat ≠ Obj.updateData → u.segmentCheck c index.toNat sub.toNat total.toNat = none) :
    u.serveBlockWrite c (segmentBody index sub final offset total data) =
      if objKey index.toNat sub.toNat = Obj.updateData then
        u.activity.updateSegment c (segmentBody index sub final offset total data)
      else u.activity.blockWriteStep c (segmentBody index sub final offset total data) := by
  obtain ⟨hindex, hsub, -, -, htotal, hdata, hlength⟩ := segmentBody_fields index sub final offset total data
  have hsize : (segmentBody index sub final offset total data).length ≤ 908 := by
    have hearly := called.size
    rw [earlyAbort] at hearly
    split at hearly
    next => cases hearly
    next hok =>
      simp only [Bool.not_eq_true, Bool.not_eq_false', sizeOk, decide_eq_true_eq] at hok
      exact hok.2
  rw [hlength] at hsize
  have hall := eq_none_of_firstAbort hf
  simp only [List.forall_mem_cons] at hall
  obtain ⟨h1, h2, h3, h4, h5, -⟩ := hall
  have hlast : (if objKey index.toNat sub.toNat = Obj.updateData then none
      else u.segmentCheck c index.toNat sub.toNat total.toNat) = none := by
    split
    · rfl
    · exact hseg ‹_›
  have hroom : (if 896 < data.length then some ((0x0D, 4) : Abort) else none) = none := if_neg (by omega)
  simp only [State.serveBlockWrite, hindex, hsub, htotal, hdata, called.via]
  rw [State.gated_of_none _ _ _ _ _ _ (firstAbort_none (by simp [h1, h2, h3, h4])) (firstAbort_none (by simp [h5, hroom, hlast]))]

/-- The first segment of a value, with no transfer of its requester open. -/
theorem State.blockWriteStep_first {w : State} {index : BitVec 16} {sub : Byte} {final : Bool} {total : BitVec 32} {data : Bytes}
    (hopen : w.blockOf true c.dest.peer = none) (hmax : total.toNat ≤ 2048) :
    (final = false → data.length ≤ total.toNat → w.blockWriteStep c (segmentBody index sub final 0 total data) =
      (w.setBlock true c.dest.peer (some ⟨c.dest.peer, index.toNat, sub.toNat, false, data.length, total.toNat, data⟩)).answer c
        (writeReply index.toNat sub.toNat ++ leBytes 4 data.length)) ∧
    (final = true → data.length = total.toNat → w.blockWriteStep c (segmentBody index sub final 0 total data) =
      (w.setBlock true c.dest.peer none).serveWrite { c with aux := total.toNat } (writeBody index.toNat sub.toNat data)) := by
  obtain ⟨hindex, hsub, hfinal, hoffset, htotal, hdata, -⟩ := segmentBody_fields index sub final 0 total data
  have hfirst : w.blockWriteStep c (segmentBody index sub final 0 total data) =
      w.blockHold c (segmentBody index sub final 0 total data) [] := by
    simp only [State.blockWriteStep, hindex, hsub, hoffset, htotal, hopen]
    rw [if_neg (by simp), if_neg (by omega)]
  rw [hfirst]
  simp only [State.blockHold, hindex, hsub, hfinal, htotal, hdata, List.nil_append]
  refine ⟨fun hmore hlen => ?_, fun hlast hlen => ?_⟩
  · rw [if_neg (by omega), if_neg (by simp [hmore]), if_neg (by simp [hmore])]
  · rw [if_neg (by omega), if_neg (by omega), if_pos hlast]

/-- The message of a BlockWrite. -/
theorem Claims.message_blockWrite (index : BitVec 16) (sub : Byte) (final : Bool) (offset total : BitVec 32) (data : Bytes) :
    Claims.message (.blockWrite r index sub final offset total data) = some (r, 6, 0,
      segmentBody index sub final offset total data) := by
  rw [segmentBody, typedBody, ← List.append_assoc, ← List.append_assoc]
  rfl

theorem exec_blockWrite {index : BitVec 16} {sub : Byte} {final : Bool} {offset total : BitVec 32} {data : Bytes}
    (h : Claims.Served (.blockWrite r index sub final offset total data) s r b c u)
    (hf : firstAbort [u.lifecycleCheck r.via true index.toNat sub.toNat (leNat data) total.toNat,
      u.roleCheck c.role true index.toNat sub.toNat (leNat data), u.powerCheck, u.transCheck, u.readyCheck true index.toNat] = none)
    (hk : objKey index.toNat sub.toNat ≠ Obj.updateData) (hseg : u.segmentCheck c index.toNat sub.toNat total.toNat = none)
    (hopen : u.blockOf true (reqPeer r) = none) (h0 : offset = 0) (hmax : total.toNat ≤ 2048) :
    (final = false → data.length ≤ total.toNat →
      exec (.blockWrite r index sub final offset total data) s = .next (Claims.finished s r
        ((u.activity.setBlock true (reqPeer r)
          (some ⟨reqPeer r, index.toNat, sub.toNat, false, data.length, total.toNat, data⟩)).answer c
          (writeReply index.toNat sub.toNat ++ leBytes 4 data.length)))) ∧
    (final = true → data.length = total.toNat →
      exec (.blockWrite r index sub final offset total data) s = .next (Claims.finished s r
        ((u.activity.setBlock true (reqPeer r) none).serveWrite { c with aux := total.toNat }
          (writeBody index.toNat sub.toNat data)))) := by
  subst h0
  obtain ⟨-, rfl, called, hexec⟩ := Claims.exec_acts h (Claims.message_blockWrite index sub final 0 total data)
  obtain ⟨-, -, -, hblock, -⟩ := u.activity_stages
  obtain ⟨hmore, hlast⟩ := State.blockWriteStep_first (w := u.activity) (c := c) (index := index) (sub := sub) (final := final)
    (data := data) (by rw [called.peer, hblock, hopen]) hmax
  rw [called.peer] at hmore hlast
  have hact : u.act c (segmentBody index sub final 0 total data) =
      u.activity.blockWriteStep c (segmentBody index sub final 0 total data) := by
    rw [State.act, called.svc]
    exact (State.serveBlockWrite_eq called hf (fun _ => hseg)).trans (if_neg hk)
  rw [hexec, hact]
  exact ⟨fun h1 h2 => by rw [hmore h1 h2], fun h1 h2 => by rw [hlast h1 h2]⟩

theorem exec_updateData {offset total : BitVec 32} {data : Bytes}
    (h : Claims.Served (.updateData r offset total data) s r b c u)
    (hf : firstAbort [u.lifecycleCheck r.via true 0x9000 4 (leNat data) total.toNat, u.roleCheck c.role true 0x9000 4 (leNat data),
      u.powerCheck, u.transCheck, u.readyCheck true 0x9000] = none)
    (hstate : u.get Obj.updateState = 1) (hnext : offset.toNat = u.get Obj.updateReceived)
    (hfits : offset.toNat + data.length ≤ u.upd.length) :
    exec (.updateData r offset total data) s = .next (Claims.finished s r (
      let w := u.activity.post .derived 0x08 (framesOf (b.length + if c.dest.session.isSome then 14 else 0))
        (.raw (leBytes 4 offset.toNat))
      let w := { w with upd.segments := w.upd.segments ++ [(⟨some c, offset.toNat, data, false⟩ : Seg)] }
      (w.set Obj.updateReceived (offset.toNat + data.length)).arm (.defer (reqPeer r) r.tid.toNat) 10000)) := by
  have hi : Claims.message (.updateData r offset total data) = some (r, 6, 0,
      segmentBody 0x9000 4 false offset total data) := by
    rw [segmentBody, typedBody, ← List.append_assoc, ← List.append_assoc]
    rfl
  obtain ⟨-, rfl, called, hexec⟩ := Claims.exec_acts h hi
  obtain ⟨-, -, -, hoffset, -, hdata, -⟩ := segmentBody_fields 0x9000 4 false offset total data
  obtain ⟨-, -, hget, -, hupd⟩ := u.activity_stages
  have hact : u.act c (segmentBody 0x9000 4 false offset total data) =
      u.activity.updateSegment c (segmentBody 0x9000 4 false offset total data) := by
    rw [State.act, called.svc]
    exact (State.serveBlockWrite_eq called hf (fun hk => absurd rfl hk)).trans (if_pos rfl)
  rw [hexec, hact, State.updateSegment]
  simp only [hoffset, hdata, hget, hupd, called.fresh, called.peer, called.tid]
  rw [if_neg (by simp [hstate]), if_neg (by simp [hnext]), if_neg (by omega)]
  rfl

end

/-- Settles O59: each served request of the dictionary's services, past its checks, is its service at the state of its
entry. -/
theorem dictionaryServices : Obligations.DictionaryServices := by
  unfold Obligations.DictionaryServices
  refine ⟨fun r i index sub hi s b c u h hf => ?_, State.readEffect_challenge, ?_, ?_, ?_, State.stageOf_setStage,
    fun r who s b c u hwho hinvalid hrole hpower hready => ⟨fun h => exec_discard h hwho hinvalid hrole hpower hready,
      fun h htrans hc => exec_commit h hwho hinvalid hrole hpower hready htrans hc⟩,
    fun r s b c u h hf hheld hc => exec_restoreDefaults h hf hheld hc, fun r ch => commits_margin ch, ?_, ?_,
    fun r offset total data s b c u h hf h1 h2 h3 => exec_updateData h hf h1 h2 h3⟩
  · rcases hi with rfl | ⟨rfl, rfl, rfl⟩
    · exact exec_read (by rw [typedBody, List.append_nil]; rfl) h hf
    · exact exec_read (by rw [typedBody, List.append_nil]; rfl) h hf
  · exact fun r index sub type value d s b c u h => exec_write_cases r index sub type value d s b c u h
  · intro w c form st es b stored htrans hpower hstore hsafe hready hstored
    have hes : es ≠ [] := fun e => hstored (congrArg (List.filter _) e)
    rw [State.tryCommit_starts htrans hpower hstore hsafe hready hes]
    exact State.startCommit_journals hstored
  · exact fun r index sub type value d who s b c u h => exec_stagedWrite r index sub type value d who s b c u h
  · intro r index sub whole offset n s b c u h ix rs k hf hentropy hmin hmax
    obtain ⟨called, hexec⟩ := exec_blockRead h hf hentropy hmin hmax
    obtain ⟨-, -, -, hblock, -⟩ := u.activity_stages
    refine ⟨fun h0 => ?_, fun x h0 hx ht hindex hsub hwhole hnext => ?_⟩
    · rw [hexec, State.blockReadStep_first _ h0, called.peer]
      cases whole
      · rfl
      · simp only [State.blockEffect, State.blockData, if_true, ix]
    · rw [hexec, State.blockReadStep_next h0 (by rw [called.peer, hblock, hx]) ht hindex hsub hwhole hnext]
  · exact fun r index sub final offset total data s b c u h hf hk hseg hopen h0 hmax =>
      exec_blockWrite h hf hk hseg hopen h0 hmax

end Sys2Proof.Machine

namespace Sys2Proof.Machine

open Sys2Proof

/-! ## What may only rise (R103, R106, R107, R109, R110)

The lifecycle fuses keep their bits, the security counter does not fall, a revoked key slot stays revoked and the clock
does not run back. One lemma for each function of the model that may write the security unit or the clock, whatever the
memories hold; every other one is left to its frame. -/

/-- The parts of a state that may only rise, against those of `v`. -/
def LastingF (v : State) (fuses : BitVec 3) (counter : Nat) (revoked : Bool) (now : Nat) : Prop :=
  v.sec.fuses &&& fuses = v.sec.fuses ∧ v.sec.securityCounter ≤ counter ∧ (v.sec.slot0Revoked = true → revoked = true) ∧
    v.time.nowUs ≤ now

/-- A state in which nothing that may only rise has fallen since `v`. -/
abbrev Lasting (v s : State) : Prop := LastingF v s.sec.fuses s.sec.securityCounter s.sec.slot0Revoked s.time.nowUs

section

variable {v s t : State}

theorem Lasting.refl (s : State) : Lasting s s := ⟨BitVec.and_self, le_rfl, id, le_rfl⟩

theorem Lasting.frame (fr : Fr unitWork s t) (h : Lasting v s) : Lasting v t := by
  rw [Lasting, fr.sec rfl, fr.time rfl]
  exact h

theorem Lasting.withPower (h : Lasting v s) (x : Power) : Lasting v { s with power := x } := h
theorem Lasting.withPins (h : Lasting v s) (x : Pins) : Lasting v { s with pins := x } := h
theorem Lasting.withEng (h : Lasting v s) (x : Engine) : Lasting v { s with eng := x } := h
theorem Lasting.withFeed (h : Lasting v s) (x : FeedUnit) : Lasting v { s with feed := x } := h
theorem Lasting.withHkb (h : Lasting v s) (x : HkbUnit) : Lasting v { s with hkb := x } := h
theorem Lasting.withRail (h : Lasting v s) (x : RailUnit) : Lasting v { s with rail := x } := h
theorem Lasting.withMems (h : Lasting v s) (x : Mems) : Lasting v { s with mems := x } := h
theorem Lasting.withLid (h : Lasting v s) (x : LidUnit) : Lasting v { s with lid := x } := h
theorem Lasting.withCask (h : Lasting v s) (x : CaskUnit) : Lasting v { s with cask := x } := h
theorem Lasting.withNet (h : Lasting v s) (x : NetUnit) : Lasting v { s with net := x } := h
theorem Lasting.withTwin (h : Lasting v s) (x : TwinUnit) : Lasting v { s with twin := x } := h

theorem Lasting.reported (r : Reported s t) (h : Lasting v s) : Lasting v t := by
  rw [Lasting, r.sec, r.time]
  exact h

/-- The ends of sessions, debug, commits and power states (Settled) take nothing back. -/
theorem Lasting.settled (g : Settled s t) (h : Lasting v s) : Lasting v t := by
  obtain ⟨fuses, counter, revoked, now⟩ := h
  refine ⟨?_, g.1.counter ▸ counter, g.1.revoked ▸ revoked, g.2 ▸ now⟩
  rw [← fuses, BitVec.and_assoc, g.1.fuses]

theorem Lasting.ite {c : Prop} [Decidable c] (hs : Lasting v s) (ht : Lasting v t) : Lasting v (if c then s else t) :=
  prop_ite (P := Lasting v) hs ht

/-- A further step that is taken under a condition. -/
theorem Lasting.branch {c : Prop} [Decidable c] (f : State → State) (hf : Lasting v s → Lasting v (f s)) (h : Lasting v s) :
    Lasting v (if c then f s else s) := .ite (hf h) h

/-- A further step that is taken unless a condition holds. -/
theorem Lasting.unless {c : Prop} [Decidable c] (f : State → State) (hf : Lasting v s → Lasting v (f s)) (h : Lasting v s) :
    Lasting v (if c then s else f s) := .ite h (hf h)

theorem Lasting.ite_fst {α : Type} {c : Prop} [Decidable c] {x y : State × α} (hx : Lasting v x.1) (hy : Lasting v y.1) :
    Lasting v (if c then x else y).1 := by
  split
  · exact hx
  · exact hy

theorem Lasting.foldl {α : Type} {f : State → α → State} {l : List α} (hf : ∀ u a, Lasting v u → Lasting v (f u a))
    (h : Lasting v s) : Lasting v (l.foldl f s) := prop_foldl h (fun u a _ g => hf u a g)

/-! ### What ends, as Settled says -/

variable {c : Caller} {d : ReplyTo} {r : CommitRun} {req b body : Bytes} {a : Abort} {deferred hold : Bool} {n : Nat}
  {target : PState} {cause : ShutCause} {reason lead : Nat} {again : Bool} {faults : List Nat} {x : Session}
  {p : CEntry → Bool}

theorem Lasting.setSession (h : Lasting v s) : Lasting v (s.setSession x) := h.settled (.setSession (.refl s) x)
theorem Lasting.reply (h : Lasting v s) : Lasting v (s.reply d deferred b) := h.settled (.reply (.refl s) d deferred b)
theorem Lasting.abort (h : Lasting v s) : Lasting v (s.abort c req a) := h.settled (.abort (.refl s) c req a)
theorem Lasting.endDebug (h : Lasting v s) : Lasting v (s.endDebug hold) := h.settled (.endDebug (.refl s) hold)
theorem Lasting.endSession (h : Lasting v s) : Lasting v (s.endSession n) := h.settled (.endSession (.refl s) n)
theorem Lasting.endSessions (h : Lasting v s) : Lasting v s.endSessions := h.settled (.endSessions (.refl s))
theorem Lasting.endSpent (h : Lasting v s) : Lasting v s.endSpent := h.settled (.endSpent (.refl s))
theorem Lasting.endWaiting (h : Lasting v s) : Lasting v (s.endWaiting target) := h.settled (.endWaiting (.refl s) target)
theorem Lasting.commitReply (h : Lasting v s) : Lasting v (s.commitReply r) := h.settled (.commitReply (.refl s) r)
theorem Lasting.finishCommit (h : Lasting v s) : Lasting v (s.finishCommit r) := h.settled (.finishCommit (.refl s) r)
theorem Lasting.applyWhere (h : Lasting v s) : Lasting v (s.applyWhere r p).1 := h.settled (.applyWhere (.refl s) r p)
theorem Lasting.applyAll (h : Lasting v s) : Lasting v (s.applyAll r) := h.settled (.applyAll (.refl s) r)
theorem Lasting.preemptCommit (h : Lasting v s) : Lasting v s.preemptCommit := h.settled (.preemptCommit (.refl s))
theorem Lasting.makeRsk (h : Lasting v s) : Lasting v s.makeRsk := h.settled (.makeRsk (.refl s))
theorem Lasting.blowLifecycle (h : Lasting v s) : Lasting v s.blowLifecycle := h.settled (.blowLifecycle (.refl s))
theorem Lasting.coreDown (h : Lasting v s) : Lasting v s.coreDown := h.settled (.coreDown (.refl s))
theorem Lasting.enterDormant (h : Lasting v s) : Lasting v (s.enterDormant reason) := h.settled
    (.enterDormant (.refl s) reason)
theorem Lasting.releaseRail (h : Lasting v s) : Lasting v (s.releaseRail n) := h.settled (.releaseRail (.refl s) n)
theorem Lasting.releaseReady (h : Lasting v s) : Lasting v s.releaseReady := h.settled (.releaseReady (.refl s))
theorem Lasting.completeShutdown (h : Lasting v s) : Lasting v s.completeShutdown := h.settled (.completeShutdown (.refl s))
theorem Lasting.goDown (h : Lasting v s) : Lasting v s.goDown := h.settled (.goDown (.refl s))
theorem Lasting.beginShutdown (h : Lasting v s) : Lasting v (s.beginShutdown cause reason again lead faults) :=
  h.settled (.beginShutdown (.refl s) cause reason again lead faults)
theorem Lasting.restart (h : Lasting v s) : Lasting v (s.restart reason) := h.settled (.restart (.refl s) reason)

/-! ### Replies and commits -/

variable {index sub : Nat} {form : ReplyForm} {stage : Option StageId} {es : List (Nat × Nat)} {arb verified : Bool}
  {pos code : Nat}

theorem Lasting.answer (h : Lasting v s) : Lasting v (s.answer c body) := h.reply

theorem Lasting.done (h : Lasting v s) : Lasting v (s.done c index sub) := h.answer

theorem Lasting.tryFinish (h : Lasting v s) : Lasting v s.tryFinish := by
  unfold State.tryFinish
  split
  · exact h
  · exact .ite h.finishCommit (.frame (State.set_fr _ _ _ rfl (Fr.refl _ _)) h)

theorem Lasting.advanceCommit (h : Lasting v s) : Lasting v (s.advanceCommit arb) := by
  unfold State.advanceCommit
  split
  · exact h
  · refine .ite h (.ite h.applyAll (.tryFinish ?_))
    exact .ite_fst (.applyWhere (.ite_fst h.applyWhere.applyWhere h.applyWhere))
        (.ite_fst h.applyWhere.applyWhere h.applyWhere)

theorem Lasting.followCommit (h : Lasting v s) : Lasting v s.followCommit :=
  .ite h (.advanceCommit (.frame (State.followDir_fr _ _ rfl (State.followDir_fr _ _ rfl
      (State.moveGains_fr _ rfl (Fr.refl _ _)))) h))

theorem Lasting.startCommit (h : Lasting v s) : Lasting v (s.startCommit c form stage es req) := by
  have begun {u : State} (hu : Lasting v u) (slow : Bool) : Lasting v
      (if c.deferred then u else if slow then u.abort c req (0x0A, 0) else u.arm .commitDefer 5000) :=
    .ite hu (.ite hu.abort (.frame (State.arm_fr _ _ _ rfl (Fr.refl _ _)) hu))
  unfold State.startCommit
  extract_lets entries stored slow run eng u
  refine .ite (.advanceCommit (begun (u := u) h slow)) (.frame (State.set_fr _ _ _ rfl (Fr.refl _ _)) ?_)
  exact begun (u := u) h slow

theorem Lasting.rejectCommit (h : Lasting v s) : Lasting v (s.rejectCommit c req es pos code) :=
  .abort (.frame (State.set_fr _ _ _ rfl (State.bump_fr _ _ _ rfl (State.flag_fr _ _ _ rfl (Fr.refl _ _)))) h)

theorem Lasting.tryCommit (h : Lasting v s) : Lasting v (s.tryCommit c form stage es req) := by
  unfold State.tryCommit
  split
  · exact h.abort
  · dsimp only
    split
    · exact h.abort
    · refine .ite h.abort ?_
      split
      · exact h.rejectCommit
      · exact .ite h.commitReply h.startCommit

theorem Lasting.configWritten (h : Lasting v s) : Lasting v (s.configWritten verified) := by
  unfold State.configWritten
  refine .ite (.ite (.frame (State.bump_fr _ _ _ rfl (Fr.refl _ _)) h) h) ?_
  split
  · exact h
  · refine .ite h (.ite (.ite ?_ ?_) (.ite ?_ (.abort ?_)))
    · exact .advanceCommit h
    · exact .frame (State.set_fr _ _ _ rfl (State.bump_fr _ _ _ rfl (Fr.refl _ _))) h
    all_goals exact .frame (State.faultRow_fr _ _ _ _ _ _ _ _ rfl (State.disarm_fr _ _ rfl
        (State.set_fr _ _ _ rfl (Fr.refl _ _)))) h

end

end Sys2Proof.Machine

namespace Sys2Proof.Machine

open Sys2Proof

/-! ### Power states -/

section

variable {v s t : State} {c : Caller} {req b : Bytes} {n k reason value code bit source data : Nat} {touch limited : Bool}
  {paths : List Nat}

theorem Lasting.slotOff (h : Lasting v s) : Lasting v (s.slotOff n) :=
  .unless State.completeShutdown (fun g => g.completeShutdown) (.releaseReady
      (.frame (State.disarm_fr _ _ rfl (State.disarm_fr _ _ rfl (State.set_fr _ _ _ rfl (Fr.refl _ _)))) h))

theorem Lasting.enterHoldup (h : Lasting v s) : Lasting v s.enterHoldup := .settled (.enterHoldup s) h

theorem Lasting.endServiceSessions (h : Lasting v s) : Lasting v s.endServiceSessions :=
  .ite (.foldl (fun _ _ g => g.endSession) h) h

theorem Lasting.beginRelock (h : Lasting v s) (k : Nat) : Lasting v (s.beginRelock k) := .frame
    (State.beginRelock_fr _ _ rfl (Fr.refl _ _)) h

theorem Lasting.fallToStandby (h : Lasting v s) : Lasting v (s.fallToStandby reason) := by
  have quiet : Lasting v ((s.preemptCommit).endWaiting .standby).hardMute := .frame
      (State.hardMute_fr _ rfl (Fr.refl _ _)) h.preemptCommit.endWaiting
  unfold State.fallToStandby
  refine .unless (fun u => { u.beginRelock 240 with power.trans := some ⟨.relock, .standby⟩ })
      (fun g => (g.beginRelock 240).withPower _) ?_
  exact .endServiceSessions (.frame (State.disarm_fr _ _ rfl (State.enterState_fr _ _ _ rfl (Fr.refl _ _)))
      (quiet.withPower _))

theorem Lasting.towardsActive (h : Lasting v s) : Lasting v (s.towardsActive reason) := by
  have waited : Lasting v (s.endWaiting .active) := h.endWaiting
  have entered : Lasting v ((s.endWaiting .active).enterState .active reason) := .frame
      (State.enterState_fr _ _ _ rfl (Fr.refl _ _)) waited
  exact .ite (entered.withPower _) ((waited.beginRelock 480).withPower _)

theorem Lasting.towardsService (h : Lasting v s) : Lasting v (s.towardsService reason touch) := by
  have waited : Lasting v (s.endWaiting .service) := h.endWaiting
  exact .branch State.hardMute (.frame (State.hardMute_fr _ rfl (Fr.refl _ _)))
      (.frame (State.arm_fr _ _ _ rfl (State.enterState_fr _ _ _ rfl (Fr.refl _ _))) (waited.withPower _))

theorem Lasting.leaveService (h : Lasting v s) : Lasting v s.leaveService := .endServiceSessions h

theorem Lasting.doPower (h : Lasting v s) : Lasting v (s.doPower n) := by
  have asked : Lasting v (s.set Obj.powerStateRequest n) := .frame (State.set_fr _ _ _ rfl (Fr.refl _ _)) h
  have left := fun {c : Prop} [Decidable c] => asked.branch (c := c) State.leaveService (fun g => g.leaveService)
  unfold State.doPower
  exact .ite asked (.ite asked.beginShutdown (.ite asked.restart (.ite left.fallToStandby (.ite left.towardsActive
    (.ite asked.towardsService asked)))))

theorem Lasting.deferPower (h : Lasting v s) : Lasting v (s.deferPower c req) := .ite h (.abort h)

theorem Lasting.powerRequest (h : Lasting v s) : Lasting v (s.powerRequest c req n) := by
  unfold State.powerRequest
  split
  · exact h.abort
  · exact .ite h.deferPower h.done.doPower

theorem Lasting.serviceOver (h : Lasting v s) : Lasting v s.serviceOver :=
  .ite h (.ite h.leaveService.beginShutdown (.ite h.leaveService.towardsActive h.leaveService.fallToStandby))

theorem Lasting.afterStandby (h : Lasting v s) : Lasting v (s.afterStandby touch limited) :=
  .ite h.towardsService (.ite h.towardsActive h)

theorem Lasting.trellisComplete (h : Lasting v s) : Lasting v s.trellisComplete :=
  have complete : Lasting v (((s.set Obj.railSeqLastStartTime (satBytes 4 (s.now - s.rail.seqStart))).set Obj.railSeqState
      4).arm
      .attemptReset (1000000 * s.get Obj.railSeqRetryReset)) := .frame (State.arm_fr _ _ _ rfl
          (State.set_fr _ _ _ rfl (State.set_fr _ _ _ rfl (Fr.refl _ _)))) h
  .afterStandby (.frame (State.onStandby_fr _ rfl (State.enterState_fr _ _ _ rfl
      (State.joinPort_fr _ _ rfl (State.joinPort_fr _ _ rfl (State.claimAddress_fr _ rfl (Fr.refl _ _))))))
      (complete.withPower _))

theorem Lasting.shutPower (h : Lasting v s) : Lasting v (s.shutPower n) := by
  unfold State.shutPower
  refine .ite h.fallToStandby ?_
  split
  · exact .frame (State.beginRelock_fr _ _ rfl (Fr.refl _ _)) h
  · exact h.preemptCommit

theorem Lasting.shutNetwork (h : Lasting v s) : Lasting v (s.shutNetwork code paths) := by
  unfold State.shutNetwork
  refine .frame (State.raiseNotify_fr _ _ _ _ _ _ rfl (State.raiseIrq_fr _ _ rfl (Fr.refl _ _)))
      (.shutPower (.frame (State.beginLockout_fr _ _ rfl (Fr.refl _ _))
      (.withNet (.frame (State.askSignature_fr _ _ rfl (Fr.refl _ _)) ?_) _)))
  exact .branch (fun u => (u.bump Obj.netReceiptOverwritten 1).faultRow Obj.netSticky 2 .press 0x160A 1 31 [])
      (.frame (State.faultRow_fr _ _ _ _ _ _ _ _ rfl (State.bump_fr _ _ _ rfl (Fr.refl _ _))))
    (.frame (State.storeReceipt_fr _ _ _ _ rfl (State.set_fr _ _ _ rfl (State.set_fr _ _ _ rfl
        (State.bump_fr _ _ _ rfl (State.commitShutdownRecord_fr _ _ rfl
        (State.flag_fr _ _ _ rfl (State.shutLanes_fr _ rfl (State.hardMute_fr _ rfl
        (State.moveGains_fr _ rfl (Fr.refl _ _)))))))))) h)

theorem Lasting.netTrigger (h : Lasting v s) : Lasting v (s.netTrigger code paths) :=
  .ite (.frame (State.faultRow_fr _ _ _ _ _ _ _ _ rfl (Fr.refl _ _)) h) h.shutNetwork

theorem Lasting.endTimedLockout (h : Lasting v s) : Lasting v s.endTimedLockout :=
  .ite h (.ite (.towardsActive (.frame (State.set_fr _ _ _ rfl (Fr.refl _ _)) h))
      (.frame (State.set_fr _ _ _ rfl (Fr.refl _ _)) h))

theorem Lasting.settleGains (h : Lasting v s) : Lasting v s.settleGains := by
  unfold State.settleGains
  exact .tryFinish (.advanceCommit (.frame (State.rebalance_fr _ rfl (Fr.refl _ _)) h))

theorem Lasting.demote (h : Lasting v s) : Lasting v s.demote :=
  .branch (fun u => u.fallToStandby 8) (fun g => g.fallToStandby) (.frame (State.depart_fr _ _ rfl (Fr.refl _ _)) h)

theorem Lasting.demoteIfDue (h : Lasting v s) : Lasting v s.demoteIfDue := .ite h.demote h

/-! ### Rails, lanes and the supply -/

theorem Lasting.releaseNow (h : Lasting v s) : Lasting v (s.releaseNow n) :=
  .foldl (fun _ _ g => .ite g.releaseRail g) h

theorem Lasting.railFaultShutdown (h : Lasting v s) : Lasting v (s.railFaultShutdown n) := by
  unfold State.railFaultShutdown
  split
  · exact .frame (State.set_fr _ _ _ rfl (Fr.refl _ _)) h
  · exact h.beginShutdown

theorem Lasting.railFault (h : Lasting v s) : Lasting v (s.railFault n bit source) := by
  have noted : Lasting v ((s.railFaultRecord n bit source).set (Obj.railSlotState n) 7) := .frame
      (State.set_fr _ _ _ rfl (State.railFaultRecord_fr _ _ _ _ rfl (Fr.refl _ _))) h
  unfold State.railFault
  refine .ite noted (.ite noted.enterHoldup (.branch (State.releaseNow · n) (fun g => g.releaseNow)
      (.railFaultShutdown ?_)))
  exact .branch (State.releaseMissed · n) (.frame (State.releaseMissed_fr _ _ rfl (Fr.refl _ _)))
      (.withPins (.frame (State.stopLanes_fr _ rfl (State.hardMute_fr _ rfl (State.flag_fr _ _ _ rfl (Fr.refl _ _))))
      noted) _)

theorem Lasting.countPg (h : Lasting v s) : Lasting v (s.countPg n) := .ite (.railFault h) h

theorem Lasting.refReaction (h : Lasting v s) : Lasting v s.refReaction :=
  .ite h.netTrigger (.ite h.fallToStandby (.frame (State.hardMute_fr _ rfl (Fr.refl _ _)) h))

theorem Lasting.collapseReported (h : Lasting v s) : Lasting v s.collapseReported := .ite (.enterHoldup h) h

end

end Sys2Proof.Machine

namespace Sys2Proof.Machine

open Sys2Proof

/-! ### Lanes, feeds and sensors -/

section

variable {v s t : State} {n k reason value code bit source data gain inp entry raw dur held p q received : Nat}
  {own partner : PathMeas} {tx : PmbTx} {result : PmbEnd} {arg : Int} {core : CoreId} {i : ImageSlot} {b : Bytes} {d : Dir}
  {r : FeRun}

theorem Lasting.probeEnd (h : Lasting v s) : Lasting v (s.probeEnd p q own partner) := by
  have noted : Lasting v ((((((s.noteProbe p own).noteProbe q partner).disarm (.probe q)).fabEvent p 11).fabEvent q
      11).noteDisagreed p q) :=
    .frame (State.noteDisagreed_fr _ _ _ rfl (State.fabEvent_fr _ _ _ rfl
        (State.fabEvent_fr _ _ _ rfl (State.disarm_fr _ _ rfl (State.noteProbe_fr _ _ _ rfl
        (State.noteProbe_fr _ _ _ rfl (Fr.refl _ _))))))) h
  unfold State.probeEnd
  extract_lets a b c d
  have judged : Lasting v d := .ite (.frame (State.passProbe_fr _ _ _ rfl (Fr.refl _ _)) noted)
      (.frame (State.failProbe_fr _ _ _ rfl (Fr.refl _ _)) noted)
  exact .settleGains (.frame (State.burstAfterProbes_fr _ rfl (Fr.refl _ _)) judged)

theorem Lasting.statusRead (h : Lasting v s) : Lasting v (s.statusRead n data) := by
  unfold State.statusRead
  extract_lets u
  have shown : Lasting v u := .frame (State.setTelemetry_fr _ _ _ _ rfl (Fr.refl _ _)) h
  clear_value u
  exact .ite (.ite (.settleGains (.frame (State.regulatorFault_fr _ _ rfl (Fr.refl _ _)) shown)) shown)
      (.ite (.frame (State.checkStart_fr _ _ rfl (State.setLane_fr _ _ _ rfl (Fr.refl _ _))) shown) shown)

theorem Lasting.laneData (h : Lasting v s) : Lasting v (s.laneData n code data) := by
  unfold State.laneData
  refine .ite (.frame (State.pmbAnswers_fr _ _ rfl (State.poutRead_fr _ _ _ rfl (Fr.refl _ _))) h)
      (.ite (.frame (State.pmbAnswers_fr _ _ rfl (Fr.refl _ _)) h.statusRead) ?_)
  refine .ite (.frame (State.pmbAnswers_fr _ _ rfl (State.voutRead_fr _ _ _ rfl (Fr.refl _ _))) h)
      (.ite (.frame (State.pmbAnswers_fr _ _ rfl (State.setTelemetry_fr _ _ _ _ rfl (Fr.refl _ _))) h) ?_)
  refine .ite (.frame (State.pmbAnswers_fr _ _ rfl (State.setTelemetry_fr _ _ _ _ rfl (Fr.refl _ _))) h)
      (.ite (.frame (State.pmbAnswers_fr _ _ rfl (State.setTelemetry_fr _ _ _ _ rfl (Fr.refl _ _))) h) ?_)
  exact .ite (.frame (State.setLane_fr _ _ _ rfl (Fr.refl _ _)) h) (.ite
      (.frame (State.regulatorSnapshot_fr _ _ _ rfl (Fr.refl _ _)) h) (.ite
      (.frame (State.operationDone_fr _ _ rfl (Fr.refl _ _)) h) h))

theorem Lasting.laneTx (h : Lasting v s) : Lasting v (s.laneTx tx result) := by
  unfold State.laneTx
  dsimp only
  split
  · exact .laneData h
  · exact .ite (.frame (State.laneFail_fr _ _ _ _ rfl (Fr.refl _ _)) h) h

theorem Lasting.judgeFeed (h : Lasting v s) : Lasting v (((s.arm .feedStale 2000).judgeDroop n).reportCollapse) :=
  .frame (State.reportCollapse_fr _ rfl (State.judgeDroop_fr _ _ rfl (State.arm_fr _ _ _ rfl (Fr.refl _ _)))) h

theorem Lasting.feedVolts (h : Lasting v s) : Lasting v (s.feedVolts n gain) := by
  unfold State.feedVolts
  extract_lets x shown old keep feed w before u
  have told : Lasting v shown := .frame (State.set_fr _ _ _ rfl (Fr.refl _ _)) h
  have read : Lasting v w := told.withFeed _
  clear_value w
  have known : Lasting v u := read.judgeFeed
  exact .ite known known.settleGains

theorem Lasting.ntcRead (h : Lasting v s) : Lasting v (s.ntcRead n code gain) := by
  unfold State.ntcRead
  extract_lets x field bs shown told before u
  have known : Lasting v told := .frame (State.setTelemetry_fr _ _ _ _ rfl (State.set_fr _ _ _ rfl (Fr.refl _ _))) h
  have acted : Lasting v u := .ite (.frame (State.ntcOut_fr _ _ rfl (Fr.refl _ _)) known)
      (.frame (State.laneTemp_fr _ _ _ rfl (Fr.refl _ _)) known)
  exact .unless State.settleGains (fun g => g.settleGains) acted

theorem Lasting.useHkb (h : Lasting v s) : Lasting v (s.useHkb inp gain arg) := by
  unfold State.useHkb
  exact .ite h.feedVolts (.ite (.frame (State.feedAmps_fr _ _ _ rfl (Fr.refl _ _)) h)
      (.ite (.frame (State.set_fr _ _ _ rfl (Fr.refl _ _)) h) (.ite h.ntcRead
      (.ite (.frame (State.setI_fr _ _ _ rfl (Fr.refl _ _)) h)
    (.ite (.frame (State.set_fr _ _ _ rfl (Fr.refl _ _)) h) h)))))

theorem Lasting.takeHkb (h : Lasting v s) : Lasting v (s.takeHkb entry raw) := by
  have shown : Lasting v ((s.noteHighBy 0xD5).set (Obj.hkBResult entry) raw) := .frame
      (State.set_fr _ _ _ rfl (State.noteHighBy_fr _ _ rfl (Fr.refl _ _))) h
  exact .ite shown.useHkb shown

theorem Lasting.releaseHkb (h : Lasting v s) : Lasting v s.releaseHkb := by
  unfold State.releaseHkb
  split
  · exact .ite (.takeHkb h) h
  · exact h

theorem Lasting.noteOverrun (h : Lasting v s) : Lasting v
    ((s.bump Obj.hkBOverrunCount 1).flagFirst Obj.hkSticky 1 (fun s => s.log .press 0x2402 1 31 [])) :=
  .frame (State.flagFirst_fr _ _ _ _ (fun _ g => State.log_fr _ _ _ _ _ _ rfl g) rfl
      (State.bump_fr _ _ _ rfl (Fr.refl _ _))) h

theorem Lasting.registerHkb (h : Lasting v s) : Lasting v (s.registerHkb entry raw) := by
  unfold State.registerHkb
  extract_lets u hkb
  have noted : Lasting v u := .ite h.noteOverrun h
  exact .releaseHkb (noted.withHkb _)

/-! ### The touch sensor -/

theorem Lasting.actTouch (h : Lasting v s) : Lasting v (s.actTouch dur k held) := by
  unfold State.actTouch
  exact .ite (.ite (.frame (State.wakeStart_fr _ _ _ rfl (State.endLockout_fr _ rfl
      (State.touchRecord_fr _ _ _ _ rfl (Fr.refl _ _)))) h) (.frame (State.log_fr _ _ _ _ _ _ rfl
      (State.flag_fr _ _ _ rfl (State.touchRecord_fr _ _ _ _ rfl (Fr.refl _ _)))) h))
    (.ite (.ite (.frame (State.touchRecord_fr _ _ _ _ rfl (Fr.refl _ _)) h)
        (.towardsService (.frame (State.touchRecord_fr _ _ _ _ rfl (Fr.refl _ _)) h)))
        (.ite (.frame (State.arm_fr _ _ _ rfl (State.touchRecord_fr _ _ _ _ rfl (Fr.refl _ _))) h) h))

theorem Lasting.validTouch (h : Lasting v s) : Lasting v (s.validTouch dur) := by
  have counted : Lasting v (s.bump Obj.lidTouchCount 1) := .frame (State.bump_fr _ _ _ rfl (Fr.refl _ _)) h
  unfold State.validTouch
  exact .ite counted counted.actTouch

theorem Lasting.heldTouchActs (h : Lasting v s) : Lasting v s.heldTouchActs := by
  unfold State.heldTouchActs
  split
  · exact .ite h (.ite h (.actTouch h))
  · exact h

theorem Lasting.lidReleased (h : Lasting v s) : Lasting v s.lidReleased := by
  have idle : Lasting v s.lidIdle := .frame (State.lidIdle_fr _ rfl (Fr.refl _ _)) h
  exact .ite (.frame (State.lidUncovered_fr _ rfl (Fr.refl _ _)) h) (.ite idle.validTouch idle)

theorem Lasting.lidPresent (h : Lasting v s) : Lasting v (s.lidPresent arg) := by
  unfold State.lidPresent
  exact .ite (.ite (.lidReleased h) h) (.frame (State.lidHeldDown_fr _ rfl (Fr.refl _ _)) h)

theorem Lasting.lidJudge (h : Lasting v s) : Lasting v (s.lidJudge n) := by
  unfold State.lidJudge
  exact .ite (.ite (.frame (State.lidSum_fr _ _ rfl (Fr.refl _ _)) h) h)
      (.ite (.frame (State.lidIdleSample_fr _ _ _ rfl (Fr.refl _ _)) h) (.ite h.lidPresent
    (.ite (.lidPresent (.frame (State.countCovered_fr _ rfl (State.lidSum_fr _ _ rfl (Fr.refl _ _))) h)) h)))

/-! ### Clocks, watchdogs and supervision -/

theorem Lasting.relockFailed (h : Lasting v s) : Lasting v s.relockFailed := by
  have ended : Lasting v (s.endRelock.set Obj.clockCoreTarget 240) := .frame
      (State.set_fr _ _ _ rfl (State.endRelock_fr _ rfl (Fr.refl _ _))) h
  exact .ite h.restart (.frame (State.arm_fr _ _ _ rfl (Fr.refl _ _)) (.branch (State.fallToStandby · 0x0F)
      (fun g => g.fallToStandby) ended))

theorem Lasting.escalate (h : Lasting v s) : Lasting v (s.escalate core) :=
  .ite (.beginShutdown (.frame (State.set_fr _ _ _ rfl (State.rollBack_fr _ rfl (Fr.refl _ _))) h))
      (.restart (.frame (State.rollBack_fr _ rfl (Fr.refl _ _)) h))

theorem Lasting.corkReset (h : Lasting v s) : Lasting v s.corkReset := by
  have ended : Lasting v (s.dropSigning 5).endSessions := .endSessions (.frame
      (State.dropSigning_fr _ _ rfl (Fr.refl _ _)) h)
  unfold State.corkReset
  exact ended

theorem Lasting.resumeSupervision (h : Lasting v s) : Lasting v s.resumeSupervision := by
  have counted : Lasting v (slots.foldl State.countPg s) := .foldl (fun _ _ g => g.countPg) h
  unfold State.resumeSupervision
  dsimp only
  split
  · exact .ite counted counted.goDown
  · exact .ite (.restart counted) (.frame (State.actHeldRst_fr _ rfl (Fr.refl _ _)) counted)

/-! ### The twin -/

theorem Lasting.takeoverRequest (h : Lasting v s) : Lasting v s.takeoverRequest :=
  .ite h (.towardsActive (.branch State.leaveService (fun g => g.leaveService) h))

theorem Lasting.adoptHints (h : Lasting v s) : Lasting v (s.adoptHints i) := by
  unfold State.adoptHints
  exact .ite h h.startCommit

end

end Sys2Proof.Machine

namespace Sys2Proof.Machine

open Sys2Proof

/-! ### The twin's takeovers and claims -/

section

variable {v s t : State} {i : ImageSlot} {b : Bytes} {cause : Nat}

theorem Lasting.adoptNet (h : Lasting v s) : Lasting v (s.adoptNet i) := by
  unfold State.adoptNet
  extract_lets at_ starts own net u st stop lock w
  have adopted : Lasting v u := h
  clear_value u
  have locked : Lasting v w := .ite (.frame (State.arm_fr _ _ _ rfl (State.set_fr _ _ _ rfl (Fr.refl _ _)))
      (adopted.withNet _)) (.ite (.frame (State.disarm_fr _ _ rfl (State.set_fr _ _ _ rfl (Fr.refl _ _))) adopted) adopted)
  clear_value w
  refine .ite locked (.ite locked.fallToStandby ?_)
  split
  · exact .beginRelock (locked.withPower _) _
  · exact locked

theorem Lasting.adoptImage (h : Lasting v s) : Lasting v s.adoptImage := by
  unfold State.adoptImage
  extract_lets loops u gone p kept
  have probing : Lasting v u := h
  have passed : Lasting v p := .frame (State.pass_fr _ _ _ rfl (Fr.refl _ _)) probing
  split
  · exact .frame (State.rackStale_fr _ rfl (Fr.refl _ _)) probing
  next i _ =>
    extract_lets age w x
    have noted : Lasting v w := passed.withTwin _
    clear_value w
    have adopted : Lasting v x := .frame (State.adoptBursts_fr _ _ rfl (Fr.refl _ _)) noted.adoptNet.adoptHints
    clear_value x
    exact .ite (.frame (State.rackStale_fr _ rfl (Fr.refl _ _)) adopted)
        (.frame (State.adoptPaths_fr _ _ rfl (Fr.refl _ _)) adopted)

theorem Lasting.becomeActive (h : Lasting v s) : Lasting v s.becomeActive := by
  unfold State.becomeActive
  extract_lets twin u w x y
  have active : Lasting v w := .frame (State.set_fr _ _ _ rfl (State.disarm_fr _ _ rfl
      (State.disarm_fr _ _ rfl (State.disarm_fr _ _ rfl (Fr.refl _ _))))) (s := u) h
  clear_value w
  have racked : Lasting v x := .ite (.frame (State.arm_fr _ _ _ rfl (Fr.refl _ _)) active) active
  clear_value x
  have told : Lasting v y := .frame (State.notify_fr _ _ _ _ rfl (Fr.refl _ _)) racked
  clear_value y
  exact .ite told (.adoptImage (.takeoverRequest (.frame (State.bump_fr _ _ _ rfl (Fr.refl _ _)) told)))

theorem Lasting.claim (h : Lasting v s) : Lasting v s.claim := by
  unfold State.claim
  exact .ite (.becomeActive h) (.frame (State.arm_fr _ _ _ rfl (Fr.refl _ _)) h)

theorem Lasting.refuseClaim (h : Lasting v s) : Lasting v s.refuseClaim := by
  unfold State.refuseClaim
  extract_lets p pins twin u w power x
  have given : Lasting v p := .frame (State.abandonBurst_fr _ rfl (Fr.refl _ _)) h
  have refused : Lasting v w := .frame (State.faultRow_fr _ _ _ _ _ _ _ _ rfl (State.set_fr _ _ _ rfl (Fr.refl _ _)))
      ((given.withPins pins).withTwin twin)
  clear_value w
  have standby : Lasting v x := by
    refine .ite refused.fallToStandby ?_
    split
    · exact .beginRelock (refused.withPower _) _
    · exact refused
  clear_value x
  exact .ite standby (.frame (State.arm_fr _ _ _ rfl (Fr.refl _ _)) standby)

theorem Lasting.linkUp (h : Lasting v s) : Lasting v s.linkUp := by
  unfold State.linkUp
  extract_lets twin u w x
  have linked : Lasting v x := .frame (State.disarm_fr _ _ rfl (State.arm_fr _ _ _ rfl
      (State.arm_fr _ _ _ rfl (State.disarm_fr _ _ rfl (State.disarm_fr _ _ rfl
      (State.set_fr _ _ _ rfl (Fr.refl _ _))))))) (s := u) h
  clear_value x
  exact .ite (.frame (State.arm_fr _ _ _ rfl (Fr.refl _ _)) linked) (.ite linked (.ite linked.claim linked))

theorem Lasting.validHeartbeat (h : Lasting v s) : Lasting v (s.validHeartbeat b) := by
  unfold State.validHeartbeat
  extract_lets twin u w
  have seen : Lasting v w := .frame (State.arm_fr _ _ _ rfl (State.set_fr _ _ _ rfl (Fr.refl _ _))) (s := u) h
  exact .demoteIfDue (.frame (State.noteReady_fr _ rfl (Fr.refl _ _)) seen)

theorem Lasting.takeOver (h : Lasting v s) : Lasting v (s.takeOver cause) := by
  unfold State.takeOver
  refine .ite h ?_
  extract_lets u w
  have resumed : Lasting v u := .ite h.endDebug h
  clear_value u
  exact .claim (.takeoverRequest (.withTwin resumed.preemptCommit _))

end

/-! ### The sequencer's retunes -/

section

variable {v s : State} {d : Dir} {r : FeRun} {bit code received : Nat} {b : Bytes}

theorem Lasting.afterRetune (h : Lasting v s) : Lasting v (s.afterRetune d) :=
  .tryFinish (.advanceCommit (.frame (State.nextSeq_fr _ rfl (State.moveDir_fr _ _ rfl (Fr.refl _ _))) h))

theorem Lasting.lockSeen (h : Lasting v s) : Lasting v (s.lockSeen d) := .afterRetune
    (.frame (State.retuneLocked_fr _ _ rfl (Fr.refl _ _)) h)

theorem Lasting.seqFailed (h : Lasting v s) : Lasting v (s.seqFailed r bit code b) := by
  unfold State.seqFailed
  extract_lets u
  have failed : Lasting v u := .frame (State.failSeq_fr _ _ _ _ _ _ rfl (Fr.refl _ _)) h
  clear_value u
  exact .ite failed (.ite (.frame (State.nextSeq_fr _ rfl (Fr.refl _ _)) failed) failed.afterRetune)

theorem Lasting.playEntry (h : Lasting v s) : Lasting v (s.playEntry r received) := by
  unfold State.playEntry
  exact .ite (.frame (State.nextEntry_fr _ _ rfl (State.driveGpio_fr _ _ _ rfl (Fr.refl _ _))) h)
      (.ite (.seqFailed h) (.frame (State.nextEntry_fr _ _ rfl (Fr.refl _ _)) h))

end

/-! ### Keys, the lifecycle and sessions -/

section

variable {v s : State} {c : Caller} {req : Bytes} {target origin which index sub role version peer nc slot sid tag level :
    Nat}
  {value : Bytes} {fails : BitVec 6} {ok : Bool} {x : Session} {owner : Option Nat}

/-- Fuses that gain bits. -/
theorem Lasting.blow (h : Lasting v s) (bits : BitVec 3) : Lasting v { s with sec.fuses := s.sec.fuses ||| bits } := by
  obtain ⟨fuses, rest⟩ := h
  refine ⟨?_, rest⟩
  show v.sec.fuses &&& (s.sec.fuses ||| bits) = v.sec.fuses
  rw [BitVec.and_or_distrib_left, fuses]
  ext i hi
  simp +contextual

theorem Lasting.completeLifecycle (h : Lasting v s) : Lasting v s.completeLifecycle := by
  unfold State.completeLifecycle
  extract_lets l sec u w
  have flagged : Lasting v u := .frame (State.flag_fr _ _ _ rfl (Fr.refl _ _)) h
  have told : Lasting v w := .ite h (.frame (State.lifecycleRecord_fr _ _ _ _ rfl (Fr.refl _ _)) h)
  clear_value u w
  refine .ite (.frame (State.lifecycleRecord_fr _ _ _ _ rfl (Fr.refl _ _)) (h.blow (fusePattern 3))) (.ite ?_ ?_)
  · exact .ite flagged (.frame (State.vintFor_fr _ _ _ _ rfl (Fr.refl _ _)) flagged)
  · exact .ite told.makeRsk told

theorem Lasting.deriveKeys (h : Lasting v s) : Lasting v s.deriveKeys := h

theorem Lasting.checkKeys (h : Lasting v s) : Lasting v (s.checkKeys fails) := by
  unfold State.checkKeys
  exact .foldl (fun _ _ g => .frame (State.postLog_fr _ _ _ _ _ _ _ _ rfl (State.flag_fr _ _ _ rfl (Fr.refl _ _))) g) h

theorem Lasting.eraseKeys (h : Lasting v s) : Lasting v (s.eraseKeys ok) := by
  have ended : Lasting v s.endSessions := h.endSessions
  unfold State.eraseKeys
  exact ended

theorem Lasting.beginLifecycle (h : Lasting v s) : Lasting v (s.beginLifecycle target origin) := by
  unfold State.beginLifecycle
  extract_lets p sec u
  have ended : Lasting v p := h.endDebug
  exact .frame (State.arm_fr _ _ _ rfl (Fr.refl _ _)) (s := u) ended

theorem Lasting.lifecycleWrite (h : Lasting v s) : Lasting v (s.lifecycleWrite c req target) := by
  unfold State.lifecycleWrite
  refine .ite h.abort ?_
  split
  · exact h.abort
  · exact .ite h.done.beginLifecycle (.ite h.done.eraseKeys.beginLifecycle h.abort.eraseKeys)

theorem Lasting.sealKey (h : Lasting v s) : Lasting v (s.sealKey index which) := h

theorem Lasting.keyWrite (h : Lasting v s) : Lasting v (s.keyWrite c req which index sub value) := by
  unfold State.keyWrite
  split
  · exact h.sealKey.done
  · exact h.abort

theorem Lasting.sessionOpen (h : Lasting v s) : Lasting v (s.sessionOpen c req role version peer nc) := by
  unfold State.sessionOpen
  split
  · exact .abort (.ite (.frame (State.activity_fr _ rfl (Fr.refl _ _)) h) h)
  · extract_lets d sid n u key slot x tag sec w
    have drawn : Lasting v u := .frame (State.drawRandom_fr _ _ rfl (State.draw_fr _ rfl
        (State.activity_fr _ rfl (Fr.refl _ _)))) h
    clear_value u
    exact .answer (.frame (State.arm_fr _ _ _ rfl (Fr.refl _ _)) (s := w) drawn)

theorem Lasting.handshakeFailed (h : Lasting v s) : Lasting v (s.handshakeFailed role) := by
  unfold State.handshakeFailed
  exact .ite (.frame (State.arm_fr _ _ _ rfl (State.faultRow_fr _ _ _ _ _ _ _ _ rfl
      (State.set_fr _ _ _ rfl (Fr.refl _ _)))) h) h

theorem Lasting.dropHalf (h : Lasting v s) : Lasting v (s.dropHalf slot) := .frame (State.disarm_fr _ _ rfl (Fr.refl _ _)) h

theorem Lasting.acceptSession (h : Lasting v s) : Lasting v (s.acceptSession x) := by
  unfold State.acceptSession
  exact .frame (State.arm_fr _ _ _ rfl (State.arm_fr _ _ _ rfl (State.disarm_fr _ _ rfl (Fr.refl _ _)))) h

theorem Lasting.sessionConfirm (h : Lasting v s) : Lasting v (s.sessionConfirm c sid tag) := by
  unfold State.sessionConfirm
  split
  · exact h
  · exact .ite h.dropHalf.handshakeFailed (.ite h.dropHalf (.answer (.acceptSession
      (.frame (State.activity_fr _ rfl (Fr.refl _ _)) h))))

theorem Lasting.setDebug (h : Lasting v s) : Lasting v (s.setDebug level owner) := by
  unfold State.setDebug
  extract_lets u
  have closed : Lasting v u := .ite h h.endDebug
  clear_value u
  have shown : Lasting v (u.set Obj.debugLevel level) := .frame (State.set_fr _ _ _ rfl (Fr.refl _ _)) closed
  exact .ite closed (.frame (State.arm_fr _ _ _ rfl (Fr.refl _ _)) (s :=
      { u.set Obj.debugLevel level with sec.debugOwner := owner }) shown)

theorem Lasting.debugWrite (h : Lasting v s) : Lasting v (s.debugWrite c level) := h.done.setDebug

theorem Lasting.tokenWrite (h : Lasting v s) : Lasting v (s.tokenWrite c req value) := by
  unfold State.tokenWrite
  exact .ite h.abort (.ite h.abort (.ite h.done.setDebug (.ite h.done.eraseKeys.beginLifecycle h.abort.eraseKeys)))

theorem Lasting.newChallenge (h : Lasting v s) : Lasting v s.newChallenge.2 := by
  have drawn : Lasting v (s.drawRandom 128).2 := .frame (State.drawRandom_fr _ _ rfl (Fr.refl _ _)) h
  unfold State.newChallenge
  exact drawn

theorem Lasting.revoke (h : Lasting v s) : Lasting v { s with sec.slot0Revoked := true } := by
  obtain ⟨fuses, counter, _, now⟩ := h
  exact ⟨fuses, counter, fun _ => rfl, now⟩

end

end Sys2Proof.Machine

namespace Sys2Proof.Machine

open Sys2Proof

/-! ### What the write of a command object does -/

section

variable {v s : State} {c : Caller} {req b value : Bytes} {k n index sub : Nat} {upTo6 later : List (Option Abort)}
  {f : State → State}

theorem Lasting.handle (hf : ∀ u, Lasting v u → Lasting v (f u)) (h : Lasting v s) : Lasting v (s.handle f) :=
  hf { s with q.handling := true } h

theorem Lasting.activateUpdate (h : Lasting v s) : Lasting v s.activateUpdate := by
  unfold State.activateUpdate
  extract_lets boot u w
  have selected : Lasting v w := .frame (State.set_fr _ _ _ rfl (State.set_fr _ _ _ rfl (Fr.refl _ _))) (s := u) h
  exact selected.restart

theorem Lasting.clearLatch (h : Lasting v s) : Lasting v s.clearLatch := by
  unfold State.clearLatch
  refine .restart ?_
  exact .frame (State.set_fr _ _ _ rfl (State.set_fr _ _ _ rfl (Fr.refl _ _))) h

theorem Lasting.commandedShutdown (h : Lasting v s) : Lasting v s.commandedShutdown := h.netTrigger

theorem Lasting.actUnit (h : Lasting v s) : Lasting v (s.actUnit k) := by
  unfold State.actUnit
  refine .ite (.frame (State.unseal_fr _ rfl (Fr.refl _ _)) h) (.ite h.clearLatch
      (.ite (.frame (State.clearRailStats_fr _ rfl (Fr.refl _ _)) h) ?_))
  refine .ite (.frame (State.armTiu_fr _ rfl (Fr.refl _ _)) h) (.ite (.frame (State.cancelTiu_fr _ rfl (Fr.refl _ _)) h)
      (.ite (.frame (State.rebaseline_fr _ rfl (Fr.refl _ _)) h) ?_))
  refine .ite (.frame (State.beginClear_fr _ rfl (Fr.refl _ _)) h) (.ite
      (.frame (State.startHandover_fr _ rfl (Fr.refl _ _)) h) (.ite (.frame (State.doSync_fr _ rfl (Fr.refl _ _)) h) ?_))
  exact .ite (.frame (State.runInit_fr _ rfl (Fr.refl _ _)) h) (.ite (.frame (State.set_fr _ _ _ rfl (Fr.refl _ _)) h)
      (.ite h.commandedShutdown h))

theorem Lasting.actCommand (h : Lasting v s) : Lasting v (s.actCommand c k n) := by
  unfold State.actCommand
  refine .ite h (.ite h (.ite h.revoke (.ite (.frame (State.stickyClearAll_fr _ _ _ rfl (Fr.refl _ _)) h) ?_)))
  exact .ite (.frame (State.beginUpdate_fr _ _ rfl (Fr.refl _ _)) h) (.ite
      (.frame (State.set_fr _ _ _ rfl (Fr.refl _ _)) h) (.ite h.activateUpdate
      (.ite (.frame (State.set_fr _ _ _ rfl (Fr.refl _ _)) h) h.actUnit)))

theorem Lasting.actWo (h : Lasting v s) : Lasting v (s.actWo c req k n value) := by
  unfold State.actWo
  split
  · exact h.keyWrite
  · exact .ite h.deferPower (.ite h.lifecycleWrite (.ite h.debugWrite (.ite h.tokenWrite h.done.actCommand)))

/-! ### The services of the dictionary -/

variable {w : StageId} {d : ObjDef} {form : ReplyForm} {stage : Option StageId} {es : List (Nat × Nat)} {r : BlockRun}
  {held : Bytes} {whole : Held}

theorem Lasting.readEffect (h : Lasting v s) : Lasting v (s.readEffect k) := by
  unfold State.readEffect
  exact .ite (.frame (State.set_fr _ _ _ rfl (Fr.refl _ _)) h.newChallenge)
      (.ite h (.ite (.frame (State.set_fr _ _ _ rfl (State.draw_fr _ rfl (Fr.refl _ _))) h)
      (.ite (.frame (State.moveGains_fr _ rfl (Fr.refl _ _)) h) h)))

theorem Lasting.readIndexEffect (h : Lasting v s) : Lasting v (s.readIndexEffect index) :=
  .foldl (fun _ _ g => g.readEffect) h

theorem Lasting.gated (hf : ∀ u, Lasting v u → Lasting v (f u)) (h : Lasting v s) :
    Lasting v (s.gated c req upTo6 later f) := by
  unfold State.gated
  split
  · exact h.abort
  · have active : Lasting v s.activity := .frame (State.activity_fr _ rfl (Fr.refl _ _)) h
    dsimp only
    split
    · exact active.abort
    · exact hf _ active

theorem Lasting.serveRead (h : Lasting v s) : Lasting v (s.serveRead c b) :=
  .gated (fun _ g => g.readEffect.answer) h

theorem Lasting.commitOrWait (h : Lasting v s) : Lasting v (s.commitOrWait c form stage es req) := by
  unfold State.commitOrWait
  exact .ite h.tryCommit (.ite h.abort (.abort h))

theorem Lasting.writeObject (h : Lasting v s) : Lasting v (s.writeObject c req d k n value) := by
  unfold State.writeObject
  refine .ite h.powerRequest ?_
  extract_lets u es
  have sampled : Lasting v u := .ite (.frame (State.sampleSeal_fr _ rfl (Fr.refl _ _)) h) h
  clear_value u
  split
  · exact sampled.abort
  · refine .ite ?_ ?_
    · split
      · exact sampled.abort
      · exact sampled.commitOrWait
    · split
      · exact .frame (State.stickyClear_fr _ _ _ _ _ rfl (Fr.refl _ _)) sampled.done
      · exact sampled.actWo
      · exact sampled.commitOrWait
      · exact sampled.abort

theorem Lasting.serveWrite (h : Lasting v s) : Lasting v (s.serveWrite c b) := by
  refine .gated (fun u g => ?_) h
  split
  · exact g.writeObject
  · exact g.abort

theorem Lasting.stageEntry (h : Lasting v s) : Lasting v (s.stageEntry c b w k n) := by
  unfold State.stageEntry
  exact .ite (.abort (.frame (State.flag_fr _ _ _ rfl (Fr.refl _ _)) h))
      (.answer (.frame (State.arm_fr _ _ _ rfl (State.setStage_fr _ _ _ rfl (Fr.refl _ _))) h))

theorem Lasting.serveStaged (h : Lasting v s) : Lasting v (s.serveStaged c b) := by
  refine .gated (fun u g => ?_) h
  split
  · split
    · exact g.abort
    · exact g.stageEntry
  · exact g.abort

theorem Lasting.serveCommit (h : Lasting v s) : Lasting v (s.serveCommit c b) := by
  refine .gated (fun u g => ?_) h
  split
  · exact .commitOrWait (.ite g (.frame (State.arm_fr _ _ _ rfl (Fr.refl _ _)) g))
  · exact g.abort

theorem Lasting.serveDiscard (h : Lasting v s) : Lasting v (s.serveDiscard c b) := by
  refine .gated (fun u g => ?_) h
  split
  · exact .answer (.frame (State.disarm_fr _ _ rfl (State.setStage_fr _ _ _ rfl (Fr.refl _ _))) g)
  · exact g.abort

theorem Lasting.setBlock (h : Lasting v s) (write : Bool) (peer : Nat) (x : Option BlockRun) :
    Lasting v (s.setBlock write peer x) := .frame (State.setBlock_fr _ _ _ _ rfl (Fr.refl _ _)) h

theorem Lasting.sendBlock (h : Lasting v s) : Lasting v (s.sendBlock c r n) := .answer (.setBlock h _ _ _)

theorem Lasting.blockReadStep (h : Lasting v s) : Lasting v (s.blockReadStep c b) := by
  unfold State.blockReadStep
  refine .ite (.sendBlock (.ite h.readIndexEffect h.readEffect)) ?_
  split
  · exact h.abort
  · exact .ite (h.setBlock _ _ _).abort (.ite h.sendBlock h.abort)

theorem Lasting.serveBlockRead (h : Lasting v s) : Lasting v (s.serveBlockRead c b) :=
  .gated (fun _ g => g.blockReadStep) h

theorem Lasting.updateSegment (h : Lasting v s) : Lasting v (s.updateSegment c b) := by
  unfold State.updateSegment
  extract_lets offset data st n u upd w x
  have posted : Lasting v u := .reported (State.post_reported _ _ _ _ _) h
  have noted : Lasting v x := .frame (State.set_fr _ _ _ rfl (Fr.refl _ _)) (s := w) posted
  clear_value x
  exact .ite h.abort (.ite h.abort (.ite h.abort (.ite noted (.frame (State.arm_fr _ _ _ rfl (Fr.refl _ _)) noted))))

theorem Lasting.blockHold (h : Lasting v s) : Lasting v (s.blockHold c b held) := by
  unfold State.blockHold
  exact .ite (h.setBlock _ _ _).abort (.ite (h.setBlock _ _ _).abort (.ite (h.setBlock _ _ _).serveWrite
    (h.setBlock _ _ _).answer))

theorem Lasting.blockWriteStep (h : Lasting v s) : Lasting v (s.blockWriteStep c b) := by
  unfold State.blockWriteStep
  dsimp only
  split
  · exact .ite (.ite (h.setBlock _ _ _).blockHold (h.setBlock _ _ _).abort)
      (.ite h.abort (.ite (h.setBlock _ _ _).abort h.blockHold))
  · exact .ite h.abort (.ite h.abort h.blockHold)

theorem Lasting.serveBlockWrite (h : Lasting v s) : Lasting v (s.serveBlockWrite c b) :=
  .gated (fun _ g => .ite g.updateSegment g.blockWriteStep) h

theorem Lasting.serveTimeSet (h : Lasting v s) : Lasting v (s.serveTimeSet c b) :=
  .ite h (.gated (fun _ g => .answer (.frame (State.setAnchor_fr _ _ _ rfl (Fr.refl _ _)) g)) h)

theorem Lasting.serveAssign (h : Lasting v s) : Lasting v (s.serveAssign c b) :=
  .ite h (.gated (fun _ g => g.commitOrWait) h)

theorem Lasting.serveBridge (h : Lasting v s) : Lasting v (s.serveBridge c b) :=
  .ite (.gated (fun _ g => g.commitOrWait) h) (.ite (.gated (fun _ g => g.commitOrWait) h) (.gated (fun _ g => g.answer) h))

theorem Lasting.serveSession (h : Lasting v s) : Lasting v (s.serveSession c b) :=
  .ite h.sessionOpen (.ite (.ite h.sessionConfirm h) h.abort)

theorem Lasting.act (h : Lasting v s) : Lasting v (s.act c b) := by
  unfold State.act
  split
  · exact h.serveRead
  · exact h.serveWrite
  · exact h.serveStaged
  · exact h.serveCommit
  · exact h.serveDiscard
  · exact h.serveBlockRead
  · exact h.serveBlockWrite
  · exact h.serveTimeSet
  · exact h.serveAssign
  · exact h.serveBridge
  · exact h.serveSession
  · exact h

/-! ### Requests that waited -/

theorem Lasting.serveLater (h : Lasting v s) : Lasting v (s.serveLater whole) :=
  .handle (fun _ g => .endSpent (.ite g.serveWrite g.act)) h

theorem Lasting.serveDeferredPower (h : Lasting v s) : Lasting v s.serveDeferredPower :=
  .foldl (fun _ _ g => g.serveLater) h

theorem Lasting.serviceDue (h : Lasting v s) : Lasting v s.serviceDue := by
  unfold State.serviceDue
  split
  · exact .ite (.serviceOver (.frame (State.disarm_fr _ _ rfl (Fr.refl _ _)) h)) h
  · exact h

theorem Lasting.serveWaiting (h : Lasting v s) : Lasting v s.serveWaiting := by
  have served : Lasting v s.serveDeferredPower.serviceDue := h.serveDeferredPower.serviceDue
  unfold State.serveWaiting
  refine .ite h ?_
  dsimp only
  split
  · exact served
  · exact .serveLater (.withEng served _)

end

end Sys2Proof.Machine

namespace Sys2Proof.Machine

open Sys2Proof

/-! ### Requests served -/

section

variable {v s t : State} {c : Caller} {b msg body raw : Bytes} {n q tid hop aux svc sid scope : Nat} {x : Session}
  {claimed : Option Nat} {p : Port} {f : CanFrame} {i : BitVec 29} {a : Abort} {g : Reasm} {prot : Bool} {r : ReqCtx}

theorem Lasting.groupFails (h : Lasting v s) : Lasting v (s.groupFails x) :=
  .ite (.endSession (.frame (State.faultRow_fr _ _ _ _ _ _ _ _ rfl (Fr.refl _ _)) h.setSession)) h.setSession

theorem Lasting.authenticate (h : Lasting v s) : Lasting v (s.authenticate c sid msg body) := by
  unfold State.authenticate
  split
  · exact h.abort
  · exact .ite h.groupFails.abort (.ite h.groupFails.abort (.act (.frame (State.arm_fr _ _ _ rfl (Fr.refl _ _))
      h.setSession)))

theorem Lasting.serve (h : Lasting v s) : Lasting v (s.serve c claimed msg) := by
  unfold State.serve
  split
  · split
    · exact h.abort
    · exact h.act
  · refine .ite h.abort ?_
    split
    · exact h.abort
    · exact h.authenticate.endSpent

theorem Lasting.tryServe (h : Lasting v s) (ok : s.tryServe c claimed msg = .ok t) : Lasting v t := by
  unfold State.tryServe at ok
  extract_lets body u w at ok
  have passed : Lasting v u := .foldl (fun _ _ g => .frame (State.pass_fr _ _ _ rfl (Fr.refl _ _)) g) h
  have served : Lasting v w := .handle (fun _ g => g.serve) passed
  split at ok
  · cases ok
  · split at ok
    · cases ok
    · split at ok
      · cases ok
      · exact Except.ok.inj ok ▸ served

theorem Lasting.serveOne (h : Lasting v s) (ok : s.serveOne = some t) : Lasting v t := by
  obtain ⟨x, _, hx⟩ := List.exists_of_findSome?_eq_some ok
  split at hx
  · cases hx
  · extract_lets u eng w y at hx
    have taken : Lasting v u := .frame (State.unqueue_fr _ _ rfl (State.noteServed_fr _ _ _ rfl (Fr.refl _ _))) h
    have gone : Lasting v y := .frame (State.disarm_fr _ _ rfl (State.disarm_fr _ _ rfl (Fr.refl _ _))) (s := w) taken
    split at hx
    · cases hx
      exact gone.tryServe ‹_›
    · cases hx

theorem Lasting.serveHeldN (h : Lasting v s) : Lasting v (State.serveHeldN n s) := by
  induction n generalizing s with
  | zero => exact h
  | succ n ih =>
    unfold State.serveHeldN
    split
    · next ok => exact ih (h.serveOne ok)
    · exact h

theorem Lasting.serveHeld (h : Lasting v s) : Lasting v s.serveHeld := h.serveHeldN

theorem Lasting.hold (h : Lasting v s) : Lasting v (s.hold c claimed msg n) := .frame
    (State.hold_fr _ _ _ _ _ rfl (Fr.refl _ _)) h

theorem Lasting.takeIn (h : Lasting v s) : Lasting v (s.takeIn c claimed msg) := by
  unfold State.takeIn
  extract_lets q u
  have passed : Lasting v u := .frame (State.pass_fr _ _ _ rfl (Fr.refl _ _)) h
  clear_value u
  split
  · exact passed.hold
  · refine .ite passed.hold ?_
    have noted : Lasting v (u.noteServed 2 q) := .frame (State.noteServed_fr _ _ _ rfl (Fr.refl _ _)) passed
    split
    · next ok => exact noted.tryServe ok
    · exact passed.hold

theorem Lasting.portRequest (h : Lasting v s) : Lasting v (s.portRequest c claimed msg raw) := by
  unfold State.portRequest
  refine .ite h.abort (.ite h (.ite h ?_))
  split
  · exact .frame (State.repeatReply_fr _ _ _ rfl (Fr.refl _ _)) h
  · exact .ite (.frame (State.refuse_fr _ _ _ _ _ _ _ _ _ rfl (Fr.refl _ _)) h)
      (.takeIn (.frame (State.rememberGroup_fr _ _ _ _ rfl (Fr.refl _ _)) h))

theorem Lasting.hostRequest (h : Lasting v s) : Lasting v (s.hostRequest c claimed msg) := .ite h.abort h.takeIn

/-! ### Frames received -/

theorem Lasting.authBroadcast (h : Lasting v s) : Lasting v (s.authBroadcast c sid scope msg body).2 := by
  unfold State.authBroadcast
  split
  · exact h
  · dsimp only
    split
    · exact h.groupFails
    · exact .frame (State.arm_fr _ _ _ rfl (Fr.refl _ _)) h.setSession

theorem Lasting.broadcastTime (h : Lasting v s) : Lasting v (s.broadcastTime c claimed scope msg) := by
  unfold State.broadcastTime
  split
  · exact .ite (.frame (State.takeTimeSet_fr _ _ _ rfl (Fr.refl _ _)) h) h
  · exact .ite h (.ite (.endSpent (.frame (State.takeTimeSet_fr _ _ _ rfl (Fr.refl _ _)) h.authBroadcast))
      h.authBroadcast.endSpent)

theorem Lasting.takeGroup (h : Lasting v s) : Lasting v (s.takeGroup p i tid hop prot msg raw) := by
  unfold State.takeGroup
  extract_lets svc c claimed mine u
  have noted : Lasting v u := .frame (State.rememberGroup_fr _ _ _ _ rfl (Fr.refl _ _)) h
  clear_value u
  refine .ite (.ite h ?_) (.ite (.ite h.portRequest h) (.ite h h.portRequest))
  split
  · exact .frame (State.repeatReply_fr _ _ _ rfl (Fr.refl _ _)) h
  · exact .ite (.handle (fun _ g => g.broadcastTime) noted) (.frame (State.takeQuery_fr _ _ _ _ _ rfl (Fr.refl _ _)) noted)

theorem Lasting.groupAbort (h : Lasting v s) : Lasting v (s.groupAbort p i tid b a) := .ite h.abort h

theorem Lasting.dropGroup (h : Lasting v s) : Lasting v (s.dropGroup g) := .frame
    (State.dropGroup_fr _ _ rfl (Fr.refl _ _)) h

theorem Lasting.firstFrame (h : Lasting v s) : Lasting v (s.firstFrame p f) := by
  unfold State.firstFrame
  exact .ite h.groupAbort (.ite h.groupAbort (.ite (.frame (State.groupFull_fr _ _ _ _ _ _ rfl (Fr.refl _ _)) h)
      (.ite h.takeGroup (.frame (State.arm_fr _ _ _ rfl (Fr.refl _ _)) h))))

theorem Lasting.nextFrame (h : Lasting v s) : Lasting v (s.nextFrame g f) := by
  unfold State.nextFrame
  exact .ite h.dropGroup.groupAbort (.ite h.dropGroup.groupAbort (.ite (.frame
      (State.groupFull_fr _ _ _ _ _ _ rfl (Fr.refl _ _)) h.dropGroup)
    (.ite h.dropGroup.takeGroup h)))

theorem Lasting.assemble (h : Lasting v s) : Lasting v (s.assemble p f) := by
  unfold State.assemble
  split
  · exact h.dropGroup.groupAbort.firstFrame
  · exact h.nextFrame
  · exact h.firstFrame
  · exact h.groupAbort

theorem Lasting.interruptGroup (h : Lasting v s) : Lasting v (s.interruptGroup f) := by
  unfold State.interruptGroup
  split
  · exact h.dropGroup.groupAbort
  · exact h

theorem Lasting.localFrame (h : Lasting v s) : Lasting v (s.localFrame p f) := by
  unfold State.localFrame
  extract_lets func q u
  have cut : Lasting v u := h.interruptGroup
  clear_value u
  exact .ite (.ite h (.ite (.ite (.frame (State.countDrop_fr _ _ rfl (Fr.refl _ _)) cut)
      (.frame (State.heard_fr _ _ rfl (Fr.refl _ _)) cut)) cut)) (.ite h h.assemble)

theorem Lasting.receiveFrame (h : Lasting v s) : Lasting v (s.receiveFrame p f) := by
  unfold State.receiveFrame
  extract_lets i t u on here w
  have counted : Lasting v u := .frame (State.bump_fr _ _ _ rfl (Fr.refl _ _)) h
  clear_value u
  have forwarded : Lasting v w := .ite (.frame (State.forwardFrame_fr _ _ _ rfl (Fr.refl _ _)) counted) counted
  clear_value w
  refine .ite h (.ite (.frame (State.exceptIntegrate_fr _ _ rfl (State.rxDiscard_fr _ _ rfl (Fr.refl _ _))) counted)
      (.ite (.frame (State.bump_fr _ _ _ rfl (Fr.refl _ _)) counted) ?_))
  refine .ite (.frame (State.bump_fr _ _ _ rfl (Fr.refl _ _)) counted) (.ite
      (.frame (State.flag_fr _ _ _ rfl (State.rxDiscard_fr _ _ rfl (Fr.refl _ _))) counted)
      (.ite (.frame (State.addressConflict_fr _ rfl (Fr.refl _ _)) counted) ?_))
  exact .ite (.frame (State.rxDiscard_fr _ _ rfl (Fr.refl _ _)) counted)
      (.ite h (.ite (.frame (State.rxDiscard_fr _ _ rfl (Fr.refl _ _)) counted) (.ite forwarded.localFrame forwarded)))

theorem Lasting.receiveAll {fs : List CanFrame} (h : Lasting v s) : Lasting v (s.receiveAll p fs) :=
  .foldl (fun _ _ g => g.receiveFrame) h

theorem Lasting.arrive (h : Lasting v s) : Lasting v (s.arrive r svc aux b) := by
  unfold State.arrive
  dsimp only
  split
  · exact .ite h.hostRequest h
  · exact .ite (.ite h.abort h) h.receiveAll

theorem Lasting.requestWrite (h : Lasting v s) : Lasting v (s.requestWrite r q n) := h.arrive

/-! ### Frames sent -/

theorem Lasting.sendQueued {x : Nat × CanFrame} (h : Lasting v s) : Lasting v (s.sendQueued p x) :=
  .serveHeld (.frame (State.countForwarded_fr _ _ _ rfl (State.sentOne_fr _ _ rfl
      (State.rearmTx_fr _ _ _ rfl (State.take_fr _ _ rfl (State.noteSent_fr _ _ _ rfl (Fr.refl _ _)))))) h)

theorem Lasting.transmit (h : Lasting v s) : Lasting v (s.transmit p) := by
  unfold State.transmit
  split
  · exact h
  · exact h.sendQueued
  · exact .frame (State.sendRefusal_fr _ _ _ _ rfl (Fr.refl _ _)) h
  · exact .ite (.frame (State.sendRefusal_fr _ _ _ _ rfl (Fr.refl _ _)) h) h.sendQueued

theorem Lasting.txTimeout (h : Lasting v s) : Lasting v (s.txTimeout p q) := by
  unfold State.txTimeout
  split
  · exact h
  · exact .ite (.frame (State.rearmTx_fr _ _ _ rfl (Fr.refl _ _)) h) (.serveHeld
      (.frame (State.rearmTx_fr _ _ _ rfl (State.noteSummary_fr _ rfl (State.txExpired_fr _ _ rfl
      (State.take_fr _ _ rfl (Fr.refl _ _))))) h))

theorem Lasting.flushPort (h : Lasting v s) : Lasting v (s.flushPort p) := by
  unfold State.flushPort
  extract_lets qs n queues u w
  have emptied : Lasting v w := .foldl (fun _ _ g => .frame (State.disarm_fr _ _ rfl (Fr.refl _ _)) g) (s := u) h
  exact .serveHeld (.frame (State.noteSummary_fr _ rfl (State.txExpired_fr _ _ rfl (Fr.refl _ _))) emptied)

end

/-! ### The host port and the consumers of queues -/

section

variable {v s : State} {c : Caller} {n q k : Nat} {x : Held} {seg : Seg} {l : List Nat} {b : Bytes}

theorem Lasting.programSegment (h : Lasting v s) : Lasting v s.programSegment := by
  unfold State.programSegment
  split
  · exact h
  · extract_lets bank u upd w
    have programmed : Lasting v u := .frame (State.setBank_fr _ _ _ rfl (Fr.refl _ _)) h
    have taken : Lasting v w := programmed
    clear_value w
    split
    · exact taken
    · exact .endSpent (.done (.frame (State.disarm_fr _ _ rfl (State.disarm_fr _ _ rfl (Fr.refl _ _))) taken))

theorem Lasting.takeMailbox (h : Lasting v s) : Lasting v s.takeMailbox := by
  unfold State.takeMailbox
  exact .ite (.abort h) (.hostRequest h)

theorem Lasting.takeNext (h : Lasting v s) : Lasting v s.takeNext := .ite h.takeMailbox h

theorem Lasting.go (h : Lasting v s) : Lasting v (s.go n) := by
  unfold State.go
  exact .ite (.frame (State.hostFlag_fr _ _ rfl (Fr.refl _ _)) h) (.ite
      (.frame (State.hostFlag_fr _ _ rfl (Fr.refl _ _)) h) (.takeNext (.frame (State.bump_fr _ _ _ rfl (Fr.refl _ _)) h)))

theorem Lasting.ackReply (h : Lasting v s) : Lasting v s.ackReply := by
  unfold State.ackReply
  exact .ite h (.takeNext (.ite h h))

theorem Lasting.placeReply (h : Lasting v s) : Lasting v s.placeReply := by
  unfold State.placeReply
  split
  · exact h
  · split
    · exact .serveHeld (.frame (State.take_fr _ _ rfl (State.raiseIrq_fr _ _ rfl (Fr.refl _ _))) h)
    · exact .serveHeld (.frame (State.take_fr _ _ rfl (Fr.refl _ _)) h)

theorem Lasting.rcvVerify (h : Lasting v s) : Lasting v s.rcvVerify := by
  unfold State.rcvVerify
  split
  · refine .restart ?_
    exact .frame (State.set_fr _ _ _ rfl (State.raiseIrq_fr _ _ rfl (Fr.refl _ _))) h
  · exact .frame (State.hostFlag_fr _ _ rfl (State.raiseIrq_fr _ _ rfl (Fr.refl _ _))) h

theorem Lasting.writeRcvCtrl (h : Lasting v s) : Lasting v (s.writeRcvCtrl n) := by
  unfold State.writeRcvCtrl
  extract_lets hp u w
  have placed : Lasting v u := h
  clear_value u
  have programmed : Lasting v w := .ite (.frame (State.programChunk_fr _ rfl (Fr.refl _ _)) placed) placed
  clear_value w
  exact .ite programmed.rcvVerify programmed

theorem Lasting.writeReg (h : Lasting v s) : Lasting v (s.writeReg k n) := by
  unfold State.writeReg
  exact .ite h.writeRcvCtrl (.ite h (.ite (.frame (State.clearIrq_fr _ _ rfl (Fr.refl _ _)) h)
      (.ite (.frame (State.set_fr _ _ _ rfl (Fr.refl _ _)) h) (.ite (.frame
      (State.clearHostSticky_fr _ _ rfl (Fr.refl _ _)) h)
    (.ite (.ite h.go (.ite h h)) (.ite (.ite h.ackReply h) h))))))

theorem Lasting.writeRegs (h : Lasting v s) : Lasting v (State.writeRegs s k l) := by
  induction l generalizing s k with
  | nil => exact h
  | cons x l ih => exact ih h.writeReg

theorem Lasting.writeWindow (h : Lasting v s) : Lasting v (s.writeWindow k b) := by
  unfold State.writeWindow
  exact .ite (.frame (State.writeBuffer_fr _ _ _ rfl (Fr.refl _ _)) h) (.ite
      (.frame (State.hostFlag_fr _ _ rfl (Fr.refl _ _)) h) (.ite (.frame (State.writeBuffer_fr _ _ _ rfl (Fr.refl _ _))
      h.writeRegs) h.writeRegs))

theorem Lasting.takeSafety (h : Lasting v s) : Lasting v (s.takeSafety q) := by
  have taken : Lasting v (s.take q) := .frame (State.take_fr _ _ rfl (Fr.refl _ _)) h
  unfold State.takeSafety
  split
  · exact .ite (.frame (State.arm_fr _ _ _ rfl (Fr.refl _ _)) taken) taken
  · exact .ite taken.collapseReported taken

theorem Lasting.consume (h : Lasting v s) : Lasting v (s.consume q) := by
  unfold State.consume
  refine .ite h.takeSafety (.ite (.frame (State.takeLog_fr _ _ rfl (Fr.refl _ _)) h)
      (.ite (.frame (State.takeLink_fr _ _ rfl (Fr.refl _ _)) h) ?_))
  exact .ite (.releaseHkb (.frame (State.take_fr _ _ rfl (Fr.refl _ _)) h))
      (.ite (.frame (State.takeNotify_fr _ _ rfl (Fr.refl _ _)) h) (.ite
      (.frame (State.take_fr _ _ rfl (Fr.refl _ _)) h.programSegment) (.frame (State.take_fr _ _ rfl (Fr.refl _ _)) h)))

theorem Lasting.deferHeld (h : Lasting v s) : Lasting v (s.deferHeld x) := .abort
    (.frame (State.arm_fr _ _ _ rfl (Fr.refl _ _)) h)

theorem Lasting.deferSegment (h : Lasting v s) : Lasting v (s.deferSegment seg c) := .endSpent (.abort h)

end

end Sys2Proof.Machine

namespace Sys2Proof.Machine

open Sys2Proof

/-! ### The clock and the functions that let it go on -/

section

variable {v s t : State} {f : State → State} {timer : TimerId} {n k begin_ entry refAt received : Nat} {input : Int}
    {d : Dir}
  {meas : List PathMeas} {r : FeRun} {cond : Bool}

theorem Lasting.elapse (h : Lasting v s) : Lasting v (s.elapse n) := by
  obtain ⟨fuses, counter, revoked, now⟩ := h
  rw [Lasting, (State.elapse_fr s n (F := 5) rfl (Fr.refl _ _)).sec rfl]
  exact ⟨fuses, counter, revoked, now.trans ((Nat.le_add_right _ n).trans_eq (s.elapse_now n).symm)⟩

theorem Lasting.onTimer (hf : ∀ u, Lasting v u → Lasting v (f u)) (h : Lasting v s) : Lasting v (s.onTimer timer f) := by
  unfold State.onTimer
  split
  · exact h
  · exact hf _ (.frame (State.disarm_fr _ _ rfl (Fr.refl _ _)) h.elapse)

theorem Lasting.when (hf : Lasting v s → Lasting v (f s)) (h : Lasting v s) : Lasting v (s.when cond f) := .ite (hf h) h

theorem Lasting.supervised (hf : Lasting v s → Lasting v (f s)) (h : Lasting v s) : Lasting v (s.supervised f) := .ite h
    (hf h)

theorem Lasting.onFrame (hf : ∀ u, Lasting v u → Lasting v (f u)) (h : Lasting v s) : Lasting v (s.onFrame n f) := by
  unfold State.onFrame
  exact .ite h (.ite (hf _ (.frame (State.linkStat_fr _ _ rfl (Fr.refl _ _)) h))
      (.frame (State.linkStat_fr _ _ rfl (Fr.refl _ _)) h))

theorem Lasting.releaseCore (h : Lasting v s) : Lasting v s.releaseCore := by
  unfold State.releaseCore
  exact .frame (State.set_fr _ _ _ rfl (State.set_fr _ _ _ rfl (State.set_fr _ _ _ rfl
      (State.set_fr _ _ _ rfl (State.set_fr _ _ _ rfl (Fr.refl _ _)))))) h

theorem Lasting.toBoundary (h : Lasting v s) : Lasting v (s.toBoundary d) := by
  have elapsed : Lasting v (match s.lastFrame d with
      | some t => s.elapse (t + 10000 - s.now)
      | none => s) := by
    split
    · exact h.elapse
    · exact h
  unfold State.toBoundary
  cases d
  · exact elapsed
  · exact elapsed

theorem Lasting.entryWait (h : Lasting v s) : Lasting v (s.entryWait r) := h.elapse

theorem Lasting.loopFrame (h : Lasting v s) : Lasting v (s.loopFrame d meas) := by
  have moved : Lasting v (s.toBoundary d).moveGains := .frame (State.moveGains_fr _ rfl (Fr.refl _ _)) h.toBoundary
  unfold State.loopFrame
  generalize (s.toBoundary d).moveGains = u at moved ⊢
  extract_lets _ m ps all some_ col w lost x y z
  have counted : Lasting v w := .foldl (fun _ _ g => .frame (State.framePath_fr _ _ _ rfl (Fr.refl _ _)) g) moved
  clear_value w
  have learnt : Lasting v x := .foldl (fun _ _ g => .frame (State.ageGated_fr _ _ rfl
      (State.learn_fr _ _ _ rfl (Fr.refl _ _))) g) counted
  have noted : Lasting v y := .frame (State.stepOverrun_fr _ rfl (State.noteWater_fr _ rfl (Fr.refl _ _))) learnt
  clear_value y
  have held : Lasting v z := .ite (.frame (State.setHeld_fr _ _ _ rfl (Fr.refl _ _)) noted) noted
  clear_value z
  exact .ite counted.netTrigger (.ite counted.netTrigger (.frame (State.beginProbes_fr _ rfl (Fr.refl _ _))
      (.settleGains (.frame (State.boundaryCommit_fr _ _ _ rfl (Fr.refl _ _)) held))))

theorem Lasting.advanceStart (h : Lasting v s) : Lasting v s.advanceStart := by
  unfold State.advanceStart
  extract_lets u w
  have released : Lasting v u := .ite h.releaseCore h
  have delayed : Lasting v w := .frame (State.startDelays_fr _ rfl (Fr.refl _ _)) released
  clear_value w
  exact .ite h (.ite delayed.trellisComplete delayed)

theorem Lasting.railReading (h : Lasting v s) : Lasting v (s.railReading n k begin_) := by
  unfold State.railReading
  extract_lets st ov u rail low x since
  have good : Lasting v u := .frame (State.disarm_fr _ _ rfl (State.set_fr _ _ _ rfl (Fr.refl _ _))) h
  have seen : Lasting v x := .frame (State.set_fr _ _ _ rfl (State.set_fr _ _ _ rfl (Fr.refl _ _))) h
  clear_value u x
  refine .ite (.ite h.railFault (.ite (good.withRail _).advanceStart (.ite h.railFault h))) ?_
  refine .ite (.ite h.railFault (.ite h.railFault (.frame (State.marginReading_fr _ _ _ rfl (Fr.refl _ _)) seen)))
      (.ite h.slotOff ?_)
  refine .ite (.ite h.railFault h) (.ite (.frame (State.postLog_fr _ _ _ _ _ _ _ _ rfl
      (State.flag_fr _ _ _ rfl (Fr.refl _ _))) h) (.ite ?_ h))
  exact .frame (State.flagFirst_fr _ _ _ _ (fun _ g => State.log_fr _ _ _ _ _ _ rfl g) rfl (Fr.refl _ _)) h

theorem Lasting.hkaResult (h : Lasting v s) : Lasting v (s.hkaResult n input) := by
  unfold State.hkaResult
  extract_lets time u rail w c r x rail' y z rail''
  have elapsed : Lasting v w := h.elapse
  clear_value w
  have read : Lasting v x := .frame (State.set_fr _ _ _ rfl (State.set_fr _ _ _ rfl (Fr.refl _ _))) elapsed
  have noted : Lasting v y := read
  clear_value y
  have done : Lasting v z := .ite (.frame (State.hkaLost_fr _ rfl (Fr.refl _ _)) elapsed) noted.railReading
  clear_value z
  exact .ite done done

theorem Lasting.hkbResult (h : Lasting v s) : Lasting v (s.hkbResult entry input refAt) := by
  unfold State.hkbResult
  extract_lets e u hkb w inp r cold x flags
  have elapsed : Lasting v w := h.elapse
  have flagged : Lasting v x := .frame (State.hkbFlags_fr _ _ _ _ _ _ rfl (Fr.refl _ _)) elapsed
  clear_value x
  exact .frame (State.hkbAdvance_fr _ _ rfl (Fr.refl _ _)) flagged.registerHkb

theorem Lasting.powerLoss (h : Lasting v s) : Lasting v s.powerLoss := by
  have cut : Lasting v ((s.cutRecord).cutEntry).draw.2 := .frame (State.draw_fr _ rfl
      (State.cutEntry_fr _ rfl (State.cutRecord_fr _ rfl (Fr.refl _ _)))) h
  unfold State.powerLoss
  exact cut

theorem Lasting.tick (h : Lasting v s) : Lasting v s.tick :=
  .frame (State.noteSummary_fr _ rfl (Fr.refl _ _)) (.takeNext (.frame (State.settleJoin_fr _ _ rfl
      (State.settleJoin_fr _ _ rfl (Fr.refl _ _))) h.elapse.followCommit.serveWaiting.heldTouchActs))

end

end Sys2Proof.Machine

namespace Sys2Proof.Machine

open Sys2Proof

/-! ### Timers of the units -/

/-- An outcome whose next state has taken nothing back. -/
def LastingOut (v : State) (o : Out) : Prop := ∀ t, o = .next t → Lasting v t

section

variable {v s t : State} {o : Out}

theorem Lasting.next (h : Lasting v t) : LastingOut v (.next t) := fun _ e => Host.Outcome.next.inj e ▸ h

theorem LastingOut.of_frame (fr : FrOut unitWork s o) (h : Lasting v s) : LastingOut v o := fun t e => .frame (fr t e) h

end

section

variable {v s : State}

theorem execFloodTokenRefill_lasting (code : BitVec 16) (h : Lasting v s) : LastingOut v (execFloodTokenRefill code s) := by
  refine .next (.onTimer (fun u g => ?_) h)
  extract_lets n t cask w
  have refilled : Lasting v w := g.withCask cask
  clear_value w
  exact .ite (.frame (State.arm_fr _ _ _ rfl (Fr.refl _ _)) refilled) refilled

theorem execVintageProgramDone_lasting (ok : Bool) (h : Lasting v s) : LastingOut v (execVintageProgramDone ok s) := by
  refine .next (.onTimer (fun u g => ?_) h)
  split
  · exact g
  · next e bs rest _ =>
    extract_lets cask w old r y kept x
    have cleared : Lasting v w := .frame (State.clearPending_fr _ _ rfl (Fr.refl _ _)) g
    have drawn : Lasting v y := .frame (State.draw_fr _ rfl (Fr.refl _ _)) cleared
    clear_value w y
    have programmed : Lasting v x := .ite (cleared.withMems _) (.frame (State.voidEntry_fr _ _ _ rfl (Fr.refl _ _))
        (drawn.withMems _))
    clear_value x
    exact .ite programmed (.frame (State.arm_fr _ _ _ rfl (Fr.refl _ _)) programmed)

theorem execCaskClearDone_lasting (h : Lasting v s) : LastingOut v (execCaskClearDone s) :=
  .next (.onTimer (fun _ g => .frame (State.endClear_fr _ rfl (Fr.refl _ _)) g) h)

theorem execWarmTimerExpiry_lasting (h : Lasting v s) : LastingOut v (execWarmTimerExpiry s) :=
  .next (.onTimer (fun _ g => .ite (.frame (State.clearRefWarm_fr _ rfl (Fr.refl _ _)) g) g) h)

theorem execTiuTimeout_lasting (h : Lasting v s) : LastingOut v (execTiuTimeout s) :=
  .next (.onTimer (fun _ g => .ite (.frame (State.endMeasurement_fr _ _ _ rfl
      (State.flag_fr _ _ _ rfl (State.draw_fr _ rfl (Fr.refl _ _)))) g) g) h)

theorem execTiuOverflow_lasting (h : Lasting v s) : LastingOut v (execTiuOverflow s) :=
  .next (.onTimer (fun _ g => .ite (.frame (State.endMeasurement_fr _ _ _ rfl
      (State.flag_fr _ _ _ rfl (State.draw_fr _ rfl (Fr.refl _ _)))) g) g) h)

theorem execTdrBurstStart_lasting (h : Lasting v s) : LastingOut v (execTdrBurstStart s) := by
  refine .next (.onTimer (fun u g => ?_) h)
  extract_lets w
  have scheduled : Lasting v w := .frame (State.scheduleBurst_fr _ _ rfl (Fr.refl _ _)) g
  clear_value w
  exact .ite scheduled (.ite (.frame (State.beginBurst_fr _ rfl (Fr.refl _ _)) scheduled) (.ite scheduled scheduled))

theorem execTdrLaunch_lasting (h : Lasting v s) : LastingOut v (execTdrLaunch s) :=
  .next (.onTimer (fun _ g => .ite (.frame (State.arm_fr _ _ _ rfl (State.arm_fr _ _ _ rfl (Fr.refl _ _))) g) g) h)

theorem execTdrStopWindowEnd_lasting (h : Lasting v s) : LastingOut v (execTdrStopWindowEnd s) :=
  .next (.onTimer (fun _ g => g) h)

theorem execWaterlineStale_lasting (h : Lasting v s) : LastingOut v (execWaterlineStale s) := by
  refine .next (.onTimer (fun u g => ?_) h)
  extract_lets bs gone
  exact .frame (State.faultRow_fr _ _ _ _ _ _ _ _ rfl (State.set_fr _ _ _ rfl (Fr.refl _ _))) g

theorem execLaneRegulatorTimeout_lasting (lane : Fin 4) (h : Lasting v s) : LastingOut v (execLaneRegulatorTimeout lane s)
    :=
  .next (.onTimer (fun _ g => .ite (.frame (State.regulatorFault_fr _ _ rfl (Fr.refl _ _)) g) g) h)

theorem execRegulatorRestart_lasting (lane : Fin 4) (h : Lasting v s) : LastingOut v (execRegulatorRestart lane s) :=
  .next (.onTimer (fun _ g => .frame (State.laneReleased_fr _ _ rfl (State.setLane_fr _ _ _ rfl (Fr.refl _ _))) g) h)

theorem execPaOverrun_lasting (h : Lasting v s) : LastingOut v (execPaOverrun s) :=
  .next (.onTimer (fun _ g => .frame (State.faultRow_fr _ _ _ _ _ _ _ _ rfl (Fr.refl _ _)) g) h)

theorem execRailEnable_lasting (slot : Fin 16) (h : Lasting v s) : LastingOut v (execRailEnable slot s) :=
  .next (.supervised (.onTimer fun _ g => .ite (.withRail (.frame (State.set_fr _ _ _ rfl
      (State.driveRail_fr _ _ _ rfl (Fr.refl _ _))) g) _) g) h)

theorem execRetryBackoffExpiry_lasting (h : Lasting v s) : LastingOut v (execRetryBackoffExpiry s) :=
  .next (.supervised (.onTimer fun _ g => .frame (State.beginStart_fr _ _ _ _ rfl (Fr.refl _ _)) g) h)

theorem execAttemptReset_lasting (h : Lasting v s) : LastingOut v (execAttemptReset s) :=
  .next (.onTimer (fun _ g => .frame (State.set_fr _ _ _ rfl (Fr.refl _ _)) g) h)

theorem execMarginDacStep_lasting (ch : Fin 4) (h : Lasting v s) : LastingOut v (execMarginDacStep ch s) := by
  refine .next (.onTimer (fun u g => ?_) h)
  split
  · exact g
  · exact .ite (.ite (.ite (.frame (State.arm_fr _ _ _ rfl (Fr.refl _ _)) g) g) g)
      (.frame (State.arm_fr _ _ _ rfl (Fr.refl _ _)) g)

theorem execDcFreezeEnd_lasting (conv : Fin 4) (h : Lasting v s) : LastingOut v (execDcFreezeEnd conv s) :=
  .next (.onTimer (fun _ g => .frame (State.refreeze_fr _ _ rfl (Fr.refl _ _)) g) h)

theorem execSettleEnd_lasting (path : Fin 16) (h : Lasting v s) : LastingOut v (execSettleEnd path s) := by
  refine .next (.onTimer (fun u g => ?_) h)
  extract_lets w conv x
  have settled : Lasting v w := .frame (State.set_fr _ _ _ rfl (Fr.refl _ _)) g
  clear_value w
  have opened : Lasting v x := .ite (.frame (State.freshWindow_fr _ _ rfl (Fr.refl _ _)) settled) settled
  clear_value x
  exact .frame (State.fabEvent_fr _ _ _ rfl (Fr.refl _ _)) opened

theorem execLinkHoldoverExpiry_lasting (h : Lasting v s) : LastingOut v (execLinkHoldoverExpiry s) :=
  .next (.onTimer (fun _ g => g) h)

theorem execHkbStart_lasting (h : Lasting v s) : LastingOut v (execHkbStart s) := by
  refine .next ?_
  split
  · exact .ite h (.frame (State.hkbPass_fr _ rfl (Fr.refl _ _)) h.elapse)
  · exact h

theorem execLaneThermalRestart_lasting (lane : Fin 4) (h : Lasting v s) : LastingOut v (execLaneThermalRestart lane s) :=
  .next (.onTimer (fun _ g => .frame (State.laneReleased_fr _ _ rfl (State.setLane_fr _ _ _ rfl (Fr.refl _ _))) g) h)

theorem execSealClearTimer_lasting (h : Lasting v s) : LastingOut v (execSealClearTimer s) :=
  .next (.onTimer (fun _ g => .ite (.frame (State.unseal_fr _ rfl (Fr.refl _ _)) g) g) h)

theorem execLidCover_lasting (h : Lasting v s) : LastingOut v (execLidCover s) :=
  .next (.onTimer (fun _ g => .ite (.frame (State.lidCovered_fr _ rfl (Fr.refl _ _)) g) g) h)

theorem execLidTrack_lasting (h : Lasting v s) : LastingOut v (execLidTrack s) := by
  refine .next (.onTimer (fun u g => ?_) h)
  extract_lets st step w lid
  have tracked : Lasting v w := .ite g (.frame (State.set_fr _ _ _ rfl (Fr.refl _ _)) g)
  clear_value w
  exact .ite (.frame (State.lidTimers_fr _ rfl (Fr.refl _ _)) (.withLid tracked _)) g

theorem execLidBaselineStore_lasting (h : Lasting v s) : LastingOut v (execLidBaselineStore s) :=
  .next (.onTimer (fun _ g => .ite (.frame (State.lidTimers_fr _ rfl (State.set_fr _ _ _ rfl (Fr.refl _ _))) g) g) h)

theorem execLidFaultResume_lasting (h : Lasting v s) : LastingOut v (execLidFaultResume s) :=
  .next (.onTimer (fun _ g => .ite (.frame (State.lidRetakeNow_fr _ rfl (Fr.refl _ _)) g) g) h)

theorem execHoldupRestartDelayExpiry_lasting (h : Lasting v s) : LastingOut v (execHoldupRestartDelayExpiry s) :=
  .next (.onTimer (fun _ g => .ite g (.frame (State.beginStart_fr _ _ _ _ rfl (Fr.refl _ _)) g)) h)

theorem execRestartDelayExpiry_lasting (h : Lasting v s) : LastingOut v (execRestartDelayExpiry s) :=
  .next (.onTimer (fun _ g => .frame (State.wakeStart_fr _ _ _ rfl (Fr.refl _ _)) g) h)

theorem execWakeTimerExpiry_lasting (h : Lasting v s) : LastingOut v (execWakeTimerExpiry s) :=
  .next (.onTimer (fun _ g => .ite (.frame (State.beginStart_fr _ _ _ _ rfl (Fr.refl _ _)) g) g) h)

theorem execRelockRetry_lasting (h : Lasting v s) : LastingOut v (execRelockRetry s) :=
  .next (.onTimer (fun _ g => .ite g (.withPower (g.beginRelock _) _)) h)

theorem execStretchLong_lasting (mv : BitVec 16) (h : Lasting v s) : LastingOut v (execStretchLong mv s) := by
  refine .next (.onTimer (fun u g => ?_) h)
  split
  · exact g
  · exact .frame (State.faultRow_fr _ _ _ _ _ _ _ _ rfl (State.set_fr _ _ _ rfl (State.hardMute_fr _ rfl (Fr.refl _ _)))) g

theorem execHello_lasting (h : Lasting v s) : LastingOut v (execHello s) :=
  .next (.onTimer (fun _ g => .ite (.frame (State.arm_fr _ _ _ rfl (State.sendLink_fr _ _ _ rfl (Fr.refl _ _))) g) g) h)

theorem execAuthFailRestart_lasting (h : Lasting v s) : LastingOut v (execAuthFailRestart s) :=
  .next (.onTimer (fun _ g => .ite (.frame (State.beginHandshake_fr _ rfl (Fr.refl _ _)) g) g) h)

theorem execTwinHeartbeat_lasting (h : Lasting v s) : LastingOut v (execTwinHeartbeat s) := by
  refine .next (.onTimer (fun u g => .ite g ?_) h)
  exact .frame (State.arm_fr _ _ _ rfl (State.sendLink_fr _ _ _ rfl (Fr.refl _ _)))
      (.withTwin (.frame (State.noteReady_fr _ rfl (Fr.refl _ _)) g) _)

theorem execRackCapture_lasting (h : Lasting v s) : LastingOut v (execRackCapture s) :=
  .next (.onTimer (fun _ g => .ite (.frame (State.arm_fr _ _ _ rfl (State.captureImage_fr _ rfl (Fr.refl _ _))) g) g) h)

theorem execHandoverTimeout_lasting (h : Lasting v s) : LastingOut v (execHandoverTimeout s) :=
  .next (.onTimer (fun _ g => g) h)

theorem execCounterWriteback_lasting (h : Lasting v s) : LastingOut v (execCounterWriteback s) :=
  .next (.onTimer (fun _ g => .frame (State.arm_fr _ _ _ rfl (State.writeBack_fr _ rfl (Fr.refl _ _))) g) h)

theorem execRoleLockoutExpiry_lasting (role : Fin 4) (h : Lasting v s) : LastingOut v (execRoleLockoutExpiry role s) :=
  .next (.onTimer (fun _ g => .frame (State.set_fr _ _ _ rfl (Fr.refl _ _)) g) h)

theorem Lasting.signNext (inTime : Bool) (h : Lasting v s) : Lasting v (match s.net.signing with
    | some seq => if inTime then s.signReceipt seq false else s.leaveUnsigned seq 6
    | none => s) := by
  split
  · exact .ite (.frame (State.signReceipt_fr _ _ _ rfl (Fr.refl _ _)) h)
      (.frame (State.leaveUnsigned_fr _ _ _ rfl (Fr.refl _ _)) h)
  · exact h

theorem execReceiptSigned_lasting (inTime : Bool) (h : Lasting v s) : LastingOut v (execReceiptSigned inTime s) := by
  refine .next (.when (fun g => .frame (State.nextSignature_fr _ rfl (Fr.refl _ _)) (.withNet (s := ite _ _ _) ?_ _)) h)
  exact .ite (.signNext inTime (.frame (State.disarm_fr _ _ rfl (Fr.refl _ _)) g))
      (.onTimer (fun _ k => k.signNext inTime) g)

theorem execFeSequenceReplay_lasting (h : Lasting v s) : LastingOut v (execFeSequenceReplay s) := by
  refine .next (.onTimer (fun u g => ?_) h)
  split
  · exact .ite g (.ite (.frame (State.seqPlayed_fr _ _ _ rfl (Fr.refl _ _)) g)
      (.frame (State.startSeq_fr _ _ _ rfl (Fr.refl _ _)) g))
  · exact g

theorem execLeMaxHold_lasting (h : Lasting v s) : LastingOut v (execLeMaxHold s) := by
  refine .next (.onTimer (fun u g => ?_) h)
  split
  · next d _ =>
    have guarded : Lasting v u.enterGuard := .frame (State.enterGuard_fr _ rfl (Fr.refl _ _)) g
    have flagged : Lasting v (u.enterGuard.flagFirst Obj.leSticky 0 (fun s => s.log .press 0x1403 1 (dirNum d) [])) :=
      .frame (State.flagFirst_fr _ _ _ _ (fun _ k => State.log_fr _ _ _ _ _ _ rfl k) rfl (Fr.refl _ _)) guarded
    exact .frame (State.countMaxHold_fr _ _ rfl (Fr.refl _ _)) flagged
  · exact g

theorem execLeGuardEnd_lasting (h : Lasting v s) : LastingOut v (execLeGuardEnd s) :=
  .next (.onTimer (fun _ g => .ite (.frame (State.set_fr _ _ _ rfl (Fr.refl _ _)) g) g) h)

theorem execLeBarEnd_lasting (d : Dir) (h : Lasting v s) : LastingOut v (execLeBarEnd d s) :=
  .next (.onTimer (fun _ g => .frame (State.set_fr _ _ _ rfl (Fr.refl _ _)) g) h)

theorem execHeartbeat_lasting (p : Port) (h : Lasting v s) : LastingOut v (execHeartbeat p s) :=
  .next (.onTimer (fun _ g => .ite (.frame (State.arm_fr _ _ _ rfl (State.sendFrames_fr _ _ _ _ _ rfl (Fr.refl _ _))) g)
      g) h)

theorem execNodeOffline_lasting (node : BitVec 9) (h : Lasting v s) : LastingOut v (execNodeOffline node s) :=
  .next (.onTimer (fun _ g => .frame (State.notify_fr _ _ _ _ rfl (State.set_fr _ _ _ rfl (Fr.refl _ _))) g) h)

theorem execLocateReply_lasting (acked : Bool) (h : Lasting v s) : LastingOut v (execLocateReply acked s) :=
  .next (.onTimer (fun _ g => .frame (State.locateDue_fr _ _ rfl (Fr.refl _ _)) g) h)

theorem execBusOffHoldoffExpiry_lasting (p : Port) (h : Lasting v s) : LastingOut v (execBusOffHoldoffExpiry p s) :=
  .next (.onTimer (fun _ g => .frame (State.setPortEng_fr _ _ _ rfl (State.joinPort_fr _ _ rfl
      (State.set_fr _ _ _ rfl (State.setTec_fr _ _ _ rfl (Fr.refl _ _))))) g) h)

theorem execBusOffWaitReset_lasting (p : Port) (h : Lasting v s) : LastingOut v (execBusOffWaitReset p s) :=
  .next (.onTimer (fun _ g => .frame (State.setPortEng_fr _ _ _ rfl (Fr.refl _ _)) g) h)

theorem execStuckDominantRejoin_lasting (p : Port) (h : Lasting v s) : LastingOut v (execStuckDominantRejoin p s) :=
  .next (.onTimer (fun _ g => .frame (State.joinPort_fr _ _ rfl (Fr.refl _ _)) g) h)

theorem execStageTimeout_lasting (who : StageId) (h : Lasting v s) : LastingOut v (execStageTimeout who s) :=
  .next (.onTimer (fun _ g => .frame (State.setStage_fr _ _ _ rfl (Fr.refl _ _)) g) h)

theorem execUpdateVerifyDone_lasting (micros : BitVec 32) (h : Lasting v s) : LastingOut v (execUpdateVerifyDone micros s)
    :=
  .next (.when (fun g => .frame (State.updateVerified_fr _ rfl (Fr.refl _ _)) g.elapse) h)

theorem execBlockTimeout_lasting (src : BitVec 16) (ofWrite : Bool) (h : Lasting v s) :
    LastingOut v (execBlockTimeout src ofWrite s) := .next (.onTimer (fun _ g => .ite g g) h)

theorem execProbeRetry_lasting (path : Fin 16) (h : Lasting v s) : LastingOut v (execProbeRetry path s) := by
  refine .next (.onTimer (fun u g => ?_) h)
  dsimp only
  split
  · exact .ite (.frame (State.disarm_fr _ _ rfl (Fr.refl _ _)) g) g
  · exact g

theorem execRefusalExpiry_lasting (p : Port) (h : Lasting v s) : LastingOut v (execRefusalExpiry p s) := by
  refine .next (.onTimer (fun u g => ?_) h)
  dsimp only
  split
  · exact g
  · exact .frame (State.rearmRefusal_fr _ _ rfl (State.refusalGone_fr _ rfl
      (State.setPortEng_fr _ _ _ rfl (Fr.refl _ _)))) g

theorem execEscapeHeld_lasting (cls : Fin 8) (h : Lasting v s) : LastingOut v (execEscapeHeld cls s) := by
  refine .next (.onTimer (fun u g => ?_) h)
  split
  · exact .frame (State.faultRow_fr _ _ _ _ _ _ _ _ rfl (Fr.refl _ _)) g
  · exact g

end

end Sys2Proof.Machine

namespace Sys2Proof.Machine

open Sys2Proof

/-! ### Commands of the rails, lanes, sensors and clocks -/

section

variable {v s : State}

theorem Lasting.marginTx {r : MarginRun} {x : PmbEnd} (h : Lasting v s) : Lasting v (s.marginTx r x) := .frame
    (State.marginTx_fr _ _ _ rfl (Fr.refl _ _)) h

theorem execPmbusTransactionDone_lasting (agent : PmbAgent) (code : Byte) (outcome : PmbEnd) (h : Lasting v s) :
    LastingOut v (execPmbusTransactionDone agent code outcome s) := by
  refine .next (.when (fun g => ?_) h)
  dsimp only
  split
  · split
    · exact .ite g.laneTx g
    · exact g
  · split
    · exact .ite g.marginTx g
    · exact g

theorem execLaneStop_lasting (lane : Fin 4) (h : Lasting v s) : LastingOut v (execLaneStop lane s) :=
  .next (.when (fun g => .settleGains (.frame (State.stopLane_fr _ _ rfl (Fr.refl _ _)) g)) h)

theorem execRailOff_lasting (slot : Fin 16) (h : Lasting v s) : LastingOut v (execRailOff slot s) :=
  .next (.supervised (.when fun g => g.slotOff) h)

theorem execPgChange_lasting (slot : Fin 16) (high : Bool) (h : Lasting v s) : LastingOut v (execPgChange slot high s) :=
  .next (.when (fun g => .supervised (fun k => k.countPg) (g.withPins _)) h)

theorem execDetectorWindowEnd_lasting (path : Fin 16) (pmax : BitVec 32) (sum : Nat) (clipped : Bool) (h : Lasting v s) :
    LastingOut v (execDetectorWindowEnd path pmax sum clipped s) := by
  have latched (g : Lasting v s) : Lasting v (s.latchWindow path.val pmax.toNat sum clipped) := .frame
      (State.latchWindow_fr _ _ _ _ _ rfl (Fr.refl _ _)) g
  refine .next (.when (fun g => ?_) h)
  replace latched := latched g
  dsimp only
  generalize s.latchWindow path.val pmax.toNat sum clipped = u at latched ⊢
  refine .ite ?_ latched
  have moved : Lasting v u.moveGains := .frame (State.moveGains_fr _ rfl (Fr.refl _ _)) latched
  generalize u.moveGains = w at moved ⊢
  exact .ite (.netTrigger (.frame (State.fabEvent_fr _ _ _ rfl (State.watchPower_fr _ _ rfl
      (State.noteLevel_fr _ _ _ _ rfl (Fr.refl _ _)))) moved)) (.settleGains
      (.frame (State.watchPower_fr _ _ rfl (State.noteLevel_fr _ _ _ _ rfl (Fr.refl _ _))) moved))

theorem execRefInLoss_lasting (h : Lasting v s) : LastingOut v (execRefInLoss s) := by
  refine .next (.when (fun g => ?_) h)
  extract_lets power u w x
  have lost : Lasting v w := .frame (State.arm_fr _ _ _ rfl (State.flag_fr _ _ _ rfl
      (State.set_fr _ _ _ rfl (Fr.refl _ _)))) (g.withPower power)
  clear_value w
  exact .demoteIfDue (.frame (State.pllDown_fr _ rfl (State.tiuRefLost_fr _ rfl
      (State.warmRefLost_fr _ rfl (State.toInt48_fr _ rfl (State.endRelock_fr _ rfl (Fr.refl _ _)))))) lost.refReaction)

theorem execSamplePllUnlock_lasting (status : BitVec 32) (h : Lasting v s) : LastingOut v (execSamplePllUnlock status s)
    := by
  refine .next (.when (fun g => ?_) h)
  extract_lets u
  have told : Lasting v u := .frame (State.faultRow_fr _ _ _ _ _ _ _ _ rfl (Fr.refl _ _)) g
  exact .frame (State.pllDown_fr _ rfl (Fr.refl _ _)) told.refReaction

theorem execFeedCollapseReport_lasting (h : Lasting v s) : LastingOut v (execFeedCollapseReport s) :=
  .next (.when (.supervised fun g => .collapseReported (.frame (State.take_fr _ _ rfl (Fr.refl _ _)) g)) h)

theorem execDieTrip_lasting (h : Lasting v s) : LastingOut v (execDieTrip s) := by
  refine .next (.when (fun g => ?_) h)
  have muted : Lasting v s.hardMute := .frame (State.hardMute_fr _ rfl (Fr.refl _ _)) g
  generalize s.hardMute = u at muted ⊢
  extract_lets _ pins pa w x
  have stopped : Lasting v x :=
    .foldl (fun _ _ k => .ite (.frame (State.stopLane_fr _ _ rfl (State.setLane_fr _ _ _ rfl (Fr.refl _ _))) k)
        (.frame (State.setLane_fr _ _ _ rfl (Fr.refl _ _)) k)) (s := w) muted
  exact .settleGains (.frame (State.faultRow_fr _ _ _ _ _ _ _ _ rfl (Fr.refl _ _)) stopped)

theorem execSealLanesSealed_lasting (h : Lasting v s) : LastingOut v (execSealLanesSealed s) := by
  refine .next (.when (fun g => ?_) h)
  have stopped : Lasting v (laneNums.foldl State.stopLane s) := .foldl (fun _ _ k => .frame
      (State.stopLane_fr _ _ rfl (Fr.refl _ _)) k) g
  have muted : Lasting v ((laneNums.foldl State.stopLane s).mutePaths pathNums) := .frame
      (State.mutePaths_fr _ _ rfl (Fr.refl _ _)) stopped
  generalize (laneNums.foldl State.stopLane s).mutePaths pathNums = u at muted ⊢
  extract_lets
  exact .settleGains (.demoteIfDue (.frame (State.postLog_fr _ _ _ _ _ _ _ _ rfl (Fr.refl _ _)) muted))

theorem execRstNLow_lasting (h : Lasting v s) : LastingOut v (execRstNLow s) :=
  .next (.when (fun g => .ite (g.withPower _) (.ite (.frame (State.rstInDormant_fr _ rfl (Fr.refl _ _)) g) g.restart)) h)

theorem execHoldupComplete_lasting (h : Lasting v s) : LastingOut v (execHoldupComplete s) := by
  refine .next (.when (fun g => ?_) h)
  extract_lets rail u w
  have spent : Lasting v u := g.withRail rail
  clear_value u
  have waits : Lasting v w := .ite spent (.frame (State.arm_fr _ _ _ rfl (Fr.refl _ _)) spent)
  clear_value w
  exact .frame (State.actHeldRst_fr _ rfl (State.arm_fr _ _ _ rfl (Fr.refl _ _)))
      (.enterDormant (.frame (State.set_fr _ _ _ rfl (Fr.refl _ _)) waits))

theorem execClockMuxToPll_lasting (h : Lasting v s) : LastingOut v (execClockMuxToPll s) := by
  refine .next (.when (fun g => ?_) h)
  extract_lets u power w x
  have locked : Lasting v u := .frame (State.resumeSeq_fr _ rfl (State.bump_fr _ _ _ rfl
      (State.set_fr _ _ _ rfl (Fr.refl _ _)))) g
  clear_value u
  have left : Lasting v x := .frame (State.leaveRestricted_fr _ rfl (Fr.refl _ _)) (locked.withPower power)
  clear_value x
  split
  · exact .withPower (.frame (State.enterState_fr _ _ _ rfl (Fr.refl _ _)) (left.withPower _).endServiceSessions) _
  · exact left.withPower _
  · exact left

theorem execLaneReady_lasting (lane : Fin 4) (h : Lasting v s) : LastingOut v (execLaneReady lane s) := by
  refine .next (.onTimer (fun u g => ?_) h)
  exact .ite g (.ite (.settleGains (.frame (State.set_fr _ _ _ rfl (Fr.refl _ _)) g))
      (.frame (State.arm_fr _ _ _ rfl (Fr.refl _ _)) g))

theorem execPmbFaultStop_lasting (lane : Fin 4) (h : Lasting v s) : LastingOut v (execPmbFaultStop lane s) := by
  refine .next (.onTimer (fun u g => ?_) h)
  extract_lets r
  exact .ite (.settleGains (.frame (State.stopLane_fr _ _ rfl (State.setLane_fr _ _ _ rfl (Fr.refl _ _))) g)) g

theorem execHintPhase_lasting (w : HintId) (h : Lasting v s) : LastingOut v (execHintPhase w s) :=
  .next (.onTimer (fun _ g => .settleGains (.frame (State.retargetBias_fr _ rfl (State.nextHint_fr _ _ rfl (Fr.refl _ _)))
      g)) h)

theorem execWarnLeadExpiry_lasting (h : Lasting v s) : LastingOut v (execWarnLeadExpiry s) :=
  .next (.supervised (.onTimer fun _ g => g.goDown) h)

theorem execHoldupLeadExpiry_lasting (h : Lasting v s) : LastingOut v (execHoldupLeadExpiry s) :=
  .next (.supervised (.onTimer fun _ g => g.goDown) h)

theorem execHoldupStepExpiry_lasting (slot : Fin 16) (h : Lasting v s) : LastingOut v (execHoldupStepExpiry slot s) :=
  .next (.supervised (.onTimer fun _ g => g.slotOff) h)

theorem execRailOffTimeExpiry_lasting (slot : Fin 16) (h : Lasting v s) : LastingOut v (execRailOffTimeExpiry slot s) := by
  refine .next (.supervised (.onTimer fun u g => .slotOff (.ite ?_ g)) h)
  exact .frame (State.flagFirst_fr _ _ _ _ (fun _ k => State.log_fr _ _ _ _ _ _ rfl k) rfl (Fr.refl _ _)) g

theorem execHkaReading_lasting (slot : Fin 16) (input : Int) (h : Lasting v s) : LastingOut v
    (execHkaReading slot input s) :=
  .next (.when (fun g => g.hkaResult) h)

theorem execHkbResult_lasting (entry : Fin 16) (input : Int) (h : Lasting v s) :
    LastingOut v (execHkbResult entry input s) := by
  refine .next ?_
  split
  · exact .when (fun g => g.hkbResult) h
  · exact h

theorem execDroopClear_lasting (h : Lasting v s) : LastingOut v (execDroopClear s) :=
  .next (.onTimer (fun _ g => .ite g (.settleGains (.frame (State.endDroop_fr _ rfl (Fr.refl _ _)) g))) h)

theorem execFeedStale_lasting (h : Lasting v s) : LastingOut v (execFeedStale s) := by
  refine .next (.onTimer (fun u g => ?_) h)
  extract_lets p feed w x y
  have stale : Lasting v p := .frame (State.disarm_fr _ _ rfl (Fr.refl _ _)) g
  have told : Lasting v x := .frame (State.faultRow_fr _ _ _ _ _ _ _ _ rfl (Fr.refl _ _)) (stale.withFeed feed)
  clear_value x
  have drooped : Lasting v y := .ite (.frame (State.startDroop_fr _ _ rfl (Fr.refl _ _)) told) told
  clear_value y
  exact drooped.settleGains

theorem execLidSample_lasting (reading : BitVec 32) (h : Lasting v s) : LastingOut v (execLidSample reading s) := by
  have elapsed : Lasting v (match s.lid.sampleAt with
      | some t => s.elapse (t + 10000 - s.now)
      | none => s) := by
    split
    · exact h.elapse
    · exact h
  refine .next (.when (fun _ => ?_) h)
  exact .lidJudge (.frame (State.lidRange_fr _ _ rfl (State.lidTimers_fr _ rfl (State.set_fr _ _ _ rfl (Fr.refl _ _))))
      (.heldTouchActs (elapsed.withLid _)))

theorem execBrownOut_lasting (h : Lasting v s) : LastingOut v (execBrownOut s) := .next (.when (fun g => g.powerLoss) h)

theorem execServiceTimeout_lasting (h : Lasting v s) : LastingOut v (execServiceTimeout s) :=
  .next (.when (.onTimer fun _ g => g.serviceOver) h)

theorem execRelockTimeout_lasting (count : Nat) (h : Lasting v s) : LastingOut v (execRelockTimeout count s) := by
  refine .next (.onTimer (fun u g => ?_) h)
  extract_lets w
  have told : Lasting v w := .frame (State.faultRow_fr _ _ _ _ _ _ _ _ rfl (Fr.refl _ _)) g
  clear_value w
  exact .ite told told.relockFailed

theorem execPressWatchdogExpiry_lasting (h : Lasting v s) : LastingOut v (execPressWatchdogExpiry s) := by
  refine .next (.supervised (.onTimer fun u g => ?_) h)
  have muted : Lasting v u.hardMute.paOff := .frame (State.paOff_fr _ rfl (State.hardMute_fr _ rfl (Fr.refl _ _))) g
  generalize u.hardMute.paOff = w at muted ⊢
  extract_lets _ r p power x
  have noted : Lasting v r.1 := .frame (State.noteExpiry_fr _ _ _ rfl (Fr.refl _ _)) muted
  have gone : Lasting v p := .frame (State.depart_fr _ _ rfl (Fr.refl _ _)) noted
  have down : Lasting v x := gone.withPower power
  clear_value x
  exact .ite down.escalate down

theorem execCoreWatchdogExpiry_lasting (c : SideCore) (h : Lasting v s) : LastingOut v (execCoreWatchdogExpiry c s) := by
  cases c with
  | vintner =>
    refine .next (.supervised (.onTimer fun u g => ?_) h)
    extract_lets r w
    have noted : Lasting v r.1 := .frame (State.noteExpiry_fr _ _ _ rfl (Fr.refl _ _)) g
    have reset : Lasting v w := .frame (State.vintnerReset_fr _ rfl (Fr.refl _ _)) noted
    clear_value w
    exact .ite reset.escalate reset
  | cork =>
    refine .next (.supervised (.onTimer fun u g => ?_) h)
    extract_lets r w
    have noted : Lasting v r.1 := .frame (State.noteExpiry_fr _ _ _ rfl (Fr.refl _ _)) g
    have reset : Lasting v w := noted.corkReset
    clear_value w
    exact .ite reset.escalate reset

theorem execLockstepRecovery_lasting (h : Lasting v s) : LastingOut v (execLockstepRecovery s) :=
  .next (.onTimer (fun _ g => .resumeSupervision (.frame (State.faultRow_fr _ _ _ _ _ _ _ _ rfl (Fr.refl _ _)) g)) h)

end

end Sys2Proof.Machine

namespace Sys2Proof.Machine

open Sys2Proof

/-! ### Commands of the twin, the boot, debug and sessions -/

section

variable {v s : State}

theorem execConfirmReceive_lasting (seq : BitVec 16) (tag : BitVec 128) (h : Lasting v s) :
    LastingOut v (execConfirmReceive seq tag s) :=
  .next (.onFrame (fun _ g => .ite g (.ite (.linkUp (g.withTwin _)) (.frame (State.tagFail_fr _ rfl (Fr.refl _ _)) g))) h)

theorem execTwinHeartbeatReceive_lasting (seq : BitVec 16) (payload : Bytes) (h : Lasting v s) :
    LastingOut v (execTwinHeartbeatReceive seq payload s) := by
  refine .next (.onFrame (fun u g => ?_) h)
  extract_lets b
  exact .ite g (.ite (.frame (State.tagFail_fr _ rfl (Fr.refl _ _)) g) (.ite g g.validHeartbeat))

theorem execDepartingReceive_lasting (seq : BitVec 16) (cause : DepartCause) (gen : BitVec 32) (h : Lasting v s) :
    LastingOut v (execDepartingReceive seq cause gen s) :=
  .next (.onFrame (fun _ g => .ite g (.takeOver (g.withTwin _))) h)

theorem Lasting.relayBack (h : Lasting v s) :
    Lasting v ((({ s with twin.relayLost := false }).disarm .relayLost).set Obj.twinRole 1) := .frame
        (State.set_fr _ _ _ rfl (State.disarm_fr _ _ rfl (Fr.refl _ _))) h

theorem Lasting.relayGone (h : Lasting v s) : Lasting v ((((({ s with twin.relayLost := true }).hardMute).set Obj.twinRole
    2).faultRow
    Obj.twinSticky 7 .press 0x2708 2 31 []).arm .relayLost 1000000) := .frame
        (State.arm_fr _ _ _ rfl (State.faultRow_fr _ _ _ _ _ _ _ _ rfl (State.set_fr _ _ _ rfl
        (State.hardMute_fr _ rfl (Fr.refl _ _))))) h

theorem execTwinSelChange_lasting (high : Bool) (h : Lasting v s) : LastingOut v (execTwinSelChange high s) := by
  refine .next (.when (fun g => ?_) h)
  extract_lets was pins twin u back w gone
  have seen : Lasting v u := g
  have returned : Lasting v w := seen.relayBack
  exact .ite seen (.ite (.ite seen.becomeActive (.ite (.ite (.frame (State.arm_fr _ _ _ rfl (Fr.refl _ _)) returned)
      returned) seen)) (.ite seen.relayGone seen))

theorem execHandoverAcceptReceive_lasting (seq : BitVec 16) (gen : BitVec 32) (h : Lasting v s) :
    LastingOut v (execHandoverAcceptReceive seq gen s) := by
  refine .next (.onFrame (fun u g => .ite ?_ g) h)
  extract_lets p twin w
  have noted : Lasting v w := .withTwin (.frame (State.disarm_fr _ _ rfl (Fr.refl _ _)) g) twin
  clear_value w
  exact .demote (.frame (State.captureImage_fr _ rfl (State.hardMute_fr _ rfl (Fr.refl _ _))) noted)

theorem execTwinLinkDown_lasting (h : Lasting v s) : LastingOut v (execTwinLinkDown s) := by
  refine .next (.onTimer (fun u g => .ite g ?_) h)
  extract_lets peer own w x
  have dropped : Lasting v w := .frame (State.dropLink_fr _ rfl (Fr.refl _ _)) g
  clear_value w
  have taken : Lasting v x := .ite dropped.takeOver dropped
  clear_value x
  exact .ite (.frame (State.beginHandshake_fr _ rfl (Fr.refl _ _)) taken) taken

theorem execRelayLostDemotion_lasting (h : Lasting v s) : LastingOut v (execRelayLostDemotion s) :=
  .next (.onTimer (fun _ g => g.demoteIfDue) h)

theorem execStartWaitExpiry_lasting (h : Lasting v s) : LastingOut v (execStartWaitExpiry s) :=
  .next (.onTimer (fun _ g => .ite g g.claim) h)

theorem execClaimIntervalExpiry_lasting (h : Lasting v s) : LastingOut v (execClaimIntervalExpiry s) :=
  .next (.onTimer (fun _ g => .ite g (.claim (g.withTwin _))) h)

theorem execRelayTimeExpiry_lasting (h : Lasting v s) : LastingOut v (execRelayTimeExpiry s) :=
  .next (.onTimer (fun _ g => .ite g.refuseClaim g) h)

theorem execCoresReady_lasting (ok : Bool) (h : Lasting v s) : LastingOut v (execCoresReady ok s) := by
  refine .next (.when (fun g => ?_) h)
  extract_lets u w p rail x
  have pressed : Lasting v u := .ite g (.frame (State.pressBegins_fr _ _ rfl (Fr.refl _ _)) g)
  clear_value u
  have begun : Lasting v w := .ite pressed (.frame (State.vintnerBegins_fr _ rfl (Fr.refl _ _)) pressed)
  clear_value w
  have noted : Lasting v x := .withRail (.frame (State.set_fr _ _ _ rfl (Fr.refl _ _)) begun) rail
  clear_value x
  exact .ite (.advanceStart (.frame (State.startDelays_fr _ rfl (State.twinStart_fr _ rfl (Fr.refl _ _))) noted)) begun

theorem Lasting.withBoot (h : Lasting v s) (x : Boot) : Lasting v { s with boot := x } := h

theorem execSecureBoot_lasting (roles : BitVec 4) (others : BitVec 2) (h : Lasting v s) :
    LastingOut v (execSecureBoot roles others s) := by
  refine .next (.when (fun g => ?_) h)
  extract_lets boot u
  have booting : Lasting v u := g.withBoot boot
  clear_value u
  have checked : Lasting v (u.deriveKeys.checkKeys (others ++ roles)) := booting.deriveKeys.checkKeys
  exact .frame (State.bootBanks_fr _ rfl (State.cutUpdate_fr _ rfl (Fr.refl _ _)))
      (.completeLifecycle (.frame (State.dropSigning_fr _ _ rfl (Fr.refl _ _)) checked))

theorem Lasting.raiseCounter {n : Nat} (h : Lasting v s) (hn : s.sec.securityCounter ≤ n) :
    Lasting v { s with sec.securityCounter := n } := by
  obtain ⟨fuses, counter, rest⟩ := h
  exact ⟨fuses, counter.trans hn, rest⟩

theorem execBundleConfirm_lasting (h : Lasting v s) : LastingOut v (execBundleConfirm s) := by
  refine .next (.onTimer (fun u g => ?_) h)
  extract_lets svn n sec w x
  have raised : Lasting v w := g.raiseCounter (le_max_left _ _)
  have noted : Lasting v x := .frame (State.set_fr _ _ _ rfl (State.set_fr _ _ _ rfl (Fr.refl _ _))) raised
  clear_value x
  exact .ite (.frame (State.set_fr _ _ _ rfl (Fr.refl _ _)) noted) noted

theorem execLifecycleTransition_lasting (h : Lasting v s) : LastingOut v (execLifecycleTransition s) := by
  refine .next (.onTimer (fun u g => ?_) h)
  split
  · exact g.blowLifecycle.restart
  · exact g

theorem execDebugHalt_lasting (c : CoreId) (h : Lasting v s) : LastingOut v (execDebugHalt c s) := by
  refine .next (.when (fun g => ?_) h)
  cases c with
  | press =>
    have muted : Lasting v s.hardMute.paOff := .frame (State.paOff_fr _ rfl (State.hardMute_fr _ rfl (Fr.refl _ _))) g
    dsimp only
    generalize s.hardMute.paOff = u at muted ⊢
    exact .frame (State.disarm_fr _ _ rfl (Fr.refl _ _)) muted
  | vintner => exact .frame (State.disarm_fr _ _ rfl (Fr.refl _ _)) g
  | cork => exact .frame (State.disarm_fr _ _ rfl (Fr.refl _ _)) g

theorem execDebugResume_lasting (c : CoreId) (h : Lasting v s) : LastingOut v (execDebugResume c s) :=
  .next (.when (fun g => .frame (State.arm_fr _ _ _ rfl (Fr.refl _ _)) g) h)

theorem execIdcode_lasting (h : Lasting v s) : LastingOut v (execIdcode s) := .next (.when (fun g => g) h)

theorem execBypass_lasting (tdi : Bool) (h : Lasting v s) : LastingOut v (execBypass tdi s) := .next (.when (fun g => g) h)

theorem execSamplePreload_lasting (h : Lasting v s) : LastingOut v (execSamplePreload s) :=
  .next (.when (fun g => .ite g g) h)

theorem execExtest_lasting (cells : BitVec 64) (h : Lasting v s) : LastingOut v (execExtest cells s) :=
  .next (.when (fun g => .ite g g) h)

theorem execHandshakeTimeout_lasting (slot : Fin 8) (h : Lasting v s) : LastingOut v (execHandshakeTimeout slot s) := by
  refine .next (.onTimer (fun u g => ?_) h)
  split
  · exact g.dropHalf.handshakeFailed
  · exact g

theorem execSessionIdleTimeout_lasting (slot : Fin 8) (h : Lasting v s) : LastingOut v (execSessionIdleTimeout slot s) :=
  .next (.onTimer (fun _ g => g.endSession) h)

theorem execSessionLifetimeExpiry_lasting (slot : Fin 8) (h : Lasting v s) :
    LastingOut v (execSessionLifetimeExpiry slot s) := .next (.onTimer (fun _ g => g.endSession) h)

theorem execDebugTimeout_lasting (h : Lasting v s) : LastingOut v (execDebugTimeout s) :=
  .next (.onTimer (fun _ g => g.endDebug) h)

theorem execEntropyFail_lasting (h : Lasting v s) : LastingOut v (execEntropyFail s) :=
  .next (.when (fun g => .frame (State.arm_fr _ _ _ rfl (State.faultRow_fr _ _ _ _ _ _ _ _ rfl (Fr.refl _ _))) g) h)

theorem execEntropyRetest_lasting (pass : Bool) (h : Lasting v s) : LastingOut v (execEntropyRetest pass s) :=
  .next (.onTimer (fun _ g => .ite (.frame (State.signLate_fr _ rfl (Fr.refl _ _)) g)
      (.frame (State.arm_fr _ _ _ rfl (Fr.refl _ _)) g)) h)

end

/-! ### Commands of the sequencer, the ports and the dictionary -/

section

variable {v s : State}

theorem execFeEntryDone_lasting (received : BitVec 32) (h : Lasting v s) : LastingOut v (execFeEntryDone received s) := by
  refine .next ?_
  split
  · exact .ite h.entryWait.playEntry h
  · exact h

theorem execLockPoll_lasting (d : Dir) (level : Bool) (h : Lasting v s) : LastingOut v (execLockPoll d level s) :=
  .next (.when (fun g => g.lockSeen) h)

theorem execLockTimeout_lasting (d : Dir) (h : Lasting v s) : LastingOut v (execLockTimeout d s) := by
  refine .next (.onTimer (fun u g => ?_) h)
  split
  · exact .ite g (.ite g.lockSeen g.seqFailed)
  · exact g

theorem execObvarFrameReceive_lasting (p : Port) (f : CanFrame) (h : Lasting v s) :
    LastingOut v (execObvarFrameReceive p f s) := .next h.receiveFrame

theorem execFrameTransmit_lasting (p : Port) (h : Lasting v s) : LastingOut v (execFrameTransmit p s) :=
  .next (.when (fun g => .frame (State.afterSend_fr _ _ rfl (Fr.refl _ _)) g.transmit) h)

theorem execHeartbeatReceive_lasting (p : Port) (src : BitVec 9) (h : Lasting v s) :
    LastingOut v (execHeartbeatReceive p src s) := .next (.receiveAll (.frame (State.draw_fr _ rfl (Fr.refl _ _)) h))

theorem execTimeSet_lasting (r : ReqCtx) (broadcast : Bool) (utc : BitVec 64) (micros : BitVec 32) (source : Byte)
    (h : Lasting v s) : LastingOut v (execTimeSet r broadcast utc micros source s) := .next (.ite h.receiveAll h.arrive)

theorem execLocateQuery_lasting (p : Port) (q : LocateQ) (h : Lasting v s) : LastingOut v (execLocateQuery p q s) :=
  .next h.receiveAll

theorem execBusOff_lasting (p : Port) (h : Lasting v s) : LastingOut v (execBusOff p s) := by
  refine .next (.when (fun g => ?_) h)
  extract_lets n e again factor u w x eng y z
  have told : Lasting v w := .frame (State.faultRow_fr _ _ _ _ _ _ _ _ rfl (State.setTec_fr _ _ _ rfl (Fr.refl _ _))) g
  clear_value w
  have shown : Lasting v x := .frame (State.set_fr _ _ _ rfl (State.bump_fr _ _ _ rfl (Fr.refl _ _))) told
  clear_value x
  have waits : Lasting v z := .frame (State.arm_fr _ _ _ rfl (State.disarm_fr _ _ rfl
      (State.disarm_fr _ _ rfl (State.setPortEng_fr _ _ _ rfl (Fr.refl _ _))))) shown
  exact waits.flushPort

theorem execStuckDominant_lasting (p : Port) (h : Lasting v s) : LastingOut v (execStuckDominant p s) := by
  refine .next (.when (fun g => ?_) h)
  extract_lets n u w
  have told : Lasting v u := .frame (State.faultRow_fr _ _ _ _ _ _ _ _ rfl (Fr.refl _ _)) g
  clear_value u
  have off : Lasting v w := .frame (State.disarm_fr _ _ rfl (State.disarm_fr _ _ rfl
      (State.setStb_fr _ _ _ rfl (State.set_fr _ _ _ rfl (Fr.refl _ _))))) told
  exact .flushPort (.frame (State.arm_fr _ _ _ rfl (Fr.refl _ _)) off)

theorem execReassemblyTimeout_lasting (p : Port) (src : BitVec 9) (h : Lasting v s) :
    LastingOut v (execReassemblyTimeout p src s) := by
  refine .next (.onTimer (fun u g => ?_) h)
  split
  · exact .groupAbort (.frame (State.flag_fr _ _ _ rfl (Fr.refl _ _)) g.dropGroup)
  · exact g

theorem execTxLifetimeExpiry_lasting (p : Port) (queue : Byte) (h : Lasting v s) :
    LastingOut v (execTxLifetimeExpiry p queue s) := .next (.onTimer (fun _ g => .frame
        (State.settleJoin_fr _ _ rfl (Fr.refl _ _)) g.txTimeout) h)

theorem execRestrictedLong_lasting (h : Lasting v s) : LastingOut v (execRestrictedLong s) :=
  .next (.onTimer (fun _ g => .flushPort (.flushPort (.frame (State.flag_fr _ _ _ rfl (Fr.refl _ _)) g))) h)

theorem execConfigWriteDone_lasting (verified : Bool) (h : Lasting v s) : LastingOut v (execConfigWriteDone verified s) :=
  .next h.configWritten.serveWaiting

theorem execCommitDefer_lasting (h : Lasting v s) : LastingOut v (execCommitDefer s) := by
  refine .next (.onTimer (fun u g => ?_) h)
  split
  · exact .ite g (.endSpent (.abort (g.withEng _)))
  · exact g

theorem execImageSegmentDone_lasting (h : Lasting v s) : LastingOut v (execImageSegmentDone s) :=
  .next (.when (fun g => .serveHeld (.frame (State.take_fr _ _ rfl (Fr.refl _ _)) g.programSegment)) h)

theorem execMailboxGo_lasting (length : BitVec 11) (h : Lasting v s) : LastingOut v (execMailboxGo length s) :=
  .next (.when (fun g => g.go) h)

theorem execMailboxReply_lasting (h : Lasting v s) : LastingOut v (execMailboxReply s) := .next
    (.when (fun g => g.placeReply) h)

theorem execMailboxAck_lasting (h : Lasting v s) : LastingOut v (execMailboxAck s) :=
  .next (.when (fun g => g.ackReply.serveHeld) h)

theorem execHostWrite_lasting (addr : BitVec 16) (data : Bytes) (h : Lasting v s) : LastingOut v
    (execHostWrite addr data s) := by
  refine .next (.when (fun g => ?_) h)
  extract_lets t
  have shifted : Lasting v t := .frame (State.shiftOut_fr _ _ _ rfl (Fr.refl _ _)) g
  clear_value t
  exact .ite shifted.writeWindow.serveHeld shifted

theorem execRcvCommit_lasting (offset : BitVec 21) (h : Lasting v s) : LastingOut v (execRcvCommit offset s) :=
  .next (.when (fun g => g.writeRcvCtrl) h)

theorem execRcvVerify_lasting (offset : BitVec 21) (h : Lasting v s) : LastingOut v (execRcvVerify offset s) :=
  .next (.when (fun g => g.writeRcvCtrl) h)

theorem execLoopFrame_lasting (d : Dir) (meas : List PathMeas) (h : Lasting v s) : LastingOut v (execLoopFrame d meas s) :=
  .next (.when (fun g => g.loopFrame.serveWaiting) h)

theorem execProbeEnd_lasting (path : Fin 16) (own partner : PathMeas) (h : Lasting v s) :
    LastingOut v (execProbeEnd path own partner s) := .next (.onTimer (fun _ g => .when (fun k => k.probeEnd) g) h)

theorem execRecheckTimeout_lasting (d : Dir) (h : Lasting v s) : LastingOut v (execRecheckTimeout d s) := by
  refine .next (.onTimer (fun u g => ?_) h)
  extract_lets w
  have held : Lasting v w := .frame (State.faultRow_fr _ _ _ _ _ _ _ _ rfl
      (State.setHeld_fr _ _ _ rfl (State.raiseDir_fr _ _ _ rfl (Fr.refl _ _)))) g
  exact held.settleGains

theorem execNoiseHoldExpiry_lasting (path : Fin 16) (h : Lasting v s) : LastingOut v (execNoiseHoldExpiry path s) :=
  .next (.onTimer (fun _ g => .ite g.netTrigger g) h)

theorem execLockoutExpiry_lasting (h : Lasting v s) : LastingOut v (execLockoutExpiry s) :=
  .next (.onTimer (fun _ g => g.endTimedLockout) h)

theorem execOscBlockEnd_lasting (path : Fin 16) (rho envelope : BitVec 16) (h : Lasting v s) :
    LastingOut v (execOscBlockEnd path rho envelope s) := by
  refine .next (.when (fun g => ?_) h)
  extract_lets u high n run w again
  have shown : Lasting v u := .frame (State.set_fr _ _ _ rfl (Fr.refl _ _)) g
  clear_value u
  have counted : Lasting v w := .frame (State.setPath_fr _ _ _ rfl (Fr.refl _ _)) shown
  clear_value w
  exact .ite (.netTrigger (.frame (State.fabEvent_fr _ _ _ rfl (State.setPath_fr _ _ _ rfl (Fr.refl _ _))) counted)) counted

theorem execDeferTimeout_lasting (src : BitVec 16) (tid : Byte) (h : Lasting v s) :
    LastingOut v (execDeferTimeout src tid s) := by
  refine .next (.onTimer (fun u g => ?_) h)
  split
  · exact g.deferHeld
  · split
    · exact g.deferSegment
    · exact g

theorem execDeferLimitExpiry_lasting (src : BitVec 16) (tid : Byte) (h : Lasting v s) :
    LastingOut v (execDeferLimitExpiry src tid s) := by
  refine .next (.onTimer (fun u g => ?_) h)
  split
  · exact g
  · extract_lets w eng x y z
    have taken : Lasting v w := .frame (State.unqueue_fr _ _ rfl (Fr.refl _ _)) g
    have gone : Lasting v x := taken.withEng eng
    clear_value x
    have refused : Lasting v z := .frame (State.faultRow_fr _ _ _ _ _ _ _ _ rfl
        (State.noteRefusal_fr _ _ _ _ rfl (State.countDrop_fr _ _ rfl (State.bump_fr _ _ _ rfl (Fr.refl _ _))))) gone
    exact refused.abort.serveHeld

theorem execQueueTake_lasting (queue : Byte) (h : Lasting v s) : LastingOut v (execQueueTake queue s) := by
  refine .next (.when (fun g => ?_) h)
  extract_lets p t
  have consumed : Lasting v t := .handle (fun _ k => k.consume) (.frame (State.noteServed_fr _ _ _ rfl (Fr.refl _ _)) g)
  clear_value t
  refine .ite (.ite g.transmit g) (.ite (.ite g.placeReply g) (.ite (.ite g (.serveHeld ?_)) g))
  exact .frame (State.noteSummary_fr _ rfl (Fr.refl _ _)) consumed

theorem execCreditAudit_lasting (queue : Byte) (found : Nat) (h : Lasting v s) : LastingOut v
    (execCreditAudit queue found s) :=
  .next (.when (fun g => .serveHeld (.frame (State.placeWaiting_fr _ _ rfl
      (State.faultRow_fr _ _ _ _ _ _ _ _ rfl (State.discardQueue_fr _ _ rfl (Fr.refl _ _)))) g)) h)

end

end Sys2Proof.Machine

namespace Sys2Proof.Machine

open Sys2Proof

/-! ### The step -/

section

variable {v s t : State}

theorem Lasting.withPending (h : Lasting v s) (x : List Instr) : Lasting v { s with pending := x } := h

/-- No command takes back what may only rise. -/
theorem exec_lasting (i : Instr) (h : Lasting v s) : LastingOut v (exec i s) := by
  cases i
  case requestDormant | requestStandby | requestActive | requestService | requestRestart | revokeSlot0 |
    lifecycleConfirm | lifecycleRequest | debugRequest | stickyClear | stickyClearAll | restoreDefaults | updateBegin |
    updateVerify | updateActivate | updateAbort | clearHighWater | syncNow | runInit | commandedShutdown |
    clearLockout | sealClear | clearLatch | marginHigh | marginLow | marginNominal | tiuArm | tiuCancel |
    lidRebaseline | caskClear | handover =>
    exact .next h.requestWrite
  case roleKeyWrite | sessionOpen | sessionConfirm | debugToken | debugChallengeRead | read | write | stagedWrite |
    commit | discard | updateData | blockRead | blockWrite | assign | getStatus | setRoutes | setForwarding | ping =>
    exact .next h.arrive
  case vddAonRise => exact .of_frame (execVddAonRise_fr _ rfl (Fr.refl _ _)) h
  case vddioALevelSelect => exact .of_frame (execVddioALevelSelect_fr _ _ rfl (Fr.refl _ _)) h
  case hostCellSupplySwitch => exact .of_frame (execHostCellSupplySwitch_fr _ _ rfl (Fr.refl _ _)) h
  case powerOnAutostart => exact .of_frame (execPowerOnAutostart_fr _ rfl (Fr.refl _ _)) h
  case fieldPortWake => exact .of_frame (execFieldPortWake_fr _ _ rfl (Fr.refl _ _)) h
  case refInFirstPresent => exact .of_frame (execRefInFirstPresent_fr _ rfl (Fr.refl _ _)) h
  case refInReturn => exact .of_frame (execRefInReturn_fr _ rfl (Fr.refl _ _)) h
  case samplePllRelock => exact .of_frame (execSamplePllRelock_fr _ rfl (Fr.refl _ _)) h
  case lockDeclared => exact .of_frame (execLockDeclared_fr _ _ _ rfl (Fr.refl _ _)) h
  case droopStretch => exact .of_frame (execDroopStretch_fr _ rfl (Fr.refl _ _)) h
  case stretchRelease => exact .of_frame (execStretchRelease_fr _ rfl (Fr.refl _ _)) h
  case agingTrim => exact .of_frame (execAgingTrim_fr _ _ rfl (Fr.refl _ _)) h
  case lockstepMismatch => exact .of_frame (execLockstepMismatch_fr _ _ _ rfl (Fr.refl _ _)) h
  case configBootLoad => exact .of_frame (execConfigBootLoad_fr _ _ _ rfl (Fr.refl _ _)) h
  case errorPassive => exact .of_frame (execErrorPassive_fr _ _ rfl (Fr.refl _ _)) h
  case hostRead => exact .of_frame (execHostRead_fr _ _ _ rfl (Fr.refl _ _)) h
  case badCommand => exact .of_frame (execBadCommand_fr _ _ rfl (Fr.refl _ _)) h
  case forensicRead => exact .of_frame (execForensicRead_fr _ _ _ rfl (Fr.refl _ _)) h
  case wake => exact .of_frame (execWake_fr _ _ rfl (Fr.refl _ _)) h
  case hpIrqStatusClear => exact .of_frame (execHpIrqStatusClear_fr _ _ rfl (Fr.refl _ _)) h
  case hpStickyClear => exact .of_frame (execHpStickyClear_fr _ _ rfl (Fr.refl _ _)) h
  case loReadLatch => exact .of_frame (execLoReadLatch_fr _ _ rfl (Fr.refl _ _)) h
  case hiRead => exact .of_frame (execHiRead_fr _ _ rfl (Fr.refl _ _)) h
  case queuePost => exact .of_frame (execQueuePost_fr _ _ _ _ rfl (Fr.refl _ _)) h
  case adcCalibrationDone => exact .of_frame (execAdcCalibrationDone_fr _ _ _ _ rfl (Fr.refl _ _)) h
  case tasteBlockEnd => exact .of_frame (execTasteBlockEnd_fr _ _ _ _ rfl (Fr.refl _ _)) h
  case adcOverrange => exact .of_frame (execAdcOverrange_fr _ _ rfl (Fr.refl _ _)) h
  case elementSaturation => exact .of_frame (execElementSaturation_fr _ _ _ _ rfl (Fr.refl _ _)) h
  case dacClip => exact .of_frame (execDacClip_fr _ _ rfl (Fr.refl _ _)) h
  case syncEdge => exact .of_frame (execSyncEdge_fr _ rfl (Fr.refl _ _)) h
  case envelopeHigh => exact .of_frame (execEnvelopeHigh_fr _ _ _ rfl (Fr.refl _ _)) h
  case envelopeLow => exact .of_frame (execEnvelopeLow_fr _ _ _ rfl (Fr.refl _ _)) h
  case fabricPost => exact .of_frame (execFabricPost_fr _ _ rfl (Fr.refl _ _)) h
  case leDetect => exact .of_frame (execLeDetect_fr _ _ _ rfl (Fr.refl _ _)) h
  case leRelease => exact .of_frame (execLeRelease_fr _ rfl (Fr.refl _ _)) h
  case pmbusPoll => exact .of_frame (execPmbusPoll_fr _ _ _ rfl (Fr.refl _ _)) h
  case pmbAlert => exact .of_frame (execPmbAlert_fr _ rfl (Fr.refl _ _)) h
  case laneStart => exact .of_frame (execLaneStart_fr _ _ rfl (Fr.refl _ _)) h
  case dieTripClear => exact .of_frame (execDieTripClear_fr _ rfl (Fr.refl _ _)) h
  case sealNLow => exact .of_frame (execSealNLow_fr _ rfl (Fr.refl _ _)) h
  case hkaStart => exact .of_frame (execHkaStart_fr _ rfl (Fr.refl _ _)) h
  case tiuStartEdge => exact .of_frame (execTiuStartEdge_fr _ _ rfl (Fr.refl _ _)) h
  case tiuStopEdge => exact .of_frame (execTiuStopEdge_fr _ _ _ rfl (Fr.refl _ _)) h
  case tdrComparatorEnable => exact .of_frame (execTdrComparatorEnable_fr _ _ rfl (Fr.refl _ _)) h
  case tdrReflection => exact .of_frame (execTdrReflection_fr _ _ rfl (Fr.refl _ _)) h
  case tdrBurstEnd => exact .of_frame (execTdrBurstEnd_fr _ rfl (Fr.refl _ _)) h
  case ovenOkHigh => exact .of_frame (execOvenOkHigh_fr _ rfl (Fr.refl _ _)) h
  case ovenOkLow => exact .of_frame (execOvenOkLow_fr _ rfl (Fr.refl _ _)) h
  case lidRetakeDone => exact .of_frame (execLidRetakeDone_fr _ rfl (Fr.refl _ _)) h
  case lidStartCheck => exact .of_frame (execLidStartCheck_fr _ rfl (Fr.refl _ _)) h
  case lidFault => exact .of_frame (execLidFault_fr _ rfl (Fr.refl _ _)) h
  case caskRecordCommit => exact .of_frame (execCaskRecordCommit_fr _ _ _ rfl (Fr.refl _ _)) h
  case caskStartScan => exact .of_frame (execCaskStartScan_fr _ rfl (Fr.refl _ _)) h
  case helloReceive => exact .of_frame (execHelloReceive_fr _ _ _ _ _ _ _ rfl (Fr.refl _ _)) h
  case jensiacBadFrame => exact .of_frame (execJensiacBadFrame_fr _ _ rfl (Fr.refl _ _)) h
  case imageChunkReceive => exact .of_frame (execImageChunkReceive_fr _ _ _ _ _ rfl (Fr.refl _ _)) h
  case imageEndReceive => exact .of_frame (execImageEndReceive_fr _ _ _ _ rfl (Fr.refl _ _)) h
  case handoverRequestReceive => exact .of_frame (execHandoverRequestReceive_fr _ _ _ rfl (Fr.refl _ _)) h
  case busIntegration => exact .of_frame (execBusIntegration_fr _ _ rfl (Fr.refl _ _)) h
  case samplePllLock => exact .of_frame (execSamplePllLock_fr _ rfl (Fr.refl _ _)) h
  case linkCharactersAppear => exact .of_frame (execLinkCharactersAppear_fr _ rfl (Fr.refl _ _)) h
  case brownOut => exact execBrownOut_lasting h
  case rstNLow => exact execRstNLow_lasting h
  case holdupRestartDelayExpiry => exact execHoldupRestartDelayExpiry_lasting h
  case restartDelayExpiry => exact execRestartDelayExpiry_lasting h
  case wakeTimerExpiry => exact execWakeTimerExpiry_lasting h
  case serviceTimeout => exact execServiceTimeout_lasting h
  case feedCollapseReport => exact execFeedCollapseReport_lasting h
  case holdupComplete => exact execHoldupComplete_lasting h
  case refInLoss => exact execRefInLoss_lasting h
  case linkHoldoverExpiry => exact execLinkHoldoverExpiry_lasting h
  case samplePllUnlock => exact execSamplePllUnlock_lasting _ h
  case clockMuxToPll => exact execClockMuxToPll_lasting h
  case relockTimeout => exact execRelockTimeout_lasting _ h
  case relockRetry => exact execRelockRetry_lasting h
  case stretchLong => exact execStretchLong_lasting _ h
  case pressWatchdogExpiry => exact execPressWatchdogExpiry_lasting h
  case coreWatchdogExpiry => exact execCoreWatchdogExpiry_lasting _ h
  case lockstepRecovery => exact execLockstepRecovery_lasting h
  case secureBoot => exact execSecureBoot_lasting _ _ h
  case bundleConfirm => exact execBundleConfirm_lasting h
  case lifecycleTransition => exact execLifecycleTransition_lasting h
  case handshakeTimeout => exact execHandshakeTimeout_lasting _ h
  case roleLockoutExpiry => exact execRoleLockoutExpiry_lasting _ h
  case sessionIdleTimeout => exact execSessionIdleTimeout_lasting _ h
  case sessionLifetimeExpiry => exact execSessionLifetimeExpiry_lasting _ h
  case debugTimeout => exact execDebugTimeout_lasting h
  case idcode => exact execIdcode_lasting h
  case bypass => exact execBypass_lasting _ h
  case samplePreload => exact execSamplePreload_lasting h
  case extest => exact execExtest_lasting _ h
  case entropyFail => exact execEntropyFail_lasting h
  case entropyRetest => exact execEntropyRetest_lasting _ h
  case receiptSigned => exact execReceiptSigned_lasting _ h
  case stageTimeout => exact execStageTimeout_lasting _ h
  case configWriteDone => exact execConfigWriteDone_lasting _ h
  case commitDefer => exact execCommitDefer_lasting h
  case counterWriteback => exact execCounterWriteback_lasting h
  case imageSegmentDone => exact execImageSegmentDone_lasting h
  case updateVerifyDone => exact execUpdateVerifyDone_lasting _ h
  case blockTimeout => exact execBlockTimeout_lasting _ _ h
  case obvarFrameReceive => exact execObvarFrameReceive_lasting _ _ h
  case reassemblyTimeout => exact execReassemblyTimeout_lasting _ _ h
  case frameTransmit => exact execFrameTransmit_lasting _ h
  case txLifetimeExpiry => exact execTxLifetimeExpiry_lasting _ _ h
  case heartbeat => exact execHeartbeat_lasting _ h
  case heartbeatReceive => exact execHeartbeatReceive_lasting _ _ h
  case nodeOffline => exact execNodeOffline_lasting _ h
  case timeSet => exact execTimeSet_lasting _ _ _ _ _ h
  case locateQuery => exact execLocateQuery_lasting _ _ h
  case locateReply => exact execLocateReply_lasting _ h
  case busOff => exact execBusOff_lasting _ h
  case busOffHoldoffExpiry => exact execBusOffHoldoffExpiry_lasting _ h
  case busOffWaitReset => exact execBusOffWaitReset_lasting _ h
  case stuckDominant => exact execStuckDominant_lasting _ h
  case restrictedLong => exact execRestrictedLong_lasting h
  case hostWrite => exact execHostWrite_lasting _ _ h
  case mailboxGo => exact execMailboxGo_lasting _ h
  case mailboxReply => exact execMailboxReply_lasting h
  case mailboxAck => exact execMailboxAck_lasting h
  case rcvCommit => exact execRcvCommit_lasting _ h
  case rcvVerify => exact execRcvVerify_lasting _ h
  case queueTake => exact execQueueTake_lasting _ h
  case deferTimeout => exact execDeferTimeout_lasting _ _ h
  case deferLimitExpiry => exact execDeferLimitExpiry_lasting _ _ h
  case refusalExpiry => exact execRefusalExpiry_lasting _ h
  case creditAudit => exact execCreditAudit_lasting _ _ h
  case escapeHeld => exact execEscapeHeld_lasting _ h
  case dcFreezeEnd => exact execDcFreezeEnd_lasting _ h
  case settleEnd => exact execSettleEnd_lasting _ h
  case detectorWindowEnd => exact execDetectorWindowEnd_lasting _ _ _ _ h
  case feEntryDone => exact execFeEntryDone_lasting _ h
  case lockPoll => exact execLockPoll_lasting _ _ h
  case lockTimeout => exact execLockTimeout_lasting _ h
  case feSequenceReplay => exact execFeSequenceReplay_lasting h
  case leMaxHold => exact execLeMaxHold_lasting h
  case leGuardEnd => exact execLeGuardEnd_lasting h
  case leBarEnd => exact execLeBarEnd_lasting _ h
  case loopFrame => exact execLoopFrame_lasting _ _ h
  case probeEnd => exact execProbeEnd_lasting _ _ _ h
  case probeRetry => exact execProbeRetry_lasting _ h
  case recheckTimeout => exact execRecheckTimeout_lasting _ h
  case oscBlockEnd => exact execOscBlockEnd_lasting _ _ _ h
  case noiseHoldExpiry => exact execNoiseHoldExpiry_lasting _ h
  case lockoutExpiry => exact execLockoutExpiry_lasting h
  case pmbusTransactionDone => exact execPmbusTransactionDone_lasting _ _ _ h
  case laneRegulatorTimeout => exact execLaneRegulatorTimeout_lasting _ h
  case laneReady => exact execLaneReady_lasting _ h
  case laneStop => exact execLaneStop_lasting _ h
  case regulatorRestart => exact execRegulatorRestart_lasting _ h
  case pmbFaultStop => exact execPmbFaultStop_lasting _ h
  case paOverrun => exact execPaOverrun_lasting h
  case hintPhase => exact execHintPhase_lasting _ h
  case hkbStart => exact execHkbStart_lasting h
  case hkbResult => exact execHkbResult_lasting _ _ h
  case droopClear => exact execDroopClear_lasting h
  case feedStale => exact execFeedStale_lasting h
  case laneThermalRestart => exact execLaneThermalRestart_lasting _ h
  case dieTrip => exact execDieTrip_lasting h
  case sealLanesSealed => exact execSealLanesSealed_lasting h
  case sealClearTimer => exact execSealClearTimer_lasting h
  case hkaReading => exact execHkaReading_lasting _ _ h
  case railEnable => exact execRailEnable_lasting _ h
  case pgChange => exact execPgChange_lasting _ _ h
  case coresReady => exact execCoresReady_lasting _ h
  case warnLeadExpiry => exact execWarnLeadExpiry_lasting h
  case holdupLeadExpiry => exact execHoldupLeadExpiry_lasting h
  case holdupStepExpiry => exact execHoldupStepExpiry_lasting _ h
  case railOff => exact execRailOff_lasting _ h
  case railOffTimeExpiry => exact execRailOffTimeExpiry_lasting _ h
  case retryBackoffExpiry => exact execRetryBackoffExpiry_lasting h
  case attemptReset => exact execAttemptReset_lasting h
  case marginDacStep => exact execMarginDacStep_lasting _ h
  case tiuTimeout => exact execTiuTimeout_lasting h
  case tiuOverflow => exact execTiuOverflow_lasting h
  case tdrBurstStart => exact execTdrBurstStart_lasting h
  case tdrLaunch => exact execTdrLaunch_lasting h
  case tdrStopWindowEnd => exact execTdrStopWindowEnd_lasting h
  case waterlineStale => exact execWaterlineStale_lasting h
  case warmTimerExpiry => exact execWarmTimerExpiry_lasting h
  case lidSample => exact execLidSample_lasting _ h
  case lidCover => exact execLidCover_lasting h
  case lidTrack => exact execLidTrack_lasting h
  case lidBaselineStore => exact execLidBaselineStore_lasting h
  case lidFaultResume => exact execLidFaultResume_lasting h
  case floodTokenRefill => exact execFloodTokenRefill_lasting _ h
  case vintageProgramDone => exact execVintageProgramDone_lasting _ h
  case twinSelChange => exact execTwinSelChange_lasting _ h
  case hello => exact execHello_lasting h
  case confirmReceive => exact execConfirmReceive_lasting _ _ h
  case twinHeartbeat => exact execTwinHeartbeat_lasting h
  case twinHeartbeatReceive => exact execTwinHeartbeatReceive_lasting _ _ h
  case twinLinkDown => exact execTwinLinkDown_lasting h
  case departingReceive => exact execDepartingReceive_lasting _ _ _ h
  case rackCapture => exact execRackCapture_lasting h
  case startWaitExpiry => exact execStartWaitExpiry_lasting h
  case claimIntervalExpiry => exact execClaimIntervalExpiry_lasting h
  case relayTimeExpiry => exact execRelayTimeExpiry_lasting h
  case handoverAcceptReceive => exact execHandoverAcceptReceive_lasting _ _ h
  case handoverTimeout => exact execHandoverTimeout_lasting h
  case authFailRestart => exact execAuthFailRestart_lasting h
  case relayLostDemotion => exact execRelayLostDemotion_lasting h
  case stuckDominantRejoin => exact execStuckDominantRejoin_lasting _ h
  case debugHalt => exact execDebugHalt_lasting _ h
  case debugResume => exact execDebugResume_lasting _ h
  case caskClearDone => exact execCaskClearDone_lasting h

theorem step_lasting (e : step s = .next t) : Lasting s t := by
  unfold step at e
  split at e
  · exact (Lasting.refl s).tick.next t e
  next c rest _ => exact exec_lasting c ((Lasting.refl s).withPending rest) t e

end

/-- Settles O4: every function of the model keeps what may only rise, and so does every command and the tick. -/
theorem fusesOnlyRise : Obligations.FusesOnlyRise := by
  unfold Obligations.FusesOnlyRise
  exact fun _ _ e => step_lasting e

end Sys2Proof.Machine

namespace Sys2Proof.Machine

open Sys2Proof

/-! ## The commit engine's timers (R167, R172) -/

theorem stageTimeout_discards {s : State} {who : StageId} {d : Nat} (due : s.deadline (.stage who) = some d) :
    exec (.stageTimeout who) s = .next ((Claims.expired s (.stage who) d).setStage who []) := by
  show Host.Outcome.next (s.onTimer (.stage who) _) = _
  rw [State.onTimer_of_deadline _ due]

theorem commitDefer_answers {s : State} {r : CommitRun} {d : Nat} (due : s.deadline .commitDefer = some d)
    (hand : s.eng.commit = some r) (owed : r.answered = false) (form : r.form ≠ .none) :
    exec .commitDefer s = .next (({ Claims.expired s .commitDefer d with
      eng.commit := some { r with answered := true } }).abort r.caller r.form.request (0x0A, 0)).endSpent := by
  have still : (Claims.expired s .commitDefer d).eng.commit = some r := by
    rw [(expired_fr s .commitDefer d).eng rfl, hand]
  show Host.Outcome.next (s.onTimer .commitDefer _) = _
  rw [State.onTimer_of_deadline _ due]
  simp only [still, owed, beq_false_of_ne form, Bool.or_self, Bool.false_eq_true, if_false]

/-! ## The image writer (R188, R228, R296) -/

theorem imageSegmentDone_programs {s : State} {m : QMsg} (head : s.headOf 0x08 = some m) :
    exec .imageSegmentDone s = .next (((s.programSegment).take 0x08).serveHeld) := by
  show Host.Outcome.next (s.when (s.headOf 0x08).isSome _) = _
  rw [head, Option.isSome_some, State.when_true]

/-! ## The target bank checked (R102, R103, R188) -/

/-- What a bundle's verification reads is unchanged while the Cork reads it. -/
theorem State.bootView_elapse (s : State) (n : Nat) : (s.elapse n).bootView = s.bootView := by
  have frame := State.elapse_fr s n (F := 5) rfl (Fr.refl 5 s)
  simp only [State.bootView, frame.boot rfl, frame.power rfl, frame.mems_bankA rfl, frame.mems_bankB rfl, frame.sec rfl,
    s.get_elapse n Obj.bootSelectedBank (by decide) (by decide) (by decide)]

theorem State.targetFault_elapse (s : State) (n : Nat) :
    (s.elapse n).bundleFault ((s.elapse n).bankFacts (s.elapse n).targetBank) =
      s.bundleFault (s.bankFacts s.targetBank) := by
  have view := s.bootView_elapse n
  have target : (s.elapse n).targetBank = s.targetBank := congrArg (fun v => 1 - v.boot.running) view
  rw [State.bundleFault_congr view, State.bankFacts_congr view, target]

theorem State.updateVerified_passed {s : State} (passed : s.bundleFault (s.bankFacts s.targetBank) = none) :
    s.updateVerified = (s.set Obj.updateFailedCheck 0).set Obj.updateState 3 := by
  unfold State.updateVerified
  split
  · rfl
  · next f failed => exact absurd (failed.symm.trans passed) (Option.some_ne_none f)

theorem State.updateVerified_failed {s : State} {f : Nat × Nat}
    (failed : s.bundleFault (s.bankFacts s.targetBank) = some f) :
    s.updateVerified =
      ((s.set Obj.updateFailedCheck f.2).set Obj.updateState 4).faultRow Obj.updateSticky 0 .cork 0x0908 1 31 [] := by
  unfold State.updateVerified
  split
  · next passed => exact absurd (failed.symm.trans passed) (Option.some_ne_none f)
  · next g found => rw [Option.some.inj (failed.symm.trans found)]

theorem State.updateVerified_reports {s : State} {f : Nat × Nat}
    (failed : s.bundleFault (s.bankFacts s.targetBank) = some f) : s.updateVerified.get Obj.updateState = 4 ∧
      s.updateVerified.get Obj.updateFailedCheck = f.2 ∧ s.updateVerified.bit Obj.updateSticky 0 = true := by
  rw [State.updateVerified_failed failed]
  refine ⟨?_, ?_, State.bit_faultRow_self _ _ _ _ _ _ _ _ rfl⟩
  · rw [State.get_faultRow_ne _ _ _ _ _ _ _ _ _ (by decide) rfl, State.get_set_self]
  · rw [State.get_faultRow_ne _ _ _ _ _ _ _ _ _ (by decide) rfl, State.get_set_ne _ _ _ _ (by decide),
      State.get_set_self]

theorem updateVerifyDone_answer {s : State} (n : BitVec 32) (runs : s.running = true)
    (verifying : s.get Obj.updateState = 2) :
    exec (.updateVerifyDone n) s = .next (s.elapse n.toNat).updateVerified := by
  show Host.Outcome.next (s.when (s.running && s.get Obj.updateState == 2) _) = _
  rw [runs, verifying, beq_self_eq_true, Bool.and_self, State.when_true]

/-! ## Block transfers given up (R226, R228, Table 6-10) -/

/-- The transfers of a list, those of one peer without their data. -/
def emptied (peer : Nat) (l : List BlockRun) : List BlockRun :=
  l.map (fun x => if x.peer = peer then { x with total := 0, data := [] } else x)

theorem emptied_of_peer {peer : Nat} {l : List BlockRun} :
    ∀ x ∈ emptied peer l, x.peer = peer → x.total = 0 ∧ x.data = [] := by
  intro x hx own
  obtain ⟨y, -, rfl⟩ := List.mem_map.mp hx
  split at own
  · next e => simp [e]
  · next other => exact absurd own other

theorem blockTimeout_dropsWrites {s : State} {src : BitVec 16} {d : Nat}
    (due : s.deadline (.block src.toNat true) = some d) : exec (.blockTimeout src true) s =
      .next { Claims.expired s (.block src.toNat true) d with blockWrites := emptied src.toNat s.blockWrites } := by
  show Host.Outcome.next (s.onTimer (.block src.toNat true) _) = _
  rw [State.onTimer_of_deadline _ due, ← (expired_fr s (.block src.toNat true) d).blockWrites rfl]
  rfl

theorem blockTimeout_dropsReads {s : State} {src : BitVec 16} {d : Nat}
    (due : s.deadline (.block src.toNat false) = some d) : exec (.blockTimeout src false) s =
      .next { Claims.expired s (.block src.toNat false) d with blockReads := emptied src.toNat s.blockReads } := by
  show Host.Outcome.next (s.onTimer (.block src.toNat false) _) = _
  rw [State.onTimer_of_deadline _ due, ← (expired_fr s (.block src.toNat false) d).blockReads rfl]
  rfl

/-- Settles O18: each event is its timer's expiry, or its condition, followed by one operation of the model. -/
theorem storeAndUpdateEvents : Obligations.StoreAndUpdateEvents := by
  unfold Obligations.StoreAndUpdateEvents
  intro s
  refine ⟨fun _ _ => stageTimeout_discards, fun _ => rfl, fun _ _ => commitDefer_answers,
    fun _ => imageSegmentDone_programs, fun n runs verifying => ?_, fun src d due => ?_, fun src d due => ?_⟩
  · have found := s.targetFault_elapse n.toNat
    refine ⟨_, updateVerifyDone_answer n runs verifying, ?_, ?_, fun passed => ?_, fun f failed => ?_⟩
    · exact (State.updateVerified_fr _ rfl (State.elapse_fr s _ rfl (Fr.refl memWork s))).mems
    · exact (State.updateVerified_fr _ rfl (State.elapse_fr s _ rfl (Fr.refl (maskBut [17]) s))).boot rfl
    · exact State.updateVerified_passed (found.trans passed)
    · exact State.updateVerified_reports (found.trans failed)
  · exact ⟨_, blockTimeout_dropsWrites due, emptied_of_peer, (expired_fr s (.block src.toNat true) d).blockReads rfl,
      expired_mems s (.block src.toNat true) d⟩
  · exact ⟨_, blockTimeout_dropsReads due, emptied_of_peer, (expired_fr s (.block src.toNat false) d).blockWrites rfl,
      expired_mems s (.block src.toNat false) d⟩

end Sys2Proof.Machine

namespace Sys2Proof.Machine

open Sys2Proof

/-! ## The instant of a boundary (R396) -/

theorem State.toBoundary_after {s : State} {d : Dir} {x : Nat} (last : s.lastFrame d = some x) :
    (s.toBoundary d).now = max s.now (x + 10000) ∧
      (s.toBoundary d).lastFrame d = some (max s.now (x + 10000)) := by
  have reached : (s.elapse (x + 10000 - s.now)).now = max s.now (x + 10000) := by
    rw [State.elapse_now]
    omega
  unfold State.toBoundary
  rw [last]
  cases d with
  | ul => exact ⟨reached, congrArg some reached⟩
  | dl => exact ⟨reached, congrArg some reached⟩

/-! ## What a path carries -/

theorem State.path_congr {s t : State} (h : t.paths = s.paths) (p : Nat) : t.path p = s.path p := by
  simp only [State.path, h]

@[simp] theorem State.path_set (s : State) (k v p : Nat) : (s.set k v).path p = s.path p := rfl

theorem State.path_setPath_self {s : State} {p : Nat} (r : PathRun) (h : p < s.paths.length) :
    (s.setPath p r).path p = r := by
  simp [State.path, State.setPath, h]

@[simp] theorem State.setPath_length (s : State) (p : Nat) (r : PathRun) :
    (s.setPath p r).paths.length = s.paths.length := by
  simp [State.setPath]

@[simp] theorem State.flagFirst_log_paths (s : State) (k b : Nat) (pr : Prod) (code sev inst : Nat) (bs : Bytes) :
    (s.flagFirst k b (fun s => s.log pr code sev inst bs)).paths = s.paths := by
  unfold State.flagFirst
  split <;> simp

/-- An event at a task input leaves it pending, and the path as it was otherwise (R345, R347). -/
theorem State.fabEvent_path {s : State} {p : Nat} (input : Nat) (h : p < s.paths.length) :
    ∃ l, (s.fabEvent p input).path p = { s.path p with inputs := l } ∧ ∃ i ∈ l, i.input = input := by
  unfold State.fabEvent
  dsimp only
  split
  · exact ⟨_, State.path_setPath_self _ h, _, List.mem_append_right _ List.mem_cons_self, rfl⟩
  · next i found =>
    have same : i.input = input := by simpa using List.find?_some found
    split
    · exact ⟨_, State.path_setPath_self _ h, _, List.mem_append_right _ List.mem_cons_self, same⟩
    · exact ⟨_, (State.path_congr (State.flagFirst_log_paths _ _ _ _ _ _ _ _) p).trans (State.path_setPath_self _ h), _,
        List.mem_append_right _ List.mem_cons_self, same⟩

/-! ## A path at its direction's boundary (R396 to R399, R431) -/

/-- The pilot limit of a counted frame: the isolation estimate less Stab.Margin. -/
def State.countedLimit (s : State) (p : Nat) (m : PathMeas) (bits : Nat) : Int :=
  let coherent := if m.coherentAboveFloor then m.coherentLoop
    else s.loopFloor p (countFrames bits (s.get Obj.stabPilotFrames))
  s.chainGain (s.dirOf p) - (coherent - s.stageGain p) - s.get (Obj.stabMargin p)

/-- Whether a path in service has had no counted frame in its coherent window. -/
def State.frameStale (s : State) (p bits : Nat) : Bool :=
  s.inService p && countFrames bits (s.get Obj.stabPilotFrames) == 0

/-- The pilot limit after a frame that did not count: lower by 0.10 dB when the estimate is stale. -/
def State.missedLimit (s : State) (p bits : Nat) : Option Int :=
  if s.frameStale p bits then (s.path p).pilotLimit.map (fun l => l - 10) else (s.path p).pilotLimit

section

variable {s : State} {p : Nat} (m : PathMeas) (bits : Nat)

theorem State.noteFrame_paths : ∃ r, (s.noteFrame p m bits).paths = s.paths.set p r ∧
    r.pilotLimit = some (s.countedLimit p m bits) := by
  have margin (v : Nat) : (s.set (Obj.stabLoop p) v).get (Obj.stabMargin p) = s.get (Obj.stabMargin p) :=
    s.get_set_ne _ _ v (by unfold Obj.stabMargin Obj.stabLoop; omega)
  unfold State.noteFrame
  dsimp only [State.setPath, State.set_paths, State.path_set]
  rw [margin]
  exact ⟨_, rfl, rfl⟩

theorem State.missFrame_paths : ∃ r, (s.missFrame p m bits).paths = s.paths.set p r ∧
    r.pilotLimit = s.missedLimit p bits := by
  have flagged (u : State) (c : Prop) [Decidable c] :
      (if c then u.flagFirst Obj.stabSticky 0 (fun s => s.log .press 0x1501 1 p []) else u).paths = u.paths := by
    split <;> simp
  unfold State.missFrame
  dsimp only
  rw [flagged]
  dsimp only [State.setPath, State.set_paths, State.path_set]
  exact ⟨_, rfl, rfl⟩

end

section

variable {s : State} {p : Nat}

/-- LoopFrame, input 9, raised on a path whose record has just been replaced. -/
theorem State.fabEvent_replaced {t : State} {r : PathRun} (h : p < s.paths.length)
    (made : t.paths = s.paths.set p r) : (∃ i ∈ ((t.fabEvent p 9).path p).inputs, i.input = 9) ∧
      ((t.fabEvent p 9).path p).pilotLimit = r.pilotLimit := by
  obtain ⟨l, kept, raised⟩ := State.fabEvent_path (s := t) (p := p) 9 (by simpa [made] using h)
  have record : t.path p = r := by simp [State.path, made, h]
  rw [kept, record]
  exact ⟨raised, rfl⟩

theorem State.framePath_path (m : PathMeas) (h : p < s.paths.length) :
    (∃ i ∈ ((s.framePath p m).path p).inputs, i.input = 9) ∧ ((s.framePath p m).path p).pilotLimit =
      if s.frameCounts p m then some (s.countedLimit p m (((s.path p).frameBits * 2 + 1) % 2 ^ 64))
      else s.missedLimit p ((s.path p).frameBits * 2 % 2 ^ 64) := by
  unfold State.framePath
  cases s.frameCounts p m with
  | true =>
    obtain ⟨r, made, limit⟩ := s.noteFrame_paths (p := p) m (((s.path p).frameBits * 2 + 1) % 2 ^ 64)
    exact limit ▸ State.fabEvent_replaced h made
  | false =>
    obtain ⟨r, made, limit⟩ := s.missFrame_paths (p := p) m ((s.path p).frameBits * 2 % 2 ^ 64)
    exact limit ▸ State.fabEvent_replaced h made

theorem State.countedLimit_aboveFloor {m : PathMeas} (bits : Nat) (above : m.coherentAboveFloor = true) :
    s.countedLimit p m bits =
      s.chainGain (s.dirOf p) - (m.coherentLoop - s.stageGain p) - s.get (Obj.stabMargin p) := by
  rw [State.countedLimit, if_pos above]

theorem State.missedLimit_stale {bits : Nat} (serves : s.inService p = true)
    (stale : countFrames bits (s.get Obj.stabPilotFrames) = 0) :
    s.missedLimit p bits = (s.path p).pilotLimit.map (fun l => l - 10) :=
  if_pos (by simp [State.frameStale, serves, stale])

theorem State.missedLimit_fresh {bits : Nat} (fresh : countFrames bits (s.get Obj.stabPilotFrames) ≠ 0) :
    s.missedLimit p bits = (s.path p).pilotLimit :=
  if_neg (by simp [State.frameStale, fresh])

end

/-! ## The boundary of a direction (R175, R417) -/

theorem loopFrame_answer {s : State} (d : Dir) (ms : List PathMeas) (runs : s.running = true)
    (ready : s.power.pressReady = true) (free : CoreId.press ∉ s.sec.halted) :
    exec (.loopFrame d ms) s = .next ((s.loopFrame d ms).serveWaiting) := by
  have due : (s.running && s.power.pressReady && !s.sec.halted.contains .press) = true := by
    simp [runs, ready, free]
  show Host.Outcome.next (s.when (s.running && s.power.pressReady && !s.sec.halted.contains .press) _) = _
  rw [due, State.when_true]

theorem State.liveOf_subset {s : State} {d : Dir} {p : Nat} (h : p ∈ s.liveOf d) : p ∈ pathNums :=
  (List.mem_filter.mp (List.mem_filter.mp h).1).1

/-- The enabled paths of a direction whose loop has collapsed, by what was measured. -/
def State.collapsedOf (s : State) (d : Dir) (ms : List PathMeas) : List Nat :=
  (s.liveOf d).filter (fun p => s.collapsed p (ms.getD p noMeas))

/-- A collapse is trigger 2, whose bitmap has every collapsed path besides others (those that lost their pilot). -/
theorem State.loopFrame_of_collapse {s : State} {d : Dir} {ms : List PathMeas}
    (fallen : ((s.toBoundary d).moveGains).collapsedOf d ms ≠ []) : ∃ (v : State) (lost : List Nat),
      s.loopFrame d ms = v.netTrigger 2 (pathNums.filter (fun p =>
        (((s.toBoundary d).moveGains).collapsedOf d ms).contains p || lost.contains p)) := by
  have due : (!(((s.toBoundary d).moveGains).collapsedOf d ms).isEmpty) = true := by simpa using fallen
  unfold State.loopFrame
  exact ⟨_, _, if_pos due⟩

/-- Settles O38: the boundary's instant, its frames one path at a time, and its first branch, the collapse. -/
theorem frameBoundaries : Obligations.FrameBoundaries := by
  unfold Obligations.FrameBoundaries
  intro s d ms
  refine ⟨loopFrame_answer d ms, fun _ => State.toBoundary_after, fun p m len => ?_, fun p live down => ?_⟩
  · obtain ⟨raised, limit⟩ := State.framePath_path m (p.isLt.trans_eq len.symm)
    refine ⟨raised, fun counts above => ?_, fun missed serves stale => ?_, fun missed fresh => ?_⟩
    · rw [limit, if_pos counts, State.countedLimit_aboveFloor _ above]
    · rw [limit, if_neg (Bool.eq_false_iff.mp missed), State.missedLimit_stale serves stale]
    · rw [limit, if_neg (Bool.eq_false_iff.mp missed), State.missedLimit_fresh fresh]
  · have fallen {q : Nat} (hq : q ∈ ((s.toBoundary d).moveGains).liveOf d)
        (hc : ((s.toBoundary d).moveGains).collapsed q (ms.getD q noMeas) = true) :
        q ∈ ((s.toBoundary d).moveGains).collapsedOf d ms := List.mem_filter.mpr ⟨hq, hc⟩
    obtain ⟨v, lost, trigger⟩ := State.loopFrame_of_collapse (List.ne_nil_of_mem (fallen live down))
    refine ⟨v, _, trigger, fun q hq hc => List.mem_filter.mpr ⟨State.liveOf_subset hq, ?_⟩⟩
    simp [fallen hq hc]

end Sys2Proof.Machine

namespace Sys2Proof.Machine

open Sys2Proof

/-! ## A frame that a port receives (R200, R202, R206, R208 to R210, R229, R233 to R239, R250) -/

/-- A frame of the format that a port processes: FD with a 29-bit identifier, its reserved bits clear (Tables 6-1 and 6-3). -/
structure Formatted (f : CanFrame) : Prop where
  res : f.res = false
  extended : f.extended = true
  fd : f.fd = true
  data : f.remote = false
  low : f.ident.toNat % 4 = 0

/-- A frame whose source may be another's and whose destination or scope the unit knows (R210, R238). -/
structure State.Considers (s : State) (f : CanFrame) : Prop where
  foreign : s.unassigned = true ∨ frameSrc f.ident ≠ s.field.effective
  scope : frameBcast f.ident = false ∨ frameDst f.ident = 0 ∨ frameDst f.ident = 0x1FF

/-- A frame with a service that has a meaning, at its priority, and with a whole header. -/
structure Meaningful (f : CanFrame) : Prop where
  header : 4 ≤ f.data.length
  service : frameSvc f.ident < 13
  prio : frameRequest f.ident = true → prioOk (frameSvc f.ident) (framePrio f.ident) = true

theorem Meaningful.not_invalid {f : CanFrame} (hm : Meaningful f) : ¬ (13 ≤ frameSvc f.ident ∨ f.data.length < 4 ∨
    (frameRequest f.ident = true ∧ (!prioOk (frameSvc f.ident) (framePrio f.ident)) = true)) := by
  rintro (h | h | ⟨hr, hp⟩)
  · exact Nat.not_le.mpr hm.service h
  · exact Nat.not_lt.mpr hm.header h
  · simp [hm.prio hr] at hp

/-- The state in which a port has counted a frame. -/
def State.countRx (s : State) (p : Port) : State := s.bump (Obj.portRxFrames (portNum p)) 1

section

variable {s : State} {p : Port} {f : CanFrame} (up : s.portUp p = true) (serves : s.vintServes = true)
include up serves

theorem State.receiveFrame_exception (hres : f.res = true) :
    s.receiveFrame p f = ((s.countRx p).rxDiscard p).joinPort p := by
  simp [State.receiveFrame, up, serves, hres, State.exceptIntegrate, State.countRx]

theorem State.receiveFrame_standard (hres : f.res = false) (hext : f.extended = false) :
    s.receiveFrame p f = (s.countRx p).bump (Obj.portStdIdCount (portNum p)) 1 := by
  simp [State.receiveFrame, up, serves, hres, hext, State.countRx]

theorem State.receiveFrame_classic (hres : f.res = false) (hext : f.extended = true) (h : f.fd = false ∨ f.remote = true) :
    s.receiveFrame p f = (s.countRx p).bump (Obj.portClassicCount (portNum p)) 1 := by
  simp [State.receiveFrame, up, serves, hres, hext, h, State.countRx]

theorem State.receiveFrame_reserved (hres : f.res = false) (hext : f.extended = true) (hfd : f.fd = true)
    (hdata : f.remote = false) (hlow : f.ident.toNat % 4 ≠ 0) :
    s.receiveFrame p f = ((s.countRx p).rxDiscard p).flag Obj.fieldSticky 5 := by
  simp [State.receiveFrame, up, serves, hres, hext, hfd, hdata, hlow, State.countRx]

theorem State.receiveFrame_ownSource (hf : Formatted f) (assigned : s.unassigned = false)
    (own : frameSrc f.ident = s.field.effective) : s.receiveFrame p f = (s.countRx p).addressConflict := by
  have assigned' : (s.countRx p).unassigned = false := assigned
  obtain ⟨hres, hext, hfd, hdata, hlow⟩ := hf
  rw [State.countRx] at assigned'
  simp [State.receiveFrame, up, serves, hres, hext, hfd, hdata, hlow, State.countRx, assigned', own]

/-- A frame that the port has looked at whole is ignored, discarded, or passed on and taken in. -/
theorem State.receiveFrame_considered (hf : Formatted f) (hc : s.Considers f) : s.receiveFrame p f =
    (let u := s.countRx p
     if !u.forwards p f ∧ !u.isLocal f then s
     else if 13 ≤ frameSvc f.ident ∨ f.data.length < 4 ∨
       (frameRequest f.ident ∧ !prioOk (frameSvc f.ident) (framePrio f.ident)) then u.rxDiscard p
     else if u.isLocal f then (if u.forwards p f then u.forwardFrame p f else u).localFrame p f
     else if u.forwards p f then u.forwardFrame p f else u) := by
  obtain ⟨hres, hext, hfd, hdata, hlow⟩ := hf
  have foreign : ¬ ((!(s.countRx p).unassigned) = true ∧ frameSrc f.ident = (s.countRx p).field.effective) := by
    rintro ⟨hu, he⟩
    rcases hc.foreign with h | h
    · rw [show (s.countRx p).unassigned = s.unassigned from rfl, h] at hu
      cases hu
    · exact h he
  have scope : ¬ (frameBcast f.ident = true ∧ frameDst f.ident ≠ 0 ∧ frameDst f.ident ≠ 0x1FF) := by
    rintro ⟨hb, h0, h1⟩
    rcases hc.scope with h | h | h
    · rw [h] at hb
      cases hb
    · exact h0 h
    · exact h1 h
  have begun : ¬ ((!s.portUp p) = true ∨ (!decide (s.vintServes = true ∨ s.vintnerDown = true)) = true) := by
    simp [up, serves]
  unfold State.receiveFrame
  rw [if_neg begun]
  dsimp only
  rw [if_neg (by simp [hres]), if_neg (by simp [hext]), if_neg (by simp [hfd, hdata]), if_neg (by simp [hlow])]
  exact (if_neg foreign).trans (if_neg scope)

theorem State.receiveFrame_ignored (hf : Formatted f) (hc : s.Considers f) (stays : (s.countRx p).forwards p f = false)
    (away : (s.countRx p).isLocal f = false) : s.receiveFrame p f = s := by
  rw [State.receiveFrame_considered up serves hf hc]
  exact if_pos (by simp [stays, away])

/-- A frame for this unit, passed on besides where it is to be. -/
theorem State.receiveFrame_local (hf : Formatted f) (hc : s.Considers f) (hm : Meaningful f)
    (here : (s.countRx p).isLocal f = true) : s.receiveFrame p f =
      (if (s.countRx p).forwards p f then (s.countRx p).forwardFrame p f else s.countRx p).localFrame p f := by
  rw [State.receiveFrame_considered up serves hf hc]
  dsimp only
  rw [if_neg (by simp [here]), if_neg hm.not_invalid, if_pos here]

theorem State.receiveFrame_passedOn (hf : Formatted f) (hc : s.Considers f) (hm : Meaningful f)
    (on : (s.countRx p).forwards p f = true) (away : (s.countRx p).isLocal f = false) :
    s.receiveFrame p f = (s.countRx p).forwardFrame p f := by
  rw [State.receiveFrame_considered up serves hf hc]
  dsimp only
  rw [if_neg (by simp [on]), if_neg hm.not_invalid, if_neg (by simp [away]), if_pos on]

end

theorem exec_obvarFrameReceive {f : CanFrame} (h : f.data.length ≤ 64) (p : Port) (s : State) :
    exec (.obvarFrameReceive p f) s = .next (s.receiveFrame p f) := by
  show Host.Outcome.next (s.receiveFrame p { f with data := f.data.take 64 }) = _
  rw [List.take_of_length_le h]

/-- A group that is not complete in time (R215). -/
theorem exec_reassemblyTimeout {s : State} {p : Port} {src : BitVec 9} {d : Nat} {g : Reasm}
    (due : s.deadline (.reassembly p src.toNat) = some d) (hg : s.groupFrom src.toNat = some g) :
    exec (.reassemblyTimeout p src) s = .next
      ((((Claims.expired s (.reassembly p src.toNat) d).dropGroup g).flag Obj.fieldSticky 6).groupAbort g.port
        g.ident g.tid g.body (0x0E, 1)) := by
  have found : (Claims.expired s (.reassembly p src.toNat) d).groupFrom src.toNat = some g := by
    rw [State.groupFrom, (expired_fr s (.reassembly p src.toNat) d).field rfl]
    exact hg
  show Host.Outcome.next (s.onTimer (.reassembly p src.toNat) _) = _
  rw [State.onTimer_of_deadline _ due, found]

/-- Settles O20: each branch of a frame's reception, one lemma a branch. -/
theorem framesReceived : Obligations.FramesReceived := by
  unfold Obligations.FramesReceived
  intro s p
  refine ⟨fun f short up serves => ?_, fun src d g => exec_reassemblyTimeout, fun r sec us src via => ?_, fun q => rfl⟩
  · rw [exec_obvarFrameReceive short]
    refine ⟨fun hres => congrArg _ (State.receiveFrame_exception up serves hres),
      fun hres hext => congrArg _ (State.receiveFrame_standard up serves hres hext),
      fun hres hext h => congrArg _ (State.receiveFrame_classic up serves hres hext h),
      fun hres hext hfd hdata => ⟨fun hlow => congrArg _ (State.receiveFrame_reserved up serves hres hext hfd hdata hlow),
        fun hlow => ?_⟩⟩
    have hf : Formatted f := ⟨hres, hext, hfd, hdata, hlow⟩
    refine ⟨fun assigned own => congrArg _ (State.receiveFrame_ownSource up serves hf assigned own),
      fun foreign scope => ?_⟩
    have hc : s.Considers f := ⟨foreign, scope⟩
    refine ⟨fun stays away => congrArg _ (State.receiveFrame_ignored up serves hf hc stays away),
      fun header service prio => ?_⟩
    have hm : Meaningful f := ⟨header, service, prio⟩
    refine ⟨fun stays here => ?_, fun on away => congrArg _ (State.receiveFrame_passedOn up serves hf hc hm on away),
      fun on here => ?_⟩
    · exact congrArg _ ((State.receiveFrame_local up serves hf hc hm here).trans
        (congrArg (fun t : State => t.localFrame p f) (if_neg (by rw [State.countRx, stays]; decide))))
    · exact congrArg _ ((State.receiveFrame_local up serves hf hc hm here).trans
        (congrArg (fun t : State => t.localFrame p f) (if_pos on)))
  · have port : (true && r.via != .host) = true := by simp [via]
    exact congrArg Host.Outcome.next (if_pos port)

end Sys2Proof.Machine

namespace Sys2Proof.Machine

open Sys2Proof

/-! ## A port's engine, its error counter and its transceiver -/

section

variable (s : State) (p : Port)

@[simp] theorem State.portEng_setPortEng (e : PortEngine) : (s.setPortEng p e).portEng p = e := by
  cases p
  · rfl
  · rfl

@[simp] theorem State.get_setPortEng (e : PortEngine) (k : Nat) : (s.setPortEng p e).get k = s.get k := by
  cases p
  · rfl
  · rfl

theorem State.now_setPortEng (e : PortEngine) : (s.setPortEng p e).now = s.now := by
  cases p
  · rfl
  · rfl

theorem State.portEng_arm (T : TimerId) (us : Nat) : (s.arm T us).portEng p = s.portEng p := rfl

theorem State.portEng_disarm (T : TimerId) : (s.disarm T).portEng p = s.portEng p := rfl

@[simp] theorem State.get_setStb (b : Bool) (k : Nat) : (s.setStb p b).get k = s.get k := by
  cases p
  · rfl
  · rfl

/-- The transceiver standby that drives a port's CAN_x_STB. -/
def State.stbOf (p : Port) : Bool := match p with | .a => s.pins.canStbA | .b => s.pins.canStbB

theorem State.stbOf_setStb (b : Bool) : (s.setStb p b).stbOf p = b := by
  cases p
  · rfl
  · rfl

variable (v : Nat)

/-- The port's error counter is written with its history of the old values alone. -/
theorem State.setTec_cases : s.get (Obj.portTec (portNum p)) = v ∧ s.setTec p v = s ∨
    ∃ l, s.setTec p v = (s.setPortEng p { s.portEng p with tecs := l }).set (Obj.portTec (portNum p)) v := by
  by_cases same : s.get (Obj.portTec (portNum p)) = v
  · exact .inl ⟨same, if_pos same⟩
  · exact .inr ⟨_, if_neg same⟩

theorem State.get_setTec_self : (s.setTec p v).get (Obj.portTec (portNum p)) = v := by
  rcases s.setTec_cases p v with ⟨same, h⟩ | ⟨l, h⟩
  · rw [h, same]
  · rw [h, State.get_set_self]

theorem State.get_setTec_ne {k : Nat} (hk : k ≠ Obj.portTec (portNum p)) : (s.setTec p v).get k = s.get k := by
  rcases s.setTec_cases p v with ⟨-, h⟩ | ⟨l, h⟩
  · rw [h]
  · rw [h, State.get_set_ne _ _ _ _ hk, State.get_setPortEng]

theorem State.effective_setTec : (s.setTec p v).field.effective = s.field.effective := by
  rcases s.setTec_cases p v with ⟨-, h⟩ | ⟨l, h⟩
  · rw [h]
  · rw [h]
    cases p
    · rfl
    · rfl

theorem State.timers_setTec : (s.setTec p v).timers = s.timers :=
  (State.setTec_fr s p v rfl (Fr.refl 4194308 s)).timers rfl

theorem State.now_setTec : (s.setTec p v).now = s.now :=
  congrArg Clocks.nowUs ((State.setTec_fr s p v rfl (Fr.refl 4194308 s)).time rfl)

end

section

variable {s : State} {T : TimerId} {d : Nat}

theorem State.now_expired : (Claims.expired s T d).now = max s.now d := by
  show (s.elapse (d - s.now)).now = _
  rw [State.elapse_now]
  omega

theorem State.armed_expired_ne {U : TimerId} (h : U ≠ T) : (Claims.expired s T d).armed U = s.armed U := by
  have timers : (s.elapse (d - s.now)).timers = s.timers := (State.elapse_fr s _ rfl (Fr.refl 5 s)).timers rfl
  rw [Claims.expired, State.armed_disarm_ne _ h, State.armed, timers]
  rfl

theorem State.armed_expired_self : (Claims.expired s T d).armed T = false := State.armed_disarm_self _ _

theorem State.portOn_congr {s t : State} (h : t.get Obj.fieldPortEnable = s.get Obj.fieldPortEnable) (p : Port) :
    t.portOn p = s.portOn p := by
  cases p
  · exact congrArg (fun n : Nat => n.testBit 0) h
  · exact congrArg (fun n : Nat => n.testBit 1) h

end

/-! ## A flag with its record -/

/-- A flag and, on its first occurrence, its record: the flag is set, and every other register, timer and memory is as it
was. -/
theorem State.flagFirst_log (s : State) {k : Nat} (b : Nat) (q : Prod) (code sev inst : Nat) (bs : Bytes)
    (unreported : reportKey k = false) :
    let t := s.flagFirst k b (fun s => s.log q code sev inst bs)
    t.bit k b = true ∧ (∀ j, j ≠ k → reportKey j = false → t.get j = s.get j) ∧
      (∀ T, reportTimer T = false → t.deadline T = s.deadline T) ∧ t.field = s.field ∧ t.mems = s.mems := by
  intro t
  by_cases shown : s.bit k b = true
  · have ht : t = s := if_pos shown
    rw [ht]
    exact ⟨shown, fun _ _ _ => rfl, fun _ _ => rfl, rfl, rfl⟩
  · have ht : t = s.faultRow k b q code sev inst bs := if_neg shown
    rw [ht]
    exact ⟨s.bit_faultRow_self k b q code sev inst bs unreported,
      fun j hj free => s.get_faultRow_ne k b q code sev inst bs j hj free,
      fun T free => s.deadline_faultRow k b q code sev inst bs T free, State.faultRow_field .., State.faultRow_mems ..⟩

/-! ## A port joins its bus (R203, R248, R249, R254) -/

/-- An enabled port that no wait holds back integrates, its transceiver on, while the core clock does not run from INT48. -/
theorem State.joinPort_integrates {s : State} {p : Port} (on : s.portOn p = true) (free : s.armed (.busOffHoldoff p) = false)
    (clear : s.armed (.stuckRejoin p) = false) (clock : s.get Obj.clockCoreSource ≠ 0) :
    s.joinPort p = (s.set (Obj.portState (portNum p)) 2).setStb p false := by
  rw [State.joinPort, if_neg (by simp [on]), if_neg (by simp [free, clear]), if_neg clock]

/-- A port error active on its bus, on an assigned unit its Heartbeat due within 10 ms. -/
def State.onBus (s : State) (p : Port) : State :=
  let u := s.set (Obj.portState (portNum p)) 3
  if u.unassigned then u else u.arm (.heartbeat p) 10000

section

variable (s : State) (p : Port)

/-- A port comes onto its bus without a change of anything but its state and its Heartbeat's timer. -/
theorem State.onBus_keeps : (s.onBus p).portState p = 3 ∧ (s.onBus p).field = s.field ∧ (s.onBus p).now = s.now ∧
    (s.onBus p).mems = s.mems :=
  prop_ite (P := fun u : State => u.portState p = 3 ∧ u.field = s.field ∧ u.now = s.now ∧ u.mems = s.mems)
    ⟨s.get_set_self _ _, rfl, rfl, rfl⟩ ⟨s.get_set_self _ _, rfl, rfl, rfl⟩

theorem State.portEng_congr {s t : State} (h : t.field = s.field) (p : Port) : t.portEng p = s.portEng p := by
  cases p
  · exact congrArg Field.portA h
  · exact congrArg Field.portB h

end

section

variable {s : State} {p : Port}

theorem exec_busIntegration (integrating : s.portState p = 2) : exec (.busIntegration p) s = .next (
    (if (s.portEng p).rejoining then (s.onBus p).setPortEng p { s.portEng p with rejoining := false, joinedAt := s.now }
      else s.onBus p).errorActive p) := by
  have due : (s.portState p == 2) = true := beq_iff_eq.mpr integrating
  obtain ⟨-, field, now, -⟩ := s.onBus_keeps p
  rw [← State.portEng_congr field p, ← now]
  show Host.Outcome.next (s.when (s.portState p == 2) _) = _
  rw [due, State.when_true]
  rfl

/-- The 600 s of a port that has rejoined after a bus-off. -/
theorem State.errorActive_rejoined (h : (s.portEng p).joinedAt ≠ 0) : s.errorActive p = s.arm (.busOffWait p) 600000000 :=
  if_neg h

/-- No part but the timer of those 600 s changes as a port becomes error active. -/
theorem State.errorActive_keeps (s : State) (p : Port) : (s.errorActive p).portState p = s.portState p ∧
    (s.errorActive p).field = s.field ∧ (s.errorActive p).mems = s.mems ∧
    ∀ T, T ≠ .busOffWait p → (s.errorActive p).deadline T = s.deadline T := by
  unfold State.errorActive
  split
  · exact ⟨rfl, rfl, rfl, fun _ _ => rfl⟩
  · exact ⟨rfl, rfl, rfl, fun T h => s.deadline_arm_ne _ T _ h⟩

end

/-! ## BUS_OFF and the way back (R253, R254) -/

/-- The factor of a port's wait after a bus-off: doubled, up to 64, within 60 s of rejoining. -/
def State.nextFactor (s : State) (p : Port) : Nat :=
  if (s.portEng p).joinedAt ≠ 0 ∧ s.now ≤ (s.portEng p).joinedAt + 60000000 then min 64 (2 * (s.portEng p).waitFactor)
  else (s.portEng p).waitFactor

/-- The flag and the record of a bus-off, with the history of the port's error counter. -/
def State.reportBusOff (s : State) (p : Port) : State :=
  let n := portNum p
  (s.setTec p 255).faultRow Obj.fieldSticky n .vintner 0x0B01 1 n
    (u32 n ++ u32 (leNat (((s.setTec p 255).portEng p).tecs.map byteOf)))

/-- A port off its bus, its wait begun, before its frames are discarded. -/
def State.leaveBus (s : State) (p : Port) : State :=
  let n := portNum p
  let u := ((s.reportBusOff p).bump (Obj.portBusOffCount n) 1).set (Obj.portState n) 5
  let u := (u.setPortEng p { u.portEng p with waitFactor := s.nextFactor p }).disarm (.busOffWait p)
  (u.disarm (.heartbeat p)).arm (.busOffHoldoff p) (1000 * u.get Obj.fieldBusOffHoldoff * s.nextFactor p)

section

variable {s : State} {p : Port}

theorem exec_busOff (up : s.portUp p = true) : exec (.busOff p) s = .next ((s.leaveBus p).flushPort p) := by
  have factor : (if ((s.portEng p).joinedAt != 0 && decide (s.now ≤ (s.portEng p).joinedAt + 60000000)) = true then
      min 64 (2 * (s.portEng p).waitFactor) else (s.portEng p).waitFactor) = s.nextFactor p := by
    simp [State.nextFactor]
  show Host.Outcome.next (s.when (s.portUp p) _) = _
  rw [up, State.when_true]
  dsimp only
  rw [factor]
  rfl

end

section

variable {s : State} {p : Port}

theorem State.get_reportBusOff {k : Nat} (hk : k ≠ Obj.portTec (portNum p)) (hs : k ≠ Obj.fieldSticky)
    (free : reportKey k = false) : (s.reportBusOff p).get k = s.get k :=
  (State.get_faultRow_ne _ _ _ _ _ _ _ _ k hs free).trans (s.get_setTec_ne p _ hk)

/-- The engine of a port after its bus-off: its factor apart, and its counter's history, as it was. -/
theorem State.leaveBus_factor : ((s.leaveBus p).portEng p).waitFactor = s.nextFactor p := by
  rw [State.leaveBus]
  dsimp only
  rw [State.portEng_arm, State.portEng_disarm, State.portEng_disarm, State.portEng_setPortEng]

/-- What a port's bus-off shows before its frames are discarded. -/
theorem State.leaveBus_shows : (s.leaveBus p).portState p = 5 ∧ (s.leaveBus p).bit Obj.fieldSticky (portNum p) = true ∧
    (s.leaveBus p).deadline (.busOffHoldoff p) = some (s.now + 1000 * s.get Obj.fieldBusOffHoldoff * s.nextFactor p) := by
  have holdoff : (((s.reportBusOff p).bump (Obj.portBusOffCount (portNum p)) 1).set (Obj.portState (portNum p)) 5).get
      Obj.fieldBusOffHoldoff = s.get Obj.fieldBusOffHoldoff := by
    rw [State.get_set_ne _ _ _ _ (by cases p <;> decide), State.get_bump_ne _ _ _ _ (by cases p <;> decide),
      State.get_reportBusOff (by cases p <;> decide) (by decide) rfl]
  have sticky : (((s.reportBusOff p).bump (Obj.portBusOffCount (portNum p)) 1).set (Obj.portState (portNum p)) 5).bit
      Obj.fieldSticky (portNum p) = true := by
    rw [State.bit, State.get_set_ne _ _ _ _ (by cases p <;> decide), State.get_bump_ne _ _ _ _ (by cases p <;> decide)]
    exact State.bit_faultRow_self _ _ _ _ _ _ _ _ rfl
  have now : (s.reportBusOff p).now = s.now :=
    (congrArg Clocks.nowUs (State.faultRow_time ..)).trans (s.now_setTec p 255)
  refine ⟨?_, ?_, ?_⟩
  · show State.get (State.setPortEng _ _ _) _ = _
    rw [State.get_setPortEng, State.get_set_self]
  · show Nat.testBit (State.get (State.setPortEng _ _ _) _) _ = _
    rw [State.get_setPortEng]
    exact sticky
  · rw [State.leaveBus, State.deadline_arm_self, State.get_disarm, State.get_setPortEng, holdoff, ← now]
    exact congrArg (fun n => some (n + _)) (State.now_setPortEng _ _ _)

theorem exec_busOffHoldoffExpiry {d : Nat} (due : s.deadline (.busOffHoldoff p) = some d) (on : s.portOn p = true)
    (clear : s.armed (.stuckRejoin p) = false) (clock : s.get Obj.clockCoreSource ≠ 0) :
    Claims.Answers (.busOffHoldoffExpiry p) s (fun t => t.portState p = 2 ∧ t.get (Obj.portTec (portNum p)) = 0 ∧
      t.get (Obj.portRec (portNum p)) = 0 ∧ (t.portEng p).rejoining = true) := by
  let u := ((Claims.expired s (.busOffHoldoff p) d).setTec p 0).set (Obj.portRec (portNum p)) 0
  have get {k : Nat} (hr : k ≠ Obj.portRec (portNum p)) (ht : k ≠ Obj.portTec (portNum p))
      (h1 : k ≠ Obj.powerStateOperatingSeconds) (h2 : k ≠ Obj.powerStateCoreSeconds)
      (h3 : k ≠ Obj.energyUncountedSeconds) : u.get k = s.get k := by
    rw [State.get_set_ne _ _ _ _ hr, State.get_setTec_ne _ _ _ ht, State.get_expired _ _ _ _ h1 h2 h3]
  have armed (T : TimerId) : u.armed T = (Claims.expired s (.busOffHoldoff p) d).armed T :=
    congrArg (List.any · _) (State.timers_setTec _ p 0)
  have joined : u.joinPort p = (u.set (Obj.portState (portNum p)) 2).setStb p false := by
    refine State.joinPort_integrates ?_ ((armed _).trans State.armed_expired_self)
      ((armed _).trans ((State.armed_expired_ne (by simp)).trans clear)) ?_
    · rw [State.portOn_congr (get _ _ _ _ _) p, on] <;> cases p <;> decide
    · rwa [get (by cases p <;> decide) (by cases p <;> decide) (by decide) (by decide) (by decide)]
  refine ⟨(u.joinPort p).setPortEng p { (u.joinPort p).portEng p with rejoining := true }, ?_, ?_, ?_, ?_, ?_⟩
  · show Host.Outcome.next (s.onTimer (.busOffHoldoff p) _) = _
    rw [State.onTimer_of_deadline _ due]
  · rw [State.portState, State.get_setPortEng, joined, State.get_setStb, State.get_set_self]
  · rw [State.get_setPortEng, joined, State.get_setStb, State.get_set_ne _ _ _ _ (by cases p <;> decide),
      State.get_set_ne _ _ _ _ (by cases p <;> decide), State.get_setTec_self]
  · rw [State.get_setPortEng, joined, State.get_setStb, State.get_set_ne _ _ _ _ (by cases p <;> decide), State.get_set_self]
  · rw [State.portEng_setPortEng]

theorem exec_busIntegration_rejoins (integrating : s.portState p = 2) (back : (s.portEng p).rejoining = true)
    (started : s.now ≠ 0) : Claims.Answers (.busIntegration p) s (fun t =>
      t.portState p = 3 ∧ (t.portEng p).joinedAt = s.now ∧ (t.portEng p).waitFactor = (s.portEng p).waitFactor ∧
        t.deadline (.busOffWait p) = some (s.now + 600000000)) := by
  have rejoined := exec_busIntegration integrating
  obtain ⟨active, -, now, -⟩ := s.onBus_keeps p
  rw [if_pos back, State.errorActive_rejoined (by rw [State.portEng_setPortEng]; exact started)] at rejoined
  refine ⟨_, rejoined, ?_, ?_, ?_, ?_⟩
  · show State.get (State.setPortEng _ _ _) _ = _
    rw [State.get_setPortEng]
    exact active
  · show (State.portEng (State.setPortEng _ _ _) p).joinedAt = _
    rw [State.portEng_setPortEng]
  · show (State.portEng (State.setPortEng _ _ _) p).waitFactor = _
    rw [State.portEng_setPortEng]
  · rw [State.deadline_arm_self, State.now_setPortEng, now]

theorem exec_busOffWaitReset {d : Nat} (due : s.deadline (.busOffWait p) = some d) :
    Claims.Answers (.busOffWaitReset p) s (fun t => (t.portEng p).waitFactor = 1 ∧ t.q = s.q ∧ t.mems = s.mems) := by
  have frame := expired_fr s (.busOffWait p) d
  have setEngine := fun e => State.setPortEng_fr (Claims.expired s (.busOffWait p) d) p e rfl (Fr.refl 4194304 _)
  have kept := fun e => State.setPortEng_fr (Claims.expired s (.busOffWait p) d) p e rfl (Fr.refl memWork _)
  refine ⟨_, congrArg Host.Outcome.next (State.onTimer_of_deadline _ due), ?_, ?_, ?_⟩
  · rw [State.portEng_setPortEng]
  · exact ((setEngine _).q rfl).trans (frame.q rfl)
  · exact (kept _).mems.trans (expired_mems ..)

end

/-- Settles O22: the wait of a bus-off, the recovery at its end, the return to the bus and the first wait again. -/
theorem busOffWait : Obligations.BusOffWait := by
  unfold Obligations.BusOffWait
  refine fun s p => ⟨fun up => ?_, fun d due on clear clock => exec_busOffHoldoffExpiry due on clear clock,
    fun integrating back started => exec_busIntegration_rejoins integrating back started, fun d due => exec_busOffWaitReset due⟩
  obtain ⟨off, shown, wait⟩ := s.leaveBus_shows (p := p)
  exact ⟨s.leaveBus p, exec_busOff up, off, shown, State.leaveBus_factor, by rw [State.leaveBus_factor]; exact wait⟩

end Sys2Proof.Machine

namespace Sys2Proof.Machine

open Sys2Proof

/-! ## Faults of a port (R203, R204, R249, R253, R296) -/

/-- A port error passive, its counter at 128, before the flag and the record. -/
def State.enterPassive (s : State) (p : Port) : State :=
  ((s.setTec p 128).set (Obj.portState (portNum p)) 4).disarm (.busOffWait p)

/-- A port in transceiver standby for the time of Field.BusOffHoldoff, before its frames are discarded (R253). -/
def State.standAside (s : State) (p : Port) : State :=
  let u := s.faultRow Obj.fieldSticky 9 .vintner 0x0B08 1 (portNum p) []
  let u := (((u.set (Obj.portState (portNum p)) 1).setStb p true).disarm (.heartbeat p)).disarm (.busOffWait p)
  u.arm (.stuckRejoin p) (1000 * u.get Obj.fieldBusOffHoldoff)

section

variable {s : State} {p : Port}

theorem State.armed_of_deadline_none {T : TimerId} (h : s.deadline T = none) : s.armed T = false :=
  Bool.eq_false_iff.mpr fun runs => by
    obtain ⟨d, hd⟩ := (s.armed_iff T).mp runs
    rw [h] at hd
    cases hd

theorem State.deadline_of_armed_false {T : TimerId} (h : s.armed T = false) : s.deadline T = none :=
  Option.eq_none_iff_forall_ne_some.mpr fun d hd => by simp [(s.armed_iff T).mpr ⟨d, hd⟩] at h

theorem exec_errorPassive (active : s.portState p = 3) : Claims.Answers (.errorPassive p) s (fun t =>
    t.portState p = 4 ∧ t.bit Obj.fieldSticky (2 + portNum p) = true ∧ t.get (Obj.portTec (portNum p)) = 128 ∧
      t.armed (.busOffWait p) = false ∧ t.field.effective = s.field.effective ∧ t.mems = s.mems) := by
  have due : (s.portState p == 3) = true := beq_iff_eq.mpr active
  obtain ⟨shown, get, deadline, field, mems⟩ := (s.enterPassive p).flagFirst_log (k := Obj.fieldSticky) (2 + portNum p)
    .vintner 0x0B02 1 (portNum p) [] rfl
  have stopped : (s.enterPassive p).deadline (.busOffWait p) = none :=
    State.deadline_of_armed_false (State.armed_disarm_self _ _)
  refine ⟨_, (congrArg Host.Outcome.next (if_pos due) :), ?_, shown, ?_, ?_, ?_, ?_⟩
  · exact (get _ (by cases p <;> decide) (by cases p <;> rfl)).trans (State.get_set_self _ _ _)
  · exact (get _ (by cases p <;> decide) (by cases p <;> rfl)).trans
      ((State.get_set_ne _ _ _ _ (by cases p <;> decide)).trans (s.get_setTec_self p 128))
  · exact State.armed_of_deadline_none ((deadline _ rfl).trans stopped)
  · exact (congrArg Field.effective field).trans (s.effective_setTec p 128)
  · exact mems.trans (State.setTec_fr s p 128 rfl (Fr.refl memWork s)).mems

theorem exec_stuckDominant (joined : s.portUp p = true ∨ s.portState p = 2) :
    exec (.stuckDominant p) s = .next ((s.standAside p).flushPort p) := by
  have due : (s.portUp p || s.portState p == 2) = true := by simpa using joined
  exact congrArg Host.Outcome.next (if_pos due)

theorem State.standAside_shows (s : State) (p : Port) : (s.standAside p).portState p = 1 ∧
    (s.standAside p).bit Obj.fieldSticky 9 = true ∧ (s.standAside p).stbOf p = true ∧
    (s.standAside p).deadline (.stuckRejoin p) = some (s.now + 1000 * s.get Obj.fieldBusOffHoldoff) := by
  have holdoff : (s.faultRow Obj.fieldSticky 9 .vintner 0x0B08 1 (portNum p) []).get Obj.fieldBusOffHoldoff =
      s.get Obj.fieldBusOffHoldoff := State.get_faultRow_ne _ _ _ _ _ _ _ _ _ (by decide) rfl
  have sticky := s.bit_faultRow_self Obj.fieldSticky 9 .vintner 0x0B08 1 (portNum p) [] rfl
  have now := congrArg Clocks.nowUs (s.faultRow_time Obj.fieldSticky 9 .vintner 0x0B08 1 (portNum p) [])
  rw [State.standAside]
  generalize s.faultRow Obj.fieldSticky 9 .vintner 0x0B08 1 (portNum p) [] = u at holdoff sticky now
  refine ⟨?_, ?_, ?_, ?_⟩
  · rw [State.portState, State.get_arm, State.get_disarm, State.get_disarm, State.get_setStb, State.get_set_self]
  · rw [State.bit, State.get_arm, State.get_disarm, State.get_disarm, State.get_setStb,
      State.get_set_ne _ _ _ _ (by cases p <;> decide)]
    exact sticky
  · exact State.stbOf_setStb _ p true
  · rw [State.deadline_arm_self, State.get_disarm, State.get_disarm, State.get_setStb,
      State.get_set_ne _ _ _ _ (by cases p <;> decide), holdoff]
    refine congrArg (fun n => some (n + _)) (Eq.trans ?_ now)
    cases p
    · rfl
    · rfl

theorem exec_stuckDominantRejoin {d : Nat} (due : s.deadline (.stuckRejoin p) = some d) (on : s.portOn p = true)
    (free : s.armed (.busOffHoldoff p) = false) (clock : s.get Obj.clockCoreSource ≠ 0) :
    Claims.Answers (.stuckDominantRejoin p) s (fun t => t.portState p = 2 ∧ t.stbOf p = false) := by
  have joined : (Claims.expired s (.stuckRejoin p) d).joinPort p =
      ((Claims.expired s (.stuckRejoin p) d).set (Obj.portState (portNum p)) 2).setStb p false := by
    refine State.joinPort_integrates ?_ ((State.armed_expired_ne (by simp)).trans free) State.armed_expired_self ?_
    · rwa [State.portOn_congr (State.get_expired _ _ _ _ (by decide) (by decide) (by decide)) p]
    · rwa [State.get_expired _ _ _ _ (by decide) (by decide) (by decide)]
  refine ⟨_, congrArg Host.Outcome.next ((State.onTimer_of_deadline _ due).trans joined), ?_, State.stbOf_setStb _ p false⟩
  rw [State.portState, State.get_setStb, State.get_set_self]

theorem exec_busIntegration_first (integrating : s.portState p = 2) (assigned : s.unassigned = false)
    (first : (s.portEng p).rejoining = false) : Claims.Answers (.busIntegration p) s (fun t => t.portState p = 3 ∧
      t.deadline (.heartbeat p) = some (s.now + 10000) ∧ t.field = s.field ∧ t.mems = s.mems) := by
  have joined := exec_busIntegration integrating
  rw [if_neg (by simp [first])] at joined
  obtain ⟨active, field, -, mems⟩ := s.onBus_keeps p
  obtain ⟨active', field', mems', deadline⟩ := (s.onBus p).errorActive_keeps p
  have soon : s.onBus p = (s.set (Obj.portState (portNum p)) 3).arm (.heartbeat p) 10000 :=
    if_neg (ne_true_of_eq_false assigned)
  refine ⟨_, joined, active'.trans active, ?_, field'.trans field, mems'.trans mems⟩
  rw [deadline _ (by simp), soon, State.deadline_arm_self]
  rfl

end

/-- Settles O24: the three faults of a port, its return, and its arrival on the bus. -/
theorem portFaults : Obligations.PortFaults := by
  unfold Obligations.PortFaults
  refine fun s p => ⟨exec_errorPassive, fun joined => ?_, fun d due on free clock => exec_stuckDominantRejoin due on free clock,
    fun d due => congrArg Host.Outcome.next (State.onTimer_of_deadline _ due),
    fun integrating assigned first => exec_busIntegration_first integrating assigned first⟩
  obtain ⟨standby, shown, off, wait⟩ := s.standAside_shows p
  exact ⟨s.standAside p, exec_stuckDominant joined, standby, shown, off, wait⟩

end Sys2Proof.Machine

namespace Sys2Proof.Machine

open Sys2Proof

/-! ## What a port sends (R229, R236, R248, R249, R296, R297) -/

section

variable {s : State} {p : Port}

/-- What wins the bus: a queued frame, the oldest refusal, or neither (R297). -/
theorem State.transmit_queued {x : Nat × CanFrame} (head : lowestFrame (s.txHeads p) = some x)
    (quiet : (s.portEng p).refusals = []) : s.transmit p = s.sendQueued p x := by
  rw [State.transmit, head, quiet]

theorem State.transmit_contended {x : Nat × CanFrame} {r : RefusalFrame} {rest : List RefusalFrame}
    (head : lowestFrame (s.txHeads p) = some x) (refusals : (s.portEng p).refusals = r :: rest) :
    s.transmit p = if r.frame.ident.toNat ≤ x.2.ident.toNat then s.sendRefusal p r rest else s.sendQueued p x := by
  rw [State.transmit, head, refusals]

theorem State.transmit_refusal {r : RefusalFrame} {rest : List RefusalFrame} (empty : lowestFrame (s.txHeads p) = none)
    (refusals : (s.portEng p).refusals = r :: rest) : s.transmit p = s.sendRefusal p r rest := by
  rw [State.transmit, empty, refusals]

theorem State.transmit_idle (empty : lowestFrame (s.txHeads p) = none) (quiet : (s.portEng p).refusals = []) :
    s.transmit p = s := by
  rw [State.transmit, empty, quiet]

theorem exec_frameTransmit (up : s.portUp p = true) : exec (.frameTransmit p) s = .next ((s.transmit p).afterSend p) := by
  show Host.Outcome.next (s.when (s.portUp p) _) = _
  rw [up, State.when_true]

/-- A frame at the head of its queue past its lifetime (R296). -/
theorem exec_txLifetimeExpiry {q : Byte} {d : Nat} {m : QMsg} (due : s.deadline (.txLife p q.toNat) = some d)
    (head : s.headOf q.toNat = some m) (late : m.at_ + 1000 * s.get Obj.queueTxLifetime ≤ max s.now d) :
    exec (.txLifetimeExpiry p q) s = .next
      (((((((Claims.expired s (.txLife p q.toNat) d).take q.toNat).txExpired 1).noteSummary).rearmTx p
        q.toNat).serveHeld).settleJoin p) := by
  have head' : (Claims.expired s (.txLife p q.toNat) d).headOf q.toNat = some m := by
    rw [State.headOf, (expired_fr s (.txLife p q.toNat) d).q rfl]
    exact head
  have late' : ¬ (Claims.expired s (.txLife p q.toNat) d).now <
      m.at_ + 1000 * (Claims.expired s (.txLife p q.toNat) d).get Obj.queueTxLifetime := by
    rw [State.now_expired, State.get_expired _ _ _ _ (by decide) (by decide) (by decide)]
    exact Nat.not_lt.mpr late
  show Host.Outcome.next (s.onTimer (.txLife p q.toNat) _) = _
  rw [State.onTimer_of_deadline _ due, State.txTimeout, head']
  dsimp only
  rw [if_neg late']

/-- What makes a port take part in its bus stands at the expiry of a timer as before. -/
theorem State.portUp_expired (T : TimerId) (d : Nat) : (Claims.expired s T d).portUp p = s.portUp p := by
  have state : (Claims.expired s T d).portState p = s.portState p :=
    State.get_expired _ _ _ _ (by cases p <;> decide) (by cases p <;> decide) (by cases p <;> decide)
  rw [State.portUp, State.portUp, State.bankA, State.bankA, state, (expired_fr s T d).pins rfl]

theorem State.vintServes_expired (T : TimerId) (d : Nat) : (Claims.expired s T d).vintServes = s.vintServes := by
  rw [State.vintServes, State.vintServes, (expired_fr s T d).power rfl, (expired_fr s T d).sec rfl]

/-- A due Heartbeat (R229): its frames go out, and the next one is a period later. -/
theorem exec_heartbeat {d : Nat} (due : s.deadline (.heartbeat p) = some d) (up : s.portUp p = true)
    (assigned : s.unassigned = false) (serves : s.vintServes = true) : Claims.Answers (.heartbeat p) s (fun t =>
      t.deadline (.heartbeat p) = some (max s.now d + 1000 * s.get Obj.fieldHeartbeatPeriod) ∧ t.field = s.field ∧
        t.mems = s.mems) := by
  let u := Claims.expired s (.heartbeat p) d
  let w := u.sendFrames .fresh p 0x1A (groupFrames u.heartbeatIdent 0 false false (u.heartbeatBody u.power.state.code))
  have sent : Reported u w := u.sendFrames_reported ..
  have field : u.field = s.field := (expired_fr s (.heartbeat p) d).field rfl
  have ready : u.portUp p = true ∧ (!u.unassigned) = true ∧ u.vintServes = true := by
    refine ⟨(State.portUp_expired _ _).trans up, ?_, (State.vintServes_expired _ _).trans serves⟩
    rw [State.unassigned, field, ← State.unassigned, assigned]
    rfl
  refine ⟨w.arm (.heartbeat p) (1000 * w.get Obj.fieldHeartbeatPeriod), ?_, ?_, ?_, ?_⟩
  · show Host.Outcome.next (s.onTimer (.heartbeat p) _) = _
    rw [State.onTimer_of_deadline _ due]
    exact congrArg Host.Outcome.next (if_pos ready)
  · rw [State.deadline_arm_self, State.now, sent.time, sent.get _ rfl,
      State.get_expired _ _ _ _ (by decide) (by decide) (by decide)]
    exact congrArg (fun n => some (n + _)) State.now_expired
  · exact sent.field.trans field
  · exact sent.mems.trans (expired_mems ..)

end

/-- Settles O23: the four ways of a transmission, a frame past its lifetime, a Heartbeat and a Locate reply that are due. -/
theorem portsSend : Obligations.PortsSend := by
  unfold Obligations.PortsSend
  intro s p
  refine ⟨fun x up head quiet => ?_, fun x r rest up head refusals => ?_, fun r rest up empty refusals => ?_,
    fun up empty quiet => ?_, fun q d m due head late => exec_txLifetimeExpiry due head late,
    fun d due up assigned serves => exec_heartbeat due up assigned serves,
    fun d b due => congrArg Host.Outcome.next (State.onTimer_of_deadline _ due)⟩
  · rw [exec_frameTransmit up, State.transmit_queued head quiet, State.sendQueued]
  · rw [exec_frameTransmit up, State.transmit_contended head refusals]
  · rw [exec_frameTransmit up, State.transmit_refusal empty refusals]
  · rw [exec_frameTransmit up, State.transmit_idle empty quiet]

end Sys2Proof.Machine

namespace Sys2Proof.Machine

open Sys2Proof

/-! ## Messages of one frame, broadcast to every segment (R208 to R213) -/

theorem broadcastIdent_fields {prio func src dst : Nat} (hp : prio < 8) (hf : func < 32) (hs : src < 512) (hd : dst < 512) :
    (mkIdent prio true func src dst).toNat % 4 = 0 ∧ framePrio (mkIdent prio true func src dst) = prio ∧
    frameBcast (mkIdent prio true func src dst) = true ∧ frameFunc (mkIdent prio true func src dst) = func ∧
    frameSrc (mkIdent prio true func src dst) = src ∧ frameDst (mkIdent prio true func src dst) = dst := by
  have value : (mkIdent prio true func src dst).toNat = prio * 2 ^ 26 + 2 ^ 25 + func * 2 ^ 20 + src * 2 ^ 11 + dst * 4 := by
    rw [mkIdent, BitVec.toNat_ofNat, if_pos rfl, Nat.mod_eq_of_lt]
    omega
  rw [framePrio, frameBcast, frameFunc, frameSrc, frameDst, value, Nat.testBit_eq_decide_div_mod_eq, decide_eq_true_eq]
  omega

/-- The frames of a message that one frame holds. -/
theorem groupFrames_one (ident : BitVec 29) (tid : Nat) (prot : Bool) {msg : Bytes} (h : msg.length ≤ 60) :
    groupFrames ident tid prot false msg = [requestFrame ident tid prot 0 msg 1 0] := by
  have one : max 1 (min 16 ((msg.length + 59) / 60)) = 1 := by omega
  rw [groupFrames, one]
  rfl

section

variable {s : State} {p : Port} {ident : BitVec 29} {tid : Nat} {msg : Bytes}

theorem requestFrame_formatted (prot : Bool) (aux n i : Nat) (low : ident.toNat % 4 = 0) :
    Formatted (requestFrame ident tid prot aux msg n i) := ⟨rfl, rfl, rfl, rfl, low⟩

/-- A message of one frame that a port takes in as one for every unit. -/
theorem State.receiveAll_broadcast {prio func src : Nat} (hp : prio < 8) (hf : func < 13) (hs : src < 512)
    (fits : msg.length ≤ 60) (up : s.portUp p = true) (serves : s.vintServes = true)
    (foreign : s.unassigned = true ∨ src ≠ s.field.effective)
    (right : func = 7 ∨ func = 8 ∨ prioOk func prio = true) :
    s.receiveAll p (groupFrames (mkIdent prio true func src 0x1FF) tid false false msg) =
      (let f := requestFrame (mkIdent prio true func src 0x1FF) tid false 0 msg 1 0
       (if (s.countRx p).forwards p f then (s.countRx p).forwardFrame p f else s.countRx p).localFrame p f) := by
  obtain ⟨low, hprio, bcast, hfunc, hsrc, hdst⟩ := broadcastIdent_fields (dst := 0x1FF) hp (by omega : func < 32) hs (by decide)
  have hsvc : frameSvc (mkIdent prio true func src 0x1FF) = func := by
    rw [frameSvc, hfunc]
    omega
  have considered : s.Considers (requestFrame (mkIdent prio true func src 0x1FF) tid false 0 msg 1 0) :=
    ⟨foreign.imp_right fun h e => h (hsrc.symm.trans e), .inr (.inr hdst)⟩
  have meaningful : Meaningful (requestFrame (mkIdent prio true func src 0x1FF) tid false 0 msg 1 0) := by
    refine ⟨Nat.not_lt.mp (four_le_length_request _ _ _ _ _ _ _), hsvc.trans_lt hf, fun asked => ?_⟩
    show prioOk (frameSvc (mkIdent prio true func src 0x1FF)) (framePrio (mkIdent prio true func src 0x1FF)) = true
    rw [hsvc, hprio]
    simp only [frameRequest, requestFrame, hfunc, Bool.and_eq_true, bne_iff_ne, ne_eq] at asked
    exact (right.resolve_left asked.1.2).resolve_left asked.2
  have here : (s.countRx p).isLocal (requestFrame (mkIdent prio true func src 0x1FF) tid false 0 msg 1 0) = true := by
    simp [State.isLocal, requestFrame, bcast]
  rw [groupFrames_one _ _ _ fits, State.receiveAll, List.foldl_cons, List.foldl_nil]
  exact State.receiveFrame_local up serves (requestFrame_formatted false 0 1 0 low) considered meaningful here

end

/-! ## What a frame passed on leaves to its reception (R239 to R243, R286) -/

/-- The registers that passing a frame on may write. -/
def forwardKey (k : Nat) : Bool :=
  reportKey k || k == Obj.fieldSticky || k == Obj.bridgeHopLimitCount || k == Obj.portForwardDropped 0
    || k == Obj.portForwardDropped 1

/-- A state that has left the slots of a queue, the groups in reassembly and the registers that a port's reception reads
as they were. -/
structure Undisturbed (q : Nat) (s t : State) : Prop where
  reasm : t.field.reasm = s.field.reasm
  slots : t.occupied q = s.occupied q
  get : ∀ k, forwardKey k = false → t.get k = s.get k

section

variable {s t u : State} {q : Nat}

theorem Undisturbed.refl (q : Nat) (s : State) : Undisturbed q s s := ⟨rfl, rfl, fun _ _ => rfl⟩

theorem Undisturbed.trans (h : Undisturbed q s t) (g : Undisturbed q t u) : Undisturbed q s u :=
  ⟨g.reasm.trans h.reasm, g.slots.trans h.slots, fun k hk => (g.get k hk).trans (h.get k hk)⟩

theorem Undisturbed.credits (h : Undisturbed q s t) : t.credits q = s.credits q := by
  rw [State.credits, State.credits, h.slots]

theorem Undisturbed.of_reported (h : Reported s t) (slots : t.occupied q = s.occupied q) : Undisturbed q s t :=
  ⟨congrArg Field.reasm h.field, slots, fun k hk => h.get k (by
    simp only [forwardKey, Bool.or_eq_false_iff] at hk
    exact hk.1.1.1.1)⟩

theorem Undisturbed.set {k : Nat} (v : Nat) (hk : forwardKey k = true) : Undisturbed q s (s.set k v) :=
  ⟨rfl, rfl, fun j hj => s.get_set_ne k j v fun e => by rw [e, hk] at hj; cases hj⟩

theorem Undisturbed.ite {c : Prop} [Decidable c] (ht : Undisturbed q s t) (hu : Undisturbed q s u) :
    Undisturbed q s (if c then t else u) := by
  split
  · exact ht
  · exact hu

theorem Undisturbed.foldl {α : Type} {f : State → α → State} (hf : ∀ u a, Undisturbed q u (f u a)) (l : List α) (s : State) :
    Undisturbed q s (l.foldl f s) := by
  induction l generalizing s with
  | nil => exact .refl q s
  | cons a l ih => exact (hf s a).trans (ih (f s a))

/-- A message placed in another queue. -/
theorem State.occupied_place (s : State) {m : QMsg} (h : m.queue ≠ q) : (s.place m).occupied q = s.occupied q := by
  have noted (w : State) : (w.noteHigh m.queue).occupied q = w.occupied q :=
    prop_ite (P := fun t : State => t.occupied q = w.occupied q) rfl rfl
  rw [State.place, noted]
  simp only [State.occupied, List.foldl_append, List.foldl_cons, List.foldl_nil]
  rw [if_neg (fun e => h e.1)]

/-- A post to another queue. -/
theorem State.occupied_post (s : State) (k : PostKind) {x : Nat} (n : Nat) (b : Msg) (h : x ≠ q) :
    (s.post k x n b).occupied q = s.occupied q := by
  have keep {c : Prop} [Decidable c] {a b : State} (ha : a.occupied q = s.occupied q) (hb : b.occupied q = s.occupied q) :
      (if c then a else b).occupied q = s.occupied q := prop_ite (P := fun t : State => t.occupied q = s.occupied q) ha hb
  unfold State.post
  dsimp only
  refine keep (s.occupied_place h) (keep rfl ?_)
  split
  · exact keep (s.occupied_place (m := ⟨x, n, true, 1, s.now, b⟩) h) rfl
  · rfl
  · rfl
  · exact keep (keep rfl rfl) rfl

theorem Undisturbed.post (k : PostKind) {x : Nat} (n : Nat) (b : Msg) (h : x ≠ q) : Undisturbed q s (s.post k x n b) :=
  .of_reported (s.post_reported k x n b) (s.occupied_post k n b h)

theorem Undisturbed.dropForwarded (p : Port) (f : CanFrame) (i : BitVec 29) {x : Nat} (other : x ≠ q) :
    Undisturbed q s (s.dropForwarded p f i x) := by
  have removed (keep : QMsg → Bool) (h : ∀ m, m.queue = q → keep m = true) :
      Undisturbed q s { s with q.msgs := s.q.msgs.filter keep } := by
    refine ⟨rfl, ?_, fun _ _ => rfl⟩
    simp only [State.occupied, List.foldl_filter]
    congr 2
    funext n m
    by_cases hm : m.queue = q
    · rw [if_pos (h m hm)]
    · simp [hm]
  unfold State.dropForwarded
  dsimp only
  refine .trans (t := if frameFirst f then s else _) (.ite (.refl q s) (removed _ fun m hm => ?_)) (.ite (.refl q _)
    ⟨rfl, rfl, fun _ _ => rfl⟩)
  have away : (m.queue == x) = false := beq_false_of_ne (hm ▸ other.symm)
  rw [away]
  rfl

theorem forwardQueue_ne (i : BitVec 29) (p : Port) {q : Nat} (intake : q = 0x18 ∨ q = 0x19) :
    forwardQueue i + portNum p ≠ q := by
  have small : portNum p ≤ 1 := by cases p <;> decide
  have queues : forwardQueue i = 0x06 ∨ forwardQueue i = 0x1C ∨ forwardQueue i = 0x87 ∨ forwardQueue i = 0x50 := by
    unfold forwardQueue
    dsimp only
    split_ifs
    · exact .inl rfl
    · exact .inr (.inl rfl)
    · exact .inr (.inr (.inl rfl))
    · exact .inr (.inr (.inr rfl))
  omega

end

section

variable {s : State} {q : Nat} (intake : q = 0x18 ∨ q = 0x19)
include intake

/-- A record goes to a log queue. -/
theorem Undisturbed.log (code sev inst : Nat) (bs : Bytes) : Undisturbed q s (s.log .vintner code sev inst bs) := by
  refine .post _ _ _ ?_
  split
  · omega
  · split
    · omega
    · omega

theorem Undisturbed.sendFrames (k : PostKind) (p : Port) (fs : List CanFrame) :
    Undisturbed q s (s.sendFrames k p 0x1A fs) := by
  have other : 0x1A + portNum p ≠ q := by rcases intake with rfl | rfl <;> cases p <;> decide
  have posted : Undisturbed q s (fs.foldl (fun s f => s.post k (0x1A + portNum p) 1 (.frame f)) s) :=
    .foldl (fun u f => .post k 1 (.frame f) other) fs s
  unfold State.sendFrames
  dsimp only
  refine .ite (.of_reported (s.txExpired_reported _) ?_) (.ite posted (posted.trans ⟨rfl, rfl, fun _ _ => rfl⟩))
  exact prop_ite (P := fun t : State => t.occupied q = s.occupied q) rfl rfl

theorem Undisturbed.notify (event slot : Nat) (data : Bytes) : Undisturbed q s (s.notify event slot data) := by
  unfold State.notify
  dsimp only
  refine .ite ?_ (.refl q s)
  exact (Undisturbed.set _ rfl).trans (.foldl (fun u p => .ite (.sendFrames intake _ _ _) (.refl q u)) _ _)

theorem Undisturbed.noteSummary : Undisturbed q s s.noteSummary := by
  have raised : Undisturbed q s (({ s with hp.lastSummary := BitVec.ofNat 32 (summaryOf s.dict) }).raiseIrq 1) :=
    ⟨rfl, rfl, fun _ _ => rfl⟩
  unfold State.noteSummary
  exact .ite (.refl q s) (raised.trans (.notify intake _ _ _))

/-- A sticky flag of the field network. -/
theorem Undisturbed.flag (bit : Nat) : Undisturbed q s (s.flag Obj.fieldSticky bit) :=
  .trans (t := s.set Obj.fieldSticky (setBit (s.get Obj.fieldSticky) bit)) (.set _ rfl) (.noteSummary intake)

/-- A frame that asks nothing, passed on. -/
theorem Undisturbed.forwardFrame (p : Port) {f : CanFrame} (plain : frameRequest f.ident = false) :
    Undisturbed q s (s.forwardFrame p f) := by
  have dropped (out : Port) : forwardKey (Obj.portForwardDropped (portNum out)) = true := by cases out <;> decide
  have other := forwardQueue_ne f.ident p intake
  have forgotten : Undisturbed q s (s.forgetDropped p f) := .ite ⟨rfl, rfl, fun _ _ => rfl⟩ (.refl q s)
  unfold State.forwardFrame
  simp only [plain, Bool.false_and, Bool.false_eq_true, false_and, if_false]
  refine forgotten.trans (.ite ?hops (.ite ?lost (.ite ?unusable (.ite ?closed (.ite ?passed ?full)))))
  case hops => exact (Undisturbed.set _ rfl).trans ((Undisturbed.flag intake 7).trans (.log intake _ _ _ _))
  case lost => exact .set _ (dropped _)
  case unusable => exact .refl q _
  case closed =>
    exact .of_reported (State.txExpired_reported _ _) (prop_ite (P := fun t : State => t.occupied q = _) rfl rfl)
  case passed =>
    exact (Undisturbed.post _ _ _ other).trans (.ite (.refl q _) ⟨rfl, rfl, fun _ _ => rfl⟩)
  case full =>
    exact (Undisturbed.flag intake 8).trans ((Undisturbed.set _ (dropped _)).trans
      ((Undisturbed.dropForwarded p f _ other).trans ⟨rfl, rfl, fun _ _ => rfl⟩))

end

end Sys2Proof.Machine

namespace Sys2Proof.Machine

open Sys2Proof

/-! ## Nodes present (R216, R229, R230, R307) -/

theorem testBit_setBit_ne (v : Nat) {i j : Nat} (h : j ≠ i) : (setBit v i).testBit j = v.testBit j := by
  rw [setBit, Nat.testBit_or, Nat.testBit_two_pow_of_ne h.symm, Bool.or_false]

theorem testBit_clearBit_ne (v : Nat) {i j : Nat} (h : j ≠ i) : (clearBit v i).testBit j = v.testBit j := by
  unfold clearBit
  split
  · next set =>
    have part : 2 ^ i &&& v = 2 ^ i := by rw [Nat.and_comm, Nat.and_two_pow, set, Bool.toNat_true, Nat.one_mul]
    rw [testBit_sub_of_and_eq part, Nat.testBit_two_pow_of_ne h.symm, Bool.not_false, Bool.and_true]
  · rfl

/-- A node heard is present, and every other as before; its time offline starts afresh. -/
theorem State.heard_shows (s : State) (src : Nat) : (s.heard src).bit Obj.fieldNodePresent src = true ∧
    (∀ n, n ≠ src → (s.heard src).bit Obj.fieldNodePresent n = s.bit Obj.fieldNodePresent n) ∧
    (s.heard src).deadline (.offline src) = some (s.now + 1000 * s.get Obj.fieldOfflineTime) := by
  have present : (s.heard src).get Obj.fieldNodePresent = setBit (s.get Obj.fieldNodePresent) src := State.get_set_self ..
  refine ⟨?_, fun n other => ?_, State.deadline_arm_self ..⟩
  · rw [State.bit, present, testBit_setBit_self]
  · rw [State.bit, present, testBit_setBit_ne _ other, State.bit]

section

variable {s w : State} {p : Port} {f : CanFrame}

/-- A Heartbeat taken in: it ends a group of its source, and counts where its queue has a credit. -/
theorem State.localFrame_heartbeat (func : frameFunc f.ident = 8) (first : frameFirst f = true)
    (serves : w.vintServes = true) : w.localFrame p f =
      (let t := w.interruptGroup f
       if t.credits (0x18 + portNum p) = 0 then t.countDrop (0x18 + portNum p) else t.heard (frameSrc f.ident)) := by
  have up : ¬ w.vintnerDown = true := by simp [State.vintnerDown_of_serves serves]
  rw [State.localFrame, if_pos (.inr (.inl func)), if_neg up]
  exact if_pos ⟨func, first⟩

theorem State.interruptGroup_none (h : w.groupFrom (frameSrc f.ident) = none) : w.interruptGroup f = w := by
  rw [State.interruptGroup, h]

theorem State.interruptGroup_some {g : Reasm} (h : w.groupFrom (frameSrc f.ident) = some g) :
    w.interruptGroup f = (w.dropGroup g).groupAbort g.port g.ident g.tid g.body (0x0D, 3) := by
  rw [State.interruptGroup, h]

end

/-- The frame of a Heartbeat that a node sends; its bytes are a free value (log entry 4). -/
def State.heartbeatFrame (s : State) (src : BitVec 9) : CanFrame :=
  requestFrame (mkIdent 1 true 8 src.toNat 0x1FF) 0 false 0 (leBytes 20 s.draw.1) 1 0

/-- The state in which a port has counted a frame whose bytes were a free value. -/
def State.countDrawn (s : State) (p : Port) : State := ({ s with free := s.free + 1 }).countRx p

section

variable {s : State} {p : Port} {src : BitVec 9}

theorem State.heartbeatFrame_fields : frameFunc (s.heartbeatFrame src).ident = 8 ∧
    frameSrc (s.heartbeatFrame src).ident = src.toNat ∧ frameFirst (s.heartbeatFrame src) = true ∧
    frameRequest (s.heartbeatFrame src).ident = false := by
  obtain ⟨-, -, -, func, sender, -⟩ := broadcastIdent_fields (prio := 1) (func := 8) (dst := 0x1FF) (by decide) (by decide)
    src.isLt (by decide)
  refine ⟨func, sender, frameFirst_request _ _ _ _ _ _ _ (by decide), ?_⟩
  rw [frameRequest, show frameFunc (s.heartbeatFrame src).ident = 8 from func]
  rfl

/-- A Heartbeat of another node, passed on where the unit bridges, is taken in. -/
theorem exec_heartbeatReceive (up : s.portUp p = true) (serves : s.vintServes = true)
    (foreign : src.toNat ≠ s.field.effective) : exec (.heartbeatReceive p src) s = .next
      ((if (s.countDrawn p).forwards p (s.heartbeatFrame src) then (s.countDrawn p).forwardFrame p (s.heartbeatFrame src)
        else s.countDrawn p).localFrame p (s.heartbeatFrame src)) :=
  congrArg Host.Outcome.next (State.receiveAll_broadcast (s := { s with free := s.free + 1 }) (by decide) (by decide)
    src.isLt (by simp) up serves (.inr foreign) (.inr (.inl rfl)))

theorem exec_heartbeatReceive_present (up : s.portUp p = true) (serves : s.vintServes = true)
    (foreign : src.toNat ≠ s.field.effective) (alone : s.groupFrom src.toNat = none)
    (credit : 1 ≤ s.credits (0x18 + portNum p)) : Claims.Answers (.heartbeatReceive p src) s (fun t =>
      t.bit Obj.fieldNodePresent src.toNat = true ∧
      (∀ n, n ≠ src.toNat → t.bit Obj.fieldNodePresent n = s.bit Obj.fieldNodePresent n) ∧
      t.deadline (.offline src.toNat) = some (s.now + 1000 * s.get Obj.fieldOfflineTime)) := by
  obtain ⟨func, hsrc, first, plain⟩ := State.heartbeatFrame_fields (s := s) (src := src)
  have intake : 0x18 + portNum p = 0x18 ∨ 0x18 + portNum p = 0x19 := by cases p <;> decide
  let w := if (s.countDrawn p).forwards p (s.heartbeatFrame src) then
    (s.countDrawn p).forwardFrame p (s.heartbeatFrame src) else s.countDrawn p
  have passed : Undisturbed (0x18 + portNum p) (s.countDrawn p) w := .ite (.forwardFrame intake p plain) (.refl _ _)
  have frame : Fr 62914566 (s.countDrawn p) w := fr_ite (State.forwardFrame_fr _ _ _ rfl (Fr.refl _ _)) (Fr.refl _ _)
  have counted {k : Nat} (hk : k ≠ Obj.portRxFrames (portNum p)) (free : forwardKey k = false) : w.get k = s.get k :=
    (passed.get k free).trans (State.get_bump_ne { s with free := s.free + 1 } _ _ _ hk)
  have serves' : w.vintServes = true := by
    rw [State.vintServes, frame.power rfl, frame.sec rfl]
    exact serves
  have alone' : w.groupFrom (frameSrc (s.heartbeatFrame src).ident) = none := by
    rw [State.groupFrom, passed.reasm, hsrc]
    exact alone
  have credit' : w.credits (0x18 + portNum p) ≠ 0 := by
    rw [passed.credits]
    exact Nat.one_le_iff_ne_zero.mp credit
  have now : w.now = s.now := congrArg Clocks.nowUs (frame.time rfl)
  obtain ⟨present, others, deadline⟩ := w.heard_shows src.toNat
  have answer := exec_heartbeatReceive up serves foreign
  rw [State.localFrame_heartbeat func first serves', State.interruptGroup_none alone', hsrc] at answer
  refine ⟨_, answer.trans (congrArg Host.Outcome.next (if_neg credit')), present, fun n other => ?_, ?_⟩
  · rw [others n other, State.bit, State.bit, counted (by cases p <;> decide) rfl]
  · rw [deadline, now, counted (by cases p <;> decide) rfl]

theorem exec_heartbeatReceive_breaksOff {g : Reasm} (up : s.portUp p = true) (serves : s.vintServes = true)
    (foreign : src.toNat ≠ s.field.effective) (found : s.groupFrom src.toNat = some g) (alone : s.bridges = false) :
    exec (.heartbeatReceive p src) s = .next (
      let u := (s.countDrawn p).dropGroup g
      let v := u.groupAbort g.port g.ident g.tid g.body (0x0D, 3)
      if v.credits (0x18 + portNum p) = 0 then v.countDrop (0x18 + portNum p) else v.heard src.toNat) := by
  obtain ⟨func, hsrc, first, -⟩ := State.heartbeatFrame_fields (s := s) (src := src)
  have stays : ¬ (s.countDrawn p).forwards p (s.heartbeatFrame src) = true := by
    have quiet : (s.countDrawn p).bridges = false := (State.bridges_bump { s with free := s.free + 1 } p 1).trans alone
    simp [State.forwards, quiet]
  have found' : (s.countDrawn p).groupFrom (frameSrc (s.heartbeatFrame src).ident) = some g := by
    rw [hsrc]
    exact found
  have serves' : (s.countDrawn p).vintServes = true := serves
  rw [exec_heartbeatReceive up serves foreign, if_neg stays, State.localFrame_heartbeat func first serves',
    State.interruptGroup_some found', hsrc]

theorem exec_nodeOffline {d : Nat} (due : s.deadline (.offline src.toNat) = some d) :
    Claims.Answers (.nodeOffline src) s (fun t => t.bit Obj.fieldNodePresent src.toNat = false ∧
      (∀ n, n ≠ src.toNat → t.bit Obj.fieldNodePresent n = s.bit Obj.fieldNodePresent n) ∧
      t.field = s.field ∧ t.mems = s.mems) := by
  let u := Claims.expired s (.offline src.toNat) d
  let w := u.set Obj.fieldNodePresent (clearBit (u.get Obj.fieldNodePresent) src.toNat)
  have told : Reported w (w.notify 6 0xFFFF (leBytes 2 src.toNat)) := w.notify_reported ..
  have cleared : (w.notify 6 0xFFFF (leBytes 2 src.toNat)).get Obj.fieldNodePresent =
      clearBit (s.get Obj.fieldNodePresent) src.toNat := by
    rw [told.get _ rfl, State.get_set_self, State.get_expired _ _ _ _ (by decide) (by decide) (by decide)]
  refine ⟨_, congrArg Host.Outcome.next (State.onTimer_of_deadline _ due), ?_, fun n other => ?_, ?_, ?_⟩
  · exact (congrArg (Nat.testBit · _) cleared).trans (testBit_clearBit_self _ _)
  · exact (congrArg (Nat.testBit · _) cleared).trans (testBit_clearBit_ne _ other)
  · exact told.field.trans ((expired_fr s (.offline src.toNat) d).field rfl)
  · exact told.mems.trans (expired_mems s (.offline src.toNat) d)

end

/-- Settles O21: a Heartbeat with its queue's credit, one in the midst of a group, and the time that passes without one. -/
theorem presenceFollowsHeartbeats : Obligations.PresenceFollowsHeartbeats := by
  unfold Obligations.PresenceFollowsHeartbeats
  exact fun s p src => ⟨exec_heartbeatReceive_present,
    fun g up serves foreign found alone => exec_heartbeatReceive_breaksOff up serves foreign found alone,
    fun d due => exec_nodeOffline due⟩

end Sys2Proof.Machine

namespace Sys2Proof.Machine

open Sys2Proof

/-! ## The messages of TimeSet, Assign and BridgeControl (Tables 6-9, 6-13 and 6-15) -/

/-- A TimeSet's message. -/
def timeSetBody (utc : BitVec 64) (micros : BitVec 32) (source : Byte) : Bytes :=
  leBytes 8 utc.toNat ++ leBytes 4 micros.toNat ++ [source, 0#8, 0#8, 0#8]

/-- An Assign's message. -/
def assignBody (a : BitVec 16) (serial : BitVec 64) (segA segB : Byte) : Bytes :=
  [2#8, 0#8] ++ leBytes 2 a.toNat ++ leBytes 8 serial.toNat ++ [segA, segB, 0#8, 0#8]

/-- A SetRoutes' message. -/
def setRoutesBody (start count : BitVec 16) (codes : Bytes) : Bytes :=
  [2#8, 0#8] ++ leBytes 2 start.toNat ++ leBytes 2 count.toNat ++ codes

theorem timeSetBody_length (utc : BitVec 64) (micros : BitVec 32) (source : Byte) : (timeSetBody utc micros source).length = 16 := by
  simp [timeSetBody]

theorem timeSetBody_fields (utc : BitVec 64) (micros : BitVec 32) (source : Byte) :
    sliceBytes (timeSetBody utc micros source) 0 12 = leBytes 8 utc.toNat ++ leBytes 4 micros.toNat ∧
    fieldAt (timeSetBody utc micros source) 8 4 = micros.toNat ∧ fieldAt (timeSetBody utc micros source) 12 1 = source.toNat := by
  refine ⟨?_, ?_, fieldAt_zero_one source _⟩
  · have time := sliceBytes_middle [] (leBytes 8 utc.toNat ++ leBytes 4 micros.toNat) [source, 0#8, 0#8, 0#8]
    rwa [List.length_append, leBytes_length, leBytes_length] at time
  · have field := fieldAt_leBytes (leBytes 8 utc.toNat) [source, 0#8, 0#8, 0#8] 4 _ micros.isLt
    rwa [leBytes_length] at field

theorem assignBody_fields (a : BitVec 16) (serial : BitVec 64) (segA segB : Byte) :
    fieldAt (assignBody a serial segA segB) 2 2 = a.toNat ∧ sliceBytes (assignBody a serial segA segB) 4 8 = leBytes 8 serial.toNat ∧
    fieldAt (assignBody a serial segA segB) 12 1 = segA.toNat ∧ fieldAt (assignBody a serial segA segB) 13 1 = segB.toNat := by
  refine ⟨?_, ?_, fieldAt_zero_one segA _, fieldAt_zero_one segB _⟩
  · rw [assignBody, List.append_assoc _ (leBytes 8 _)]
    exact fieldAt_leBytes [2#8, 0#8] _ 2 _ a.isLt
  · have named := sliceBytes_middle ([2#8, 0#8] ++ leBytes 2 a.toNat) (leBytes 8 serial.toNat) [segA, segB, 0#8, 0#8]
    rwa [List.length_append, leBytes_length, leBytes_length] at named

theorem setRoutesBody_fields (start count : BitVec 16) (codes : Bytes) :
    fieldAt (setRoutesBody start count codes) 2 2 = start.toNat ∧ fieldAt (setRoutesBody start count codes) 4 2 = count.toNat ∧
    (setRoutesBody start count codes).drop 6 = codes := by
  refine ⟨?_, ?_, rfl⟩
  · rw [setRoutesBody, List.append_assoc _ (leBytes 2 count.toNat)]
    exact fieldAt_leBytes [2#8, 0#8] _ 2 _ start.isLt
  · have field := fieldAt_leBytes ([2#8, 0#8] ++ leBytes 2 start.toNat) codes 2 _ count.isLt
    rwa [List.length_append, leBytes_length] at field

/-! ## TimeSet (R233) -/

section

variable {s u : State} {r : ReqCtx} {b : Bytes} {c : Caller} {utc : BitVec 64} {micros : BitVec 32} {source : Byte}

theorem timeFault_none (hm : micros.toNat ≤ 999999) (hs : source.toNat ≤ 2) : timeFault (timeSetBody utc micros source) = none := by
  obtain ⟨-, hmicros, hsource⟩ := timeSetBody_fields utc micros source
  rw [timeFault, hmicros, hsource, if_neg (by omega), if_neg (by omega)]

/-- The anchor that a TimeSet sets: its time paired with the operating seconds. -/
theorem State.anchorBytes_eq (s : State) (role : Option Nat) (src : Nat) :
    s.anchorBytes (timeSetBody utc micros source) role src =
      leBytes 8 utc.toNat ++ leBytes 4 micros.toNat ++ leBytes 4 s.opSeconds
        ++ [source, if role.any (fun n => decide (1 ≤ n)) then 1#8 else 0#8] ++ leBytes 2 src ++ [0#8, 0#8, 0#8, 0#8] := by
  obtain ⟨htime, -, hsource⟩ := timeSetBody_fields utc micros source
  rw [State.anchorBytes, htime, hsource, byteOf_byte]

theorem State.get_setAnchor (s : State) (c : Caller) (b : Bytes) :
    (s.setAnchor c b).get Obj.fieldTimeAnchor = leNat (s.anchorBytes b c.role c.dest.peer) := by
  rw [State.setAnchor]
  exact (State.get_log _ _ _ _ _ _ _ rfl).trans (State.get_set_self _ _ _)

/-- A head-end's TimeSet past its checks. -/
theorem State.serveTimeSet_eq (head : 256 ≤ c.dest.peer) (valid : u.invalidCheck = none) (power : u.powerCheck = none)
    (hm : micros.toNat ≤ 999999) (hs : source.toNat ≤ 2) : u.serveTimeSet c (timeSetBody utc micros source) =
      (u.activity.setAnchor c (timeSetBody utc micros source)).answer c ([0#8, 0#8] ++ leBytes 4 u.activity.opSeconds) := by
  rw [State.serveTimeSet, if_neg (Nat.not_lt.mpr head)]
  exact State.gated_of_none _ _ _ _ _ _ (firstAbort_none (by simp [valid, power]))
    (firstAbort_none (by simp [timeFault_none hm hs]))

theorem State.opSeconds_activity (u : State) : u.activity.opSeconds = u.opSeconds := by
  obtain ⟨-, -, get, -⟩ := u.activity_stages
  exact get _

/-- A TimeSet that is served came to this unit alone. -/
theorem timeSet_message {broadcast : Bool} (h : Claims.Served (.timeSet r broadcast utc micros source) s r b c u) :
    Claims.message (.timeSet r broadcast utc micros source) = some (r, 9, 0, timeSetBody utc micros source) := by
  obtain ⟨svc, aux, message, -⟩ := h
  by_cases away : (broadcast && r.via != .host) = true
  · have silent : Claims.message (.timeSet r broadcast utc micros source) = none := if_pos away
    rw [silent] at message
    cases message
  · exact if_neg away

theorem exec_timeSet {broadcast : Bool} (h : Claims.Served (.timeSet r broadcast utc micros source) s r b c u)
    (head : 256 ≤ reqPeer r) (valid : u.invalidCheck = none) (power : u.powerCheck = none) (hm : micros.toNat ≤ 999999)
    (hs : source.toNat ≤ 2) : exec (.timeSet r broadcast utc micros source) s = .next (Claims.finished s r (
      let a := leBytes 8 utc.toNat ++ leBytes 4 micros.toNat ++ leBytes 4 u.opSeconds
        ++ [source, if c.role.any (fun n => decide (1 ≤ n)) then 1#8 else 0#8] ++ leBytes 2 (reqPeer r) ++ [0#8, 0#8, 0#8, 0#8]
      let w := (u.activity.set Obj.fieldTimeAnchor (leNat a)).log .vintner 0x8201 0 31 (a.take 16)
      w.answer c ([0#8, 0#8] ++ leBytes 4 u.opSeconds))) := by
  obtain ⟨-, rfl, called, hexec⟩ := Claims.exec_acts h (timeSet_message h)
  rw [hexec, State.act, called.svc]
  dsimp only
  rw [State.serveTimeSet_eq (called.peer ▸ head) valid power hm hs, State.setAnchor, State.anchorBytes_eq, called.peer,
    u.opSeconds_activity]
  rfl

end

/-! ## A broadcast TimeSet (R208, R211, R218, R233, R287) -/

section

variable {s : State} {p : Port} {ident : BitVec 29} {tid : Nat} {msg : Bytes}

/-- A message of one frame for every unit, taken in whole by an assigned unit with no group of its source in reassembly. -/
theorem State.localFrame_whole {aux : Nat} {prot : Bool} (htid : tid < 256) (haux : aux < 256)
    (plain : ¬ (frameFunc ident = 7 ∨ frameFunc ident = 8 ∨ 16 ≤ frameFunc ident)) (assigned : s.unassigned = false)
    (alone : s.groupFrom (frameSrc ident) = none) (credit : 0 < s.credits (intakeQueue (portVia p) (frameSvc ident))) :
    s.localFrame p (requestFrame ident tid prot aux msg 1 0) =
      s.takeGroup p ident tid aux prot (msg.take 60) (rawOf (requestFrame ident tid prot aux msg 1 0)) := by
  have first : frameFirst (requestFrame ident tid prot aux msg 1 0) = true := frameFirst_request _ _ _ _ _ _ _ (by decide)
  have alone' : s.groupFrom (frameSrc (requestFrame ident tid prot aux msg 1 0).ident) = none := alone
  rw [State.localFrame]
  refine (if_neg plain).trans ((if_neg (by simp [assigned])).trans ?_)
  rw [State.assemble, alone', first]
  exact State.firstFrame_whole htid haux credit

/-- A broadcast TimeSet that is no retransmission is remembered, and sets the anchor. -/
theorem State.takeGroup_broadcastTime {aux : Nat} {raw : Bytes} (bcast : frameBcast ident = true) (svc : frameSvc ident = 9)
    (serves : s.vintServes = true) (assigned : s.unassigned = false) (new : s.repeated (frameSrc ident) tid raw = none)
    (whole : msg.length = 16) : s.takeGroup p ident tid aux false msg raw =
      (s.rememberGroup (frameSrc ident) tid raw).handle (fun s =>
        s.takeTimeSet ⟨none, none, aux, false, ⟨portVia p, frameSrc ident, 0xFFFF, framePrio ident, tid, 9, none⟩⟩ msg) := by
  have up : s.vintnerDown = false := State.vintnerDown_of_serves serves
  rw [State.takeGroup]
  dsimp only
  rw [svc, if_pos ⟨bcast, .inl rfl⟩, if_neg (by simp [up, assigned]), new]
  dsimp only
  rw [if_pos rfl]
  refine congrArg (State.handle _) (funext fun w => ?_)
  show (if msg.length = 16 then w.takeTimeSet _ msg else w) = _
  rw [if_pos whole]

end

section

variable {s : State} {r : ReqCtx} {utc : BitVec 64} {micros : BitVec 32} {source : Byte}

theorem State.get_takeTimeSet {c : Caller} (head : 256 ≤ c.dest.peer) (valid : s.lifecycle ≠ 4) (runs : s.running = true)
    (hm : micros.toNat ≤ 999999) (hs : source.toNat ≤ 2) :
    (s.takeTimeSet c (timeSetBody utc micros source)).get Obj.fieldTimeAnchor =
      leNat (s.anchorBytes (timeSetBody utc micros source) c.role c.dest.peer) := by
  rw [State.takeTimeSet, if_neg (by simp [timeFault_none hm hs, runs, valid, head]), State.get_setAnchor, State.anchorBytes,
    State.opSeconds_activity, State.anchorBytes]

/-- What a port that bridges nothing makes of a broadcast TimeSet of one source. -/
theorem State.receiveAll_timeSet {p : Port} {src tid : Nat} (hsrc : src < 512) (htid : tid < 256) (up : s.portUp p = true)
    (serves : s.vintServes = true) (assigned : s.unassigned = false) (foreign : src ≠ s.field.effective)
    (quiet : s.bridges = false) (alone : s.groupFrom src = none) (new : ∀ x ∈ s.field.retx, x.src = src → x.tid ≠ tid)
    (credit : 0 < s.credits (intakeQueue (portVia p) 9)) : ∃ raw,
    s.receiveAll p (groupFrames (mkIdent 2 true 9 src 0x1FF) tid false false (timeSetBody utc micros source)) =
      ((s.countRx p).rememberGroup src tid raw).handle (fun s =>
        s.takeTimeSet ⟨none, none, 0, false, ⟨portVia p, src, 0xFFFF, 2, tid, 9, none⟩⟩ (timeSetBody utc micros source)) := by
  have short : (timeSetBody utc micros source).length ≤ 60 := (timeSetBody_length ..).trans_le (by decide)
  obtain ⟨-, hprio, bcast, func, sender, -⟩ := broadcastIdent_fields (prio := 2) (func := 9) (dst := 0x1FF) (by decide)
    (by decide) hsrc (by decide)
  have svc : frameSvc (mkIdent 2 true 9 src 0x1FF) = 9 := by rw [frameSvc, func]
  have received := State.receiveAll_broadcast (tid := tid) (by decide : 2 < 8) (by decide : 9 < 13) hsrc short up serves
    (.inr foreign) (.inr (.inr (by decide)))
  have stays (f : CanFrame) : ¬ (s.countRx p).forwards p f = true := by
    have quiet' : (s.countRx p).bridges = false := (s.bridges_bump p 1).trans quiet
    simp [State.forwards, quiet']
  have new' (raw : Bytes) : (s.countRx p).repeated (frameSrc (mkIdent 2 true 9 src 0x1FF)) tid raw = none := by
    rw [sender, State.repeated, List.find?_eq_none]
    intro x hx same
    simp only [Bool.and_eq_true, beq_iff_eq] at same
    obtain ⟨⟨⟨hx1, hx2⟩, -⟩, -⟩ := same
    exact new x hx hx1 hx2
  have taken := State.localFrame_whole (s := s.countRx p) (p := p) (aux := 0) (prot := false)
    (msg := timeSetBody utc micros source) htid (by decide) (by rw [func]; decide) assigned (by rw [sender]; exact alone)
    (by rw [svc]; exact credit)
  rw [List.take_of_length_le short,
    State.takeGroup_broadcastTime (s := s.countRx p) bcast svc serves assigned (new' _) (timeSetBody_length ..), sender, hprio] at taken
  exact ⟨_, (received.trans (congrArg (fun t : State => t.localFrame p _) (if_neg (stays _)))).trans taken⟩

theorem exec_timeSet_broadcast (wf : r.wf = true) (via : r.via ≠ .host) (plain : r.trailer = none) (prio : r.prio = 2)
    (up : s.portUp (viaPort r.via) = true) (serves : s.vintServes = true) (known : s.field.effective ≠ 0xFFFF)
    (foreign : s.field.effective ≠ r.src.toNat) (head : 256 ≤ r.src.toNat) (quiet : s.bridges = false)
    (alone : s.groupFrom r.src.toNat = none)
    (new : ∀ x ∈ s.field.retx, x.src = r.src.toNat → x.tid ≠ r.tid.toNat) (credit : 1 ≤ s.credits (intakeQueue r.via 9))
    (valid : s.lifecycle ≠ 4) (runs : s.running = true) (hm : micros.toNat ≤ 999999) (hs : source.toNat ≤ 2) :
    Claims.Answers (.timeSet r true utc micros source) s (fun t => t.get Obj.fieldTimeAnchor =
      leNat (leBytes 8 utc.toNat ++ leBytes 4 micros.toNat ++ leBytes 4 s.opSeconds ++ [source, 0#8]
        ++ leBytes 2 r.src.toNat ++ [0#8, 0#8, 0#8, 0#8])) := by
  have src : r.src.toNat < 512 := by
    rw [ReqCtx.wf] at wf
    split at wf
    · exact absurd ‹_› via
    · exact of_decide_eq_true wf
  have assigned : s.unassigned = false := by simpa [State.unassigned] using known
  have port : (true && r.via != .host) = true := by simp [via]
  obtain ⟨raw, received⟩ := State.receiveAll_timeSet (utc := utc) (micros := micros) (source := source) src r.tid.isLt up serves
    assigned foreign.symm quiet alone new (by rw [portVia_viaPort via]; exact credit)
  have sent : exec (.timeSet r true utc micros source) s = .next (s.receiveAll (viaPort r.via)
      (groupFrames (mkIdent 2 true 9 r.src.toNat 0x1FF) r.tid.toNat false false (timeSetBody utc micros source))) := by
    refine congrArg Host.Outcome.next ((if_pos port).trans ?_)
    rw [reqMessage, plain, prio]
    rfl
  have seconds : ((s.countRx (viaPort r.via)).rememberGroup r.src.toNat r.tid.toNat raw).opSeconds = s.opSeconds :=
    State.get_bump_ne s _ _ 1 (by cases viaPort r.via <;> decide)
  refine ⟨_, sent.trans (congrArg Host.Outcome.next received), ?_⟩
  refine (State.get_takeTimeSet (s := { (s.countRx (viaPort r.via)).rememberGroup r.src.toNat r.tid.toNat raw with
    q.handling := true }) head valid runs hm hs).trans ?_
  rw [State.anchorBytes_eq]
  exact congrArg (fun n => leNat (leBytes 8 utc.toNat ++ leBytes 4 micros.toNat ++ leBytes 4 n ++ [source, 0#8]
    ++ leBytes 2 r.src.toNat ++ [0#8, 0#8, 0#8, 0#8])) seconds

end

end Sys2Proof.Machine

namespace Sys2Proof.Machine

open Sys2Proof

/-! ## Assign (R237) -/

/-- The three objects that an Assign writes. -/
def assignEntries (a : BitVec 16) (segA segB : Byte) : List (Nat × Nat) :=
  [(Obj.fieldNodeAddress, a.toNat), (Obj.fieldSegmentA, segA.toNat), (Obj.fieldSegmentB, segB.toNat)]

section

variable {s u : State} {r : ReqCtx} {b raw : Bytes} {c : Caller} {a : BitVec 16} {serial : BitVec 64} {segA segB : Byte}

/-- An Assign that names the unit, past its checks. -/
theorem State.serveAssign_eq (named : leBytes 8 serial.toNat = u.serial) (valid : u.invalidCheck = none)
    (role : u.field.effective = 0xFFFF ∨ u.needRole c.role 2 = none) (power : u.powerCheck = none) (trans : u.transCheck = none)
    (ready : u.readyCheck true 0x1100 = none) (range : a.toNat ≤ 255)
    (good : u.assignFault c (assignEntries a segA segB) = none) (free : u.eng.commit = none) :
    u.serveAssign c (assignBody a serial segA segB) =
      u.activity.tryCommit c (.assign a.toNat) none (assignEntries a segA segB) (assignBody a serial segA segB) := by
  obtain ⟨address, name, segmentA, segmentB⟩ := assignBody_fields a serial segA segB
  have role' : (if u.field.effective = 0xFFFF then none else u.needRole c.role 2) = none := by
    split
    · rfl
    · next assigned => exact role.resolve_left assigned
  have good' : u.assignFault c [(Obj.fieldNodeAddress, a.toNat), (Obj.fieldSegmentA, segA.toNat),
    (Obj.fieldSegmentB, segB.toNat)] = none := good
  have range' : (if 255 < a.toNat then some ((4, 1) : Abort) else none) = none := if_neg (by omega)
  have free' : u.activity.eng.commit = none := by rw [u.activity_same.1, free]
  rw [State.serveAssign]
  simp only [address, name, segmentA, segmentB]
  rw [if_neg (fun other => other named), State.gated_of_none _ _ _ _ _ _
    (firstAbort_none (by simp [valid, role', power, trans])) (firstAbort_none (by simp [ready, range', good']))]
  exact (State.commitOrWait_cases _ _ _ _).1 free'

theorem exec_assign (h : Claims.Served (.assign r a serial segA segB) s r b c u) (named : leBytes 8 serial.toNat = u.serial)
    (valid : u.invalidCheck = none) (role : u.field.effective = 0xFFFF ∨ u.needRole c.role 2 = none)
    (power : u.powerCheck = none) (trans : u.transCheck = none) (ready : u.readyCheck true 0x1100 = none)
    (range : a.toNat ≤ 255) (good : u.assignFault c (assignEntries a segA segB) = none) (free : u.eng.commit = none) :
    exec (.assign r a serial segA segB) s = .next (Claims.finished s r
      (u.activity.tryCommit c (.assign a.toNat) none (assignEntries a segA segB) b)) := by
  obtain ⟨-, rfl, called, hexec⟩ := Claims.exec_acts h (show Claims.message (.assign r a serial segA segB) =
    some (r, 10, 0, assignBody a serial segA segB) from rfl)
  rw [hexec, State.act, called.svc]
  exact congrArg (fun t => Host.Outcome.next (Claims.finished s r t))
    (State.serveAssign_eq named valid role power trans ready range good free)

/-- The frames of a request that finds its conditions make up its group, whatever comes of it. -/
theorem State.arrive_takesGroup {svc aux : Nat} (hsvc : portService svc) (haux : aux < 256)
    (h : Claims.received s r svc aux b = some (u, raw)) :
    u = s.bump (Obj.portRxFrames (portNum (viaPort r.via))) (framesOf (reqMessage r b).length) ∧ r.via ≠ .host ∧
    s.ownAddress r.via < 512 ∧
    s.arrive r svc aux b = u.takeGroup (viaPort r.via) (mkIdent r.prio.toNat false svc (reqPeer r) (s.ownAddress r.via))
      r.tid.toNat aux r.trailer.isSome (reqMessage r b) raw := by
  rw [Claims.received] at h
  split at h
  case isFalse => cases h
  case isTrue hc =>
    obtain ⟨hvia, hup, hserves, hprio, hlen, hown, hself, hassigned, hstay, hfree, htimer, hcredits⟩ := hc
    have hs : svc < 16 := by rw [portService] at hsvc; omega
    have hfrom := frameSrc_mkIdent r.prio.isLt hs (reqPeer_lt hvia) hown
    have hfunc := frameFunc_mkIdent r.prio.isLt hs (reqPeer_lt hvia) hown
    have hhere := frameDst_mkIdent r.prio.isLt hs (reqPeer_lt hvia) hown
    rw [groupFrames_eq _ _ _ _ _ hlen, List.all_map, List.all_eq_true] at hstay
    rw [groupFrames_eq _ _ _ _ _ hlen] at h
    cases h
    have htakes (i : Nat) (hi : i < framesOf (reqMessage r b).length) := State.takes_of_service
      (carriesService_requestFrame (aux := aux) hsvc hvia hown hprio r.trailer.isSome (reqMessage r b) _ i)
      ⟨hup, hserves, hself.imp_right (fun e he => e (hfrom.symm.trans he)), hassigned.imp_right (Or.imp hfunc.trans hfunc.trans),
        State.isLocal_of_dst hvia hhere, by simpa using hstay i (List.mem_range.mpr hi)⟩
    have hall := State.receiveAll_of_takes r.tid.isLt haux hlen htakes (by rwa [hfrom]) (by rwa [hfrom])
      (by rwa [portVia_viaPort hvia, frameSvc_mkIdent r.prio.isLt hs (reqPeer_lt hvia) hown])
    refine ⟨rfl, hvia, hown, ?_⟩
    rw [← hall, ← groupFrames_eq _ _ _ _ _ hlen, State.arrive]
    split
    next hv => exact absurd hv hvia
    next => exact if_neg (Nat.not_lt.mpr hlen)

/-- An Assign that names another unit ends with its group. -/
theorem exec_assign_other (h : Claims.message (.assign r a serial segA segB) = some (r, 10, 0, b))
    (received : Claims.received s r 10 0 b = some (u, raw)) (other : leBytes 8 serial.toNat ≠ s.serial) :
    exec (.assign r a serial segA segB) s = .next u := by
  obtain ⟨rfl, via, own, arrived⟩ := State.arrive_takesGroup (.inr (by decide)) (by decide) received
  have body : b = assignBody a serial segA segB := by
    cases h
    rfl
  obtain ⟨-, name, -⟩ := assignBody_fields a serial segA segB
  obtain ⟨t, ht⟩ := reqMessage_prefix r b
  have long : 4 + 8 ≤ b.length := by rw [body]; simp [assignBody]
  have svc := frameSvc_mkIdent (svc := 10) r.prio.isLt (by decide) (reqPeer_lt via) own
  have unicast := frameBcast_mkIdent (svc := 10) r.prio.isLt (by decide) (reqPeer_lt via) own
  refine ((Claims.exec_message h).1.trans (congrArg Host.Outcome.next arrived)).trans (congrArg Host.Outcome.next ?_)
  have mine : (sliceBytes (reqMessage r b) 4 8 ==
      (s.bump (Obj.portRxFrames (portNum (viaPort r.via))) (framesOf (reqMessage r b).length)).serial) = false := by
    rw [ht, sliceBytes_append b t long, State.serial_bump, body, name]
    exact beq_false_of_ne other
  rw [State.takeGroup]
  dsimp only
  rw [if_neg (by simp [unicast]), if_neg (by simp [unicast]), if_pos ⟨svc, .inl (by rw [mine]; rfl)⟩]

end

/-! ## BridgeControl (R240, R247) -/

section

variable {s u : State} {r : ReqCtx} {b : Bytes} {c : Caller}

/-- A request that is served knows the HopCount of its frames. -/
theorem Claims.entry_aux {svc aux : Nat} (h : Claims.entry s r svc aux b = some (c, u)) : c.aux = aux := by
  obtain ⟨w, -, ⟨-, rfl, -⟩ | ⟨t, x, -, -, -, -, rfl, -⟩⟩ := State.entry_cases h
  · rfl
  · rfl

section

variable (valid : u.invalidCheck = none) (power : u.powerCheck = none)
include valid power

/-- GetStatus and Ping past their checks. -/
theorem State.serveBridge_asks (role : u.needRole c.role 0 = none) (ready : u.readyCheck false 0x1120 = none) :
    u.serveBridge c [1#8, 0#8] = u.activity.answer c ([0#8, 0#8, 1#8, 0#8] ++ u.activity.bridgeStatus) ∧
    u.serveBridge c [4#8, 0#8] = u.activity.answer c [0#8, 0#8, 4#8, 0#8, byteOf c.aux] := by
  have asks {f : State → State} {req : Bytes} : u.gated c req [u.invalidCheck, u.needRole c.role 0, u.powerCheck]
      [u.readyCheck false 0x1120, none] f = f u.activity :=
    State.gated_of_none _ _ _ _ _ _ (firstAbort_none (by simp [valid, role, power])) (firstAbort_none (by simp [ready]))
  have status : fieldAt [1#8, 0#8] 0 1 = 1 := fieldAt_zero_one 1#8 _
  have ping : fieldAt [4#8, 0#8] 0 1 = 4 := fieldAt_zero_one 4#8 _
  refine ⟨?_, ?_⟩
  · rw [State.serveBridge]
    simp only [status, Nat.reduceEqDiff, true_or, if_true, if_false]
    exact asks
  · rw [State.serveBridge]
    simp only [ping, Nat.reduceEqDiff, or_true, if_true, if_false]
    exact asks

variable (role : u.needRole c.role 2 = none) (trans : u.transCheck = none) (ready : u.readyCheck true 0x1120 = none)
  (free : u.eng.commit = none)
include role trans ready free

/-- A change of the bridge's objects past its checks is tried as a commit. -/
theorem State.bridge_sets {fault : Option Abort} {e : Nat × Nat} (sub : Nat) (good : fault = none)
    (unheld : u.heldCheck c [e] = none) :
    u.gated c b [u.invalidCheck, u.needRole c.role 2, u.powerCheck, u.transCheck]
      [u.readyCheck true 0x1120, fault, u.heldCheck c [e]] (fun s => s.commitOrWait c (.bridge sub) none [e] b) =
    u.activity.tryCommit c (.bridge sub) none [e] b := by
  have free' : u.activity.eng.commit = none := by rw [u.activity_same.1, free]
  rw [State.gated_of_none _ _ _ _ _ _ (firstAbort_none (by simp [valid, role, power, trans]))
    (firstAbort_none (by simp [ready, good, unheld]))]
  exact (State.commitOrWait_cases _ _ _ _).1 free'

theorem State.serveBridge_routes {start count : BitVec 16} {codes : Bytes}
    (good : routesFault start.toNat count.toNat codes = none)
    (unheld : u.heldCheck c [(Obj.bridgeRoute, u.routesWith start.toNat codes)] = none) :
    u.serveBridge c (setRoutesBody start count codes) = u.activity.tryCommit c (.bridge 2) none
      [(Obj.bridgeRoute, u.routesWith start.toNat codes)] (setRoutesBody start count codes) := by
  obtain ⟨first, number, routes⟩ := setRoutesBody_fields start count codes
  have sub : fieldAt (setRoutesBody start count codes) 0 1 = 2 := fieldAt_zero_one 2#8 _
  rw [State.serveBridge]
  simp only [sub, first, number, routes]
  exact State.bridge_sets valid power role trans ready free 2 good unheld

theorem State.serveBridge_forwarding {enable : Byte} (good : enable.toNat ≤ 1)
    (unheld : u.heldCheck c [(Obj.bridgeEnable, enable.toNat)] = none) :
    u.serveBridge c [3#8, 0#8, enable, 0#8] = u.activity.tryCommit c (.bridge 3) none [(Obj.bridgeEnable, enable.toNat)]
      [3#8, 0#8, enable, 0#8] := by
  have sub : fieldAt [3#8, 0#8, enable, 0#8] 0 1 = 3 := fieldAt_zero_one 3#8 _
  have value : fieldAt [3#8, 0#8, enable, 0#8] 2 1 = enable.toNat := fieldAt_zero_one enable _
  rw [State.serveBridge]
  simp only [sub, value]
  exact State.bridge_sets valid power role trans ready free 3 (if_neg (Nat.not_lt.mpr good)) unheld

end

/-- A served request of the bridge's service acts. -/
theorem exec_bridge {i : Instr} {aux : Nat} {body : Bytes} {t : State} (hi : Claims.message i = some (r, 11, aux, body))
    (h : Claims.Served i s r b c u) (served : u.serveBridge c body = t) :
    exec i s = .next (Claims.finished s r t) := by
  obtain ⟨-, rfl, called, hexec⟩ := Claims.exec_acts h hi
  rw [hexec, State.act, called.svc]
  exact congrArg (fun t => Host.Outcome.next (Claims.finished s r t)) served

end

/-! ## The services that the host port does not take (R263) -/

theorem exec_notAtHost {i : Instr} {r : ReqCtx} {svc aux : Nat} {b : Bytes} {s : State}
    (h : Claims.message i = some (r, svc, aux, b)) (host : r.via = .host) (low : 9 ≤ svc) (high : svc ≤ 11)
    (serves : s.vintServes = true) :
    exec i s = .next (s.abort (callerOf r svc aux) (reqMessage r b) (7, s.lifecycle * 32 + 5)) := by
  obtain ⟨sent, -⟩ := Claims.exec_message (s := s) h
  have refused : s.hostRequest (callerOf r svc aux) (reqClaimed r) (reqMessage r b) =
      s.abort (callerOf r svc aux) (reqMessage r b) (s.denied 0 5) := if_pos (.inl (by simp only [callerOf]; omega))
  rw [sent, State.arrive]
  split
  next => rw [if_pos serves, refused]; rfl
  next other => exact absurd host other

/-- Settles O60: the six services past their checks, and none of them at the host port. -/
theorem bridgeAddressAndTime : Obligations.BridgeAddressAndTime := by
  unfold Obligations.BridgeAddressAndTime
  refine ⟨fun r broadcast utc micros source s b c u h head valid power hm hs => exec_timeSet h head valid power hm hs,
    fun r utc micros source s => exec_timeSet_broadcast,
    fun r a serial segA segB s b c u h => exec_assign h,
    fun r a serial segA segB s b u raw h received other => exec_assign_other h received other,
    fun r hop s b c u valid role power ready => ?_, fun r start count codes enable s b c u valid role power trans ready free => ?_,
    fun i r svc aux b s h host low high serves => exec_notAtHost h host low high serves⟩
  · obtain ⟨status, ping⟩ := State.serveBridge_asks valid power role ready
    refine ⟨fun h => exec_bridge rfl h status, fun h => ?_⟩
    obtain ⟨-, -, hentry, -⟩ := Claims.served_entry h (show Claims.message (.ping r hop) = some (r, 11, hop.toNat, [4#8, 0#8]) from rfl)
    rw [Claims.entry_aux hentry, byteOf_byte] at ping
    exact exec_bridge rfl h ping
  · refine ⟨fun h good unheld => ?_, fun h good unheld => ?_⟩
    · obtain ⟨-, hb, -⟩ := Claims.served_entry h (show Claims.message (.setRoutes r start count codes) =
        some (r, 11, 0, setRoutesBody start count codes) from rfl)
      rw [hb]
      exact exec_bridge rfl h (State.serveBridge_routes valid power role trans ready free good unheld)
    · obtain ⟨-, hb, -⟩ := Claims.served_entry h (show Claims.message (.setForwarding r enable) =
        some (r, 11, 0, [3#8, 0#8, enable, 0#8]) from rfl)
      rw [hb]
      exact exec_bridge rfl h (State.serveBridge_forwarding valid power role trans ready free good unheld)

end Sys2Proof.Machine

namespace Sys2Proof.Machine

open Sys2Proof

/-! ## Commands and flags of the host port -/

/-- A command whose condition holds acts. -/
theorem State.when_of {c : Bool} (h : c = true) (s : State) (f : State → State) : s.when c f = f s := by
  rw [h, State.when_true]

/-- A Vintner that serves is a core domain that is up (HP_STATUS.CoreUp). -/
theorem State.coreUp_of {s : State} (serves : s.vintServes = true) : s.coreUp = true := by
  rw [State.coreUp, serves, Bool.true_or]

/-- A change of Sticky.Summary moves the host port's interrupt and its copy of the summary, and nothing else of it. -/
theorem State.noteSummary_hp (s : State) : ∃ irq sum, s.noteSummary.hp =
    { s.hp with irqStatus := irq, lastSummary := sum } := by
  unfold State.noteSummary
  refine prop_ite (P := fun u => ∃ irq sum, u.hp = { s.hp with irqStatus := irq, lastSummary := sum })
    ⟨_, _, rfl⟩ ?_
  exact ⟨_, _, (State.notify_fr _ 3 0xFFFF _ (F := 50331654) rfl (Fr.refl _ _)).hp rfl⟩

theorem State.hostFlag_hp (s : State) (bit : Nat) : ∃ irq sum, (s.hostFlag bit).hp =
    { s.hp with irqStatus := irq, lastSummary := sum } :=
  prop_ite (P := fun u => ∃ irq sum, u.hp = { s.hp with irqStatus := irq, lastSummary := sum })
    (State.noteSummary_hp _) ⟨_, _, rfl⟩

theorem State.bit_hostFlag_self {s : State} (up : s.coreUp = true) (bit : Nat) :
    (s.hostFlag bit).bit Obj.hostPortSticky bit = true := by
  rw [State.hostFlag, if_pos up]
  exact State.bit_flag_self _ _ _ rfl

theorem State.get_hostFlag_ne (s : State) (bit : Nat) {k : Nat} (other : k ≠ Obj.hostPortSticky)
    (unreported : reportKey k = false) : (s.hostFlag bit).get k = s.get k :=
  prop_ite (P := fun u => u.get k = s.get k) (State.get_flag_ne _ _ _ _ other unreported) rfl

theorem State.hostFlag_mems (s : State) (bit : Nat) : (s.hostFlag bit).mems = s.mems := (s.hostFlag_frame bit).2

/-! ## 64-bit reads (R269, R270) -/

theorem leBytes_mod (k n : Nat) : leBytes k (n % 256 ^ k) = leBytes k n := by
  induction k generalizing n with
  | zero => rfl
  | succ k ih => rw [leBytes, leBytes, Nat.pow_succ, Nat.mod_mul_left_mod, Nat.mod_mul_left_div_self, ih]

theorem State.latch_setLatch_self (s : State) (w : WidePair) (v : Option (BitVec 32)) :
    (s.setLatch w v).latch w = v := by cases w <;> rfl

theorem State.setLatch_frame (s : State) (w : WidePair) (v : Option (BitVec 32)) :
    (s.setLatch w v).dict = s.dict ∧ (s.setLatch w v).mems = s.mems :=
  have fr := State.setLatch_fr s w v (F := 8388608) rfl (Fr.refl _ s)
  ⟨fr.dict rfl, by cases w <;> rfl⟩

@[simp] theorem State.latch_shiftOut (s : State) (w : WidePair) (status : Byte) (data : Bytes) :
    (s.shiftOut status data).latch w = s.latch w := by cases w <;> rfl

section

variable {s : State} (w : WidePair) (serves : s.vintServes = true)

include serves

theorem loReadLatch_latches : Claims.Answers (.loReadLatch w) s (fun t =>
    t.hp.miso = s.statusByte :: leBytes 4 (s.wide w) ∧
      t.latch w = some (BitVec.ofNat 32 (s.wide w / 2 ^ 32)) ∧ t.dict = s.dict ∧ t.mems = s.mems) := by
  obtain ⟨dict, mems⟩ := s.setLatch_frame w (some (BitVec.ofNat 32 (s.wide w / 2 ^ 32)))
  refine ⟨_, congrArg Host.Outcome.next (State.when_of serves s _), ?_, ?_, dict, mems⟩
  · exact congrArg (s.statusByte :: ·) (leBytes_mod 4 (s.wide w))
  · rw [State.latch_shiftOut]
    exact State.latch_setLatch_self _ _ _

theorem hiRead_latched_spends {v : BitVec 32} (latched : s.latch w = some v) : Claims.Answers (.hiRead w) s (fun t =>
    t.hp.miso = s.statusByte :: leBytes 4 v.toNat ∧ t.latch w = none ∧ t.dict = s.dict ∧ t.mems = s.mems) := by
  obtain ⟨dict, mems⟩ := s.setLatch_frame w none
  have read : s.readHi w = (v.toNat, s.setLatch w none) := by rw [State.readHi, latched]
  refine ⟨(s.setLatch w none).shiftOut s.statusByte (leBytes 4 v.toNat), ?_, rfl, ?_, dict, mems⟩
  · show Host.Outcome.next (s.when s.vintServes _) = _
    rw [State.when_of serves, read]
  · rw [State.latch_shiftOut, State.latch_setLatch_self]

theorem hiRead_unlatched_tears (unlatched : s.latch w = none) : Claims.Answers (.hiRead w) s (fun t =>
    t.hp.miso = s.statusByte :: leBytes 4 (s.wide w / 2 ^ 32) ∧ t.bit Obj.hostPortSticky 0 = true ∧
      t.get Obj.hostPortTornReadCount = satBytes (objSize Obj.hostPortTornReadCount)
        (s.get Obj.hostPortTornReadCount + 1) ∧ t.mems = s.mems) := by
  let u := (s.bump Obj.hostPortTornReadCount 1).hostFlag 0
  have read : s.readHi w = (s.wide w / 2 ^ 32, u) := by rw [State.readHi, unlatched]
  refine ⟨u.shiftOut s.statusByte (leBytes 4 (s.wide w / 2 ^ 32)), ?_, rfl, ?_, ?_, ?_⟩
  · show Host.Outcome.next (s.when s.vintServes _) = _
    rw [State.when_of serves, read]
  · exact State.bit_hostFlag_self (s := s.bump _ 1) (State.coreUp_of serves) 0
  · exact (State.get_hostFlag_ne _ 0 (by decide) rfl).trans (s.get_bump_self _ 1)
  · exact State.hostFlag_mems _ 0

end

/-- Settles O25: a low read latches, a high read takes the latch, or reads live with TornRead. -/
theorem widePairsReadTogether : Obligations.WidePairsReadTogether := fun _ w serves =>
  ⟨loReadLatch_latches w serves, fun _ => hiRead_latched_spends w serves, hiRead_unlatched_tears w serves⟩

end Sys2Proof.Machine

namespace Sys2Proof.Machine

open Sys2Proof

/-! ## Reads, writes and bad commands of the host port (R256 to R261, R275, R280, R283) -/

theorem exec_hostRead_buffers {s : State} (on : s.power.state ≠ .off) (a : BitVec 16) (n : Nat)
    (buffers : 0x100 ≤ a.toNat) : exec (.hostRead a n) s = .next { s with
      hp.miso := s.statusByte :: (List.range n).map (fun i => s.bufferByte (a.toNat + i)), hp.cut := false } := by
  show Host.Outcome.next (s.when s.awake _) = _
  rw [State.when_of (s.awake_iff.mpr on), State.readWindow, if_pos buffers]
  rfl

theorem exec_forensicRead {s : State} (on : s.power.state ≠ .off) (a : BitVec 24) (n : Nat) :
    exec (.forensicRead a n) s = .next { s with
      hp.miso := s.statusByte :: (List.range n).map (fun i =>
        s.forensicByte ((a.toNat + i) % 2 ^ 24 / 65536) ((a.toNat + i) % 2 ^ 24 % 65536)), hp.cut := false } :=
  congrArg Host.Outcome.next (State.when_of (s.awake_iff.mpr on) s _)

/-- MB_REQ_BUF replaced. -/
def State.setMbReq (s : State) (m : List Host.Cell) : State := { s with mems.mbReq := m }

theorem State.writeBufferByte_mbReq {s : State} {a : Nat} (b : Byte) (closed : s.power.recovery = false)
    (low : 0x100 ≤ a) (high : a < 0x500) :
    s.writeBufferByte a b = s.setMbReq (memWrite zeroByte s.mems.mbReq (a - 0x100) b) := by
  rw [State.writeBufferByte, if_neg (by omega), closed, if_neg Bool.false_ne_true, if_pos ⟨low, high⟩]
  rfl

/-- Bytes written within MB_REQ_BUF go to its memory and nowhere else. -/
theorem State.writeBuffer_mbReq {s : State} {a : Nat} (d : Bytes) (closed : s.power.recovery = false)
    (low : 0x100 ≤ a) (high : a + d.length ≤ 0x500) :
    s.writeBuffer a d = s.setMbReq (memWriteAll zeroByte s.mems.mbReq (a - 0x100) d) := by
  induction d generalizing s a with
  | nil => rfl
  | cons b d ih =>
    rw [List.length_cons] at high
    have rest := ih (s := s.setMbReq (memWrite zeroByte s.mems.mbReq (a - 0x100) b)) (a := a + 1) closed (by omega)
      (by omega)
    rw [Nat.sub_add_comm low] at rest
    rw [State.writeBuffer, State.writeBufferByte_mbReq b closed low (by omega), rest]
    rfl

theorem hostWrite_stores {s : State} (on : s.power.state ≠ .off) (a : BitVec 16) (d : Bytes)
    (serves : s.vintServes = true) (closed : s.power.recovery = false) (low : 0x100 ≤ a.toNat)
    (high : a.toNat + d.length ≤ 0x500) : Claims.Answers (.hostWrite a d) s (fun t =>
      (∀ i (h : i < d.length), memRead zeroByte t.mems.mbReq (a.toNat - 0x100 + i) = d[i]) ∧
      (∀ x, x < a.toNat - 0x100 ∨ a.toNat - 0x100 + d.length ≤ x →
        memRead zeroByte t.mems.mbReq x = memRead zeroByte s.mems.mbReq x) ∧
      t.mems.mbRsp = s.mems.mbRsp ∧ t.mems.rcv = s.mems.rcv ∧ t.mems.vint = s.mems.vint) := by
  let u := (s.shiftOut s.statusByte []).setMbReq (memWriteAll zeroByte s.mems.mbReq (a.toNat - 0x100) d)
  have written : (s.shiftOut s.statusByte []).writeWindow a.toNat d = u :=
    (if_pos low).trans (State.writeBuffer_mbReq d closed low high)
  have served := State.serveHeld_fr u (F := 562945926885374) rfl (Fr.refl _ u)
  have mbReq : u.serveHeld.mems.mbReq = memWriteAll zeroByte s.mems.mbReq (a.toNat - 0x100) d := served.mems_mbReq rfl
  refine ⟨u.serveHeld, ?_, fun i h => ?_, fun x h => ?_, served.mems_mbRsp rfl, served.mems_rcv rfl,
    served.mems_vint rfl⟩
  · show Host.Outcome.next (s.when s.awake _) = _
    rw [State.when_of (s.awake_iff.mpr on), if_pos (State.coreUp_of serves), written]
  · rw [mbReq, memRead_memWriteAll_inside _ _ _ _ _ h]
  · rw [mbReq, memRead_memWriteAll_outside _ _ _ _ _ h]

theorem badCommand_flags {s : State} (on : s.power.state ≠ .off) {c : Byte}
    (unlisted : c ∉ [0x03#8, 0x02#8, 0x0B#8, 0xAB#8]) : Claims.Answers (.badCommand c) s (fun t =>
      t.hp.miso = [s.statusByte] ∧ (s.coreUp = true → t.bit Obj.hostPortSticky 2 = true) ∧ t.mems = s.mems) := by
  have bad : (s.awake && !([0x03#8, 0x02#8, 0x0B#8, 0xAB#8].contains c)) = true := by
    rw [s.awake_iff.mpr on, Bool.true_and, Bool.not_eq_true', ← Bool.not_eq_true, List.contains_iff_mem]
    exact unlisted
  obtain ⟨irq, sum, hp⟩ := (s.shiftOut s.statusByte []).hostFlag_hp 2
  refine ⟨_, congrArg Host.Outcome.next (State.when_of bad s _), ?_, fun up => ?_, ?_⟩
  · rw [hp]
    rfl
  · exact State.bit_hostFlag_self (s := s.shiftOut s.statusByte []) up 2
  · exact State.hostFlag_mems _ 2

theorem exec_hpIrqStatusClear {s : State} (m : BitVec 32) (serves : s.vintServes = true) :
    exec (.hpIrqStatusClear m) s = .next { s with hp.irqStatus := s.hp.irqStatus &&& ~~~ m } := by
  show Host.Outcome.next (s.when s.vintServes _) = _
  rw [State.when_of serves, State.clearIrq, BitVec.ofNat_toNat, BitVec.setWidth_eq]

theorem exec_hpStickyClear {s : State} (m : BitVec 32) (serves : s.vintServes = true) :
    exec (.hpStickyClear m) s = .next (s.stickyClear none 0xFFFF Obj.hostPortSticky m.toNat) :=
  congrArg Host.Outcome.next (State.when_of serves s _)

/-- Settles O26: a lemma per command of the port. -/
theorem hostReadsAndWrites : Obligations.HostReadsAndWrites := fun _ on =>
  ⟨exec_hostRead_buffers on, exec_forensicRead on, hostWrite_stores on, fun _ => badCommand_flags on,
    exec_hpIrqStatusClear, exec_hpStickyClear⟩

end Sys2Proof.Machine

namespace Sys2Proof.Machine

open Sys2Proof

/-! ## Requests into the mailbox (R262 to R264, R268, R302) -/

theorem State.takeNext_free {s : State} (busy : s.hp.busy = true) (serves : s.vintServes = true)
    (free : s.mailboxFree = true) : s.takeNext = s.takeMailbox := by
  rw [State.takeNext, busy, serves, free]
  rfl

theorem State.takeNext_barred {s : State} (barred : s.mailboxFree = false) : s.takeNext = s := by
  rw [State.takeNext, barred, Bool.and_false, if_neg Bool.false_ne_true]

theorem State.takeNext_idle {s : State} (idle : s.hp.busy = false) : s.takeNext = s := by
  rw [State.takeNext, idle]
  rfl

/-- A length written to MB_REQ with Go, and the request counted. -/
def State.withRequest (s : State) (n : BitVec 11) : State :=
  ({ s with hp.reqLength := n, hp.busy := true } : State).bump Obj.hostPortMailboxRequests 1

section

variable {s : State} (serves : s.vintServes = true) (n : BitVec 11)

include serves

theorem exec_mailboxGo : exec (.mailboxGo n) s = .next (s.go n.toNat) :=
  congrArg Host.Outcome.next (State.when_of serves s _)

theorem exec_mailboxGo_written (busy : s.hp.busy = false) (outstanding : s.hp.outstanding = false)
    (low : 8 ≤ n.toNat) (high : n.toNat ≤ 968) : exec (.mailboxGo n) s = .next (s.withRequest n).takeNext := by
  rw [exec_mailboxGo serves, State.go, if_neg (by simp [busy, outstanding]), if_neg (by omega), BitVec.ofNat_toNat,
    BitVec.setWidth_eq]
  rfl

theorem exec_mailboxGo_free (busy : s.hp.busy = false) (outstanding : s.hp.outstanding = false) (low : 8 ≤ n.toNat)
    (high : n.toNat ≤ 968) (free : s.mailboxFree = true) :
    exec (.mailboxGo n) s = .next (s.withRequest n).takeMailbox := by
  rw [exec_mailboxGo_written serves n busy outstanding low high,
    State.takeNext_free (s := s.withRequest n) rfl serves free]

theorem exec_mailboxGo_barred (busy : s.hp.busy = false) (outstanding : s.hp.outstanding = false) (low : 8 ≤ n.toNat)
    (high : n.toNat ≤ 968) (barred : s.mailboxFree = false) : exec (.mailboxGo n) s = .next (s.withRequest n) := by
  rw [exec_mailboxGo_written serves n busy outstanding low high, State.takeNext_barred (s := s.withRequest n) barred]

theorem mailboxGo_inHand_flags (inHand : s.hp.busy = true ∨ s.hp.outstanding = true) :
    Claims.Answers (.mailboxGo n) s (fun t =>
      t.bit Obj.hostPortSticky 1 = true ∧ t.hp.reqLength = s.hp.reqLength ∧ t.hp.busy = s.hp.busy ∧
        t.hp.outstanding = s.hp.outstanding ∧ t.mems = s.mems) := by
  have flagged : s.go n.toNat = s.hostFlag 1 := if_pos inHand
  obtain ⟨irq, sum, hp⟩ := s.hostFlag_hp 1
  refine ⟨s.hostFlag 1, by rw [exec_mailboxGo serves, flagged],
    State.bit_hostFlag_self (State.coreUp_of serves) 1, ?_⟩
  rw [hp]
  exact ⟨rfl, rfl, rfl, s.hostFlag_mems 1⟩

theorem mailboxGo_badLength_flags (busy : s.hp.busy = false) (outstanding : s.hp.outstanding = false)
    (bad : n.toNat < 8 ∨ 968 < n.toNat) : Claims.Answers (.mailboxGo n) s (fun t =>
      t.bit Obj.hostPortSticky 2 = true ∧ t.hp.busy = false ∧ t.mems = s.mems) := by
  have flagged : s.go n.toNat = s.hostFlag 2 := (if_neg (by simp [busy, outstanding])).trans (if_pos bad)
  obtain ⟨irq, sum, hp⟩ := s.hostFlag_hp 2
  refine ⟨s.hostFlag 2, by rw [exec_mailboxGo serves, flagged],
    State.bit_hostFlag_self (State.coreUp_of serves) 2, ?_⟩
  rw [hp]
  exact ⟨busy, s.hostFlag_mems 2⟩

end

/-! ## Replies out of the mailbox (R261, R265, R266) -/

theorem State.get_placeEscape_ne (s : State) (m : QMsg) {k : Nat} (other : k ≠ Obj.queueEscapeUseCount) :
    (s.placeEscape m).get k = s.get k := by
  have placed := State.place_fr s { m with escape := true } (F := 16777216) rfl (Fr.refl _ s)
  rw [State.placeEscape, State.get_arm, State.get_bump_ne _ _ _ _ other, State.get_congr (placed.dict rfl)]

theorem State.get_escapeWaiting_ne (s : State) (cls : Nat) {k : Nat} (other : k ≠ Obj.queueEscapeUseCount) :
    (s.escapeWaiting cls).get k = s.get k := by
  unfold State.escapeWaiting
  split
  · exact prop_ite (P := fun u => u.get k = s.get k) (State.get_placeEscape_ne _ _ other) rfl
  · rfl

/-- A message taken from a queue leaves every register as it was but the count of escape slots used (R290). -/
theorem State.get_take_ne (s : State) (q : Nat) {k : Nat} (other : k ≠ Obj.queueEscapeUseCount) :
    (s.take q).get k = s.get k := by
  unfold State.take
  split
  · rfl
  · next m _ =>
    have placed (u : State) (kept : u.dict = s.dict) : (u.placeWaiting q).get k = s.get k := State.get_congr
      (((State.placeWaiting_fr u q (F := 16777216) rfl (Fr.refl _ u)).dict rfl).trans kept) k
    rw [State.get_escapeWaiting_ne _ _ other]
    exact placed _ (prop_ite (P := fun u => u.dict = s.dict) rfl rfl)

/-- A reply written into MB_RSP_BUF, with its length, Ready and the interrupt bit. -/
def State.withReply (s : State) (bs : Bytes) : State :=
  ({ s with
    mems.mbRsp := memWriteAll zeroByte s.mems.mbRsp 0 bs
    hp := { s.hp with ready := true, rspLength := BitVec.ofNat 11 bs.length,
                      rspFinal := s.hp.outstanding && (fieldAt bs 2 1).testBit 4 } } : State).raiseIrq 0

theorem State.placeReply_mail {s : State} {m : QMsg} {bs : Bytes} (next : s.nextReply = some m)
    (mail : m.body = .mail bs) (fits : bs.length ≤ 1024) :
    s.placeReply = ((s.withReply bs).take m.queue).serveHeld := by
  rw [State.placeReply, next]
  dsimp only
  rw [mail]
  dsimp only
  rw [List.take_of_length_le fits]
  rfl

theorem mailboxReply_places {s : State} (serves : s.vintServes = true) (m : QMsg) (bs : Bytes)
    (waits : s.hp.ready = false) (next : s.nextReply = some m) (mail : m.body = .mail bs) (fits : bs.length ≤ 1024) :
    ∃ u : State, exec .mailboxReply s = .next u.serveHeld ∧ u.hp.ready = true ∧
      u.hp.rspLength = BitVec.ofNat 11 bs.length ∧ u.hp.irqStatus = s.hp.irqStatus ||| 1 ∧
      (∀ i (h : i < bs.length), memRead zeroByte u.mems.mbRsp i = bs[i]) ∧
      (∀ x, bs.length ≤ x → memRead zeroByte u.mems.mbRsp x = memRead zeroByte s.mems.mbRsp x) ∧
      (∀ k, k ≠ Obj.queueEscapeUseCount → u.get k = s.get k) ∧ u.mems.mbReq = s.mems.mbReq := by
  have taken := State.take_fr (s.withReply bs) m.queue (F := 16777222) rfl (Fr.refl _ _)
  have due : (s.vintServes && !s.hp.ready) = true := by rw [serves, waits]; rfl
  refine ⟨(s.withReply bs).take m.queue, ?_, ?_, ?_, ?_, fun i h => ?_, fun x h => ?_, fun k other => ?_, ?_⟩
  · rw [← State.placeReply_mail next mail fits]
    exact congrArg Host.Outcome.next (State.when_of due s _)
  · rw [taken.hp rfl]
    rfl
  · rw [taken.hp rfl]
    rfl
  · rw [taken.hp rfl]
    rfl
  · rw [taken.mems_mbRsp rfl, ← memRead_memWriteAll_inside zeroByte s.mems.mbRsp 0 bs i h, Nat.zero_add]
    rfl
  · rw [taken.mems_mbRsp rfl]
    exact memRead_memWriteAll_outside _ _ _ _ _ (.inr (by omega))
  · rw [State.get_take_ne _ _ other]
    rfl
  · rw [taken.mems_mbReq rfl]
    rfl

theorem State.ackReply_idle {s : State} (ready : s.hp.ready = true) (idle : s.hp.busy = false) : s.ackReply =
    if s.hp.rspFinal = true then { s with hp.ready := false, hp.rspFinal := false, hp.outstanding := false }
    else { s with hp.ready := false } := by
  rw [State.ackReply, ready, if_neg (by decide)]
  exact State.takeNext_idle (prop_ite (P := fun u => u.hp.busy = false) idle idle)

theorem exec_mailboxAck {s : State} (serves : s.vintServes = true) (ready : s.hp.ready = true)
    (idle : s.hp.busy = false) :
    exec .mailboxAck s = .next (
      if s.hp.rspFinal = true then { s with hp.ready := false, hp.rspFinal := false, hp.outstanding := false }
      else { s with hp.ready := false }).serveHeld := by
  rw [← State.ackReply_idle ready idle]
  exact congrArg Host.Outcome.next (State.when_of serves s _)

/-- Settles O27: Go by its four cases, the next reply placed, and its release. -/
theorem mailboxExchanges : Obligations.MailboxExchanges := fun _ serves =>
  ⟨fun n busy outstanding low high => ⟨exec_mailboxGo_free serves n busy outstanding low high,
      exec_mailboxGo_barred serves n busy outstanding low high⟩,
    mailboxGo_inHand_flags serves, mailboxGo_badLength_flags serves, mailboxReply_places serves,
    exec_mailboxAck serves⟩

end Sys2Proof.Machine

namespace Sys2Proof.Machine

open Sys2Proof

/-! ## Posts by what they meet (R286 to R295) -/

/-- A message as a post brings it to its queue. -/
def State.newMsg (s : State) (q n : Nat) (b : Msg) : QMsg := ⟨q, n, false, 1, s.now, b⟩

/-- A post made to wait. -/
def State.await (s : State) (w : QWait) : State := { s with q.waits := s.q.waits ++ [w] }

/-- A post whose queue lacks the credits or has posts waiting before it. -/
def State.Barred (s : State) (k : PostKind) (q n : Nat) : Prop := s.credits q < n ∨ s.standsBehind k q = true

/-- What latched posts of a queue become as one more event is merged into them (R295). -/
def mergeLatches (q : Nat) (ws : List QWait) : List QWait := ws.map (fun w => if w.isLatch q then w.merge else w)

section

variable (s : State)

theorem State.msgs_place (m : QMsg) : (s.place m).q.msgs = s.q.msgs ++ [m] :=
  prop_ite (P := fun u : State => u.q.msgs = s.q.msgs ++ [m]) rfl rfl

theorem State.place_dict (m : QMsg) : (s.place m).dict = s.dict :=
  (State.place_fr s m (F := 16777216) rfl (Fr.refl _ s)).dict rfl

theorem State.now_place (m : QMsg) : (s.place m).now = s.now := congrArg Clocks.nowUs (s.place_reported m).time

/-- A message in an escape slot stands at its tail, is counted, and is watched for 100 ms (R290, R310). -/
theorem State.placeEscape_effect (m : QMsg) : (s.placeEscape m).q.msgs = s.q.msgs ++ [{ m with escape := true }] ∧
    (s.placeEscape m).deadline (.escape (qClass m.queue)) = some (s.now + 100000) ∧
    (s.placeEscape m).get Obj.queueEscapeUseCount =
      satBytes (objSize Obj.queueEscapeUseCount) (s.get Obj.queueEscapeUseCount + 1) := by
  refine ⟨s.msgs_place _, ?_, ?_⟩
  · exact (State.deadline_arm_self ..).trans (congrArg (fun n => some (n + 100000)) (s.now_place _))
  · rw [State.placeEscape, State.get_arm, State.get_bump_self, State.get_congr (s.place_dict _)]

end

section

variable {s : State} {k : PostKind} {q n : Nat} {b : Msg}

/-- A post with its credits and none before it stands at its queue's tail (R286). -/
theorem State.post_placed (room : n ≤ s.credits q) (first : s.standsBehind (s.postAs k) q = false) :
    s.post k q n b = s.place (s.newMsg q n b) := if_pos (by simp [room, first])

theorem State.Barred.not_room (barred : s.Barred k q n) :
    ¬ (decide (n ≤ s.credits q) && !s.standsBehind k q) = true := by
  simp only [Bool.and_eq_true, decide_eq_true_eq, Bool.not_eq_true', not_and, Bool.not_eq_false]
  intro room
  exact barred.resolve_left room.not_gt

variable (used : 0 < qDepth q)

include used

/-- A derived post of one slot without credits takes a free escape slot (R290). -/
theorem State.post_escapes (kind : s.postAs k = .derived) (full : s.credits q < n)
    (free : s.escapeTaken (qClass q) = false) (single : n = 1) (first : s.standsBehind .derived q = false) :
    s.post k q n b = s.placeEscape (s.newMsg q n b) := by
  have barred : s.Barred .derived q n := .inl full
  have slot : (s.escapeFree (s.newMsg q n b) && !s.standsBehind .derived q) = true := by
    simp [State.escapeFree, State.newMsg, free, single, used, first]
  unfold State.post
  rw [kind]
  exact (if_neg barred.not_room).trans ((if_neg used.ne').trans (if_pos slot))

/-- A derived post that finds no escape slot waits (R290, R291). -/
theorem State.post_derived (kind : s.postAs k = .derived) (barred : s.Barred .derived q n)
    (noSlot : s.escapeTaken (qClass q) = true ∨ n ≠ 1 ∨ s.standsBehind .derived q = true) :
    s.post k q n b = s.await ⟨.derived, s.newMsg q n b⟩ := by
  have slot : ¬ (s.escapeFree (s.newMsg q n b) && !s.standsBehind .derived q) = true := by
    rcases noSlot with taken | several | behind
    · simp [State.escapeFree, State.newMsg, taken]
    · simp [State.escapeFree, State.newMsg, several]
    · simp [behind]
  unfold State.post
  rw [kind]
  exact (if_neg barred.not_room).trans ((if_neg used.ne').trans (if_neg slot))

/-- A fresh post waits (R289). -/
theorem State.post_fresh (kind : s.postAs k = .fresh) (barred : s.Barred .fresh q n) :
    s.post k q n b = s.await ⟨.fresh, s.newMsg q n b⟩ := by
  unfold State.post
  rw [kind]
  exact (if_neg barred.not_room).trans (if_neg used.ne')

/-- A refusable post is counted against its queue and is gone (R287, R307). -/
theorem State.post_refused (kind : s.postAs k = .refusable) (barred : s.Barred .refusable q n) :
    s.post k q n b = s.countDrop q := by
  unfold State.post
  rw [kind]
  exact (if_neg barred.not_room).trans (if_neg used.ne')

/-- The first latched post of a queue waits (R295). -/
theorem State.post_latched (kind : s.postAs k = .latched) (barred : s.Barred .latched q n)
    (alone : ∀ w ∈ s.q.waits, w.isLatch q = false) : s.post k q n b = s.await ⟨.latch 1, s.newMsg q n b⟩ := by
  have unheld : ¬ s.q.waits.any (fun w => w.isLatch q) = true := by simpa using alone
  unfold State.post
  rw [kind]
  exact (if_neg barred.not_room).trans ((if_neg used.ne').trans (if_neg unheld))

/-- A further latched post of a queue is merged, and nothing enters (R295). -/
theorem State.post_merged (kind : s.postAs k = .latched) (barred : s.Barred .latched q n)
    (held : ∃ w ∈ s.q.waits, w.isLatch q = true) : (s.post k q n b).q = { s.q with waits := mergeLatches q s.q.waits } := by
  have merges : s.q.waits.any (fun w => w.isLatch q) = true := by simpa using held
  unfold State.post
  rw [kind]
  dsimp only
  rw [if_neg barred.not_room, if_neg used.ne', if_pos merges]
  exact prop_ite (P := fun u : State => u.q = { s.q with waits := mergeLatches q s.q.waits }) rfl rfl

variable (barred : s.Barred (s.postAs k) q n) (noSlot : s.postAs k = .derived →
    s.escapeTaken (qClass q) = true ∨ n ≠ 1 ∨ s.standsBehind (s.postAs k) q = true)

include barred noSlot

/-- Without its credits and without an escape slot no post enters its queue. -/
theorem State.msgs_post_barred : (s.post k q n b).q.msgs = s.q.msgs := by
  cases kind : s.postAs k <;> rw [kind] at barred noSlot
  case derived => rw [State.post_derived used kind barred (noSlot rfl)]; rfl
  case fresh => rw [State.post_fresh used kind barred]; rfl
  case refusable => rw [State.post_refused used kind barred]; rfl
  case latched =>
    by_cases held : ∃ w ∈ s.q.waits, w.isLatch q = true
    · rw [State.post_merged used kind barred held]
    · rw [State.post_latched used kind barred (by simpa using held)]
      rfl

/-- A fresh post, a derived one without an escape slot and the first latched one are one waiting post more. -/
theorem State.length_waits_post
    (waits : s.postAs k = .fresh ∨ s.postAs k = .derived ∨
      (s.postAs k = .latched ∧ ∀ w ∈ s.q.waits, w.isLatch q = false)) :
    (s.post k q n b).q.waits.length = s.q.waits.length + 1 := by
  have one (w : QWait) : (s.await w).q.waits.length = s.q.waits.length + 1 := List.length_append
  rcases waits with kind | kind | ⟨kind, alone⟩ <;> rw [kind] at barred noSlot
  · rw [State.post_fresh used kind barred, one]
  · rw [State.post_derived used kind barred (noSlot rfl), one]
  · rw [State.post_latched used kind barred alone, one]

end

/-- While a core handles a message, what it posts as fresh is derived (R288). -/
theorem State.postAs_handling {s : State} (handling : s.q.handling = true) : s.postAs .fresh = .derived := by
  simp [State.postAs, handling]

theorem State.postAs_idle {s : State} (idle : s.q.handling = false) (k : PostKind) : s.postAs k = k := by
  simp [State.postAs, idle]

/-- Settles O29: one lemma for each thing that a post can meet. -/
theorem postsNeedCredits : Obligations.PostsNeedCredits := by
  unfold Obligations.PostsNeedCredits
  intro s k q n b used j
  refine ⟨fun room first => ?_, fun full kind free single first => ?_, fun barred noSlot => ⟨?_, fun kind => ?_,
    State.length_waits_post used barred noSlot, fun kind held => ?_⟩, ?_, fun idle => State.postAs_idle idle k⟩
  · rw [State.post_placed room first, State.msgs_place]
    rfl
  · rw [State.post_escapes used kind full free single (kind ▸ first)]
    exact s.placeEscape_effect (s.newMsg q n b)
  · exact State.msgs_post_barred used barred noSlot
  · rw [State.post_refused used kind (kind ▸ barred)]
    exact lookupD_putKey_self ..
  · rw [State.post_merged used kind (kind ▸ barred) held]
    rfl
  · rintro handling rfl
    exact State.postAs_handling handling

end Sys2Proof.Machine

namespace Sys2Proof.Machine

open Sys2Proof

/-! ## The queue that comes next in turn (R292) -/

section

variable {last : Option Nat} {qs : List Nat} {l q : Nat}

theorem mem_of_inTurn (next : inTurn last qs = some q) : q ∈ qs := by
  unfold inTurn at next
  split at next
  · exact List.mem_of_mem_head? next
  · split at next
    · next found => exact Option.some.inj next ▸ List.mem_of_find?_eq_some found
    · exact List.mem_of_mem_head? next

variable (sorted : qs.Pairwise (· < ·)) (next : inTurn (some l) qs = some q)

include sorted next

/-- The queue in turn is the first one after the one served last. -/
theorem inTurn_after (later : ∃ x ∈ qs, l < x) : l < q ∧ ∀ x ∈ qs, l < x → q ≤ x := by
  have found : qs.find? (fun x => decide (l < x)) = some q := by
    unfold inTurn at next
    dsimp only at next
    split at next
    · next found => exact found.trans next
    · next none =>
      obtain ⟨x, hx, after⟩ := later
      exact absurd (decide_eq_true after) (List.find?_eq_none.mp none x hx)
  obtain ⟨after, before, rest, rfl, passed⟩ := List.find?_eq_some_iff_append.mp found
  refine ⟨of_decide_eq_true after, fun x hx above => ?_⟩
  rcases List.mem_append.mp hx with early | late
  · simpa [above] using passed x early
  · rcases List.mem_cons.mp late with rfl | behind
    · exact le_rfl
    · obtain ⟨-, rising, -⟩ := List.pairwise_append.mp sorted
      exact (List.rel_of_pairwise_cons rising behind).le

/-- Where none comes after the one served last, the queue in turn is the first of all. -/
theorem inTurn_first (ended : ∀ x ∈ qs, x ≤ l) : ∀ x ∈ qs, q ≤ x := by
  have head : qs.head? = some q := by
    have none : qs.find? (fun x => decide (l < x)) = none := List.find?_eq_none.mpr (by simpa using ended)
    unfold inTurn at next
    dsimp only at next
    rwa [none] at next
  obtain ⟨rest, rfl⟩ := List.head?_eq_some_iff.mp head
  intro x hx
  rcases List.mem_cons.mp hx with rfl | behind
  · exact le_rfl
  · exact (List.rel_of_pairwise_cons sorted behind).le

end

/-- The queues of one class that a consumer has messages in. -/
def State.servedIn (s : State) (c cls : Nat) : List Nat := (s.served c).filter (fun q => qClass q == cls)

theorem State.mem_servedIn {s : State} {c cls x : Nat} : x ∈ s.servedIn c cls ↔ x ∈ s.served c ∧ qClass x = cls := by
  simp [State.servedIn]

theorem State.servedIn_sorted (s : State) (c cls : Nat) : (s.servedIn c cls).Pairwise (· < ·) :=
  (List.pairwise_lt_range.filter _).filter _

/-- A least class found in a list bounds the class of every queue of it. -/
theorem foldl_min_qClass_le (qs : List Nat) (n : Nat) :
    qs.foldl (fun n q => min n (qClass q)) n ≤ n ∧ ∀ x ∈ qs, qs.foldl (fun n q => min n (qClass q)) n ≤ qClass x := by
  induction qs generalizing n with
  | nil => exact ⟨le_rfl, fun _ none => nomatch none⟩
  | cons y ys ih =>
    obtain ⟨low, rest⟩ := ih (min n (qClass y))
    refine ⟨low.trans (min_le_left ..), fun x hx => ?_⟩
    rcases List.mem_cons.mp hx with rfl | later
    · exact low.trans (min_le_right ..)
    · exact rest x later

/-- The three ways in which a consumer's next queue is chosen (R292): in turn within the safety class, passed over 256
times, or in turn within the lowest class. -/
inductive State.Chosen (s : State) (c q : Nat) : Prop where
  | safety (turn : inTurn (s.lastServed c (qClass q)) (s.servedIn c (qClass q)) = some q) (safe : qClass q = 0)
  | passedOver (mem : q ∈ s.served c) (outside : ∀ x ∈ s.served c, qClass x ≠ 0)
    (passed : 256 ≤ lookupD s.q.passed q 0)
  | lowest (turn : inTurn (s.lastServed c (qClass q)) (s.servedIn c (qClass q)) = some q)
    (outside : ∀ x ∈ s.served c, qClass x ≠ 0) (fair : ∀ x ∈ s.served c, lookupD s.q.passed x 0 < 256)
    (least : ∀ x ∈ s.served c, qClass q ≤ qClass x)

section

variable {s : State} {c q : Nat}

/-- A queue in turn within a class is a queue of that class. -/
theorem State.qClass_of_inTurn {last : Option Nat} {cls : Nat} (turn : inTurn last (s.servedIn c cls) = some q) :
    qClass q = cls := (State.mem_servedIn.mp (mem_of_inTurn turn)).2

theorem State.chosen_of_nextServed (next : s.nextServed c = some q) : s.Chosen c q := by
  unfold State.nextServed at next
  extract_lets qs safety cls at next
  split at next
  · have safe : qClass q = 0 := State.qClass_of_inTurn next
    exact .safety (safe.symm ▸ next) safe
  next empty =>
  have outside : ∀ x ∈ s.served c, qClass x ≠ 0 := by simpa [safety, qs] using empty
  split at next
  · next found =>
    obtain rfl := Option.some.inj next
    exact .passedOver (List.mem_of_find?_eq_some found) outside (by simpa using List.find?_some found)
  · next none =>
    have lowest : qClass q = cls := State.qClass_of_inTurn next
    refine .lowest (lowest.symm ▸ next) outside (by simpa [qs] using none) (lowest.symm ▸ ?_)
    exact (foldl_min_qClass_le (s.served c) 8).2

theorem State.Chosen.mem (chosen : s.Chosen c q) : q ∈ s.served c := by
  cases chosen with
  | passedOver mem => exact mem
  | safety turn | lowest turn => exact (State.mem_servedIn.mp (mem_of_inTurn turn)).1

/-- A queue chosen in turn is the first of its class after the one served last, or the first of all. -/
theorem State.inTurn_servedIn {l cls : Nat} (turn : inTurn (some l) (s.servedIn c cls) = some q) :
    ((∃ x ∈ s.served c, qClass x = cls ∧ l < x) →
      l < q ∧ ∀ x ∈ s.served c, qClass x = cls → l < x → q ≤ x) ∧
    ((∀ x ∈ s.served c, qClass x = cls → x ≤ l) → ∀ x ∈ s.served c, qClass x = cls → q ≤ x) := by
  have sorted := s.servedIn_sorted c cls
  refine ⟨fun ⟨x, hx, same, above⟩ => ?_, fun ended x hx same => ?_⟩
  · obtain ⟨after, least⟩ := inTurn_after sorted turn ⟨x, State.mem_servedIn.mpr ⟨hx, same⟩, above⟩
    exact ⟨after, fun y hy own => least y (State.mem_servedIn.mpr ⟨hy, own⟩)⟩
  · refine inTurn_first sorted turn (fun y hy => ?_) x (State.mem_servedIn.mpr ⟨hx, same⟩)
    obtain ⟨waits, own⟩ := State.mem_servedIn.mp hy
    exact ended y waits own

end

/-- Settles O30: each clause by the three ways in which the next queue is chosen. -/
theorem consumersServeInOrder : Obligations.ConsumersServeInOrder := by
  unfold Obligations.ConsumersServeInOrder
  intro s c q next
  have chosen := State.chosen_of_nextServed next
  have mem := chosen.mem
  refine ⟨mem, ?safetyFirst, ?thenPassedOver, ?thenLowest, ?inTurn⟩
  case safetyFirst =>
    rintro ⟨x, hx, safe⟩
    cases chosen with
    | safety _ own => exact own
    | passedOver _ outside | lowest _ outside => exact absurd safe (outside x hx)
  case thenPassedOver =>
    rintro outside ⟨x, hx, passed⟩
    cases chosen with
    | safety _ own => exact absurd own (outside q mem)
    | passedOver _ _ own => exact own
    | lowest _ _ fair => exact absurd passed (fair x hx).not_ge
  case thenLowest =>
    intro fair x hx
    cases chosen with
    | safety _ own => exact own ▸ Nat.zero_le _
    | passedOver _ _ passed => exact absurd passed (fair q mem).not_ge
    | lowest _ _ _ least => exact least x hx
  case inTurn =>
    intro ruled l served
    cases chosen with
    | safety turn | lowest turn => exact State.inTurn_servedIn (served ▸ turn)
    | passedOver _ outside passed =>
      exact (ruled.elim (fun own => outside q mem own) (fun fair => (fair q mem).not_ge passed)).elim

end Sys2Proof.Machine

namespace Sys2Proof.Machine

open Sys2Proof

/-! ## Flags of Queue.Sticky that stay set

Reports may themselves set flags of Queue.Sticky (R295, R296); they clear none. -/

/-- Every flag of Queue.Sticky that is set in one state is set in another. -/
structure QueueFlagsStay (s t : State) : Prop where
  bit : ∀ i, s.bit Obj.queueSticky i = true → t.bit Obj.queueSticky i = true

namespace QueueFlagsStay

variable {s t u : State}

theorem refl (s : State) : QueueFlagsStay s s := ⟨fun _ set => set⟩

theorem trans (h : QueueFlagsStay s t) (g : QueueFlagsStay t u) : QueueFlagsStay s u :=
  ⟨fun i set => g.bit i (h.bit i set)⟩

theorem of_get (same : t.get Obj.queueSticky = s.get Obj.queueSticky) : QueueFlagsStay s t :=
  ⟨fun i set => (congrArg (fun n => n.testBit i) same).trans set⟩

theorem ite {c : Prop} [Decidable c] (ht : QueueFlagsStay s t) (hu : QueueFlagsStay s u) :
    QueueFlagsStay s (if c then t else u) := prop_ite (P := QueueFlagsStay s) ht hu

theorem foldl {α : Type} {f : State → α → State} (hf : ∀ u a, QueueFlagsStay u (f u a)) (l : List α) (s : State) :
    QueueFlagsStay s (l.foldl f s) := prop_foldl (P := QueueFlagsStay s) (.refl s) (fun u a _ h => h.trans (hf u a))

/-- One more flag set. -/
theorem setFlag (b : Nat) : QueueFlagsStay s (s.set Obj.queueSticky (setBit (s.get Obj.queueSticky) b)) := by
  refine ⟨fun i set => ?_⟩
  rw [State.bit, State.get_set_self]
  by_cases same : i = b
  · rw [same, testBit_setBit_self]
  · rw [testBit_setBit_ne _ same]
    exact set

theorem set {k : Nat} (v : Nat) (other : Obj.queueSticky ≠ k) : QueueFlagsStay s (s.set k v) :=
  .of_get (State.get_set_ne _ _ _ _ other)

theorem place (m : QMsg) : QueueFlagsStay s (s.place m) := .of_get (State.get_congr (s.place_dict m) _)

theorem post (k : PostKind) (q n : Nat) (b : Msg) : QueueFlagsStay s (s.post k q n b) := by
  unfold State.post
  dsimp only
  refine .ite (.place _) (.ite (.refl s) ?_)
  split
  · exact .ite (.of_get (State.get_placeEscape_ne _ _ (by decide))) (.of_get rfl)
  · exact .of_get rfl
  · exact .of_get rfl
  · exact .ite (.ite ((QueueFlagsStay.setFlag 8).trans (.of_get rfl)) (.of_get rfl)) (.of_get rfl)

theorem log (p : Prod) (code sev inst : Nat) (bs : Bytes) : QueueFlagsStay s (s.log p code sev inst bs) := by
  unfold State.log State.postLog
  cases p with
  | cellar => exact .of_get rfl
  | press | vintner | cork | monitors => exact .post ..

theorem txExpired (n : Nat) : QueueFlagsStay s (s.txExpired n) := by
  have counted : (s.bump Obj.queueTxExpiredCount n).get Obj.queueSticky = s.get Obj.queueSticky :=
    State.get_bump_ne _ _ _ _ (by decide)
  unfold State.txExpired
  rw [← counted]
  exact .ite (.refl s) (.trans (.of_get counted) (.setFlag 2))

theorem sendFrames (k : PostKind) (p : Port) (q : Nat) (fs : List CanFrame) :
    QueueFlagsStay s (s.sendFrames k p q fs) := by
  have posted : QueueFlagsStay s (fs.foldl (fun s f => s.post k (q + portNum p) 1 (.frame f)) s) :=
    .foldl (fun _ _ => .post ..) fs s
  unfold State.sendFrames
  exact .ite (.txExpired _) (.ite posted (posted.trans (.of_get rfl)))

theorem sendAll (k : PostKind) (q : Nat) (i : BitVec 29) (b : Bytes) : QueueFlagsStay s (s.sendAll k q i b) :=
  .foldl (fun u _ => .ite (.sendFrames ..) (.refl u)) _ s

theorem notify (event slot : Nat) (data : Bytes) : QueueFlagsStay s (s.notify event slot data) := by
  unfold State.notify
  exact .ite (QueueFlagsStay.trans (t := s.set Obj.fieldNotifySequence _) (.set _ (by decide)) (.sendAll ..)) (.refl s)

theorem noteSummary : QueueFlagsStay s s.noteSummary := by
  have raised : QueueFlagsStay s (({ s with hp.lastSummary := BitVec.ofNat 32 (summaryOf s.dict) }).raiseIrq 1) :=
    .of_get rfl
  unfold State.noteSummary
  exact .ite (.refl s) (raised.trans (.notify ..))

end QueueFlagsStay

section

variable (s : State)

/-- A flag of Queue.Sticky set is set, whatever is reported with it. -/
theorem State.bit_flag_queueSticky (b : Nat) : (s.flag Obj.queueSticky b).bit Obj.queueSticky b = true := by
  refine QueueFlagsStay.noteSummary.bit b ?_
  rw [State.bit, State.get_set_self, testBit_setBit_self]

theorem State.bit_faultRow_queueSticky (b : Nat) (p : Prod) (code sev inst : Nat) (bs : Bytes) :
    (s.faultRow Obj.queueSticky b p code sev inst bs).bit Obj.queueSticky b = true :=
  (QueueFlagsStay.log p code sev inst bs).bit b (s.bit_flag_queueSticky b)

end

/-! ## The commands of the queue engine -/

section

variable {s : State}

/-- QUEUE_POST with a free credit, to a queue that no transmitter drains (R286). -/
theorem exec_queuePost_placed {q : Byte} (b : Bytes) {d : Bool} (on : s.power.state ≠ .off) (used : 0 < qDepth q.toNat)
    (room : 1 ≤ s.credits q.toNat) (first : s.standsBehind (s.postAs (postKind q.toNat d)) q.toNat = false)
    (inner : isTxQueue q.toNat = false) : exec (.queuePost q b d) s = .next
      ((s.place (s.newMsg q.toNat 1 (s.posted q.toNat (b.take 64)))).noteSummary) := by
  have may : (s.awake && decide (0 < qDepth q.toNat)) = true := by simp [s.awake_iff.mpr on, used]
  refine (congrArg Host.Outcome.next (State.when_of may s _)).trans ?_
  rw [State.post_placed room first, inner]
  rfl

/-- A message removed in turn by its consumer, and handled (R288, R292). -/
def State.takeTurn (s : State) (q : Nat) : State := (s.noteServed (consumerOf q) q).handle (fun u => u.consume q)

/-- QUEUE_TAKE by the consumer whose turn it is (R288 to R292): all that it posts finds its credits, or it does not take
the message. -/
theorem exec_queueTake_turn {q : Byte} (on : s.power.state ≠ .off) (stands : (s.headOf q.toNat).isSome = true)
    (inner : isTxQueue q.toNat = false) (noMailbox : consumerOf q.toNat ≠ 6)
    (turn : s.nextServed (consumerOf q.toNat) = some q.toNat)
    (recovered : consumerOf q.toNat = 0 → s.wd.lockstepBusy = false) :
    exec (.queueTake q) s = .next (
      if consumerOf q.toNat ≠ 0 ∧ s.derivedWaits < (s.takeTurn q.toNat).derivedWaits then s
      else ((s.takeTurn q.toNat).noteSummary).serveHeld) := by
  have may : (s.awake && (s.headOf q.toNat).isSome) = true := by simp [s.awake_iff.mpr on, stands]
  have serves : s.nextServed (consumerOf q.toNat) = some q.toNat ∧
      (!(decide (consumerOf q.toNat = 0) && s.wd.lockstepBusy)) = true := by
    refine ⟨turn, ?_⟩
    by_cases cellar : consumerOf q.toNat = 0
    · simp [recovered cellar]
    · simp [cellar]
  refine congrArg Host.Outcome.next ((State.when_of may s _).trans ?_)
  rw [inner]
  exact (if_neg Bool.false_ne_true).trans ((if_neg noMailbox).trans (if_pos serves))

/-- DEFER_TIMEOUT of a held request (R303). -/
theorem exec_deferTimeout_held {src : BitVec 16} {tid : Byte} {d : Nat} {h : Held}
    (due : s.deadline (.defer src.toNat tid.toNat) = some d)
    (held : s.eng.held.find? (fun h => (h.caller.dest.peer == src.toNat && h.caller.dest.tid == tid.toNat) &&
      !h.answered) = some h) :
    exec (.deferTimeout src tid) s = .next ((Claims.expired s (.defer src.toNat tid.toNat) d).deferHeld h) := by
  refine congrArg Host.Outcome.next ((State.onTimer_of_deadline _ due).trans ?_)
  dsimp only
  rw [(expired_fr s (.defer src.toNat tid.toNat) d).eng rfl, held]

/-- A delayed request taken out of its queue, counted, and flagged as refused late (R304, R310). -/
def State.withdrawHeld (s : State) (h : Held) (peer : Nat) : State :=
  let t : State := { s.unqueue h with eng.held := (s.unqueue h).eng.held.erase h }
  (((t.bump Obj.queueDeferRefusedCount 1).countDrop h.lacks).noteRefusal h.lacks true peer).faultRow Obj.queueSticky 1
    .vintner 0x0D02 1 31 []

theorem State.withdrawHeld_eng (s : State) (h : Held) (peer : Nat) :
    (s.withdrawHeld h peer).eng.held = s.eng.held.erase h := by
  rw [State.withdrawHeld, State.faultRow_eng]
  exact congrArg (fun e : Engine => e.held.erase h) ((State.unqueue_fr s h (F := 16777216) rfl (Fr.refl _ s)).eng rfl)

/-- DEFER_LIMIT_EXPIRY of a request that still waits (R304). -/
theorem exec_deferLimitExpiry_held {src : BitVec 16} {tid : Byte} {d : Nat} {h : Held}
    (due : s.deadline (.deferLimit src.toNat tid.toNat) = some d)
    (held : s.eng.held.find? (fun h => h.answered && h.caller.dest.peer == src.toNat && h.caller.dest.tid == tid.toNat)
      = some h) :
    exec (.deferLimitExpiry src tid) s = .next
      ((((Claims.expired s (.deferLimit src.toNat tid.toNat) d).withdrawHeld h src.toNat).abort
        { h.caller with deferred := true } h.body (9, h.lacks)).serveHeld) := by
  refine congrArg Host.Outcome.next ((State.onTimer_of_deadline _ due).trans ?_)
  dsimp only
  rw [(expired_fr s (.deferLimit src.toNat tid.toNat) d).eng rfl, held]
  rfl

theorem deferLimitExpiry_withdraws {src : BitVec 16} {tid : Byte} {d : Nat} {h : Held}
    (due : s.deadline (.deferLimit src.toNat tid.toNat) = some d)
    (held : s.eng.held.find? (fun h => h.answered && h.caller.dest.peer == src.toNat && h.caller.dest.tid == tid.toNat)
      = some h) :
    ∃ u : State, u.eng.held = s.eng.held.erase h ∧ u.bit Obj.queueSticky 1 = true ∧
      exec (.deferLimitExpiry src tid) s = .next
        ((u.abort { h.caller with deferred := true } h.body (9, h.lacks)).serveHeld) := by
  refine ⟨(Claims.expired s (.deferLimit src.toNat tid.toNat) d).withdrawHeld h src.toNat, ?_,
    State.bit_faultRow_queueSticky .., exec_deferLimitExpiry_held due held⟩
  rw [State.withdrawHeld_eng, (expired_fr s (.deferLimit src.toNat tid.toNat) d).eng rfl]

/-- The timer of a port's refusals set anew moves neither a port, a register nor a memory. -/
theorem State.rearmRefusal_frame (s : State) (p : Port) :
    (s.rearmRefusal p).field = s.field ∧ (s.rearmRefusal p).dict = s.dict ∧ (s.rearmRefusal p).mems = s.mems := by
  unfold State.rearmRefusal
  split <;> exact ⟨rfl, rfl, rfl⟩

theorem State.mems_setPortEng (s : State) (p : Port) (e : PortEngine) : (s.setPortEng p e).mems = s.mems := by
  cases p <;> rfl

/-- REFUSAL_EXPIRY of a refusal that waits (R301). -/
theorem refusalExpiry_withdraws {p : Port} {d : Nat} {r : RefusalFrame} {rest : List RefusalFrame}
    (due : s.deadline (.refusal p) = some d) (waits : (s.portEng p).refusals = r :: rest) :
    Claims.Answers (.refusalExpiry p) s (fun t => (t.portEng p).refusals = rest ∧ t.bit Obj.queueSticky 3 = true ∧
      t.mems = s.mems) := by
  let u := Claims.expired s (.refusal p) d
  let left := u.setPortEng p { u.portEng p with refusals := rest }
  have field : u.portEng p = s.portEng p := State.portEng_congr ((expired_fr s (.refusal p) d).field rfl) p
  obtain ⟨kept, dict, mems⟩ := State.rearmRefusal_frame left.refusalGone p
  refine ⟨left.refusalGone.rearmRefusal p, ?_, ?_, ?_, ?_⟩
  · refine congrArg Host.Outcome.next ((State.onTimer_of_deadline _ due).trans ?_)
    have : ((Claims.expired s (.refusal p) d).portEng p).refusals = r :: rest := (congrArg _ field).trans waits
    dsimp only
    rw [this]
  · have gone : left.refusalGone.field = left.field := State.flag_field ..
    rw [State.portEng_congr (kept.trans gone), State.portEng_setPortEng]
  · rw [State.bit, State.get_congr dict]
    exact State.bit_flag_queueSticky _ 3
  · rw [mems, State.refusalGone, State.flag_mems, State.bump_mems, State.mems_setPortEng]
    exact expired_mems ..

/-- A queue's messages, its held requests and its groups in reassembly gone (R311). -/
def State.emptyQueue (s : State) (q : Nat) : State :=
  let gone := s.eng.held.filter (fun h => h.queue == q)
  let lost := fun (src tid : Nat) => gone.any (fun h => h.caller.dest.peer == src && h.caller.dest.tid == tid)
  { s with
    q.msgs := s.q.msgs.filter (fun m => m.queue != q)
    eng.held := s.eng.held.filter (fun h => h.queue != q)
    field := { s.field with reasm := s.field.reasm.filter (fun g => g.queue != q),
                            retx := s.field.retx.filter (fun r => !lost r.src r.tid) } }

/-- An update set back to its first lost segment as its queue is emptied (R311). -/
def State.loseSegments (s : State) (q : Nat) : State :=
  match q, s.upd.segments with
  | 0x08, g :: _ => ({ s with upd.segments := [] } : State).set Obj.updateReceived g.offset
  | _, _ => s

theorem State.q_loseSegments (s : State) (q : Nat) : (s.loseSegments q).q = s.q := by
  unfold State.loseSegments
  split <;> rfl

/-- Of the queue engine the emptying of a queue takes that queue's messages alone. -/
theorem State.q_emptied (s : State) (q : Nat) : ((s.emptyQueue q).loseSegments q).q =
    { s.q with msgs := s.q.msgs.filter (fun m => m.queue != q) } := State.q_loseSegments (s.emptyQueue q) q

theorem State.discardQueue_eq (s : State) (q : Nat) : s.discardQueue q =
    let t := (s.emptyQueue q).loseSegments q
    if t.escapeTaken (qClass q) then t else (t.disarm (.escape (qClass q))).escapeWaiting (qClass q) := rfl

/-- An escape slot that no derived post of its class waits for stays free. -/
theorem State.escapeWaiting_idle {cls : Nat} (noPost : ∀ w ∈ s.q.waits, w.kind ≠ .derived ∨ qClass w.msg.queue ≠ cls) :
    s.escapeWaiting cls = s := by
  have none : s.q.waits.find? (fun w => w.kind == .derived && qClass w.msg.queue == cls) = none := by
    simpa [List.find?_eq_none, imp_iff_not_or] using noPost
  rw [State.escapeWaiting, none]

/-- A queue discarded holds no message, where no derived post of its class waits to take the escape slot (R290, R311). -/
theorem State.msgs_discardQueue {q : Nat}
    (noPost : ∀ w ∈ s.q.waits, w.kind ≠ .derived ∨ qClass w.msg.queue ≠ qClass q) :
    (s.discardQueue q).q.msgs = s.q.msgs.filter (fun m => m.queue != q) := by
  have emptied := s.q_emptied q
  rw [State.discardQueue_eq]
  refine prop_ite (P := fun u : State => u.q.msgs = s.q.msgs.filter (fun m => m.queue != q))
    (congrArg Queues.msgs emptied) ?_
  rw [State.escapeWaiting_idle (by rw [State.disarm_q, emptied]; exact noPost)]
  exact congrArg Queues.msgs emptied

/-- CREDIT_AUDIT that finds another count (R311). -/
theorem exec_creditAudit_differs {q : Byte} {n : Nat} (on : s.power.state ≠ .off) (differs : n ≠ qDepth q.toNat) :
    exec (.creditAudit q n) s = .next ((((s.discardQueue q.toNat).faultRow Obj.queueSticky 7 .monitors 0x0E08 1 31
      (leBytes 4 q.toNat ++ leBytes 4 (qDepth q.toNat) ++ leBytes 4 n)).placeWaiting q.toNat).serveHeld) := by
  have may : (s.awake && n != qDepth q.toNat) = true := by simp [s.awake_iff.mpr on, differs]
  exact congrArg Host.Outcome.next (State.when_of may s _)

/-- ESCAPE_HELD of a slot that is still taken (R310). -/
theorem escapeHeld_flags {c : Fin 8} {d : Nat} {m : QMsg} (due : s.deadline (.escape c.val) = some d)
    (taken : s.q.msgs.find? (fun m => m.escape && qClass m.queue == c.val) = some m) :
    Claims.Answers (.escapeHeld c) s (fun t => t.bit Obj.queueSticky 4 = true ∧ t.power = s.power ∧ t.mems = s.mems) := by
  have frame := expired_fr s (.escape c.val) d
  refine ⟨(Claims.expired s (.escape c.val) d).faultRow Obj.queueSticky 4 .monitors 0x0E05 1 31
    (leBytes 4 c.val ++ leBytes 4 m.queue), ?_, State.bit_faultRow_queueSticky .., ?_, ?_⟩
  · refine congrArg Host.Outcome.next ((State.onTimer_of_deadline _ due).trans ?_)
    rw [frame.q rfl, taken]
  · rw [State.faultRow_power, frame.power rfl]
  · rw [State.faultRow_mems, expired_mems]

end

/-- Settles O31: a lemma per command of the queue engine. -/
theorem queueCommands : Obligations.QueueCommands := by
  unfold Obligations.QueueCommands
  intro s
  refine ⟨fun _ b _ on used room first inner => exec_queuePost_placed b on used room first inner,
    fun q on stands inner noMailbox turn recovered => ?take, fun _ _ _ _ => exec_deferTimeout_held,
    fun _ _ _ _ => deferLimitExpiry_withdraws, fun _ _ _ _ => refusalExpiry_withdraws,
    fun q n on differs => ⟨fun noPost m hm => ?discarded, exec_creditAudit_differs on differs⟩,
    fun _ _ _ => escapeHeld_flags⟩
  case take =>
    have taken := exec_queueTake_turn on stands inner noMailbox turn recovered
    refine ⟨fun served => taken.trans (congrArg Host.Outcome.next (if_neg ?_)),
      fun core lacks => taken.trans (congrArg Host.Outcome.next (if_pos ⟨core, lacks⟩))⟩
    rintro ⟨core, lacks⟩
    exact served.elim core (fun enough => enough.not_gt lacks)
  case discarded =>
    rw [State.msgs_discardQueue noPost] at hm
    simpa using (List.mem_filter.mp hm).2

end Sys2Proof.Machine

namespace Sys2Proof.Machine

open Sys2Proof

/-! ## SYNC while a licence-exempt gate is open (R334, R381)

SYNC starts settle suppression on every path (R334), and suppression of a path of the licence-exempt pair closes both its
gates (R381): its path state becomes gated, where R334 has the mute states unchanged. The statement takes every state, one
with an open gate among them. -/

/-- STANDBY with the SYNC pin enabled, path 0 of the licence-exempt pair at its limit, and the uplink gate open. -/
def leGateOpen : State :=
  let s : State := { State.reset with power := { State.reset.power with state := .standby } }
  ((((s.set Obj.converterSyncPinEnable 1).set (Obj.bandEnable 0) 1).set (Obj.bandKind 0) 1).set Obj.leDirection 1).set
    (Obj.stabState 0) 3

theorem exec_syncEdge_leGateOpen : exec .syncEdge leGateOpen = .next leGateOpen.doSync := rfl

theorem leGateOpen_serves : leGateOpen.get (Obj.stabState 0) = 3 := by
  decide +kernel

theorem leGateOpen_gated : leGateOpen.doSync.get (Obj.stabState 0) = 5 := by
  decide +kernel

/-- Refutes O32: in `leGateOpen` the SYNC edge closes the gate, so that path 0, at its limit before it, is gated after it
where the statement has its state unchanged. -/
theorem not_convertersAndBlocks : ¬ Obligations.ConvertersAndBlocks := by
  unfold Obligations.ConvertersAndBlocks
  intro h
  obtain ⟨-, -, -, -, -, -, -, sync, -⟩ := h leGateOpen rfl
  obtain ⟨t, answer, -, -, paths⟩ := sync rfl rfl
  obtain ⟨-, -, -, kept, -⟩ := paths 0 (by decide)
  have next : leGateOpen.doSync = t := Host.Outcome.next.inj (exec_syncEdge_leGateOpen.symm.trans answer)
  rw [← next, leGateOpen_gated, leGateOpen_serves] at kept
  exact absurd kept (by decide)

end Sys2Proof.Machine

namespace Sys2Proof.Machine

open Sys2Proof

/-! ## Events at the inputs of a path (R345 to R347) -/

theorem State.get_flagFirst_log_ne (s : State) (k b : Nat) (pr : Prod) (code sev inst : Nat) (bs : Bytes) {j : Nat}
    (other : j ≠ k) (unreported : reportKey j = false) :
    (s.flagFirst k b (fun s => s.log pr code sev inst bs)).get j = s.get j := by
  unfold State.flagFirst
  split
  · rfl
  · rw [State.get_log _ _ _ _ _ _ _ unreported, State.get_flag_ne _ _ _ _ other unreported]

/-- The registers of a path's inputs have the sub-indices from 0x10 on; an event leaves those below them alone. -/
theorem State.get_fabEvent (s : State) (p input : Nat) {k : Nat} (below : k % 256 < 16)
    (unreported : reportKey k = false) : (s.fabEvent p input).get k = s.get k := by
  unfold State.fabEvent
  dsimp only
  split
  · exact State.get_set_ne _ _ _ _ (by unfold Obj.bandPathEventPending; omega)
  · split
    · rfl
    · rw [State.get_flagFirst_log_ne _ _ _ _ _ _ _ _ (by unfold Obj.bandPathSticky; omega) unreported,
        State.get_bump_ne _ _ _ _ (by unfold Obj.bandPathEventOverflow; omega)]
      rfl

theorem State.fabEvent_length (s : State) (p input : Nat) : (s.fabEvent p input).paths.length = s.paths.length := by
  unfold State.fabEvent
  dsimp only
  split
  · exact s.setPath_length _ _
  · split
    · exact s.setPath_length _ _
    · rw [State.flagFirst_log_paths]
      exact s.setPath_length _ _

theorem State.fabEvent_pins (s : State) (p input : Nat) : (s.fabEvent p input).pins = s.pins :=
  (State.fabEvent_fr s p input (F := 68778196998) rfl (Fr.refl _ s)).pins rfl

theorem State.fabEvent_mems (s : State) (p input : Nat) : (s.fabEvent p input).mems = s.mems :=
  (State.fabEvent_fr s p input (F := memWork) rfl (Fr.refl _ s)).mems

/-! ## The envelope of a path (R342) -/

/-- An envelope event of a path: what it was is remembered, the level is shown, and its input is raised. -/
def State.envelopeEvent (s : State) (p : Nat) (high : Bool) (level input : Nat) : State :=
  ((s.setPath p { s.path p with envHigh := high }).set (Obj.bandPathEnvelope p) level).fabEvent p input

theorem execEnvelopeHigh_eq (p : Fin 16) (l : BitVec 16) (s : State) : execEnvelopeHigh p l s = .next
    (s.when (s.running && !(s.path p.val).envHigh && decide (s.getI (Obj.bandPathEnvHigh p.val) < l.toInt))
      (fun s => s.envelopeEvent p.val true l.toNat 1)) := rfl

theorem execEnvelopeLow_eq (p : Fin 16) (l : BitVec 16) (s : State) : execEnvelopeLow p l s = .next
    (s.when (s.running && (s.path p.val).envHigh && decide (l.toInt < s.getI (Obj.bandPathEnvLow p.val)))
      (fun s => s.envelopeEvent p.val false l.toNat 2)) := rfl

/-- What an envelope event leaves on its path and in the rest of the state. -/
theorem State.envelopeEvent_effect {s : State} {p : Nat} (h : p < s.paths.length) (high : Bool) (level input : Nat) :
    ((s.envelopeEvent p high level input).path p).envHigh = high ∧
      (∃ i ∈ ((s.envelopeEvent p high level input).path p).inputs, i.input = input) ∧
      (s.envelopeEvent p high level input).get (Obj.bandPathEnvelope p) = level ∧
      (s.envelopeEvent p high level input).pins = s.pins ∧ (s.envelopeEvent p high level input).mems = s.mems := by
  have shown : (s.setPath p { s.path p with envHigh := high }).path p = { s.path p with envHigh := high } :=
    State.path_setPath_self _ h
  obtain ⟨inputs, path, raised⟩ := State.fabEvent_path
    (s := (s.setPath p { s.path p with envHigh := high }).set (Obj.bandPathEnvelope p) level) input
    ((s.setPath_length p _).symm ▸ h)
  rw [State.path_set, shown] at path
  unfold State.envelopeEvent
  rw [path]
  refine ⟨rfl, raised, ?_, State.fabEvent_pins .., State.fabEvent_mems ..⟩
  rw [State.get_fabEvent _ _ _ (by unfold Obj.bandPathEnvelope; omega)
    (reportKey_of_le (by unfold Obj.bandPathEnvelope; omega)), State.get_set_self]

/-- Settles O35: both commands raise one kind of event, under the conditions that make the two alternate. -/
theorem envelopeEventsAlternate : Obligations.EnvelopeEventsAlternate := by
  unfold Obligations.EnvelopeEventsAlternate
  intro s p l len runs
  have inRange : p.val < s.paths.length := p.isLt.trans_eq len.symm
  refine ⟨fun low above => ⟨_, (execEnvelopeHigh_eq p l s).trans (congrArg Host.Outcome.next (State.when_of ?_ s _)),
      State.envelopeEvent_effect inRange true l.toNat 1⟩, fun idle => ?_,
    fun high below => ⟨_, (execEnvelopeLow_eq p l s).trans (congrArg Host.Outcome.next (State.when_of ?_ s _)),
      State.envelopeEvent_effect inRange false l.toNat 2⟩, fun idle => ?_⟩
  · simp [runs, low, above]
  · refine (execEnvelopeHigh_eq p l s).trans ?_
    rcases idle with high | low
    · simp [high]
    · simp [low.not_gt]
  · simp [runs, high, below]
  · refine (execEnvelopeLow_eq p l s).trans ?_
    rcases idle with low | high
    · simp [low]
    · simp [high.not_gt]

end Sys2Proof.Machine

namespace Sys2Proof.Machine

open Sys2Proof

/-! ## The results of a detector window (R339, R340) -/

/-- Bytes spelled out again give back the string (R5). -/
theorem leBytes_leNat (bs : Bytes) : leBytes bs.length (leNat bs) = bs := by
  induction bs with
  | nil => rfl
  | cons b bs ih =>
    have low : (b.toNat + 256 * leNat bs) % 256 = b.toNat := by omega
    have high : (b.toNat + 256 * leNat bs) / 256 = leNat bs := by omega
    rw [List.length_cons, leBytes, leNat, low, high, ih, byteOf, BitVec.ofNat_toNat, BitVec.setWidth_eq]

theorem State.bytesOf_congr {s t : State} {k : Nat} (h : t.get k = s.get k) : t.bytesOf k = s.bytesOf k := by
  rw [State.bytesOf, State.bytesOf, h]

/-- A register given the number that a string of its size spells holds that string. -/
theorem State.bytesOf_set_leNat (s : State) {k : Nat} {bs : Bytes} (size : objSize k = bs.length) :
    (s.set k (leNat bs)).bytesOf k = bs := by
  rw [State.bytesOf, State.get_set_self, size, leBytes_leNat]

theorem ofSigned_lt (k : Nat) (i : Int) : ofSigned k i < 256 ^ k := by
  have bound : i % (2 : Int) ^ (8 * k) < 2 ^ (8 * k) := Int.emod_lt_of_pos _ (by positivity)
  have nonneg : 0 ≤ i % (2 : Int) ^ (8 * k) := Int.emod_nonneg _ (by positivity)
  have same : (256 : Nat) ^ k = 2 ^ (8 * k) := (pow_mul 2 8 k).symm
  rw [ofSigned, same]
  zify
  rw [Int.toNat_of_nonneg nonneg]
  exact bound

/-- The flags of a result: Valid, GuardOverflow, Suppressed and Clipped. -/
def windowFlags (overflow suppressed clipped : Bool) : Nat :=
  (if !overflow && !suppressed then 1 else 0) + (if overflow then 2 else 0) + (if suppressed then 4 else 0) +
    (if clipped then 8 else 0)

theorem windowFlags_bits (overflow suppressed clipped : Bool) :
    (windowFlags overflow suppressed clipped).testBit 0 = (!overflow && !suppressed) ∧
    (windowFlags overflow suppressed clipped).testBit 1 = overflow ∧
    (windowFlags overflow suppressed clipped).testBit 2 = suppressed ∧
    (windowFlags overflow suppressed clipped).testBit 3 = clipped := by
  revert overflow suppressed clipped
  decide

theorem windowFlags_lt (overflow suppressed clipped : Bool) : windowFlags overflow suppressed clipped < 256 := by
  revert overflow suppressed clipped
  decide

/-- A result as its register holds it: the value, WindowSeq, the flags and the level. -/
def windowResult (value seq flags : Nat) (level : Int) : Bytes :=
  leBytes 8 value ++ (leBytes 4 seq ++ [byteOf flags, 0#8] ++ leBytes 2 (ofSigned 2 level))

section

variable {value seq flags : Nat} {level : Int}

theorem windowResult_length : (windowResult value seq flags level).length = 16 := by
  simp [windowResult]

theorem windowResult_value (h : value < 256 ^ 8) : fieldAt (windowResult value seq flags level) 0 8 = value :=
  fieldAt_leBytes [] _ 8 value h

theorem windowResult_seq (h : seq < 256 ^ 4) : fieldAt (windowResult value seq flags level) 8 4 = seq := by
  have field := fieldAt_leBytes (leBytes 8 value) ([byteOf flags, 0#8] ++ leBytes 2 (ofSigned 2 level)) 4 seq h
  rw [leBytes_length] at field
  rw [windowResult, List.append_assoc, ← List.append_assoc]
  exact field

theorem windowResult_flags (h : flags < 256) : fieldAt (windowResult value seq flags level) 12 1 = flags := by
  have field := fieldAt_leBytes (leBytes 8 value ++ leBytes 4 seq) (0#8 :: leBytes 2 (ofSigned 2 level)) 1 flags h
  have one : leBytes 1 flags = [byteOf flags] := by rw [leBytes, leBytes, Nat.mod_eq_of_lt h]
  rw [one] at field
  simpa [windowResult] using field

theorem windowResult_level : fieldAt (windowResult value seq flags level) 14 2 = ofSigned 2 level := by
  have field := fieldAt_leBytes (leBytes 8 value ++ leBytes 4 seq ++ [byteOf flags, 0#8]) [] 2 (ofSigned 2 level)
    (ofSigned_lt 2 level)
  simpa [windowResult] using field

end

/-! ## A detector window at its end (R336 to R343, R352) -/

/-- The WindowSeq of the results that come next (R339). -/
def State.windowSeq (s : State) (p : Nat) : Nat := (fieldAt (s.bytesOf (Obj.bandPathPeak p)) 8 4 + 1) % 2 ^ 32

/-- Both results of a window in their registers. -/
def State.setResults (s : State) (p pmax sum : Nat) (overflow clipped : Bool) : State :=
  let r := s.path p
  let flags := windowFlags overflow r.suppressed clipped
  let valid := !overflow && !r.suppressed
  (s.set (Obj.bandPathPeak p) (leNat (windowResult pmax (s.windowSeq p) flags (levelOf pmax 1 valid)))).set
    (Obj.bandPathRms p) (leNat (windowResult sum (s.windowSeq p) flags (levelOf sum (2 ^ (r.window / 2)) valid)))

/-- The events of a window's end: GuardOverflow where the sum ran past 2^48, and DetectorWindow. -/
def State.raiseWindow (s : State) (p : Nat) (overflow : Bool) : State :=
  (if overflow then (s.flag (Obj.bandPathSticky p) 0).fabEvent p 7 else s).fabEvent p 0

theorem State.latchWindow_eq (s : State) (p pmax sum : Nat) (clipped : Bool) : s.latchWindow p pmax sum clipped =
    ((s.setResults p pmax (min sum (2 ^ 48 - 1)) (decide (2 ^ 48 ≤ sum)) clipped).freshWindow p).raiseWindow p
      (decide (2 ^ 48 ≤ sum)) := rfl

theorem objSize_bandPathPeak : ∀ p : Fin 16, objSize (Obj.bandPathPeak p.val) = 16 := by
  decide

theorem objSize_bandPathRms : ∀ p : Fin 16, objSize (Obj.bandPathRms p.val) = 16 := by
  decide

section

variable (s : State) (p : Nat) (overflow : Bool) {k : Nat}

theorem State.get_raiseWindow (below : k % 256 < 16) (unreported : reportKey k = false) :
    (s.raiseWindow p overflow).get k = s.get k := by
  rw [State.raiseWindow, State.get_fabEvent _ _ _ below unreported]
  split
  · rw [State.get_fabEvent _ _ _ below unreported,
      State.get_flag_ne _ _ _ _ (by unfold Obj.bandPathSticky; omega) unreported]
  · rfl

theorem State.raiseWindow_path {s : State} {p : Nat} (h : p < s.paths.length) :
    ∃ l, (s.raiseWindow p overflow).path p = { s.path p with inputs := l } ∧ ∃ i ∈ l, i.input = 0 := by
  unfold State.raiseWindow
  cases overflow with
  | false => exact State.fabEvent_path 0 h
  | true =>
    have flagged : p < (s.flag (Obj.bandPathSticky p) 0).paths.length := by rwa [State.flag_paths]
    obtain ⟨first, overrun, -⟩ := State.fabEvent_path 7 flagged
    obtain ⟨l, ended, raised⟩ := State.fabEvent_path (s := (s.flag (Obj.bandPathSticky p) 0).fabEvent p 7) 0
      ((State.fabEvent_length ..).symm ▸ flagged)
    refine ⟨l, ?_, raised⟩
    rw [if_pos rfl, ended, overrun, State.path_congr (State.flag_paths ..)]

end

/-! ### What the end of a window latches -/

@[simp] theorem State.get_freshWindow (s : State) (p k : Nat) : (s.freshWindow p).get k = s.get k := rfl

section

variable (s : State) (p : Fin 16) (pmax sum : Nat) (overflow clipped : Bool)

theorem State.get_setResults {k : Nat} (peak : k ≠ Obj.bandPathPeak p.val) (rms : k ≠ Obj.bandPathRms p.val) :
    (s.setResults p.val pmax sum overflow clipped).get k = s.get k :=
  (State.get_set_ne _ _ _ _ rms).trans (State.get_set_ne _ _ _ _ peak)

theorem State.setResults_paths : (s.setResults p.val pmax sum overflow clipped).paths = s.paths := by
  rw [State.setResults, State.set_paths, State.set_paths]

theorem State.bytesOf_setResults_peak : (s.setResults p.val pmax sum overflow clipped).bytesOf (Obj.bandPathPeak p.val) =
    windowResult pmax (s.windowSeq p.val) (windowFlags overflow (s.path p.val).suppressed clipped)
      (levelOf pmax 1 (!overflow && !(s.path p.val).suppressed)) := by
  have rms : Obj.bandPathPeak p.val ≠ Obj.bandPathRms p.val := by unfold Obj.bandPathPeak Obj.bandPathRms; omega
  rw [State.setResults, State.bytesOf_congr (State.get_set_ne _ _ _ _ rms),
    State.bytesOf_set_leNat _ ((objSize_bandPathPeak p).trans windowResult_length.symm)]

theorem State.bytesOf_setResults_rms : (s.setResults p.val pmax sum overflow clipped).bytesOf (Obj.bandPathRms p.val) =
    windowResult sum (s.windowSeq p.val) (windowFlags overflow (s.path p.val).suppressed clipped)
      (levelOf sum (2 ^ ((s.path p.val).window / 2)) (!overflow && !(s.path p.val).suppressed)) := by
  rw [State.setResults, State.bytesOf_set_leNat _ ((objSize_bandPathRms p).trans windowResult_length.symm)]

/-- The settings of the next window and the suppression that runs are no results. -/
theorem State.windowOf_setResults :
    (s.setResults p.val pmax sum overflow clipped).windowOf p.val = s.windowOf p.val := by
  have log2 := s.get_setResults p pmax sum overflow clipped (k := Obj.bandPathWindowLog2 p.val)
    (by unfold Obj.bandPathWindowLog2 Obj.bandPathPeak; omega) (by unfold Obj.bandPathWindowLog2 Obj.bandPathRms; omega)
  have point := s.get_setResults p pmax sum overflow clipped (k := Obj.bandPathDetectPoint p.val)
    (by unfold Obj.bandPathDetectPoint Obj.bandPathPeak; omega) (by unfold Obj.bandPathDetectPoint Obj.bandPathRms; omega)
  rw [State.windowOf, State.windowOf, log2, point]

theorem State.settling_setResults : (s.setResults p.val pmax sum overflow clipped).get (Obj.bandPathSettling p.val) =
    s.get (Obj.bandPathSettling p.val) :=
  s.get_setResults p pmax sum overflow clipped (by unfold Obj.bandPathSettling Obj.bandPathPeak; omega)
    (by unfold Obj.bandPathSettling Obj.bandPathRms; omega)

/-- The registers other than the results are as they were, those of the events apart. -/
theorem State.get_latchWindow {k : Nat} (below : k % 256 < 16) (unreported : reportKey k = false)
    (peak : k ≠ Obj.bandPathPeak p.val) (rms : k ≠ Obj.bandPathRms p.val) :
    (s.latchWindow p.val pmax sum clipped).get k = s.get k := by
  rw [State.latchWindow_eq, State.get_raiseWindow _ _ _ below unreported, State.get_freshWindow,
    State.get_setResults _ _ _ _ _ _ peak rms]

theorem State.bytesOf_latchWindow_peak : (s.latchWindow p.val pmax sum clipped).bytesOf (Obj.bandPathPeak p.val) =
    windowResult pmax (s.windowSeq p.val) (windowFlags (decide (2 ^ 48 ≤ sum)) (s.path p.val).suppressed clipped)
      (levelOf pmax 1 (!decide (2 ^ 48 ≤ sum) && !(s.path p.val).suppressed)) := by
  rw [State.latchWindow_eq, State.bytesOf_congr (State.get_raiseWindow _ _ _ (by unfold Obj.bandPathPeak; omega)
    (reportKey_of_le (by unfold Obj.bandPathPeak; omega))), State.bytesOf_congr (State.get_freshWindow ..),
    State.bytesOf_setResults_peak]

theorem State.bytesOf_latchWindow_rms : (s.latchWindow p.val pmax sum clipped).bytesOf (Obj.bandPathRms p.val) =
    windowResult (min sum (2 ^ 48 - 1)) (s.windowSeq p.val)
      (windowFlags (decide (2 ^ 48 ≤ sum)) (s.path p.val).suppressed clipped)
      (levelOf (min sum (2 ^ 48 - 1)) (2 ^ ((s.path p.val).window / 2))
        (!decide (2 ^ 48 ≤ sum) && !(s.path p.val).suppressed)) := by
  rw [State.latchWindow_eq, State.bytesOf_congr (State.get_raiseWindow _ _ _ (by unfold Obj.bandPathRms; omega)
    (reportKey_of_le (by unfold Obj.bandPathRms; omega))), State.bytesOf_congr (State.get_freshWindow ..),
    State.bytesOf_setResults_rms]

/-- The window that follows has the settings as they are, contains suppressed samples from the start exactly while the
path still settles, and DetectorWindow is pending (R331, R340, R343). -/
theorem State.latchWindow_path {s : State} {p : Fin 16} (h : p.val < s.paths.length) :
    ((s.latchWindow p.val pmax sum clipped).path p.val).window = s.windowOf p.val ∧
    ((s.latchWindow p.val pmax sum clipped).path p.val).suppressed = (s.get (Obj.bandPathSettling p.val) == 1) ∧
    ∃ i ∈ ((s.latchWindow p.val pmax sum clipped).path p.val).inputs, i.input = 0 := by
  rw [State.latchWindow_eq]
  generalize decide (2 ^ 48 ≤ sum) = overflow
  generalize min sum (2 ^ 48 - 1) = latched
  have results : p.val < (s.setResults p.val pmax latched overflow clipped).paths.length := by
    rwa [State.setResults_paths]
  obtain ⟨l, ended, raised⟩ := State.raiseWindow_path
    (s := (s.setResults p.val pmax latched overflow clipped).freshWindow p.val) overflow
    ((State.setPath_length ..).symm ▸ results)
  rw [ended, State.freshWindow, State.path_setPath_self _ results, ← s.settling_setResults p pmax latched overflow clipped,
    ← s.windowOf_setResults p pmax latched overflow clipped]
  exact ⟨rfl, rfl, raised⟩

end

end Sys2Proof.Machine

namespace Sys2Proof.Machine

open Sys2Proof

/-! ## DETECTOR_WINDOW_END (R331, R336 to R343, R352, R404, R417) -/

/-- What a valid level of an unmuted path leads to: the overpower trigger, or gains settled again. -/
def State.judgePower (s : State) (p : Nat) : State :=
  let r := s.watchPower p
  if r.2 then (r.1.fabEvent p 13).netTrigger 4 [p] else r.1.settleGains

/-- A window's results latched, and what they mean for the path. -/
def State.endWindow (s : State) (p pmax sum : Nat) (clipped : Bool) : State :=
  let u := s.latchWindow p pmax sum clipped
  if (fieldAt (u.bytesOf (Obj.bandPathRms p)) 12 1).testBit 0 && u.unmuted p then
    ((u.moveGains).noteLevel p ((s.path p).window % 2 == 1)
      (toSigned 2 (fieldAt (u.bytesOf (Obj.bandPathRms p)) 14 2))).judgePower p
  else u

theorem execDetectorWindowEnd_eq (p : Fin 16) (m : BitVec 32) (n : Nat) (c : Bool) (s : State) :
    execDetectorWindowEnd p m n c s = .next
      (s.when (s.running && s.power.pressReady && s.get Obj.clockSamplePllLocked == 1 && !s.conv.noWindow.contains p.val)
        (fun s => s.endWindow p.val m.toNat n c)) := rfl

section

variable {s : State} {p : Fin 16} {m : BitVec 32} {n : Nat} {c : Bool}

theorem exec_detectorWindowEnd_unlocked (unlocked : s.get Obj.clockSamplePllLocked ≠ 1) :
    exec (.detectorWindowEnd p m n c) s = .next s := by
  refine (execDetectorWindowEnd_eq p m n c s).trans ?_
  simp [beq_false_of_ne unlocked]

theorem exec_detectorWindowEnd_locked (runs : s.running = true) (ready : s.power.pressReady = true)
    (locked : s.get Obj.clockSamplePllLocked = 1) (started : p.val ∉ s.conv.noWindow) :
    exec (.detectorWindowEnd p m n c) s = .next (s.endWindow p.val m.toNat n c) :=
  (execDetectorWindowEnd_eq p m n c s).trans
    (congrArg Host.Outcome.next (State.when_of (by simp [runs, ready, locked, started]) s _))

variable (pmax : Nat)

/-- Valid says that the sum did not overflow and that no sample was suppressed (R331, R340). -/
theorem State.valid_latchWindow :
    (fieldAt ((s.latchWindow p.val pmax n c).bytesOf (Obj.bandPathRms p.val)) 12 1).testBit 0 =
      (!decide (2 ^ 48 ≤ n) && !(s.path p.val).suppressed) := by
  rw [State.bytesOf_latchWindow_rms, windowResult_flags (windowFlags_lt ..)]
  exact (windowFlags_bits ..).1

/-- Both results carry the flags of their window. -/
theorem State.flags_latchWindow : ∀ k ∈ [Obj.bandPathPeak p.val, Obj.bandPathRms p.val],
    fieldAt ((s.latchWindow p.val pmax n c).bytesOf k) 12 1 =
      windowFlags (decide (2 ^ 48 ≤ n)) (s.path p.val).suppressed c := by
  simp only [List.forall_mem_cons, List.not_mem_nil, false_imp_iff, implies_true, and_true]
  exact ⟨by rw [State.bytesOf_latchWindow_peak, windowResult_flags (windowFlags_lt ..)],
    by rw [State.bytesOf_latchWindow_rms, windowResult_flags (windowFlags_lt ..)]⟩

/-- Both results carry the same WindowSeq, the next one (R339). -/
theorem State.seq_latchWindow : ∀ k ∈ [Obj.bandPathPeak p.val, Obj.bandPathRms p.val],
    fieldAt ((s.latchWindow p.val pmax n c).bytesOf k) 8 4 = s.windowSeq p.val := by
  have bound : s.windowSeq p.val < 256 ^ 4 := Nat.mod_lt _ (by decide)
  simp only [List.forall_mem_cons, List.not_mem_nil, false_imp_iff, implies_true, and_true]
  exact ⟨by rw [State.bytesOf_latchWindow_peak, windowResult_seq bound],
    by rw [State.bytesOf_latchWindow_rms, windowResult_seq bound]⟩

theorem State.stabState_latchWindow : (s.latchWindow p.val pmax n c).get (Obj.stabState p.val) =
    s.get (Obj.stabState p.val) :=
  s.get_latchWindow p pmax n c (by unfold Obj.stabState; omega) (reportKey_stabState _)
    (by unfold Obj.stabState Obj.bandPathPeak; omega) (by unfold Obj.stabState Obj.bandPathRms; omega)

/-- An invalid result is no level. -/
theorem State.endWindow_suppressed (suppressed : (s.path p.val).suppressed = true) :
    s.endWindow p.val pmax n c = s.latchWindow p.val pmax n c :=
  if_neg (by rw [State.valid_latchWindow, suppressed]; simp)

/-- A result of a muted path is no level. -/
theorem State.endWindow_muted (muted : s.unmuted p.val = false) :
    s.endWindow p.val pmax n c = s.latchWindow p.val pmax n c :=
  if_neg (by rw [State.unmuted_congr (State.stabState_latchWindow pmax), muted]; simp)

/-- A valid result of an unmuted path is its level (R404). -/
theorem State.endWindow_level (clear : (s.path p.val).suppressed = false) (serves : s.unmuted p.val = true)
    (fits : n < 2 ^ 48) : s.endWindow p.val pmax n c =
      (((s.latchWindow p.val pmax n c).moveGains).noteLevel p.val ((s.path p.val).window % 2 == 1)
        (toSigned 2 (ofSigned 2 (levelOf n (2 ^ ((s.path p.val).window / 2)) true)))).judgePower p.val := by
  have valid : (!decide (2 ^ 48 ≤ n) && !(s.path p.val).suppressed) = true := by
    rw [clear, decide_eq_false (Nat.not_le.mpr fits)]
    rfl
  have whole : min n (2 ^ 48 - 1) = n := by omega
  have level : fieldAt ((s.latchWindow p.val pmax n c).bytesOf (Obj.bandPathRms p.val)) 14 2 =
      ofSigned 2 (levelOf n (2 ^ ((s.path p.val).window / 2)) true) := by
    rw [State.bytesOf_latchWindow_rms, windowResult_level, whole, valid]
  rw [State.endWindow, if_pos (by
    rw [State.valid_latchWindow, valid, State.unmuted_congr (State.stabState_latchWindow pmax), serves]; rfl), level]

end

/-! ## Suppression and the window in progress (R328, R331) -/

section

variable {s : State} {p : Nat}

/-- A path whose mark is kept by its replacement keeps it, whether or not the path exists. -/
theorem State.suppressed_setPath (q : Nat) (r : PathRun) (same : r.suppressed = (s.path q).suppressed) :
    ((s.setPath q r).path p).suppressed = (s.path p).suppressed := by
  by_cases e : p = q
  · subst e
    by_cases inRange : p < s.paths.length
    · rw [State.path_setPath_self r inRange, same]
    · simp [State.path, State.setPath, inRange]
  · simp [State.path, State.setPath, List.getElem?_set_ne (Ne.symm e)]

theorem State.suppressed_moveGain (q : Nat) : ((s.moveGain q).path p).suppressed = (s.path p).suppressed := by
  unfold State.moveGain
  split
  · have moved (r : PathRun) (same : r.suppressed = (s.path q).suppressed) :
        (((s.setI (Obj.stabApplied q) (s.gainNow q).1).setPath q r).path p).suppressed = (s.path p).suppressed :=
      State.suppressed_setPath q r same
    exact prop_ite (P := fun u : State => (u.path p).suppressed = (s.path p).suppressed) (moved _ rfl) (moved _ rfl)
  · rfl

/-- A hold that ends moves gains and path states alone. -/
theorem State.suppressed_endHold : (s.endHold.path p).suppressed = (s.path p).suppressed := by
  unfold State.endHold State.closeGates
  refine prop_ite (P := fun u : State => (u.path p).suppressed = (s.path p).suppressed) ?_ rfl
  refine prop_foldl (P := fun u : State => (u.path p).suppressed = (s.path p).suppressed) rfl (fun u q _ kept => ?_)
  exact prop_branch (P := fun u : State => (u.path p).suppressed = (s.path p).suppressed)
    (fun u => (u.moveGain q).set (Obj.stabState q) 5) ((State.suppressed_moveGain q).trans ·) kept

theorem State.startSettle_suppressed (h : p < s.paths.length) : ((s.startSettle p).path p).suppressed = true := by
  unfold State.startSettle
  refine prop_branch (P := fun u : State => (u.path p).suppressed = true) State.endHold
    (State.suppressed_endHold.trans ·) ?_
  have counted : p < ((s.bump (Obj.bandPathSettleEvents p) 1).set (Obj.bandPathSettling p) 1).paths.length := h
  rw [State.path_congr (State.arm_paths ..), State.path_setPath_self _ counted]

end

/-- Settles O33: suppression's mark, the flags of the results by that mark, and the mark of the window that follows. -/
theorem suppressedWindowsAreInvalid : Obligations.SuppressedWindowsAreInvalid := by
  unfold Obligations.SuppressedWindowsAreInvalid
  intro s p m n c len
  have inRange : p.val < s.paths.length := p.isLt.trans_eq len.symm
  refine ⟨State.startSettle_suppressed inRange, fun runs ready locked started marked => ?_, fun clear k hk => ?_⟩
  · obtain ⟨-, following, raised⟩ := State.latchWindow_path m.toNat n c inRange
    refine ⟨_, exec_detectorWindowEnd_locked runs ready locked started, ?_⟩
    rw [State.endWindow_suppressed _ marked]
    refine ⟨fun k hk => ?_, following, raised⟩
    obtain ⟨valid, -, suppressed, -⟩ := windowFlags_bits (decide (2 ^ 48 ≤ n)) (s.path p.val).suppressed c
    rw [State.flags_latchWindow _ k hk, valid, suppressed, marked]
    simp
  · obtain ⟨-, -, suppressed, -⟩ := windowFlags_bits (decide (2 ^ 48 ≤ n)) (s.path p.val).suppressed c
    rw [State.flags_latchWindow _ k hk, suppressed, clear]

/-- Settles O34: what a window latches on any path, and the level that a valid one of an unmuted path is besides. -/
theorem detectorWindows : Obligations.DetectorWindows := by
  unfold Obligations.DetectorWindows
  intro s p m n c len runs ready
  have inRange : p.val < s.paths.length := p.isLt.trans_eq len.symm
  refine ⟨exec_detectorWindowEnd_unlocked, fun locked started clear => ?_⟩
  have answer := exec_detectorWindowEnd_locked (m := m) (n := n) (c := c) runs ready locked started
  refine ⟨fun muted => ⟨_, answer, ?_⟩, fun serves fits => ?_⟩
  · obtain ⟨following, -, -⟩ := State.latchWindow_path m.toNat n c inRange
    obtain ⟨valid, overflow, -, clipped⟩ := windowFlags_bits (decide (2 ^ 48 ≤ n)) (s.path p.val).suppressed c
    rw [State.endWindow_muted _ muted]
    refine ⟨?_, ?_, fun k hk => ⟨?_, ?_, ?_, ?_⟩, following, State.stabState_latchWindow _⟩
    · rw [State.bytesOf_latchWindow_peak, windowResult_value (m.isLt.trans (by decide))]
    · rw [State.bytesOf_latchWindow_rms, windowResult_value (by omega)]
    · exact State.seq_latchWindow _ k hk
    · rw [State.flags_latchWindow _ k hk, valid, clear, Bool.not_false, Bool.and_true, ← decide_not]
      exact decide_eq_decide.mpr Nat.not_le
    · rw [State.flags_latchWindow _ k hk, overflow]
    · rw [State.flags_latchWindow _ k hk, clipped]
  · rw [State.endWindow_level _ clear serves fits] at answer
    refine ⟨fun v trigger => answer.trans ?_, fun v served => answer.trans ?_⟩
    · rw [State.judgePower, trigger, if_pos rfl]
    · rw [State.judgePower, served, if_neg Bool.false_ne_true]

end Sys2Proof.Machine

namespace Sys2Proof.Machine

open Sys2Proof

/-! ## FABRIC_POST (R346, R348) -/

/-- The lower-numbered of two pending inputs, the earlier one of equals. -/
def lowerInput (b : Option FabIn) (i : FabIn) : Option FabIn :=
  match b with
  | none => some i
  | some j => if i.input < j.input then some i else some j

theorem lowestInput_eq (l : List FabIn) : lowestInput l = l.foldl lowerInput none := rfl

/-- The input that remains is no higher than any that came by. -/
theorem foldl_lowerInput_le {l : List FabIn} {b : Option FabIn} {i : FabIn} (h : l.foldl lowerInput b = some i) :
    (∀ j ∈ b, i.input ≤ j.input) ∧ ∀ j ∈ l, i.input ≤ j.input := by
  induction l generalizing b with
  | nil =>
    refine ⟨fun j hj => ?_, fun j hj => absurd hj List.not_mem_nil⟩
    rw [Option.mem_def.mp hj, List.foldl_nil] at h
    exact (congrArg FabIn.input (Option.some.inj h)).ge
  | cons x l ih =>
    obtain ⟨lowest, rest⟩ := ih h
    cases b with
    | none => exact ⟨by simp, List.forall_mem_cons.mpr ⟨lowest x rfl, rest⟩⟩
    | some k =>
      have both : i.input ≤ x.input ∧ i.input ≤ k.input := by
        by_cases less : x.input < k.input
        · have := lowest x (if_pos less)
          omega
        · have := lowest k (if_neg less)
          omega
      exact ⟨by simpa using both.2, List.forall_mem_cons.mpr ⟨both.1, rest⟩⟩

theorem lowestInput_le {l : List FabIn} {i : FabIn} (h : lowestInput l = some i) : ∀ j ∈ l, i.input ≤ j.input :=
  (foldl_lowerInput_le ((lowestInput_eq l).symm.trans h)).2

/-- An input posted to its path's queue and cleared. -/
def State.postInput (s : State) (p : Nat) (i : FabIn) : State :=
  let s := s.post .fresh (0xC0 + p) 1 (.raw (s.fabMessage p i))
  let s := s.setPath p { s.path p with inputs := (s.path p).inputs.filter (fun j => j.input != i.input) }
  s.set (Obj.bandPathEventPending p) (clearBit (s.get (Obj.bandPathEventPending p)) i.input)

section

variable {s : State} {p : Nat} {i : FabIn}

theorem exec_fabricPost {p : Fin 16} (pending : lowestInput (s.path p.val).inputs = some i)
    (room : s.credits (0xC0 + p.val) ≠ 0) : exec (.fabricPost p) s = .next (s.postInput p.val i) := by
  show execFabricPost p s = _
  rw [execFabricPost, pending]
  exact congrArg Host.Outcome.next (if_neg room)

theorem State.msgs_postInput (room : s.credits (0xC0 + p) ≠ 0)
    (first : s.standsBehind (s.postAs .fresh) (0xC0 + p) = false) : (s.postInput p i).q.msgs =
      s.q.msgs ++ [⟨0xC0 + p, 1, false, 1, s.now, .raw (s.fabMessage p i)⟩] := by
  have placed : (s.post .fresh (0xC0 + p) 1 (.raw (s.fabMessage p i))).q.msgs =
      s.q.msgs ++ [s.newMsg (0xC0 + p) 1 (.raw (s.fabMessage p i))] := by
    rw [State.post_placed (Nat.one_le_iff_ne_zero.mpr room) first, State.msgs_place]
  exact placed

theorem State.inputs_postInput (h : p < s.paths.length) : ∀ j ∈ ((s.postInput p i).path p).inputs, j.input ≠ i.input := by
  intro j hj
  rw [State.postInput, State.path_set, State.path_setPath_self _ (by rwa [State.post_paths])] at hj
  simpa using (List.mem_filter.mp hj).2

theorem State.pending_postInput : ((s.postInput p i).get (Obj.bandPathEventPending p)).testBit i.input = false := by
  rw [State.postInput, State.get_set_self, testBit_clearBit_self]

end

end Sys2Proof.Machine

namespace Sys2Proof.Machine

open Sys2Proof

/-! ## The registers that time leaves alone -/

/-- A counter of time raised leaves every other register alone. -/
theorem State.get_counted (s : State) {c : Prop} [Decidable c] (j v : Nat) (f : Clocks → Clocks) {k : Nat} (other : k ≠ j) :
    (if c then { (s.bump j v) with time := f (s.bump j v).time } else s).get k = s.get k := by
  split
  · exact s.get_bump_ne j k v other
  · rfl

/-- While the unit runs, only the operating and the core seconds count. -/
theorem State.get_elapse_running {s : State} (runs : s.running = true) (n : Nat) {k : Nat}
    (op : k ≠ Obj.powerStateOperatingSeconds) (core : k ≠ Obj.powerStateCoreSeconds) : (s.elapse n).get k = s.get k := by
  have counts : s.power.state = .standby ∨ s.power.state = .active ∨ s.power.state = .service := by
    simpa [State.running, or_assoc] using runs
  unfold State.elapse
  dsimp only
  rw [if_neg (fun h => h.2 counts)]
  exact (State.get_counted _ _ _ (fun t => { t with coreFrac := _ }) core).trans
    (State.get_counted _ _ _ (fun t => { t with opFrac := _ }) op)

/-! ## The entries of a front-end sequence (R374 to R376) -/

/-- The entry at which a sequence stands. -/
def State.seqEntry (s : State) (r : FeRun) : Bytes := s.feEntry (s.seqWord r.seq % 256 + r.pos)

/-- The bits that a word of an entry's format has. -/
def wordMask (format : Nat) : Nat := 2 ^ (8 * (format % 4 + 1)) - 1

/-- A sequence gone on to its next entry. -/
def State.atNextEntry (s : State) (r : FeRun) : State := { s with fe.run := some { r with pos := r.pos + 1, since := s.now } }

/-- An entry's word sent. -/
def State.sendWord (s : State) (e : Bytes) : State :=
  { s with fe.sent := some (fieldAt e 0 1, fieldAt e 1 1 % 4, fieldAt e 4 4 &&& wordMask (fieldAt e 1 1)) }

@[simp] theorem State.atNextEntry_pins (s : State) (r : FeRun) : (s.atNextEntry r).pins = s.pins := rfl

@[simp] theorem State.sendWord_pins (s : State) (e : Bytes) : (s.sendWord e).pins = s.pins := rfl

/-- Whether the word that an entry reads back is not the one it expects (R375). -/
def mismatches (e : Bytes) (received : Nat) : Bool :=
  (fieldAt e 1 1).testBit 3 &&
    (received &&& wordMask (fieldAt e 1 1)) != (fieldAt e 8 4 &&& wordMask (fieldAt e 1 1))

section

variable {e : Bytes} {received : Nat}

theorem mismatches_of_agrees (agrees : (fieldAt e 1 1).testBit 3 = false ∨
    received &&& wordMask (fieldAt e 1 1) = fieldAt e 8 4 &&& wordMask (fieldAt e 1 1)) :
    ¬ mismatches e received = true := by
  rw [mismatches]
  rcases agrees with blind | equal
  · rw [blind, Bool.false_and]
    exact Bool.false_ne_true
  · rw [equal, bne_self_eq_false, Bool.and_false]
    exact Bool.false_ne_true

theorem mismatches_of_ne (compares : (fieldAt e 1 1).testBit 3 = true)
    (differs : received &&& wordMask (fieldAt e 1 1) ≠ fieldAt e 8 4 &&& wordMask (fieldAt e 1 1)) :
    mismatches e received = true := by
  rw [mismatches, compares, Bool.true_and, bne_iff_ne]
  exact differs

end

section

variable {s : State} {r : FeRun}

theorem State.nextEntry_of_lt (more : r.pos + 1 < s.seqCount r.seq) : s.nextEntry r = s.atNextEntry r := if_pos more

theorem State.playEntry_gpio {received : Nat} (lines : (fieldAt (s.seqEntry r) 1 1).testBit 2 = true) :
    s.playEntry r received =
      (s.driveGpio (fieldAt (s.seqEntry r) 6 2) (fieldAt (s.seqEntry r) 4 2)).nextEntry r := if_pos lines

theorem State.playEntry_spi {received : Nat} (word : (fieldAt (s.seqEntry r) 1 1).testBit 2 = false) :
    s.playEntry r received = if mismatches (s.seqEntry r) received then
      (s.sendWord (s.seqEntry r)).seqFailed r 1 0x1302 (u32 (s.seqWord r.seq % 256 + r.pos) ++
        u32 (received &&& wordMask (fieldAt (s.seqEntry r) 1 1)))
    else (s.sendWord (s.seqEntry r)).nextEntry r := if_neg (Bool.eq_false_iff.mp word)

theorem exec_feEntryDone {w : BitVec 32} (run : s.fe.run = some r) (entries : r.phase = .entries)
    (runs : s.running = true) (ready : s.power.pressReady = true) :
    exec (.feEntryDone w) s = .next ((s.entryWait r).playEntry r w.toNat) := by
  show execFeEntryDone w s = _
  rw [execFeEntryDone, run]
  exact congrArg Host.Outcome.next (if_pos ⟨entries, runs, ready⟩)

/-! ### The wait of an entry -/

theorem State.now_entryWait : (s.entryWait r).now = max s.now (r.since + fieldAt (s.seqEntry r) 2 2) := by
  have waited := s.elapse_now (r.since + fieldAt (s.seqEntry r) 2 2 - s.now)
  have same : s.entryWait r = s.elapse (r.since + fieldAt (s.seqEntry r) 2 2 - s.now) := rfl
  rw [same, waited]
  omega

theorem State.entryWait_pins : (s.entryWait r).pins = s.pins := (State.entryWait_fr s r rfl (Fr.refl 5 s)).pins rfl

variable (runs : s.running = true)

include runs

theorem State.get_entryWait {k : Nat} (h : 0x301000 ≤ k) : (s.entryWait r).get k = s.get k :=
  State.get_elapse_running runs _ (by unfold Obj.powerStateOperatingSeconds; omega)
    (by unfold Obj.powerStateCoreSeconds; omega)

theorem State.seqWord_entryWait (k : Nat) : (s.entryWait r).seqWord k = s.seqWord k := by
  simp only [State.seqWord, State.get_entryWait runs, Obj.frontEndSeqInit, Obj.frontEndSeqRetuneUL,
    Obj.frontEndSeqRetuneDL, Nat.reduceLeDiff]

theorem State.seqCount_entryWait (k : Nat) : (s.entryWait r).seqCount k = s.seqCount k := by
  rw [State.seqCount, State.seqWord_entryWait runs, State.seqCount]

theorem State.seqEntry_entryWait : (s.entryWait r).seqEntry r = s.seqEntry r := by
  rw [State.seqEntry, State.seqWord_entryWait runs]
  exact State.bytesOf_congr (State.get_entryWait runs (by unfold Obj.frontEndEntry; omega))

theorem State.driveGpio_entryWait (mask levels : Nat) :
    ((s.entryWait r).driveGpio mask levels).pins = (s.driveGpio mask levels).pins := by
  have outputs : (s.entryWait r).get Obj.frontEndGpioOut = s.get Obj.frontEndGpioOut :=
    State.get_entryWait runs (by decide)
  simp only [State.driveGpio, outputs, State.entryWait_pins]

end

/-! ### A sequence that fails (R390) -/

/-- The report of a failure: its flag on the sequence's paths and its record; a retune waits for its lock no longer. -/
def State.noteFailure (s : State) (k bit code : Nat) (payload : Bytes) : State :=
  let s := (s.seqPaths k).foldl (fun (s : State) p => s.flag (Obj.bandSticky p) bit) s
  let s := s.log .press code 2 31 payload
  if k = 1 then s else s.disarm (.lockTimeout (seqDir k))

/-- The one replay of a sequence awaited. -/
def State.awaitReplay (s : State) (k : Nat) : State :=
  ({ s with fe.run := some ⟨k, 0, .replay, true, s.now⟩ }).arm .feReplay 100000

section

variable {s : State} {r : FeRun} {bit code : Nat} {payload : Bytes}

theorem State.seqFailed_first (first : r.replayed = false) :
    s.seqFailed r bit code payload = (s.noteFailure r.seq bit code payload).awaitReplay r.seq := by
  rw [State.seqFailed, State.failSeq, first]
  rfl

/-- The report of a failure takes no time and moves no pin. -/
theorem State.noteFailure_reported (k : Nat) :
    (s.noteFailure k bit code payload).time = s.time ∧ (s.noteFailure k bit code payload).pins = s.pins := by
  have flagged := prop_foldl (P := fun u : State => u.time = s.time ∧ u.pins = s.pins)
    (f := fun (u : State) p => u.flag (Obj.bandSticky p) bit) (l := s.seqPaths k) ⟨rfl, rfl⟩
    (fun u p _ kept => by rwa [State.flag_time, State.flag_pins])
  have logged (u : State) (kept : u.time = s.time ∧ u.pins = s.pins) :
      (u.log .press code 2 31 payload).time = s.time ∧ (u.log .press code 2 31 payload).pins = s.pins := by
    rwa [State.log_time, State.log_pins]
  exact prop_ite (P := fun u : State => u.time = s.time ∧ u.pins = s.pins) (logged _ flagged) (logged _ flagged)

/-- The first failure of a sequence: its replay is due 100 ms later. -/
theorem State.seqFailed_replays (first : r.replayed = false) :
    (s.seqFailed r bit code payload).now = s.now ∧
    (s.seqFailed r bit code payload).fe.run = some ⟨r.seq, 0, .replay, true, s.now⟩ ∧
    (s.seqFailed r bit code payload).deadline .feReplay = some (s.now + 100000) ∧
    (s.seqFailed r bit code payload).pins = s.pins := by
  obtain ⟨time, pins⟩ := s.noteFailure_reported (bit := bit) (code := code) (payload := payload) r.seq
  have now : (s.noteFailure r.seq bit code payload).now = s.now := congrArg Clocks.nowUs time
  rw [State.seqFailed_first first, ← now, ← pins]
  exact ⟨rfl, rfl, State.deadline_arm_self .., rfl⟩

end

/-! ### An entry over (R374, R375, R390) -/

/-- A sequence that has gone on to its next entry, the wait of the entry before it over. -/
def State.WentOn (s : State) (r : FeRun) (t : State) : Prop :=
  t.fe.run = some { r with pos := r.pos + 1, since := t.now } ∧
    t.now = max s.now (r.since + fieldAt (s.seqEntry r) 2 2) ∧ t.dict = (s.entryWait r).dict

theorem State.wentOn_atNextEntry {s v : State} {r : FeRun} (now : v.now = (s.entryWait r).now)
    (dict : v.dict = (s.entryWait r).dict) : s.WentOn r (v.atNextEntry r) :=
  ⟨rfl, now.trans State.now_entryWait, dict⟩

section

variable {s : State} {r : FeRun} {w : BitVec 32}
  (run : s.fe.run = some r) (entries : r.phase = .entries) (runs : s.running = true) (ready : s.power.pressReady = true)

include run entries runs ready

theorem feEntryDone_drives (lines : (fieldAt (s.seqEntry r) 1 1).testBit 2 = true)
    (more : r.pos + 1 < s.seqCount r.seq) : Claims.Answers (.feEntryDone w) s (fun t => s.WentOn r t ∧
      t.pins = (s.driveGpio (fieldAt (s.seqEntry r) 6 2) (fieldAt (s.seqEntry r) 4 2)).pins) := by
  refine ⟨((s.entryWait r).driveGpio (fieldAt (s.seqEntry r) 6 2) (fieldAt (s.seqEntry r) 4 2)).atNextEntry r, ?_,
    State.wentOn_atNextEntry rfl rfl, State.driveGpio_entryWait runs _ _⟩
  have same : (s.entryWait r).seqEntry r = s.seqEntry r := State.seqEntry_entryWait runs
  rw [exec_feEntryDone run entries runs ready, State.playEntry_gpio (by rwa [same]), same]
  have further : r.pos + 1 < (s.entryWait r).seqCount r.seq := more.trans_eq (State.seqCount_entryWait runs _).symm
  exact congrArg Host.Outcome.next (State.nextEntry_of_lt further)

theorem feEntryDone_sends (word : (fieldAt (s.seqEntry r) 1 1).testBit 2 = false)
    (more : r.pos + 1 < s.seqCount r.seq) (agrees : (fieldAt (s.seqEntry r) 1 1).testBit 3 = false ∨
      w.toNat &&& wordMask (fieldAt (s.seqEntry r) 1 1) =
        fieldAt (s.seqEntry r) 8 4 &&& wordMask (fieldAt (s.seqEntry r) 1 1)) :
    Claims.Answers (.feEntryDone w) s (fun t => s.WentOn r t ∧ t.pins = s.pins ∧
      t.fe.sent = some (fieldAt (s.seqEntry r) 0 1, fieldAt (s.seqEntry r) 1 1 % 4,
        fieldAt (s.seqEntry r) 4 4 &&& wordMask (fieldAt (s.seqEntry r) 1 1))) := by
  refine ⟨((s.entryWait r).sendWord (s.seqEntry r)).atNextEntry r, ?_, State.wentOn_atNextEntry rfl rfl,
    by rw [State.atNextEntry_pins, State.sendWord_pins, State.entryWait_pins], rfl⟩
  have same : (s.entryWait r).seqEntry r = s.seqEntry r := State.seqEntry_entryWait runs
  rw [exec_feEntryDone run entries runs ready, State.playEntry_spi (by rwa [same]), same,
    if_neg (mismatches_of_agrees agrees)]
  have further : r.pos + 1 < (s.entryWait r).seqCount r.seq := more.trans_eq (State.seqCount_entryWait runs _).symm
  exact congrArg Host.Outcome.next (State.nextEntry_of_lt further)

theorem feEntryDone_fails (word : (fieldAt (s.seqEntry r) 1 1).testBit 2 = false)
    (compares : (fieldAt (s.seqEntry r) 1 1).testBit 3 = true)
    (differs : w.toNat &&& wordMask (fieldAt (s.seqEntry r) 1 1) ≠
      fieldAt (s.seqEntry r) 8 4 &&& wordMask (fieldAt (s.seqEntry r) 1 1)) (first : r.replayed = false) :
    Claims.Answers (.feEntryDone w) s (fun t => t.fe.run = some ⟨r.seq, 0, .replay, true, t.now⟩ ∧
      t.deadline .feReplay = some (t.now + 100000) ∧
      t.now = max s.now (r.since + fieldAt (s.seqEntry r) 2 2) ∧ t.pins = s.pins) := by
  have same : (s.entryWait r).seqEntry r = s.seqEntry r := State.seqEntry_entryWait runs
  have answer := exec_feEntryDone (w := w) run entries runs ready
  rw [State.playEntry_spi (by rwa [same]), same, if_pos (mismatches_of_ne compares differs)] at answer
  obtain ⟨now, replay, deadline, pins⟩ := State.seqFailed_replays (s := (s.entryWait r).sendWord (s.seqEntry r)) first
  exact ⟨_, answer, now ▸ replay, now ▸ deadline, now.trans State.now_entryWait,
    pins.trans ((State.sendWord_pins ..).trans State.entryWait_pins)⟩

end

/-! ## LOCK_POLL, LOCK_TIMEOUT and FE_SEQUENCE_REPLAY (R378, R390) -/

section

variable {s : State} {d : Dir} {r : FeRun} {x : Nat}

theorem exec_lockPoll_high (awaits : s.awaitsLock d = true) (line : s.lockLine d ≠ 0xFF) :
    exec (.lockPoll d true) s = .next (s.lockSeen d) :=
  congrArg Host.Outcome.next (State.when_of (by simp [awaits, line]) s _)

theorem exec_lockPoll_low : exec (.lockPoll d false) s = .next s := by
  show Host.Outcome.next (s.when (s.awaitsLock d && s.lockLine d != 0xFF && false) _) = _
  rw [Bool.and_false, State.when_false]

/-- The registers of the front end are no counters of time. -/
theorem State.get_expired_frontEnd (s : State) (T : TimerId) (x : Nat) {k : Nat} (h : 0x301000 ≤ k ∧ k < 0x302000) :
    (Claims.expired s T x).get k = s.get k :=
  s.get_expired T x k (by unfold Obj.powerStateOperatingSeconds; omega) (by unfold Obj.powerStateCoreSeconds; omega)
    (by unfold Obj.energyUncountedSeconds; omega)

theorem State.lockLine_expired (T : TimerId) : (Claims.expired s T x).lockLine d = s.lockLine d := by
  cases d with
  | ul => exact s.get_expired_frontEnd T x (by decide)
  | dl => exact s.get_expired_frontEnd T x (by decide)

theorem State.seqCount_expired (T : TimerId) (k : Nat) : (Claims.expired s T x).seqCount k = s.seqCount k := by
  have word : (Claims.expired s T x).seqWord k = s.seqWord k := by
    unfold State.seqWord
    rw [s.get_expired_frontEnd T x (by decide), s.get_expired_frontEnd T x (by decide),
      s.get_expired_frontEnd T x (by decide)]
  rw [State.seqCount, word, State.seqCount]

theorem State.awaitsLock_congr {t : State} (h : t.fe = s.fe) : t.awaitsLock d = s.awaitsLock d := by
  unfold State.awaitsLock
  rw [h]

theorem exec_lockTimeout (due : s.deadline (.lockTimeout d) = some x) (run : s.fe.run = some r)
    (awaits : s.awaitsLock d = true) : exec (.lockTimeout d) s = .next (
      if s.lockLine d = 0xFF then (Claims.expired s (.lockTimeout d) x).lockSeen d
      else (Claims.expired s (.lockTimeout d) x).seqFailed r 0 0x1301 (u32 (dirNum d) ++ u32 r.seq ++ u32 0)) := by
  have fe : (Claims.expired s (.lockTimeout d) x).fe = s.fe := (expired_fr s _ x).fe rfl
  refine congrArg Host.Outcome.next ((State.onTimer_of_deadline _ due).trans ?_)
  rw [fe, run, State.awaitsLock_congr fe, awaits, State.lockLine_expired]
  rfl

theorem State.get_startSeq (s : State) (k : Nat) (replayed : Bool) :
    (s.startSeq k replayed).get Obj.frontEndState = k := s.get_set_self Obj.frontEndState k

theorem exec_feSequenceReplay (due : s.deadline .feReplay = some x) (run : s.fe.run = some r)
    (failed : r.phase = .replay) (entries : s.seqCount r.seq ≠ 0) :
    exec .feSequenceReplay s = .next ((Claims.expired s .feReplay x).startSeq r.seq true) := by
  refine congrArg Host.Outcome.next ((State.onTimer_of_deadline _ due).trans ?_)
  rw [(expired_fr s _ x).fe rfl, run]
  exact (if_neg (not_not_intro failed)).trans (if_neg (by rwa [State.seqCount_expired]))

end

/-- Settles O36: the fabric's post, an entry's ways to end, and the ends of a lock's wait and of a replay's. -/
theorem fabricAndFrontEnd : Obligations.FabricAndFrontEnd := by
  unfold Obligations.FabricAndFrontEnd
  intro s
  refine ⟨fun p i len pending room => ?post, fun r w run entries runs ready => ?entry,
    fun d awaits line => ⟨exec_lockPoll_high awaits line, exec_lockPoll_low⟩,
    fun d x r due run awaits => ⟨fun absent => ?noLine, fun line first => ?failed⟩,
    fun x r due run failed entries => ⟨_, exec_feSequenceReplay due run failed entries, rfl, State.get_startSeq ..⟩⟩
  case post =>
    exact ⟨_, exec_fabricPost pending room, State.msgs_postInput room,
      State.inputs_postInput (p.isLt.trans_eq len.symm), lowestInput_le pending, State.pending_postInput⟩
  case noLine => rw [exec_lockTimeout due run awaits, if_pos absent]
  case failed =>
    refine ⟨_, (exec_lockTimeout due run awaits).trans (congrArg Host.Outcome.next (if_neg line)), ?_⟩
    obtain ⟨now, replay, deadline, pins⟩ := State.seqFailed_replays (s := Claims.expired s (.lockTimeout d) x)
      (bit := 0) (code := 0x1301) (payload := u32 (dirNum d) ++ u32 r.seq ++ u32 0) first
    exact ⟨now ▸ replay, (State.armed_iff ..).mpr ⟨_, deadline⟩, pins.trans ((expired_fr s _ x).pins rfl)⟩
  case entry =>
    exact ⟨feEntryDone_drives run entries runs ready, feEntryDone_sends run entries runs ready,
      feEntryDone_fails run entries runs ready⟩

end Sys2Proof.Machine
